-- ==== Sys2Proof/Word.lean ====
section
/-! DEFINITION. The words of the device and its units of time (00_scope, Numbers and units; Time). -/

namespace Sys2Proof

/-- One byte; the first bit sent is its most significant bit (00_scope, Numbers and units). -/
abbrev Byte := BitVec 8

/-- One dictionary word (R317). -/
abbrev Word := BitVec 32

/-- The value of one object, right-justified: one, two or three words (R317). -/
abbrev Val := BitVec 96

/-- One connection entry (R147). -/
abbrev Entry := BitVec 64

/-- An instant or a duration in units of 2^-26 ns, the internal resolution of R15. -/
abbrev Tick := Nat

/-- Ticks in one nanosecond (R15). -/
abbrev ns : Nat := 67108864

/-- Ticks in one microsecond. -/
abbrev us : Nat := 67108864000

/-- Ticks in one millisecond. -/
abbrev ms : Nat := 67108864000000

/-- Ticks in one second. -/
abbrev sec : Nat := 67108864000000000

/-- Ticks in one frame of 125 µs (R7). -/
abbrev frame : Nat := 8388608000000

/-- The lanes of the device (00_scope, Lanes and slots). -/
abbrev numLanes : Nat := 96

/-- The slots of the device: 96 lanes of 1,024 (R9). -/
abbrev numSlots : Nat := 98304

end Sys2Proof
end

