-- ==== Sys2Proof/Syntax.lean ====
section
/-! DEFINITION. The commands of the block: one constructor per row of spec/opcode_table.json, in its order, and the
operands they carry. Every command carries `t`, the instant at which it occurs (log 1): elapsed ticks of the time by
which R446 measures durations. Received frames stand as the symbols of their line; records and messages stand as
their fields (log 6); quantities that the device measures in the analog world are operands (log 7). -/

namespace Sys2Proof

/-- How a Folla message reaches the device (R330): a MAC, the SPI host port, or the designated DCC. -/
inductive Transport where
  | eth (mac : Nat)
  | spi
  | dcc
  deriving DecidableEq, Repr

/-- Where a message comes from: transport, peer address on Ethernet (0 otherwise), the 802.1Q tag of R345, and the address
it was sent to (R353; 0 otherwise). -/
structure Src where
  transport : Transport
  peer : Nat
  vlan : Option Nat
  own : Nat
  deriving DecidableEq, Repr

/-- The header of a Folla message (R324) but for its type, with what the receiver judges of the whole message:
`lengthOk` (LENGTH at most 1,400 and in agreement with the size) and `trailerOk` (CRC-32C, or the GCM tag of R340). -/
structure Head where
  version : Nat
  response : Bool
  sealed : Bool
  retry : Bool
  session : Nat
  seq : Nat
  keyEpoch : Nat
  lengthOk : Bool
  trailerOk : Bool
  deriving DecidableEq, Repr

/-- One op record of an ACCESS body (R326): op 0 READ, 1 WRITE, 2 READ_STAGED. -/
structure Op where
  obj : Nat
  op : Nat
  restart : Bool
  n : Nat
  data : List Word
  deriving DecidableEq, Repr

/-- A Folla request by its type and body (R325); malformed where the body is shorter than the type needs. -/
inductive Req where
  | opn (part : Nat) (auth events : Bool) (idle : Nat) (nonce : List Byte)
  | close
  | keepalive
  | access (ops : List Op)
  | commit (fn : Nat) (dryRun : Bool)
  | abort
  | cancel (txn : Nat)
  | claim (obj scope lease : Nat)
  | renew (obj scope lease : Nat)
  | release (obj scope : Nat)
  | eventAck (seq : Nat)
  | event
  | reserved (type : Nat)
  | malformed (type : Nat)
  deriving DecidableEq, Repr

/-- One slot of a frame on a TTF line (R58): status SS, parity SB, byte SR, and the 783 payload bytes. -/
structure SlotCell where
  s : Nat
  ss : Nat
  sb : Byte
  sr : Nat
  payload : List Byte
  deriving DecidableEq, Repr

/-- The fields of one TTF frame (R58). Slots not listed carry SS 0x02 and payload 0x00. -/
structure TtfFrame where
  tsz : Nat
  mfc : Nat
  srcTag : Nat
  srcLane : Nat
  bip : Byte
  remErr : Nat
  rdi : Bool
  rdiCause : Nat
  aps : List Byte
  gcc : List Byte
  txTime : BitVec 96
  echoTime : BitVec 96
  turnaround : Nat
  echoMfc : Nat
  echoValid : Bool
  echoSkipped : Bool
  clockClass : Nat
  steps : Nat
  timeRoot : Bool
  timeStepped : Bool
  galleryEpoch : Nat
  digest : Nat
  slots : List SlotCell
  deriving DecidableEq, Repr

/-- A TTF frame as the slicer gives it (R56, R74, R75): `line`, its symbols from the first of FAW on, one frame of them (bits
on NRZ sizes, PAM4 levels on TTF-1024), and `prior`, the symbol before them; the position of the first in the receiver's
count of symbols, modulo a frame (R103); the arrival of its FAW at the ball (R45, ticks of DTS); and whether the
cross-connect was still reading the landing frame before this one when R181 asks (log 66). -/
structure TtfRx where
  line : List Nat
  prior : Nat
  pos : Nat
  arrival : Tick
  behind : Bool
  deriving DecidableEq, Repr

/-- A received SDH frame as the slicer gives it (R83): its bits from the first of A1 on, one frame of them, the position of
the first in the receiver's count of bits, modulo a frame (R103), and the arrival of that bit at the ball. -/
structure SdhRx where
  line : List Nat
  pos : Nat
  arrival : Tick
  deriving DecidableEq, Repr

/-- What a receiver measured of its eye in the latest 125 µs, for FRAME_BOUNDARY (R445): the eye margin, and the first DFE tap and the
CTLE code that its adaptation has reached. -/
structure EyeRead where
  lane : Nat
  eye : Byte
  dfe1 : Byte
  ctle : BitVec 5
  deriving DecidableEq, Repr

/-- The symbols that a lane's receiver sliced in the latest 125 µs, with the one before them, for its pattern checker (R51). -/
structure Stream where
  lane : Nat
  prior : Nat
  line : List Nat
  deriving DecidableEq, Repr

/-- The defects and acceptances that a count of consecutive frames decides (R109, R78, R95, R116, R143). -/
inductive Persist where
  | aisL | rdiL | ttfRdi
  | slotRdi (s : Nat)
  | tag | laneId | digest | size
  | c2 (s : Nat)
  | g1 (s : Nat)
  | gais | ghl | gmis
  deriving DecidableEq, Repr

/-- One SF or SD detector (R111): of the line, or of the path at first slot s. -/
inductive SfSd where
  | sf | sd
  | sfP (s : Nat)
  | sdP (s : Nat)
  deriving DecidableEq, Repr

/-- The fields of R71. -/
inductive AccField where
  | clockClass | steps | epoch | digest
  deriving DecidableEq, Repr

/-- The traces of R87 and R95. -/
inductive TraceSite where
  | j0
  | j1 (s : Nat)
  deriving DecidableEq, Repr

/-- The counter sets with CLEAR and SNAPSHOT (R48). -/
inductive CounterSet where
  | fec (lane : Nat)
  | sdh (lane : Nat)
  | group (lane : Nat)
  | landing (lane : Nat)
  | ledger (lane : Nat)
  | mac (m : Nat)
  | engine (e : Nat)
  deriving DecidableEq, Repr

/-- A staged write: of an object, or of one word of a window array. -/
structure Wr where
  o : Nat
  idx : Option Nat
  v : Val
  deriving DecidableEq, Repr

/-- The typed body items of a tandem record (R158, R264; log 6): a staged entry, or that none is staged any more; one write of
a transaction, and the transaction they make, with the staged entries where `entries`; a cancellation; a value of the state that
the pair shares, by its key; the beginning of a resync's copy, one copied object or word of one, one copied entry, and the end. -/
inductive BodyItem where
  | stageClear
  | stage (g : Nat) (e : Entry)
  | write (id : Nat) (w : Wr)
  | txn (id sess fn : Nat) (entries : Bool)
  | cancel (id : Nat)
  | share (key value : Nat)
  | copyStart
  | copied (w : Wr)
  | entry (g : Nat) (e : Entry)
  | resyncEnd
  deriving DecidableEq, Repr

/-- The role field of a tandem record (R264). -/
inductive Role where
  | solo | active | standby | waiting
  deriving DecidableEq, Repr

/-- A tandem record by its fields (R264), its last four bytes and its arrival instants (R265). -/
structure TandemRec where
  fn : Nat
  role : Role
  seatB : Bool
  ready : Bool
  inhibit : Bool
  resyncReq : Bool
  rver : Nat
  fwVersion : Nat
  digest : Nat
  txTime : BitVec 96
  echoTime : BitVec 96
  turnaround : Nat
  serial : Nat
  body : List BodyItem
  crc : Nat
  arrival : Tick
  lastAt : Tick
  deriving DecidableEq, Repr

/-- The flags byte shared by ring heads and messages (R273). -/
structure RingFlags where
  muted : Bool
  root : Bool
  joining : Bool
  quarantined : Bool
  seat : Nat
  deriving DecidableEq, Repr

/-- A ring head by its fields (R273). `timeError` is none when unknown. -/
structure RingHead where
  fn : Nat
  flags : RingFlags
  hver : Nat
  txTime : BitVec 96
  echoTime : BitVec 96
  turnaround : Nat
  echoMfc : Nat
  echoValid : Bool
  echoSkipped : Bool
  clockClass : Nat
  steps : Nat
  timeError : Option Int
  epoch : Nat
  crc : Nat
  arrival : Tick
  deriving DecidableEq, Repr

/-- A ring message by its fields (R273), with the arrivals of its first and last bit (R275). -/
structure RingMsg where
  originFn : Nat
  flags : RingFlags
  type : Nat
  hops : Nat
  tag : Nat
  epoch : Nat
  fwVersion : Nat
  digest : Nat
  gxId : Nat
  gxFn : Nat
  gxCode : Nat
  roster : BitVec 16
  nextEpoch : Nat
  epochFn : Nat
  gxLast : Nat
  crc : Nat
  firstAt : Tick
  lastAt : Tick
  deriving DecidableEq, Repr

/-- A received Ethernet frame (R352): addresses, the 802.1Q tags before the Ethertype, the bytes after it, its size
from destination address through FCS, and what the receiver judged. -/
structure EthFrame where
  dst : Nat
  src : Nat
  tags : List Nat
  ethertype : Nat
  payload : List Byte
  size : Nat
  codeErr : Bool
  fcsOk : Bool
  deriving DecidableEq, Repr

/-- A fault as raised (R382, R385). `standby` tells, for cause 0x08, an entry of the standby page (R160). -/
structure FaultIn where
  cause : Nat
  subsystem : Nat
  inst : Nat
  detail : Nat
  standby : Bool
  deriving DecidableEq, Repr

/-- A firmware image (R415): identity fields, version, digest, signature, body. -/
structure Image where
  identity : Nat
  version : Nat
  digest : List Byte
  signature : List Byte
  body : List Byte
  deriving DecidableEq, Repr

/-- The straps (R429). -/
structure Straps where
  tseat : Bool
  bootSel : Bool
  macSel : Bool
  deriving DecidableEq, Repr

/-- The latest edge of an external input, captured on DTS (R15, R221), for FRAME_BOUNDARY. -/
structure Capture where
  input : Nat
  edge : Tick
  deriving DecidableEq, Repr

/-- What the device captured and measured in the frame period that ends, for FRAME_BOUNDARY. -/
structure FrameSeen where
  edges : List Capture := []
  eyes : List EyeRead := []
  streams : List Stream := []
  deriving DecidableEq, Repr

/-- What external equipment puts on a DCC data input (R299): a whole HDLC frame with its FCS result, or bytes. -/
inductive DccIn where
  | hdlc (content : List Byte) (fcsOk : Bool)
  | raw (bytes : List Byte)
  deriving DecidableEq, Repr

/-- What a hardware claim request asks (R389). -/
inductive HwAsk where
  | acquire | release
  deriving DecidableEq, Repr

/-- The commands: one constructor per row of spec/opcode_table.json. `n` is the session whose op a host access is. -/
inductive Instr where
  | openMsg (t : Tick) (src : Src) (h : Head) (part : Nat) (auth events : Bool) (idle : Nat) (nonce : List Byte)
  | closeMsg (t : Tick) (src : Src) (h : Head)
  | keepaliveMsg (t : Tick) (src : Src) (h : Head)
  | accessMsg (t : Tick) (src : Src) (h : Head) (ops : List Op)
  | commitMsg (t : Tick) (src : Src) (h : Head) (fn : Nat)
  | dryRunMsg (t : Tick) (src : Src) (h : Head) (fn : Nat)
  | abortMsg (t : Tick) (src : Src) (h : Head)
  | cancelMsg (t : Tick) (src : Src) (h : Head) (txn : Nat)
  | claimMsg (t : Tick) (src : Src) (h : Head) (obj scope lease : Nat)
  | renewMsg (t : Tick) (src : Src) (h : Head) (obj scope lease : Nat)
  | releaseMsg (t : Tick) (src : Src) (h : Head) (obj scope : Nat)
  | eventAckMsg (t : Tick) (src : Src) (h : Head) (seq : Nat)
  | eventSend (t : Tick) (n : Nat)
  | eventRetransmit (t : Tick) (n seq : Nat)
  | intEnWrite (t : Tick) (n obj : Nat) (v : Word)
  | seqHoldTimeout (t : Tick) (n seq : Nat)
  | sessionIdleExpiry (t : Tick) (n : Nat)
  | leaseExpiry (t : Tick) (obj scope : Nat)
  | sessionControlClose (t : Tick) (n target : Nat)
  | follaConfigWrite (t : Tick) (n : Nat) (v : Word)
  | writeMsg (t : Tick) (bytes : List Byte)
  | readMsg (t : Tick) (clocked : Nat)
  | readStatus (t : Tick)
  | transactionApply (t : Tick) (id : Nat)
  | xcCopyComplete (t : Tick)
  | frameBoundary (t : Tick) (seen : FrameSeen)
  | ttfFrameReceive (t : Tick) (lane : Nat) (rx : TtfRx)
  | sdhFrameReceive (t : Tick) (lane : Nat) (rx : SdhRx)
  | clientBlockReceive (t : Tick) (lane : Nat) (sync : BitVec 2) (payload : BitVec 64)
  | landingFrameReady (t : Tick) (l : Nat)
  | slotComplete (t : Tick) (lane fn s : Nat)
  | egressFrameRelease (t : Tick) (lane fn : Nat)
  | egressFrameComplete (t : Tick) (lane fn : Nat)
  | bayPllLock (t : Tick) (bay : Nat)
  | txReady (t : Tick) (lane : Nat) (pinDelay : Word)
  | sigDetChange (t : Tick) (lane : Nat) (present : Bool)
  | cdrLock (t : Tick) (lane : Nat) (offset : Int)
  | cdrLockLoss (t : Tick) (lane : Nat)
  | adaptationComplete (t : Tick) (lane : Nat) (pinDelay : Word) (eye dfe1 : Byte) (ctle : BitVec 5)
  | eqDiscardTimeout (t : Tick) (lane : Nat)
  | bringUpTimeout (t : Tick) (lane : Nat)
  | losDeclare (t : Tick) (lane : Nat)
  | losClear (t : Tick) (lane : Nat)
  | lofDeclare (t : Tick) (lane : Nat)
  | lofClear (t : Tick) (lane : Nat)
  | loblDeclare (t : Tick) (lane : Nat)
  | loblClear (t : Tick) (lane : Nat)
  | defectPersistence (t : Tick) (lane : Nat) (d : Persist)
  | sfSdDeclare (t : Tick) (lane : Nat) (d : SfSd)
  | sfSdWindowEnd (t : Tick) (lane : Nat) (d : SfSd)
  | fieldAcceptance (t : Tick) (lane : Nat) (f : AccField)
  | traceAcceptance (t : Tick) (lane : Nat) (site : TraceSite)
  | s1Acceptance (t : Tick) (lane : Nat)
  | ltdClear (t : Tick) (lane : Nat)
  | stepAccept (t : Tick) (lane : Nat)
  | ledgerReseedTimeout (t : Tick) (lane : Nat)
  | actLost (t : Tick) (input : Nat)
  | actReturn (t : Tick) (input : Nat)
  | freqGateEnd (t : Tick) (cand : Nat) (offset : Int)
  | candWtrExpiry (t : Tick) (cand : Nat)
  | lockTimeReached (t : Tick)
  | pullComplete (t : Tick)
  | holdoverExpiry (t : Tick)
  | watchdog (t : Tick)
  | softCw (t : Tick) (n : Nat) (cw : BitVec 64)
  | dtsSecondBoundary (t : Tick)
  | rampEnd (t : Tick) (out : Nat) (delta : Int)
  | glideDone (t : Tick) (out : Nat)
  | outputResume (t : Tick) (out : Nat)
  | ppsPulse (t : Tick) (p : Nat)
  | apsAcceptance (t : Tick) (g : Nat)
  | holdOffExpiry (t : Tick) (g : Nat) (prot degrade : Bool)
  | apsWtrExpiry (t : Tick) (g : Nat)
  | fopChange (t : Tick) (g : Nat) (arch : Bool)
  | pathHoldOffExpiry (t : Tick) (lane s : Nat)
  | pathWtrExpiry (t : Tick) (lane s : Nat)
  | tandemRecord (t : Tick) (port : Nat) (r : TandemRec)
  | tandemRecordSend (t : Tick)
  | holdPinChange (t : Tick) (high : Bool)
  | takeover (t : Tick)
  | standbyWaitExpiry (t : Tick)
  | recordLossTimeout (t : Tick)
  | resyncComplete (t : Tick)
  | relinquish (t : Tick) (n : Nat)
  | autoRelinquish (t : Tick)
  | takeoverForce (t : Tick) (n : Nat)
  | ringHead (t : Tick) (port : Nat) (h : RingHead)
  | ringMessage (t : Tick) (port : Nat) (m : RingMsg)
  | ringHeadSend (t : Tick)
  | ringWindowSend (t : Tick) (window : Nat)
  | seatAbsence (t : Tick) (seat : Nat)
  | rosterRemoval (t : Tick) (seat : Nat)
  | epochAdoption (t : Tick)
  | gxGoDecision (t : Tick)
  | timeErrorUnknown (t : Tick)
  | unmute (t : Tick)
  | ringRelearn (t : Tick) (n : Nat)
  | gxCatchup (t : Tick) (n : Nat)
  | gxDiscard (t : Tick) (n : Nat)
  | extWindow (t : Tick) (n lane c : Nat)
  | insWindow (t : Tick) (n lane c : Nat) (tag data : Word)
  | flushExt (t : Tick) (n lane c : Nat)
  | flushIns (t : Tick) (n lane c : Nat)
  | dccClockLoss (t : Tick) (pair : Nat)
  | tcaLog (t : Tick) (n : Nat)
  | pmReadSel (t : Tick) (n : Nat) (v : BitVec 64)
  | xcWindowStart (t : Tick) (n : Nat) (g : Word)
  | historyInfo (t : Tick) (n : Nat)
  | historyClear (t : Tick) (n : Nat)
  | clear (t : Tick) (n : Nat) (set : CounterSet)
  | snapshot (t : Tick) (n : Nat) (set : CounterSet)
  | freeze (t : Tick) (n engine : Nat) (on : Bool)
  | reseed (t : Tick) (n lane : Nat)
  | injectBip (t : Tick) (n lane : Nat)
  | injectB1 (t : Tick) (n lane : Nat)
  | injectB2 (t : Tick) (n lane : Nat)
  | errInject (t : Tick) (n lane : Nat)
  | rcRead (t : Tick) (n obj : Nat)
  | w1cWrite (t : Tick) (n obj : Nat) (v : Word)
  | registerWrite (t : Tick) (n obj : Nat) (data : List Word)
  | macFrameReceive (t : Tick) (m : Nat) (f : EthFrame)
  | pauseExpiry (t : Tick) (m : Nat)
  | pauseWdExpiry (t : Tick) (m : Nat)
  | pauseIgnoredClear (t : Tick) (m : Nat)
  | pauseRepeat (t : Tick) (m : Nat)
  | macTransmitStart (t : Tick) (m : Nat)
  | linkDown (t : Tick) (m : Nat)
  | linkUp (t : Tick) (m speed : Nat)
  | addrKWrite (t : Tick) (n m k : Nat) (v : BitVec 64)
  | wakeFrame (t : Tick) (m : Nat) (f : EthFrame)
  | faultRaise (t : Tick) (f : FaultIn)
  | fatalFault (t : Tick) (f : FaultIn)
  | fatalRecordWritten (t : Tick)
  | pairBInService (t : Tick)
  | faultAck (t : Tick) (n : Nat) (record : Word)
  | faultDeclare (t : Tick) (n : Nat) (party : Word)
  | faultInfo (t : Tick) (n : Nat)
  | reinit (t : Tick) (n subsystem inst : Nat)
  | reinitComplete (t : Tick) (subsystem inst : Nat)
  | reinitTimeout (t : Tick) (subsystem inst : Nat)
  | deviceReset (t : Tick) (n : Nat) (key : Word)
  | scrubPeriodEnd (t : Tick) (allReached : Bool)
  | dmaAddr (t : Tick) (n : Nat) (v : BitVec 64)
  | dmaWindow (t : Tick) (n : Nat) (write : Option Word)
  | cvuConfig (t : Tick) (n u : Nat) (v : Word)
  | cvuData (t : Tick) (n u : Nat) (w : Word)
  | cvuByte (t : Tick) (n u : Nat) (b : Byte)
  | start (t : Tick) (n u : Nat)
  | cvuRunComplete (t : Tick) (u : Nat) (uncorr : Bool)
  | tempSample (t : Tick) (temps : List Int)
  | railTelemetryRead (t : Tick) (readings : List (Nat × Nat × Nat))
  | fwImage (t : Tick) (n : Nat) (w : Word)
  | verify (t : Tick) (n : Nat)
  | fwVerifyComplete (t : Tick) (flashOk : Bool)
  | activate (t : Tick) (n : Nat)
  | keyImport (t : Tick) (n : Nat) (item : List Word)
  | sessionRekey (t : Tick) (n : Nat) (nonce : List Word)
  | wipe (t : Tick) (n : Nat) (key : Word)
  | wipeComplete (t : Tick)
  | tamperEvent (t : Tick) (input : Nat) (level : Bool)
  | entropyFail (t : Tick)
  | vddAonGood (t : Tick) (straps : Straps) (flash : Option (List Image))
  | railInRange (t : Tick) (rail : Nat)
  | railTimeout (t : Tick) (rail : Nat)
  | flywheelAbsent (t : Tick)
  | tempoStart (t : Tick)
  | vaultReady (t : Tick)
  | slotVerified (t : Tick)
  | enginesLoaded (t : Tick)
  | startupComplete (t : Tick)
  | resetNAssert (t : Tick) (width : Nat)
  | resetNRelease (t : Tick)
  | powerCycle (t : Tick)
  | vddAonBrownout (t : Tick)
  | upinConfig (t : Tick) (n pin : Nat) (v : Word)
  | upinChangeEffect (t : Tick) (pin : Nat)
  | parkEnd (t : Tick) (pin : Nat)
  | patternCheckerLock (t : Tick) (lane : Nat) (locked : Bool)
  | dccPortReceive (t : Tick) (port : Nat) (d : DccIn)
  | dccPortSend (t : Tick) (port : Nat)
  | dccClockReturn (t : Tick) (pair : Nat)
  | bankClearComplete (t : Tick) (bank : Nat)
  | pcCounterWrap (t : Tick) (engine k : Nat)
  | pcThresholdReached (t : Tick) (engine k : Nat)
  | hwClaimRequest (t : Tick) (owner gen key : Nat) (ask : HwAsk)
  deriving DecidableEq, Repr

end Sys2Proof
end

