-- ==== Sys2Proof/Config.lean ====
section
/-! DEFINITION. What one device or its environment fixes and the spec leaves open: uninterpreted constants.
Each is named in a log entry; nothing in Lean can see a value of it. -/

namespace Sys2Proof.Config

/-- DESIGN CHOICE (log 9), safe. A free value: what the spec leaves open, drawn by State.free. -/
opaque freeValue : Nat → BitVec 96

/-- DESIGN CHOICE (log 9), safe. The control word that the type-2 loop of R220 gives in ACQUIRE and LOCKED: the spec
names its bandwidths and not its equations. Two's complement, 2^-48. -/
opaque loopWord : Nat → BitVec 64

/-- DESIGN CHOICE (log 10), safe. A byte of a bank whose layout the spec does not give (R364). -/
opaque bankByte : Nat → Byte

/-- DESIGN CHOICE (log 70), safe. Bytes that the spec leaves open on a line: before the first SPE of a slot, after one that did
not come, and the parities that cover a frame never sent; by slot × 1024 + place. -/
opaque lineByte : Nat → Byte

/-- DESIGN CHOICE (log 71), safe. SSPRQ of IEEE 802.3 clause 120 (R51), which the spec names and does not give: PAM4 level by place. -/
opaque ssprq : Nat → Nat

/-- The fused serial number, 17.000.004 DEVICE_SERIAL (R425; log 12). -/
opaque deviceSerial : BitVec 64

/-- DESIGN CHOICE (log 8), safe. AES-256-GCM sealing of R340: key, 12-byte nonce, header, body to ciphertext and tag. -/
opaque gcmSeal : List Byte → List Byte → List Byte → List Byte → List Byte

/-- DESIGN CHOICE (log 8), safe. AES-256-GCM opening of R340: key, nonce, header, ciphertext with tag to body; none
where the tag fails. -/
opaque gcmOpen : List Byte → List Byte → List Byte → List Byte → Option (List Byte)

/-- DESIGN CHOICE (log 8), safe. HMAC-SHA-384 of R419: key and text to 48 bytes. -/
opaque hmacSha384 : List Byte → List Byte → List Byte

/-- DESIGN CHOICE (log 8), safe. SHA-384 of an image body (R415). -/
opaque sha384 : List Byte → List Byte

/-- DESIGN CHOICE (log 8), safe. AES-KW of R418 and R420: wrapping key and wrapped words to the key; none where the
wrap fails to verify. -/
opaque aesKwUnwrap : List Byte → List (BitVec 32) → Option (List Byte)

/-- DESIGN CHOICE (log 8), safe. ECDSA P-384 under the ROM key over the SHA-384 of the text (R415). -/
opaque ecdsaVerify : List Byte → List Byte → Bool

/-- DESIGN CHOICE (log 8), safe. Whether a return authorisation is a valid signature over DEVICE_SERIAL and the
WIPE_COUNT given (R420). -/
opaque returnAuthorised : Nat → List (BitVec 32) → Bool

/-- DESIGN CHOICE (log 8), safe. A 32-byte random value of the vault's generator (R414, R419), drawn by State.free. -/
opaque nonce : Nat → List Byte

/-- DESIGN CHOICE (log 8), safe. The keys that the words of LIFECYCLE_DATA carry under the device transport key, by slot
(R420): the spec gives no layout of its items. None where an item fails to verify. -/
opaque carriedKeys : List (BitVec 32) → Option (List (Nat × List Byte))

/-- DESIGN CHOICE (log 8), safe. Fields of an image's 256-byte header, whose layout R415 does not give: the word that PART,
VARIANT and REVISION form, FW_VERSION, the body length, the digest; and the signature, from the whole image. -/
opaque imageIdentity : List Byte → Nat
opaque imageVersion : List Byte → Nat
opaque imageLength : List Byte → Nat
opaque imageDigest : List Byte → List Byte
opaque imageSignature : List Byte → List Byte

end Sys2Proof.Config
end

