-- ==== Sys2Proof/Machine/State.lean ====
section
/-! DEFINITION. The state of the device: the objects of the dictionary, and the state behind them that the spec's
chapters name. Plain data throughout. -/

namespace Sys2Proof.Machine

/-- Why the machine stops with a fault. The device's own faults (R382) are effects on State, so nothing raises one:
the type has no constructor. -/
inductive Fault where
  deriving DecidableEq, Repr

/-- Why a command has no meaning. -/
inductive Refusal where
  /-- Raised by an arm of exec that has no meaning yet. Safe. -/
  | notModelled (mnemonic : String)
  /-- Raised by every command whose operand names a unit that the device does not have: a lane above 95, an output
  above 7. The environment cannot give such a command (log 3). Safe. -/
  | noSuchUnit (what : String)
  deriving DecidableEq, Repr

/-- Sparse data by key: keys strictly rising, no entry equal to what an unlisted key reads as (Dict.wf). -/
abbrev Map (α : Type) := List (Nat × α)

/-- LANE_STATE (R40). -/
inductive LaneState where
  | off | powering | acquiring | adapting | up | fault
  deriving DecidableEq, Repr

/-- The states of the start-up sequence (R426, R430), by what comes next. -/
inductive Startup where
  /-- VDD_AON is absent. -/
  | off
  /-- Step k of the rail order is enabled and not yet in range. -/
  | rail (k : Nat)
  /-- VDD_PLL is in range and the flywheel is being checked. -/
  | flywheel
  /-- Vault self-tests and entropy start-up run. -/
  | vault
  /-- The flash slot `slot` is being verified; `second` after the marked slot failed. -/
  | verifying (slot : Nat) (second : Bool)
  /-- No image: only the boot service of R416 runs. -/
  | bootService
  /-- The image is verified and the engines are loading. -/
  | loading
  /-- Engines run; the dictionary server is about to accept Folla. -/
  | serving
  /-- Start-up is complete (R432). -/
  | done
  /-- A rail failed (R426), or the device is fatal (R387): only the latch and the fatal record remain. -/
  | stopped
  /-- In DORMANT: only the always-on island runs (R402). -/
  | dormant
  deriving DecidableEq, Repr

/-- Status of a slot's content inside the device (R64, R148). -/
inductive SlotStatus where
  | pass | ais | unequipped | late | test
  deriving DecidableEq, Repr

/-- The content of one slot for one frame (R16): its status and its 783 payload bytes. -/
structure Cell where
  st : SlotStatus
  payload : List Byte
  deriving DecidableEq, Repr

/-- One landing frame of a lane (R172 to R174): its number, its slots (an unlisted slot is unequipped), whether it is
AIS whole (R119), the instant it became complete (the discard, where it is absent), whether it stays absent (R181), the
instant the frame's FAW arrived, the ledger's out-of-window mark (R205), the instants of J1 and of the SPE's last byte by
first slot (R176, R205), the paths under SF_P when it began (R166), and the output slots that have read it (R181). -/
structure Landing where
  l : Nat
  slots : List (Nat × Cell) := []
  ais : Bool := false
  complete : Option Tick := none
  absent : Bool := false
  /-- R181: received bytes of its own fill the landing window. -/
  wrote : Bool := false
  arrival : Tick := 0
  /-- R205: f of R194, in 0.001 ppm, at the reception of the TTF frame that it holds; none where it holds none. -/
  freq : Option Int := none
  outOfWindow : Bool := false
  spe : List (Nat × Tick × Tick) := []
  sfp : List Nat := []
  reads : List (Nat × Tick) := []
  /-- R247: the group's choice at r(L): on the working lane that the protection lane is read, on the protection lane that it
  carries working traffic. -/
  aps : Option Bool := none
  /-- R305: slots whose check reported a violation, or a far-end error, with this frame. -/
  errs : List Nat := []
  far : List Nat := []
  deriving DecidableEq, Repr

/-- A justification generator of an output path (R92): its source slot, the place that it held against DTS, the units moved so
far, and the egress frame of the last move. -/
structure Justify where
  source : Nat := 0
  place : Option Int := none
  moved : Int := 0
  last : Option Nat := none
  deriving DecidableEq, Repr

/-- A frame released with slots not complete (R179, R180): its number, its release instant, the slots that are out, and
the lowest slack so far. -/
structure LateFrame where
  fn : Nat
  at_ : Tick
  slots : List Nat
  slack : Int
  deriving DecidableEq, Repr

/-- R8, R132, R169, R183, R185: what egress frames before `fn` still go by: release offset in ns, lag, the CADENCE bit,
the values that changed objects had, and those of written words, by object and index. -/
structure RelOld where
  fn : Nat
  offset : Nat
  lag : Nat
  cadence : Bool
  objs : List (Nat × Val)
  words : List (Nat × Nat × Word)
  deriving DecidableEq, Repr

/-- The slot checker of TEST_CHECK_CTRL (R150, R161): the bits last received (newest lowest) or, with code 3, the value of byte
0 of the frame; the errored flags of the last 64 bytes (newest first), and the error-free bytes in a row. -/
structure SlotCheck where
  reg : Nat := 0
  errs : List Bool := []
  good : Nat := 0
  deriving DecidableEq, Repr

/-- A 64b/66b block: its control flag and its payload (R136). -/
structure Block where
  ctl : Bool
  bits : BitVec 64
  deriving DecidableEq, Repr

/-- One output slot held in the release store (R179): its egress frame, its instant of completion, its content. -/
structure StoreCell where
  fn : Nat
  s : Nat
  done : Tick
  cell : Cell
  deriving DecidableEq, Repr

/-- The parities of a TTF frame, for the check against the frame after it (R61): its section, and the slots that carried data. -/
structure TtfParity where
  section_ : Byte
  slots : List (Nat × Byte)
  deriving DecidableEq, Repr

/-- The parities of an SDH frame (R85): B1, and the 3N bytes of B2. -/
structure SdhParity where
  b1 : Byte
  b2 : List Byte
  deriving DecidableEq, Repr

/-- What a slot of an SDH frame holds besides H1 and H2: its payload bytes of rows 1 to 3, H3, and those of rows 4 to 9. -/
structure SlotColumns where
  before : List Byte
  h3 : Byte
  after : List Byte
  deriving DecidableEq, Repr

/-- A path's SPE being received (R133): whether its start is known and how many bytes come before it; its bytes by member,
newest first; the instant of J1; the parity of the SPE before it (R95). -/
structure SpeAsm where
  on : Bool := false
  skip : Nat := 0
  cols : List (List Byte) := []
  j1At : Tick := 0
  b3 : Option Byte := none
  deriving DecidableEq, Repr

/-- An SDH frame as sent (R83, R92 to R95): overhead bytes, pointer and content of every slot of a path, and the columns of every
slot. -/
structure SdhTx where
  j0 : Byte
  b1 : Byte
  b2 : List Byte
  k1 : BitVec 8
  k2 : BitVec 8
  s1 : Nat
  reiL : Nat
  e1 : Byte
  f1 : Byte
  e2 : Byte
  sdcc : List Byte
  ldcc : List Byte
  overlay : BitVec 16
  aisL : Bool
  slots : List (Nat × BitVec 16 × Cell)
  columns : List (Nat × SlotColumns)
  deriving DecidableEq, Repr

/-- The latest frame of a lane's transmitter: its number, the instant its first bit left (R178), its content by role, its
symbols (R75) and the one before them, those of the fill before it and how many of the frame before were sent (R182), whether
the balls are silent (R49), and by how much its clock is off nominal, in 0.001 ppm (R38). -/
structure TxFrame where
  fn : Nat
  at_ : Tick
  squelched : Bool := false
  ttf : Option TtfFrame := none
  sdh : Option SdhTx := none
  client : List Block := []
  line : List Nat := []
  prior : Nat := 0
  fill : List Nat := []
  cut : Option Nat := none
  offset : Int := 0
  deriving DecidableEq, Repr

/-- A run of consecutive frames that agree: the value they carry and how many there were. -/
structure Run where
  value : Nat
  count : Nat
  deriving DecidableEq, Repr

/-- A window of SF or SD (R112): frames passed and events counted. -/
structure Window where
  frames : Nat
  count : Nat
  deriving DecidableEq, Repr

/-- A pointer interpreter (R89, R90): state 0 NORM, 1 AIS, 2 LOP as PI_STATE reads it, 3 the initial state before the
first of them (R132, log 16); its accepted value and runs. `stable` counts the frames since the accepted value last
changed. -/
structure Pointer where
  state : Nat := 3
  value : Nat := 0
  aisRun : Nat := 0
  badRun : Nat := 0
  ndfRun : Nat := 0
  newValue : Nat := 0
  newRun : Nat := 0
  stable : Nat := 0
  deriving DecidableEq, Repr

/-- The frame last received whose arrival may be echoed (R67). -/
structure EchoFrom where
  arrival : Tick
  txTime : BitVec 96
  mfc : Nat
  usable : Bool
  deriving DecidableEq, Repr

/-- The ledger of one lane, ring port or tandem link (R193 to R203): the two filters (n, y in ticks), the kept TX_TIMEs
by FN mod 256, the frames that may be echoed, the run of out-of-window deviations with the app of its last frame, the
run of in-window frames, the instant of the last frame received in frame, the RESEED asked for, and the counts of the
running second (R208). -/
structure Ledger where
  rttN : Nat := 0
  rttY : Int := 0
  appN : Nat := 0
  appY : Int := 0
  sent : Map (BitVec 96) := []
  heard : List EchoFrom := []
  devs : List Int := []
  devApp : Int := 0
  inRun : Nat := 0
  lastIn : Option Tick := none
  reseedAsked : Bool := false
  secUsed : Nat := 0
  secOow : Nat := 0
  secExcl : Nat := 0
  secStep : Nat := 0
  secReseed : Nat := 0
  deriving DecidableEq, Repr

/-- One overlay word received (R98): the word, its frame's arrival, and whether nothing of R197 but the echo spoke against a sample
when it came. -/
structure OvWord where
  word : BitVec 16
  at_ : Tick
  fit : Bool
  deriving DecidableEq, Repr

/-- Reception of the SDH ledger overlay (R98 to R100): the words of the multiframe being received and of the one before
it, newest first; the arrival of frame 0 of the running one, none before the first MFS; and whether that frame came without
its MFS. -/
structure Overlay where
  words : List OvWord := []
  prev : List OvWord := []
  start : Option Tick := none
  bad : Bool := false
  deriving DecidableEq, Repr

/-- Behind the objects of one lane. -/
structure Lane where
  /-- Since when SIG_DET or CDR_LOCK has been 0 (R106). -/
  lossSince : Option Tick := none
  /-- Since when LANE_STATE has been UP (R106). -/
  upSince : Option Tick := none
  /-- R106: in service. -/
  inService : Bool := false
  /-- R107: end of the summed step times of the bring-up or re-tune that runs. -/
  bringUpEnd : Option Tick := none
  /-- R41: when lock was lost with the equaliser values kept. -/
  eqKeptSince : Option Tick := none
  /-- R169: directions still in a non-atomic transition. -/
  rxMoving : Bool := false
  txMoving : Bool := false
  /-- R55: DTS of TX_READY; frames whose boundary precedes it are discarded. -/
  txFrom : Option Tick := none
  /-- R103, R104: the alignment machine and the OOF timer. -/
  inFrame : Bool := false
  badWords : Nat := 0
  candidate : Option (Nat × Tick) := none
  framePos : Nat := 0
  oofHeld : Tick := 0
  oofSince : Option Tick := none
  inSince : Option Tick := none
  /-- R105: block lock. -/
  blockLock : Bool := false
  goodHdrs : Nat := 0
  winHdrs : Nat := 0
  winBad : Nat := 0
  lockGone : Option Tick := none
  lockHeld : Option Tick := none
  hbCount : Nat := 0
  hbGood : Nat := 0
  /-- Runs of R71, R78, R88, R95, R109, R116, R143, by kind and slot. -/
  runs : Map Run := []
  /-- R87: trace messages being gathered, and the last whole message with its run. -/
  gather : Map (List Byte) := []
  message : Map (List Byte × Nat) := []
  /-- R109: slots with slot RDI in force. R119: DTS at which a line defect that calls for AIS last cleared. -/
  slotRdi : List Nat := []
  aisUntil : Option Tick := none
  /-- R255: since when SD_P is in force, by first slot. -/
  pathSd : Map Tick := []
  /-- R112: windows of line and path SF and SD. -/
  windows : Map Window := []
  /-- R89: one interpreter per first slot. -/
  pointers : Map Pointer := []
  overlay : Overlay := {}
  /-- R61, R85: the parities of the frame before, where it was received in frame; R133: SPEs being received, by first slot. -/
  rxTtf : Option TtfParity := none
  rxSdh : Option SdhParity := none
  spes : Map SpeAsm := []
  /-- R119: DTS at which a path defect that calls for AIS last cleared, by first slot. -/
  pathAisUntil : Map Tick := []
  /-- R172 to R175: landing frames held, newest first; the next landing frame, none while the sequence is broken. -/
  landings : List Landing := []
  nextL : Option Nat := none
  /-- R135: blocks of the landing frame being mapped, newest first, with the arrival of the first; R138: PCHK of the
  last mapped frame; whether lock was absent for part of the frame. -/
  mapping : List Block := []
  mapFirst : Nat := 0
  mapPchk : BitVec 16 := 0
  mapNoLock : Bool := false
  mapHiBer : Bool := false
  mapL : Option Nat := none
  mapErr : Bool := false
  /-- R179: output slots waiting for their release. -/
  store : List StoreCell := []
  /-- The last egress frame that left, the instant it ends on the line (R182), and the number last released, sent or not. -/
  lastTx : Option TxFrame := none
  txEnd : Option Tick := none
  lastRel : Option Nat := none
  /-- R62, R86: violations and codewords not yet reported back; R95 by path. -/
  repBip : Nat := 0
  repCw : Nat := 0
  repSlot : Map Nat := []
  repB2 : Nat := 0
  repPath : Map Nat := []
  /-- Inversions asked for, for the next frame, and bits of the generated pattern to invert. -/
  injectBip : Bool := false
  injectB1 : Bool := false
  injectB2 : Bool := false
  injectErr : Nat := 0
  /-- R85: parities of the SDH frame last sent; R92: bytes of output slots on their way to the line. R75: the symbol sent last. -/
  txSdh : Option SdhParity := none
  txRest : Map (List Byte) := []
  txPrior : Nat := 0
  /-- R49: the frame sent before lastTx, and the client blocks that a local loopback has yet to receive. -/
  prevTx : Option TxFrame := none
  loop : List Block := []
  /-- R51: the pattern generator's place in its pattern, and the checker's, none until it has taken it from the line. -/
  genReg : Nat := 0
  chkReg : Option Nat := none
  /-- R141, R142: transmit queue of the demapper, its base SEQ, and the PCHK over the last usable frame. -/
  txQueue : List Block := []
  baseSeq : Option Nat := none
  demapPchk : Option (BitVec 16) := none
  /-- R66, R77, R109: what the last received frame carried. -/
  ledger : Ledger := {}
  /-- R122, R250: since when line SF and SD are in force. -/
  sfSince : Option Tick := none
  sdSince : Option Tick := none
  /-- R150: pattern generators by output slot; R92: justification by first output slot; R167: the
  sources chosen for the latest egress frames, by first output slot and frame (frame, protect); R166: paths under SF_P when the
  landing frame began; R180: the last frame that left with slots not complete. -/
  prbs : Map Nat := []
  justify : Map Justify := []
  picks : Map (Nat × Bool) := []
  sfpNow : List Nat := []
  late : Option LateFrame := none
  /-- R98, R99: the slow channel being sent, the one that describes the running multiframe, the index last echoed
  and the one echoed before it. -/
  ovSlow : List Byte := []
  ovNext : List Byte := []
  ovEcho : Option Nat := none
  ovBefore : Option Nat := none
  /-- R169: the frame at which the lane last began a re-tune or a bring-up that a transaction asked for. -/
  changedAt : Option Nat := none
  /-- Settings of the frames before the latest changes, newest change first. -/
  relOld : List RelOld := []
  deriving DecidableEq, Repr

/-- Behind the objects of one reference candidate (R212 to R214, R221). -/
structure Cand where
  active : Bool := false
  accepted : Bool := false
  wasQualified : Bool := false
  wtrFrom : Option Tick := none
  edge : Option Tick := none
  /-- R212: since when edges have come one after another within REJECT of the nominal period, and when the last gate ended. -/
  edgeRun : Option Tick := none
  gateAt : Option Tick := none
  /-- R221: what e was when the candidate was selected, for build-out. -/
  buildOut : Int := 0
  deriving DecidableEq, Repr

/-- One history sample (R224): the stored 31-bit value and VALID. -/
structure Sample where
  valid : Bool
  value : Int
  deriving DecidableEq, Repr

/-- The timing engine behind its objects (R220 to R230). -/
structure Timing where
  /-- Since when the lock criteria hold. -/
  lockSince : Option Tick := none
  /-- When the pull that runs brings e to 0 at the slope of R241, and whether DTS runs fast by it. -/
  pullEnd : Tick := 0
  pullFast : Bool := false
  /-- R220: LOCK_TIME has passed; the boundary that follows takes the loop to LOCKED. R226: the watchdog has expired, and FW_VALUE
  stays as it is until the loop's state changes. -/
  lockDue : Bool := false
  fwHeld : Bool := false
  /-- When FREEWHEEL was entered; whether ACQUIRE was entered from LOCKED or from freewheel within HOLDOVER_TIME. -/
  freewheelFrom : Option Tick := none
  acquireWarm : Bool := false
  /-- Last write of SOFT_CW (R226). -/
  softCwAt : Tick := 0
  /-- The instant of the last TIME_SET (R69). -/
  stepAt : Option Tick := none
  /-- History, newest first (R224); the control word of the running second times the ticks it held, how many ticks, and up to which
  instant of DTS; and whether HISTORY_BASE is taken. -/
  history : List Sample := []
  cwSum : Int := 0
  cwSpan : Nat := 0
  cwAt : Tick := 0
  secSpoilt : Bool := true
  baseSet : Bool := false
  /-- One more than the DTS frame, and the second, whose boundaries were handled last. -/
  lastFrame : Nat := 0
  lastSecond : Nat := 0
  deriving DecidableEq, Repr

/-- Behind the objects of one clock output (R235 to R242). -/
structure Out where
  /-- Frequency in force, numerator and denominator; while a ramp runs, the one that it started from. -/
  num : Nat := 100000000
  den : Nat := 1
  /-- R236, R237: the stage of the glide that runs, 1 ramp, 2 alignment, 0 none; its target; R238: the held target. -/
  stage : Nat := 0
  goal : Nat × Nat := (100000000, 1)
  held : Option (Nat × Nat) := none
  /-- When the running stage began and when it ends, and what the alignment had to remove at its start. -/
  began : Tick := 0
  stageEnd : Tick := 0
  delta : Int := 0
  /-- R240: how far the clamp has put the output behind its grid, in ticks, and since when its period has been stretched, by how much
  of itself, in 10^-14. -/
  lag : Int := 0
  clamp : Option (Tick × Nat) := none
  /-- R235, R239: the output is squelched, and from when its last falling edge has come at the latest; something keeps it squelched;
  it resumes at this DTS at the earliest. -/
  squelched : Bool := true
  lowFrom : Tick := 0
  blocked : Bool := true
  quietTo : Option Tick := none
  deriving DecidableEq, Repr

/-- A pulse output (R243): the instant of its last active edge, as State.now counts, plus 1 (0 before the first); the width of that
pulse; and the instant of DTS from which the settings in force count. -/
structure Pulse where
  at_ : Tick := 0
  width : Tick := 0
  since : Tick := 0
  deriving DecidableEq, Repr

/-- Behind the objects of one APS group (R248 to R253). -/
structure Aps where
  farRun : Run := ⟨0, 0⟩
  farArch : Bool := false
  farBidir : Bool := false
  badCode : Bool := false
  /-- A value of the far end has been accepted (R248, R253). -/
  heard : Bool := false
  /-- Hold-off of signal fail and degrade of the working and the protection lane has run out. -/
  sfWork : Bool := false
  sfProt : Bool := false
  sdWork : Bool := false
  sdProt : Bool := false
  wtrFrom : Option Tick := none
  /-- R250: the failure of a non-revertive group's working lane has cleared while protection is selected. -/
  dnr : Bool := false
  disagreeSince : Option Tick := none
  agreeSince : Option Tick := none
  archOffSince : Option Tick := none
  archOkSince : Option Tick := none
  deriving DecidableEq, Repr

/-- Behind the path protection of one first output slot (R255): when its wait-to-restore began. -/
structure PathProt where
  wtrFrom : Option Tick := none
  deriving DecidableEq, Repr

/-- What an active has sent its standby (R158, R264, R266; log 6): the staged entries, how many writes of each transaction, the
transactions with their frames, the shared values; what is left of a resync's copy, the digest of the state it copies, and the
frame of its end. -/
structure TandemOut where
  stage : Map Entry := []
  writes : Map Nat := []
  txns : Map Nat := []
  shares : Map Nat := []
  copy : List BodyItem := []
  copying : Option Nat := none
  copyEnd : Option Nat := none
  deriving DecidableEq, Repr

/-- What a standby has heard of its active: the staged entries, the writes of transactions still to come, the transactions it
knows with their frames, the shared values, and a resync's copy as far as it has come. -/
structure TandemIn where
  stage : Map Entry := []
  writes : Map (List Wr) := []
  txns : Map Nat := []
  shares : Map Nat := []
  copy : Option (List BodyItem) := none
  deriving DecidableEq, Repr

/-- Tandem operation behind its objects (R257 to R269). -/
structure Tandem where
  /-- TANDEM_HOLD_N: level of the net as seen, and whether this device drives it low. -/
  pinHigh : Bool := true
  driving : Bool := false
  releasedAt : Option Tick := none
  waitFrom : Option Tick := none
  /-- The latest good record of the peer, the boundary it applies at, and since when none came. -/
  peer : Option TandemRec := none
  missing : Nat := 0
  gotFn : Option Nat := none
  synced : Bool := false
  wantResync : Bool := false
  relinquishAt : Option Nat := none
  /-- R269: a TAKEOVER_FORCE in force, by DTS. -/
  force : Option Tick := none
  /-- Links' ledger (R262); the boundary of the latest good copy on T0, and a good copy of T1 that serves where T0's does not
  come. -/
  ledger : Ledger := {}
  t0Fn : Option Nat := none
  late : Option TandemRec := none
  out : TandemOut := {}
  heard : TandemIn := {}
  /-- The record last sent, and the ports it was sent on (R265, R14). -/
  sent : Option TandemRec := none
  sentOn : List Nat := []
  deriving DecidableEq, Repr

/-- The latest accepted message of a seat and the frame and port it came on (R275). -/
structure SeatMsg where
  msg : RingMsg
  frame : Nat
  port : Nat
  deriving DecidableEq, Repr

/-- A ring port (R274): consecutive accepted heads, the hop's ledger, the neighbour's last head; the CLOCK_CLASS and STEPS accepted
from it under R71 (R215), with their runs. -/
structure RingPort where
  cls : Nat := 0xFF
  steps : Nat := 255
  clsRun : Run := ⟨0, 0⟩
  stepsRun : Run := ⟨0, 0⟩
  heads : Nat := 0
  head : Option RingHead := none
  ledger : Ledger := {}
  lastFrame : Nat := 0
  deriving DecidableEq, Repr

/-- Gallery operation behind its objects (R271 to R285). -/
structure Gallery where
  east : RingPort := {}
  west : RingPort := {}
  /-- R275: the message used of each seat, with the frame in which one was last accepted; what each port may relay, by
  port × 16 + seat. -/
  seats : Map SeatMsg := []
  relay : Map SeatMsg := []
  /-- The root's epoch announcement accepted or made: epoch, its frame, and whether this seat is in its roster. -/
  nextEpoch : Option (Nat × Nat) := none
  inNextRoster : Bool := false
  /-- R271: since which frame this device has been root. -/
  rootSince : Nat := 0
  /-- R277: own (frame, epoch, digest, version) of the last 256 frames as a member; root messages accepted and not yet
  compared; the latest origin taken. -/
  own : List (Nat × Nat × Nat × Nat) := []
  compare : List RingMsg := []
  comparedFn : Option Nat := none
  agreeRun : Nat := 0
  unknownRun : Nat := 0
  quietRun : Nat := 0
  relearned : Bool := false
  /-- GO (2) or ABORT (3) accepted or issued for the coordinated transaction. -/
  gxSeen : Nat := 0
  /-- R285: the frame of a GX_CATCHUP that the root's GX_LAST agreed with. -/
  catchup : Option Nat := none
  /-- Heads last sent, by port, and messages last sent, by port × 16 + window. -/
  sentHeads : Map RingHead := []
  sentMsgs : Map RingMsg := []
  deriving DecidableEq, Repr

/-- One item of an overhead queue (R288). -/
structure Item where
  tag : Word
  data : Word
  deriving DecidableEq, Repr

/-- One overhead channel of one lane (R290 to R298): its queues, oldest first, gap markers among the items; the bits of
an HDLC frame being received; the position in the frame being sent. -/
structure Chan where
  ext : List Item := []
  ins : List Item := []
  /-- HDLC reception: bits gathered since the last flag, first bit first; whether inside a frame. -/
  hunting : Bool := true
  bits : List Bool := []
  /-- HDLC transmission: bits waiting to be sent, and after how many of them a frame has been sent whole. -/
  outBits : List Bool := []
  ends : List Nat := []
  /-- Whether a frame has been started whose END is still in the queue; its content so far, and the ones sent in a row. -/
  unfinished : Bool := false
  content : List Byte := []
  ones : Nat := 0
  /-- An unterminated insert frame's content bytes so far (R297). -/
  openLen : Nat := 0
  /-- Folla frames of R302 waiting ahead of the next frame. -/
  mgmt : List (List Byte) := []
  deriving DecidableEq, Repr

/-- A bin of performance monitoring (R310, R314): start, whether complete or suspect, seconds counted, the eight
counts, and the sums of R313. -/
structure Bin where
  start : Nat
  complete : Bool := false
  suspect : Bool := false
  seconds : Nat := 0
  counts : List Nat := [0, 0, 0, 0, 0, 0, 0, 0]
  cwCorr : Nat := 0
  cwUncorr : Nat := 0
  maxSym : Nat := 0
  rttMin : Option Int := none
  rttMax : Option Int := none
  oow : Nat := 0
  excl : Nat := 0
  steps : Nat := 0
  reseeds : Nat := 0
  deriving DecidableEq, Repr

/-- What one second of a point gathers (R305, R306, R313). -/
structure PmSecond where
  second : Nat := 0
  monitored : Bool := true
  /-- R311: a commit or a step within the second made the bins that hold it suspect. -/
  suspect : Bool := false
  nearEb : Nat := 0
  nearD : Bool := false
  farEb : Nat := 0
  farD : Bool := false
  cwCorr : Nat := 0
  cwUncorr : Nat := 0
  sym : Nat := 0
  rtt : Option Int := none
  oow : Nat := 0
  excl : Nat := 0
  steps : Nat := 0
  reseeds : Nat := 0
  deriving DecidableEq, Repr

/-- A monitored point (R304 to R312). -/
structure Point where
  now : PmSecond := {}
  /-- What was gathered of the second after it before its boundary was handled. -/
  next : Option PmSecond := none
  /-- Seconds formed and not yet classified, newest first (R308). -/
  waiting : List PmSecond := []
  nearAvail : Bool := true
  farAvail : Bool := true
  quarter : Option Bin := none
  day : Option Bin := none
  quarters : List Bin := []
  days : List Bin := []
  deriving DecidableEq, Repr

/-- A frame in a MAC transmit queue (R354): destination, tag, and the Folla message's bytes. -/
structure TxEth where
  dst : Nat
  vlan : Option Nat
  bytes : List Byte
  deriving DecidableEq, Repr

/-- Behind the objects of one MAC (R352 to R358). -/
structure Mac where
  /-- R352: frames the receive buffer holds, oldest first. -/
  rx : List EthFrame := []
  queues : Map (List TxEth) := []
  /-- R356: the pause that runs ends here; R357: since when paused; last non-zero pause frame. -/
  pauseEnd : Option Tick := none
  pausedSince : Option Tick := none
  lastPause : Option Tick := none
  /-- R358: pause frames of its own waiting to be sent, quanta oldest first; when the last was sent. -/
  ownPause : List Nat := []
  ownPauseAt : Tick := 0
  ownPaused : Bool := false
  /-- What the MAC last started to send: a frame, or a pause frame's quanta. -/
  wire : Option TxEth := none
  wirePause : Option Nat := none
  wireEnd : Tick := 0
  deriving DecidableEq, Repr

/-- A fault record (R385) by its fields. -/
structure FaultRec where
  record : Nat
  cls : Nat
  cause : Nat
  subsystem : Nat
  inst : Nat
  merges : Nat
  gen : Nat
  step : Nat
  highCause : Nat
  mergedSrc : Nat
  time : BitVec 96
  detail : Nat
  deriving DecidableEq, Repr

/-- A reinitialisation (R395, R396) of one instance: when it began, its maximum time, the record it serves, the starts
within the last 60 s, and whether the instance is held halted. -/
structure Reinit where
  running : Bool := false
  began : Tick := 0
  record : Nat := 0
  starts : List Tick := []
  halted : Bool := false
  deriving DecidableEq, Repr

/-- The fault collector behind its objects (R383 to R397). -/
structure Faults where
  log : List FaultRec := []
  outstanding : List Nat := []
  /-- The record being handled and when its handling ends. -/
  handling : Option (Nat × Tick) := none
  fatal : Bool := false
  /-- The fatal record in the flash fault sector, and one waiting to be written. -/
  flashRecord : Option FaultRec := none
  toFlash : Option (FaultRec × Tick) := none
  reinits : Map Reinit := []
  /-- R391: Thotar ports whose transmit owner is revoked. R396: an escalation asks for a warm reset. -/
  idlePorts : List Nat := []
  resetWanted : Bool := false
  /-- R392: pair in service (false A, true B), the pair that will take over, since when, and the pairs running. -/
  pairB : Bool := false
  handover : Option Tick := none
  runA : Bool := false
  runB : Bool := false
  deriving DecidableEq, Repr

/-- A claim (R337, R388): holder 0 when none; `mark` is the abandoned mark. -/
structure Claim where
  holder : Nat
  gen : Nat
  leaseEnd : Tick
  lease : Nat
  mark : Bool
  deriving DecidableEq, Repr

/-- Who holds XC_STAGE (R153). -/
inductive Stage where
  | free
  | session (n : Nat)
  | txn (id : Nat)
  deriving DecidableEq, Repr

/-- Where an admitted transaction stands (R283, R284, R348). -/
inductive TxnState where
  | pending | waitGo | held
  deriving DecidableEq, Repr

/-- An admitted transaction (R332 to R336). -/
structure Txn where
  id : Nat
  sess : Nat
  fn : Nat
  writes : List Wr
  st : TxnState
  gxId : Nat
  deriving DecidableEq, Repr

/-- A Folla message of the device (R325): where it goes, its fields, and its bytes as sent (R324, R340). -/
structure Reply where
  dst : Src
  response : Bool
  type : Nat
  session : Nat
  seq : Nat
  status : Nat
  sealed : Bool
  keyEpoch : Nat
  body : List Byte
  wire : List Byte
  deriving DecidableEq, Repr

/-- An EVENT message sent and not acknowledged (R343). -/
structure SentEvent where
  seq : Nat
  reply : Reply
  at_ : Tick
  tries : Nat
  deriving DecidableEq, Repr

/-- A request held out of sequence (R328). -/
structure Held where
  seq : Nat
  since : Tick
  src : Src
  req : Req
  deriving DecidableEq, Repr

/-- An open session (R330). -/
structure Session where
  num : Nat
  part : Nat
  transport : Transport
  peer : Nat
  vlan : Option Nat := none
  /-- R353: the address of this device the session was opened through. -/
  own : Nat := 0
  /-- R345: the transport its last message came in by. -/
  via : Transport := .spi
  sealed : Bool := false
  events : Bool := false
  idle : Tick := 0
  lastMsg : Tick := 0
  next : Nat := 0
  replies : List (Nat × Reply) := []
  held : List Held := []
  /-- The open transaction's writes, oldest first (R332). -/
  txn : Option (List Wr) := none
  evQueue : List (Nat × Word) := []
  evLost : Bool := false
  evSeq : Nat := 1
  evLast : Option Tick := none
  evSent : List SentEvent := []
  /-- Window pointers (R321) and read latches (R314, R385, R231). -/
  ptr : Map Nat := []
  pmSel : Val := 0
  pmLatch : List Word := []
  faultLatch : List Word := []
  histArmed : Bool := false
  histLatch : List Word := []
  key : List Byte := []
  keyEpoch : Nat := 0
  /-- Words gathered of a SESSION_REKEY nonce and of a KEY_IMPORT item (R418, R419). -/
  rekey : List Word := []
  newKey : Option (List Byte) := none
  import_ : List Word := []
  /-- The session ends once the reply is sent (R326). -/
  closing : Bool := false
  deriving DecidableEq, Repr

/-- The result record of an op (R326). -/
structure OpResult where
  obj : Nat
  status : Nat
  holder : Nat
  n : Nat
  data : List Word
  deriving DecidableEq, Repr

/-- A check-value run over a bank (R399). -/
structure CvuRun where
  bank : Nat
  offset : Nat
  length : Nat
  deriving DecidableEq, Repr

/-- The supply loop (R406, R407). -/
structure Supply where
  sinceStep : Nat := 0
  highRun : Nat := 0
  lastRow4 : Option Nat := none
  underCap : Nat := 0
  deriving DecidableEq, Repr

/-- The vault (R415 to R423): keys of the slots, the blob in flash, what runs, the image loaded, the flash slots. -/
structure Vault where
  keys : Map (List Byte) := []
  /-- Keys in the flash blob, and the WIPE_COUNT the blob was wrapped under. -/
  blob : Map (List Byte) := []
  blobCount : Nat := 0
  wipeFrom : Option Tick := none
  /-- A lifecycle transition waiting for its wipe: target state and carried keys. -/
  moving : Option (Nat × Map (List Byte)) := none
  tamperInWipe : Bool := false
  dormantTamper : Bool := false
  imageWords : Map Word := []
  imageLen : Nat := 0
  verifying : Option Image := none
  verified : Option Image := none
  slots : List Image := []
  activeSlot : Nat := 0
  entropyBad : Bool := false
  /-- Persistent storage no wipe erases (R24, R420). -/
  sealedBit : Bool := false
  lifecycle : Nat := 0
  deriving DecidableEq, Repr

/-- A utility pin (R434 to R436): the function and unit in force, the target of a change, and the park. -/
structure Pin where
  func : Nat := 0
  unit : Nat := 0
  target : Option (Nat × Nat) := none
  pending : Bool := false
  /-- The frame in which a frame-aligned change was written. -/
  since : Option Nat := none
  parkFrom : Option Tick := none
  /-- Level the outgoing input function sees from the write on. -/
  idle : Bool := false
  driving : Bool := false
  configured : Bool := false
  deriving DecidableEq, Repr

/-- The connection memory (R147, R153 to R157). `force` is the page in force for egress frames from `switchFn` on: false
A, true B; earlier frames read the other page while a copy is outstanding. -/
structure Xc where
  pageA : Map Entry := []
  pageB : Map Entry := []
  force : Bool := false
  switchFn : Nat := 0
  /-- Output slots whose entries wait to be copied into the old page, and the frame they wait for. -/
  copy : Option (List Nat) := none
  stage : Stage := .free
  leaseEnd : Option Tick := none
  mark : Bool := false
  /-- R160: active entries that read uncorrectable and carry AIS; staged entries that did. -/
  broken : List Nat := []
  badStaged : List Nat := []
  /-- R167: by first output slot, one more than the frame in which the controller last wrote SEL_STATE. R156: one more than the
  SEL_STATE that a changed entry has taken with a frame filled ahead of its boundary. -/
  ctl : Map Nat := []
  aheadSel : Map Nat := []
  deriving DecidableEq, Repr

/-- The state of the device. -/
structure State where
  /-- The commands that wait, first in, first out. -/
  pending : List Instr
  /-- Elapsed ticks by which durations run (R446; log 1). -/
  now : Tick
  /-- DTS (R3, R5). -/
  dts : Tick
  /-- The tempo runs (R426). -/
  tempo : Bool
  startup : Startup
  straps : Straps
  resetLow : Bool
  /-- Rails in range, in the order of R426. -/
  rails : List Bool
  /-- The model's own: draws free values (log 9). -/
  free : Nat
  /-- The value in force of every object, by its number (R10); an unlisted object holds its Default. -/
  dict : Map Val
  /-- Live counts of the counters that SNAPSHOT copies (R48), by object number. -/
  live : Map Val
  /-- Words of the window arrays, by object number × 2^24 + index. -/
  words : Map Word
  lanes : Map Lane
  xc : Xc
  sessions : List Session
  freeNums : List Nat
  /-- OPENs answered within the last second (R328): source, SEQ, reply, instant. -/
  opened : List (Src × Nat × Reply × Tick)
  txns : List Txn
  nextTxn : Nat
  /-- Claim rows by object number × 2 + scope (R337). -/
  claims : Map Claim
  /-- Hardware claims by their key object's number (R390), and owners' generations by OWNER (R388). -/
  hwClaims : Map Claim
  gens : Map Nat
  spiIn : List (List Byte)
  spiOut : List Reply
  miso : List Byte
  /-- The result of the latest op, and the reply of the latest request. -/
  lastOp : OpResult
  lastReply : Option Reply
  cands : Map Cand
  timing : Timing
  outs : Map Out
  pps : Map Pulse
  aps : Map Aps
  pathProt : Map PathProt
  tandem : Tandem
  gallery : Gallery
  /-- Overhead channels by lane × 4 + c. -/
  chans : Map Chan
  /-- Octets last sent on a DCC port, flags and inserted zeros not shown (R299). -/
  dccOut : Map (List Byte)
  /-- Folla messages received on the designated channel and not yet served (R302). -/
  dccIn : List (List Byte)
  points : Map Point
  /-- R312: the second at which a committed DAY_OFFSET took over, and the one before it. -/
  dayCuts : List (Nat × Nat)
  tcaLog : List (Word × Word)
  macs : Map Mac
  faults : Faults
  /-- Bytes of the lane banks by bank × 2^24 + offset; an unlisted byte reads 0 (R371). Lane banks that have held landing
  or release windows since they were last cleared, whose unlisted bytes are open (log 10). -/
  banks : Map Byte
  usedBanks : List Nat
  /-- R365: owners of revoked banks, as subsystem × 256 + instance. R372: partition banks in retention after a wake. -/
  owners : Map Nat
  retained : List Nat
  /-- R23: GALLERY_CONFIG and GALLERY_TAG, where a transaction has applied them. -/
  seatObjs : List Nat
  /-- When the tempo counters of R373 were last 0 all together. -/
  tempoFrom : Tick
  /-- R373: the periods counted when the tempo stopped. -/
  tempoHeld : Nat
  /-- Engine counter bases for partitions (R378), by object number. -/
  bases : Map Val
  scrubFrom : Tick
  cvuRuns : Map CvuRun
  supply : Supply
  /-- Slacks of frames awaiting WORST_SLACK (R179): lane, frame, slack (none: the frame sourced no slot). -/
  slacks : List (Nat × Nat × Option Int)
  /-- The frame WORST_SLACK shows. -/
  worstFn : Option Nat
  slotCheck : SlotCheck
  vault : Vault
  pins : Map Pin
  deriving DecidableEq, Repr

/-- R318, R432, R426: power-up with every supply absent. Every object holds its Default (dict lists nothing). Values the
spec does not give are named in log 12. -/
def State.reset : State where
  pending := []
  now := 0
  dts := 0
  tempo := false
  startup := .off
  straps := ⟨false, false, false⟩
  resetLow := false
  rails := [false, false, false, false, false]
  free := 0
  dict := []
  live := []
  words := []
  lanes := []
  xc := {}
  sessions := []
  freeNums := [1, 2, 3, 4, 5, 6, 7, 8, 9, 10, 11, 12, 13, 14, 15, 16, 17, 18, 19, 20, 21, 22, 23, 24, 25, 26, 27, 28, 29,
    30, 31, 32]
  opened := []
  txns := []
  nextTxn := 1
  claims := []
  hwClaims := []
  gens := []
  spiIn := []
  spiOut := []
  miso := []
  lastOp := ⟨0, 0, 0, 0, []⟩
  lastReply := none
  cands := []
  timing := {}
  outs := []
  pps := []
  aps := []
  pathProt := []
  tandem := {}
  gallery := {}
  chans := []
  dccOut := []
  dccIn := []
  points := []
  dayCuts := []
  tcaLog := []
  macs := []
  faults := {}
  banks := []
  usedBanks := []
  owners := []
  retained := []
  seatObjs := []
  tempoFrom := 0
  tempoHeld := 0
  bases := []
  scrubFrom := 0
  cvuRuns := []
  supply := {}
  slacks := []
  worstFn := none
  slotCheck := {}
  vault := {}
  pins := []

end Sys2Proof.Machine
end

