-- ==== Sys2Proof/Machine/Objects.lean ====
section
/-! DEFINITION. The object dictionary (R317, R318): the number of every object at instance 0 of its class, every field
of its field table, and the rows by which an access is judged. Written from the field tables of the chapters: each
group below names the rule its tables stand under. -/

namespace Sys2Proof.Machine

/-- Access kinds (R318). -/
inductive Access where
  | ro | rw | rws | wo | rc | w1c
  deriving DecidableEq, Repr

/-- A field: its object's number at instance 0, and its bits. -/
structure Fld where
  base : Nat
  hi : Nat
  lo : Nat
  deriving DecidableEq, Repr

/-- A row of the dictionary: objects base + 4096 × instance + element, for instances lo to hi and `elems` elements; words
of the type (R317); main access kind; Default; the bits a write of RW, RWS or W1C kind reaches, and the bits that are WO
(R318, R2); and the words of a WINDOW, 0 for another type. -/
structure ObjRow where
  base : Nat
  lo : Nat
  hi : Nat
  elems : Nat
  words : Nat
  acc : Access
  default : Nat
  mask : Nat
  wo : Nat
  window : Nat
  deriving DecidableEq, Repr

/-! ### Numbers of the objects at instance 0 of their class -/
namespace O

/-- R1. -/
def DEVICE_ID : Nat := 0x00000000
/-- R19. -/
def MODES : Nat := 0x01000000
/-- R29. -/
def PART_ENABLE : Nat := 0x01000010
/-- R29. -/
def PART_LANES_0 : Nat := 0x01000011
/-- R29. -/
def PART_LANES_1 : Nat := 0x01000012
/-- R29. -/
def PART_LANES_2 : Nat := 0x01000013
/-- R29. -/
def PART_EXPORT : Nat := 0x01000014
/-- R29. -/
def PART_KEY_SLOT : Nat := 0x01000015
/-- R32. -/
def P0_EXPORT : Nat := 0x01000014
/-- R36. -/
def LANE_CONFIG : Nat := 0x02000000
/-- R36. -/
def CLIENT_RATE : Nat := 0x02000001
/-- R41. -/
def LANE_STATUS : Nat := 0x02000003
/-- R41. -/
def LANE_STICKY : Nat := 0x02000004
/-- R41. -/
def LANE_INT_EN : Nat := 0x02000005
/-- R41. -/
def TX_EQ : Nat := 0x02000010
/-- R41. -/
def RX_EQ_CTRL : Nat := 0x02000011
/-- R41. -/
def RX_EQ_READ : Nat := 0x02000012
/-- R48. -/
def FEC_CW : Nat := 0x02000040
/-- R48. -/
def FEC_CW_CORR : Nat := 0x02000041
/-- R48. -/
def FEC_CW_UNCORR : Nat := 0x02000042
/-- R48. -/
def FEC_SYM_CORR : Nat := 0x02000043
/-- R48. -/
def FEC_CONTROL : Nat := 0x0200004F
/-- R48. -/
def FEC_BIN : Nat := 0x02000050
/-- R48. -/
def LOOPBACK : Nat := 0x02000030
/-- R48. -/
def PATTERN_CTRL : Nat := 0x02000031
/-- R48. -/
def PATTERN_STATUS : Nat := 0x02000032
/-- R48. -/
def PATTERN_ERRORS : Nat := 0x02000033
/-- R52. -/
def BAY_POWER : Nat := 0x02100000
/-- R52. -/
def BAY_STATUS : Nat := 0x02100001
/-- R77. -/
def TTF_TX_TAG : Nat := 0x03000000
/-- R77. -/
def TTF_EXPECT_TAG : Nat := 0x03000001
/-- R77. -/
def TTF_ID_CTRL : Nat := 0x03000002
/-- R77. -/
def TTF_TX_CTRL : Nat := 0x03000003
/-- R77. -/
def TTF_RX_TAG : Nat := 0x03000010
/-- R77. -/
def TTF_RX_INFO : Nat := 0x03000011
/-- R77. -/
def TTF_RX_EPOCH : Nat := 0x03000012
/-- R77. -/
def TTF_RX_DIGEST : Nat := 0x03000013
/-- R77. -/
def TTF_LOCAL_RX_DIGEST : Nat := 0x03000014
/-- R77. -/
def TTF_RX_FLAGS : Nat := 0x03000015
/-- R77. -/
def TTF_STICKY : Nat := 0x03000020
/-- R77. -/
def TTF_INT_EN : Nat := 0x03000021
/-- R82. -/
def SDH_CONFIG : Nat := 0x04000000
/-- R82. -/
def SDH_TX_OH : Nat := 0x04000001
/-- R82. -/
def SDH_RX_OH : Nat := 0x04000002
/-- R82. -/
def TX_POINTER : Nat := 0x04000003
/-- R82. -/
def J0_TX_TRACE : Nat := 0x04000004
/-- R82. -/
def J0_EXP_TRACE : Nat := 0x04000005
/-- R82. -/
def J0_RX_TRACE : Nat := 0x04000006
/-- R82. -/
def B1_ERR : Nat := 0x04000010
/-- R82. -/
def B2_ERR : Nat := 0x04000011
/-- R82. -/
def REI_L_RX : Nat := 0x04000012
/-- R82. -/
def OVERLAY_DISCARD : Nat := 0x04000013
/-- R82. -/
def SDH_CONTROL : Nat := 0x0400001F
/-- R82. -/
def SDH_STICKY : Nat := 0x04000020
/-- R82. -/
def SDH_INT_EN : Nat := 0x04000021
/-- R96. -/
def PATH_CONFIG : Nat := 0x04100000
/-- R96. -/
def PATH_STATUS : Nat := 0x04200000
/-- R96. -/
def PATH_B3_ERR : Nat := 0x04300000
/-- R96. -/
def PATH_REI_RX : Nat := 0x04400000
/-- R96. -/
def PATH_PJ_INC_RX : Nat := 0x04500000
/-- R96. -/
def PATH_PJ_DEC_RX : Nat := 0x04600000
/-- R96. -/
def PATH_PJ_TX : Nat := 0x04700000
/-- R96. -/
def PATH_J1_TRACE : Nat := 0x04800000
/-- R124. -/
def DEFECT_CONFIG : Nat := 0x05000000
/-- R124. -/
def DEFECT_STATE : Nat := 0x05000001
/-- R124. -/
def DEFECT_STICKY : Nat := 0x05000002
/-- R124. -/
def DEFECT_INT_EN : Nat := 0x05000003
/-- R124. -/
def SLOT_DEFECTS : Nat := 0x05000010
/-- R125. -/
def PATH_DEFECT_CONFIG : Nat := 0x05100000
/-- R125. -/
def PATH_DEFECT_STATE : Nat := 0x05200000
/-- R125. -/
def PATH_DEFECT_STICKY : Nat := 0x05300000
/-- R125. -/
def PATH_DEFECT_INT_EN : Nat := 0x05400000
/-- R127. -/
def RX_DESC : Nat := 0x06100000
/-- R127. -/
def TX_DESC : Nat := 0x06200000
/-- R127. -/
def RX_DESC_WINDOW : Nat := 0x06000040
/-- R127. -/
def TX_DESC_WINDOW : Nat := 0x06000041
/-- R145. -/
def CLIENT_GROUP : Nat := 0x06000000
/-- R145. -/
def CLIENT_TX_CONFIG : Nat := 0x06000001
/-- R145. -/
def GROUP_RX_SEQ : Nat := 0x06000002
/-- R145. -/
def GROUP_RX_INFO : Nat := 0x06000003
/-- R145. -/
def FIRST_OFFSET_RX : Nat := 0x06000004
/-- R145. -/
def CLIENT_TX_DEPART : Nat := 0x06000005
/-- R145. -/
def GROUP_DEFECT_STATE : Nat := 0x06000010
/-- R145. -/
def GROUP_DEFECT_STICKY : Nat := 0x06000011
/-- R145. -/
def GROUP_DEFECT_INT_EN : Nat := 0x06000012
/-- R145. -/
def MAPPED_BLOCKS : Nat := 0x06000020
/-- R145. -/
def FILLER_UNITS : Nat := 0x06000021
/-- R145. -/
def SYNC_ERR_MAPPED : Nat := 0x06000022
/-- R145. -/
def LF_FRAMES : Nat := 0x06000023
/-- R145. -/
def LATE_FRAMES : Nat := 0x06000024
/-- R145. -/
def HDR_ERR : Nat := 0x06000025
/-- R145. -/
def PCHK_ERR : Nat := 0x06000026
/-- R145. -/
def SEQ_REPEAT : Nat := 0x06000027
/-- R145. -/
def SEQ_GAP : Nat := 0x06000028
/-- R145. -/
def SEQ_RESYNC : Nat := 0x06000029
/-- R145. -/
def IDLE_INS : Nat := 0x0600002A
/-- R145. -/
def IDLE_DEL : Nat := 0x0600002B
/-- R145. -/
def OVERRUN_DROP : Nat := 0x0600002C
/-- R145. -/
def GROUP_CONTROL : Nat := 0x0600002F
/-- R161. -/
def XC_ENTRY : Nat := 0x07100000
/-- R161. -/
def XC_ACTIVE_ENTRY : Nat := 0x07200000
/-- R161. -/
def BANK_READS : Nat := 0x07000000
/-- R161. -/
def SEL_SWITCHES : Nat := 0x07000001
/-- R161. -/
def SEL_STICKY : Nat := 0x07000002
/-- R161. -/
def SEL_INT_EN : Nat := 0x07000003
/-- R161. -/
def XC_STATUS : Nat := 0x07F00000
/-- R161. -/
def XC_SWITCH_FN : Nat := 0x07F00001
/-- R161. -/
def XC_PENDING_FN : Nat := 0x07F00002
/-- R161. -/
def XC_STAGED : Nat := 0x07F00003
/-- R161. -/
def XC_WINDOW_START : Nat := 0x07F00010
/-- R161. -/
def XC_STANDBY_WINDOW : Nat := 0x07F00011
/-- R161. -/
def XC_ACTIVE_WINDOW : Nat := 0x07F00012
/-- R161. -/
def TEST_BYTE : Nat := 0x07F00020
/-- R161. -/
def TEST_CHECK_CTRL : Nat := 0x07F00021
/-- R161. -/
def TEST_CHECK_STATUS : Nat := 0x07F00022
/-- R161. -/
def TEST_CHECK_ERRORS : Nat := 0x07F00023
/-- R161. -/
def XC_STICKY : Nat := 0x07F00030
/-- R161. -/
def XC_INT_EN : Nat := 0x07F00031
/-- R161. -/
def TRANSITION_STATE : Nat := 0x07F00032
/-- R190. -/
def LANDING_ELASTIC : Nat := 0x08000000
/-- R190. -/
def LANDING_STATUS : Nat := 0x08000001
/-- R190. -/
def RELEASE_OFFSET : Nat := 0x08000002
/-- R190. -/
def LANDING_SPARE : Nat := 0x08000003
/-- R190. -/
def RELEASE_STATUS : Nat := 0x08000004
/-- R190. -/
def STORE_NEED : Nat := 0x08000005
/-- R190. -/
def SLACK_LAST : Nat := 0x08000010
/-- R190. -/
def SLACK_MIN : Nat := 0x08000011
/-- R190. -/
def RELEASE_LATE_SLOTS : Nat := 0x08000012
/-- R190. -/
def RELEASE_LATE_FRAMES : Nat := 0x08000013
/-- R190. -/
def SLIP_REPEAT : Nat := 0x08000014
/-- R190. -/
def SLIP_DROP : Nat := 0x08000015
/-- R190. -/
def CORE_DROP : Nat := 0x08000016
/-- R190. -/
def REPHASE : Nat := 0x08000017
/-- R190. -/
def REALIGN : Nat := 0x08000018
/-- R190. -/
def LR_CONTROL : Nat := 0x0800001F
/-- R190. -/
def LR_STICKY : Nat := 0x08000020
/-- R190. -/
def LR_INT_EN : Nat := 0x08000021
/-- R190. -/
def LANDING_CUT : Nat := 0x08F00000
/-- R190. -/
def WORST_SLACK : Nat := 0x08F00001
/-- R190. -/
def WORST_SLACK_LANE : Nat := 0x08F00002
/-- R209. -/
def LEDGER_CONFIG : Nat := 0x09000000
/-- R209. -/
def LEDGER_TAU : Nat := 0x09000001
/-- R209. -/
def ARRIVAL_GUARD : Nat := 0x09000002
/-- R209. -/
def ASYM_CAL : Nat := 0x09000003
/-- R209. -/
def RTT_LAST : Nat := 0x09000010
/-- R209. -/
def RTT_AVG : Nat := 0x09000011
/-- R209. -/
def DELAY_RX_AVG : Nat := 0x09000012
/-- R209. -/
def DELAY_TX_AVG : Nat := 0x09000013
/-- R209. -/
def OFFSET_AVG : Nat := 0x09000014
/-- R209. -/
def APP_AVG : Nat := 0x09000015
/-- R209. -/
def ARRIVAL_LAST : Nat := 0x09000016
/-- R209. -/
def ARRIVAL_DEV : Nat := 0x09000017
/-- R209. -/
def LEDGER_STATUS : Nat := 0x09000018
/-- R209. -/
def FILTER_COUNT : Nat := 0x09000019
/-- R209. -/
def SAMPLES_USED : Nat := 0x09000020
/-- R209. -/
def SAMPLES_EXCLUDED : Nat := 0x09000021
/-- R209. -/
def OUT_OF_WINDOW : Nat := 0x09000022
/-- R209. -/
def ECHO_MISMATCH : Nat := 0x09000023
/-- R209. -/
def STEP_ACCEPT : Nat := 0x09000024
/-- R209. -/
def RESEED : Nat := 0x09000025
/-- R209. -/
def LEDGER_CONTROL : Nat := 0x0900002F
/-- R209. -/
def LEDGER_STICKY : Nat := 0x09000030
/-- R209. -/
def LEDGER_INT_EN : Nat := 0x09000031
/-- R209. -/
def LEDGER_RECORD : Nat := 0x09000040
/-- R231. -/
def CAND_CONFIG : Nat := 0x0A100000
/-- R231. -/
def CAND_NOMINAL : Nat := 0x0A100001
/-- R231. -/
def CAND_PHASE_COMP : Nat := 0x0A100002
/-- R231. -/
def CAND_STATUS : Nat := 0x0A100003
/-- R231. -/
def CAND_FREQ_OFFSET : Nat := 0x0A100004
/-- R231. -/
def CAND_PHASE_ERR : Nat := 0x0A100005
/-- R231. -/
def CAND_STICKY : Nat := 0x0A100006
/-- R231. -/
def CAND_INT_EN : Nat := 0x0A100007
/-- R232. -/
def SELECT_CONFIG : Nat := 0x0A000000
/-- R232. -/
def MONITOR_LIMITS : Nat := 0x0A000001
/-- R232. -/
def WTR : Nat := 0x0A000002
/-- R232. -/
def LOOP_BW : Nat := 0x0A000003
/-- R232. -/
def LOCK_CRIT : Nat := 0x0A000004
/-- R232. -/
def FW_WINDOW : Nat := 0x0A000005
/-- R232. -/
def FW_GAP : Nat := 0x0A000006
/-- R232. -/
def HOLDOVER_TIME : Nat := 0x0A000007
/-- R232. -/
def SOFTLOOP_CONFIG : Nat := 0x0A000008
/-- R232. -/
def SOFT_CW : Nat := 0x0A000009
/-- R232. -/
def FREE_WORD : Nat := 0x0A00000A
/-- R232. -/
def FLY_NOMINAL : Nat := 0x0A00000B
/-- R232. -/
def TIME_SET : Nat := 0x0A000010
/-- R232. -/
def LOOP_STATUS : Nat := 0x0A000020
/-- R232. -/
def STATE_FN : Nat := 0x0A000021
/-- R232. -/
def CW_NOW : Nat := 0x0A000022
/-- R232. -/
def FW_VALUE : Nat := 0x0A000023
/-- R232. -/
def FW_INFO : Nat := 0x0A000024
/-- R232. -/
def PHASE_ERR : Nat := 0x0A000025
/-- R232. -/
def DTS_NOW : Nat := 0x0A000026
/-- R232. -/
def TE_STICKY : Nat := 0x0A000030
/-- R232. -/
def TE_INT_EN : Nat := 0x0A000031
/-- R232. -/
def HISTORY : Nat := 0x0A000040
/-- R232. -/
def HISTORY_BASE : Nat := 0x0A000041
/-- R232. -/
def HISTORY_INFO : Nat := 0x0A000042
/-- R232. -/
def HISTORY_NEWEST : Nat := 0x0A000043
/-- R232. -/
def HISTORY_CONTROL : Nat := 0x0A00004F
/-- R245. -/
def PULL_SLOPE : Nat := 0x0B000000
/-- R245. -/
def OUT_CONFIG : Nat := 0x0B100000
/-- R245. -/
def OUT_FREQ_NUM : Nat := 0x0B100001
/-- R245. -/
def OUT_FREQ_DEN : Nat := 0x0B100002
/-- R245. -/
def OUT_FMAX : Nat := 0x0B100003
/-- R245. -/
def OUT_PHASE_ADJ : Nat := 0x0B100004
/-- R245. -/
def OUT_GLIDE : Nat := 0x0B100005
/-- R245. -/
def OUT_STATUS : Nat := 0x0B100010
/-- R245. -/
def OUT_STICKY : Nat := 0x0B100011
/-- R245. -/
def OUT_INT_EN : Nat := 0x0B100012
/-- R245. -/
def PPS_CONFIG : Nat := 0x0B200000
/-- R245. -/
def PPS_OFFSET : Nat := 0x0B200001
/-- R245. -/
def PPS_WIDTH : Nat := 0x0B200002
/-- R245. -/
def PPS_STICKY : Nat := 0x0B200003
/-- R245. -/
def PPS_INT_EN : Nat := 0x0B200004
/-- R254. -/
def APS_CONFIG : Nat := 0x0C000000
/-- R254. -/
def APS_TIMERS : Nat := 0x0C000001
/-- R254. -/
def APS_COMMAND : Nat := 0x0C000002
/-- R254. -/
def APS_STATUS : Nat := 0x0C000003
/-- R254. -/
def APS_SWITCHES : Nat := 0x0C000004
/-- R254. -/
def APS_STICKY : Nat := 0x0C000005
/-- R254. -/
def APS_INT_EN : Nat := 0x0C000006
/-- R256. -/
def PATH_PROT_CONFIG : Nat := 0x0C100000
/-- R256. -/
def PATH_PROT_COMMAND : Nat := 0x0C200000
/-- R256. -/
def PATH_PROT_STATUS : Nat := 0x0C300000
/-- R270. -/
def TANDEM_CONFIG : Nat := 0x0D000000
/-- R270. -/
def RELINQUISH_MASK : Nat := 0x0D000001
/-- R270. -/
def TANDEM_COMMAND : Nat := 0x0D000002
/-- R270. -/
def TANDEM_STATUS : Nat := 0x0D000003
/-- R270. -/
def PEER_VERSION : Nat := 0x0D000004
/-- R270. -/
def TAKEOVER_FN : Nat := 0x0D000005
/-- R270. -/
def TANDEM_ASYM : Nat := 0x0D000006
/-- R270. -/
def RECORD_BAD_T0 : Nat := 0x0D000010
/-- R270. -/
def RECORD_BAD_T1 : Nat := 0x0D000011
/-- R270. -/
def RECORD_MISSING : Nat := 0x0D000012
/-- R270. -/
def RESYNCS : Nat := 0x0D000013
/-- R270. -/
def TAKEOVERS : Nat := 0x0D000014
/-- R270. -/
def STATE_DIFF : Nat := 0x0D000015
/-- R270. -/
def TANDEM_STICKY : Nat := 0x0D000020
/-- R270. -/
def TANDEM_INT_EN : Nat := 0x0D000021
/-- R286. -/
def GALLERY_CONFIG : Nat := 0x0E000000
/-- R286. -/
def GALLERY_TAG : Nat := 0x0E000001
/-- R286. -/
def RING_ASYM_T2 : Nat := 0x0E000002
/-- R286. -/
def RING_ASYM_T3 : Nat := 0x0E000003
/-- R286. -/
def GALLERY_STATUS : Nat := 0x0E000010
/-- R286. -/
def GALLERY_EPOCH : Nat := 0x0E000011
/-- R286. -/
def ROSTER : Nat := 0x0E000012
/-- R286. -/
def LOCAL_DIGEST : Nat := 0x0E000013
/-- R286. -/
def ROOT_DIGEST : Nat := 0x0E000014
/-- R286. -/
def ROOT_VERSION : Nat := 0x0E000015
/-- R286. -/
def TIME_ERROR : Nat := 0x0E000016
/-- R286. -/
def GX_ID : Nat := 0x0E000020
/-- R286. -/
def GX_LAST : Nat := 0x0E000021
/-- R286. -/
def GX_STATUS : Nat := 0x0E000022
/-- R286. -/
def GX_FN : Nat := 0x0E000023
/-- R286. -/
def GALLERY_COMMAND : Nat := 0x0E00002F
/-- R286. -/
def WINDOW_DISCARD_T2 : Nat := 0x0E000030
/-- R286. -/
def WINDOW_DISCARD_T3 : Nat := 0x0E000031
/-- R286. -/
def RING_CRC_BAD : Nat := 0x0E000032
/-- R286. -/
def QUARANTINES : Nat := 0x0E000033
/-- R286. -/
def MUTES : Nat := 0x0E000034
/-- R286. -/
def GX_ABORTS : Nat := 0x0E000035
/-- R286. -/
def GALLERY_STICKY : Nat := 0x0E000040
/-- R286. -/
def GALLERY_INT_EN : Nat := 0x0E000041
/-- R286. -/
def GALLERY_TABLE : Nat := 0x0E001000
/-- R303. -/
def Q_CONFIG : Nat := 0x0F000000
/-- R303. -/
def Q_DEPTH : Nat := 0x0F000001
/-- R303. -/
def Q_LIMITS : Nat := 0x0F000002
/-- R303. -/
def Q_STATUS : Nat := 0x0F000003
/-- R303. -/
def EXT_WINDOW : Nat := 0x0F000004
/-- R303. -/
def INS_WINDOW : Nat := 0x0F000005
/-- R303. -/
def Q_CONTROL : Nat := 0x0F000006
/-- R303. -/
def Q_STICKY : Nat := 0x0F000007
/-- R303. -/
def Q_INT_EN : Nat := 0x0F000008
/-- R303. -/
def EXT_FRAMES : Nat := 0x0F000009
/-- R303. -/
def EXT_DROPPED : Nat := 0x0F00000A
/-- R303. -/
def INS_FRAMES : Nat := 0x0F00000B
/-- R303. -/
def INS_DROPPED : Nat := 0x0F00000C
/-- R303. -/
def RX_ERRORS : Nat := 0x0F00000D
/-- R303. -/
def DCC_PORT_CONFIG : Nat := 0x0F200000
/-- R303. -/
def DCC_PORT_STATUS : Nat := 0x0F200001
/-- R303. -/
def MGMT_DCC : Nat := 0x0FF00000
/-- R303. -/
def MGMT_DCC_FRAMES : Nat := 0x0FF00001
/-- R316. -/
def PM_LANE_CONFIG : Nat := 0x10000000
/-- R316. -/
def PM_DEVICE_CONFIG : Nat := 0x10F00000
/-- R316. -/
def PM_READ_SEL : Nat := 0x10F00001
/-- R316. -/
def PM_READ_WINDOW : Nat := 0x10F00002
/-- R316. -/
def PM_NEWEST : Nat := 0x10F00003
/-- R316. -/
def TCA_PROFILE : Nat := 0x10F00010
/-- R316. -/
def WATCH_PROFILE : Nat := 0x10F00020
/-- R316. -/
def TCA_LOG : Nat := 0x10F00030
/-- R316. -/
def TCA_DROPPED : Nat := 0x10F00031
/-- R316. -/
def PM_STICKY : Nat := 0x10F00032
/-- R316. -/
def PM_INT_EN : Nat := 0x10F00033
/-- R348. -/
def SESSION_STATUS : Nat := 0x11000000
/-- R348. -/
def SESSION_PEER : Nat := 0x11000001
/-- R348. -/
def SESSION_SEQ : Nat := 0x11000002
/-- R348. -/
def SESSION_CONTROL : Nat := 0x11000003
/-- R348. -/
def FOLLA_CONFIG : Nat := 0x11F00000
/-- R348. -/
def TXN_PENDING : Nat := 0x11F00001
/-- R348. -/
def TXN_TABLE : Nat := 0x11F00002
/-- R348. -/
def CLAIM_TABLE : Nat := 0x11F00003
/-- R348. -/
def EVENT_SUMMARY : Nat := 0x11F00010
/-- R348. -/
def INT_ROUTE_0 : Nat := 0x11F00011
/-- R348. -/
def INT_ROUTE_1 : Nat := 0x11F00012
/-- R348. -/
def FOLLA_STICKY : Nat := 0x11F00020
/-- R348. -/
def FOLLA_INT_EN : Nat := 0x11F00021
/-- R348. -/
def FOLLA_DISCARDS : Nat := 0x11F00030
/-- R348. -/
def AUTH_FAILS : Nat := 0x11F00031
/-- R348. -/
def SEQ_DISCARDS : Nat := 0x11F00032
/-- R348. -/
def SPI_DROPPED : Nat := 0x11F00033
/-- R361. -/
def MAC_CONFIG : Nat := 0x12000000
/-- R361. -/
def MAC_STATUS : Nat := 0x12000001
/-- R361. -/
def ADDR : Nat := 0x12000008
/-- R361. -/
def TX_QMAP : Nat := 0x12000010
/-- R361. -/
def TX_QUEUE_STATUS : Nat := 0x12000011
/-- R361. -/
def PAUSE_CONFIG : Nat := 0x12000012
/-- R361. -/
def WAKE_CONFIG : Nat := 0x12000013
/-- R361. -/
def WAKE_PATTERN : Nat := 0x12000014
/-- R361. -/
def MAC_STICKY : Nat := 0x12000018
/-- R361. -/
def MAC_INT_EN : Nat := 0x12000019
/-- R361. -/
def HALF_MAP : Nat := 0x1200001A
/-- R361. -/
def STATS_CONTROL : Nat := 0x1200001F
/-- R361. -/
def MAC_COUNTER : Nat := 0x12000020
/-- R379. -/
def ENGINE_STATUS : Nat := 0x13000000
/-- R379. -/
def TEMPO_COUNT : Nat := 0x13000010
/-- R379. -/
def TEMPO_SNAP : Nat := 0x13000011
/-- R379. -/
def PC_COUNT : Nat := 0x13000018
/-- R379. -/
def PC_SNAP : Nat := 0x13000020
/-- R379. -/
def PC_THRESH : Nat := 0x13000028
/-- R379. -/
def PC_CONFIG : Nat := 0x13000030
/-- R379. -/
def PC_CONTROL : Nat := 0x1300003F
/-- R379. -/
def PC_STICKY : Nat := 0x13000040
/-- R379. -/
def PC_INT_EN : Nat := 0x13000041
/-- R380. -/
def BANK_STATUS : Nat := 0x14000000
/-- R380. -/
def BANK_POWER : Nat := 0x14000001
/-- R380. -/
def BANK_CONFIG : Nat := 0x14000002
/-- R380. -/
def CORR : Nat := 0x14000010
/-- R380. -/
def UNCORR : Nat := 0x14000011
/-- R380. -/
def DMA_COLLIDE : Nat := 0x14000012
/-- R380. -/
def DMA_ADDR : Nat := 0x14F00000
/-- R380. -/
def DMA_WINDOW : Nat := 0x14F00001
/-- R380. -/
def SCRUB_PERIOD : Nat := 0x14F00010
/-- R380. -/
def MEM_STICKY : Nat := 0x14F00020
/-- R380. -/
def MEM_INT_EN : Nat := 0x14F00021
/-- R401. -/
def FAULT_CONFIG : Nat := 0x15F00000
/-- R401. -/
def FAULT_STATUS : Nat := 0x15F00001
/-- R401. -/
def FAULT_NEWEST : Nat := 0x15F00002
/-- R401. -/
def FAULT_INFO : Nat := 0x15F00003
/-- R401. -/
def FAULT_LOG : Nat := 0x15F00004
/-- R401. -/
def FAULT_ACK : Nat := 0x15F00005
/-- R401. -/
def FAULT_DECLARE : Nat := 0x15F00006
/-- R401. -/
def REINIT : Nat := 0x15F00007
/-- R401. -/
def REINIT_STATUS : Nat := 0x15F00008
/-- R401. -/
def DEVICE_RESET : Nat := 0x15F00009
/-- R401. -/
def CORRECTED_COUNT : Nat := 0x15F00010
/-- R401. -/
def CONTAINED_COUNT : Nat := 0x15F00011
/-- R401. -/
def ABANDONED_COUNT : Nat := 0x15F00012
/-- R401. -/
def STALE_OPS : Nat := 0x15F00013
/-- R401. -/
def LOG_OVERWRITE : Nat := 0x15F00014
/-- R401. -/
def FAULT_STICKY : Nat := 0x15F00020
/-- R401. -/
def FAULT_INT_EN : Nat := 0x15F00021
/-- R401. -/
def HW_CLAIM_TABLE : Nat := 0x15F00030
/-- R401. -/
def CVU_CONFIG : Nat := 0x15200000
/-- R401. -/
def CVU_VALUE : Nat := 0x15200001
/-- R401. -/
def CVU_RESULT : Nat := 0x15200002
/-- R401. -/
def CVU_DATA : Nat := 0x15200003
/-- R401. -/
def CVU_BYTE : Nat := 0x15200004
/-- R401. -/
def CVU_RANGE : Nat := 0x15200005
/-- R401. -/
def CVU_CONTROL : Nat := 0x15200006
/-- R401. -/
def CVU_STATUS : Nat := 0x15200007
/-- R412. -/
def POWER_STATE : Nat := 0x16000000
/-- R412. -/
def POWER_STATUS : Nat := 0x16000001
/-- R412. -/
def SUPPLY_CONFIG : Nat := 0x16000002
/-- R412. -/
def SUPPLY_TUNE : Nat := 0x16000003
/-- R412. -/
def POWER_CAP : Nat := 0x16000004
/-- R412. -/
def THERMAL_CONFIG : Nat := 0x16000005
/-- R412. -/
def POWER_NOW : Nat := 0x16000010
/-- R412. -/
def TEMP_MAX : Nat := 0x16000011
/-- R412. -/
def CAP_OVERRIDE_FRAMES : Nat := 0x16000012
/-- R412. -/
def THROTTLE_FRAMES : Nat := 0x16000013
/-- R412. -/
def VCORE_STEPS : Nat := 0x16000014
/-- R412. -/
def POWER_STICKY : Nat := 0x16000020
/-- R412. -/
def POWER_INT_EN : Nat := 0x16000021
/-- R412. -/
def RAIL_CONFIG : Nat := 0x16100000
/-- R412. -/
def RAIL_TELEMETRY : Nat := 0x16100001
/-- R425. -/
def VAULT_STATUS : Nat := 0x17000000
/-- R425. -/
def FW_VERSION : Nat := 0x17000001
/-- R425. -/
def FW_ROLLBACK_MIN : Nat := 0x17000002
/-- R425. -/
def WIPE_COUNT : Nat := 0x17000003
/-- R425. -/
def DEVICE_SERIAL : Nat := 0x17000004
/-- R425. -/
def FW_IMAGE : Nat := 0x17000010
/-- R425. -/
def FW_CONTROL : Nat := 0x17000011
/-- R425. -/
def FW_STATUS : Nat := 0x17000012
/-- R425. -/
def LIFECYCLE_TARGET : Nat := 0x17000020
/-- R425. -/
def LIFECYCLE_DATA : Nat := 0x17000021
/-- R425. -/
def KEY_IMPORT : Nat := 0x17000030
/-- R425. -/
def SESSION_REKEY : Nat := 0x17000031
/-- R425. -/
def WIPE : Nat := 0x17000032
/-- R425. -/
def TAMPER_CONFIG : Nat := 0x17000040
/-- R425. -/
def TAMPER_STATUS : Nat := 0x17000041
/-- R425. -/
def TAMPER_EVENTS : Nat := 0x17000042
/-- R425. -/
def VAULT_STICKY : Nat := 0x17000050
/-- R425. -/
def VAULT_INT_EN : Nat := 0x17000051
/-- R425. -/
def KEY_SLOT_STATUS : Nat := 0x17100000
/-- R429. -/
def STRAPS : Nat := 0x00000001
/-- R434. -/
def UPIN_CONFIG : Nat := 0x18000000
/-- R434. -/
def UPIN_STATUS : Nat := 0x18000001
/-- R434. -/
def GPIO_OUT : Nat := 0x18F00000
/-- R434. -/
def GPIO_IN : Nat := 0x18F00001
/-- R20. -/
def MODES_ACTIVE : Nat := 0x01000001
/-- R20. -/
def MODES_FN : Nat := 0x01000002
/-- R40. -/
def LANE_STATE : Nat := 0x02000002
/-- R39. -/
def RX_FREQ_OFFSET : Nat := 0x02000020
/-- R45. -/
def RX_PIN_DELAY : Nat := 0x02000021
/-- R45. -/
def TX_PIN_DELAY : Nat := 0x02000022
/-- R210. -/
def TRIB_EPOCH : Nat := 0x09100000

end O

/-! ### Fields, by object and name in the field tables -/
namespace F

def DEVICE_ID_PART : Fld := ⟨0x00000000, 31, 16⟩
def DEVICE_ID_VARIANT : Fld := ⟨0x00000000, 15, 8⟩
def DEVICE_ID_REVISION : Fld := ⟨0x00000000, 7, 0⟩
def MODES_SEALED : Fld := ⟨0x01000000, 5, 5⟩
def MODES_ROOT : Fld := ⟨0x01000000, 4, 4⟩
def MODES_PARTITIONED : Fld := ⟨0x01000000, 3, 3⟩
def MODES_GALLERY : Fld := ⟨0x01000000, 2, 2⟩
def MODES_TANDEM : Fld := ⟨0x01000000, 1, 1⟩
def MODES_CADENCE : Fld := ⟨0x01000000, 0, 0⟩
def PART_ENABLE_ENABLE : Fld := ⟨0x01000010, 0, 0⟩
def PART_LANES_0_LANES : Fld := ⟨0x01000011, 31, 0⟩
def PART_LANES_1_LANES : Fld := ⟨0x01000012, 31, 0⟩
def PART_LANES_2_LANES : Fld := ⟨0x01000013, 31, 0⟩
def PART_EXPORT_READERS : Fld := ⟨0x01000014, 7, 0⟩
def PART_KEY_SLOT_KEY : Fld := ⟨0x01000015, 3, 0⟩
def P0_EXPORT_READERS : Fld := ⟨0x01000014, 7, 0⟩
def LANE_CONFIG_FEC_DETECT_ONLY : Fld := ⟨0x02000000, 12, 12⟩
def LANE_CONFIG_RX_PRECODE : Fld := ⟨0x02000000, 11, 11⟩
def LANE_CONFIG_TX_PRECODE : Fld := ⟨0x02000000, 10, 10⟩
def LANE_CONFIG_RX_INVERT : Fld := ⟨0x02000000, 9, 9⟩
def LANE_CONFIG_TX_INVERT : Fld := ⟨0x02000000, 8, 8⟩
def LANE_CONFIG_RATE : Fld := ⟨0x02000000, 7, 4⟩
def LANE_CONFIG_ROLE : Fld := ⟨0x02000000, 1, 0⟩
def CLIENT_RATE_RATE_KBPS : Fld := ⟨0x02000001, 31, 0⟩
def LANE_STATUS_TX_READY : Fld := ⟨0x02000003, 4, 4⟩
def LANE_STATUS_ADAPT_DONE : Fld := ⟨0x02000003, 3, 3⟩
def LANE_STATUS_FREQ_OK : Fld := ⟨0x02000003, 2, 2⟩
def LANE_STATUS_CDR_LOCK : Fld := ⟨0x02000003, 1, 1⟩
def LANE_STATUS_SIG_DET : Fld := ⟨0x02000003, 0, 0⟩
def LANE_STICKY_PATTERN_ERR : Fld := ⟨0x02000004, 5, 5⟩
def LANE_STICKY_STATE_CHG : Fld := ⟨0x02000004, 4, 4⟩
def LANE_STICKY_TX_READY_LOST : Fld := ⟨0x02000004, 3, 3⟩
def LANE_STICKY_FREQ_LOST : Fld := ⟨0x02000004, 2, 2⟩
def LANE_STICKY_LOCK_LOST : Fld := ⟨0x02000004, 1, 1⟩
def LANE_STICKY_SIG_LOST : Fld := ⟨0x02000004, 0, 0⟩
def LANE_INT_EN_ENABLE : Fld := ⟨0x02000005, 31, 0⟩
def TX_EQ_SWING : Fld := ⟨0x02000010, 19, 16⟩
def TX_EQ_POST1 : Fld := ⟨0x02000010, 15, 12⟩
def TX_EQ_PRE1 : Fld := ⟨0x02000010, 11, 8⟩
def TX_EQ_PRE2 : Fld := ⟨0x02000010, 2, 0⟩
def RX_EQ_CTRL_DFE_TAPS : Fld := ⟨0x02000011, 11, 8⟩
def RX_EQ_CTRL_CTLE_PEAK : Fld := ⟨0x02000011, 7, 3⟩
def RX_EQ_CTRL_ADAPT_MODE : Fld := ⟨0x02000011, 1, 0⟩
def RX_EQ_READ_EYE_MARGIN : Fld := ⟨0x02000012, 31, 24⟩
def RX_EQ_READ_DFE1 : Fld := ⟨0x02000012, 23, 16⟩
def RX_EQ_READ_CTLE : Fld := ⟨0x02000012, 15, 8⟩
def RX_EQ_READ_ADAPT_COUNT : Fld := ⟨0x02000012, 7, 0⟩
def FEC_CW_COUNT : Fld := ⟨0x02000040, 63, 0⟩
def FEC_CW_CORR_COUNT : Fld := ⟨0x02000041, 63, 0⟩
def FEC_CW_UNCORR_COUNT : Fld := ⟨0x02000042, 63, 0⟩
def FEC_SYM_CORR_COUNT : Fld := ⟨0x02000043, 63, 0⟩
def FEC_CONTROL_FEC_CLEAR : Fld := ⟨0x0200004F, 1, 1⟩
def FEC_CONTROL_FEC_SNAPSHOT : Fld := ⟨0x0200004F, 0, 0⟩
def FEC_BIN_COUNT : Fld := ⟨0x02000050, 63, 0⟩
def LOOPBACK_LOCAL_TX : Fld := ⟨0x02000030, 2, 2⟩
def LOOPBACK_MODE : Fld := ⟨0x02000030, 1, 0⟩
def PATTERN_CTRL_ERR_INJECT : Fld := ⟨0x02000031, 8, 8⟩
def PATTERN_CTRL_CHK : Fld := ⟨0x02000031, 7, 4⟩
def PATTERN_CTRL_GEN : Fld := ⟨0x02000031, 3, 0⟩
def PATTERN_STATUS_CHK_LOCK : Fld := ⟨0x02000032, 0, 0⟩
def PATTERN_ERRORS_COUNT : Fld := ⟨0x02000033, 63, 0⟩
def BAY_POWER_ENABLE : Fld := ⟨0x02100000, 0, 0⟩
def BAY_STATUS_PLL_LOCK : Fld := ⟨0x02100001, 1, 1⟩
def BAY_STATUS_POWERED : Fld := ⟨0x02100001, 0, 0⟩
def TTF_TX_TAG_TAG : Fld := ⟨0x03000000, 31, 0⟩
def TTF_EXPECT_TAG_TAG : Fld := ⟨0x03000001, 31, 0⟩
def TTF_ID_CTRL_EXPECT_LANE : Fld := ⟨0x03000002, 15, 8⟩
def TTF_ID_CTRL_CHECK_DIGEST : Fld := ⟨0x03000002, 2, 2⟩
def TTF_ID_CTRL_CHECK_LANE : Fld := ⟨0x03000002, 1, 1⟩
def TTF_ID_CTRL_CHECK_TAG : Fld := ⟨0x03000002, 0, 0⟩
def TTF_TX_CTRL_INJECT_BIP : Fld := ⟨0x03000003, 2, 2⟩
def TTF_TX_CTRL_FORCE_RDI : Fld := ⟨0x03000003, 1, 1⟩
def TTF_RX_TAG_TAG : Fld := ⟨0x03000010, 31, 0⟩
def TTF_RX_INFO_TSZ : Fld := ⟨0x03000011, 31, 24⟩
def TTF_RX_INFO_SRC_LANE : Fld := ⟨0x03000011, 23, 16⟩
def TTF_RX_INFO_CLOCK_CLASS : Fld := ⟨0x03000011, 15, 8⟩
def TTF_RX_INFO_STEPS : Fld := ⟨0x03000011, 7, 0⟩
def TTF_RX_EPOCH_EPOCH : Fld := ⟨0x03000012, 31, 0⟩
def TTF_RX_DIGEST_DIGEST : Fld := ⟨0x03000013, 31, 0⟩
def TTF_LOCAL_RX_DIGEST_DIGEST : Fld := ⟨0x03000014, 31, 0⟩
def TTF_RX_FLAGS_TIME_FLAGS : Fld := ⟨0x03000015, 9, 8⟩
def TTF_RX_FLAGS_RDI_CAUSE : Fld := ⟨0x03000015, 7, 5⟩
def TTF_RX_FLAGS_RDI : Fld := ⟨0x03000015, 4, 4⟩
def TTF_RX_FLAGS_SIZE_MISMATCH : Fld := ⟨0x03000015, 3, 3⟩
def TTF_RX_FLAGS_DIGEST_MISMATCH : Fld := ⟨0x03000015, 2, 2⟩
def TTF_RX_FLAGS_LANE_MISMATCH : Fld := ⟨0x03000015, 1, 1⟩
def TTF_RX_FLAGS_TAG_MISMATCH : Fld := ⟨0x03000015, 0, 0⟩
def TTF_STICKY_FLAGGED_OH : Fld := ⟨0x03000020, 7, 7⟩
def TTF_STICKY_ECHO_INVALID : Fld := ⟨0x03000020, 6, 6⟩
def TTF_STICKY_EPOCH_CHG : Fld := ⟨0x03000020, 5, 5⟩
def TTF_STICKY_CLASS_CHG : Fld := ⟨0x03000020, 4, 4⟩
def TTF_STICKY_SIZE_MISMATCH : Fld := ⟨0x03000020, 3, 3⟩
def TTF_STICKY_DIGEST_MISMATCH : Fld := ⟨0x03000020, 2, 2⟩
def TTF_STICKY_LANE_MISMATCH : Fld := ⟨0x03000020, 1, 1⟩
def TTF_STICKY_TAG_MISMATCH : Fld := ⟨0x03000020, 0, 0⟩
def TTF_INT_EN_ENABLE : Fld := ⟨0x03000021, 31, 0⟩
def SDH_CONFIG_LEDGER_OVERLAY : Fld := ⟨0x04000000, 11, 11⟩
def SDH_CONFIG_REI_L_M0M1 : Fld := ⟨0x04000000, 10, 10⟩
def SDH_CONFIG_B2_BLOCK : Fld := ⟨0x04000000, 9, 9⟩
def SDH_CONFIG_SCRAMBLE_OFF : Fld := ⟨0x04000000, 8, 8⟩
def SDH_CONFIG_J0_MODE : Fld := ⟨0x04000000, 7, 6⟩
def SDH_CONFIG_SS_TX : Fld := ⟨0x04000000, 5, 4⟩
def SDH_CONFIG_S1_OVERRIDE : Fld := ⟨0x04000000, 3, 3⟩
def SDH_CONFIG_FLAVOR : Fld := ⟨0x04000000, 0, 0⟩
def SDH_TX_OH_J0_BYTE : Fld := ⟨0x04000001, 15, 8⟩
def SDH_TX_OH_S1_TX : Fld := ⟨0x04000001, 3, 0⟩
def SDH_RX_OH_J0_LAST : Fld := ⟨0x04000002, 15, 8⟩
def SDH_RX_OH_S1_RAW : Fld := ⟨0x04000002, 7, 4⟩
def SDH_RX_OH_S1_ACCEPTED : Fld := ⟨0x04000002, 3, 0⟩
def TX_POINTER_OFFSET : Fld := ⟨0x04000003, 9, 0⟩
def B1_ERR_COUNT : Fld := ⟨0x04000010, 63, 0⟩
def B2_ERR_COUNT : Fld := ⟨0x04000011, 63, 0⟩
def REI_L_RX_COUNT : Fld := ⟨0x04000012, 63, 0⟩
def OVERLAY_DISCARD_COUNT : Fld := ⟨0x04000013, 63, 0⟩
def SDH_CONTROL_INJECT_B2 : Fld := ⟨0x0400001F, 3, 3⟩
def SDH_CONTROL_INJECT_B1 : Fld := ⟨0x0400001F, 2, 2⟩
def SDH_CONTROL_CLEAR : Fld := ⟨0x0400001F, 1, 1⟩
def SDH_CONTROL_SNAPSHOT : Fld := ⟨0x0400001F, 0, 0⟩
def SDH_STICKY_OVERLAY_LOST : Fld := ⟨0x04000020, 2, 2⟩
def SDH_STICKY_J0_CHG : Fld := ⟨0x04000020, 1, 1⟩
def SDH_STICKY_S1_CHG : Fld := ⟨0x04000020, 0, 0⟩
def SDH_INT_EN_ENABLE : Fld := ⟨0x04000021, 31, 0⟩
def PATH_CONFIG_C2_EXP : Fld := ⟨0x04100000, 31, 24⟩
def PATH_CONFIG_C2_TX : Fld := ⟨0x04100000, 23, 16⟩
def PATH_CONFIG_ERDI : Fld := ⟨0x04100000, 6, 6⟩
def PATH_CONFIG_J1_MODE : Fld := ⟨0x04100000, 5, 4⟩
def PATH_CONFIG_POH_MODE : Fld := ⟨0x04100000, 1, 0⟩
def PATH_STATUS_C2_RX : Fld := ⟨0x04200000, 31, 24⟩
def PATH_STATUS_PI_STATE : Fld := ⟨0x04200000, 11, 10⟩
def PATH_STATUS_POINTER : Fld := ⟨0x04200000, 9, 0⟩
def PATH_B3_ERR_COUNT : Fld := ⟨0x04300000, 31, 0⟩
def PATH_REI_RX_COUNT : Fld := ⟨0x04400000, 31, 0⟩
def PATH_PJ_INC_RX_COUNT : Fld := ⟨0x04500000, 31, 0⟩
def PATH_PJ_DEC_RX_COUNT : Fld := ⟨0x04600000, 31, 0⟩
def PATH_PJ_TX_INC : Fld := ⟨0x04700000, 31, 16⟩
def PATH_PJ_TX_DEC : Fld := ⟨0x04700000, 15, 0⟩
def DEFECT_CONFIG_SD_EXP : Fld := ⟨0x05000000, 31, 28⟩
def DEFECT_CONFIG_SF_EXP : Fld := ⟨0x05000000, 27, 24⟩
def DEFECT_CONFIG_HB_COUNT : Fld := ⟨0x05000000, 23, 16⟩
def DEFECT_CONFIG_TIM_S_AIS : Fld := ⟨0x05000000, 5, 5⟩
def DEFECT_CONFIG_TIM_S_CHECK : Fld := ⟨0x05000000, 4, 4⟩
def DEFECT_CONFIG_FORCE_AIS_IN : Fld := ⟨0x05000000, 3, 3⟩
def DEFECT_CONFIG_FORCE_AIS_L : Fld := ⟨0x05000000, 2, 2⟩
def DEFECT_CONFIG_FORCE_RDI_L : Fld := ⟨0x05000000, 1, 1⟩
def DEFECT_STATE_SLOT_RDI : Fld := ⟨0x05000001, 10, 10⟩
def DEFECT_STATE_HI_BER : Fld := ⟨0x05000001, 9, 9⟩
def DEFECT_STATE_LOBL : Fld := ⟨0x05000001, 8, 8⟩
def DEFECT_STATE_SD : Fld := ⟨0x05000001, 7, 7⟩
def DEFECT_STATE_SF : Fld := ⟨0x05000001, 6, 6⟩
def DEFECT_STATE_TIM_S : Fld := ⟨0x05000001, 5, 5⟩
def DEFECT_STATE_RDI_L : Fld := ⟨0x05000001, 4, 4⟩
def DEFECT_STATE_AIS_L : Fld := ⟨0x05000001, 3, 3⟩
def DEFECT_STATE_LOF : Fld := ⟨0x05000001, 2, 2⟩
def DEFECT_STATE_OOF : Fld := ⟨0x05000001, 1, 1⟩
def DEFECT_STATE_LOS : Fld := ⟨0x05000001, 0, 0⟩
def DEFECT_STICKY_DECLARED : Fld := ⟨0x05000002, 31, 0⟩
def DEFECT_INT_EN_ENABLE : Fld := ⟨0x05000003, 31, 0⟩
def PATH_DEFECT_CONFIG_SD_EXP : Fld := ⟨0x05100000, 31, 28⟩
def PATH_DEFECT_CONFIG_SF_EXP : Fld := ⟨0x05100000, 27, 24⟩
def PATH_DEFECT_CONFIG_UNEQ_AIS : Fld := ⟨0x05100000, 7, 7⟩
def PATH_DEFECT_CONFIG_PLM_AIS : Fld := ⟨0x05100000, 6, 6⟩
def PATH_DEFECT_CONFIG_TIM_P_AIS : Fld := ⟨0x05100000, 5, 5⟩
def PATH_DEFECT_CONFIG_TIM_P_CHECK : Fld := ⟨0x05100000, 4, 4⟩
def PATH_DEFECT_CONFIG_PLM_CHECK : Fld := ⟨0x05100000, 3, 3⟩
def PATH_DEFECT_STATE_G1_CODE : Fld := ⟨0x05200000, 10, 8⟩
def PATH_DEFECT_STATE_SD_P : Fld := ⟨0x05200000, 7, 7⟩
def PATH_DEFECT_STATE_SF_P : Fld := ⟨0x05200000, 6, 6⟩
def PATH_DEFECT_STATE_RDI_P : Fld := ⟨0x05200000, 5, 5⟩
def PATH_DEFECT_STATE_TIM_P : Fld := ⟨0x05200000, 4, 4⟩
def PATH_DEFECT_STATE_PLM_P : Fld := ⟨0x05200000, 3, 3⟩
def PATH_DEFECT_STATE_UNEQ_P : Fld := ⟨0x05200000, 2, 2⟩
def PATH_DEFECT_STATE_LOP_P : Fld := ⟨0x05200000, 1, 1⟩
def PATH_DEFECT_STATE_AIS_P : Fld := ⟨0x05200000, 0, 0⟩
def PATH_DEFECT_STICKY_DECLARED : Fld := ⟨0x05300000, 31, 0⟩
def PATH_DEFECT_INT_EN_ENABLE : Fld := ⟨0x05400000, 31, 0⟩
def RX_DESC_DESC : Fld := ⟨0x06100000, 31, 0⟩
def TX_DESC_DESC : Fld := ⟨0x06200000, 31, 0⟩
def CLIENT_GROUP_CAPACITY : Fld := ⟨0x06000000, 31, 16⟩
def CLIENT_GROUP_SLOTS : Fld := ⟨0x06000000, 10, 0⟩
def CLIENT_TX_CONFIG_TARGET : Fld := ⟨0x06000001, 9, 0⟩
def GROUP_RX_SEQ_SEQ : Fld := ⟨0x06000002, 31, 0⟩
def GROUP_RX_INFO_GH_FLAGS : Fld := ⟨0x06000003, 31, 24⟩
def GROUP_RX_INFO_BLOCK_COUNT : Fld := ⟨0x06000003, 15, 0⟩
def FIRST_OFFSET_RX_OFFSET : Fld := ⟨0x06000004, 31, 0⟩
def CLIENT_TX_DEPART_TIME : Fld := ⟨0x06000005, 95, 0⟩
def GROUP_DEFECT_STATE_GMIS : Fld := ⟨0x06000010, 2, 2⟩
def GROUP_DEFECT_STATE_GHL : Fld := ⟨0x06000010, 1, 1⟩
def GROUP_DEFECT_STATE_GAIS : Fld := ⟨0x06000010, 0, 0⟩
def GROUP_DEFECT_STICKY_DECLARED : Fld := ⟨0x06000011, 31, 0⟩
def GROUP_DEFECT_INT_EN_ENABLE : Fld := ⟨0x06000012, 31, 0⟩
def MAPPED_BLOCKS_COUNT : Fld := ⟨0x06000020, 63, 0⟩
def FILLER_UNITS_COUNT : Fld := ⟨0x06000021, 63, 0⟩
def SYNC_ERR_MAPPED_COUNT : Fld := ⟨0x06000022, 63, 0⟩
def LF_FRAMES_COUNT : Fld := ⟨0x06000023, 63, 0⟩
def LATE_FRAMES_COUNT : Fld := ⟨0x06000024, 63, 0⟩
def HDR_ERR_COUNT : Fld := ⟨0x06000025, 63, 0⟩
def PCHK_ERR_COUNT : Fld := ⟨0x06000026, 63, 0⟩
def SEQ_REPEAT_COUNT : Fld := ⟨0x06000027, 63, 0⟩
def SEQ_GAP_COUNT : Fld := ⟨0x06000028, 63, 0⟩
def SEQ_RESYNC_COUNT : Fld := ⟨0x06000029, 63, 0⟩
def IDLE_INS_COUNT : Fld := ⟨0x0600002A, 63, 0⟩
def IDLE_DEL_COUNT : Fld := ⟨0x0600002B, 63, 0⟩
def OVERRUN_DROP_COUNT : Fld := ⟨0x0600002C, 63, 0⟩
def GROUP_CONTROL_CLEAR : Fld := ⟨0x0600002F, 1, 1⟩
def GROUP_CONTROL_SNAPSHOT : Fld := ⟨0x0600002F, 0, 0⟩
def XC_ENTRY_ENTRY : Fld := ⟨0x07100000, 63, 0⟩
def XC_ACTIVE_ENTRY_ENTRY : Fld := ⟨0x07200000, 63, 0⟩
def BANK_READS_READS : Fld := ⟨0x07000000, 12, 0⟩
def SEL_SWITCHES_COUNT : Fld := ⟨0x07000001, 63, 0⟩
def SEL_STICKY_AUTO_SWITCH : Fld := ⟨0x07000002, 0, 0⟩
def SEL_INT_EN_ENABLE : Fld := ⟨0x07000003, 31, 0⟩
def XC_STATUS_SWITCH_PENDING : Fld := ⟨0x07F00000, 2, 2⟩
def XC_STATUS_STAGE_OPEN : Fld := ⟨0x07F00000, 1, 1⟩
def XC_STATUS_ACTIVE_PAGE : Fld := ⟨0x07F00000, 0, 0⟩
def XC_SWITCH_FN_FN : Fld := ⟨0x07F00001, 47, 0⟩
def XC_PENDING_FN_FN : Fld := ⟨0x07F00002, 47, 0⟩
def XC_STAGED_COUNT : Fld := ⟨0x07F00003, 16, 0⟩
def XC_WINDOW_START_G : Fld := ⟨0x07F00010, 16, 0⟩
def TEST_BYTE_BYTE : Fld := ⟨0x07F00020, 7, 0⟩
def TEST_CHECK_CTRL_ENABLE : Fld := ⟨0x07F00021, 31, 31⟩
def TEST_CHECK_CTRL_PATTERN : Fld := ⟨0x07F00021, 30, 28⟩
def TEST_CHECK_CTRL_SLOT : Fld := ⟨0x07F00021, 16, 0⟩
def TEST_CHECK_STATUS_LOCK : Fld := ⟨0x07F00022, 0, 0⟩
def TEST_CHECK_ERRORS_COUNT : Fld := ⟨0x07F00023, 63, 0⟩
def XC_STICKY_MEM_UNCORR : Fld := ⟨0x07F00030, 2, 2⟩
def XC_STICKY_TRANSITION_DONE : Fld := ⟨0x07F00030, 1, 1⟩
def XC_STICKY_SWITCH_DONE : Fld := ⟨0x07F00030, 0, 0⟩
def XC_INT_EN_ENABLE : Fld := ⟨0x07F00031, 31, 0⟩
def TRANSITION_STATE_LANES : Fld := ⟨0x07F00032, 6, 0⟩
def LANDING_ELASTIC_ELASTIC : Fld := ⟨0x08000000, 14, 0⟩
def LANDING_STATUS_ALIGNED : Fld := ⟨0x08000001, 0, 0⟩
def RELEASE_OFFSET_OFFSET : Fld := ⟨0x08000002, 17, 0⟩
def LANDING_SPARE_SPARE : Fld := ⟨0x08000003, 31, 0⟩
def RELEASE_STATUS_LAG : Fld := ⟨0x08000004, 1, 0⟩
def STORE_NEED_BYTES : Fld := ⟨0x08000005, 31, 0⟩
def SLACK_LAST_SLACK : Fld := ⟨0x08000010, 31, 0⟩
def SLACK_MIN_SLACK : Fld := ⟨0x08000011, 31, 0⟩
def RELEASE_LATE_SLOTS_COUNT : Fld := ⟨0x08000012, 63, 0⟩
def RELEASE_LATE_FRAMES_COUNT : Fld := ⟨0x08000013, 63, 0⟩
def SLIP_REPEAT_COUNT : Fld := ⟨0x08000014, 63, 0⟩
def SLIP_DROP_COUNT : Fld := ⟨0x08000015, 63, 0⟩
def CORE_DROP_COUNT : Fld := ⟨0x08000016, 63, 0⟩
def REPHASE_COUNT : Fld := ⟨0x08000017, 63, 0⟩
def REALIGN_COUNT : Fld := ⟨0x08000018, 63, 0⟩
def LR_CONTROL_CLEAR : Fld := ⟨0x0800001F, 1, 1⟩
def LR_CONTROL_SNAPSHOT : Fld := ⟨0x0800001F, 0, 0⟩
def LR_STICKY_SLACK_LOW : Fld := ⟨0x08000020, 5, 5⟩
def LR_STICKY_REALIGN : Fld := ⟨0x08000020, 4, 4⟩
def LR_STICKY_REPHASE : Fld := ⟨0x08000020, 3, 3⟩
def LR_STICKY_CORE_DROP : Fld := ⟨0x08000020, 2, 2⟩
def LR_STICKY_SLIP : Fld := ⟨0x08000020, 1, 1⟩
def LR_STICKY_LATE : Fld := ⟨0x08000020, 0, 0⟩
def LR_INT_EN_ENABLE : Fld := ⟨0x08000021, 31, 0⟩
def LANDING_CUT_CUT : Fld := ⟨0x08F00000, 16, 0⟩
def WORST_SLACK_SLACK : Fld := ⟨0x08F00001, 31, 0⟩
def WORST_SLACK_LANE_LANE : Fld := ⟨0x08F00002, 6, 0⟩
def LEDGER_CONFIG_STEP_RUN : Fld := ⟨0x09000000, 19, 12⟩
def LEDGER_CONFIG_WINDOW_EN : Fld := ⟨0x09000000, 1, 1⟩
def LEDGER_CONFIG_FREQ_CORR : Fld := ⟨0x09000000, 0, 0⟩
def LEDGER_TAU_TAU : Fld := ⟨0x09000001, 16, 0⟩
def ARRIVAL_GUARD_GUARD : Fld := ⟨0x09000002, 15, 0⟩
def ASYM_CAL_ASYM : Fld := ⟨0x09000003, 47, 0⟩
def RTT_LAST_RTT : Fld := ⟨0x09000010, 63, 0⟩
def RTT_AVG_RTT : Fld := ⟨0x09000011, 63, 0⟩
def DELAY_RX_AVG_DELAY : Fld := ⟨0x09000012, 63, 0⟩
def DELAY_TX_AVG_DELAY : Fld := ⟨0x09000013, 63, 0⟩
def OFFSET_AVG_OFFSET : Fld := ⟨0x09000014, 63, 0⟩
def APP_AVG_APP : Fld := ⟨0x09000015, 63, 0⟩
def ARRIVAL_LAST_TIME : Fld := ⟨0x09000016, 95, 0⟩
def ARRIVAL_DEV_DEV : Fld := ⟨0x09000017, 63, 0⟩
def LEDGER_STATUS_LTD : Fld := ⟨0x09000018, 4, 4⟩
def LEDGER_STATUS_OOW_LAST : Fld := ⟨0x09000018, 3, 3⟩
def LEDGER_STATUS_WINDOW_ACTIVE : Fld := ⟨0x09000018, 2, 2⟩
def LEDGER_STATUS_TRACEABLE : Fld := ⟨0x09000018, 1, 1⟩
def LEDGER_STATUS_SEEDED : Fld := ⟨0x09000018, 0, 0⟩
def FILTER_COUNT_N_APP : Fld := ⟨0x09000019, 31, 0⟩
def SAMPLES_USED_COUNT : Fld := ⟨0x09000020, 63, 0⟩
def SAMPLES_EXCLUDED_COUNT : Fld := ⟨0x09000021, 63, 0⟩
def OUT_OF_WINDOW_COUNT : Fld := ⟨0x09000022, 63, 0⟩
def ECHO_MISMATCH_COUNT : Fld := ⟨0x09000023, 63, 0⟩
def STEP_ACCEPT_COUNT : Fld := ⟨0x09000024, 63, 0⟩
def RESEED_COUNT : Fld := ⟨0x09000025, 63, 0⟩
def LEDGER_CONTROL_RESEED : Fld := ⟨0x0900002F, 2, 2⟩
def LEDGER_CONTROL_CLEAR : Fld := ⟨0x0900002F, 1, 1⟩
def LEDGER_CONTROL_SNAPSHOT : Fld := ⟨0x0900002F, 0, 0⟩
def LEDGER_STICKY_TRACEABLE_CHG : Fld := ⟨0x09000030, 4, 4⟩
def LEDGER_STICKY_ECHO_MISMATCH : Fld := ⟨0x09000030, 3, 3⟩
def LEDGER_STICKY_RESEED : Fld := ⟨0x09000030, 2, 2⟩
def LEDGER_STICKY_STEP_ACCEPT : Fld := ⟨0x09000030, 1, 1⟩
def LEDGER_STICKY_LTD : Fld := ⟨0x09000030, 0, 0⟩
def LEDGER_INT_EN_ENABLE : Fld := ⟨0x09000031, 31, 0⟩
def CAND_CONFIG_PRIORITY : Fld := ⟨0x0A100000, 31, 24⟩
def CAND_CONFIG_QL_ASSIGN : Fld := ⟨0x0A100000, 23, 20⟩
def CAND_CONFIG_QL_SOURCE : Fld := ⟨0x0A100000, 19, 19⟩
def CAND_CONFIG_PHASE_MODE : Fld := ⟨0x0A100000, 18, 18⟩
def CAND_CONFIG_COMPANION : Fld := ⟨0x0A100000, 17, 13⟩
def CAND_CONFIG_ENABLE : Fld := ⟨0x0A100000, 0, 0⟩
def CAND_NOMINAL_HZ : Fld := ⟨0x0A100001, 31, 0⟩
def CAND_PHASE_COMP_COMP : Fld := ⟨0x0A100002, 63, 0⟩
def CAND_STATUS_QL : Fld := ⟨0x0A100003, 31, 28⟩
def CAND_STATUS_SELECTED : Fld := ⟨0x0A100003, 6, 6⟩
def CAND_STATUS_TIME_CAPABLE : Fld := ⟨0x0A100003, 5, 5⟩
def CAND_STATUS_WTR_RUNNING : Fld := ⟨0x0A100003, 4, 4⟩
def CAND_STATUS_QL_OK : Fld := ⟨0x0A100003, 3, 3⟩
def CAND_STATUS_FREQ_OK : Fld := ⟨0x0A100003, 2, 2⟩
def CAND_STATUS_SOURCE_OK : Fld := ⟨0x0A100003, 1, 1⟩
def CAND_STATUS_QUALIFIED : Fld := ⟨0x0A100003, 0, 0⟩
def CAND_FREQ_OFFSET_OFFSET : Fld := ⟨0x0A100004, 31, 0⟩
def CAND_PHASE_ERR_E : Fld := ⟨0x0A100005, 63, 0⟩
def CAND_STICKY_QUALIFIED : Fld := ⟨0x0A100006, 6, 6⟩
def CAND_STICKY_DISQUALIFIED : Fld := ⟨0x0A100006, 5, 5⟩
def CAND_STICKY_QL_CHG : Fld := ⟨0x0A100006, 4, 4⟩
def CAND_STICKY_FREQ_ACCEPT : Fld := ⟨0x0A100006, 3, 3⟩
def CAND_STICKY_FREQ_REJECT : Fld := ⟨0x0A100006, 2, 2⟩
def CAND_STICKY_ACT_RETURN : Fld := ⟨0x0A100006, 1, 1⟩
def CAND_STICKY_ACT_LOST : Fld := ⟨0x0A100006, 0, 0⟩
def CAND_INT_EN_ENABLE : Fld := ⟨0x0A100007, 31, 0⟩
def SELECT_CONFIG_FORCE : Fld := ⟨0x0A000000, 31, 24⟩
def SELECT_CONFIG_QL_MIN : Fld := ⟨0x0A000000, 23, 20⟩
def SELECT_CONFIG_REVERTIVE : Fld := ⟨0x0A000000, 1, 1⟩
def SELECT_CONFIG_SCHEME : Fld := ⟨0x0A000000, 0, 0⟩
def MONITOR_LIMITS_REJECT : Fld := ⟨0x0A000001, 31, 16⟩
def MONITOR_LIMITS_ACCEPT : Fld := ⟨0x0A000001, 15, 0⟩
def WTR_SECONDS : Fld := ⟨0x0A000002, 11, 0⟩
def LOOP_BW_ACQ_BW : Fld := ⟨0x0A000003, 31, 16⟩
def LOOP_BW_BW : Fld := ⟨0x0A000003, 15, 0⟩
def LOCK_CRIT_LOCK_PHASE : Fld := ⟨0x0A000004, 31, 16⟩
def LOCK_CRIT_LOCK_TIME : Fld := ⟨0x0A000004, 15, 0⟩
def FW_WINDOW_W : Fld := ⟨0x0A000005, 31, 0⟩
def FW_GAP_G : Fld := ⟨0x0A000006, 31, 0⟩
def HOLDOVER_TIME_SECONDS : Fld := ⟨0x0A000007, 31, 0⟩
def SOFTLOOP_CONFIG_HISTORY : Fld := ⟨0x0A000008, 17, 17⟩
def SOFTLOOP_CONFIG_ENABLE : Fld := ⟨0x0A000008, 16, 16⟩
def SOFTLOOP_CONFIG_WATCHDOG : Fld := ⟨0x0A000008, 15, 0⟩
def SOFT_CW_CW : Fld := ⟨0x0A000009, 63, 0⟩
def FREE_WORD_CW : Fld := ⟨0x0A00000A, 63, 0⟩
def FLY_NOMINAL_HZ : Fld := ⟨0x0A00000B, 31, 0⟩
def TIME_SET_TIME : Fld := ⟨0x0A000010, 95, 0⟩
def LOOP_STATUS_CLASS : Fld := ⟨0x0A000020, 31, 24⟩
def LOOP_STATUS_STEPS : Fld := ⟨0x0A000020, 23, 16⟩
def LOOP_STATUS_PULL_ACTIVE : Fld := ⟨0x0A000020, 11, 11⟩
def LOOP_STATUS_FW_VALID : Fld := ⟨0x0A000020, 10, 10⟩
def LOOP_STATUS_SELECTED : Fld := ⟨0x0A000020, 9, 3⟩
def LOOP_STATUS_STATE : Fld := ⟨0x0A000020, 2, 0⟩
def STATE_FN_FN : Fld := ⟨0x0A000021, 63, 0⟩
def CW_NOW_CW : Fld := ⟨0x0A000022, 63, 0⟩
def FW_VALUE_CW : Fld := ⟨0x0A000023, 63, 0⟩
def FW_INFO_SOURCE : Fld := ⟨0x0A000024, 31, 30⟩
def FW_INFO_COUNT : Fld := ⟨0x0A000024, 16, 0⟩
def PHASE_ERR_E : Fld := ⟨0x0A000025, 63, 0⟩
def DTS_NOW_TIME : Fld := ⟨0x0A000026, 95, 0⟩
def TE_STICKY_CAND_CHG : Fld := ⟨0x0A000030, 7, 7⟩
def TE_STICKY_CW_LIMIT : Fld := ⟨0x0A000030, 6, 6⟩
def TE_STICKY_HISTORY_CLIP : Fld := ⟨0x0A000030, 5, 5⟩
def TE_STICKY_TIME_STEPPED : Fld := ⟨0x0A000030, 4, 4⟩
def TE_STICKY_WATCHDOG : Fld := ⟨0x0A000030, 3, 3⟩
def TE_STICKY_FREEWHEEL : Fld := ⟨0x0A000030, 2, 2⟩
def TE_STICKY_REF_SWITCH : Fld := ⟨0x0A000030, 1, 1⟩
def TE_STICKY_STATE_CHG : Fld := ⟨0x0A000030, 0, 0⟩
def TE_INT_EN_ENABLE : Fld := ⟨0x0A000031, 31, 0⟩
def HISTORY_BASE_CW : Fld := ⟨0x0A000041, 63, 0⟩
def HISTORY_INFO_COUNT : Fld := ⟨0x0A000042, 16, 0⟩
def HISTORY_NEWEST_SECOND : Fld := ⟨0x0A000043, 63, 0⟩
def HISTORY_CONTROL_CLEAR : Fld := ⟨0x0A00004F, 0, 0⟩
def PULL_SLOPE_SLOPE : Fld := ⟨0x0B000000, 23, 0⟩
def OUT_CONFIG_SQUELCH_CLASS : Fld := ⟨0x0B100000, 31, 24⟩
def OUT_CONFIG_ALIGN : Fld := ⟨0x0B100000, 11, 11⟩
def OUT_CONFIG_SQUELCH_ON_CHANGE : Fld := ⟨0x0B100000, 10, 10⟩
def OUT_CONFIG_INVERT : Fld := ⟨0x0B100000, 9, 9⟩
def OUT_CONFIG_FORMAT : Fld := ⟨0x0B100000, 1, 0⟩
def OUT_FREQ_NUM_NUM : Fld := ⟨0x0B100001, 47, 0⟩
def OUT_FREQ_DEN_DEN : Fld := ⟨0x0B100002, 15, 0⟩
def OUT_FMAX_HZ : Fld := ⟨0x0B100003, 31, 0⟩
def OUT_PHASE_ADJ_PHASE : Fld := ⟨0x0B100004, 63, 0⟩
def OUT_GLIDE_C : Fld := ⟨0x0B100005, 31, 16⟩
def OUT_GLIDE_SLOPE : Fld := ⟨0x0B100005, 15, 0⟩
def OUT_STATUS_HELD_CHANGE : Fld := ⟨0x0B100010, 5, 5⟩
def OUT_STATUS_FMAX_CLAMP : Fld := ⟨0x0B100010, 4, 4⟩
def OUT_STATUS_ALIGNED : Fld := ⟨0x0B100010, 3, 3⟩
def OUT_STATUS_STATE : Fld := ⟨0x0B100010, 2, 0⟩
def OUT_STICKY_SQUELCHED : Fld := ⟨0x0B100011, 2, 2⟩
def OUT_STICKY_FMAX_CLAMPED : Fld := ⟨0x0B100011, 1, 1⟩
def OUT_STICKY_GLIDE_DONE : Fld := ⟨0x0B100011, 0, 0⟩
def OUT_INT_EN_ENABLE : Fld := ⟨0x0B100012, 31, 0⟩
def PPS_CONFIG_SQUELCH_CLASS : Fld := ⟨0x0B200000, 31, 24⟩
def PPS_CONFIG_POLARITY : Fld := ⟨0x0B200000, 1, 1⟩
def PPS_CONFIG_ENABLE : Fld := ⟨0x0B200000, 0, 0⟩
def PPS_OFFSET_OFFSET : Fld := ⟨0x0B200001, 63, 0⟩
def PPS_WIDTH_NS : Fld := ⟨0x0B200002, 31, 0⟩
def PPS_STICKY_SQUELCHED : Fld := ⟨0x0B200003, 1, 1⟩
def PPS_STICKY_PPS_SKIP : Fld := ⟨0x0B200003, 0, 0⟩
def PPS_INT_EN_ENABLE : Fld := ⟨0x0B200004, 31, 0⟩
def APS_CONFIG_ENABLE : Fld := ⟨0x0C000000, 31, 31⟩
def APS_CONFIG_ARCH : Fld := ⟨0x0C000000, 30, 30⟩
def APS_CONFIG_BIDIR : Fld := ⟨0x0C000000, 29, 29⟩
def APS_CONFIG_REVERTIVE : Fld := ⟨0x0C000000, 28, 28⟩
def APS_CONFIG_SD_TRIGGER : Fld := ⟨0x0C000000, 27, 27⟩
def APS_CONFIG_PROT_LANE : Fld := ⟨0x0C000000, 22, 16⟩
def APS_CONFIG_WORK_LANE : Fld := ⟨0x0C000000, 6, 0⟩
def APS_TIMERS_WTR : Fld := ⟨0x0C000001, 31, 16⟩
def APS_TIMERS_HOLD_OFF : Fld := ⟨0x0C000001, 6, 0⟩
def APS_COMMAND_CMD : Fld := ⟨0x0C000002, 2, 0⟩
def APS_STATUS_LOCAL_REQ : Fld := ⟨0x0C000003, 31, 28⟩
def APS_STATUS_LOCAL_CH : Fld := ⟨0x0C000003, 27, 24⟩
def APS_STATUS_FAR_REQ : Fld := ⟨0x0C000003, 23, 20⟩
def APS_STATUS_FAR_CH : Fld := ⟨0x0C000003, 19, 16⟩
def APS_STATUS_FAR_BRIDGED : Fld := ⟨0x0C000003, 15, 12⟩
def APS_STATUS_ARCH_MISMATCH : Fld := ⟨0x0C000003, 5, 5⟩
def APS_STATUS_FOP : Fld := ⟨0x0C000003, 4, 4⟩
def APS_STATUS_WTR_RUNNING : Fld := ⟨0x0C000003, 3, 3⟩
def APS_STATUS_BRIDGED : Fld := ⟨0x0C000003, 2, 2⟩
def APS_STATUS_SELECTED : Fld := ⟨0x0C000003, 1, 1⟩
def APS_SWITCHES_COUNT : Fld := ⟨0x0C000004, 63, 0⟩
def APS_STICKY_ARCH_MISMATCH : Fld := ⟨0x0C000005, 3, 3⟩
def APS_STICKY_FOP : Fld := ⟨0x0C000005, 2, 2⟩
def APS_STICKY_FAR_REQ_CHG : Fld := ⟨0x0C000005, 1, 1⟩
def APS_STICKY_SWITCH : Fld := ⟨0x0C000005, 0, 0⟩
def APS_INT_EN_ENABLE : Fld := ⟨0x0C000006, 31, 0⟩
def PATH_PROT_CONFIG_WTR : Fld := ⟨0x0C100000, 31, 20⟩
def PATH_PROT_CONFIG_HOLD_OFF : Fld := ⟨0x0C100000, 19, 13⟩
def PATH_PROT_CONFIG_SD_TRIGGER : Fld := ⟨0x0C100000, 1, 1⟩
def PATH_PROT_CONFIG_REVERTIVE : Fld := ⟨0x0C100000, 0, 0⟩
def PATH_PROT_COMMAND_CMD : Fld := ⟨0x0C200000, 2, 0⟩
def PATH_PROT_STATUS_WTR_LEFT : Fld := ⟨0x0C300000, 31, 20⟩
def PATH_PROT_STATUS_WTR_RUNNING : Fld := ⟨0x0C300000, 3, 3⟩
def PATH_PROT_STATUS_CMD_IN_FORCE : Fld := ⟨0x0C300000, 2, 0⟩
def TANDEM_CONFIG_STANDBY_WAIT : Fld := ⟨0x0D000000, 31, 16⟩
def TANDEM_CONFIG_AUTO_RELINQUISH : Fld := ⟨0x0D000000, 1, 1⟩
def RELINQUISH_MASK_MASK : Fld := ⟨0x0D000001, 17, 0⟩
def TANDEM_COMMAND_TAKEOVER_FORCE : Fld := ⟨0x0D000002, 1, 1⟩
def TANDEM_COMMAND_RELINQUISH : Fld := ⟨0x0D000002, 0, 0⟩
def TANDEM_STATUS_HOLD_PIN : Fld := ⟨0x0D000003, 15, 15⟩
def TANDEM_STATUS_SEAT : Fld := ⟨0x0D000003, 14, 14⟩
def TANDEM_STATUS_ROLE : Fld := ⟨0x0D000003, 13, 12⟩
def TANDEM_STATUS_PEER_PRESENT : Fld := ⟨0x0D000003, 11, 11⟩
def TANDEM_STATUS_PEER_READY : Fld := ⟨0x0D000003, 10, 10⟩
def TANDEM_STATUS_PEER_INHIBIT : Fld := ⟨0x0D000003, 9, 9⟩
def TANDEM_STATUS_READY : Fld := ⟨0x0D000003, 8, 8⟩
def TANDEM_STATUS_TAKEOVER_INHIBIT : Fld := ⟨0x0D000003, 7, 7⟩
def TANDEM_STATUS_RESYNC : Fld := ⟨0x0D000003, 6, 6⟩
def TANDEM_STATUS_T1_OK : Fld := ⟨0x0D000003, 5, 5⟩
def TANDEM_STATUS_T0_OK : Fld := ⟨0x0D000003, 4, 4⟩
def TANDEM_STATUS_SEAT_CONFLICT : Fld := ⟨0x0D000003, 3, 3⟩
def TANDEM_STATUS_MODE_MISMATCH : Fld := ⟨0x0D000003, 2, 2⟩
def PEER_VERSION_VERSION : Fld := ⟨0x0D000004, 31, 0⟩
def TAKEOVER_FN_FN : Fld := ⟨0x0D000005, 47, 0⟩
def TANDEM_ASYM_ASYM : Fld := ⟨0x0D000006, 47, 0⟩
def RECORD_BAD_T0_COUNT : Fld := ⟨0x0D000010, 63, 0⟩
def RECORD_BAD_T1_COUNT : Fld := ⟨0x0D000011, 63, 0⟩
def RECORD_MISSING_COUNT : Fld := ⟨0x0D000012, 63, 0⟩
def RESYNCS_COUNT : Fld := ⟨0x0D000013, 63, 0⟩
def TAKEOVERS_COUNT : Fld := ⟨0x0D000014, 63, 0⟩
def STATE_DIFF_COUNT : Fld := ⟨0x0D000015, 63, 0⟩
def TANDEM_STICKY_SEAT_CONFLICT : Fld := ⟨0x0D000020, 9, 9⟩
def TANDEM_STICKY_MODE_MISMATCH : Fld := ⟨0x0D000020, 8, 8⟩
def TANDEM_STICKY_FORCE_REFUSED : Fld := ⟨0x0D000020, 7, 7⟩
def TANDEM_STICKY_NO_ACTIVE : Fld := ⟨0x0D000020, 6, 6⟩
def TANDEM_STICKY_DUAL_ACTIVE : Fld := ⟨0x0D000020, 5, 5⟩
def TANDEM_STICKY_STATE_DIFF : Fld := ⟨0x0D000020, 4, 4⟩
def TANDEM_STICKY_RECORD_MISSING : Fld := ⟨0x0D000020, 3, 3⟩
def TANDEM_STICKY_INHIBIT_SET : Fld := ⟨0x0D000020, 2, 2⟩
def TANDEM_STICKY_RELINQUISHED : Fld := ⟨0x0D000020, 1, 1⟩
def TANDEM_STICKY_TAKEOVER : Fld := ⟨0x0D000020, 0, 0⟩
def TANDEM_INT_EN_ENABLE : Fld := ⟨0x0D000021, 31, 0⟩
def GALLERY_CONFIG_SEAT : Fld := ⟨0x0E000000, 3, 0⟩
def GALLERY_TAG_TAG : Fld := ⟨0x0E000001, 31, 0⟩
def RING_ASYM_T2_ASYM : Fld := ⟨0x0E000002, 47, 0⟩
def RING_ASYM_T3_ASYM : Fld := ⟨0x0E000003, 63, 0⟩
def GALLERY_STATUS_ROOT_SEAT : Fld := ⟨0x0E000010, 31, 28⟩
def GALLERY_STATUS_T3_SERVICE : Fld := ⟨0x0E000010, 13, 13⟩
def GALLERY_STATUS_T2_SERVICE : Fld := ⟨0x0E000010, 12, 12⟩
def GALLERY_STATUS_SEAT_CONFLICT : Fld := ⟨0x0E000010, 11, 11⟩
def GALLERY_STATUS_ROOT_CONFLICT : Fld := ⟨0x0E000010, 10, 10⟩
def GALLERY_STATUS_QUAR_EPOCH : Fld := ⟨0x0E000010, 9, 9⟩
def GALLERY_STATUS_QUAR_VERSION : Fld := ⟨0x0E000010, 8, 8⟩
def GALLERY_STATUS_QUAR_DIGEST : Fld := ⟨0x0E000010, 7, 7⟩
def GALLERY_STATUS_QUARANTINED : Fld := ⟨0x0E000010, 6, 6⟩
def GALLERY_STATUS_MUTED : Fld := ⟨0x0E000010, 5, 5⟩
def GALLERY_STATUS_IS_ROOT : Fld := ⟨0x0E000010, 4, 4⟩
def GALLERY_STATUS_STATE : Fld := ⟨0x0E000010, 1, 0⟩
def GALLERY_EPOCH_EPOCH : Fld := ⟨0x0E000011, 31, 0⟩
def ROSTER_IN_ROSTER : Fld := ⟨0x0E000012, 31, 16⟩
def ROSTER_PRESENT : Fld := ⟨0x0E000012, 15, 0⟩
def LOCAL_DIGEST_DIGEST : Fld := ⟨0x0E000013, 31, 0⟩
def ROOT_DIGEST_DIGEST : Fld := ⟨0x0E000014, 31, 0⟩
def ROOT_VERSION_VERSION : Fld := ⟨0x0E000015, 31, 0⟩
def TIME_ERROR_ERR : Fld := ⟨0x0E000016, 63, 0⟩
def GX_ID_ID : Fld := ⟨0x0E000020, 31, 0⟩
def GX_LAST_ID : Fld := ⟨0x0E000021, 31, 0⟩
def GX_STATUS_STATE : Fld := ⟨0x0E000022, 1, 0⟩
def GX_FN_FN : Fld := ⟨0x0E000023, 63, 0⟩
def GALLERY_COMMAND_RING_RELEARN : Fld := ⟨0x0E00002F, 2, 2⟩
def GALLERY_COMMAND_GX_DISCARD : Fld := ⟨0x0E00002F, 1, 1⟩
def GALLERY_COMMAND_GX_CATCHUP : Fld := ⟨0x0E00002F, 0, 0⟩
def WINDOW_DISCARD_T2_COUNT : Fld := ⟨0x0E000030, 63, 0⟩
def WINDOW_DISCARD_T3_COUNT : Fld := ⟨0x0E000031, 63, 0⟩
def RING_CRC_BAD_COUNT : Fld := ⟨0x0E000032, 63, 0⟩
def QUARANTINES_COUNT : Fld := ⟨0x0E000033, 63, 0⟩
def MUTES_COUNT : Fld := ⟨0x0E000034, 63, 0⟩
def GX_ABORTS_COUNT : Fld := ⟨0x0E000035, 63, 0⟩
def GALLERY_STICKY_GX_HELD : Fld := ⟨0x0E000040, 7, 7⟩
def GALLERY_STICKY_GX_ABORTED : Fld := ⟨0x0E000040, 6, 6⟩
def GALLERY_STICKY_SEAT_CONFLICT : Fld := ⟨0x0E000040, 5, 5⟩
def GALLERY_STICKY_ROOT_CONFLICT : Fld := ⟨0x0E000040, 4, 4⟩
def GALLERY_STICKY_EPOCH_CHG : Fld := ⟨0x0E000040, 3, 3⟩
def GALLERY_STICKY_ROOT_CHG : Fld := ⟨0x0E000040, 2, 2⟩
def GALLERY_STICKY_MUTED : Fld := ⟨0x0E000040, 1, 1⟩
def GALLERY_STICKY_QUARANTINED : Fld := ⟨0x0E000040, 0, 0⟩
def GALLERY_INT_EN_ENABLE : Fld := ⟨0x0E000041, 31, 0⟩
def Q_CONFIG_IDLE_BYTE : Fld := ⟨0x0F000000, 15, 8⟩
def Q_CONFIG_PORT : Fld := ⟨0x0F000000, 7, 5⟩
def Q_CONFIG_ROUTE : Fld := ⟨0x0F000000, 4, 3⟩
def Q_CONFIG_FCS32 : Fld := ⟨0x0F000000, 2, 2⟩
def Q_CONFIG_MODE : Fld := ⟨0x0F000000, 0, 0⟩
def Q_DEPTH_EXT_DEPTH : Fld := ⟨0x0F000001, 31, 16⟩
def Q_DEPTH_INS_DEPTH : Fld := ⟨0x0F000001, 15, 0⟩
def Q_LIMITS_MAX_LEN : Fld := ⟨0x0F000002, 31, 20⟩
def Q_LIMITS_FLAGS_MIN : Fld := ⟨0x0F000002, 19, 16⟩
def Q_LIMITS_HIGH_WM : Fld := ⟨0x0F000002, 15, 8⟩
def Q_LIMITS_LOW_WM : Fld := ⟨0x0F000002, 7, 0⟩
def Q_STATUS_EXT_FILL : Fld := ⟨0x0F000003, 31, 21⟩
def Q_STATUS_INS_FILL : Fld := ⟨0x0F000003, 20, 10⟩
def Q_STATUS_EXT_PKTS : Fld := ⟨0x0F000003, 9, 1⟩
def Q_STATUS_FC : Fld := ⟨0x0F000003, 0, 0⟩
def Q_CONTROL_FLUSH_INS : Fld := ⟨0x0F000006, 1, 1⟩
def Q_CONTROL_FLUSH_EXT : Fld := ⟨0x0F000006, 0, 0⟩
def Q_STICKY_RX_ERROR : Fld := ⟨0x0F000007, 2, 2⟩
def Q_STICKY_INS_GAP : Fld := ⟨0x0F000007, 1, 1⟩
def Q_STICKY_EXT_GAP : Fld := ⟨0x0F000007, 0, 0⟩
def Q_INT_EN_ENABLE : Fld := ⟨0x0F000008, 31, 0⟩
def EXT_FRAMES_COUNT : Fld := ⟨0x0F000009, 63, 0⟩
def EXT_DROPPED_COUNT : Fld := ⟨0x0F00000A, 63, 0⟩
def INS_FRAMES_COUNT : Fld := ⟨0x0F00000B, 63, 0⟩
def INS_DROPPED_COUNT : Fld := ⟨0x0F00000C, 63, 0⟩
def RX_ERRORS_COUNT : Fld := ⟨0x0F00000D, 63, 0⟩
def DCC_PORT_CONFIG_DIN_EDGE : Fld := ⟨0x0F200000, 1, 1⟩
def DCC_PORT_CONFIG_ENABLE : Fld := ⟨0x0F200000, 0, 0⟩
def DCC_PORT_STATUS_FC : Fld := ⟨0x0F200001, 1, 1⟩
def DCC_PORT_STATUS_CLK_PRESENT : Fld := ⟨0x0F200001, 0, 0⟩
def MGMT_DCC_ENABLE : Fld := ⟨0x0FF00000, 31, 31⟩
def MGMT_DCC_LANE : Fld := ⟨0x0FF00000, 8, 2⟩
def MGMT_DCC_CHANNEL : Fld := ⟨0x0FF00000, 1, 0⟩
def MGMT_DCC_FRAMES_COUNT : Fld := ⟨0x0FF00001, 63, 0⟩
def PM_LANE_CONFIG_SES_PCT : Fld := ⟨0x10000000, 15, 8⟩
def PM_LANE_CONFIG_PROFILE_L : Fld := ⟨0x10000000, 5, 4⟩
def PM_LANE_CONFIG_PROFILE_S : Fld := ⟨0x10000000, 3, 2⟩
def PM_LANE_CONFIG_PM_ENABLE : Fld := ⟨0x10000000, 0, 0⟩
def PM_DEVICE_CONFIG_WATCH_SES_PCT : Fld := ⟨0x10F00000, 24, 17⟩
def PM_DEVICE_CONFIG_DAY_OFFSET : Fld := ⟨0x10F00000, 16, 0⟩
def PM_READ_SEL_KIND : Fld := ⟨0x10F00001, 61, 61⟩
def PM_READ_SEL_POINT : Fld := ⟨0x10F00001, 60, 48⟩
def PM_READ_SEL_START : Fld := ⟨0x10F00001, 47, 0⟩
def PM_NEWEST_START : Fld := ⟨0x10F00003, 47, 0⟩
def TCA_DROPPED_COUNT : Fld := ⟨0x10F00031, 63, 0⟩
def PM_STICKY_DAY_CLOSED : Fld := ⟨0x10F00032, 3, 3⟩
def PM_STICKY_QTR_CLOSED : Fld := ⟨0x10F00032, 2, 2⟩
def PM_STICKY_TCA_LOST : Fld := ⟨0x10F00032, 1, 1⟩
def PM_STICKY_TCA : Fld := ⟨0x10F00032, 0, 0⟩
def PM_INT_EN_ENABLE : Fld := ⟨0x10F00033, 31, 0⟩
def SESSION_STATUS_OPEN : Fld := ⟨0x11000000, 31, 31⟩
def SESSION_STATUS_AUTH : Fld := ⟨0x11000000, 30, 30⟩
def SESSION_STATUS_TRANSPORT : Fld := ⟨0x11000000, 29, 28⟩
def SESSION_STATUS_PARTITION : Fld := ⟨0x11000000, 27, 25⟩
def SESSION_STATUS_TXN_OPEN : Fld := ⟨0x11000000, 24, 24⟩
def SESSION_STATUS_CLAIMS : Fld := ⟨0x11000000, 23, 16⟩
def SESSION_STATUS_GENERATION : Fld := ⟨0x11000000, 15, 0⟩
def SESSION_PEER_MAC : Fld := ⟨0x11000001, 47, 0⟩
def SESSION_SEQ_NEXT : Fld := ⟨0x11000002, 31, 0⟩
def SESSION_CONTROL_CLOSE : Fld := ⟨0x11000003, 0, 0⟩
def FOLLA_CONFIG_LEASE_DEFAULT : Fld := ⟨0x11F00000, 31, 16⟩
def FOLLA_CONFIG_IDLE_DEFAULT : Fld := ⟨0x11F00000, 15, 4⟩
def FOLLA_CONFIG_SPI_EN : Fld := ⟨0x11F00000, 1, 1⟩
def FOLLA_CONFIG_ETH_EN : Fld := ⟨0x11F00000, 0, 0⟩
def TXN_PENDING_COUNT : Fld := ⟨0x11F00001, 4, 0⟩
def EVENT_SUMMARY_AREAS : Fld := ⟨0x11F00010, 24, 0⟩
def INT_ROUTE_0_AREAS : Fld := ⟨0x11F00011, 24, 0⟩
def INT_ROUTE_1_AREAS : Fld := ⟨0x11F00012, 24, 0⟩
def FOLLA_STICKY_LEASE_EXPIRED : Fld := ⟨0x11F00020, 4, 4⟩
def FOLLA_STICKY_SESSION_EXPIRED : Fld := ⟨0x11F00020, 3, 3⟩
def FOLLA_STICKY_EVENTS_LOST : Fld := ⟨0x11F00020, 2, 2⟩
def FOLLA_STICKY_SPI_OVERFLOW : Fld := ⟨0x11F00020, 1, 1⟩
def FOLLA_STICKY_AUTH_FAIL : Fld := ⟨0x11F00020, 0, 0⟩
def FOLLA_INT_EN_ENABLE : Fld := ⟨0x11F00021, 31, 0⟩
def FOLLA_DISCARDS_COUNT : Fld := ⟨0x11F00030, 63, 0⟩
def AUTH_FAILS_COUNT : Fld := ⟨0x11F00031, 63, 0⟩
def SEQ_DISCARDS_COUNT : Fld := ⟨0x11F00032, 63, 0⟩
def SPI_DROPPED_COUNT : Fld := ⟨0x11F00033, 63, 0⟩
def MAC_CONFIG_BCAST_EN : Fld := ⟨0x12000000, 4, 4⟩
def MAC_CONFIG_AN_EN : Fld := ⟨0x12000000, 3, 3⟩
def MAC_CONFIG_MODE : Fld := ⟨0x12000000, 2, 1⟩
def MAC_CONFIG_ENABLE : Fld := ⟨0x12000000, 0, 0⟩
def MAC_STATUS_AN_DONE : Fld := ⟨0x12000001, 5, 5⟩
def MAC_STATUS_PAUSE_IGNORED : Fld := ⟨0x12000001, 4, 4⟩
def MAC_STATUS_PAUSED : Fld := ⟨0x12000001, 3, 3⟩
def MAC_STATUS_SPEED : Fld := ⟨0x12000001, 2, 1⟩
def MAC_STATUS_LINK_UP : Fld := ⟨0x12000001, 0, 0⟩
def ADDR_EN : Fld := ⟨0x12000008, 63, 63⟩
def ADDR_ADDR : Fld := ⟨0x12000008, 47, 0⟩
def TX_QMAP_QUEUE : Fld := ⟨0x12000010, 9, 0⟩
def TX_QUEUE_STATUS_FILL : Fld := ⟨0x12000011, 31, 0⟩
def PAUSE_CONFIG_RX_PAUSE_EN : Fld := ⟨0x12000012, 31, 31⟩
def PAUSE_CONFIG_TX_PAUSE_EN : Fld := ⟨0x12000012, 30, 30⟩
def PAUSE_CONFIG_PAUSE_WD : Fld := ⟨0x12000012, 15, 0⟩
def WAKE_CONFIG_WAKE_SOURCE : Fld := ⟨0x12000013, 1, 1⟩
def WAKE_CONFIG_WAKE_EN : Fld := ⟨0x12000013, 0, 0⟩
def WAKE_PATTERN_PATTERN : Fld := ⟨0x12000014, 63, 0⟩
def MAC_STICKY_STATS_HALF : Fld := ⟨0x12000018, 2, 2⟩
def MAC_STICKY_PAUSE_WD : Fld := ⟨0x12000018, 1, 1⟩
def MAC_STICKY_LINK : Fld := ⟨0x12000018, 0, 0⟩
def MAC_INT_EN_ENABLE : Fld := ⟨0x12000019, 31, 0⟩
def HALF_MAP_MAP : Fld := ⟨0x1200001A, 31, 0⟩
def STATS_CONTROL_CLEAR : Fld := ⟨0x1200001F, 1, 1⟩
def STATS_CONTROL_SNAPSHOT : Fld := ⟨0x1200001F, 0, 0⟩
def MAC_COUNTER_COUNT : Fld := ⟨0x12000020, 31, 0⟩
def ENGINE_STATUS_GENERATION : Fld := ⟨0x13000000, 31, 16⟩
def ENGINE_STATUS_SPARE : Fld := ⟨0x13000000, 3, 3⟩
def ENGINE_STATUS_STATE : Fld := ⟨0x13000000, 2, 0⟩
def TEMPO_COUNT_COUNT : Fld := ⟨0x13000010, 63, 0⟩
def TEMPO_SNAP_COUNT : Fld := ⟨0x13000011, 63, 0⟩
def PC_COUNT_COUNT : Fld := ⟨0x13000018, 47, 0⟩
def PC_SNAP_COUNT : Fld := ⟨0x13000020, 47, 0⟩
def PC_THRESH_THRESH : Fld := ⟨0x13000028, 47, 0⟩
def PC_CONFIG_THRESH_FREEZE : Fld := ⟨0x13000030, 10, 10⟩
def PC_CONFIG_CHAIN : Fld := ⟨0x13000030, 9, 9⟩
def PC_CONFIG_ENABLE : Fld := ⟨0x13000030, 8, 8⟩
def PC_CONFIG_EVENT : Fld := ⟨0x13000030, 7, 0⟩
def PC_CONTROL_CLEAR : Fld := ⟨0x1300003F, 2, 2⟩
def PC_CONTROL_SNAPSHOT : Fld := ⟨0x1300003F, 1, 1⟩
def PC_CONTROL_FREEZE : Fld := ⟨0x1300003F, 0, 0⟩
def PC_STICKY_THRESH : Fld := ⟨0x13000040, 13, 8⟩
def PC_STICKY_WRAP : Fld := ⟨0x13000040, 5, 0⟩
def PC_INT_EN_ENABLE : Fld := ⟨0x13000041, 31, 0⟩
def BANK_STATUS_OWNER_GEN : Fld := ⟨0x14000000, 31, 16⟩
def BANK_STATUS_OWNER : Fld := ⟨0x14000000, 15, 0⟩
def BANK_POWER_POWER : Fld := ⟨0x14000001, 1, 0⟩
def BANK_CONFIG_CLEAR_ON_WAKE : Fld := ⟨0x14000002, 2, 2⟩
def BANK_CONFIG_DORMANT_MODE : Fld := ⟨0x14000002, 1, 1⟩
def BANK_CONFIG_DOZE_MODE : Fld := ⟨0x14000002, 0, 0⟩
def CORR_COUNT : Fld := ⟨0x14000010, 63, 0⟩
def UNCORR_COUNT : Fld := ⟨0x14000011, 63, 0⟩
def DMA_COLLIDE_COUNT : Fld := ⟨0x14000012, 63, 0⟩
def DMA_ADDR_ROTATE : Fld := ⟨0x14F00000, 32, 32⟩
def DMA_ADDR_BANK : Fld := ⟨0x14F00000, 31, 24⟩
def DMA_ADDR_OFFSET : Fld := ⟨0x14F00000, 20, 0⟩
def SCRUB_PERIOD_SECONDS : Fld := ⟨0x14F00010, 15, 0⟩
def MEM_STICKY_SCRUB_LATE : Fld := ⟨0x14F00020, 3, 3⟩
def MEM_STICKY_REVOKED : Fld := ⟨0x14F00020, 2, 2⟩
def MEM_STICKY_COLLIDE : Fld := ⟨0x14F00020, 1, 1⟩
def MEM_STICKY_UNCORR : Fld := ⟨0x14F00020, 0, 0⟩
def MEM_INT_EN_ENABLE : Fld := ⟨0x14F00021, 31, 0⟩
def FAULT_CONFIG_REINIT_LIMIT : Fld := ⟨0x15F00000, 15, 8⟩
def FAULT_CONFIG_FATAL_TO_FLASH : Fld := ⟨0x15F00000, 2, 2⟩
def FAULT_CONFIG_AUTO_RESET : Fld := ⟨0x15F00000, 1, 1⟩
def FAULT_CONFIG_CORR_LOG : Fld := ⟨0x15F00000, 0, 0⟩
def FAULT_STATUS_FATAL : Fld := ⟨0x15F00001, 31, 31⟩
def FAULT_STATUS_HANDLING : Fld := ⟨0x15F00001, 30, 30⟩
def FAULT_STATUS_OUTSTANDING : Fld := ⟨0x15F00001, 23, 16⟩
def FAULT_NEWEST_RECORD : Fld := ⟨0x15F00002, 31, 0⟩
def FAULT_INFO_COUNT : Fld := ⟨0x15F00003, 8, 0⟩
def FAULT_ACK_RECORD : Fld := ⟨0x15F00005, 31, 0⟩
def FAULT_DECLARE_PARTY : Fld := ⟨0x15F00006, 31, 0⟩
def REINIT_SUBSYSTEM : Fld := ⟨0x15F00007, 13, 8⟩
def REINIT_INSTANCE : Fld := ⟨0x15F00007, 7, 0⟩
def REINIT_STATUS_LAST : Fld := ⟨0x15F00008, 15, 8⟩
def REINIT_STATUS_HALTED : Fld := ⟨0x15F00008, 1, 1⟩
def REINIT_STATUS_BUSY : Fld := ⟨0x15F00008, 0, 0⟩
def DEVICE_RESET_KEY : Fld := ⟨0x15F00009, 31, 0⟩
def CORRECTED_COUNT_COUNT : Fld := ⟨0x15F00010, 63, 0⟩
def CONTAINED_COUNT_COUNT : Fld := ⟨0x15F00011, 63, 0⟩
def ABANDONED_COUNT_COUNT : Fld := ⟨0x15F00012, 63, 0⟩
def STALE_OPS_COUNT : Fld := ⟨0x15F00013, 63, 0⟩
def LOG_OVERWRITE_COUNT : Fld := ⟨0x15F00014, 63, 0⟩
def FAULT_STICKY_WARM_RESET : Fld := ⟨0x15F00020, 6, 6⟩
def FAULT_STICKY_LOG_WRAP : Fld := ⟨0x15F00020, 5, 5⟩
def FAULT_STICKY_ABANDONED : Fld := ⟨0x15F00020, 4, 4⟩
def FAULT_STICKY_REVOKED : Fld := ⟨0x15F00020, 3, 3⟩
def FAULT_STICKY_ESCALATE : Fld := ⟨0x15F00020, 2, 2⟩
def FAULT_STICKY_CONTAINED : Fld := ⟨0x15F00020, 1, 1⟩
def FAULT_STICKY_CORRECTED : Fld := ⟨0x15F00020, 0, 0⟩
def FAULT_INT_EN_ENABLE : Fld := ⟨0x15F00021, 31, 0⟩
def CVU_CONFIG_ALGO : Fld := ⟨0x15200000, 1, 0⟩
def CVU_VALUE_VALUE : Fld := ⟨0x15200001, 31, 0⟩
def CVU_RESULT_RESULT : Fld := ⟨0x15200002, 31, 0⟩
def CVU_BYTE_BYTE : Fld := ⟨0x15200004, 7, 0⟩
def CVU_RANGE_BANK : Fld := ⟨0x15200005, 63, 56⟩
def CVU_RANGE_OFFSET : Fld := ⟨0x15200005, 52, 32⟩
def CVU_RANGE_LENGTH : Fld := ⟨0x15200005, 31, 0⟩
def CVU_CONTROL_START : Fld := ⟨0x15200006, 0, 0⟩
def CVU_STATUS_UNCORR : Fld := ⟨0x15200007, 1, 1⟩
def CVU_STATUS_BUSY : Fld := ⟨0x15200007, 0, 0⟩
def POWER_STATE_STATE : Fld := ⟨0x16000000, 1, 0⟩
def POWER_STATUS_VCORE_MV : Fld := ⟨0x16000001, 31, 16⟩
def POWER_STATUS_VCORE_KEEP : Fld := ⟨0x16000001, 15, 10⟩
def POWER_STATUS_PMBUS_HOLD : Fld := ⟨0x16000001, 4, 4⟩
def POWER_STATUS_THROTTLE : Fld := ⟨0x16000001, 3, 3⟩
def POWER_STATUS_CAP_OVERRIDDEN : Fld := ⟨0x16000001, 2, 2⟩
def POWER_STATUS_STATE : Fld := ⟨0x16000001, 1, 0⟩
def SUPPLY_CONFIG_SLACK_FLOOR : Fld := ⟨0x16000002, 31, 16⟩
def SUPPLY_CONFIG_VCORE_MAX : Fld := ⟨0x16000002, 11, 6⟩
def SUPPLY_CONFIG_VCORE_MIN : Fld := ⟨0x16000002, 5, 0⟩
def SUPPLY_TUNE_SLACK_BAND : Fld := ⟨0x16000003, 31, 16⟩
def SUPPLY_TUNE_DOWN_INTERVAL : Fld := ⟨0x16000003, 15, 0⟩
def POWER_CAP_POLICY : Fld := ⟨0x16000004, 31, 31⟩
def POWER_CAP_CAP : Fld := ⟨0x16000004, 17, 0⟩
def THERMAL_CONFIG_THROTTLE_C : Fld := ⟨0x16000005, 15, 8⟩
def THERMAL_CONFIG_WARN_C : Fld := ⟨0x16000005, 7, 0⟩
def POWER_NOW_MW : Fld := ⟨0x16000010, 31, 0⟩
def TEMP_MAX_SENSOR : Fld := ⟨0x16000011, 19, 16⟩
def TEMP_MAX_TEMP : Fld := ⟨0x16000011, 15, 0⟩
def CAP_OVERRIDE_FRAMES_COUNT : Fld := ⟨0x16000012, 63, 0⟩
def THROTTLE_FRAMES_COUNT : Fld := ⟨0x16000013, 63, 0⟩
def VCORE_STEPS_COUNT : Fld := ⟨0x16000014, 63, 0⟩
def POWER_STICKY_SUPPLY_LIMIT : Fld := ⟨0x16000020, 4, 4⟩
def POWER_STICKY_TEMP_WARN : Fld := ⟨0x16000020, 3, 3⟩
def POWER_STICKY_THROTTLE : Fld := ⟨0x16000020, 2, 2⟩
def POWER_STICKY_CAP_OVERRIDDEN : Fld := ⟨0x16000020, 1, 1⟩
def POWER_STICKY_STATE_CHG : Fld := ⟨0x16000020, 0, 0⟩
def POWER_INT_EN_ENABLE : Fld := ⟨0x16000021, 31, 0⟩
def RAIL_CONFIG_ENABLE : Fld := ⟨0x16100000, 31, 31⟩
def RAIL_CONFIG_ADDRESS : Fld := ⟨0x16100000, 14, 8⟩
def RAIL_CONFIG_PAGE : Fld := ⟨0x16100000, 7, 0⟩
def RAIL_TELEMETRY_MV : Fld := ⟨0x16100001, 63, 32⟩
def RAIL_TELEMETRY_MA : Fld := ⟨0x16100001, 31, 0⟩
def VAULT_STATUS_KEYS : Fld := ⟨0x17000000, 15, 8⟩
def VAULT_STATUS_BUSY : Fld := ⟨0x17000000, 7, 7⟩
def VAULT_STATUS_BOOT_SERVICE : Fld := ⟨0x17000000, 6, 6⟩
def VAULT_STATUS_ENTROPY_OK : Fld := ⟨0x17000000, 5, 5⟩
def VAULT_STATUS_HALTED : Fld := ⟨0x17000000, 4, 4⟩
def VAULT_STATUS_TAMPERED : Fld := ⟨0x17000000, 3, 3⟩
def VAULT_STATUS_LIFECYCLE : Fld := ⟨0x17000000, 2, 0⟩
def FW_VERSION_VERSION : Fld := ⟨0x17000001, 31, 0⟩
def FW_ROLLBACK_MIN_VERSION : Fld := ⟨0x17000002, 31, 0⟩
def WIPE_COUNT_COUNT : Fld := ⟨0x17000003, 7, 0⟩
def DEVICE_SERIAL_SERIAL : Fld := ⟨0x17000004, 63, 0⟩
def FW_CONTROL_ACTIVATE : Fld := ⟨0x17000011, 1, 1⟩
def FW_CONTROL_VERIFY : Fld := ⟨0x17000011, 0, 0⟩
def FW_STATUS_ACTIVE_SLOT : Fld := ⟨0x17000012, 7, 7⟩
def FW_STATUS_RESULT : Fld := ⟨0x17000012, 2, 0⟩
def LIFECYCLE_TARGET_STATE : Fld := ⟨0x17000020, 2, 0⟩
def WIPE_KEY : Fld := ⟨0x17000032, 31, 0⟩
def TAMPER_CONFIG_POLICY : Fld := ⟨0x17000040, 8, 8⟩
def TAMPER_CONFIG_POLARITY : Fld := ⟨0x17000040, 7, 4⟩
def TAMPER_CONFIG_ENABLE : Fld := ⟨0x17000040, 3, 0⟩
def TAMPER_STATUS_LEVEL : Fld := ⟨0x17000041, 7, 4⟩
def TAMPER_STATUS_LATCHED : Fld := ⟨0x17000041, 3, 0⟩
def TAMPER_EVENTS_COUNT : Fld := ⟨0x17000042, 63, 0⟩
def VAULT_STICKY_ENTROPY_FAIL : Fld := ⟨0x17000050, 4, 4⟩
def VAULT_STICKY_IMPORT_FAIL : Fld := ⟨0x17000050, 3, 3⟩
def VAULT_STICKY_FW_FAIL : Fld := ⟨0x17000050, 2, 2⟩
def VAULT_STICKY_WIPED : Fld := ⟨0x17000050, 1, 1⟩
def VAULT_STICKY_TAMPER : Fld := ⟨0x17000050, 0, 0⟩
def VAULT_INT_EN_ENABLE : Fld := ⟨0x17000051, 31, 0⟩
def KEY_SLOT_STATUS_INSTALLED : Fld := ⟨0x17100000, 0, 0⟩
def STRAPS_MAC_SEL : Fld := ⟨0x00000001, 2, 2⟩
def STRAPS_BOOT_SEL : Fld := ⟨0x00000001, 1, 1⟩
def STRAPS_TSEAT : Fld := ⟨0x00000001, 0, 0⟩
def UPIN_CONFIG_FRAME_ALIGN : Fld := ⟨0x18000000, 15, 15⟩
def UPIN_CONFIG_IDLE : Fld := ⟨0x18000000, 14, 14⟩
def UPIN_CONFIG_UNIT : Fld := ⟨0x18000000, 11, 8⟩
def UPIN_CONFIG_FUNC : Fld := ⟨0x18000000, 3, 0⟩
def UPIN_STATUS_PENDING : Fld := ⟨0x18000001, 2, 2⟩
def UPIN_STATUS_DRIVING : Fld := ⟨0x18000001, 1, 1⟩
def UPIN_STATUS_PARKED : Fld := ⟨0x18000001, 0, 0⟩
def GPIO_OUT_LEVEL : Fld := ⟨0x18F00000, 31, 0⟩
def GPIO_IN_LEVEL : Fld := ⟨0x18F00001, 31, 0⟩
def MODES_ACTIVE_SEALED : Fld := ⟨0x01000001, 5, 5⟩
def MODES_ACTIVE_ROOT : Fld := ⟨0x01000001, 4, 4⟩
def MODES_ACTIVE_PARTITIONED : Fld := ⟨0x01000001, 3, 3⟩
def MODES_ACTIVE_GALLERY : Fld := ⟨0x01000001, 2, 2⟩
def MODES_ACTIVE_TANDEM : Fld := ⟨0x01000001, 1, 1⟩
def MODES_ACTIVE_CADENCE : Fld := ⟨0x01000001, 0, 0⟩
def MODES_FN_FN : Fld := ⟨0x01000002, 47, 0⟩
def LANE_STATE_STATE : Fld := ⟨0x02000002, 31, 0⟩
def RX_FREQ_OFFSET_OFFSET : Fld := ⟨0x02000020, 31, 0⟩
def RX_PIN_DELAY_FS : Fld := ⟨0x02000021, 31, 0⟩
def TX_PIN_DELAY_FS : Fld := ⟨0x02000022, 31, 0⟩

end F

/-! ### Rows of the dictionary, by area -/

/-- Area 0x00, part 0. -/
def rows00p0 : List ObjRow :=
  [⟨0x00000000, 0, 0, 1, 1, .ro, 0x774000A1, 0x0, 0x0, 0⟩,
   ⟨0x00000001, 0, 0, 1, 1, .ro, 0x0, 0x0, 0x0, 0⟩]

/-- The rows of area 0x00. -/
def rows00 : List ObjRow := rows00p0

/-- Area 0x01, part 0. -/
def rows01p0 : List ObjRow :=
  [⟨0x01000000, 0, 0, 1, 1, .rws, 0x1, 0x3F, 0x0, 0⟩,
   ⟨0x01000010, 1, 7, 1, 1, .rws, 0x0, 0x1, 0x0, 0⟩,
   ⟨0x01000011, 1, 7, 1, 1, .rws, 0x0, 0xFFFFFFFF, 0x0, 0⟩,
   ⟨0x01000012, 1, 7, 1, 1, .rws, 0x0, 0xFFFFFFFF, 0x0, 0⟩,
   ⟨0x01000013, 1, 7, 1, 1, .rws, 0x0, 0xFFFFFFFF, 0x0, 0⟩,
   ⟨0x01000014, 1, 7, 1, 1, .rws, 0x0, 0xFF, 0x0, 0⟩,
   ⟨0x01000015, 1, 7, 1, 1, .ro, 0x0, 0x0, 0x0, 0⟩,
   ⟨0x01000014, 0, 0, 1, 1, .rws, 0xFF, 0xFF, 0x0, 0⟩,
   ⟨0x01000001, 0, 0, 1, 1, .ro, 0x1, 0x0, 0x0, 0⟩,
   ⟨0x01000002, 0, 0, 1, 2, .ro, 0x0, 0x0, 0x0, 0⟩]

/-- The rows of area 0x01. -/
def rows01 : List ObjRow := rows01p0

/-- Area 0x02, part 0. -/
def rows02p0 : List ObjRow :=
  [⟨0x02000000, 0, 95, 1, 1, .rws, 0x0, 0x1FF3, 0x0, 0⟩,
   ⟨0x02000001, 0, 95, 1, 1, .rws, 0x1896402, 0xFFFFFFFF, 0x0, 0⟩,
   ⟨0x02000003, 0, 95, 1, 1, .ro, 0x0, 0x0, 0x0, 0⟩,
   ⟨0x02000004, 0, 95, 1, 1, .w1c, 0x0, 0x3F, 0x0, 0⟩,
   ⟨0x02000005, 0, 95, 1, 1, .rw, 0x0, 0xFFFFFFFF, 0x0, 0⟩,
   ⟨0x02000010, 0, 95, 1, 1, .rws, 0xC4200, 0xFFF07, 0x0, 0⟩,
   ⟨0x02000011, 0, 95, 1, 1, .rws, 0xC00, 0xFFB, 0x0, 0⟩,
   ⟨0x02000012, 0, 95, 1, 1, .ro, 0x0, 0x0, 0x0, 0⟩,
   ⟨0x02000040, 0, 95, 1, 2, .ro, 0x0, 0x0, 0x0, 0⟩,
   ⟨0x02000041, 0, 95, 1, 2, .ro, 0x0, 0x0, 0x0, 0⟩,
   ⟨0x02000042, 0, 95, 1, 2, .ro, 0x0, 0x0, 0x0, 0⟩,
   ⟨0x02000043, 0, 95, 1, 2, .ro, 0x0, 0x0, 0x0, 0⟩,
   ⟨0x0200004F, 0, 95, 1, 1, .wo, 0x0, 0x0, 0x3, 0⟩,
   ⟨0x02000050, 0, 95, 17, 2, .ro, 0x0, 0x0, 0x0, 0⟩,
   ⟨0x02000030, 0, 95, 1, 1, .rws, 0x0, 0x7, 0x0, 0⟩,
   ⟨0x02000031, 0, 95, 1, 1, .rws, 0x0, 0xFF, 0x100, 0⟩,
   ⟨0x02000032, 0, 95, 1, 1, .ro, 0x0, 0x0, 0x0, 0⟩,
   ⟨0x02000033, 0, 95, 1, 2, .rc, 0x0, 0x0, 0x0, 0⟩,
   ⟨0x02100000, 0, 11, 1, 1, .rws, 0x0, 0x1, 0x0, 0⟩,
   ⟨0x02100001, 0, 11, 1, 1, .ro, 0x0, 0x0, 0x0, 0⟩,
   ⟨0x02000002, 0, 95, 1, 1, .ro, 0x0, 0x0, 0x0, 0⟩,
   ⟨0x02000020, 0, 95, 1, 1, .ro, 0x0, 0x0, 0x0, 0⟩,
   ⟨0x02000021, 0, 95, 1, 1, .ro, 0x0, 0x0, 0x0, 0⟩,
   ⟨0x02000022, 0, 95, 1, 1, .ro, 0x0, 0x0, 0x0, 0⟩]

/-- The rows of area 0x02. -/
def rows02 : List ObjRow := rows02p0

/-- Area 0x03, part 0. -/
def rows03p0 : List ObjRow :=
  [⟨0x03000000, 0, 95, 1, 1, .rws, 0x0, 0xFFFFFFFF, 0x0, 0⟩,
   ⟨0x03000001, 0, 95, 1, 1, .rws, 0x0, 0xFFFFFFFF, 0x0, 0⟩,
   ⟨0x03000002, 0, 95, 1, 1, .rws, 0x4, 0xFF07, 0x0, 0⟩,
   ⟨0x03000003, 0, 95, 1, 1, .rws, 0x0, 0x2, 0x4, 0⟩,
   ⟨0x03000010, 0, 95, 1, 1, .ro, 0x0, 0x0, 0x0, 0⟩,
   ⟨0x03000011, 0, 95, 1, 1, .ro, 0xFFFF, 0x0, 0x0, 0⟩,
   ⟨0x03000012, 0, 95, 1, 1, .ro, 0x0, 0x0, 0x0, 0⟩,
   ⟨0x03000013, 0, 95, 1, 1, .ro, 0x0, 0x0, 0x0, 0⟩,
   ⟨0x03000014, 0, 95, 1, 1, .ro, 0x0, 0x0, 0x0, 0⟩,
   ⟨0x03000015, 0, 95, 1, 1, .ro, 0x0, 0x0, 0x0, 0⟩,
   ⟨0x03000020, 0, 95, 1, 1, .w1c, 0x0, 0xFF, 0x0, 0⟩,
   ⟨0x03000021, 0, 95, 1, 1, .rw, 0x0, 0xFFFFFFFF, 0x0, 0⟩]

/-- The rows of area 0x03. -/
def rows03 : List ObjRow := rows03p0

/-- Area 0x04, part 0. -/
def rows04p0 : List ObjRow :=
  [⟨0x04000000, 0, 95, 1, 1, .rws, 0x60, 0xFF9, 0x0, 0⟩,
   ⟨0x04000001, 0, 95, 1, 1, .rws, 0x10F, 0xFF0F, 0x0, 0⟩,
   ⟨0x04000002, 0, 95, 1, 1, .ro, 0xF, 0x0, 0x0, 0⟩,
   ⟨0x04000003, 0, 95, 1, 1, .rws, 0x0, 0x3FF, 0x0, 0⟩,
   ⟨0x04000004, 0, 95, 1, 1, .rws, 0x0, 0xFFFFFFFF, 0x0, 16⟩,
   ⟨0x04000005, 0, 95, 1, 1, .rws, 0x0, 0xFFFFFFFF, 0x0, 16⟩,
   ⟨0x04000006, 0, 95, 1, 1, .ro, 0x0, 0x0, 0x0, 16⟩,
   ⟨0x04000010, 0, 95, 1, 2, .ro, 0x0, 0x0, 0x0, 0⟩,
   ⟨0x04000011, 0, 95, 1, 2, .ro, 0x0, 0x0, 0x0, 0⟩,
   ⟨0x04000012, 0, 95, 1, 2, .ro, 0x0, 0x0, 0x0, 0⟩,
   ⟨0x04000013, 0, 95, 1, 2, .ro, 0x0, 0x0, 0x0, 0⟩,
   ⟨0x0400001F, 0, 95, 1, 1, .wo, 0x0, 0x0, 0xF, 0⟩,
   ⟨0x04000020, 0, 95, 1, 1, .w1c, 0x0, 0x7, 0x0, 0⟩,
   ⟨0x04000021, 0, 95, 1, 1, .rw, 0x0, 0xFFFFFFFF, 0x0, 0⟩,
   ⟨0x04100000, 0, 95, 768, 1, .rws, 0x1010020, 0xFFFF0073, 0x0, 0⟩,
   ⟨0x04200000, 0, 95, 768, 1, .ro, 0x0, 0x0, 0x0, 0⟩,
   ⟨0x04300000, 0, 95, 768, 1, .ro, 0x0, 0x0, 0x0, 0⟩,
   ⟨0x04400000, 0, 95, 768, 1, .ro, 0x0, 0x0, 0x0, 0⟩,
   ⟨0x04500000, 0, 95, 768, 1, .ro, 0x0, 0x0, 0x0, 0⟩,
   ⟨0x04600000, 0, 95, 768, 1, .ro, 0x0, 0x0, 0x0, 0⟩,
   ⟨0x04700000, 0, 95, 768, 1, .ro, 0x0, 0x0, 0x0, 0⟩,
   ⟨0x04800000, 0, 95, 768, 1, .rw, 0x0, 0xFFFFFFFF, 0x0, 48⟩]

/-- The rows of area 0x04. -/
def rows04 : List ObjRow := rows04p0

/-- Area 0x05, part 0. -/
def rows05p0 : List ObjRow :=
  [⟨0x05000000, 0, 95, 1, 1, .rws, 0x63100000, 0xFFFF003E, 0x0, 0⟩,
   ⟨0x05000001, 0, 95, 1, 1, .ro, 0x0, 0x0, 0x0, 0⟩,
   ⟨0x05000002, 0, 95, 1, 1, .w1c, 0x0, 0xFFFFFFFF, 0x0, 0⟩,
   ⟨0x05000003, 0, 95, 1, 1, .rw, 0x0, 0xFFFFFFFF, 0x0, 0⟩,
   ⟨0x05000010, 0, 95, 1, 1, .ro, 0x0, 0x0, 0x0, 256⟩,
   ⟨0x05100000, 0, 95, 768, 1, .rws, 0x630000C8, 0xFF0000F8, 0x0, 0⟩,
   ⟨0x05200000, 0, 95, 768, 1, .ro, 0x0, 0x0, 0x0, 0⟩,
   ⟨0x05300000, 0, 95, 768, 1, .w1c, 0x0, 0xFFFFFFFF, 0x0, 0⟩,
   ⟨0x05400000, 0, 95, 768, 1, .rw, 0x0, 0xFFFFFFFF, 0x0, 0⟩]

/-- The rows of area 0x05. -/
def rows05 : List ObjRow := rows05p0

/-- Area 0x06, part 0. -/
def rows06p0 : List ObjRow :=
  [⟨0x06100000, 0, 95, 1024, 1, .rws, 0x10000000, 0xFEFF03FF, 0x0, 0⟩,
   ⟨0x06200000, 0, 95, 1024, 1, .rws, 0x10000000, 0xFEFF03FF, 0x0, 0⟩,
   ⟨0x06000040, 0, 95, 1, 1, .rws, 0x0, 0xFFFFFFFF, 0x0, 1024⟩,
   ⟨0x06000041, 0, 95, 1, 1, .rws, 0x0, 0xFFFFFFFF, 0x0, 1024⟩,
   ⟨0x06000000, 0, 95, 1, 1, .ro, 0x0, 0x0, 0x0, 0⟩,
   ⟨0x06000001, 0, 95, 1, 1, .rws, 0x20, 0x3FF, 0x0, 0⟩,
   ⟨0x06000002, 0, 95, 1, 1, .ro, 0x0, 0x0, 0x0, 0⟩,
   ⟨0x06000003, 0, 95, 1, 1, .ro, 0x0, 0x0, 0x0, 0⟩,
   ⟨0x06000004, 0, 95, 1, 1, .ro, 0x0, 0x0, 0x0, 0⟩,
   ⟨0x06000005, 0, 95, 1, 3, .ro, 0x0, 0x0, 0x0, 0⟩,
   ⟨0x06000010, 0, 95, 1, 1, .ro, 0x0, 0x0, 0x0, 0⟩,
   ⟨0x06000011, 0, 95, 1, 1, .w1c, 0x0, 0xFFFFFFFF, 0x0, 0⟩,
   ⟨0x06000012, 0, 95, 1, 1, .rw, 0x0, 0xFFFFFFFF, 0x0, 0⟩,
   ⟨0x06000020, 0, 95, 1, 2, .ro, 0x0, 0x0, 0x0, 0⟩,
   ⟨0x06000021, 0, 95, 1, 2, .ro, 0x0, 0x0, 0x0, 0⟩,
   ⟨0x06000022, 0, 95, 1, 2, .ro, 0x0, 0x0, 0x0, 0⟩,
   ⟨0x06000023, 0, 95, 1, 2, .ro, 0x0, 0x0, 0x0, 0⟩,
   ⟨0x06000024, 0, 95, 1, 2, .ro, 0x0, 0x0, 0x0, 0⟩,
   ⟨0x06000025, 0, 95, 1, 2, .ro, 0x0, 0x0, 0x0, 0⟩,
   ⟨0x06000026, 0, 95, 1, 2, .ro, 0x0, 0x0, 0x0, 0⟩,
   ⟨0x06000027, 0, 95, 1, 2, .ro, 0x0, 0x0, 0x0, 0⟩,
   ⟨0x06000028, 0, 95, 1, 2, .ro, 0x0, 0x0, 0x0, 0⟩,
   ⟨0x06000029, 0, 95, 1, 2, .ro, 0x0, 0x0, 0x0, 0⟩,
   ⟨0x0600002A, 0, 95, 1, 2, .ro, 0x0, 0x0, 0x0, 0⟩,
   ⟨0x0600002B, 0, 95, 1, 2, .ro, 0x0, 0x0, 0x0, 0⟩,
   ⟨0x0600002C, 0, 95, 1, 2, .ro, 0x0, 0x0, 0x0, 0⟩,
   ⟨0x0600002F, 0, 95, 1, 1, .wo, 0x0, 0x0, 0x3, 0⟩]

/-- The rows of area 0x06. -/
def rows06 : List ObjRow := rows06p0

/-- Area 0x07, part 0. -/
def rows07p0 : List ObjRow :=
  [⟨0x07100000, 0, 95, 1024, 2, .rws, 0x800000000, 0x1FFFFFFFFFFFFF, 0x0, 0⟩,
   ⟨0x07200000, 0, 95, 1024, 2, .ro, 0x800000000, 0x0, 0x0, 0⟩,
   ⟨0x07000000, 0, 95, 1, 1, .ro, 0x0, 0x0, 0x0, 0⟩,
   ⟨0x07000001, 0, 95, 1, 2, .ro, 0x0, 0x0, 0x0, 0⟩,
   ⟨0x07000002, 0, 95, 1, 1, .w1c, 0x0, 0x1, 0x0, 0⟩,
   ⟨0x07000003, 0, 95, 1, 1, .rw, 0x0, 0xFFFFFFFF, 0x0, 0⟩,
   ⟨0x07F00000, 0, 0, 1, 1, .ro, 0x0, 0x0, 0x0, 0⟩,
   ⟨0x07F00001, 0, 0, 1, 2, .ro, 0x0, 0x0, 0x0, 0⟩,
   ⟨0x07F00002, 0, 0, 1, 2, .ro, 0x0, 0x0, 0x0, 0⟩,
   ⟨0x07F00003, 0, 0, 1, 1, .ro, 0x0, 0x0, 0x0, 0⟩,
   ⟨0x07F00010, 0, 0, 1, 1, .rw, 0x0, 0x1FFFF, 0x0, 0⟩,
   ⟨0x07F00011, 0, 0, 1, 1, .rws, 0x0, 0xFFFFFFFF, 0x0, 196608⟩,
   ⟨0x07F00012, 0, 0, 1, 1, .ro, 0x0, 0x0, 0x0, 196608⟩,
   ⟨0x07F00020, 0, 0, 1, 1, .rws, 0x55, 0xFF, 0x0, 0⟩,
   ⟨0x07F00021, 0, 0, 1, 1, .rw, 0x0, 0xF001FFFF, 0x0, 0⟩,
   ⟨0x07F00022, 0, 0, 1, 1, .ro, 0x0, 0x0, 0x0, 0⟩,
   ⟨0x07F00023, 0, 0, 1, 2, .rc, 0x0, 0x0, 0x0, 0⟩,
   ⟨0x07F00030, 0, 0, 1, 1, .w1c, 0x0, 0x7, 0x0, 0⟩,
   ⟨0x07F00031, 0, 0, 1, 1, .rw, 0x0, 0xFFFFFFFF, 0x0, 0⟩,
   ⟨0x07F00032, 0, 0, 1, 1, .ro, 0x0, 0x0, 0x0, 0⟩]

/-- The rows of area 0x07. -/
def rows07 : List ObjRow := rows07p0

/-- Area 0x08, part 0. -/
def rows08p0 : List ObjRow :=
  [⟨0x08000000, 0, 95, 1, 1, .rws, 0x1388, 0x7FFF, 0x0, 0⟩,
   ⟨0x08000001, 0, 95, 1, 1, .ro, 0x0, 0x0, 0x0, 0⟩,
   ⟨0x08000002, 0, 95, 1, 1, .rws, 0x4E20, 0x3FFFF, 0x0, 0⟩,
   ⟨0x08000003, 0, 95, 1, 1, .ro, 0x0, 0x0, 0x0, 0⟩,
   ⟨0x08000004, 0, 95, 1, 1, .ro, 0x0, 0x0, 0x0, 0⟩,
   ⟨0x08000005, 0, 95, 1, 1, .ro, 0x0, 0x0, 0x0, 0⟩,
   ⟨0x08000010, 0, 95, 1, 1, .ro, 0x7FFFFFFF, 0x0, 0x0, 0⟩,
   ⟨0x08000011, 0, 95, 1, 1, .rc, 0x7FFFFFFF, 0x0, 0x0, 0⟩,
   ⟨0x08000012, 0, 95, 1, 2, .ro, 0x0, 0x0, 0x0, 0⟩,
   ⟨0x08000013, 0, 95, 1, 2, .ro, 0x0, 0x0, 0x0, 0⟩,
   ⟨0x08000014, 0, 95, 1, 2, .ro, 0x0, 0x0, 0x0, 0⟩,
   ⟨0x08000015, 0, 95, 1, 2, .ro, 0x0, 0x0, 0x0, 0⟩,
   ⟨0x08000016, 0, 95, 1, 2, .ro, 0x0, 0x0, 0x0, 0⟩,
   ⟨0x08000017, 0, 95, 1, 2, .ro, 0x0, 0x0, 0x0, 0⟩,
   ⟨0x08000018, 0, 95, 1, 2, .ro, 0x0, 0x0, 0x0, 0⟩,
   ⟨0x0800001F, 0, 95, 1, 1, .wo, 0x0, 0x0, 0x3, 0⟩,
   ⟨0x08000020, 0, 95, 1, 1, .w1c, 0x0, 0x3F, 0x0, 0⟩,
   ⟨0x08000021, 0, 95, 1, 1, .rw, 0x0, 0xFFFFFFFF, 0x0, 0⟩,
   ⟨0x08F00000, 0, 0, 1, 1, .rws, 0x0, 0x1FFFF, 0x0, 0⟩,
   ⟨0x08F00001, 0, 0, 1, 1, .ro, 0x7FFFFFFF, 0x0, 0x0, 0⟩,
   ⟨0x08F00002, 0, 0, 1, 1, .ro, 0x7F, 0x0, 0x0, 0⟩]

/-- The rows of area 0x08. -/
def rows08 : List ObjRow := rows08p0

/-- Area 0x09, part 0. -/
def rows09p0 : List ObjRow :=
  [⟨0x09000000, 0, 95, 1, 1, .rws, 0x8003, 0xFF003, 0x0, 0⟩,
   ⟨0x09000001, 0, 95, 1, 1, .rws, 0x3E8, 0x1FFFF, 0x0, 0⟩,
   ⟨0x09000002, 0, 95, 1, 1, .rws, 0xC8, 0xFFFF, 0x0, 0⟩,
   ⟨0x09000003, 0, 95, 1, 2, .rws, 0x0, 0xFFFFFFFFFFFF, 0x0, 0⟩,
   ⟨0x09000010, 0, 95, 1, 2, .ro, 0x0, 0x0, 0x0, 0⟩,
   ⟨0x09000011, 0, 95, 1, 2, .ro, 0x0, 0x0, 0x0, 0⟩,
   ⟨0x09000012, 0, 95, 1, 2, .ro, 0x0, 0x0, 0x0, 0⟩,
   ⟨0x09000013, 0, 95, 1, 2, .ro, 0x0, 0x0, 0x0, 0⟩,
   ⟨0x09000014, 0, 95, 1, 2, .ro, 0x0, 0x0, 0x0, 0⟩,
   ⟨0x09000015, 0, 95, 1, 2, .ro, 0x0, 0x0, 0x0, 0⟩,
   ⟨0x09000016, 0, 95, 1, 3, .ro, 0x0, 0x0, 0x0, 0⟩,
   ⟨0x09000017, 0, 95, 1, 2, .ro, 0x0, 0x0, 0x0, 0⟩,
   ⟨0x09000018, 0, 95, 1, 1, .ro, 0x0, 0x0, 0x0, 0⟩,
   ⟨0x09000019, 0, 95, 1, 1, .ro, 0x0, 0x0, 0x0, 0⟩,
   ⟨0x09000020, 0, 95, 1, 2, .ro, 0x0, 0x0, 0x0, 0⟩,
   ⟨0x09000021, 0, 95, 1, 2, .ro, 0x0, 0x0, 0x0, 0⟩,
   ⟨0x09000022, 0, 95, 1, 2, .ro, 0x0, 0x0, 0x0, 0⟩,
   ⟨0x09000023, 0, 95, 1, 2, .ro, 0x0, 0x0, 0x0, 0⟩,
   ⟨0x09000024, 0, 95, 1, 2, .ro, 0x0, 0x0, 0x0, 0⟩,
   ⟨0x09000025, 0, 95, 1, 2, .ro, 0x0, 0x0, 0x0, 0⟩,
   ⟨0x0900002F, 0, 95, 1, 1, .wo, 0x0, 0x0, 0x7, 0⟩,
   ⟨0x09000030, 0, 95, 1, 1, .w1c, 0x0, 0x1F, 0x0, 0⟩,
   ⟨0x09000031, 0, 95, 1, 1, .rw, 0x0, 0xFFFFFFFF, 0x0, 0⟩,
   ⟨0x09000040, 0, 95, 1, 1, .ro, 0x0, 0x0, 0x0, 16⟩,
   ⟨0x09100000, 0, 95, 1024, 1, .ro, 0x0, 0x0, 0x0, 9⟩]

/-- The rows of area 0x09. -/
def rows09 : List ObjRow := rows09p0

/-- Area 0x0A, part 0. -/
def rows0Ap0 : List ObjRow :=
  [⟨0x0A100000, 0, 113, 1, 1, .rws, 0x80F3E000, 0xFFFFE001, 0x0, 0⟩,
   ⟨0x0A100001, 0, 113, 1, 1, .rws, 0x989680, 0xFFFFFFFF, 0x0, 0⟩,
   ⟨0x0A100002, 0, 113, 1, 2, .rws, 0x0, 0xFFFFFFFFFFFFFFFF, 0x0, 0⟩,
   ⟨0x0A100003, 0, 113, 1, 1, .ro, 0xF0000000, 0x0, 0x0, 0⟩,
   ⟨0x0A100004, 0, 113, 1, 1, .ro, 0x0, 0x0, 0x0, 0⟩,
   ⟨0x0A100005, 0, 113, 1, 2, .ro, 0x0, 0x0, 0x0, 0⟩,
   ⟨0x0A100006, 0, 113, 1, 1, .w1c, 0x0, 0x7F, 0x0, 0⟩,
   ⟨0x0A100007, 0, 113, 1, 1, .rw, 0x0, 0xFFFFFFFF, 0x0, 0⟩,
   ⟨0x0A000000, 0, 0, 1, 1, .rws, 0xFF600003, 0xFFF00003, 0x0, 0⟩,
   ⟨0x0A000001, 0, 0, 1, 1, .rws, 0x2EE02328, 0xFFFFFFFF, 0x0, 0⟩,
   ⟨0x0A000002, 0, 0, 1, 1, .rws, 0x3C, 0xFFF, 0x0, 0⟩,
   ⟨0x0A000003, 0, 0, 1, 1, .rws, 0x3E80064, 0xFFFFFFFF, 0x0, 0⟩,
   ⟨0x0A000004, 0, 0, 1, 1, .rws, 0xA000A, 0xFFFFFFFF, 0x0, 0⟩,
   ⟨0x0A000005, 0, 0, 1, 1, .rws, 0xE10, 0xFFFFFFFF, 0x0, 0⟩,
   ⟨0x0A000006, 0, 0, 1, 1, .rws, 0x78, 0xFFFFFFFF, 0x0, 0⟩,
   ⟨0x0A000007, 0, 0, 1, 1, .rws, 0xE10, 0xFFFFFFFF, 0x0, 0⟩,
   ⟨0x0A000008, 0, 0, 1, 1, .rws, 0x7D0, 0x3FFFF, 0x0, 0⟩,
   ⟨0x0A000009, 0, 0, 1, 2, .rw, 0x0, 0xFFFFFFFFFFFFFFFF, 0x0, 0⟩,
   ⟨0x0A00000A, 0, 0, 1, 2, .rws, 0x0, 0xFFFFFFFFFFFFFFFF, 0x0, 0⟩,
   ⟨0x0A00000B, 0, 0, 1, 1, .rws, 0x5F5E100, 0xFFFFFFFF, 0x0, 0⟩,
   ⟨0x0A000010, 0, 0, 1, 3, .rws, 0x0, 0xFFFFFFFFFFFFFFFFFFFFFFFF, 0x0, 0⟩,
   ⟨0x0A000020, 0, 0, 1, 1, .ro, 0x50FF03F8, 0x0, 0x0, 0⟩,
   ⟨0x0A000021, 0, 0, 1, 2, .ro, 0x0, 0x0, 0x0, 0⟩,
   ⟨0x0A000022, 0, 0, 1, 2, .ro, 0x0, 0x0, 0x0, 0⟩,
   ⟨0x0A000023, 0, 0, 1, 2, .ro, 0x0, 0x0, 0x0, 0⟩,
   ⟨0x0A000024, 0, 0, 1, 1, .ro, 0x80000000, 0x0, 0x0, 0⟩,
   ⟨0x0A000025, 0, 0, 1, 2, .ro, 0x0, 0x0, 0x0, 0⟩,
   ⟨0x0A000026, 0, 0, 1, 3, .ro, 0x0, 0x0, 0x0, 0⟩,
   ⟨0x0A000030, 0, 0, 1, 1, .w1c, 0x0, 0xFF, 0x0, 0⟩,
   ⟨0x0A000031, 0, 0, 1, 1, .rw, 0x0, 0xFFFFFFFF, 0x0, 0⟩]

/-- Area 0x0A, part 1. -/
def rows0Ap1 : List ObjRow :=
  [⟨0x0A000040, 0, 0, 1, 1, .ro, 0x0, 0x0, 0x0, 86400⟩,
   ⟨0x0A000041, 0, 0, 1, 2, .ro, 0x0, 0x0, 0x0, 0⟩,
   ⟨0x0A000042, 0, 0, 1, 1, .ro, 0x0, 0x0, 0x0, 0⟩,
   ⟨0x0A000043, 0, 0, 1, 2, .ro, 0x0, 0x0, 0x0, 0⟩,
   ⟨0x0A00004F, 0, 0, 1, 1, .wo, 0x0, 0x0, 0x1, 0⟩]

/-- The rows of area 0x0A. -/
def rows0A : List ObjRow := rows0Ap0 ++ rows0Ap1

/-- Area 0x0B, part 0. -/
def rows0Bp0 : List ObjRow :=
  [⟨0x0B000000, 0, 0, 1, 1, .rws, 0x186A0, 0xFFFFFF, 0x0, 0⟩,
   ⟨0x0B100000, 0, 7, 1, 1, .rws, 0xFF000800, 0xFF000E03, 0x0, 0⟩,
   ⟨0x0B100001, 0, 7, 1, 2, .rws, 0x5F5E100, 0xFFFFFFFFFFFF, 0x0, 0⟩,
   ⟨0x0B100002, 0, 7, 1, 1, .rws, 0x1, 0xFFFF, 0x0, 0⟩,
   ⟨0x0B100003, 0, 7, 1, 1, .rws, 0x59682F00, 0xFFFFFFFF, 0x0, 0⟩,
   ⟨0x0B100004, 0, 7, 1, 2, .rws, 0x0, 0xFFFFFFFFFFFFFFFF, 0x0, 0⟩,
   ⟨0x0B100005, 0, 7, 1, 1, .rws, 0x320064, 0xFFFFFFFF, 0x0, 0⟩,
   ⟨0x0B100010, 0, 7, 1, 1, .ro, 0x0, 0x0, 0x0, 0⟩,
   ⟨0x0B100011, 0, 7, 1, 1, .w1c, 0x0, 0x7, 0x0, 0⟩,
   ⟨0x0B100012, 0, 7, 1, 1, .rw, 0x0, 0xFFFFFFFF, 0x0, 0⟩,
   ⟨0x0B200000, 0, 3, 1, 1, .rws, 0xFF000000, 0xFF000003, 0x0, 0⟩,
   ⟨0x0B200001, 0, 3, 1, 2, .rws, 0x0, 0xFFFFFFFFFFFFFFFF, 0x0, 0⟩,
   ⟨0x0B200002, 0, 3, 1, 1, .rws, 0x186A0, 0xFFFFFFFF, 0x0, 0⟩,
   ⟨0x0B200003, 0, 3, 1, 1, .w1c, 0x0, 0x3, 0x0, 0⟩,
   ⟨0x0B200004, 0, 3, 1, 1, .rw, 0x0, 0xFFFFFFFF, 0x0, 0⟩]

/-- The rows of area 0x0B. -/
def rows0B : List ObjRow := rows0Bp0

/-- Area 0x0C, part 0. -/
def rows0Cp0 : List ObjRow :=
  [⟨0x0C000000, 0, 47, 1, 1, .rws, 0x8000000, 0xF87F007F, 0x0, 0⟩,
   ⟨0x0C000001, 0, 47, 1, 1, .rws, 0x12C0000, 0xFFFF007F, 0x0, 0⟩,
   ⟨0x0C000002, 0, 47, 1, 1, .rws, 0x0, 0x7, 0x0, 0⟩,
   ⟨0x0C000003, 0, 47, 1, 1, .ro, 0x0, 0x0, 0x0, 0⟩,
   ⟨0x0C000004, 0, 47, 1, 2, .ro, 0x0, 0x0, 0x0, 0⟩,
   ⟨0x0C000005, 0, 47, 1, 1, .w1c, 0x0, 0xF, 0x0, 0⟩,
   ⟨0x0C000006, 0, 47, 1, 1, .rw, 0x0, 0xFFFFFFFF, 0x0, 0⟩,
   ⟨0x0C100000, 0, 95, 1024, 1, .rws, 0x12C00000, 0xFFFFE003, 0x0, 0⟩,
   ⟨0x0C200000, 0, 95, 1024, 1, .rws, 0x0, 0x7, 0x0, 0⟩,
   ⟨0x0C300000, 0, 95, 1024, 1, .ro, 0x0, 0x0, 0x0, 0⟩]

/-- The rows of area 0x0C. -/
def rows0C : List ObjRow := rows0Cp0

/-- Area 0x0D, part 0. -/
def rows0Dp0 : List ObjRow :=
  [⟨0x0D000000, 0, 0, 1, 1, .rws, 0x3E80002, 0xFFFF0002, 0x0, 0⟩,
   ⟨0x0D000001, 0, 0, 1, 1, .rws, 0x4170, 0x3FFFF, 0x0, 0⟩,
   ⟨0x0D000002, 0, 0, 1, 1, .wo, 0x0, 0x0, 0x3, 0⟩,
   ⟨0x0D000003, 0, 0, 1, 1, .ro, 0x8000, 0x0, 0x0, 0⟩,
   ⟨0x0D000004, 0, 0, 1, 1, .ro, 0x0, 0x0, 0x0, 0⟩,
   ⟨0x0D000005, 0, 0, 1, 2, .ro, 0x0, 0x0, 0x0, 0⟩,
   ⟨0x0D000006, 0, 0, 1, 2, .rws, 0x0, 0xFFFFFFFFFFFF, 0x0, 0⟩,
   ⟨0x0D000010, 0, 0, 1, 2, .ro, 0x0, 0x0, 0x0, 0⟩,
   ⟨0x0D000011, 0, 0, 1, 2, .ro, 0x0, 0x0, 0x0, 0⟩,
   ⟨0x0D000012, 0, 0, 1, 2, .ro, 0x0, 0x0, 0x0, 0⟩,
   ⟨0x0D000013, 0, 0, 1, 2, .ro, 0x0, 0x0, 0x0, 0⟩,
   ⟨0x0D000014, 0, 0, 1, 2, .ro, 0x0, 0x0, 0x0, 0⟩,
   ⟨0x0D000015, 0, 0, 1, 2, .ro, 0x0, 0x0, 0x0, 0⟩,
   ⟨0x0D000020, 0, 0, 1, 1, .w1c, 0x0, 0x3FF, 0x0, 0⟩,
   ⟨0x0D000021, 0, 0, 1, 1, .rw, 0x0, 0xFFFFFFFF, 0x0, 0⟩]

/-- The rows of area 0x0D. -/
def rows0D : List ObjRow := rows0Dp0

/-- Area 0x0E, part 0. -/
def rows0Ep0 : List ObjRow :=
  [⟨0x0E000000, 0, 0, 1, 1, .rws, 0x0, 0xF, 0x0, 0⟩,
   ⟨0x0E000001, 0, 0, 1, 1, .rws, 0x0, 0xFFFFFFFF, 0x0, 0⟩,
   ⟨0x0E000002, 0, 0, 1, 2, .rws, 0x0, 0xFFFFFFFFFFFF, 0x0, 0⟩,
   ⟨0x0E000003, 0, 0, 1, 2, .rws, 0x0, 0xFFFFFFFFFFFFFFFF, 0x0, 0⟩,
   ⟨0x0E000010, 0, 0, 1, 1, .ro, 0x0, 0x0, 0x0, 0⟩,
   ⟨0x0E000011, 0, 0, 1, 1, .ro, 0x0, 0x0, 0x0, 0⟩,
   ⟨0x0E000012, 0, 0, 1, 1, .ro, 0x0, 0x0, 0x0, 0⟩,
   ⟨0x0E000013, 0, 0, 1, 1, .ro, 0x0, 0x0, 0x0, 0⟩,
   ⟨0x0E000014, 0, 0, 1, 1, .ro, 0x0, 0x0, 0x0, 0⟩,
   ⟨0x0E000015, 0, 0, 1, 1, .ro, 0x0, 0x0, 0x0, 0⟩,
   ⟨0x0E000016, 0, 0, 1, 2, .ro, 0x7FFFFFFFFFFFFFFF, 0x0, 0x0, 0⟩,
   ⟨0x0E000020, 0, 0, 1, 1, .rws, 0x0, 0xFFFFFFFF, 0x0, 0⟩,
   ⟨0x0E000021, 0, 0, 1, 1, .ro, 0x0, 0x0, 0x0, 0⟩,
   ⟨0x0E000022, 0, 0, 1, 1, .ro, 0x0, 0x0, 0x0, 0⟩,
   ⟨0x0E000023, 0, 0, 1, 2, .ro, 0x0, 0x0, 0x0, 0⟩,
   ⟨0x0E00002F, 0, 0, 1, 1, .wo, 0x0, 0x0, 0x7, 0⟩,
   ⟨0x0E000030, 0, 0, 1, 2, .ro, 0x0, 0x0, 0x0, 0⟩,
   ⟨0x0E000031, 0, 0, 1, 2, .ro, 0x0, 0x0, 0x0, 0⟩,
   ⟨0x0E000032, 0, 0, 1, 2, .ro, 0x0, 0x0, 0x0, 0⟩,
   ⟨0x0E000033, 0, 0, 1, 2, .ro, 0x0, 0x0, 0x0, 0⟩,
   ⟨0x0E000034, 0, 0, 1, 2, .ro, 0x0, 0x0, 0x0, 0⟩,
   ⟨0x0E000035, 0, 0, 1, 2, .ro, 0x0, 0x0, 0x0, 0⟩,
   ⟨0x0E000040, 0, 0, 1, 1, .w1c, 0x0, 0xFF, 0x0, 0⟩,
   ⟨0x0E000041, 0, 0, 1, 1, .rw, 0x0, 0xFFFFFFFF, 0x0, 0⟩,
   ⟨0x0E001000, 0, 0, 1, 1, .rws, 0x0, 0xFFFFFFFF, 0x0, 256⟩]

/-- The rows of area 0x0E. -/
def rows0E : List ObjRow := rows0Ep0

/-- Area 0x0F, part 0. -/
def rows0Fp0 : List ObjRow :=
  [⟨0x0F000000, 0, 95, 1, 1, .rws, 0xFF01, 0xFFFD, 0x0, 0⟩,
   ⟨0x0F000010, 0, 95, 1, 1, .rws, 0xFF01, 0xFFFD, 0x0, 0⟩,
   ⟨0x0F000020, 0, 95, 1, 1, .rws, 0xFF01, 0xFFFD, 0x0, 0⟩,
   ⟨0x0F000030, 0, 95, 1, 1, .rws, 0xFF00, 0xFFFD, 0x0, 0⟩,
   ⟨0x0F000001, 0, 95, 1, 1, .rws, 0x4000400, 0xFFFFFFFF, 0x0, 0⟩,
   ⟨0x0F000011, 0, 95, 1, 1, .rws, 0x4000400, 0xFFFFFFFF, 0x0, 0⟩,
   ⟨0x0F000021, 0, 95, 1, 1, .rws, 0x4000400, 0xFFFFFFFF, 0x0, 0⟩,
   ⟨0x0F000031, 0, 95, 1, 1, .rws, 0x4000400, 0xFFFFFFFF, 0x0, 0⟩,
   ⟨0x0F000002, 0, 95, 1, 1, .rws, 0x5DC18020, 0xFFFFFFFF, 0x0, 0⟩,
   ⟨0x0F000012, 0, 95, 1, 1, .rws, 0x5DC18020, 0xFFFFFFFF, 0x0, 0⟩,
   ⟨0x0F000022, 0, 95, 1, 1, .rws, 0x5DC18020, 0xFFFFFFFF, 0x0, 0⟩,
   ⟨0x0F000032, 0, 95, 1, 1, .rws, 0x5DC18020, 0xFFFFFFFF, 0x0, 0⟩,
   ⟨0x0F000003, 0, 95, 1, 1, .ro, 0x0, 0x0, 0x0, 0⟩,
   ⟨0x0F000013, 0, 95, 1, 1, .ro, 0x0, 0x0, 0x0, 0⟩,
   ⟨0x0F000023, 0, 95, 1, 1, .ro, 0x0, 0x0, 0x0, 0⟩,
   ⟨0x0F000033, 0, 95, 1, 1, .ro, 0x0, 0x0, 0x0, 0⟩,
   ⟨0x0F000004, 0, 95, 1, 1, .ro, 0x0, 0x0, 0x0, 2⟩,
   ⟨0x0F000014, 0, 95, 1, 1, .ro, 0x0, 0x0, 0x0, 2⟩,
   ⟨0x0F000024, 0, 95, 1, 1, .ro, 0x0, 0x0, 0x0, 2⟩,
   ⟨0x0F000034, 0, 95, 1, 1, .ro, 0x0, 0x0, 0x0, 2⟩,
   ⟨0x0F000005, 0, 95, 1, 1, .wo, 0x0, 0x0, 0xFFFFFFFF, 2⟩,
   ⟨0x0F000015, 0, 95, 1, 1, .wo, 0x0, 0x0, 0xFFFFFFFF, 2⟩,
   ⟨0x0F000025, 0, 95, 1, 1, .wo, 0x0, 0x0, 0xFFFFFFFF, 2⟩,
   ⟨0x0F000035, 0, 95, 1, 1, .wo, 0x0, 0x0, 0xFFFFFFFF, 2⟩,
   ⟨0x0F000006, 0, 95, 1, 1, .wo, 0x0, 0x0, 0x3, 0⟩,
   ⟨0x0F000016, 0, 95, 1, 1, .wo, 0x0, 0x0, 0x3, 0⟩,
   ⟨0x0F000026, 0, 95, 1, 1, .wo, 0x0, 0x0, 0x3, 0⟩,
   ⟨0x0F000036, 0, 95, 1, 1, .wo, 0x0, 0x0, 0x3, 0⟩,
   ⟨0x0F000007, 0, 95, 1, 1, .w1c, 0x0, 0x7, 0x0, 0⟩,
   ⟨0x0F000017, 0, 95, 1, 1, .w1c, 0x0, 0x7, 0x0, 0⟩]

/-- Area 0x0F, part 1. -/
def rows0Fp1 : List ObjRow :=
  [⟨0x0F000027, 0, 95, 1, 1, .w1c, 0x0, 0x7, 0x0, 0⟩,
   ⟨0x0F000037, 0, 95, 1, 1, .w1c, 0x0, 0x7, 0x0, 0⟩,
   ⟨0x0F000008, 0, 95, 1, 1, .rw, 0x0, 0xFFFFFFFF, 0x0, 0⟩,
   ⟨0x0F000018, 0, 95, 1, 1, .rw, 0x0, 0xFFFFFFFF, 0x0, 0⟩,
   ⟨0x0F000028, 0, 95, 1, 1, .rw, 0x0, 0xFFFFFFFF, 0x0, 0⟩,
   ⟨0x0F000038, 0, 95, 1, 1, .rw, 0x0, 0xFFFFFFFF, 0x0, 0⟩,
   ⟨0x0F000009, 0, 95, 1, 2, .ro, 0x0, 0x0, 0x0, 0⟩,
   ⟨0x0F000019, 0, 95, 1, 2, .ro, 0x0, 0x0, 0x0, 0⟩,
   ⟨0x0F000029, 0, 95, 1, 2, .ro, 0x0, 0x0, 0x0, 0⟩,
   ⟨0x0F000039, 0, 95, 1, 2, .ro, 0x0, 0x0, 0x0, 0⟩,
   ⟨0x0F00000A, 0, 95, 1, 2, .ro, 0x0, 0x0, 0x0, 0⟩,
   ⟨0x0F00001A, 0, 95, 1, 2, .ro, 0x0, 0x0, 0x0, 0⟩,
   ⟨0x0F00002A, 0, 95, 1, 2, .ro, 0x0, 0x0, 0x0, 0⟩,
   ⟨0x0F00003A, 0, 95, 1, 2, .ro, 0x0, 0x0, 0x0, 0⟩,
   ⟨0x0F00000B, 0, 95, 1, 2, .ro, 0x0, 0x0, 0x0, 0⟩,
   ⟨0x0F00001B, 0, 95, 1, 2, .ro, 0x0, 0x0, 0x0, 0⟩,
   ⟨0x0F00002B, 0, 95, 1, 2, .ro, 0x0, 0x0, 0x0, 0⟩,
   ⟨0x0F00003B, 0, 95, 1, 2, .ro, 0x0, 0x0, 0x0, 0⟩,
   ⟨0x0F00000C, 0, 95, 1, 2, .ro, 0x0, 0x0, 0x0, 0⟩,
   ⟨0x0F00001C, 0, 95, 1, 2, .ro, 0x0, 0x0, 0x0, 0⟩,
   ⟨0x0F00002C, 0, 95, 1, 2, .ro, 0x0, 0x0, 0x0, 0⟩,
   ⟨0x0F00003C, 0, 95, 1, 2, .ro, 0x0, 0x0, 0x0, 0⟩,
   ⟨0x0F00000D, 0, 95, 1, 2, .ro, 0x0, 0x0, 0x0, 0⟩,
   ⟨0x0F00001D, 0, 95, 1, 2, .ro, 0x0, 0x0, 0x0, 0⟩,
   ⟨0x0F00002D, 0, 95, 1, 2, .ro, 0x0, 0x0, 0x0, 0⟩,
   ⟨0x0F00003D, 0, 95, 1, 2, .ro, 0x0, 0x0, 0x0, 0⟩,
   ⟨0x0F200000, 0, 7, 1, 1, .rws, 0x0, 0x3, 0x0, 0⟩,
   ⟨0x0F200001, 0, 7, 1, 1, .ro, 0x0, 0x0, 0x0, 0⟩,
   ⟨0x0FF00000, 0, 0, 1, 1, .rws, 0x0, 0x800001FF, 0x0, 0⟩,
   ⟨0x0FF00001, 0, 0, 1, 2, .ro, 0x0, 0x0, 0x0, 0⟩]

/-- The rows of area 0x0F. -/
def rows0F : List ObjRow := rows0Fp0 ++ rows0Fp1

/-- Area 0x10, part 0. -/
def rows10p0 : List ObjRow :=
  [⟨0x10000000, 0, 95, 1, 1, .rws, 0x1E01, 0xFF3D, 0x0, 0⟩,
   ⟨0x10F00000, 0, 0, 1, 1, .rws, 0x3C0000, 0x1FFFFFF, 0x0, 0⟩,
   ⟨0x10F00001, 0, 0, 1, 2, .rw, 0x0, 0x3FFFFFFFFFFFFFFF, 0x0, 0⟩,
   ⟨0x10F00002, 0, 0, 1, 1, .ro, 0x0, 0x0, 0x0, 24⟩,
   ⟨0x10F00003, 0, 0, 1, 2, .ro, 0x0, 0x0, 0x0, 0⟩,
   ⟨0x10F00010, 0, 0, 4, 1, .rw, 0x0, 0xFFFFFFFF, 0x0, 7⟩,
   ⟨0x10F00020, 0, 0, 1, 1, .rw, 0x0, 0xFFFFFFFF, 0x0, 4096⟩,
   ⟨0x10F00030, 0, 0, 1, 1, .ro, 0x0, 0x0, 0x0, 2⟩,
   ⟨0x10F00031, 0, 0, 1, 2, .ro, 0x0, 0x0, 0x0, 0⟩,
   ⟨0x10F00032, 0, 0, 1, 1, .w1c, 0x0, 0xF, 0x0, 0⟩,
   ⟨0x10F00033, 0, 0, 1, 1, .rw, 0x0, 0xFFFFFFFF, 0x0, 0⟩]

/-- The rows of area 0x10. -/
def rows10 : List ObjRow := rows10p0

/-- Area 0x11, part 0. -/
def rows11p0 : List ObjRow :=
  [⟨0x11000000, 1, 32, 1, 1, .ro, 0x0, 0x0, 0x0, 0⟩,
   ⟨0x11000001, 1, 32, 1, 2, .ro, 0x0, 0x0, 0x0, 0⟩,
   ⟨0x11000002, 1, 32, 1, 1, .ro, 0x0, 0x0, 0x0, 0⟩,
   ⟨0x11000003, 1, 32, 1, 1, .wo, 0x0, 0x0, 0x1, 0⟩,
   ⟨0x11F00000, 0, 0, 1, 1, .rw, 0x7D000A3, 0xFFFFFFF3, 0x0, 0⟩,
   ⟨0x11F00001, 0, 0, 1, 1, .ro, 0x0, 0x0, 0x0, 0⟩,
   ⟨0x11F00002, 0, 0, 1, 1, .ro, 0x0, 0x0, 0x0, 64⟩,
   ⟨0x11F00003, 0, 0, 1, 1, .ro, 0x0, 0x0, 0x0, 1024⟩,
   ⟨0x11F00010, 0, 0, 1, 1, .ro, 0x0, 0x0, 0x0, 0⟩,
   ⟨0x11F00011, 0, 0, 1, 1, .rw, 0x0, 0x1FFFFFF, 0x0, 0⟩,
   ⟨0x11F00012, 0, 0, 1, 1, .rw, 0x0, 0x1FFFFFF, 0x0, 0⟩,
   ⟨0x11F00020, 0, 0, 1, 1, .w1c, 0x0, 0x1F, 0x0, 0⟩,
   ⟨0x11F00021, 0, 0, 1, 1, .rw, 0x0, 0xFFFFFFFF, 0x0, 0⟩,
   ⟨0x11F00030, 0, 0, 1, 2, .ro, 0x0, 0x0, 0x0, 0⟩,
   ⟨0x11F00031, 0, 0, 1, 2, .ro, 0x0, 0x0, 0x0, 0⟩,
   ⟨0x11F00032, 0, 0, 1, 2, .ro, 0x0, 0x0, 0x0, 0⟩,
   ⟨0x11F00033, 0, 0, 1, 2, .ro, 0x0, 0x0, 0x0, 0⟩]

/-- The rows of area 0x11. -/
def rows11 : List ObjRow := rows11p0

/-- Area 0x12, part 0. -/
def rows12p0 : List ObjRow :=
  [⟨0x12000000, 0, 1, 1, 1, .rws, 0x9, 0x1F, 0x0, 0⟩,
   ⟨0x12000001, 0, 1, 1, 1, .ro, 0x4, 0x0, 0x0, 0⟩,
   ⟨0x12000008, 0, 1, 8, 2, .rw, 0x0, 0x8000FFFFFFFFFFFF, 0x0, 0⟩,
   ⟨0x12000010, 0, 1, 1, 1, .rw, 0x360, 0x3FF, 0x0, 0⟩,
   ⟨0x12000011, 0, 1, 1, 1, .ro, 0x0, 0x0, 0x0, 0⟩,
   ⟨0x12000012, 0, 1, 1, 1, .rw, 0x80000064, 0xC000FFFF, 0x0, 0⟩,
   ⟨0x12000013, 0, 1, 1, 1, .rws, 0x0, 0x1, 0x0, 0⟩,
   ⟨0x12000014, 0, 1, 1, 2, .rws, 0x57414B4500000000, 0xFFFFFFFFFFFFFFFF, 0x0, 0⟩,
   ⟨0x12000018, 0, 1, 1, 1, .w1c, 0x0, 0x7, 0x0, 0⟩,
   ⟨0x12000019, 0, 1, 1, 1, .rw, 0x0, 0xFFFFFFFF, 0x0, 0⟩,
   ⟨0x1200001A, 0, 1, 1, 1, .w1c, 0x0, 0xFFFFFFFF, 0x0, 0⟩,
   ⟨0x1200001F, 0, 1, 1, 1, .wo, 0x0, 0x0, 0x3, 0⟩,
   ⟨0x12000020, 0, 1, 20, 1, .ro, 0x0, 0x0, 0x0, 0⟩]

/-- The rows of area 0x12. -/
def rows12 : List ObjRow := rows12p0

/-- Area 0x13, part 0. -/
def rows13p0 : List ObjRow :=
  [⟨0x13000000, 0, 100, 1, 1, .ro, 0x0, 0x0, 0x0, 0⟩,
   ⟨0x13000010, 0, 100, 1, 2, .ro, 0x0, 0x0, 0x0, 0⟩,
   ⟨0x13000011, 0, 100, 1, 2, .ro, 0x0, 0x0, 0x0, 0⟩,
   ⟨0x13000018, 0, 100, 6, 2, .ro, 0x0, 0x0, 0x0, 0⟩,
   ⟨0x13000020, 0, 100, 6, 2, .ro, 0x0, 0x0, 0x0, 0⟩,
   ⟨0x13000028, 0, 100, 6, 2, .rw, 0x0, 0xFFFFFFFFFFFF, 0x0, 0⟩,
   ⟨0x13000030, 0, 100, 6, 1, .rw, 0x0, 0x7FF, 0x0, 0⟩,
   ⟨0x1300003F, 0, 100, 1, 1, .rw, 0x0, 0x1, 0x6, 0⟩,
   ⟨0x13000040, 0, 100, 1, 1, .w1c, 0x0, 0x3F3F, 0x0, 0⟩,
   ⟨0x13000041, 0, 100, 1, 1, .rw, 0x0, 0xFFFFFFFF, 0x0, 0⟩]

/-- The rows of area 0x13. -/
def rows13 : List ObjRow := rows13p0

/-- Area 0x14, part 0. -/
def rows14p0 : List ObjRow :=
  [⟨0x14000000, 0, 208, 1, 1, .ro, 0x0, 0x0, 0x0, 0⟩,
   ⟨0x14000001, 0, 208, 1, 1, .ro, 0x0, 0x0, 0x0, 0⟩,
   ⟨0x14000002, 0, 208, 1, 1, .rws, 0x5, 0x7, 0x0, 0⟩,
   ⟨0x14000010, 0, 208, 1, 2, .ro, 0x0, 0x0, 0x0, 0⟩,
   ⟨0x14000011, 0, 208, 1, 2, .ro, 0x0, 0x0, 0x0, 0⟩,
   ⟨0x14000012, 0, 208, 1, 2, .ro, 0x0, 0x0, 0x0, 0⟩,
   ⟨0x14F00000, 0, 0, 1, 2, .rw, 0x0, 0x1FF1FFFFF, 0x0, 0⟩,
   ⟨0x14F00001, 0, 0, 1, 1, .rw, 0x0, 0xFFFFFFFF, 0x0, 524288⟩,
   ⟨0x14F00010, 0, 0, 1, 1, .rws, 0x3C, 0xFFFF, 0x0, 0⟩,
   ⟨0x14F00020, 0, 0, 1, 1, .w1c, 0x0, 0xF, 0x0, 0⟩,
   ⟨0x14F00021, 0, 0, 1, 1, .rw, 0x0, 0xFFFFFFFF, 0x0, 0⟩]

/-- The rows of area 0x14. -/
def rows14 : List ObjRow := rows14p0

/-- Area 0x15, part 0. -/
def rows15p0 : List ObjRow :=
  [⟨0x15F00000, 0, 0, 1, 1, .rw, 0x304, 0xFF07, 0x0, 0⟩,
   ⟨0x15F00001, 0, 0, 1, 1, .ro, 0x0, 0x0, 0x0, 0⟩,
   ⟨0x15F00002, 0, 0, 1, 1, .ro, 0x0, 0x0, 0x0, 0⟩,
   ⟨0x15F00003, 0, 0, 1, 1, .ro, 0x0, 0x0, 0x0, 0⟩,
   ⟨0x15F00004, 0, 0, 1, 1, .ro, 0x0, 0x0, 0x0, 2048⟩,
   ⟨0x15F00005, 0, 0, 1, 1, .wo, 0x0, 0x0, 0xFFFFFFFF, 0⟩,
   ⟨0x15F00006, 0, 0, 1, 1, .wo, 0x0, 0x0, 0xFFFFFFFF, 0⟩,
   ⟨0x15F00007, 0, 0, 1, 1, .wo, 0x0, 0x0, 0x3FFF, 0⟩,
   ⟨0x15F00008, 0, 0, 1, 1, .ro, 0x0, 0x0, 0x0, 0⟩,
   ⟨0x15F00009, 0, 0, 1, 1, .wo, 0x0, 0x0, 0xFFFFFFFF, 0⟩,
   ⟨0x15F00010, 0, 0, 1, 2, .ro, 0x0, 0x0, 0x0, 0⟩,
   ⟨0x15F00011, 0, 0, 1, 2, .ro, 0x0, 0x0, 0x0, 0⟩,
   ⟨0x15F00012, 0, 0, 1, 2, .ro, 0x0, 0x0, 0x0, 0⟩,
   ⟨0x15F00013, 0, 0, 1, 2, .ro, 0x0, 0x0, 0x0, 0⟩,
   ⟨0x15F00014, 0, 0, 1, 2, .ro, 0x0, 0x0, 0x0, 0⟩,
   ⟨0x15F00020, 0, 0, 1, 1, .w1c, 0x0, 0x7F, 0x0, 0⟩,
   ⟨0x15F00021, 0, 0, 1, 1, .rw, 0x0, 0xFFFFFFFF, 0x0, 0⟩,
   ⟨0x15F00030, 0, 0, 1, 1, .ro, 0x0, 0x0, 0x0, 2048⟩,
   ⟨0x15200000, 0, 7, 1, 1, .rw, 0x1, 0x3, 0x0, 0⟩,
   ⟨0x15200001, 0, 7, 1, 1, .rw, 0xFFFFFFFF, 0xFFFFFFFF, 0x0, 0⟩,
   ⟨0x15200002, 0, 7, 1, 1, .ro, 0x0, 0x0, 0x0, 0⟩,
   ⟨0x15200003, 0, 7, 1, 1, .wo, 0x0, 0x0, 0xFFFFFFFF, 1⟩,
   ⟨0x15200004, 0, 7, 1, 1, .wo, 0x0, 0x0, 0xFF, 0⟩,
   ⟨0x15200005, 0, 7, 1, 2, .rw, 0x0, 0xFF1FFFFFFFFFFFFF, 0x0, 0⟩,
   ⟨0x15200006, 0, 7, 1, 1, .wo, 0x0, 0x0, 0x1, 0⟩,
   ⟨0x15200007, 0, 7, 1, 1, .ro, 0x0, 0x0, 0x0, 0⟩]

/-- The rows of area 0x15. -/
def rows15 : List ObjRow := rows15p0

/-- Area 0x16, part 0. -/
def rows16p0 : List ObjRow :=
  [⟨0x16000000, 0, 0, 1, 1, .rws, 0x0, 0x3, 0x0, 0⟩,
   ⟨0x16000001, 0, 0, 1, 1, .ro, 0x3200000, 0x0, 0x0, 0⟩,
   ⟨0x16000002, 0, 0, 1, 1, .rws, 0x1F400D00, 0xFFFF0FFF, 0x0, 0⟩,
   ⟨0x16000003, 0, 0, 1, 1, .rws, 0xFA00050, 0xFFFFFFFF, 0x0, 0⟩,
   ⟨0x16000004, 0, 0, 1, 1, .rws, 0x0, 0x8003FFFF, 0x0, 0⟩,
   ⟨0x16000005, 0, 0, 1, 1, .rws, 0x645F, 0xFFFF, 0x0, 0⟩,
   ⟨0x16000010, 0, 0, 1, 1, .ro, 0x0, 0x0, 0x0, 0⟩,
   ⟨0x16000011, 0, 0, 1, 1, .ro, 0x0, 0x0, 0x0, 0⟩,
   ⟨0x16000012, 0, 0, 1, 2, .ro, 0x0, 0x0, 0x0, 0⟩,
   ⟨0x16000013, 0, 0, 1, 2, .ro, 0x0, 0x0, 0x0, 0⟩,
   ⟨0x16000014, 0, 0, 1, 2, .ro, 0x0, 0x0, 0x0, 0⟩,
   ⟨0x16000020, 0, 0, 1, 1, .w1c, 0x0, 0x1F, 0x0, 0⟩,
   ⟨0x16000021, 0, 0, 1, 1, .rw, 0x0, 0xFFFFFFFF, 0x0, 0⟩,
   ⟨0x16100000, 0, 0, 1, 1, .rws, 0x80004000, 0x80007FFF, 0x0, 0⟩,
   ⟨0x16101000, 0, 0, 1, 1, .rws, 0x80004100, 0x80007FFF, 0x0, 0⟩,
   ⟨0x16102000, 0, 0, 1, 1, .rws, 0x80004200, 0x80007FFF, 0x0, 0⟩,
   ⟨0x16103000, 0, 0, 1, 1, .rws, 0x80004300, 0x80007FFF, 0x0, 0⟩,
   ⟨0x16104000, 0, 0, 1, 1, .rws, 0x80004400, 0x80007FFF, 0x0, 0⟩,
   ⟨0x16105000, 0, 0, 1, 1, .rws, 0x80004500, 0x80007FFF, 0x0, 0⟩,
   ⟨0x16100001, 0, 5, 1, 2, .ro, 0x0, 0x0, 0x0, 0⟩]

/-- The rows of area 0x16. -/
def rows16 : List ObjRow := rows16p0

/-- Area 0x17, part 0. -/
def rows17p0 : List ObjRow :=
  [⟨0x17000000, 0, 0, 1, 1, .ro, 0x0, 0x0, 0x0, 0⟩,
   ⟨0x17000001, 0, 0, 1, 1, .ro, 0x0, 0x0, 0x0, 0⟩,
   ⟨0x17000002, 0, 0, 1, 1, .rw, 0x0, 0xFFFFFFFF, 0x0, 0⟩,
   ⟨0x17000003, 0, 0, 1, 1, .ro, 0x0, 0x0, 0x0, 0⟩,
   ⟨0x17000004, 0, 0, 1, 2, .ro, 0x0, 0x0, 0x0, 0⟩,
   ⟨0x17000010, 0, 0, 1, 1, .wo, 0x0, 0x0, 0xFFFFFFFF, 4194304⟩,
   ⟨0x17000011, 0, 0, 1, 1, .wo, 0x0, 0x0, 0x3, 0⟩,
   ⟨0x17000012, 0, 0, 1, 1, .ro, 0x0, 0x0, 0x0, 0⟩,
   ⟨0x17000020, 0, 0, 1, 1, .rws, 0x0, 0x7, 0x0, 0⟩,
   ⟨0x17000021, 0, 0, 1, 1, .rws, 0x0, 0xFFFFFFFF, 0x0, 512⟩,
   ⟨0x17000030, 0, 0, 1, 1, .wo, 0x0, 0x0, 0xFFFFFFFF, 11⟩,
   ⟨0x17000031, 0, 0, 1, 1, .wo, 0x0, 0x0, 0xFFFFFFFF, 8⟩,
   ⟨0x17000032, 0, 0, 1, 1, .wo, 0x0, 0x0, 0xFFFFFFFF, 0⟩,
   ⟨0x17000040, 0, 0, 1, 1, .rws, 0x0, 0x1FF, 0x0, 0⟩,
   ⟨0x17000041, 0, 0, 1, 1, .ro, 0x0, 0x0, 0x0, 0⟩,
   ⟨0x17000042, 0, 0, 1, 2, .ro, 0x0, 0x0, 0x0, 0⟩,
   ⟨0x17000050, 0, 0, 1, 1, .w1c, 0x0, 0x1F, 0x0, 0⟩,
   ⟨0x17000051, 0, 0, 1, 1, .rw, 0x0, 0xFFFFFFFF, 0x0, 0⟩,
   ⟨0x17100000, 0, 7, 1, 1, .ro, 0x0, 0x0, 0x0, 0⟩]

/-- The rows of area 0x17. -/
def rows17 : List ObjRow := rows17p0

/-- Area 0x18, part 0. -/
def rows18p0 : List ObjRow :=
  [⟨0x18000000, 0, 31, 1, 1, .rw, 0x0, 0xCF0F, 0x0, 0⟩,
   ⟨0x18000001, 0, 31, 1, 1, .ro, 0x0, 0x0, 0x0, 0⟩,
   ⟨0x18F00000, 0, 0, 1, 1, .rw, 0x0, 0xFFFFFFFF, 0x0, 0⟩,
   ⟨0x18F00001, 0, 0, 1, 1, .ro, 0x0, 0x0, 0x0, 0⟩]

/-- The rows of area 0x18. -/
def rows18 : List ObjRow := rows18p0

/-- The rows of an area (R10). -/
def areaRows : Nat → List ObjRow
  | 0x00 => rows00
  | 0x01 => rows01
  | 0x02 => rows02
  | 0x03 => rows03
  | 0x04 => rows04
  | 0x05 => rows05
  | 0x06 => rows06
  | 0x07 => rows07
  | 0x08 => rows08
  | 0x09 => rows09
  | 0x0A => rows0A
  | 0x0B => rows0B
  | 0x0C => rows0C
  | 0x0D => rows0D
  | 0x0E => rows0E
  | 0x0F => rows0F
  | 0x10 => rows10
  | 0x11 => rows11
  | 0x12 => rows12
  | 0x13 => rows13
  | 0x14 => rows14
  | 0x15 => rows15
  | 0x16 => rows16
  | 0x17 => rows17
  | 0x18 => rows18
  | _ => []

end Sys2Proof.Machine
end

