-- ==== Sys2Proof/Machine/Maps.lean ====
section
/-! DEFINITION. Sparse maps in canonical form, and the fields of a value. -/

namespace Sys2Proof.Machine

variable {α : Type}

/-- a put before the first of a list that does not come before it. -/
def insertBy (le : α → α → Bool) (a : α) : List α → List α
  | [] => [a]
  | b :: l => if le a b then a :: b :: l else b :: insertBy le a l

/-- A list in the order of le; equals keep their order. -/
def sortBy (le : α → α → Bool) (l : List α) : List α := l.foldr (insertBy le) []

/-- What key k reads as: its entry, or the default d. -/
def Map.get (d : α) (k : Nat) : Map α → α
  | [] => d
  | (j, v) :: m => if k = j then v else Map.get d k m

/-- m without key k. -/
def Map.erase (k : Nat) (m : Map α) : Map α := m.filter fun p => p.1 != k

/-- m with an entry for k put in its place by rising key. -/
def Map.insert (k : Nat) (v : α) : Map α → Map α
  | [] => [(k, v)]
  | (j, w) :: m => if k < j then (k, v) :: (j, w) :: m else (j, w) :: Map.insert k v m

/-- m with k reading as v; writing the default removes the entry, so that equal maps are equal lists. -/
def Map.set [DecidableEq α] (d : α) (k : Nat) (v : α) (m : Map α) : Map α :=
  if v = d then Map.erase k m else Map.insert k v (Map.erase k m)

/-- Whether k is listed. -/
def Map.has (k : Nat) (m : Map α) : Bool := m.any fun p => p.1 == k

/-- The canonical form for a default that depends on the key: keys strictly rising, no entry equal to its default. -/
def Map.wf [DecidableEq α] (d : Nat → α) : Map α → Bool
  | [] => true
  | (k, v) :: m => (v != d k) && m.all (fun p => k < p.1) && Map.wf d m

/-- Bits hi to lo of a value, as a number. -/
def bits (v : Val) (hi lo : Nat) : Nat := v.toNat / 2 ^ lo % 2 ^ (hi + 1 - lo)

/-- v with bits hi to lo replaced by x. -/
def setBits (v : Val) (hi lo x : Nat) : Val :=
  BitVec.ofNat 96 (v.toNat / 2 ^ (hi + 1) * 2 ^ (hi + 1) + x % 2 ^ (hi + 1 - lo) * 2 ^ lo + v.toNat % 2 ^ lo)

/-- x read as two's complement of w bits. -/
def signed (w x : Nat) : Int := if 2 ^ (w - 1) ≤ x % 2 ^ w then (x % 2 ^ w : Nat) - (2 ^ w : Nat) else (x % 2 ^ w : Nat)

/-- The w-bit two's complement of x. -/
def unsigned (w : Nat) (x : Int) : Nat := (x % (2 ^ w : Nat)).toNat

/-- Division rounded to the nearest, with halves away from zero (R15, R194, R225). -/
def roundDiv (x : Int) (n : Nat) : Int :=
  if 0 ≤ x then (2 * x + n) / (2 * n) else -((2 * (-x) + n) / (2 * n))

/-- The least number not below x / n. -/
def ceilDiv (x n : Nat) : Nat := (x + n - 1) / n

/-- The number of an object: field or object base at instance i, element offset e (R10). -/
def objAt (base i : Nat) (e : Nat := 0) : Nat := base + 4096 * i + e

end Sys2Proof.Machine
end

