-- ==== Sys2Proof/Machine/Check.lean ====
section
/-! DEFINITION. Bytes, check values and parity (R60, R72, R99, R138, R398). -/

namespace Sys2Proof.Machine

/-- The k bytes of x, most significant first. -/
def beBytes : Nat → Nat → List Byte
  | 0, _ => []
  | k + 1, x => BitVec.ofNat 8 (x / 256 ^ k) :: beBytes k x

/-- A number from its bytes, most significant first. -/
def beNat (bs : List Byte) : Nat := bs.foldl (fun a b => a * 256 + b.toNat) 0

/-- The four bytes of a word, bits 31 to 24 first. -/
def wordBytes (w : Word) : List Byte := beBytes 4 w.toNat

/-- Words from bytes; a last word that is not whole is filled with 0x00. -/
def toWords : List Byte → List Word
  | a :: b :: c :: d :: r => BitVec.ofNat 32 (beNat [a, b, c, d]) :: toWords r
  | [] => []
  | [a, b, c] => [BitVec.ofNat 32 (beNat [a, b, c, 0])]
  | [a, b] => [BitVec.ofNat 32 (beNat [a, b, 0, 0])]
  | [a] => [BitVec.ofNat 32 (beNat [a, 0, 0, 0])]

/-- n words of a value, most significant first (R6, R317). -/
def valWords (n : Nat) (v : Val) : List Word :=
  (List.range n).map fun i => BitVec.ofNat 32 (v.toNat / 2 ^ (32 * (n - 1 - i)))

/-- A value from its words, most significant first. -/
def wordsVal (ws : List Word) : Val := BitVec.ofNat 96 (ws.foldl (fun a w => a * 2 ^ 32 + w.toNat) 0)

/-- Line bits of an overhead byte: most significant first (00_scope). -/
def lineBits (bs : List Byte) : List Bool := bs.flatMap fun b => (List.range 8).map fun i => b.getLsbD (7 - i)

/-- Bytes of line bits, most significant first. -/
def bitsBytes : Nat → List Bool → List Byte
  | 0, _ => []
  | k + 1, bs => BitVec.ofNat 8 ((bs.take 8).foldl (fun a b => 2 * a + (if b then 1 else 0)) 0) :: bitsBytes k (bs.drop 8)

/-- k shifts of a reflected register with polynomial `poly` (reflected). -/
def shiftRight (poly : Nat) : Nat → Nat → Nat
  | 0, c => c
  | k + 1, c => shiftRight poly k (if c % 2 = 1 then Nat.xor (c / 2) poly else c / 2)

/-- k shifts of an unreflected register of w bits. -/
def shiftLeft (w poly : Nat) : Nat → Nat → Nat
  | 0, c => c
  | k + 1, c => shiftLeft w poly k (if 2 ^ (w - 1) ≤ c then Nat.xor (c * 2 % 2 ^ w) poly else c * 2 % 2 ^ w)

/-- One byte into a reflected 32-bit register. -/
def crc32Step (poly c : Nat) (b : Byte) : Nat := shiftRight poly 8 (Nat.xor c b.toNat)

/-- One byte into an unreflected register of w bits, most significant bit first. -/
def crcMsbStep (w poly c : Nat) (b : Byte) : Nat := shiftLeft w poly 8 (Nat.xor c (b.toNat * 2 ^ (w - 8)))

/-- R398: initial value of VALUE by ALGO. -/
def cvuInit (algo : Nat) : Nat := if algo ≤ 1 then 0xFFFFFFFF else if algo = 2 then 0xFFFF else 0

/-- R398: one byte into VALUE, by ALGO. -/
def cvuStep (algo c : Nat) (b : Byte) : Nat :=
  match algo with
  | 0 => crc32Step 0xEDB88320 c b
  | 1 => crc32Step 0x82F63B78 c b
  | 2 => crcMsbStep 16 0x1021 c b
  | _ => crcMsbStep 8 0x07 c b

/-- R398: RESULT from VALUE. -/
def cvuFinal (algo c : Nat) : Nat := if algo ≤ 1 then Nat.xor c 0xFFFFFFFF else c

/-- The check value of bytes by an algorithm of R398. -/
def checkValue (algo : Nat) (bs : List Byte) : Nat := cvuFinal algo (bs.foldl (cvuStep algo) (cvuInit algo))

/-- CRC-32C with the parameters of R72. -/
def crc32c (bs : List Byte) : Nat := checkValue 1 bs

/-- CRC-8 of R99: x^8 + x^2 + x + 1, initial value 0. -/
def crc8 (bs : List Byte) : Nat := checkValue 3 bs

/-- CRC-16/CCITT of R138. -/
def crc16 (bs : List Byte) : Nat := checkValue 2 bs

/-- BIP-8 (R60): even parity of every bit position over the bytes covered. -/
def bip8 (bs : List Byte) : Byte := bs.foldl (· ^^^ ·) 0

/-- The number of bit positions in which two parity bytes differ (R61). -/
def violations (a b : Byte) : Nat := ((List.range 8).filter fun i => (a ^^^ b).getLsbD i).length

end Sys2Proof.Machine
end

