-- ==== Sys2Proof/Machine/Fec.lean ====
section
/-! DEFINITION. Line codes: the scramblers (R73, R84), RS(544,512) and its decoder (R47, R74), PAM4, precoding and polarity (R36,
R75), and the test patterns (R51). -/

namespace Sys2Proof.Machine

/-- Bits of a number, k of them, first bit most significant. -/
def numBits (k x : Nat) : List Bool := (List.range k).map fun i => x.testBit (k - 1 - i)

/-- A number from bits, first bit most significant. -/
def bitsNum (bs : List Bool) : Nat := bs.foldl (fun a b => 2 * a + (if b then 1 else 0)) 0

/-- Bytes from all the bits, whole bytes only. -/
def wholeBytes (bs : List Bool) : List Byte := bitsBytes (bs.length / 8) bs

/-! ### Linear-feedback registers (R51, R73, R84) -/

/-- A register of w bits whose output bit is the sum of bits p and q, shifted in at the low end: k bits of its sequence in front of
`acc`, and the register after them. -/
def lfsrBits (w p q : Nat) : Nat → Nat → Nat → Nat × Nat
  | 0, x, acc => (acc, x)
  | k + 1, x, acc =>
    let o := (x / 2 ^ p + x / 2 ^ q) % 2
    lfsrBits w p q k ((x * 2 + o) % 2 ^ w) (2 * acc + o)

/-- Bytes XORed with the sequence of a register from x on. -/
def lfsrBytes (w p q : Nat) : Nat → List Byte → List Byte
  | _, [] => []
  | x, b :: r =>
    let o := lfsrBits w p q 8 x 0
    (b ^^^ BitVec.ofNat 8 o.1) :: lfsrBytes w p q o.2 r

/-- R73: the register before the first bit after FAW. -/
def scrSeed : Nat := 0x5A5A5A

/-- R73: generator 1 + x^18 + x^23. -/
def scrFrom (x : Nat) (bs : List Byte) : List Byte := lfsrBytes 23 22 17 x bs

/-- R84: generator 1 + x^6 + x^7; the register's bit 6 is the bit sent first, so that it starts with seven ones. -/
def sdhScramble (bs : List Byte) : List Byte :=
  let step := fun (x : Nat) => (x * 2 + (x / 64 + x / 32) % 2) % 128
  let out := fun (x : Nat) => (List.range 8).foldl (fun (a : Nat × Nat) _ => (2 * a.1 + a.2 / 64 % 2, step a.2)) (0, x)
  (bs.foldl (fun (a : List Byte × Nat) b =>
    let o := out a.2
    ((b ^^^ BitVec.ofNat 8 o.1) :: a.1, o.2)) ([], 127)).1.reverse

/-! ### RS(544,512) over GF(2^10) (R74) -/

/-- Product in the field with x^10 + x^3 + 1; `k` is the bits of b still to take. -/
def gfMul : Nat → Nat → Nat → Nat
  | 0, _, _ => 0
  | k + 1, a, b =>
    Nat.xor (if b % 2 = 1 then a else 0) (gfMul k (if 512 ≤ a then Nat.xor (a * 2) 0x409 else a * 2) (b / 2))

def gfTimes (a b : Nat) : Nat := gfMul 10 a b

/-- a to the power e; `k` is the bits of e still to take. -/
def gfPowBits : Nat → Nat → Nat → Nat
  | 0, _, _ => 1
  | k + 1, a, e => gfTimes (if e % 2 = 1 then a else 1) (gfPowBits k (gfTimes a a) (e / 2))

/-- a to the power e; the group of the field has order 1,023. -/
def gfPow (a e : Nat) : Nat := gfPowBits 10 a (e % 1023)

/-- The inverse of a non-zero element. -/
def gfInv (a : Nat) : Nat := gfPow a 1022

/-- A polynomial, lowest coefficient first, at x. -/
def gfEval (p : List Nat) (x : Nat) : Nat := p.foldr (fun c acc => Nat.xor c (gfTimes acc x)) 0

/-- A polynomial, highest coefficient first, times x − a. -/
def polyTimes (p : List Nat) (a : Nat) : List Nat :=
  List.zipWith Nat.xor (p ++ [0]) (0 :: p.map (gfTimes a))

/-- Coefficients of g(x), highest first; k factors remain and a is the next root. -/
def rsGen : Nat → Nat → List Nat → List Nat
  | 0, _, p => p
  | k + 1, a, p => rsGen k (gfTimes a 2) (polyTimes p a)

/-- g(x) without its leading 1. -/
def rsTaps : List Nat := (rsGen 32 1 [1]).drop 1

/-- One message symbol into the remainder. -/
def rsStep (rem : List Nat) (sym : Nat) : List Nat :=
  let fb := Nat.xor sym (rem.headD 0)
  List.zipWith Nat.xor (rem.drop 1 ++ [0]) (rsTaps.map (gfTimes fb))

/-- The 32 parity symbols of a message. -/
def rsParity (msg : List Nat) : List Nat := msg.foldl rsStep (List.replicate 32 0)

/-- k symbols of ten bits, first bit most significant. -/
def symbols : Nat → List Bool → List Nat
  | 0, _ => []
  | k + 1, bs => bitsNum (bs.take 10) :: symbols k (bs.drop 10)
def symbolBits (xs : List Nat) : List Bool := xs.flatMap (numBits 10)

/-- The 680 line bytes of a codeword. -/
def codewordBytes (msg : List Byte) : List Byte :=
  msg ++ bitsBytes 40 (symbolBits (rsParity (symbols 512 (lineBits msg))))

/-- The line bytes of a scrambled frame of k codewords. -/
def fecBytes : Nat → List Byte → List Byte
  | 0, _ => []
  | k + 1, bs => codewordBytes (bs.take 640) ++ fecBytes k (bs.drop 640)

/-! ### The decoder (R47) -/

/-- A codeword after the decoder: its symbols as passed on, and its symbol errors, none where it is beyond correction. -/
structure RsWord where
  syms : List Nat
  errs : Option Nat
  deriving DecidableEq, Repr

/-- The k codewords of a frame of line bits. -/
def rsWords : Nat → List Bool → List (List Nat)
  | 0, _ => []
  | k + 1, bs => symbols 544 (bs.take 5440) :: rsWords k (bs.drop 5440)

/-- The 32 syndromes: the received polynomial at α^0 to α^31. -/
def syndromes (w : List Nat) : List Nat := (List.range 32).map fun j => gfEval w.reverse (gfPow 2 j)

/-- Berlekamp and Massey: the error locator being found, lowest coefficient first, its degree, the correction polynomial and
its discrepancy. -/
structure Locator where
  c : List Nat := [1]
  deg : Nat := 0
  b : List Nat := [1]
  d : Nat := 1
  deriving DecidableEq, Repr

/-- The sum of two polynomials, lowest coefficient first. -/
def polyAdd : List Nat → List Nat → List Nat
  | [], q => q
  | p, [] => p
  | a :: p, b :: q => Nat.xor a b :: polyAdd p q

/-- Step i over syndromes s; b is held shifted by one at each step. -/
def Locator.step (x : Locator) (s : List Nat) (i : Nat) : Locator :=
  let d := (List.range (x.deg + 1)).foldl (fun a j => Nat.xor a (gfTimes (x.c.getD j 0) (if j ≤ i then s.getD (i - j) 0 else 0))) 0
  let b := 0 :: x.b
  if d = 0 then { x with b }
  else
    let c := polyAdd x.c (b.map (gfTimes (gfTimes d (gfInv x.d))))
    if 2 * x.deg ≤ i then ⟨c, i + 1 - x.deg, x.c, d⟩ else { x with c, b }

/-- The error locator of a word's syndromes. -/
def locator (s : List Nat) : Locator := (List.range 32).foldl (fun x i => x.step s i) {}

/-- The product of two polynomials to 32 coefficients. -/
def polyMul32 (p q : List Nat) : List Nat :=
  (List.range 32).map fun k => (List.range (k + 1)).foldl (fun a j => Nat.xor a (gfTimes (p.getD j 0) (q.getD (k - j) 0))) 0

/-- The coefficients of odd power, as a polynomial in x^2: the derivative of a polynomial over a field of characteristic 2. -/
def derivative : List Nat → List Nat
  | _ :: b :: r => b :: 0 :: derivative r
  | _ => []

/-- The error values by power of x, where the locator's degree is at most 16 and all its roots are places of the codeword. -/
def errorsOf (s : List Nat) : Option (List (Nat × Nat)) :=
  let x := locator s
  let places := (List.range 544).filter fun p => gfEval x.c (gfPow 2 (1023 - p)) == 0
  let om := polyMul32 s x.c
  if x.deg ≤ 16 && places.length == x.deg then
    some (places.map fun p =>
      let z := gfPow 2 (1023 - p)
      (p, gfTimes (gfPow 2 p) (gfTimes (gfEval om z) (gfInv (gfEval (derivative x.c) z)))))
  else none

/-- A word with its errors taken away. The first symbol is the coefficient of x^543. -/
def corrected (w : List Nat) (es : List (Nat × Nat)) : List Nat :=
  es.foldl (fun w e => w.modify (543 - e.1) (Nat.xor e.2)) w

/-- R47: up to 16 symbol errors are corrected; beyond, the word is passed as received and flagged. With `detectOnly` every word is
passed as received and counted as it would have been corrected. -/
def rsDecode (detectOnly : Bool) (w : List Nat) : RsWord :=
  let s := syndromes w
  if s.all (· == 0) then ⟨w, some 0⟩
  else
    match errorsOf s with
    | some es =>
      let y := corrected w es
      if (syndromes y).all (· == 0) then ⟨if detectOnly then w else y, some es.length⟩ else ⟨w, none⟩
    | none => ⟨w, none⟩

/-! ### Symbols on the line (R36, R75) -/

/-- Gray mapping of a bit pair to a PAM4 level, first bit most significant. -/
def pam4 (a b : Bool) : Nat := if a then (if b then 2 else 3) else (if b then 1 else 0)

/-- PAM4 levels of bits. -/
def pam4Levels : List Bool → List Nat
  | a :: b :: r => pam4 a b :: pam4Levels r
  | _ => []

/-- The bit pair of a level. -/
def pam4Bits (x : Nat) : List Bool := [2 ≤ x, x == 1 || x == 2]

/-- Precoding 1/(1 + D), modulo 4, from the symbol sent before. -/
def precode : Nat → List Nat → List Nat
  | _, [] => []
  | y, x :: r => let z := (x + 3 * y) % 4; z :: precode z r

/-- The symbols that precoded ones stand for: 1 + D, modulo 4. -/
def unprecode : Nat → List Nat → List Nat
  | _, [] => []
  | y, x :: r => (x + y) % 4 :: unprecode x r

/-- Polarity: the levels the other way up. -/
def invertLevel (isPam4 invert : Bool) (x : Nat) : Nat := if invert then (if isPam4 then 3 - x else 1 - x) else x

/-- The symbols that bits become on the line. -/
def toLine (isPam4 invert pre : Bool) (prior : Nat) (bits : List Bool) : List Nat :=
  let xs := if isPam4 then pam4Levels bits else bits.map fun b => if b then 1 else 0
  (if pre then precode (invertLevel isPam4 invert prior) xs else xs).map (invertLevel isPam4 invert)

/-- The bits that symbols of the line stand for. -/
def fromLine (isPam4 invert pre : Bool) (prior : Nat) (line : List Nat) : List Bool :=
  let xs := line.map (invertLevel isPam4 invert)
  let ys := if pre then unprecode (invertLevel isPam4 invert prior) xs else xs
  if isPam4 then ys.flatMap pam4Bits else ys.map fun x => x == 1

/-! ### Test patterns (R51) -/

/-- Width and taps of the register of a pattern code. PRESUMED (log 71): PRBS13Q is PRBS13, x^13 + x^12 + x^2 + x + 1, Gray
mapped. -/
def patternTaps (code : Nat) : Nat × List Nat :=
  match code with
  | 1 => (7, [6, 5])
  | 2 => (9, [8, 4])
  | 3 => (15, [14, 13])
  | 4 => (23, [22, 17])
  | 5 => (31, [30, 27])
  | _ => (13, [12, 11, 1, 0])

/-- k bits of a register of w bits whose output bit is the sum of its taps, newest first in front of `acc`, and the register
after them. -/
def lfsrSeq (w : Nat) (taps : List Nat) : Nat → Nat → List Bool → List Bool × Nat
  | 0, x, acc => (acc, x)
  | k + 1, x, acc =>
    let o := (taps.filter fun t => x.testBit t).length % 2
    lfsrSeq w taps k ((x * 2 + o) % 2 ^ w) ((o == 1) :: acc)

/-- The PAM4 level that a pattern given by place sends: SSPRQ, 65,535 levels, or the square wave at the outer levels. -/
def placeLevel (code i : Nat) : Nat := if code = 7 then Config.ssprq (i % 65535) % 4 else if i % 16 < 8 then 3 else 0

/-- k symbols of a pattern given by place, as bits, from place i on. -/
def placeBits (isPam4 : Bool) (code i k : Nat) : List Bool :=
  (List.range k).flatMap fun j =>
    let x := placeLevel code (i + j)
    if isPam4 then pam4Bits x else [x == 3]

/-- R51: the bits of k symbols of a pattern from register or place x on, and the place after them. DESIGN CHOICE (log 71): a
generator starts with its register all ones, which x = 0 stands for. -/
def patternBits (isPam4 : Bool) (code x k : Nat) : List Bool × Nat :=
  if code = 7 || code = 8 then (placeBits isPam4 code x k, x + k)
  else
    let p := patternTaps code
    let r := lfsrSeq p.1 p.2 (if isPam4 then 2 * k else k) (if x = 0 then 2 ^ p.1 - 1 else x) []
    (r.1.reverse, r.2)

/-- R51: where a checker finds itself in its pattern from the first bits of a stream: the register that they fill, or the first
place at which the pattern has the first 16 symbols. Answers the bits read and the place after them. -/
def patternFind (isPam4 : Bool) (code : Nat) (bs : List Bool) : Option (Nat × Nat) :=
  if code = 7 || code = 8 then
    let k := (placeBits isPam4 code 0 16).length
    ((List.range (if code = 7 then 65535 else 16)).find? fun i => placeBits isPam4 code i 16 == bs.take k).map
      fun i => (k, i + 16)
  else
    let w := (patternTaps code).1
    if bs.length < w then none else some (w, bitsNum (bs.take w))

/-- Bits in which two streams differ. -/
def bitErrors (xs ys : List Bool) : Nat := ((List.zipWith (· != ·) xs ys).filter id).length

end Sys2Proof.Machine
end

