-- ==== Sys2Proof/Machine/Ops.lean ====
section
/-! DEFINITION. The named operations over the state: time, objects and their fields, counters, free values, and the state
behind each unit. -/

namespace Sys2Proof.Machine

/-! ### Time (00_scope, Time) -/

/-- R446, log 1: the device reaches instant t. DTS advances with elapsed time while the tempo runs (R5, R426). -/
def State.advance (s : State) (t : Tick) : State :=
  { s with now := max s.now t, dts := if s.tempo then s.dts + (max s.now t - s.now) else s.dts }

/-- R7: the frame number of an instant of DTS. -/
def fnOf (x : Tick) : Nat := x / frame % 2 ^ 48

/-- R7: the frame number now. -/
def State.fn (s : State) : Nat := fnOf s.dts

/-- R3: an invalid TIME96 has more than 999,999,999 ns (R4). -/
def time96Ok (v : Val) : Bool := bits v 47 18 ≤ 999999999

/-- R3: the instant of a TIME96. -/
def ticksOfTime96 (v : Val) : Tick := bits v 95 48 * sec + bits v 47 18 * ns + bits v 17 0 * 256

/-- R3, R15: the TIME96 of an instant, rounded to 2^-18 ns, halves to the later step. -/
def time96 (x : Tick) : Val :=
  let u := (x + 128) / 256
  let n := u / 262144
  BitVec.ofNat 96 (n / 1000000000 * 2 ^ 48 + n % 1000000000 * 2 ^ 18 + u % 262144)

/-- Elapsed time since an instant is at least d. -/
def State.since (s : State) (t : Tick) (d : Tick) : Bool := t + d ≤ s.now

/-- The same since an event that may not have happened. -/
def State.sinceOpt (s : State) (t : Option Tick) (d : Tick) : Bool :=
  match t with
  | some x => s.since x d
  | none => false

/-! ### Objects (R10, R317, R318) -/

/-- Whether number o is an object of the row: instance and element within its ranges. -/
def ObjRow.covers (r : ObjRow) (o : Nat) : Bool :=
  r.base ≤ o && (o - r.base) % 4096 < r.elems && r.lo ≤ (o - r.base) / 4096 && (o - r.base) / 4096 ≤ r.hi

/-- The bank numbers of R364. -/
def bankExists (b : Nat) : Bool := b ≤ 0xC3 || (0xC8 ≤ b && b ≤ 0xD0)

/-- The row of an object, none where nothing carries the number. Area 14 holds one instance per bank of R364. -/
def findRow (o : Nat) : Option ObjRow :=
  match (areaRows (o / 2 ^ 24)).find? (·.covers o) with
  | some r => if r.base / 2 ^ 20 = 0x140 && !bankExists ((o - r.base) / 4096) then none else some r
  | none => none

/-- R318: the Default of an object. -/
def objDefault (o : Nat) : Val :=
  match findRow o with
  | some r => BitVec.ofNat 96 r.default
  | none => 0

/-- The value of object o in force. -/
def State.val (s : State) (o : Nat) : Val := Map.get (objDefault o) o s.dict

/-- Object o takes value v. -/
def State.setVal (s : State) (o : Nat) (v : Val) : State := { s with dict := Map.set (objDefault o) o v s.dict }

/-- The number of a field's object at instance i (counted from the base's) and element e. -/
def Fld.obj (f : Fld) (i : Nat) (e : Nat := 0) : Nat := objAt f.base i e

/-- A field's value in force. -/
def State.fld (s : State) (f : Fld) (i : Nat := 0) (e : Nat := 0) : Nat := bits (s.val (f.obj i e)) f.hi f.lo

/-- A field takes value x. -/
def State.setFld (s : State) (f : Fld) (x : Nat) (i : Nat := 0) (e : Nat := 0) : State :=
  s.setVal (f.obj i e) (setBits (s.val (f.obj i e)) f.hi f.lo x)

/-- A one-bit field is 1. -/
def State.on (s : State) (f : Fld) (i : Nat := 0) (e : Nat := 0) : Bool := s.fld f i e == 1

/-- A one-bit field takes a truth value. -/
def State.setOn (s : State) (f : Fld) (b : Bool) (i : Nat := 0) (e : Nat := 0) : State :=
  s.setFld f (if b then 1 else 0) i e

/-- Two's complement reading of a field. -/
def State.sfld (s : State) (f : Fld) (i : Nat := 0) (e : Nat := 0) : Int := signed (f.hi + 1 - f.lo) (s.fld f i e)

/-! ### Counters -/

/-- The live count of a counter that SNAPSHOT copies. -/
def State.liveOf (s : State) (o : Nat) : Nat := (Map.get (0 : Val) o s.live).toNat

/-- A live count takes a value. -/
def State.setLive (s : State) (o n : Nat) : State := { s with live := Map.set 0 o (BitVec.ofNat 96 n) s.live }

/-- A live 64-bit count goes up by k (wraps at 2^64). -/
def State.bumpLive (s : State) (o : Nat) (k : Nat := 1) : State :=
  s.setLive o ((s.liveOf o + k) % 2 ^ 64)

/-- A counter object read directly goes up by k, wrapping at 2^w. -/
def State.bump (s : State) (o : Nat) (k : Nat := 1) (w : Nat := 64) : State :=
  s.setVal o (BitVec.ofNat 96 (((s.val o).toNat + k) % 2 ^ w))

/-! ### Free values (log 9) -/

/-- The next free value. -/
def State.freeVal (s : State) : Val := Config.freeValue s.free

/-- The draw that freeVal read is spent. -/
def State.drawn (s : State) : State := { s with free := s.free + 1 }

/-! ### Units -/

def State.lane (s : State) (i : Nat) : Lane := Map.get {} i s.lanes
def State.setLane (s : State) (i : Nat) (l : Lane) : State := { s with lanes := Map.set {} i l s.lanes }
def State.modLane (s : State) (i : Nat) (f : Lane → Lane) : State := s.setLane i (f (s.lane i))
def State.cand (s : State) (i : Nat) : Cand := Map.get {} i s.cands
def State.setCand (s : State) (i : Nat) (c : Cand) : State := { s with cands := Map.set {} i c s.cands }
def State.out (s : State) (i : Nat) : Out := Map.get {} i s.outs
def State.setOut (s : State) (i : Nat) (c : Out) : State := { s with outs := Map.set {} i c s.outs }
def State.apsOf (s : State) (g : Nat) : Aps := Map.get {} g s.aps
def State.setAps (s : State) (g : Nat) (a : Aps) : State := { s with aps := Map.set {} g a s.aps }
def State.pprot (s : State) (g : Nat) : PathProt := Map.get {} g s.pathProt
def State.setPprot (s : State) (g : Nat) (p : PathProt) : State := { s with pathProt := Map.set {} g p s.pathProt }
def State.chan (s : State) (k : Nat) : Chan := Map.get {} k s.chans
def State.setChan (s : State) (k : Nat) (c : Chan) : State := { s with chans := Map.set {} k c s.chans }
def State.point (s : State) (k : Nat) : Point := Map.get {} k s.points
def State.setPoint (s : State) (k : Nat) (p : Point) : State := { s with points := Map.set {} k p s.points }
def State.mac (s : State) (m : Nat) : Mac := Map.get {} m s.macs
def State.setMac (s : State) (m : Nat) (x : Mac) : State := { s with macs := Map.set {} m x s.macs }
def State.pin (s : State) (u : Nat) : Pin := Map.get {} u s.pins
def State.setPin (s : State) (u : Nat) (p : Pin) : State := { s with pins := Map.set {} u p s.pins }

/-- A session by its number. -/
def State.session (s : State) (n : Nat) : Option Session := s.sessions.find? (·.num == n)

/-- Session x.num is replaced by x. -/
def State.setSession (s : State) (x : Session) : State :=
  { s with sessions := s.sessions.map fun y => if y.num = x.num then x else y }

/-- A session is changed where it is open. -/
def State.modSession (s : State) (n : Nat) (f : Session → Session) : State :=
  { s with sessions := s.sessions.map fun y => if y.num = n then f y else y }

/-- R388: the generation of the party with the given OWNER number. -/
def State.gen (s : State) (owner : Nat) : Nat := Map.get 0 owner s.gens

/-- The word at index k of window array o. -/
def State.word (s : State) (o k : Nat) : Word := Map.get 0 (o * 2 ^ 24 + k) s.words
def State.setWord (s : State) (o k : Nat) (w : Word) : State :=
  { s with words := Map.set 0 (o * 2 ^ 24 + k) w s.words }

/-- The core, the tempo and the engines run (R426, R402): start-up has reached the engines and the device is neither
fatal nor dormant. -/
def State.running (s : State) : Bool := s.startup == .serving || s.startup == .done

/-- R416: no image could be loaded and only the boot service runs. -/
def State.bootOnly (s : State) : Bool := s.startup == .bootService

/-- The dictionary server accepts Folla (R416, R430, R432): not in reset, and not while one control pair takes over from
the other (R392). -/
def State.serves (s : State) : Bool :=
  (s.startup == .done || s.bootOnly) && !s.resetLow && s.faults.handover.isNone

/-- POWER_STATE in force is ACTIVE (R402). -/
def State.active (s : State) : Bool := s.running && !s.resetLow && s.fld F.POWER_STATUS_STATE == 0

/-- Nothing is sent: the fatal state (R387), the halt of tamper policy 1 (R422), boot service and SCRAPPED (R416, R420). -/
def State.dark (s : State) : Bool :=
  s.faults.fatal || s.on F.VAULT_STATUS_HALTED || s.on F.VAULT_STATUS_BOOT_SERVICE

/-- MODES_ACTIVE bits (R20). -/
def State.cadence (s : State) : Bool := s.on F.MODES_ACTIVE_CADENCE
def State.tandemOn (s : State) : Bool := s.on F.MODES_ACTIVE_TANDEM
def State.galleryOn (s : State) : Bool := s.on F.MODES_ACTIVE_GALLERY
def State.partitioned (s : State) : Bool := s.on F.MODES_ACTIVE_PARTITIONED
def State.rootOn (s : State) : Bool := s.on F.MODES_ACTIVE_ROOT
def State.sealedOn (s : State) : Bool := s.on F.MODES_ACTIVE_SEALED

/-- R396: an instance whose reinitialisation runs or that is held halted. -/
def State.reinitOf (s : State) (sub inst : Nat) : Reinit := Map.get {} (sub * 256 + inst) s.faults.reinits
def State.heldHalted (s : State) (sub inst : Nat) : Bool := (s.reinitOf sub inst).halted
def State.reinitBusy (s : State) (sub inst : Nat) : Bool := (s.reinitOf sub inst).running || s.heldHalted sub inst

/-- The outcome of a command whose operands name units the device has. -/
def onUnit (ok : Bool) (what : String) (s : State) : Host.Outcome State Fault Refusal :=
  if ok then .next s else .refused (.noSuchUnit what)

end Sys2Proof.Machine
end

