-- ==== Sys2Proof/WellFormed.lean ====
section
/-! DEFINITION. Well-formed commands: every operand that names a unit names one the device has, and every field of a
received frame, record or message fits its width. An ill-formed command is refused by name (log 3): the environment
cannot give it. -/

namespace Sys2Proof

/-- Lanes 0 to 95 (00_scope, Lanes and slots). -/
def laneUnit (i : Nat) : Bool := i < 96

/-- First slots of an SDH path: 0 to 767 (R9, R96). -/
def pathUnit (i : Nat) : Bool := i < 768

/-- Bays 0 to 11. -/
def bayUnit (i : Nat) : Bool := i < 12

/-- Session numbers 1 to 32 (R330). -/
def sessUnit (n : Nat) : Bool := 1 ≤ n && n ≤ 32

/-- Object numbers are 32 bits wide (R10). -/
def objUnit (o : Nat) : Bool := o < 4294967296

/-- Reference inputs 0 to 15 (R211). -/
def refUnit (i : Nat) : Bool := i < 16

/-- Candidates 0 to 113 (R211). -/
def candUnit (i : Nat) : Bool := i < 114

/-- OUT0 to OUT7 (R235). -/
def outUnit (i : Nat) : Bool := i < 8

/-- PPSOUT0 to PPSOUT3 (R243). -/
def ppsUnit (i : Nat) : Bool := i < 4

/-- APS groups 0 to 47 (R248). -/
def apsUnit (i : Nat) : Bool := i < 48

/-- Engines 0 to 100 (R362). -/
def engineUnit (i : Nat) : Bool := i < 101

/-- The six performance counters of an engine (R374). -/
def pcUnit (k : Nat) : Bool := k < 6

/-- M0 and M1 (R350). -/
def macUnit (m : Nat) : Bool := m < 2

/-- T0 and T1, the tandem links (R264). -/
def tandemPort (p : Nat) : Bool := p < 2

/-- T2 and T3, the ring ports (R271). -/
def ringPortUnit (p : Nat) : Bool := p = 2 || p = 3

/-- Gallery seats 0 to 15 (R271). -/
def seatUnit (i : Nat) : Bool := i < 16

/-- The four overhead channels of a lane (R286). -/
def chanUnit (c : Nat) : Bool := c < 4

/-- Pair clocks 0 to 3 and DCC ports 0 to 7 (R299, R301). -/
def dccPair (i : Nat) : Bool := i < 4
def dccPort (i : Nat) : Bool := i < 8

/-- Check-value units 0 to 7 (R398). -/
def cvuUnit (u : Nat) : Bool := u < 8

/-- The five steps of the rail order (R426). -/
def railUnit (i : Nat) : Bool := i < 5

/-- Tamper inputs 0 to 3 (R422). -/
def tamperUnit (i : Nat) : Bool := i < 4

/-- Utility pins 0 to 31 (R434). -/
def pinUnit (i : Nat) : Bool := i < 32

/-- Bank IDs (R364). -/
def bankUnit (b : Nat) : Bool := b ≤ 0xC3 || (0xC8 ≤ b && b ≤ 0xD0)

/-- Subsystems 1 to 18 (R11); an instance is one byte (R385). -/
def partyUnit (sub inst : Nat) : Bool := 1 ≤ sub && sub ≤ 18 && inst < 256

/-- The cause codes of R382. -/
def causeUnit (c : Nat) : Bool := (1 ≤ c && c ≤ 0x10) || c = 0x20

def faultUnit (f : FaultIn) : Bool := causeUnit f.cause && partyUnit f.subsystem f.inst && f.detail < 65536

/-- A transport that exists: M0, M1, the SPI host port, the designated DCC (R330). -/
def transportUnit : Transport → Bool
  | .eth m => macUnit m
  | .spi => true
  | .dcc => true

/-- Message sources: a 48-bit address and a 16-bit tag. -/
def srcUnit (s : Src) : Bool :=
  transportUnit s.transport && s.peer < 2 ^ 48 && s.vlan.all (· < 65536) && s.own < 2 ^ 48

/-- Header fields within their widths (R324). -/
def headUnit (h : Head) : Bool :=
  h.version < 256 && h.session < 65536 && h.seq < 2 ^ 32 && h.keyEpoch < 2 ^ 32

def opUnit (o : Op) : Bool := objUnit o.obj && o.op < 256 && o.n < 65536

/-- A symbol of the line: one of the four levels of PAM4, of which NRZ has the first two (R75). -/
def symbolOk (x : Nat) : Bool := x < 4

def ttfRxOk (r : TtfRx) : Bool := r.line.all symbolOk && symbolOk r.prior
def sdhRxOk (r : SdhRx) : Bool := r.line.all symbolOk
def streamOk (r : Stream) : Bool := laneUnit r.lane && symbolOk r.prior && r.line.all symbolOk

def flagsOk (f : RingFlags) : Bool := f.seat < 16

/-- Field widths of R273. -/
def ringHeadOk (h : RingHead) : Bool :=
  h.fn < 2 ^ 48 && flagsOk h.flags && h.hver < 256 && h.turnaround < 2 ^ 48 && h.echoMfc < 256 && h.clockClass < 256 &&
  h.steps < 256 && h.timeError.all (fun e => decide (-9223372036854775808 ≤ e && e < 9223372036854775807)) &&
  h.epoch < 2 ^ 32 && h.crc < 2 ^ 32

def ringMsgOk (m : RingMsg) : Bool :=
  m.originFn < 2 ^ 48 && flagsOk m.flags && m.type < 256 && m.hops < 256 && m.tag < 2 ^ 32 && m.epoch < 2 ^ 32 &&
  m.fwVersion < 2 ^ 32 && m.digest < 2 ^ 32 && m.gxId < 2 ^ 32 && m.gxFn < 2 ^ 48 && m.gxCode < 256 &&
  m.nextEpoch < 2 ^ 32 && m.epochFn < 2 ^ 48 && m.gxLast < 2 ^ 32 && m.crc < 2 ^ 32

/-- Field widths of R264. -/
def tandemRecOk (r : TandemRec) : Bool :=
  r.fn < 2 ^ 48 && r.rver < 256 && r.fwVersion < 2 ^ 32 && r.digest < 2 ^ 32 && r.turnaround < 2 ^ 48 && r.serial < 2 ^ 64 &&
  r.crc < 2 ^ 32

def ethOk (f : EthFrame) : Bool :=
  f.dst < 2 ^ 48 && f.src < 2 ^ 48 && f.ethertype < 65536 && f.tags.all (· < 65536)

/-- Slots named in a persistence count. -/
def persistOk : Persist → Bool
  | .slotRdi s => s < 1024
  | .c2 s => pathUnit s
  | .g1 s => pathUnit s
  | .aisL => true
  | .rdiL => true
  | .ttfRdi => true
  | .tag => true
  | .laneId => true
  | .digest => true
  | .size => true
  | .gais => true
  | .ghl => true
  | .gmis => true

def sfSdOk : SfSd → Bool
  | .sf => true
  | .sd => true
  | .sfP s => pathUnit s
  | .sdP s => pathUnit s

def traceOk : TraceSite → Bool
  | .j0 => true
  | .j1 s => pathUnit s

/-- Counter sets of units that exist (R48, R82, R145, R210, R374). -/
def counterSetOk : CounterSet → Bool
  | .fec l => laneUnit l
  | .sdh l => laneUnit l
  | .group l => laneUnit l
  | .landing l => laneUnit l
  | .ledger l => laneUnit l
  | .mac m => macUnit m
  | .engine e => engineUnit e

/-- The units that FRAME_BOUNDARY names. -/
def boundaryUnits (seen : FrameSeen) : Bool :=
  seen.edges.all (fun e => refUnit e.input) && seen.eyes.all (fun e => laneUnit e.lane) && seen.streams.all streamOk

/-- Well-formed commands. -/
def Instr.wf : Instr → Bool
  | .openMsg _ src h part _ _ _ nonce => srcUnit src && headUnit h && part < 256 && nonce.length == 32
  | .closeMsg _ src h => srcUnit src && headUnit h
  | .keepaliveMsg _ src h => srcUnit src && headUnit h
  | .accessMsg _ src h ops => srcUnit src && headUnit h && ops.all opUnit
  | .commitMsg _ src h _ => srcUnit src && headUnit h
  | .dryRunMsg _ src h _ => srcUnit src && headUnit h
  | .abortMsg _ src h => srcUnit src && headUnit h
  | .cancelMsg _ src h _ => srcUnit src && headUnit h
  | .claimMsg _ src h obj _ _ => srcUnit src && headUnit h && objUnit obj
  | .renewMsg _ src h obj _ _ => srcUnit src && headUnit h && objUnit obj
  | .releaseMsg _ src h obj _ => srcUnit src && headUnit h && objUnit obj
  | .eventAckMsg _ src h _ => srcUnit src && headUnit h
  | .eventSend _ n => sessUnit n
  | .eventRetransmit _ n _ => sessUnit n
  | .intEnWrite _ n obj _ => sessUnit n && objUnit obj
  | .seqHoldTimeout _ n _ => sessUnit n
  | .sessionIdleExpiry _ n => sessUnit n
  | .leaseExpiry _ obj scope => objUnit obj && scope < 2
  | .sessionControlClose _ n target => sessUnit n && sessUnit target
  | .follaConfigWrite _ n _ => sessUnit n
  | .writeMsg _ _ => true
  | .readMsg _ _ => true
  | .readStatus _ => true
  | .transactionApply _ _ => true
  | .xcCopyComplete _ => true
  | .frameBoundary _ seen => boundaryUnits seen
  | .ttfFrameReceive _ lane rx => laneUnit lane && ttfRxOk rx
  | .sdhFrameReceive _ lane rx => laneUnit lane && sdhRxOk rx
  | .clientBlockReceive _ lane _ _ => laneUnit lane
  | .landingFrameReady _ _ => true
  | .slotComplete _ lane _ s => laneUnit lane && s < 1024
  | .egressFrameRelease _ lane _ => laneUnit lane
  | .egressFrameComplete _ lane _ => laneUnit lane
  | .bayPllLock _ bay => bayUnit bay
  | .txReady _ lane _ => laneUnit lane
  | .sigDetChange _ lane _ => laneUnit lane
  | .cdrLock _ lane _ => laneUnit lane
  | .cdrLockLoss _ lane => laneUnit lane
  | .adaptationComplete _ lane _ _ _ _ => laneUnit lane
  | .eqDiscardTimeout _ lane => laneUnit lane
  | .bringUpTimeout _ lane => laneUnit lane
  | .losDeclare _ lane => laneUnit lane
  | .losClear _ lane => laneUnit lane
  | .lofDeclare _ lane => laneUnit lane
  | .lofClear _ lane => laneUnit lane
  | .loblDeclare _ lane => laneUnit lane
  | .loblClear _ lane => laneUnit lane
  | .defectPersistence _ lane d => laneUnit lane && persistOk d
  | .sfSdDeclare _ lane d => laneUnit lane && sfSdOk d
  | .sfSdWindowEnd _ lane d => laneUnit lane && sfSdOk d
  | .fieldAcceptance _ lane _ => laneUnit lane
  | .traceAcceptance _ lane site => laneUnit lane && traceOk site
  | .s1Acceptance _ lane => laneUnit lane
  | .ltdClear _ lane => laneUnit lane
  | .stepAccept _ lane => laneUnit lane
  | .ledgerReseedTimeout _ lane => laneUnit lane
  | .actLost _ input => refUnit input
  | .actReturn _ input => refUnit input
  | .freqGateEnd _ c _ => candUnit c
  | .candWtrExpiry _ c => candUnit c
  | .lockTimeReached _ => true
  | .pullComplete _ => true
  | .holdoverExpiry _ => true
  | .watchdog _ => true
  | .softCw _ n _ => sessUnit n
  | .dtsSecondBoundary _ => true
  | .rampEnd _ out _ => outUnit out
  | .glideDone _ out => outUnit out
  | .outputResume _ out => outUnit out
  | .ppsPulse _ p => ppsUnit p
  | .apsAcceptance _ g => apsUnit g
  | .holdOffExpiry _ g _ _ => apsUnit g
  | .apsWtrExpiry _ g => apsUnit g
  | .fopChange _ g _ => apsUnit g
  | .pathHoldOffExpiry _ lane s => laneUnit lane && s < 1024
  | .pathWtrExpiry _ lane s => laneUnit lane && s < 1024
  | .tandemRecord _ port r => tandemPort port && tandemRecOk r
  | .tandemRecordSend _ => true
  | .holdPinChange _ _ => true
  | .takeover _ => true
  | .standbyWaitExpiry _ => true
  | .recordLossTimeout _ => true
  | .resyncComplete _ => true
  | .relinquish _ n => sessUnit n
  | .autoRelinquish _ => true
  | .takeoverForce _ n => sessUnit n
  | .ringHead _ port h => ringPortUnit port && ringHeadOk h
  | .ringMessage _ port m => ringPortUnit port && ringMsgOk m
  | .ringHeadSend _ => true
  | .ringWindowSend _ w => seatUnit w
  | .seatAbsence _ seat => seatUnit seat
  | .rosterRemoval _ seat => seatUnit seat
  | .epochAdoption _ => true
  | .gxGoDecision _ => true
  | .timeErrorUnknown _ => true
  | .unmute _ => true
  | .ringRelearn _ n => sessUnit n
  | .gxCatchup _ n => sessUnit n
  | .gxDiscard _ n => sessUnit n
  | .extWindow _ n lane c => sessUnit n && laneUnit lane && chanUnit c
  | .insWindow _ n lane c _ _ => sessUnit n && laneUnit lane && chanUnit c
  | .flushExt _ n lane c => sessUnit n && laneUnit lane && chanUnit c
  | .flushIns _ n lane c => sessUnit n && laneUnit lane && chanUnit c
  | .dccClockLoss _ pair => dccPair pair
  | .tcaLog _ n => sessUnit n
  | .pmReadSel _ n _ => sessUnit n
  | .xcWindowStart _ n _ => sessUnit n
  | .historyInfo _ n => sessUnit n
  | .historyClear _ n => sessUnit n
  | .clear _ n set => sessUnit n && counterSetOk set
  | .snapshot _ n set => sessUnit n && counterSetOk set
  | .freeze _ n e _ => sessUnit n && engineUnit e
  | .reseed _ n lane => sessUnit n && laneUnit lane
  | .injectBip _ n lane => sessUnit n && laneUnit lane
  | .injectB1 _ n lane => sessUnit n && laneUnit lane
  | .injectB2 _ n lane => sessUnit n && laneUnit lane
  | .errInject _ n lane => sessUnit n && laneUnit lane
  | .rcRead _ n obj => sessUnit n && objUnit obj
  | .w1cWrite _ n obj _ => sessUnit n && objUnit obj
  | .registerWrite _ n obj _ => sessUnit n && objUnit obj
  | .macFrameReceive _ m f => macUnit m && ethOk f
  | .pauseExpiry _ m => macUnit m
  | .pauseWdExpiry _ m => macUnit m
  | .pauseIgnoredClear _ m => macUnit m
  | .pauseRepeat _ m => macUnit m
  | .macTransmitStart _ m => macUnit m
  | .linkDown _ m => macUnit m
  | .linkUp _ m speed => macUnit m && speed < 3
  | .addrKWrite _ n m k _ => sessUnit n && macUnit m && k < 8
  | .wakeFrame _ m f => macUnit m && ethOk f
  | .faultRaise _ f => faultUnit f
  | .fatalFault _ f => faultUnit f
  | .fatalRecordWritten _ => true
  | .pairBInService _ => true
  | .faultAck _ n _ => sessUnit n
  | .faultDeclare _ n _ => sessUnit n
  | .faultInfo _ n => sessUnit n
  | .reinit _ n sub inst => sessUnit n && sub < 64 && inst < 256
  | .reinitComplete _ sub inst => partyUnit sub inst
  | .reinitTimeout _ sub inst => partyUnit sub inst
  | .deviceReset _ n _ => sessUnit n
  | .scrubPeriodEnd _ _ => true
  | .dmaAddr _ n _ => sessUnit n
  | .dmaWindow _ n _ => sessUnit n
  | .cvuConfig _ n u _ => sessUnit n && cvuUnit u
  | .cvuData _ n u _ => sessUnit n && cvuUnit u
  | .cvuByte _ n u _ => sessUnit n && cvuUnit u
  | .start _ n u => sessUnit n && cvuUnit u
  | .cvuRunComplete _ u _ => cvuUnit u
  | .tempSample _ temps => temps.length == 16
  | .railTelemetryRead _ rs => rs.all (fun r => r.1 < 6)
  | .fwImage _ n _ => sessUnit n
  | .verify _ n => sessUnit n
  | .fwVerifyComplete _ _ => true
  | .activate _ n => sessUnit n
  | .keyImport _ n item => sessUnit n && item.length == 11
  | .sessionRekey _ n nonce => sessUnit n && nonce.length == 8
  | .wipe _ n _ => sessUnit n
  | .wipeComplete _ => true
  | .tamperEvent _ input _ => tamperUnit input
  | .entropyFail _ => true
  | .vddAonGood _ _ _ => true
  | .railInRange _ rail => railUnit rail
  | .railTimeout _ rail => railUnit rail
  | .flywheelAbsent _ => true
  | .tempoStart _ => true
  | .vaultReady _ => true
  | .slotVerified _ => true
  | .enginesLoaded _ => true
  | .startupComplete _ => true
  | .resetNAssert _ _ => true
  | .resetNRelease _ => true
  | .powerCycle _ => true
  | .vddAonBrownout _ => true
  | .upinConfig _ n pin _ => sessUnit n && pinUnit pin
  | .upinChangeEffect _ pin => pinUnit pin
  | .parkEnd _ pin => pinUnit pin
  | .patternCheckerLock _ lane _ => laneUnit lane
  | .dccPortReceive _ port _ => dccPort port
  | .dccPortSend _ port => dccPort port
  | .dccClockReturn _ pair => dccPair pair
  | .bankClearComplete _ bank => bankUnit bank
  | .pcCounterWrap _ e k => engineUnit e && pcUnit k
  | .pcThresholdReached _ e k => engineUnit e && pcUnit k
  | .hwClaimRequest _ owner gen key _ => owner < 65536 && gen < 65536 && objUnit key

end Sys2Proof
end

