-- ==== Sys2Proof/Machine/Operands.lean ====
section
/-! DEFINITION. The operand forms: lanes and their geometry (R36, R139), slot descriptors (R126 to R133), connection entries
(R147 to R157), and which partition owns and sees an object (R30 to R33). -/

namespace Sys2Proof.Machine

/-! ### Lanes (R36) -/

/-- ROLE: 0 OFF, 1 SDH, 2 TTF, 3 CLIENT. -/
def State.role (s : State) (l : Nat) : Nat := s.fld F.LANE_CONFIG_ROLE l
def State.rate (s : State) (l : Nat) : Nat := s.fld F.LANE_CONFIG_RATE l

def State.isSdh (s : State) (l : Nat) : Bool := s.role l == 1
def State.isTtf (s : State) (l : Nat) : Bool := s.role l == 2
def State.isClient (s : State) (l : Nat) : Bool := s.role l == 3

/-- The role a rate code belongs to; 0 for a reserved code. -/
def rateRole (r : Nat) : Nat :=
  if r ≤ 4 then 1 else if 8 ≤ r && r ≤ 10 then 2 else if 12 ≤ r && r ≤ 14 then 3 else 0

/-- The client line rate in kb/s. -/
def State.clientKbps (s : State) (l : Nat) : Nat :=
  match s.rate l with
  | 12 => 10312500
  | 13 => 25781250
  | _ => s.fld F.CLIENT_RATE_RATE_KBPS l

/-- R139: blocks_max, n and C from the rate in kb/s. -/
def clientSlots (kbps : Nat) : Nat :=
  ceilDiv (ceilDiv ((ceilDiv (kbps * 1250250) 660000000 + 4) * 65) 8 + 16) 783
def clientCap (n : Nat) : Nat := (n * 783 - 16) * 8 / 65

/-- Slots used by a rate code (R36). -/
def rateSlots (rate kbps : Nat) : Nat :=
  match rate with
  | 0 => 3
  | 1 => 12
  | 2 => 48
  | 3 => 192
  | 4 => 768
  | 8 => 192
  | 9 => 768
  | 10 => 1024
  | 12 => clientSlots kbps
  | 13 => clientSlots kbps
  | 14 => min 1024 (clientSlots kbps)
  | _ => 0

/-- R36, R37: the lane's slot count; a lane of role OFF uses none. -/
def State.laneSlots (s : State) (l : Nat) : Nat :=
  if s.role l = 0 || rateRole (s.rate l) ≠ s.role l then 0 else rateSlots (s.rate l) (s.clientKbps l)

/-- The line rate in bit/s (R36). -/
def State.lineRate (s : State) (l : Nat) : Nat :=
  match s.rate l with
  | 0 => 155520000
  | 1 => 622080000
  | 2 => 2488320000
  | 3 => 9953280000
  | 4 => 39813120000
  | 8 => 10575360000
  | 9 => 42301440000
  | 10 => 56401920000
  | 12 => 10312500000
  | 13 => 25781250000
  | 14 => s.clientKbps l * 1000
  | _ => 0

/-- LANE_STATE (R40) as a value and as a number. -/
def LaneState.code : LaneState → Nat
  | .off => 0
  | .powering => 1
  | .acquiring => 2
  | .adapting => 3
  | .up => 4
  | .fault => 5
def State.laneState (s : State) (l : Nat) : Nat := s.fld F.LANE_STATE_STATE l
def State.laneUp (s : State) (l : Nat) : Bool := s.laneState l == 4

/-- The lane's bay is powered (R52). -/
def State.bayOn (s : State) (l : Nat) : Bool := s.on F.BAY_POWER_ENABLE (l / 8)

/-! ### Slots (R9) -/

def slotLane (g : Nat) : Nat := g / 1024
def slotNo (g : Nat) : Nat := g % 1024
def slotIdx (l s : Nat) : Nat := l * 1024 + s

/-! ### Descriptors (R126 to R128) -/

def descType (d : Nat) : Nat := d / 2 ^ 28 % 16
def descConcat (d : Nat) : Nat := d / 2 ^ 25 % 8
def descGroup (d : Nat) : Nat := d / 2 ^ 16 % 256
def descIndex (d : Nat) : Nat := d % 1024

/-- 3X for CONCAT: the slots of a VC-4-Xc. -/
def concatSlots (c : Nat) : Nat := 3 * 4 ^ c

/-- R128: the descriptor a CLIENT lane derives for slot k. -/
def State.clientDesc (s : State) (l k : Nat) : Nat := if k < s.laneSlots l then 3 * 2 ^ 28 + k else 0

/-- R127, R128: the descriptor in force, of the receive or the transmit side. -/
def State.desc (s : State) (base l k : Nat) : Nat :=
  if s.laneSlots l ≤ k then 0
  else if s.isClient l then s.clientDesc l k
  else bits (s.val (objAt base l k)) 31 0
def State.rxDesc (s : State) (l k : Nat) : Nat := s.desc O.RX_DESC l k
def State.txDesc (s : State) (l k : Nat) : Nat := s.desc O.TX_DESC l k

/-- The slots of a group on a lane, rising, by a side's descriptors (R129). -/
def State.groupSlots (s : State) (base l grp : Nat) : List Nat :=
  (List.range (s.laneSlots l)).filter fun k => descType (s.desc base l k) == 3 && descGroup (s.desc base l k) == grp

/-- The member slots of the path or group that slot k belongs to, member 0 first; none for TYPE 0. -/
def State.members (s : State) (base l k : Nat) : List Nat :=
  let d := s.desc base l k
  match descType d with
  | 1 => [k]
  | 2 => (List.range (concatSlots (descConcat d))).map fun m => k - descIndex d + m
  | 3 => s.groupSlots base l (descGroup d)
  | _ => []

/-- The first slot of the path or group of slot k. -/
def State.firstSlot (s : State) (base l k : Nat) : Nat := (s.members base l k).headD k

/-! ### Connection entries (R147, R153 to R157) -/

def entryDefault : Entry := 0x0000000800000000#64
def entryWork (e : Entry) : Nat := e.toNat % 2 ^ 17
def entryProt (e : Entry) : Nat := e.toNat / 2 ^ 17 % 2 ^ 17
def entryAction (e : Entry) : Nat := e.toNat / 2 ^ 34 % 8
def entryProtEn (e : Entry) : Bool := e.toNat / 2 ^ 37 % 2 == 1
def entrySel (e : Entry) : Nat := e.toNat / 2 ^ 38 % 4
def entryWatch (e : Entry) : Nat := e.toNat / 2 ^ 40 % 4096
def entryWatchEn (e : Entry) : Bool := e.toNat / 2 ^ 52 % 2 == 1
def entrySetSel (e : Entry) (x : Nat) : Entry :=
  BitVec.ofNat 64 (setBits (BitVec.ofNat 96 e.toNat) 39 38 x).toNat

/-- The page in force for egress frame fn: `force` from switchFn on, the other page before while the copy of R157 is
outstanding (R152, R155). -/
def Xc.pageFor (x : Xc) (fn : Nat) : Bool := if x.copy.isSome && fn < x.switchFn then !x.force else x.force

def Xc.page (x : Xc) (b : Bool) : Map Entry := if b then x.pageB else x.pageA
def Xc.entryOn (x : Xc) (b : Bool) (g : Nat) : Entry := Map.get entryDefault g (x.page b)

/-- The entry in force for egress frame fn. -/
def Xc.entryAt (x : Xc) (fn g : Nat) : Entry := x.entryOn (x.pageFor fn) g

/-- The active entry: of the page in force for the latest frames (R161). -/
def Xc.active (x : Xc) (g : Nat) : Entry := x.entryOn x.force g

def Xc.setOn (x : Xc) (b : Bool) (g : Nat) (e : Entry) : Xc :=
  if b then { x with pageB := Map.set entryDefault g e x.pageB } else { x with pageA := Map.set entryDefault g e x.pageA }

/-- R156: two entries keep WORK_SRC, PROT_SRC, PROT_EN and ACTION. -/
def sameSources (a b : Entry) : Bool := a.toNat % 2 ^ 38 == b.toNat % 2 ^ 38

/-- The controller or the selector writes SEL_STATE of an output slot (R156, R167) on page b, and on the other page where
its entry keeps the sources. -/
def State.setSelOn (s : State) (b : Bool) (g st : Nat) : State :=
  let e := s.xc.entryOn b g
  let o := s.xc.entryOn (!b) g
  let x := s.xc.setOn b g (entrySetSel e st)
  { s with xc := if sameSources e o then x.setOn (!b) g (entrySetSel o st) else x }
def State.setSel (s : State) (g st : Nat) : State := s.setSelOn s.xc.force g st

/-! ### Objects by place (R10) -/

def objArea (o : Nat) : Nat := o / 2 ^ 24
def objInst (o : Nat) : Nat := o / 4096 % 4096
def objElem (o : Nat) : Nat := o % 4096

/-- The lane whose object o is, where it is one lane's. Instance classes 0x100 and up of areas 04 to 07, 09 and 0C name
lanes by their low byte; class 0 of area 0C holds APS groups; the counters of spoke engine e are objects of lane e
(R378). -/
def objLane (o : Nat) : Option Nat :=
  let a := objArea o
  let c := objInst o / 256
  let l := objInst o % 256
  if !laneUnit l then none
  else if (a = 0x02 || a = 0x03 || a = 0x08 || a = 0x0F || a = 0x10 || a = 0x13) && c = 0 then some l
  else if (a = 0x04 || a = 0x05 || a = 0x06 || a = 0x07 || a = 0x09) && c < 9 then some l
  else if a = 0x0C && 1 ≤ c && c ≤ 3 then some l
  else none

/-- R30: partition p's lane bit. -/
def State.partHolds (s : State) (p l : Nat) : Bool :=
  s.on F.PART_ENABLE_ENABLE p &&
  (bits (s.val (objAt (O.PART_LANES_0 + l / 32) p)) 31 0).testBit (l % 32)

/-- R31: the partition that owns a lane; P0 owns whatever the others do not. -/
def State.laneOwner (s : State) (l : Nat) : Nat :=
  if s.partitioned then ([1, 2, 3, 4, 5, 6, 7].find? (s.partHolds · l)).getD 0 else 0

/-- R31, R32: partition p may read the slots of lane l. -/
def State.mayRead (s : State) (p l : Nat) : Bool :=
  let q := s.laneOwner l
  q == p || (s.fld F.PART_EXPORT_READERS q).testBit p

/-- R33: whether a session of partition p sees object o. The rule's "timing engine's state and DTS" are taken as LOOP_STATUS to
DTS_NOW, 0A.000.020 to 026 (DESIGN CHOICE, log 33). -/
def State.sees (s : State) (p o : Nat) : Bool :=
  p == 0 ||
  (match objLane o with
   | some l => s.laneOwner l == p
   | none => false) ||
  (objArea o == 0x01 && objInst o == p && 0x10 ≤ objElem o && objElem o ≤ 0x15) ||
  objArea o == 0x00 ||
  o == O.MODES || o == O.MODES_ACTIVE || o == O.MODES_FN ||
  (O.LOOP_STATUS ≤ o && o ≤ O.DTS_NOW) ||
  o == O.PM_READ_SEL || o == O.PM_READ_WINDOW || o == O.PM_NEWEST

/-- R31, R33: whether partition p may write what it sees: its lanes' objects and the PM read objects. -/
def State.mayWrite (s : State) (p o : Nat) : Bool :=
  p == 0 ||
  (match objLane o with
   | some l => s.laneOwner l == p
   | none => false) ||
  o == O.PM_READ_SEL || o == O.PM_READ_WINDOW

/-- The narrow views: the fatal latch (R387), boot service and SCRAPPED (R416, R420), the tamper latch for plain sessions
(R422). -/
def State.inView (s : State) (sealed : Bool) (o : Nat) : Bool :=
  let a := objArea o
  if s.on F.FAULT_STATUS_FATAL then a == 0x00 || a == 0x11 || a == 0x15
  else if s.on F.VAULT_STATUS_BOOT_SERVICE then
    a == 0x00 || o == O.VAULT_STATUS || o == O.FW_VERSION || o == O.FW_ROLLBACK_MIN || o == O.FW_IMAGE ||
    o == O.FW_CONTROL || o == O.FW_STATUS
  else if s.on F.VAULT_STATUS_TAMPERED && !sealed then a == 0x00 || a == 0x15 || a == 0x17
  else true

/-- Whether the object exists for a session of partition p. -/
def State.visible (s : State) (p : Nat) (sealed : Bool) (o : Nat) : Bool :=
  (findRow o).isSome && s.sees p o && s.inView sealed o

/-! ### Objects by kind -/

/-- The INT_EN object that belongs to a sticky object (R342). -/
def intEnOf (o : Nat) : Nat := if o / 2 ^ 20 = 0x053 then o + 0x100000 else o + 1

/-- XC_ENTRY objects (R161): instances 0x100 + lane. -/
def isEntryObj (o : Nat) : Bool := objArea o == 0x07 && objInst o / 256 == 1

/-- The output slot of an entry object. -/
def entrySlot (o : Nat) : Nat := slotIdx (objInst o % 256) (objElem o)

def entryObj (g : Nat) : Nat := objAt O.XC_ENTRY (slotLane g) (slotNo g)

/-- Lane configuration objects whose transition is R55 or R43. -/
def isDescObj (o : Nat) : Bool := objArea o == 0x06 && (objInst o / 256 == 1 || objInst o / 256 == 2)

end Sys2Proof.Machine
end

