-- ==== Sys2Proof/Machine/Flags.lean ====
section
/-! DEFINITION. Sticky bits, events and interrupt pins (R342 to R344). -/

namespace Sys2Proof.Machine

/-- The longest event queue of a session (R343). -/
def eventMax : Nat := 64

/-- R342, R343: one event entry into a session's queue; an entry still queued takes the new value by OR, a full queue drops
it and marks LOST. -/
def Session.queueEvent (x : Session) (o : Nat) (v : Word) : Session :=
  if x.evQueue.any (·.1 == o) then
    { x with evQueue := x.evQueue.map fun p => if p.1 = o then (o, p.2 ||| v) else p }
  else if x.evQueue.length < eventMax then { x with evQueue := x.evQueue ++ [(o, v)] }
  else { x with evLost := true }

/-- Whether a session takes events of an object (R342). -/
def State.wantsEvent (s : State) (x : Session) (o : Nat) : Bool := x.events && s.visible x.part x.sealed o

/-- Whether queueing for object o would find some session's queue full. -/
def State.eventLost (s : State) (o : Nat) : Bool :=
  s.sessions.any fun x => s.wantsEvent x o && !x.evQueue.any (·.1 == o) && eventMax ≤ x.evQueue.length

/-- The sticky value of o goes to every session that takes its events. -/
def State.queueAll (s : State) (o : Nat) : State :=
  let v := BitVec.ofNat 32 (s.val o).toNat
  { s with sessions := s.sessions.map fun x => if s.wantsEvent x o then x.queueEvent o v else x }

/-- Bit k of object o. -/
def State.objBit (s : State) (o k : Nat) : Bool := (s.val o).getLsbD k

/-- R342, R343: an event on sticky object o. A dropped event sets EVENTS_LOST, which is an event of its own. -/
def State.event (s : State) (o : Nat) : State :=
  let s1 := s.queueAll o
  if s.eventLost o && !s1.on F.FOLLA_STICKY_EVENTS_LOST then
    let s2 := s1.setOn F.FOLLA_STICKY_EVENTS_LOST true
    if s2.objBit O.FOLLA_INT_EN 2 then s2.queueAll O.FOLLA_STICKY else s2
  else s1

/-- A bit of a sticky object is set by hardware. The event is raised where the bit was 0 and its INT_EN bit is 1 (R342,
log 14). -/
def State.raiseBit (s : State) (o k : Nat) : State :=
  if s.objBit o k then s
  else
    let s1 := s.setVal o (setBits (s.val o) k k 1)
    if s1.objBit (intEnOf o) k then s1.event o else s1

/-- A sticky field's bit is set. -/
def State.raise (s : State) (f : Fld) (i : Nat := 0) (e : Nat := 0) : State := s.raiseBit (f.obj i e) f.lo

/-- The same under a condition. -/
def State.raiseIf (s : State) (b : Bool) (f : Fld) (i : Nat := 0) (e : Nat := 0) : State :=
  if b then s.raise f i e else s

/-- R342: INT_EN bits written 1 over sticky bits that are set raise an event. -/
def State.intEnEvent (s : State) (sticky : Nat) (old new : Val) : State :=
  if (s.val sticky).toNat &&& (new.toNat &&& (old.toNat ^^^ 0xFFFFFFFF)) = 0 then s else s.event sticky

/-- The sticky object that an INT_EN object belongs to, where o is one (R342). -/
def stickyOf (o : Nat) : Option Nat :=
  let a := objArea o
  let e := objElem o
  let c := objInst o / 256
  if a = 0x05 && c = 4 then some (o - 0x100000)
  else if (a = 0x02 && c = 0 && e = 0x005) || (a = 0x03 && e = 0x021) || (a = 0x04 && c = 0 && e = 0x021) ||
    (a = 0x05 && c = 0 && e = 0x003) || (a = 0x06 && c = 0 && e = 0x012) || (a = 0x07 && c = 0 && e = 0x003) ||
    o = O.XC_INT_EN || (a = 0x08 && c = 0 && e = 0x021) || (a = 0x09 && c = 0 && e = 0x031) ||
    (a = 0x0A && c = 1 && e = 0x007) || o = O.TE_INT_EN || (a = 0x0B && c = 1 && e = 0x012) ||
    (a = 0x0B && c = 2 && e = 0x004) || (a = 0x0C && c = 0 && e = 0x006) || o = O.TANDEM_INT_EN ||
    o = O.GALLERY_INT_EN || (a = 0x0F && c = 0 && e < 0x40 && e % 16 = 0x008) || o = O.PM_INT_EN ||
    o = O.FOLLA_INT_EN || (a = 0x12 && e = 0x019) || (a = 0x13 && e = 0x041) || o = O.MEM_INT_EN ||
    o = O.FAULT_INT_EN || o = O.POWER_INT_EN || o = O.VAULT_INT_EN then some (o - 1)
  else none

/-- R344: EVENT_SUMMARY. Only listed objects can be other than their Default 0, so the dictionary's entries suffice. -/
def State.eventSummary (s : State) : Nat :=
  (List.range 25).foldl (fun acc k =>
    if s.dict.any (fun p => objArea p.1 == k &&
      (match stickyOf p.1 with
       | some st => (p.2.toNat &&& (s.val st).toNat) % 2 ^ 32 != 0
       | none => false)) then acc + 2 ^ k else acc) 0

/-- R344: INTn_N is driven low. -/
def State.intLow (s : State) (n : Nat) : Bool :=
  s.running && !s.resetLow && (s.eventSummary &&& bits (s.val (O.INT_ROUTE_0 + n)) 24 0) != 0

end Sys2Proof.Machine
end

