-- ==== Sys2Proof/Machine/Claims.lean ====
section
/-! DEFINITION. Claims, generations and XC_STAGE (R153, R337 to R339, R388 to R390). -/

namespace Sys2Proof.Machine

/-- Status codes (R327). -/
abbrev stOk : Nat := 0x00
abbrev stUnknown : Nat := 0x01
abbrev stAccess : Nat := 0x02
abbrev stValue : Nat := 0x03
abbrev stLength : Nat := 0x04
abbrev stClaimed : Nat := 0x05
abbrev stAbandoned : Nat := 0x06
abbrev stRejected : Nat := 0x07
abbrev stNoTxn : Nat := 0x08
abbrev stBusy : Nat := 0x09
abbrev stStale : Nat := 0x0A
abbrev stAuth : Nat := 0x0B
abbrev stNotCancellable : Nat := 0x0C
abbrev stBadType : Nat := 0x0D

/-- OWNER of R388: a session, an engine, a subsystem instance. -/
def ownSession (n : Nat) : Nat := n
def ownEngine (e : Nat) : Nat := 0x4000 + e
def ownPart (sub inst : Nat) : Nat := 0x8000 + 256 * sub + inst

/-- No claim, no mark. -/
def noClaim : Claim := ⟨0, 0, 0, 0, false⟩

def State.claim (s : State) (k : Nat) : Claim := Map.get noClaim k s.claims
def State.setClaim (s : State) (k : Nat) (c : Claim) : State := { s with claims := Map.set noClaim k c s.claims }
def State.hwClaim (s : State) (k : Nat) : Claim := Map.get noClaim k s.hwClaims
def State.setHwClaim (s : State) (k : Nat) (c : Claim) : State := { s with hwClaims := Map.set noClaim k c s.hwClaims }

/-- A claim key (R337): object and scope. -/
def claimKey (obj scope : Nat) : Nat := obj * 2 + scope

/-- R337: whether object o lies inside the scope of key k. -/
def inScope (k o : Nat) : Bool := if k % 2 = 0 then k / 2 == o else k / 2 / 4096 == o / 4096

/-- Whether two keys overlap. -/
def overlaps (k j : Nat) : Bool :=
  if k % 2 = 1 || j % 2 = 1 then k / 2 / 4096 == j / 2 / 4096 else k / 2 == j / 2

/-- The session other than n that holds a claim over object o, 0 where none does. -/
def State.claimHolder (s : State) (n o : Nat) : Nat :=
  match s.claims.find? (fun p => p.2.holder != 0 && p.2.holder != n && inScope p.1 o) with
  | some p => p.2.holder
  | none => 0

/-! ### Abandoning (R338, R389) -/

/-- k claims were abandoned. -/
def State.abandoned (s : State) (k : Nat) : State :=
  if k = 0 then s else (s.bump O.ABANDONED_COUNT k).raise F.FAULT_STICKY_ABANDONED

/-- Every claim that owner w holds is released and marked; its generation stays shown (R348). -/
def markClaims (w : Nat) (m : Map Claim) : Map Claim :=
  m.map fun p => if p.2.holder = w then (p.1, { p.2 with holder := 0, leaseEnd := 0, lease := 0, mark := true }) else p

def heldBy (w : Nat) (m : Map Claim) : Nat := (m.filter (·.2.holder == w)).length

/-- TXN_TABLE: admitted transactions in FN order, then TXN_ID order. -/
def State.txnOrder (s : State) : List Txn := sortBy (fun a b => a.fn < b.fn || (a.fn == b.fn && a.id ≤ b.id)) s.txns

/-- Pending transactions with FN at most fn, in the order they apply (R335); held ones are not pending. -/
def State.pendingTo (s : State) (fn : Nat) : List Txn := s.txnOrder.filter fun x => x.st != .held && x.fn ≤ fn
def State.pendingAfter (s : State) (fn : Nat) : List Txn := s.txnOrder.filter fun x => x.st != .held && fn < x.fn

def wrsOf (xs : List Txn) : List Wr := xs.flatMap (·.writes)

/-- The writes of the transaction that holds XC_STAGE. -/
def State.stageWrites (s : State) : List Wr :=
  match s.xc.stage with
  | .free => []
  | .session n => ((s.session n).bind (·.txn)).getD [] ++ (s.txns.filter fun x => x.sess == n && x.st == .held).flatMap (·.writes)
  | .txn id => (s.txns.filter (·.id == id)).flatMap (·.writes)

/-- What is committed for frame fn or an earlier one and has still to apply, in order; a transaction that waits for GO is left
out (R284). -/
def State.aheadWrs (s : State) (fn : Nat) : List Wr := wrsOf ((s.pendingTo fn).filter fun x => x.st == .pending)

/-- An object takes a committed value; the bits that the write does not reach stay. -/
def State.mergeVal (s : State) (o : Nat) (v : Val) : State :=
  match findRow o with
  | some r => s.setVal o ((s.val o &&& ~~~(BitVec.ofNat 96 r.mask)) ||| (v &&& BitVec.ofNat 96 r.mask))
  | none => s

/-- The entry writes of a transaction. -/
def isEntryWr (w : Wr) : Bool := isEntryObj w.o

/-- A transaction of Gallery mode that is held is discarded (R285): GX_STATUS returns to 0. -/
def State.discardHeld (s : State) : State :=
  if s.txns.any (fun x => x.st == TxnState.held) then
    { s with txns := s.txns.filter (fun x => x.st != TxnState.held) }.setFld F.GX_STATUS_STATE 0
  else s

/-- XC_STAGE becomes free; the standby page reads as the active one (R154). -/
def State.freeStage (s : State) (mark : Bool) : State :=
  { s with xc := { s.xc with stage := .free, leaseEnd := none, mark := s.xc.mark || mark, badStaged := [] } }

/-- R153, R339: XC_STAGE held by session n is abandoned: entry writes of its open transaction are discarded, and a held
transaction as if by GX_DISCARD. -/
def State.abandonStage (s : State) (n : Nat) : State :=
  if s.xc.stage = .session n then
    let drop (x : Session) : Session := { x with txn := x.txn.map fun ws => ws.filter fun w => !isEntryWr w }
    (((s.modSession n drop).freeStage true).discardHeld).abandoned 1
  else s

/-- R388: a generation advances, from 0xFFFF to 0x0001. -/
def nextGen (g : Nat) : Nat := if g = 0xFFFF then 1 else g + 1

/-- R388, R389: the generation of a party advances; its claims are released and marked at the same instant. -/
def State.advanceGen (s : State) (w : Nat) : State :=
  let k := heldBy w s.claims + heldBy w s.hwClaims
  ({ s with
    gens := Map.set 0 w (nextGen (s.gen w)) s.gens
    claims := markClaims w s.claims
    hwClaims := markClaims w s.hwClaims }.abandoned k)

/-! ### CLAIM, RENEW, RELEASE (R337, R338) -/

/-- The key of XC_STAGE (R339). -/
def stageKey : Nat := claimKey O.XC_STAGED 0

/-- The holder of a claim that overlaps key k and belongs to another session. -/
def State.overlapHolder (s : State) (n k : Nat) : Nat :=
  match s.claims.find? (fun p => p.2.holder != 0 && p.2.holder != n && overlaps p.1 k) with
  | some p => p.2.holder
  | none => 0

/-- R337: the holder of another session's claim inside which key k lies. -/
def State.coverHolder (s : State) (n k : Nat) : Nat :=
  match s.claims.find? (fun p => p.2.holder != 0 && p.2.holder != n && (p.1 == k || (p.1 % 2 == 1 && inScope p.1 (k / 2)))) with
  | some p => p.2.holder
  | none => 0

/-- Lease of a CLAIM or RENEW in ms; 0 asks for LEASE_DEFAULT. -/
def State.leaseMs (s : State) (lease : Nat) : Nat := if lease = 0 then s.fld F.FOLLA_CONFIG_LEASE_DEFAULT else lease

/-- R400: a hardware claim on a check-value unit excludes a dictionary claim on it. -/
def State.hwHolds (s : State) (k : Nat) : Bool :=
  s.hwClaims.any fun p => p.2.holder != 0 && overlaps k (claimKey p.1 1) && objArea p.1 == 0x15

/-- Outcome of a claim request: status, the holder named, the state. -/
abbrev ClaimOut := Nat × Nat × State

/-- R337: CLAIM by session n. -/
def State.claimReq (s : State) (n obj scope lease : Nat) : ClaimOut :=
  let k := claimKey obj scope
  let h := s.overlapHolder n k
  let c := s.claim k
  let ms' := s.leaseMs lease
  let c' : Claim := ⟨n, s.gen (ownSession n), s.now + ms' * ms, ms', false⟩
  if 1 < scope then (stValue, 0, s)
  else if k = stageKey then (stAccess, 0, s)
  else if h ≠ 0 then (stClaimed, h, s)
  else if s.hwHolds k then (stClaimed, 0, s)
  else if c.holder = n then (stOk, 0, s.setClaim k c')
  else if c.mark then (stAbandoned, 0, s.setClaim k c')
  else if 256 ≤ s.claims.length then (stBusy, 0, s)
  else (stOk, 0, s.setClaim k c')

/-- R339: RENEW of XC_STAGE. -/
def State.renewStage (s : State) (n : Nat) : ClaimOut :=
  if s.xc.stage = .session n then
    (stOk, 0, { s with xc := { s.xc with leaseEnd := some (s.now + s.fld F.FOLLA_CONFIG_LEASE_DEFAULT * ms) } })
  else (stAccess, 0, s)

/-- R337: RENEW by session n. -/
def State.renewReq (s : State) (n obj scope lease : Nat) : ClaimOut :=
  let k := claimKey obj scope
  let c := s.claim k
  let h := s.coverHolder n k
  if 1 < scope then (stValue, 0, s)
  else if k = stageKey then s.renewStage n
  else if c.holder = n && n ≠ 0 then
    (stOk, 0, s.setClaim k { c with leaseEnd := s.now + s.leaseMs lease * ms, lease := s.leaseMs lease })
  else if h ≠ 0 then (stClaimed, h, s)
  else (stAccess, 0, s)

/-- R338: RELEASE by session n frees the claim without a mark. -/
def State.releaseReq (s : State) (n obj scope : Nat) : ClaimOut :=
  let k := claimKey obj scope
  let h := s.coverHolder n k
  if 1 < scope then (stValue, 0, s)
  else if k = stageKey then (stAccess, 0, s)
  else if (s.claim k).holder = n && n ≠ 0 then (stOk, 0, s.setClaim k noClaim)
  else if h ≠ 0 then (stClaimed, h, s)
  else (stAccess, 0, s)

/-- R338: a lease has run out: the claim is abandoned and LEASE_EXPIRED set. -/
def State.expireLease (s : State) (obj scope : Nat) : State :=
  let k := claimKey obj scope
  if k = stageKey then
    match s.xc.stage with
    | .session n =>
      if s.xc.leaseEnd.any (· ≤ s.now) then (s.abandonStage n).raise F.FOLLA_STICKY_LEASE_EXPIRED else s
    | _ => s
  else
    let c := s.claim k
    if c.holder ≠ 0 && c.leaseEnd ≤ s.now then
      ((s.setClaim k { c with holder := 0, leaseEnd := 0, lease := 0, mark := true }).abandoned 1).raise
        F.FOLLA_STICKY_LEASE_EXPIRED
    else s

/-- R390: leases that have run out by now expire before a request is looked at. -/
def State.leasesDue (s : State) : State :=
  (stageKey :: (s.claims.filter fun p => p.2.holder != 0).map (·.1)).foldl (fun s k => s.expireLease (k / 2) (k % 2)) s

/-- LEASE_EXPIRY (R338). -/
def execLeaseExpiry (t : Tick) (obj scope : Nat) (s : State) : Host.Outcome State Fault Refusal :=
  onUnit (objUnit obj && scope < 2) "object" ((s.advance t).expireLease obj scope)

/-! ### Hardware claims (R389) -/

/-- The answer to an engine or subsystem, as a result record: status and holder. -/
def State.answer (s : State) (obj status holder : Nat) : State := { s with lastOp := ⟨obj, status, holder, 0, []⟩ }

/-- R389: a request that carries an old generation is refused and counted. -/
def State.hwClaimAsk (s : State) (owner gen key : Nat) (ask : HwAsk) : State :=
  let c := s.hwClaim key
  if gen ≠ s.gen owner then (s.bump O.STALE_OPS).answer key stStale 0
  else
    match ask with
    | .acquire =>
      if c.holder ≠ 0 && c.holder ≠ owner then s.answer key stClaimed c.holder
      else if objArea key == 0x15 && s.claimHolder 0 key ≠ 0 then s.answer key stClaimed (s.claimHolder 0 key)
      else if c.holder = 0 && !c.mark && 512 ≤ s.hwClaims.length then s.answer key stBusy 0
      else (s.setHwClaim key ⟨owner, gen, 0, 0, false⟩).answer key (if c.mark then stAbandoned else stOk) 0
    | .release =>
      if c.holder = owner then (s.setHwClaim key noClaim).answer key stOk 0 else s.answer key stAccess c.holder

/-- HW_CLAIM_REQUEST (R389). -/
def execHwClaimRequest (t : Tick) (owner gen key : Nat) (ask : HwAsk) (s : State) :
    Host.Outcome State Fault Refusal :=
  onUnit (owner < 65536 && gen < 65536 && objUnit key) "owner" ((s.advance t).hwClaimAsk owner gen key ask)

end Sys2Proof.Machine
end

