-- ==== Sys2Proof/Machine/Queues.lean ====
section
/-! DEFINITION. Overhead queues and DCC ports (15_overhead_queues). -/

namespace Sys2Proof.Machine

/-! ### Channels and their settings (R287, R303) -/

def chanKey (lane c : Nat) : Nat := lane * 4 + c
def State.chanOf (s : State) (lane c : Nat) : Chan := s.chan (chanKey lane c)
def State.putChan (s : State) (lane c : Nat) (x : Chan) : State := s.setChan (chanKey lane c) x

/-- A field of channel c's objects: element 0x010 × c + k. -/
def State.qfld (s : State) (f : Fld) (lane c : Nat) : Nat := s.fld f lane (16 * c)
def State.qon (s : State) (f : Fld) (lane c : Nat) : Bool := s.qfld f lane c == 1

/-- R287: the channel is present on the lane's role. -/
def State.chanPresent (s : State) (lane c : Nat) : Bool := if c = 2 then s.isTtf lane else s.isSdh lane

/-- R287: bytes of the channel in one line frame. -/
def chanBytes (c : Nat) : Nat :=
  match c with
  | 0 => 3
  | 1 => 9
  | 2 => 64
  | _ => 3

/-! ### Items (R288, R289) -/

def Item.gap (i : Item) : Bool := i.tag.getLsbD 6
def Item.abort (i : Item) : Bool := i.tag.getLsbD 5
def Item.fcsBad (i : Item) : Bool := i.tag.getLsbD 4
def Item.fin (i : Item) : Bool := i.tag.getLsbD 3
def Item.valid (i : Item) : Nat := min 4 (i.tag.toNat % 8)
def Item.bytes (i : Item) : List Byte := (wordBytes i.data).take i.valid

/-- The idle item of R292. -/
def idleItem : Item := ⟨0x80, 0⟩
def gapItem (n : Nat) : Item := ⟨0x40, BitVec.ofNat 32 (min n 0xFFFFFFFF)⟩

/-- An item of up to four bytes. -/
def mkItem (bs : List Byte) (fin abort bad : Bool) : Item :=
  ⟨BitVec.ofNat 32 (bs.length + (if fin then 8 else 0) + (if bad then 16 else 0) + (if abort then 32 else 0)),
    BitVec.ofNat 32 (beNat (bs ++ List.replicate (4 - bs.length) 0))⟩

/-- R289: bytes packed four to an item; the last item carries END and the flags given. -/
def packItems : Nat → List Byte → Bool → Bool → List Item
  | 0, _, _, _ => []
  | k + 1, bs, abort, bad =>
    if bs.length ≤ 4 then [mkItem bs true abort bad]
    else mkItem (bs.take 4) false false false :: packItems k (bs.drop 4) abort bad

/-! ### Storage and overflow (R290, R291, R293) -/

/-- Items held, gap markers not counted (R303). -/
def fillOf (q : List Item) : Nat := (q.filter fun i => !i.gap).length

/-- R291: an arriving item. Answers the queue, whether the item was dropped, and whether a marker was opened. -/
def pushQ (q : List Item) (depth : Nat) (i : Item) : List Item × Bool × Bool :=
  if fillOf q < depth - 1 then (q ++ [i], false, false)
  else
    match q.getLast? with
    | some x => if x.gap then (q.dropLast ++ [gapItem (x.data.toNat + 1)], true, false) else (q ++ [gapItem 1], true, true)
    | none => ([gapItem 1], true, true)

/-- Items of the Folla frames that wait in an insert queue (R302), and all that it holds. -/
def Chan.mgmtFill (x : Chan) : Nat := (x.mgmt.map fun f => ceilDiv f.length 4).sum
def Chan.insFill (x : Chan) : Nat := fillOf x.ins + x.mgmtFill

/-- R300: flow control after a change of the insert fill; between the watermarks it holds. -/
def State.setFc (s : State) (lane c : Nat) : State :=
  let f := (s.chanOf lane c).insFill
  if 4 * s.qfld F.Q_LIMITS_HIGH_WM lane c + 1 ≤ f then s.setOn F.Q_STATUS_FC true lane (16 * c)
  else if f ≤ 4 * s.qfld F.Q_LIMITS_LOW_WM lane c then s.setOn F.Q_STATUS_FC false lane (16 * c)
  else s

/-- R391: the lane's spoke engine is revoked and serves no queue. -/
def State.engineRevoked (s : State) (lane : Nat) : Bool := s.fld F.ENGINE_STATUS_STATE lane == 4

/-- An item arrives at an extract queue; ROUTE 2 discards it (R303, log 15). -/
def State.pushExt (s : State) (lane c : Nat) (i : Item) : State :=
  if s.qfld F.Q_CONFIG_ROUTE lane c = 2 then s
  else
    let x := s.chanOf lane c
    let r := pushQ x.ext (if s.engineRevoked lane then 1 else s.qfld F.Q_DEPTH_EXT_DEPTH lane c) i
    let s1 := s.putChan lane c { x with ext := r.1 }
    let s2 := if r.2.1 then s1.bump (objAt O.EXT_DROPPED lane (16 * c)) else s1
    s2.raiseIf r.2.2 F.Q_STICKY_EXT_GAP lane (16 * c)

/-- An item arrives at an insert queue (R291, R297). -/
def State.pushIns (s : State) (lane c : Nat) (i : Item) : State :=
  let x := s.chanOf lane c
  let excess := s.qon F.Q_CONFIG_MODE lane c && s.qfld F.Q_LIMITS_MAX_LEN lane c < x.openLen + i.valid
  let r := if excess then (x.ins ++ [gapItem 1], true, true) else pushQ x.ins (s.qfld F.Q_DEPTH_INS_DEPTH lane c - x.mgmtFill) i
  let len := if excess || i.fin then 0 else x.openLen + i.valid
  let s1 := s.putChan lane c { x with ins := r.1, openLen := len }
  let s2 := if r.2.1 then s1.bump (objAt O.INS_DROPPED lane (16 * c)) else s1
  (s2.raiseIf r.2.2 F.Q_STICKY_INS_GAP lane (16 * c)).setFc lane c

/-- R293: a flush empties the queue, its gap marker included. -/
def State.flushExt (s : State) (lane c : Nat) : State :=
  s.putChan lane c { s.chanOf lane c with ext := [] }
def State.flushIns (s : State) (lane c : Nat) : State :=
  (s.putChan lane c { s.chanOf lane c with ins := [], mgmt := [], openLen := 0 }).setFc lane c

/-- Both queues and the framing state restart (R293, R391, R395). -/
def State.flushChan (s : State) (lane c : Nat) : State :=
  (s.putChan lane c {}).setFc lane c
def State.flushLane (s : State) (lane : Nat) : State :=
  [0, 1, 2, 3].foldl (fun s c => s.flushChan lane c) s

/-- R292, R322: one item is read; an empty queue gives the idle item, as does a channel not routed to the host (R303). -/
def State.popExt (s : State) (lane c : Nat) : Item × State :=
  let x := s.chanOf lane c
  match x.ext with
  | i :: r => if s.qfld F.Q_CONFIG_ROUTE lane c = 0 then (i, s.putChan lane c { x with ext := r }) else (idleItem, s)
  | [] => (idleItem, s)

/-- R322: one item written by the host; ignored on a channel not routed to it (R303). Tag bits 31 to 6 are the device's
(log 15). -/
def State.hostIns (s : State) (lane c : Nat) (tag data : Word) : State :=
  if s.qfld F.Q_CONFIG_ROUTE lane c = 0 then s.pushIns lane c ⟨tag &&& 0x3F, data⟩ else s

/-! ### HDLC (R294 to R297; ISO/IEC 13239) -/

/-- Bits of bytes as sent: HDLC sends the low-order bit of each octet first. -/
def hdlcBits (bs : List Byte) : List Bool := bs.flatMap fun b => (List.range 8).map fun i => b.getLsbD i

/-- Octets of destuffed bits, whole octets only. -/
def octets : Nat → List Bool → List Byte
  | 0, _ => []
  | k + 1, bs =>
    if bs.length < 8 then []
    else BitVec.ofNat 8 ((bs.take 8).foldr (fun b a => 2 * a + (if b then 1 else 0)) 0) :: octets k (bs.drop 8)

/-- Zero-bit insertion after n ones in a row: a 0 after five ones. Answers the bits, and the ones in a row at their end. -/
def stuff : Nat → List Bool → List Bool × Nat
  | n, [] => ([], n)
  | n, b :: r =>
    if b && n = 4 then
      let y := stuff 0 r
      (true :: false :: y.1, y.2)
    else
      let y := stuff (if b then n + 1 else 0) r
      (b :: y.1, y.2)

/-- Zero-bit deletion. -/
def unstuff : Nat → List Bool → List Bool
  | _, [] => []
  | n, b :: r => if n = 5 then unstuff (if b then 1 else 0) r else b :: unstuff (if b then n + 1 else 0) r

/-- The FCS of content: 16 bits (reflected 0x1021) or 32 bits, low-order octet first. -/
def fcsBytes (fcs32 : Bool) (bs : List Byte) : List Byte :=
  let v := if fcs32 then checkValue 0 bs
    else Nat.xor (bs.foldl (fun c b => shiftRight 0x8408 8 (Nat.xor c b.toNat)) 0xFFFF) 0xFFFF
  (beBytes (if fcs32 then 4 else 2) v).reverse

/-- The flag 0x7E, as bits. -/
def flagBits : List Bool := [false, true, true, true, true, true, true, false]

/-- R302: the channel designated for management. -/
def State.isMgmt (s : State) (lane c : Nat) : Bool :=
  s.on F.MGMT_DCC_ENABLE && s.fld F.MGMT_DCC_LANE == lane && s.fld F.MGMT_DCC_CHANNEL == c

/-- RX_ERRORS counted. -/
def State.rxError (s : State) (lane c : Nat) : State :=
  (s.bump (objAt O.RX_ERRORS lane (16 * c))).raise F.Q_STICKY_RX_ERROR lane (16 * c)

def State.pushItems (s : State) (lane c : Nat) (is : List Item) : State :=
  is.foldl (fun s i => s.pushExt lane c i) s

/-- R294, R302: a received HDLC frame with its content and its FCS judgement. -/
def State.hdlcContent (s : State) (lane c : Nat) (content : List Byte) (good : Bool) : State :=
  let maxLen := s.qfld F.Q_LIMITS_MAX_LEN lane c
  if content.length < 1 then s.rxError lane c
  else if maxLen < content.length then
    (s.pushItems lane c (packItems maxLen (content.take maxLen) true false)).rxError lane c
  else if good && s.isMgmt lane c && content.take 2 == [0x88, 0xB5] then
    { (s.bump O.MGMT_DCC_FRAMES).bump (objAt O.EXT_FRAMES lane (16 * c)) with dccIn := s.dccIn ++ [content.drop 2] }
  else
    let s1 := (s.pushItems lane c (packItems content.length content false !good)).bump (objAt O.EXT_FRAMES lane (16 * c))
    if good then s1 else s1.rxError lane c

/-- The frame of the bits between two flags, oldest first. -/
def State.hdlcFrame (s : State) (lane c : Nat) (raw : List Bool) : State :=
  let fcs32 := s.qon F.Q_CONFIG_FCS32 lane c
  let n := if fcs32 then 4 else 2
  let d := unstuff 0 raw
  let o := octets (d.length / 8) d
  let content := o.take (o.length - n)
  if raw.isEmpty then s
  else s.hdlcContent lane c content (d.length % 8 == 0 && n ≤ o.length && o.drop (o.length - n) == fcsBytes fcs32 content)

/-- R294: an abort sequence, or the end of delivery (R295): the bytes so far, with END and ABORT on the last. -/
def State.hdlcAbort (s : State) (lane c : Nat) (raw : List Bool) : State :=
  let d := unstuff 0 raw
  let o := octets (d.length / 8) d
  if o.isEmpty then s
  else (s.pushItems lane c (packItems o.length (o.take (s.qfld F.Q_LIMITS_MAX_LEN lane c)) true false)).rxError lane c

/-- One received bit. -/
def State.hdlcBit (s : State) (lane c : Nat) (b : Bool) : State :=
  let x := s.chanOf lane c
  let bs := b :: x.bits
  if bs.take 8 = flagBits.reverse then
    let s1 := s.putChan lane c { x with bits := [], hunting := false }
    if x.hunting then s1 else s1.hdlcFrame lane c (bs.drop 8).reverse
  else if bs.take 7 = List.replicate 7 true && !x.hunting then
    (s.putChan lane c { x with bits := bs.take 8, hunting := true }).hdlcAbort lane c (bs.drop 7).reverse
  else if x.hunting then s.putChan lane c { x with bits := bs.take 8 }
  else s.putChan lane c { x with bits := bs }

/-- R294: content beyond MAX_LEN closes the frame; the rest is discarded to the next flag. -/
def State.hdlcLong (s : State) (lane c : Nat) : State :=
  let x := s.chanOf lane c
  let d := unstuff 0 x.bits.reverse
  let maxLen := s.qfld F.Q_LIMITS_MAX_LEN lane c
  if !x.hunting && (maxLen + 5) * 8 ≤ d.length then
    ((s.putChan lane c { x with hunting := true, bits := x.bits.take 8 }).pushItems lane c
      (packItems maxLen ((octets maxLen d).take maxLen) true false)).rxError lane c
  else s

/-- R294, R298: the bytes of one line frame reach the extract side. -/
def State.chanReceive (s : State) (lane c : Nat) (bytes : List Byte) : State :=
  if !s.chanPresent lane c || s.reinitBusy 11 lane then s
  else if s.qon F.Q_CONFIG_MODE lane c then
    ((lineBits bytes).foldl (fun s b => s.hdlcBit lane c b) s).hdlcLong lane c
  else s.pushItems lane c (packItems bytes.length bytes false false)

/-- R295: delivery stops; a frame in progress is closed with END and ABORT. -/
def State.chanStop (s : State) (lane c : Nat) : State :=
  let x := s.chanOf lane c
  if x.hunting then s
  else (s.putChan lane c { x with hunting := true, bits := [] }).hdlcAbort lane c x.bits.reverse

/-- The next whole frame of an insert queue (R296): items up to the first END; a gap marker discards what precedes it.
Answers its content and whether it is to be sent, and the queue behind it; none where no frame is whole. -/
def nextFrame : List Item → List Byte → Option (List Byte × Bool × List Item)
  | [], _ => none
  | i :: r, acc =>
    if i.gap then nextFrame r []
    else if i.fin then some (acc ++ i.bytes, !i.abort, r)
    else nextFrame r (acc ++ i.bytes)

/-- What follows the last gap marker that no END precedes: its frame's items are discarded (R296). -/
def dropGaps : List Item → List Item → List Item
  | [], acc => acc.reverse
  | i :: r, acc => if i.gap then dropGaps r [] else if i.fin then acc.reverse ++ i :: r else dropGaps r (i :: acc)

/-- R296: an abort sequence. -/
def abortBits : List Bool := List.replicate 8 true

/-- R296: the frame on the line goes on with the next item: its bytes, and after its END item the FCS, with zero-bit insertion. A
gap marker, or nothing where a flush emptied the queue (log 15), ends it with an abort sequence. -/
def Chan.sendItem (x : Chan) (fcs32 : Bool) : Chan :=
  let stop := fun (r : List Item) =>
    { x with ins := r, unfinished := false, content := [], ones := 0, outBits := x.outBits ++ abortBits }
  match x.ins with
  | [] => stop []
  | i :: r =>
    let body := x.content ++ i.bytes
    let y := stuff x.ones (hdlcBits (if i.fin then i.bytes ++ fcsBytes fcs32 body else i.bytes))
    let out := x.outBits ++ y.1
    if i.gap then stop r
    else if i.fin then
      { x with ins := r, unfinished := false, content := [], ones := 0, outBits := out, ends := x.ends ++ [out.length] }
    else { x with ins := r, content := body, ones := y.2, outBits := out }

/-- R296, R302: between frames: flags and the start of a frame that is whole, a Folla frame first; a frame that is not to be sent is
discarded; where no frame is whole, a flag. -/
def Chan.startFrame (x : Chan) (flagsMin : Nat) : Chan :=
  let start := fun (y : Chan) => { y with outBits := y.outBits ++ (List.replicate flagsMin flagBits).flatten, unfinished := true }
  match x.mgmt with
  | f :: fs => start { x with mgmt := fs, ins := packItems f.length f false false ++ x.ins }
  | [] =>
    match nextFrame x.ins [] with
    | some (_, send, r) => if send then start { x with ins := dropGaps x.ins [] } else { x with ins := r }
    | none => { x with ins := dropGaps x.ins [], outBits := x.outBits ++ flagBits }

/-- R296: the transmitter needs `need` bits; k bounds the steps. -/
def hdlcFill (flagsMin : Nat) (fcs32 : Bool) (need : Nat) : Nat → Chan → Chan
  | 0, x => x
  | k + 1, x =>
    if need ≤ x.outBits.length then x
    else hdlcFill flagsMin fcs32 need k (if x.unfinished then x.sendItem fcs32 else x.startFrame flagsMin)

/-- R298: k bytes from the insert queue in transparent mode; gap markers are skipped, missing bytes are IDLE_BYTE. -/
def takeBytes (idle : Byte) : Nat → Nat → List Item → List Byte × List Item
  | _, 0, q => ([], q)
  | 0, k, q => (List.replicate k idle, q)
  | fuel + 1, k, q =>
    match q with
    | [] => (List.replicate k idle, [])
    | i :: r =>
      if i.gap then takeBytes idle fuel k r
      else if i.valid ≤ k then
        let y := takeBytes idle fuel (k - i.valid) r
        (i.bytes ++ y.1, y.2)
      else (i.bytes.take k, mkItem (i.bytes.drop k) i.fin i.abort i.fcsBad :: r)

/-- R296, R298: the channel bytes of one egress frame. -/
def State.chanSend (s : State) (lane c : Nat) : List Byte × State :=
  let x := s.chanOf lane c
  let k := chanBytes c
  let idle := BitVec.ofNat 8 (s.qfld F.Q_CONFIG_IDLE_BYTE lane c)
  if s.engineRevoked lane || s.reinitBusy 11 lane then (List.replicate k (if s.qon F.Q_CONFIG_MODE lane c then 0x7E else idle), s)
  else if s.qon F.Q_CONFIG_MODE lane c then
    let y := hdlcFill (s.qfld F.Q_LIMITS_FLAGS_MIN lane c) (s.qon F.Q_CONFIG_FCS32 lane c) (8 * k)
      (16 * k + 2 * x.insFill + 2 * x.ins.length + 2) x
    let whole := y.ends.filter (· ≤ 8 * k)
    let rest := (y.ends.filter (8 * k < ·)).map (· - 8 * k)
    let y1 := { y with outBits := y.outBits.drop (8 * k), ends := rest }
    (bitsBytes k y.outBits, ((s.putChan lane c y1).bump (objAt O.INS_FRAMES lane (16 * c)) whole.length).setFc lane c)
  else
    let r := takeBytes idle (x.ins.length + k) k x.ins
    (r.1, (s.putChan lane c { x with ins := r.2 }).setFc lane c)

/-- R302: a Folla reply is queued on the designated channel ahead of the next frame that has not started; it is dropped
by R291 where the insert queue is full. -/
def State.mgmtQueue (s : State) (bytes : List Byte) : State :=
  let lane := s.fld F.MGMT_DCC_LANE
  let c := s.fld F.MGMT_DCC_CHANNEL
  let x := s.chanOf lane c
  let content := [0x88, 0xB5] ++ bytes
  let n := ceilDiv content.length 4
  if x.insFill + n ≤ s.qfld F.Q_DEPTH_INS_DEPTH lane c - 1 then
    (s.putChan lane c { x with mgmt := x.mgmt ++ [content] }).setFc lane c
  else
    let r := (List.range n).foldl (fun (a : List Item × Bool) _ =>
      let p := pushQ a.1 1 idleItem
      (p.1, a.2 || p.2.2)) (x.ins, false)
    ((s.putChan lane c { x with ins := r.1 }).bump (objAt O.INS_DROPPED lane (16 * c)) n).raiseIf r.2 F.Q_STICKY_INS_GAP lane
      (16 * c)

/-! ### DCC ports (R299, R301) -/

/-- R299: the channel routed to a port: ROUTE 1 and PORT naming it. -/
def State.portChan (s : State) (port : Nat) : Option (Nat × Nat) :=
  ((List.range 384).find? fun k =>
    s.qfld F.Q_CONFIG_ROUTE (k / 4) (k % 4) == 1 && s.qfld F.Q_CONFIG_PORT (k / 4) (k % 4) == port).map
    fun k => (k / 4, k % 4)

/-- A port exchanges data: it is enabled, its pair clock is present, and the engines run. -/
def State.portLive (s : State) (port : Nat) : Bool :=
  s.running && s.on F.DCC_PORT_CONFIG_ENABLE port && s.on F.DCC_PORT_STATUS_CLK_PRESENT port

/-- R299: what external equipment delivers enters the routed insert queue. A frame with a bad FCS is closed with ABORT, so
that R296 discards it (log 15). -/
def State.portReceive (s : State) (port : Nat) (d : DccIn) : State :=
  if !s.portLive port then s
  else
    match s.portChan port with
    | none => s
    | some (lane, c) =>
      let push := fun (s : State) (is : List Item) => is.foldl (fun s i => s.pushIns lane c i) s
      match d with
      | .hdlc content ok => if content.isEmpty then s else push s (packItems content.length content (!ok) false)
      | .raw bytes => if bytes.isEmpty then s else push s (packItems bytes.length bytes false false)

/-- R299: the port sends: in HDLC mode the next whole frame of the extract queue, with its FCS, inverted where the frame is
tagged FCS_BAD or ABORT; in transparent mode the next item's bytes, or IDLE_BYTE. Gap markers are taken with what they
precede. -/
def State.portSend (s : State) (port : Nat) : State :=
  if !s.portLive port then s
  else
    match s.portChan port with
    | none => s
    | some (lane, c) =>
      let x := s.chanOf lane c
      let q := x.ext.dropWhile Item.gap
      if s.qon F.Q_CONFIG_MODE lane c then
        let fr := q.takeWhile fun i => !i.fin
        match q.drop fr.length with
        | [] => s
        | e :: r =>
          let content := ((fr.filter fun i => !i.gap) ++ [e]).flatMap Item.bytes
          let bad := e.abort || e.fcsBad || fr.any Item.gap
          let fcs := (fcsBytes (s.qon F.Q_CONFIG_FCS32 lane c) content).map fun b => if bad then b ^^^ 0xFF else b
          { s.putChan lane c { x with ext := r } with dccOut := Map.set [] port (content ++ fcs) s.dccOut }
      else
        match q with
        | [] => { s with dccOut := Map.set [] port [BitVec.ofNat 8 (s.qfld F.Q_CONFIG_IDLE_BYTE lane c)] s.dccOut }
        | i :: r => { s.putChan lane c { x with ext := r } with dccOut := Map.set [] port i.bytes s.dccOut }

/-- DCC_PORT_STATUS.FC (R300): DCCn_FC_N is low while the routed insert queue asserts flow control. -/
def State.portFc (s : State) (port : Nat) : Bool :=
  match s.portChan port with
  | some (lane, c) => s.qon F.Q_STATUS_FC lane c
  | none => false

/-- R301: CLK_PRESENT of both ports of a pair. -/
def State.pairClock (s : State) (pair : Nat) (b : Bool) : State :=
  (s.setOn F.DCC_PORT_STATUS_CLK_PRESENT b (2 * pair)).setOn F.DCC_PORT_STATUS_CLK_PRESENT b (2 * pair + 1)

/-- DCC_CLOCK_RETURN (R301). -/
def execDccClockReturn (t : Tick) (pair : Nat) (s : State) : Host.Outcome State Fault Refusal :=
  onUnit (dccPair pair) "pair" ((s.advance t).pairClock pair true)

/-- DCC_PORT_RECEIVE (R299). -/
def execDccPortReceive (t : Tick) (port : Nat) (d : DccIn) (s : State) : Host.Outcome State Fault Refusal :=
  onUnit (dccPort port) "port" ((s.advance t).portReceive port d)

/-- DCC_PORT_SEND (R299). -/
def execDccPortSend (t : Tick) (port : Nat) (s : State) : Host.Outcome State Fault Refusal :=
  onUnit (dccPort port) "port" ((s.advance t).portSend port)

end Sys2Proof.Machine
end

