-- ==== Sys2Proof/Machine/Transport.lean ====
section
/-! DEFINITION. Folla messages as bytes (R324, R340) and their way out: MAC queues (R354, R355), the SPI buffer (R346) and
the designated DCC (R302). -/

namespace Sys2Proof.Machine

/-! ### MAC counters (R359) -/

/-- Live counter k of MAC m goes up by n; a change of bit 31 sets its HALF_MAP bit and STATS_HALF. -/
def State.macCount (s : State) (m k : Nat) (n : Nat := 1) : State :=
  let o := objAt O.MAC_COUNTER m k
  let a := s.liveOf o
  let b := (a + n) % 2 ^ 32
  let s1 := s.setLive o b
  if a / 2 ^ 31 = b / 2 ^ 31 then s1
  else (s1.setVal (objAt O.HALF_MAP m) (setBits (s1.val (objAt O.HALF_MAP m)) k k 1)).raise F.MAC_STICKY_STATS_HALF m

/-! ### Transmit queues (R354) -/

/-- Size of a Folla frame from destination address through FCS, padded to the minimum (R345). -/
def TxEth.size (x : TxEth) : Nat := max 64 (14 + (if x.vlan.isSome then 4 else 0) + x.bytes.length + 4)

def Mac.queue (x : Mac) (q : Nat) : List TxEth := Map.get [] q x.queues
def Mac.setQueue (x : Mac) (q : Nat) (l : List TxEth) : Mac := { x with queues := Map.set [] q l x.queues }
def queueBytes (l : List TxEth) : Nat := (l.map TxEth.size).sum

/-- R354, R355: a frame of a message class enters its queue, or is dropped and counted. -/
def State.macEnqueue (s : State) (m cls : Nat) (x : TxEth) : State :=
  let q := s.fld F.TX_QMAP_QUEUE m / 4 ^ cls % 4
  let mac := s.mac m
  let l := mac.queue q
  if queueBytes l + x.size ≤ 8192 then s.setMac m (mac.setQueue q (l ++ [x])) else s.macCount m (14 + q)

/-! ### Messages (R324, R325, R340) -/

/-- Message types (R325). -/
abbrev tyOpen : Nat := 0x01
abbrev tyClose : Nat := 0x02
abbrev tyKeepalive : Nat := 0x03
abbrev tyAccess : Nat := 0x10
abbrev tyCommit : Nat := 0x20
abbrev tyAbort : Nat := 0x21
abbrev tyCancel : Nat := 0x22
abbrev tyClaim : Nat := 0x30
abbrev tyRenew : Nat := 0x31
abbrev tyRelease : Nat := 0x32
abbrev tyEvent : Nat := 0x40
abbrev tyEventAck : Nat := 0x41

/-- R324: the 16 bytes of a header. -/
def headerBytes (response sealed retry : Bool) (type session seq len status epoch : Nat) : List Byte :=
  [BitVec.ofNat 8 (0x10 + (if response then 8 else 0) + (if sealed then 4 else 0) + (if retry then 2 else 0)),
    BitVec.ofNat 8 type] ++ beBytes 2 session ++ beBytes 4 seq ++ beBytes 2 len ++
    [BitVec.ofNat 8 status, 0] ++ beBytes 4 epoch

/-- R340: the GCM nonce; direction 0 request, 1 reply, 2 event. -/
def gcmNonce (session dir epoch seq : Nat) : List Byte :=
  beBytes 2 session ++ [BitVec.ofNat 8 dir, 0] ++ beBytes 4 epoch ++ beBytes 4 seq

/-- R324, R340: a message of the device as sent; sealed ones under the session's key. -/
def Reply.seal (r : Reply) (key : List Byte) : Reply :=
  let h := headerBytes r.response r.sealed false r.type r.session r.seq r.body.length r.status r.keyEpoch
  let dir := if r.response then 1 else 2
  { r with
    wire :=
      if r.sealed then h ++ Config.gcmSeal key (gcmNonce r.session dir r.keyEpoch r.seq) h r.body
      else h ++ r.body ++ beBytes 4 (crc32c (h ++ r.body)) }

/-- R354: the class of a message; stored replies sent again are class 4. -/
def Reply.cls (r : Reply) : Nat :=
  if !r.response then 3 else if r.type = tyCommit then 1 else if r.type = tyAccess then 2 else 0

/-! ### Delivery -/

/-- R346: bytes waiting in the SPI output buffer. -/
def State.spiWaiting (s : State) : Nat := (s.spiOut.map (·.wire.length)).sum

/-- A message of the device goes to its transport (R345, R346, R302). -/
def State.deliver (s : State) (r : Reply) (cls : Nat) : State :=
  match r.dst.transport with
  | .eth m => s.macEnqueue m cls ⟨r.dst.peer, r.dst.vlan, r.wire⟩
  | .spi =>
    if s.spiWaiting + r.wire.length ≤ 16384 then { s with spiOut := s.spiOut ++ [r] }
    else (s.bump O.SPI_DROPPED).raise F.FOLLA_STICKY_SPI_OVERFLOW
  | .dcc => s.mgmtQueue r.wire

end Sys2Proof.Machine
end

