-- ==== Sys2Proof/Machine/Ledger.lean ====
section
/-! DEFINITION. The delay ledger: samples, filters, publication and reseeds (10_delay_ledger). The same filters serve the
ring ports and the tandem links (R262, R274). -/

namespace Sys2Proof.Machine

/-! ### One sample and the filters (R194, R198) -/

/-- R194: the turnaround in ticks of DTS; freq is RX_FREQ_OFFSET in 0.001 ppm, or 0. -/
def turnTicks (ta : Nat) (freq : Int) : Int := (ta * 256 : Nat) - roundDiv ((ta * 256 : Nat) * freq) 1000000000

/-- R198: one step of a filter of window N on sample x. Answers n and y. -/
def filterStep (n : Nat) (y : Int) (bigN : Nat) (x : Int) : Nat × Int :=
  let n' := n + 1
  if n' ≤ bigN then (n', y + roundDiv (x - y) n') else (n', y + roundDiv (x - y) (max 1 bigN))

/-- A sample enters both filters. -/
def Ledger.sample (g : Ledger) (bigN : Nat) (rtt app : Int) : Ledger :=
  let a := filterStep g.rttN g.rttY bigN rtt
  let b := filterStep g.appN g.appY bigN app
  { g with rttN := a.1, rttY := a.2, appN := b.1, appY := b.2 }

/-- Both filters reseed (R198, R203); a run of out-of-window frames ends with them. -/
def Ledger.reseed (g : Ledger) : Ledger :=
  { g with rttN := 0, rttY := 0, appN := 0, appY := 0, devs := [], reseedAsked := false }

/-- R193: the kept TX_TIME of a frame; an invalid TIME96 where none is kept. -/
def noTime : Val := BitVec.ofNat 96 (2 ^ 96 - 1)
def Ledger.keepSent (g : Ledger) (fn : Nat) (tx : Val) : Ledger := { g with sent := Map.set noTime (fn % 256) tx g.sent }
def Ledger.sentAt (g : Ledger) (mfc : Nat) : Val := Map.get noTime (mfc % 256) g.sent

/-- R67: a frame received in frame is kept for the echo, newest first. -/
def Ledger.hear (g : Ledger) (e : EchoFrom) : Ledger := { g with heard := (e :: g.heard).take 4 }

/-- The echo fields of a frame sent (R67, R68). -/
structure Echo where
  time : Val
  turnaround : Nat
  mfc : Nat
  valid : Bool
  skipped : Bool
  deriving DecidableEq, Repr

/-- R67, R68: the echo at TX_TIME tx (ticks of DTS): the latest usable frame that arrived in the 250 µs up to tx. -/
def Ledger.echo (g : Ledger) (tx : Tick) : Echo :=
  let span := g.heard.filter fun e => e.arrival ≤ tx && tx ≤ e.arrival + 250 * us
  match span.find? (·.usable) with
  | some e =>
    ⟨e.txTime, ((tx - e.arrival) + 128) / 256, e.mfc, true, span.any fun x => !x.usable && e.arrival < x.arrival⟩
  | none => ⟨0, 0, 0, false, span.any fun x => !x.usable⟩

/-! ### Of one lane -/

/-- R209: the ledger produces results on TTF lanes and on SDH lanes with the overlay. -/
def State.ledgerOn (s : State) (l : Nat) : Bool := s.isTtf l || (s.isSdh l && s.on F.SDH_CONFIG_LEDGER_OVERLAY l)

def State.ledger (s : State) (l : Nat) : Ledger := (s.lane l).ledger
def State.setLedger (s : State) (l : Nat) (g : Ledger) : State := s.modLane l fun x => { x with ledger := g }

/-- R198: N of a lane's filters: TAU / 125 µs. -/
def State.ledgerN (s : State) (l : Nat) : Nat := s.fld F.LEDGER_TAU_TAU l * 8

/-- R194: internal ticks as published, in 2^-18 ns. -/
def publish (x : Int) : Nat := unsigned 64 (roundDiv x 256)

/-- R195: ASYM_CAL in ticks. -/
def asymTicks (fs : Int) : Int := roundDiv (fs * 67108864) 1000000

/-- R195: half of a sum, to the tick nearest, halves away from zero. -/
def half (x : Int) : Int := roundDiv x 2

/-- R196: the accepted far-end classes that make a lane TRACEABLE. -/
def classTraceable (c : Nat) : Bool := c == 0x10 || c == 0x20 || c == 0x30 || c == 0x38 || c == 0x40

def State.traceable (s : State) (l : Nat) : Bool := s.on F.LEDGER_STATUS_TRACEABLE l

/-- R200: the arrival window is active. -/
def State.windowActive (s : State) (l : Nat) : Bool :=
  s.isTtf l && s.on F.LEDGER_CONFIG_WINDOW_EN l && s.traceable l && 64 ≤ (s.ledger l).appN

/-- R195, R198: the averages of a lane, in ticks. -/
def State.delayRx (s : State) (l : Nat) : Int := half ((s.ledger l).rttY + asymTicks (s.sfld F.ASYM_CAL_ASYM l))
def State.delayTx (s : State) (l : Nat) : Int := half ((s.ledger l).rttY - asymTicks (s.sfld F.ASYM_CAL_ASYM l))
def State.offsetAvg (s : State) (l : Nat) : Int := (s.ledger l).appY - s.delayRx l

/-- R195, R198: publication of the averages; OFFSET_AVG is 0 while not TRACEABLE. -/
def State.publishLedger (s : State) (l : Nat) : State :=
  let g := s.ledger l
  let s1 :=
    if 1 ≤ g.rttN then
      ((s.setFld F.RTT_AVG_RTT (publish g.rttY) l).setFld F.DELAY_RX_AVG_DELAY (publish (s.delayRx l)) l).setFld
        F.DELAY_TX_AVG_DELAY (publish (s.delayTx l)) l
    else s
  let s2 := if 1 ≤ g.appN then s1.setFld F.APP_AVG_APP (publish g.appY) l else s1
  let s3 :=
    if !s.traceable l then s2.setFld F.OFFSET_AVG_OFFSET 0 l
    else if 1 ≤ g.appN && 1 ≤ g.rttN then s2.setFld F.OFFSET_AVG_OFFSET (publish (s.offsetAvg l)) l
    else s2
  ((s3.setFld F.FILTER_COUNT_N_APP (min g.appN 0xFFFFFFFF) l).setOn F.LEDGER_STATUS_SEEDED (1 ≤ g.rttN) l).setOn
    F.LEDGER_STATUS_WINDOW_ACTIVE (s.windowActive l) l

/-- R199, R203: both filters reseed and RESEED is counted. -/
def State.reseedLane (s : State) (l : Nat) : State :=
  if s.ledgerOn l then
    let g := (s.ledger l).reseed
    (((s.setLedger l { g with secReseed := g.secReseed + 1 }).bumpLive (objAt O.RESEED l)).raise
      F.LEDGER_STICKY_RESEED l).publishLedger l
  else s

/-- R196: TRACEABLE follows the accepted clock class. -/
def State.noteTraceable (s : State) (l : Nat) : State :=
  let v := s.ledgerOn l && classTraceable (s.fld F.TTF_RX_INFO_CLOCK_CLASS l)
  if v = s.traceable l then s
  else ((s.setOn F.LEDGER_STATUS_TRACEABLE v l).raise F.LEDGER_STICKY_TRACEABLE_CHG l).publishLedger l

/-- R209: the results of a lane start from 0 with both filters reseeded. -/
def State.startLedger (s : State) (l : Nat) : State :=
  let s1 := [O.RTT_LAST, O.RTT_AVG, O.DELAY_RX_AVG, O.DELAY_TX_AVG, O.OFFSET_AVG, O.APP_AVG, O.ARRIVAL_LAST, O.ARRIVAL_DEV,
    O.LEDGER_STATUS, O.FILTER_COUNT, O.SAMPLES_USED, O.SAMPLES_EXCLUDED, O.OUT_OF_WINDOW, O.ECHO_MISMATCH, O.STEP_ACCEPT,
    O.RESEED, O.LEDGER_STICKY].foldl (fun s o => (s.setVal (objAt o l) 0).setLive (objAt o l) 0) s
  let s2 := (List.range 16).foldl (fun s i => s.setWord (objAt O.LEDGER_RECORD l) i 0) s1
  s2.setLedger l {}

/-! ### Steps and resets of the ledger (R201 to R203) -/

/-- LTD_CLEAR (R201): 8,000 consecutive in-window frames. -/
def State.ltdClear (s : State) (l : Nat) : State :=
  if 8000 ≤ (s.ledger l).inRun then s.setOn F.LEDGER_STATUS_LTD false l else s

/-- R202: the deviations of the last STEP_RUN out-of-window frames that followed one another. -/
def State.lastDevs (s : State) (l : Nat) : List Int :=
  (s.ledger l).devs.drop ((s.ledger l).devs.length - s.fld F.LEDGER_CONFIG_STEP_RUN l)

/-- STEP_ACCEPT (R202): the app filter reseeds on the last frame of the run; RTT_AVG is unaffected. Any of the out-of-window
frames that follow one another may be the first of the run. -/
def State.stepAccept (s : State) (l : Nat) : State :=
  let g := s.ledger l
  let n := s.fld F.LEDGER_CONFIG_STEP_RUN l
  let guard : Int := (s.fld F.ARRIVAL_GUARD_GUARD l * ns : Nat)
  let run := s.lastDevs l
  if n ≠ 0 && run.length = n && run.all fun d => -guard ≤ d - run.headD 0 && d - run.headD 0 ≤ guard then
    (((s.setLedger l { g with appN := 1, appY := g.devApp, devs := [], secStep := g.secStep + 1 }).bumpLive
      (objAt O.STEP_ACCEPT l)).raise F.LEDGER_STICKY_STEP_ACCEPT l).publishLedger l
  else s

/-- LEDGER_RESEED_TIMEOUT (R203): more than 255 frames since the last frame received in frame. -/
def State.ledgerTimeout (s : State) (l : Nat) : State :=
  let g := s.ledger l
  if g.lastIn.any (fun t => s.since t (255 * frame + 1)) && s.ledgerOn l then
    (s.reseedLane l).modLane l fun x => { x with ledger := { x.ledger with lastIn := none } }
  else s

/-! ### A frame at the ledger (R193 to R201) -/

/-- What the ledger takes from a received frame: t3 and t4 in ticks, whether its ledger fields arrived, the echo, the
far end's DTS_STEPPED, and t1 as received. -/
structure LedgerIn where
  got : Bool
  t3 : Int
  t4 : Int
  echoValid : Bool
  echoMfc : Nat
  echoTime : Val
  turnaround : Nat
  stepped : Bool
  deriving DecidableEq, Repr

/-- R69, R197: fewer than 8,000 frames since a host time-set on this device. -/
def State.steppedLately (s : State) : Bool :=
  match s.timing.stepAt with
  | some t => s.now < t + 8000 * frame
  | none => false

/-- R49, R51, R197: the lane is in loopback or sends a test pattern. -/
def State.laneTesting (s : State) (l : Nat) : Bool :=
  s.fld F.LOOPBACK_MODE l != 0 || s.fld F.PATTERN_CTRL_GEN l != 0

/-- R201: LTD is masked by every defect that masks RDI-L. -/
def State.ltdMasked (s : State) (l : Nat) : Bool := bits (s.val (objAt O.DEFECT_STATE l)) 3 0 != 0

/-- R200, R201: the frame is judged against its predicted arrival. Answers whether it was out of window. -/
def State.judgeArrival (s : State) (l : Nat) (f : LedgerIn) : Bool × State :=
  if !f.got || !s.windowActive l then (false, s)
  else
    let g := s.ledger l
    let dev := f.t4 - (f.t3 + g.appY)
    let guard : Int := (s.fld F.ARRIVAL_GUARD_GUARD l * ns : Nat)
    let s1 := s.setFld F.ARRIVAL_DEV_DEV (publish dev) l
    if -guard ≤ dev && dev ≤ guard then
      (false, (s1.setLedger l { g with devs := [], inRun := g.inRun + 1 }).setOn F.LEDGER_STATUS_OOW_LAST false l)
    else
      let run := g.devs.drop (g.devs.length - 254) ++ [dev]
      let s2 := (s1.setLedger l
        { g with devs := run, devApp := f.t4 - f.t3, inRun := 0, secOow := g.secOow + 1 }).setOn
          F.LEDGER_STATUS_OOW_LAST true l
      let s3 := s2.bumpLive (objAt O.OUT_OF_WINDOW l)
      let s4 := if s3.ltdMasked l then s3 else (s3.raiseIf (!s3.on F.LEDGER_STATUS_LTD l) F.LEDGER_STICKY_LTD l).setOn
        F.LEDGER_STATUS_LTD true l
      (true, s4)

/-- R197: a frame excluded from both averages. -/
def State.excludeSample (s : State) (l : Nat) (n : Nat := 1) : State :=
  (s.bumpLive (objAt O.SAMPLES_EXCLUDED l) n).modLane l fun x =>
    { x with ledger := { x.ledger with secExcl := x.ledger.secExcl + n } }

/-- R194: FREQ_CORR's frequency, in 0.001 ppm. -/
def State.corrFreq (s : State) (l : Nat) : Int :=
  if s.on F.LEDGER_CONFIG_FREQ_CORR l then s.sfld F.RX_FREQ_OFFSET_OFFSET l else 0

/-- R198: a sample of rtt and app, in ticks, enters the averages. -/
def State.enterSample (s : State) (l : Nat) (rtt app : Int) : State :=
  let g := (s.ledger l).sample (s.ledgerN l) rtt app
  let s1 := (s.setLedger l { g with secUsed := g.secUsed + 1 }).setFld F.RTT_LAST_RTT (publish rtt) l
  (s1.bumpLive (objAt O.SAMPLES_USED l)).publishLedger l

/-- R194: the sample of a received frame. -/
def State.takeSample (s : State) (l : Nat) (f : LedgerIn) : State :=
  s.enterSample l (f.t4 - (ticksOfTime96 f.echoTime : Int) - turnTicks f.turnaround (s.corrFreq l)) (f.t4 - f.t3)

/-- R193 to R201: one received frame of a lane at the ledger, its conditions taken in the order of R197. Answers whether
the frame was out of window. -/
def State.ledgerFrame (s : State) (l : Nat) (f : LedgerIn) : Bool × State :=
  let s0 := if (s.ledger l).reseedAsked then s.reseedLane l else s
  let j := s0.judgeArrival l f
  let s1 := j.2
  let kept := (s1.ledger l).sentAt f.echoMfc
  let echoBad := f.got && f.echoValid && (kept == noTime || kept != f.echoTime)
  (j.1,
    if !f.got then s1.excludeSample l
    else if !f.echoValid then (s1.excludeSample l).raise F.TTF_STICKY_ECHO_INVALID l
    else if echoBad then
      ((s1.excludeSample l).bumpLive (objAt O.ECHO_MISMATCH l)).raise F.LEDGER_STICKY_ECHO_MISMATCH l
    else if s1.laneTesting l then s1.excludeSample l
    else if !s1.on F.LANE_STATUS_FREQ_OK l then s1.excludeSample l
    else if f.stepped || s1.steppedLately then s1.excludeSample l
    else if j.1 then s1.excludeSample l
    else s1.takeSample l f)

/-! ### Ledger records (R208) -/

/-- R208: the record of a lane at a second boundary, in its 16 words; the counts of the second restart. -/
def State.latchRecord (s : State) (l : Nat) : State :=
  let g := s.ledger l
  let st := bits (s.val (objAt O.LEDGER_STATUS l)) 4 0
  let w := fun (x : Nat) => (BitVec.ofNat 32 x : Word)
  let ws : List Word :=
    if s.ledgerOn l then
      valWords 3 (time96 (s.dts / sec * sec)) ++ valWords 2 (s.val (objAt O.RTT_AVG l)) ++
      valWords 2 (s.val (objAt O.DELAY_RX_AVG l)) ++ valWords 2 (s.val (objAt O.OFFSET_AVG l)) ++
      [w g.secUsed, w g.secOow, w g.secExcl,
        w (s.fld F.TTF_RX_INFO_CLOCK_CLASS l * 2 ^ 24 + s.fld F.TTF_RX_INFO_STEPS l * 2 ^ 16 + st),
        w (g.secStep % 2 ^ 16 * 2 ^ 16 + g.secReseed % 2 ^ 16), 0, 0]
    else List.replicate 16 0
  let s1 := (List.range 16).foldl (fun s i => s.setWord (objAt O.LEDGER_RECORD l) i (ws.getD i 0)) s
  s1.setLedger l { g with secUsed := 0, secOow := 0, secExcl := 0, secStep := 0, secReseed := 0 }

end Sys2Proof.Machine
end

