-- ==== Sys2Proof/Machine/Defects.lean ====
section
/-! DEFINITION. Defects, masking and consequent actions (06_alignment_and_defects; R63, R78). -/

namespace Sys2Proof.Machine

/-! ### Bits of DEFECT_STATE (R124) and PATH_DEFECT_STATE (R125) -/

abbrev dLos : Nat := 0
abbrev dOof : Nat := 1
abbrev dLof : Nat := 2
abbrev dAisL : Nat := 3
abbrev dRdiL : Nat := 4
abbrev dTimS : Nat := 5
abbrev dSf : Nat := 6
abbrev dSd : Nat := 7
abbrev dLobl : Nat := 8
abbrev dHiBer : Nat := 9
abbrev dSlotRdi : Nat := 10
abbrev pAis : Nat := 0
abbrev pLop : Nat := 1
abbrev pUneq : Nat := 2
abbrev pPlm : Nat := 3
abbrev pTim : Nat := 4
abbrev pRdi : Nat := 5
abbrev pSf : Nat := 6
abbrev pSd : Nat := 7

def lineObj (l : Nat) : Nat := objAt O.DEFECT_STATE l
def pathObj (l k : Nat) : Nat := objAt O.PATH_DEFECT_STATE l k
def State.defect (s : State) (l b : Nat) : Bool := s.objBit (lineObj l) b
def State.pathDefect (s : State) (l k b : Nat) : Bool := s.objBit (pathObj l k) b

/-- The four mismatch defects of R78 are bits 0 to 3 of TTF_RX_FLAGS. -/
def State.mismatch (s : State) (l : Nat) : Bool := bits (s.val (objAt O.TTF_RX_FLAGS l)) 3 0 != 0

def State.putBit (s : State) (o b : Nat) (v : Bool) : State :=
  s.setVal o (setBits (s.val o) b b (if v then 1 else 0))

/-! ### Runs of consecutive frames (R71, R78, R88, R95, R109, R116, R143) -/

/-- Run keys: a kind and a slot. -/
def runKey (kind slot : Nat) : Nat := kind * 1024 + slot
abbrev kAisL : Nat := 0
abbrev kRdiL : Nat := 1
abbrev kTtfRdi : Nat := 2
abbrev kSlotRdi : Nat := 3
abbrev kTag : Nat := 4
abbrev kLane : Nat := 5
abbrev kDigestChk : Nat := 6
abbrev kSize : Nat := 7
abbrev kC2 : Nat := 8
abbrev kG1 : Nat := 9
abbrev kGais : Nat := 10
abbrev kGhl : Nat := 11
abbrev kGmis : Nat := 12
abbrev kClass : Nat := 13
abbrev kSteps : Nat := 14
abbrev kEpoch : Nat := 15
abbrev kDigest : Nat := 16
abbrev kS1 : Nat := 17
abbrev kHiBer : Nat := 18

def noRun : Run := ⟨0, 0⟩
def Lane.run (x : Lane) (k : Nat) : Run := Map.get noRun k x.runs

/-- One more frame that carries value v. -/
def Run.seen (r : Run) (v : Nat) : Run := if r.count ≠ 0 && r.value = v then ⟨v, r.count + 1⟩ else ⟨v, 1⟩
def Lane.saw (x : Lane) (k v : Nat) : Lane := { x with runs := Map.set noRun k ((x.run k).seen v) x.runs }
def Lane.breakRun (x : Lane) (k : Nat) : Lane := { x with runs := Map.erase k x.runs }

/-- The runs of the given kinds return to their initial state. -/
def Lane.dropRuns (x : Lane) (kinds : List Nat) : Lane :=
  { x with runs := x.runs.filter fun p => !kinds.contains (p.1 / 1024) }

/-! ### Masking (R117) -/

/-- Line defects in force, as a number, mask bit b. -/
def lineMasked (st b : Nat) : Bool :=
  (b != dLos && st.testBit dLos) ||
  ((st.testBit dOof || st.testBit dLof) && [dAisL, dRdiL, dTimS, dSf, dSd, dSlotRdi].contains b) ||
  (st.testBit dAisL && [dRdiL, dTimS, dSf, dSd].contains b) ||
  (st.testBit dSf && b == dSd) ||
  (st.testBit dLobl && b == dHiBer)

/-- Line defects that mask every path defect of the lane. -/
def State.pathsMasked (s : State) (l : Nat) : Bool :=
  s.defect l dLos || s.defect l dOof || s.defect l dLof || s.defect l dAisL

/-- Path defects in force mask bit b of the path. -/
def pathMaskedBy (st b : Nat) : Bool :=
  ((st.testBit pAis || st.testBit pLop) && 2 ≤ b) ||
  (st.testBit pUneq && (b == pPlm || b == pTim)) ||
  (st.testBit pSf && b == pSd)

/-! ### Consequent actions (R118) -/

/-- R118: the line defects of the lane call for AIS in every ingress slot; so does a receiver that is not up (R43, R55).
FORCE_AIS_IN, which is no defect, is State.forceIn. -/
def State.lineAis (s : State) (l : Nat) : Bool :=
  s.defect l dLos || s.defect l dOof || s.defect l dLof || s.defect l dAisL ||
  (s.defect l dTimS && s.on F.DEFECT_CONFIG_TIM_S_AIS l) || s.mismatch l || s.defect l dLobl || !s.laneUp l

/-- R118: line SF and SD for the protection controller. -/
def State.lineSf (s : State) (l : Nat) : Bool :=
  s.defect l dLos || s.defect l dLof || s.defect l dAisL ||
  (s.defect l dTimS && s.on F.DEFECT_CONFIG_TIM_S_AIS l) || s.defect l dSf || s.mismatch l
def State.lineSd (s : State) (l : Nat) : Bool := s.defect l dSd

/-- R118: a lane-recovered candidate is disqualified by these. -/
def State.laneDisq (s : State) (l : Nat) : Bool :=
  s.defect l dLos || s.defect l dOof || s.defect l dLof || s.defect l dAisL || s.defect l dLobl

/-- R118, R120: RDI-L sent on an SDH lane. -/
def State.sendRdiL (s : State) (l : Nat) : Bool :=
  s.defect l dLos || s.defect l dLof || s.defect l dAisL ||
  (s.defect l dTimS && s.on F.DEFECT_CONFIG_TIM_S_AIS l) || s.on F.DEFECT_CONFIG_FORCE_RDI_L l

/-- R63, R118, R120: the RDI cause sent on a TTF lane, the lowest in force; 0 for none. -/
def State.rdiCause (s : State) (l : Nat) : Nat :=
  if s.defect l dLos then 1 else if s.defect l dLof then 2 else if s.defect l dSf then 3
  else if s.on F.TTF_TX_CTRL_FORCE_RDI l then 4 else 0

/-- R132, R118: path slots carry AIS. -/
def State.pathAis (s : State) (l k : Nat) : Bool :=
  s.pathDefect l k pAis || s.pathDefect l k pLop ||
  (s.pathDefect l k pUneq && s.on F.PATH_DEFECT_CONFIG_UNEQ_AIS l k) ||
  (s.pathDefect l k pPlm && s.on F.PATH_DEFECT_CONFIG_PLM_AIS l k) ||
  (s.pathDefect l k pTim && s.on F.PATH_DEFECT_CONFIG_TIM_P_AIS l k) ||
  (Map.get {} k (s.lane l).pointers : Pointer).state != 0

/-- R118: path SF. -/
def State.pathSf (s : State) (l k : Nat) : Bool :=
  [pAis, pLop, pUneq, pPlm, pTim, pSf].any (s.pathDefect l k)

/-- R116: G1 bits 3 to 1 sent for the reverse path. -/
def State.g1Code (s : State) (l k : Nat) : Nat :=
  let srv := s.pathDefect l k pAis || s.pathDefect l k pLop
  let con := s.pathDefect l k pTim || s.pathDefect l k pUneq
  let pay := s.pathDefect l k pPlm
  if s.on F.PATH_CONFIG_ERDI l k then
    if srv then 5 else if con then 6 else if pay then 2 else 1
  else if srv || con || pay then 4 else 0

/-- R116: whether an accepted code is an RDI code. -/
def isRdiCode (erdi : Bool) (code : Nat) : Bool := if erdi then code == 5 || code == 6 || code == 2 else 4 ≤ code

/-! ### Declaring and clearing -/

/-- R122, R250: since when line SF and SD are in force. -/
def State.noteSf (s : State) (l : Nat) : State :=
  let x := s.lane l
  let sf := if s.lineSf l then (match x.sfSince with | some t => some t | none => some s.now) else none
  let sd := if s.lineSd l then (match x.sdSince with | some t => some t | none => some s.now) else none
  s.setLane l { x with sfSince := sf, sdSince := sd }

/-- R255: since when SD_P is in force on a path. -/
def State.noteSdP (s : State) (l k : Nat) : State :=
  let x := s.lane l
  if s.pathDefect l k pSd then
    if Map.has k x.pathSd then s else s.setLane l { x with pathSd := Map.insert k s.now x.pathSd }
  else s.setLane l { x with pathSd := Map.erase k x.pathSd }

/-- First slots of the lane whose PATH_DEFECT_STATE is not at its Default. -/
def State.pathsOf (s : State) (l : Nat) : List Nat :=
  (s.dict.filter fun p => p.1 / 4096 == pathObj l 0 / 4096).map fun p => p.1 % 4096

/-- R88: S1_ACCEPTED returns to 0xF when the lane is no longer in frame, which sets S1_CHG where it changes (R82). -/
def State.dropS1 (s : State) (l : Nat) : State :=
  if s.isSdh l && s.fld F.SDH_RX_OH_S1_ACCEPTED l != 0xF then
    (s.setFld F.SDH_RX_OH_S1_ACCEPTED 0xF l).raise F.SDH_STICKY_S1_CHG l
  else s

/-- R117: every path defect of the lane reads 0 and its detection returns to the initial state. -/
def State.clearPaths (s : State) (l : Nat) : State :=
  let s1 := (s.pathsOf l).foldl (fun s k => s.setVal (pathObj l k) (setBits (s.val (pathObj l k)) 7 0 0)) s
  s1.modLane l fun x =>
    { (x.dropRuns [kC2, kG1]) with
      windows := x.windows.filter fun p => p.1 < 2, pointers := [], spes := [], pathSd := []
      gather := x.gather.filter fun p => p.1 = 0, message := x.message.filter fun p => p.1 = 0 }

/-- R117: line defects that are masked read 0 and their detection returns to its initial state. -/
def State.applyMasks (s : State) (l : Nat) : State :=
  let st := bits (s.val (lineObj l)) 10 0
  let s1 := (List.range 11).foldl (fun s b => if lineMasked st b && s.defect l b then s.putBit (lineObj l) b false else s) s
  let frames := st.testBit dLos || st.testBit dOof || st.testBit dLof
  let s2 :=
    if frames then
      ((s1.setVal (objAt O.TTF_RX_FLAGS l) (setBits (s1.val (objAt O.TTF_RX_FLAGS l)) 3 0 0)).modLane l fun x =>
        { (x.dropRuns [kAisL, kRdiL, kTtfRdi, kSlotRdi, kTag, kLane, kDigestChk, kSize]) with
          slotRdi := [], windows := x.windows.filter fun p => 2 ≤ p.1
          gather := x.gather.filter fun p => p.1 ≠ 0, message := x.message.filter fun p => p.1 ≠ 0 })
    else if st.testBit dAisL then
      s1.modLane l fun x =>
        { (x.dropRuns [kRdiL]) with
          windows := x.windows.filter fun p => 2 ≤ p.1
          gather := x.gather.filter fun p => p.1 ≠ 0, message := x.message.filter fun p => p.1 ≠ 0 }
    else if st.testBit dLobl then s1.modLane l fun x => { x with hbCount := 0, hbGood := 0 }
    else if st.testBit dSf then s1.modLane l fun x => { x with windows := x.windows.filter fun p => p.1 != 1 }
    else s1
  let s3 := if s2.pathsMasked l then ((s2.clearPaths l).setOn F.LEDGER_STATUS_LTD false l).modLane l fun x =>
      { x with ledger := { x.ledger with inRun := 0 } } else s2
  if st.testBit dLos then
    ((s3.dropS1 l).setVal (objAt O.GROUP_DEFECT_STATE l) 0).modLane l fun x =>
      { (x.dropRuns [kHiBer, kGais, kGhl, kGmis]) with
        inFrame := false, candidate := none, rxTtf := none, rxSdh := none, badWords := 0, oofHeld := 0,
        oofSince := none, inSince := none, nextL := none
        lockGone := none, lockHeld := none, hbCount := 0, hbGood := 0 }
  else s3

/-- A line defect is declared: not while masked or already in force. -/
def State.declare (s : State) (l b : Nat) : State :=
  if s.defect l b || lineMasked (bits (s.val (lineObj l)) 10 0) b then s
  else (((s.putBit (lineObj l) b true).raiseBit (objAt O.DEFECT_STICKY l) b).applyMasks l).noteSf l

/-- After LOS clears, a framer that is OOF shows it, and block lock that is absent starts its time (R106, R117). -/
def State.unmaskLos (s : State) (l : Nat) : State :=
  if s.isClient l then
    s.modLane l fun x => if x.blockLock then { x with lockHeld := some s.now } else { x with lockGone := some s.now }
  else if (s.lane l).inFrame then s
  else (s.declare l dOof).modLane l fun x => { x with oofSince := some s.now }

/-- A line defect clears; a line defect that called for AIS leaves the instant behind for R119. -/
def State.undeclare (s : State) (l b : Nat) : State :=
  if s.defect l b then
    let was := s.lineAis l
    let s1 := (s.putBit (lineObj l) b false).noteSf l
    let s2 := if was then s1.modLane l fun x => { x with aisUntil := some s.dts } else s1
    if b = dLos then s2.unmaskLos l else s2
  else s

/-- A path defect is declared at its first slot (R114, R117). -/
def State.declarePath (s : State) (l k b : Nat) : State :=
  let st := bits (s.val (pathObj l k)) 7 0
  if s.pathDefect l k b || s.pathsMasked l || pathMaskedBy st b then s
  else
    let s1 := (s.putBit (pathObj l k) b true).raiseBit (objAt O.PATH_DEFECT_STICKY l k) b
    let st1 := bits (s1.val (pathObj l k)) 7 0
    let s2 := (List.range 8).foldl (fun s c => if pathMaskedBy st1 c then s.putBit (pathObj l k) c false else s) s1
    let s3 :=
      if b = pAis || b = pLop then
        s2.modLane l fun x =>
          { (x.breakRun (runKey kC2 k)).breakRun (runKey kG1 k) with
            windows := Map.erase (2048 + k) (Map.erase (4096 + k) x.windows)
            gather := Map.erase (1 + k) x.gather, message := Map.erase (1 + k) x.message }
      else if b = pUneq then
        s2.modLane l fun x => { x with gather := Map.erase (1 + k) x.gather, message := Map.erase (1 + k) x.message }
      else if b = pSf then s2.modLane l fun x => { x with windows := Map.erase (4096 + k) x.windows }
      else s2
    s3.noteSdP l k

/-- A path defect clears; one that called for AIS leaves the instant behind for R119. -/
def State.undeclarePath (s : State) (l k b : Nat) : State :=
  if s.pathDefect l k b then
    let s1 := (s.putBit (pathObj l k) b false).noteSdP l k
    if s.pathAis l k then s1.modLane l fun x => { x with pathAisUntil := Map.insert k s.dts (Map.erase k x.pathAisUntil) } else s1
  else s

/-- R84: with SCRAMBLE_OFF no frame counts towards a defect that depends on scrambling. DEDUCED (log 70): those are AIS-L, RDI-L,
SF, SD and the path defects; framing and J0 lie in the unscrambled part of row 1. -/
def State.scrambleOff (s : State) (l : Nat) : Bool := s.isSdh l && s.on F.SDH_CONFIG_SCRAMBLE_OFF l

def State.judgePath (s : State) (l k b : Nat) (v : Bool) : State :=
  if s.scrambleOff l then s
  else if v then s.declarePath l k b else s.undeclarePath l k b

/-! ### SF and SD (R111, R112) -/

/-- R56: codewords in one frame. -/
def codewords (rate : Nat) : Nat := if rate = 8 then 243 else if rate = 9 then 972 else 1296

/-- R111: B of a line metric. -/
def State.sfBits (s : State) (l : Nat) (sd : Bool) : Nat :=
  if s.isTtf l && !sd then codewords (s.rate l) else s.lineRate l / 8000

/-- R112: W, D and C for threshold 10^-n. -/
def sfW (n b : Nat) : Nat := max 8 (ceilDiv (100 * 10 ^ n) b)
def sfD (n b : Nat) : Nat := ceilDiv (sfW n b * b) (10 ^ n)
def sfC (n b : Nat) : Nat := ceilDiv (sfD n b) 10

/-- The window of a detector: 0 SF, 1 SD, then by path. -/
def sfKey : SfSd → Nat
  | .sf => 0
  | .sd => 1
  | .sfP k => 2048 + k
  | .sdP k => 4096 + k

def noWindow : Window := ⟨0, 0⟩
def Lane.window (x : Lane) (k : Nat) : Window := Map.get noWindow k x.windows
def Lane.count (x : Lane) (k n : Nat) : Lane :=
  { x with windows := Map.set noWindow k ⟨(x.window k).frames + 1, (x.window k).count + n⟩ x.windows }

/-- Threshold exponent and B of a detector. -/
def State.sfParams (s : State) (l : Nat) : SfSd → Nat × Nat
  | .sf => (s.fld F.DEFECT_CONFIG_SF_EXP l, s.sfBits l false)
  | .sd => (s.fld F.DEFECT_CONFIG_SD_EXP l, s.sfBits l true)
  | .sfP k => (s.fld F.PATH_DEFECT_CONFIG_SF_EXP l k, 6264 * (s.members O.RX_DESC l k).length)
  | .sdP k => (s.fld F.PATH_DEFECT_CONFIG_SD_EXP l k, 6264 * (s.members O.RX_DESC l k).length)

def State.sfJudge (s : State) (l : Nat) (d : SfSd) (v : Bool) : State :=
  match d with
  | .sf => if v then s.declare l dSf else s.undeclare l dSf
  | .sd => if v then s.declare l dSd else s.undeclare l dSd
  | .sfP k => s.judgePath l k pSf v
  | .sdP k => s.judgePath l k pSd v

/-- POH_MODE is off (R113): no path defect but AIS-P and LOP-P. -/
def State.pohOff (s : State) (l k : Nat) : Bool := s.fld F.PATH_CONFIG_POH_MODE l k == 2

/-- The detector runs: a path in mode off has none (R114). -/
def State.sfWatched (s : State) (l : Nat) : SfSd → Bool
  | .sfP k => !s.pohOff l k
  | .sdP k => !s.pohOff l k
  | .sf => true
  | .sd => true

/-- R112: the running count within the window has reached D. -/
def State.sfDeclare (s : State) (l : Nat) (d : SfSd) : State :=
  let p := s.sfParams l d
  if p.2 ≠ 0 && s.sfWatched l d && sfD p.1 p.2 ≤ ((s.lane l).window (sfKey d)).count then s.sfJudge l d true else s

/-- R112: a window of W frames ends; a count below C clears the defect, and the next window starts. -/
def State.sfWindowEnd (s : State) (l : Nat) (d : SfSd) : State :=
  let p := s.sfParams l d
  let w := (s.lane l).window (sfKey d)
  if p.2 ≠ 0 && sfW p.1 p.2 ≤ w.frames then
    let s1 := s.modLane l fun x => { x with windows := Map.erase (sfKey d) x.windows }
    if w.count < sfC p.1 p.2 then s1.sfJudge l d false else s1
  else s

/-! ### Traces (R87, R95, R109, R114) -/

/-- The bytes of n words of a trace window from word `first` on. -/
def State.traceBytes (s : State) (o first n : Nat) : List Byte :=
  (List.range n).flatMap fun i => wordBytes (s.word o (first + i))

/-- How many bytes a trace mode compares: 1, 16 or 64. -/
def traceLen (mode : Nat) : Nat := if mode = 0 then 1 else if mode = 1 then 16 else 64

/-- The object, the accepted and the expected words, and the mode of a trace site. -/
def State.traceRx (s : State) (l : Nat) : TraceSite → List Byte
  | .j0 => s.traceBytes (objAt O.J0_RX_TRACE l) 0 16
  | .j1 k => s.traceBytes (objAt O.PATH_J1_TRACE l k) 32 16
def State.traceExp (s : State) (l : Nat) : TraceSite → List Byte
  | .j0 => s.traceBytes (objAt O.J0_EXP_TRACE l) 0 16
  | .j1 k => s.traceBytes (objAt O.PATH_J1_TRACE l k) 16 16
def State.traceTx (s : State) (l : Nat) : TraceSite → List Byte
  | .j0 => s.traceBytes (objAt O.J0_TX_TRACE l) 0 16
  | .j1 k => s.traceBytes (objAt O.PATH_J1_TRACE l k) 0 16
def State.traceMode (s : State) (l : Nat) : TraceSite → Nat
  | .j0 => s.fld F.SDH_CONFIG_J0_MODE l
  | .j1 k => s.fld F.PATH_CONFIG_J1_MODE l k

/-- The accepted trace differs from the expected one over the mode's bytes. -/
def State.traceDiffers (s : State) (l : Nat) (site : TraceSite) : Bool :=
  let n := traceLen (s.traceMode l site)
  (s.traceRx l site).take n != (s.traceExp l site).take n

/-- R109, R114: TIM-S or TIM-P judged from the accepted trace. -/
def State.judgeTim (s : State) (l : Nat) (site : TraceSite) : State :=
  match site with
  | .j0 =>
    if s.on F.DEFECT_CONFIG_TIM_S_CHECK l && s.traceDiffers l .j0 then s.declare l dTimS else s.undeclare l dTimS
  | .j1 k =>
    s.judgePath l k pTim
      (s.on F.PATH_DEFECT_CONFIG_TIM_P_CHECK l k && !s.pohOff l k && s.traceDiffers l (.j1 k))

/-- Key of a trace site in a lane's maps. -/
def siteKey : TraceSite → Nat
  | .j0 => 0
  | .j1 k => 1 + k

/-- PRESUMED (log 17). CRC-7 of a 16-byte trace message (G.707: x^7 + x^3 + 1, over the message with its CRC bits 0). -/
def crc7 (bs : List Byte) : Nat :=
  (lineBits bs).foldl (fun c b =>
    if (64 ≤ c) != b then Nat.xor (c * 2 % 128) 0x09 else c * 2 % 128) 0

/-- A whole message was received. A message whose CRC-7 fails breaks the run (R87). -/
def Lane.gotMessage (x : Lane) (key : Nat) (m : List Byte) (ok : Bool) : Lane :=
  let old := Map.get ([], 0) key x.message
  let new := if !ok then ([], 0) else if old.1 = m && old.2 ≠ 0 then (m, old.2 + 1) else (m, 1)
  { x with message := Map.set ([], 0) key new x.message }

/-- R87: one trace byte received in frame. -/
def Lane.traceByte (x : Lane) (key mode : Nat) (b : Byte) : Lane :=
  let g := Map.get [] key x.gather
  if mode = 0 then x.gotMessage key [b] true
  else if mode = 1 then
    if b.getLsbD 7 then
      let y := { x with gather := Map.set [] key [b] x.gather }
      if g.isEmpty then y else y.gotMessage key g false
    else
      let g1 := g ++ [b]
      let y := { x with gather := Map.set [] key (if g1.length < 16 then g1 else []) x.gather }
      match g1 with
      | h :: r => if g1.length = 16 then y.gotMessage key g1 (h.toNat % 128 == crc7 ((h &&& 0x80) :: r)) else y
      | [] => y
  else
    let g1 := g ++ [b]
    if g1.drop (g1.length - 2) = [0x0D, 0x0A] then
      { x with gather := Map.set [] key [] x.gather }.gotMessage key g1 (g1.length == 64)
    else { x with gather := Map.set [] key (g1.drop (g1.length - 64)) x.gather }

/-- A message padded with 0x00 to 64 bytes and written to the accepted trace. -/
def State.storeTrace (s : State) (o first : Nat) (m : List Byte) : State :=
  let ws := toWords (m ++ List.replicate (64 - m.length) 0)
  (List.range 16).foldl (fun s i => s.setWord o (first + i) (ws.getD i 0)) s

/-- R87, R95: three identical messages in a row: the trace is accepted. -/
def State.acceptTrace (s : State) (l : Nat) (site : TraceSite) : State :=
  let m := Map.get ([], 0) (siteKey site) (s.lane l).message
  if m.2 < 3 then s
  else
    let old := s.traceRx l site
    let s1 := match site with
      | .j0 => s.storeTrace (objAt O.J0_RX_TRACE l) 0 m.1
      | .j1 k => s.storeTrace (objAt O.PATH_J1_TRACE l k) 32 m.1
    let s2 := match site with
      | .j0 => s1.raiseIf (old != s1.traceRx l .j0) F.SDH_STICKY_J0_CHG l
      | .j1 _ => s1
    s2.judgeTim l site

/-! ### LOS, LOF, LOBL (R104 to R107) -/

/-- LOS_DECLARE (R106). -/
def State.losDeclare (s : State) (l : Nat) : State :=
  if (s.lane l).inService && s.sinceOpt (s.lane l).lossSince (10 * us) then s.declare l dLos else s

/-- LOS_CLEAR (R106, R203). -/
def State.losClear (s : State) (l : Nat) : State :=
  if s.defect l dLos && s.laneUp l && s.sinceOpt (s.lane l).upSince (125 * us) then
    (s.undeclare l dLos).reseedLane l
  else s

/-- R104: time OOF in all, held over short in-frame intervals. -/
def State.oofTime (s : State) (l : Nat) : Tick :=
  let x := s.lane l
  x.oofHeld + (match x.oofSince with | some t => s.now - t | none => 0)

/-- LOF_DECLARE (R104). -/
def State.lofDeclare (s : State) (l : Nat) : State :=
  if s.defect l dOof && 3 * ms ≤ s.oofTime l then s.declare l dLof else s

/-- LOF_CLEAR (R104, R203): in frame continuously for 3 ms; the OOF timer returns to zero. -/
def State.lofClear (s : State) (l : Nat) : State :=
  if (s.lane l).inFrame && s.sinceOpt (s.lane l).inSince (3 * ms) then
    let s1 := if s.defect l dLof then (s.undeclare l dLof).reseedLane l else s
    s1.modLane l fun x => { x with oofHeld := 0 }
  else s

/-- LOBL_DECLARE (R105). -/
def State.loblDeclare (s : State) (l : Nat) : State :=
  if s.isClient l && !(s.lane l).blockLock && s.sinceOpt (s.lane l).lockGone (125 * us) then s.declare l dLobl else s

/-- LOBL_CLEAR (R105). -/
def State.loblClear (s : State) (l : Nat) : State :=
  if (s.lane l).blockLock && s.sinceOpt (s.lane l).lockHeld ms then s.undeclare l dLobl else s

/-! ### The alignment machine (R103) -/

/-- R104: frame alignment ends at w: the OOF timer goes on from what it held, or from zero where the in-frame interval reached
3 ms. -/
def Lane.outOfFrame (x : Lane) (w : Tick) : Lane :=
  { x with
    inFrame := false, badWords := 0, candidate := none, inSince := none, nextL := none, rxTtf := none, rxSdh := none
    oofHeld := if x.inSince.any fun t => t + 3 * ms ≤ w then 0 else x.oofHeld }

/-- The framer goes OOF at a framing word that came at w. S1_ACCEPTED returns to 0xF (R88). -/
def State.goOof (s : State) (l : Nat) (w : Tick) : State :=
  let x := (s.lane l).outOfFrame w
  ((s.setLane l { x with oofSince := some w }).declare l dOof).dropS1 l

/-- The framer gains frame at a framing word that came at w at position pos: OOF clears there, so it leaves no AIS behind for
the frame (R119). -/
def State.goInFrame (s : State) (l pos : Nat) (w : Tick) : State :=
  let x := s.lane l
  let held := x.oofHeld + (match x.oofSince with | some t => w - t | none => 0)
  let s1 := s.setLane l
    { x with
      inFrame := true, framePos := pos, badWords := 0, candidate := none, inSince := some w, oofHeld := held, oofSince := none }
  ((s1.undeclare l dOof).modLane l fun y => { y with aisUntil := x.aisUntil })

/-- R103: one framing word checked, which came at w at position pos. While LOS masks OOF, its detection is held (R117). In frame
the word is looked for at one position alone; out of frame, a word elsewhere than at the candidate is looked at once the
candidate has failed, a frame after it. -/
def State.frameWord (s : State) (l : Nat) (ok : Bool) (pos : Nat) (w : Tick) : State :=
  let x := s.lane l
  if s.defect l dLos then s
  else if x.inFrame then
    if pos ≠ x.framePos then s
    else if ok then s.setLane l { x with badWords := 0 }
    else if x.badWords = 3 then s.goOof l w
    else s.setLane l { x with badWords := x.badWords + 1 }
  else
    let fresh := s.setLane l { x with candidate := if ok then some (pos, w) else none }
    match x.candidate with
    | none => fresh
    | some c =>
      if pos = c.1 then (if ok then s.goInFrame l pos w else fresh)
      else if w ≤ c.2 + frame then s
      else fresh

/-- The lane is in frame at the position of a frame. -/
def State.framedAt (s : State) (l pos : Nat) : Bool := (s.lane l).inFrame && (s.lane l).framePos == pos

/-! ### Block lock (R105) -/

/-- Block lock is gained or lost. -/
def State.setBlockLock (s : State) (l : Nat) (b : Bool) : State :=
  s.modLane l fun x =>
    { x with
      blockLock := b, goodHdrs := 0, winHdrs := 0, winBad := 0
      lockHeld := if b then some s.now else none
      lockGone := if b then none else some s.now }

/-- R105: one sync header. -/
def State.syncHeader (s : State) (l : Nat) (valid : Bool) : State :=
  let x := s.lane l
  if x.blockLock then
    let bad := x.winBad + (if valid then 0 else 1)
    if bad = 16 then s.setBlockLock l false
    else if x.winHdrs = 63 then s.setLane l { x with winHdrs := 0, winBad := 0 }
    else s.setLane l { x with winHdrs := x.winHdrs + 1, winBad := bad }
  else if valid then
    if x.goodHdrs = 63 then s.setBlockLock l true else s.setLane l { x with goodHdrs := x.goodHdrs + 1 }
  else s.setLane l { x with goodHdrs := 0 }

/-- R105: HI_BER at the end of a DTS frame. -/
def State.hiBerFrame (s : State) (l : Nat) : State :=
  if s.defect l dLobl then s
  else
  let x := s.lane l
  let bad := s.fld F.DEFECT_CONFIG_HB_COUNT l ≤ x.hbCount
  let good := if bad then 0 else x.hbGood + 1
  let s1 := s.setLane l { x with hbCount := 0, hbGood := good }
  if bad then s1.declare l dHiBer else if 8 ≤ good then s1.undeclare l dHiBer else s1

/-! ### Defects decided by a count of frames (R78, R95, R109, R116) -/

/-- A mismatch defect of R78: bit b of TTF_RX_FLAGS and TTF_STICKY. -/
def State.judgeMismatch (s : State) (l b : Nat) (v : Bool) : State :=
  let o := objAt O.TTF_RX_FLAGS l
  if v then
    if s.objBit o b || s.pathsMasked l then s
    else ((s.putBit o b true).raiseBit (objAt O.TTF_STICKY l) b).noteSf l
  else if s.objBit o b then
    ((s.putBit o b false).noteSf l).modLane l fun x => { x with aisUntil := some s.dts }
  else s

/-- R78: the check is made. SIZE is always checked. -/
def State.mismatchOn (s : State) (l b : Nat) : Bool :=
  s.isTtf l && (b == 3 || s.objBit (objAt O.TTF_ID_CTRL l) b)

/-- A run of `need` frames that agree, read as a truth value. -/
def Lane.ripe (x : Lane) (k need : Nat) : Bool := need ≤ (x.run k).count

/-- R109: slot RDI of slot k. -/
def State.judgeSlotRdi (s : State) (l k : Nat) (v : Bool) : State :=
  let x := s.lane l
  let rest := x.slotRdi.filter (· != k)
  let s1 := s.setLane l { x with slotRdi := if v then rest ++ [k] else rest }
  if v then s1.declare l dSlotRdi else if rest.isEmpty then s1.undeclare l dSlotRdi else s1

/-- R115: the accepted C2 does not match C2_EXP. -/
def plmDiffers (c2 expd : Nat) : Bool := c2 != 0 && expd != c2 && !(c2 == 1 && expd != 0) && !(expd == 1)

/-- R95, R114: C2 is accepted, and UNEQ-P and PLM-P judged from it. -/
def State.acceptC2 (s : State) (l k v : Nat) : State :=
  let s1 := s.setFld F.PATH_STATUS_C2_RX v l k
  if s1.pohOff l k then s1
  else
    (s1.judgePath l k pUneq (v == 0)).judgePath l k pPlm
      (s1.on F.PATH_DEFECT_CONFIG_PLM_CHECK l k && plmDiffers v (s1.fld F.PATH_CONFIG_C2_EXP l k))

/-- R116: G1 bits 3 to 1 are accepted, and RDI-P judged from them. -/
def State.acceptG1 (s : State) (l k v : Nat) : State :=
  let s1 := s.setFld F.PATH_DEFECT_STATE_G1_CODE v l k
  if s1.pohOff l k then s1 else s1.judgePath l k pRdi (isRdiCode (s1.on F.PATH_CONFIG_ERDI l k) v)

/-- A group defect (R143): bit b of GROUP_DEFECT_STATE; GAIS is masked by LOS, GHL by GAIS, GMIS by both. -/
def State.judgeGroup (s : State) (l b : Nat) (v : Bool) : State :=
  let o := objAt O.GROUP_DEFECT_STATE l
  let masked := s.defect l dLos || (b ≠ 0 && s.objBit o 0) || (b = 2 && s.objBit o 1)
  if v then
    if masked || s.objBit o b then s
    else
      let s1 := (s.putBit o b true).raiseBit (objAt O.GROUP_DEFECT_STICKY l) b
      if b = 0 then ((s1.putBit o 1 false).putBit o 2 false).modLane l fun x => x.dropRuns [kGhl, kGmis]
      else if b = 1 then (s1.putBit o 2 false).modLane l fun x => x.dropRuns [kGmis]
      else s1
  else s.putBit o b false

/-- R119: a frame at whose end a defect that calls for AIS comes to be declared: the defect is in force at the last instant of
that frame's reception (log 68). -/
def State.ripeAis (s : State) (l : Nat) : Bool :=
  let x := s.lane l
  let m := Map.get ([], 0) (siteKey .j0) x.message
  let n := traceLen (s.traceMode l .j0)
  (s.isSdh l && x.ripe (runKey kAisL 0) 5 && (x.run (runKey kAisL 0)).value == 1) ||
  (s.isSdh l && s.on F.DEFECT_CONFIG_TIM_S_AIS l && s.on F.DEFECT_CONFIG_TIM_S_CHECK l && 3 ≤ m.2 &&
    (m.1 ++ List.replicate (64 - m.1.length) 0).take n != (s.traceExp l .j0).take n) ||
  [(0, kTag), (1, kLane), (2, kDigestChk), (3, kSize)].any fun p =>
    s.mismatchOn l p.1 && x.ripe (runKey p.2 0) 8 && (x.run (runKey p.2 0)).value == 1

/-- R119: the same for the path at first slot k: its fifth C2, or its third message. -/
def State.ripePath (s : State) (l k : Nat) : Bool :=
  let x := s.lane l
  let c2 := x.run (runKey kC2 k)
  let m := Map.get ([], 0) (siteKey (.j1 k)) x.message
  let n := traceLen (s.traceMode l (.j1 k))
  !s.pohOff l k &&
  ((5 ≤ c2.count && c2.value == 0 && s.on F.PATH_DEFECT_CONFIG_UNEQ_AIS l k) ||
   (5 ≤ c2.count && s.on F.PATH_DEFECT_CONFIG_PLM_CHECK l k && plmDiffers c2.value (s.fld F.PATH_CONFIG_C2_EXP l k) &&
      s.on F.PATH_DEFECT_CONFIG_PLM_AIS l k) ||
   (3 ≤ m.2 && s.on F.PATH_DEFECT_CONFIG_TIM_P_CHECK l k && s.on F.PATH_DEFECT_CONFIG_TIM_P_AIS l k &&
      (m.1 ++ List.replicate (64 - m.1.length) 0).take n != (s.traceExp l (.j1 k)).take n))

/-- DEFECT_PERSISTENCE: the run of frames has reached its length (R109: 5; R78: 8; R95, R116: 5; R143: 3 and 8). -/
def State.persistence (s : State) (l : Nat) (d : Persist) : State :=
  let x := s.lane l
  let line := fun (k b : Nat) =>
    if x.ripe (runKey k 0) 5 then
      (if (x.run (runKey k 0)).value = 1 then s.declare l b else s.undeclare l b) else s
  let mis := fun (k b : Nat) =>
    if x.ripe (runKey k 0) 8 && s.mismatchOn l b then s.judgeMismatch l b ((x.run (runKey k 0)).value == 1) else s
  let grp := fun (k b need : Nat) =>
    if x.ripe (runKey k 0) need then s.judgeGroup l b ((x.run (runKey k 0)).value == 1) else s
  match d with
  | .aisL => line kAisL dAisL
  | .rdiL => line kRdiL dRdiL
  | .ttfRdi => line kTtfRdi dRdiL
  | .slotRdi k =>
    if x.ripe (runKey kSlotRdi k) 5 then s.judgeSlotRdi l k ((x.run (runKey kSlotRdi k)).value == 1) else s
  | .tag => mis kTag 0
  | .laneId => mis kLane 1
  | .digest => mis kDigestChk 2
  | .size => mis kSize 3
  | .c2 k => if x.ripe (runKey kC2 k) 5 then s.acceptC2 l k (x.run (runKey kC2 k)).value else s
  | .g1 k => if x.ripe (runKey kG1 k) 5 then s.acceptG1 l k (x.run (runKey kG1 k)).value else s
  | .gais => grp kGais 0 3
  | .ghl => grp kGhl 1 8
  | .gmis => grp kGmis 2 8

/-! ### Settings that a commit changes (R78, R109, R114, R123) -/

/-- TIM of a site is judged by the settings now in force. Before a first message is accepted the accepted trace is what its object
shows, 0x00 throughout (log 17). A check that is switched off clears its defect, whatever the lane does. -/
def State.rejudgeTim (s : State) (l : Nat) (site : TraceSite) : State :=
  match site with
  | .j0 =>
    if !s.on F.DEFECT_CONFIG_TIM_S_CHECK l then s.undeclare l dTimS
    else if s.isSdh l && s.laneUp l then s.judgeTim l .j0 else s
  | .j1 k =>
    if !s.on F.PATH_DEFECT_CONFIG_TIM_P_CHECK l k || s.pohOff l k then s.undeclarePath l k pTim
    else if s.isSdh l && s.laneUp l then s.judgeTim l (.j1 k) else s

/-- PLM-P, RDI-P and TIM-P of a path are judged by the settings now in force, from what has been accepted. -/
def State.rejudgePath (s : State) (l k : Nat) : State :=
  let live := s.isSdh l && s.laneUp l && !s.pohOff l k
  let plm := plmDiffers (s.fld F.PATH_STATUS_C2_RX l k) (s.fld F.PATH_CONFIG_C2_EXP l k)
  let s1 := if !s.on F.PATH_DEFECT_CONFIG_PLM_CHECK l k then s.undeclarePath l k pPlm
    else if live then s.judgePath l k pPlm plm else s
  let rdi := isRdiCode (s1.on F.PATH_CONFIG_ERDI l k) (s1.fld F.PATH_DEFECT_STATE_G1_CODE l k)
  (if live then s1.judgePath l k pRdi rdi else s1).rejudgeTim l (.j1 k)

/-! ### Accepted fields (R71, R88, R101) -/

/-- FIELD_ACCEPTANCE: three in-frame frames in a row carry the same value. -/
def State.acceptField (s : State) (l : Nat) (f : AccField) : State :=
  let x := s.lane l
  let go := fun (k : Nat) (set : Nat → State) => if x.ripe (runKey k 0) 3 then set (x.run (runKey k 0)).value else s
  match f with
  | .clockClass => go kClass fun v =>
      (s.raiseIf (s.fld F.TTF_RX_INFO_CLOCK_CLASS l != v) F.TTF_STICKY_CLASS_CHG l).setFld F.TTF_RX_INFO_CLOCK_CLASS v l
  | .steps => go kSteps fun v => s.setFld F.TTF_RX_INFO_STEPS v l
  | .epoch => go kEpoch fun v =>
      (s.raiseIf (s.fld F.TTF_RX_EPOCH_EPOCH l != v) F.TTF_STICKY_EPOCH_CHG l).setFld F.TTF_RX_EPOCH_EPOCH v l
  | .digest => go kDigest fun v => s.setFld F.TTF_RX_DIGEST_DIGEST v l

/-- R88: eight frames received in frame carry the same S1. -/
def State.acceptS1 (s : State) (l : Nat) : State :=
  let r := (s.lane l).run (runKey kS1 0)
  if 8 ≤ r.count && s.isSdh l then
    (s.raiseIf (s.fld F.SDH_RX_OH_S1_ACCEPTED l != r.value) F.SDH_STICKY_S1_CHG l).setFld F.SDH_RX_OH_S1_ACCEPTED r.value l
  else s

/-- R108: every defect of the lane reads 0 and every detection returns to its initial state. -/
def State.quietLane (s : State) (l : Nat) : State :=
  let s1 := (s.setVal (lineObj l) 0).clearPaths l
  let o := objAt O.TTF_RX_FLAGS l
  let s2 := ((s1.setVal o (setBits (s1.val o) 3 0 0)).setVal (objAt O.GROUP_DEFECT_STATE l) 0).dropS1 l
  s2.modLane l fun x =>
    { x with
      lossSince := none, upSince := none, inService := false, bringUpEnd := none
      inFrame := false, badWords := 0, candidate := none, oofHeld := 0, oofSince := none, inSince := none
      rxTtf := none, rxSdh := none, spes := [], pathAisUntil := []
      blockLock := false, goodHdrs := 0, winHdrs := 0, winBad := 0, lockGone := none, lockHeld := none, hbCount := 0
      hbGood := 0, runs := [], gather := [], message := [], windows := [], pointers := [], slotRdi := []
      aisUntil := none, pathSd := [], sfSince := none, sdSince := none, nextL := none }

end Sys2Proof.Machine
end

