-- ==== Sys2Proof/Machine/LaneArray.lean ====
section
/-! DEFINITION. The lane array: lane state, bring-up, tuning, bays and the pattern checker (03_lanes; R106 to R108). -/

namespace Sys2Proof.Machine

/-! ### Transitions of lanes (R169, R170) -/

/-- Lanes still in a non-atomic transition. -/
def State.moving (s : State) : Nat := (s.lanes.filter fun p => p.2.rxMoving || p.2.txMoving).length

/-- TRANSITION_STATE after a lane's directions changed; the last lane sets TRANSITION_DONE. -/
def State.noteMoving (s : State) : State :=
  let old := s.fld F.TRANSITION_STATE_LANES
  let s1 := s.setFld F.TRANSITION_STATE_LANES s.moving
  s1.raiseIf (old != 0 && s.moving == 0) F.XC_STICKY_TRANSITION_DONE

def State.setMoving (s : State) (l : Nat) (rx tx : Bool) : State :=
  (s.modLane l fun x => { x with rxMoving := rx, txMoving := tx }).noteMoving

/-- The receive direction has completed: the lane lands a frame free of its AIS (R169 step 5). -/
def State.rxDone (s : State) (l : Nat) : State :=
  if (s.lane l).rxMoving then s.setMoving l false (s.lane l).txMoving else s

/-- The transmit direction has completed (R169 step 6). -/
def State.txDone (s : State) (l : Nat) : State :=
  if (s.lane l).txMoving then s.setMoving l (s.lane l).rxMoving false else s

/-! ### LANE_STATE (R40, R41) -/

/-- LANE_STATE changes; STATE_CHG is set where it does. -/
def State.setLaneState (s : State) (l : Nat) (st : LaneState) : State :=
  if s.laneState l = st.code then s
  else (s.setFld F.LANE_STATE_STATE st.code l).raise F.LANE_STICKY_STATE_CHG l

/-- A status bit of LANE_STATUS takes value b; its fall sets its sticky bit. -/
def State.laneBit (s : State) (l : Nat) (f lost : Fld) (b : Bool) : State :=
  (s.raiseIf (s.on f l && !b) lost l).setOn f b l

/-- R106: since when SIG_DET or CDR_LOCK has been 0. -/
def State.noteLoss (s : State) (l : Nat) : State :=
  let ok := s.on F.LANE_STATUS_SIG_DET l && s.on F.LANE_STATUS_CDR_LOCK l
  s.modLane l fun x =>
    { x with lossSince := if ok then none else (match x.lossSince with | some t => some t | none => some s.now) }

/-- TX_READY falls (R40): the sticky bit is set while ROLE is not OFF. -/
def State.dropTxReady (s : State) (l : Nat) : State :=
  let s1 := s.raiseIf (s.on F.LANE_STATUS_TX_READY l && s.role l != 0) F.LANE_STICKY_TX_READY_LOST l
  (s1.setOn F.LANE_STATUS_TX_READY false l).modLane l fun x => { x with txFrom := none }

/-- The receive side of LANE_STATUS falls, and every bit of it that was set leaves its mark in LANE_STICKY. -/
def State.dropRx (s : State) (l : Nat) : State :=
  let s1 := (s.laneBit l F.LANE_STATUS_SIG_DET F.LANE_STICKY_SIG_LOST false).laneBit l F.LANE_STATUS_CDR_LOCK
    F.LANE_STICKY_LOCK_LOST false
  (s1.laneBit l F.LANE_STATUS_FREQ_OK F.LANE_STICKY_FREQ_LOST false).setOn F.LANE_STATUS_ADAPT_DONE false l

/-- R445: EYE_MARGIN, DFE1 and CTLE read 0 while the lane is OFF or POWERING. -/
def State.clearEq (s : State) (l : Nat) : State :=
  s.setVal (objAt O.RX_EQ_READ l) (setBits (s.val (objAt O.RX_EQ_READ l)) 31 8 0)

/-- R445: what does not come from adaptation: CTLE_PEAK in mode 3, and no first tap where no tap is in use. -/
def State.eqManual (s : State) (l : Nat) : State :=
  let s1 := if s.fld F.RX_EQ_CTRL_ADAPT_MODE l = 3 then s.setFld F.RX_EQ_READ_CTLE (s.fld F.RX_EQ_CTRL_CTLE_PEAK l) l else s
  if s1.fld F.RX_EQ_CTRL_DFE_TAPS l = 0 then s1.setFld F.RX_EQ_READ_DFE1 0 l else s1

/-- The lane is powered down (R36, R53, R108): every detection returns to its initial state. -/
def State.laneDown (s : State) (l : Nat) : State :=
  let s1 := ((s.dropTxReady l).dropRx l).setLaneState l .off
  let s2 := ((s1.clearEq l).quietLane l).setFld F.PATTERN_STATUS_CHK_LOCK 0 l
  (s2.modLane l fun x => { x with eqKeptSince := none }).setFld F.ENGINE_STATUS_STATE 3 l

/-- R107: the maximum step times of a bring-up, or of a re-tune. -/
def State.adaptMax (s : State) (l : Nat) : Tick := if s.rate l = 10 then 50 * ms else 10 * ms
def State.bringUpMax (s : State) (l : Nat) : Tick :=
  (if s.on F.BAY_STATUS_PLL_LOCK (l / 8) then 0 else 2 * ms) + 200 * us + ms + s.adaptMax l

/-- Analog bias and transmit synthesizer start (R40, R363): the engine is loaded meanwhile. -/
def State.lanePower (s : State) (l : Nat) : State :=
  if s.laneState l = LaneState.off.code then
    ((s.setLaneState l .powering).setFld F.RX_EQ_READ_ADAPT_COUNT 0 l).setFld F.ENGINE_STATUS_STATE 1 l
  else s.setLaneState l .powering

/-- R55: bring-up of a lane from its first step. Where the bay is not locked yet the lane waits in OFF. -/
def State.bringUp (s : State) (l : Nat) : State :=
  let los := s.defect l dLos
  let s1 := ((s.dropTxReady l).dropRx l).quietLane l
  let s2 := ((s1.clearEq l).modLane l fun x =>
    { x with bringUpEnd := some (s.now + s.bringUpMax l), eqKeptSince := none }).setMoving l true true
  let s3 := if los then s2.putBit (lineObj l) dLos true else s2
  if s.on F.BAY_STATUS_PLL_LOCK (l / 8) then s3.lanePower l else s3.setLaneState l .off

/-- R43: a re-tune: the lane enters ADAPTING and is out of service until it is up again. A lane without CDR lock waits
for it in its own state. -/
def State.retune (s : State) (l : Nat) : State :=
  let st := s.laneState l
  if st = LaneState.off.code || st = LaneState.powering.code || st = LaneState.fault.code then s
  else
    let s1 := s.modLane l fun x =>
      { x with inService := false, upSince := none, bringUpEnd := some (s.now + s.adaptMax l), eqKeptSince := none, nextL := none }
    let s2 := s1.setMoving l true (s.lane l).txMoving
    if s.on F.LANE_STATUS_CDR_LOCK l then (s2.setLaneState l .adapting).eqManual l else s2

/-- R14, R40: a domain fault of the lane: its clocks have stopped. DEDUCED (log 67): it neither sends nor receives until its
function is re-initialised; a lane of ROLE OFF stays OFF. -/
def State.laneFault (s : State) (l : Nat) : State :=
  if s.laneState l = LaneState.off.code then s
  else
    let s1 := ((s.dropTxReady l).dropRx l).setLaneState l .fault
    (s1.noteLoss l).modLane l fun x => { x with upSince := none, bringUpEnd := none, nextL := none }

/-! ### Bays (R52) -/

/-- Lanes of a bay. -/
def bayLanes (b : Nat) : List Nat := (List.range 8).map (8 * b + ·)

/-- BAY_PLL_LOCK (R55): the bay's reference distribution locks, and its lanes begin powering. -/
def State.bayLock (s : State) (b : Nat) : State :=
  if s.on F.BAY_STATUS_POWERED b && !s.on F.BAY_STATUS_PLL_LOCK b then
    (bayLanes b).foldl (fun s l => if s.role l ≠ 0 then s.lanePower l else s) (s.setOn F.BAY_STATUS_PLL_LOCK true b)
  else s

/-! ### Steps of a bring-up (R40, R46, R55) -/

/-- TX_READY: the transmit synthesizer has locked. -/
def State.txReadyNow (s : State) (l : Nat) (pin : Word) : State :=
  if s.laneState l = LaneState.powering.code then
    let s1 := (s.setOn F.LANE_STATUS_TX_READY true l).setLaneState l .acquiring
    let s2 := (s1.setFld F.TX_PIN_DELAY_FS pin.toNat l).setFld F.ENGINE_STATUS_STATE 2 l
    s2.modLane l fun x => { x with txFrom := some s.dts }
  else s

/-- The receiver is powered: the lane is past POWERING. -/
def State.rxPowered (s : State) (l : Nat) : Bool := 2 ≤ s.laneState l && s.laneState l ≤ 4

/-- SIG_DET_CHANGE (R40). Without a signal no received frequency is within its limits (R39; log 67). -/
def State.sigDet (s : State) (l : Nat) (present : Bool) : State :=
  if s.rxPowered l then
    let s1 := s.laneBit l F.LANE_STATUS_SIG_DET F.LANE_STICKY_SIG_LOST present
    (if present then s1 else s1.laneBit l F.LANE_STATUS_FREQ_OK F.LANE_STICKY_FREQ_LOST false).noteLoss l
  else s

/-- R39: the offset within ±200 ppm, in units of 0.001 ppm. -/
def freqOk (offset : Int) : Bool := -200000 ≤ offset && offset ≤ 200000

/-- CDR_LOCK (R39, R40): lock within ±200 ppm takes the lane to ADAPTING; beyond it the receiver holds no lock. -/
def State.cdrLocked (s : State) (l : Nat) (offset : Int) : State :=
  if s.laneState l = LaneState.acquiring.code && s.on F.LANE_STATUS_SIG_DET l then
    let s1 := s.setFld F.RX_FREQ_OFFSET_OFFSET (unsigned 32 offset) l
    let s2 := s1.laneBit l F.LANE_STATUS_FREQ_OK F.LANE_STICKY_FREQ_LOST (freqOk offset)
    if freqOk offset then
      ((s2.setOn F.LANE_STATUS_CDR_LOCK true l).setLaneState l .adapting).noteLoss l
    else s2
  else s

/-- The equalisation of the lane is shown as it stands (R445). -/
def State.eqLive (s : State) (l : Nat) : Bool :=
  s.laneState l == LaneState.adapting.code || s.laneState l == LaneState.up.code

/-- R445: the codes that an adaptation has reached. -/
def State.eqCodes (s : State) (l : Nat) (dfe1 : Byte) (ctle : BitVec 5) : State :=
  ((s.setFld F.RX_EQ_READ_DFE1 dfe1.toNat l).setFld F.RX_EQ_READ_CTLE ctle.toNat l).eqManual l

/-- R445: the latest measurement of a receiver. Codes move in ADAPTING, and in mode 0; otherwise they stay as they are (R43,
R44). -/
def State.eyeRead (s : State) (e : EyeRead) : State :=
  if s.eqLive e.lane then
    let s1 := s.setFld F.RX_EQ_READ_EYE_MARGIN e.eye.toNat e.lane
    if !s.laneUp e.lane || s.fld F.RX_EQ_CTRL_ADAPT_MODE e.lane = 0 then s1.eqCodes e.lane e.dfe1 e.ctle else s1
  else s

/-- CDR_LOCK_LOSS (R41): the lane enters ACQUIRING; a lane that was UP keeps its equalisation values. -/
def State.cdrLost (s : State) (l : Nat) : State :=
  let st := s.laneState l
  if st = LaneState.adapting.code || st = LaneState.up.code then
    let s1 := s.laneBit l F.LANE_STATUS_CDR_LOCK F.LANE_STICKY_LOCK_LOST false
    let s2 := ((s1.setOn F.LANE_STATUS_ADAPT_DONE false l).setLaneState l .acquiring).noteLoss l
    s2.modLane l fun x => { x with upSince := none, eqKeptSince := if st = LaneState.up.code then some s.now else none }
  else s

/-- The framer's machines start when the lane enters UP (R103, R105, R108). -/
def State.framerStart (s : State) (l : Nat) : State :=
  if s.isClient l then
    let s1 := s.modLane l fun x =>
      { x with blockLock := false, goodHdrs := 0, winHdrs := 0, winBad := 0, hbCount := 0, hbGood := 0 }
    if s.defect l dLos then s1 else s1.modLane l fun x => { x with lockGone := some s.now, lockHeld := none }
  else
    let s1 := s.modLane l fun x => x.outOfFrame s.now
    if s.defect l dLos then s1
    else (s1.declare l dOof).modLane l fun x =>
      { x with oofSince := match x.oofSince with | some t => some t | none => some s.now }

/-- ADAPTATION_COMPLETE (R40, R46, R445): the lane is up. -/
def State.adapted (s : State) (l : Nat) (pin : Word) (eye dfe1 : Byte) (ctle : BitVec 5) : State :=
  if s.laneState l = LaneState.adapting.code then
    let n := min 255 (s.fld F.RX_EQ_READ_ADAPT_COUNT l + 1)
    let s1 := ((s.setFld F.RX_EQ_READ_EYE_MARGIN eye.toNat l).eqCodes l dfe1 ctle).setFld F.RX_EQ_READ_ADAPT_COUNT n l
    let s2 := (s1.setFld F.RX_PIN_DELAY_FS pin.toNat l).setOn F.LANE_STATUS_ADAPT_DONE true l
    let s3 := (s2.setLaneState l .up).modLane l fun x =>
      { x with upSince := some s.now, inService := true, bringUpEnd := none, eqKeptSince := none }
    s3.framerStart l
  else s

/-- EQ_DISCARD_TIMEOUT (R41): 10 ms without lock; the kept equalisation values are discarded. -/
def State.eqDiscard (s : State) (l : Nat) : State :=
  if s.laneState l = LaneState.acquiring.code && s.sinceOpt (s.lane l).eqKeptSince (10 * ms) then
    s.modLane l fun x => { x with eqKeptSince := none }
  else s

/-- BRING_UP_TIMEOUT (R107): the lane has not reached UP by the end of the summed step times. -/
def State.bringUpLate (s : State) (l : Nat) : State :=
  if s.sinceOpt (s.lane l).bringUpEnd 0 && !s.laneUp l then
    (s.declare l dLos).modLane l fun x => { x with bringUpEnd := none }
  else s

/-! ### Test patterns (R51) -/

/-- PATTERN_CHECKER_LOCK (R51): CHK_LOCK changes; the loss of lock sets PATTERN_ERR (R41). -/
def State.patternLock (s : State) (l : Nat) (locked : Bool) : State :=
  if s.rxPowered l && s.fld F.PATTERN_CTRL_CHK l ≠ 0 then
    ((s.raiseIf (s.on F.PATTERN_STATUS_CHK_LOCK l && !locked) F.LANE_STICKY_PATTERN_ERR l).setOn
      F.PATTERN_STATUS_CHK_LOCK locked l).modLane l fun x => { x with chkReg := none }
  else s

/-- R75: the lane's line is PAM4. -/
def State.isPam4 (s : State) (l : Nat) : Bool := s.isTtf l && s.rate l == 10

/-- R36: the bits that received symbols stand for, after polarity and precoding. -/
def State.rxBits (s : State) (l prior : Nat) (line : List Nat) : List Bool :=
  fromLine (s.isPam4 l) (s.on F.LANE_CONFIG_RX_INVERT l) (s.on F.LANE_CONFIG_RX_PRECODE l) prior line

/-- R36: the symbols that bits to be sent become after symbol `prior`. -/
def State.txSymbols (s : State) (l prior : Nat) (bits : List Bool) : List Nat :=
  toLine (s.isPam4 l) (s.on F.LANE_CONFIG_TX_INVERT l) (s.on F.LANE_CONFIG_TX_PRECODE l) prior bits

/-- R49: the lane is in local, in line loopback. -/
def State.loopLocal (s : State) (l : Nat) : Bool := s.fld F.LOOPBACK_MODE l == 1
def State.loopLine (s : State) (l : Nat) : Bool := s.fld F.LOOPBACK_MODE l == 2

/-- R49: what the receive path sees in local loopback: the frame sent before the one that is leaving, and the symbol before it
(log 70). A frame of nothing is none. -/
def State.loopSymbols (s : State) (l : Nat) : Option (List Nat × Nat) :=
  ((s.lane l).prevTx.map fun f => (f.line, f.prior)).filter fun x => !x.1.isEmpty

/-- The symbols that the receive path sees, and the one before them, of those that the slicer gave: the lane's own in local loopback,
whatever the balls carry. -/
def State.rxSymbols (s : State) (l : Nat) (line : List Nat) (prior : Nat) : Option (List Nat × Nat) :=
  if s.loopLocal l then s.loopSymbols l else some (line, prior)

/-- Bit errors that the checker counted (R48, R51). -/
def State.patternErrors (s : State) (l n : Nat) : State :=
  if n = 0 then s else (s.bump (objAt O.PATTERN_ERRORS l) n).raise F.LANE_STICKY_PATTERN_ERR l

/-- R51: the checker of a lane with CDR lock, synchronised to its pattern, takes a stream; it finds its place in the first stream
after CHK_LOCK was set, and counts every bit that differs from the pattern from there on. -/
def State.patternCheck (s : State) (e : Stream) : State :=
  let l := e.lane
  let code := s.fld F.PATTERN_CTRL_CHK l
  if code = 0 || !s.on F.PATTERN_STATUS_CHK_LOCK l || !s.on F.LANE_STATUS_CDR_LOCK l then s
  else
    let bs := ((s.rxSymbols l e.line e.prior).map fun x => s.rxBits l x.2 x.1).getD []
    match ((s.lane l).chkReg.map fun x => (0, x)).or (patternFind (s.isPam4 l) code bs) with
    | some (skip, x) =>
      let rest := bs.drop skip
      let p := patternBits (s.isPam4 l) code x (if s.isPam4 l then rest.length / 2 else rest.length)
      (s.modLane l fun y => { y with chkReg := some p.2 }).patternErrors l (bitErrors p.1 rest)
    | none => s

end Sys2Proof.Machine
end

