-- ==== Sys2Proof/Machine/TtfLine.lean ====
section
/-! DEFINITION. The line form of a TTF frame: geometry (R56, R57), overhead map (R58, R59), scrambled and coded (R73, R74), its
parity (R60, R61), what a receiver reads from it (R47, R48, R76, R102), and the slot-map digest (R72). -/

namespace Sys2Proof.Machine

/-! ### Geometry (R56, R57) -/

/-- N of a TTF rate code. -/
def ttfN (rate : Nat) : Nat := if rate = 8 then 192 else if rate = 9 then 768 else 1024

/-- TSZ of a rate code (R58). -/
def ttfSize (rate : Nat) : Nat := if rate = 8 then 1 else if rate = 9 then 2 else 3

/-- Frame byte k of byte (r, c). -/
def byteIndex (n r c : Nat) : Nat := (r - 1) * (90 * n) + (c - 1)

/-- Frame byte of payload byte p of slot s. -/
def payloadIndex (n s p : Nat) : Nat := byteIndex n (p / 87 + 1) (3 * n + 1 + p % 87 * n + s)

/-- Place of frame byte k on the line, in line bytes (R74, R205). -/
def linePlace (k : Nat) : Nat := 680 * (k / 640) + k % 640

/-- Line bytes per frame. -/
def lineBytesOf (rate : Nat) : Nat := codewords rate * 680

/-! ### Overhead (R58, R59) -/

/-- The frame alignment word. -/
def faw : List Byte := List.replicate 8 0x4B ++ List.replicate 8 0xD2

def flagBit (b : Bool) (x : Nat) : Nat := if b then x else 0

/-- The leading overhead bytes of a row. -/
def ttfRow (f : TtfFrame) (r : Nat) : List Byte :=
  match r with
  | 1 =>
    faw ++ beBytes 1 f.tsz ++ beBytes 1 f.mfc ++ beBytes 4 f.srcTag ++ beBytes 1 f.srcLane ++ [f.bip] ++
      beBytes 2 f.remErr ++ beBytes 1 (flagBit f.rdi 128 + f.rdiCause * 16)
  | 2 => f.aps ++ f.gcc.take 32
  | 3 => f.gcc.drop 32
  | 4 =>
    beBytes 12 f.txTime.toNat ++ beBytes 12 f.echoTime.toNat ++ beBytes 6 f.turnaround ++ beBytes 1 f.echoMfc ++
      beBytes 1 (flagBit f.echoValid 128 + flagBit f.echoSkipped 64)
  | 5 =>
    beBytes 1 f.clockClass ++ beBytes 1 f.steps ++ beBytes 1 (flagBit f.timeRoot 128 + flagBit f.timeStepped 64) ++ [0] ++
      beBytes 4 f.galleryEpoch ++ beBytes 4 f.digest
  | _ => []

/-- The cell of slot s; an unlisted slot is unequipped. -/
def ttfCell (f : TtfFrame) (s : Nat) : SlotCell := (f.slots.find? (·.s == s)).getD ⟨s, 2, 0, 0, []⟩

/-- Frame byte k before scrambling. -/
def ttfByte (n : Nat) (f : TtfFrame) (k : Nat) : Byte :=
  let r := k / (90 * n) + 1
  let c := k % (90 * n) + 1
  if c ≤ 2 * n then (ttfRow f r).getD (c - 1) 0
  else if c ≤ 3 * n then
    let x := ttfCell f (c - 2 * n - 1)
    if r = 1 then BitVec.ofNat 8 x.ss else if r = 2 then x.sb else if r = 3 then BitVec.ofNat 8 x.sr else 0
  else
    let d := c - 3 * n - 1
    (ttfCell f (d % n)).payload.getD ((r - 1) * 87 + d / n) 0

/-- The pre-FEC frame before scrambling. -/
def ttfBytes (n : Nat) (f : TtfFrame) : List Byte := (List.range (810 * n)).map (ttfByte n f)

/-- The pre-FEC frame as transmitted after scrambling (R73): FAW is not scrambled. The receiver undoes it the same way. -/
def scramble (bs : List Byte) : List Byte := bs.take 16 ++ scrFrom scrSeed (bs.drop 16)

/-- R60: the section BIP of frame F + 1 covers frame F after scrambling. -/
def sectionBip (n : Nat) (prev : TtfFrame) : Byte := bip8 (scramble (ttfBytes n prev))

/-- The line bits of a frame at a rate (R74). -/
def ttfLine (rate : Nat) (f : TtfFrame) : List Bool :=
  lineBits (fecBytes (codewords rate) (scramble (ttfBytes (ttfN rate) f)))

/-! ### Reading a frame (R47, R48, R58, R61, R76, R102) -/

/-- What the receiver of a TTF lane reads of one frame: its fields; whether its framing word was correct; the arrival of its
FAW; the overhead rows 1 to 5, and the slots whose SS or SR, that lie in codewords beyond correction (R65, R76); the
decoder's counts (R48); the violations against the frame before it (R61); its own parities for the frame after it; and
whether the core was behind (R181). -/
structure TtfSeen where
  f : TtfFrame
  fawOk : Bool
  pos : Nat
  arrival : Tick
  rowsLost : List Nat
  ssLost : List Nat
  srLost : List Nat
  cwCorr : Nat
  cwUncorr : Nat
  symCorr : Nat
  bins : List (Nat × Nat)
  bipErrs : Nat
  sbErrs : List (Nat × Nat)
  parity : TtfParity
  behind : Bool
  deriving DecidableEq, Repr

/-- The fields of a descrambled frame (R57, R58). -/
def ttfRead (n : Nat) (a : Array Byte) : TtfFrame :=
  let b := fun (r c : Nat) => a.getD (byteIndex n r c) 0
  let f := fun (r c k : Nat) => (List.range k).map fun i => b r (c + i)
  let num := fun (r c k : Nat) => beNat (f r c k)
  let bit := fun (r c i : Nat) => (b r c).getLsbD i
  { tsz := num 1 17 1, mfc := num 1 18 1, srcTag := num 1 19 4, srcLane := num 1 23 1, bip := b 1 24, remErr := num 1 25 2
    rdi := bit 1 27 7, rdiCause := num 1 27 1 / 16 % 8, aps := f 2 1 4, gcc := f 2 5 32 ++ f 3 1 32
    txTime := BitVec.ofNat 96 (num 4 1 12), echoTime := BitVec.ofNat 96 (num 4 13 12), turnaround := num 4 25 6
    echoMfc := num 4 31 1, echoValid := bit 4 32 7, echoSkipped := bit 4 32 6, clockClass := num 5 1 1, steps := num 5 2 1
    timeRoot := bit 5 3 7, timeStepped := bit 5 3 6, galleryEpoch := num 5 5 4, digest := num 5 9 4
    slots := (List.range n).map fun s =>
      ⟨s, num 1 (2 * n + 1 + s) 1, b 2 (2 * n + 1 + s), num 3 (2 * n + 1 + s) 1,
        (List.range 783).map fun p => a.getD (payloadIndex n s p) 0⟩ }

/-- The codeword that carries a frame byte lies beyond correction. -/
def byteLost (cs : List RsWord) (k : Nat) : Bool := ((cs.getD (k / 640) ⟨[], some 0⟩).errs).isNone

/-- R61: violations of the parities kept of the frame before: of the section, and of the slots that carried data in it. -/
def ttfViolations (f : TtfFrame) : Option TtfParity → Nat × List (Nat × Nat)
  | none => (0, [])
  | some p =>
    (violations p.section_ f.bip, p.slots.map fun x => (x.1, violations x.2 (ttfCell f x.1).sb))

/-- R61: the parities of a received frame, after FEC correction: its section, and each slot whose SS is 0x00. -/
def ttfParity (scrambled : List Byte) (f : TtfFrame) (ssLost : List Nat) : TtfParity :=
  ⟨bip8 scrambled, (f.slots.filter fun c => c.ss == 0 && !ssLost.contains c.s).map fun c => (c.s, bip8 c.payload)⟩

/-- R102: bytes 5 to 12 of FAW among line bits; they are checked before FEC decoding. -/
def ttfFawOk (bits : List Bool) : Bool := (bits.drop 32).take 64 == lineBits ((faw.drop 4).take 8)

/-- One frame of line bits as the receiver reads it: decoded (R47), descrambled, and checked against the frame before it. -/
def ttfDecode (rate : Nat) (detectOnly : Bool) (prev : Option TtfParity) (rx : TtfRx) (bits : List Bool) : TtfSeen :=
  let n := ttfN rate
  let cs := (rsWords (codewords rate) bits).map (rsDecode detectOnly)
  let bytes := cs.flatMap fun c => bitsBytes 640 (symbolBits (c.syms.take 512))
  let f := ttfRead n (scramble bytes).toArray
  let ssLost := (List.range n).filter fun s => byteLost cs (byteIndex n 1 (2 * n + 1 + s))
  let v := ttfViolations f prev
  { f, fawOk := ttfFawOk bits, pos := rx.pos, arrival := rx.arrival
    rowsLost := [1, 2, 3, 4, 5].filter fun r => byteLost cs (byteIndex n r 1)
    ssLost, srLost := (List.range n).filter fun s => byteLost cs (byteIndex n 3 (2 * n + 1 + s))
    cwCorr := (cs.filter fun c => c.errs.any (1 ≤ ·)).length, cwUncorr := (cs.filter fun c => c.errs.isNone).length
    symCorr := (cs.map fun c => c.errs.getD 0).sum
    bins := (List.range 17).map fun k => (k, (cs.filter fun c => c.errs == some k).length)
    bipErrs := v.1, sbErrs := v.2, parity := ttfParity bytes f ssLost, behind := rx.behind }

/-! ### Digests and positions -/

/-- R72: the digest of the descriptors of one side of a lane. -/
def State.digest (s : State) (base l : Nat) : Nat :=
  crc32c ((List.range (s.laneSlots l)).flatMap fun k => beBytes 4 (s.desc base l k))

/-- R187: bytes(t) = ceil(t_ns × rate / 8,000,000), rate in kb/s. -/
def bytesIn (tNs kbps : Nat) : Nat := ceilDiv (tNs * kbps) 8000000

/-- R205: the instant of byte b of a frame that arrived at `arrival` on a line of a rate in bit/s, its far end off nominal by f in
0.001 ppm. -/
def byteInstant (arrival : Tick) (rate : Nat) (f : Int) (b : Nat) : Tick :=
  arrival + (b * 8 * sec * 1000000000 : Nat) / (rate * (1000000000 + f)).toNat

/-- Ticks that n line bytes take at a line rate in bit/s. -/
def lineTicks (n rate : Nat) : Tick := n * 8 * sec / rate

end Sys2Proof.Machine
end

