-- ==== Sys2Proof/Machine/Landing.lean ====
section
/-! DEFINITION. Landing stores: the cut, realignment, slips, absent frames (R171 to R176, R181), ingress AIS (R119), and the
slot checker (R150). -/

namespace Sys2Proof.Machine

/-! ### Content of a slot (R64, R93) -/

def aisCell : Cell := ⟨.ais, List.replicate 783 0xFF⟩
def unequippedCell : Cell := ⟨.unequipped, List.replicate 783 0⟩
def lateCell : Cell := ⟨.late, List.replicate 783 0⟩

/-- R64, R65: what a received TTF slot lands as; none is unequipped. -/
def ttfCell? (x : SlotCell) (lost : Bool) : Option Cell :=
  if lost || 5 ≤ x.ss then some aisCell
  else
    match x.ss with
    | 0 => some ⟨.pass, x.payload⟩
    | 1 => some aisCell
    | 3 => some ⟨.late, x.payload⟩
    | 4 => some ⟨.test, x.payload⟩
    | _ => none

/-! ### The cut and the lag (R172, R177) -/

/-- C of R172 for landing frame L: a change committed for frame FN counts from L = FN − 1 on, though its boundary has not come
(R183). -/
def State.cutFor (s : State) (L : Nat) : Tick :=
  match ((s.aheadWrs (L + 1)).filter fun w => w.o == O.LANDING_CUT).getLast? with
  | some w => bits w.v F.LANDING_CUT_CUT.hi F.LANDING_CUT_CUT.lo * ns
  | none => s.fld F.LANDING_CUT_CUT * ns

/-- r(L). -/
def State.readyAt (s : State) (L : Nat) : Tick := (L + 1) * frame + s.cutFor L

/-- A landing frame found by its ready instant: the first of L and its neighbours that fits, else L. -/
def nearLanding (L : Nat) (fits : Nat → Bool) : Nat := ([L - 1, L, L + 1].find? fits).getD L

/-- The landing frame whose ready instant first follows the instant x (R176). -/
def State.landingAfter (s : State) (x : Tick) : Nat :=
  nearLanding ((x - s.fld F.LANDING_CUT_CUT * ns) / frame) fun L => x < s.readyAt L

/-- E of R174. -/
def State.elastic (s : State) (l : Nat) : Tick := s.fld F.LANDING_ELASTIC_ELASTIC l * ns

/-- RELEASE_OFFSET in ns. -/
def State.offsetNs (s : State) (l : Nat) : Nat := s.fld F.RELEASE_OFFSET_OFFSET l

/-- K of R177; 0 on a lane of role OFF (R190). -/
def State.lag (s : State) (l : Nat) : Nat :=
  if s.role l = 0 then 0
  else if s.cadence then (if s.fld F.LANDING_CUT_CUT + 12000 ≤ s.offsetNs l then 1 else 2) else 1

/-- The oldest change of a lane's settings that egress frame fn comes before (R183). -/
def State.relAt (s : State) (l fn : Nat) : Option RelOld := ((s.lane l).relOld.filter (fn < ·.fn)).getLast?

/-- What egress frame fn of a lane goes by: frames before a change keep what they had. -/
def State.lagOf (s : State) (l fn : Nat) : Nat := ((s.relAt l fn).map (·.lag)).getD (s.lag l)
def State.offsetOf (s : State) (l fn : Nat) : Nat := ((s.relAt l fn).map (·.offset)).getD (s.offsetNs l)
def State.cadenceOf (s : State) (l fn : Nat) : Bool := ((s.relAt l fn).map (·.cadence)).getD s.cadence

/-- The objects of every lane as the changes that egress frame fn comes before found them, newest change first. -/
def State.oldObjs (s : State) (fn : Nat) : List (Nat × Val) :=
  let rs := s.lanes.flatMap fun (p : Nat × Lane) => p.2.relOld.filter (fn < ·.fn)
  (sortBy (fun a b => decide (b.fn ≤ a.fn)) rs).flatMap (·.objs)

/-- Objects take values, in order. -/
def State.setVals (s : State) (vs : List (Nat × Val)) : State := vs.foldl (fun s v => s.setVal v.1 v.2) s

/-- The same of words of window arrays. -/
def State.oldWords (s : State) (fn : Nat) : List (Nat × Nat × Word) :=
  let rs := s.lanes.flatMap fun (p : Nat × Lane) => p.2.relOld.filter (fn < ·.fn)
  (sortBy (fun a b => decide (b.fn ≤ a.fn)) rs).flatMap (·.words)
def State.setWords (s : State) (vs : List (Nat × Nat × Word)) : State := vs.foldl (fun s v => s.setWord v.1 v.2.1 v.2.2) s

/-- R8: what concerns egress frame fn is done under the settings of that frame. -/
def State.asOf (s : State) (fn : Nat) (f : State → State) : State :=
  let old := s.oldObjs fn
  let ws := s.oldWords fn
  if old.isEmpty && ws.isEmpty then f s
  else
    let s1 := f ((s.setVals old).setWords ws)
    (s1.setVals (old.map fun (v : Nat × Val) => (v.1, s.val v.1))).setWords
      (ws.map fun (v : Nat × Nat × Word) => (v.1, v.2.1, s.word v.1 v.2.1))

/-! ### Landing frames held -/

def State.landing (s : State) (l L : Nat) : Option Landing := (s.lane l).landings.find? (·.l == L)

/-- R123, R132: the options of area 05 and the descriptors by which landing frame L of a lane goes: a frame before a change
keeps what it had. -/
def State.asLanding (s : State) (l L : Nat) : State :=
  s.setVals ((((s.lane l).relOld.filter (L < ·.fn)).flatMap (·.objs)).filter fun v => objArea v.1 == 0x05 || objArea v.1 == 0x06)

/-- FORCE_AIS_IN for landing frame L (R123, R124). -/
def State.forceIn (s : State) (l L : Nat) : Bool := (s.asLanding l L).on F.DEFECT_CONFIG_FORCE_AIS_IN l

/-- A landing frame that carries AIS in every slot. -/
def State.aisIn (s : State) (l : Nat) (x : Landing) : Bool := x.ais || s.forceIn l x.l

/-- The content of slot k of a landing frame: a TYPE 0 slot lands as unequipped whatever it carries (R130). -/
def State.landed (s : State) (l : Nat) (x : Landing) (k : Nat) : Cell :=
  if s.laneSlots l ≤ k || descType ((s.asLanding l x.l).rxDesc l k) = 0 then unequippedCell
  else if s.aisIn l x then aisCell
  else ((x.slots.find? (·.1 == k)).map (·.2)).getD unequippedCell

/-- Whether slot k of the landing frame is there to be read: it is complete and neither absent (R181) nor, on an SDH lane,
without an SPE (log 20). -/
def State.readable (s : State) (l : Nat) (x : Landing) (k : Nat) : Bool :=
  x.complete.isSome && !x.absent &&
  (!s.isSdh l || s.aisIn l x || descType ((s.asLanding l x.l).rxDesc l k) == 0 || x.slots.any (·.1 == k))

/-- An entry reads lane l: working, or protect where enabled (R164). -/
def readsLane (e : Entry) (g l : Nat) : Bool :=
  (entryAction e == 0 && (slotLane (entryWork e) == l || (entryProtEn e && slotLane (entryProt e) == l))) ||
  (entryAction e == 5 && slotLane g == l)

/-- R181: every output slot that sources the landing frame has read it by instant x. -/
def State.whollyRead (s : State) (l : Nat) (f : Landing) (x : Tick) : Bool :=
  (s.xc.page s.xc.force ++ (if s.xc.copy.isSome then s.xc.page !s.xc.force else [])).all fun p =>
    let o := slotLane p.1
    let fn := f.l + s.lagOf o (f.l + 1)
    !(readsLane (s.xc.entryAt fn p.1) p.1 l) || s.role o == 0 || s.laneSlots o ≤ slotNo p.1 ||
      f.reads.any (fun r => r.1 == p.1 && r.2 ≤ x)

/-- Landing frames kept: the newest eight, and older ones until they are wholly read. -/
def State.keepLandings (s : State) (l : Nat) (xs : List Landing) : List Landing :=
  xs.take 8 ++ (xs.drop 8).filter fun f => !f.absent && !s.whollyRead l f s.dts

/-- A landing frame is put in, in place of one of the same number. -/
def State.putLanding (s : State) (l : Nat) (x : Landing) : State :=
  let xs := (s.lane l).landings
  if xs.any (·.l == x.l) then
    s.modLane l fun y => { y with landings := xs.map fun f => if f.l = x.l then x else f }
  else s.modLane l fun y => { y with landings := s.keepLandings l (x :: xs) }

/-- R169 step 5: a landing frame free of ingress AIS has landed on a lane that is up. -/
def State.noteLanded (s : State) (l : Nat) (x : Landing) : State :=
  if !s.aisIn l x && s.laneUp l then s.rxDone l else s

/-! ### Test patterns (R150) -/

/-- One bit of a PRBS register: code 0 x^31 + x^28 + 1, code 1 x^23 + x^18 + 1. -/
def prbsNext (code x : Nat) : Nat :=
  if code = 0 then (x / 2 ^ 30 + x / 2 ^ 27) % 2 else (x / 2 ^ 22 + x / 2 ^ 17) % 2
def prbsShift (code x b : Nat) : Nat := (x * 2 + b) % 2 ^ (if code = 0 then 31 else 23)

/-- k bits of the sequence in front of `acc`: the bits and the register after. -/
def prbsBits (code : Nat) : Nat → Nat → Nat → Nat × Nat
  | 0, x, acc => (acc, x)
  | k + 1, x, acc => prbsBits code k (prbsShift code x (prbsNext code x)) (2 * acc + prbsNext code x)

/-- k received bits of a byte enter the register. -/
def prbsTake (code : Nat) : Nat → Nat → Nat → Nat
  | 0, x, _ => x
  | k + 1, x, b => prbsTake code k (prbsShift code x (b / 2 ^ k % 2)) b

/-- Bits set in a byte. -/
def popByte (x : Nat) : Nat := ((List.range 8).filter x.testBit).length

/-- The byte the checker expects at place p, the register after it when it runs on its own, and the register after it when
it takes the received byte b. With code 3 the register is what byte 0 of the frame would hold; `start` marks the first byte
checked in a frame. -/
def SlotCheck.expect (c : SlotCheck) (code testByte p b : Nat) (start : Bool) : Nat × Nat × Nat :=
  if code ≤ 1 then
    let r := prbsBits code 8 c.reg 0
    (r.1, r.2, prbsTake code 8 c.reg b)
  else if code = 2 then (testByte, 0, 0)
  else
    let r := (c.reg + if start then 1 else 0) % 256
    ((r + p) % 256, r, (b + 1024 - p) % 256)

/-- One byte at the checker. Answers the checker, whether it is locked, and the bit errors counted. A PRBS register of zeros
is no place in the sequence. -/
def SlotCheck.byte (c : SlotCheck) (lock : Bool) (code testByte p b : Nat) (start : Bool) : SlotCheck × Bool × Nat :=
  let e := c.expect code testByte p b start
  let bad := e.1 != b || (code ≤ 1 && c.reg == 0)
  let errs := (bad :: c.errs).take 64
  let good := if bad then 0 else c.good + 1
  let lock' := if lock then decide ((errs.filter id).length < 8) else decide (64 ≤ good)
  let reg := if lock then e.2.1 else e.2.2
  (⟨reg, if lock' then errs else [], if lock' then 0 else good⟩, lock',
    if lock then popByte (Nat.xor e.1 b) else 0)

/-- R133, R150: slot k holds a path overhead column, which carries no pattern: on an SDH lane, the first slot of a path. -/
def State.pohSlot (s : State) (base l k : Nat) : Bool := s.isSdh l && s.firstSlot base l k == k

/-- Bytes of a slot with their places; a path overhead column is left out. -/
def slotBytes (poh : Bool) (bs : List Byte) : List (Nat × Byte) :=
  (bs.zipIdx.map fun x => (x.2, x.1)).filter fun x => !poh || x.1 % 87 != 0

/-- The checker watches a slot of lane l. -/
def State.checks (s : State) (l : Nat) : Bool :=
  s.on F.TEST_CHECK_CTRL_ENABLE && slotLane (s.fld F.TEST_CHECK_CTRL_SLOT) == l

/-- The checker takes the bytes of its slot in one frame. -/
def State.checkBytes (s : State) (l : Nat) (bs : List Byte) : State :=
  let k := slotNo (s.fld F.TEST_CHECK_CTRL_SLOT)
  let code := s.fld F.TEST_CHECK_CTRL_PATTERN
  let tb := s.fld F.TEST_BYTE_BYTE
  let r := ((slotBytes (s.pohSlot O.RX_DESC l k) bs).zipIdx).foldl (fun a q =>
    let z := a.1.byte a.2.1 code tb q.1.1 q.1.2.toNat (q.2 == 0)
    (z.1, z.2.1, a.2.2 + z.2.2)) (s.slotCheck, s.on F.TEST_CHECK_STATUS_LOCK, 0)
  ({ s with slotCheck := r.1 }.setOn F.TEST_CHECK_STATUS_LOCK r.2.1).bump O.TEST_CHECK_ERRORS r.2.2

/-- The checker takes the landed frame of its slot, where there is one to be read. -/
def State.checkSlot (s : State) (l : Nat) (x : Landing) : State :=
  let k := slotNo (s.fld F.TEST_CHECK_CTRL_SLOT)
  let bs := (s.landed l x k).payload
  if s.checks l && s.readable l x k then (s.checkBytes l (bs.take 783)).checkBytes l (bs.drop 783) else s

/-- A landing frame is complete: it is put in, checked, and ends the receive side of a transition. -/
def State.land (s : State) (l : Nat) (x : Landing) : State :=
  ((s.putLanding l { x with sfp := (s.lane l).sfpNow }).checkSlot l x).noteLanded l x

/-! ### TTF placement (R173 to R175, R181) -/

/-- The instant by which received bytes exceed twice the elasticity (R181). -/
def State.roomAt (s : State) (l : Nat) (arrival : Tick) : Tick :=
  arrival + lineTicks (linePlace (bytesIn (2 * s.fld F.LANDING_ELASTIC_ELASTIC l) (s.lineRate l / 1000)) + 1) (s.lineRate l)

/-- R181: the frame before landing frame L is still not wholly read: the core is behind, and not all slots sourced from that
frame have completed (log 66). -/
def State.noRoom (s : State) (l L : Nat) (arrival : Tick) (behind : Bool) : Bool :=
  match s.landing l (L - 1) with
  | some f => behind && 1 ≤ L && f.wrote && !s.whollyRead l f (s.roomAt l arrival)
  | none => false

/-- The spare of a frame that ends at `fin` in landing frame L, in ticks. -/
def State.spare (s : State) (L : Nat) (fin : Tick) : Int := (s.readyAt L : Int) - fin

/-- The realigning frame's landing frame: the L whose spare lies in [E, 125 µs + E). -/
def State.realignTo (s : State) (l : Nat) (fin : Tick) : Nat :=
  nearLanding (ceilDiv (fin + s.elastic l - s.fld F.LANDING_CUT_CUT * ns) frame - 1) fun L =>
    (s.elastic l : Int) ≤ s.spare L fin && s.spare L fin < (frame + s.elastic l : Nat)

/-- LANDING_SPARE reads the spare of the latest frame (R173). -/
def State.showSpare (s : State) (l L : Nat) : State :=
  s.setFld F.LANDING_SPARE_SPARE (unsigned 32 (roundDiv (s.spare L s.dts) ns)) l

/-- R175: landing frame L repeats its predecessor. -/
def State.slipRepeat (s : State) (l L : Nat) : State :=
  let prev : Landing := (s.landing l (L - 1)).getD { l := L, ais := true }
  let s1 := s.land l { prev with l := L, complete := some (s.readyAt L), reads := [], wrote := false }
  ((s1.modLane l fun x => { x with nextL := some (L + 1) }).bumpLive (objAt O.SLIP_REPEAT l)).raise F.LR_STICKY_SLIP l

/-- R181: the arriving frame of landing frame L is discarded whole; the landing frame stays absent. -/
def State.coreDrop (s : State) (l L : Nat) (arrival : Tick) : State :=
  let s1 := s.putLanding l { l := L, complete := some (s.roomAt l arrival), absent := true }
  ((s1.modLane l fun x => { x with nextL := some (L + 1) }).bumpLive (objAt O.CORE_DROP l)).raise F.LR_STICKY_CORE_DROP l

/-- The frame takes landing frame L: its spare is shown, and it lands or finds no room. -/
def State.takeLanding (s : State) (l L : Nat) (x : Landing) (behind : Bool) : State :=
  let s1 := s.showSpare l L
  if s1.noRoom l L x.arrival behind then s1.coreDrop l L x.arrival
  else (s1.land l { x with l := L, complete := some s.dts }).modLane l fun y => { y with nextL := some (L + 1) }

/-- R174: the lane realigns at this frame. -/
def State.realign (s : State) (l : Nat) (x : Landing) (behind : Bool) : State :=
  ((((s.takeLanding l (s.realignTo l s.dts) x behind).bumpLive (objAt O.REALIGN l)).raise F.LR_STICKY_REALIGN l)).reseedLane l

/-- R173, R175: a received frame in the landing frame after its predecessor's. -/
def State.followOn (s : State) (l L : Nat) (x : Landing) (behind : Bool) : State :=
  let late := s.spare L s.dts < 0
  let s1 := if late then s.slipRepeat l L else s
  let L' := if late then L + 1 else L
  if ((frame + 2 * s.elastic l : Nat) : Int) ≤ s.spare L' s.dts then
    ((s1.showSpare l L').bumpLive (objAt O.SLIP_DROP l)).raise F.LR_STICKY_SLIP l
  else s1.takeLanding l L' x behind

/-- A TTF frame received in frame is given its landing frame. -/
def State.placeTtf (s : State) (l : Nat) (x : Landing) (behind : Bool) : State :=
  if s.heldHalted 6 l then s
  else
    match (s.lane l).nextL with
    | none => s.realign l x behind
    | some L => s.followOn l L x behind

/-- LANDING_STATUS.ALIGNED: the landing sequence is held. -/
def State.aligned (s : State) (l : Nat) : Bool :=
  s.isTtf l && s.laneUp l && (s.lane l).inFrame && (s.lane l).nextL.isSome

/-! ### Ready (R172) -/

/-- The paths of a lane with SF_P in force. -/
def State.sfPaths (s : State) (l : Nat) : List Nat := (s.pathsOf l).filter fun k => s.pathDefect l k pSf

/-- A landing frame that nothing completed carries AIS (R119, R174). -/
def State.landAis (s : State) (l L : Nat) : State :=
  s.land l { l := L, ais := true, complete := some (s.readyAt L) }

/-- Landing frame L of a TTF lane at r(L): there already, a repeat while the sequence is held,
else AIS, as before the landing frame of a realignment. -/
def State.readyTtf (s : State) (l L : Nat) : State :=
  match s.landing l L with
  | some _ => s
  | none =>
    if s.aligned l && (s.lane l).nextL.all (· ≤ L) then (if (s.lane l).nextL = some L then s.slipRepeat l L else s)
    else s.landAis l L

/-- First slots of the paths that lane l receives. -/
def State.inFirsts (s : State) (l : Nat) : List Nat :=
  (List.range (s.laneSlots l)).filter fun k => descType (s.rxDesc l k) != 0 && s.firstSlot O.RX_DESC l k == k

/-- The members of the path at first slot k with AIS. -/
def State.pathAisCells (s : State) (l k : Nat) : List (Nat × Cell) := (s.members O.RX_DESC l k).map fun m => (m, aisCell)

/-- Landing frame L of an SDH lane at r(L) (R176): what its paths placed is complete. A path that placed nothing carries AIS
where it calls for it; else its slots are there to be read once the frame that ends last before r(L) has been received (log
23). -/
def State.readySdh (s : State) (l L : Nat) : State :=
  let x := (s.landing l L).getD { l := L }
  if x.complete.isSome then s
  else
    let o := s.asLanding l L
    let down := (o.inFirsts l).filter fun k => o.pathAis l k && !x.slots.any (·.1 == k)
    s.land l
      { x with
        ais := x.ais || o.lineAis l, complete := some (s.readyAt L), slots := x.slots ++ down.flatMap (o.pathAisCells l) }

end Sys2Proof.Machine
end

