-- ==== Sys2Proof/Machine/Mapper.lean ====
section
/-! DEFINITION. Filler mapping of client block streams into slot groups, and demapping (R135 to R144). -/

namespace Sys2Proof.Machine

/-! ### Units (R136, R137) -/

/-- A control block of block type 0x1E that carries one 7-bit character eight times (IEEE 802.3): bits in order of
transmission, first bit in bit 63. -/
def charBlock (c : Nat) : Block :=
  let wire := 0x1E + ((List.range 8).map fun i => c * 2 ^ (8 + 7 * i)).sum
  ⟨true, BitVec.ofNat 64 ((List.range 64).foldl (fun a i => 2 * a + wire / 2 ^ i % 2) 0)⟩

/-- PRESUMED (log 18, IEEE 802.3). /E/ is 0x1E and /I/ is 0x00. -/
def errorBlock : Block := charBlock 0x1E
def idleBlock : Block := charBlock 0

/-- PRESUMED (log 18, IEEE 802.3). The Local Fault ordered set twice: block type 0x55, D3 = D7 = 1, all else 0. -/
def localFault : Block :=
  let wire := 0x55 + 0x01 * 2 ^ 24 + 0x01 * 2 ^ 56
  ⟨true, BitVec.ofNat 64 ((List.range 64).foldl (fun a i => 2 * a + wire / 2 ^ i % 2) 0)⟩

def boolBit (b : Bool) : Nat := if b then 1 else 0

/-- The 65 bits of a unit, bit 64 first. -/
def unitBits (b : Block) : List Bool := b.ctl :: (List.range 64).map fun i => b.bits.getLsbD (63 - i)

/-- Units from bits. -/
def bitUnits : Nat → List Bool → List Block
  | 0, _ => []
  | k + 1, bs =>
    ⟨bs.headD false, BitVec.ofNat 64 (((bs.drop 1).take 64).foldl (fun a b => 2 * a + boolBit b) 0)⟩ ::
      bitUnits k (bs.drop 65)

/-- Whether a block is an idle control block. -/
def isIdle (b : Block) : Bool := b == idleBlock

/-- A block as sync header and payload (R136), and with its polarity (R36). -/
def Block.sync (b : Block) : BitVec 2 := if b.ctl then 2 else 1
def wireBlock (invert : Bool) (x : BitVec 2 × BitVec 64) : BitVec 2 × BitVec 64 :=
  if invert then (~~~x.1, ~~~x.2) else x

/-- The 66 bits of a block on the line, the sync header first. -/
def lineUnit (b : Block) : List Bool := b.ctl :: (!b.ctl) :: (List.range 64).map fun i => b.bits.getLsbD (63 - i)

/-- The block a received sync header and payload stand for (R136). -/
def blockOf (sync : BitVec 2) (payload : BitVec 64) : Block :=
  if sync = 1#2 then ⟨false, payload⟩ else if sync = 2#2 then ⟨true, payload⟩ else errorBlock

/-! ### The group header (R138) -/

structure GroupHeader where
  flags : Nat
  slots : Nat
  blocks : Nat
  first : Nat
  seq : Nat
  pchk : Nat
  hcrcOk : Bool
  deriving DecidableEq, Repr

/-- The 16 bytes of a header. -/
def headerOf (flags slots blocks first seq pchk : Nat) : List Byte :=
  let h := beBytes 1 flags ++ beBytes 2 slots ++ beBytes 2 blocks ++ beBytes 4 first ++ beBytes 4 seq ++ beBytes 2 pchk
  h ++ beBytes 1 (crc8 h)

def readHeader (bs : List Byte) : GroupHeader :=
  let f := fun (i n : Nat) => beNat ((bs.drop i).take n)
  ⟨f 0 1, f 1 2, f 3 2, f 5 4, f 9 4, f 13 2, crc8 (bs.take 15) == f 15 1⟩

/-- R140: HCRC, version, SLOTS and BLOCK_COUNT are good. -/
def GroupHeader.good (h : GroupHeader) (n : Nat) : Bool :=
  h.hcrcOk && h.flags / 16 == 1 && h.slots == n && h.blocks ≤ clientCap n

/-- The stream of a group from its members' payloads, and the payload of member m from the stream (R137). -/
def groupStream (ms : List (List Byte)) : List Byte :=
  (List.range 783).flatMap fun p => ms.map fun m => m.getD p 0
def memberPayload (n m : Nat) (stream : List Byte) : List Byte :=
  (List.range 783).map fun p => stream.getD (p * n + m) 0

/-- The stream of a frame of `blocks` (R137). -/
def frameStream (n : Nat) (header : List Byte) (blocks : List Block) : List Byte :=
  let units := blocks ++ List.replicate (clientCap n - blocks.length) idleBlock
  header ++ bitsBytes (n * 783 - 16) (units.flatMap unitBits ++ List.replicate ((n * 783 - 16) * 8 - 65 * clientCap n) false)

/-! ### Mapping (R135) -/

/-- Landing frame L of a CLIENT lane closes at (L + 1) × 125 µs. -/
def State.closeMapping (s : State) (l L : Nat) : State :=
  let x := s.lane l
  let n := s.laneSlots l
  let blocks := x.mapping.reverse.take (clientCap n)
  let flags := 0x10 + flagBit (x.mapNoLock || !x.blockLock) 2 + flagBit (x.mapHiBer || s.defect l dHiBer) 1
  let first := if blocks.isEmpty then 0 else x.mapFirst
  let stream := frameStream n (headerOf flags n blocks.length first (L % 2 ^ 32) x.mapPchk.toNat) blocks
  let ais := s.lineAis l || x.aisUntil.any (fun t => L * frame < t)
  let s1 := s.setLane l
    { x with
      mapping := [], mapFirst := 0, mapNoLock := !x.blockLock, mapHiBer := s.defect l dHiBer, mapL := some (L + 1), mapErr := false
      mapPchk := BitVec.ofNat 16 (crc16 (stream.drop 16)) }
  let s2 := (s1.bumpLive (objAt O.MAPPED_BLOCKS l) blocks.length).bumpLive (objAt O.FILLER_UNITS l)
    (clientCap n - blocks.length)
  s2.land l
    { l := L, ais, complete := some ((L + 1) * frame), arrival := L * frame, errs := if x.mapErr then [0] else []
      slots := (List.range n).map fun m => (m, ⟨.pass, memberPayload n m stream⟩) }

/-- Every landing frame before frame `fn` of the DTS closes. -/
def State.mapUpTo (s : State) (l fn : Nat) : State :=
  match (s.lane l).mapL with
  | some L => if L < fn then s.closeMapping l L else s
  | none => s.modLane l fun x => { x with mapL := some fn }

/-- A block enters the landing frame of the instant its sync header crossed the ball. FIRST_OFFSET is truncated to its unit
(DESIGN CHOICE, log 18). -/
def State.mapBlock (s : State) (l : Nat) (sync : BitVec 2) (payload : BitVec 64) : State :=
  if s.heldHalted 4 l then s
  else
  let s0 := s.mapUpTo l s.fn
  let s1 := s0.modLane l fun x => { x with mapL := some s0.fn }
  let x := s1.lane l
  let lost := !x.blockLock
  let bad := lost || !(sync == 1#2 || sync == 2#2)
  let first := if x.mapping.isEmpty then s1.dts % frame * 256 / ns else x.mapFirst
  let s2 := s1.setLane l
    { x with
      mapping := (if lost then errorBlock else blockOf sync payload) :: x.mapping, mapFirst := first
      mapNoLock := x.mapNoLock || lost, mapHiBer := x.mapHiBer || s1.defect l dHiBer, mapErr := x.mapErr || bad }
  if bad then s2.bumpLive (objAt O.SYNC_ERR_MAPPED l) else s2

/-- Landing frame L of a CLIENT lane at r(L): complete already, or closed now. -/
def State.readyClient (s : State) (l L : Nat) : State :=
  match s.landing l L with
  | some _ => s
  | none => if (s.lane l).mapL.any (· ≤ L) || (s.lane l).mapL.isNone then s.closeMapping l L else s

/-! ### Demapping (R140 to R144) -/

/-- R142: what a usable frame's SEQ does: blocks used, and the counter that goes up. -/
def State.takeSeq (s : State) (l seq : Nat) : Bool × State :=
  let x := s.lane l
  let put := fun (s : State) => s.modLane l fun y => { y with baseSeq := some seq }
  match x.baseSeq with
  | none => (true, put s)
  | some last =>
    let k := (seq + 2 ^ 32 - last) % 2 ^ 32
    if k = 1 then (true, put s)
    else if k = 0 then (false, s.bumpLive (objAt O.SEQ_REPEAT l))
    else if k ≤ 8 then (true, put (s.bumpLive (objAt O.SEQ_GAP l) (k - 1)))
    else (true, put (s.bumpLive (objAt O.SEQ_RESYNC l)))

/-- R142: the SEQ is neither the last, nor within eight after it. -/
def Lane.resyncs (x : Lane) (seq : Nat) : Bool := x.baseSeq.any fun last => 8 < (seq + 2 ^ 32 - last) % 2 ^ 32

/-- At most k idle blocks leave a list of blocks. -/
def dropIdle : Nat → List Block → List Block
  | 0, bs => bs
  | _, [] => []
  | k + 1, b :: bs => if isIdle b then dropIdle k bs else b :: dropIdle (k + 1) bs

/-- Blocks that the transmitter sends in frame fn at the nominal rate. -/
def State.blocksIn (s : State) (l fn : Nat) : Nat :=
  let r := s.clientKbps l
  (fn + 1) * r * 125 / 66000 - fn * r * 125 / 66000

/-- R141: blocks are appended to the transmit queue. Answers the place of the first appended block. DEDUCED (log 18): the limit of
1,024 is on what waits beside the blocks that frame fn's period sends. -/
def State.appendBlocks (s : State) (l fn : Nat) (bs : List Block) : Nat × State :=
  let x := s.lane l
  let q := x.txQueue.length
  let target := s.fld F.CLIENT_TX_CONFIG_TARGET l
  let ins := if q + 8 < target then target - q else 0
  let kept := if target + 8 < q then dropIdle (q - target) bs else bs
  let all := x.txQueue ++ List.replicate ins idleBlock ++ kept
  let most := 1024 + s.blocksIn l fn
  let s1 := s.setLane l { x with txQueue := all.take most }
  (q + ins, ((s1.bumpLive (objAt O.IDLE_INS l) ins).bumpLive (objAt O.IDLE_DEL l) (bs.length - kept.length)).bumpLive
    (objAt O.OVERRUN_DROP l) (all.length - most))

/-- R143: the frame's marks for the group defects; LOS masks them all. -/
def State.groupRuns (s : State) (l : Nat) (gais late headerBad : Bool) (pchk : Option Bool) : State :=
  if s.defect l dLos then s
  else
    s.modLane l fun x =>
      let a := x.saw (runKey kGais 0) (boolBit gais)
      let b := if s.objBit (objAt O.GROUP_DEFECT_STATE l) 0 || gais || late then a
        else a.saw (runKey kGhl 0) (boolBit headerBad)
      match pchk with
      | some bad =>
        if bits (s.val (objAt O.GROUP_DEFECT_STATE l)) 1 0 != 0 then b else b.saw (runKey kGmis 0) (boolBit bad)
      | none => b

/-- The transmit queue after the blocks of one frame period have left. A queue that runs empty sends idle blocks. -/
def State.sendBlocks (s : State) (l fn : Nat) : List Block × State :=
  let x := s.lane l
  let n := s.blocksIn l fn
  let out := x.txQueue.take n
  (out ++ List.replicate (n - out.length) idleBlock,
    (s.setLane l { x with txQueue := x.txQueue.drop n }).bumpLive (objAt O.IDLE_INS l) (n - out.length))

/-- R142, R144: a usable frame at the demapper, its release instant at_, its header and its stream. For CLIENT_TX_DEPART the
transmit block clock starts a block at the release instant (DESIGN CHOICE, log 18). -/
def State.useFrame (s : State) (l fn : Nat) (at_ : Tick) (h : GroupHeader) (stream : List Byte) : State :=
  let q := s.takeSeq l h.seq
  let a := if q.1 then q.2.appendBlocks l fn (bitUnits h.blocks (lineBits (stream.drop 16))) else (0, q.2)
  let u := ((a.2.setFld F.GROUP_RX_SEQ_SEQ h.seq l).setFld F.GROUP_RX_INFO_GH_FLAGS h.flags l).setFld
    F.GROUP_RX_INFO_BLOCK_COUNT h.blocks l
  let v := u.setFld F.FIRST_OFFSET_RX_OFFSET h.first l
  if q.1 then v.setVal (objAt O.CLIENT_TX_DEPART l) (time96 (at_ + a.1 * 66 * sec / (s.clientKbps l * 1000))) else v

/-- R140, R142: one egress frame at the demapper; `at_` is its release instant. Answers the blocks its line sends. -/
def State.demap (s : State) (l fn : Nat) (at_ : Tick) (cells : List Cell) : List Block × State :=
  let n := s.laneSlots l
  let gais := cells.any fun c => c.st == .ais || c.st == .unequipped
  let late := cells.any fun c => c.st == .late
  let stream := groupStream (cells.map (·.payload))
  let h := readHeader stream
  let headerBad := !h.good n
  let x := s.lane l
  let whole := !gais && !late
  let checked := if whole && !headerBad && !x.resyncs h.seq then x.demapPchk.map fun p => p.toNat != h.pchk else none
  let s1 := (s.groupRuns l gais late headerBad checked).bumpLive (objAt O.LATE_FRAMES l) (boolBit late)
  let s2 := s1.bumpLive (objAt O.HDR_ERR l) (boolBit (whole && headerBad))
  let s3 := s2.bumpLive (objAt O.PCHK_ERR l) (boolBit (checked == some true))
  let intact := whole && !headerBad && !s.heldHalted 4 l
  let s4 := if intact then s3.modLane l fun y => { y with demapPchk := some (BitVec.ofNat 16 (crc16 (stream.drop 16))) }
    else s3.modLane l fun y => { y with demapPchk := none, baseSeq := y.baseSeq.map fun b => (b + 1) % 2 ^ 32 }
  let s5 :=
    if intact && !s.objBit (objAt O.GROUP_DEFECT_STATE l) 2 then s4.useFrame l fn at_ h stream
    else
      let t := if intact then s4.modLane l fun y => { y with baseSeq := some h.seq } else s4
      ((t.appendBlocks l fn (List.replicate (s.blocksIn l fn) localFault)).2).bumpLive (objAt O.LF_FRAMES l)
  s5.sendBlocks l fn

/-- R146: the demapper starts again: the queue is empty and the next usable SEQ is the new base. The mapper starts with it: PCHK
of the first frame mapped, which has no frame before it, is 0 (DESIGN CHOICE, log 18). -/
def State.resetDemapper (s : State) (l : Nat) : State :=
  s.modLane l fun x =>
    { x with loop := [], txQueue := [], baseSeq := none, demapPchk := none, mapping := [], mapL := none, mapPchk := 0 }

end Sys2Proof.Machine
end

