-- ==== Sys2Proof/Machine/SdhLine.lean ====
section
/-! DEFINITION. The line form of an SDH frame: positions (R83), the places of slots and SPEs (R133), scrambling (R84), parity (R85),
and what a receiver reads from it (R102). Positions are those of G.707 clause 9 (PRESUMED, log 70). -/

namespace Sys2Proof.Machine

/-! ### Geometry -/

/-- N of an SDH rate code. -/
def sdhN (rate : Nat) : Nat := 4 ^ rate

/-- Byte of row r and column c, both from 1, in order of transmission. -/
def sdhIndex (n r c : Nat) : Nat := (r - 1) * (270 * n) + (c - 1)

/-- PRESUMED (log 70; G.707 7.1). The column, from 0, that member c of AUG-x number a has among the 3N columns of an STM-N: four
AUG-x are interleaved x bytes at a time. -/
def augColumn : Nat → Nat → Nat → Nat → Nat → Nat
  | 0, _, _, _, c => c
  | k + 1, n, x, a, c => if x = n then c else augColumn k n (4 * x) (a / 4) (c / x * (4 * x) + a % 4 * x + c % x)

/-- The column of slot k by its descriptor: a TYPE 2 slot lies in the AUG-X of its path, any other in an AUG-1 (R133). -/
def slotColumn (n desc k : Nat) : Nat :=
  let x := if descType desc = 2 then 4 ^ descConcat desc else 1
  augColumn 4 n x (k / (3 * x)) (k % (3 * x))

/-- Frame byte of payload byte i of a row, i from 0 to 86, in the column set of `col`. -/
def payloadByte (n r col i : Nat) : Nat := sdhIndex n r (9 * n + 3 * n * i + col + 1)

/-- R91: the concatenation indication: NDF 1001 and value bits all ones. -/
def isConcat (w : BitVec 16) : Bool := w.toNat / 4096 == 9 && w.toNat % 1024 == 1023

/-! ### Scrambling and parity -/

/-- R84: bytes on the line from bytes of the frame, and back. PRESUMED (log 70): the unscrambled span is the first 9N bytes of row 1. -/
def sdhScrambled (n : Nat) (off : Bool) (bs : List Byte) : List Byte :=
  if off then bs else bs.take (9 * n) ++ sdhScramble (bs.drop (9 * n))

/-- R85: the bytes that B2 covers: all but the section overhead of rows 1 to 3. -/
def b2Covers (n k : Nat) : Bool := 3 ≤ k / (270 * n) || 9 * n ≤ k % (270 * n)

/-- R85: BIP-24N, one byte for each place modulo 3N. -/
def b2Of (n : Nat) (bs : List Byte) : List Byte :=
  let a := bs.toArray
  (List.range (3 * n)).map fun i =>
    bip8 (((List.range 810).map fun j => j * (3 * n) + i).filter (b2Covers n ·) |>.map fun k => a.getD k 0)

/-- R85: the parities of a frame: `sent` as transmitted, `bs` before scrambling. -/
def sdhParityOf (n : Nat) (sent bs : List Byte) : SdhParity := ⟨bip8 sent, b2Of n bs⟩

/-- Bit positions in which two lists of parity bytes differ. -/
def violationsAll (xs ys : List Byte) : Nat := (List.zipWith violations xs ys).sum

/-! ### Reading a frame -/

/-- What the receiver of an SDH lane reads of one frame: whether its framing word was correct, its overhead bytes, the
violations against the frame before it, its own parities for the frame after it, and its bytes after descrambling. -/
structure SdhSeen where
  fawOk : Bool
  pos : Nat
  arrival : Tick
  j0 : Byte
  k1 : BitVec 8
  k2 : BitVec 8
  s1 : Nat
  reiL : Nat
  e1 : Byte
  f1 : Byte
  e2 : Byte
  sdcc : List Byte
  ldcc : List Byte
  overlay : BitVec 16
  b1Errs : Nat
  b2Errs : Nat
  parity : SdhParity
  bytes : List Byte
  deriving DecidableEq, Repr

/-- R102: the last three A1 and the first three A2 bytes of row 1. -/
def sdhFawOk (n : Nat) (bits : List Bool) : Bool :=
  (bits.drop (24 * n - 24)).take 48 == lineBits [0xF6, 0xF6, 0xF6, 0x28, 0x28, 0x28]

/-- One frame of line bits as the receiver reads it. -/
def sdhDecode (rate : Nat) (off : Bool) (prev : Option SdhParity) (rx : SdhRx) (bits : List Bool) : SdhSeen :=
  let n := sdhN rate
  let line := bitsBytes (2430 * n) bits
  let bytes := sdhScrambled n off line
  let a := bytes.toArray
  let b := fun (r c : Nat) => a.getD (sdhIndex n r c) 0
  let b2 := (List.range (3 * n)).map fun i => b 5 (i + 1)
  { fawOk := sdhFawOk n bits, pos := rx.pos, arrival := rx.arrival
    j0 := b 1 (6 * n + 1), k1 := b 5 (3 * n + 1), k2 := b 5 (6 * n + 1), s1 := (b 9 1).toNat % 16
    reiL := (if n = 1 then 0 else (b 9 (3 * n + 2)).toNat * 256) + (b 9 (3 * n + 3)).toNat
    e1 := b 2 (3 * n + 1), f1 := b 2 (6 * n + 1), e2 := b 9 (6 * n + 1)
    sdcc := [b 3 1, b 3 (3 * n + 1), b 3 (6 * n + 1)]
    ldcc := [6, 7, 8].flatMap fun r => [b r 1, b r (3 * n + 1), b r (6 * n + 1)]
    overlay := BitVec.ofNat 16 (beNat [b 2 (7 * n + 1), b 2 (8 * n + 1)])
    b1Errs := (prev.map fun p => violations p.b1 (b 2 1)).getD 0
    b2Errs := (prev.map fun p => violationsAll p.b2 b2).getD 0
    parity := sdhParityOf n line bytes, bytes }

/-- One byte of a path from every member, and the places of its first and its last byte in the frame. -/
structure PathByte where
  bytes : List Byte
  first : Nat
  last : Nat
  deriving DecidableEq, Repr

/-- A path in one frame: pointer word, whether every member carries the concatenation indication (R91), and its bytes: rows
1 to 3, H3, rows 4 to 9. -/
structure PathRaw where
  s : Nat
  pointer : BitVec 16
  concatOk : Bool
  before : List PathByte
  h3 : PathByte
  after : List PathByte
  deriving DecidableEq, Repr

/-- The path whose members have columns `cols`, in the bytes of a frame. -/
def pathRaw (n s : Nat) (cols : List Nat) (a : Array Byte) : PathRaw :=
  let at_ := fun (place : Nat → Nat) =>
    let ks := cols.map place
    (⟨ks.map fun k => a.getD k 0, ks.headD 0, ks.foldl max 0⟩ : PathByte)
  let word := fun (c : Nat) =>
    BitVec.ofNat 16 (beNat [a.getD (sdhIndex n 4 (c + 1)) 0, a.getD (sdhIndex n 4 (3 * n + c + 1)) 0])
  let rows := fun (rs : List Nat) => rs.flatMap fun r => (List.range 87).map fun i => at_ fun c => payloadByte n r c i
  { s, pointer := word (cols.headD 0), concatOk := (cols.drop 1).all fun c => isConcat (word c)
    before := rows [1, 2, 3], h3 := at_ fun c => sdhIndex n 4 (6 * n + c + 1), after := rows [4, 5, 6, 7, 8, 9] }

/-! ### SPEs (R133) -/

/-- A whole SPE: its bytes by member, the instants of its first and its last byte, and the violations of its B3 (R95). -/
structure Spe where
  members : List (List Byte)
  j1At : Tick
  lastAt : Tick
  b3Errs : Nat
  deriving DecidableEq, Repr

/-- R133: the bytes of each member from the bytes of a path, oldest first. Byte (r, j) of a VC-4-Xc is byte (r − 1) × 87 +
floor(j / 3X) of member j mod 3X: each place holds one byte of every member. -/
def membersOf (cols : List (List Byte)) : List (List Byte) :=
  (List.range (cols.headD []).length).map fun m => cols.map fun c => c.getD m 0

/-- One byte of every member enters the SPE being received; `inst` gives the instant at which a byte of the frame begins. -/
def SpeAsm.feed (x : SpeAsm) (inst : Nat → Tick) (b : PathByte) : SpeAsm × Option Spe :=
  if !x.on then (x, none)
  else if x.skip ≠ 0 then ({ x with skip := x.skip - 1 }, none)
  else
    let j1 := if x.cols.isEmpty then inst b.first else x.j1At
    let cols := b.bytes :: x.cols
    if cols.length < 783 then ({ x with cols, j1At := j1 }, none)
    else
      let ms := membersOf cols.reverse
      let sent := (ms.headD []).getD 87 0
      ({ on := true, b3 := some (bip8 ms.flatten) },
        some ⟨ms, j1, inst (b.last + 1), (x.b3.map fun p => violations p sent).getD 0⟩)

/-- Bytes in order; the SPEs that they complete. -/
def SpeAsm.feedAll (x : SpeAsm) (inst : Nat → Tick) (bs : List PathByte) : SpeAsm × List Spe :=
  bs.foldl (fun a b => let r := a.1.feed inst b; (r.1, a.2 ++ r.2.toList)) (x, [])

/-- What a pointer does to the bytes of rows 4 to 9 (R90): the SPE goes on, its bytes moved by an increment or a decrement;
a new value starts an SPE at its place; out of NORM there is none. -/
inductive PointerMove where
  | stay | inc | dec
  | jump (v : Nat)
  | lost
  deriving DecidableEq, Repr

/-- Rows 4 to 9 of a path. -/
def SpeAsm.row4 (x : SpeAsm) (inst : Nat → Tick) (m : PointerMove) (p : PathRaw) : SpeAsm × List Spe :=
  match m with
  | .stay => x.feedAll inst p.after
  | .inc => x.feedAll inst (p.after.drop 1)
  | .dec => x.feedAll inst (p.h3 :: p.after)
  | .jump v => ({ on := true, skip := v } : SpeAsm).feedAll inst p.after
  | .lost => ({}, [])

/-! ### Writing a frame -/

/-- Byte of row r and column c of a frame as sent, before scrambling (R83). `cell` gives the pointer word and the columns of the
slot whose column in the set of 3N is given. -/
def sdhByte (n : Nat) (f : SdhTx) (m0m1 : Bool) (cell : Nat → BitVec 16 × SlotColumns) (r c : Nat) : Byte :=
  if f.aisL && (4 ≤ r || 9 * n < c) then 0xFF
  else if 9 * n < c then
    let x := cell ((c - 1) % (3 * n))
    let i := (c - 1 - 9 * n) / (3 * n)
    if r ≤ 3 then x.2.before.getD ((r - 1) * 87 + i) 0 else x.2.after.getD ((r - 4) * 87 + i) 0
  else
    match r with
    | 1 => if c ≤ 3 * n then 0xF6 else if c ≤ 6 * n then 0x28 else if c = 6 * n + 1 then f.j0 else 0xCC
    | 2 =>
      if c = 1 then f.b1 else if c = 3 * n + 1 then f.e1 else if c = 6 * n + 1 then f.f1
      else if c = 7 * n + 1 then f.overlay.extractLsb' 8 8 else if c = 8 * n + 1 then f.overlay.extractLsb' 0 8 else 0
    | 3 => if c % (3 * n) = 1 then f.sdcc.getD ((c - 1) / (3 * n)) 0 else 0
    | 4 =>
      let x := cell ((c - 1) % (3 * n))
      if c ≤ 3 * n then x.1.extractLsb' 8 8 else if c ≤ 6 * n then x.1.extractLsb' 0 8 else x.2.h3
    | 5 => if c ≤ 3 * n then f.b2.getD (c - 1) 0 else if c = 3 * n + 1 then f.k1 else if c = 6 * n + 1 then f.k2 else 0
    | 9 =>
      if c = 1 then BitVec.ofNat 8 f.s1
      else if c = 3 * n + 2 && m0m1 then BitVec.ofNat 8 (f.reiL / 256)
      else if c = 3 * n + 3 then BitVec.ofNat 8 f.reiL
      else if c = 6 * n + 1 then f.e2 else 0
    | _ => if c % (3 * n) = 1 then f.ldcc.getD ((r - 6) * 3 + (c - 1) / (3 * n)) 0 else 0

/-- All bytes of a frame as sent, before scrambling. -/
def sdhBytes (n : Nat) (f : SdhTx) (m0m1 : Bool) (cell : Nat → BitVec 16 × SlotColumns) : List Byte :=
  (List.range 9).flatMap fun r => (List.range (270 * n)).map fun c => sdhByte n f m0m1 cell (r + 1) (c + 1)

/-- R92, R133: one frame of an output slot: the bytes on their way, the SPE bytes that follow them, and the pointer's move: the
columns of the frame, and what is left for the next. -/
def slotFrame (rest spe : List Byte) (mv : Int) : SlotColumns × List Byte :=
  let q := rest.drop 261 ++ spe
  if mv = 1 then (⟨rest.take 261, 0, 0 :: q.take 521⟩, q.drop 521)
  else if mv = -1 then (⟨rest.take 261, q.headD 0, (q.drop 1).take 522⟩, q.drop 523)
  else (⟨rest.take 261, 0, q.take 522⟩, q.drop 522)

/-- Bytes on their way, made to reach the place v of the next SPE (R92): what a new OFFSET leaves over or lacks is filled with
open bytes (log 70). SPEs that wait whole are kept. -/
def fitRest (k v : Nat) (rest : List Byte) : List Byte :=
  if rest.length % 783 = (261 + v) % 783 then rest
  else rest.take (261 + v) ++ ((List.range (261 + v)).drop rest.length).map fun i => Config.lineByte (k * 1024 + i)

end Sys2Proof.Machine
end

