-- ==== Sys2Proof/Machine/Sdh.lean ====
section
/-! DEFINITION. SDH lanes: pointer interpreters (R89 to R91), path overhead (R95), remote errors (R86), the ledger overlay
(R98 to R101), and justification (R92). -/

namespace Sys2Proof.Machine

/-! ### Pointers (R89 to R91) -/

/-- What a pointer word is in a frame (R89, R90). -/
inductive PointerWord where
  | ais
  | enabled (v : Nat)
  | normal (v : Nat)
  | inc | dec
  | invalid
  deriving DecidableEq, Repr

/-- NDF bits of the pointer that match a 4-bit pattern. -/
def ndfMatch (w : BitVec 16) (pat : Nat) : Nat :=
  ((List.range 4).filter fun i => w.getLsbD (12 + i) == pat.testBit i).length

/-- I bits (9, 7, 5, 3, 1) or D bits (8, 6, 4, 2, 0) that differ from the accepted value. -/
def inverted (w : BitVec 16) (v first : Nat) : Nat :=
  ((List.range 5).filter fun i => w.getLsbD (first + 2 * i) != v.testBit (first + 2 * i)).length

/-- The pointer word of a frame at an interpreter; `concatOk` is whether every member carried the concatenation
indication (R91). A word whose NDF bits say enabled is no justification (R134). -/
def Pointer.read (x : Pointer) (w : BitVec 16) (concatOk : Bool) : PointerWord :=
  let v := w.toNat % 1024
  let steady := x.state = 0 && 3 ≤ x.stable && ndfMatch w 9 < 3
  if !concatOk then .invalid
  else if w = 0xFFFF#16 then .ais
  else if 3 ≤ ndfMatch w 9 && v ≤ 782 then .enabled v
  else if steady && 3 ≤ inverted w x.value 1 && inverted w x.value 0 ≤ 1 then .inc
  else if steady && 3 ≤ inverted w x.value 0 && inverted w x.value 1 ≤ 1 then .dec
  else if 3 ≤ ndfMatch w 6 && v ≤ 782 then .normal v
  else .invalid

/-- Every run but the one that goes on starts again. -/
def Pointer.fresh (x : Pointer) : Pointer := { x with aisRun := 0, badRun := 0, ndfRun := 0, newRun := 0, newValue := 0 }

/-- A normal pointer's run of equal values. -/
def Pointer.sawValue (x : Pointer) (v : Nat) : Pointer :=
  let n := if x.newRun ≠ 0 && x.newValue = v then x.newRun + 1 else 1
  { x.fresh with newValue := v, newRun := n }

/-- The interpreter enters a state, after n frames that carried the value (R90). -/
def Pointer.enter (x : Pointer) (st v n : Nat) : Pointer := { x.fresh with state := st, value := v, stable := n }

/-- R90: NORM. -/
def Pointer.norm (x : Pointer) : PointerWord → Pointer
  | .ais => if x.aisRun = 2 then x.enter 1 x.value 0 else { x.fresh with aisRun := x.aisRun + 1, stable := 0 }
  | .invalid => if x.badRun = 7 then x.enter 2 x.value 0 else { x.fresh with badRun := x.badRun + 1, stable := 0 }
  | .enabled v =>
    if x.ndfRun = 7 then x.enter 2 x.value 0
    else
      { x.fresh with ndfRun := x.ndfRun + 1, value := v, stable := if v = x.value then x.stable + 1 else 1 }
  | .inc => { x.fresh with value := (x.value + 1) % 783, stable := 0 }
  | .dec => { x.fresh with value := (x.value + 782) % 783, stable := 0 }
  | .normal v =>
    if v = x.value then { x.fresh with stable := x.stable + 1 }
    else
      let y := x.sawValue v
      if 3 ≤ y.newRun then y.enter 0 v 3 else { y with stable := 0 }

/-- R89: AIS, and the initial state (log 16). -/
def Pointer.inAis (x : Pointer) : PointerWord → Pointer
  | .ais => if x.state = 3 && x.aisRun = 2 then x.enter 1 x.value 0 else { x.fresh with aisRun := x.aisRun + 1 }
  | .enabled v => x.enter 0 v 1
  | .normal v =>
    let y := x.sawValue v
    if 3 ≤ y.newRun then y.enter 0 v 3 else y
  | .inc => x.fresh
  | .dec => x.fresh
  | .invalid => if x.badRun = 7 then x.enter 2 x.value 0 else { x.fresh with badRun := x.badRun + 1 }

/-- R89: LOP. -/
def Pointer.inLop (x : Pointer) : PointerWord → Pointer
  | .ais => if x.aisRun = 2 then x.enter 1 x.value 0 else { x.fresh with aisRun := x.aisRun + 1 }
  | .normal v =>
    let y := x.sawValue v
    if 3 ≤ y.newRun then y.enter 0 v 3 else y
  | .enabled _ => x.fresh
  | .inc => x.fresh
  | .dec => x.fresh
  | .invalid => x.fresh

/-- One frame at the interpreter. -/
def Pointer.step (x : Pointer) (p : PointerWord) : Pointer :=
  if x.state = 0 then x.norm p else if x.state = 2 then x.inLop p else x.inAis p

/-- What a pointer word, which took the interpreter from x to y, does to the bytes of the path (R90, R133); `on` is whether the
start of its SPE is known. -/
def Pointer.move (x y : Pointer) (p : PointerWord) (on : Bool) : PointerMove :=
  if y.state ≠ 0 then .lost
  else if x.state ≠ 0 || !on then .jump y.value
  else if p = .inc then .inc
  else if p = .dec then .dec
  else if y.value ≠ x.value then .jump y.value
  else .stay

def State.pointer (s : State) (l k : Nat) : Pointer := Map.get {} k (s.lane l).pointers

/-- The interpreter of the path at first slot k takes a pointer word; its state is shown, and AIS-P and LOP-P follow it (R89,
R114). -/
def State.interpret (s : State) (l k : Nat) (p : PointerWord) : State :=
  let y := (s.pointer l k).step p
  let s1 := s.modLane l fun z => { z with pointers := Map.set {} k y z.pointers }
  let s2 := (s1.setFld F.PATH_STATUS_PI_STATE (y.state % 3) l k).setFld F.PATH_STATUS_POINTER y.value l k
  let s3 := if p = .inc then s2.bumpLive (objAt O.PATH_PJ_INC_RX l k)
    else if p = .dec then s2.bumpLive (objAt O.PATH_PJ_DEC_RX l k) else s2
  (s3.judgePath l k pAis (y.state == 1)).judgePath l k pLop (y.state == 2)

/-! ### Path overhead (R95) -/

/-- A value and a run. -/
def State.sawRun (s : State) (l k v : Nat) : State := s.modLane l fun x => x.saw k v

/-- B3 violations: counted, gathered for REI-P, and put into the path's SF and SD windows. -/
def State.b3 (s : State) (l k n : Nat) : State :=
  let s1 := s.bumpLive (objAt O.PATH_B3_ERR l k) n
  let st := bits (s.val (pathObj l k)) 7 0
  s1.modLane l fun x =>
    let y := { x with repPath := Map.set 0 k (Map.get 0 k x.repPath + n) x.repPath }
    if s.scrambleOff l then y
    else
      let z := if pathMaskedBy st pSf then y else y.count (sfKey (.sfP k)) n
      if pathMaskedBy st pSd then z else z.count (sfKey (.sdP k)) n

/-- The path overhead byte of row r of an SPE, from 1. -/
def Spe.poh (p : Spe) (r : Nat) : Byte := (p.members.headD []).getD (87 * (r - 1)) 0

/-- REI-P of an SPE (R95): larger values count as 0. -/
def Spe.rei (p : Spe) : Nat := if (p.poh 4).toNat / 16 ≤ 8 then (p.poh 4).toNat / 16 else 0

/-- R95: the path overhead of a received SPE, in modes monitor and terminate. -/
def State.pathOverhead (s : State) (l k : Nat) (p : Spe) : State :=
  let st := bits (s.val (pathObj l k)) 7 0
  if s.pohOff l k || s.pathsMasked l || st.testBit pAis || st.testBit pLop || (s.pointer l k).state ≠ 0 then s
  else
    let s1 := (s.b3 l k p.b3Errs).bumpLive (objAt O.PATH_REI_RX l k) p.rei
    let s2 := s1.modLane l fun x => x.traceByte (siteKey (.j1 k)) (s.traceMode l (.j1 k)) (p.poh 1)
    (s2.sawRun l (runKey kC2 k) (p.poh 3).toNat).sawRun l (runKey kG1 k) ((p.poh 4).toNat / 2 % 8)

/-! ### Placing SPEs (R133, R176) -/

/-- R118, R119: what a path received from the instant `since` on lands as AIS in landing frame L. -/
def State.speAis (s : State) (l k L : Nat) (since : Tick) : Bool :=
  let o := s.asLanding l L
  o.pathAis l k || o.lineAis l || o.ripeAis l || o.ripePath l k ||
    (s.lane l).aisUntil.any (since < ·) || since < Map.get 0 k (s.lane l).pathAisUntil

/-- A slot's content in a landing frame that takes a further SPE of its path (log 70). -/
def Cell.join (a b : Cell) : Cell := if a.st == .ais || b.st == .ais then aisCell else ⟨.pass, a.payload ++ b.payload⟩

/-- Slots of a landing frame with the cells of a path beside what they hold. -/
def joinCells (old new : List (Nat × Cell)) : List (Nat × Cell) :=
  old.filter (fun p => !new.any (·.1 == p.1)) ++
    new.map fun p => (p.1, ((old.find? (·.1 == p.1)).map fun q => q.2.join p.2).getD p.2)

/-- R176: an SPE of the path at first slot k enters the landing frame whose ready instant first follows its last byte. -/
def State.placeSpe (s : State) (l k : Nat) (arrival : Tick) (p : Spe) : State :=
  let L := s.landingAfter (p.lastAt - 1)
  let x := (s.landing l L).getD { l := L }
  let ms := s.members O.RX_DESC l k
  let cells := if s.speAis l k L (min p.j1At arrival) then s.pathAisCells l k
    else (ms.zip p.members).map fun m => (m.1, ⟨.pass, m.2⟩)
  let poh := !s.pohOff l k
  let y : Landing :=
    { x with
      slots := joinCells x.slots cells, spe := x.spe ++ [(k, p.j1At, p.lastAt)]
      errs := if poh && p.b3Errs ≠ 0 then k :: x.errs else x.errs
      far := if poh && p.rei ≠ 0 then k :: x.far else x.far }
  if s.heldHalted 6 l then s
  else
    let s1 := s.putLanding l y
    match cells.find? (·.1 == slotNo (s.fld F.TEST_CHECK_CTRL_SLOT)) with
    | some c => if x.complete.isSome && s.checks l then s1.checkBytes l c.2.payload else s1
    | none => s1

/-- A whole SPE of the path at first slot k. -/
def State.receiveSpe (s : State) (l k : Nat) (arrival : Tick) (p : Spe) : State :=
  (s.pathOverhead l k p).placeSpe l k arrival p

/-- A frame that arrived at `arrival` decides what the landing frame of that instant holds. One in which no SPE of the path
ended holds AIS where the path has had none yet, else no bytes (log 70). -/
def State.fillPath (s : State) (l k : Nat) (arrival : Tick) (whole : Bool) : State :=
  let put := fun (s : State) (L : Nat) (x : Landing) =>
    if x.slots.any (·.1 == k) then s
    else
      let cells := if !whole || s.speAis l k L arrival then s.pathAisCells l k
        else (s.members O.RX_DESC l k).map fun m => (m, ⟨.pass, []⟩)
      s.putLanding l { x with slots := x.slots ++ cells }
  let L := s.landingAfter arrival
  if s.heldHalted 6 l then s
  else
    let s1 := match s.landing l (L - 1) with
      | some x => put s (L - 1) x
      | none => s
    put s1 L ((s1.landing l L).getD { l := L })

/-- The path at first slot k in a received frame of bytes `a`: rows 1 to 3 under the pointer so far, then its pointer, then
rows 4 to 9. -/
def State.receivePath (s : State) (l : Nat) (arrival : Tick) (a : Array Byte) (k : Nat) : State :=
  let n := sdhN (s.rate l)
  let raw := pathRaw n k ((s.members O.RX_DESC l k).map fun m => slotColumn n (s.rxDesc l m) m) a
  let inst := byteInstant arrival (s.lineRate l) (s.corrFreq l)
  let b := (Map.get {} k (s.lane l).spes : SpeAsm).feedAll inst raw.before
  let s1 := b.2.foldl (fun s p => s.receiveSpe l k arrival p) s
  let w := (s1.pointer l k).read raw.pointer raw.concatOk
  let s2 := s1.interpret l k w
  let r := b.1.row4 inst ((s1.pointer l k).move (s2.pointer l k) w b.1.on) raw
  let s3 := r.2.foldl (fun s p => s.receiveSpe l k arrival p) s2
  (s3.modLane l fun x => { x with spes := Map.set {} k r.1 x.spes }).fillPath l k arrival r.1.b3.isSome

/-- Every path of a frame received in frame; none while a line defect masks them all (R117). -/
def State.receivePaths (s : State) (l : Nat) (arrival : Tick) (bytes : List Byte) : State :=
  if s.pathsMasked l then s
  else (s.inFirsts l).foldl (fun s k => s.receivePath l arrival bytes.toArray k) s

/-! ### Remote errors (R86) -/

/-- The largest REI-L of a rate, and whether M0 and M1 carry it. -/
def reiMax (rate : Nat) (m0m1 : Bool) : Nat :=
  match rate with
  | 0 => 24
  | 1 => 96
  | 2 => 255
  | 3 => if m0m1 then 1536 else 255
  | _ => 6144
def reiWide (rate : Nat) (m0m1 : Bool) : Bool := rate = 4 || (rate = 3 && m0m1)

/-- The REI-L that received M0 and M1 carry. -/
def State.reiOf (s : State) (l raw : Nat) : Nat :=
  let m := s.on F.SDH_CONFIG_REI_L_M0M1 l
  let v := if reiWide (s.rate l) m then raw else raw % 256
  if v ≤ reiMax (s.rate l) m then v else 0

/-! ### The overlay received (R98 to R101) -/

/-- A FINE unit, 2^-8 ns, in ticks. -/
abbrev fineUnit : Nat := 262144

def ovMfs (w : BitVec 16) : Bool := w.getLsbD 15
def ovSlowBit (w : BitVec 16) : Bool := w.getLsbD 14
def ovStep (w : BitVec 16) : Nat := w.toNat / 4096 % 4
def ovFine (w : BitVec 16) : Nat := w.toNat % 4096

/-- R100 step 3: the value congruent to FINE within 2,048 units of the prediction. -/
def fineNear (pred : Int) (fine : Nat) : Int := pred + signed 12 (unsigned 12 ((fine : Int) - pred))

/-- The track of R100: whether it runs, the arrival and the spacing S in FINE units, and the echoed index. -/
structure Track where
  alive : Bool
  a : Int
  sp : Int
  idx : Nat
  deriving DecidableEq, Repr

/-- R100 steps 2 and 3: the next word. -/
def Track.next (x : Track) (w : BitVec 16) : Track :=
  let st := ovStep w
  if !x.alive || st = 3 then { x with alive := false }
  else if st = 0 then x
  else
    let a := fineNear (x.a + st * x.sp) (ovFine w)
    { x with a := a, sp := if st = 1 then a - x.a else x.sp, idx := (x.idx + st) % 256 }

/-- The tracks of words 1 on, with the place of each. -/
def tracks : Nat → Track → List OvWord → List (Nat × OvWord × Track)
  | _, _, [] => []
  | i, x, w :: ws => let y := x.next w.word; (i, w, y) :: tracks (i + 1) y ws

/-- The 32 bytes of a slow channel from 256 words, oldest first. -/
def slowBytes (ws : List OvWord) : List Byte := bitsBytes 32 (ws.map fun w => ovSlowBit w.word)

/-- R100: the track carried on to frame 0 of the next multiframe matches that frame's FINE within one unit; a track that has ended,
or finds no echo there, matches nothing (log 19). -/
def carriesOn (x : Track) (w : BitVec 16) : Bool :=
  let d := signed 12 (unsigned 12 ((ovFine w : Int) - (x.a + ovStep w * x.sp)))
  x.alive && ovStep w != 3 && -1 ≤ d && d ≤ 1

/-- Samples of a multiframe: the place of each frame, its word, and the track with the far arrival of the frame it echoes. -/
def overlaySamples (slow : List Byte) (ws : List OvWord) : List (Nat × OvWord × Track) :=
  let a0 : Int := (ticksOfTime96 (BitVec.ofNat 96 (beNat ((slow.drop 12).take 12))) / fineUnit : Nat)
  let t0 : Track := ⟨(slow.getD 27 0).getLsbD 5, a0, 125000 * 256, (slow.getD 24 0).toNat⟩
  match ws with
  | [] => []
  | w :: r => (0, w, t0) :: tracks 1 t0 r

/-- One overlay multiframe, in ticks: what a round trip has to stay below (R101). -/
abbrev ovPeriod : Nat := 256 * frame

/-- The instant t1 of an echoed frame whose index was last sent at `kept`, in a frame that arrived at t4: frames of one index leave
whole multiframes apart (R38), and those that left after t4 are not the one. -/
def echoSent (kept t4 : Int) : Int := if kept ≤ t4 then kept else kept - (kept - t4 + ovPeriod - 1) / ovPeriod * ovPeriod

/-- R204, R193: one overlay sample at the ledger, its conditions in the order of R197. R101: a round trip of a multiframe or more is
unusable (log 19). -/
def State.overlaySample (s : State) (l : Nat) (tx0 : Nat) (x : Nat × OvWord × Track) : State :=
  let t3 : Int := (tx0 + x.1 * frame : Nat)
  let t4 : Int := (x.2.1.at_ : Nat)
  let kept := (s.ledger l).sentAt x.2.2.idx
  let ta : Nat := ((t3 - x.2.2.a * fineUnit) / 256).toNat
  let raw := t4 - echoSent (ticksOfTime96 kept : Nat) t4 - turnTicks ta (s.corrFreq l)
  let rtt := if raw < 0 then raw + ovPeriod else raw
  if !x.2.2.alive then s.excludeSample l
  else if kept = noTime then
    ((s.excludeSample l).bumpLive (objAt O.ECHO_MISMATCH l)).raise F.LEDGER_STICKY_ECHO_MISMATCH l
  else if !x.2.1.fit || ovPeriod ≤ rtt then s.excludeSample l
  else s.enterSample l rtt (t4 - t3)

/-- R100, R204: every sample of a multiframe of n frames is discarded. -/
def State.discardOverlay (s : State) (l n : Nat) : State :=
  if n = 0 then s
  else ((s.bumpLive (objAt O.OVERLAY_DISCARD l)).raise F.SDH_STICKY_OVERLAY_LOST l).excludeSample l n

/-- R101: a multiframe that brings no CLOCK_CLASS and STEPS breaks their runs. -/
def State.overlayBreak (s : State) (l : Nat) : State :=
  s.modLane l fun x => (x.breakRun (runKey kClass 0)).breakRun (runKey kSteps 0)

/-- R100: multiframe M, `prev`, is reconstructed by the slow channel of the multiframe just complete; `w` is the word of frame 0 of
that one. -/
def State.overlayMultiframe (s : State) (l : Nat) (prev cur : List OvWord) : State :=
  let slow := slowBytes cur
  let good := crc8 (slow.take 31) == (slow.getD 31 0).toNat
  let sam := overlaySamples slow prev
  let fin := (sam.getLast?.map (·.2.2)).getD ⟨false, 0, 0, 0⟩
  let stepped := (slow.getD 27 0).getLsbD 6
  let s1 :=
    if good then
      let cls := (slow.getD 25 0).toNat
      let cls' := if cls == 0x50 || classTraceable cls then cls else 0xFF
      (s.sawRun l (runKey kClass 0) cls').sawRun l (runKey kSteps 0) (slow.getD 26 0).toNat
    else s.overlayBreak l
  if !good || stepped || !carriesOn fin ((cur.head?.map (·.word)).getD 0) then s1.discardOverlay l prev.length
  else
    let tx0 := ticksOfTime96 (BitVec.ofNat 96 (beNat (slow.take 12)))
    sam.foldl (fun s x => s.overlaySample l tx0 x) s1

/-- The running multiframe ends: with all its words it brings the slow channel of the one before it; else both are lost (log 19).
Answers what is kept of it. -/
def State.overlayEnd (s : State) (l : Nat) (o : Overlay) : List OvWord × State :=
  if o.start.isNone then ([], s)
  else if !o.bad && o.words.length = 256 then (o.words, s.overlayMultiframe l o.prev.reverse o.words.reverse)
  else ([], ((s.overlayBreak l).discardOverlay l o.prev.length).discardOverlay l o.words.length)

/-- How many frames after frame 0 of the running multiframe a frame arrived. -/
def Overlay.place (o : Overlay) (arrival : Tick) : Option Nat := o.start.map fun t => (arrival - t + frame / 2) / frame

/-- The overlay word of a frame received in frame. A multiframe goes on for 256 frames, received or not; the next begins with an
MFS, or without one where that is due and does not come (R101). -/
def State.overlayWord (s : State) (l : Nat) (w : OvWord) : State :=
  let o := (s.lane l).overlay
  let start := fun (bad : Bool) (t : Tick) =>
    let e := s.overlayEnd l o
    e.2.modLane l fun x => { x with overlay := { words := [w], prev := e.1, start := some t, bad } }
  if ovMfs w.word then start false w.at_
  else
    match o.place w.at_, o.start with
    | some i, some t =>
      if 256 ≤ i then start true (t + i / 256 * ovPeriod)
      else s.modLane l fun x => { x with overlay := { o with words := w :: o.words } }
    | _, _ => s

/-! ### The overlay sent (R98, R99) -/

/-- A slow channel with its bytes of the frame echoed in frame 0 and its CRC-8. -/
def overlayEcho (slow : List Byte) (e : Option EchoFrom) : List Byte :=
  let b := slow.take 12 ++ beBytes 12 (match e with | some x => (time96 x.arrival).toNat | none => 0) ++
    beBytes 1 ((e.map (·.mfc)).getD 0) ++ (slow.drop 25).take 2 ++
    [slow.getD 27 0 &&& 0xDF#8 ||| BitVec.ofNat 8 (flagBit e.isSome 32), 0, 0, 0]
  b ++ beBytes 1 (crc8 b)

/-- The slow channel that describes the multiframe whose frame 0 leaves at tx with echo e. -/
def overlaySlow (tx : Tick) (e : Option EchoFrom) (cls steps : Nat) (root stepped : Bool) : List Byte :=
  overlayEcho (beBytes 12 (time96 tx).toNat ++ List.replicate 13 0 ++ beBytes 1 cls ++ beBytes 1 steps ++
    beBytes 1 (flagBit root 128 + flagBit stepped 64)) e

/-- The frame echoed at tx (R67, R98). -/
def Ledger.echoed (g : Ledger) (tx : Tick) : Option EchoFrom :=
  g.heard.find? fun e => e.usable && e.arrival ≤ tx && tx ≤ e.arrival + 250 * us

/-- STEP of R98 in frame i of a multiframe: by how many far-end frames echo e is beyond the index echoed before. DESIGN CHOICE
(log 19): 0 in frame 0 and 3 in any other where none was echoed before, and 3 for more than 2. -/
def overlayStep (i : Nat) (e : Option EchoFrom) (before : Option Nat) : Nat :=
  match e, before with
  | some y, some k => if (y.mfc + 256 - k) % 256 ≤ 2 then (y.mfc + 256 - k) % 256 else 3
  | some _, none => if i = 0 then 0 else 3
  | none, _ => 3

/-- FINE of R98; the dither is a free value (log 9). -/
def State.overlayFine (s : State) (e : Option EchoFrom) : Nat :=
  match e with
  | some y => (y.arrival + s.freeVal.toNat % fineUnit) / fineUnit % 4096
  | none => 0

/-- The overlay word of egress frame fn at tx (R98). The slow channel of a multiframe (R99) is taken at its frame 0 (DESIGN
CHOICE, log 19). -/
def State.overlayOut (s : State) (l fn : Nat) (tx : Tick) (cls steps : Nat) (root stepped : Bool) : BitVec 16 × State :=
  let i := fn % 256
  let e := (s.ledger l).echoed tx
  let s1 := if i = 0 then s.modLane l fun x =>
      { x with ovSlow := x.ovNext, ovNext := overlaySlow tx e cls steps root stepped } else s
  let x := s1.lane l
  let bit := (x.ovSlow.getD (i / 8) 0).getLsbD (7 - i % 8)
  (BitVec.ofNat 16 (flagBit (i == 0) 32768 + flagBit bit 16384 + overlayStep i e x.ovEcho * 4096 + s1.overlayFine e),
    (s1.modLane l fun x => { x with ovBefore := x.ovEcho, ovEcho := e.map (·.mfc) }).drawn)

/-- The overlay word w of egress frame fn, which left at tx, once a frame that had arrived by then has ended (log 23). -/
def State.overlayAgain (s : State) (l fn : Nat) (tx : Tick) (w : BitVec 16) : BitVec 16 × State :=
  let i := fn % 256
  let e := (s.ledger l).echoed tx
  (BitVec.ofNat 16 (w.toNat / 16384 * 16384 + overlayStep i e (s.lane l).ovBefore * 4096 + s.overlayFine e),
    (s.modLane l fun x =>
      { x with ovEcho := e.map (·.mfc), ovNext := if i = 0 then overlayEcho x.ovNext e else x.ovNext }).drawn)

/-! ### Justification (R92) -/

/-- One justification unit: 125 µs / 810 (R90), in ticks. -/
abbrev pjUnit : Nat := 10356306172

/-- R92: the pointer of an output path in egress frame fn whose source has its place at `place` against DTS: the moves so
far, and the generator after. A source that comes later than it was takes an increment. -/
def Justify.step (x : Justify) (fn : Nat) (place : Int) : Int × Justify :=
  match x.place with
  | none => (0, { x with place := some place })
  | some p =>
    if x.last.any (fun k => fn < k + 4) then (0, x)
    else if p + pjUnit < place then (1, { place := some (p + pjUnit), moved := x.moved + 1, last := some fn })
    else if place + pjUnit < p then (-1, { place := some (p - pjUnit), moved := x.moved - 1, last := some fn })
    else (0, x)

/-- The pointer word of a value, NDF 0110, with SS bits; an increment inverts the I bits, a decrement the D bits. -/
def pointerWord (ss v : Nat) (mv : Int) : BitVec 16 :=
  let base := 6 * 4096 + ss * 1024 + v
  BitVec.ofNat 16 (if mv = 1 then Nat.xor base 0x2AA else if mv = -1 then Nat.xor base 0x155 else base)

/-- PATH_PJ_TX: INC in the high half, DEC in the low half, each wrapping. -/
def State.countPj (s : State) (l k : Nat) (mv : Int) : State :=
  let o := objAt O.PATH_PJ_TX l k
  let v := BitVec.ofNat 96 (s.liveOf o)
  if mv = 1 then s.setLive o (setBits v 31 16 (bits v 31 16 + 1)).toNat
  else if mv = -1 then s.setLive o (setBits v 15 0 (bits v 15 0 + 1)).toNat
  else s

/-! ### The symbols of a frame as sent (R74, R75, R83 to R85) -/

/-- The slot whose column each of the 3N has, by column. -/
def State.slotsByColumn (s : State) (l : Nat) : Array Nat :=
  let n := sdhN (s.rate l)
  (List.range (3 * n)).foldl (fun a k => a.set! (slotColumn n (s.desc O.TX_DESC l k) k) k) (Array.replicate (3 * n) 0)

/-- What a slot that no path uses carries (R94). -/
abbrev emptyColumns : SlotColumns := ⟨[], 0, []⟩

/-- An SDH frame as bytes, before scrambling. -/
def State.sdhFrameBytes (s : State) (l : Nat) (f : SdhTx) : List Byte :=
  let ks := s.slotsByColumn l
  sdhBytes (sdhN (s.rate l)) f (reiWide (s.rate l) (s.on F.SDH_CONFIG_REI_L_M0M1 l)) fun c =>
    let k := ks.getD c 0
    (((f.slots.find? (·.1 == k)).map (·.2.1)).getD 0, ((f.columns.find? (·.1 == k)).map (·.2)).getD emptyColumns)

/-- The bits of a frame on the line, and the parity that the SDH frame after it carries (R85). -/
def State.lineOf (s : State) (l : Nat) (f : TxFrame) : List Bool × Option SdhParity :=
  match f.ttf, f.sdh with
  | some g, _ => (ttfLine (s.rate l) g, none)
  | none, some g =>
    let n := sdhN (s.rate l)
    let bs := s.sdhFrameBytes l g
    let sent := sdhScrambled n (s.on F.SDH_CONFIG_SCRAMBLE_OFF l) bs
    (lineBits sent, some (sdhParityOf n sent bs))
  | none, none => (f.client.flatMap lineUnit, none)

/-- The frame as it leaves, after symbol `prior`. -/
def State.onLine (s : State) (l : Nat) (f : TxFrame) (prior : Nat) : State :=
  let x := s.lineOf l f
  let line := s.txSymbols l prior x.1
  s.modLane l fun y =>
    { y with lastTx := some { f with line, prior }, txPrior := line.getLast?.getD prior, txSdh := x.2 }

/-- K2 bits 2 to 0 sent (R83, R118). -/
def State.k2Low (s : State) (l : Nat) : BitVec 8 :=
  if s.on F.DEFECT_CONFIG_FORCE_AIS_L l then 7 else if s.sendRdiL l then 6 else 0

end Sys2Proof.Machine
end

