-- ==== Sys2Proof/Machine/Pm.lean ====
section
/-! DEFINITION. Performance monitoring: seconds, availability, bins and threshold notices (16_performance_monitoring). -/

namespace Sys2Proof.Machine

/-! ### Points (R304) -/

/-- Watched path w is point w; point k of lane l is 4,096 + 2 l + k. -/
def linePoint (l : Nat) : Nat := 4096 + 2 * l + 1
def sectionPoint (l : Nat) : Nat := 4096 + 2 * l


/-- The output slot whose entry in force carries watch index w. -/
def State.watchSlot (s : State) (w : Nat) : Option Nat :=
  ((s.xc.page s.xc.force).find? fun p => entryWatchEn p.2 && entryWatch p.2 == w).map (·.1)

/-- R309: the point is monitored at this instant. -/
def State.monitored (s : State) (key : Nat) : Bool :=
  if key < 4096 then s.active && (s.watchSlot key).isSome
  else
    let l := (key - 4096) / 2
    s.active && s.role l != 0 && s.bayOn l && s.on F.PM_LANE_CONFIG_PM_ENABLE l && (s.lane l).bringUpEnd.isNone &&
      (key % 2 == 1 || s.isSdh l)

/-- The points that exist: of every lane whose role is not OFF, of every watched entry, and those that hold a record. -/
def State.pointKeys (s : State) : List Nat :=
  let lanes := (List.range numLanes).flatMap fun l =>
    if s.role l = 0 then [] else if s.isSdh l then [sectionPoint l, linePoint l] else [linePoint l]
  let watched := ((s.xc.page s.xc.force).filter fun p => entryWatchEn p.2).map fun p => entryWatch p.2
  (watched ++ lanes ++ s.points.map (·.1)).eraseDups

/-! ### Gathering (R305) -/

/-- What second `sec` of a point gathers is changed. -/
def State.pmAt (s : State) (key second : Nat) (f : PmSecond → PmSecond) : State :=
  let p := s.point key
  if p.now.second = second then s.setPoint key { p with now := f p.now }
  else if p.now.second < second then
    let x := (p.next.filter fun x => x.second == second).getD { second, monitored := s.monitored key }
    s.setPoint key { p with next := some (f x) }
  else s.setPoint key { p with waiting := p.waiting.map fun x => if x.second = second then f x else x }

/-- A block of the running second: errored at the near end, errored at the far end. -/
def State.pmBlock (s : State) (key : Nat) (near far : Bool) : State :=
  if s.heldHalted 13 0 then s
  else s.pmAt key (s.dts / sec) fun x => { x with nearEb := x.nearEb + boolBit near, farEb := x.farEb + boolBit far }

/-- R305: the near-end and far-end defects of a lane point that are in force. -/
def State.pmDefects (s : State) (key : Nat) : Bool × Bool :=
  let l := (key - 4096) / 2
  let tim := s.defect l dTimS && s.on F.DEFECT_CONFIG_TIM_S_AIS l
  if key % 2 = 0 then (s.defect l dLos || s.defect l dLof || tim, false)
  else if s.isSdh l then (s.defect l dLos || s.defect l dLof || s.defect l dAisL || tim, s.defect l dRdiL)
  else if s.isTtf l then (s.defect l dLos || s.defect l dLof || s.mismatch l, s.defect l dRdiL)
  else (s.defect l dLos || s.defect l dLobl, false)

/-- The state of a point now enters its running second. -/
def State.pmScan (s : State) (key : Nat) : State :=
  let m := s.monitored key
  let d := if key < 4096 then (false, false) else s.pmDefects key
  s.pmAt key (s.dts / sec) fun x =>
    { x with monitored := x.monitored && m, nearD := x.nearD || d.1, farD := x.farD || d.2 }
def State.pmScanAll (s : State) : State := s.pointKeys.foldl (fun s k => s.pmScan k) s

/-- DAY_OFFSET for a second (R312): the one that the first change after it replaced, or the one in force. -/
def State.dayOffset (s : State) (t : Nat) : Nat :=
  match s.dayCuts.find? fun c => t < c.1 with
  | some c => c.2
  | none => s.fld F.PM_DEVICE_CONFIG_DAY_OFFSET

/-- The start of the aligned bin that holds second t. -/
def quarterStart (t : Nat) : Nat := t - t % 900
def dayStart (off t : Nat) : Nat := t - (t + 86400 - off % 86400) % 86400

/-- R311: the bins of a point that hold the running second are suspect: those that stand open, and those that the second is
counted in when it is classified. -/
def State.pmSuspect (s : State) (key : Nat) : State :=
  let t := s.dts / sec
  let mark := fun (start : Nat) (b : Bin) => { b with suspect := b.suspect || decide (start ≤ b.start) }
  let s1 := s.pmAt key t fun x => { x with suspect := true }
  let p := s1.point key
  s1.setPoint key
    { p with quarter := p.quarter.map (mark (quarterStart t)), day := p.day.map (mark (dayStart (s.dayOffset t) t)) }

/-! ### Classifying a second (R306 to R308) -/

/-- SES_PCT of a point. -/
def State.sesPct (s : State) (key : Nat) : Nat :=
  if key < 4096 then s.fld F.PM_DEVICE_CONFIG_WATCH_SES_PCT else s.fld F.PM_LANE_CONFIG_SES_PCT ((key - 4096) / 2)

def PmSecond.nearSes (x : PmSecond) (pct : Nat) : Bool := x.nearD || ceilDiv (8000 * pct) 100 ≤ x.nearEb
def PmSecond.farSes (x : PmSecond) (pct : Nat) : Bool := !x.nearD && (x.farD || ceilDiv (8000 * pct) 100 ≤ x.farEb)

/-- R308: the availability of a second from the state before it and the ten seconds that begin with it. -/
def availableAt (was : Bool) (ses : List (Option Bool)) : Bool :=
  if was then !(ses.length == 10 && ses.all (· == some true)) else ses.length == 10 && ses.all (· == some false)

/-- The eight counts that a second adds: near ES, SES, BBE, UAS, far the same. -/
def PmSecond.counts (x : PmSecond) (pct : Nat) (nearUp farUp : Bool) : List Nat :=
  let half := fun (up ses es : Bool) (eb : Nat) =>
    if up then [boolBit es, boolBit ses, if ses then 0 else eb, 0] else [0, 0, 0, 1]
  half nearUp (x.nearSes pct) (x.nearSes pct || 1 ≤ x.nearEb) x.nearEb ++
    half farUp (x.farSes pct) (!x.nearD && (x.farSes pct || 1 ≤ x.farEb)) (if x.nearD then 0 else x.farEb)

/-! ### Bins (R310 to R313) -/

def optMin (a b : Option Int) : Option Int :=
  match a, b with
  | some x, some y => some (min x y)
  | some x, none => some x
  | none, y => y
def optMax (a b : Option Int) : Option Int :=
  match a, b with
  | some x, some y => some (max x y)
  | some x, none => some x
  | none, y => y

/-- A counted second enters a bin. -/
def Bin.add (b : Bin) (x : PmSecond) (counts : List Nat) : Bin :=
  { b with
    seconds := b.seconds + 1
    counts := List.zipWith (· + ·) b.counts counts
    cwCorr := b.cwCorr + x.cwCorr, cwUncorr := b.cwUncorr + x.cwUncorr, maxSym := max b.maxSym x.sym
    rttMin := optMin b.rttMin x.rtt, rttMax := optMax b.rttMax x.rtt
    oow := b.oow + x.oow, excl := b.excl + x.excl, steps := b.steps + x.steps, reseeds := b.reseeds + x.reseeds }

/-- The current bin for second t: the one running, or a new one. A bin that does not begin on its boundary is suspect. -/
def binFor (b : Option Bin) (start t : Nat) : Bin :=
  match b with
  | some x => x
  | none => if start = t then { start } else { start, suspect := true }

/-- A closed bin joins the history. -/
def closeBin (b : Bin) (hist : List Bin) (depth : Nat) : List Bin := ({ b with complete := true } :: hist).take depth

def quarterDepth (key : Nat) : Nat := if key < 4096 then 16 else 96
def dayDepth (key : Nat) : Nat := if key < 4096 then 1 else 7

/-! ### Threshold notices (R315) -/

/-- The profile of a point. -/
def State.profileOf (s : State) (key : Nat) : Nat :=
  if key < 4096 then (s.word O.WATCH_PROFILE key).toNat % 4
  else if key % 2 = 0 then s.fld F.PM_LANE_CONFIG_PROFILE_S ((key - 4096) / 2)
  else s.fld F.PM_LANE_CONFIG_PROFILE_L ((key - 4096) / 2)

/-- The threshold of count c (0 ES, 1 SES, 2 BBE, 3 UAS) in a profile. -/
def State.threshold (s : State) (p : Nat) (day : Bool) (c : Nat) : Nat :=
  let w := fun (k : Nat) => (s.word (O.TCA_PROFILE + p) k).toNat
  if day then (if c = 0 then w 3 % 2 ^ 17 else if c = 1 then w 4 % 2 ^ 17 else if c = 2 then w 5 else w 6 % 2 ^ 17)
  else if c = 0 then w 0 / 2 ^ 16 else if c = 1 then w 0 % 2 ^ 16 else if c = 2 then w 1 else w 2 % 2 ^ 16

/-- One item arrives at TCA_LOG. -/
def State.tcaPush (s : State) (key : Nat) (day : Bool) (c t : Nat) : State :=
  if s.tcaLog.length < 512 then
    { s with tcaLog := s.tcaLog ++
      [(BitVec.ofNat 32 (flagBit day (2 ^ 28) + c * 2 ^ 24 + key), BitVec.ofNat 32 t)] }.raise F.PM_STICKY_TCA
  else ((s.bump O.TCA_DROPPED).raise F.PM_STICKY_TCA_LOST).raise F.PM_STICKY_TCA

/-- Counts of a current bin that reached their thresholds with second t. -/
def State.tcaCheck (s : State) (key : Nat) (day : Bool) (old new : List Nat) (t : Nat) : State :=
  (List.range 8).foldl (fun s c =>
    let th := s.threshold (s.profileOf key) day (c % 4)
    if th ≠ 0 && old.getD c 0 ≠ new.getD c 0 && new.getD c 0 = th then s.tcaPush key day c t else s) s

/-! ### One second of one point -/

/-- A second enters a bin of a point; an uncounted one, and one in which a change fell, marks it suspect (R309, R311). -/
def binTake (b : Bin) (x : PmSecond) (counts : List Nat) : Bin :=
  let y := if x.monitored then b.add x counts else { b with suspect := true }
  { y with suspect := y.suspect || x.suspect }

/-- R312: at the second a new DAY_OFFSET took over, the day bin that began before it closes. -/
def State.cutDay (s : State) (key t : Nat) : State :=
  let p := s.point key
  if s.dayCuts.any fun c => c.1 == t then
    let cut := p.day.filter fun b => b.start != t
    let s1 := s.setPoint key
      { p with day := some { start := t, suspect := true }
               days := match cut with
                 | some b => closeBin { b with suspect := true } p.days (dayDepth key)
                 | none => p.days }
    s1.raiseIf cut.isSome F.PM_STICKY_DAY_CLOSED
  else s

/-- R308, R310: second x is classified, with the run of ten that begins with it, oldest first. -/
def State.classify (s : State) (key : Nat) (x : PmSecond) (run : List PmSecond) : State :=
  let s0 := s.cutDay key x.second
  let p := s0.point key
  let t := x.second
  let pct := s0.sesPct key
  let seen := fun (ses : PmSecond → Bool) => run.map fun y => if y.monitored then some (ses y) else none
  let nearUp := if x.monitored then availableAt p.nearAvail (seen (·.nearSes pct)) else p.nearAvail
  let farUp := if x.monitored then availableAt p.farAvail (seen (·.farSes pct)) else p.farAvail
  let counts := x.counts pct nearUp farUp
  let off := s0.dayOffset t
  let q0 := binFor p.quarter (quarterStart t) t
  let d0 := binFor p.day (dayStart off t) t
  let q := binTake q0 x counts
  let d := binTake d0 x counts
  let qEnd := (t + 1) % 900 = 0
  let dEnd := (t + 1 + 86400 - off % 86400) % 86400 = 0
  let p' :=
    { p with
      nearAvail := nearUp, farAvail := farUp
      quarter := some (if qEnd then { start := t + 1 } else q)
      quarters := if qEnd then closeBin q p.quarters (quarterDepth key) else p.quarters
      day := some (if dEnd then { start := t + 1 } else d)
      days := if dEnd then closeBin d p.days (dayDepth key) else p.days }
  let s1 := ((s0.setPoint key p').tcaCheck key false q0.counts q.counts t).tcaCheck key true d0.counts d.counts t
  let s2 := if qEnd then (s1.setFld F.PM_NEWEST_START q.start).raise F.PM_STICKY_QTR_CLOSED else s1
  s2.raiseIf dEnd F.PM_STICKY_DAY_CLOSED

/-- A second boundary at a point: the second `t` that ended joins those waiting, and the one nine before it is
classified. -/
def State.pmTick (s : State) (key t : Nat) : State :=
  let p := s.point key
  let fin := if p.now.second = t then p.now else { second := t, monitored := false }
  let w := fin :: p.waiting
  let new := (p.next.filter fun x => x.second == t + 1).getD { second := t + 1 }
  let s1 := s.setPoint key
    { p with now := { new with monitored := new.monitored && s.monitored key }, next := none, waiting := w.take 9 }
  match w.drop 9 with
  | x :: _ => s1.classify key x w.reverse
  | [] => s1

/-- R313: the ledger record of a lane enters the second that ended. -/
def State.pmLedger (s : State) (l : Nat) : State :=
  if !s.ledgerOn l then s
  else
    let g := s.ledger l
    let rtt := if s.on F.LEDGER_STATUS_SEEDED l then some (s.sfld F.RTT_AVG_RTT l) else none
    let p := s.point (linePoint l)
    s.setPoint (linePoint l)
      { p with now :=
        { p.now with rtt, oow := g.secOow, excl := g.secExcl, steps := g.secStep, reseeds := g.secReseed } }

/-- R308: a DTS second boundary at every point. -/
def State.pmSecond (s : State) : State :=
  let t := s.dts / sec - 1
  let s1 := (List.range numLanes).foldl (fun s l => if s.role l = 0 then s else s.pmLedger l) s
  let s2 := s1.pointKeys.foldl (fun s k => s.pmTick k t) s1
  { s2 with dayCuts := s2.dayCuts.filter fun c => t < c.1 + 10 }

/-- R312: a TIME_SET closes every current bin, suspect and complete, and opens new ones at the new second; seconds not yet
classified belong to no bin. -/
def State.pmStep (s : State) : State :=
  let closed := s.points.any fun p => p.2.quarter.isSome
  let days := s.points.any fun p => p.2.day.isSome
  let newest := s.points.findSome? fun p => p.2.quarter.map (·.start)
  let t := s.dts / sec
  let shut := fun (key : Nat) (p : Point) =>
    { p with
      now := { second := t, monitored := false }, next := none, waiting := []
      quarter := some { start := t, suspect := true }, day := some { start := t, suspect := true }
      quarters := match p.quarter with
        | some b => closeBin { b with suspect := true } p.quarters (quarterDepth key)
        | none => p.quarters
      days := match p.day with
        | some b => closeBin { b with suspect := true } p.days (dayDepth key)
        | none => p.days }
  let ps : Map Point := s.points.map fun (p : Nat × Point) => (p.1, shut p.1 p.2)
  let s1 := { s with points := ps, dayCuts := [] }
  let s2 := match newest with
    | some st => s1.setFld F.PM_NEWEST_START st
    | none => s1
  (s2.raiseIf closed F.PM_STICKY_QTR_CLOSED).raiseIf days F.PM_STICKY_DAY_CLOSED

/-! ### Reading a bin (R314) -/

/-- A 64-bit value in two words. -/
def words64 (x : Nat) : List Word := [BitVec.ofNat 32 (x / 2 ^ 32), BitVec.ofNat 32 x]

/-- The 24 words of a bin record. -/
def Bin.record (b : Bin) (day fec ledger : Bool) : List Word :=
  let w := fun (x : Nat) => (BitVec.ofNat 32 x : Word)
  words64 b.start ++
    [w (2 ^ 31 + flagBit b.complete (2 ^ 30) + flagBit b.suspect (2 ^ 29) + flagBit day (2 ^ 28) + b.seconds)] ++
    b.counts.map w ++ [0] ++
    (if fec then words64 b.cwCorr ++ words64 b.cwUncorr ++ [w b.maxSym] else [0, 0, 0, 0, 0]) ++
    (if ledger then
      words64 (unsigned 64 (b.rttMin.getD 0)) ++ words64 (unsigned 64 (b.rttMax.getD 0)) ++
        [w b.oow, w b.excl, w (min b.steps 65535 * 65536 + min b.reseeds 65535)]
    else [0, 0, 0, 0, 0, 0, 0])

/-- R314: the record that PM_READ_SEL names; all zero where it is not held. -/
def State.binRecord (s : State) (point : Nat) (day : Bool) (start : Nat) : List Word :=
  let p := s.point point
  let cur := if day then p.day else p.quarter
  let hist := if day then p.days else p.quarters
  let found := if start = 2 ^ 48 - 1 then cur else ((cur.toList ++ hist).find? fun b => b.start == start)
  let l := (point - 4096) / 2
  let lane := 4096 ≤ point && point % 2 == 1
  match found with
  | some b => b.record day (lane && s.isTtf l) (lane && s.ledgerOn l)
  | none => List.replicate 24 0

/-- The partition that sees a point: the owner of its lane, or of the lane of its watched entry. -/
def State.pointLane (s : State) (point : Nat) : Option Nat :=
  if 4096 ≤ point then (if (point - 4096) / 2 < numLanes then some ((point - 4096) / 2) else none)
  else (s.watchSlot point).map slotLane

end Sys2Proof.Machine
end

