-- ==== Sys2Proof/Machine/Synth.lean ====
section
/-! DEFINITION. Clock outputs and pulse outputs (12_synthesizers). -/

namespace Sys2Proof.Machine

/-! ### Squelch and state (R235) -/

/-- The CLOCK_CLASS sent (R222). -/
def State.classSent (s : State) : Nat := s.fld F.LOOP_STATUS_CLASS

/-- R235: the class rule of an output or a pulse output. -/
def classSquelch (cls lim : Nat) : Bool := lim != 0xFF && lim < cls

/-! ### The grid (R234) -/

/-- OUT_PHASE_ADJ in ticks. -/
def State.outAdj (s : State) (n : Nat) : Int := s.sfld F.OUT_PHASE_ADJ_PHASE n * 256

/-- The first grid edge of frequency num/den at or after x. -/
def gridAfter (num den : Nat) (adj : Int) (x : Tick) : Tick :=
  let span : Nat := den * sec
  let k : Int := -((-(((x : Int) - adj) * num)) / (span : Nat))
  (adj + k * (span : Nat) / (num : Nat)).toNat

/-- An offset taken into (−P/2, P/2] for frequency num/den. -/
def wrapPeriod (num den : Nat) (d : Int) : Int :=
  let span : Int := (den * sec : Nat)
  let k : Int := -((-(2 * d * num - span)) / (2 * span))
  d - k * span / (num : Nat)

/-! ### Frequency (R236 to R238) -/

/-- R236: the ramp's length. -/
def State.rampTicks (s : State) (n : Nat) (a b : Nat × Nat) : Tick :=
  let x := a.1 * b.2
  let y := b.1 * a.2
  (max x y - min x y) * 1000000 * ms / (max 1 (s.fld F.OUT_GLIDE_SLOPE n * max x y))

/-- R236: the frequency at this instant, alignment and pull left out: on a ramp, on its way from f_old to f_new. -/
def State.outFreq (s : State) (n : Nat) : Nat × Nat :=
  let o := s.out n
  let span := o.stageEnd - o.began
  let e := min span (s.now - o.began)
  if o.stage = 1 && span ≠ 0 then
    (o.num * o.goal.2 * (span - e) + o.goal.1 * o.den * e, o.den * o.goal.2 * span)
  else (o.num, o.den)

/-- Fractions of a frequency, in 10^-14: c of OUT_GLIDE, and the slope s of R237 per second. -/
abbrev unity : Nat := 100000000000000
def State.glideC (s : State) (n : Nat) : Nat := max 1 (s.fld F.OUT_GLIDE_C n) * 100000000
def State.glideS (s : State) (n : Nat) : Nat := max 1 (s.fld F.OUT_GLIDE_SLOPE n) * 100000000000

/-- R237: the alignment's length for a phase of d ticks. -/
def State.alignTicks (s : State) (n : Nat) (d : Int) : Tick :=
  let c := max 1 (s.fld F.OUT_GLIDE_C n)
  let sl := max 1 (s.fld F.OUT_GLIDE_SLOPE n)
  let a := d.natAbs
  if a ≤ c * c * ns / sl then 2 * Nat.sqrt (a * 1000 * sec / sl) else c * ms / sl + a * 1000000 / c

/-- R237: the greatest frequency offset of the alignment. -/
def State.alignPeak (s : State) (n : Nat) (d : Int) : Nat :=
  min (s.glideC n) (Nat.sqrt (d.natAbs * s.glideS n * unity / sec))

/-- R237: how much of a phase of d ticks an alignment of length `span` has left after e ticks: its offset rises at s, stays at its
peak, and falls at s. -/
def State.alignLeft (s : State) (n : Nat) (d : Int) (span e : Tick) : Int :=
  let area := fun (x : Tick) => s.glideS n * x * x / (2 * sec * unity)
  let rise := min (span / 2) (s.alignPeak n d * sec / s.glideS n)
  let done := if e ≤ rise then area e
    else if e + rise ≤ span then area rise + s.alignPeak n d * (e - rise) / unity
    else d.natAbs - area (span - e)
  if span ≤ e then 0 else if 0 ≤ d then d - min done d.natAbs else d + min done d.natAbs

/-! ### The hard limit (R240, R241) -/

/-- R241: by how much DTS runs fast under the pull. -/
def State.pullRate (s : State) : Nat :=
  if s.on F.LOOP_STATUS_PULL_ACTIVE && s.timing.pullFast then s.fld F.PULL_SLOPE_SLOPE else 0

/-- By how much the output may run fast before its period is below 1 / OUT_FMAX. -/
def State.headroom (s : State) (n : Nat) : Nat :=
  let f := s.outFreq n
  s.fld F.OUT_FMAX_HZ n * f.2 * unity / max 1 f.1 - unity

/-- R237: the alignment's offset at this instant, where it runs fast. -/
def State.alignNow (s : State) (n : Nat) : Nat :=
  let o := s.out n
  if o.stage = 2 && 0 < o.delta && s.now < o.stageEnd then
    min (s.alignPeak n o.delta) (s.glideS n * min (s.now - o.began) (o.stageEnd - s.now) / sec)
  else 0

/-- R240: by how much the output's period is stretched now. -/
def State.overLimit (s : State) (n : Nat) : Nat := s.pullRate + s.alignNow n - s.headroom n

/-- The lag that the clamp gathers while no glide runs: stretching by `past` since t (R240). -/
def Out.gather (o : Out) (now : Tick) : Out :=
  match o.clamp with
  | some (t, past) => if o.stage = 0 then { o with lag := o.lag + ((now - t) * past / unity : Nat) } else o
  | none => o

/-- FMAX_CLAMP follows the period as it is (R240). A clamped output is off its grid. -/
def State.showClamp (s : State) (n : Nat) : State :=
  let o := (s.out n).gather s.now
  let past := if o.squelched then 0 else s.overLimit n
  let s1 := s.setOut n { o with clamp := if past = 0 then none else some (s.now, past) }
  let s2 := (s1.raiseIf (past != 0) F.OUT_STICKY_FMAX_CLAMPED n).setOn F.OUT_STATUS_FMAX_CLAMP (past != 0) n
  if past ≠ 0 then s2.setOn F.OUT_STATUS_ALIGNED false n else s2

/-- R240: the phase that an alignment of d ticks could not remove for want of headroom h: the part of its offset above h. -/
def State.alignLost (s : State) (n : Nat) (d : Int) (h : Nat) : Int :=
  let p := s.alignPeak n d
  let x := p - h
  let flat := if p < s.glideC n then 0 else (s.alignTicks n d) - 2 * (p * sec / s.glideS n)
  if d ≤ 0 then 0 else (x * x * sec / (s.glideS n * unity) + x * flat / unity : Nat)

/-! ### Squelch and state (R235) -/

/-- R235, R387: what keeps output n squelched, squelch-on-change apart. -/
def State.outBlocked (s : State) (n : Nat) : Bool :=
  classSquelch s.classSent (s.fld F.OUT_CONFIG_SQUELCH_CLASS n) || s.fld F.OUT_CONFIG_FORMAT n == 0 || s.dark ||
    s.heldHalted 10 n

/-- OUT_STATUS.STATE. -/
def State.outState (s : State) (n : Nat) : Nat :=
  let o := s.out n
  if s.fld F.OUT_CONFIG_FORMAT n = 0 then 0 else if o.squelched then 4
  else if o.stage = 1 then 2 else if o.stage = 2 then 3 else 1

/-- R235: the rising edge with which the output may resume at x or later: on the grid with ALIGN = 1. -/
def State.resumeEdge (s : State) (n : Nat) (f : Nat × Nat) (x : Tick) : Tick :=
  if s.on F.OUT_CONFIG_ALIGN n then gridAfter (max 1 f.1) (max 1 f.2) (s.outAdj n) x else x

/-- R235: the output is squelched: within a period it has had its falling edge and holds its low level. -/
def State.quench (s : State) (n : Nat) : State :=
  let o := s.out n
  let period := max 1 o.den * sec / max 1 o.num
  if o.squelched then s
  else (s.raise F.OUT_STICKY_SQUELCHED n).setOut n { o with squelched := true, lowFrom := s.now + period }

/-- R235: the levels of the true and the complement ball that a squelched output holds; INVERT swaps them (R245). None where the
output runs, has still to reach its falling edge, or has its driver off. -/
def State.outBalls (s : State) (n : Nat) : Option (Bool × Bool) :=
  let o := s.out n
  let inv := s.on F.OUT_CONFIG_INVERT n
  if o.squelched && o.lowFrom ≤ s.now && s.fld F.OUT_CONFIG_FORMAT n ≠ 0 then some (inv, !inv) else none

/-- The squelch takes effect where a condition holds; where none holds any more, the output waits for the edge that it resumes
with. STATE is shown. -/
def State.showOut (s : State) (n : Nat) : State :=
  let q := s.outBlocked n
  let s0 := if q || (s.out n).quietTo.isSome then s.quench n else s
  let o := s0.out n
  let wait := o.squelched && !q && (o.blocked || o.quietTo.isNone)
  let edge := s.resumeEdge n (o.num, o.den) (max s.dts (o.quietTo.getD 0))
  let s1 := s0.setOut n { o with blocked := q, quietTo := if wait then some edge else o.quietTo }
  let s2 := (s1.showClamp n).setFld F.OUT_STATUS_STATE (s1.outState n) n
  let s3 := s2.setOn F.OUT_STATUS_HELD_CHANGE o.held.isSome n
  if o.squelched then s3.setOn F.OUT_STATUS_ALIGNED false n else s3

/-! ### Glide (R236 to R240) -/

/-- The instant, as State.now counts, at which DTS read x. -/
def State.nowOf (s : State) (x : Tick) : Tick := s.now - (s.dts - x)

/-- R236: a change of frequency starts, by a glide or by squelch-on-change (R239), at instant x of DTS. -/
def State.startChange (s : State) (n : Nat) (goal : Nat × Nat) (x : Tick) : State :=
  let s1 :=
    if s.on F.OUT_CONFIG_SQUELCH_ON_CHANGE n then
      let s0 := s.quench n
      s0.setOut n
        { s0.out n with
          num := goal.1, den := goal.2, goal, stage := 0, held := none, lag := 0, clamp := none
          quietTo := some (s.resumeEdge n goal (x + 100 * us)) }
    else
      let o := s.out n
      let t := s.nowOf x
      s.setOut n { o with goal, stage := 1, held := none, began := t, stageEnd := t + s.rampTicks n (o.num, o.den) goal }
  (s1.setOn F.OUT_STATUS_ALIGNED false n).showOut n

/-- R238: a committed change, held while a glide runs. -/
def State.changeFreq (s : State) (n : Nat) (goal : Nat × Nat) (x : Tick) : State :=
  if (s.out n).stage ≠ 0 then (s.setOut n { s.out n with held := some goal }).showOut n else s.startChange n goal x

/-- R237: the alignment stage starts with phase d. -/
def State.startAlign (s : State) (n : Nat) (d : Int) : State :=
  let o := (s.out n).gather s.now
  let s1 := s.setOut n { o with stage := 2, delta := d, lag := 0, clamp := none, began := s.now, stageEnd := s.now + s.alignTicks n d }
  (s1.setOn F.OUT_STATUS_ALIGNED false n).showOut n

/-- The glide ends; a held change starts its own. -/
def State.endGlide (s : State) (n : Nat) : State :=
  let o := s.out n
  let al := s.on F.OUT_CONFIG_ALIGN n && !o.squelched
  let s1 := s.setOut n { o with stage := 0, delta := 0, held := none }
  let s2 := (s1.setOn F.OUT_STATUS_ALIGNED al n).raise F.OUT_STICKY_GLIDE_DONE n
  match o.held with
  | some g => s2.startChange n g s.dts
  | none => s2.showOut n

/-- RAMP_END (R236, R237): the ramp has reached f_new; `delta` is what the device measures, in ticks. -/
def State.rampEnd (s : State) (n : Nat) (delta : Int) : State :=
  let o := s.out n
  if o.stage = 1 && o.stageEnd ≤ s.now then
    let s1 := s.setOut n { o with num := o.goal.1, den := o.goal.2 }
    if s.on F.OUT_CONFIG_ALIGN n then s1.startAlign n (wrapPeriod o.goal.1 o.goal.2 delta) else s1.endGlide n
  else s
def execRampEnd (t : Tick) (out : Nat) (delta : Int) (s : State) : Host.Outcome State Fault Refusal :=
  onUnit (outUnit out) "output" ((s.advance t).rampEnd out delta)

/-- GLIDE_DONE (R237, R238). What the clamp kept an alignment from removing, a further one removes (R240). -/
def State.glideDone (s : State) (n : Nat) : State :=
  let o := s.out n
  let left := s.alignLost n o.delta (s.headroom n - s.pullRate)
  if o.stage = 2 && o.stageEnd ≤ s.now then (if left = 0 then s.endGlide n else s.startAlign n left) else s
def execGlideDone (t : Tick) (out : Nat) (s : State) : Host.Outcome State Fault Refusal :=
  onUnit (outUnit out) "output" ((s.advance t).glideDone out)

/-- R240: once a clamp outside a glide is no longer needed, an alignment stage removes the lag. -/
def State.unclamp (s : State) (n : Nat) : State :=
  let s1 := s.showOut n
  let o := s1.out n
  if o.clamp.isNone && o.stage = 0 && 0 < o.lag then
    (if s.on F.OUT_CONFIG_ALIGN n && !o.squelched then s1.startAlign n (wrapPeriod o.num o.den o.lag)
     else s1.setOut n { o with lag := 0 })
  else s1

/-- Every output follows a change of the class sent, and of the pull. -/
def State.showOuts (s : State) : State := (List.range 8).foldl (fun s n => s.unclamp n) s

/-- OUTPUT_RESUME (R235, R239): nothing squelches the output any more, and the rising edge that it resumes with has come, on the
grid where ALIGN = 1. -/
def State.outputResume (s : State) (n : Nat) : State :=
  let o := s.out n
  if o.squelched && !s.outBlocked n && o.quietTo.any (· ≤ s.dts) then
    let s1 := s.setOut n { o with squelched := false, quietTo := none, blocked := false, lag := 0 }
    (s1.setOn F.OUT_STATUS_ALIGNED (s.on F.OUT_CONFIG_ALIGN n && o.stage == 0) n).showOut n
  else s
def execOutputResume (t : Tick) (out : Nat) (s : State) : Host.Outcome State Fault Refusal :=
  onUnit (outUnit out) "output" ((s.advance t).outputResume out)

/-- R242: DTS stepped by d ticks; the grid of every aligned output moves. A ramp goes on; an alignment goes on from what it has
left. -/
def State.stepOut (s : State) (d : Int) (n : Nat) : State :=
  let o := s.out n
  if !s.on F.OUT_CONFIG_ALIGN n || o.stage = 1 then s
  else if o.stage = 2 then
    s.startAlign n (wrapPeriod o.num o.den (s.alignLeft n o.delta (o.stageEnd - o.began) (s.now - o.began) + d))
  else if s.on F.OUT_CONFIG_SQUELCH_ON_CHANGE n then s.startChange n (o.num, o.den) s.dts
  else s.startAlign n (wrapPeriod o.num o.den (o.lag + d))
def State.stepOuts (s : State) (d : Int) : State := (List.range 8).foldl (fun s n => s.stepOut d n) s

/-! ### Pulses (R243) -/

def State.pulse (s : State) (p : Nat) : Pulse := Map.get {} p s.pps
def State.setPulse (s : State) (p : Nat) (x : Pulse) : State := { s with pps := Map.set {} p x s.pps }

/-- PPS_OFFSET in ticks, at the resolution of 2^-8 ns to which edges are placed; to the nearest (log 44). -/
def State.ppsOffset (s : State) (p : Nat) : Int := roundDiv (s.sfld F.PPS_OFFSET_OFFSET p) 1024 * 262144

/-- The latest DTS instant, up to now, at which a pulse's active edge falls. -/
def State.ppsEdge (s : State) (p : Nat) : Int :=
  ((s.dts : Int) - s.ppsOffset p) / (sec : Nat) * (sec : Nat) + s.ppsOffset p

/-- The level of PPSOUTp: active for PPS_WIDTH from the edge; POLARITY = 0 makes that high. None where the output is not driven. -/
def State.ppsLevel (s : State) (p : Nat) : Option Bool :=
  let x := s.pulse p
  let active := x.at_ ≠ 0 && s.now + 1 < x.at_ + x.width
  if s.on F.PPS_CONFIG_ENABLE p then some (active != s.on F.PPS_CONFIG_POLARITY p) else none

/-- PPS_PULSE (R243): the edge is made, squelched whole, or omitted where the one before is less than 500 ms away. An edge from
before the settings in force is none. -/
def State.ppsPulse (s : State) (p : Nat) : State :=
  let at_ : Nat := ((s.now : Int) - ((s.dts : Int) - s.ppsEdge p)).toNat
  let x := s.pulse p
  if !s.tempo || !s.on F.PPS_CONFIG_ENABLE p || x.at_ = at_ + 1 || s.ppsEdge p < x.since then s
  else if classSquelch s.classSent (s.fld F.PPS_CONFIG_SQUELCH_CLASS p) || s.dark then s.raise F.PPS_STICKY_SQUELCHED p
  else if x.at_ ≠ 0 && at_ + 1 < x.at_ + 500 * ms then s.raise F.PPS_STICKY_PPS_SKIP p
  else s.setPulse p { x with at_ := at_ + 1, width := s.fld F.PPS_WIDTH_NS p * ns }
def execPpsPulse (t : Tick) (p : Nat) (s : State) : Host.Outcome State Fault Refusal :=
  onUnit (ppsUnit p) "pulse output" ((s.advance t).ppsPulse p)

end Sys2Proof.Machine
end

