-- ==== Sys2Proof/Machine/Timing.lean ====
section
/-! DEFINITION. The timing engine: candidates, qualification, selection, the loop, history and freewheel
(11_timing_engine). -/

namespace Sys2Proof.Machine

/-! ### Quality levels (R215) -/

def qlOfClass (c : Nat) : Nat :=
  if c = 0x10 then 1 else if c = 0x20 then 2 else if c = 0x30 then 3 else if c = 0x38 then 4
  else if c = 0x40 then 5 else if c = 0x50 then 6 else 15
def qlOfS1 (sonet : Bool) (v : Nat) : Nat :=
  if sonet then
    (if v = 1 then 1 else if v = 0 then 2 else if v = 7 || v = 4 then 3 else if v = 13 then 4
     else if v = 10 then 5 else if v = 12 then 6 else 15)
  else if v = 2 then 1 else if v = 4 then 3 else if v = 8 then 4 else if v = 11 then 5 else 15
def classOfQl (q : Nat) : Nat :=
  match q with
  | 1 => 0x10
  | 2 => 0x20
  | 3 => 0x30
  | 4 => 0x38
  | 5 => 0x40
  | 6 => 0x50
  | _ => 0xFF
def s1OfQl (sonet : Bool) (q : Nat) : Nat :=
  match q with
  | 1 => if sonet then 1 else 2
  | 2 => if sonet then 1 else 2
  | 3 => if sonet then 7 else 4
  | 4 => if sonet then 13 else 8
  | 5 => if sonet then 10 else 11
  | 6 => if sonet then 12 else 11
  | _ => 15

/-! ### Candidates (R211) -/

/-- Candidate 16 + l is lane l's; 112 and 113 are the ring ports T2 and T3. -/
def candLane (c : Nat) : Option Nat := if 16 ≤ c && c < 112 then some (c - 16) else none
def candPort (c : Nat) : Option Nat := if c = 112 then some 2 else if c = 113 then some 3 else none

def State.ringPort (s : State) (p : Nat) : RingPort := if p = 2 then s.gallery.east else s.gallery.west
def State.setRingPort (s : State) (p : Nat) (r : RingPort) : State :=
  { s with gallery := if p = 2 then { s.gallery with east := r } else { s.gallery with west := r } }

/-- A ring port is in service (R274). -/
def State.portService (s : State) (p : Nat) : Bool :=
  if p = 2 then s.on F.GALLERY_STATUS_T2_SERVICE else s.on F.GALLERY_STATUS_T3_SERVICE

/-- RING_ASYM of a port, in ticks. -/
def State.portAsym (s : State) (p : Nat) : Int :=
  asymTicks (signed 48 ((if p = 2 then s.fld F.RING_ASYM_T2_ASYM else s.fld F.RING_ASYM_T3_ASYM) % 2 ^ 48))

/-- OFFSET_AVG of a port's hop (R274, R195), in ticks. -/
def State.portOffset (s : State) (p : Nat) : Int :=
  let g := (s.ringPort p).ledger
  g.appY - half (g.rttY + s.portAsym p)

/-- R279: TIME_ERROR as computed through a port, in ticks; none where the port does not qualify. -/
def State.portError (s : State) (p : Nat) : Option Int :=
  if s.portService p then ((s.ringPort p).head.bind (·.timeError)).map fun x => s.portOffset p + x * 256 else none

/-- R215: the effective quality level. -/
def State.candQl (s : State) (c : Nat) : Nat :=
  let assigned := s.fld F.CAND_CONFIG_QL_ASSIGN c
  match candLane c with
  | some l =>
    if s.isClient l || s.on F.CAND_CONFIG_QL_SOURCE c then assigned
    else if s.isTtf l then qlOfClass (s.fld F.TTF_RX_INFO_CLOCK_CLASS l)
    else if s.isSdh l then qlOfS1 (s.on F.SDH_CONFIG_FLAVOR l) (s.fld F.SDH_RX_OH_S1_ACCEPTED l)
    else 15
  | none =>
    match candPort c with
    | some p =>
      if s.on F.CAND_CONFIG_QL_SOURCE c then assigned
      else qlOfClass (s.ringPort p).cls
    | none => assigned

/-- R280: a muted member's timing engine leaves candidates 112 and 113 out, until RING_RELEARN. -/
def State.ringLeftOut (s : State) : Bool := s.on F.GALLERY_STATUS_MUTED && !s.gallery.relearned

/-- R213 condition 3: the source is present. -/
def State.candSource (s : State) (c : Nat) : Bool :=
  match candLane c with
  | some l =>
    s.role l != 0 && s.on F.BAY_STATUS_POWERED (l / 8) && s.laneUp l && s.fld F.LOOPBACK_MODE l != 1 && !s.laneDisq l
  | none =>
    match candPort c with
    | some p => (s.portError p).isSome && s.galleryOn && !s.ringLeftOut
    | none => (s.cand c).active

/-- R213 condition 4. -/
def State.candAccepted (s : State) (c : Nat) : Bool := (s.cand c).accepted

/-- R213 condition 5. -/
def State.candQlOk (s : State) (c : Nat) : Bool :=
  let q := s.candQl c
  q != 15 && q ≤ s.fld F.SELECT_CONFIG_QL_MIN

/-- R213 conditions 1 to 6. -/
def State.candFit (s : State) (c : Nat) : Bool :=
  s.on F.CAND_CONFIG_ENABLE c && (!s.rootOn || c ≤ 15) && s.candSource c && s.candAccepted c && s.candQlOk c &&
  (match candLane c with
   | some l => !s.on F.CAND_CONFIG_PHASE_MODE c || s.isClient l || (s.traceable l && !s.on F.LEDGER_STATUS_LTD l)
   | none => true)

/-- CAND_STATUS.TIME_CAPABLE: e is formed from phase. -/
def State.candTimed (s : State) (c : Nat) : Bool :=
  match candLane c with
  | some l => s.on F.CAND_CONFIG_PHASE_MODE c && !s.isClient l && s.ledgerOn l
  | none => (candPort c).isSome || s.on F.CAND_CONFIG_PHASE_MODE c

/-! ### Qualification (R213, R214) -/

def State.candQualified (s : State) (c : Nat) : Bool := s.on F.CAND_STATUS_QUALIFIED c

/-- The candidate gains or loses qualification. -/
def State.setQualified (s : State) (c : Nat) (q : Bool) : State :=
  if s.candQualified c = q then s
  else
    let s1 := if q then s.raise F.CAND_STICKY_QUALIFIED c else s.raise F.CAND_STICKY_DISQUALIFIED c
    let s2 := (s1.setOn F.CAND_STATUS_QUALIFIED q c).raise F.TE_STICKY_CAND_CHG
    if q then s2.setCand c { s2.cand c with wasQualified := true, wtrFrom := none } else s2

/-- The candidate's conditions now, its level and its wait-to-restore, which starts at the instant `from_` where they hold again. -/
def State.candWatchAt (s : State) (c : Nat) (from_ : Tick) : State :=
  let q := s.candQl c
  let fit := s.candFit c
  let s1 := (s.raiseIf (s.fld F.CAND_STATUS_QL c != q) F.CAND_STICKY_QL_CHG c).setFld F.CAND_STATUS_QL q c
  let s2 := ((s1.setOn F.CAND_STATUS_TIME_CAPABLE (s.candTimed c) c).setOn F.CAND_STATUS_QL_OK (s.candQlOk c) c).setOn
    F.CAND_STATUS_FREQ_OK (s.candAccepted c) c
  let s3 := s2.setOn F.CAND_STATUS_SOURCE_OK (s.candSource c) c
  let x := s3.cand c
  if !fit then
    ((s3.setQualified c false).setOn F.CAND_STATUS_WTR_RUNNING false c).setCand c { x with wtrFrom := none }
  else if s3.candQualified c then s3
  else if !x.wasQualified || s3.fld F.WTR_SECONDS = 0 then
    (s3.setQualified c true).setOn F.CAND_STATUS_WTR_RUNNING false c
  else if x.wtrFrom.isSome then s3
  else (s3.setCand c { x with wtrFrom := some from_ }).setOn F.CAND_STATUS_WTR_RUNNING true c
def State.candWatch (s : State) (c : Nat) : State := s.candWatchAt c s.now

/-- CAND_WTR_EXPIRY (R214). -/
def State.candWtr (s : State) (c : Nat) : State :=
  let s1 := s.candWatch c
  if s1.sinceOpt (s1.cand c).wtrFrom (s1.fld F.WTR_SECONDS * sec) && s1.candFit c then
    (s1.setQualified c true).setOn F.CAND_STATUS_WTR_RUNNING false c
  else s1

/-! ### Monitors (R212) -/

/-- k nominal periods of a candidate; a lane's or a port's clock has none that matters beside 1 s. -/
def State.periods (s : State) (c k : Nat) : Tick := if c ≤ 15 then k * sec / max 1 (s.fld F.CAND_NOMINAL_HZ c) else 0

/-- R212, R221: an edge of input i is captured on DTS. Edges that come one after another within REJECT of the nominal period go on
with their run (log 38). -/
def State.sawEdge (s : State) (i : Nat) (e : Tick) : State :=
  let x := s.cand i
  let hz := max 1 (s.fld F.CAND_NOMINAL_HZ i)
  let good := match x.edge with
    | some old =>
      let d := e - old
      let k := (d * hz + sec / 2) / sec
      let off := ((d * hz : Nat) - (k * sec : Nat) : Int).natAbs
      old ≤ e && 1 ≤ k && d ≤ s.periods i 2 + frame &&
        off * 1000000000 ≤ s.fld F.MONITOR_LIMITS_REJECT * (k * sec) + hz * 1000000000
    | none => false
  if x.edge = some e then s
  else s.setCand i { x with edge := some e, edgeRun := if good then x.edgeRun else some e }

/-- R212: the last edge of input i is two nominal periods old, or there is none. -/
def State.edgesGone (s : State) (i : Nat) : Bool := (s.cand i).edge.all (· + s.periods i 2 ≤ s.dts)

/-- R212: edges have arrived for max(1 s, 3 periods) within REJECT, and still arrive. -/
def State.edgesBack (s : State) (i : Nat) : Bool :=
  match (s.cand i).edgeRun, (s.cand i).edge with
  | some t, some e => t + max sec (s.periods i 3) ≤ e + s.periods i 1 && s.dts < e + s.periods i 2 + frame
  | _, _ => false

/-- ACT_LOST (R212). -/
def State.actLost (s : State) (i : Nat) : State :=
  if (s.cand i).active && s.edgesGone i then
    ((s.setCand i { s.cand i with active := false, edgeRun := none }).raise F.CAND_STICKY_ACT_LOST i).candWatch i
  else s

/-- ACT_RETURN (R212). -/
def State.actReturn (s : State) (i : Nat) : State :=
  if (s.cand i).active || !s.edgesBack i then s
  else ((s.setCand i { s.cand i with active := true }).raise F.CAND_STICKY_ACT_RETURN i).candWatch i

/-- The frequency monitor of candidate c takes the offset of one gate. -/
def State.freqMonitor (s : State) (c : Nat) (offset : Int) : State :=
  let s1 := s.setFld F.CAND_FREQ_OFFSET_OFFSET (unsigned 32 offset) c
  let x := s1.cand c
  let a := offset.natAbs
  if x.accepted then
    if s.fld F.MONITOR_LIMITS_REJECT < a then
      ((s1.setCand c { x with accepted := false }).raise F.CAND_STICKY_FREQ_REJECT c).candWatch c
    else s1.candWatch c
  else if a ≤ s.fld F.MONITOR_LIMITS_ACCEPT then
    ((s1.setCand c { x with accepted := true }).raise F.CAND_STICKY_FREQ_ACCEPT c).candWatch c
  else s1.candWatch c

/-- R212: the candidate's source is powered, and its gate of max(1 s, 16 periods) has passed since the one before. -/
def State.gateEnds (s : State) (c : Nat) : Bool :=
  (match candLane c with
   | some l => s.role l != 0 && s.on F.BAY_STATUS_POWERED (l / 8)
   | none => true) && (s.cand c).gateAt.all fun t => s.since t (max sec (s.periods c 16))

/-- The offset that one gate measured, in 0.001 ppm. Of a lane it is RX_FREQ_OFFSET, which a lane without lock does not
measure; beyond ±200 ppm FREQ_OK clears and the receiver holds no lock (R39). -/
def State.gateOf (s : State) (c : Nat) (offset : Int) : State :=
  match candLane c with
  | some l =>
    if s.on F.LANE_STATUS_CDR_LOCK l then
      let s1 := (s.setFld F.RX_FREQ_OFFSET_OFFSET (unsigned 32 offset) l).laneBit l F.LANE_STATUS_FREQ_OK
        F.LANE_STICKY_FREQ_LOST (freqOk offset)
      (if freqOk offset then s1 else s1.cdrLost l).freqMonitor c offset
    else s
  | none => s.freqMonitor c offset

/-- FREQ_GATE_END (R212). -/
def State.freqGate (s : State) (c : Nat) (offset : Int) : State :=
  if s.gateEnds c then (s.setCand c { s.cand c with gateAt := some s.now }).gateOf c offset else s

/-! ### Phase errors (R221) -/

/-- A phase taken into (−P/2, P/2], P = 1 / hz, in ticks. -/
def wrapHz (hz : Nat) (d : Int) : Int := wrapPeriod (max 1 hz) 1 d

/-- Of an external input, modulo its period. -/
def State.edgeError (s : State) (c : Nat) : Option Int :=
  (s.cand c).edge.map fun x => wrapHz (s.fld F.CAND_NOMINAL_HZ c) ((x : Int) - s.sfld F.CAND_PHASE_COMP_COMP c * 256)

/-- The companion, where it resolves whole periods: active and ACCEPTED. -/
def State.companion (s : State) (c : Nat) : Option Nat :=
  let k := s.fld F.CAND_CONFIG_COMPANION c
  if k ≤ 15 && (s.cand k).active && (s.cand k).accepted then some k else none

/-- e of a candidate, in ticks; none where there is nothing to measure. -/
def State.candError (s : State) (c : Nat) : Option Int :=
  match candLane c with
  | some l =>
    if s.candTimed c then some (s.sfld F.OFFSET_AVG_OFFSET l * 256) else some (s.cand c).buildOut
  | none =>
    match candPort c with
    | some p => s.portError p
    | none =>
      match s.edgeError c with
      | none => none
      | some e =>
        if s.on F.CAND_CONFIG_PHASE_MODE c then
          match (s.companion c).bind s.edgeError with
          | some x =>
            let hz := max 1 (s.fld F.CAND_NOMINAL_HZ c)
            some (x + wrapHz hz (e - x))
          | none => some e
        else some (wrapHz (s.fld F.CAND_NOMINAL_HZ c) (e - (s.cand c).buildOut))

/-- CAND_PHASE_ERR, as published. -/
def State.showError (s : State) (c : Nat) : State :=
  match s.candError c with
  | some e => s.setFld F.CAND_PHASE_ERR_E (publish e) c
  | none => s

/-! ### Selection (R216 to R219) -/

/-- Candidate a ranks strictly better than b under the scheme in force. -/
def State.ranks (s : State) (a b : Nat) : Bool :=
  let pa := s.fld F.CAND_CONFIG_PRIORITY a
  let pb := s.fld F.CAND_CONFIG_PRIORITY b
  if s.on F.SELECT_CONFIG_SCHEME then pa < pb
  else s.candQl a < s.candQl b || (s.candQl a == s.candQl b && pa < pb)

/-- The best qualified candidate; the lowest number of equal ranks. -/
def State.bestCand (s : State) : Option Nat :=
  (List.range 114).foldl (fun acc c =>
    if s.candQualified c then
      match acc with
      | none => some c
      | some b => if s.ranks c b then some c else some b
    else acc) none

/-- SELECTED, none for 127. -/
def State.selected (s : State) : Option Nat :=
  let x := s.fld F.LOOP_STATUS_SELECTED
  if x < 114 then some x else none

/-- The key under which a pair shares CLOCK_CLASS × 256 + STEPS (R223; log 6). -/
abbrev shareClock : Nat := 3 * 2 ^ 20

/-- R262: what a tandem standby selects: its active while the records are good, else nothing; none on another device. -/
def State.follows (s : State) : Option Nat :=
  if s.tandemOn && s.fld F.TANDEM_STATUS_ROLE == 2 then some (if s.on F.TANDEM_STATUS_PEER_PRESENT then 126 else 127) else none

/-- The candidate that the rules choose at this boundary. -/
def State.choose (s : State) : Option Nat :=
  let f := s.fld F.SELECT_CONFIG_FORCE
  let cur := s.selected.bind fun c => if s.candQualified c then some c else none
  if s.heldHalted 9 0 then none
  else if f ≠ 0xFF then (if f < 114 && s.candQualified f then some f else none)
  else
    match cur, s.bestCand with
    | some c, some b =>
      if s.on F.SELECT_CONFIG_SCHEME && !s.on F.SELECT_CONFIG_REVERTIVE then some c
      else if s.ranks b c then some b else some c
    | none, b => b
    | some c, none => some c

/-- SELECTED as a number. -/
def selCode (o : Option Nat) : Nat := o.getD 127

/-- e of the selection; the standby's is the tandem link's offset (R262). -/
def State.tandemOffset (s : State) : Int :=
  let g := s.tandem.ledger
  g.appY - half (g.rttY + asymTicks (s.sfld F.TANDEM_ASYM_ASYM))
def State.selError (s : State) : Int :=
  match s.selected with
  | some c => (s.candError c).getD 0
  | none => if s.fld F.LOOP_STATUS_SELECTED = 126 then s.tandemOffset else 0

/-- R221, R241: the pull of the selection's e toward 0 starts, at PULL_SLOPE. DTS runs fast by it where it is behind. -/
def State.runPull (s : State) : State :=
  let e := s.selError
  let slope := max 1 (s.fld F.PULL_SLOPE_SLOPE)
  { s with timing := { s.timing with pullEnd := s.now + e.natAbs * 100000000000000 / slope, pullFast := decide (e < 0) } }.setOn
    F.LOOP_STATUS_PULL_ACTIVE (e != 0)

/-- R221: a candidate that is newly selected builds out its phase where it is not time capable. -/
def State.buildOut (s : State) (c : Nat) : State :=
  if 114 ≤ c || s.candTimed c then s
  else s.setCand c { s.cand c with buildOut := if 16 ≤ c then 0 else (s.edgeError c).getD 0 }

/-- The pull ends with the selection. -/
def State.stopPull (s : State) : State := s.setOn F.LOOP_STATUS_PULL_ACTIVE false

/-- The selection is written, by its number: what is selected is pulled to, a candidate or the tandem link (R262). -/
def State.setSelected (s : State) (x : Nat) : State :=
  let old := s.fld F.LOOP_STATUS_SELECTED
  if old = x then s
  else
    let s1 := if old < 114 then s.setOn F.CAND_STATUS_SELECTED false old else s
    let s2 := if x < 114 then s1.setOn F.CAND_STATUS_SELECTED true x else s1
    let s3 := (s2.setFld F.LOOP_STATUS_SELECTED x).raise F.TE_STICKY_REF_SWITCH
    let s4 := { s3 with timing := { s3.timing with secSpoilt := true, lockSince := none, lockDue := false } }
    if x = 127 then s4.stopPull else (s4.buildOut x).runPull

/-! ### The loop (R220, R222, R230) -/

abbrev lFree : Nat := 0
abbrev lAcquire : Nat := 1
abbrev lLocked : Nat := 2
abbrev lFreewheel : Nat := 3
abbrev lSoft : Nat := 4
def State.loopState (s : State) : Nat := s.fld F.LOOP_STATUS_STATE

/-- R224: a state other than LOCKED, or SOFTLOOP with HISTORY, spoils the second. -/
def State.secGood (s : State) : Bool :=
  (s.loopState == lLocked || (s.loopState == lSoft && s.on F.SOFTLOOP_CONFIG_HISTORY)) &&
    !s.on F.LOOP_STATUS_PULL_ACTIVE

/-- The loop enters a state. -/
def State.setLoop (s : State) (st : Nat) : State :=
  let old := s.loopState
  if old = st then s
  else
    let warm := old = lLocked || (old = lFreewheel &&
      !s.sinceOpt s.timing.freewheelFrom (s.fld F.HOLDOVER_TIME_SECONDS * sec))
    let s1 := ((s.setFld F.LOOP_STATUS_STATE st).setFld F.STATE_FN_FN s.fn).raise F.TE_STICKY_STATE_CHG
    let s2 := s1.raiseIf (st == lFreewheel) F.TE_STICKY_FREEWHEEL
    { s2 with
      timing :=
        { s2.timing with
          acquireWarm := if st = lAcquire then warm else s2.timing.acquireWarm
          freewheelFrom := if st = lFreewheel then some s2.now else none
          lockSince := none, lockDue := false, fwHeld := false, secSpoilt := true } }

/-- Where the loop goes with nothing selected. -/
def State.loose (s : State) : Nat := if s.on F.LOOP_STATUS_FW_VALID then lFreewheel else lFree

/-- LOCK_PHASE in ticks. -/
def State.lockPhase (s : State) : Nat := s.fld F.LOCK_CRIT_LOCK_PHASE * ns

/-- The frequency error of the selection, in 0.001 ppm. -/
def State.selFreq (s : State) : Int :=
  match s.selected with
  | some c => s.sfld F.CAND_FREQ_OFFSET_OFFSET c
  | none => 0

/-- R220: both lock criteria hold. -/
def State.lockHolds (s : State) : Bool := s.selError.natAbs ≤ s.lockPhase && s.selFreq.natAbs ≤ 10

/-- R220: the transition at a boundary; `switched` is whether the selection changed at it. -/
def State.loopMove (s : State) (switched : Bool) : State :=
  let some_ := s.fld F.LOOP_STATUS_SELECTED ≠ 127
  if s.on F.SOFTLOOP_CONFIG_ENABLE then s.setLoop lSoft
  else if some_ then
    if s.loopState = lLocked then (if switched && s.lockPhase < s.selError.natAbs then s.setLoop lAcquire else s)
    else if s.loopState = lAcquire && s.timing.lockDue && s.lockHolds then s.setLoop lLocked
    else s.setLoop lAcquire
  else if s.loopState = lFree then s
  else if s.loopState = lFreewheel then s
  else s.setLoop s.loose

/-- Since when the lock criteria hold. -/
def State.watchLock (s : State) : State :=
  let t := s.timing
  if s.loopState = lAcquire && s.lockHolds then
    (if t.lockSince.isSome then s else { s with timing := { t with lockSince := some s.now } })
  else { s with timing := { t with lockSince := none, lockDue := false } }

/-- R222: CLOCK_CLASS and STEPS sent. A standby that follows its active sends what the active's record says (R223). -/
def State.showClass (s : State) : State :=
  let st := s.loopState
  let cls := fun (c steps : Nat) => (s.setFld F.LOOP_STATUS_CLASS c).setFld F.LOOP_STATUS_STEPS steps
  let ql := fun (c : Nat) => if s.candQl c ≤ 2 then 0x20 else classOfQl (s.candQl c)
  let kept := s.fld F.LOOP_STATUS_STEPS
  if s.fld F.LOOP_STATUS_SELECTED = 126 then
    (if Map.has shareClock s.tandem.heard.shares then
      let x := Map.get 0 shareClock s.tandem.heard.shares
      cls (x / 256) (x % 256)
     else s)
  else if st = lLocked then
    match s.selected with
    | some c =>
      if c ≤ 15 then (if s.rootOn then cls 0x10 0 else cls (ql c) 1)
      else
        match candLane c, candPort c with
        | some l, _ => cls (ql c) (min 255 (s.fld F.TTF_RX_INFO_STEPS l + 1))
        | none, some p => cls (ql c) (min 255 ((s.ringPort p).steps + 1))
        | none, none => s
    | none => s
  else if st = lAcquire then (if s.timing.acquireWarm then cls 0x30 kept else cls 0x50 255)
  else if st = lFreewheel then
    cls (if s.sinceOpt s.timing.freewheelFrom (s.fld F.HOLDOVER_TIME_SECONDS * sec) then 0x40 else 0x30) kept
  else if st = lSoft then cls 0x38 kept
  else cls 0x50 255

/-- R223: the class sent on a lane or a ring port; 0xFF toward the selected candidate. -/
def State.classFor (s : State) (c : Nat) : Nat := if s.selected = some c then 0xFF else s.classSent

/-- R215, R222, R223: S1 sent on an SDH lane. -/
def State.s1For (s : State) (l : Nat) : Nat :=
  if s.selected = some (l + 16) then 15
  else if s.on F.SDH_CONFIG_S1_OVERRIDE l then s.fld F.SDH_TX_OH_S1_TX l
  else s1OfQl (s.on F.SDH_CONFIG_FLAVOR l) (qlOfClass (s.classFor (l + 16)))

/-- R230: ±250 ppm in 2^-48. -/
abbrev cwLimit : Int := 70368744177

/-- R224: the control word as it stands is gathered up to instant x of DTS. -/
def State.gatherTo (s : State) (x : Tick) : State :=
  let t := s.timing
  let span := x - t.cwAt
  { s with timing := { t with cwSum := t.cwSum + s.sfld F.CW_NOW_CW * (span : Nat), cwSpan := t.cwSpan + span, cwAt := max t.cwAt x } }

/-- R220, R230: the control word of the state, clamped. -/
def State.putCw (s : State) : State :=
  let st := s.loopState
  let loop := st = lAcquire || st = lLocked
  let raw : Int :=
    if loop then signed 64 (Config.loopWord s.free).toNat
    else if st = lFreewheel then s.sfld F.FW_VALUE_CW
    else if st = lSoft then s.sfld F.SOFT_CW_CW
    else s.sfld F.FREE_WORD_CW
  let cw := max (-cwLimit) (min cwLimit raw)
  let s1 := (s.raiseIf (cw != raw) F.TE_STICKY_CW_LIMIT).setFld F.CW_NOW_CW (unsigned 64 cw)
  if loop then s1.drawn else s1

/-- R224: the control word is renewed, and what it was is gathered. -/
def State.showCw (s : State) : State := (s.gatherTo s.dts).putCw

/-- R224: what spoils the running second. -/
def State.gatherSecond (s : State) : State :=
  { s with timing := { s.timing with secSpoilt := s.timing.secSpoilt || !s.secGood } }

/-- What follows a change of selection or state: lock watch, class, outputs, control word. -/
def State.settle (s : State) : State := ((s.watchLock.showClass).showOuts).showCw

/-- R219: selection and the loop at a frame boundary. -/
def State.timingBoundary (s : State) : State :=
  let s1 := (List.range 114).foldl (fun s c => s.candWatch c) s
  let want := s1.follows.getD (selCode s1.choose)
  let s2 := s1.setSelected want
  let drift := fun (s : State) =>
    match s.selected with
    | some c =>
      if 16 ≤ c && !s.candTimed c then
        s.setCand c { s.cand c with buildOut := (s.cand c).buildOut - roundDiv (s.selFreq * (frame : Nat)) 1000000000 }
      else s
    | none => s
  let s3 := drift s2
  let s4 := (List.range 114).foldl (fun s c => s.showError c) s3
  let s5 := s4.setFld F.PHASE_ERR_E (publish s4.selError)
  ((s5.loopMove (want != s.fld F.LOOP_STATUS_SELECTED)).settle).gatherSecond

/-- LOCK_TIME_REACHED (R220): the criteria have held for LOCK_TIME. The boundary takes the transition: this one, or the next. -/
def State.lockReached (s : State) : State :=
  if s.loopState = lAcquire && s.lockHolds && s.sinceOpt s.timing.lockSince (s.fld F.LOCK_CRIT_LOCK_TIME * sec) then
    (if s.dts % frame = 0 then (s.setLoop lLocked).settle else { s with timing := { s.timing with lockDue := true } })
  else s

/-- PULL_COMPLETE (R221, R241). -/
def State.pullComplete (s : State) : State :=
  if s.on F.LOOP_STATUS_PULL_ACTIVE && s.timing.pullEnd ≤ s.now then s.stopPull.showOuts else s

/-- HOLDOVER_EXPIRY (R222). -/
def State.holdoverExpiry (s : State) : State :=
  if s.loopState = lFreewheel then (s.showClass).showOuts else s

/-- WATCHDOG (R226): no SOFT_CW for WATCHDOG ms; the state is left at the next boundary, with the FW_VALUE of this second. -/
def State.watchdogExpiry (s : State) : State :=
  if s.loopState = lSoft && s.since s.timing.softCwAt (s.fld F.SOFTLOOP_CONFIG_WATCHDOG * ms) then
    ({ s with timing := { s.timing with fwHeld := true } }.setOn F.SOFTLOOP_CONFIG_ENABLE false).raise F.TE_STICKY_WATCHDOG
  else s

/-- R226: SOFT_CW takes effect on write. -/
def State.writeSoftCw (s : State) (cw : Nat) : State :=
  let s1 := { s.setFld F.SOFT_CW_CW cw with timing := { s.timing with softCwAt := s.now } }
  if s1.loopState = lSoft then s1.showCw else s1

/-! ### History (R224, R225) -/

/-- The mean of values, halves away from zero. -/
def meanOf (xs : List Int) : Int := roundDiv xs.sum xs.length

/-- The sample of the control word gathered. -/
def State.writeSample (s : State) : State :=
  let t := s.timing
  let mean := if t.cwSpan = 0 then s.sfld F.CW_NOW_CW else roundDiv t.cwSum t.cwSpan
  let ok := !t.secSpoilt && s.secGood
  let s0 := if ok && !t.baseSet then s.setFld F.HISTORY_BASE_CW (unsigned 64 mean) else s
  let v := mean - s0.sfld F.HISTORY_BASE_CW
  let fits := -1073741824 ≤ v && v < 1073741824
  let s1 := s0.raiseIf (!fits) F.TE_STICKY_HISTORY_CLIP
  let hist := (⟨ok && fits, v⟩ :: t.history).take 86400
  let s2 := (s1.setFld F.HISTORY_INFO_COUNT hist.length).setFld F.HISTORY_NEWEST_SECOND (s.dts / sec - 1)
  { s2 with
    timing :=
      { s2.timing with
        history := hist, cwSum := 0, cwSpan := 0, secSpoilt := !s.secGood, baseSet := t.baseSet || ok } }

/-- The sample of the second just ended. -/
def State.historySample (s : State) : State := (s.gatherTo (s.dts / sec * sec)).writeSample

/-- R225: FW_VALUE as a loss at this instant would use; frozen in FREEWHEEL. -/
def State.freewheelValue (s : State) : State :=
  let w := s.fld F.FW_WINDOW_W
  let g := s.fld F.FW_GAP_G
  let valid := fun (xs : List Sample) => (xs.filter (·.valid)).map (·.value)
  let inWin := valid ((s.timing.history.drop g).take w)
  let all := valid (s.timing.history.drop g)
  let base := s.sfld F.HISTORY_BASE_CW
  let put := fun (x : Int) (src n : Nat) =>
    ((((s.setFld F.FW_VALUE_CW (unsigned 64 (base + x))).setFld F.FW_INFO_SOURCE src).setFld F.FW_INFO_COUNT n).setOn
      F.LOOP_STATUS_FW_VALID true)
  if s.loopState = lFreewheel || s.timing.fwHeld then s
  else if 1 ≤ inWin.length && ceilDiv w 2 ≤ inWin.length then put (meanOf inWin) 0 inWin.length
  else if 1 ≤ all.length then put (meanOf all) 1 all.length
  else ((s.setFld F.FW_INFO_SOURCE 2).setFld F.FW_INFO_COUNT 0).setOn F.LOOP_STATUS_FW_VALID false

/-- The history is emptied (R231, HISTORY_CONTROL). -/
def State.historyClear (s : State) : State :=
  let s1 := { s with timing := { s.timing with history := [], baseSet := false } }
  s1.setFld F.HISTORY_INFO_COUNT 0

/-- R208, R224, R225, R308: a DTS second boundary. -/
def State.secondBoundary (s : State) : State :=
  let k := s.dts / sec
  if !s.tempo || k ≤ s.timing.lastSecond then s
  else
    let s0 := { s with timing := { s.timing with lastSecond := k } }
    let s1 := (s0.historySample.freewheelValue).pmSecond
    (List.range numLanes).foldl (fun s l => s.latchRecord l) s1

/-- A sample as its HISTORY word: bit 31 VALID, the value below. -/
def Sample.word (x : Sample) : Word := BitVec.ofNat 32 (flagBit x.valid (2 ^ 31) + unsigned 31 x.value)

/-! ### Commands -/

/-- ACT_LOST (R212). -/
def execActLost (t : Tick) (input : Nat) (s : State) : Host.Outcome State Fault Refusal :=
  onUnit (refUnit input) "input" ((s.advance t).actLost input)

/-- ACT_RETURN (R212). -/
def execActReturn (t : Tick) (input : Nat) (s : State) : Host.Outcome State Fault Refusal :=
  onUnit (refUnit input) "input" ((s.advance t).actReturn input)

/-- CAND_WTR_EXPIRY (R214). -/
def execCandWtrExpiry (t : Tick) (cand : Nat) (s : State) : Host.Outcome State Fault Refusal :=
  onUnit (candUnit cand) "candidate" ((s.advance t).candWtr cand)

/-- LOCK_TIME_REACHED (R220). -/
def execLockTimeReached (t : Tick) (s : State) : Host.Outcome State Fault Refusal := .next (s.advance t).lockReached

/-- PULL_COMPLETE (R221). -/
def execPullComplete (t : Tick) (s : State) : Host.Outcome State Fault Refusal := .next (s.advance t).pullComplete

/-- HOLDOVER_EXPIRY (R222). -/
def execHoldoverExpiry (t : Tick) (s : State) : Host.Outcome State Fault Refusal := .next (s.advance t).holdoverExpiry

/-- WATCHDOG (R226). -/
def execWatchdog (t : Tick) (s : State) : Host.Outcome State Fault Refusal := .next (s.advance t).watchdogExpiry

/-- DTS_SECOND_BOUNDARY (R208, R224, R225, R308). -/
def execDtsSecondBoundary (t : Tick) (s : State) : Host.Outcome State Fault Refusal := .next (s.advance t).secondBoundary

end Sys2Proof.Machine
end

