-- ==== Sys2Proof/Machine/Protection.lean ====
section
/-! DEFINITION. The protection controller: line APS (R246 to R254) and path selector control (R166, R255, R256). -/

namespace Sys2Proof.Machine

/-! ### Groups (R246, R254) -/

def State.apsOn (s : State) (g : Nat) : Bool := s.on F.APS_CONFIG_ENABLE g
def State.apsWork (s : State) (g : Nat) : Nat := s.fld F.APS_CONFIG_WORK_LANE g
def State.apsProt (s : State) (g : Nat) : Nat := s.fld F.APS_CONFIG_PROT_LANE g

/-- ARCH: 1 for 1:1. -/
def State.apsOneToOne (s : State) (g : Nat) : Bool := s.on F.APS_CONFIG_ARCH g
def State.apsSelected (s : State) (g : Nat) : Bool := s.on F.APS_STATUS_SELECTED g

/-- The enabled groups. -/
def State.apsGroups (s : State) : List Nat := (List.range 48).filter s.apsOn

/-- The enabled group whose working, or whose protection lane is l. -/
def State.workGroup (s : State) (l : Nat) : Option Nat := s.apsGroups.find? fun g => s.apsWork g == l
def State.protGroup (s : State) (l : Nat) : Option Nat := s.apsGroups.find? fun g => s.apsProt g == l

/-! ### Requests (R249) -/

/-- 1100 is taken as 1101, and 1010 as 1011. -/
def apsCode (c : Nat) : Nat := if c = 12 then 13 else if c = 10 then 11 else c

/-- The rank of a request; 13 for a code that is not in the table. -/
def apsRank (code ch : Nat) : Nat :=
  match code with
  | 15 => 1
  | 14 => 3
  | 13 => if ch = 0 then 2 else 4
  | 11 => if ch = 0 then 5 else 6
  | 8 => 7
  | 6 => 8
  | 4 => 9
  | 2 => 10
  | 1 => 11
  | 0 => 12
  | _ => 13

/-- The better-ranked of two requests (code, channel). -/
def apsBetter (a b : Nat × Nat) : Nat × Nat := if apsRank b.1 b.2 < apsRank a.1 a.2 then b else a

/-- The request of a command in force (R250). -/
def apsCmdReq (cmd : Nat) : Nat × Nat :=
  match cmd with
  | 1 => (15, 0)
  | 2 => (14, 1)
  | 3 => (8, 1)
  | 4 => (4, 1)
  | _ => (0, 0)

/-! ### The local request (R250) -/

/-- Line SF or SD of a lane, held for HOLD_OFF. -/
def State.sfCounted (s : State) (g l : Nat) : Bool :=
  s.lineSf l && s.sinceOpt (s.lane l).sfSince (s.fld F.APS_TIMERS_HOLD_OFF g * (100 * ms))
def State.sdCounted (s : State) (g l : Nat) : Bool :=
  s.on F.APS_CONFIG_SD_TRIGGER g && s.lineSd l &&
    s.sinceOpt (s.lane l).sdSince (s.fld F.APS_TIMERS_HOLD_OFF g * (100 * ms))

/-- The counted failures of a group now, and what follows the clearing of the working lane's, or of a command. -/
def State.apsInputs (s : State) (g : Nat) : State :=
  let a := s.apsOf g
  let w := s.apsWork g
  let p := s.apsProt g
  let bad := s.sfCounted g w || s.sdCounted g w
  let cleared := (a.sfWork || a.sdWork) && !bad && s.apsSelected g
  let rev := s.on F.APS_CONFIG_REVERTIVE g
  let wtr :=
    if bad then none
    else if cleared && rev && s.fld F.APS_TIMERS_WTR g ≠ 0 then some s.now
    else a.wtrFrom
  s.setAps g
    { a with
      sfWork := s.sfCounted g w, sdWork := s.sdCounted g w, sfProt := s.sfCounted g p, sdProt := s.sdCounted g p
      wtrFrom := wtr, dnr := a.dnr || (cleared && !rev) }

/-- The highest-ranking local request. -/
def State.apsLocal (s : State) (g : Nat) : Nat × Nat :=
  let a := s.apsOf g
  ([((a.sfProt), ((13, 0) : Nat × Nat)), (a.sfWork, (13, 1)), (a.sdProt, (11, 0)), (a.sdWork, (11, 1)),
    (a.wtrFrom.isSome, (6, 1)), (a.dnr, (1, 1))].foldl (fun acc x => if x.1 then apsBetter acc x.2 else acc)
    (apsCmdReq (s.fld F.APS_COMMAND_CMD g)))

/-- DEDUCED (log 21). The far request that a bidirectional group compares: a reverse request is an answer, and a code that
is not in the table asks for nothing. -/
def State.apsFar (s : State) (g : Nat) : Nat × Nat :=
  let code := s.fld F.APS_STATUS_FAR_REQ g
  let ch := s.fld F.APS_STATUS_FAR_CH g
  if apsRank code ch = 13 || code = 2 then (0, 0) else (code, ch)

/-- R251: the request acted on, and the request sent. -/
def State.apsActing (s : State) (g : Nat) : (Nat × Nat) × (Nat × Nat) :=
  let loc := s.apsLocal g
  let far := s.apsFar g
  if s.on F.APS_CONFIG_BIDIR g && apsRank far.1 far.2 < apsRank loc.1 loc.2 then (far, (2, far.2)) else (loc, loc)

/-! ### Selector and bridge (R251) -/

/-- The selector moves. -/
def State.apsSelect (s : State) (g : Nat) (v : Bool) : State :=
  if s.apsSelected g = v then s
  else ((s.setOn F.APS_STATUS_SELECTED v g).bump (objAt O.APS_SWITCHES g)).raise F.APS_STICKY_SWITCH g

/-- The bridge and the selector follow the request acted on; an exercise moves neither. -/
def State.apsMove (s : State) (g : Nat) (act : Nat × Nat) : State :=
  let farCh := s.fld F.APS_STATUS_FAR_CH g
  let farSwitch := farCh == 1 && s.fld F.APS_STATUS_FAR_REQ g != 4 && apsRank (s.fld F.APS_STATUS_FAR_REQ g) 1 != 13
  let farBridged := s.fld F.APS_STATUS_FAR_BRIDGED g == 1
  let want := act.2 == 1
  if act.1 = 4 then s
  else if !s.apsOneToOne g then (s.setOn F.APS_STATUS_BRIDGED true g).apsSelect g want
  else
    let bridge := if s.on F.APS_CONFIG_BIDIR g then want && farSwitch else farSwitch
    (s.setOn F.APS_STATUS_BRIDGED bridge g).apsSelect g (want && farBridged)

/-! ### FOP and ARCH_MISMATCH (R253) -/

/-- The defects that mask RDI-L, on the lane that carries the APS channel. -/
def State.apsMasked (s : State) (l : Nat) : Bool :=
  s.defect l dLos || s.defect l dOof || s.defect l dLof || s.defect l dAisL

/-- A request to switch. -/
def apsSwitching (r : Nat × Nat) : Bool := r.2 == 1 && r.1 != 4 && r.1 != 2

/-- Since when a condition and its opposite hold. -/
def sinceWhen (s : State) (old : Option Tick) (b : Bool) : Option Tick :=
  if b then (match old with | some t => some t | none => some s.now) else none

/-- The disagreements of a group now. -/
def State.apsWatch (s : State) (g : Nat) (sent : Nat × Nat) : State :=
  let a := s.apsOf g
  let l := s.apsProt g
  let masked := s.apsMasked l
  let off := (apsSwitching sent && s.fld F.APS_STATUS_FAR_BRIDGED g != sent.2) || a.badCode
  let arch := a.farArch != s.apsOneToOne g || (s.isTtf l && a.farBidir != s.on F.APS_CONFIG_BIDIR g)
  let s1 := s.setAps g
    { a with
      disagreeSince := sinceWhen s a.disagreeSince (!masked && off)
      agreeSince := sinceWhen s a.agreeSince (!masked && !off)
      archOffSince := sinceWhen s a.archOffSince (!masked && a.heard && arch)
      archOkSince := sinceWhen s a.archOkSince (!masked && !arch) }
  if masked then (s1.setOn F.APS_STATUS_FOP false g).setOn F.APS_STATUS_ARCH_MISMATCH false g
  else if a.badCode then (s1.raiseIf (!s1.on F.APS_STATUS_FOP g) F.APS_STICKY_FOP g).setOn F.APS_STATUS_FOP true g
  else s1

/-- R250, R251: the group looks at its requests. A selector that returns to working ends the wait and the request not to
revert. -/
def State.apsEval (s : State) (g : Nat) : State :=
  if !s.apsOn g || s.reinitBusy 12 0 then s
  else
    let s1 := s.apsInputs g
    let r := s1.apsActing g
    let s2 := s1.apsMove g r.1
    let keep := s2.apsSelected g
    let a := s2.apsOf g
    let s3 := s2.setAps g { a with wtrFrom := if keep then a.wtrFrom else none, dnr := a.dnr && keep }
    let s4 := (s3.setFld F.APS_STATUS_LOCAL_REQ r.2.1 g).setFld F.APS_STATUS_LOCAL_CH r.2.2 g
    (s4.setOn F.APS_STATUS_WTR_RUNNING (s4.apsOf g).wtrFrom.isSome g).apsWatch g r.2

/-- A group that comes into service, or leaves it, starts from its initial state. -/
def State.apsStart (s : State) (g : Nat) : State :=
  ((s.setAps g {}).setVal (objAt O.APS_STATUS g) 0).apsEval g

/-- Every group of a lane looks again (R122). -/
def State.apsLane (s : State) (l : Nat) : State :=
  s.apsGroups.foldl (fun s g => if s.apsWork g = l || s.apsProt g = l then s.apsEval g else s) s

/-! ### The channel (R248) -/

/-- The APS value of received bytes, without the bits that carry no part of it. -/
def apsValueTtf (bs : List Byte) : Nat := (bs.getD 0 0).toNat * 256 + (bs.getD 1 0).toNat / 4 * 4
def apsValueSdh (k1 k2 : BitVec 8) : Nat := k1.toNat * 256 + k2.toNat / 8 * 8

/-- R248: the CRC-8 of the four TTF bytes. -/
def apsCrcOk (bs : List Byte) : Bool := crc8 (bs.take 3) == (bs.getD 3 0).toNat

/-- A valid APS value arrives on lane l (R122); a protection lane's controller keeps the run. -/
def State.apsSaw (s : State) (l v : Nat) : State :=
  match s.protGroup l with
  | some g =>
    if s.apsMasked l then s else s.setAps g { s.apsOf g with farRun := (s.apsOf g).farRun.seen v }
  | none => s

/-- A frame without a valid value breaks the run. -/
def State.apsBreak (s : State) (l : Nat) : State :=
  match s.protGroup l with
  | some g => s.setAps g { s.apsOf g with farRun := ⟨0, 0⟩ }
  | none => s

/-- The four APS bytes sent on a TTF lane (R248); a lane that is no protection lane sends 0x00 (log 22). -/
def State.apsBytes (s : State) (l : Nat) : List Byte :=
  match s.protGroup l with
  | some g =>
    let bridged := if s.apsOneToOne g then s.on F.APS_STATUS_BRIDGED g else s.apsSelected g
    let b1 := s.fld F.APS_STATUS_LOCAL_REQ g * 16 + s.fld F.APS_STATUS_LOCAL_CH g
    let b2 := flagBit bridged 16 + flagBit (s.apsOneToOne g) 8 + flagBit (s.on F.APS_CONFIG_BIDIR g) 4
    let bs := [(BitVec.ofNat 8 b1 : Byte), BitVec.ofNat 8 b2, 0]
    bs ++ beBytes 1 (crc8 bs)
  | none => [0, 0, 0, 0]

/-- K1, and K2 bits 7 to 3 (R248). -/
def State.apsK1 (s : State) (l : Nat) : BitVec 8 := (s.apsBytes l).getD 0 0
def State.apsK2 (s : State) (l : Nat) : BitVec 8 := (s.apsBytes l).getD 1 0 &&& 0xF8

/-- APS_ACCEPTANCE (R248, R249): three consecutive frames carry the value. -/
def State.apsAccept (s : State) (g : Nat) : State :=
  let a := s.apsOf g
  if !s.apsOn g || a.farRun.count < 3 then s
  else
    let v := a.farRun.value
    let code := apsCode (v / 4096 % 16)
    let ch := v / 256 % 16
    let chg := s.fld F.APS_STATUS_FAR_REQ g != code || s.fld F.APS_STATUS_FAR_CH g != ch
    let s1 := s.setAps g
      { a with
        heard := true, farArch := v.testBit 3, farBidir := v.testBit 2
        badCode := apsRank code ch == 13 }
    let s2 := ((s1.setFld F.APS_STATUS_FAR_REQ code g).setFld F.APS_STATUS_FAR_CH ch g).setFld F.APS_STATUS_FAR_BRIDGED
      (v / 16 % 16) g
    (s2.raiseIf chg F.APS_STICKY_FAR_REQ_CHG g).apsEval g
def execApsAcceptance (t : Tick) (g : Nat) (s : State) : Host.Outcome State Fault Refusal :=
  onUnit (apsUnit g) "group" ((s.advance t).apsAccept g)

/-- HOLD_OFF_EXPIRY (R250): the failure of the lane named has been held for HOLD_OFF. -/
def State.apsHoldOff (s : State) (g : Nat) (prot degrade : Bool) : State :=
  let l := if prot then s.apsProt g else s.apsWork g
  if s.apsOn g && (if degrade then s.sdCounted g l else s.sfCounted g l) then s.apsEval g else s
def execHoldOffExpiry (t : Tick) (g : Nat) (prot degrade : Bool) (s : State) : Host.Outcome State Fault Refusal :=
  onUnit (apsUnit g) "group" ((s.advance t).apsHoldOff g prot degrade)

/-- APS_WTR_EXPIRY (R250): the group reverts. -/
def State.apsWtr (s : State) (g : Nat) : State :=
  let a := s.apsOf g
  if s.apsOn g && s.sinceOpt a.wtrFrom (s.fld F.APS_TIMERS_WTR g * sec) then
    (s.setAps g { a with wtrFrom := none }).apsEval g
  else s
def execApsWtrExpiry (t : Tick) (g : Nat) (s : State) : Host.Outcome State Fault Refusal :=
  onUnit (apsUnit g) "group" ((s.advance t).apsWtr g)

/-- A defect of R253 is declared after 50 ms of disagreement and cleared after 50 ms of agreement. -/
def State.apsDefect (s : State) (g : Nat) (f st : Fld) (off ok : Option Tick) : State :=
  if s.sinceOpt off (50 * ms) then (s.raiseIf (!s.on f g) st g).setOn f true g
  else if s.sinceOpt ok (50 * ms) then s.setOn f false g
  else s

/-- FOP_CHANGE (R253). -/
def State.fopChange (s : State) (g : Nat) (arch : Bool) : State :=
  let s1 := s.apsEval g
  let a := s1.apsOf g
  if !s.apsOn g then s
  else if arch then s1.apsDefect g F.APS_STATUS_ARCH_MISMATCH F.APS_STICKY_ARCH_MISMATCH a.archOffSince a.archOkSince
  else s1.apsDefect g F.APS_STATUS_FOP F.APS_STICKY_FOP a.disagreeSince a.agreeSince
def execFopChange (t : Tick) (g : Nat) (arch : Bool) (s : State) : Host.Outcome State Fault Refusal :=
  onUnit (apsUnit g) "group" ((s.advance t).fopChange g arch)

/-! ### What the core reads (R247) -/

/-- R247: the group fixes its choice for landing frame L at r(L), on both of its lanes. -/
def State.apsFix (s : State) (L : Nat) : State :=
  let put := fun (s : State) (l : Nat) (v : Bool) =>
    match s.landing l L with
    | some x => s.putLanding l { x with aps := some v }
    | none => s
  s.apsGroups.foldl (fun s g =>
    let busy := s.apsSelected g || s.fld F.APS_STATUS_FAR_BRIDGED g == 1
    put (put s (s.apsWork g) (s.apsSelected g)) (s.apsProt g) (s.apsOneToOne g && busy)) s

/-- The choice for landing frame L of lane l; before r(L) it is what the group selects now. -/
def State.apsChoice (s : State) (l L : Nat) (now : Bool) : Bool := ((s.landing l L).bind (·.aps)).getD now

/-- R247: the lane that entries naming a slot of lane l read for landing frame L. -/
def State.readLane (s : State) (l L : Nat) : Nat :=
  match s.workGroup l with
  | some g => if s.apsChoice l L (s.apsSelected g) then s.apsProt g else l
  | none => l

/-- R247: entries that name the 1:1 protection lane carry AIS while it carries working traffic. -/
def State.extraAis (s : State) (l L : Nat) : Bool :=
  match s.protGroup l with
  | some g => s.apsOneToOne g && s.apsChoice l L (s.apsSelected g)
  | none => false

/-- R247: the working lane whose egress frames protection lane l sends. -/
def State.mirrors (s : State) (l : Nat) : Option Nat :=
  match s.protGroup l with
  | some g => if !s.apsOneToOne g || s.on F.APS_STATUS_BRIDGED g then some (s.apsWork g) else none
  | none => none

/-! ### Path selectors (R166, R255) -/

/-- The output slots of the path or group that starts at output slot g. -/
def State.outMembers (s : State) (g : Nat) : List Nat :=
  (s.members O.TX_DESC (slotLane g) (slotNo g)).map (slotIdx (slotLane g))

/-- The ingress path or group of source slot g: its lane and its slots. -/
def State.inMembers (s : State) (g : Nat) : List Nat := s.members O.RX_DESC (slotLane g) (slotNo g)

/-- R43: RX_EQ_CTRL goes from a to b by ADAPT_MODE alone, between 0 and 2: adaptation stops or goes on. -/
def frozeOnly (a b : Val) : Bool :=
  b == setBits a 1 0 (bits b 1 0) && ((bits b 1 0 == 0 && bits a 1 0 == 2) || (bits b 1 0 == 2 && bits a 1 0 == 0))

/-- R54, R55: a write by which lane l leaves UP: its line, or its equaliser, changes. -/
def State.lineWr (s : State) (l : Nat) (w : Wr) : Bool :=
  let d := fun (f : Fld) => bits w.v f.hi f.lo != s.fld f l
  (w.o == objAt O.LANE_CONFIG l && (d F.LANE_CONFIG_ROLE || d F.LANE_CONFIG_RATE)) ||
  (w.o == objAt O.CLIENT_RATE l && d F.CLIENT_RATE_RATE_KBPS) ||
  (w.o == objAt O.RX_EQ_CTRL l && w.v != s.val w.o && !frozeOnly (s.val w.o) w.v)

/-- R169: the latest frame, up to egress frame fn, at which lane l changes: by a transaction still pending, or by the last. -/
def State.changesAt (s : State) (l fn : Nat) : Option Nat :=
  (((s.pendingTo fn).reverse.find? fun x => x.st == .pending && x.writes.any (s.lineWr l)).map (·.fn)).or (s.lane l).changedAt

/-- R169, step 3: egress frame fn reads nothing that lane l landed before it changed. -/
def State.cutOff (s : State) (l fn L : Nat) : Bool := (s.changesAt l fn).any fun f => f ≤ fn && L < f

/-- R166: a source is failed for landing frame L, as egress frame fn reads it. -/
def State.sourceFailed (s : State) (g L fn : Nat) : Bool :=
  let l := s.readLane (slotLane g) L
  let first := s.firstSlot O.RX_DESC l (slotNo g)
  let ms := match s.members O.RX_DESC l (slotNo g) with
    | [] => [slotNo g]
    | m :: r => m :: r
  s.cutOff l fn L ||
  match s.landing l L with
  | some x =>
    if x.absent then false else s.extraAis l L || x.sfp.contains first || ms.any fun m =>
      let c := (s.landed l x m).st
      c == .ais || c == .unequipped
  | none => false

/-- The latest landing frame of a lane that is complete. -/
def State.newestLanding (s : State) (l : Nat) : Nat :=
  (((s.lane l).landings.find? fun x => x.complete.isSome).map (·.l)).getD 0

/-- R255: the source is failed now, or degraded: SD_P since when. -/
def State.srcFails (s : State) (g : Nat) : Bool :=
  s.sourceFailed g (s.newestLanding (slotLane g)) (s.newestLanding (slotLane g) + 1)
def State.srcSdSince (s : State) (g : Nat) : Option Tick :=
  let l := s.readLane (slotLane g) (s.newestLanding (slotLane g))
  let k := s.firstSlot O.RX_DESC l (slotNo g)
  if s.pathDefect l k pSd then some (Map.get 0 k (s.lane l).pathSd) else none
def State.srcGood (s : State) (g : Nat) : Bool := !s.srcFails g && (s.srcSdSince g).isNone

/-- R255: the page of the next egress frame to be filled. -/
def State.nextPage (s : State) : Bool := s.xc.pageFor s.fn
def State.ctlEntry (s : State) (g : Nat) : Entry := s.xc.entryOn s.nextPage g

/-- R255: the entry is under the controller: ACTION pass, PROT_EN, and the first slot of an output path. -/
def State.controlled (s : State) (g : Nat) : Bool :=
  let e := s.ctlEntry g
  entryAction e == 0 && entryProtEn e && s.firstSlot O.TX_DESC (slotLane g) (slotNo g) == slotNo g

/-- The controller writes SEL_STATE of every member of the path. Its write stands against a hardware move in the same frame
(R167). -/
def State.ctlSelect (s : State) (g st : Nat) : State :=
  let s1 := (s.outMembers g).foldl (fun s m => s.setSelOn s.nextPage m st) s
  { s1 with xc := { s1.xc with ctl := Map.set 0 g (s.fn + 1) s1.xc.ctl } }

/-- R255: a command written to PATH_PROT_COMMAND; a manual one needs a target that is not failed. -/
def State.pathCommand (s : State) (g cmd : Nat) : State :=
  let e := s.ctlEntry g
  let l := slotLane g
  let k := slotNo g
  let put := fun (st : Nat) => (s.ctlSelect g st).setFld F.PATH_PROT_STATUS_CMD_IN_FORCE cmd l k
  if !s.controlled g then s
  else
    match cmd with
    | 0 => put (entrySel e % 2)
    | 1 => put 2
    | 2 => put 3
    | 3 => if s.srcFails (entryProt e) then s else put 1
    | 4 => if s.srcFails (entryWork e) then s else put 0
    | _ => s

/-- R255: the wait-to-restore of a path: it runs in PROT_AUTO while the working source is good. -/
def State.pathWatch (s : State) (g : Nat) : State :=
  let l := slotLane g
  let k := slotNo g
  let e := s.ctlEntry g
  let run := s.controlled g && s.on F.PATH_PROT_CONFIG_REVERTIVE l k && entrySel e == 1 && s.srcGood (entryWork e)
  (s.setPprot g { wtrFrom := sinceWhen s (s.pprot g).wtrFrom run }).setOn F.PATH_PROT_STATUS_WTR_RUNNING run l k

/-- The output slots whose path protection is set up: those with an entry of their own in the dictionary. -/
def State.protPaths (s : State) : List Nat :=
  (s.dict.filter fun p => objArea p.1 == 0x0C && objInst p.1 / 256 == 1).map fun p => slotIdx (objInst p.1 % 256) (objElem p.1)
def State.pathWatchAll (s : State) : State := s.protPaths.foldl (fun s g => s.pathWatch g) s

/-- R255: a page switch that rewrites sources or action cancels the path's wait and command. -/
def State.pathCancel (s : State) (g : Nat) : State :=
  (s.setPprot g {}).setVal (objAt O.PATH_PROT_STATUS (slotLane g) (slotNo g)) 0

/-- WTR_LEFT of R256, in whole seconds begun. -/
def State.wtrLeft (s : State) (g : Nat) : Nat :=
  match (s.pprot g).wtrFrom with
  | some t => ceilDiv (t + s.fld F.PATH_PROT_CONFIG_WTR (slotLane g) (slotNo g) * sec - s.now) sec
  | none => 0

/-- PATH_HOLD_OFF_EXPIRY (R255). -/
def State.pathHoldOff (s : State) (l k : Nat) : State :=
  let g := slotIdx l k
  let e := s.ctlEntry g
  let st := entrySel e
  let sel := if st = 1 then entryProt e else entryWork e
  let other := if st = 1 then entryWork e else entryProt e
  if !s.reinitBusy 12 0 && s.controlled g && st ≤ 1 && s.on F.PATH_PROT_CONFIG_SD_TRIGGER l k &&
      s.sinceOpt (s.srcSdSince sel) (s.fld F.PATH_PROT_CONFIG_HOLD_OFF l k * (100 * ms)) && s.srcGood other then
    (s.ctlSelect g (1 - st)).pathWatch g
  else s
def execPathHoldOffExpiry (t : Tick) (lane k : Nat) (s : State) : Host.Outcome State Fault Refusal :=
  onUnit (laneUnit lane && k < 1024) "slot" ((s.advance t).pathHoldOff lane k)

/-- PATH_WTR_EXPIRY (R255): the working source is selected again. -/
def State.pathWtr (s : State) (l k : Nat) : State :=
  let g := slotIdx l k
  let s1 := s.pathWatch g
  if s1.sinceOpt (s1.pprot g).wtrFrom (s1.fld F.PATH_PROT_CONFIG_WTR l k * sec) then
    (s1.ctlSelect g 0).pathWatch g
  else s1
def execPathWtrExpiry (t : Tick) (lane k : Nat) (s : State) : Host.Outcome State Fault Refusal :=
  onUnit (laneUnit lane && k < 1024) "slot" ((s.advance t).pathWtr lane k)

/-! ### What follows a change of a lane's state -/

/-- R120: a defect that is declared at the very instant of release is in force for the frame that leaves then. -/
def State.rdiAgain (s : State) (l : Nat) : State :=
  match (s.lane l).lastTx with
  | some f =>
    if f.at_ ≠ s.dts || (s.mirrors l).isSome then s
    else
      match f.ttf, f.sdh with
      | some g, _ =>
        let c := s.rdiCause l
        if g.rdiCause = c then s else s.onLine l { f with ttf := some { g with rdi := c != 0, rdiCause := c } } f.prior
      | none, some g =>
        let k2 := (g.k2 &&& 0xF8) ||| s.k2Low l
        if g.k2 = k2 then s else s.onLine l { f with sdh := some { g with k2 } } f.prior
      | none, none => s
  | none => s

/-- After a command changed what a lane's defects, fields or state show: its channels (R295), its candidate (R213), its
monitored points (R305), the controllers (R122, R255). -/
def State.laneHook (s : State) (l : Nat) : State :=
  let s0 := (if s.pathsMasked l then [0, 1, 2, 3].foldl (fun s c => s.chanStop l c) s else s).rdiAgain l
  let s1 := (s0.candWatch (l + 16)).apsLane l
  let s2 := if s.role l = 0 then s1 else s1.pmScan (linePoint l)
  (if s.isSdh l then s2.pmScan (sectionPoint l) else s2).pathWatchAll

end Sys2Proof.Machine
end

