-- ==== Sys2Proof/Machine/LaneEvents.lean ====
section
/-! DEFINITION. The commands of lane states, defects, traces and the ledger. Each acts on its lane, and then everything that
watches the lane looks again (laneHook). -/

namespace Sys2Proof.Machine

/-- LTD_CLEAR. -/
def execLtdClear (t : Tick) (lane : Nat) (s : State) : Host.Outcome State Fault Refusal :=
  onUnit (laneUnit lane) "lane" (((s.advance t).ltdClear lane).laneHook lane)

/-- STEP_ACCEPT. -/
def execStepAccept (t : Tick) (lane : Nat) (s : State) : Host.Outcome State Fault Refusal :=
  onUnit (laneUnit lane) "lane" (((s.advance t).stepAccept lane).laneHook lane)

/-- LEDGER_RESEED_TIMEOUT. -/
def execLedgerReseedTimeout (t : Tick) (lane : Nat) (s : State) : Host.Outcome State Fault Refusal :=
  onUnit (laneUnit lane) "lane" (((s.advance t).ledgerTimeout lane).laneHook lane)

/-- SF_SD_DECLARE (R112). -/
def execSfSdDeclare (t : Tick) (lane : Nat) (d : SfSd) (s : State) : Host.Outcome State Fault Refusal :=
  onUnit (laneUnit lane && sfSdOk d) "lane" (((s.advance t).sfDeclare lane d).laneHook lane)

/-- SF_SD_WINDOW_END (R112). -/
def execSfSdWindowEnd (t : Tick) (lane : Nat) (d : SfSd) (s : State) : Host.Outcome State Fault Refusal :=
  onUnit (laneUnit lane && sfSdOk d) "lane" (((s.advance t).sfWindowEnd lane d).laneHook lane)

/-- TRACE_ACCEPTANCE (R87, R95). -/
def execTraceAcceptance (t : Tick) (lane : Nat) (site : TraceSite) (s : State) : Host.Outcome State Fault Refusal :=
  onUnit (laneUnit lane && traceOk site) "lane" (((s.advance t).acceptTrace lane site).laneHook lane)

/-- LOS_DECLARE. -/
def execLosDeclare (t : Tick) (lane : Nat) (s : State) : Host.Outcome State Fault Refusal :=
  onUnit (laneUnit lane) "lane" (((s.advance t).losDeclare lane).laneHook lane)

/-- LOS_CLEAR. -/
def execLosClear (t : Tick) (lane : Nat) (s : State) : Host.Outcome State Fault Refusal :=
  onUnit (laneUnit lane) "lane" (((s.advance t).losClear lane).laneHook lane)

/-- LOF_DECLARE. -/
def execLofDeclare (t : Tick) (lane : Nat) (s : State) : Host.Outcome State Fault Refusal :=
  onUnit (laneUnit lane) "lane" (((s.advance t).lofDeclare lane).laneHook lane)

/-- LOF_CLEAR. -/
def execLofClear (t : Tick) (lane : Nat) (s : State) : Host.Outcome State Fault Refusal :=
  onUnit (laneUnit lane) "lane" (((s.advance t).lofClear lane).laneHook lane)

/-- LOBL_DECLARE. -/
def execLoblDeclare (t : Tick) (lane : Nat) (s : State) : Host.Outcome State Fault Refusal :=
  onUnit (laneUnit lane) "lane" (((s.advance t).loblDeclare lane).laneHook lane)

/-- LOBL_CLEAR. -/
def execLoblClear (t : Tick) (lane : Nat) (s : State) : Host.Outcome State Fault Refusal :=
  onUnit (laneUnit lane) "lane" (((s.advance t).loblClear lane).laneHook lane)

/-- DEFECT_PERSISTENCE (R109, R78, R95, R116, R143). -/
def execDefectPersistence (t : Tick) (lane : Nat) (d : Persist) (s : State) : Host.Outcome State Fault Refusal :=
  onUnit (laneUnit lane && persistOk d) "lane" (((s.advance t).persistence lane d).laneHook lane)

/-- FIELD_ACCEPTANCE (R71, R101). -/
def execFieldAcceptance (t : Tick) (lane : Nat) (f : AccField) (s : State) : Host.Outcome State Fault Refusal :=
  onUnit (laneUnit lane) "lane" ((((s.advance t).acceptField lane f).noteTraceable lane).laneHook lane)

/-- S1_ACCEPTANCE (R88). -/
def execS1Acceptance (t : Tick) (lane : Nat) (s : State) : Host.Outcome State Fault Refusal :=
  onUnit (laneUnit lane) "lane" (((s.advance t).acceptS1 lane).laneHook lane)

/-- BAY_PLL_LOCK. -/
def execBayPllLock (t : Tick) (bay : Nat) (s : State) : Host.Outcome State Fault Refusal :=
  onUnit (bayUnit bay) "bay" ((bayLanes bay).foldl (fun s l => s.laneHook l) ((s.advance t).bayLock bay))

/-- TX_READY. -/
def execTxReady (t : Tick) (lane : Nat) (pinDelay : Word) (s : State) : Host.Outcome State Fault Refusal :=
  onUnit (laneUnit lane) "lane" (((s.advance t).txReadyNow lane pinDelay).laneHook lane)

/-- SIG_DET_CHANGE. -/
def execSigDetChange (t : Tick) (lane : Nat) (present : Bool) (s : State) : Host.Outcome State Fault Refusal :=
  onUnit (laneUnit lane) "lane" (((s.advance t).sigDet lane present).laneHook lane)

/-- CDR_LOCK. -/
def execCdrLock (t : Tick) (lane : Nat) (offset : Int) (s : State) : Host.Outcome State Fault Refusal :=
  onUnit (laneUnit lane) "lane" (((s.advance t).cdrLocked lane offset).laneHook lane)

/-- CDR_LOCK_LOSS. -/
def execCdrLockLoss (t : Tick) (lane : Nat) (s : State) : Host.Outcome State Fault Refusal :=
  onUnit (laneUnit lane) "lane" (((s.advance t).cdrLost lane).laneHook lane)

/-- ADAPTATION_COMPLETE. -/
def execAdaptationComplete (t : Tick) (lane : Nat) (pinDelay : Word) (eye dfe1 : Byte) (ctle : BitVec 5) (s : State) :
    Host.Outcome State Fault Refusal :=
  onUnit (laneUnit lane) "lane" (((s.advance t).adapted lane pinDelay eye dfe1 ctle).laneHook lane)

/-- EQ_DISCARD_TIMEOUT. -/
def execEqDiscardTimeout (t : Tick) (lane : Nat) (s : State) : Host.Outcome State Fault Refusal :=
  onUnit (laneUnit lane) "lane" ((s.advance t).eqDiscard lane)

/-- BRING_UP_TIMEOUT. -/
def execBringUpTimeout (t : Tick) (lane : Nat) (s : State) : Host.Outcome State Fault Refusal :=
  onUnit (laneUnit lane) "lane" (((s.advance t).bringUpLate lane).laneHook lane)

/-- PATTERN_CHECKER_LOCK. -/
def execPatternCheckerLock (t : Tick) (lane : Nat) (locked : Bool) (s : State) : Host.Outcome State Fault Refusal :=
  onUnit (laneUnit lane) "lane" ((s.advance t).patternLock lane locked)

/-- What watches the lane behind a candidate looks again. -/
def State.candHook (s : State) (c : Nat) : State :=
  match candLane c with
  | some l => s.laneHook l
  | none => s

/-- FREQ_GATE_END (R212). -/
def execFreqGateEnd (t : Tick) (cand : Nat) (offset : Int) (s : State) : Host.Outcome State Fault Refusal :=
  onUnit (candUnit cand) "candidate" (((s.advance t).freqGate cand offset).candHook cand)

end Sys2Proof.Machine
end

