-- ==== Sys2Proof/Machine/FrameRx.lean ====
section
/-! DEFINITION. Received frames: TTF (R56 to R78), SDH (R83 to R101), client blocks (R135, R136), and the ready instants of
landing frames (R172). A received frame is one command at its end (log 23). -/

namespace Sys2Proof.Machine

/-- The receiver of a lane takes frames: the engines run and the lane is up (R40, R103). -/
def State.receives (s : State) (l : Nat) : Bool := s.active && s.laneUp l

/-- R103, R117: a lane searches for framing words from UP on, and not while LOS is in force; a word that arrived before is not
seen. -/
def State.sawWord (s : State) (l : Nat) (arrival : Tick) : Bool :=
  [(s.lane l).upSince, (s.lane l).oofSince].all fun t => t.all (· ≤ s.nowOf arrival)

/-! ### TTF -/

/-- R71, R78: a frame that is not received in frame breaks the runs of the accepted fields. -/
def State.fieldBreak (s : State) (l : Nat) : State :=
  s.modLane l fun x =>
    (((x.breakRun (runKey kClass 0)).breakRun (runKey kSteps 0)).breakRun (runKey kEpoch 0)).breakRun (runKey kDigest 0)

/-- R48: the FEC counters of a frame. -/
def State.fecCount (s : State) (l : Nat) (rx : TtfSeen) : State :=
  let s1 := ((s.bumpLive (objAt O.FEC_CW l) (codewords (s.rate l))).bumpLive (objAt O.FEC_CW_CORR l) rx.cwCorr).bumpLive
    (objAt O.FEC_CW_UNCORR l) rx.cwUncorr
  rx.bins.foldl (fun s b => s.bumpLive (objAt O.FEC_BIN l b.1) b.2) (s1.bumpLive (objAt O.FEC_SYM_CORR l) rx.symCorr)

/-- One frame enters the lane's SF and SD windows, where they are not masked (R112, R117). -/
def State.sfCount (s : State) (l sf sd : Nat) : State :=
  let st := bits (s.val (lineObj l)) 10 0
  if s.scrambleOff l then s else s.modLane l fun x =>
    let y := if lineMasked st dSf then x else x.count 0 sf
    if lineMasked st dSd then y else y.count 1 sd

/-- R62: violations and uncorrectable codewords to be reported back. -/
def State.gatherRep (s : State) (l : Nat) (rx : TtfSeen) : State :=
  s.modLane l fun x =>
    { x with
      repBip := x.repBip + rx.bipErrs, repCw := x.repCw + rx.cwUncorr
      repSlot := rx.sbErrs.foldl (fun m p => Map.set 0 p.1 (Map.get 0 p.1 m + p.2) m) x.repSlot }

/-- R77: what the receive objects show of a frame. -/
def State.showTtf (s : State) (l : Nat) (rx : TtfSeen) : State :=
  let f := rx.f
  let s1 := if rx.rowsLost.contains 1 then s else s.setFld F.TTF_RX_TAG_TAG f.srcTag l
  let s2 := ((s1.setFld F.TTF_RX_INFO_TSZ f.tsz l).setFld F.TTF_RX_INFO_SRC_LANE f.srcLane l).setOn F.TTF_RX_FLAGS_RDI f.rdi l
  let s3 := if f.rdi then s2.setFld F.TTF_RX_FLAGS_RDI_CAUSE (if 5 ≤ f.rdiCause then 4 else f.rdiCause) l else s2
  (s3.setFld F.TTF_RX_FLAGS_TIME_FLAGS (flagBit f.timeRoot 2 + flagBit f.timeStepped 1) l).raiseIf (!rx.rowsLost.isEmpty)
    F.TTF_STICKY_FLAGGED_OH l

/-- R78, R109: the runs of the defects that a count of frames decides. -/
def State.ttfDefectRuns (s : State) (l : Nat) (rx : TtfSeen) : State :=
  let f := rx.f
  let row1 := !rx.rowsLost.contains 1
  let mis := fun (s : State) (b k : Nat) (ok : Bool) (differs : Bool) =>
    if ok && s.mismatchOn l b then s.sawRun l (runKey k 0) (boolBit differs) else s
  if s.pathsMasked l then s
  else
    let s1 := if row1 then s.sawRun l (runKey kTtfRdi 0) (boolBit f.rdi) else s
    let s2 := mis s1 0 kTag row1 (f.srcTag != s.fld F.TTF_EXPECT_TAG_TAG l)
    let s3 := mis s2 1 kLane row1 (f.srcLane != s.fld F.TTF_ID_CTRL_EXPECT_LANE l)
    let s4 := mis s3 2 kDigestChk (!rx.rowsLost.contains 5) (f.digest != s.digest O.RX_DESC l)
    mis s4 3 kSize row1 (f.tsz != ttfSize (s.rate l))

/-- R109: slot RDI, of the slots listed and of those whose run goes on. -/
def State.slotRdiRuns (s : State) (l : Nat) (rx : TtfSeen) : State :=
  if s.pathsMasked l then s
  else
    let x := s.lane l
    let going := (x.runs.filter fun p => p.1 / 1024 == kSlotRdi).map fun p => p.1 % 1024
    let flagged := (rx.f.slots.filter fun c => 128 ≤ c.sr).map (·.s)
    (going ++ x.slotRdi ++ flagged).eraseDups.foldl (fun s k =>
      if rx.srLost.contains k || s.laneSlots l ≤ k then s
      else s.sawRun l (runKey kSlotRdi k) (boolBit (decide (128 ≤ (ttfCell rx.f k).sr)))) s

/-- R71: the runs of the accepted fields; a field in an uncorrectable codeword is skipped. -/
def State.fieldRuns (s : State) (l : Nat) (rx : TtfSeen) : State :=
  let f := rx.f
  if rx.rowsLost.contains 5 then s
  else
    let cls := if f.clockClass == 0x50 || classTraceable f.clockClass then f.clockClass else 0xFF
    (((s.sawRun l (runKey kClass 0) cls).sawRun l (runKey kSteps 0) f.steps).sawRun l (runKey kEpoch 0)
      f.galleryEpoch).sawRun l (runKey kDigest 0) f.digest

/-- R248, R122: the APS bytes go to the controller. -/
def State.ttfAps (s : State) (l : Nat) (rx : TtfSeen) : State :=
  if s.apsMasked l || rx.rowsLost.contains 2 || !apsCrcOk rx.f.aps then s.apsBreak l
  else s.apsSaw l (apsValueTtf rx.f.aps)

/-- The frame as a landing frame, f the frequency of R194 (R64, R65, R119, R121, R205). -/
def ttfLanding (rx : TtfSeen) (f : Int) (ais : Bool) : Landing :=
  let cells := rx.f.slots.filterMap fun c => (ttfCell? c (rx.ssLost.contains c.s)).map fun y => (c.s, y)
  let lost := (rx.ssLost.filter fun k => !rx.f.slots.any (·.s == k)).map fun k => (k, aisCell)
  { l := 0, slots := cells ++ lost, ais, wrote := true, arrival := rx.arrival
    freq := some f, errs := (rx.sbErrs.filter fun p => p.2 != 0).map (·.1)
    far := (rx.f.slots.filter fun c => c.sr % 16 != 0).map (·.s) }

/-- R205: the ledger's out-of-window mark goes with the frame's epochs. -/
def State.markWindow (s : State) (l : Nat) (arrival : Tick) : State :=
  s.modLane l fun x =>
    { x with landings := x.landings.map fun f => if f.arrival = arrival then { f with outOfWindow := true } else f }

/-- The echo fields of a TTF frame whose TX_TIME is x (R67, R68). -/
def State.ttfEcho (s : State) (l : Nat) (x : Tick) (f : TtfFrame) : TtfFrame :=
  let e := (s.ledger l).echo x
  { f with
    echoTime := e.time, turnaround := e.turnaround, echoMfc := e.mfc, echoValid := e.valid, echoSkipped := e.skipped }

/-- The fields of R66 to R69 that describe instant x on lane l. -/
def State.ttfTimes (s : State) (l : Nat) (x : Tick) (f : TtfFrame) : TtfFrame := { s.ttfEcho l x f with txTime := time96 x }

/-- R67: the frame last sent echoes what had arrived by its TX_TIME, and that frame has ended only now (log 23). -/
def State.echoAgain (s : State) (l : Nat) (arrival : Tick) : State :=
  match (s.lane l).lastTx with
  | some f =>
    if f.at_ < arrival then s
    else
      match f.ttf, f.sdh with
      | some g, _ => s.onLine l { f with ttf := some (s.ttfEcho l f.at_ g) } f.prior
      | none, some g =>
        let r := s.overlayAgain l f.fn f.at_ g.overlay
        r.2.onLine l { f with sdh := some { g with overlay := r.1 } } f.prior
      | none, none => s
  | none => s

/-- R193: a TTF frame at the ledger, and kept for the echo (R67). -/
def State.ttfLedger (s : State) (l : Nat) (rx : TtfSeen) : State :=
  if s.heldHalted 8 l then s
  else
  let f := rx.f
  let row4 := !rx.rowsLost.contains 4
  let r := (s.setVal (objAt O.ARRIVAL_LAST l) (time96 rx.arrival)).ledgerFrame l
    ⟨row4, (ticksOfTime96 f.txTime : Nat), (rx.arrival : Nat), f.echoValid, f.echoMfc, f.echoTime, f.turnaround,
      f.timeStepped⟩
  let s1 := if r.1 then r.2.markWindow l rx.arrival else r.2
  (s1.modLane l fun x =>
    { x with ledger := { x.ledger.hear ⟨rx.arrival, f.txTime, f.mfc, row4⟩ with lastIn := some s.now } }).echoAgain l rx.arrival

/-- R305, R313: the frame at the line point. -/
def State.ttfPm (s : State) (l : Nat) (rx : TtfSeen) : State :=
  let key := linePoint l
  (s.pmBlock key (rx.bipErrs != 0 || rx.cwUncorr != 0) (rx.f.remErr != 0)).pmAt key (s.dts / sec) fun x =>
    { x with cwCorr := x.cwCorr + rx.cwCorr, cwUncorr := x.cwUncorr + rx.cwUncorr, sym := x.sym + rx.symCorr }

/-- A TTF frame received in frame. -/
def State.ttfInFrame (s : State) (l : Nat) (rx : TtfSeen) : State :=
  let ais := s.lineAis l || (s.lane l).aisUntil.any (rx.arrival < ·)
  let s1 := (((s.fecCount l rx).sfCount l rx.cwUncorr rx.symCorr).gatherRep l rx).showTtf l rx
  let s2 := (((s1.ttfDefectRuns l rx).slotRdiRuns l rx).fieldRuns l rx).ttfAps l rx
  let s3 := if s2.pathsMasked l then s2.chanStop l 2 else s2.chanReceive l 2 rx.f.gcc
  ((s3.placeTtf l (ttfLanding rx (s3.corrFreq l) (ais || s3.ripeAis l)) rx.behind).ttfLedger l rx).ttfPm l rx

/-- A TTF frame that is not received in frame gives no sample (R197) and breaks what counts frames in frame. -/
def State.ttfOut (s : State) (l : Nat) (rx : TtfSeen) : State :=
  let s1 := ((s.fieldBreak l).apsBreak l).chanStop l 2
  (s1.ledgerFrame l ⟨false, 0, (rx.arrival : Nat), false, 0, 0, 0, false⟩).2

/-- R103, R214: a framing word is checked; the lane's candidate looks at the instant at which the lane gained frame. -/
def State.sawFraming (s : State) (l : Nat) (ok : Bool) (pos : Nat) (arrival : Tick) : State :=
  let w := s.nowOf arrival
  let s1 := s.frameWord l ok pos w
  if !(s.lane l).inFrame && (s1.lane l).inFrame then s1.candWatchAt (l + 16) w else s1

/-- A TTF frame as it was read. A frame elsewhere than at the lane's alignment is none. -/
def State.ttfTake (s : State) (l : Nat) (rx : TtfSeen) : State :=
  let s1 := s.sawFraming l rx.fawOk rx.pos rx.arrival
  if s1.framedAt l rx.pos then ((s1.ttfInFrame l rx).modLane l fun x => { x with rxTtf := some rx.parity }).laneHook l
  else if (s1.lane l).inFrame then s1
  else (s1.ttfOut l rx).laneHook l

/-- The lane's receiver looks at frames of its role. -/
def State.framing (s : State) (l : Nat) (arrival : Tick) : Bool :=
  s.receives l && !s.heldHalted 2 l && s.sawWord l arrival

/-- TTF_FRAME_RECEIVE. -/
def State.ttfReceive (s : State) (l : Nat) (rx : TtfRx) : State :=
  if !s.isTtf l || !s.framing l rx.arrival then s
  else
    match s.rxSymbols l rx.line rx.prior with
    | some (line, prior) =>
      s.ttfTake l (ttfDecode (s.rate l) (s.on F.LANE_CONFIG_FEC_DETECT_ONLY l) (s.lane l).rxTtf rx (s.rxBits l prior line))
    | none => (s.sawFraming l false rx.pos rx.arrival).laneHook l

/-! ### SDH -/

/-- R85, R86: the parity checks of a frame. -/
def State.sdhParity (s : State) (l : Nat) (rx : SdhSeen) : State :=
  let rei := s.reiOf l rx.reiL
  let b2 := if s.on F.SDH_CONFIG_B2_BLOCK l then boolBit (rx.b2Errs != 0) else rx.b2Errs
  let s1 := ((s.bumpLive (objAt O.B1_ERR l) rx.b1Errs).bumpLive (objAt O.B2_ERR l) b2).bumpLive (objAt O.REI_L_RX l) rei
  ((s1.sfCount l rx.b2Errs rx.b2Errs).modLane l fun x => { x with repB2 := x.repB2 + rx.b2Errs }).pmBlock (linePoint l)
    (rx.b2Errs != 0) (rei != 0) |>.pmBlock (sectionPoint l) (rx.b1Errs != 0) false

/-- R83, R87, R88, R109: the overhead bytes of a frame. -/
def State.sdhOverhead (s : State) (l : Nat) (rx : SdhSeen) : State :=
  let st := bits (s.val (lineObj l)) 10 0
  let k2 := rx.k2.toNat % 8
  let run := fun (s : State) (b k : Nat) (v : Bool) => if lineMasked st b || s.scrambleOff l then s
    else s.sawRun l (runKey k 0) (boolBit v)
  let s1 := (s.setFld F.SDH_RX_OH_J0_LAST rx.j0.toNat l).setFld F.SDH_RX_OH_S1_RAW rx.s1 l
  let s2 := s1.modLane l fun x => x.traceByte (siteKey .j0) (s.traceMode l .j0) rx.j0
  let s3 := run (run s2 dAisL kAisL (k2 == 7)) dRdiL kRdiL (k2 == 6)
  let s4 := s3.sawRun l (runKey kS1 0) rx.s1
  if s4.apsMasked l then s4.apsBreak l else s4.apsSaw l (apsValueSdh rx.k1 rx.k2)

/-- R83, R295: the bytes of the overhead channels. -/
def State.sdhChannels (s : State) (l : Nat) (rx : SdhSeen) : State :=
  if s.pathsMasked l then [0, 1, 3].foldl (fun s c => s.chanStop l c) s
  else ((s.chanReceive l 0 rx.sdcc).chanReceive l 1 rx.ldcc).chanReceive l 3 [rx.e1, rx.f1, rx.e2]

/-- R98 to R101: the overlay word, and the frame kept for the echo. DESIGN CHOICE (log 19): a frame that arrives before the first
MFS has no index, and is not echoed. -/
def State.sdhOverlay (s : State) (l : Nat) (rx : SdhSeen) : State :=
  if !s.on F.SDH_CONFIG_LEDGER_OVERLAY l || s.heldHalted 8 l then s
  else
    let s0 := if (s.ledger l).reseedAsked then s.reseedLane l else s
    let fit := !s0.laneTesting l && s0.on F.LANE_STATUS_FREQ_OK l && !s0.steppedLately
    let s1 := (s0.setVal (objAt O.ARRIVAL_LAST l) (time96 rx.arrival)).overlayWord l ⟨rx.overlay, rx.arrival, fit⟩
    let i := (s1.lane l).overlay.place rx.arrival
    (s1.modLane l fun x =>
      { x with
        ledger := { x.ledger.hear ⟨rx.arrival, 0, i.getD 0 % 256, rx.b1Errs == 0 && i.isSome⟩ with lastIn := some s.now } }).echoAgain
      l rx.arrival

/-- R133, R95: the SPEs of a frame. A lane whose pointer machinery is halted loses those that it was receiving. -/
def State.sdhPaths (s : State) (l : Nat) (rx : SdhSeen) : State :=
  if s.heldHalted 3 l then s.modLane l fun x => { x with spes := [] } else s.receivePaths l rx.arrival rx.bytes

/-- An SDH frame received in frame. -/
def State.sdhInFrame (s : State) (l : Nat) (rx : SdhSeen) : State :=
  ((((s.sdhParity l rx).sdhOverhead l rx).sdhChannels l rx).sdhOverlay l rx).sdhPaths l rx

/-- An SDH frame that is not received in frame; with the overlay it gives no sample (R197). -/
def State.sdhOut (s : State) (l : Nat) : State :=
  let s0 := if s.on F.SDH_CONFIG_LEDGER_OVERLAY l then s.excludeSample l else s
  let s1 := (s0.apsBreak l).modLane l fun x => { (x.breakRun (runKey kS1 0)) with gather := [], message := [], spes := [] }
  [0, 1, 3].foldl (fun s c => s.chanStop l c) s1

/-- An SDH frame as it was read. -/
def State.sdhTake (s : State) (l : Nat) (rx : SdhSeen) : State :=
  let s1 := s.sawFraming l rx.fawOk rx.pos rx.arrival
  if s1.framedAt l rx.pos then ((s1.sdhInFrame l rx).modLane l fun x => { x with rxSdh := some rx.parity }).laneHook l
  else if (s1.lane l).inFrame then s1
  else (s1.sdhOut l).laneHook l

/-- SDH_FRAME_RECEIVE. -/
def State.sdhReceive (s : State) (l : Nat) (rx : SdhRx) : State :=
  if !s.isSdh l || !s.framing l rx.arrival then s
  else
    match s.rxSymbols l rx.line 0 with
    | some (line, prior) =>
      s.sdhTake l (sdhDecode (s.rate l) (s.on F.SDH_CONFIG_SCRAMBLE_OFF l) (s.lane l).rxSdh rx (s.rxBits l prior line))
    | none => (s.sawFraming l false rx.pos rx.arrival).laneHook l

/-! ### Client blocks -/

/-- R49: the block that the receive path sees of the one at the balls: the lane's own next one in local loopback. -/
def State.rxBlock (s : State) (l : Nat) (x : BitVec 2 × BitVec 64) : Option (BitVec 2 × BitVec 64) :=
  if s.loopLocal l then
    (s.lane l).loop.head?.map fun b => wireBlock (s.on F.LANE_CONFIG_TX_INVERT l) (b.sync, b.bits)
  else some x
def State.loopTaken (s : State) (l : Nat) : State :=
  if s.loopLocal l then s.modLane l fun x => { x with loop := x.loop.drop 1 } else s

/-- A block at the receiver of a CLIENT lane (R105, R135, R136). -/
def State.blockTake (s : State) (l : Nat) (x : BitVec 2 × BitVec 64) : State :=
  let valid := x.1 == 1#2 || x.1 == 2#2
  let s1 := if valid then s else s.modLane l fun x => { x with hbCount := x.hbCount + 1 }
  ((s1.syncHeader l valid).mapBlock l x.1 x.2).laneHook l

/-- CLIENT_BLOCK_RECEIVE. -/
def State.blockReceive (s : State) (l : Nat) (sync : BitVec 2) (payload : BitVec 64) : State :=
  if !s.receives l || !s.isClient l || s.defect l dLos || s.heldHalted 2 l then s
  else
    match s.rxBlock l (sync, payload) with
    | some x => (s.loopTaken l).blockTake l (wireBlock (s.on F.LANE_CONFIG_RX_INVERT l) x)
    | none => s

/-! ### Ready instants (R172) -/

/-- Landing frame L of one lane at r(L). -/
def State.laneReady (s : State) (L l : Nat) : State :=
  let s1 := if s.isTtf l then s.readyTtf l L else if s.isSdh l then s.readySdh l L
    else if s.isClient l then s.readyClient l L else s
  if s.role l = 0 then s else s1.modLane l fun x => { x with sfpNow := s1.sfPaths l }

/-- LANDING_FRAME_READY (R172, R166, R247): every lane's landing frame L is complete, and the groups' choices are fixed. -/
def State.landingReady (s : State) (L : Nat) : State :=
  if !s.active || s.dts < s.readyAt L || s.readyAt (L + 1) ≤ s.dts then s
  else (((List.range numLanes).foldl (fun s l => s.laneReady L l) s).apsFix L).pathWatchAll
def execLandingFrameReady (t : Tick) (L : Nat) (s : State) : Host.Outcome State Fault Refusal :=
  .next ((s.advance t).landingReady L)

end Sys2Proof.Machine
end

