-- ==== Sys2Proof/Machine/Release.lean ====
section
/-! DEFINITION. The cross-connect and cadence release: filling slots (R147 to R167), building the frames that leave (R58 to
R69, R83 to R95, R140), release, late filler, slack and re-phase (R177 to R186). -/

namespace Sys2Proof.Machine

/-! ### Sources (R164, R166, R177) -/

/-- R177: the landing frame that egress frame fn of lane o reads; none before frame K. -/
def State.readsFrame (s : State) (o fn : Nat) : Option Nat := if fn < s.lagOf o fn then none else some (fn - s.lagOf o fn)

/-- R149: the entry sources its slot through the cross-connect. -/
def sourced (e : Entry) : Bool := entryAction e == 0 || entryAction e == 5

/-- The entry that holds the selector of output slot g: member 0's where it is a protected pass entry (R166). -/
def State.selHolder (s : State) (fn g : Nat) : Nat :=
  let first := slotIdx (slotLane g) (s.firstSlot O.TX_DESC (slotLane g) (slotNo g))
  let e := s.xc.entryAt fn first
  if entryAction e == 0 && entryProtEn e then first else g

/-- R167: the choice of the selector at entry e for landing frame L of egress frame fn: protect or working, and whether it moves. -/
def State.selChoice (s : State) (e : Entry) (L fn : Nat) : Bool × Bool :=
  let st := entrySel e
  let cur := st % 2 == 1
  let sel := if cur then entryProt e else entryWork e
  let other := if cur then entryWork e else entryProt e
  if st ≤ 1 && s.sourceFailed sel L fn && !s.sourceFailed other L fn then (!cur, true) else (cur, false)

/-- The source chosen for egress frame fn of the path that holder h selects for: protect or working; none before its first slot
was filled. Frames that overlap (R152) have a place each. -/
def pickKey (h fn : Nat) : Nat := slotNo h * 4 + fn % 4
def State.picked (s : State) (h fn : Nat) : Option Bool :=
  let p := Map.get (0, false) (pickKey h fn) (s.lane (slotLane h)).picks
  if p.1 = fn + 1 then some p.2 else none

/-- The source that slot g of egress frame fn was filled from: protect or working. -/
def State.filledFrom (s : State) (fn g : Nat) : Bool :=
  entryProtEn (s.xc.entryAt fn g) && (s.picked (s.selHolder fn g) fn).getD false

/-- R167: the hardware moves the selector that h holds. -/
def State.autoSwitch (s : State) (fn h : Nat) (prot : Bool) : State :=
  (((s.outMembers h).foldl (fun s m => s.setSelOn (s.xc.pageFor fn) m (boolBit prot)) s).bump
    (objAt O.SEL_SWITCHES (slotLane h))).raise F.SEL_STICKY_AUTO_SWITCH (slotLane h)

/-- R166, R167: the source of egress frame fn is chosen when its first slot is filled, for the whole frame. What the controller wrote
in this frame stands. -/
def State.pickSource (s : State) (fn L g : Nat) : Bool × State :=
  let h := s.selHolder fn g
  let e := s.xc.entryAt fn h
  let written := Map.get 0 h s.xc.ctl == s.fn + 1
  if !entryProtEn e then (false, s)
  else
    match s.picked h fn with
    | some p => (p, s)
    | none =>
      let c := if written then (entrySel e % 2 == 1, false) else s.selChoice e L fn
      let s1 := if c.2 then s.autoSwitch fn h c.1 else s
      (c.1, s1.modLane (slotLane h) fun x => { x with picks := Map.set (0, false) (pickKey h fn) (fn + 1, c.1) x.picks })

/-- The source slot of an output slot under its entry: its own ingress slot for a loop. -/
def entrySource (e : Entry) (g : Nat) (prot : Bool) : Nat :=
  if entryAction e = 5 then g else if prot then entryProt e else entryWork e

/-- What slot src of lane r gives for landing frame L: none where it is not there to be read. -/
def State.readSlot (s : State) (r src L : Nat) : Option Cell :=
  match s.landing r L with
  | some x => if s.readable r x (slotNo src) then some (s.landed r x (slotNo src)) else none
  | none => none

/-- R247, R169: what an entry's source slot gives egress frame fn. A loop entry names no source (R149), and reads its own lane. -/
def State.readSource (s : State) (e : Entry) (src L fn : Nat) : Option Cell :=
  let l := slotLane src
  let r := if entryAction e = 5 then l else s.readLane l L
  if s.cutOff r fn L then some aisCell
  else (s.readSlot r src L).map fun c => if entryAction e != 5 && s.extraAis l L then aisCell else c

/-- The instant from which the source's landing frame is complete. -/
def State.sourceComplete (s : State) (e : Entry) (src L : Nat) : Option Tick :=
  let l := slotLane src
  (s.landing (if entryAction e = 5 then l else s.readLane l L) L).bind (·.complete)

/-- R181: the instant at which the source's landing frame became absent. -/
def State.absentSince (s : State) (src L : Nat) : Option Tick :=
  (s.landing (s.readLane (slotLane src) L) L).bind fun x => if x.absent then x.complete else none

/-- R181: output slot g has read the landing frames that its entry names. -/
def State.markRead (s : State) (e : Entry) (g L : Nat) : State :=
  let mark := fun (s : State) (l : Nat) =>
    match s.landing l L with
    | some x => if x.reads.any (·.1 == g) then s else s.putLanding l { x with reads := (g, s.dts) :: x.reads }
    | none => s
  if entryAction e = 5 then mark s (slotLane g)
  else
    let s1 := mark s (slotLane (entryWork e))
    if entryProtEn e then mark s1 (slotLane (entryProt e)) else s1

/-! ### Slots complete (R179) -/

/-- Cells kept in a release store: those of the frames not yet two frames old. -/
def keepCells (fn : Nat) (cs : List StoreCell) : List StoreCell := cs.filter fun c => fn ≤ c.fn + 2

/-- The slack of a frame is known: SLACK_LAST and SLACK_MIN (R179). -/
def State.noteSlack (s : State) (o : Nat) (v : Int) : State :=
  (s.setFld F.SLACK_LAST_SLACK (unsigned 32 v) o).setFld F.SLACK_MIN_SLACK
    (unsigned 32 (min v (s.sfld F.SLACK_MIN_SLACK o))) o

/-- R179: the lane with the lowest slack of a list, the lowest number of a tie. -/
def leastSlack (xs : List (Nat × Nat × Option Int)) : Option (Nat × Int) :=
  (List.range numLanes).foldl (fun (acc : Option (Nat × Int)) l =>
    match (xs.find? (·.1 == l)).bind (·.2.2), acc with
    | some x, some (b, y) => if x < y then some (l, x) else some (b, y)
    | some x, none => some (l, x)
    | none, acc => acc) none

/-- WORST_SLACK over frame fn. -/
def State.showWorst (s : State) (fn : Nat) : State :=
  match leastSlack (s.slacks.filter fun p => p.2.1 == fn && s.role p.1 != 0) with
  | some (l, x) => (s.setFld F.WORST_SLACK_SLACK (unsigned 32 x)).setFld F.WORST_SLACK_LANE_LANE l
  | none => (s.setFld F.WORST_SLACK_SLACK 0x7FFFFFFF).setFld F.WORST_SLACK_LANE_LANE 127

/-- WORST_SLACK once every lane in use has released frame fn. -/
def State.worstSlack (s : State) (fn : Nat) : State :=
  let at_ := s.slacks.filter fun p => p.2.1 == fn
  if (List.range numLanes).all (fun l => s.role l == 0 || at_.any (·.1 == l)) && s.worstFn.all (· < fn) then
    { s with slacks := s.slacks.filter (fun p => fn ≤ p.2.1), worstFn := some fn }.showWorst fn
  else s

/-- Every late slot of a frame has completed, or never will: its slack is known. DESIGN CHOICE (log 24): WORST_SLACK takes it while it
still shows that frame. -/
def State.slackKnown (s : State) (o : Nat) (f : LateFrame) : State :=
  let s1 := (s.noteSlack o f.slack).modLane o fun x => { x with late := none }
  let s2 := { s1 with slacks := s1.slacks.map fun p => if p.1 = o && p.2.1 = f.fn then (p.1, p.2.1, some f.slack) else p }
  if s.worstFn = some f.fn then s2.showWorst f.fn else s2

/-- A slot that completes after its frame left: its data is discarded, and the slack of that frame falls (R179, R180). -/
def State.lateSlot (s : State) (o : Nat) (f : LateFrame) (k : Nat) : State :=
  let sl := max (-125000) (roundDiv ((f.at_ : Int) - s.dts) ns)
  let f1 := { f with slots := f.slots.filter (· != k), slack := min f.slack sl }
  if f1.slots.isEmpty then s.slackKnown o f1 else s.modLane o fun x => { x with late := some f1 }

/-- R447: the instant at which a slot counts as written. With VDD_CORE at the top of its range that is within 4 µs of the landing
frame's completion (log 24). -/
def State.writtenAt (s : State) (from_ : Option Tick) : Tick :=
  if s.fld F.POWER_STATUS_VCORE_MV = 880 then from_.elim s.dts fun x => min s.dts (x + 4 * us) else s.dts

/-- SLOT_COMPLETE: the output slot of egress frame fn is written into the release store. -/
def State.slotDone (s : State) (o fn k : Nat) : State :=
  let g := slotIdx o k
  let e := s.xc.entryAt fn g
  if !s.active || s.laneSlots o ≤ k || !sourced e || s.heldHalted 7 o then s
  else
    match s.readsFrame o fn with
    | none => s
    | some L =>
      let p := if entryAction e = 0 then s.pickSource fn L g else (false, s)
      match p.2.readSource e (entrySource e g p.1) L fn with
      | none => s
      | some c =>
        let s1 := p.2.markRead e g L
        let done := s1.writtenAt (s1.sourceComplete e (entrySource e g p.1) L)
        let x := s1.lane o
        if x.lastRel.any (fn ≤ ·) then
          match x.late with
          | some f => if f.fn = fn && f.slots.contains k then s1.lateSlot o f k else s1
          | none => s1
        else if x.store.any (fun y => y.fn == fn && y.s == k) then s
        else s1.modLane o fun y => { y with store := keepCells fn (y.store ++ [⟨fn, k, done, c⟩]) }

/-- R167: the choice made for egress frame fn of the path that holder h selects for is made again. -/
def State.unpick (s : State) (h fn : Nat) : State :=
  if (s.picked h fn).isSome then
    s.modLane (slotLane h) fun x => { x with picks := Map.erase (pickKey h fn) x.picks }
  else s

/-- R169: what the release store of lane o holds in place y is read anew, by the page and the lanes in force. -/
def State.refill (s : State) (o : Nat) (y : StoreCell) : State :=
  let g := slotIdx o y.s
  let e := s.xc.entryAt y.fn g
  match s.readsFrame o y.fn with
  | none => s
  | some L =>
    let p := if entryAction e = 0 then s.pickSource y.fn L g else (false, s)
    match p.2.readSource e (entrySource e g p.1) L y.fn with
    | none => s
    | some c =>
      p.2.modLane o fun x =>
        { x with store := x.store.map fun z => if z.fn = y.fn && z.s = y.s then { z with cell := c } else z }

/-- The places of egress frames from fn on, in every release store. -/
def State.storedFrom (s : State) (fn : Nat) : List (Nat × StoreCell) :=
  s.lanes.flatMap fun (p : Nat × Lane) => (p.2.store.filter fun y => decide (fn ≤ y.fn)).map fun y => (p.1, y)

/-- Place y of lane o was filled from lane l. -/
def State.filledBy (s : State) (l o : Nat) (y : StoreCell) : Bool :=
  let g := slotIdx o y.s
  let e := s.xc.entryAt y.fn g
  let k := slotLane (entrySource e g (s.filledFrom y.fn g))
  sourced e && (if entryAction e = 5 then k == l else (s.readsFrame o y.fn).any fun L => s.readLane k L == l)

/-- R169, step 3: lane l changes at the current frame: what is stored from it for this frame and later ones carries AIS, or the
protect source. -/
def State.failStores (s : State) (l : Nat) : State :=
  let hit := (s.storedFrom s.fn).filter fun p => s.filledBy l p.1 p.2
  let s1 := s.modLane l fun x => { x with changedAt := some s.fn }
  let s2 := hit.foldl (fun s p => s.unpick (s.selHolder p.2.fn (slotIdx p.1 p.2.s)) p.2.fn) s1
  hit.foldl (fun s p => s.refill p.1 p.2) s2

/-- R155: what is stored for output slots whose entries a switch at the current frame rewrites is read by the new page. -/
def State.refillSlots (s : State) (gs : List Nat) : State :=
  ((s.storedFrom s.fn).filter fun p => gs.contains (slotIdx p.1 p.2.s)).foldl (fun s p => s.refill p.1 p.2) s

/-! ### Content of an egress slot (R148, R150, R180) -/

/-- Every bit of a PRBS register set: where its sequence starts (log 24). -/
def prbsStart (code : Nat) : Nat := if code = 0 then 2 ^ 31 - 1 else 2 ^ 23 - 1

/-- k bytes of a PRBS from register x: newest last, with the register after. -/
def prbsBytes (code : Nat) : Nat → Nat → List Byte × Nat
  | 0, x => ([], x)
  | k + 1, x =>
    let b := prbsBits code 8 x 0
    let r := prbsBytes code k b.2
    (BitVec.ofNat 8 b.1 :: r.1, r.2)

/-- Bytes put at the places of a slot's payload that carry the pattern; where the slot holds its path's overhead column, that is
left 0x00 (R133). -/
def spread (poh : Bool) : Nat → Nat → List Byte → List Byte
  | 0, _, _ => []
  | k + 1, p, bs =>
    if poh && p % 87 == 0 then 0 :: spread poh k (p + 1) bs
    else bs.headD 0 :: spread poh k (p + 1) (bs.drop 1)

/-- The test pattern of output slot k in egress frame fn (R150), and the generator after it. -/
def State.testCell (s : State) (o k code fn : Nat) : Cell × State :=
  let poh := s.pohSlot O.TX_DESC o k
  if code ≤ 1 then
    let old := Map.get 0 k (s.lane o).prbs
    let r := prbsBytes code (if poh then 774 else 783) (if old = 0 then prbsStart code else old)
    (⟨.test, spread poh 783 0 r.1⟩, s.modLane o fun x => { x with prbs := Map.set 0 k r.2 x.prbs })
  else if code = 2 then
    (⟨.test, spread poh 783 0 (List.replicate 783 (BitVec.ofNat 8 (s.fld F.TEST_BYTE_BYTE)))⟩, s)
  else
    (⟨.test, (List.range 783).map fun p => if poh && p % 87 == 0 then 0 else BitVec.ofNat 8 (fn + p)⟩, s)

def State.storeOf (s : State) (o fn k : Nat) : Option StoreCell :=
  (s.lane o).store.find? fun y => y.fn == fn && y.s == k

/-- One landing frame of an SDH source holds no SPE, one, or two where the far end drifts (R176). Only an SDH line takes it as it is;
another sends late filler, or the later SPE (DESIGN CHOICE, log 70). -/
def wholeCell (c : Cell) : Cell :=
  if c.payload.isEmpty then lateCell else { c with payload := c.payload.drop (c.payload.length - 783) }

/-- R180: what the release store holds of slot k at instant x: late filler where the slot is not complete by then. -/
def State.storedCell (s : State) (o fn k : Nat) (x : Tick) : Cell :=
  match (s.storeOf o fn k).filter (·.done ≤ x) with
  | some y => if s.isSdh o then y.cell else wholeCell y.cell
  | none => lateCell

/-- The cell of output slot k of lane o in egress frame fn, released at x. -/
def State.egressCell (s : State) (o fn k : Nat) (x : Tick) : Cell × State :=
  let g := slotIdx o k
  let e := s.xc.entryAt fn g
  if descType (s.txDesc o k) = 0 then (unequippedCell, s)
  else if s.xc.broken.contains g then (aisCell, s)
  else
    match entryAction e with
    | 1 => (aisCell, s)
    | 3 => (lateCell, s)
    | 4 => s.testCell o k (entryWork e % 8) fn
    | 2 => (unequippedCell, s)
    | _ => (s.storedCell o fn k x, s)

/-- Every slot of lane o in egress frame fn. -/
def State.egressCells (s : State) (o fn : Nat) (x : Tick) : List (Nat × Cell) × State :=
  (List.range (s.laneSlots o)).foldl (fun a k =>
    let c := a.2.egressCell o fn k x
    (a.1 ++ [(k, c.1)], c.2)) ([], s)

/-! ### A TTF frame that leaves (R58 to R72) -/

def ssOf : SlotStatus → Nat
  | .pass => 0
  | .ais => 1
  | .unequipped => 2
  | .late => 3
  | .test => 4

/-- R121: SR bit 7. -/
def State.slotRdiSent (s : State) (l k : Nat) : Bool :=
  s.rdiCause l == 0 &&
  (match s.landing l (s.newestLanding l) with
   | some x => !x.ais && (s.landed l x k).st == .ais
   | none => false)

/-- Byte k of what covers a frame that was never sent: the spec gives it no value (log 70). -/
def State.openByte (s : State) (k : Nat) : Byte := Config.lineByte ((s.free + 1) * 1048576 + k)

/-- R60: SB of a slot, over the frame that left before. -/
def State.sbSent (s : State) (l k : Nat) : Byte :=
  match (s.lane l).lastTx.bind (·.ttf) with
  | some f => bip8 (ttfCell f k).payload
  | none => s.openByte k

/-- R60, R62: the slot cells of a frame; a slot that reads as one not listed is not listed. -/
def State.ttfSlots (s : State) (l : Nat) (cells : List (Nat × Cell)) : List SlotCell :=
  let known := ((s.lane l).lastTx.bind (·.ttf)).isSome
  cells.filterMap fun p =>
    let sb := s.sbSent l p.1
    let sr := flagBit (s.slotRdiSent l p.1) 128 + min 8 (Map.get 0 p.1 (s.lane l).repSlot)
    if known && p.2.st == .unequipped && sb == 0 && sr == 0 then none else some ⟨p.1, ssOf p.2.st, sb, sr, p.2.payload⟩

/-- GALLERY_EPOCH sent: 0 when not a gallery member (R58). -/
def State.epochSent (s : State) : Nat := if s.fld F.GALLERY_STATUS_STATE = 2 then s.fld F.GALLERY_EPOCH_EPOCH else 0

/-- TTF frame fn of lane l at release instant x, but for its section BIP. -/
def State.buildTtf (s : State) (l fn : Nat) (x : Tick) : TtfFrame × State :=
  let c := s.egressCells l fn x
  let g := c.2.chanSend l 2
  let y := s.lane l
  let cause := s.rdiCause l
  let f : TtfFrame :=
    { tsz := ttfSize (s.rate l), mfc := fn % 256, srcTag := s.fld F.TTF_TX_TAG_TAG l, srcLane := l, bip := 0
      remErr := min 15 y.repBip * 4096 + min 4095 y.repCw, rdi := cause != 0, rdiCause := cause, aps := s.apsBytes l
      gcc := g.1, txTime := 0, echoTime := 0, turnaround := 0, echoMfc := 0, echoValid := false, echoSkipped := false
      clockClass := s.classFor (l + 16), steps := s.fld F.LOOP_STATUS_STEPS, timeRoot := s.rootOn
      timeStepped := s.steppedLately, galleryEpoch := s.epochSent, digest := s.digest O.TX_DESC l, slots := s.ttfSlots l c.1 }
  (s.ttfTimes l x f, g.2.modLane l fun z => { z with repBip := 0, repCw := 0, repSlot := [] })

/-! ### An SDH frame that leaves (R83 to R95) -/

/-- The byte a trace mode sends in frame fn. DESIGN CHOICE (log 20): the message stands at the frame number modulo its length. -/
def traceSent (mode fn : Nat) (bs : List Byte) : Byte := bs.getD (fn % traceLen mode) 0

/-- J0 sent. -/
def State.j0Sent (s : State) (l fn : Nat) : Byte :=
  if s.traceMode l .j0 = 0 then BitVec.ofNat 8 (s.fld F.SDH_TX_OH_J0_BYTE l)
  else traceSent (s.traceMode l .j0) fn (s.traceTx l .j0)

/-- G1 sent, in mode terminate (R95, R116). -/
def State.g1Sent (s : State) (l k : Nat) : Byte :=
  BitVec.ofNat 8 (min 8 (Map.get 0 k (s.lane l).repPath) * 16 + s.g1Code l k * 2)

/-- The path overhead bytes generated for the path at first slot k (R93, R95): J1 and B3, C2, and G1. -/
def State.pathJ1B3 (s : State) (l fn k : Nat) (b3 : Byte) (payload : List Byte) : List Byte :=
  (payload.set 0 (traceSent (s.traceMode l (.j1 k)) fn (s.traceTx l (.j1 k)))).set 87 b3
def State.pathC2 (s : State) (l k : Nat) (payload : List Byte) : List Byte :=
  payload.set 174 (BitVec.ofNat 8 (s.fld F.PATH_CONFIG_C2_TX l k))
def State.pathG1 (s : State) (l k : Nat) (payload : List Byte) : List Byte :=
  if s.fld F.PATH_CONFIG_POH_MODE l k = 1 then payload.set 261 (s.g1Sent l k) else payload

/-- The SPE of a path's first slot as sent, by what its entry does (R93): `pass` goes by POH_MODE, a pattern and an unequipped path
have their overhead generated; AIS and late filler are what they are. A source without an SPE gives none. -/
def State.pathSpe (s : State) (l fn k : Nat) (pass : Bool) (b3 : Byte) (c : Cell) : Cell :=
  let whole := fun (bs : List Byte) => s.pathG1 l k (s.pathC2 l k (s.pathJ1B3 l fn k b3 bs))
  if c.st == .ais || c.st == .late || c.payload.isEmpty then c
  else if pass then (if s.fld F.PATH_CONFIG_POH_MODE l k = 1 then { c with payload := whole c.payload } else c)
  else if c.st == .test then { c with payload := whole c.payload }
  else { c with payload := s.pathJ1B3 l fn k b3 c.payload }

/-- A member's SPE as the line carried it: all ones under a forced AIS-L. -/
def sentSpe (f : SdhTx) (m : Nat) : List Byte :=
  if f.aisL then List.replicate 783 0xFF else ((f.slots.find? (·.1 == m)).map (·.2.2.payload)).getD []

/-- B3 over the path's previous SPE as sent. -/
def State.b3Sent (s : State) (l k : Nat) (ms : List Nat) : Byte :=
  match (s.lane l).lastTx.bind (·.sdh) with
  | some f => bip8 (ms.flatMap (sentSpe f))
  | none => s.openByte (4096 + k)

/-- R92: the place that an SDH source's SPE holds against DTS; none for a source of another role. -/
def State.sourcePlace (s : State) (e : Entry) (src L : Nat) : Option Int :=
  let r := if entryAction e = 5 then slotLane src else s.readLane (slotLane src) L
  if !s.isSdh r then none
  else
    match s.landing r L with
    | some x => (x.spe.find? (·.1 == s.firstSlot O.RX_DESC r (slotNo src))).map fun p => (p.2.2 : Int) - s.readyAt L
    | none => none

/-- A place continued from the one before it across a frame. -/
def nearPlace (old new : Int) : Int :=
  let d := (new - old + (frame / 2 : Nat)) % (frame : Nat) - (frame / 2 : Nat)
  old + d

/-- R92, R94: the justification of egress frame fn for the path at first slot k. Another source starts from its own place, and none
is generated while the path carries AIS. -/
def State.justifyPath (s : State) (l fn k : Nat) (ais : Bool) : Int × State :=
  let g := slotIdx l k
  let e := s.xc.entryAt fn g
  let src := entrySource e g (s.filledFrom fn g)
  let old : Justify := Map.get {} k (s.lane l).justify
  let j : Justify := if ais || old.source ≠ src then { old with source := src, place := none } else old
  let put := fun (s : State) (j : Justify) => s.modLane l fun x => { x with justify := Map.set {} k j x.justify }
  if !sourced e then (0, s)
  else
    match (s.readsFrame l fn).bind fun L => s.sourcePlace e src L with
    | some p =>
      if ais then (0, put s j)
      else
        let r := j.step fn (nearPlace (j.place.getD p) p)
        (r.1, (put s r.2).countPj l k r.1)
    | none => (0, put s j)

/-- The concatenation indication of a member slot (R91). -/
def concatWord (ss : Nat) : BitVec 16 := BitVec.ofNat 16 (9 * 4096 + ss * 1024 + 1023)

/-- One slot on the line (R92, R133): its SPE bytes follow those on their way from the place v of its path; AIS fills the frame with
ones. What an SPE that did not come lacks is open (log 70). -/
def State.slotLine (s : State) (l k v : Nat) (mv : Int) (c : Cell) : SlotColumns × State :=
  let rest := fitRest k v (Map.get [] k (s.lane l).txRest)
  let lack := 784 + 261 + v - rest.length - c.payload.length
  let spe := if 783 ≤ rest.length + c.payload.length - (261 + v) then c.payload
    else c.payload ++ (List.range lack).map fun i => s.openByte (8192 + 2048 * k + i)
  let r := if c.st == .ais then (⟨List.replicate 261 0xFF, 0xFF, List.replicate 522 0xFF⟩, List.replicate (261 + v) 0xFF)
    else slotFrame rest spe mv
  (r.1, s.modLane l fun x => { x with txRest := Map.set [] k r.2 x.txRest })

/-- A path as sent: its slots with pointer words and content, and their columns. -/
structure PathOut where
  slots : List (Nat × BitVec 16 × Cell)
  columns : List (Nat × SlotColumns)
  deriving DecidableEq, Repr

/-- One path as sent, from first slot k on (R93). -/
def State.sdhPath (s : State) (l fn k : Nat) (cells : List (Nat × Cell)) : PathOut × State :=
  let ms := match s.members O.TX_DESC l k with
    | [] => [k]
    | m :: r => m :: r
  let e := s.xc.entryAt fn (slotIdx l k)
  let cell := fun (m : Nat) => ((cells.find? (·.1 == m)).map (·.2)).getD unequippedCell
  let ais := (cell k).st == .ais
  let moved := ((Map.get {} k (s.lane l).justify : Justify).moved + s.fld F.TX_POINTER_OFFSET l) % 783
  let v := (moved % 783).toNat
  let r := s.justifyPath l fn k ais
  let ss := s.fld F.SDH_CONFIG_SS_TX l
  let b3 := s.b3Sent l k ms
  let body := fun (m : Nat) =>
    let c := cell m
    if c.st == .late then (⟨.late, List.replicate 783 0xFF⟩ : Cell)
    else if m = k then s.pathSpe l fn k (sourced e && descType (s.txDesc l k) != 0) b3 c
    else c
  let word := fun (m : Nat) => if ais then 0xFFFF#16 else if m = k then pointerWord ss v r.1 else concatWord ss
  let out := ms.foldl (fun (a : PathOut × State) m =>
    let q := a.2.slotLine l m v r.1 (if ais then aisCell else body m)
    (⟨a.1.slots ++ [(m, word m, body m)], a.1.columns ++ [(m, q.1)]⟩, q.2)) (⟨[], []⟩, r.2)
  (out.1, out.2.modLane l fun x => { x with repPath := Map.erase k x.repPath })

/-- First slots of the lane's output paths; a TYPE 0 slot stands alone. -/
def State.outFirsts (s : State) (l : Nat) : List Nat :=
  (List.range (s.laneSlots l)).filter fun k =>
    descType (s.txDesc l k) == 0 || s.firstSlot O.TX_DESC l k == k

/-- SDH frame fn of lane l at release instant x, but for B1 and B2. -/
def State.buildSdh (s : State) (l fn : Nat) (x : Tick) : SdhTx × State :=
  let c := s.egressCells l fn x
  let ps := (s.outFirsts l).foldl (fun (a : PathOut × State) k =>
    let r := a.2.sdhPath l fn k c.1
    (⟨a.1.slots ++ r.1.slots, a.1.columns ++ r.1.columns⟩, r.2)) (⟨[], []⟩, c.2)
  let d0 := ps.2.chanSend l 0
  let d1 := d0.2.chanSend l 1
  let d3 := d1.2.chanSend l 3
  let ov := if s.on F.SDH_CONFIG_LEDGER_OVERLAY l then
      d3.2.overlayOut l fn x (s.classFor (l + 16)) (s.fld F.LOOP_STATUS_STEPS) s.rootOn s.steppedLately
    else (0, d3.2)
  let y := s.lane l
  ({ j0 := s.j0Sent l fn, b1 := 0, b2 := [], k1 := s.apsK1 l, k2 := s.apsK2 l ||| s.k2Low l, s1 := s.s1For l
     reiL := min (reiMax (s.rate l) (s.on F.SDH_CONFIG_REI_L_M0M1 l)) y.repB2
     e1 := d3.1.getD 0 0, f1 := d3.1.getD 1 0, e2 := d3.1.getD 2 0, sdcc := d0.1, ldcc := d1.1, overlay := ov.1
     aisL := s.on F.DEFECT_CONFIG_FORCE_AIS_L l, slots := ps.1.slots, columns := ps.1.columns },
    ov.2.modLane l fun z => { z with repB2 := 0 })

/-! ### Frames of any role -/

/-- Frame fn of lane l at release instant x, from its own entries. -/
def State.buildOwn (s : State) (l fn : Nat) (x : Tick) : TxFrame × State :=
  let base : TxFrame := { fn, at_ := x }
  if s.isTtf l then
    let r := s.buildTtf l fn x
    ({ base with ttf := some r.1 }, r.2)
  else if s.isSdh l then
    let r := s.buildSdh l fn x
    ({ base with sdh := some r.1 }, r.2)
  else
    let c := s.egressCells l fn x
    let r := c.2.demap l fn x (c.1.map (·.2))
    ({ base with client := r.1 }, r.2)

/-- R247: the frame of working lane w as protection lane l sends it: its own APS channel and ledger fields. What lane l has to report
of its own (R62, R86) is neither sent nor set back, and goes with its first own frame after (DESIGN CHOICE, log 22). -/
def State.mirrored (s : State) (l fn : Nat) (x : Tick) (f : TxFrame) : TxFrame × State :=
  let ov := if s.isSdh l && s.on F.SDH_CONFIG_LEDGER_OVERLAY l then
      s.overlayOut l fn x (s.classFor (l + 16)) (s.fld F.LOOP_STATUS_STEPS) s.rootOn s.steppedLately
    else (0, s)
  ({ f with
     at_ := x, fill := [], cut := none, offset := 0
     ttf := f.ttf.map fun g => s.ttfTimes l x { g with aps := s.apsBytes l }
     sdh := f.sdh.map fun g => { g with k1 := s.apsK1 l, k2 := s.apsK2 l ||| (g.k2 &&& 7), overlay := ov.1 } }, ov.2)

/-- Frame fn of lane l: its own, or the working lane's (R247). Where the working lane has sent its frame already, that
frame is repeated; where it has not, the frame is formed as that lane's would be. -/
def State.buildFrame (s : State) (l fn : Nat) (x : Tick) : TxFrame × State :=
  match s.mirrors l with
  | none => s.buildOwn l fn x
  | some w =>
    match (s.lane w).lastTx with
    | some f => if f.fn = fn then s.mirrored l fn x f else s.mirrored l fn x (s.buildOwn w fn x).1
    | none =>
      let r := s.buildOwn w fn x
      r.2.mirrored l fn x r.1

/-! ### Whether a frame is sent (R49, R51, R55, R261, R267) -/

/-- R261, R267, R268: the tandem function lets egress frame fn out. -/
def State.tandemSends (s : State) (fn : Nat) : Bool :=
  !s.tandemOn ||
  (s.fld F.TANDEM_STATUS_ROLE == 1 && s.fld F.TAKEOVER_FN_FN ≤ fn && s.tandem.relinquishAt.all (fn ≤ ·))

/-- The lane's transmitter runs at egress frame fn. -/
def State.transmits (s : State) (l fn : Nat) : Bool :=
  s.on F.LANE_STATUS_TX_READY l && (s.lane l).txFrom.all (· < fn * frame) && !s.dark && s.tandemSends fn

/-- R49, R51: it takes egress frames: no generator replaces them, and no line loopback. -/
def State.sends (s : State) (l fn : Nat) : Bool :=
  s.transmits l fn && s.fld F.PATTERN_CTRL_GEN l == 0 && !s.loopLine l

/-- R49: the balls are silent in local loopback without LOCAL_TX. -/
def State.silent (s : State) (l : Nat) : Bool := s.loopLocal l && !s.on F.LOOPBACK_LOCAL_TX l

/-- R182: a re-phase is counted where the line was sending and the frame does not start at its end. Answers that end. -/
def State.rephase (s : State) (l : Nat) (x : Tick) : Option Tick × State :=
  match (s.lane l).lastTx, (s.lane l).txEnd with
  | some _, some e =>
    if e = x then (none, s) else (some e, (s.bumpLive (objAt O.REPHASE l)).raise F.LR_STICKY_REPHASE l)
  | _, _ => (none, s)

/-- R169 step 6: the transmit side of a transition is complete with a frame of the new settings. -/
def State.sentDone (s : State) (l fn : Nat) : State := if (s.relAt l fn).isSome then s else s.txDone l

/-- The lowest bit of a byte inverted, where asked. -/
def flipBit0 (b : Byte) (on : Bool) : Byte := if on then b ^^^ 1 else b

/-- R60, R85: the parities that cover the frame sent before, with the inversions asked for. -/
def State.stamped (s : State) (l : Nat) (f : TxFrame) : TxFrame :=
  let x := s.lane l
  match f.ttf, f.sdh with
  | some g, _ =>
    let b := match x.lastTx.bind (·.ttf) with
      | some p => sectionBip (ttfN (s.rate l)) p
      | none => s.openByte 2048
    { f with ttf := some { g with bip := flipBit0 b x.injectBip } }
  | none, some g =>
    let n := sdhN (s.rate l)
    let p : SdhParity := x.txSdh.getD ⟨s.openByte 2048, (List.range (3 * n)).map fun i => s.openByte (2049 + i)⟩
    { f with
      sdh := some { g with
        b1 := flipBit0 p.b1 x.injectB1
        b2 := p.b2.set 0 (flipBit0 (p.b2.headD 0) x.injectB2) } }
  | none, none => f

/-- R182: the frame whose leading bytes fill a gap: the overhead of frame f, and late filler in every slot. DESIGN CHOICE (log 24): a
client line fills with idle blocks. -/
def State.fillFrame (s : State) (l : Nat) (f : TxFrame) : TxFrame :=
  let ks := List.range (s.laneSlots l)
  { f with
    ttf := f.ttf.map fun g => { g with slots := ks.map fun k => ⟨k, 3, (ttfCell g k).sb, (ttfCell g k).sr, List.replicate 783 0⟩ }
    sdh := f.sdh.map fun g =>
      { g with columns := ks.map fun k => (k, ⟨List.replicate 261 0xFF, 0, List.replicate 522 0xFF⟩) }
    client := List.replicate (s.clientKbps l * 125 / 66000 + 1) idleBlock }

/-- Symbols that the line carries in d ticks (R36). -/
def State.symbolsIn (s : State) (l : Nat) (d : Tick) : Nat := d * s.lineRate l / sec / (if s.isPam4 l then 2 else 1)

/-- R182: what precedes frame f at x where the frame before it ends at e: the fill of a gap, or the cut of that frame; and the last
symbol before f. -/
def State.joined (s : State) (l : Nat) (f : TxFrame) (x e : Tick) : TxFrame × Nat :=
  let y := s.lane l
  if e < x then
    let fill := (s.txSymbols l y.txPrior (s.lineOf l (s.fillFrame l f)).1).take (s.symbolsIn l (x - e))
    ({ f with fill }, fill.getLast?.getD y.txPrior)
  else
    let line := (y.lastTx.map (·.line)).getD []
    let k := line.length - s.symbolsIn l (e - x)
    ({ f with cut := some k }, (line.take k).getLast?.getD y.txPrior)

/-- The frame f leaves at x; `e` is where the frame before it was to end, where that is not x (R182). R49: what a local loopback
receives is what left before. -/
def State.putOnLine (s : State) (l : Nat) (f : TxFrame) (x : Tick) (e : Option Tick) : State :=
  let j := (e.map (s.joined l f x)).getD (f, (s.lane l).txPrior)
  let loop := if s.loopLocal l then ((s.lane l).loop ++ f.client).reverse.take 4096 |>.reverse else []
  (s.modLane l fun z =>
    { z with
      prevTx := z.lastTx, txEnd := some (x + frame), injectBip := false, injectB1 := false, injectB2 := false, loop
      ledger := z.ledger.keepSent f.fn (time96 x) }).onLine l j.1 j.2

/-- R66, R193: a frame that leaves; the lane's transmit side of a transition is complete (R169 step 6). -/
def State.sendFrame (s : State) (l fn : Nat) (x : Tick) : State :=
  let r := s.rephase l x
  let b := r.2.buildFrame l fn x
  let f := b.2.stamped l { b.1 with squelched := s.silent l }
  ((b.2.drawn).putOnLine l f x r.1).sentDone l fn

/-- Bits that the line carries in the period of frame fn. -/
def State.frameBits (s : State) (l fn : Nat) : Nat :=
  let r := s.lineRate l / 8000
  if s.isClient l then (fn + 1) * s.lineRate l / 8000 - fn * s.lineRate l / 8000 else r

/-- R51: in the period of egress frame fn the transmitter sends its pattern. An error asked for inverts one bit (log 71: the first of
the period, one for each asked for). -/
def State.sendPattern (s : State) (l fn : Nat) (x : Tick) : State :=
  let y := s.lane l
  let k := s.frameBits l fn / (if s.isPam4 l then 2 else 1)
  let p := patternBits (s.isPam4 l) (s.fld F.PATTERN_CTRL_GEN l) y.genReg k
  let bits := (p.1.take y.injectErr).map (!·) ++ p.1.drop y.injectErr
  let line := s.txSymbols l y.txPrior bits
  s.modLane l fun z =>
    { z with
      prevTx := z.lastTx, lastTx := some { fn, at_ := x, squelched := s.silent l, line, prior := y.txPrior }
      txPrior := line.getLast?.getD y.txPrior, txEnd := some (x + frame), txSdh := none, genReg := p.2, injectErr := 0, loop := [] }

/-- A lane that does not send. -/
def State.sendNothing (s : State) (l : Nat) : State :=
  s.modLane l fun y => { y with lastTx := none, txEnd := none, txSdh := none, prevTx := none, loop := [] }

/-- Egress frame fn of lane l at its release instant: it leaves, or is discarded (R49, R51). -/
def State.letGo (s : State) (l fn : Nat) (x : Tick) : State :=
  if s.loopLine l && s.transmits l fn then s.modLane l fun y => { y with txEnd := none }
  else if !s.transmits l fn then s.sendNothing l
  else if s.fld F.PATTERN_CTRL_GEN l ≠ 0 then s.sendPattern l fn x
  else s.sendFrame l fn x

/-- R38, R49: in line loopback the balls send what the receiver has recovered, bit for bit, on its own clock. -/
def State.lineEcho (s : State) (l prior : Nat) (line : List Nat) : State :=
  if !s.loopLine l || !s.active || !s.on F.LANE_STATUS_CDR_LOCK l || !s.transmits l s.fn then s
  else
    let sent := s.txSymbols l (s.lane l).txPrior (s.rxBits l prior line)
    let f : TxFrame :=
      { fn := s.fn, at_ := s.dts, line := sent, prior := (s.lane l).txPrior, offset := s.sfld F.RX_FREQ_OFFSET_OFFSET l }
    s.modLane l fun y =>
      { y with prevTx := y.lastTx, lastTx := some f, txPrior := sent.getLast?.getD y.txPrior, txEnd := none, txSdh := none }

/-- The symbols of a client block on the line, the sync header first. -/
def blockLine (sync : BitVec 2) (payload : BitVec 64) : List Nat :=
  [boolBit (sync.getLsbD 1), boolBit (sync.getLsbD 0)] ++ (List.range 64).map fun i => boolBit (payload.getLsbD (63 - i))

/-! ### Slack (R179) -/

/-- Output slots of lane o that egress frame fn sources through the cross-connect; a protection lane that mirrors sources
none. -/
def State.sourcedSlots (s : State) (o fn : Nat) : List Nat :=
  if (s.mirrors o).isSome then []
  else (List.range (s.laneSlots o)).filter fun k =>
    sourced (s.xc.entryAt fn (slotIdx o k)) && descType (s.txDesc o k) != 0

/-- R181: the instant at which the landing frame that slot k of egress frame fn sources became absent: the slot never
completes. -/
def State.goneAt (s : State) (l fn k : Nat) : Option Tick :=
  let g := slotIdx l k
  let e := s.xc.entryAt fn g
  let prot := entryProtEn e && (s.picked (s.selHolder fn g) fn).getD (entrySel e % 2 == 1)
  (s.readsFrame l fn).bind fun L => s.absentSince (entrySource e g prot) L

/-- The instant at which a sourced slot was written into the release store; none while it was not. -/
def State.writtenSlot (s : State) (o fn k : Nat) : Option Tick := (s.storeOf o fn k).map (·.done)

/-- R184: the instant at which a sourced slot is complete; none while it is not. -/
def State.slotDoneAt (s : State) (l fn k : Nat) : Option Tick := (s.writtenSlot l fn k).or (s.goneAt l fn k)

/-- The latest of the instants, where every slot has one. -/
def lastOf (f : Nat → Option Tick) (ks : List Nat) : Option Tick := ks.foldl (fun acc k => acc.bind fun m => (f k).map (max m)) (some 0)

/-- A frame whose late slots never completed closes at the next release: −125,000 ns. -/
def State.closeLate (s : State) (o : Nat) : State :=
  match (s.lane o).late with
  | some f => s.slackKnown o { f with slack := -125000 }
  | none => s

/-- R180: the slots that carry late filler at x are counted. -/
def State.countLate (s : State) (o : Nat) (lates : List Nat) : State :=
  if lates.isEmpty then s
  else ((s.bumpLive (objAt O.RELEASE_LATE_SLOTS o) lates.length).bumpLive (objAt O.RELEASE_LATE_FRAMES o)).raise
    F.LR_STICKY_LATE o

/-- R179, R180, R406: slack and late slots of egress frame fn, released at x. With CADENCE clear the slack is the margin between
completion and departure (R184). -/
def State.slackOf (s : State) (o fn : Nat) (x : Tick) : State :=
  let s0 := s.closeLate o
  let ks := s0.sourcedSlots o fn
  let lates := ks.filter fun k => !(s0.writtenSlot o fn k).any (· ≤ x)
  let open_ := ks.filter fun k => (s0.writtenSlot o fn k).isNone
  let gone := open_.any fun k => (s0.goneAt o fn k).isSome
  let margin := fun (d : Tick) => max (-125000) (roundDiv ((x : Int) - d) ns)
  let done := if s0.cadenceOf o fn then lastOf (s0.writtenSlot o fn) ks else lastOf (s0.slotDoneAt o fn) ks
  let s1 := s0.countLate o lates
  let note := fun (s : State) (v : Option Int) => { s with slacks := (o, fn, v) :: s.slacks.filter fun p => fn < p.2.1 + 8 }
  let low := fun (s : State) (v : Int) => s.raiseIf (decide (v < (s.fld F.SUPPLY_CONFIG_SLACK_FLOOR : Nat))) F.LR_STICKY_SLACK_LOW o
  let s2 :=
    if ks.isEmpty then note (s1.setFld F.SLACK_LAST_SLACK 0x7FFFFFFF o) none
    else
      match done with
      | some d => low (note (s1.noteSlack o (margin d)) (some (margin d))) (margin d)
      | none =>
        let s3 := low (note s1 (some (-125000))) (-125000)
        if gone then s3.noteSlack o (-125000)
        else
          let worst := ks.foldl (fun (m : Int) k => ((s0.writtenSlot o fn k).map fun d => min m (margin d)).getD m) 125000
          s3.modLane o fun y => { y with late := some ⟨fn, x, open_, worst⟩ }
  s2.worstSlack fn

/-! ### Watched paths (R304, R305) -/

/-- Near-end and far-end marks of the selected source of a watched path. -/
def State.watchMarks (s : State) (src L : Nat) : Bool × Bool × Bool × Bool :=
  let r := s.readLane (slotLane src) L
  let k := s.firstSlot O.RX_DESC r (slotNo src)
  let ms := s.members O.RX_DESC r (slotNo src)
  match s.landing r L with
  | some x =>
    if s.isSdh r then
      (x.errs.contains k, [pAis, pLop, pUneq].any (s.pathDefect r k), x.far.contains k, s.pathDefect r k pRdi)
    else if s.isTtf r then
      (ms.any x.errs.contains, false, ms.any x.far.contains, ms.any (s.lane r).slotRdi.contains)
    else (!x.errs.isEmpty, false, false, false)
  | none => (false, false, false, false)

/-- One watched output path in egress frame fn; `cells` are what left. -/
def State.watchPath (s : State) (fn g w : Nat) (cells : List (Nat × SlotStatus)) : State :=
  let e := s.xc.entryAt fn g
  let ms := s.members O.TX_DESC (slotLane g) (slotNo g)
  let bad := ms.any fun m => cells.any fun c => c.1 == m && (c.2 == .ais || c.2 == .late)
  let prot := s.filledFrom fn g
  let mk := if sourced e then
      (match s.readsFrame (slotLane g) fn with
       | some L => s.watchMarks (entrySource e g prot) L
       | none => (false, false, false, false))
    else (false, false, false, false)
  s.pmAt w (fn * frame / sec) fun x =>
    { x with
      nearEb := x.nearEb + boolBit mk.1, nearD := x.nearD || bad || mk.2.1
      farEb := x.farEb + boolBit mk.2.2.1, farD := x.farD || mk.2.2.2 }

/-- The statuses of the slots that left in a frame. -/
def TxFrame.statuses (f : TxFrame) (n : Nat) : List (Nat × SlotStatus) :=
  match f.ttf, f.sdh with
  | some g, _ => (List.range n).map fun k =>
      let c := ttfCell g k
      (k, if c.ss = 0 then .pass else if c.ss = 1 then .ais else if c.ss = 3 then .late else if c.ss = 4 then .test
        else .unequipped)
  | none, some g => g.slots.map fun x => (x.1, x.2.2.st)
  | none, none => []

/-- Every watched path of lane o in egress frame fn. -/
def State.watchLane (s : State) (o fn : Nat) (x : Tick) : State :=
  let page := s.xc.page (s.xc.pageFor fn)
  let watched := page.filter fun p => slotLane p.1 == o && entryWatchEn p.2
  if watched.isEmpty then s
  else
    let cells := (s.egressCells o fn x).1.map fun c => (c.1, c.2.st)
    watched.foldl (fun s p => s.watchPath fn p.1 (entryWatch p.2) cells) s

/-! ### The page switch as seen (R155, R161) -/

/-- At the first release of a frame at or after the committed one, the switch has taken effect. -/
def State.noteSwitch (s : State) (fn : Nat) : State :=
  let p := s.fld F.XC_PENDING_FN_FN
  if s.xc.copy.isSome && s.on F.XC_STATUS_SWITCH_PENDING && p ≤ fn then
    ((((s.setFld F.XC_SWITCH_FN_FN p).setFld F.XC_PENDING_FN_FN 0).setOn F.XC_STATUS_SWITCH_PENDING false).setOn
      F.XC_STATUS_ACTIVE_PAGE s.xc.force).raise F.XC_STICKY_SWITCH_DONE
  else s

/-! ### Release (R178, R184) -/

/-- Egress frame fn of lane l at release instant x. -/
def State.release (s : State) (l fn : Nat) (x : Tick) : State :=
  (((((s.watchLane l fn x).slackOf l fn x).noteSwitch fn).letGo l fn x).modLane l fun y =>
    { y with lastRel := some fn, store := y.store.filter fun c => fn < c.fn + 1 })

/-- The release instant of egress frame fn with CADENCE set (R178). -/
def State.releaseAt (s : State) (l fn : Nat) : Tick := fn * frame + s.offsetOf l fn * ns

/-- A lane releases egress frame fn next. -/
def State.mayRelease (s : State) (l fn : Nat) : Bool :=
  s.active && s.role l != 0 && (s.lane l).lastRel.all (· < fn)

/-- EGRESS_FRAME_RELEASE (R178): the frame leaves at exactly its release instant. -/
def State.releaseFrame (s : State) (l fn : Nat) : State :=
  let x := s.releaseAt l fn
  if s.mayRelease l fn && s.cadenceOf l fn && s.dts = x then s.release l fn x else s

/-- R184: the instant at which egress frame fn is complete. -/
def State.frameDoneAt (s : State) (l fn : Nat) : Option Tick :=
  let ks := s.sourcedSlots l fn
  if ks.isEmpty then some (if fn = 0 then s.fld F.LANDING_CUT_CUT * ns else s.readyAt (fn - 1))
  else lastOf (s.slotDoneAt l fn) ks

/-- R184: frame FN leaves after FN − 1: none before it waits in the store. -/
def State.inTurn (s : State) (l fn : Nat) : Bool :=
  let x := s.lane l
  x.lastRel.all (fn ≤ · + 1) || !x.store.any fun c => decide (c.fn < fn) && x.lastRel.all (· < c.fn)

/-- EGRESS_FRAME_COMPLETE (R184). -/
def State.completeFrame (s : State) (l fn : Nat) : State :=
  match s.frameDoneAt l fn with
  | some d =>
    let x := max d ((s.lane l).txEnd.getD d)
    if s.mayRelease l fn && s.inTurn l fn && !s.cadenceOf l fn && x ≤ s.dts && s.dts < x + frame then s.release l fn x else s
  | none => s

/-! ### What a frame goes by before its transaction applies (R132, R152, R155, R183, R185) -/

/-- The entries a transaction writes, by output slot; the last write of one counts. -/
def entriesOf (ws : List Wr) : Map Entry :=
  (ws.filter isEntryWr).foldl (fun m w =>
    Map.insert (entrySlot w.o) (BitVec.ofNat 64 w.v.toNat) (Map.erase (entrySlot w.o) m)) []

/-- R156: a written entry on the page to come: with unchanged sources it keeps its SEL_STATE; one that a frame was filled from
already keeps what that frame chose. -/
def Xc.newEntry (x : Xc) (g : Nat) (e : Entry) : Entry :=
  let a := x.active g
  match Map.get 0 g x.aheadSel with
  | 0 => if sameSources e a then entrySetSel e (entrySel a) else e
  | k + 1 => entrySetSel e k

/-- R155: the page that carries the entries es beside the active ones becomes the page in force from the current frame on. -/
def State.putPage (s : State) (id : Nat) (es : Map Entry) : State :=
  let x := s.xc
  let b := !x.force
  let old := x.page x.force
  let x0 : Xc := if b then { x with pageB := old } else { x with pageA := old }
  let gs := es.map fun (p : Nat × Entry) => p.1
  let x1 := es.foldl (fun (y : Xc) (p : Nat × Entry) => y.setOn b p.1 (x.newEntry p.1 p.2)) x0
  { s with
    xc :=
      { x1 with
        force := b, switchFn := s.fn, copy := some gs, stage := .txn id, leaseEnd := none
        broken := x.broken.filter fun g => !gs.contains g, badStaged := [] } }

/-- R152, R156: what the selectors of changed entries chose for frame fn, filled ahead of its boundary. -/
def State.aheadChoices (s : State) (fn : Nat) (es : Map Entry) : Map Nat :=
  es.foldl (fun m p =>
    if (s.picked (s.selHolder fn p.1) fn).isSome then Map.set 0 p.1 (entrySel (s.xc.entryAt fn p.1) + 1) m else m) s.xc.aheadSel

/-- A setting of a transaction still pending, as a frame that comes before its boundary takes it: descriptors, landing and release
settings, and CADENCE. -/
def isAheadWr (w : Wr) : Bool :=
  w.idx.isNone && !isEntryWr w && (objArea w.o == 0x06 || objArea w.o == 0x08 || w.o == O.MODES)
def State.aheadWr (s : State) (w : Wr) : State :=
  if w.o = O.MODES then s.setOn F.MODES_ACTIVE_CADENCE (w.v.getLsbD 0) else s.mergeVal w.o w.v
def aheadObj (w : Wr) : Nat := if w.o = O.MODES then O.MODES_ACTIVE else w.o

/-- Egress frame fn goes by the page and the settings in force for it, though the boundary at which a pending transaction brings
them has not come. -/
def State.ahead (s : State) (fn : Nat) (f : State → State) : State :=
  let ws := s.aheadWrs fn
  let es := if s.xc.copy.isSome then [] else entriesOf ws
  let ds := ws.filter isAheadWr
  if ws.isEmpty then f s
  else
    let s1 := ds.foldl State.aheadWr s
    let s2 := f (if es.isEmpty then s1 else s1.putPage 0 es)
    let old : Xc := if s.xc.force then { s.xc with pageB := s2.xc.pageB } else { s.xc with pageA := s2.xc.pageA }
    let x := if es.isEmpty then s2.xc else { old with aheadSel := s2.aheadChoices fn es }
    { s2 with xc := x }.setVals (ds.map fun (w : Wr) => (aheadObj w, s.val (aheadObj w)))

end Sys2Proof.Machine
end

