-- ==== Sys2Proof/Machine/Tandem.lean ====
section
/-! DEFINITION. The tandem pair: the hold pin, seats, records, relinquish and takeover (R257 to R269). What a record's body
brings into force stands with the frame boundary. -/

namespace Sys2Proof.Machine

abbrev roleSolo : Nat := 0
abbrev roleActive : Nat := 1
abbrev roleStandby : Nat := 2
abbrev roleWaiting : Nat := 3

def State.tandemRole (s : State) : Nat := s.fld F.TANDEM_STATUS_ROLE
def State.setRole (s : State) (r : Nat) : State := s.setFld F.TANDEM_STATUS_ROLE r
def State.modTandem (s : State) (f : Tandem → Tandem) : State := { s with tandem := f s.tandem }

def State.modOut (s : State) (f : TandemOut → TandemOut) : State := s.modTandem fun x => { x with out := f x.out }
def State.modHeard (s : State) (f : TandemIn → TandemIn) : State := s.modTandem fun x => { x with heard := f x.heard }

/-- R257, R387, R422: the pin as this device sees it; released while TANDEM is clear, in reset and in the fatal state. -/
def State.holdPin (s : State) : Bool := s.tandem.pinHigh || !s.tandemOn || s.dark || s.resetLow
def State.showPin (s : State) : State := s.setOn F.TANDEM_STATUS_HOLD_PIN s.holdPin

/-- The seat as it acts (R260): the strap, or the order of serial numbers while a conflict lasts. -/
def State.actsB (s : State) : Bool :=
  match s.tandem.peer with
  | some r =>
    if s.on F.TANDEM_STATUS_SEAT_CONFLICT then decide (r.serial < Config.deviceSerial.toNat) else s.straps.tseat
  | none => s.straps.tseat

/-- R14: a Thotar port whose clock stopped, or that is revoked (R391), sends nothing; one whose clock stopped hears nothing. -/
def State.portHears (s : State) (p : Nat) : Bool := !s.reinitBusy 14 (0x20 + p)
def State.portSends (s : State) (p : Nat) : Bool := s.portHears p && !s.faults.idlePorts.contains p

/-- R381, R266: a contained fault is outstanding, of a subsystem where one is named. -/
def State.containedOut (s : State) (p : Nat → Bool) : Bool :=
  s.faults.log.any fun r => r.cls == 1 && p r.subsystem && s.faults.outstanding.contains r.record

/-! ### Roles (R258, R267, R268) -/

/-- The device becomes standby and asks for a resync. -/
def State.becomeStandby (s : State) : State :=
  ((s.setRole roleStandby).modTandem fun x =>
    { x with driving := false, synced := false, wantResync := true, relinquishAt := none, waitFrom := none,
             force := none, heard := {} }).setOn F.TANDEM_STATUS_RESYNC true

/-- The device drives the pin and becomes active. -/
def State.becomeActive (s : State) : State :=
  ((((s.setRole roleActive).modTandem fun x =>
    { x with driving := true, pinHigh := false, releasedAt := none, waitFrom := none, relinquishAt := none,
             force := none, wantResync := false, synced := false,
              heard := {}, out := {} }).showPin).setOn F.TANDEM_STATUS_RESYNC false).setOn
      F.TANDEM_STATUS_READY false

/-- R258: TANDEM takes effect. -/
def State.tandemStart (s : State) : State :=
  let s1 := (s.setOn F.TANDEM_STATUS_SEAT s.straps.tseat).showPin
  if !s.tandem.pinHigh then s1.becomeStandby
  else if !s.straps.tseat then s1.becomeActive
  else (s1.setRole roleWaiting).modTandem fun x => { x with waitFrom := some s.now }

/-- R23: TANDEM is cleared: the pin is released and the device is solo. -/
def State.tandemStop (s : State) : State :=
  let keep := s.tandem.pinHigh || s.tandem.driving
  let s1 := { s.setVal O.TANDEM_STATUS 0 with tandem := { pinHigh := keep } }
  ((s1.setOn F.TANDEM_STATUS_SEAT s.straps.tseat).setVal O.PEER_VERSION 0).showPin

/-- R257, R267: fatal, reset or unpowered, the device lets the pin go at once. -/
def State.tandemDrop (s : State) : State :=
  (if s.tandem.driving then s.modTandem fun x => { x with driving := false, pinHigh := true } else s).showPin

/-- STANDBY_WAIT_EXPIRY (R258). -/
def State.standbyWait (s : State) : State :=
  let wait := s.fld F.TANDEM_CONFIG_STANDBY_WAIT * ms
  let peerActive := s.tandem.peer.any fun r => r.role == .active
  if !s.tandemOn || s.tandemRole ≠ roleWaiting || !s.sinceOpt s.tandem.waitFrom wait then s
  else if s.tandem.pinHigh && !peerActive then s.becomeActive
  else s.becomeStandby
def execStandbyWaitExpiry (t : Tick) (s : State) : Host.Outcome State Fault Refusal := .next (s.advance t).standbyWait

/-- HOLD_PIN_CHANGE (R257, R268, R269). -/
def State.holdChange (s : State) (high : Bool) : State :=
  let s1 := (s.modTandem fun x => { x with pinHigh := high, releasedAt := if high then some s.dts else none }).showPin
  if s.tandem.pinHigh = high || !s.tandemOn then s1
  else if high && s.tandemRole = roleStandby && s.on F.TANDEM_STATUS_TAKEOVER_INHIBIT then
    s1.raise F.TANDEM_STICKY_NO_ACTIVE
  else s1
def execHoldPinChange (t : Tick) (high : Bool) (s : State) : Host.Outcome State Fault Refusal :=
  .next ((s.advance t).holdChange high)

/-- R268, R269: the instant from which a takeover waits for a boundary: the release as seen, and the force of an inhibited
standby. -/
def State.takeoverFrom (s : State) : Option Tick :=
  if s.tandem.pinHigh && s.tandemOn && s.tandemRole = roleStandby && !s.dark && s.running then
    match s.tandem.force with
    | some t => some t
    | none => if s.on F.TANDEM_STATUS_TAKEOVER_INHIBIT then none else s.tandem.releasedAt.map (· + us)
  else none

/-- R29: the root's role moves with the active: the new active is the root that its seat is. -/
def State.rootMoves (s : State) : State :=
  s.setOn F.GALLERY_STATUS_IS_ROOT
    (s.galleryOn && s.fld F.GALLERY_STATUS_STATE != 0 && s.fld F.GALLERY_STATUS_ROOT_SEAT == s.fld F.GALLERY_CONFIG_SEAT)

/-- Steps 1 to 3 of R268. DTS phase is held by the build-out of the candidate selected; the loop goes by R220. -/
def State.takeOver (s : State) : State :=
  let s1 := (s.becomeActive.setFld F.TAKEOVER_FN_FN s.fn).bump O.TAKEOVERS
  let s2 := (s1.raise F.TANDEM_STICKY_TAKEOVER).setSelected (selCode s1.choose)
  ((s2.loopMove true).settle).rootMoves

/-- TAKEOVER (R268); step 4 is what tandemSends answers from then on. -/
def State.takeover (s : State) : State := if s.takeoverFrom.any (· ≤ s.fn * frame) then s.takeOver else s
def execTakeover (t : Tick) (s : State) : Host.Outcome State Fault Refusal := .next (s.advance t).takeover

/-- TAKEOVER_FORCE (R269). -/
def State.takeoverForce (s : State) : State :=
  if !s.tandemOn then s
  else if !s.tandem.pinHigh && !s.tandem.driving then s.raise F.TANDEM_STICKY_FORCE_REFUSED
  else if s.tandemRole = roleStandby then s.modTandem fun x => { x with force := some s.dts }
  else s

/-- RELINQUISH (R267). -/
def State.relinquish (s : State) : State :=
  if s.tandemOn && s.tandemRole = roleActive && s.tandem.relinquishAt.isNone then
    s.modTandem fun x => { x with relinquishAt := some (s.fn + 1) }
  else s

/-- AUTO_RELINQUISH (R267). -/
def State.autoRelinquish (s : State) : State :=
  let masked := fun (k : Nat) => 1 ≤ k && (s.fld F.RELINQUISH_MASK_MASK).testBit (k - 1)
  if s.on F.TANDEM_CONFIG_AUTO_RELINQUISH && s.on F.TANDEM_STATUS_PEER_PRESENT && s.on F.TANDEM_STATUS_PEER_READY &&
      !s.on F.TANDEM_STATUS_PEER_INHIBIT && s.containedOut masked then s.relinquish
  else s
def execAutoRelinquish (t : Tick) (s : State) : Host.Outcome State Fault Refusal := .next (s.advance t).autoRelinquish

/-- R267: at boundary F the pin is released. -/
def State.tandemRelease (s : State) : State :=
  if s.tandemRole = roleActive && s.tandem.driving && s.tandem.relinquishAt.any (· ≤ s.fn) then
    (s.modTandem fun x => { x with driving := false }).raise F.TANDEM_STICKY_RELINQUISHED
  else s

/-- R267: once every lane has passed the release instant of F + 1, the device that relinquished is standby. -/
def State.tandemYield (s : State) : State :=
  match s.tandem.relinquishAt with
  | some f =>
    let used := (List.range numLanes).filter fun l => s.role l != 0
    if s.tandemRole = roleActive && !s.tandem.driving && f < s.fn && used.all (fun l => (s.lane l).lastRel.any (f < ·))
    then s.becomeStandby
    else s
  | none => s

/-! ### Copied objects (R263, R264) -/

/-- R263: the device-local objects. The TANDEM bit of MODES is local too. -/
def deviceLocal (o : Nat) : Bool :=
  let a := objArea o
  let b := objAt 0 0 (objElem o)
  a == 0x00 || a == 0x0D ||
  (a == 0x02 && (b == O.TX_EQ % 4096 || b == O.RX_EQ_CTRL % 4096)) ||
  (a == 0x09 && objInst o < 256 && b == O.ASYM_CAL % 4096) ||
  (a == 0x0A && objInst o / 256 == O.CAND_PHASE_COMP / 4096 % 4096 / 256 && b == O.CAND_PHASE_COMP % 4096)

/-- An object that transactions write. -/
def committed (o : Nat) : Bool := (findRow o).any fun r => r.acc == .rws

/-- MODES as the pair copies it: without TANDEM. -/
def modesCopied (v : Val) : Val := setBits v 1 1 0

/-- The copied objects of the committed state that are not at their Default (log 26). -/
def State.copiedObjs (s : State) : List Wr :=
  (s.dict.filter fun p => committed p.1 && !deviceLocal p.1).map fun p =>
    ⟨p.1, none, if p.1 = O.MODES then modesCopied p.2 else p.2⟩
def State.copiedWords (s : State) : List Wr :=
  (s.words.filter fun p => committed (p.1 / 2 ^ 24)).map fun p =>
    ⟨p.1 / 2 ^ 24, some (p.1 % 2 ^ 24), BitVec.ofNat 96 p.2.toNat⟩
def State.copiedEntries (s : State) : List (Nat × Entry) := s.xc.page s.xc.force

/-- R264: DIGEST. -/
def State.copiedDigest (s : State) : Nat :=
  let objs := (s.copiedObjs ++ s.copiedWords).flatMap fun w =>
    beBytes 4 w.o ++ beBytes 4 (w.idx.getD 0) ++ beBytes 12 w.v.toNat
  let ents := s.copiedEntries.flatMap fun p => beBytes 4 p.1 ++ beBytes 8 (entrySetSel p.2 0).toNat
  crc32c (objs ++ ents)

/-! ### Records (R261 to R266) -/

/-- The TIME96 of a record's fields against a kept TX_TIME of this device. -/
def State.tandemSample (s : State) (r : TandemRec) : State :=
  let g := s.tandem.ledger
  let e : EchoFrom := ⟨r.arrival, r.txTime, r.fn % 256, true⟩
  let t3 : Int := (ticksOfTime96 r.txTime : Nat)
  let t1 : Int := (ticksOfTime96 r.echoTime : Nat)
  let t4 : Int := (r.arrival : Nat)
  let g1 :=
    if r.echoTime != 0 && g.sent.any (·.2 == r.echoTime) then
      g.sample 1 (t4 - t1 - turnTicks r.turnaround 0) (t4 - t3)
    else g
  s.modTandem fun x => { x with ledger := g1.hear e }

/-- R260: the seats. -/
def State.seatConflict (s : State) (r : TandemRec) : State :=
  let c := r.seatB == s.straps.tseat
  (s.raiseIf (c && !s.on F.TANDEM_STATUS_SEAT_CONFLICT) F.TANDEM_STICKY_SEAT_CONFLICT).setOn
    F.TANDEM_STATUS_SEAT_CONFLICT c

/-- R269: TAKEOVER_INHIBIT follows the active's firmware version. -/
def State.takeoverInhibit (s : State) (r : TandemRec) : State :=
  let c := s.tandemRole == roleStandby && r.role == .active && r.fwVersion != s.fld F.FW_VERSION_VERSION
  (s.raiseIf (c && !s.on F.TANDEM_STATUS_TAKEOVER_INHIBIT) F.TANDEM_STICKY_INHIBIT_SET).setOn
    F.TANDEM_STATUS_TAKEOVER_INHIBIT c

/-- The first good copy for a boundary. -/
def State.recordFirst (s : State) (r : TandemRec) : State :=
  let s1 := s.modTandem fun x => { x with peer := some r, gotFn := some r.fn, missing := 0 }
  let s2 := ((s1.setOn F.TANDEM_STATUS_PEER_PRESENT true).setOn F.TANDEM_STATUS_PEER_READY r.ready).setOn
    F.TANDEM_STATUS_PEER_INHIBIT r.inhibit
  ((s2.setFld F.PEER_VERSION_VERSION r.fwVersion).seatConflict r).takeoverInhibit r

/-- R262: the sample is T0's copy's; T1's is kept for the boundary, where T0's has not come. -/
def State.recordTime (s : State) (p : Nat) (r : TandemRec) : State :=
  if p = 0 then (s.modTandem fun x => { x with t0Fn := some r.fn, late := none }).tandemSample r
  else if s.tandem.t0Fn = some r.fn then s
  else s.modTandem fun x => { x with late := some r }

/-- A good copy. -/
def State.recordGood (s : State) (p : Nat) (r : TandemRec) : State :=
  (if s.tandem.gotFn = some r.fn then s else s.recordFirst r).recordTime p r

/-- R262: at the boundary T1's copy serves for the sample. -/
def State.recordLate (s : State) : State :=
  match s.tandem.late with
  | some r => (s.modTandem fun x => { x with late := none }).tandemSample r
  | none => s

/-! #### The bytes of a record (R264; the items' encoding is log 6's) -/

def wrBytes (w : Wr) : List Byte := beBytes 4 w.o ++ beBytes 4 (w.idx.getD (2 ^ 32 - 1)) ++ beBytes 12 w.v.toNat

def itemBytes (b : BodyItem) : List Byte :=
  match b with
  | .stageClear => [1]
  | .stage g e => 2 :: beBytes 4 g ++ beBytes 8 e.toNat
  | .write id w => 3 :: beBytes 4 id ++ wrBytes w
  | .txn id sess fn es => 4 :: beBytes 4 id ++ beBytes 2 sess ++ beBytes 6 fn ++ beBytes 1 (boolBit es)
  | .cancel id => 5 :: beBytes 4 id
  | .share k v => 6 :: beBytes 4 k ++ beBytes 12 v
  | .copyStart => [7]
  | .copied w => 8 :: wrBytes w
  | .entry g e => 9 :: beBytes 4 g ++ beBytes 8 e.toNat
  | .resyncEnd => [10]

/-- BODY_LEN: whole blocks of 64 bytes; at most 766. -/
def recordLen (r : TandemRec) : Nat := ceilDiv (r.body.flatMap itemBytes).length 64
abbrev bodyRoom : Nat := 766 * 64

def roleCode (r : Role) : Nat :=
  match r with
  | .solo => 0
  | .active => 1
  | .standby => 2
  | .waiting => 3

/-- Every byte of the record before its CRC; the body's last block is filled with 0x00. -/
def recordBytes (r : TandemRec) : List Byte :=
  let body := r.body.flatMap itemBytes
  beBytes 6 r.fn ++
    beBytes 1 (roleCode r.role * 64 + flagBit r.seatB 32 + flagBit r.ready 16 + flagBit r.inhibit 8 + flagBit r.resyncReq 4) ++
    beBytes 1 r.rver ++ beBytes 4 r.fwVersion ++ beBytes 4 r.digest ++ beBytes 12 r.txTime.toNat ++
    beBytes 12 r.echoTime.toNat ++ beBytes 6 r.turnaround ++ beBytes 2 (recordLen r) ++ beBytes 8 r.serial ++ beBytes 8 0 ++
    body ++ List.replicate (64 * recordLen r - body.length) 0

/-- R264, R265: a record is discarded. -/
def recordBad (r : TandemRec) : Bool :=
  r.crc != crc32c (recordBytes r) || r.rver != 1 || bodyRoom < 64 * recordLen r || decide (r.fn * frame < r.lastAt + 2 * us)

/-- TANDEM_RECORD (R264, R265, R14). What a record carries is taken from the first good copy. -/
def State.tandemRecord (s : State) (p : Nat) (r : TandemRec) : State :=
  let ok := if p = 0 then F.TANDEM_STATUS_T0_OK else F.TANDEM_STATUS_T1_OK
  if !s.running || !s.tandemOn || !s.portHears p then s
  else if recordBad r then (s.setOn ok false).bump (if p = 0 then O.RECORD_BAD_T0 else O.RECORD_BAD_T1)
  else (s.setOn ok true).recordGood p r
def execTandemRecord (t : Tick) (port : Nat) (r : TandemRec) (s : State) : Host.Outcome State Fault Refusal :=
  onUnit (tandemPort port && tandemRecOk r) "port" ((s.advance t).tandemRecord port r)

/-- RECORD_LOSS_TIMEOUT (R262). -/
def State.recordLoss (s : State) : State :=
  if s.tandemOn && 8 ≤ s.tandem.missing then
    (s.setOn F.TANDEM_STATUS_PEER_PRESENT false).setOn F.TANDEM_STATUS_READY false
  else s
def execRecordLossTimeout (t : Tick) (s : State) : Host.Outcome State Fault Refusal := .next (s.advance t).recordLoss

/-- RESYNC_COMPLETE (R266): the copy has been applied. -/
def State.resyncComplete (s : State) : State :=
  if s.tandemOn && s.tandemRole = roleStandby && s.on F.TANDEM_STATUS_RESYNC && !s.tandem.wantResync then
    ((s.setOn F.TANDEM_STATUS_RESYNC false).bump O.RESYNCS).modTandem fun x => { x with synced := true }
  else s
def execResyncComplete (t : Tick) (s : State) : Host.Outcome State Fault Refusal := .next (s.advance t).resyncComplete

/-! ### Sending (R264, R265) -/

/-- The entries staged now, by output slot (R158). -/
def State.stageNow (s : State) : Map Entry :=
  (s.stageWrites.filter isEntryWr).foldl (fun m w =>
    Map.insert (entrySlot w.o) (BitVec.ofNat 64 w.v.toNat) (Map.erase (entrySlot w.o) m)) []

/-- R158: up to 2,048 staged entries that the standby does not have; what it has is cleared where an entry is staged no more. -/
def State.stageKept (s : State) : Map Entry :=
  if s.tandem.out.stage.all (fun p => Map.has p.1 s.stageNow) then s.tandem.out.stage else []
def State.stageNew (s : State) : Map Entry := s.stageNow.filter fun p => !s.stageKept.contains p
def State.stageItems (s : State) : List BodyItem :=
  (if s.stageKept = s.tandem.out.stage then [] else [.stageClear]) ++
    (s.stageNew.take 2048).map fun p => BodyItem.stage p.1 p.2

/-- A transaction: its writes that the standby does not have, and itself once it has all of it. -/
def State.txnItems (s : State) (x : Txn) : List BodyItem :=
  let es := x.writes.any isEntryWr
  ((x.writes.filter fun w => !isEntryWr w).drop (Map.get 0 x.id s.tandem.out.writes)).map (BodyItem.write x.id) ++
    (if es && 2048 < s.stageNew.length then [] else [.txn x.id x.sess x.fn es])

/-- Transactions sent that are no longer pending before their frame. -/
def State.cancelItems (s : State) : List BodyItem :=
  (s.tandem.out.txns.filter fun p => s.fn < p.2 && !s.txns.any (·.id == p.1)).map fun p => BodyItem.cancel p.1

/-! #### The shared state (R26, R29, R223, R261) -/

/-- An instant of this device's elapsed time as one of DTS, which both devices hold; 0 for none. -/
def State.shareFrom (s : State) (o : Option Tick) : Nat :=
  match o with
  | some t => 1 + (s.dts + t - s.now)
  | none => 0
def State.sharedFrom (s : State) (x : Nat) : Option Tick := if x = 0 then none else some (s.now + (x - 1) - s.dts)

/-- Keys of the shared values: of output slot g's selector and path controller, of an APS group, of the gallery. -/
abbrev sharePath : Nat := 2 ^ 20
abbrev shareAps : Nat := 2 * 2 ^ 20
abbrev shareGallery : Nat := 4 * 2 ^ 20
abbrev shareSealed : Nat := 5 * 2 ^ 20

def State.apsShare (s : State) (g : Nat) : Nat :=
  let a := s.apsOf g
  8 * s.shareFrom a.wtrFrom + flagBit a.dnr 4 + flagBit (s.on F.APS_STATUS_BRIDGED g) 2 + boolBit (s.apsSelected g)
def State.pathShare (s : State) (g : Nat) : Nat :=
  8 * s.shareFrom (s.pprot g).wtrFrom + s.fld F.PATH_PROT_STATUS_CMD_IN_FORCE (slotLane g) (slotNo g)

/-- The bits of GALLERY_STATUS that a pair shares: ROOT_SEAT, the conflicts, the quarantine and STATE. -/
abbrev galleryShared : Nat := 0xF0000FC3

/-- R29: the gallery state of the pair's seat. -/
def State.galleryShares (s : State) : List Nat :=
  let g := s.gallery
  [Nat.land (s.val O.GALLERY_STATUS).toNat galleryShared, s.fld F.GALLERY_EPOCH_EPOCH, (s.val O.ROSTER).toNat,
   (match g.nextEpoch with
    | some (e, f) => (f * 2 ^ 32 + e) * 4 + 2 * boolBit g.inNextRoster + 1
    | none => 0),
   s.fld F.ROOT_DIGEST_DIGEST, s.fld F.ROOT_VERSION_VERSION, g.agreeRun, g.gxSeen, s.fld F.GX_LAST_ID, g.rootSince,
   s.fld F.GX_STATUS_STATE]

/-- What the pair shares, by key: selector states of protected entries, path controllers, APS states, class and steps, SEALED,
and the gallery's state. -/
def State.shares (s : State) : Map Nat :=
  (s.copiedEntries.filter fun p => entryAction p.2 == 0 && entryProtEn p.2).map (fun p => (p.1, entrySel p.2)) ++
    s.protPaths.map (fun g => (sharePath + g, s.pathShare g)) ++ s.apsGroups.map (fun g => (shareAps + g, s.apsShare g)) ++
    [(shareClock, s.fld F.LOOP_STATUS_CLASS * 256 + s.fld F.LOOP_STATUS_STEPS)] ++
    (if s.galleryOn then s.galleryShares.zipIdx.map fun p => (shareGallery + p.2, p.1) else []) ++
    [(shareSealed, boolBit s.sealedOn)]

/-- The shared values that the standby does not have. -/
def State.shareItems (s : State) : List BodyItem :=
  (s.shares.filter fun p => !s.tandem.out.shares.contains p).map fun p => BodyItem.share p.1 p.2

/-! #### The copy of a resync (R266) -/

/-- The full copied state. -/
def State.fullCopy (s : State) : List BodyItem :=
  .copyStart :: (s.copiedObjs ++ s.copiedWords).map BodyItem.copied ++ s.copiedEntries.map (fun p => BodyItem.entry p.1 p.2) ++
    [.resyncEnd]

/-- A resync asked for begins: everything is sent anew. It begins again where the copied state has changed meanwhile, and where
its end brought no READY within three frames. -/
def State.copyBegin (s : State) : State :=
  let o := s.tandem.out
  if s.tandemRole ≠ roleActive then s
  else if !s.tandem.peer.any (·.resyncReq) then s.modOut fun x => { x with copy := [], copying := none }
  else if o.copying = some s.copiedDigest && (!o.copy.isEmpty || o.copyEnd.any (s.fn ≤ · + 3)) then s
  else s.modOut fun _ => { copy := s.fullCopy, copying := some s.copiedDigest }

/-- The items that wait to be sent, the most urgent first. A copy's beginning goes before what is sent anew with it. -/
def State.recordItems (s : State) : List BodyItem :=
  let c := s.tandem.out.copy
  (c.filter (· == .copyStart)) ++ s.cancelItems ++ s.stageItems ++ (s.txns.filter fun x => x.st != .held).flatMap s.txnItems ++
    s.shareItems ++ c.filter (· != .copyStart)

/-- As many of them, in order, as `room` bytes hold. -/
def fitItems (room : Nat) : List BodyItem → List BodyItem
  | b :: bs =>
    let n := (itemBytes b).length
    if n ≤ room then b :: fitItems (room - n) bs else []
  | [] => []

/-- The body of an active's record: 48 KiB with its header and its CRC. -/
def State.recordBody (s : State) : List BodyItem := fitItems bodyRoom s.recordItems

/-- What the standby has once an item is sent in frame fn. -/
def noteItem (fn : Nat) (o : TandemOut) (b : BodyItem) : TandemOut :=
  match b with
  | .stageClear => { o with stage := [] }
  | .stage g e => { o with stage := Map.insert g e (Map.erase g o.stage) }
  | .write id _ => { o with writes := Map.set 0 id (Map.get 0 id o.writes + 1) o.writes }
  | .txn id _ f _ => { o with txns := Map.insert id f (Map.erase id o.txns) }
  | .cancel id => { o with txns := Map.erase id o.txns, writes := Map.erase id o.writes }
  | .share k v => { o with shares := Map.insert k v (Map.erase k o.shares) }
  | .copyStart => { o with copy := o.copy.drop 1 }
  | .copied _ => { o with copy := o.copy.drop 1 }
  | .entry _ _ => { o with copy := o.copy.drop 1 }
  | .resyncEnd => { o with copy := o.copy.drop 1, copyEnd := some fn }

def roleOf (r : Nat) : Role := if r = 1 then .active else if r = 2 then .standby else if r = 3 then .waiting else .solo

/-- The record sent during frame F, for boundary F + 1, from the instant F × 125 µs + 1 µs; its CRC is still to be formed. -/
def State.recordFields (s : State) : TandemRec :=
  let x := s.fn * frame + us
  let e := s.tandem.ledger.echo x
  { fn := (s.fn + 1) % 2 ^ 48, role := roleOf s.tandemRole, seatB := s.straps.tseat
    ready := s.on F.TANDEM_STATUS_READY, inhibit := s.on F.TANDEM_STATUS_TAKEOVER_INHIBIT
    resyncReq := s.tandem.wantResync, rver := 1, fwVersion := s.fld F.FW_VERSION_VERSION, digest := s.copiedDigest
    txTime := time96 x, echoTime := e.time, turnaround := e.turnaround, serial := Config.deviceSerial.toNat
    body := if s.tandemRole = roleActive then s.recordBody else [], crc := 0, arrival := x, lastAt := x }

/-- A record with the CRC of its bytes. -/
def sealRecord (r : TandemRec) : TandemRec := { r with crc := crc32c (recordBytes r) }
def State.buildRecord (s : State) : TandemRec := sealRecord s.recordFields

/-- The record leaves on the ports of T0 and T1 that run. -/
def State.recordLeaves (s : State) (r : TandemRec) : State :=
  s.modTandem fun x =>
    { x with
      sent := some r, sentOn := [0, 1].filter s.portSends, ledger := x.ledger.keepSent s.fn r.txTime
      out := r.body.foldl (noteItem s.fn) { x.out with txns := x.out.txns.filter fun p => decide (s.fn < p.2) } }

/-- TANDEM_RECORD_SEND (R265): one record per frame, the same on T0 and T1. -/
def State.sendRecord (s : State) : State :=
  if s.active && !s.dark && s.tandemOn && s.fn * frame + us ≤ s.dts &&
      s.tandem.sent.all (·.fn != (s.fn + 1) % 2 ^ 48) then
    s.copyBegin.recordLeaves s.copyBegin.buildRecord
  else s
def execTandemRecordSend (t : Tick) (s : State) : Host.Outcome State Fault Refusal := .next (s.advance t).sendRecord

/-! ### The boundary (R259, R266, R27) -/

/-- R259: two devices drive the pin, and the peer's record for this boundary shows that it is active. -/
def State.dualActive (s : State) : State :=
  if s.tandemRole = roleActive && s.tandem.driving && s.tandem.gotFn = some s.fn &&
      s.tandem.peer.any (·.role == .active) && s.actsB then
    s.becomeStandby.raise F.TANDEM_STICKY_DUAL_ACTIVE
  else s

/-- R27. -/
def State.modeMismatch (s : State) : State :=
  let c := s.tandemRole == roleStandby && s.sealedOn && s.tandem.peer.any (·.role == .active) &&
    Map.get 1 shareSealed s.tandem.heard.shares == 0
  (s.raiseIf (c && !s.on F.TANDEM_STATUS_MODE_MISMATCH) F.TANDEM_STICKY_MODE_MISMATCH).setOn
    F.TANDEM_STATUS_MODE_MISMATCH c

/-- A frame without a good copy: it is counted; a standby starts its resync again. -/
def State.recordMissing (s : State) : State :=
  if s.tandem.gotFn = some s.fn then s
  else
    let s1 := ((s.bump O.RECORD_MISSING).raise F.TANDEM_STICKY_RECORD_MISSING).modTandem fun x =>
      { x with missing := x.missing + 1, heard := { x.heard with copy := none } }
    if s.tandemRole = roleStandby then
      ((s1.setOn F.TANDEM_STATUS_READY false).setOn F.TANDEM_STATUS_RESYNC true).modTandem fun x =>
        { x with synced := false, wantResync := true }
    else s1

/-- R266: READY, and a resync where the digests differ. -/
def State.tandemReady (s : State) : State :=
  if s.tandemRole ≠ roleStandby || s.tandem.gotFn ≠ some s.fn then s
  else
    let same := s.tandem.peer.any fun r => r.digest == s.copiedDigest
    let good := s.tandem.synced && same && s.loopState == lLocked && s.fld F.LOOP_STATUS_SELECTED == 126 &&
      !s.containedOut (fun _ => true)
    let s1 := s.setOn F.TANDEM_STATUS_READY good
    if s.tandem.synced && !same then
      (s1.setOn F.TANDEM_STATUS_RESYNC true).modTandem fun x => { x with synced := false, wantResync := true }
    else s1

end Sys2Proof.Machine
end

