-- ==== Sys2Proof/Machine/Gallery.lean ====
section
/-! DEFINITION. The gallery: seats, root, epochs, ring heads and messages, quarantine, muting and the coordinated page switch
(R271 to R285). -/

namespace Sys2Proof.Machine

abbrev gJoining : Nat := 1
abbrev gMember : Nat := 2
abbrev gxGo : Nat := 2
abbrev gxAbort : Nat := 3

def State.modGallery (s : State) (f : Gallery → Gallery) : State := { s with gallery := f s.gallery }
def State.seat (s : State) : Nat := s.fld F.GALLERY_CONFIG_SEAT
def State.galleryState (s : State) : Nat := s.fld F.GALLERY_STATUS_STATE
def State.muted (s : State) : Bool := s.on F.GALLERY_STATUS_MUTED
def State.quarantined (s : State) : Bool := s.on F.GALLERY_STATUS_QUARANTINED
def State.isRoot (s : State) : Bool := s.on F.GALLERY_STATUS_IS_ROOT
def State.epoch (s : State) : Nat := s.fld F.GALLERY_EPOCH_EPOCH

/-- TIME_ERROR while it is unknown (R273, R286). -/
abbrev errUnknown : Nat := 0x7FFFFFFFFFFFFFFF

/-! ### The bytes of heads and messages (R273) -/

def flagsByte (f : RingFlags) : List Byte :=
  beBytes 1 (flagBit f.muted 128 + flagBit f.root 64 + flagBit f.joining 32 + flagBit f.quarantined 16 + f.seat)

/-- Bytes 0 to 59 of a head. -/
def headBytes (h : RingHead) : List Byte :=
  beBytes 6 h.fn ++ flagsByte h.flags ++ beBytes 1 h.hver ++ beBytes 12 h.txTime.toNat ++ beBytes 12 h.echoTime.toNat ++
    beBytes 6 h.turnaround ++ beBytes 1 h.echoMfc ++ beBytes 1 (flagBit h.echoValid 128 + flagBit h.echoSkipped 64) ++
    beBytes 1 h.clockClass ++ beBytes 1 h.steps ++ beBytes 8 ((h.timeError.map (unsigned 64)).getD errUnknown) ++
    beBytes 4 h.epoch ++ beBytes 6 0

/-- Bytes 0 to 59 of a message. -/
def msgBytes (m : RingMsg) : List Byte :=
  beBytes 6 m.originFn ++ flagsByte m.flags ++ beBytes 1 m.type ++ beBytes 1 m.hops ++ beBytes 3 0 ++ beBytes 4 m.tag ++
    beBytes 4 m.epoch ++ beBytes 4 m.fwVersion ++ beBytes 4 m.digest ++ beBytes 4 m.gxId ++ beBytes 6 m.gxFn ++
    beBytes 1 m.gxCode ++ beBytes 1 0 ++ beBytes 2 m.roster.toNat ++ beBytes 4 m.nextEpoch ++ beBytes 6 m.epochFn ++
    beBytes 4 m.gxLast ++ beBytes 4 0

/-- A head or a message with the CRC of its bytes. -/
def sealHead (h : RingHead) : RingHead := { h with crc := crc32c (headBytes h) }
def sealMsg (m : RingMsg) : RingMsg := { m with crc := crc32c (msgBytes m) }

/-- R26, R29: of a tandem pair only the active decides for the pair's seat; the other takes the state that it shares. -/
def State.ringFollows (s : State) : Bool := s.tandemOn && s.tandemRole != roleActive

/-- R276: the configuration digest. -/
def State.galleryDigest (s : State) : Nat :=
  crc32c (((List.range 256).flatMap fun i => wordBytes (s.word O.GALLERY_TABLE i)) ++ beBytes 4 (s.fld F.GX_LAST_ID))

/-- R26: only the active of a pair transmits on the ring. -/
def State.onRing (s : State) : Bool := s.active && !s.dark && s.galleryOn && s.galleryState != 0 && !s.ringFollows

/-- R28: ROOT set here, and in a lower present seat as well. -/
def State.rootConflict (s : State) (roots : List Nat) : State :=
  let c := s.rootOn && roots.any (· < s.seat)
  (s.raiseIf (c && !s.on F.GALLERY_STATUS_ROOT_CONFLICT) F.GALLERY_STICKY_ROOT_CONFLICT).setOn
    F.GALLERY_STATUS_ROOT_CONFLICT c

/-! ### Epochs (R272) -/

/-- The epoch after e as announced by a seat. -/
def nextEpoch (e seat : Nat) : Nat := (if e / 16 = 0x0FFFFFFF then 1 else e / 16 + 1) * 16 + seat

/-- The ORIGIN_FN of this device's next own message. -/
def State.nextOrigin (s : State) : Nat :=
  if s.gallery.sentMsgs.any (fun q => q.1 == 32 + s.seat && q.2.originFn == s.fn) then s.fn + 1 else s.fn

/-- The root announces a new epoch. -/
def State.announce (s : State) : State :=
  s.modGallery fun g => { g with nextEpoch := some (nextEpoch s.epoch s.seat, s.nextOrigin + 16), inNextRoster := true }

/-- The epoch in force changes. -/
def State.setEpoch (s : State) (e : Nat) : State :=
  if s.epoch = e then s else (s.setFld F.GALLERY_EPOCH_EPOCH e).raise F.GALLERY_STICKY_EPOCH_CHG

/-- R277: what a member is in this frame is kept for comparison. -/
def State.noteOwn (s : State) : State :=
  if s.galleryState = gMember then
    s.modGallery fun g =>
      { g with
        own := ((s.fn, s.epoch, s.galleryDigest, s.fld F.FW_VERSION_VERSION) :: g.own.filter (·.1 != s.fn)).take 256 }
  else s

/-! ### Presence and root (R271, R272) -/

/-- DEDUCED (log 27). Present seats: a message accepted within the last 16 frames; this device's own seat while it sends
its own message. -/
def State.presentSeats (s : State) : List Nat :=
  (List.range 16).filter fun k =>
    (k == s.seat && !s.muted) ||
    s.gallery.seats.any fun p => p.1 == k && s.fn ≤ p.2.frame + 16

/-- The present seats whose messages carry ROOT. -/
def State.rootSeats (s : State) : List Nat :=
  s.presentSeats.filter fun k =>
    (k == s.seat && !s.muted && s.rootOn) || (k != s.seat && s.gallery.seats.any fun p => p.1 == k && p.2.msg.flags.root)

/-- R272: the seat taken as root; with no seat present the choice stands. -/
def State.chooseRoot (s : State) : Nat :=
  match s.rootSeats.head?, s.presentSeats.head? with
  | some k, _ => k
  | none, some k => if s.presentSeats.contains 0 then 0 else k
  | none, none => s.fld F.GALLERY_STATUS_ROOT_SEAT

def bitMap (ks : List Nat) : Nat := ks.foldl (fun a k => a + 2 ^ k) 0

/-- The root changes; a device that becomes root keeps the roster it knows, its own seat added, and announces. -/
def State.setRoot (s : State) (k : Nat) : State :=
  let me := k == s.seat
  let s1 := if s.fld F.GALLERY_STATUS_ROOT_SEAT = k then s
    else (s.setFld F.GALLERY_STATUS_ROOT_SEAT k).raise F.GALLERY_STICKY_ROOT_CHG
  let s2 := s1.setOn F.GALLERY_STATUS_IS_ROOT me
  if me && !s.isRoot then
    let roster := s.fld F.ROSTER_IN_ROSTER
    ((s2.setFld F.ROSTER_IN_ROSTER (if roster.testBit k then roster else roster + 2 ^ k)).modGallery fun g =>
      { g with rootSince := s.fn }).announce
  else if !me && s.isRoot then s2.modGallery fun g => { g with nextEpoch := none, inNextRoster := false }
  else s2

/-- Presence is looked at again. -/
def State.showPresent (s : State) : State :=
  if s.galleryState = 0 || s.ringFollows then s
  else
    let s1 := s.setFld F.ROSTER_PRESENT (bitMap s.presentSeats)
    (s1.setRoot s1.chooseRoot).rootConflict s1.rootSeats

/-- R23, R271: GALLERY takes effect: the device is JOINING. -/
def State.galleryStart (s : State) : State :=
  (({ s with gallery := {} }.setFld F.GALLERY_STATUS_STATE gJoining).setFld F.GALLERY_STATUS_ROOT_SEAT s.seat).showPresent

/-- R23: the device leaves the ring. -/
def State.galleryStop (s : State) : State :=
  let s1 := { s with gallery := {} }
  ((((s1.setVal O.GALLERY_STATUS 0).setVal O.GALLERY_EPOCH 0).setVal O.ROSTER 0).setVal O.ROOT_DIGEST 0).setVal
    O.ROOT_VERSION 0 |>.setFld F.TIME_ERROR_ERR errUnknown

/-! ### Ports (R274) -/

/-- R198: the hop filters run with the default TAU (log 27). -/
def hopN : Nat := bits (objDefault O.LEDGER_TAU) F.LEDGER_TAU_TAU.hi F.LEDGER_TAU_TAU.lo * 8

/-- DELAY_RX_AVG of a port, in ticks. -/
def State.hopDelay (s : State) (p : Nat) : Int := half ((s.ringPort p).ledger.rttY + s.portAsym p)

/-- Ring service of a port. -/
def State.showService (s : State) (p : Nat) : State :=
  let x := s.ringPort p
  s.setOn (if p = 2 then F.GALLERY_STATUS_T2_SERVICE else F.GALLERY_STATUS_T3_SERVICE)
    (s.galleryOn && 8 ≤ x.heads && s.fn ≤ x.lastFrame + 1 && 64 ≤ x.ledger.rttN && s.hopDelay p ≤ (100 * us : Nat))

/-- R193 to R197 over a head. -/
def State.headSample (s : State) (g : Ledger) (h : RingHead) : Ledger :=
  let t4 : Int := (h.arrival : Nat)
  let g1 :=
    if !h.echoValid || h.echoTime == noTime || g.sentAt h.echoMfc != h.echoTime || s.steppedLately then g
    else
      g.sample hopN (t4 - (ticksOfTime96 h.echoTime : Nat) - turnTicks h.turnaround 0)
        (t4 - (ticksOfTime96 h.txTime : Nat))
  g1.hear ⟨h.arrival, h.txTime, h.fn % 256, true⟩

/-- R71, R215: CLOCK_CLASS and STEPS of a port are accepted from three heads in a row, of frames in a row. -/
def headRuns (x : RingPort) (f : Nat) (h : RingHead) : RingPort :=
  let c := if h.clockClass == 0x50 || classTraceable h.clockClass then h.clockClass else 0xFF
  let go := x.lastFrame + 1 = f
  let a := (if go then x.clsRun else noRun).seen c
  let b := (if go then x.stepsRun else noRun).seen h.steps
  { x with
    clsRun := a, stepsRun := b, cls := if 3 ≤ a.count then c else x.cls, steps := if 3 ≤ b.count then h.steps else x.steps }

/-- RING_HEAD (R273, R274). A gap of more than 255 frames reseeds the hop's filters, as R203 does a lane's. -/
def State.ringHead (s : State) (p : Nat) (h : RingHead) : State :=
  if !s.running || !s.galleryOn || !s.portHears p then s
  else if h.crc ≠ crc32c (headBytes h) || h.hver ≠ 1 then s.bump O.RING_CRC_BAD
  else
    let x := headRuns (s.ringPort p) (fnOf h.arrival) h
    let f := fnOf h.arrival
    let g := if x.lastFrame + 255 < f then x.ledger.reseed else x.ledger
    let run := if x.lastFrame = f then x.heads else if x.lastFrame + 1 = f then x.heads + 1 else 1
    ((s.setRingPort p { x with heads := run, head := some h, lastFrame := f, ledger := s.headSample g h }).showService
      p).candWatch (110 + p)
def execRingHead (t : Tick) (port : Nat) (h : RingHead) (s : State) : Host.Outcome State Fault Refusal :=
  onUnit (ringPortUnit port && ringHeadOk h) "port" ((s.advance t).ringHead port h)

/-! ### Messages received (R271, R275, R277) -/

/-- Start of window w within a frame: 5 + 7.5w µs. -/
def windowStart (w : Nat) : Tick := 5 * us + 7500 * w * ns

/-- R275: the frame whose widened window of seat w holds a message that arrived from a to b, both less the hop delay. -/
def windowFrame (w : Nat) (a b : Int) : Option Nat :=
  let f := (a - (us : Nat)) / (frame : Nat)
  let start : Int := f * (frame : Nat) + (windowStart w : Nat) - (500 * ns : Nat)
  let stop : Int := f * (frame : Nat) + (windowStart (w + 1) : Nat) + (500 * ns : Nat)
  if 0 ≤ f && start ≤ a && b ≤ stop then some f.toNat else none

/-- The message used of a seat is the one with the highest ORIGIN_FN. -/
def State.useMsg (s : State) (p f : Nat) (m : RingMsg) : State :=
  let k := m.flags.seat
  let none_ : SeatMsg := ⟨m, f, p⟩
  let old := Map.get none_ k s.gallery.seats
  let msg := if old.msg.originFn ≤ m.originFn then m else old.msg
  s.modGallery fun g =>
    { g with
      seats := Map.insert k ⟨msg, max f old.frame, p⟩ (Map.erase k g.seats)
      relay := Map.insert (p * 16 + k) ⟨m, f, p⟩ (Map.erase (p * 16 + k) g.relay) }

/-- A root message: its roster, announcement and decision, and its place in line for comparison. -/
def State.rootMsg (s : State) (m : RingMsg) : State :=
  let mine := m.roster.getLsbD s.seat
  let s1 := ((s.setFld F.ROSTER_IN_ROSTER m.roster.toNat).setFld F.ROOT_DIGEST_DIGEST m.digest).setFld
    F.ROOT_VERSION_VERSION m.fwVersion
  let s2 := if s.galleryState = gMember && !mine then s1.setFld F.GALLERY_STATUS_STATE gJoining else s1
  let s3 := if m.nextEpoch ≠ 0 && m.nextEpoch ≠ s.epoch then
      s2.modGallery fun g => { g with nextEpoch := some (m.nextEpoch, m.epochFn), inNextRoster := mine }
    else s2
  let decided := (m.gxCode = gxGo || m.gxCode = gxAbort) &&
    s.txns.any fun x => x.st == .waitGo && x.gxId == m.gxId && x.fn == m.gxFn
  let s4 := if decided then s3.modGallery fun g => { g with gxSeen := m.gxCode } else s3
  if s.gallery.comparedFn.any (m.originFn ≤ ·) then s4
  else s4.modGallery fun g => { g with compare := g.compare ++ [m], comparedFn := some m.originFn }

/-- R271: the root takes a JOIN from a seat outside its roster. -/
def State.joinMsg (s : State) (m : RingMsg) : State :=
  let roster := s.fld F.ROSTER_IN_ROSTER
  if s.isRoot && m.type = 2 && !roster.testBit m.flags.seat then
    (s.setFld F.ROSTER_IN_ROSTER (roster + 2 ^ m.flags.seat)).announce
  else s

/-- R271: a JOINING device sees its seat in use under another TAG. -/
def State.seatInUse (s : State) (m : RingMsg) : State :=
  if s.galleryState = gJoining && m.flags.seat = s.seat && m.tag ≠ s.fld F.GALLERY_TAG_TAG then
    (s.raiseIf (!s.on F.GALLERY_STATUS_SEAT_CONFLICT) F.GALLERY_STICKY_SEAT_CONFLICT).setOn
      F.GALLERY_STATUS_SEAT_CONFLICT true
  else s

/-- RING_MESSAGE (R273, R275). -/
def State.ringMsg (s : State) (p : Nat) (m : RingMsg) : State :=
  let delay := s.hopDelay p
  if !s.running || !s.galleryOn || !s.portHears p then s
  else if m.crc ≠ crc32c (msgBytes m) then s.bump O.RING_CRC_BAD
  else if m.type ≠ 1 && m.type ≠ 2 then s
  else
    match if s.portService p then windowFrame m.flags.seat ((m.firstAt : Int) - delay) ((m.lastAt : Int) - delay) else none with
    | none => s.bump (if p = 2 then O.WINDOW_DISCARD_T2 else O.WINDOW_DISCARD_T3)
    | some f =>
      let s1 := (if s.ringFollows then s else s.seatInUse m).useMsg p f m
      if m.flags.seat = s.seat || s.ringFollows then s1
      else
        let s2 := s1.showPresent
        if s2.fld F.GALLERY_STATUS_ROOT_SEAT = m.flags.seat then s2.rootMsg m else s2.joinMsg m
def execRingMessage (t : Tick) (port : Nat) (m : RingMsg) (s : State) : Host.Outcome State Fault Refusal :=
  onUnit (ringPortUnit port && ringMsgOk m) "port" ((s.advance t).ringMsg port m)

/-! ### Heads and messages sent (R273, R275) -/

def State.ringFlags (s : State) : RingFlags :=
  ⟨s.muted, s.rootOn, s.galleryState == gJoining, s.quarantined, s.seat⟩

/-- TIME_ERROR as sent: none when unknown. -/
def State.timeErrorSent (s : State) : Option Int :=
  let x := s.fld F.TIME_ERROR_ERR
  if x = errUnknown then none else some (signed 64 x)

/-- The head sent on a port at instant x. -/
def State.headOf (s : State) (p : Nat) (x : Tick) : RingHead :=
  let e := (s.ringPort p).ledger.echo x
  sealHead
  { fn := s.fn, flags := s.ringFlags, hver := 1, txTime := time96 x, echoTime := e.time, turnaround := e.turnaround
    echoMfc := e.mfc, echoValid := e.valid, echoSkipped := e.skipped, clockClass := s.classFor (110 + p)
    steps := s.fld F.LOOP_STATUS_STEPS, timeError := s.timeErrorSent, epoch := s.epoch, crc := 0, arrival := x }

/-- RING_HEAD_SEND (R273): within 0.5 µs to 4.5 µs of the frame's start, once per frame. -/
def State.headSend (s : State) : State :=
  let x := s.dts
  let put := fun (s : State) (p : Nat) =>
    if !s.portSends p then s else
    let h := s.headOf p x
    let r := s.ringPort p
    (s.setRingPort p { r with ledger := r.ledger.keepSent s.fn h.txTime }).modGallery fun g =>
      { g with sentHeads := Map.insert p h (Map.erase p g.sentHeads) }
  let early := s.fn * frame + 500 * ns ≤ x && x ≤ s.fn * frame + 4500 * ns
  if s.onRing && early && s.gallery.sentHeads.all (·.2.fn != s.fn) then put (put s 2) 3 else s
def execRingHeadSend (t : Tick) (s : State) : Host.Outcome State Fault Refusal := .next (s.advance t).headSend

/-- R283: GX_ID, GX_FN and GX_CODE sent. -/
def State.gxSent (s : State) : Nat × Nat × Nat :=
  match s.txns.find? (·.st == .waitGo) with
  | some x =>
    if s.isRoot && s.gallery.gxSeen ≠ 0 then (x.gxId, x.fn, s.gallery.gxSeen)
    else if s.galleryState = gMember && !s.quarantined then (x.gxId, x.fn, 1)
    else (0, 0, 0)
  | none => (0, 0, 0)

/-- This device's own message in frame fn. -/
def State.ownMsg (s : State) (x : Tick) : RingMsg :=
  let gx := s.gxSent
  let root := s.isRoot
  let ann := if root then s.gallery.nextEpoch.getD (0, 0) else (0, 0)
  sealMsg
  { originFn := s.fn, flags := s.ringFlags, type := if s.galleryState = gJoining then 2 else 1, hops := 0
    tag := s.fld F.GALLERY_TAG_TAG, epoch := s.epoch, fwVersion := s.fld F.FW_VERSION_VERSION
    digest := s.galleryDigest, gxId := gx.1, gxFn := gx.2.1, gxCode := gx.2.2
    roster := BitVec.ofNat 16 (if root then s.fld F.ROSTER_IN_ROSTER else 0), nextEpoch := ann.1, epochFn := ann.2
    gxLast := s.fld F.GX_LAST_ID, crc := 0, firstAt := x, lastAt := x }

/-- R271: a JOINING device in conflict sends no JOIN. -/
def State.sendsOwn (s : State) : Bool := !(s.galleryState == gJoining && s.on F.GALLERY_STATUS_SEAT_CONFLICT)

/-- R275: what port p relays of seat w: what the opposite port accepted in the frame before. -/
def State.relayOf (s : State) (p w : Nat) (x : Tick) : Option RingMsg :=
  (s.gallery.relay.find? fun q => q.1 == (5 - p) * 16 + w && q.2.frame + 1 == s.fn && q.2.msg.hops + 1 < 8).map fun q =>
    sealMsg { q.2.msg with hops := q.2.msg.hops + 1, firstAt := x, lastAt := x }

/-- RING_WINDOW_SEND (R275). -/
def State.windowSend (s : State) (w : Nat) : State :=
  let x := s.dts
  let lo := s.fn * frame + windowStart w + 500 * ns
  let hi := s.fn * frame + windowStart (w + 1) - 500 * ns
  let put := fun (s : State) (p : Nat) (m : Option RingMsg) =>
    match m with
    | some m =>
      if !s.portSends p then s
      else s.modGallery fun g => { g with sentMsgs := Map.insert (p * 16 + w) m (Map.erase (p * 16 + w) g.sentMsgs) }
    | none => s
  if !s.onRing || s.muted || x < lo || hi < x then s
  else if w = s.seat then (if s.sendsOwn then put (put s 2 (some (s.ownMsg x))) 3 (some (s.ownMsg x)) else s)
  else put (put s 2 (s.relayOf 2 w x)) 3 (s.relayOf 3 w x)
def execRingWindowSend (t : Tick) (window : Nat) (s : State) : Host.Outcome State Fault Refusal :=
  onUnit (seatUnit window) "window" ((s.advance t).windowSend window)

/-! ### Absence, removal, epochs (R271, R272) -/

/-- SEAT_ABSENCE (R272). -/
def State.seatAbsent (s : State) (k : Nat) : State :=
  if s.galleryOn && !s.presentSeats.contains k && (s.fld F.ROSTER_PRESENT).testBit k then s.showPresent else s
def execSeatAbsence (t : Tick) (seat : Nat) (s : State) : Host.Outcome State Fault Refusal :=
  onUnit (seatUnit seat) "seat" ((s.advance t).seatAbsent seat)

/-- ROSTER_REMOVAL (R271). -/
def State.rosterRemove (s : State) (k : Nat) : State :=
  let roster := s.fld F.ROSTER_IN_ROSTER
  let last := ((s.gallery.seats.find? (·.1 == k)).map (·.2.frame)).getD s.gallery.rootSince
  if s.galleryOn && s.isRoot && k ≠ s.seat && roster.testBit k && last + 8000 ≤ s.fn then
    (s.setFld F.ROSTER_IN_ROSTER (roster - 2 ^ k)).announce
  else s
def execRosterRemoval (t : Tick) (seat : Nat) (s : State) : Host.Outcome State Fault Refusal :=
  onUnit (seatUnit seat) "seat" ((s.advance t).rosterRemove seat)

/-- EPOCH_ADOPTION (R272, R271). -/
def State.epochAdopt (s : State) : State :=
  match s.gallery.nextEpoch with
  | some (e, f) =>
    if s.galleryOn && f ≤ s.fn then
      let s1 := s.setEpoch e
      let s2 := if s.galleryState = gJoining && s.gallery.inNextRoster then s1.setFld F.GALLERY_STATUS_STATE gMember else s1
      (s2.modGallery fun g => { g with nextEpoch := none, inNextRoster := false }).noteOwn
    else s
  | none => s
def execEpochAdoption (t : Tick) (s : State) : Host.Outcome State Fault Refusal := .next (s.advance t).epochAdopt

/-! ### The coordinated switch (R283, R285) -/

/-- R283: the seats whose READY the root needs have sent it. -/
def State.allReady (s : State) (x : Txn) : Bool :=
  s.presentSeats.all fun k =>
    if !(s.fld F.ROSTER_IN_ROSTER).testBit k then true
    else if k = s.seat then s.quarantined || s.muted || s.galleryState == gMember
    else
      s.gallery.seats.all fun p =>
        p.1 != k || p.2.msg.flags.quarantined || p.2.msg.flags.muted ||
          (p.2.msg.gxCode == 1 && p.2.msg.gxId == x.gxId && p.2.msg.gxFn == x.fn)

/-- GX_GO_DECISION (R283): at boundary FN − 10. -/
def State.gxDecide (s : State) : State :=
  match s.txns.find? (·.st == .waitGo) with
  | some x =>
    if s.galleryOn && s.isRoot && s.gallery.gxSeen = 0 && x.fn = s.fn + 10 then
      s.modGallery fun g => { g with gxSeen := if s.allReady x then gxGo else gxAbort }
    else s
  | none => s
def execGxGoDecision (t : Tick) (s : State) : Host.Outcome State Fault Refusal := .next (s.advance t).gxDecide

/-- The held transaction. -/
def State.heldTxn (s : State) : Option Txn := s.txns.find? (·.st == .held)

/-- The root's GX_LAST as accepted. -/
def State.rootGxLast (s : State) : Option Nat :=
  let k := s.fld F.GALLERY_STATUS_ROOT_SEAT
  if k = s.seat then none else (s.gallery.seats.find? (·.1 == k)).map (·.2.msg.gxLast)

/-- GX_CATCHUP (R285): the transaction applies at the next boundary; that of a JOINING device stays held (R271). -/
def State.gxCatchup (s : State) : State :=
  match s.heldTxn with
  | some x => if s.rootGxLast = some x.gxId && s.galleryState = gMember then
      s.modGallery fun g => { g with catchup := some s.fn } else s
  | none => s

/-- GX_DISCARD (R285): the stage is freed without a mark (R339). -/
def State.gxDiscard (s : State) : State :=
  match s.heldTxn with
  | some x =>
    let s1 := s.discardHeld.modGallery fun g => { g with catchup := none }
    if x.writes.any isEntryWr && s.xc.stage = .session x.sess then s1.freeStage false else s1
  | none => s

/-! ### Time error and muting (R279, R280) -/

/-- R279: TIME_ERROR in ticks, where it can be formed. -/
def State.timeErrorNow (s : State) : Option Int :=
  if s.isRoot then some 0
  else
    match s.portError 2, s.portError 3 with
    | some a, some b =>
      let st := fun (p : Nat) => ((s.ringPort p).head.map (·.steps)).getD 255
      if st 3 < st 2 then some b else some a
    | some a, none => some a
    | none, b => b

/-- A member mutes. -/
def State.mute (s : State) : State :=
  if s.muted then s
  else
    (((s.setOn F.GALLERY_STATUS_MUTED true).bump O.MUTES).raise F.GALLERY_STICKY_MUTED).modGallery fun g =>
      { g with quietRun := 0, relearned := false }

/-- R279, R280 at a boundary. -/
def State.galleryTime (s : State) : State :=
  match s.timeErrorNow with
  | some e =>
    let s1 := (s.setFld F.TIME_ERROR_ERR (publish e)).modGallery fun g =>
      { g with unknownRun := 0, quietRun := if e.natAbs ≤ 125 * ns then g.quietRun + 1 else 0 }
    if 250 * ns < e.natAbs then s1.mute else s1
  | none =>
    let s1 := s.modGallery fun g => { g with unknownRun := g.unknownRun + 1, quietRun := 0 }
    if s.timeErrorSent.isNone then s1.mute else s1

/-- TIME_ERROR_UNKNOWN (R279, R280). -/
def State.timeErrorLost (s : State) : State :=
  if s.galleryOn && 8 ≤ s.gallery.unknownRun then (s.setFld F.TIME_ERROR_ERR errUnknown).mute else s
def execTimeErrorUnknown (t : Tick) (s : State) : Host.Outcome State Fault Refusal := .next (s.advance t).timeErrorLost

/-- UNMUTE (R280). -/
def State.unmute (s : State) : State :=
  if s.galleryOn && s.muted && 8000 ≤ s.gallery.quietRun then
    ((s.setOn F.GALLERY_STATUS_MUTED false).modGallery fun g => { g with relearned := false }).showPresent
  else s
def execUnmute (t : Tick) (s : State) : Host.Outcome State Fault Refusal := .next (s.advance t).unmute

/-- RING_RELEARN (R280). -/
def State.ringRelearn (s : State) : State :=
  if s.muted then s.modGallery fun g => { g with relearned := true } else s

/-! ### Quarantine (R277, R278) -/

def State.quarantine (s : State) (f : Fld) : State :=
  let s1 := s.setOn f true
  let s2 := s1.modGallery fun g => { g with agreeRun := 0 }
  if s.quarantined then s2
  else ((s2.setOn F.GALLERY_STATUS_QUARANTINED true).bump O.QUARANTINES).raise F.GALLERY_STICKY_QUARANTINED

/-- A root count is ahead of the own count. -/
def countAhead (root own : Nat) : Bool :=
  let d := (root + 0x0FFFFFFF - own) % 0x0FFFFFFF
  1 ≤ d && d ≤ 2 ^ 27

/-- One comparison with the root's message. -/
def State.compareMsg (s : State) (m : RingMsg) : State :=
  match s.gallery.own.find? (·.1 == m.originFn) with
  | none => s
  | some (_, e, d, v) =>
    let s1 := if m.digest = d then s.setOn F.GALLERY_STATUS_QUAR_DIGEST false else s.quarantine F.GALLERY_STATUS_QUAR_DIGEST
    let s2 := if m.fwVersion = v then s1.setOn F.GALLERY_STATUS_QUAR_VERSION false
      else s1.quarantine F.GALLERY_STATUS_QUAR_VERSION
    let s3 :=
      if m.epoch = e then s2.setOn F.GALLERY_STATUS_QUAR_EPOCH false
      else if m.epoch % 16 = e % 16 && countAhead (m.epoch / 16) (e / 16) then s2.setEpoch m.epoch
      else (s2.quarantine F.GALLERY_STATUS_QUAR_EPOCH).setEpoch m.epoch
    if m.digest = d && m.fwVersion = v && m.epoch = e then
      let n := s3.gallery.agreeRun + 1
      let s4 := s3.modGallery fun g => { g with agreeRun := n }
      if 8 ≤ n then s4.setOn F.GALLERY_STATUS_QUARANTINED false else s4
    else s3.modGallery fun g => { g with agreeRun := 0 }

/-- The comparisons waiting for this boundary. -/
def State.compareAll (s : State) : State :=
  let s1 := s.modGallery fun g => { g with compare := [] }
  if s.galleryState = gMember then s.gallery.compare.foldl (fun s m => s.compareMsg m) s1 else s1

/-- The mute and quarantine decisions of a boundary, after epoch and transaction (R284). -/
def State.galleryBoundary (s : State) : State :=
  if !s.galleryOn || s.galleryState = 0 then s
  else
    let s1 := ((s.showService 2).showService 3).showPresent.galleryTime
    (if s.ringFollows then s1.modGallery fun g => { g with compare := [] } else s1.compareAll).noteOwn

end Sys2Proof.Machine
end

