-- ==== Sys2Proof/Machine/Mac.lean ====
section
/-! DEFINITION. The management MACs: receive filter, transmit queues, pause and its watchdog, link (R350 to R360). What the
Folla server does with a frame stands with the server. -/

namespace Sys2Proof.Machine

/-- The MACs run: the server's transports do, in boot service too (R416, R432). -/
def State.macsRun (s : State) : Bool := (s.running || s.bootOnly) && !s.resetLow

def State.modMac (s : State) (m : Nat) (f : Mac → Mac) : State := s.setMac m (f (s.mac m))
def State.macUp (s : State) (m : Nat) : Bool := s.on F.MAC_STATUS_LINK_UP m
def State.macOn (s : State) (m : Nat) : Bool := s.on F.MAC_CONFIG_ENABLE m

/-- Octets held in the receive buffer of 16 KiB. -/
def Mac.rxFill (x : Mac) : Nat := (x.rx.map (·.size)).sum
def Mac.rxFree (x : Mac) : Nat := 16384 - x.rxFill

/-- One bit time at the link speed. -/
def State.bitTime (s : State) (m : Nat) : Tick :=
  match s.fld F.MAC_STATUS_SPEED m with
  | 0 => 100 * ns
  | 1 => 10 * ns
  | _ => ns

/-! ### Queues and link (R351, R354) -/

/-- Every queued frame is discarded, counted in its queue's TX_DROP. -/
def State.dropQueues (s : State) (m : Nat) : State :=
  let drop := fun (s : State) (q : Nat) => s.macCount m (14 + q) ((s.mac m).queue q).length
  ([0, 1, 2, 3].foldl drop s).modMac m fun x => { x with queues := [] }

/-- R351: the link goes down. -/
def State.linkFall (s : State) (m : Nat) : State :=
  if s.macUp m then
    ((((s.setOn F.MAC_STATUS_LINK_UP false m).setOn F.MAC_STATUS_AN_DONE false m).dropQueues m).macCount m 19).raise
      F.MAC_STICKY_LINK m
  else s

/-- R351: a change of ENABLE, MODE or AN_EN restarts the link. -/
def State.macRestart (s : State) (m : Nat) : State := (s.linkFall m).dropQueues m

def execLinkDown (t : Tick) (m : Nat) (s : State) : Host.Outcome State Fault Refusal :=
  onUnit (macUnit m) "MAC" (let s1 := s.advance t; if s1.macsRun then s1.linkFall m else s1)

/-- LINK_UP (R350): 1000BASE-X runs at 1,000 Mb/s, SGMII as its link word reports. -/
def State.linkRise (s : State) (m speed : Nat) : State :=
  if s.macsRun && s.macOn m && !s.macUp m then
    ((s.setOn F.MAC_STATUS_LINK_UP true m).setOn F.MAC_STATUS_AN_DONE (s.on F.MAC_CONFIG_AN_EN m) m).setFld
      F.MAC_STATUS_SPEED (if s.fld F.MAC_CONFIG_MODE m = 0 then 2 else speed) m
  else s
def execLinkUp (t : Tick) (m speed : Nat) (s : State) : Host.Outcome State Fault Refusal :=
  onUnit (macUnit m && speed < 3) "MAC" ((s.advance t).linkRise m speed)

/-- R361: TX_QUEUE_STATUS.FILL. -/
def State.queueFill (s : State) (m : Nat) : Nat :=
  ([0, 1, 2, 3].map fun q => ceilDiv (queueBytes ((s.mac m).queue q)) 64 * 256 ^ q).sum

/-! ### Pause (R356 to R358) -/

/-- The transmitter resumes. -/
def State.resumeTx (s : State) (m : Nat) : State :=
  (s.setOn F.MAC_STATUS_PAUSED false m).modMac m fun x => { x with pauseEnd := none, pausedSince := none }

/-- PAUSE_EXPIRY (R356): the quanta of the last pause frame have run out. -/
def State.pauseExpire (s : State) (m : Nat) : State :=
  if (s.mac m).pauseEnd.any (· ≤ s.now) then s.resumeTx m else s
def execPauseExpiry (t : Tick) (m : Nat) (s : State) : Host.Outcome State Fault Refusal :=
  onUnit (macUnit m) "MAC" ((s.advance t).pauseExpire m)

/-- R356: a pause frame of the given quanta. -/
def State.pauseAnew (s : State) (m quanta : Nat) : State :=
  let s0 := if quanta = 0 then s else s.modMac m fun x => { x with lastPause := some s.now }
  let x := s0.mac m
  let from_ := max s.now x.wireEnd
  if !s.on F.PAUSE_CONFIG_RX_PAUSE_EN m || s.on F.MAC_STATUS_PAUSE_IGNORED m then s0
  else if quanta = 0 then s0.resumeTx m
  else
    (s0.setOn F.MAC_STATUS_PAUSED true m).setMac m
      { x with pauseEnd := some (from_ + quanta * 512 * s.bitTime m), pausedSince := some (x.pausedSince.getD from_) }


/-- R356: a pause frame; a pause whose quanta have run out is over before it. -/
def State.pauseFrame (s : State) (m quanta : Nat) : State := (s.pauseExpire m).pauseAnew m quanta

/-- PAUSE_WD_EXPIRY (R357). -/
def State.pauseWd (s : State) (m : Nat) : State :=
  let x := s.mac m
  if s.on F.MAC_STATUS_PAUSED m && !x.pauseEnd.any (· < s.now) && s.sinceOpt x.pausedSince (s.fld F.PAUSE_CONFIG_PAUSE_WD m * ms) then
    (((s.resumeTx m).setOn F.MAC_STATUS_PAUSE_IGNORED true m).macCount m 18).raise F.MAC_STICKY_PAUSE_WD m
  else s
def execPauseWdExpiry (t : Tick) (m : Nat) (s : State) : Host.Outcome State Fault Refusal :=
  onUnit (macUnit m) "MAC" ((s.advance t).pauseWd m)

/-- PAUSE_IGNORED_CLEAR (R357). -/
def State.pauseClear (s : State) (m : Nat) : State :=
  if s.on F.MAC_STATUS_PAUSE_IGNORED m && s.sinceOpt (s.mac m).lastPause sec then
    s.setOn F.MAC_STATUS_PAUSE_IGNORED false m
  else s
def execPauseIgnoredClear (t : Tick) (m : Nat) (s : State) : Host.Outcome State Fault Refusal :=
  onUnit (macUnit m) "MAC" ((s.advance t).pauseClear m)

/-- R358: the receive buffer's free space has changed. -/
def State.pauseCheck (s : State) (m : Nat) : State :=
  let x := s.mac m
  if !s.on F.PAUSE_CONFIG_TX_PAUSE_EN m then s
  else if !x.ownPaused && x.rxFree < 4096 then
    s.setMac m { x with ownPaused := true, ownPause := x.ownPause ++ [0xFFFF], ownPauseAt := s.now }
  else if x.ownPaused && 8192 ≤ x.rxFree then s.setMac m { x with ownPaused := false, ownPause := x.ownPause ++ [0] }
  else s

/-- PAUSE_REPEAT (R358). -/
def State.pauseAgain (s : State) (m : Nat) : State :=
  let x := s.mac m
  if s.on F.PAUSE_CONFIG_TX_PAUSE_EN m && x.ownPaused && s.since x.ownPauseAt (16 * ms) then
    s.setMac m { x with ownPause := x.ownPause ++ [0xFFFF], ownPauseAt := s.now }
  else s
def execPauseRepeat (t : Tick) (m : Nat) (s : State) : Host.Outcome State Fault Refusal :=
  onUnit (macUnit m) "MAC" ((s.advance t).pauseAgain m)

/-! ### Transmission (R355) -/

/-- The oldest frame of the lowest-numbered queue that holds one. -/
def Mac.nextTx (x : Mac) : Option (Nat × TxEth × List TxEth) :=
  [0, 1, 2, 3].findSome? fun q =>
    match x.queue q with
    | f :: r => some (q, f, r)
    | [] => none

/-- PRESUMED (log 28). The instant a frame of n octets ends: preamble of 8 octets and gap of 12, IEEE 802.3. -/
def State.wireTime (s : State) (m n : Nat) : Tick := s.now + (8 + n + 12) * 8 * s.bitTime m

/-- R355: what is sent next starts. -/
def State.sendNext (s : State) (m : Nat) : State :=
  let x := s.mac m
  if !s.macsRun || !s.macUp m || s.now < x.wireEnd || s.on F.MAC_STATUS_PAUSED m || s.heldHalted 14 (16 + m) then s
  else
    match x.ownPause with
    | q :: r => (s.setMac m { x with ownPause := r, wire := none, wirePause := some q, wireEnd := s.wireTime m 64 }).macCount m 13
    | [] =>
      match x.nextTx with
      | some (q, f, r) =>
        ((s.setMac m { x.setQueue q r with wire := some f, wirePause := none, wireEnd := s.wireTime m f.size }).macCount m
          11).macCount m 12 f.size
      | none => s

/-- MAC_TRANSMIT_START (R355). -/
def State.transmit (s : State) (m : Nat) : State := (s.pauseExpire m).sendNext m
def execMacTransmitStart (t : Tick) (m : Nat) (s : State) : Host.Outcome State Fault Refusal :=
  onUnit (macUnit m) "MAC" ((s.advance t).transmit m)

/-! ### Reception (R352) -/

/-- The pause frames of row 1. -/
def isPause (f : EthFrame) : Bool :=
  f.dst == 0x0180C2000001 && f.tags.isEmpty && f.ethertype == 0x8808 && f.payload.take 2 == [0x00, 0x01] && f.fcsOk &&
    f.size == 64

def ethBroadcast : Nat := 0xFFFFFFFFFFFF

/-- Entry k of the address filter of MAC m: enabled, and equal to address a. -/
def State.addrMatch (s : State) (m k a : Nat) : Bool :=
  let v := s.val (objAt (O.ADDR + k) m)
  v.getLsbD 63 && bits v 47 0 == a

/-- R352, row 7. -/
def State.addrOk (s : State) (m : Nat) (f : EthFrame) : Bool :=
  (List.range 8).any (fun k => s.addrMatch m k f.dst) || (f.dst == ethBroadcast && s.on F.MAC_CONFIG_BCAST_EN m)

/-- R352: rows 2 to 8, as the counter that a dropped frame is counted in; none where row 9 applies. -/
def State.macDrop (s : State) (m : Nat) (f : EthFrame) : Option Nat :=
  if (s.mac m).rxFree < 1522 then some 9
  else if f.codeErr then some 6
  else if f.size < 64 then some 4
  else if (if f.tags.isEmpty then 1518 else 1522) < f.size then some 5
  else if !f.fcsOk then some 3
  else if !s.addrOk m f then some 7
  else if f.ethertype ≠ 0x88B5 || 1 < f.tags.length then some 8
  else none

/-- R352: a received frame is counted; a Folla frame enters the receive buffer. -/
def State.macTake (s : State) (m : Nat) (f : EthFrame) : State :=
  if !s.macsRun || !s.macUp m || !s.macOn m || s.heldHalted 14 (16 + m) then s
  else if isPause f then
    (s.macCount m 10).pauseFrame m (beNat ((f.payload.drop 2).take 2))
  else
    match s.macDrop m f with
    | some k => s.macCount m k
    | none =>
      let s1 := (s.macCount m 0).macCount m 1 f.size
      let s2 := if f.dst = ethBroadcast then s1.macCount m 2 else s1
      (s2.modMac m fun x => { x with rx := x.rx ++ [f] }).pauseCheck m

/-- R360: a wake frame. -/
def State.isWake (s : State) (m : Nat) (f : EthFrame) : Bool :=
  s.on F.WAKE_CONFIG_WAKE_EN m && f.dst == bits (s.val (objAt O.ADDR m)) 47 0 && f.ethertype == 0x88B5 && f.fcsOk &&
    f.payload.take 8 == beBytes 8 (bits (s.val (objAt O.WAKE_PATTERN m)) 63 0)

/-- R353: whether a new value of ADDR_k would filter away a session open on the MAC. -/
def State.filtersSession (s : State) (m k : Nat) (v : Val) : Bool :=
  let before := fun (a : Nat) => (List.range 8).any fun j => s.addrMatch m j a
  let after := fun (a : Nat) =>
    (v.getLsbD 63 && bits v 47 0 == a) || (List.range 8).any fun j => j != k && s.addrMatch m j a
  s.sessions.any fun x => x.transport == .eth m && before x.own && !after x.own

end Sys2Proof.Machine
end

