-- ==== Sys2Proof/Machine/Sessions.lean ====
section
/-! DEFINITION. The ends of sessions, and the events they are sent (R330, R331, R340, R343). -/

namespace Sys2Proof.Machine

/-! ### Ends (R331) -/

/-- R331, R388, R389: session n ends: its open transaction and queued events are discarded, its claims and XC_STAGE
abandoned, its generation advanced; its number is the one that ended last. -/
def State.endSession (s : State) (n : Nat) : State :=
  if (s.session n).isSome then
    let s1 := (s.abandonStage n).advanceGen (ownSession n)
    { s1 with sessions := s1.sessions.filter (·.num != n), freeNums := s1.freeNums.filter (· != n) ++ [n] }
  else s

/-- Every session that satisfies p ends. -/
def State.endWhere (s : State) (p : Session → Bool) : State :=
  (s.sessions.filter p).foldl (fun s x => s.endSession x.num) s

/-- SESSION_IDLE_EXPIRY (R331). -/
def State.sessionIdle (s : State) (n : Nat) : State :=
  match s.session n with
  | some x => if s.since x.lastMsg x.idle then (s.endSession n).raise F.FOLLA_STICKY_SESSION_EXPIRED else s
  | none => s
def execSessionIdleExpiry (t : Tick) (n : Nat) (s : State) : Host.Outcome State Fault Refusal :=
  onUnit (sessUnit n) "session" ((s.advance t).sessionIdle n)

/-- SEQ_HOLD_TIMEOUT (R328): a request held for 10 ms is discarded. -/
def State.seqHold (s : State) (n seq : Nat) : State :=
  match (s.session n).bind fun x => x.held.find? fun h => h.seq == seq && s.since h.since (10 * ms) with
  | some h =>
    (s.modSession n fun y => { y with held := y.held.filter (·.seq != h.seq) }).bump O.SEQ_DISCARDS
  | none => s
def execSeqHoldTimeout (t : Tick) (n seq : Nat) (s : State) : Host.Outcome State Fault Refusal :=
  onUnit (sessUnit n) "session" ((s.advance t).seqHold n seq)

/-! ### EVENT messages (R342, R343) -/

/-- The body of an EVENT. -/
def Session.eventBody (x : Session) : List Byte :=
  beBytes 2 x.evQueue.length ++ [if x.evLost then 1 else 0, 0] ++
    x.evQueue.flatMap fun p => beBytes 4 p.1 ++ wordBytes p.2

/-- Where the messages of a session go (R345). -/
def Session.src (x : Session) : Src := ⟨x.via, x.peer, x.vlan, x.own⟩

/-- The EVENT that carries a session's queue. -/
def Session.event (x : Session) : Reply :=
  ({ dst := x.src, response := false, type := tyEvent, session := x.num, seq := x.evSeq, status := 0
     sealed := x.sealed, keyEpoch := x.keyEpoch, body := x.eventBody, wire := [] } : Reply).seal x.key

/-- EVENT_SEND (R343). A session whose event SEQ would wrap is closed first (R340). -/
def State.eventSend (s : State) (n : Nat) : State :=
  match s.session n with
  | some x =>
    if x.evQueue.isEmpty || !s.running || !(x.evLast.all fun t => s.since t ms) then s
    else if x.sealed && 2 ^ 32 - 1 ≤ x.evSeq then s.endSession n
    else
      let r := x.event
      (s.setSession
        { x with
          evQueue := [], evLost := false, evSeq := (x.evSeq + 1) % 2 ^ 32, evLast := some s.now
          evSent := x.evSent ++ [⟨x.evSeq, r, s.now, 0⟩] }).deliver r 3
  | none => s
def execEventSend (t : Tick) (n : Nat) (s : State) : Host.Outcome State Fault Refusal :=
  onUnit (sessUnit n) "session" ((s.advance t).eventSend n)

/-- EVENT_RETRANSMIT (R343): every 100 ms, up to 4 times; then the entries are dropped. -/
def State.eventAgain (s : State) (n seq : Nat) : State :=
  match s.session n with
  | some x =>
    match x.evSent.find? fun e => e.seq == seq && s.since e.at_ (100 * ms) with
    | some e =>
      if 4 ≤ e.tries then s.setSession { x with evSent := x.evSent.filter (·.seq != seq) }
      else
        (s.setSession
          { x with
            evSent := x.evSent.map fun y => if y.seq = seq then { y with at_ := s.now, tries := y.tries + 1 } else y
          }).deliver { e.reply with dst := x.src } 3
    | none => s
  | none => s
def execEventRetransmit (t : Tick) (n seq : Nat) (s : State) : Host.Outcome State Fault Refusal :=
  onUnit (sessUnit n) "session" ((s.advance t).eventAgain n seq)

/-- EVENT_ACK (R343). -/
def State.eventAck (s : State) (n seq : Nat) : State :=
  s.modSession n fun x => { x with evSent := x.evSent.filter (·.seq != seq) }

end Sys2Proof.Machine
end

