-- ==== Sys2Proof/Machine/Banks.lean ====
section
/-! DEFINITION. Engines, memory banks, management DMA and performance counters (R362 to R380), and the check-value units
(R398 to R400). -/

namespace Sys2Proof.Machine

/-! ### Engines (R362, R363) -/

abbrev enOff : Nat := 0
abbrev enLoading : Nat := 1
abbrev enRunning : Nat := 2
abbrev enHalted : Nat := 3
abbrev enRevoked : Nat := 4

def State.engineState (s : State) (e st : Nat) : State := s.setFld F.ENGINE_STATUS_STATE st e

/-- The engines of a subsystem instance (R362): a lane's spoke engine, the cores of a pair, the vault core. -/
def enginesOf (sub inst : Nat) : List Nat :=
  if sub = 11 && inst < 96 then [inst]
  else if sub = 14 && inst < 2 then [0x60 + 2 * inst, 0x61 + 2 * inst]
  else if sub = 17 then [0x64]
  else []

/-- R388: a party is reset or declared faulty: its generation and those of its engines advance. -/
def State.advanceParty (s : State) (sub inst : Nat) : State :=
  (enginesOf sub inst).foldl (fun s e => s.advanceGen (ownEngine e)) (s.advanceGen (ownPart sub inst))

/-! ### Banks (R364 to R371) -/

/-- Bytes of a bank; 0 for a number without a bank. -/
def bankSize (b : Nat) : Nat :=
  if b < 0x60 then 0x200000
  else if b < 0xC0 then 0x40000
  else if b < 0xC2 then 0x400000
  else if b = 0xC2 then 0x100000
  else if b = 0xC3 then 0x80000
  else if 0xC8 ≤ b && b ≤ 0xCF then 0x40000
  else if b = 0xD0 then 0x180000
  else 0

/-- The owner at reset, as subsystem × 256 + instance (R364). -/
def bankOwner0 (b : Nat) : Nat :=
  if b < 0x60 then 6 * 256 + b
  else if b < 0xC0 then 11 * 256 + (b - 0x60)
  else if b = 0xC1 then 14 * 256 + 1
  else if b = 0xC2 then 17 * 256
  else if b = 0xD0 then 5 * 256
  else 14 * 256

/-- R365: the owner in force. -/
def State.bankOwner (s : State) (b : Nat) : Nat := Map.get (bankOwner0 b) b s.owners

/-- The control pair in service, by its instance. -/
def State.pairNow (s : State) : Nat := if s.faults.pairB then 1 else 0

/-- R365, R391: the banks that a party owns pass to the control pair in service. -/
def State.revokeBanks (s : State) (owner to_ : Nat) : State :=
  let own := ((List.range 0xD1).filter bankExists).filter fun b => s.bankOwner b == owner
  if own.isEmpty then s
  else
    { s with owners := own.foldl (fun m b => Map.insert b to_ (Map.erase b m)) s.owners }.raise F.MEM_STICKY_REVOKED

/-- R395: a bank returns to its owner. -/
def State.returnBank (s : State) (b : Nat) : State := { s with owners := Map.erase b s.owners }

/-- POWER_STATE in force: 0 ACTIVE, 1 DOZE. -/
def State.dozing (s : State) : Bool := s.fld F.POWER_STATUS_STATE == 1

/-- R370: 0 off, 1 retention, 2 on. -/
def State.bankWant (s : State) (b : Nat) : Nat :=
  let keep := fun (f : Fld) => if s.on f b then 1 else 0
  if b < 0x60 then (if !s.dozing && s.on F.BAY_STATUS_POWERED (b / 8) then 2 else 0)
  else if b < 0xC0 then
    (if s.role (b - 0x60) = 0 then 0 else if s.dozing then keep F.BANK_CONFIG_DOZE_MODE else 2)
  else if 0xC8 ≤ b && b ≤ 0xCF then
    let p := b - 0xC8
    if p = 0 || s.on F.PART_ENABLE_ENABLE p then
      (if s.dozing then keep F.BANK_CONFIG_DOZE_MODE else 2)
    else if s.retained.contains p then 1
    else 0
  else 2

/-- The bytes of a bank are cleared. -/
def State.wipeBank (s : State) (b : Nat) : State :=
  { s with banks := s.banks.filter (fun p => p.1 / 2 ^ 24 != b), usedBanks := s.usedBanks.filter (· != b) }

/-- R371, R372: one bank follows its power; it is cleared when it comes on from off, and a partition bank from retention
where CLEAR_ON_WAKE says so. -/
def State.bankFollow (s : State) (b : Nat) : State :=
  let old := s.fld F.BANK_POWER_POWER b
  let want := s.bankWant b
  let back := want = 2 && (old = 0 || (old = 1 && 0xC8 ≤ b && b ≤ 0xCF && s.on F.BANK_CONFIG_CLEAR_ON_WAKE b))
  let s1 := if want = 2 then { s with retained := s.retained.filter (· != b - 0xC8) } else s
  if want = 2 && old = 3 then s1
  else if back then (s1.wipeBank b).setFld F.BANK_POWER_POWER 3 b
  else if want = 0 then (s1.wipeBank b).setFld F.BANK_POWER_POWER 0 b
  else s1.setFld F.BANK_POWER_POWER want b

/-- Every bank follows. -/
def State.banksFollow (s : State) : State :=
  ((List.range 0xD1).filter bankExists).foldl (fun s b => if s.fld F.BANK_POWER_POWER b = s.bankWant b then s else s.bankFollow b) s

/-- BANK_CLEAR_COMPLETE (R371). -/
def State.bankCleared (s : State) (b : Nat) : State :=
  if s.fld F.BANK_POWER_POWER b = 3 then s.setFld F.BANK_POWER_POWER 2 b else s
def execBankClearComplete (t : Tick) (b : Nat) (s : State) : Host.Outcome State Fault Refusal :=
  onUnit (bankUnit b) "bank" ((s.advance t).bankCleared b)

/-- R35, R371: a clear of a bank that is on, whatever its settings. -/
def State.clearBank (s : State) (b : Nat) : State :=
  let s1 := s.wipeBank b
  if 2 ≤ s1.fld F.BANK_POWER_POWER b then s1.setFld F.BANK_POWER_POWER 3 b else s1

/-- SCRUB_PERIOD_END (R368). -/
def State.scrubEnd (s : State) (all : Bool) : State :=
  if s.running && s.since s.scrubFrom (s.fld F.SCRUB_PERIOD_SECONDS * sec) then
    { s.raiseIf (!all) F.MEM_STICKY_SCRUB_LATE with scrubFrom := s.now }
  else s
def execScrubPeriodEnd (t : Tick) (allReached : Bool) (s : State) : Host.Outcome State Fault Refusal :=
  .next ((s.advance t).scrubEnd allReached)

/-! ### Management DMA (R364, R366, R369) -/

/-- R364: what the management DMA may do with a bank. -/
def dmaMayRead (b : Nat) : Bool := b < 0xC0
def State.dmaMayWrite (s : State) (b : Nat) : Bool := b < 0x60 && s.role b == 0 && s.on F.BAY_STATUS_POWERED (b / 8)

/-- Whether the content of a bank's bytes is known: a lane bank that has held no window since it was cleared. A spoke bank
holds its engine's image, whose bytes the spec does not give. -/
def State.bankKnown (s : State) (b : Nat) : Bool := b < 0x60 && s.role b == 0 && !s.usedBanks.contains b

/-- One byte of a bank: its cell, 0 where it has been cleared, open otherwise. -/
def State.bankByte (s : State) (b off : Nat) (k : Nat) : Byte :=
  let a := b * 2 ^ 24 + off % max 1 (bankSize b)
  if Map.has a s.banks then Map.get 0 a s.banks
  else if s.bankKnown b then 0
  else Config.bankByte (4 * s.free + k)

/-- Word i of DMA_WINDOW. -/
def State.dmaRead (s : State) (i : Nat) : Word × State :=
  let b := s.fld F.DMA_ADDR_BANK
  let off := s.fld F.DMA_ADDR_OFFSET + 4 * i
  (BitVec.ofNat 32 (beNat ((List.range 4).map fun k => s.bankByte b (off + k) k)), if s.bankKnown b then s else s.drawn)
def State.dmaWrite (s : State) (i : Nat) (w : Word) : State :=
  let b := s.fld F.DMA_ADDR_BANK
  let off := s.fld F.DMA_ADDR_OFFSET + 4 * i
  let put := fun (m : Map Byte) (k : Nat) =>
    Map.set 0 (b * 2 ^ 24 + (off + k) % max 1 (bankSize b)) ((wordBytes w).getD k 0) m
  { s with banks := [0, 1, 2, 3].foldl put s.banks }

/-- Whether the bank that DMA_ADDR names serves an access of the kind. -/
def State.dmaServes (s : State) (write : Bool) : Bool :=
  let b := s.fld F.DMA_ADDR_BANK
  2 ≤ s.fld F.BANK_POWER_POWER b && (if write then s.dmaMayWrite b else dmaMayRead b)

/-- R369, R380: values that DMA_ADDR takes. -/
def dmaAddrOk (v : Val) : Bool :=
  let b := bits v 31 24
  let off := bits v 20 0
  b < 0xC0 && off < bankSize b && (v.getLsbD 32 || off % 4 == 0)

/-! ### Performance counters (R373 to R378) -/

/-- The engine's counters are held. -/
def State.pcFrozen (s : State) (e : Nat) : Bool := s.on F.PC_CONTROL_FREEZE e

/-- R373: periods of the tempo since the counters were last 0 all together. -/
def State.tempoPeriods (s : State) : Nat := if s.tempo then (s.now - s.tempoFrom) / ns else s.tempoHeld

/-- TEMPO_COUNT: held while frozen; otherwise the periods less what had passed at CLEAR, and in freezes. -/
def State.tempoCount (s : State) (e : Nat) : Nat :=
  if s.pcFrozen e then s.fld F.TEMPO_COUNT_COUNT e
  else (s.tempoPeriods + 2 ^ 64 - s.liveOf (objAt O.TEMPO_COUNT e)) % 2 ^ 64

/-- The tempo count goes on from x at this instant. -/
def State.tempoFromCount (s : State) (e x : Nat) : State :=
  s.setLive (objAt O.TEMPO_COUNT e) ((s.tempoPeriods + 2 ^ 64 - x) % 2 ^ 64)

/-- Counter k counts an event that the engines' programs decide. -/
def State.pcCounts (s : State) (e k : Nat) : Bool :=
  let chained := k % 2 = 1 && s.on F.PC_CONFIG_CHAIN e k
  s.on F.PC_CONFIG_ENABLE e k && !chained && s.fld F.PC_CONFIG_EVENT e k != 0 && !s.pcFrozen e

/-- R374: the engine whose slots engine e's counters count: the cores of a pair issue in lockstep. -/
def pcHead (e : Nat) : Nat := if 0x60 ≤ e && e < 0x64 then e - e % 2 else e
def pcCores (u : Nat) : List Nat := if 0x60 ≤ u && u < 0x64 then [u, u + 1] else [u]

/-- Every counter that counts engine e's events. -/
def pcPlaces (e : Nat) : List (Nat × Nat) := (pcCores (pcHead e)).flatMap fun i => (List.range 6).map fun k => (i, k)

/-- Issue slots of a tempo period. -/
def slotsOf (e : Nat) : Nat := if e = 0x64 then 1 else 2

/-- Where State.live keeps the tempo period up to which a unit's slots have been put in classes. -/
def slotKey (u : Nat) : Nat := objAt O.PC_CONTROL u

/-- The slots of engine e that have been put in no class yet. -/
def State.openSlots (s : State) (e : Nat) : Nat := slotsOf e * (s.tempoPeriods - s.liveOf (slotKey (pcHead e)))

/-- R374: slots shared out among classes, each slot to one: which is open. -/
def splitSlots (pick : Nat → Nat) : Nat → List Nat → Map Nat
  | _, [] => []
  | r, [c] => [(c, r)]
  | r, c :: cs => (c, pick c % (r + 1)) :: splitSlots pick (r - pick c % (r + 1)) cs

abbrev slotClasses : List Nat := [1, 2, 3, 4, 5, 6]

/-- The j-th of the free values of one look at the counters. -/
def State.pcDraw (s : State) (j : Nat) : Nat := (Config.freeValue (s.free + j)).toNat

/-- How often each event has happened at engine e since its counters were last looked at (log 29); the number of one of them
given, where `fix` names it. Corrected words (8) are counted as they come. -/
def State.pcEvents (s : State) (e : Nat) (fix : Option (Nat × Nat)) (code : Nat) : Nat :=
  let given := fun (c : Nat) => fix.any (·.1 == c)
  let fixed := (fix.map (·.2)).getD 0
  let left := s.openSlots e - (if slotClasses.any given then fixed else 0)
  if given code then fixed
  else if slotClasses.contains code then Map.get 0 code (splitSlots s.pcDraw left (slotClasses.filter fun c => !given c))
  else if code = 8 then 0
  else s.pcDraw code

/-- R376: counter k reaches its threshold. FREEZE is set after the counting step. -/
def State.pcThresh (s : State) (e k : Nat) : State :=
  let s1 := s.raiseBit (objAt O.PC_STICKY e) (8 + k)
  if s.on F.PC_CONFIG_THRESH_FREEZE e k then
    (if s.pcFrozen e then s1 else (s1.setFld F.TEMPO_COUNT_COUNT (s.tempoCount e) e).setOn F.PC_CONTROL_FREEZE true e)
  else s1

/-- The threshold of counter k as a raw count (R376, R378). -/
def State.threshCount (s : State) (e k : Nat) : Nat :=
  (s.fld F.PC_THRESH_THRESH e k + (Map.get 0 (objAt O.PC_COUNT e k) s.bases).toNat) % 2 ^ 48

/-- Counter k holds its threshold. A threshold of 0 never matches. -/
def State.atThresh (s : State) (e k : Nat) : Bool :=
  s.fld F.PC_THRESH_THRESH e k != 0 && s.fld F.PC_COUNT_COUNT e k == s.threshCount e k

/-- A counter that has counted and now reads its threshold. -/
def State.pcMatch (s : State) (e k : Nat) : State := if s.atThresh e k then s.pcThresh e k else s

/-- R375: counter k has passed from 2^48 − 1 to 0; a chained odd neighbour counts it. -/
def State.pcWrapped (s : State) (e k : Nat) : State :=
  if k % 2 = 0 && s.on F.PC_CONFIG_CHAIN e (k + 1) then
    if s.on F.PC_CONFIG_ENABLE e (k + 1) then
      let x := (s.fld F.PC_COUNT_COUNT e (k + 1) + 1) % 2 ^ 48
      let s1 := s.setFld F.PC_COUNT_COUNT x e (k + 1)
      if x = 0 then s1.raiseBit (objAt O.PC_STICKY e) (k + 1) else s1
    else s
  else s.raiseBit (objAt O.PC_STICKY e) k

/-- Counter k has counted n events. -/
def State.pcLand (s : State) (e k n : Nat) : State :=
  if n ≠ 0 && s.fld F.PC_COUNT_COUNT e k = 0 then s.pcWrapped e k else s

/-- Counter k has counted n events: it may read its threshold, and so may a neighbour that counted its wrap. -/
def State.pcJudge (s : State) (e k n : Nat) : State :=
  if n = 0 then s
  else
    let s1 := s.pcMatch e k
    if k % 2 = 0 && s.fld F.PC_COUNT_COUNT e k = 0 && s.on F.PC_CONFIG_CHAIN e (k + 1) && s.on F.PC_CONFIG_ENABLE e (k + 1) then
      s1.pcMatch e (k + 1)
    else s1

/-- R376: what counters read once all of `places` have counted: wraps first, then thresholds, which may freeze. -/
def State.pcSettle (s : State) (places : List (Nat × Nat)) (n : Nat × Nat → Nat) : State :=
  let s1 := places.foldl (fun s p => s.pcLand p.1 p.2 (n p)) s
  places.foldl (fun s p => s.pcJudge p.1 p.2 (n p)) s1

/-- The counters of engine e take what has happened; both cores of a pair alike. All count before any of them freezes. -/
def State.pcAdvance (s : State) (e : Nat) (fix : Option (Nat × Nat)) : State :=
  let on_ := (pcPlaces e).filter fun p => s.pcCounts p.1 p.2
  let n := fun (p : Nat × Nat) => s.pcEvents e fix (s.fld F.PC_CONFIG_EVENT p.1 p.2)
  let s1 := on_.foldl (fun s p => s.setFld F.PC_COUNT_COUNT ((s.fld F.PC_COUNT_COUNT p.1 p.2 + n p) % 2 ^ 48) p.1 p.2) s
  let s2 := { s1.setLive (slotKey (pcHead e)) s.tempoPeriods with free := s.free + 13 }
  s2.pcSettle on_ n

/-- The counters of engine e at this instant. -/
def State.pcSample (s : State) (e : Nat) : State := s.pcAdvance e none

/-- Counter k's event can have happened n times since its counters were looked at: not where there were fewer slots. -/
def State.pcMay (s : State) (e k n : Nat) : Bool :=
  s.pcCounts e k && (!slotClasses.contains (s.fld F.PC_CONFIG_EVENT e k) || n ≤ s.openSlots e)
def State.pcGiven (s : State) (e k n : Nat) : State :=
  if s.pcMay e k n then s.pcAdvance e (some (s.fld F.PC_CONFIG_EVENT e k, n)) else s

/-- Events until counter k reads x. -/
def State.pcUntil (s : State) (e k x : Nat) : Nat := (x + 2 ^ 48 - 1 - s.fld F.PC_COUNT_COUNT e k) % 2 ^ 48 + 1

/-- R368, R373: a word of the engine's own bank has been corrected. -/
def State.pcCorrected (s : State) (e : Nat) : State :=
  let on_ := (pcPlaces e).filter fun p => s.pcCounts p.1 p.2 && s.fld F.PC_CONFIG_EVENT p.1 p.2 == 8
  let s1 := on_.foldl (fun s p => s.setFld F.PC_COUNT_COUNT ((s.fld F.PC_COUNT_COUNT p.1 p.2 + 1) % 2 ^ 48) p.1 p.2) s
  s1.pcSettle on_ fun _ => 1

/-- R364: the engine whose own bank b is. -/
def bankEngine (b : Nat) : Option Nat :=
  if 0x60 ≤ b && b < 0xC0 then some (b - 0x60)
  else if b = 0xC0 then some 0x60
  else if b = 0xC1 then some 0x62
  else if b = 0xC2 then some 0x64
  else none

/-- FREEZE (R377). -/
def State.freeze (s : State) (e : Nat) (on_ : Bool) : State :=
  if on_ = s.pcFrozen e then s
  else if on_ then
    let s1 := s.pcSample e
    (s1.setFld F.TEMPO_COUNT_COUNT (s.tempoCount e) e).setOn F.PC_CONTROL_FREEZE true e
  else ((s.pcSample e).tempoFromCount e (s.tempoCount e)).setOn F.PC_CONTROL_FREEZE false e

/-- SNAPSHOT of PC_CONTROL. -/
def State.pcSnapshot (s : State) (e : Nat) : State :=
  let s1 := s.pcSample e
  (List.range 6).foldl (fun s k => s.setFld F.PC_SNAP_COUNT (s.fld F.PC_COUNT_COUNT e k) e k)
    (s1.setFld F.TEMPO_SNAP_COUNT (s.tempoCount e) e)

/-- CLEAR of PC_CONTROL: only the live counts. -/
def State.pcClear (s : State) (e : Nat) : State :=
  let s1 := (List.range 6).foldl (fun s k => s.setFld F.PC_COUNT_COUNT 0 e k) (s.pcSample e)
  if s1.pcFrozen e then s1.setFld F.TEMPO_COUNT_COUNT 0 e else s1.tempoFromCount e 0

/-- PC_COUNTER_WRAP (R375): counter k passes from 2^48 − 1 to 0. -/
def State.pcWrap (s : State) (e k : Nat) : State := s.pcGiven e k (s.pcUntil e k 0)
def execPcCounterWrap (t : Tick) (e k : Nat) (s : State) : Host.Outcome State Fault Refusal :=
  onUnit (engineUnit e && pcUnit k) "counter" ((s.advance t).pcWrap e k)

/-- PC_THRESHOLD_REACHED (R376). -/
def State.pcReached (s : State) (e k : Nat) : State :=
  if s.fld F.PC_THRESH_THRESH e k ≠ 0 then s.pcGiven e k (s.pcUntil e k (s.threshCount e k)) else s
def execPcThresholdReached (t : Tick) (e k : Nat) (s : State) : Host.Outcome State Fault Refusal :=
  onUnit (engineUnit e && pcUnit k) "counter" ((s.advance t).pcReached e k)

/-- R378: the lane of spoke engine e has come to a partition: a base is latched, the settings return to their defaults. -/
def State.pcHandOver (s : State) (e : Nat) : State :=
  let s1 := s.pcSample e
  let keep := fun (m : Map Val) (o v : Nat) => Map.set 0 o (BitVec.ofNat 96 v) m
  let m1 := (List.range 6).foldl (fun m k => keep m (objAt O.PC_COUNT e k) (s1.fld F.PC_COUNT_COUNT e k)) s1.bases
  let s2 := { s1 with bases := keep m1 (objAt O.TEMPO_COUNT e) (s1.tempoCount e) }
  (List.range 6).foldl (fun s k => (s.setVal (objAt O.PC_CONFIG e k) 0).setVal (objAt O.PC_THRESH e k) 0)
    (s2.setVal (objAt O.PC_STICKY e) 0)

/-! ### Check-value units (R398 to R400) -/

def State.cvuBusy (s : State) (u : Nat) : Bool := s.on F.CVU_STATUS_BUSY u

/-- The dictionary key of unit u: its CVU_CONFIG with scope 1. -/
def cvuKey (u : Nat) : Nat := claimKey (objAt O.CVU_CONFIG u) 1

/-- R400: whether session n may write to unit u: none where it may, else a status and the holder. -/
def State.cvuRefuses (s : State) (n u : Nat) : Option (Nat × Nat) :=
  let c := s.claim (cvuKey u)
  if c.holder = n && n ≠ 0 then none
  else if c.holder ≠ 0 then some (stClaimed, c.holder)
  else if s.hwHolds (cvuKey u) then some (stClaimed, 0)
  else some (stAccess, 0)

/-- A write of CVU_CONFIG loads VALUE. -/
def State.cvuConfig (s : State) (u algo : Nat) : State :=
  (s.setFld F.CVU_CONFIG_ALGO algo u).setFld F.CVU_VALUE_VALUE (cvuInit algo) u

/-- Bytes feed the running register. -/
def State.cvuFeed (s : State) (u : Nat) (bs : List Byte) : State :=
  let algo := s.fld F.CVU_CONFIG_ALGO u
  s.setFld F.CVU_VALUE_VALUE (bs.foldl (cvuStep algo) (s.fld F.CVU_VALUE_VALUE u)) u

/-- RESULT (R398). -/
def State.cvuResult (s : State) (u : Nat) : Nat := cvuFinal (s.fld F.CVU_CONFIG_ALGO u) (s.fld F.CVU_VALUE_VALUE u)

/-- R399: a value that CVU_RANGE takes lies within its bank. -/
def cvuRangeOk (v : Val) : Bool := bits v 52 32 + bits v 31 0 ≤ bankSize (bits v 63 56)

/-- START (R399). -/
def State.cvuStart (s : State) (u : Nat) : State :=
  let run : CvuRun := ⟨s.fld F.CVU_RANGE_BANK u, s.fld F.CVU_RANGE_OFFSET u, s.fld F.CVU_RANGE_LENGTH u⟩
  { (s.setOn F.CVU_STATUS_BUSY true u).setOn F.CVU_STATUS_UNCORR false u with
    cvuRuns := Map.insert u run (Map.erase u s.cvuRuns) }

/-- CVU_RUN_COMPLETE (R399): over a bank whose bytes are open, or a range that met an uncorrectable word, the register's
value is open (log 10). -/
def State.cvuDone (s : State) (u : Nat) (uncorr : Bool) : State :=
  match s.cvuRuns.find? (·.1 == u) with
  | some (_, r) =>
    let s1 := { (s.setOn F.CVU_STATUS_BUSY false u).setOn F.CVU_STATUS_UNCORR uncorr u with
                cvuRuns := Map.erase u s.cvuRuns }
    if !uncorr && s.bankKnown r.bank then
      s1.cvuFeed u ((List.range r.length).map fun k => s.bankByte r.bank (r.offset + k) 0)
    else (s1.setFld F.CVU_VALUE_VALUE (s.freeVal.toNat % 2 ^ 32) u).drawn
  | none => s
def execCvuRunComplete (t : Tick) (u : Nat) (uncorr : Bool) (s : State) : Host.Outcome State Fault Refusal :=
  onUnit (cvuUnit u) "unit" ((s.advance t).cvuDone u uncorr)

end Sys2Proof.Machine
end

