-- ==== Sys2Proof/Machine/Collector.lean ====
section
/-! DEFINITION. The fault collector: classes, records and merging, containment, revocation, the start and end of a
reinitialisation (R381 to R396). A warm reset that an escalation asks for stands with recovery. -/

namespace Sys2Proof.Machine

abbrev clsCorrected : Nat := 0
abbrev clsContained : Nat := 1
abbrev clsFatal : Nat := 2

def State.modFaults (s : State) (f : Faults → Faults) : State := { s with faults := f s.faults }

/-! ### Classes (R381, R382) -/

/-- A control pair other than the one in service runs and can take over. -/
def State.spareRuns (s : State) : Bool :=
  s.faults.handover.isNone && (if s.faults.pairB then s.faults.runA else s.faults.runB)

/-- The output slots whose entries the holder of XC_STAGE has written. -/
def State.stagedSlots (s : State) : List Nat := (s.stageWrites.filter isEntryWr).map fun w => entrySlot w.o

/-- R160: the output slot that cause 0x08 names. -/
def faultSlot (f : FaultIn) : Nat := slotIdx f.inst f.detail

/-- The fault strikes the control pair in service. -/
def State.hitsPair (s : State) (f : FaultIn) : Bool :=
  f.cause == 0x09 || (f.cause == 0x05 && f.inst == 0xC0 + s.pairNow)

/-- R382: the class of a fault. -/
def State.faultClass (s : State) (f : FaultIn) : Nat :=
  if f.cause = 0x01 || f.cause = 0x02 then clsCorrected
  else if f.cause = 0x0E || f.cause = 0x0F || f.cause = 0x10 then clsFatal
  else if f.cause = 0x08 then (if s.stagedSlots.contains (faultSlot f) then clsContained else clsCorrected)
  else if s.hitsPair f && !s.spareRuns then clsFatal
  else clsContained

/-! ### Fatal (R387) -/

/-- R384, R387: the fatal actions, by hardware: every transmitter and output is silent, the hold pin is let go. -/
def State.fatalNow (s : State) : State :=
  let s1 := (s.modFaults fun x => { x with fatal := true }).setOn F.FAULT_STATUS_FATAL true
  let s2 := (s1.tandemDrop).showOuts
  (List.range numLanes).foldl (fun s l => s.modLane l fun x => { x with lastTx := none, txEnd := none }) s2

/-! ### Revocation (R391, R392) -/

/-- R392: a control pair that is not in service runs no more, until it is reinitialised. -/
def State.stopSpare (s : State) (p : Nat) : State :=
  if p = s.pairNow then s else s.modFaults fun x => { x with runA := x.runA && p != 0, runB := x.runB && p != 1 }

/-- R391: a party is declared faulty. `to_` is the owner its banks pass to. -/
def State.revoke (s : State) (sub inst to_ : Nat) : State :=
  let s1 := (s.advanceParty sub inst).revokeBanks (sub * 256 + inst) to_
  let s2 := if sub = 11 then s1.flushLane inst else s1
  let s3 := if sub = 14 && 0x20 ≤ inst then s2.modFaults fun x => { x with idlePorts := (inst - 0x20) :: x.idlePorts }
    else if sub = 14 then s2.stopSpare inst else s2
  ((enginesOf sub inst).foldl (fun s e => s.engineState e enRevoked) s3).raise F.FAULT_STICKY_REVOKED

/-- R392: the control pair in service is declared faulty and the spare is to take over: every session ends at once. -/
def State.pairFails (s : State) : State :=
  let p := s.pairNow
  let s1 := (s.revoke 14 p (14 * 256 + (1 - p))).endWhere fun _ => true
  s1.modFaults fun x =>
    { x with handover := some s1.now, runA := x.runA && p != 0, runB := x.runB && p != 1 }

/-- PAIR_B_IN_SERVICE (R392): the spare has taken service. The same command serves with the pairs exchanged. -/
def State.pairTakes (s : State) : State :=
  if s.faults.handover.isSome then
    let s1 := s.modFaults fun x => { x with handover := none, pairB := !x.pairB }
    (enginesOf 14 s1.pairNow).foldl (fun s e => (s.engineState e enRunning).setOn F.ENGINE_STATUS_SPARE false e) s1
  else s

/-! ### Reinitialisation (R395, R396) -/

def reinitKey (sub inst : Nat) : Nat := sub * 256 + inst
def State.setReinit (s : State) (sub inst : Nat) (r : Reinit) : State :=
  s.modFaults fun x => { x with reinits := Map.set {} (reinitKey sub inst) r x.reinits }

/-- BUSY and HALTED of REINIT_STATUS. -/
def State.showReinit (s : State) : State :=
  (s.setOn F.REINIT_STATUS_BUSY (s.faults.reinits.any (·.2.running))).setOn F.REINIT_STATUS_HALTED
    (s.faults.reinits.any (·.2.halted))

/-- R395: the greatest time of a reinitialisation. -/
def State.reinitMax (s : State) (sub inst : Nat) : Tick :=
  match sub with
  | 1 => s.bringUpMax inst
  | 2 => 2 * ms
  | 3 => 2 * ms
  | 4 => ms
  | 5 => 2 * ms
  | 6 => ms
  | 7 => ms
  | 8 => 125 * us
  | 9 => 125 * us
  | 10 => 10 * ms
  | 11 => 5 * ms
  | 12 => ms
  | 13 => ms
  | 14 => 50 * ms
  | 15 => 2 * ms
  | 16 => 10 * ms
  | 17 => 100 * ms
  | _ => 0

/-- R395, no. 2: alignment, parity and defect detection start again on a lane that stays as it is. -/
def State.reframe (s : State) (l : Nat) : State :=
  let x := s.lane l
  let s1 := (s.quietLane l).modLane l fun y => { y with upSince := x.upSince, inService := x.inService, bringUpEnd := x.bringUpEnd }
  if s1.laneUp l then s1.framerStart l else s1

/-- R395, no. 4: mapper and demapper start again. -/
def State.remap (s : State) (l : Nat) : State :=
  s.modLane l fun x =>
    { x with mapping := [], mapFirst := 0, mapPchk := 0, mapNoLock := false, mapHiBer := false, mapL := none, mapErr := false
             txQueue := [], baseSeq := none, demapPchk := none }

/-- R395, no. 5: the open transaction that holds XC_STAGE is discarded. -/
def State.restage (s : State) : State :=
  match s.xc.stage with
  | .session n => ((s.modSession n fun x => { x with txn := none }).discardHeld).freeStage false
  | _ => s

/-- R227: the loop starts again in FREEWHEEL, or in FREE without a value; the selector starts from no candidate. -/
def State.loopRestart (s : State) : State :=
  ((s.setSelected 127).setLoop s.loose).settle

/-- R395, no. 10: a synthesizer starts again, squelched. -/
def State.resynth (s : State) (n : Nat) : State :=
  if n < 8 then
    let g := (s.fld F.OUT_FREQ_NUM_NUM n, s.fld F.OUT_FREQ_DEN_DEN n)
    (s.setOut n { num := g.1, den := g.2, goal := g }).showOut n
  else { s with pps := Map.erase (n - 16) s.pps }

/-- R395, no. 12: APS acceptance and wait-to-restore times start again. -/
def State.protRestart (s : State) : State :=
  let again := fun (t : Option Tick) => t.map fun _ => s.now
  { s with
    aps := s.aps.map fun (p : Nat × Aps) => (p.1, { p.2 with farRun := ⟨0, 0⟩, wtrFrom := again p.2.wtrFrom })
    pathProt := s.pathProt.map fun (p : Nat × PathProt) => (p.1, { p.2 with wtrFrom := again p.2.wtrFrom }) }

/-- R395, no. 14: a control pair, a MAC or a Thotar port. The pair in service hands over as R392 has it. DESIGN CHOICE (log 72):
the spec numbers no instance for a DCC port-pair clock (R14, R382) and names nothing that its reinitialisation does: it is
0x30 + the pair, and nothing is done. -/
def State.reControl (s : State) (inst : Nat) : State :=
  if inst < 2 then
    let s1 := if inst = s.pairNow && s.spareRuns then s.pairFails else s.stopSpare inst
    (enginesOf 14 inst).foldl (fun s e => s.engineState e enLoading) s1
  else if inst = 0x10 || inst = 0x11 then s.macRestart (inst - 0x10)
  else if inst = 0x22 || inst = 0x23 then
    let p := inst - 0x20
    let x := s.ringPort p
    (s.setRingPort p { x with heads := 0, head := none, ledger := x.ledger.reseed }).showService p
  else if inst = 0x20 then s.setOn F.TANDEM_STATUS_T0_OK false
  else if inst = 0x21 then s.setOn F.TANDEM_STATUS_T1_OK false
  else s

/-- R395: what the start of a reinitialisation does to its instance. -/
def State.reinitAct (s : State) (sub inst : Nat) : State :=
  let lane := inst < numLanes
  match sub with
  | 1 => if lane && s.role inst ≠ 0 && !s.dozing then s.bringUp inst else s
  | 2 => if lane then s.reframe inst else s
  | 3 => if lane then (s.clearPaths inst).modLane inst fun x => { x with pointers := [] } else s
  | 4 => if lane then s.remap inst else s
  | 5 => s.restage
  | 6 => if lane then s.modLane inst fun x => { x with landings := [], nextL := none } else s
  | 7 => if lane then s.modLane inst fun x => { x with store := [], txEnd := none } else s
  | 8 => if lane then s.reseedLane inst else s
  | 9 => s.loopRestart
  | 10 => if inst < 8 || (16 ≤ inst && inst < 20) then s.resynth inst else s
  | 11 => if lane then (s.flushLane inst).engineState inst enLoading else s
  | 12 => s.protRestart
  | 13 => s.pmStep
  | 14 => s.reControl inst
  | 15 => s.clearBank inst
  | 16 => { s with supply := {} }
  | 17 => (s.endWhere (·.sealed)).engineState 0x64 enLoading
  | _ => s

/-- R396: an instance escalates: a warm reset is asked for, or the instance stays halted; a lane in FAULT (R40, log 67). -/
def State.escalate (s : State) (sub inst : Nat) : State :=
  let s0 := s.raise F.FAULT_STICKY_ESCALATE
  if s.on F.FAULT_CONFIG_AUTO_RESET then s0.modFaults fun x => { x with resetWanted := true }
  else
    let s1 := if sub = 1 && inst < numLanes then s0.laneFault inst else s0
    (((enginesOf sub inst).foldl (fun s e => s.engineState e enHalted) s1).setReinit sub inst
      { s1.reinitOf sub inst with running := false, halted := true }).showReinit

/-- R395, R396: a reinitialisation starts, or starts again. `byHost`: a write of REINIT, which frees a halted instance and
restarts its count. -/
def State.reinitStart (s : State) (sub inst record : Nat) (byHost : Bool) : State :=
  let r := s.reinitOf sub inst
  let recent := if byHost && r.halted then [] else r.starts.filter fun t => s.now < t + 60 * sec
  let starts := if r.running then recent else recent ++ [s.now]
  if r.halted && !byHost then s
  else
    let s1 := s.setReinit sub inst { running := true, began := s.now, record, starts, halted := false }
    if s.fld F.FAULT_CONFIG_REINIT_LIMIT < starts.length then s1.escalate sub inst
    else
      (((s1.advanceParty sub inst).reinitAct sub inst).setFld F.REINIT_STATUS_LAST sub).showReinit

/-- OUTSTANDING as shown. -/
def State.showOutstanding (s : State) : State :=
  s.setFld F.FAULT_STATUS_OUTSTANDING (min 255 s.faults.outstanding.length)

/-- R386: the records of an instance, and the record that started the reinitialisation, are no longer outstanding. -/
def State.settleRecords (s : State) (sub inst record : Nat) : State :=
  let gone := fun (k : Nat) =>
    k == record || s.faults.log.any fun r => r.record == k && r.subsystem == sub && r.inst == inst
  (s.modFaults fun x => { x with outstanding := x.outstanding.filter fun k => !gone k }).showOutstanding

/-- What the end of a reinitialisation brings back. -/
def State.reinitEnd (s : State) (sub inst : Nat) : State :=
  let back := { s with owners := s.owners.filter fun p => bankOwner0 p.1 != sub * 256 + inst }
  match sub with
  | 11 => back.engineState inst (if s.role inst = 0 then enHalted else enRunning)
  | 14 =>
    if inst < 2 then
      let s1 := (enginesOf 14 inst).foldl (fun s e =>
        (s.engineState e enRunning).setOn F.ENGINE_STATUS_SPARE (inst != s.pairNow) e) back
      s1.modFaults fun x => { x with runA := x.runA || inst == 0, runB := x.runB || inst == 1 }
    else back.modFaults fun x => { x with idlePorts := x.idlePorts.filter fun p => p + 0x20 != inst }
  | 15 => s.returnBank inst
  | 12 => back.apsGroups.foldl (fun s g => s.apsEval g) back
  | 16 => back.setOn F.POWER_STATUS_PMBUS_HOLD false
  | 17 => { (back.engineState 0x64 enRunning).setOn F.VAULT_STATUS_ENTROPY_OK true with
            vault := { back.vault with entropyBad := false } }
  | _ => back

/-- REINIT_COMPLETE (R386, R395). A bank's owner is reinitialised next. -/
def State.reinitDone (s : State) (sub inst : Nat) : State :=
  let r := s.reinitOf sub inst
  if !r.running then s
  else
    let s1 := ((s.setReinit sub inst { r with running := false }).reinitEnd sub inst).settleRecords sub inst r.record
    let s2 := if sub = 15 then s1.reinitStart (bankOwner0 inst / 256) (bankOwner0 inst % 256) r.record false else s1
    s2.showReinit

/-- REINIT_TIMEOUT (R396). -/
def State.reinitLate (s : State) (sub inst : Nat) : State :=
  let r := s.reinitOf sub inst
  if r.running && s.reinitMax sub inst < s.now - r.began then s.escalate sub inst else s

/-! ### Containment (R160, R382) -/

/-- The free choice of cause 0x06: a history sample loses its validity, or a fault record becomes 0 (log 9). -/
def State.loseRetention (s : State) : State :=
  let x := s.freeVal.toNat
  let k := x / 2
  let s1 := s.drawn
  if x % 2 = 0 then
    { s1 with timing := { s1.timing with
        history := s1.timing.history.mapIdx fun i (h : Sample) => if i = k % 86400 then { h with valid := false } else h } }
  else
    s1.modFaults fun y => { y with
      log := y.log.mapIdx fun i (r : FaultRec) => if i = k % 256 then ⟨0, 0, 0, 0, 0, 0, 0, 0, 0, 0, 0, 0⟩ else r }

/-- R382, cause 0x03: the slots whose bytes lie in the word carry AIS. Where a lane bank keeps them is open: each place of its
release window and of its landing window is hit or not as a free value has it (log 9). -/
def State.loseWord (s : State) (l : Nat) : State :=
  let x := s.lane l
  let hit := fun (j : Nat) => (Config.freeValue (s.free + j)).getLsbD 0
  let n := x.store.length
  let lost := fun (i : Nat) (f : Landing) =>
    { f with slots := f.slots.mapIdx fun j (p : Nat × Cell) => if hit (n + 1024 * i + j) then (p.1, aisCell) else p }
  let s1 := s.modLane l fun y =>
    { y with
      store := y.store.mapIdx fun j (c : StoreCell) => if hit j then { c with cell := aisCell } else c
      landings := y.landings.mapIdx lost }
  { s1 with free := s.free + n + 1024 * x.landings.length }

/-- R160: an uncorrectable entry. -/
def State.badEntry (s : State) (f : FaultIn) : State :=
  if !s.stagedSlots.contains (faultSlot f) then s
  else if f.standby then
    { s with xc := { s.xc with badStaged := faultSlot f :: s.xc.badStaged } }.raise F.XC_STICKY_MEM_UNCORR
  else { s with xc := { s.xc with broken := faultSlot f :: s.xc.broken } }.raise F.XC_STICKY_MEM_UNCORR

/-- The counters of a bank (R368). -/
def State.bankError (s : State) (f : FaultIn) : State :=
  if f.cause = 0x01 then
    let s1 := s.bump (objAt O.CORR f.inst)
    match bankEngine f.inst with
    | some e => s1.pcCorrected e
    | none => s1
  else (s.bump (objAt O.UNCORR f.inst)).raise F.MEM_STICKY_UNCORR

/-- The first action of a contained or corrected fault (R382), with the ladder step it reaches. A lane whose transmit clock
stopped is in FAULT until its reinitialisation starts (R40). -/
def State.contain (s : State) (f : FaultIn) (record : Nat) : Nat × State :=
  let again := fun (s : State) (sub inst : Nat) => (2, s.reinitStart sub inst record false)
  match f.cause with
  | 0x01 => (0, s.bankError f)
  | 0x02 => (1, s)
  | 0x03 => (0, (s.bankError f).loseWord f.inst)
  | 0x04 => again (s.bankError f) 11 (f.inst - 0x60)
  | 0x05 => (0, if s.hitsPair f then (s.bankError f).pairFails else s.bankError f)
  | 0x06 => (0, (s.bankError f).loseRetention)
  | 0x07 => (0, ((s.bankError f).endWhere fun x => x.part + 0xC8 == f.inst).clearBank f.inst)
  | 0x08 => (0, s.badEntry f)
  | 0x09 => (0, s.pairFails)
  | 0x0A => again s 11 f.inst
  | 0x0B =>
    if f.subsystem = 1 then again (if f.inst < numLanes then s.laneFault f.inst else s) 1 f.inst
    else if f.subsystem = 10 || f.subsystem = 14 then again s f.subsystem f.inst
    else (0, s)
  | 0x0C => (1, if f.subsystem = 16 then s.setOn F.POWER_STATUS_PMBUS_HOLD true else s)
  | 0x0D => again s 17 0
  | 0x20 => (0, s.revoke f.subsystem f.inst (14 * 256 + s.pairNow))
  | _ => (0, s)

/-! ### Records (R383, R385) -/

def srcBit (sub : Nat) : Nat := 2 ^ (sub - 1)

/-- A new record, and what the log does when it is full. -/
def State.openRecord (s : State) (f : FaultIn) (cls step : Nat) : State :=
  let n := s.fld F.FAULT_NEWEST_RECORD + 1
  let r : FaultRec :=
    { record := n, cls, cause := f.cause, subsystem := f.subsystem, inst := f.inst, merges := 0
      gen := s.gen (ownPart f.subsystem f.inst), step := if cls = clsFatal then 4 else step, highCause := f.cause
      mergedSrc := 0, time := time96 s.dts, detail := f.detail }
  let full := 256 ≤ s.faults.log.length
  let s1 := s.modFaults fun x =>
    { x with
      log := (r :: x.log).take 256, handling := some (n, s.now + 20 * us)
      outstanding := if cls = clsContained then x.outstanding ++ [n] else x.outstanding }
  let s2 := (s1.setFld F.FAULT_NEWEST_RECORD n).setFld F.FAULT_INFO_COUNT (min 256 (s.faults.log.length + 1))
  (if full then (s2.bump O.LOG_OVERWRITE).raise F.FAULT_STICKY_LOG_WRAP else s2).showOutstanding

/-- R383: a fault joins the record being handled. Of two raised at one instant the lower-numbered subsystem's is first. -/
def FaultRec.join (r : FaultRec) (f : FaultIn) (cls step : Nat) (sameInstant : Bool) : FaultRec :=
  let first := sameInstant && decide (f.subsystem < r.subsystem)
  let r1 : FaultRec :=
    if first then { r with cause := f.cause, subsystem := f.subsystem, inst := f.inst, detail := f.detail } else r
  let up := r.cls < cls
  { r1 with
    merges := min 0xFFFF (r.merges + 1)
    mergedSrc := Nat.lor r.mergedSrc (srcBit (if first then r.subsystem else f.subsystem))
    cls := max r.cls cls, highCause := if up || (first && r.cls == cls) then f.cause else r.highCause
    step := if cls = clsFatal then 4 else max r.step step }

/-- The record being handled at this instant. -/
def State.openNow (s : State) : Option Nat :=
  match s.faults.handling with
  | some (n, e) => if s.now < e then some n else none
  | none => none

def State.joinRecord (s : State) (n : Nat) (f : FaultIn) (cls step : Nat) : State :=
  let same := s.faults.handling.any fun h => h.2 == s.now + 20 * us
  (s.modFaults fun x =>
    { x with
      log := x.log.map fun r => if r.record = n then
          { r.join f cls step same with gen := s.gen (ownPart r.subsystem r.inst) } else r
      outstanding :=
        if cls = clsContained && !x.outstanding.contains n then x.outstanding ++ [n] else x.outstanding
    }).showOutstanding

/-- R383 to R387: a fault is raised; with `acts` its first action of R382 is taken. -/
def State.raiseWith (s : State) (f : FaultIn) (acts : Bool) : State :=
  let cls := s.faultClass f
  let s1 :=
    if cls = clsCorrected then (s.bump O.CORRECTED_COUNT).raise F.FAULT_STICKY_CORRECTED
    else if cls = clsContained then (s.bump O.CONTAINED_COUNT).raise F.FAULT_STICKY_CONTAINED
    else s.fatalNow
  let next := s.openNow.getD (s.fld F.FAULT_NEWEST_RECORD + 1)
  let act := if cls = clsFatal then (4, s1) else if acts then s1.contain f next else (0, s1)
  let s2 :=
    match s.openNow with
    | some n => act.2.joinRecord n f cls act.1
    | none => if cls = clsCorrected && !s.on F.FAULT_CONFIG_CORR_LOG then act.2 else act.2.openRecord f cls act.1
  if cls = clsFatal && s.on F.FAULT_CONFIG_FATAL_TO_FLASH then
    s2.modFaults fun x => { x with toFlash := x.log.head?.map fun r => (r, s2.now) }
  else s2

def State.raiseFault (s : State) (f : FaultIn) : State := s.raiseWith f true

/-- R14, R382: instance of a DCC port-pair clock (log 72). -/
def dccInst (pair : Nat) : Nat := 0x30 + pair

/-- R382, cause 0x0B: a pair clock that a utility pin carries, and that an enabled port needs, has stopped. A pin that is being
changed carries it no more (R437). -/
def State.pairClockFails (s : State) (pair : Nat) : Bool :=
  s.on F.DCC_PORT_STATUS_CLK_PRESENT (2 * pair) &&
    (s.on F.DCC_PORT_CONFIG_ENABLE (2 * pair) || s.on F.DCC_PORT_CONFIG_ENABLE (2 * pair + 1)) &&
    s.pins.any fun p => p.2.func == 6 && p.2.unit == pair && p.2.target.isNone

/-- FATAL_RECORD_WRITTEN (R387). -/
def State.fatalWritten (s : State) : State :=
  match s.faults.toFlash with
  | some (r, _) => s.modFaults fun x => { x with flashRecord := some r, toFlash := none }
  | none => s
def execFatalRecordWritten (t : Tick) (s : State) : Host.Outcome State Fault Refusal := .next (s.advance t).fatalWritten

/-- The eight words of a record (R385). -/
def FaultRec.words (r : FaultRec) : List Word :=
  let w := fun (x : Nat) => (BitVec.ofNat 32 x : Word)
  [w r.record, w (r.cls * 2 ^ 30 + r.cause % 256 * 2 ^ 16 + r.subsystem % 256 * 256 + r.inst % 256),
    w (r.merges % 65536 * 65536 + r.gen % 65536),
    w (r.step * 2 ^ 24 + r.highCause % 256 * 2 ^ 16 + r.mergedSrc % 65536)] ++ valWords 3 r.time ++
    [w (r.mergedSrc / 65536 % 4 * 65536 + r.detail % 65536)]

/-- FAULT_INFO is read by session n (R385): the log is latched, newest first. -/
def State.latchFaults (s : State) (n : Nat) : State :=
  s.modSession n fun x => { x with faultLatch := s.faults.log.flatMap FaultRec.words }

/-- FAULT_ACK (R386). -/
def State.ackFault (s : State) (record : Nat) : State :=
  (s.modFaults fun x => { x with outstanding := x.outstanding.filter (· != record) }).showOutstanding

/-- R388, R393: the subsystem instance that an OWNER names; sessions are kind 0. -/
def ownerParty (o : Nat) : Option (Nat × Nat) :=
  let n := o % 0x4000
  match o / 0x4000 % 4 with
  | 1 => if n < 96 then some (11, n) else if n < 0x62 then some (14, 0) else if n < 0x64 then some (14, 1)
    else if n = 0x64 then some (17, 0) else none
  | 2 => if 1 ≤ n / 256 && n / 256 ≤ 18 then some (n / 256, n % 256) else none
  | _ => none

/-- R388: a session is declared faulty: its generation advances. DESIGN CHOICE (log 72): the record names subsystem 14 and the
control pair in service, whose bank holds the session; the pair itself is not declared faulty. -/
def State.declareSession (s : State) (n : Nat) : State :=
  (((s.abandonStage n).advanceGen (ownSession n)).raise F.FAULT_STICKY_REVOKED).raiseWith ⟨0x20, 14, s.pairNow, 0, false⟩ false

/-- FAULT_DECLARE (R393): none where the value is refused. -/
def State.declareFault (s : State) (o : Nat) : Option State :=
  if o / 0x10000 ≠ 0 then none
  else if o / 0x4000 = 0 then
    if 1 ≤ o && o ≤ 32 then some (s.declareSession o) else none
  else
    match ownerParty o with
    | some (18, _) => none
    | some (14, p) => if p = s.pairNow && p < 2 then some (s.raiseFault ⟨0x09, 14, p, 0, false⟩)
      else some (s.raiseFault ⟨0x20, 14, p, 0, false⟩)
    | some (sub, inst) => some (s.raiseFault ⟨0x20, sub, inst, 0, false⟩)
    | none => none

end Sys2Proof.Machine
end

