-- ==== Sys2Proof/Machine/Power.lean ====
section
/-! DEFINITION. Power management: VDD_CORE and the supply loop (R405 to R408), temperature (R410), power states (R402, R403,
R53), bays (R52). The two ways an egress frame leaves stand here, since the loop decides inside them. -/

namespace Sys2Proof.Machine

/-! ### VDD_CORE (R406, R412) -/

/-- The commanded voltage as a code of R412, and its change: one VOUT_COMMAND. -/
def State.coreCode (s : State) : Nat := (s.fld F.POWER_STATUS_VCORE_MV - 620) / 5
def State.setCore (s : State) (c : Nat) : State :=
  if c = s.coreCode then s else (s.setFld F.POWER_STATUS_VCORE_MV (620 + 5 * c)).bump O.VCORE_STEPS

/-- R406: VDD_CORE never leaves [VCORE_MIN, VCORE_MAX]. -/
def State.clampCore (s : State) : State :=
  s.setCore (max (s.fld F.SUPPLY_CONFIG_VCORE_MIN) (min (s.fld F.SUPPLY_CONFIG_VCORE_MAX) s.coreCode))

/-- A step has been taken: the counts of frames since it start again. -/
def State.stepTaken (s : State) : State := { s with supply := { s.supply with sinceStep := 0, highRun := 0 } }

/-- One step down, where VCORE_MIN allows one. -/
def State.stepDown (s : State) : State :=
  if s.fld F.SUPPLY_CONFIG_VCORE_MIN < s.coreCode then (s.setCore (s.coreCode - 1)).stepTaken else s

/-- k steps up; those that would pass VCORE_MAX are not made. -/
def State.stepUp (s : State) (k : Nat) : State :=
  let top := s.fld F.SUPPLY_CONFIG_VCORE_MAX
  let s1 := s.raiseIf (top < s.coreCode + k) F.POWER_STICKY_SUPPLY_LIMIT
  if s.coreCode < top then (s1.setCore (min top (s.coreCode + k))).stepTaken else s1

/-! ### The supply loop (R406, R407) -/

/-- s of R406: none where it is unbounded. -/
def State.worst (s : State) : Option Int :=
  if s.fld F.WORST_SLACK_SLACK = 0x7FFFFFFF then none else some (s.sfld F.WORST_SLACK_SLACK)

/-- CAP is set and P exceeds it. -/
def State.overCap (s : State) : Bool :=
  s.fld F.POWER_CAP_CAP != 0 && s.fld F.POWER_CAP_CAP * 100 < s.fld F.POWER_NOW_MW

def State.slackFloor (s : State) : Int := (s.fld F.SUPPLY_CONFIG_SLACK_FLOOR : Nat)

/-- s < F. -/
def State.slackLow (s : State) : Bool := s.worst.any fun x => decide (x < s.slackFloor)

/-- s ≥ F + SLACK_BAND. -/
def State.slackHigh (s : State) : Bool :=
  s.worst.all fun x => decide (s.slackFloor + (s.fld F.SUPPLY_TUNE_SLACK_BAND : Nat) ≤ x)

/-- R407: the cap is no longer overridden. -/
def State.capClear (s : State) : State :=
  let s1 := (s.setOn F.POWER_STATUS_CAP_OVERRIDDEN false).setFld F.POWER_STATUS_VCORE_KEEP 0
  { s1 with supply := { s1.supply with lastRow4 := none, underCap := 0 } }

/-- R407: the frames counted, and the cap overridden by a low slack after a step of row 4. -/
def State.capWatch (s : State) : State :=
  let was := s.on F.POWER_STATUS_CAP_OVERRIDDEN
  let s1 := if was && s.overCap then s.bump O.CAP_OVERRIDE_FRAMES else s
  let run := if was && !s.overCap then s.supply.underCap + 1 else 0
  if 8 ≤ run then s1.capClear
  else
    let s2 := { s1 with supply := { s1.supply with underCap := run, lastRow4 := none } }
    match s.supply.lastRow4 with
    | some k =>
      if s.slackLow && !s.on F.POWER_CAP_POLICY then
        ((s2.setFld F.POWER_STATUS_VCORE_KEEP k).setOn F.POWER_STATUS_CAP_OVERRIDDEN true).raise
          F.POWER_STICKY_CAP_OVERRIDDEN
      else s2
    | none => s2

/-- The frames since the last step, and those of high slack in a row, this one included. -/
def State.supplyCount (s : State) : State :=
  { s with supply :=
      { s.supply with sinceStep := s.supply.sinceStep + 1, highRun := if s.slackHigh then s.supply.highRun + 1 else 0 } }

/-- The table of R406. -/
def State.supplyRows (s : State) : State :=
  let down := s.fld F.SUPPLY_TUNE_DOWN_INTERVAL
  if s.on F.POWER_STATUS_PMBUS_HOLD then s
  else if s.on F.POWER_STATUS_THROTTLE then (if down ≤ s.supply.sinceStep then s.stepDown else s)
  else if s.on F.POWER_CAP_POLICY && s.overCap then s.stepDown
  else if s.slackLow then s.stepUp (if s.worst.any (· < 0) then 4 else 1)
  else if !s.on F.POWER_CAP_POLICY && s.overCap && s.fld F.POWER_STATUS_VCORE_KEEP < s.coreCode then
    let s1 := s.stepDown
    if s1.coreCode = s.coreCode then s1 else { s1 with supply := { s1.supply with lastRow4 := some s.coreCode } }
  else if down ≤ s.supply.highRun then s.stepDown
  else s

/-- One decision of the loop. -/
def State.supplyLoop (s : State) : State :=
  let s1 := if s.on F.POWER_STATUS_THROTTLE then s.bump O.THROTTLE_FRAMES else s
  (s1.capWatch.supplyCount).supplyRows

/-- The loop decides where WORST_SLACK has been published. -/
def State.supplyAfter (s : State) (before : Option Nat) : State :=
  if s.worstFn ≠ before && s.active && !s.heldHalted 16 0 then s.supplyLoop else s

/-! ### Egress frames leave (R178, R184) -/

/-- EGRESS_FRAME_RELEASE. -/
def State.egressRelease (s : State) (l fn : Nat) : State :=
  ((s.ahead fn fun s => s.asOf fn fun s => s.releaseFrame l fn).tandemYield).supplyAfter s.worstFn
def execEgressFrameRelease (t : Tick) (lane fn : Nat) (s : State) : Host.Outcome State Fault Refusal :=
  onUnit (laneUnit lane) "lane" ((s.advance t).egressRelease lane fn)

/-- EGRESS_FRAME_COMPLETE. -/
def State.egressComplete (s : State) (l fn : Nat) : State :=
  ((s.ahead fn fun s => s.asOf fn fun s => s.completeFrame l fn).tandemYield).supplyAfter s.worstFn
def execEgressFrameComplete (t : Tick) (lane fn : Nat) (s : State) : Host.Outcome State Fault Refusal :=
  onUnit (laneUnit lane) "lane" ((s.advance t).egressComplete lane fn)

/-- R179, R406: with no lane in use every frame number counts as released, and no lane gave slack. -/
def State.supplyIdle (s : State) : State :=
  if s.active && 0 < s.fn && (List.range numLanes).all (fun l => s.role l == 0) then
    (s.worstSlack (s.fn - 1)).supplyAfter s.worstFn
  else s

/-! ### Readings (R405, R410) -/

/-- POWER_NOW: over the enabled rails, in mW. VDD_CORE counts at its commanded voltage (log 30). -/
def State.showPower (s : State) : State :=
  let mw := fun (r : Nat) =>
    if s.on F.RAIL_CONFIG_ENABLE r then
      (if r = 0 then s.fld F.POWER_STATUS_VCORE_MV else s.fld F.RAIL_TELEMETRY_MV r) * s.fld F.RAIL_TELEMETRY_MA r
    else 0
  s.setFld F.POWER_NOW_MW (([0, 1, 2, 3, 4, 5].map mw).sum / 1000)

/-- RAIL_TELEMETRY_READ: rail, mV, mA. READ_VOUT of VDD_CORE is not read. -/
def State.railRead (s : State) (rs : List (Nat × Nat × Nat)) : State :=
  let put := fun (s : State) (r : Nat × Nat × Nat) =>
    if s.on F.RAIL_CONFIG_ENABLE r.1 then
      let s1 := if r.1 = 0 then s else s.setFld F.RAIL_TELEMETRY_MV r.2.1 r.1
      s1.setFld F.RAIL_TELEMETRY_MA r.2.2 r.1
    else s
  if s.running then (rs.foldl put s).showPower else s
def execRailTelemetryRead (t : Tick) (readings : List (Nat × Nat × Nat)) (s : State) : Host.Outcome State Fault Refusal :=
  onUnit (readings.all (fun r => r.1 < 6)) "rail" ((s.advance t).railRead readings)

/-- The hottest of the sensors, in 0.125 °C, and its number; the lowest-numbered of equals. -/
def hottest : Nat → List Int → Option (Nat × Int)
  | _, [] => none
  | i, x :: r =>
    match hottest (i + 1) r with
    | some (j, y) => if x < y then some (j, y) else some (i, x)
    | none => some (i, x)

/-- R410: throttling begins at THROTTLE_C and ends 5 °C below it. -/
def State.throttle (s : State) (x : Int) : State :=
  let lim : Int := (s.fld F.THERMAL_CONFIG_THROTTLE_C : Nat) * 8
  if lim ≤ x then
    (s.raiseIf (!s.on F.POWER_STATUS_THROTTLE) F.POWER_STICKY_THROTTLE).setOn F.POWER_STATUS_THROTTLE true
  else if x ≤ lim - 40 then s.setOn F.POWER_STATUS_THROTTLE false
  else s

/-- TEMP_SAMPLE (R410), temperatures in 0.125 °C. -/
def State.tempSample (s : State) (temps : List Int) : State :=
  match hottest 0 temps with
  | some (i, x) =>
    if s.running then
      let s1 := (s.setFld F.TEMP_MAX_SENSOR i).setFld F.TEMP_MAX_TEMP (unsigned 16 x)
      let s2 := s1.raiseIf ((s.fld F.THERMAL_CONFIG_WARN_C : Nat) * 8 ≤ x) F.POWER_STICKY_TEMP_WARN
      let s3 := s2.throttle x
      if 960 ≤ x && !s.faults.fatal then s3.raiseFault ⟨0x0F, 16, 0, 0, false⟩ else s3
    else s
  | none => s
def execTempSample (t : Tick) (temps : List Int) (s : State) : Host.Outcome State Fault Refusal :=
  onUnit (temps.length == 16) "sensor" ((s.advance t).tempSample temps)

/-! ### Bays (R52, R55) -/

/-- A bay is powered: its reference distribution then locks by BAY_PLL_LOCK. -/
def State.bayPower (s : State) (b : Nat) : State :=
  if s.on F.BAY_STATUS_POWERED b then s else s.setVal (objAt O.BAY_STATUS b) 1

/-- A lane whose supply or reference goes: it stops sending and leaves every transition. -/
def State.laneOff (s : State) (l : Nat) : State :=
  ((s.laneDown l).setMoving l false false).modLane l fun x => { x with lastTx := none, txEnd := none }

/-- A bay is gated. -/
def State.bayGate (s : State) (b : Nat) : State :=
  if s.on F.BAY_STATUS_POWERED b then
    ((bayLanes b).foldl (fun s l => s.laneOff l) s).setVal (objAt O.BAY_STATUS b) 0
  else s

def bays : List Nat := List.range 12

/-! ### Power states (R402, R53) -/

/-- A change of the state in force. -/
def State.setPower (s : State) (x : Nat) : State :=
  (s.setFld F.POWER_STATUS_STATE x).raise F.POWER_STICKY_STATE_CHG

/-- R53: ACTIVE is left: every lane goes to OFF; LANE_CONFIG and BAY_POWER keep their values. -/
def State.lanesDark (s : State) : State := bays.foldl (fun s b => s.bayGate b) s

/-- DOZE: the loop drives VDD_CORE to VCORE_MIN. -/
def State.enterDoze (s : State) : State :=
  (((s.setPower 1).lanesDark).setCore (s.fld F.SUPPLY_CONFIG_VCORE_MIN)).stepTaken.banksFollow

/-- R53: ACTIVE is reached again: each powered bay and each lane in use runs its bring-up. -/
def State.enterActive (s : State) : State :=
  let s1 := bays.foldl (fun s b => if s.on F.BAY_POWER_ENABLE b then s.bayPower b else s) (s.setPower 0)
  let s2 := (List.range numLanes).foldl (fun s l => if s.role l ≠ 0 then s.bringUp l else s) s1
  s2.banksFollow

/-- R370: the partition data banks that stay in retention in DORMANT. -/
def State.dormantBanks (s : State) : List Nat :=
  (List.range 8).filter fun p => s.fld F.BANK_POWER_POWER (0xC8 + p) != 0 && s.on F.BANK_CONFIG_DORMANT_MODE (0xC8 + p)

/-- R370: banks as DORMANT leaves them. -/
def State.dormantPower (s : State) : State :=
  let kept := s.dormantBanks
  let want := fun (b : Nat) => if b = 0xC3 then 1 else if 0xC8 ≤ b && b ≤ 0xCF && kept.contains (b - 0xC8) then 1 else 0
  let put := fun (s : State) (b : Nat) =>
    (if want b = 0 then s.wipeBank b else s).setFld F.BANK_POWER_POWER (want b) b
  { ((List.range 0xD1).filter bankExists).foldl put s with retained := kept }

/-- DORMANT (R403, R427): every session ends, the tempo stops, the enables fall. -/
def State.enterDormant (s : State) : State :=
  let s1 := (((s.endWhere fun _ => true).setPower 2).lanesDark).dormantPower
  { s1 with tempo := false, rails := [false, false, false, false, false], startup := .dormant, cvuRuns := [] }

/-- A committed POWER_STATE takes effect (R402). -/
def State.powerApply (s : State) (x : Nat) : State :=
  if s.fld F.POWER_STATUS_STATE = x then s
  else if x = 1 then s.enterDoze
  else if x = 2 then s.enterDormant
  else s.enterActive

end Sys2Proof.Machine
end

