-- ==== Sys2Proof/Machine/Vault.lean ====
section
/-! DEFINITION. The security vault (R413 to R425): firmware images, keys and rekeying, the lifecycle, wipes, tamper. What
the cryptographic engines compute is opaque (log 8). -/

namespace Sys2Proof.Machine

def State.modVault (s : State) (f : Vault → Vault) : State := { s with vault := f s.vault }

/-- Lifecycle states (R420). -/
abbrev lcBlank : Nat := 0
abbrev lcProvisioned : Nat := 1
abbrev lcDeployed : Nat := 2
abbrev lcReturned : Nat := 3
abbrev lcScrapped : Nat := 4

def State.lifecycle (s : State) : Nat := s.vault.lifecycle
def State.tampered (s : State) : Bool := s.on F.VAULT_STATUS_TAMPERED

/-- A wipe runs: every other service is refused (R421). -/
def State.wiping (s : State) : Bool := s.vault.wipeFrom.isSome

/-- R414: a service that needs random values is refused. -/
def State.noRandom (s : State) : Bool := s.vault.entropyBad || s.wiping || s.reinitBusy 17 0

/-- BUSY as shown. -/
def State.showBusy (s : State) : State :=
  s.setOn F.VAULT_STATUS_BUSY (s.vault.wipeFrom.isSome || s.vault.verifying.isSome)

/-- KEYS and KEY_SLOT_STATUS as shown. -/
def State.showKeys (s : State) : State :=
  let has := fun (k : Nat) => Map.has k s.vault.keys
  let s1 := s.setFld F.VAULT_STATUS_KEYS (((List.range 8).map fun k => if has k then 2 ^ k else 0).sum)
  (List.range 8).foldl (fun s k => s.setOn F.KEY_SLOT_STATUS_INSTALLED (has k) k) s1

/-! ### Firmware (R415 to R417) -/

/-- The image that the bytes of FW_IMAGE form. -/
def imageOf (bs : List Byte) : Image :=
  let h := bs.take 256
  { identity := Config.imageIdentity h, version := Config.imageVersion h, digest := Config.imageDigest h
    signature := Config.imageSignature bs, body := (bs.drop 256).take (Config.imageLength h) }

/-- The header text that a signature covers. -/
def imageHeader (im : Image) : List Byte :=
  beBytes 4 im.identity ++ beBytes 4 im.version ++ beBytes 4 im.body.length ++ im.digest

/-- R415: the checks in their order, as a RESULT code. -/
def State.checkImage (s : State) (im : Image) : Nat :=
  if BitVec.ofNat 96 im.identity ≠ s.val O.DEVICE_ID then 2
  else if im.version < s.fld F.FW_ROLLBACK_MIN_VERSION then 3
  else if Config.sha384 im.body ≠ im.digest then 4
  else if !Config.ecdsaVerify (imageHeader im) im.signature then 5
  else 1

/-- Words 0 to imageLen of FW_IMAGE. -/
def State.imageBytes (s : State) : List Byte :=
  (List.range s.vault.imageLen).flatMap fun i => wordBytes (Map.get 0 i s.vault.imageWords)

/-- A word of FW_IMAGE: word 0 begins an image. -/
def State.imageWord (s : State) (i : Nat) (w : Word) : State :=
  s.modVault fun v =>
    if i = 0 then { v with imageWords := Map.set 0 0 w [], imageLen := 1 }
    else { v with imageWords := Map.set 0 i w v.imageWords, imageLen := max v.imageLen (i + 1) }

/-- VERIFY (R417). -/
def State.fwVerify (s : State) : Nat × State :=
  if s.lifecycle = lcScrapped then (stAccess, s)
  else if s.wiping || s.vault.verifying.isSome then (stBusy, s)
  else (stOk, (s.modVault fun v => { v with verifying := some (imageOf s.imageBytes), verified := none }).showBusy)

/-- Slot k of the flash takes an image. -/
def putSlot (slots : List Image) (k : Nat) (im : Image) : List Image :=
  if k < slots.length then slots.set k im else slots ++ List.replicate (k + 1 - slots.length) im

/-- FW_VERIFY_COMPLETE (R417, R430). -/
def State.fwVerified (s : State) (flashOk : Bool) : State :=
  match s.vault.verifying with
  | some im =>
    let r := s.checkImage im
    let host := s.straps.bootSel && s.bootOnly
    let code := if r = 1 && !host && !flashOk then 6 else r
    let s1 := s.modVault fun v =>
      { v with
        verifying := none, verified := if code = 1 then some im else none
        slots := if code = 1 && !host then putSlot v.slots (1 - v.activeSlot) im else v.slots }
    ((s1.setFld F.FW_STATUS_RESULT code).raiseIf (code != 1) F.VAULT_STICKY_FW_FAIL).showBusy
  | none => s
def execFwVerifyComplete (t : Tick) (flashOk : Bool) (s : State) : Host.Outcome State Fault Refusal :=
  .next ((s.advance t).fwVerified flashOk)

/-- R430: the engines are to be loaded from an image; the sessions of boot service end. -/
def State.loadFrom (s : State) (im : Image) : State :=
  let s1 := ((s.endWhere fun _ => true).setOn F.VAULT_STATUS_BOOT_SERVICE false).setFld F.FW_VERSION_VERSION im.version
  { s1 with startup := .loading }

/-- ACTIVATE (R417, R430): the verified slot is marked active, or with BOOT_SEL = 1 the engines load. -/
def State.fwActivate (s : State) : Nat × State :=
  match s.vault.verified with
  | some im =>
    if s.straps.bootSel && s.bootOnly then (stOk, (s.modVault fun v => { v with verified := none }).loadFrom im)
    else
      let k := 1 - s.vault.activeSlot
      (stOk, (s.modVault fun v => { v with verified := none, activeSlot := k }).setFld F.FW_STATUS_ACTIVE_SLOT k)
  | none => (stValue, s)

/-- R417: whether FW_ROLLBACK_MIN takes a value. -/
def State.rollbackOk (s : State) (v : Nat) : Bool :=
  s.fld F.FW_ROLLBACK_MIN_VERSION ≤ v && v ≤ s.fld F.FW_VERSION_VERSION

/-! ### Keys (R418, R419) -/

/-- The keys of the slots change, and the blob in flash with them. -/
def State.setKeys (s : State) (keys : Map (List Byte)) : State :=
  (s.modVault fun v => { v with keys, blob := keys, blobCount := s.fld F.WIPE_COUNT_COUNT }).showKeys

/-- A key goes into a slot. -/
def putKey (m : Map (List Byte)) (k : Nat) (key : List Byte) : Map (List Byte) := Map.insert k key (Map.erase k m)

/-- R418: an import fails. -/
def State.importFails (s : State) : Nat × State := (stValue, s.raise F.VAULT_STICKY_IMPORT_FAIL)

/-- R418: a KEY_IMPORT item whose eleventh word has arrived. -/
def State.importItem (s : State) (item : List Word) : Nat × State :=
  let k := (item.headD 0).toNat
  if 8 ≤ k || !Map.has k s.vault.keys then s.importFails
  else
    match Config.aesKwUnwrap (Map.get [] k s.vault.keys) (item.drop 1) with
    | some key => (stOk, s.setKeys (putKey s.vault.keys k key))
    | none => s.importFails

/-- R418: whether session x may write KEY_IMPORT: none where it may, else a status. -/
def State.importRefuses (s : State) (x : Session) : Option Nat :=
  if !(s.lifecycle == lcProvisioned || s.lifecycle == lcDeployed) || !x.sealed || x.part ≠ 0 then some stAccess
  else if s.wiping then some stBusy
  else none

/-- One word of KEY_IMPORT by session n. -/
def State.importWord (s : State) (n : Nat) (w : Word) : Nat × State :=
  match s.session n with
  | some x =>
    match s.importRefuses x with
    | some e => (e, s)
    | none =>
      let got := x.import_ ++ [w]
      if got.length = 11 then (s.setSession { x with import_ := [] }).importItem got
      else (stOk, s.setSession { x with import_ := got })
  | none => (stAccess, s)

/-- R419: the text over which a session key is formed, after its label. -/
def keyText (host device : List Byte) (session gen epoch : Nat) : List Byte :=
  host ++ device ++ beBytes 2 session ++ beBytes 2 gen ++ beBytes 4 epoch

/-- The ASCII labels of R419. -/
def labelSession : List Byte := [0x53, 0x46, 0x2D, 0x53, 0x45, 0x53, 0x53, 0x49, 0x4F, 0x4E]
def labelConfirm : List Byte := [0x53, 0x46, 0x2D, 0x43, 0x4F, 0x4E, 0x46, 0x49, 0x52, 0x4D]

/-- R419: K under a slot key, or under the old K at a rekey. -/
def sessionKey (under host device : List Byte) (session gen epoch : Nat) : List Byte :=
  (Config.hmacSha384 under (labelSession ++ keyText host device session gen epoch)).take 32

/-- R419: the confirmation in an OPEN reply. -/
def confirmation (key : List Byte) : List Byte := (Config.hmacSha384 key labelConfirm).take 16

/-- One word of SESSION_REKEY by session n (R419): the eighth forms the new key, in force once the reply has gone. -/
def State.rekeyWord (s : State) (n : Nat) (w : Word) : Nat × State :=
  match s.session n with
  | some x =>
    if !x.sealed then (stAccess, s)
    else if s.noRandom then (stBusy, s)
    else
      let got := x.rekey ++ [w]
      if got.length = 8 then
        let k := sessionKey x.key (got.flatMap wordBytes) (Config.nonce s.free) n (s.gen (ownSession n)) (x.keyEpoch + 1)
        (stOk, (s.setSession { x with rekey := [], newKey := some k }).drawn)
      else (stOk, s.setSession { x with rekey := got })
  | none => (stAccess, s)

/-- The new key takes over after the reply (R419). -/
def State.rekeyed (s : State) (n : Nat) : State :=
  s.modSession n fun x =>
    match x.newKey with
    | some k => { x with key := k, keyEpoch := x.keyEpoch + 1, newKey := none }
    | none => x

/-! ### Wipes and the lifecycle (R420, R421) -/

/-- A wipe starts; one that runs goes on. -/
def State.wipeStart (s : State) : State :=
  if s.wiping then s else (s.modVault fun v => { v with wipeFrom := some s.now }).showBusy

/-- The write of the wipe key. -/
def State.wipeByKey (s : State) : Nat × State := if s.wiping then (stBusy, s) else (stOk, s.wipeStart)

/-- R421: what a wipe does: the secure bank is zeroised, the session keys in it too, one fuse burned, the blob erased. -/
def State.wiped (s : State) : State :=
  let s1 := s.setFld F.WIPE_COUNT_COUNT (min 255 (s.fld F.WIPE_COUNT_COUNT + 1))
  let s2 := s1.modVault fun v => { v with keys := [], blob := [], blobCount := 0, wipeFrom := none }
  let s3 := { s2 with sessions := s2.sessions.map fun (x : Session) => if x.sealed then { x with key := [], newKey := none } else x }
  ((s3.showKeys).showBusy).raise F.VAULT_STICKY_WIPED

/-- R24: SEALED as kept, and as MODES and MODES_ACTIVE show it. -/
def State.setSealed (s : State) (b : Bool) : State :=
  let s1 := (s.setOn F.MODES_SEALED b).setOn F.MODES_ACTIVE_SEALED b
  let s2 := if s.sealedOn = b then s1 else s1.setFld F.MODES_FN_FN s.fn
  s2.modVault fun v => { v with sealedBit := b }

/-- The tamper latch and its halt clear (R422). -/
def State.tamperClear (s : State) : State :=
  ((s.setOn F.VAULT_STATUS_TAMPERED false).setOn F.VAULT_STATUS_HALTED false).setFld F.TAMPER_STATUS_LATCHED 0

/-- R420: the last step of a transition. -/
def State.enterLifecycle (s : State) (st : Nat) : State :=
  let s1 := (s.modVault fun v => { v with lifecycle := st, moving := none }).setFld F.VAULT_STATUS_LIFECYCLE st
  let s2 := if st = lcReturned || st = lcScrapped then s1.setSealed false else s1
  let s3 := if st = lcReturned then s2.tamperClear else s2
  (if st = lcScrapped then s3.setOn F.VAULT_STATUS_BOOT_SERVICE true else s3).showOuts

/-- R420: a committed transition begins: every sealed session ends and the wipe starts. -/
def State.lifecycleApply (s : State) (st : Nat) (words : List Word) : State :=
  let keys := ((Config.carriedKeys words).getD []).filter fun p => decide (p.1 < 8)
  let m := keys.foldl (fun m p => putKey m p.1 p.2) []
  let s1 := (s.endWhere (·.sealed)).modVault fun v => { v with moving := some (st, m), tamperInWipe := false }
  s1.wipeStart

/-- WIPE_COMPLETE (R420, R421, R423). -/
def State.wipeDone (s : State) : State :=
  if !s.wiping then s
  else
    let s1 := s.wiped
    match s.vault.moving with
    | some (st, keys) =>
      if s.vault.tamperInWipe then s1.modVault fun v => { v with moving := none, tamperInWipe := false }
      else (s1.setKeys keys).enterLifecycle st
    | none => s1
def execWipeComplete (t : Tick) (s : State) : Host.Outcome State Fault Refusal := .next (s.advance t).wipeDone

/-! ### Tamper (R422, R423) -/

/-- R422: policy 1: the device squelches and releases pins as R387 states. -/
def State.halt (s : State) : State :=
  let s1 := ((s.setOn F.VAULT_STATUS_HALTED true).tandemDrop).showOuts
  (List.range numLanes).foldl (fun s l => s.modLane l fun x => { x with lastTx := none, txEnd := none }) s1

/-- R422: an armed input has held its active level. -/
def State.tamperNow (s : State) (i : Nat) : State :=
  let first := !s.tampered
  let s1 := s.setFld F.TAMPER_STATUS_LATCHED (Nat.lor (s.fld F.TAMPER_STATUS_LATCHED) (2 ^ i))
  if !first then s1.bump O.TAMPER_EVENTS
  else
    let s2 := (s1.setOn F.VAULT_STATUS_TAMPERED true).raise F.VAULT_STICKY_TAMPER
    let s3 := if s.on F.TAMPER_CONFIG_POLICY then s2.halt else s2
    if s.startup = .dormant then s3.modVault fun v => { v with dormantTamper := true }
    else (s3.modVault fun v => { v with tamperInWipe := v.moving.isSome }).wipeStart

/-- TAMPER_EVENT (R422). -/
def State.tamper (s : State) (i : Nat) (level : Bool) : State :=
  if s.startup = .off then s
  else
    let bit := fun (f : Fld) => (s.fld f).testBit i
    let lv := s.fld F.TAMPER_STATUS_LEVEL
    let s1 := s.setFld F.TAMPER_STATUS_LEVEL (if level then Nat.lor lv (2 ^ i) else if lv.testBit i then lv - 2 ^ i else lv)
    if bit F.TAMPER_CONFIG_ENABLE && bit F.TAMPER_CONFIG_POLARITY == level then s1.tamperNow i else s1
def execTamperEvent (t : Tick) (input : Nat) (level : Bool) (s : State) : Host.Outcome State Fault Refusal :=
  onUnit (tamperUnit input) "input" ((s.advance t).tamper input level)

/-- R414: a health test fails. The fault it raises reinitialises the vault. -/
def State.entropyFails (s : State) : State :=
  let s1 := (s.modVault fun v => { v with entropyBad := true }).setOn F.VAULT_STATUS_ENTROPY_OK false
  s1.raise F.VAULT_STICKY_ENTROPY_FAIL

/-- R416, R418: self-tests pass: a tamper of DORMANT is answered first, then the key blob is unwrapped. -/
def State.vaultUp (s : State) : State :=
  let s1 := if s.vault.dormantTamper then (s.modVault fun v => { v with dormantTamper := false }).wiped else s
  let s2 := s1.modVault fun v =>
    { v with
      entropyBad := false
      keys := if v.keys.isEmpty && v.blobCount = s1.fld F.WIPE_COUNT_COUNT then v.blob else v.keys }
  ((s2.setFld F.VAULT_STATUS_LIFECYCLE s.lifecycle).setOn F.VAULT_STATUS_ENTROPY_OK true).showKeys

end Sys2Proof.Machine
end

