-- ==== Sys2Proof/Machine/Pins.lean ====
section
/-! DEFINITION. Utility pins (R434 to R437). -/

namespace Sys2Proof.Machine

def State.modPin (s : State) (u : Nat) (f : Pin → Pin) : State := s.setPin u (f (s.pin u))

/-- FUNC and UNIT of a written UPIN_CONFIG. -/
def pinTarget (v : Val) : Nat × Nat := (bits v 3 0, bits v 11 8)

def Pin.now (p : Pin) : Nat × Nat := (p.func, p.unit)

/-- R434: an input function. -/
def pinInput (f : Nat) : Bool := f == 1 || f == 4 || f == 6

/-- R434: codes and units that a pin takes. -/
def pinCodeOk (v : Val) : Bool :=
  let t := pinTarget v
  t.1 < 8 && (if t.1 = 3 || t.1 = 4 || t.1 = 5 then t.2 < 8 else if t.1 = 6 then t.2 < 4 else true)

/-- R434: pin p has selected, or has pending, function and unit t. -/
def Pin.has (p : Pin) (t : Nat × Nat) : Bool := p.now == t || p.target == some t

/-- R434: whether UPIN_CONFIG of pin u takes a value. -/
def State.pinOk (s : State) (u : Nat) (v : Val) : Bool :=
  let t := pinTarget v
  pinCodeOk v && !(pinInput t.1 && (List.range 32).any fun w => w != u && (s.pin w).has t)

/-- UPIN_STATUS as shown. -/
def State.showUtility (s : State) (u : Nat) : State :=
  let p := s.pin u
  ((s.setOn F.UPIN_STATUS_PENDING p.pending u).setOn F.UPIN_STATUS_DRIVING p.driving u).setOn F.UPIN_STATUS_PARKED
    p.parkFrom.isSome u

/-- R435, step 2: the pin enters park, or its park begins again. -/
def Pin.park (p : Pin) (t : Nat × Nat) (now : Tick) : Pin :=
  { p with target := some t, pending := false, parkFrom := some now, driving := false, since := none }

/-- R435, R436: what a write does to a pin. -/
def Pin.write (p : Pin) (v : Val) (now : Tick) (fn : Nat) : Pin :=
  let t := pinTarget v
  let p1 := { p with configured := true, idle := v.getLsbD 14 }
  if p.parkFrom.isSome then p1.park t now
  else if t = p.now then { p1 with target := none, pending := false, since := none }
  else if v.getLsbD 15 then { p1 with target := some t, pending := true, since := some fn }
  else p1.park t now

/-- UPIN_CONFIG (R435). -/
def State.pinWrite (s : State) (u : Nat) (v : Val) : State :=
  ((s.setVal (objAt O.UPIN_CONFIG u) v).modPin u fun p => p.write v s.now s.fn).showUtility u

/-- UPIN_CHANGE_EFFECT (R435): the boundary after the write has come. -/
def State.pinEffect (s : State) (u : Nat) : State :=
  let p := s.pin u
  match p.target with
  | some t => if p.pending && p.since.any (· < s.fn) then (s.modPin u fun p => p.park t s.now).showUtility u else s
  | none => s
def execUpinChangeEffect (t : Tick) (pin : Nat) (s : State) : Host.Outcome State Fault Refusal :=
  onUnit (pinUnit pin) "pin" ((s.advance t).pinEffect pin)

/-- R434, R437: the function has a defined level to drive: a data output waits for an edge of its pair clock. -/
def State.pinReady (s : State) (t : Nat × Nat) : Bool := t.1 != 3 || s.on F.DCC_PORT_STATUS_CLK_PRESENT t.2

/-- PARK_END (R435, steps 3 and 4). -/
def State.parkEnd (s : State) (u : Nat) : State :=
  match (s.pin u).target with
  | some t =>
    if s.sinceOpt (s.pin u).parkFrom (64 * ns) && s.pinReady t then
      (s.modPin u fun p =>
        { p with
          func := t.1, unit := t.2, target := none, parkFrom := none
          driving := t.1 == 2 || t.1 == 3 || t.1 == 5 || t.1 == 7 }).showUtility u
    else s
  | none => s
def execParkEnd (t : Tick) (pin : Nat) (s : State) : Host.Outcome State Fault Refusal :=
  onUnit (pinUnit pin) "pin" ((s.advance t).parkEnd pin)

/-- R436: a warm reset is a change of every pin to FUNC 0; a pin never configured stays as it is. -/
def State.pinsReset (s : State) : Map Pin :=
  s.pins.filterMap fun (x : Nat × Pin) =>
    if x.2.configured && x.2.now != (0, 0) || x.2.parkFrom.isSome || x.2.pending then
      some (x.1, { x.2.park (0, 0) s.now with configured := false })
    else none

/-- GPIO_IN: the level at ball u. Driven by the device it is known; otherwise open (log 9). -/
def State.ballLevel (s : State) (u : Nat) : Bool :=
  let p := s.pin u
  if p.driving && p.func = 2 then (s.fld F.GPIO_OUT_LEVEL).testBit u
  else if p.driving && p.func = 5 then !s.portFc p.unit
  else if p.driving && p.func = 7 then decide (s.dts % frame < 16 * ns)
  else s.freeVal.getLsbD u
def State.gpioIn (s : State) : Nat := ((List.range 32).map fun u => if s.ballLevel u then 2 ^ u else 0).sum

end Sys2Proof.Machine
end

