-- ==== Sys2Proof/Machine/Recovery.lean ====
section
/-! DEFINITION. What survives a warm reset, a wake, a brownout and a power cycle (R24, R227, R372, R388, R397, R404, R427),
and the commands of the fault collector (R382 to R397). -/

namespace Sys2Proof.Machine

/-! ### Generations (R388, R397) -/

/-- Instances of a subsystem (R395). -/
def instancesOf (sub : Nat) : List Nat :=
  if sub = 10 then List.range 8 ++ [16, 17, 18, 19]
  else if sub = 14 then [0, 1, 0x10, 0x11, 0x20, 0x21, 0x22, 0x23]
  else if sub = 15 then (List.range 0xD1).filter bankExists
  else if sub ≤ 4 || sub = 6 || sub = 7 || sub = 8 || sub = 11 then List.range numLanes
  else [0]

/-- Every owner, by rising OWNER number: sessions, engines, subsystem instances. -/
def allOwners : List Nat :=
  ((List.range 32).map fun i => ownSession (i + 1)) ++ ((List.range 101).map ownEngine) ++
    ((List.range 18).flatMap fun i => (instancesOf (i + 1)).map fun k => ownPart (i + 1) k)

/-- R397: every generation advances by one. -/
def State.allGens (s : State) : Map Nat :=
  let more := s.gens.filter fun (p : Nat × Nat) => !allOwners.contains p.1
  more.foldl (fun m p => Map.set 0 p.1 (nextGen p.2) m) (allOwners.map fun w => (w, nextGen (s.gen w)))

/-- R389: the marks of claims outlast the reset that ended them. -/
def endClaims (m : Map Claim) : Map Claim :=
  m.map fun p => if p.2.holder ≠ 0 then (p.1, ⟨0, p.2.gen, 0, 0, true⟩) else p

/-! ### What is kept -/

/-- R372: BANK_CONFIG of the partition data banks. -/
def partBankObj (base o : Nat) : Bool := (List.range 8).any fun p => o == objAt base (0xC8 + p)

/-- R227, R385, R397: the objects of the retention bank, and those that fuses and the always-on island keep. -/
def retentionObj (o : Nat) : Bool :=
  o == O.HISTORY_BASE || o == O.HISTORY_INFO || o == O.HISTORY_NEWEST || o == O.FAULT_NEWEST || o == O.FAULT_INFO
def fusedObj (o : Nat) : Bool := o == O.FW_ROLLBACK_MIN || o == O.WIPE_COUNT

/-- The bank objects of the retained partition banks. -/
def State.retainedObj (s : State) (o : Nat) : Bool :=
  partBankObj O.BANK_CONFIG o || s.retained.any fun p => o == objAt O.BANK_POWER (0xC8 + p)

/-- R397, R401: what a warm reset keeps of the dictionary. -/
def State.warmObj (s : State) (o : Nat) : Bool :=
  retentionObj o || fusedObj o || s.retainedObj o || (O.CORRECTED_COUNT ≤ o && o ≤ O.LOG_OVERWRITE) || o == O.VAULT_STATUS ||
    o == O.TAMPER_STATUS || o == O.FW_VERSION ||
  (objArea o == 0x17 && objInst o / 256 == 1) ||
  [0xC0, 0xC1, 0xC2, 0xC3, 0xD0].any fun b => o == objAt O.BANK_POWER b

/-- R372: the bytes of the retained partition banks. -/
def State.retainedBytes (s : State) : Map Byte :=
  s.banks.filter fun (p : Nat × Byte) => s.retained.any fun k => p.1 / 2 ^ 24 == 0xC8 + k

/-- R24: SEALED is loaded into MODES and MODES_ACTIVE. -/
def State.loadSealed (s : State) : State :=
  if s.vault.sealedBit then (s.setOn F.MODES_SEALED true).setOn F.MODES_ACTIVE_SEALED true else s

/-- The timing engine's share of the retention bank (R224, R227). -/
def State.keptTiming (s : State) : Timing := { history := s.timing.history, baseSet := s.timing.baseSet }

/-- R429: the straps are sampled; MAC_SEL sets the default of MAC_CONFIG.MODE. -/
def State.sampleStraps (s : State) : State :=
  let x := s.straps
  let s1 := ((s.setOn F.STRAPS_TSEAT x.tseat).setOn F.STRAPS_BOOT_SEL x.bootSel).setOn F.STRAPS_MAC_SEL x.macSel
  let s2 := s1.setOn F.TANDEM_STATUS_SEAT x.tseat
  [0, 1].foldl (fun s m => s.setFld F.MAC_CONFIG_MODE (if x.macSel then 1 else 0) m) s2

/-! ### Warm device reset (R397, R428, R436) -/

/-- R397: every object and unit at its default but for what is kept. -/
def State.warmBase (s : State) : State :=
  { State.reset with
    pending := s.pending, now := s.now, dts := s.dts, tempo := s.tempo, startup := .flywheel, straps := s.straps
    resetLow := s.resetLow, rails := s.rails, free := s.free
    dict := s.dict.filter fun p => s.warmObj p.1
    gens := s.allGens, claims := endClaims s.claims, hwClaims := endClaims s.hwClaims
    xc := { mark := s.xc.mark || (match s.xc.stage with | .session _ => true | _ => false) }
    timing := { s.keptTiming with
      lastFrame := s.timing.lastFrame, lastSecond := s.timing.lastSecond, stepAt := s.timing.stepAt }
    tandem := { pinHigh := s.tandem.pinHigh || s.tandem.driving }
    faults := { log := s.faults.log, fatal := s.faults.fatal, flashRecord := s.faults.flashRecord,
                toFlash := s.faults.toFlash }
    banks := s.retainedBytes, retained := s.retained, tempoFrom := s.now, scrubFrom := s.now
    vault := { s.vault with imageWords := [], imageLen := 0, verifying := none, verified := none }
    pins := s.pinsReset }

/-- What the new state shows of what was kept. -/
def State.warmShow (s : State) : State :=
  let s1 := ((s.loadSealed).setOn F.FAULT_STATUS_FATAL s.faults.fatal).setFld F.FW_STATUS_ACTIVE_SLOT s.vault.activeSlot
  let s2 := (((s1.setOn F.VAULT_STATUS_BOOT_SERVICE false).showBusy).showPin)
  s2.pins.foldl (fun s p => s.showUtility p.1) s2

/-- A warm device reset (R397). The loop restarts as R227 states. -/
def State.warmReset (s : State) : State :=
  let s1 := ((s.warmBase).warmShow.sampleStraps).freewheelValue
  ((s1.setLoop s1.loose).settle).raise F.FAULT_STICKY_WARM_RESET

/-- A warm reset that an escalation or DEVICE_RESET has asked for. -/
def State.settleReset (s : State) : State := if s.faults.resetWanted then s.warmReset else s

/-! ### Loss of power (R397, R404, R427) -/

/-- What no loss of power takes: flash, fuses, and the vault's persistent storage. A wipe cut short runs at the next
start-up (log 31). -/
def State.blank (s : State) : State :=
  let v := s.vault
  let s1 : State :=
    { State.reset with
      pending := s.pending, now := s.now, straps := s.straps, resetLow := s.resetLow, free := s.free
      dict := s.dict.filter fun p => fusedObj p.1
      faults := { flashRecord := s.faults.flashRecord }
      tandem := { pinHigh := s.tandem.pinHigh || s.tandem.driving }
      vault := { blob := v.blob, blobCount := v.blobCount, slots := v.slots, activeSlot := v.activeSlot
                 sealedBit := v.sealedBit, lifecycle := v.lifecycle, dormantTamper := v.wipeFrom.isSome } }
  s1.loadSealed.setFld F.FW_STATUS_ACTIVE_SLOT v.activeSlot

/-- The latches of the always-on island (R387, R422). -/
def State.keepLatches (old s : State) : State :=
  let s1 := (s.setOn F.VAULT_STATUS_TAMPERED old.tampered).setOn F.VAULT_STATUS_HALTED (old.on F.VAULT_STATUS_HALTED)
  let s2 := (s1.setFld F.TAMPER_STATUS_LATCHED (old.fld F.TAMPER_STATUS_LATCHED)).setOn F.FAULT_STATUS_FATAL old.faults.fatal
  { s2 with
    faults := { s2.faults with fatal := old.faults.fatal }
    vault := { s2.vault with dormantTamper := s2.vault.dormantTamper || old.vault.dormantTamper } }

/-- Objects take the values listed. -/
def State.restore (s : State) (d : Map Val) : State := d.foldl (fun s (p : Nat × Val) => s.setVal p.1 p.2) s

/-- The retention bank (R404). -/
def State.keepRetention (old s : State) : State :=
  let s1 := { s with faults := { s.faults with log := old.faults.log }, timing := old.keptTiming }
  s1.restore (old.dict.filter fun p => retentionObj p.1)

/-- R404: the device leaves DORMANT; `mac` is the MAC that woke it. -/
def State.wakeUp (s : State) (mac : Option Nat) : State :=
  let s1 := (s.keepRetention (s.keepLatches s.blank)).restore (s.dict.filter fun p => s.retainedObj p.1)
  let s2 := { s1 with startup := .rail 0, retained := s.retained, banks := s.retainedBytes }.setFld F.BANK_POWER_POWER 1 0xC3
  match mac with
  | some m => s2.setOn F.WAKE_CONFIG_WAKE_SOURCE true m
  | none => s2

/-- R427: VDD_AON fell below 0.70 V: the latches stay; whether the retention bank does is open (log 9). -/
def State.brownout (s : State) : State :=
  if s.startup = .off then s
  else
    let s1 := s.keepLatches s.blank
    (if s.freeVal.getLsbD 0 then s.keepRetention s1 else s1).drawn

/-! ### Faults (R382 to R387) -/

/-- The device has power enough for its fault collector. -/
def State.alive (s : State) : Bool := s.startup != .off && s.startup != .dormant && s.startup != .stopped

/-- A fault is raised, and what it asks for follows. Cause 0x0E is the loss of the tempo. -/
def State.faultIn (s : State) (f : FaultIn) : State :=
  if s.alive then
    let s1 := s.raiseFault f
    (if f.cause = 0x0E then { s1 with tempo := false, tempoHeld := s1.tempoPeriods } else s1).settleReset
  else s

/-- DCC_CLOCK_LOSS (R301, R382). -/
def State.dccClockLost (s : State) (pair : Nat) : State :=
  let s1 := s.pairClock pair false
  if s.pairClockFails pair then s1.faultIn ⟨0x0B, 14, dccInst pair, 0, false⟩ else s1
def execDccClockLoss (t : Tick) (pair : Nat) (s : State) : Host.Outcome State Fault Refusal :=
  onUnit (dccPair pair) "pair" ((s.advance t).dccClockLost pair)

/-- FAULT_RAISE (R383). -/
def execFaultRaise (t : Tick) (f : FaultIn) (s : State) : Host.Outcome State Fault Refusal :=
  onUnit (faultUnit f) "party" ((s.advance t).faultIn f)

/-- FATAL_FAULT (R387): a fault of a class other than fatal is none. -/
def State.fatalIn (s : State) (f : FaultIn) : State := if s.faultClass f = clsFatal then s.faultIn f else s
def execFatalFault (t : Tick) (f : FaultIn) (s : State) : Host.Outcome State Fault Refusal :=
  onUnit (faultUnit f) "party" ((s.advance t).fatalIn f)

/-- REINIT_COMPLETE (R386, R395). -/
def execReinitComplete (t : Tick) (sub inst : Nat) (s : State) : Host.Outcome State Fault Refusal :=
  onUnit (partyUnit sub inst) "party" ((s.advance t).reinitDone sub inst).settleReset

/-- REINIT_TIMEOUT (R396). -/
def execReinitTimeout (t : Tick) (sub inst : Nat) (s : State) : Host.Outcome State Fault Refusal :=
  onUnit (partyUnit sub inst) "party" ((s.advance t).reinitLate sub inst).settleReset

/-- ENTROPY_FAIL (R414): cause 0x0D. -/
def execEntropyFail (t : Tick) (s : State) : Host.Outcome State Fault Refusal :=
  let s1 := s.advance t
  .next (if s1.alive then (s1.entropyFails).faultIn ⟨0x0D, 17, 0, 0, false⟩ else s1)

end Sys2Proof.Machine
end

