-- ==== Sys2Proof/Machine/Startup.lean ====
section
/-! DEFINITION. Start-up, reset and the supplies (R416, R426 to R432). -/

namespace Sys2Proof.Machine

/-! ### Steps of the sequence -/

/-- Step k is in range. -/
def State.railUp (s : State) (k : Nat) : Bool := s.rails.getD k false

/-- R426: the step after the rails that are in range: the flywheel check stands before VDD_LANE. -/
def State.nextStep (s : State) : Startup :=
  if !s.railUp 0 then .rail 0
  else if !s.railUp 1 then .rail 1
  else if !s.railUp 2 then .rail 2
  else .flywheel
def State.afterTempo (s : State) : Startup :=
  if !s.railUp 3 then .rail 3 else if !s.railUp 4 then .rail 4 else .vault

/-- VDD_AON_GOOD (R426): the sequence begins with step 1. `flash` is what the boot flash holds, none where it is as the
device left it. -/
def State.aonGood (s : State) (straps : Straps) (flash : Option (List Image)) : State :=
  if s.startup = .off then
    { s with
      startup := .rail 0, straps
      vault := match flash with
        | some im => { s.vault with slots := im }
        | none => s.vault }
  else s
def execVddAonGood (t : Tick) (straps : Straps) (flash : Option (List Image)) (s : State) :
    Host.Outcome State Fault Refusal :=
  .next ((s.advance t).aonGood straps flash)

/-- RAIL_IN_RANGE (R426): the next enable is released. The straps are sampled once VDD_IO is in range. -/
def State.railGood (s : State) (k : Nat) : State :=
  if s.startup = .rail k && !s.resetLow then
    let s1 := { s with rails := s.rails.set k true }
    let s2 := if k = 0 then s1.sampleStraps else s1
    { s2 with startup := if k ≤ 2 then s2.nextStep else s2.afterTempo }
  else s
def execRailInRange (t : Tick) (rail : Nat) (s : State) : Host.Outcome State Fault Refusal :=
  onUnit (railUnit rail) "rail" ((s.advance t).railGood rail)

/-- R426, R382: start-up stops for good: every enable falls, FATAL_N is asserted. -/
def State.startupStops (s : State) : State :=
  { s.fatalNow with rails := [false, false, false, false, false], tempo := false, startup := .stopped }

/-- RAIL_TIMEOUT (R426). -/
def State.railLate (s : State) (k : Nat) : State := if s.startup = .rail k then s.startupStops else s
def execRailTimeout (t : Tick) (rail : Nat) (s : State) : Host.Outcome State Fault Refusal :=
  onUnit (railUnit rail) "rail" ((s.advance t).railLate rail)

/-- FLYWHEEL_ABSENT (R382): cause 0x0E at the check of start-up. -/
def State.noFlywheel (s : State) : State :=
  if s.startup = .flywheel then (s.raiseFault ⟨0x0E, 9, 0, 0, false⟩).startupStops else s
def execFlywheelAbsent (t : Tick) (s : State) : Host.Outcome State Fault Refusal := .next (s.advance t).noFlywheel

/-- TEMPO_START (R426): DTS is 0 at the first tempo period and the loop FREE; a tempo that runs goes on. -/
def State.tempoStarts (s : State) : State :=
  if s.startup = .flywheel && !s.resetLow then
    let s1 := if s.tempo then s else { s with tempo := true, dts := 0, tempoFrom := s.now }
    { s1 with startup := s1.afterTempo }
  else s
def execTempoStart (t : Tick) (s : State) : Host.Outcome State Fault Refusal := .next (s.advance t).tempoStarts

/-! ### Addresses, boot service and images (R416, R430, R431) -/

/-- R431: the addresses of a start-up. -/
def State.writeAddrs (s : State) : State :=
  let own := fun (m : Nat) => 2 ^ 63 + (0x020000000000 + 2 * (Config.deviceSerial.toNat % 2 ^ 39) + m) % 2 ^ 48
  [0, 1].foldl (fun s m =>
    ((List.range 7).foldl (fun s k => s.setVal (objAt O.ADDR m (k + 1)) 0) s).setVal (objAt O.ADDR m)
      (BitVec.ofNat 96 (own m))) s

/-- R416: no image runs; the device stays in boot service. -/
def State.enterBoot (s : State) : State :=
  { (s.setOn F.VAULT_STATUS_BOOT_SERVICE true).writeAddrs with startup := .bootService }

/-- VAULT_READY (R416, R430): the flash is read from the slot marked active, unless BOOT_SEL has it otherwise, or the device
is SCRAPPED. -/
def State.vaultReady (s : State) : State :=
  if s.startup = .vault && !s.resetLow then
    let s1 := s.vaultUp
    if s1.straps.bootSel || s1.lifecycle = lcScrapped then s1.enterBoot
    else { s1 with startup := .verifying s1.vault.activeSlot false }
  else s
def execVaultReady (t : Tick) (s : State) : Host.Outcome State Fault Refusal := .next (s.advance t).vaultReady

/-- SLOT_VERIFIED (R415, R416): the verification of a slot ends. -/
def State.slotVerified (s : State) : State :=
  match s.startup with
  | .verifying k second =>
    if s.resetLow then s
    else
      match s.vault.slots[k]? with
      | some im =>
        if s.checkImage im = 1 then s.loadFrom im
        else if second then s.enterBoot
        else { s with startup := .verifying (1 - k) true }
      | none => if second then s.enterBoot else { s with startup := .verifying (1 - k) true }
  | _ => s
def execSlotVerified (t : Tick) (s : State) : Host.Outcome State Fault Refusal := .next (s.advance t).slotVerified

/-- ENGINES_LOADED (R363, R416): the engines run, control pair A in service, pair B the spare; banks follow their power. -/
def State.enginesUp (s : State) : State :=
  if s.startup = .loading && !s.resetLow then
    let s1 := [0x60, 0x61, 0x62, 0x63, 0x64].foldl (fun s e =>
      (s.engineState e enRunning).setOn F.ENGINE_STATUS_SPARE (e == 0x62 || e == 0x63) e) s
    let s2 := s1.modFaults fun x => { x with pairB := false, handover := none, runA := true, runB := true }
    { s2 with startup := .serving, scrubFrom := s.now }.banksFollow
  else s
def execEnginesLoaded (t : Tick) (s : State) : Host.Outcome State Fault Refusal := .next (s.advance t).enginesUp

/-- STARTUP_COMPLETE (R432): the device is ACTIVE and accepts Folla. -/
def State.startupDone (s : State) : State :=
  if s.startup = .serving && !s.resetLow then { s.writeAddrs with startup := .done }.showOuts else s

/-! ### RESET_N (R428) -/

/-- R428: whether a low pulse of a width in ns passes the filter; between 100 ns and 150 ns that is open (log 9). -/
def State.resetPasses (s : State) (width : Nat) : Bool :=
  if width < 100 then false else if 150 ≤ width then true else s.freeVal.getLsbD 0

/-- A low level that has passed the filter. -/
def State.resetFalls (s : State) : State :=
  match s.startup with
  | .done => { s.warmReset with resetLow := true }
  | .bootService => { s.warmReset with resetLow := true }
  | .dormant => { s.wakeUp none with resetLow := true }
  | _ => { s with resetLow := true }

/-- RESET_N_ASSERT (R428). -/
def State.resetAssert (s : State) (width : Nat) : State :=
  let s1 := if 100 ≤ width && width < 150 then s.drawn else s
  if s.resetPasses width && !s.resetLow then s1.resetFalls else s1
def execResetNAssert (t : Tick) (width : Nat) (s : State) : Host.Outcome State Fault Refusal :=
  .next ((s.advance t).resetAssert width)

/-- R428: on release the sequence runs from strap sampling onward. -/
def State.fromStraps (s : State) : State :=
  match s.startup with
  | .off => s
  | .dormant => s
  | .stopped => s
  | .rail 0 => s
  | _ => { s.sampleStraps with startup := s.nextStep }

/-- RESET_N_RELEASE (R428). -/
def State.resetRelease (s : State) : State := if s.resetLow then { s with resetLow := false }.fromStraps else s
def execResetNRelease (t : Tick) (s : State) : Host.Outcome State Fault Refusal := .next (s.advance t).resetRelease

/-! ### Supplies (R404, R427) -/

/-- WAKE_FRAME (R360, R404): in DORMANT alone. -/
def State.wakeFrame (s : State) (m : Nat) (f : EthFrame) : State :=
  if s.startup = .dormant && s.isWake m f then s.wakeUp (some m) else s
def execWakeFrame (t : Tick) (m : Nat) (f : EthFrame) (s : State) : Host.Outcome State Fault Refusal :=
  onUnit (macUnit m && ethOk f) "MAC" ((s.advance t).wakeFrame m f)

/-- POWER_CYCLE (R397, R427): every supply is gone; the latches clear. -/
def execPowerCycle (t : Tick) (s : State) : Host.Outcome State Fault Refusal := .next (s.advance t).blank

/-- VDD_AON_BROWNOUT (R427). -/
def execVddAonBrownout (t : Tick) (s : State) : Host.Outcome State Fault Refusal := .next (s.advance t).brownout

end Sys2Proof.Machine
end

