-- ==== Sys2Proof/Machine/Reads.lean ====
section
/-! DEFINITION. What a read returns (R317 to R323): the objects whose value is formed when they are read, the objects that
read 0 where they have no use, and the words of the windows. -/

namespace Sys2Proof.Machine

/-! ### First slots of paths -/

/-- R96, R126: slot k is the first slot of a path or group by a side's descriptors. -/
def State.isFirst (s : State) (base l k : Nat) : Bool :=
  let d := s.desc base l k
  descType d == 1 || ((descType d == 2 || descType d == 3) && descIndex d == 0)

/-- R96, R125: element k of lane l's path objects has a path, received or sent. -/
def State.hasPath (s : State) (l k : Nat) : Bool := s.isSdh l && (s.isFirst O.RX_DESC l k || s.isFirst O.TX_DESC l k)

/-- The SDH path objects (R96, R125): the lane and element of one. -/
def pathElem (o : Nat) : Option (Nat × Nat) :=
  let c := objInst o / 256
  if (objArea o = 0x04 && 1 ≤ c && c ≤ 8) || (objArea o = 0x05 && 1 ≤ c && c ≤ 4) then some (objInst o % 256, objElem o)
  else none

/-- The path protection objects (R256). -/
def protElem (o : Nat) : Option (Nat × Nat) :=
  let c := objInst o / 256
  if objArea o = 0x0C && 1 ≤ c && c ≤ 3 then some (objInst o % 256, objElem o) else none

/-- R96, R256: an element that is not a first slot ignores writes and reads 0. -/
def State.noElement (s : State) (o : Nat) : Bool :=
  (pathElem o).any (fun p => !s.hasPath p.1 p.2) || (protElem o).any (fun p => !s.isFirst O.TX_DESC p.1 p.2)

/-! ### Objects that read 0 on a lane of another role (R77, R82, R145, R209) -/

/-- Receive objects of area 03 and area 04, and the client objects of area 06. -/
def ttfResult (o : Nat) : Bool := objArea o == 0x03 && 0x10 ≤ objElem o && objElem o ≤ 0x15
def sdhResult (o : Nat) : Bool :=
  objArea o == 0x04 && objInst o < 256 && (objElem o == 2 || objElem o == 6 || (0x10 ≤ objElem o && objElem o ≤ 0x13))
def clientObj (o : Nat) : Bool := objArea o == 0x06 && objInst o < 256 && objElem o < 0x40
def ledgerResult (o : Nat) : Bool :=
  objArea o == 0x09 && objInst o < 256 && ((0x10 ≤ objElem o && objElem o ≤ 0x25) || objElem o == 0x30 || objElem o == 0x40)

/-- R145, R82: an object of a lane whose role is not CLIENT, or not SDH: its writes have no effect. -/
def State.noClient (s : State) (o : Nat) : Bool := clientObj o && !s.isClient (objInst o % 256)
def State.noSdh (s : State) (o : Nat) : Bool := objArea o == 0x04 && !s.isSdh (objInst o % 256)

/-- The object reads 0. -/
def State.readsZero (s : State) (o : Nat) : Bool :=
  let l := objInst o % 256
  (ttfResult o && !s.isTtf l) || (sdhResult o && !s.isSdh l) || s.noClient o ||
  (ledgerResult o && !s.ledgerOn l) || s.noElement o

/-! ### Staged entries (R153, R154, R161) -/

/-- The entry that a list of writes leaves for an object, where one writes it. -/
def lastWrite (ws : List Wr) (o : Nat) (idx : Option Nat) : Option Val :=
  (ws.reverse.find? fun w => w.o == o && w.idx == idx).map (·.v)

/-- XC_ENTRY of output slot g: what is staged, else the active entry. -/
def State.standbyEntry (s : State) (g : Nat) : Val :=
  match lastWrite s.stageWrites (entryObj g) none with
  | some v => v
  | none => BitVec.ofNat 96 (s.xc.active g).toNat

/-- XC_STAGED: entries written by the transaction that holds XC_STAGE, until the copy of R157 is complete. -/
def State.stagedCount (s : State) : Nat :=
  match s.xc.copy with
  | some ks => ks.length
  | none => ((s.stageWrites.filter isEntryWr).map (·.o)).dedup.length

/-- The value of a flag list: bit k where f k holds. -/
def flagBits32 (bs : List Bool) : Nat := bs.foldr (fun b a => 2 * a + boolBit b) 0

/-- XC_STATUS. -/
def State.xcStatus (s : State) : Nat :=
  flagBits32 [s.on F.XC_STATUS_ACTIVE_PAGE, s.xc.stage != .free, s.on F.XC_STATUS_SWITCH_PENDING]

/-- R164: the reads that an entry of output slot g charges to lane bank l. -/
def entryReads (g : Nat) (e : Entry) (l : Nat) : Nat :=
  if entryAction e = 0 then
    boolBit (slotLane (entryWork e) == l) + boolBit (entryProtEn e && slotLane (entryProt e) == l)
  else if entryAction e = 5 then boolBit (slotLane g == l)
  else 0

/-- R247: the lane bank that a source on lane k is read from as the group's selection stands; none where a 1:1 protection lane
carries working traffic in place of the extra traffic that entries name. -/
def State.chargedLane (s : State) (k : Nat) : Option Nat :=
  match s.workGroup k, s.protGroup k with
  | some g, _ => some (if s.apsSelected g then s.apsProt g else k)
  | none, some g => if s.apsOneToOne g && s.apsSelected g then none else some k
  | none, none => some k

/-- The reads that an entry charges to lane bank l now: they move with the selection. -/
def State.entryReadsNow (s : State) (g : Nat) (e : Entry) (l : Nat) : Nat :=
  let at_ := fun (src : Nat) => boolBit (s.chargedLane (slotLane src) == some l)
  if entryAction e = 0 then at_ (entryWork e) + (if entryProtEn e then at_ (entryProt e) else 0) else entryReads g e l

/-- BANK_READS. -/
def State.bankReads (s : State) (l : Nat) : Nat :=
  ((s.xc.page s.xc.force).map fun (p : Nat × Entry) => s.entryReadsNow p.1 p.2 l).sum

/-! ### Stores (R187) -/

/-- F of R187. -/
def State.frameBytes (s : State) (l : Nat) : Nat :=
  match s.role l with
  | 1 => s.lineRate l / 64000
  | 2 => 810 * ttfN (s.rate l)
  | 3 => s.laneSlots l * 783
  | _ => 0

/-- landing + release of R187; 0 on a lane of role OFF. -/
def State.storeNeed (s : State) (l : Nat) : Nat :=
  let kbps := s.lineRate l / 1000
  if s.role l = 0 then 0
  else
    s.frameBytes l + bytesIn (2 * s.fld F.LANDING_ELASTIC_ELASTIC l) kbps +
      bytesIn (if s.cadence then s.offsetNs l else 125000) kbps

/-! ### Tributary epochs (R205 to R207, R210) -/

/-- The landing frame that TRIB_EPOCH and SLOT_DEFECTS read: the latest complete one. -/
def State.latestLanding (s : State) (l : Nat) : Option Landing := (s.lane l).landings.find? (·.complete.isSome)

/-- R205: a tributary of the lane. -/
def State.tributary (s : State) (l k : Nat) : Bool := s.role l != 0 && s.isFirst O.RX_DESC l k

/-- R206: the header of the group that starts at slot k, where `payload` gives the payload of a slot. -/
def State.groupHeader (s : State) (l k : Nat) (payload : Nat → List Byte) : GroupHeader :=
  let ms := s.members O.RX_DESC l k
  let n := max 1 ms.length
  readHeader ((List.range 16).map fun j => (payload (ms.getD (j % n) k)).getD (j / n) 0)

/-- What a landing frame received for a slot, whatever it lands as. -/
def Landing.received (x : Landing) (k : Nat) : List Byte := ((x.slots.find? (·.1 == k)).map (·.2.payload)).getD []

/-- R205: the arrival epoch of slot k: of a frame received in it, whether or not it lands as AIS. -/
def State.arrivalEpoch (s : State) (l : Nat) (x : Landing) (k : Nat) : Option Tick :=
  if x.absent then none
  else
    match s.role l with
    | 2 => x.freq.map fun f => byteInstant x.arrival (s.lineRate l) f (linePlace (payloadIndex (ttfN (s.rate l)) k 0))
    | 1 => (x.spe.find? (·.1 == k)).map (·.2.1)
    | 3 => some (x.l * frame + (s.groupHeader l k x.received).first * 262144)
    | _ => none

/-- R206: FN_o. -/
def originFn (seq L : Nat) : Int := (L : Int) + signed 32 (unsigned 32 ((seq : Int) - L))

/-- R206: the origin epoch of the group at slot k. -/
def State.originEpoch (s : State) (l : Nat) (x : Landing) (k : Nat) : Option Tick :=
  let h := s.groupHeader l k fun m => (s.landed l x m).payload
  if s.aisIn l x || x.absent || descType (s.rxDesc l k) ≠ 3 then none
  else if h.hcrcOk && h.flags / 16 = 1 && h.slots = (s.members O.RX_DESC l k).length && h.blocks ≠ 0 &&
      0 ≤ originFn h.seq x.l then
    some ((originFn h.seq x.l).toNat * frame + h.first * 262144)
  else none

/-- R207: an epoch as three words. -/
def epochWords (e : Option Tick) : List Word :=
  match e with
  | some t => valWords 3 (time96 t)
  | none => List.replicate 3 0xFFFFFFFF

/-- The nine words of TRIB_EPOCH (R210). -/
def State.tribWords (s : State) (l k : Nat) : List Word :=
  match (if s.tributary l k then s.latestLanding l else none) with
  | some x =>
    let a := s.arrivalEpoch l x k
    let o := s.originEpoch l x k
    BitVec.ofNat 32 (flagBits32 [a.isSome, o.isSome, x.outOfWindow]) :: (words64 x.l ++ epochWords a ++ epochWords o)
  | none => 0 :: List.replicate 8 0xFFFFFFFF

/-- SLOT_DEFECTS: the byte of slot k. -/
def State.slotDefect (s : State) (l k : Nat) : Nat :=
  let ais := (s.latestLanding l).any fun x => (s.landed l x k).st == .ais
  if s.laneSlots l ≤ k then 0 else flagBits32 [ais, (s.lane l).slotRdi.contains k]

/-! ### Tables (R348, R390) -/

/-- The state code of TXN_TABLE. -/
def TxnState.code : TxnState → Nat
  | .pending => 1
  | .waitGo => 2
  | .held => 3

/-- A row of TXN_TABLE. -/
def Txn.words (x : Txn) : List Word :=
  [BitVec.ofNat 32 x.id, BitVec.ofNat 32 (x.fn / 2 ^ 32), BitVec.ofNat 32 x.fn,
    BitVec.ofNat 32 (x.sess * 2 ^ 16 + x.st.code)]

/-- A row of CLAIM_TABLE or HW_CLAIM_TABLE; `top` is where the holder stands. -/
def State.claimWords (s : State) (key scope top : Nat) (c : Claim) : List Word :=
  [BitVec.ofNat 32 key, BitVec.ofNat 32 (c.holder * 2 ^ top + scope * 256 + boolBit (c.mark && c.holder == 0)),
    BitVec.ofNat 32 ((c.leaseEnd - s.now) / ms), BitVec.ofNat 32 c.gen]
def State.claimTable (s : State) : List Word := s.claims.flatMap fun p => s.claimWords (p.1 / 2) (p.1 % 2) 24 p.2

/-- R390: a hardware owner is 16 bits wide (R388), so that it stands in bits 31 to 16 (log 32). -/
def State.hwClaimTable (s : State) : List Word := s.hwClaims.flatMap fun p => s.claimWords p.1 0 16 p.2

/-- SESSION_STATUS (R348). -/
def transportCode : Transport → Nat
  | .eth _ => 0
  | .spi => 1
  | .dcc => 2
def State.sessionStatus (s : State) (n : Nat) : Nat :=
  (match s.session n with
   | some x => 2 ^ 31 + boolBit x.sealed * 2 ^ 30 + transportCode x.transport * 2 ^ 28 + x.part * 2 ^ 25 +
       boolBit x.txn.isSome * 2 ^ 24 + heldBy n s.claims % 256 * 2 ^ 16
   | none => 0) + s.gen (ownSession n)

/-- Q_STATUS (R303). -/
def State.qStatus (s : State) (l c : Nat) : Nat :=
  let x := s.chanOf l c
  fillOf x.ext % 2048 * 2 ^ 21 + x.insFill % 2048 * 2 ^ 10 +
    min 511 (x.ext.filter fun i => i.fin).length * 2 + s.qfld F.Q_STATUS_FC l c

/-! ### Values formed at a read -/

/-- A count as a session of partition p reads it (R378). -/
def State.lessBase (s : State) (p w o b x : Nat) : Nat :=
  if p = 0 || (objLane o).isNone then x else (x + 2 ^ w - (Map.get 0 b s.bases).toNat) % 2 ^ w

/-- Bits hi to lo of a stored value replaced. -/
def State.withBits (s : State) (o hi lo x : Nat) : Nat := (setBits (s.val o) hi lo x).toNat

/-- Objects of areas 01 to 09: element e of instance i; none where the stored value is read. -/
def State.shownLane (s : State) (o : Nat) : Option Nat :=
  let i := objInst o
  let l := i % 256
  let c := i / 256
  let e := objElem o
  match objArea o with
  | 0x01 => if e = 0x15 then some i else none
  | 0x03 => if e = 0x14 then some (s.digest O.RX_DESC l) else none
  | 0x06 =>
    if c = 1 then some (s.rxDesc l e)
    else if c = 2 then some (s.txDesc l e)
    else if e = 0x00 then some (clientCap (s.laneSlots l) * 2 ^ 16 + s.laneSlots l)
    else none
  | 0x07 =>
    if c = 1 then some (s.standbyEntry (slotIdx l e)).toNat
    else if c = 2 then some (s.xc.active (slotIdx l e)).toNat
    else if c = 0 && e = 0x00 then some (s.bankReads l)
    else if o = O.XC_STATUS then some s.xcStatus
    else if o = O.XC_STAGED then some s.stagedCount
    else none
  | 0x08 =>
    if c ≠ 0 then none
    else if e = 0x01 then some (boolBit (s.aligned l))
    else if e = 0x04 then some (s.lag l)
    else if e = 0x05 then some (s.storeNeed l)
    else none
  | 0x09 => if c = 0 && e = 0x18 then some (s.withBits o 2 2 (boolBit (s.windowActive l))) else none
  | _ => none

/-- Objects of areas 0A to 0F. -/
def State.shownUnit (s : State) (o : Nat) : Option Nat :=
  let i := objInst o
  let c := i / 256
  let e := objElem o
  match objArea o with
  | 0x0A =>
    if o = O.DTS_NOW then some (time96 s.dts).toNat
    else if c = 1 && 16 ≤ i % 256 && (e = 1 || e = 2) then some 0
    else none
  | 0x0C => if c = 3 then some (s.withBits o 31 20 (s.wtrLeft (slotIdx (i % 256) e))) else none
  | 0x0E =>
    if o = O.LOCAL_DIGEST then some s.galleryDigest
    else if o = O.GX_FN then some ((s.txns.find? fun x => x.st != .pending).map (·.fn) |>.getD 0)
    else none
  | 0x0F =>
    if c = 0 && e % 16 = 3 then some (s.qStatus i (e / 16))
    else if c = 2 && e = 1 then some (s.withBits o 1 1 (boolBit (s.portFc (i % 256))))
    else none
  | _ => none

/-- Objects of areas 10 to 18, as session x reads them. -/
def State.shownDevice (s : State) (x : Session) (o : Nat) : Option Nat :=
  let i := objInst o
  let e := objElem o
  match objArea o with
  | 0x10 => if o = O.PM_READ_SEL then some x.pmSel.toNat else none
  | 0x11 =>
    if i < 256 then
      if e = 0 then some (s.sessionStatus i)
      else if e = 1 then
        some (match s.session i with
          | some y => if transportCode y.transport = 0 then y.peer else 0
          | none => 0)
      else if e = 2 then some ((s.session i).map (·.next) |>.getD 0)
      else none
    else if o = O.TXN_PENDING then some s.txns.length
    else if o = O.EVENT_SUMMARY then some s.eventSummary
    else none
  | 0x12 => if e = 0x11 then some (s.queueFill i) else none
  | 0x13 =>
    let tempo := objAt O.TEMPO_COUNT i
    if e = 0x00 then some (s.withBits o 31 16 (s.gen (ownEngine i)))
    else if e = 0x10 then some (s.lessBase x.part 64 o tempo (s.tempoCount i))
    else if e = 0x11 then some (s.lessBase x.part 64 o tempo (s.val o).toNat)
    else if 0x18 ≤ e && e ≤ 0x1D then some (s.lessBase x.part 48 o o (s.val o).toNat)
    else if 0x20 ≤ e && e ≤ 0x25 then some (s.lessBase x.part 48 o (o - 8) (s.val o).toNat)
    else none
  | 0x14 =>
    if i ≤ 0xD0 && e = 0 then some (s.gen (0x8000 + s.bankOwner i) * 2 ^ 16 + s.bankOwner i) else none
  | 0x15 =>
    if o = O.FAULT_STATUS then some (s.withBits o 30 30 (boolBit s.openNow.isSome))
    else if i / 256 = 2 && e = 2 then some (s.cvuResult (i % 256))
    else none
  | 0x17 => if o = O.DEVICE_SERIAL then some Config.deviceSerial.toNat else none
  | 0x18 => if o = O.GPIO_IN then some s.gpioIn else none
  | _ => none

/-- The value that session x reads at object o, effects of the read apart. -/
def State.shown (s : State) (x : Session) (o : Nat) : Val :=
  if s.readsZero o then 0
  else
    match (s.shownLane o).orElse fun _ => (s.shownUnit o).orElse fun _ => s.shownDevice x o with
    | some v => BitVec.ofNat 96 v
    | none => s.val o

/-! ### Effects of a read -/

/-- What must be settled before the value is formed: a live performance count is looked at (R377, log 29). -/
def State.beforeRead (s : State) (o : Nat) : State :=
  if objArea o = 0x13 && 0x18 ≤ objElem o && objElem o ≤ 0x1D then s.pcSample (objInst o) else s

/-- R318, R321, R385: what a read does: an RC object's count clears; HISTORY_INFO and FAULT_INFO latch. -/
def State.afterRead (s : State) (n o : Nat) (acc : Access) : State :=
  if acc = .rc then s.setVal o (BitVec.ofNat 96 (if objArea o = 0x08 then 0x7FFFFFFF else 0))
  else if o = O.HISTORY_INFO then s.modSession n fun x => { x with histArmed := true, ptr := Map.set 0 O.HISTORY 0 x.ptr }
  else if o = O.FAULT_INFO then s.latchFaults n
  else if o = O.GPIO_IN then s.drawn
  else s

/-! ### Windows (R321 to R323) -/

/-- The words of a window: those of the bank for DMA_WINDOW (R369). -/
def State.windowLen (s : State) (r : ObjRow) : Nat :=
  if r.base = O.DMA_WINDOW then max 1 (bankSize (s.fld F.DMA_ADDR_BANK) / 4) else max 1 r.window

/-- Windows without a pointer: queues of two-word items (R322). -/
def queueWindow (r : ObjRow) : Bool := r.window == 2

/-- Word i of an entry window (R161). -/
def State.entryWord (s : State) (standby : Bool) (i : Nat) : Word :=
  let g := (s.fld F.XC_WINDOW_START_G + i / 2) % numSlots
  let v := if standby then (s.standbyEntry g).toNat else (s.xc.active g).toNat
  if i % 2 = 0 then BitVec.ofNat 32 (v / 2 ^ 32) else BitVec.ofNat 32 v

/-- Word i of a window, as session x reads it, where reading it changes nothing. -/
def State.windowWord (s : State) (x : Session) (o i : Nat) : Word :=
  let l := objInst o % 256
  let get := fun (ws : List Word) => ws.getD i 0
  if s.readsZero o then 0
  else
    match objArea o with
    | 0x05 =>
      BitVec.ofNat 32 (s.slotDefect l (4 * i) * 2 ^ 24 + s.slotDefect l (4 * i + 1) * 2 ^ 16 +
        s.slotDefect l (4 * i + 2) * 2 ^ 8 + s.slotDefect l (4 * i + 3))
    | 0x06 => BitVec.ofNat 32 (if objElem o = 0x40 then s.rxDesc l i else s.txDesc l i)
    | 0x07 => s.entryWord (o == O.XC_STANDBY_WINDOW) i
    | 0x09 => if objInst o < 256 then s.word o i else get (s.tribWords l (objElem o))
    | 0x0A => get x.histLatch
    | 0x10 => if o = O.PM_READ_WINDOW then get x.pmLatch else s.word o i
    | 0x11 => get (if o = O.TXN_TABLE then s.txnOrder.flatMap Txn.words else s.claimTable)
    | 0x15 => get (if o = O.FAULT_LOG then x.faultLatch else if o = O.HW_CLAIM_TABLE then s.hwClaimTable else [])
    | 0x17 => if o = O.LIFECYCLE_DATA then s.word o i else 0
    | _ => s.word o i

/-- R232: HISTORY is latched at the first read after HISTORY_INFO is read. -/
def State.latchHistory (s : State) (n o : Nat) : State :=
  if o = O.HISTORY then
    s.modSession n fun x => if x.histArmed then { x with histArmed := false, histLatch := s.timing.history.map Sample.word } else x
  else s

/-- One item of a queue window: EXT_WINDOW of an overhead channel, or TCA_LOG (R292, R315). -/
def State.popItem (s : State) (o : Nat) : List Word × State :=
  if o = O.TCA_LOG then
    match s.tcaLog with
    | p :: r => ([p.1, p.2], { s with tcaLog := r })
    | [] => ([0xFFFFFFFF, 0], s)
  else
    let r := s.popExt (objInst o) (objElem o / 16)
    ([r.1.tag, r.1.data], r.2)

/-- k items of a queue window. -/
def State.popItems : Nat → State → Nat → List Word × State
  | 0, s, _ => ([], s)
  | k + 1, s, o =>
    let a := s.popItem o
    let b := popItems k a.2 o
    (a.1 ++ b.1, b.2)

/-- k words of a pointed window from index i. -/
def State.readWords (x : Session) (o len : Nat) : Nat → State → Nat → List Word × State
  | 0, s, _ => ([], s)
  | k + 1, s, i =>
    let a := if o = O.DMA_WINDOW then s.dmaRead i else (s.windowWord x o i, s)
    let b := readWords x o len k a.2 ((i + 1) % len)
    (a.1 :: b.1, b.2)

end Sys2Proof.Machine
end

