-- ==== Sys2Proof/Machine/Access.lean ====
section
/-! DEFINITION. One op of a session on an object (R317 to R323, R326, R327), and the commands that are such an op: what
each write does when it executes, and what it stages. -/

namespace Sys2Proof.Machine

/-- How an op ends: its status, the holder it names (R326), the words it read, and the state. -/
structure OpEnd where
  status : Nat
  holder : Nat
  data : List Word
  st : State
  deriving DecidableEq, Repr

/-- An op that fails changes nothing. -/
def State.failed (s : State) (status : Nat) (holder : Nat := 0) : OpEnd := ⟨status, holder, [], s⟩
def State.did (s : State) : OpEnd := ⟨stOk, 0, [], s⟩

/-! ### Counter sets (R48) -/

/-- The control object of a counter set. -/
def setControl : CounterSet → Nat
  | .fec l => objAt O.FEC_CONTROL l
  | .sdh l => objAt O.SDH_CONTROL l
  | .group l => objAt O.GROUP_CONTROL l
  | .landing l => objAt O.LR_CONTROL l
  | .ledger l => objAt O.LEDGER_CONTROL l
  | .mac m => objAt O.STATS_CONTROL m
  | .engine e => objAt O.PC_CONTROL e

/-- The counters of a set (R48, R82, R96, R145, R210, R189, R359); an engine's are handled apart (R377). -/
def inSet (c : CounterSet) (o : Nat) : Bool :=
  let a := objArea o
  let i := objInst o
  let e := objElem o
  match c with
  | .fec l => a == 0x02 && i == l && ((0x40 ≤ e && e ≤ 0x43) || (0x50 ≤ e && e ≤ 0x60))
  | .sdh l =>
    a == 0x04 && i % 256 == l && ((i < 256 && 0x10 ≤ e && e ≤ 0x13) || (3 ≤ i / 256 && i / 256 ≤ 7))
  | .group l => a == 0x06 && i == l && 0x20 ≤ e && e ≤ 0x2C
  | .landing l => a == 0x08 && i == l && 0x12 ≤ e && e ≤ 0x18
  | .ledger l => a == 0x09 && i == l && 0x20 ≤ e && e ≤ 0x25
  | .mac m => a == 0x12 && i == m && 0x20 ≤ e && e ≤ 0x33
  | .engine _ => false

/-- SNAPSHOT: the live counts are copied to the objects at one instant. -/
def State.takeSnapshot (s : State) (c : CounterSet) : State :=
  match c with
  | .engine e => s.pcSnapshot e
  | _ =>
    (s.live.filter fun (p : Nat × Val) => inSet c p.1).foldl (fun s p => s.setVal p.1 p.2)
      { s with dict := s.dict.filter fun (p : Nat × Val) => !inSet c p.1 }

/-- R359: a clear that takes bit 31 of a live MAC counter from 1 to 0 is a change of it (log 33). -/
def State.clearHalves (s : State) (m : Nat) : State :=
  (List.range 20).foldl (fun s k =>
    if 2 ^ 31 ≤ s.liveOf (objAt O.MAC_COUNTER m k) then
      (s.setVal (objAt O.HALF_MAP m) (setBits (s.val (objAt O.HALF_MAP m)) k k 1)).raise F.MAC_STICKY_STATS_HALF m
    else s) s

/-- CLEAR: the live counts return to 0. -/
def State.clearSet (s : State) (c : CounterSet) : State :=
  match c with
  | .engine e => s.pcClear e
  | .mac m =>
    let s1 := s.clearHalves m
    { s1 with live := s1.live.filter fun (p : Nat × Val) => !inSet c p.1 }
  | _ => { s with live := s.live.filter fun (p : Nat × Val) => !inSet c p.1 }

/-- SNAPSHOT and CLEAR bits of one write: the snapshot is taken first (R48). -/
def State.setControlled (s : State) (c : CounterSet) (snap clr : Bool) : State :=
  let s1 := if snap then s.takeSnapshot c else s
  if clr then s1.clearSet c else s1

/-! ### Pointers (R321) -/

/-- Session n's pointer into window o. -/
def State.ptrOf (s : State) (n o : Nat) : Nat := ((s.session n).map fun x => Map.get 0 o x.ptr).getD 0
def State.movePtr (s : State) (n o i : Nat) : State := s.modSession n fun x => { x with ptr := Map.set 0 o i x.ptr }

/-- Where an op on window o starts. -/
def State.startAt (s : State) (n o len : Nat) (restart : Bool) : Nat := if restart then 0 else s.ptrOf n o % len

/-! ### Reads -/

/-- R319: word i of a window as session x's open transaction staged it. -/
def Session.stagedWord (x : Session) (o i : Nat) : Option Word :=
  let l := objInst o
  let ws := x.txn.getD []
  let v :=
    if o = objAt O.RX_DESC_WINDOW l then lastWrite ws (objAt O.RX_DESC l i) none
    else if o = objAt O.TX_DESC_WINDOW l then lastWrite ws (objAt O.TX_DESC l i) none
    else lastWrite ws o (some i)
  v.map fun v => BitVec.ofNat 32 v.toNat

/-- A read of k words of a pointed window. -/
def State.readWindow (s : State) (n : Nat) (r : ObjRow) (op : Op) : OpEnd :=
  let s0 := s.latchHistory n op.obj
  let len := s.windowLen r
  let i := s0.startAt n op.obj len op.restart
  match s0.session n with
  | some x =>
    let q := State.readWords x op.obj len op.n s0 i
    let ws := if op.op = 2 then q.1.zipIdx.map fun p => (x.stagedWord op.obj ((i + p.2) % len)).getD p.1 else q.1
    ⟨stOk, 0, ws, q.2.movePtr n op.obj ((i + op.n) % len)⟩
  | none => s.failed stUnknown

/-- R319: the value that READ_STAGED returns. -/
def State.stagedVal (s : State) (x : Session) (r : ObjRow) (o : Nat) : Val :=
  let v := s.shown x o
  match lastWrite (x.txn.getD []) o none with
  | some w => if isEntryObj o || s.noElement o then v else (v &&& ~~~(BitVec.ofNat 96 r.mask)) ||| w
  | none => v

/-- READ and READ_STAGED (R318, R319). -/
def State.readOp (s : State) (x : Session) (r : ObjRow) (op : Op) : OpEnd :=
  let o := op.obj
  if r.acc = .wo then ⟨stOk, 0, List.replicate op.n 0, s⟩
  else if queueWindow r then
    let q := State.popItems (op.n / 2) s o
    ⟨stOk, 0, q.1, q.2⟩
  else if r.window ≠ 0 then
    if r.base = O.DMA_WINDOW && !s.dmaServes false then s.failed stAccess else s.readWindow x.num r op
  else
    let s1 := s.beforeRead o
    ⟨stOk, 0, valWords r.words (if op.op = 2 then s1.stagedVal x r o else s1.shown x o), s1.afterRead x.num o r.acc⟩

/-! ### Staging (R153, R318, R323, R339) -/

/-- The transaction that holds XC_STAGE for session n is one held by R284. -/
def State.heldStage (s : State) (n : Nat) : Bool :=
  s.txns.any fun x => x.sess == n && x.st == .held && x.writes.any isEntryWr

/-- R153, R339: an entry write of session n's open transaction takes XC_STAGE, or renews its lease. -/
def State.takeStage (s : State) (n : Nat) : Nat × Nat × State :=
  let due := some (s.now + s.fld F.FOLLA_CONFIG_LEASE_DEFAULT * ms)
  match s.xc.stage with
  | .free =>
    (if s.xc.mark then stAbandoned else stOk, 0,
      { s with xc := { s.xc with stage := .session n, leaseEnd := due, mark := false } })
  | .session m =>
    if m = n && !s.heldStage n then (stOk, 0, { s with xc := { s.xc with leaseEnd := due } }) else (stClaimed, m, s)
  | .txn _ => (stClaimed, 0, s)

/-- R2: a staged value without the bits that a write does not reach. -/
def maskedWr (w : Wr) : Wr := { w with v := w.v &&& BitVec.ofNat 96 ((findRow w.o).map (·.mask) |>.getD 0) }

/-- One write is staged in session n's open transaction, which it opens where there is none (R332). A later write of an
object takes the place of an earlier one. -/
def State.stageWr (s : State) (n : Nat) (w : Wr) : Nat × Nat × State :=
  let h := s.claimHolder n w.o
  if h ≠ 0 then (stClaimed, h, s)
  else
    let t := if isEntryWr w then s.takeStage n else (stOk, 0, s)
    if t.1 = stClaimed then t
    else
      (t.1, t.2.1, t.2.2.modSession n fun y =>
        { y with txn := some (((y.txn.getD []).filter fun v => !(v.o == w.o && v.idx == w.idx)) ++ [maskedWr w]) })

/-- Writes in turn, up to the first refused: the status, the holder, how many were staged, the state. -/
def State.stageWrs (n : Nat) : List Wr → State → Nat → Nat → Nat × Nat × Nat × State
  | [], s, k, st => (st, 0, k, s)
  | w :: ws, s, k, st =>
    let t := s.stageWr n w
    if t.1 = stClaimed then (t.1, t.2.1, k, t.2.2)
    else State.stageWrs n ws t.2.2 (k + 1) (if t.1 = stOk then st else t.1)

/-- R323: the elements that words from index i of XC_STANDBY_WINDOW write: a pair that begins at an even index. -/
def entryPairs (start len : Nat) : Nat → List Word → List Wr
  | i, a :: b :: r =>
    if i % 2 = 0 then
      ⟨entryObj ((start + i / 2) % numSlots), none, BitVec.ofNat 96 (a.toNat * 2 ^ 32 + b.toNat)⟩ ::
        entryPairs start len ((i + 2) % len) r
    else entryPairs start len ((i + 1) % len) (b :: r)
  | _, _ => []

/-- The writes that the words of a window op stage (R127, R323). -/
def State.windowWrs (s : State) (r : ObjRow) (o i len : Nat) (ws : List Word) : List Wr :=
  let l := objInst o
  let at_ := fun (f : Nat → Word → Wr) => ws.zipIdx.map fun p => f ((i + p.2) % len) p.1
  if o = O.XC_STANDBY_WINDOW then entryPairs (s.fld F.XC_WINDOW_START_G) len i ws
  else if r.base = O.RX_DESC_WINDOW then at_ fun k w => ⟨objAt O.RX_DESC l k, none, BitVec.ofNat 96 w.toNat⟩
  else if r.base = O.TX_DESC_WINDOW then at_ fun k w => ⟨objAt O.TX_DESC l k, none, BitVec.ofNat 96 w.toNat⟩
  else at_ fun k w => ⟨o, some k, BitVec.ofNat 96 w.toNat⟩

/-- A write to an RWS window (R323). -/
def State.stageWindow (s : State) (n : Nat) (r : ObjRow) (op : Op) : OpEnd :=
  let len := s.windowLen r
  let i := s.startAt n op.obj len op.restart
  let entries := op.obj = O.XC_STANDBY_WINDOW
  let t := State.stageWrs n (s.windowWrs r op.obj i len op.data) s 0 stOk
  let moved := if entries then 2 * t.2.2.1 + min (i % 2) op.n else t.2.2.1
  let s1 := t.2.2.2.movePtr n op.obj ((i + moved) % len)
  if t.1 = stClaimed then ⟨stClaimed, t.2.1, [], s1⟩
  else if entries && moved ≠ op.n then ⟨stLength, 0, [], s1⟩
  else ⟨t.1, 0, [], s1⟩

/-- R318: the WO fields inside an RWS object act when the op executes. -/
def State.actInside (s : State) (o : Nat) (v : Val) : State :=
  let l := objInst o
  if o = F.PATTERN_CTRL_ERR_INJECT.obj l && v.getLsbD 8 then s.modLane l fun y => { y with injectErr := y.injectErr + 1 }
  else if o = F.TTF_TX_CTRL_INJECT_BIP.obj l && v.getLsbD 2 && s.isTtf l then
    s.modLane l fun y => { y with injectBip := true }
  else s

/-- Objects that no session may write although their kind is RWS (R231). -/
def notWritable (o : Nat) : Bool :=
  objArea o == 0x0A && objInst o / 256 == 1 && 16 ≤ objInst o % 256 && (objElem o == 1 || objElem o == 2)

/-- A write of an RWS object. -/
def State.stageOp (s : State) (n : Nat) (r : ObjRow) (op : Op) : OpEnd :=
  if r.window ≠ 0 then s.stageWindow n r op
  else if notWritable op.obj then s.failed stAccess
  else
    let v := wordsVal op.data
    let t := s.stageWr n ⟨op.obj, none, v⟩
    if t.1 = stClaimed then s.failed stClaimed t.2.1 else ⟨t.1, 0, [], t.2.2.actInside op.obj v⟩

/-! ### Writes of RW objects -/

/-- R314: why a value of PM_READ_SEL is refused to session x. -/
def State.pmSelRefused (s : State) (x : Session) (v : Val) : Option (Nat × Nat) :=
  let p := bits v 60 48
  if 4287 < p then some (stValue, 0)
  else if x.part = 0 || (s.pointLane p).any (fun l => s.laneOwner l == x.part) then none
  else some (stUnknown, 0)

/-- R330, R348, R349: values that FOLLA_CONFIG takes. -/
def State.follaConfigOk (s : State) (v : Val) : Bool :=
  100 ≤ bits v 31 16 && bits v 31 16 ≤ 60000 && 1 ≤ bits v 15 4 && bits v 15 4 ≤ 3600 &&
  (v.getLsbD 0 || v.getLsbD 1 || s.on F.MGMT_DCC_ENABLE)

/-- Why a value is refused to an RW object, as a status and a holder; none where it is taken. -/
def State.rwRefused (s : State) (x : Session) (o : Nat) (v : Val) : Option (Nat × Nat) :=
  let i := objInst o
  let value := fun (ok : Bool) => if ok then none else some (stValue, 0)
  if o = O.XC_WINDOW_START then value (bits v 16 0 < numSlots)
  else if o = O.TEST_CHECK_CTRL then value (bits v 30 28 < 4 && bits v 16 0 < numSlots)
  else if o = O.PM_READ_SEL then s.pmSelRefused x v
  else if o = O.FOLLA_CONFIG then value (s.follaConfigOk v)
  else if objArea o = 0x12 && 0x08 ≤ objElem o && objElem o ≤ 0x0F then value (!s.filtersSession i (objElem o - 8) v)
  else if o = objAt O.PAUSE_CONFIG i then value (bits v 15 0 != 0)
  else if objArea o = 0x13 && 0x30 ≤ objElem o && objElem o ≤ 0x35 then value (bits v 7 0 ≤ if i = 0x64 then 7 else 12)
  else if o = O.DMA_ADDR then value (dmaAddrOk v)
  else if o = O.FAULT_CONFIG then value (bits v 15 8 != 0)
  else if o = O.FW_ROLLBACK_MIN then value (s.rollbackOk (bits v 31 0))
  else if objArea o = 0x15 && i / 256 = 2 then
    let u := i % 256
    match s.cvuRefuses x.num u with
    | some e => some e
    | none =>
      if s.cvuBusy u then some (stAccess, 0)
      else if objElem o = 5 then value (cvuRangeOk v && decide (bits v 63 56 < 0xC0))
      else none
  else if objArea o = 0x18 && i < 32 then value (s.pinOk i v)
  else none

/-- R321: the pointers of session n into windows return to word 0. -/
def State.rewind (s : State) (n : Nat) (ws : List Nat) : State :=
  s.modSession n fun x => { x with ptr := ws.foldl (fun m o => Map.set 0 o 0 m) x.ptr }

/-- R326, R330: the sessions of transports that FOLLA_CONFIG disables end; that of session n itself once its reply is
sent. -/
def State.endDisabled (s : State) (n : Nat) : State :=
  let gone := fun (x : Session) =>
    match x.transport with
    | .eth _ => !s.on F.FOLLA_CONFIG_ETH_EN
    | .spi => !s.on F.FOLLA_CONFIG_SPI_EN
    | .dcc => false
  (s.endWhere fun x => gone x && x.num != n).modSession n fun x => if gone x then { x with closing := true } else x

/-- What a write of an RW object does: its value, and the effect its rule gives it. -/
def State.rwWrite (s : State) (x : Session) (o : Nat) (v : Val) : State :=
  let i := objInst o
  let s1 := s.setVal o v
  match stickyOf o with
  | some st => if s.noClient o || s.noSdh o then s1 else s1.intEnEvent st (s.val o) v
  | none =>
    if o = O.XC_WINDOW_START then s1.rewind x.num [O.XC_STANDBY_WINDOW, O.XC_ACTIVE_WINDOW]
    else if o = O.PM_READ_SEL then
      (s.modSession x.num fun y =>
        { y with pmSel := v, pmLatch := s.binRecord (bits v 60 48) (v.getLsbD 61) (bits v 47 0) }).rewind x.num
          [O.PM_READ_WINDOW]
    else if o = O.FOLLA_CONFIG then s1.endDisabled x.num
    else if o = O.SOFT_CW then s.writeSoftCw (bits v 63 0)
    else if o = objAt O.PAUSE_CONFIG i then s1.pauseCheck i
    else if objArea o = 0x13 && 0x30 ≤ objElem o && objElem o ≤ 0x35 then
      (s.pcSample i).setVal o v
    else if objArea o = 0x15 && i / 256 = 2 && objElem o = 0 then s.cvuConfig (i % 256) (bits v 1 0)
    else if objArea o = 0x18 && i < 32 then s.pinWrite i v
    else s1

/-- The bits of word i of an RW window that a write reaches (R2). -/
def windowMask (o i : Nat) : Word :=
  if objArea o = 0x10 then
    if o = O.WATCH_PROFILE then 0x3
    else if i = 2 then 0xFFFF
    else if i = 3 || i = 4 || i = 6 then 0x1FFFF
    else 0xFFFFFFFF
  else 0xFFFFFFFF

/-- One word into an RW window: DMA_WINDOW (R369), PATH_J1_TRACE (R96), the profiles of R315. -/
def State.putWord (s : State) (o i : Nat) (w : Word) : State :=
  if o = O.DMA_WINDOW then s.dmaWrite i w
  else if s.noElement o || (objArea o = 0x04 && 32 ≤ i) then s
  else s.setWord o i (w &&& windowMask o i)

/-- Words into a window from index i. -/
def State.putWords (o len : Nat) : State → Nat → List Word → State
  | s, _, [] => s
  | s, i, w :: ws => State.putWords o len (s.putWord o i w) ((i + 1) % len) ws

/-- R114: where a write changed an expected J1 trace, TIM-P is judged anew. -/
def State.traceWritten (s old : State) (o : Nat) : State :=
  let l := objInst o % 256
  let site := TraceSite.j1 (objElem o)
  if (findRow o).any (·.base == O.PATH_J1_TRACE) && s.traceExp l site != old.traceExp l site then
    (s.rejudgeTim l site).laneHook l else s

/-- A write of an RW object. PC_CONTROL holds WO bits beside its FREEZE (R377). -/
def State.rwOp (s : State) (x : Session) (r : ObjRow) (op : Op) : OpEnd :=
  let o := op.obj
  let raw := wordsVal op.data
  if r.window ≠ 0 then
    if r.base = O.DMA_WINDOW && !s.dmaServes true then s.failed stAccess
    else
      let len := s.windowLen r
      let i := s.startAt x.num o len op.restart
      ((State.putWords o len s i op.data).traceWritten s o |>.movePtr x.num o ((i + op.n) % len)).did
  else if s.noElement o then s.did
  else if r.base = O.PC_CONTROL then
    ((s.freeze (objInst o) (raw.getLsbD 0)).setControlled (.engine (objInst o)) (raw.getLsbD 1) (raw.getLsbD 2)).did
  else
    let m := BitVec.ofNat 96 r.mask
    let v := (s.val o &&& ~~~m) ||| (raw &&& m)
    match s.rwRefused x o v with
    | some e => s.failed e.1 e.2
    | none => (s.rwWrite x o v).did

/-! ### Writes of WO objects -/

/-- A status with the state it leaves. -/
def opEnd (r : Nat × State) : OpEnd := ⟨r.1, 0, [], r.2⟩

/-- R331: SESSION_CONTROL.CLOSE; the session's own end waits for its reply (R326). -/
def State.closeSession (s : State) (n target : Nat) : State :=
  if target = n then s.modSession n fun x => { x with closing := true } else s.endSession target

/-- R395, R396: whether REINIT names an instance that exists. -/
def reinitOk (sub inst : Nat) : Bool := 1 ≤ sub && sub ≤ 18 && (instancesOf sub).contains inst

/-- CVU_DATA, CVU_BYTE and CVU_CONTROL (R398 to R400). -/
def State.cvuOp (s : State) (n u e : Nat) (ws : List Word) : OpEnd :=
  match s.cvuRefuses n u with
  | some f => s.failed f.1 f.2
  | none =>
    if s.cvuBusy u then s.failed stAccess
    else if e = 3 then (s.cvuFeed u (ws.flatMap wordBytes)).did
    else if e = 4 then (s.cvuFeed u (ws.map fun w => BitVec.ofNat 8 w.toNat)).did
    else if (ws.headD 0).getLsbD 0 then (s.cvuStart u).did
    else s.did

/-- FW_CONTROL (R417): VERIFY, then ACTIVATE; the first that fails is the op's status. -/
def State.fwControl (s : State) (w : Word) : Nat × State :=
  let a := if w.getLsbD 0 then s.fwVerify else (stOk, s)
  if a.1 = stOk && w.getLsbD 1 then a.2.fwActivate else a

/-- Words to a window of WO kind, one after another, up to the first that fails. -/
def feedWords (f : State → Word → Nat × State) : State → List Word → Nat × State
  | s, [] => (stOk, s)
  | s, w :: ws =>
    let a := f s w
    if a.1 = stOk then feedWords f a.2 ws else a

/-- The words of FW_IMAGE from index i (R417). -/
def State.imageWordsFrom (len : Nat) : State → Nat → List Word → State
  | s, _, [] => s
  | s, i, w :: ws => State.imageWordsFrom len (s.imageWord i w) ((i + 1) % len) ws

/-- R322: two-word items written to an insert queue. -/
def State.insItems (lane c : Nat) : State → List Word → State
  | s, a :: b :: r => State.insItems lane c (s.hostIns lane c a b) r
  | s, _ => s

/-- Write of a WO window. -/
def State.woWindow (s : State) (n : Nat) (r : ObjRow) (op : Op) : OpEnd :=
  let o := op.obj
  if objArea o = 0x0F then (State.insItems (objInst o) (objElem o / 16) s op.data).did
  else if o = O.FW_IMAGE then
    let len := s.windowLen r
    let i := s.startAt n o len op.restart
    ((State.imageWordsFrom len s i op.data).movePtr n o ((i + op.n) % len)).did
  else if o = O.KEY_IMPORT then
    let s0 := if op.restart then s.modSession n fun x => { x with import_ := [] } else s
    opEnd (feedWords (fun s w => s.importWord n w) s0 op.data)
  else if o = O.SESSION_REKEY then
    let s0 := if op.restart then s.modSession n fun x => { x with rekey := [] } else s
    opEnd (feedWords (fun s w => s.rekeyWord n w) s0 op.data)
  else s.cvuOp n (objInst o % 256) (objElem o) op.data

/-- TANDEM_COMMAND and GALLERY_COMMAND. -/
def State.commandBits (s : State) (o : Nat) (w : Word) : State :=
  let when_ := fun (b : Bool) (f : State → State) (s : State) => if b then f s else s
  if o = O.TANDEM_COMMAND then when_ (w.getLsbD 1) State.takeoverForce (when_ (w.getLsbD 0) State.relinquish s)
  else
    when_ (w.getLsbD 2) State.ringRelearn
      (when_ (w.getLsbD 1) State.gxDiscard (when_ (w.getLsbD 0) State.gxCatchup s))

/-- The control of a counter set has an effect: those of area 04 and 06 have none on a lane of another role (R82, R145). -/
def State.setActs (s : State) : CounterSet → Bool
  | .sdh l => s.isSdh l
  | .group l => s.isClient l
  | _ => true

/-- The control objects of one lane or MAC: SNAPSHOT, CLEAR and the bits beside them. -/
def State.laneControl (s : State) (o : Nat) (w : Word) : State :=
  let i := objInst o
  let both := fun (c : CounterSet) => s.setControlled c (w.getLsbD 0) (w.getLsbD 1)
  match objArea o with
  | 0x02 => both (.fec i)
  | 0x04 =>
    if s.setActs (.sdh i) then
      (both (.sdh i)).modLane i fun y =>
        { y with injectB1 := y.injectB1 || w.getLsbD 2, injectB2 := y.injectB2 || w.getLsbD 3 }
    else s
  | 0x06 => if s.setActs (.group i) then both (.group i) else s
  | 0x08 => both (.landing i)
  | 0x09 =>
    let s1 := both (.ledger i)
    if w.getLsbD 2 && s.ledgerOn i then
      s1.modLane i fun y => { y with ledger := { y.ledger with reseedAsked := true } }
    else s1
  | 0x12 => both (.mac i)
  | _ =>
    let c := objElem o / 16
    let s1 := if w.getLsbD 0 then s.flushExt i c else s
    if w.getLsbD 1 then s1.flushIns i c else s1

/-- Write of a WO object of session or device scope, or of one lane or MAC. -/
def State.woOp (s : State) (n : Nat) (r : ObjRow) (op : Op) : OpEnd :=
  let o := op.obj
  let w := op.data.headD 0
  let sub := (w.toNat / 256) % 64
  let inst := w.toNat % 256
  if r.window ≠ 0 then s.woWindow n r op
  else if objArea o = 0x11 then (if w.getLsbD 0 then s.closeSession n (objInst o) else s).did
  else if o = O.HISTORY_CONTROL then (if w.getLsbD 0 then s.historyClear else s).did
  else if o = O.TANDEM_COMMAND || o = O.GALLERY_COMMAND then (s.commandBits o w).did
  else if o = O.FAULT_ACK then (s.ackFault w.toNat).did
  else if o = O.FAULT_DECLARE then
    match s.declareFault w.toNat with
    | some s1 => s1.did
    | none => s.failed stValue
  else if o = O.REINIT then
    if reinitOk sub inst then (s.reinitStart sub inst 0 true).did else s.failed stValue
  else if o = O.DEVICE_RESET then
    if w = 0x5745524D then (s.modFaults fun f => { f with resetWanted := true }).did else s.failed stValue
  else if objArea o = 0x15 then s.cvuOp n (objInst o % 256) (objElem o) op.data
  else if o = O.FW_CONTROL then opEnd (s.fwControl w)
  else if o = O.WIPE then if w = 0x57495045 then opEnd s.wipeByKey else s.failed stValue
  else (s.laneControl o w).did

/-! ### One op (R326, R327) -/

/-- W1C: each bit written 1 is cleared. -/
def State.w1cOp (s : State) (r : ObjRow) (op : Op) : State :=
  if s.noElement op.obj || s.noClient op.obj then s
  else s.setVal op.obj (s.val op.obj &&& ~~~(wordsVal op.data &&& BitVec.ofNat 96 r.mask))

/-- R318, R337: a WRITE op. -/
def State.writeOp (s : State) (x : Session) (r : ObjRow) (op : Op) : OpEnd :=
  let h := s.claimHolder x.num op.obj
  if s.on F.FAULT_STATUS_FATAL || r.acc = .ro || r.acc = .rc || (r.acc ≠ .rws && !s.mayWrite x.part op.obj) then
    s.failed stAccess
  else if h ≠ 0 then s.failed stClaimed h
  else
    match r.acc with
    | .rws => s.stageOp x.num r op
    | .rw => s.rwOp x r op
    | .w1c => (s.w1cOp r op).did
    | _ => s.woOp x.num r op

/-- R317, R322, R326: op code, word count and data of an op fit its object. -/
def opFits (r : ObjRow) (op : Op) : Bool :=
  op.op ≤ 2 && (op.op != 1 || op.data.length == op.n) &&
  (if r.window = 0 then op.n == r.words else !queueWindow r || op.n % 2 == 0)

/-- One op of an open session: its result record and the state (R326). -/
def State.execOp (s : State) (n : Nat) (op : Op) : OpResult × State :=
  let e :=
    match s.session n, findRow op.obj with
    | some x, some r =>
      if s.on F.FAULT_STATUS_FATAL && op.op = 1 && s.sees x.part op.obj then s.failed stAccess
      else if !s.visible x.part x.sealed op.obj then s.failed stUnknown
      else if !opFits r op then s.failed stLength
      else if op.op = 1 then s.writeOp x r op
      else s.readOp x r op
    | _, _ => s.failed stUnknown
  (⟨op.obj, e.status, e.holder, op.n, e.data⟩, e.st)

/-- What follows the reply to a message of session n: its own end (R326), a new key (R419), a warm reset (R401). -/
def State.settleOps (s : State) (n : Nat) : State :=
  let s1 := if (s.session n).any (·.closing) then s.endSession n else s.rekeyed n
  s1.settleReset

/-- One op of session n as a message of its own; without an open session n nothing happens. -/
def State.oneOp (s : State) (n : Nat) (op : Op) : State :=
  if s.serves && (s.session n).isSome then
    let r := (s.modSession n fun x => { x with lastMsg := s.now }).execOp n op
    { r.2 with lastOp := r.1 }.settleOps n
  else s

/-- A command that is one op of session n (R390: leases that have run out expire first). -/
def State.hostOp (s : State) (n : Nat) (op : Op) : State := s.leasesDue.oneOp n op

/-- An op record that writes words, and one that reads k words. -/
def wr (o : Nat) (ws : List Word) : Op := ⟨o, 1, false, ws.length, ws⟩
def rd (o k : Nat) : Op := ⟨o, 0, false, k, []⟩

/-- A 64-bit value in the two words of an op. -/
def two (v : BitVec 64) : List Word := [BitVec.ofNat 32 (v.toNat / 2 ^ 32), BitVec.ofNat 32 v.toNat]

/-! ### Commands: counter sets (R48) -/

/-- CLEAR. PC_CONTROL keeps its FREEZE. -/
def State.setOpWord (s : State) (c : CounterSet) (snap : Bool) : Word :=
  match c with
  | .engine e => BitVec.ofNat 32 ((if s.pcFrozen e then 1 else 0) + if snap then 2 else 4)
  | _ => if snap then 1 else 2
def execClear (t : Tick) (n : Nat) (set : CounterSet) (s : State) : Host.Outcome State Fault Refusal :=
  let s0 := s.advance t
  onUnit (sessUnit n && counterSetOk set) "session" (s0.hostOp n (wr (setControl set) [s0.setOpWord set false]))
def execSnapshot (t : Tick) (n : Nat) (set : CounterSet) (s : State) : Host.Outcome State Fault Refusal :=
  let s0 := s.advance t
  onUnit (sessUnit n && counterSetOk set) "session" (s0.hostOp n (wr (setControl set) [s0.setOpWord set true]))

/-- FREEZE (R377). -/
def execFreeze (t : Tick) (n engine : Nat) (on_ : Bool) (s : State) : Host.Outcome State Fault Refusal :=
  onUnit (sessUnit n && engineUnit engine) "session"
    ((s.advance t).hostOp n (wr (objAt O.PC_CONTROL engine) [if on_ then 1 else 0]))

/-- RESEED (R203). -/
def execReseed (t : Tick) (n lane : Nat) (s : State) : Host.Outcome State Fault Refusal :=
  onUnit (sessUnit n && laneUnit lane) "lane" ((s.advance t).hostOp n (wr (objAt O.LEDGER_CONTROL lane) [4]))

/-- A write of an RWS object's WO bit: its other fields are staged as they stand (R318). -/
def State.woBit (s : State) (n o bit : Nat) : State :=
  let v := match s.session n, findRow o with
    | some x, some r => (s.stagedVal x r o).toNat
    | _, _ => 0
  s.hostOp n (wr o [BitVec.ofNat 32 (v ||| 2 ^ bit)])

/-- INJECT_BIP (R77). -/
def execInjectBip (t : Tick) (n lane : Nat) (s : State) : Host.Outcome State Fault Refusal :=
  onUnit (sessUnit n && laneUnit lane) "lane" ((s.advance t).woBit n (objAt O.TTF_TX_CTRL lane) 2)

/-- INJECT_B1 and INJECT_B2 (R82). -/
def execInjectB1 (t : Tick) (n lane : Nat) (s : State) : Host.Outcome State Fault Refusal :=
  onUnit (sessUnit n && laneUnit lane) "lane" ((s.advance t).hostOp n (wr (objAt O.SDH_CONTROL lane) [4]))
def execInjectB2 (t : Tick) (n lane : Nat) (s : State) : Host.Outcome State Fault Refusal :=
  onUnit (sessUnit n && laneUnit lane) "lane" ((s.advance t).hostOp n (wr (objAt O.SDH_CONTROL lane) [8]))

/-- ERR_INJECT (R51). -/
def execErrInject (t : Tick) (n lane : Nat) (s : State) : Host.Outcome State Fault Refusal :=
  onUnit (sessUnit n && laneUnit lane) "lane" ((s.advance t).woBit n (objAt O.PATTERN_CTRL lane) 8)

/-! ### Commands: overhead queues (R292, R293, R322) -/

def execExtWindow (t : Tick) (n lane c : Nat) (s : State) : Host.Outcome State Fault Refusal :=
  onUnit (sessUnit n && laneUnit lane && chanUnit c) "channel"
    ((s.advance t).hostOp n (rd (objAt O.EXT_WINDOW lane (16 * c)) 2))
def execInsWindow (t : Tick) (n lane c : Nat) (tag data : Word) (s : State) : Host.Outcome State Fault Refusal :=
  onUnit (sessUnit n && laneUnit lane && chanUnit c) "channel"
    ((s.advance t).hostOp n (wr (objAt O.INS_WINDOW lane (16 * c)) [tag, data]))
def execFlushExt (t : Tick) (n lane c : Nat) (s : State) : Host.Outcome State Fault Refusal :=
  onUnit (sessUnit n && laneUnit lane && chanUnit c) "channel"
    ((s.advance t).hostOp n (wr (objAt O.Q_CONTROL lane (16 * c)) [1]))
def execFlushIns (t : Tick) (n lane c : Nat) (s : State) : Host.Outcome State Fault Refusal :=
  onUnit (sessUnit n && laneUnit lane && chanUnit c) "channel"
    ((s.advance t).hostOp n (wr (objAt O.Q_CONTROL lane (16 * c)) [2]))

/-! ### Commands: reads with an effect, and selectors -/

/-- TCA_LOG (R315). -/
def execTcaLog (t : Tick) (n : Nat) (s : State) : Host.Outcome State Fault Refusal :=
  onUnit (sessUnit n) "session" ((s.advance t).hostOp n (rd O.TCA_LOG 2))

/-- PM_READ_SEL (R314). -/
def execPmReadSel (t : Tick) (n : Nat) (v : BitVec 64) (s : State) : Host.Outcome State Fault Refusal :=
  onUnit (sessUnit n) "session" ((s.advance t).hostOp n (wr O.PM_READ_SEL (two v)))

/-- XC_WINDOW_START (R161, R321). -/
def execXcWindowStart (t : Tick) (n : Nat) (g : Word) (s : State) : Host.Outcome State Fault Refusal :=
  onUnit (sessUnit n) "session" ((s.advance t).hostOp n (wr O.XC_WINDOW_START [g]))

/-- HISTORY_INFO (R232). -/
def execHistoryInfo (t : Tick) (n : Nat) (s : State) : Host.Outcome State Fault Refusal :=
  onUnit (sessUnit n) "session" ((s.advance t).hostOp n (rd O.HISTORY_INFO 1))
def execHistoryClear (t : Tick) (n : Nat) (s : State) : Host.Outcome State Fault Refusal :=
  onUnit (sessUnit n) "session" ((s.advance t).hostOp n (wr O.HISTORY_CONTROL [1]))

/-- SOFT_CW (R226). -/
def execSoftCw (t : Tick) (n : Nat) (cw : BitVec 64) (s : State) : Host.Outcome State Fault Refusal :=
  onUnit (sessUnit n) "session" ((s.advance t).hostOp n (wr O.SOFT_CW (two cw)))

/-- FAULT_INFO (R385). -/
def execFaultInfo (t : Tick) (n : Nat) (s : State) : Host.Outcome State Fault Refusal :=
  onUnit (sessUnit n) "session" ((s.advance t).hostOp n (rd O.FAULT_INFO 1))

/-- An op on an object of one kind; on an object of another kind the command has no place (log 2). -/
def State.kindOp (s : State) (n obj : Nat) (p : ObjRow → Bool) (op : ObjRow → Op) : State :=
  match findRow obj with
  | some r => if p r then s.hostOp n (op r) else s
  | none => s

/-- RC_READ (R318). -/
def execRcRead (t : Tick) (n obj : Nat) (s : State) : Host.Outcome State Fault Refusal :=
  onUnit (sessUnit n && objUnit obj) "object"
    ((s.advance t).kindOp n obj (fun r => r.acc == .rc) fun r => rd obj r.words)

/-- W1C_WRITE (R318). -/
def execW1cWrite (t : Tick) (n obj : Nat) (v : Word) (s : State) : Host.Outcome State Fault Refusal :=
  onUnit (sessUnit n && objUnit obj) "object" ((s.advance t).kindOp n obj (fun r => r.acc == .w1c) fun _ => wr obj [v])

/-- INT_EN_WRITE (R342). -/
def execIntEnWrite (t : Tick) (n obj : Nat) (v : Word) (s : State) : Host.Outcome State Fault Refusal :=
  onUnit (sessUnit n && objUnit obj) "object"
    ((s.advance t).kindOp n obj (fun _ => (stickyOf obj).isSome) fun _ => wr obj [v])

/-- REGISTER_WRITE (R318): a write of any object, its words from the start of a window. -/
def execRegisterWrite (t : Tick) (n obj : Nat) (data : List Word) (s : State) : Host.Outcome State Fault Refusal :=
  onUnit (sessUnit n && objUnit obj) "object" ((s.advance t).hostOp n (wr obj data))

/-! ### Commands: sessions and MACs -/

/-- FOLLA_CONFIG_WRITE (R330, R349). -/
def execFollaConfigWrite (t : Tick) (n : Nat) (v : Word) (s : State) : Host.Outcome State Fault Refusal :=
  onUnit (sessUnit n) "session" ((s.advance t).hostOp n (wr O.FOLLA_CONFIG [v]))

/-- SESSION_CONTROL_CLOSE (R331). -/
def execSessionControlClose (t : Tick) (n target : Nat) (s : State) : Host.Outcome State Fault Refusal :=
  onUnit (sessUnit n && sessUnit target) "session"
    ((s.advance t).hostOp n (wr (objAt O.SESSION_CONTROL target) [1]))

/-- ADDR_K_WRITE (R353). -/
def execAddrKWrite (t : Tick) (n m k : Nat) (v : BitVec 64) (s : State) : Host.Outcome State Fault Refusal :=
  onUnit (sessUnit n && macUnit m && k < 8) "filter" ((s.advance t).hostOp n (wr (objAt O.ADDR m k) (two v)))

/-! ### Commands: tandem and gallery -/

def execRelinquish (t : Tick) (n : Nat) (s : State) : Host.Outcome State Fault Refusal :=
  onUnit (sessUnit n) "session" ((s.advance t).hostOp n (wr O.TANDEM_COMMAND [1]))
def execTakeoverForce (t : Tick) (n : Nat) (s : State) : Host.Outcome State Fault Refusal :=
  onUnit (sessUnit n) "session" ((s.advance t).hostOp n (wr O.TANDEM_COMMAND [2]))
def execGxCatchup (t : Tick) (n : Nat) (s : State) : Host.Outcome State Fault Refusal :=
  onUnit (sessUnit n) "session" ((s.advance t).hostOp n (wr O.GALLERY_COMMAND [1]))
def execGxDiscard (t : Tick) (n : Nat) (s : State) : Host.Outcome State Fault Refusal :=
  onUnit (sessUnit n) "session" ((s.advance t).hostOp n (wr O.GALLERY_COMMAND [2]))
def execRingRelearn (t : Tick) (n : Nat) (s : State) : Host.Outcome State Fault Refusal :=
  onUnit (sessUnit n) "session" ((s.advance t).hostOp n (wr O.GALLERY_COMMAND [4]))

/-! ### Commands: faults and recovery (R386, R393, R396, R401) -/

def execFaultAck (t : Tick) (n : Nat) (record : Word) (s : State) : Host.Outcome State Fault Refusal :=
  onUnit (sessUnit n) "session" ((s.advance t).hostOp n (wr O.FAULT_ACK [record]))
def execFaultDeclare (t : Tick) (n : Nat) (party : Word) (s : State) : Host.Outcome State Fault Refusal :=
  onUnit (sessUnit n) "session" ((s.advance t).hostOp n (wr O.FAULT_DECLARE [party]))
def execReinit (t : Tick) (n subsystem inst : Nat) (s : State) : Host.Outcome State Fault Refusal :=
  onUnit (sessUnit n && subsystem < 64 && inst < 256) "instance"
    ((s.advance t).hostOp n (wr O.REINIT [BitVec.ofNat 32 (subsystem * 256 + inst)]))
def execDeviceReset (t : Tick) (n : Nat) (key : Word) (s : State) : Host.Outcome State Fault Refusal :=
  onUnit (sessUnit n) "session" ((s.advance t).hostOp n (wr O.DEVICE_RESET [key]))

/-! ### Commands: memory and check values (R369, R398, R399) -/

def execDmaAddr (t : Tick) (n : Nat) (v : BitVec 64) (s : State) : Host.Outcome State Fault Refusal :=
  onUnit (sessUnit n) "session" ((s.advance t).hostOp n (wr O.DMA_ADDR (two v)))
def execDmaWindow (t : Tick) (n : Nat) (write : Option Word) (s : State) : Host.Outcome State Fault Refusal :=
  onUnit (sessUnit n) "session"
    ((s.advance t).hostOp n (match write with
      | some w => wr O.DMA_WINDOW [w]
      | none => rd O.DMA_WINDOW 1))
def execCvuConfig (t : Tick) (n u : Nat) (v : Word) (s : State) : Host.Outcome State Fault Refusal :=
  onUnit (sessUnit n && cvuUnit u) "unit" ((s.advance t).hostOp n (wr (objAt O.CVU_CONFIG u) [v]))
def execCvuData (t : Tick) (n u : Nat) (w : Word) (s : State) : Host.Outcome State Fault Refusal :=
  onUnit (sessUnit n && cvuUnit u) "unit" ((s.advance t).hostOp n (wr (objAt O.CVU_DATA u) [w]))
def execCvuByte (t : Tick) (n u : Nat) (b : Byte) (s : State) : Host.Outcome State Fault Refusal :=
  onUnit (sessUnit n && cvuUnit u) "unit" ((s.advance t).hostOp n (wr (objAt O.CVU_BYTE u) [BitVec.ofNat 32 b.toNat]))
def execStart (t : Tick) (n u : Nat) (s : State) : Host.Outcome State Fault Refusal :=
  onUnit (sessUnit n && cvuUnit u) "unit" ((s.advance t).hostOp n (wr (objAt O.CVU_CONTROL u) [1]))

/-! ### Commands: the vault (R417 to R421) -/

def execFwImage (t : Tick) (n : Nat) (w : Word) (s : State) : Host.Outcome State Fault Refusal :=
  onUnit (sessUnit n) "session" ((s.advance t).hostOp n (wr O.FW_IMAGE [w]))
def execVerify (t : Tick) (n : Nat) (s : State) : Host.Outcome State Fault Refusal :=
  onUnit (sessUnit n) "session" ((s.advance t).hostOp n (wr O.FW_CONTROL [1]))
def execActivate (t : Tick) (n : Nat) (s : State) : Host.Outcome State Fault Refusal :=
  onUnit (sessUnit n) "session" ((s.advance t).hostOp n (wr O.FW_CONTROL [2]))
def execKeyImport (t : Tick) (n : Nat) (item : List Word) (s : State) : Host.Outcome State Fault Refusal :=
  onUnit (sessUnit n && item.length == 11) "item"
    ((s.advance t).hostOp n { wr O.KEY_IMPORT item with restart := true })
def execSessionRekey (t : Tick) (n : Nat) (nonce : List Word) (s : State) : Host.Outcome State Fault Refusal :=
  onUnit (sessUnit n && nonce.length == 8) "nonce"
    ((s.advance t).hostOp n { wr O.SESSION_REKEY nonce with restart := true })
def execWipe (t : Tick) (n : Nat) (key : Word) (s : State) : Host.Outcome State Fault Refusal :=
  onUnit (sessUnit n) "session" ((s.advance t).hostOp n (wr O.WIPE [key]))

/-! ### Commands: utility pins (R434) -/

def execUpinConfig (t : Tick) (n pin : Nat) (v : Word) (s : State) : Host.Outcome State Fault Refusal :=
  onUnit (sessUnit n && pinUnit pin) "pin" ((s.advance t).hostOp n (wr (objAt O.UPIN_CONFIG pin) [v]))

end Sys2Proof.Machine
end

