-- ==== Sys2Proof/Machine/Admission.lean ====
section
/-! DEFINITION. Admission of a commit (R332 to R336): the state it judges, the eight steps of R334, and the report. -/

namespace Sys2Proof.Machine

/-- A failed check: CHECK, OBJECT and DETAIL of the commit report (R334). -/
abbrev Reject := Nat × Nat × Nat

/-- DETAIL of a rule of step 5 that concerns no lane. -/
abbrev noLane : Nat := 0xFFFFFFFF

/-! ### The state that is judged -/

/-- One staged write put into the committed state. -/
def State.putWr (s : State) (w : Wr) : State :=
  match w.idx with
  | some i => s.setWord w.o i (BitVec.ofNat 32 w.v.toNat)
  | none =>
    if isEntryWr w then { s with xc := s.xc.setOn s.xc.force (entrySlot w.o) (BitVec.ofNat 64 w.v.toNat) }
    else s.mergeVal w.o w.v

/-- The committed state after some writes, its mode bits in effect. -/
def State.afterWrs (s : State) (ws : List Wr) : State :=
  let a := ws.foldl (fun s w => s.putWr w) s
  a.setVal O.MODES_ACTIVE (a.val O.MODES)

/-- Some write of the list is of object o. -/
def writes (ws : List Wr) (o : Nat) : Bool := ws.any (·.o == o)

/-- The lanes with a written object of one of the areas, rising. -/
def touched (ws : List Wr) (areas : List Nat) : List Nat :=
  (List.range numLanes).filter fun l => ws.any fun w => areas.contains (objArea w.o) && objLane w.o == some l

/-- R26, R276: a write of a gallery-scope object. GX_LAST is not written by a host. -/
def isScopeWr (w : Wr) : Bool := w.o == O.GALLERY_TABLE

/-- R282: a commit that is coordinated where GALLERY is in effect. -/
def coordinates (ws : List Wr) : Bool := ws.any fun w => isEntryWr w || isScopeWr w

/-! ### Step 1 (R158, R228, R263, R282, R333) -/

/-- R158: the frames by which FN must lie ahead of the current frame. -/
def State.tandemLead (s : State) (ws : List Wr) : Nat :=
  if s.tandemOn && s.tandemRole = roleActive then 2 + ceilDiv ((ws.filter isEntryWr).map (·.o)).dedup.length 2048 else 2

/-- R333, R263: the object named where FN is too early or too late: in Tandem mode an early FN names the first object. -/
def State.rangeObj (s : State) (ws : List Wr) (fn : Nat) : Nat :=
  if s.tandemOn && s.tandemRole = roleActive && fn < s.fn + 2 then (ws.head?.map (·.o)).getD 0 else 0

/-- R282. -/
def galleryLead (gallery : Bool) (ws : List Wr) : Nat := if gallery && coordinates ws then 20 else 2

/-- The least FN that meets every limit. -/
def State.leastFn (s : State) (gallery : Bool) (ws : List Wr) : Nat := s.fn + max (s.tandemLead ws) (galleryLead gallery ws)

/-- The GX_ID that a transaction writes, 0 where it writes none. -/
def gxOf (ws : List Wr) : Nat := ((lastWrite ws O.GX_ID none).map fun v => bits v 31 0).getD 0

/-- Step 1; fn is the FN named, 0 for the least. `gallery`: GALLERY is in effect before this transaction applies. -/
def State.step1 (s : State) (gallery : Bool) (ws : List Wr) (fn : Nat) : Option Reject :=
  let least := s.leastFn gallery ws
  let low := least % 2 ^ 32
  let no := fun (o d : Nat) => some (0x10, o, d)
  if writes ws O.TIME_SET && !s.txns.isEmpty then no O.TIME_SET 0
  else if (wrsOf (s.txns.filter (·.st != .held))).any (·.o == O.TIME_SET) then no O.TIME_SET 0
  else if fn ≠ 0 && (fn < s.fn + 2 || s.fn + 691200000 < fn) then no (s.rangeObj ws fn) low
  else if fn ≠ 0 && fn < s.fn + s.tandemLead ws then no O.XC_STAGED low
  else if gallery && coordinates ws && (gxOf ws = 0 || fn = 0 || fn < s.fn + 20) then no O.GX_ID low
  else if 16 ≤ s.txns.length then no 0 0
  else none

/-! ### Step 2 (R21, R30, R31, R33, R159, R263, R278, R337) -/

/-- R30: the PART_LANES object of partition p that holds lane l. -/
def partObj (p l : Nat) : Nat := objAt (O.PART_LANES_0 + l / 32) p

/-- Partition p's bits hold lane l, whatever its ENABLE. -/
def State.partBit (s : State) (p l : Nat) : Bool := (bits (s.val (partObj p l)) 31 0).testBit (l % 32)

/-- R30: a lane of two partitions, or of one that is not enabled: the first such lane's PART_LANES, of the lowest partition
concerned (log 34). -/
def State.badPart (s : State) (l : Nat) : Option Nat :=
  let ps := [1, 2, 3, 4, 5, 6, 7].filter (s.partBit · l)
  match ps.find? fun p => !s.on F.PART_ENABLE_ENABLE p with
  | some p => some (partObj p l)
  | none => if 2 ≤ ps.length then ps.head?.map (partObj · l) else none

/-- R31: the sources that entry e of output slot g names are readable by the partition that owns the output. -/
def State.exportOk (s : State) (g : Nat) (e : Entry) : Bool :=
  let p := s.laneOwner (slotLane g)
  entryAction e != 0 ||
    ((numSlots ≤ entryWork e || s.mayRead p (slotLane (entryWork e))) &&
      (!entryProtEn e || numSlots ≤ entryProt e || s.mayRead p (slotLane (entryProt e))))

/-- The listed entries of the page in force, by output slot. -/
def State.entries (s : State) : Map Entry := s.xc.page s.xc.force

/-- The first listed entry that fails a check, as its output slot. -/
def State.badEntryBy (s : State) (ok : Nat → Entry → Bool) : Option Nat :=
  (s.entries.find? fun (p : Nat × Entry) => !ok p.1 p.2).map (·.1)

/-- R263: a write of a copied object: of MODES only where a bit other than TANDEM changes. -/
def State.copiedWr (s : State) (w : Wr) : Bool :=
  if w.o = O.MODES then modesCopied (s.val O.MODES) != modesCopied (w.v &&& 0x3F) else !deviceLocal w.o

/-- Step 2, for a commit of session x; a is the judged state, b the state before this transaction. -/
def State.step2 (s a b : State) (x : Session) (gallery : Bool) (ws : List Wr) : Option Reject :=
  let no := fun (o : Nat) => (0x20, o, 0)
  let name := fun (p : Wr → Bool) => (ws.find? p).map fun w => no w.o
  if s.on F.FAULT_STATUS_FATAL then some (no 0)
  else
    (name fun w => x.part != 0 && w.o == O.MODES).orElse fun _ =>
    (name fun w => x.part != 0 && objArea w.o == 0x01).orElse fun _ =>
    (((List.range numLanes).findSome? a.badPart).map no).orElse fun _ =>
    (name fun w => !a.mayWrite x.part w.o).orElse fun _ =>
    ((a.badEntryBy a.exportOk).map fun g => no (entryObj g)).orElse fun _ =>
    (name fun w => x.part != 0 && gallery && (isEntryWr w || isScopeWr w)).orElse fun _ =>
    (name fun w => s.tandemOn && s.tandemRole == roleStandby && b.copiedWr w).orElse fun _ =>
    (if gallery && s.quarantined && ws.any isEntryWr then some (no O.XC_STAGED) else none).orElse fun _ =>
    (if gallery && s.quarantined && ws.any isScopeWr then some (no O.GX_ID) else none).orElse fun _ =>
    (ws.find? fun w => s.claimHolder x.num w.o != 0).map fun w => (0x20, w.o, s.claimHolder x.num w.o)

/-! ### Step 3: ranges and reserved codes -/

/-- The stated ranges of fields, least and greatest value, by chapter. -/
def rangesA : List (Fld × Nat × Nat) :=
  [(F.RX_EQ_CTRL_DFE_TAPS, 0, 12), (F.LOOPBACK_MODE, 0, 2), (F.PATTERN_CTRL_CHK, 0, 8), (F.PATTERN_CTRL_GEN, 0, 8),
   (F.SDH_CONFIG_J0_MODE, 0, 2), (F.TX_POINTER_OFFSET, 0, 782), (F.PATH_CONFIG_J1_MODE, 0, 2),
   (F.PATH_CONFIG_POH_MODE, 0, 2), (F.DEFECT_CONFIG_SD_EXP, 5, 9), (F.DEFECT_CONFIG_SF_EXP, 3, 6),
   (F.PATH_DEFECT_CONFIG_SD_EXP, 5, 9), (F.PATH_DEFECT_CONFIG_SF_EXP, 3, 6), (F.CLIENT_TX_CONFIG_TARGET, 16, 512),
   (F.LANDING_ELASTIC_ELASTIC, 1000, 31250), (F.RELEASE_OFFSET_OFFSET, 0, 250000), (F.LANDING_CUT_CUT, 0, 124999),
   (F.LEDGER_TAU_TAU, 1, 100000), (F.ARRIVAL_GUARD_GUARD, 10, 62499)]
def rangesB : List (Fld × Nat × Nat) :=
  [(F.CAND_NOMINAL_HZ, 1, 800000000), (F.SELECT_CONFIG_QL_MIN, 1, 6), (F.WTR_SECONDS, 0, 3600),
   (F.LOOP_BW_ACQ_BW, 1, 10000), (F.LOOP_BW_BW, 1, 10000), (F.LOCK_CRIT_LOCK_PHASE, 1, 65535),
   (F.LOCK_CRIT_LOCK_TIME, 1, 3600), (F.SOFTLOOP_CONFIG_WATCHDOG, 10, 65535), (F.FLY_NOMINAL_HZ, 10000000, 200000000),
   (F.PULL_SLOPE_SLOPE, 1, 10000000), (F.OUT_FREQ_DEN_DEN, 1, 65535), (F.OUT_FMAX_HZ, 1, 1500000000),
   (F.OUT_GLIDE_C, 1, 1000), (F.OUT_GLIDE_SLOPE, 1, 65535), (F.PPS_WIDTH_NS, 100, 500000000)]
def rangesC : List (Fld × Nat × Nat) :=
  [(F.APS_CONFIG_PROT_LANE, 0, 95), (F.APS_CONFIG_WORK_LANE, 0, 95), (F.APS_TIMERS_WTR, 0, 3600),
   (F.APS_TIMERS_HOLD_OFF, 0, 100), (F.APS_COMMAND_CMD, 0, 4), (F.PATH_PROT_CONFIG_WTR, 0, 3600),
   (F.PATH_PROT_CONFIG_HOLD_OFF, 0, 100), (F.PATH_PROT_COMMAND_CMD, 0, 4), (F.TANDEM_CONFIG_STANDBY_WAIT, 10, 60000),
   (F.Q_CONFIG_ROUTE, 0, 2), (F.Q_DEPTH_EXT_DEPTH, 64, 2048), (F.Q_DEPTH_INS_DEPTH, 64, 2048),
   (F.Q_LIMITS_MAX_LEN, 16, 4095), (F.Q_LIMITS_FLAGS_MIN, 1, 15), (F.MGMT_DCC_LANE, 0, 95)]
def rangesD : List (Fld × Nat × Nat) :=
  [(F.PM_LANE_CONFIG_SES_PCT, 1, 100), (F.PM_DEVICE_CONFIG_WATCH_SES_PCT, 1, 100), (F.MAC_CONFIG_MODE, 0, 1),
   (F.SCRUB_PERIOD_SECONDS, 1, 65535), (F.POWER_STATE_STATE, 0, 2), (F.SUPPLY_CONFIG_SLACK_FLOOR, 2000, 60000),
   (F.SUPPLY_CONFIG_VCORE_MAX, 0, 52), (F.SUPPLY_CONFIG_VCORE_MIN, 0, 52), (F.SUPPLY_TUNE_SLACK_BAND, 500, 30000),
   (F.SUPPLY_TUNE_DOWN_INTERVAL, 1, 8000), (F.THERMAL_CONFIG_THROTTLE_C, 70, 105), (F.LIFECYCLE_TARGET_STATE, 0, 4)]

/-- The number at instance 0 of an object's class, channel 0 for the four channels of R303. -/
def fieldBase (o : Nat) : Nat :=
  match findRow o with
  | some r => if objArea o = 0x0F && objInst o < 256 && objElem o < 0x40 then r.base - objElem o / 16 * 16 else r.base
  | none => 0

/-- Every field that a range list names lies within it. -/
def inRanges (rules : List (Fld × Nat × Nat)) (base : Nat) (v : Val) : Bool :=
  rules.all fun r => r.1.base != base || (r.2.1 ≤ bits v r.1.hi r.1.lo && bits v r.1.hi r.1.lo ≤ r.2.2)

/-- R228: a time that TIME_SET takes. -/
def timeSetOk (v : Val) : Bool := time96Ok v && bits v 47 18 % 125000 == 0 && bits v 17 0 == 0

/-- Ranges that a pair of bounds does not say (R215, R218, R225, R231, R245, R312, R360, R412). -/
def rangeOther (base : Nat) (v : Val) : Bool :=
  let f := bits v 31 24
  let comp := bits v 17 13
  if base = O.TIME_SET then timeSetOk v
  else if base = O.SELECT_CONFIG then f ≤ 113 || f == 0xFF
  else if base = O.CAND_CONFIG then comp ≤ 15 || comp == 31
  else if base = O.FW_WINDOW then 1 ≤ bits v 31 0
  else if base = O.OUT_PHASE_ADJ then (signed 64 (bits v 63 0)).natAbs < 1000000000 * 262144
  else if base = O.PPS_OFFSET then (signed 64 (bits v 63 0)).natAbs < 500000000 * 262144
  else if base = O.PM_DEVICE_CONFIG then bits v 16 0 % 900 == 0 && decide (bits v 16 0 < 86400)
  else if base = O.WAKE_PATTERN then bits v 63 60 != 1
  else if base = O.SUPPLY_CONFIG then bits v 5 0 ≤ bits v 11 6
  else if base = O.THERMAL_CONFIG then bits v 7 0 < bits v 15 8
  else true

/-- A written value is within the ranges of its object. -/
def valueOk (o : Nat) (v : Val) : Bool :=
  let b := fieldBase o
  inRanges rangesA b v && inRanges rangesB b v && inRanges rangesC b v && inRanges rangesD b v && rangeOther b v

/-- The object that a value out of range names: OUT_FREQ_DEN's names OUT_FREQ_NUM (R233). -/
def rangeNames (o : Nat) : Nat := if fieldBase o = O.OUT_FREQ_DEN then objAt O.OUT_FREQ_NUM (objInst o - 256) else o

/-- Step 3. Writes that an element ignores are not judged (R96, R256). -/
def State.step3 (a : State) (ws : List Wr) : Option Reject :=
  (ws.find? fun w => w.idx.isNone && !isEntryWr w && !a.noElement w.o && !valueOk w.o (a.val w.o)).map fun w =>
    (0x30, rangeNames w.o, 0)

/-! ### Step 4: mode conditions (R23, R24, R286) -/

/-- Bit k of MODES. -/
def State.modeBit (s : State) (k : Nat) : Bool := (s.val O.MODES).getLsbD k

/-- R23: the seat and the tag of a gallery member. -/
abbrev seatObjects : List Nat := [O.GALLERY_CONFIG, O.GALLERY_TAG]

/-- Step 4: b before, a after this transaction; `earlier` and `same` are the writes of pending transactions of an earlier FN and of
the same FN. -/
def State.step4 (s a b : State) (ws earlier same : List Wr) : Option Reject :=
  let sets := fun (k : Nat) => a.modeBit k && !b.modeBit k
  let clears := fun (k : Nat) => b.modeBit k && !a.modeBit k
  let seatToo := seatObjects.any fun o => writes ws o || !(s.seatObjs.contains o || writes earlier o) || writes same o
  let owned := (List.range numLanes).any fun l => [1, 2, 3, 4, 5, 6, 7].any (a.partHolds · l)
  let bad :=
    (sets 2 && seatToo) || (clears 3 && owned) ||
    (sets 4 && !(List.range 16).any fun c => a.on F.CAND_CONFIG_ENABLE c) ||
    (sets 5 && !(s.lifecycle == lcProvisioned || s.lifecycle == lcDeployed)) || clears 5
  if bad then some (0x40, O.MODES, 0) else none

/-! ### Step 5: areas 02 to 06 (R37, R42, R51, R52, R97, R113, R127 to R129) -/

/-- A failure of step 5. -/
def fail5 (o d : Nat) : Reject := (0x50, o, d)

/-- R37: the lane's LANE_CONFIG is in order. -/
def State.laneConfigOk (a : State) (l : Nat) : Bool :=
  let kbps := a.fld F.CLIENT_RATE_RATE_KBPS l
  let pam := a.on F.LANE_CONFIG_RX_PRECODE l || a.on F.LANE_CONFIG_TX_PRECODE l
  a.role l == 0 ||
    (rateRole (a.rate l) == a.role l && (!pam || a.rate l == 10) &&
      (!a.on F.LANE_CONFIG_FEC_DETECT_ONLY l || a.isTtf l) &&
      (a.rate l != 14 || (1000000 ≤ kbps && kbps ≤ 28050000)))

/-- The slots that an entry names (R149): its output, and its sources where it passes. -/
def namedSlots (g : Nat) (e : Entry) : List Nat :=
  if entryAction e = 2 then []
  else if entryAction e = 0 then g :: entryWork e :: (if entryProtEn e then [entryProt e] else [])
  else [g]

/-- R37: slot g lies within its lane's slot count. -/
def State.slotUsed (a : State) (g : Nat) : Bool := slotNo g < a.laneSlots (slotLane g)

/-- R37: the first entry that names a slot beyond its lane's count, and that lane. -/
def State.lostSlot (a : State) : Option Reject :=
  a.entries.findSome? fun (p : Nat × Entry) =>
    ((namedSlots p.1 p.2).find? fun g => decide (g < numSlots) && !a.slotUsed g).map fun g =>
      fail5 (entryObj p.1) (slotLane g)

/-- R127: a written descriptor past its lane's slot count. -/
def State.lostDesc (a : State) (ws : List Wr) : Option Reject :=
  (ws.find? fun w => isDescObj w.o && decide (a.laneSlots (objInst w.o % 256) ≤ objElem w.o)).map fun w =>
    fail5 w.o (objInst w.o % 256)

/-- R51: codes 6 and 7 outside PAM4. -/
def State.patternBad (a : State) (l : Nat) : Bool :=
  let bad := fun (c : Nat) => c == 6 || c == 7
  a.role l != 0 && a.rate l != 10 && (bad (a.fld F.PATTERN_CTRL_GEN l) || bad (a.fld F.PATTERN_CTRL_CHK l))

/-- R52: the lowest lane in use of a gated bay. -/
def State.gatedLane (a : State) (b : Nat) : Option Nat :=
  if a.on F.BAY_POWER_ENABLE b then none else ((List.range 8).map fun i => 8 * b + i).find? fun l => a.role l != 0

/-- R42: the cursors of TX_EQ. -/
def State.txEqBad (a : State) (l : Nat) : Bool :=
  40 < a.fld F.TX_EQ_PRE2 l + a.fld F.TX_EQ_PRE1 l + a.fld F.TX_EQ_POST1 l

/-- Step 5 in area 02, by rule. -/
def State.step5lanes (a : State) (ws : List Wr) : Option Reject :=
  let lanes := List.range numLanes
  let bay := fun (b : Nat) =>
    (a.gatedLane b).map fun l =>
      fail5 (if writes ws (objAt O.BAY_POWER b) then objAt O.BAY_POWER b else objAt O.LANE_CONFIG l) l
  ((lanes.find? fun l => !a.laneConfigOk l).map fun l => fail5 (objAt O.LANE_CONFIG l) l).orElse fun _ =>
  a.lostSlot.orElse fun _ =>
  (a.lostDesc ws).orElse fun _ =>
  ((touched ws [0x02]).find? a.txEqBad |>.map fun l => fail5 (objAt O.TX_EQ l) l).orElse fun _ =>
  ((lanes.find? a.patternBad).map fun l => fail5 (objAt O.PATTERN_CTRL l) l).orElse fun _ =>
  bays.findSome? bay

/-- R113: SD_EXP above SF_EXP, on the objects written. -/
def State.step5defects (a : State) (ws : List Wr) : Option Reject :=
  (ws.find? fun w =>
    objArea w.o == 0x05 && !a.noElement w.o &&
      (fieldBase w.o == F.DEFECT_CONFIG_SD_EXP.base || fieldBase w.o == F.PATH_DEFECT_CONFIG_SD_EXP.base) &&
      decide (bits (a.val w.o) 31 28 ≤ bits (a.val w.o) 27 24)).map fun w => fail5 w.o (objInst w.o % 256)

/-- R97: a concatenated path at slot k stands where its size allows. -/
def State.concatPlaced (a : State) (l k c : Nat) : Bool :=
  c ≤ 4 && k % concatSlots c == 0 && k + concatSlots c ≤ a.laneSlots l

/-- R129: descriptor d of slot k of one side is in order. -/
def State.descOk (a : State) (base l k : Nat) : Bool :=
  let d := a.desc base l k
  let t := descType d
  let c := descConcat d
  let i := descIndex d
  let plain := (t == 2 || c == 0) && (t == 3 || descGroup d == 0) && (t == 2 || t == 3 || i == 0)
  let ofPath :=
    i < concatSlots c && i ≤ k && a.concatPlaced l (k - i) c &&
      (List.range (concatSlots c)).all fun m =>
        let e := a.desc base l (k - i + m)
        descType e == 2 && descConcat e == c && descIndex e == m
  t ≤ 3 && plain && (t != 1 || !a.isClient l) && (t != 3 || !a.isSdh l) && (t != 2 || ofPath) &&
    (t != 3 || !a.isTtf l || (a.groupSlots base l (descGroup d)).idxOf k == i) &&
    (t != 0 || !a.isSdh l || base != O.RX_DESC)

/-- The first offending descriptor of lane l in slot order, the receive side first. -/
def State.badDesc (a : State) (bad : Nat → Nat → Bool) (l : Nat) : Option Reject :=
  (List.range (a.laneSlots l)).findSome? fun k =>
    if bad O.RX_DESC k then some (fail5 (objAt O.RX_DESC l k) l)
    else if bad O.TX_DESC k then some (fail5 (objAt O.TX_DESC l k) l)
    else none

/-- R97 on an SDH lane. -/
def State.concatBad (a : State) (l base k : Nat) : Bool :=
  let d := a.desc base l k
  a.isSdh l && descType d == 2 && descIndex d == 0 && !a.concatPlaced l k (descConcat d)

/-- R128: a written descriptor of a CLIENT lane differs from the derived one. -/
def State.clientWrs (a : State) (ws : List Wr) : Option Reject :=
  (ws.find? fun w =>
    let l := objInst w.o % 256
    isDescObj w.o && a.isClient l && bits w.v 31 0 != a.clientDesc l (objElem w.o)).map fun w =>
      fail5 w.o (objInst w.o % 256)

/-- Step 5 in area 06. Lanes with no written object are as an earlier admission left them. -/
def State.step5descs (a : State) (ws : List Wr) : Option Reject :=
  let lanes := touched ws [0x02, 0x06]
  (lanes.findSome? fun l => a.badDesc (a.concatBad l) l).orElse fun _ =>
  (a.clientWrs ws).orElse fun _ =>
  lanes.findSome? fun l => a.badDesc (fun base k => !a.descOk base l k) l

/-! ### Step 5: areas 0A and 0B (R216, R218, R225, R230 to R233, R442) -/

/-- R231: CAND_CONFIG of candidate c is in order. -/
def State.candOk (a : State) (c : Nat) : Bool :=
  let q := a.fld F.CAND_CONFIG_QL_ASSIGN c
  let m := a.fld F.CAND_CONFIG_COMPANION c
  (!a.on F.CAND_CONFIG_ENABLE c || a.fld F.CAND_CONFIG_PRIORITY c != 0) && ((1 ≤ q && q ≤ 6) || q == 15) &&
    (m == 31 || (c < 16 && m != c))

/-- R231: |COMP| below one period. -/
def State.compOk (a : State) (c : Nat) : Bool :=
  (a.sfld F.CAND_PHASE_COMP_COMP c).natAbs * a.fld F.CAND_NOMINAL_HZ c < 1000000000 * 262144

/-- Step 5 in area 0A; s gives the loop's state (R230), b the value before. -/
def State.step5timing (s a b : State) (ws : List Wr) : Option Reject :=
  let enabled := ((List.range 114).filter fun c => a.on F.CAND_CONFIG_ENABLE c).length
  let force := a.fld F.SELECT_CONFIG_FORCE
  let when_ := fun (c : Bool) (o : Nat) => if c then some (fail5 o noLane) else none
  (when_ (!a.on F.SELECT_CONFIG_SCHEME && decide (8 < enabled)) O.SELECT_CONFIG).orElse fun _ =>
  (when_ (a.modeBit 4 && force != 0xFF && decide (15 < force)) O.SELECT_CONFIG).orElse fun _ =>
  (when_ (86400 < a.fld F.FW_WINDOW_W + a.fld F.FW_GAP_G) O.FW_WINDOW).orElse fun _ =>
  (when_ (writes ws O.FLY_NOMINAL && a.val O.FLY_NOMINAL != b.val O.FLY_NOMINAL && s.loopState != lFree)
    O.FLY_NOMINAL).orElse fun _ =>
  (((List.range 114).find? fun c => !a.candOk c).map fun c => fail5 (objAt O.CAND_CONFIG c) noLane).orElse fun _ =>
  (((List.range 16).find? fun c => !a.compOk c).map fun c => fail5 (objAt O.CAND_PHASE_COMP c) noLane).orElse fun _ =>
  (when_ (a.fld F.MONITOR_LIMITS_REJECT ≤ a.fld F.MONITOR_LIMITS_ACCEPT) O.MONITOR_LIMITS).orElse fun _ =>
  when_ (a.fld F.LOOP_BW_ACQ_BW < a.fld F.LOOP_BW_BW) O.LOOP_BW

/-- R233: the frequency that output n is left with. -/
def State.freqOk (a : State) (n : Nat) : Bool :=
  let num := a.fld F.OUT_FREQ_NUM_NUM n
  let den := a.fld F.OUT_FREQ_DEN_DEN n
  den != 0 && den ≤ num && num ≤ 1500000000 * den && num ≤ a.fld F.OUT_FMAX_HZ n * den

/-- R240: OUT_FMAX is lowered below the frequency that output n has now, and no new frequency is set. -/
def State.fmaxBad (s a b : State) (ws : List Wr) (n : Nat) : Bool :=
  let f := s.outFreq n
  let limit := a.fld F.OUT_FMAX_HZ n
  decide (limit < b.fld F.OUT_FMAX_HZ n) && decide (limit * f.2 < f.1) &&
    !(writes ws (objAt O.OUT_FREQ_NUM n) || writes ws (objAt O.OUT_FREQ_DEN n))

/-- Step 5 in area 0B. R240 names no object. -/
def State.step5outs (s a b : State) (ws : List Wr) : Option Reject :=
  let hcsl := fun (n : Nat) =>
    a.fld F.OUT_CONFIG_FORMAT n == 2 && decide (400000000 * a.fld F.OUT_FREQ_DEN_DEN n < a.fld F.OUT_FREQ_NUM_NUM n)
  (((List.range 8).find? fun n => !a.freqOk n).map fun n => fail5 (objAt O.OUT_FREQ_NUM n) noLane).orElse fun _ =>
  (((List.range 8).find? fun n => s.fmaxBad a b ws n).map fun _ => fail5 0 noLane).orElse fun _ =>
  ((List.range 8).find? hcsl).map fun n => fail5 (objAt O.OUT_CONFIG n) noLane

/-! ### Step 5: area 0C (R246) -/

def State.groupOn (a : State) (g : Nat) : Bool := a.on F.APS_CONFIG_ENABLE g
def State.groupWork (a : State) (g : Nat) : Nat := a.fld F.APS_CONFIG_WORK_LANE g
def State.groupProt (a : State) (g : Nat) : Nat := a.fld F.APS_CONFIG_PROT_LANE g

/-- R246: enabled group g is in order, beside the other enabled groups `gs`. -/
def State.groupOk (a : State) (gs : List Nat) (g : Nat) : Bool :=
  let w := a.groupWork g
  let p := a.groupProt g
  let mine := fun (l : Nat) => l == w || l == p
  let alike := fun (base : Nat) => (List.range (a.laneSlots w)).all fun k => a.desc base w k == a.desc base p k
  w != p && a.role w == a.role p && a.rate w == a.rate p && (a.isSdh w || a.isTtf w) &&
    !(gs.any fun h => h != g && (mine (a.groupWork h) || mine (a.groupProt h))) &&
    alike O.RX_DESC && alike O.TX_DESC && !(a.on F.APS_CONFIG_ARCH g && !a.on F.APS_CONFIG_REVERTIVE g)

/-- Step 5 in area 0C. -/
def State.step5aps (a : State) : Option Reject :=
  let gs := (List.range 48).filter a.groupOn
  let prots := (gs.filter fun g => !a.on F.APS_CONFIG_ARCH g).map a.groupProt
  ((gs.find? fun g => !a.groupOk gs g).map fun g => fail5 (objAt O.APS_CONFIG g) (a.groupWork g)).orElse fun _ =>
  a.entries.findSome? fun (p : Nat × Entry) =>
    ((namedSlots p.1 p.2).find? fun k => prots.contains (slotLane k)).map fun k => fail5 (entryObj p.1) (slotLane k)

/-! ### Step 5: area 0F (R290, R297, R299, R300, R302, R347, R349) -/

/-- Channel c of lane l fails R297 or R300. -/
def State.limitsBad (a : State) (l c : Nat) : Bool :=
  let hi := 4 * a.qfld F.Q_LIMITS_HIGH_WM l c
  let room : Int := (a.qfld F.Q_DEPTH_INS_DEPTH l c : Int) - 2 - ceilDiv (a.qfld F.Q_LIMITS_MAX_LEN l c) 4
  (a.qon F.Q_CONFIG_MODE l c && decide (room < hi)) || a.qfld F.Q_LIMITS_HIGH_WM l c ≤ a.qfld F.Q_LIMITS_LOW_WM l c

/-- R290: the eight depths of a lane. -/
def State.depthSum (a : State) (l : Nat) : Nat :=
  ([0, 1, 2, 3].map fun c => a.qfld F.Q_DEPTH_EXT_DEPTH l c + a.qfld F.Q_DEPTH_INS_DEPTH l c).sum

/-- The channels routed to a port, in lane and channel order: Q_CONFIG's number and the port. -/
def State.routed (a : State) : List (Nat × Nat) :=
  (a.dict.filter fun (p : Nat × Val) =>
    objArea p.1 == 0x0F && decide (objInst p.1 < 96) && decide (objElem p.1 < 0x40) && objElem p.1 % 16 == 0 &&
      bits p.2 4 3 == 1).map fun p => (p.1, bits p.2 7 5)

/-- R299: the second channel of a port, or a channel of a port not in use. -/
def State.routeBad (a : State) : List (Nat × Nat) → List Nat → Option Reject
  | [], _ => none
  | (o, p) :: r, seen =>
    if seen.contains p || !a.on F.DCC_PORT_CONFIG_ENABLE p then some (fail5 o (objInst o)) else a.routeBad r (p :: seen)

/-- R302, R347: the designation stands on a channel that can carry it. -/
def State.mgmtBad (a : State) : Bool :=
  let l := a.fld F.MGMT_DCC_LANE
  let c := a.fld F.MGMT_DCC_CHANNEL
  a.on F.MGMT_DCC_ENABLE &&
    (!a.chanPresent l c || !a.qon F.Q_CONFIG_MODE l c || decide (a.qfld F.Q_LIMITS_MAX_LEN l c < 1434))

/-- Step 5 in area 0F. -/
def State.step5queues (a : State) (ws : List Wr) : Option Reject :=
  let lanes := touched ws [0x0F]
  let shut := !a.on F.MGMT_DCC_ENABLE && !a.on F.FOLLA_CONFIG_ETH_EN && !a.on F.FOLLA_CONFIG_SPI_EN
  ((lanes.find? fun l => decide (8192 < a.depthSum l)).map fun l => fail5 (objAt O.Q_DEPTH l) l).orElse fun _ =>
  (lanes.findSome? fun l => ([0, 1, 2, 3].find? (a.limitsBad l)).map fun c =>
    fail5 (objAt O.Q_LIMITS l (16 * c)) l).orElse fun _ =>
  (a.routeBad a.routed []).orElse fun _ =>
  (if a.mgmtBad then some (fail5 O.MGMT_DCC (a.fld F.MGMT_DCC_LANE)) else none).orElse fun _ =>
  if shut then some (fail5 O.MGMT_DCC noLane) else none

/-! ### Step 5: areas 16 and 17 (R403, R409, R420, R421, R425) -/

/-- R177: the budget in ns. -/
def State.budget (a : State) (l : Nat) : Int :=
  (a.offsetNs l : Int) - a.fld F.LANDING_CUT_CUT + ((a.lag l : Int) - 1) * 125000

/-- Step 5 in area 16. -/
def State.step5power (a : State) : Option Reject :=
  let off := a.fld F.POWER_STATE_STATE != 0 && (a.modeBit 1 || a.modeBit 2)
  let low := fun (l : Nat) => a.role l != 0 && decide (a.budget l - 4000 < a.slackFloor)
  (if off then some (fail5 O.POWER_STATE noLane) else none).orElse fun _ =>
  ((List.range numLanes).find? low).map fun l => fail5 O.SUPPLY_CONFIG l

/-- The words of LIFECYCLE_DATA. -/
def State.lifecycleWords (a : State) : List Word := (List.range 512).map fun i => a.word O.LIFECYCLE_DATA i

/-- R420: the transitions that the table permits. -/
def lifecycleNext (st x : Nat) : Bool :=
  (st == lcBlank && x == lcProvisioned) || (st == lcProvisioned && (x == lcDeployed || x == lcScrapped)) ||
  (st == lcDeployed && x == lcReturned) || (st == lcReturned && (x == lcProvisioned || x == lcScrapped))

/-- R420: what the request needs, in the present state. -/
def State.lifecycleNeeds (s a : State) (x : Session) (target : Nat) : Bool :=
  let words := a.lifecycleWords
  let authorised := Config.returnAuthorised (s.fld F.WIPE_COUNT_COUNT) words
  x.part == 0 &&
    (if s.lifecycle = lcBlank then !x.sealed
     else if s.lifecycle = lcProvisioned then
       target != lcDeployed || ((Config.carriedKeys words).getD []).any fun p => p.1 == 0
     else if s.lifecycle = lcDeployed then x.sealed || (s.tampered && authorised)
     else authorised)

/-- Step 5 in area 17. -/
def State.step5vault (s a : State) (x : Session) (ws : List Wr) : Option Reject :=
  let target := a.fld F.LIFECYCLE_TARGET_STATE
  let alone := ws.all fun w => w.o == O.LIFECYCLE_TARGET || w.o == O.LIFECYCLE_DATA
  let worn := s.fld F.WIPE_COUNT_COUNT == 255 && target != lcScrapped
  let bad :=
    writes ws O.LIFECYCLE_TARGET &&
      (!alone || s.tandemOn || s.galleryOn || !lifecycleNext s.lifecycle target || !s.lifecycleNeeds a x target || worn)
  if bad then some (fail5 O.LIFECYCLE_TARGET noLane)
  else if writes ws O.TAMPER_CONFIG && !(s.lifecycle == lcBlank || s.lifecycle == lcProvisioned) then
    some (fail5 O.TAMPER_CONFIG noLane)
  else none

/-- Step 5, in ascending area order. -/
def State.step5 (s a b : State) (x : Session) (ws : List Wr) : Option Reject :=
  (a.step5lanes ws).orElse fun _ =>
  (a.step5defects ws).orElse fun _ =>
  (a.step5descs ws).orElse fun _ =>
  (s.step5timing a b ws).orElse fun _ =>
  (s.step5outs a b ws).orElse fun _ =>
  a.step5aps.orElse fun _ =>
  (a.step5queues ws).orElse fun _ =>
  a.step5power.orElse fun _ =>
  s.step5vault a x ws

/-! ### Step 6: the connection map (R162 to R165) -/

/-- Order 1: codes and indices of an entry (R9, R150, R156). -/
def State.order1 (a : State) (ws : List Wr) (g : Nat) (e : Entry) : Bool :=
  let sel := (lastWrite ws (entryObj g) none).any fun v => 2 ≤ bits v 39 38
  entryAction e ≤ 5 && (entryAction e != 4 || entryWork e % 8 < 4) && !sel &&
    ((namedSlots g e).all fun k => decide (k < numSlots) && a.slotUsed k) &&
    !(entryAction e == 0 && entryProtEn e && entryProt e == entryWork e)

/-- Order 1, with R160: the first entry that fails, or that the transaction wrote and the memory lost. -/
def State.order1Bad (s a : State) (ws : List Wr) : Option Nat :=
  let lost := ((ws.filter isEntryWr).map fun w => entrySlot w.o).filter s.xc.badStaged.contains
  ((a.badEntryBy (a.order1 ws)).toList ++ lost).min?

/-- R131: a source slot fits output slot g. -/
def State.sourceFits (a : State) (g src : Nat) : Bool :=
  let o := a.txDesc (slotLane g) (slotNo g)
  let i := a.rxDesc (slotLane src) (slotNo src)
  descType o == descType i && descIndex o == descIndex i && (descType o != 2 || descConcat o == descConcat i) &&
    (descType o != 3 ||
      (a.members O.TX_DESC (slotLane g) (slotNo g)).length == (a.members O.RX_DESC (slotLane src) (slotNo src)).length)

/-- The first slot of the source path or group that slot src belongs to. -/
def State.sourcePath (a : State) (src : Nat) : Nat :=
  slotIdx (slotLane src) (a.firstSlot O.RX_DESC (slotLane src) (slotNo src))

/-- The entry of the first member of g's output path or group whose ACTION is pass. -/
def State.leader (a : State) (g : Nat) : Option Entry :=
  let l := slotLane g
  (((a.members O.TX_DESC l (slotNo g)).map fun k => a.xc.active (slotIdx l k)).find? fun e => entryAction e == 0)

/-- Order 3: descriptors (R130, R131). -/
def State.order3 (a : State) (g : Nat) (e : Entry) : Bool :=
  let t := descType (a.txDesc (slotLane g) (slotNo g))
  let like := (a.leader g).all fun f =>
    a.sourcePath (entryWork e) == a.sourcePath (entryWork f) && entryProtEn e == entryProtEn f &&
      (!entryProtEn e || a.sourcePath (entryProt e) == a.sourcePath (entryProt f))
  (t != 0 || entryAction e == 2) &&
    (entryAction e != 0 ||
      (a.sourceFits g (entryWork e) && (!entryProtEn e || a.sourceFits g (entryProt e)) && like))

/-- R163: the ingress slot that an entry counts as a working source. -/
def workOf (g : Nat) (e : Entry) : Option Nat :=
  if entryAction e = 0 then some (entryWork e) else if entryAction e = 5 then some g else none

/-- R164: the banks that an entry charges. -/
def banksOf (g : Nat) (e : Entry) : List Nat :=
  if entryAction e = 0 then slotLane (entryWork e) :: (if entryProtEn e then [slotLane (entryProt e)] else [])
  else if entryAction e = 5 then [slotLane g]
  else []

/-- One count more for each key; the first that passes the limit. -/
def countUp (limit : Nat) : List Nat → Map Nat → Map Nat × Option Nat
  | [], m => (m, none)
  | k :: ks, m =>
    let n := Map.get 0 k m + 1
    if limit < n then (m, some k) else countUp limit ks (Map.insert k n (Map.erase k m))

/-- Counting over the entries in ascending g: the entry and the key at which a limit is passed. -/
def pastLimit (limit : Nat) (keys : Nat → Entry → List Nat) : Map Entry → Map Nat → Option (Nat × Nat)
  | [], _ => none
  | (g, e) :: r, m =>
    let c := countUp limit (keys g e) m
    match c.2 with
    | some k => some (g, k)
    | none => pastLimit limit keys r c.1

/-- Order 6: watch indices (R165). -/
def State.watchBad (a : State) : Map Entry → List Nat → Option Nat
  | [], _ => none
  | (g, e) :: r, seen =>
    let d := a.txDesc (slotLane g) (slotNo g)
    let first := descType d == 1 || ((descType d == 2 || descType d == 3) && descIndex d == 0)
    if !entryWatchEn e then a.watchBad r seen
    else if !first || seen.contains (entryWatch e) then some g
    else a.watchBad r (entryWatch e :: seen)

/-- R162: a commit that the map is checked at. -/
def mapTouched (ws : List Wr) : Bool :=
  ws.any fun w => isEntryWr w || isDescObj w.o || objArea w.o == 0x01 || (objArea w.o == 0x02 && decide (objInst w.o < 96))

/-- Step 6. -/
def State.step6 (s a : State) (ws : List Wr) : Option Reject :=
  let no := fun (k d g : Nat) => (0x60 + k, entryObj g, d)
  if !mapTouched ws then none
  else
    ((s.order1Bad a ws).map (no 1 0)).orElse fun _ =>
    ((a.badEntryBy a.exportOk).map (no 2 0)).orElse fun _ =>
    ((a.badEntryBy a.order3).map (no 3 0)).orElse fun _ =>
    ((pastLimit 4 (fun g e => (workOf g e).toList) a.entries []).map fun p => no 4 p.2 p.1).orElse fun _ =>
    ((pastLimit 4096 banksOf a.entries []).map fun p => no 5 p.2 p.1).orElse fun _ =>
    (a.watchBad a.entries []).map (no 6 0)

/-! ### Steps 7 and 8 (R187, R334) -/

/-- Step 7: the first lane that store admission fails. -/
def State.step7 (a : State) : Option Reject :=
  let bad := fun (l : Nat) =>
    a.role l != 0 &&
      (decide (2097152 < a.storeNeed l) || (a.cadence && (decide (250000 < a.offsetNs l) || decide (a.budget l < 12000))))
  ((List.range numLanes).find? bad).map fun l => (0x70, objAt O.RELEASE_OFFSET l, a.storeNeed l)

/-- Steps 5 to 7. -/
def State.steps5to7 (s a b : State) (x : Session) (ws : List Wr) : Option Reject :=
  (s.step5 a b x ws).orElse fun _ => (s.step6 a ws).orElse fun _ => a.step7

/-- Step 8: each pending transaction with a later FN on top. -/
def State.step8 (s : State) (x : Session) (ws : List Wr) : State → List Txn → Option Reject
  | _, [] => none
  | a, y :: r =>
    let c := a.afterWrs y.writes
    match s.steps5to7 c a x (ws ++ y.writes) with
    | some f => some (0x80, f.2.1, y.id)
    | none => s.step8 x ws c r

/-- The verdict on a transaction of session x with writes ws and the FN named: what it fails, or the FN it takes. -/
def State.judge (s : State) (x : Session) (ws : List Wr) (named : Nat) : Reject ⊕ Nat :=
  let g0 := (s.afterWrs (wrsOf (s.pendingTo (if named = 0 then s.fn + 2 else named)))).modeBit 2
  let fn := if named = 0 then s.leastFn g0 ws else named
  let b := s.afterWrs (wrsOf (s.pendingTo fn))
  let a := b.afterWrs ws
  let gallery := b.modeBit 2
  let same := wrsOf ((s.pendingTo fn).filter (·.fn == fn))
  let earlier := wrsOf ((s.pendingTo fn).filter (·.fn != fn))
  let r :=
    (s.step1 gallery ws named).orElse fun _ =>
    (s.step2 a b x gallery ws).orElse fun _ =>
    (a.step3 ws).orElse fun _ =>
    (s.step4 a b ws earlier same).orElse fun _ =>
    (s.steps5to7 a b x ws).orElse fun _ =>
    s.step8 x ws a (s.pendingAfter fn)
  match r with
  | some e => .inl e
  | none => .inr fn

/-! ### COMMIT, DRY_RUN, ABORT, CANCEL (R332, R334, R336) -/

/-- The commit report. -/
def report (id fn check obj detail : Nat) : List Byte :=
  beBytes 4 id ++ beBytes 6 fn ++ [BitVec.ofNat 8 check, 0] ++ beBytes 4 obj ++ beBytes 4 detail

/-- R282: a commit for frame fn is coordinated with the gallery that is in effect then. -/
def State.coordinated (s : State) (ws : List Wr) (fn : Nat) : Bool :=
  coordinates ws && (s.afterWrs (wrsOf (s.pendingTo fn))).modeBit 2

/-- XC_STAGE goes with transaction id, committed for frame fn (R153). -/
def State.stageWith (s : State) (id fn : Nat) : State :=
  ({ s with xc := { s.xc with stage := .txn id, leaseEnd := none } }.setOn F.XC_STATUS_SWITCH_PENDING true).setFld F.XC_PENDING_FN_FN fn

/-- An admitted transaction waits for its FN, or for GO (R283); it takes XC_STAGE with it (R153). -/
def State.admitTxn (s : State) (x : Session) (ws : List Wr) (fn : Nat) : State :=
  let gx := s.coordinated ws fn
  let t : Txn := ⟨s.nextTxn, x.num, fn, ws, if gx then .waitGo else .pending, gxOf ws⟩
  let s1 := { s with txns := s.txns ++ [t], nextTxn := s.nextTxn + 1 }.modSession x.num fun y => { y with txn := none }
  let s2 := if ws.any isEntryWr then s1.stageWith t.id fn else s1
  if gx then (s2.modGallery fun g => { g with gxSeen := 0 }).setFld F.GX_STATUS_STATE 1 else s2

/-- COMMIT by session x: status, report, state. -/
def State.commit (s : State) (x : Session) (named : Nat) (dry : Bool) : Nat × List Byte × State :=
  match x.txn with
  | none => (stNoTxn, [], s)
  | some ws =>
    match s.judge x ws named with
    | .inl (c, o, d) => (stRejected, report 0 0 c o d, s)
    | .inr fn =>
      if dry then (stOk, report 0 fn 0 0 0, s) else (stOk, report s.nextTxn fn 0 0 0, s.admitTxn x ws fn)

/-- ABORT: the open transaction is discarded; XC_STAGE that it holds frees without a mark (R339). -/
def State.abort (s : State) (x : Session) : Nat × State :=
  match x.txn with
  | none => (stNoTxn, s)
  | some _ =>
    let s1 := s.modSession x.num fun y => { y with txn := none }
    (stOk, if s.xc.stage = .session x.num && !s.heldStage x.num then s1.freeStage false else s1)

/-- A pending transaction is withdrawn (R336). -/
def State.withdraw (s : State) (t : Txn) : State :=
  let s1 := { s with txns := s.txns.filter (·.id != t.id) }
  if s.xc.stage = .txn t.id then
    ((s1.freeStage false).setOn F.XC_STATUS_SWITCH_PENDING false).setFld F.XC_PENDING_FN_FN 0
  else s1

/-- CANCEL. -/
def State.cancel (s : State) (x : Session) (id : Nat) : Nat × State :=
  match s.txns.find? fun t => t.id == id with
  | some t => if t.sess ≠ x.num || t.st ≠ .pending || t.fn < s.fn + 3 then (stNotCancellable, s) else (stOk, s.withdraw t)
  | none => (stValue, s)

end Sys2Proof.Machine
end

