-- ==== Sys2Proof/Machine/TimeSet.lean ====
section
/-! DEFINITION. A committed TIME_SET steps DTS (R228, R186, R242, R312). Instants kept by DTS, and frame numbers, move with
the scale; the consequences of the step follow. -/

namespace Sys2Proof.Machine

/-- An instant, or a frame number, moved by d. -/
def shifted (d : Int) (x : Nat) : Nat := ((x : Int) + d).toNat

/-- R157: the entries that the last switch wrote are copied into the old page, which becomes the standby page. -/
def State.copyPage (s : State) : State :=
  match s.xc.copy with
  | some gs =>
    let x := gs.foldl (fun (x : Xc) g => x.setOn (!x.force) g (x.active g)) s.xc
    { s with xc := { x with copy := none } }.freeStage false
  | none => s

/-- A switch that is under way is seen to its end. -/
def State.finishCopy (s : State) : State := (s.noteSwitch (max s.fn s.xc.switchFn)).copyPage

/-- R186: the frame before the lowest one whose release instant on the new scale lies at or after the step, which is the
boundary of frame n; with CADENCE clear the frames count by their boundary. -/
def State.beforeFirst (s : State) (l n : Nat) : Option Nat :=
  let lead := if s.cadence then s.offsetNs l * ns / frame else 0
  if n ≤ lead then none else some (n - lead - 1)

/-- R186: one lane at a step of d ticks to the boundary of frame n. Its landing sequence is broken, its store is empty, a frame
that the step falls in carries AIS, and the line's place moves with the scale. The TX_TIMEs of frames sent are kept (R193). -/
def State.stepLane (s : State) (d : Int) (n l : Nat) : State :=
  if s.role l = 0 then s
  else
    let keep := s.beforeFirst l n
    let stand := (s.lane l).justify.map fun (p : Nat × Justify) => (p.1, { p.2 with place := none, last := none })
    let s1 := s.modLane l fun x =>
      { x with
        landings := [], nextL := none, store := [], late := none, relOld := [], picks := [], justify := stand, mapping := []
        mapL := none, aisUntil := some (n * frame), overlay := {}
        pathAisUntil := [], changedAt := none,
        spes := x.spes.map fun (p : Nat × SpeAsm) => (p.1, { p.2 with j1At := shifted d p.2.j1At })
        lastTx := x.lastTx.map fun f => { f with at_ := shifted d f.at_ }
        prevTx := x.prevTx.map fun f => { f with at_ := shifted d f.at_ }, txEnd := x.txEnd.map (shifted d),
        txFrom := x.txFrom.map (shifted d)
        lastRel := keep }
    let s2 := (if 2 ≤ n then s1.landAis l (n - 2) else s1)
    let s3 := (if 1 ≤ n then s2.landAis l (n - 1) else s2)
    let s4 := s3.reseedLane l
    s4.setLedger l { s4.ledger l with heard := [] }

/-- R221: the phase errors after the step; a frequency-only candidate keeps its own. -/
def State.stepCand (s : State) (d : Int) (c : Nat) : State :=
  let x := s.cand c
  match x.edge with
  | some e => s.setCand c { x with edge := some (shifted d e), buildOut := x.buildOut + d }
  | none => s

/-- R221, R241: the residual of the selection is pulled. -/
def State.pullAgain (s : State) : State := if s.fld F.LOOP_STATUS_SELECTED = 127 then s else s.runPull

/-- The gallery's frame numbers move by f. -/
def State.stepGallery (s : State) (f : Int) : State :=
  let port := fun (x : RingPort) => { x with lastFrame := shifted f x.lastFrame, ledger := x.ledger.reseed }
  let seat := fun (p : Nat × SeatMsg) => (p.1, { p.2 with frame := shifted f p.2.frame })
  s.modGallery fun g =>
    { g with
      east := port g.east, west := port g.west, seats := g.seats.map seat, relay := g.relay.map seat
      rootSince := shifted f g.rootSince, own := [], compare := [], comparedFn := none
      catchup := g.catchup.map (shifted f) }

/-- The pair's instants and frame numbers move. -/
def State.stepTandem (s : State) (d f : Int) : State :=
  s.modTandem fun x =>
    { x with
      releasedAt := x.releasedAt.map (shifted d), force := x.force.map (shifted d), gotFn := x.gotFn.map (shifted f),
      t0Fn := x.t0Fn.map (shifted f)
      late := none, out := { x.out with copyEnd := x.out.copyEnd.map (shifted f) }
      relinquishAt := x.relinquishAt.map (shifted f), ledger := {} }

/-- Squelches and frame-aligned pin changes that wait for an instant of DTS. -/
def State.stepWaits (s : State) (d f : Int) : State :=
  let s1 := (List.range 8).foldl (fun s n => s.setOut n { s.out n with quietTo := (s.out n).quietTo.map (shifted d) }) s
  { s1 with
    pps := s1.pps.map fun (p : Nat × Pulse) => (p.1, { p.2 with since := shifted d p.2.since })
    pins := s1.pins.map fun (p : Nat × Pin) => (p.1, { p.2 with since := p.2.since.map (shifted f) }) }

/-- R228: DTS takes the value v at the instant the old scale reaches the boundary of frame fn. The loop's state is kept. -/
def State.timeSet (s : State) (v : Val) (fn : Nat) : State :=
  let s0 := s.finishCopy.gatherTo s.dts
  let boundary := ticksOfTime96 v
  let new := boundary + (s0.dts - fn * frame)
  let d : Int := (new : Int) - s0.dts
  let n := fnOf boundary
  let f : Int := (n : Int) - s0.fn
  let s1 :=
    { s0 with
      dts := new, slacks := [], worstFn := none
      timing := { s0.timing with
        stepAt := some s0.now, lastFrame := n, lastSecond := new / sec, secSpoilt := true, cwAt := new } }
  let s2 := (List.range 16).foldl (fun s c => s.stepCand d c) s1
  let s3 := (List.range numLanes).foldl (fun s l => s.stepLane d n l) s2
  let s4 := (((s3.stepGallery f).stepTandem d f).stepWaits d f).pullAgain
  ((s4.stepOuts d).pmStep).raise F.TE_STICKY_TIME_STEPPED

end Sys2Proof.Machine
end

