-- ==== Sys2Proof/Machine/Changes.lean ====
section
/-! DEFINITION. What a committed change of an object does at its frame, unit by unit: modes (R23, R25), lanes (R43, R54,
R55), descriptors (R132), and the settings of the other chapters. `old` is the state before the transaction. -/

namespace Sys2Proof.Machine

/-! ### Writing -/

/-- Whether object o of instance offset i has another value than before. -/
def State.differs (s old : State) (o : Nat) : Bool := s.val o != old.val o

/-- A field of object o has another value than before. -/
def State.fldDiffers (s old : State) (f : Fld) (i : Nat := 0) (e : Nat := 0) : Bool := s.fld f i e != old.fld f i e

/-- The writes of a transaction that satisfy p take their values, in order; entries wait for the page switch, and an
element that ignores writes stays (R96, R256). -/
def State.putAll (s : State) (ws : List Wr) (p : Nat → Bool) : State :=
  ws.foldl (fun s w =>
    if isEntryWr w || !p w.o || s.noElement w.o then s
    else
      match w.idx with
      | some i => s.setWord w.o i (BitVec.ofNat 32 w.v.toNat)
      | none => s.mergeVal w.o w.v) s

/-! ### Modes (R20, R23 to R25) -/

/-- Bit k of MODES takes effect. A SEALED that is set stays set (R23). -/
def State.modeStep (s : State) (k : Nat) : State :=
  let v := s.modeBit k
  if s.objBit O.MODES_ACTIVE k = v then s
  else if k = 5 then
    if v then (s.setSealed true).endWhere fun x => !x.sealed else s.setOn F.MODES_SEALED true
  else
    let s1 := (s.setVal O.MODES_ACTIVE (setBits (s.val O.MODES_ACTIVE) k k (boolBit v))).setFld F.MODES_FN_FN s.fn
    if k = 1 then (if v then s1.tandemStart else s1.tandemStop)
    else if k = 2 then (if v then s1.galleryStart else s1.galleryStop)
    else s1

/-- R25: SEALED, PARTITIONED, ROOT, CADENCE, TANDEM, GALLERY. -/
def State.modeSteps (s : State) : State := [5, 3, 4, 0, 1, 2].foldl (fun s k => s.modeStep k) s

/-! ### Partitions (R34, R35, R378) -/

/-- R35: a partition whose ENABLE falls loses its sessions and its bank's contents. -/
def State.partDisabled (s old : State) (p : Nat) : State :=
  if old.on F.PART_ENABLE_ENABLE p && !s.on F.PART_ENABLE_ENABLE p then
    (s.endWhere fun x => x.part == p).clearBank (0xC8 + p)
  else s

/-- R34, R378: lane l passes to another partition. Claims on its objects held by sessions of the old owner are
abandoned. -/
def State.laneMoves (s old : State) (l : Nat) : State :=
  let was := old.laneOwner l
  let now := s.laneOwner l
  if was = now then s
  else
    let mine := fun (p : Nat × Claim) =>
      p.2.holder != 0 && objLane (p.1 / 2) == some l && (s.session p.2.holder).any fun x => x.part == was
    let loose := fun (p : Nat × Claim) =>
      if mine p then (p.1, { p.2 with holder := 0, leaseEnd := 0, lease := 0, mark := true }) else p
    let s1 := { s with claims := s.claims.map loose }.abandoned (s.claims.filter mine).length
    if now = 0 then s1 else s1.pcHandOver l

/-- The partition objects take effect. -/
def State.partSteps (s old : State) : State :=
  let s1 := [1, 2, 3, 4, 5, 6, 7].foldl (fun s p => s.partDisabled old p) s
  (List.range numLanes).foldl (fun s l => s.laneMoves old l) s1

/-! ### Bays and lanes (R43, R51 to R55) -/

/-- R52, R55: a bay's supply gate follows BAY_POWER. -/
def State.bayChange (s : State) (b : Nat) : State :=
  if s.on F.BAY_POWER_ENABLE b then (if s.active then s.bayPower b else s) else s.bayGate b

/-- R55: ROLE, RATE or CLIENT_RATE has changed. -/
def State.lineDiffers (s old : State) (l : Nat) : Bool :=
  s.fldDiffers old F.LANE_CONFIG_ROLE l || s.fldDiffers old F.LANE_CONFIG_RATE l || s.fldDiffers old F.CLIENT_RATE_RATE_KBPS l

/-- R119, R169: what the lane landed from frame FN − 1 on is not read, and what is stored of it carries AIS; its sequence and what
is gathered for it start again. -/
def State.dropLanded (s : State) (l : Nat) : State :=
  let n := s.fn
  (s.failStores l).modLane l fun x =>
    { x with
      landings := x.landings.filter fun f => f.l + 1 < n, nextL := none, mapping := [], mapL := none, spes := [], pathAisUntil := [] }

/-- R293, R311: queues and bins of a lane whose ROLE or RATE changed. -/
def State.lineClears (s old : State) (l : Nat) : State :=
  if s.fldDiffers old F.LANE_CONFIG_ROLE l || s.fldDiffers old F.LANE_CONFIG_RATE l then
    ((s.flushLane l).pmSuspect (linePoint l)).pmSuspect (sectionPoint l)
  else s

/-- A lane that leaves OFF: its landing bank comes into use with open contents (R371, log 10). -/
def State.bankInUse (s : State) (l : Nat) : State :=
  let s1 := s.wipeBank l
  { s1 with usedBanks := l :: s1.usedBanks.filter (· != l) }

/-- R55: one lane whose line changed. A lane of role OFF that stays OFF keeps its RATE without effect (R36). -/
def State.lineChange (s old : State) (l : Nat) : State :=
  if !s.lineDiffers old l || (old.role l = 0 && s.role l = 0) then s
  else
    let s1 := (s.lineClears old l).dropLanded l
    if s.role l = 0 then s1.laneOff l
    else
      let s2 := if old.role l = 0 then s1.bankInUse l else s1
      let s3 := (s2.resetDemapper l).modLane l fun x => { x with justify := [], picks := [] }
      if s3.active then s3.bringUp l else s3

/-- R196, R209: the ledger of a lane begins to produce results, or ends; without results it is not TRACEABLE. -/
def State.ledgerChange (s old : State) (l : Nat) : State :=
  if s.ledgerOn l = old.ledgerOn l then s
  else if s.ledgerOn l then s.startLedger l
  else (s.setVal (objAt O.LEDGER_STATUS l) 0).modLane l fun x => { x with overlay := {} }

/-- R43: a changed RX_EQ_CTRL re-tunes the lane, unless its line changed too or the change freezes it only. -/
def State.eqChange (s old : State) (l : Nat) : State :=
  let o := objAt O.RX_EQ_CTRL l
  if !s.differs old o || s.lineDiffers old l || frozeOnly (old.val o) (s.val o) || s.role l = 0 || !s.active then s
  else (s.dropLanded l).retune l

/-- R51: a pattern generator that is changed starts its pattern; a checker that is changed has no lock. R49: a loopback that is
changed starts with nothing looped. -/
def State.patternChange (s old : State) (l : Nat) : State :=
  let s1 := if s.fldDiffers old F.PATTERN_CTRL_GEN l then s.modLane l fun x => { x with genReg := 0, injectErr := 0 } else s
  let s2 := if s.fldDiffers old F.PATTERN_CTRL_CHK l then
      (s1.setFld F.PATTERN_STATUS_CHK_LOCK 0 l).modLane l fun x => { x with chkReg := none }
    else s1
  if s.fldDiffers old F.LOOPBACK_MODE l then s2.modLane l fun x => { x with loop := [] } else s2

/-- R54: one lane, in the order of the rule. -/
def State.laneChange (s old : State) (l : Nat) : State :=
  (((s.lineChange old l).ledgerChange old l).eqChange old l).patternChange old l

/-! ### Descriptors (R132) -/

/-- R132: the pointer interpreter and the path objects' results of a slot start from their initial state. -/
def State.restartPath (s : State) (l k : Nat) : State :=
  let s1 := (s.setVal (objAt O.PATH_STATUS l k) 0).setVal (pathObj l k) 0
  let s2 := (List.range 16).foldl (fun s i => s.setWord (objAt O.PATH_J1_TRACE l k) (32 + i) 0) s1
  s2.modLane l fun x =>
    { x with
      pointers := Map.erase k x.pointers
      runs := Map.erase (runKey kC2 k) (Map.erase (runKey kG1 k) x.runs)
      windows := Map.erase (sfKey (.sfP k)) (Map.erase (sfKey (.sdP k)) x.windows)
      gather := Map.erase (siteKey (.j1 k)) x.gather, message := Map.erase (siteKey (.j1 k)) x.message
      pathSd := Map.erase k x.pathSd, spes := Map.erase k x.spes, pathAisUntil := Map.erase k x.pathAisUntil }

/-- A receive descriptor of an SDH lane, o, changed. -/
def State.descChange (s old : State) (o : Nat) : State :=
  let l := objInst o % 256
  if objArea o = 0x06 && objInst o / 256 = 1 && s.isSdh l && s.differs old o then s.restartPath l (objElem o) else s

/-! ### Defects and identity (R78, R87, R110 to R116) -/

/-- Windows of two detectors start again where their thresholds changed. -/
def State.dropWindows (s : State) (l : Nat) (a b : SfSd) : State :=
  s.modLane l fun x => { x with windows := Map.erase (sfKey a) (Map.erase (sfKey b) x.windows) }

/-- DEFECT_CONFIG of lane l changed. -/
def State.defectConfig (s old : State) (l : Nat) : State :=
  let exps := s.fldDiffers old F.DEFECT_CONFIG_SF_EXP l || s.fldDiffers old F.DEFECT_CONFIG_SD_EXP l
  ((if exps then s.dropWindows l .sf .sd else s).rejudgeTim l .j0).noteSf l

/-- PATH_DEFECT_CONFIG of a path changed. -/
def State.pathDefectConfig (s old : State) (l k : Nat) : State :=
  let exps := s.fldDiffers old F.PATH_DEFECT_CONFIG_SF_EXP l k || s.fldDiffers old F.PATH_DEFECT_CONFIG_SD_EXP l k
  (if exps then s.dropWindows l (.sfP k) (.sdP k) else s).rejudgePath l k

/-- PATH_CONFIG of a path changed: with POH_MODE off only AIS-P and LOP-P stand, and no other is detected (R113). -/
def State.pathConfig (s : State) (l k : Nat) : State :=
  if s.pohOff l k then
    ([pUneq, pPlm, pTim, pRdi, pSf, pSd].foldl (fun s b => s.undeclarePath l k b) s).dropWindows l (.sfP k) (.sdP k)
  else s.rejudgePath l k

/-- R78: a check that is switched off clears its defect, and its run starts again. -/
def State.idChecks (s : State) (l : Nat) : State :=
  [0, 1, 2].foldl (fun s b =>
    if s.mismatchOn l b then s
    else (s.judgeMismatch l b false).modLane l fun x => x.breakRun (runKey (kTag + b) 0)) s

/-! ### Clock outputs (R235 to R240) -/

/-- A change of frequency. Where OUT_FMAX now lies below the frequency in force, whatever glide runs ends and the change starts from
OUT_FMAX (R240, log 44). -/
def State.freqChange (s : State) (n fn : Nat) : State :=
  let o := s.out n
  let fmax := s.fld F.OUT_FMAX_HZ n
  let f := s.outFreq n
  let goal := (s.fld F.OUT_FREQ_NUM_NUM n, s.fld F.OUT_FREQ_DEN_DEN n)
  if fmax * f.2 < f.1 then
    (s.setOut n { o with num := fmax, den := 1, stage := 0, held := none }).startChange n goal (fn * frame)
  else s.changeFreq n goal (fn * frame)

/-- R235: a changed FORMAT squelches the output; it resumes with the first rising edge after a period. -/
def State.formatChange (s : State) (n fn : Nat) : State :=
  let f := s.outFreq n
  (s.quench n).setOut n
    { (s.quench n).out n with quietTo := some (s.resumeEdge n f (fn * frame + max 1 f.2 * sec / max 1 f.1)) }

/-- The settings of output n, where one of them changed. A changed OUT_PHASE_ADJ, and ALIGN set, move the output to its new grid by a glide of
its own frequency. -/
def State.outChange (s old : State) (n fn : Nat) : State :=
  let freq := s.differs old (objAt O.OUT_FREQ_NUM n) || s.differs old (objAt O.OUT_FREQ_DEN n)
  let al := s.on F.OUT_CONFIG_ALIGN n
  let grid := al && (!old.on F.OUT_CONFIG_ALIGN n || s.differs old (objAt O.OUT_PHASE_ADJ n))
  let cap := s.differs old (objAt O.OUT_FMAX n)
  let s1 := if s.fldDiffers old F.OUT_CONFIG_FORMAT n then s.formatChange n fn else s
  let s2 := if freq || grid then s1.freqChange n fn else s1
  let s3 := if al then s2 else s2.setOn F.OUT_STATUS_ALIGNED false n
  if freq || grid || cap || s.differs old (objAt O.OUT_CONFIG n) then s3.unclamp n else s

/-! ### Overhead channels (R293, R300) -/

/-- MODE or a depth of a channel changed: its queues are flushed. -/
def State.chanChange (s old : State) (l c : Nat) : State :=
  if s.qfld F.Q_CONFIG_MODE l c != old.qfld F.Q_CONFIG_MODE l c ||
      s.val (objAt O.Q_DEPTH l (16 * c)) != old.val (objAt O.Q_DEPTH l (16 * c)) then s.flushChan l c
  else s.setFc l c

/-! ### Protection (R246, R250) -/

/-- An APS group's configuration changed: another pair of lanes, architecture or ENABLE starts it again. -/
def State.groupChange (s old : State) (g : Nat) : State :=
  if s.fldDiffers old F.APS_CONFIG_ENABLE g || s.fldDiffers old F.APS_CONFIG_WORK_LANE g ||
      s.fldDiffers old F.APS_CONFIG_PROT_LANE g || s.fldDiffers old F.APS_CONFIG_ARCH g then s.apsStart g
  else s.apsEval g

/-! ### One changed object -/

/-- R312: a new DAY_OFFSET takes over at the second that holds FN. -/
def State.dayChange (s old : State) (fn : Nat) : State :=
  if s.fldDiffers old F.PM_DEVICE_CONFIG_DAY_OFFSET then
    let s1 := s.pointKeys.foldl (fun s k => s.pmSuspect k) s
    { s1 with dayCuts := s.dayCuts ++ [(fn * frame / sec, old.fld F.PM_DEVICE_CONFIG_DAY_OFFSET)] }
  else s

/-- R350: a MAC whose mode or enable changed starts its link again. -/
def State.macChange (s old : State) (m : Nat) : State :=
  if s.fldDiffers old F.MAC_CONFIG_ENABLE m || s.fldDiffers old F.MAC_CONFIG_MODE m ||
      s.fldDiffers old F.MAC_CONFIG_AN_EN m then s.macRestart m
  else s

/-- R226: the watchdog counts from ENABLE. -/
def State.softChange (s old : State) : State :=
  if s.on F.SOFTLOOP_CONFIG_ENABLE && !old.on F.SOFTLOOP_CONFIG_ENABLE then
    { s with timing := { s.timing with softCwAt := s.now, fwHeld := false } }
  else s

/-- R243: new settings of a pulse output count from frame FN on. -/
def State.pulseChange (s : State) (p fn : Nat) : State := s.setPulse p { s.pulse p with since := fn * frame }

/-- What a changed object of one lane does, areas 03 to 06, 09 and 0F. -/
def State.laneObjChange (s old : State) (o : Nat) : State :=
  let b := fieldBase o
  let l := objInst o % 256
  let k := objElem o
  if b = O.TTF_ID_CTRL then s.idChecks l
  else if b = O.DEFECT_CONFIG then s.defectConfig old l
  else if b = O.PATH_DEFECT_CONFIG then s.pathDefectConfig old l k
  else if b = O.PATH_CONFIG then s.pathConfig l k
  else if b = O.SDH_CONFIG then s.rejudgeTim l .j0
  else if isDescObj o then s.descChange old o
  else if objArea o = 0x09 then s.publishLedger l
  else if b = O.Q_CONFIG || b = O.Q_DEPTH || b = O.Q_LIMITS then s.chanChange old l (k / 16)
  else s

/-- The actions at a change of an object of areas 12 to 16: the day's cut (R311), a MAC's configuration, the core clamp and
the power cap, the seat's conflict flag (R270). -/
def State.chipObjChange (s old : State) (o fn : Nat) : State :=
  let b := fieldBase o
  if b = O.PM_DEVICE_CONFIG then s.dayChange old fn
  else if b = O.MAC_CONFIG then s.macChange old (objInst o)
  else if b = O.SUPPLY_CONFIG then s.clampCore
  else if b = O.POWER_CAP then s.capClear
  else if b = O.GALLERY_CONFIG || b = O.GALLERY_TAG then s.setOn F.GALLERY_STATUS_SEAT_CONFLICT false
  else if 0x16100000 ≤ o && o < 0x16106000 then s.showPower
  else s

/-- What a changed object of the device or of one of its units does. -/
def State.unitObjChange (s old : State) (o fn : Nat) : State :=
  let b := fieldBase o
  let i := objInst o % 256
  if b = O.CAND_CONFIG then s.candWatch i
  else if b = O.SOFTLOOP_CONFIG then s.softChange old
  else if b = O.PPS_CONFIG || b = O.PPS_OFFSET then s.pulseChange i fn
  else if b = O.APS_CONFIG then s.groupChange old i
  else if b = O.APS_TIMERS then s.apsEval i
  else if b = O.PATH_PROT_CONFIG then s.pathWatch (slotIdx i (objElem o))
  else s.chipObjChange old o fn

/-! ### Written objects, whatever they held -/

/-- R109: an expected J0 trace that was written is compared. -/
def State.tracesWritten (s : State) (ws : List Wr) : State :=
  let ls := ((ws.filter fun w => fieldBase w.o == O.J0_EXP_TRACE).map fun w => objInst w.o % 256).eraseDups
  ls.foldl (fun s l => s.rejudgeTim l .j0) s

/-- A write that acts though the value may be the old one: commands (R250, R255), and DORMANT_MODE = 0 for a bank in
retention (R372). -/
def State.written (s : State) (w : Wr) : State :=
  let b := fieldBase w.o
  let l := objInst w.o % 256
  if b = O.APS_COMMAND then s.apsEval l
  else if b = O.PATH_PROT_COMMAND then s.pathCommand (slotIdx l (objElem w.o)) (bits w.v 2 0)
  else if b = O.BANK_CONFIG && !s.on F.BANK_CONFIG_DORMANT_MODE (objInst w.o) then
    { s with retained := s.retained.filter fun p => 0xC8 + p != objInst w.o }
  else s

end Sys2Proof.Machine
end

