-- ==== Sys2Proof/Machine/Apply.lean ====
section
/-! DEFINITION. Committed transactions apply (R8, R25, R54, R155 to R157, R169, R284, R285, R335). -/

namespace Sys2Proof.Machine

/-! ### The page switch (R155 to R157) -/

/-- The watch indices that entries carry. -/
def watchesOf (es : Map Entry) : List Nat :=
  (es.filter fun (p : Nat × Entry) => entryWatchEn p.2).map fun p => entryWatch p.2

/-- R155, R255, R311: the switch, and what it ends: the waits and commands of paths whose sources or action were
rewritten, and the current bins of watch indices that moved. -/
def State.pageSwitch (s : State) (id : Nat) (ws : List Wr) : State :=
  let es := entriesOf ws
  if es.isEmpty then s
  else
    let s0 := s.finishCopy
    let s9 := s0.putPage id es
    let s1 := { s9 with xc := { s9.xc with aheadSel := [] } }.setOn F.XC_STATUS_SWITCH_PENDING true |>.setFld F.XC_PENDING_FN_FN s.fn
    let s1 := s1.refillSlots (es.map fun (p : Nat × Entry) => p.1)
    let moved := es.filter fun (p : Nat × Entry) => !sameSources p.2 (s0.xc.active p.1)
    let s2 := moved.foldl (fun s p => s.pathCancel p.1) s1
    let was := es.map fun (p : Nat × Entry) => (p.1, s0.xc.active p.1)
    let marks := (watchesOf was ++ watchesOf es).eraseDups.filter fun w => s0.watchSlot w != s2.watchSlot w
    marks.foldl (fun s w => s.pmSuspect w) s2

/-! ### SLOT_COMPLETE -/

/-- SLOT_COMPLETE (R152, R179). -/
def execSlotComplete (t : Tick) (lane fn k : Nat) (s : State) : Host.Outcome State Fault Refusal :=
  onUnit (laneUnit lane && k < 1024) "slot" ((s.advance t).ahead fn fun s => s.asOf fn fun s => s.slotDone lane fn k)

/-! ### What frames before the change still go by (R8, R183) -/

/-- Objects whose values an egress frame of any lane goes by, beside the lane's own. -/
def commonObjs : List Nat := [O.MODES_ACTIVE, O.TANDEM_STATUS, O.LANDING_CUT, O.TEST_BYTE]

/-- The objects that frames of lane l go by: its own, its channels', and those of the protection groups with their status. -/
def keptObj (l o : Nat) : Bool :=
  (objLane o == some l && ((0x02 ≤ objArea o && objArea o ≤ 0x08) || objArea o == 0x0F)) ||
    (objArea o == 0x0C && (objLane o).isNone)

/-- The J0 trace of lane l, word by word, where a transaction wrote it. -/
def State.keptWords (old : State) (ws : List Wr) (l : Nat) : List (Nat × Nat × Word) :=
  ws.filterMap fun w => if w.o = objAt O.J0_TX_TRACE l then w.idx.map fun i => (w.o, i, old.word w.o i) else none

/-- What was kept at the current frame already stands; what it lacks is added to it. -/
def RelOld.add (r : RelOld) (vals : List (Nat × Val)) (words : List (Nat × Nat × Word)) : RelOld :=
  { r with
    objs := r.objs ++ vals.filter fun v => !r.objs.any (·.1 == v.1)
    words := r.words ++ words.filter fun v => !r.words.any fun x => x.1 == v.1 && x.2.1 == v.2.1 }

/-- The settings that lane l had, where they changed, are kept for its frames before the current one. Frames more than eight old
have left, and so has what was read of them. -/
def State.keepLane (s old : State) (changed : List Nat) (ws : List Wr) (l : Nat) : State :=
  let groups := (List.range 48).map fun g => objAt O.APS_STATUS g
  let own := changed.filter (keptObj l)
  let also := (objAt O.LANE_STATUS l :: commonObjs ++ groups).filter fun o => s.differs old o
  let vals := (own ++ also).map fun o => (o, old.val o)
  let words := old.keptWords ws l
  let same := vals.isEmpty && words.isEmpty && s.offsetNs l == old.offsetNs l && s.lag l == old.lag l && s.cadence == old.cadence
  if same || (old.role l = 0 && s.role l = 0) then s
  else
    s.modLane l fun x =>
      { x with
        relOld :=
          match x.relOld with
          | r :: rs =>
            if r.fn = s.fn then r.add vals words :: rs
            else ⟨s.fn, old.offsetNs l, old.lag l, old.cadence, vals, words⟩ :: (r :: rs).filter fun q => decide (s.fn < q.fn + 8)
          | [] => [⟨s.fn, old.offsetNs l, old.lag l, old.cadence, vals, words⟩] }

/-! ### Applying writes -/

/-- The objects that the writes changed, entries and words left out. -/
def State.changedObjs (s old : State) (ws : List Wr) : List Nat :=
  ((ws.filter fun w => w.idx.isNone && !isEntryWr w).map (·.o)).eraseDups.filter fun o => s.differs old o

/-- R169 step 3: modes (R25), lanes (R54), descriptors (R132), and the other objects. -/
def State.putWrites (s : State) (ws : List Wr) : State :=
  let s1 := (s.putAll ws fun o => o == O.MODES).modeSteps
  let s2 := s1.putAll ws fun o => objArea o == 0x01 && o != O.MODES
  let s3 := s2.putAll ws fun o => objArea o == 0x02
  let s4 := s3.putAll ws isDescObj
  s4.putAll ws fun o => objArea o != 0x01 && objArea o != 0x02 && !isDescObj o

/-- What the changed objects of a transaction do, unit by unit. -/
def State.followWrites (s old : State) (ws : List Wr) (fn : Nat) : State :=
  let changed := s.changedObjs old ws
  let bs := bays.filter fun b => changed.contains (objAt O.BAY_POWER b)
  let ls := touched ws [0x02]
  let ledgers := touched ws [0x04]
  let s1 := s.partSteps old
  let s2 := bs.foldl (fun s b => s.bayChange b) s1
  let s3 := ls.foldl (fun s l => s.laneChange old l) s2
  let s4 := ledgers.foldl (fun s l => if ls.contains l then s else s.ledgerChange old l) s3
  let s5 := changed.foldl (fun s o => s.laneObjChange old o) s4
  let s6 := changed.foldl (fun s o => s.unitObjChange old o fn) s5
  (List.range 8).foldl (fun s n => s.outChange old n fn) s6

/-- Lanes with a written object that their defects, candidates, points or controllers look at. -/
def hookLanes (ws : List Wr) : List Nat := touched ws [0x02, 0x03, 0x04, 0x05, 0x06, 0x07, 0x08, 0x09, 0x10]

/-- R420: a committed LIFECYCLE_TARGET. -/
def State.lifecycleSteps (s : State) (ws : List Wr) : State :=
  if writes ws O.LIFECYCLE_TARGET then s.lifecycleApply (s.fld F.LIFECYCLE_TARGET_STATE) s.lifecycleWords else s

/-- R23: GALLERY_CONFIG and GALLERY_TAG are noted once a transaction has applied them. -/
def State.noteSeatObjs (s : State) (ws : List Wr) : State :=
  { s with seatObjs := ([O.GALLERY_CONFIG, O.GALLERY_TAG].filter fun o => writes ws o || s.seatObjs.contains o) }

/-- The writes of one transaction, committed for frame fn, take effect at the current frame. -/
def State.applyWrs (s : State) (id : Nat) (ws : List Wr) (fn : Nat) : State :=
  let s1 := ((s.putWrites ws).followWrites s ws fn).noteSeatObjs ws
  let s2 := s1.pageSwitch id ws
  let s3 := (ws.foldl (fun y w => y.written w) s2).tracesWritten ws
  let s4 := (hookLanes ws).foldl (fun s l => s.laneHook l) s3
  let s5 := (s4.banksFollow).lifecycleSteps ws
  let s6 := (List.range numLanes).foldl (fun y l => y.keepLane s (y.changedObjs s ws) ws l) s5
  let s7 := if writes ws O.POWER_STATE then s6.powerApply (s6.fld F.POWER_STATE_STATE) else s6
  if writes ws O.TIME_SET then s7.timeSet (s7.val O.TIME_SET) fn else s7

/-! ### TRANSACTION_APPLY (R335, R284, R285) -/

/-- The first transaction that is due, in the order of R335: pending ones whose frame has come, and a held one that a
GX_CATCHUP of an earlier frame released (R285). -/
def State.firstDue (s : State) : Option Txn :=
  s.txnOrder.find? fun x =>
    if x.st = .held then s.gallery.catchup.any (· < s.fn) && s.galleryState == gMember else x.fn ≤ s.fn

/-- The transaction leaves the pending ones and applies. -/
def State.applyTxn (s : State) (x : Txn) (fn : Nat) : State :=
  { s with txns := s.txns.filter fun y => y.id != x.id }.applyWrs x.id x.writes fn

/-- R284: GX_LAST takes GX_ID with the transaction. -/
def State.applyGx (s : State) (x : Txn) : State :=
  let s1 := (s.applyTxn x s.fn).setFld F.GX_LAST_ID x.gxId
  ((s1.setFld F.GX_STATUS_STATE 0).modGallery fun g => { g with gxSeen := 0, catchup := none }).noteOwn

/-- R284: ABORT was accepted. -/
def State.abortGx (s : State) (x : Txn) : State :=
  let s1 := ((s.withdraw x).bump O.GX_ABORTS).raise F.GALLERY_STICKY_GX_ABORTED
  (s1.setFld F.GX_STATUS_STATE 0).modGallery fun g => { g with gxSeen := 0 }

/-- R284: neither was accepted, or the member is quarantined: the transaction is held, and with it XC_STAGE, under a lease
that its session keeps renewed (a tandem standby's goes by its active's). -/
def State.holdGx (s : State) (x : Txn) : State :=
  let put := fun (y : Txn) => if y.id = x.id then { y with st := TxnState.held } else y
  let s1 := { s with txns := s.txns.map put }
  let s2 :=
    if x.writes.any isEntryWr then
      let lease := if x.sess = 0 then none else some (s.now + s.fld F.FOLLA_CONFIG_LEASE_DEFAULT * ms)
      ({ s1 with xc := { s1.xc with stage := .session x.sess, leaseEnd := lease } }.setOn
        F.XC_STATUS_SWITCH_PENDING false).setFld F.XC_PENDING_FN_FN 0
    else s1
  ((s2.raise F.GALLERY_STICKY_GX_HELD).setFld F.GX_STATUS_STATE 2).modGallery fun g => { g with gxSeen := 0 }

/-- A transaction whose frame has come. -/
def State.dueTxn (s : State) (x : Txn) : State :=
  match x.st with
  | .pending => s.applyTxn x x.fn
  | .held => s.applyGx x
  | .waitGo =>
    if !s.galleryOn then s.applyTxn x x.fn
    else if s.gallery.gxSeen = gxAbort then s.abortGx x
    else if s.gallery.gxSeen = gxGo && s.galleryState = gMember && !s.quarantined then s.applyGx x
    else s.holdGx x

/-- TRANSACTION_APPLY: transaction id, where it is the first that is due. -/
def State.apply (s : State) (id : Nat) : State :=
  match s.firstDue with
  | some x => if x.id = id && s.running && !s.resetLow then s.dueTxn x else s
  | none => s

/-- R219: every transaction that is due at a boundary has applied before what the boundary decides; k bounds their number. -/
def State.applyDue : Nat → State → State
  | 0, s => s
  | k + 1, s =>
    match s.firstDue with
    | some x => State.applyDue k (s.dueTxn x)
    | none => s
def execTransactionApply (t : Tick) (id : Nat) (s : State) : Host.Outcome State Fault Refusal :=
  .next ((s.advance t).apply id)

end Sys2Proof.Machine
end

