-- ==== Sys2Proof/Machine/Boundary.lean ====
section
/-! DEFINITION. The frame boundary (R105, R219, R258 to R269, R277 to R280) and the end of a page copy (R157). -/

namespace Sys2Proof.Machine

/-! ### A standby applies its active's record (R26, R261, R264, R266) -/

/-- R24, R26, R263: a MODES write from the active keeps this device's TANDEM, and a SEALED that is set. -/
def State.standbyWr (s : State) (w : Wr) : Wr :=
  if w.o = O.MODES then
    let v := setBits (w.v &&& 0x3F) 1 1 (boolBit (s.modeBit 1))
    { w with v := if s.modeBit 5 then setBits v 5 5 1 else v }
  else w

/-- A transaction that the active admitted, once. -/
def State.takeTxn (s : State) (id fn : Nat) (ws : List Wr) : State :=
  if s.txns.any (fun x => x.id == id) || Map.has id s.tandem.heard.txns || fn < s.fn then s
  else
    let w := ws.map s.standbyWr
    let gx := s.coordinated w fn
    let t : Txn := ⟨id, 0, fn, w, if gx then .waitGo else .pending, gxOf w⟩
    let s1 := { s with txns := s.txns ++ [t], nextTxn := max s.nextTxn (id + 1) }
    let s2 := if ws.any isEntryWr then s1.stageWith id fn else s1
    (if gx then s2.setFld F.GX_STATUS_STATE 1 else s2).modHeard fun x => { x with txns := Map.insert id fn x.txns }

/-- R336: a cancelled transaction. -/
def State.takeCancel (s : State) (id : Nat) : State :=
  let s1 := s.modHeard fun x => { x with txns := Map.erase id x.txns, writes := Map.erase id x.writes }
  match s.txns.find? fun x => x.id == id with
  | some x => s1.withdraw x
  | none => s1

/-! #### The shared state (R26, R27, R29, R261) -/

/-- A selector or controller state of the active's that differs is counted. -/
def State.stateDiff (s : State) : State := (s.bump O.STATE_DIFF).raise F.TANDEM_STICKY_STATE_DIFF

/-- The selector state of output slot g. -/
def State.takeSel (s : State) (g st : Nat) : State :=
  let e := s.xc.active g
  if entryAction e ≠ 0 || !entryProtEn e || entrySel e = st then s else (s.setSel g st).stateDiff

/-- The path controller of output slot g: the command in force, and its wait to restore. -/
def State.takePath (s : State) (g v : Nat) : State :=
  let l := slotLane g
  let k := slotNo g
  let same := s.fld F.PATH_PROT_STATUS_CMD_IN_FORCE l k == v % 8
  let s1 := ((s.setPprot g { wtrFrom := s.sharedFrom (v / 8) }).setOn F.PATH_PROT_STATUS_WTR_RUNNING (v / 8 != 0) l k).setFld
    F.PATH_PROT_STATUS_CMD_IN_FORCE (v % 8) l k
  if !s.controlled g then s else if same then s1 else s1.stateDiff

/-- An APS group: selector and bridge, the request not to revert, and its wait to restore. -/
def State.takeAps (s : State) (g v : Nat) : State :=
  let sel := v % 2 == 1
  let bridged := v / 2 % 2 == 1
  let same := s.apsSelected g == sel && s.on F.APS_STATUS_BRIDGED g == bridged
  let s1 := s.setAps g { s.apsOf g with dnr := v / 4 % 2 == 1, wtrFrom := s.sharedFrom (v / 8) }
  let s2 := ((s1.setOn F.APS_STATUS_SELECTED sel g).setOn F.APS_STATUS_BRIDGED bridged g).setOn F.APS_STATUS_WTR_RUNNING
    (v / 8 != 0) g
  if !s.apsOn g then s else if same then s2 else s2.stateDiff

/-- R26: a set SEALED of the active is copied. -/
def State.takeSealed (s : State) (v : Nat) : State :=
  if v = 1 && !s.sealedOn then (s.setSealed true).endWhere fun x => !x.sealed else s

/-- The gallery's status bits that the pair shares. -/
def State.takeGalleryStatus (s : State) (v : Nat) : State :=
  let m : Val := BitVec.ofNat 96 galleryShared
  let s1 := s.setVal O.GALLERY_STATUS ((s.val O.GALLERY_STATUS &&& ~~~m) ||| (BitVec.ofNat 96 v &&& m))
  let s2 := s1.raiseIf (s1.fld F.GALLERY_STATUS_ROOT_SEAT != s.fld F.GALLERY_STATUS_ROOT_SEAT) F.GALLERY_STICKY_ROOT_CHG
  if s1.quarantined && !s.quarantined then (s2.bump O.QUARANTINES).raise F.GALLERY_STICKY_QUARANTINED else s2

/-- R284, R285: how the active's coordinated transaction stands. One that the active no longer holds was applied, or discarded. -/
def State.takeGx (s : State) (v : Nat) : State :=
  let s1 :=
    match s.heldTxn with
    | some x => if v = 2 then s else if s.fld F.GX_LAST_ID = x.gxId then s.applyGx x else s.gxDiscard
    | none => s
  s1.setFld F.GX_STATUS_STATE v

/-- R29: item i of the gallery state of the pair's seat. -/
def State.takeGallery (s : State) (i v : Nat) : State :=
  if !s.galleryOn then s
  else
    match i with
    | 0 => s.takeGalleryStatus v
    | 1 => s.setEpoch v
    | 2 => s.setVal O.ROSTER (BitVec.ofNat 96 v)
    | 3 => s.modGallery fun g =>
        { g with
          nextEpoch := if v = 0 then none else some (v / 4 % 2 ^ 32, v / 4 / 2 ^ 32), inNextRoster := v / 2 % 2 == 1 }
    | 4 => s.setFld F.ROOT_DIGEST_DIGEST v
    | 5 => s.setFld F.ROOT_VERSION_VERSION v
    | 6 => s.modGallery fun g => { g with agreeRun := v }
    | 7 => s.modGallery fun g => { g with gxSeen := v }
    | 8 => s.setFld F.GX_LAST_ID v
    | 9 => s.modGallery fun g => { g with rootSince := v }
    | _ => s.takeGx v

/-- A shared value comes. What the gallery shares changes this device once; the rest holds from boundary to boundary. -/
def State.takeShare (s : State) (k v : Nat) : State :=
  let s1 := s.modHeard fun x => { x with shares := Map.insert k v (Map.erase k x.shares) }
  if shareGallery ≤ k && k < shareSealed then s1.takeGallery (k - shareGallery) v else s1

/-- R261: where this device's own state differs from the active's, the active's stands. -/
def State.holdShare (s : State) (k v : Nat) : State :=
  if k < sharePath then s.takeSel k v
  else if k < shareAps then s.takePath (k - sharePath) v
  else if k < shareClock then s.takeAps (k - shareAps) v
  else if k = shareSealed then s.takeSealed v
  else s
def State.holdShares (s : State) : State := s.tandem.heard.shares.foldl (fun s p => s.holdShare p.1 p.2) s

/-! #### The copy of a resync (R266) -/

/-- The writes that make this device's copied objects what the copy lists: an object that it does not list returns to its
Default. -/
def State.copyWrs (s : State) (body : List BodyItem) : List Wr :=
  let sent := body.filterMap fun b =>
    match b with
    | .copied w => some (s.standbyWr w)
    | _ => none
  let own := (s.copiedObjs ++ s.copiedWords).filter fun w => !sent.any fun x => x.o == w.o && x.idx == w.idx
  let back := own.map fun w => s.standbyWr { w with v := if w.idx.isNone then objDefault w.o else 0 }
  (back ++ sent).filter fun w =>
    match w.idx with
    | some i => s.word w.o i != BitVec.ofNat 32 w.v.toNat
    | none => s.val w.o != w.v

/-- The copy's entries, on both pages. -/
def State.copyEntries (s : State) (body : List BodyItem) : State :=
  let m := body.foldl (fun (m : Map Entry) b =>
    match b with
    | .entry g e => Map.set entryDefault g e m
    | _ => m) []
  { s with xc := { s.xc with pageA := m, pageB := m, copy := none } }

/-- Objects whose value is copied though the copy must not act (R228, R420). -/
def inertCopy (o : Nat) : Bool := o == O.TIME_SET || o == O.LIFECYCLE_TARGET || o == O.LIFECYCLE_DATA

/-- Transactions that the active did not send with its copy are none of its own. -/
def State.dropUnsent (s : State) : State :=
  (s.txns.filter fun x => !Map.has x.id s.tandem.heard.txns).foldl (fun s x => s.withdraw x) s

/-- R266: a whole copy replaces the copied state. -/
def State.takeCopy (s : State) (body : List BodyItem) : State :=
  let ws := s.copyWrs body
  let s1 := (s.dropUnsent.finishCopy.copyEntries body).putAll ws inertCopy
  (s1.applyWrs 0 (ws.filter fun w => !inertCopy w.o) s.fn).modTandem fun x =>
    { x with wantResync := false, heard := { x.heard with copy := none } }

/-! #### The record -/

/-- An item kept for the copy under way. -/
def State.gatherItem (s : State) (b : BodyItem) : State :=
  s.modHeard fun x => { x with copy := x.copy.map (· ++ [b]) }

/-- A transaction of the record: its writes streamed before, and the staged entries where its commit takes them. -/
def State.takeStaged (s : State) (id fn : Nat) (es : Bool) : State :=
  let h := s.tandem.heard
  let staged := h.stage.map fun (p : Nat × Entry) => (⟨entryObj p.1, none, BitVec.ofNat 96 p.2.toNat⟩ : Wr)
  (s.takeTxn id fn (Map.get [] id h.writes ++ (if es then staged else []))).modHeard fun x =>
    { x with writes := Map.erase id x.writes }

/-- The end of a copy: the items gathered since its start are taken. -/
def State.resyncEnd (s : State) : State :=
  match s.tandem.heard.copy with
  | some items => s.takeCopy items
  | none => s

/-- One item of the record's body. -/
def State.takeItem (s : State) (b : BodyItem) : State :=
  match b with
  | .stageClear => s.modHeard fun x => { x with stage := [] }
  | .stage g e => s.modHeard fun x => { x with stage := Map.insert g e (Map.erase g x.stage) }
  | .write id w => s.modHeard fun x => { x with writes := Map.set [] id (Map.get [] id x.writes ++ [w]) x.writes }
  | .txn id _ fn es => s.takeStaged id fn es
  | .cancel id => s.takeCancel id
  | .share k v => s.takeShare k v
  | .copyStart => s.modHeard fun _ => { copy := some [] }
  | .copied _ => s.gatherItem b
  | .entry _ _ => s.gatherItem b
  | .resyncEnd => s.resyncEnd

/-- Items count while every one before them has come, or from the beginning of a copy on (log 6). -/
def State.hears (s : State) (b : BodyItem) : Bool := !s.tandem.wantResync || s.tandem.heard.copy.isSome || b == .copyStart

/-- The active's record for this boundary. -/
def State.takeRecord (s : State) : State :=
  match s.tandem.peer with
  | some r =>
    if s.tandemRole = roleStandby && r.role = .active && s.tandem.gotFn = some s.fn then
      let s1 := r.body.foldl (fun s b => if s.hears b then s.takeItem b else s) s
      (s1.modHeard fun x => { x with txns := x.txns.filter fun p => s.fn ≤ p.2 }).holdShares
    else s
  | none => s

/-- The pair at a boundary. -/
def State.tandemBoundary (s : State) : State :=
  if s.tandemOn then
    let s1 := (s.recordMissing.takeRecord).recordLate
    (s1.dualActive.modeMismatch.tandemReady).tandemRelease
  else s

/-! ### FRAME_BOUNDARY -/

/-- R105, R135, R305: a CLIENT lane at the end of a DTS frame. Headers of a frame in which it does not receive to its end are not
counted further. -/
def State.clientFrame (s : State) (l : Nat) : State :=
  if !s.isClient l then s
  else if s.receives l then
    let bad := (s.lane l).hbCount != 0
    let s1 := ((s.pmBlock (linePoint l) bad false).hiBerFrame l).mapUpTo l s.fn
    if s.defect l dHiBer = s1.defect l dHiBer then s1 else s1.laneHook l
  else s.modLane l fun x => { x with hbCount := 0 }

/-- Whether the boundary of the current frame has still to be handled. -/
def State.atBoundary (s : State) : Bool := s.running && !s.resetLow && s.tempo && decide (s.timing.lastFrame < s.fn + 1)

/-- What the frame that ends brings: the edges captured on DTS (R212, R221), what receivers measured (R445) and sliced (R51), and
the client frames. -/
def State.frameEnds (s : State) (seen : FrameSeen) : State :=
  let s1 := seen.edges.foldl (fun s e => s.sawEdge e.input e.edge) s
  let s2 := seen.eyes.foldl (fun s e => s.eyeRead e) s1
  let s3 := seen.streams.foldl (fun s e => s.patternCheck e) s2
  (List.range numLanes).foldl (fun s l => s.clientFrame l) s3

/-- The boundary of the current frame is handled. -/
def State.boundaryDone (s : State) : State := { s with timing := { s.timing with lastFrame := s.fn + 1 } }

/-- What happens at the boundary of the current frame, once. What is decided at it is decided under the epoch adopted and what is
committed for it (R8, R219, R284). -/
def State.boundary (s : State) (seen : FrameSeen) : State :=
  if s.atBoundary then
    let s1 := ((s.boundaryDone.frameEnds seen).tandemBoundary)
    let s2 := (State.applyDue s1.txns.length s1.epochAdopt).boundaryDone
    ((s2.galleryBoundary.timingBoundary).supplyIdle).pmScanAll
  else s
def execFrameBoundary (t : Tick) (seen : FrameSeen) (s : State) : Host.Outcome State Fault Refusal :=
  onUnit (boundaryUnits seen) "input" ((s.advance t).boundary seen)

/-! ### XC_COPY_COMPLETE (R157) -/

/-- Every lane in use has let egress frame switchFn go. -/
def State.switchFilled (s : State) : Bool :=
  decide (s.xc.switchFn ≤ s.fn) &&
    (!s.active || (List.range numLanes).all fun l => s.role l == 0 || (s.lane l).lastRel.any (s.xc.switchFn ≤ ·))

/-- The copy completes and XC_STAGE may be granted again. -/
def State.copyComplete (s : State) : State := if s.xc.copy.isSome && s.switchFilled then s.finishCopy else s
def execXcCopyComplete (t : Tick) (s : State) : Host.Outcome State Fault Refusal := .next (s.advance t).copyComplete

end Sys2Proof.Machine
end

