-- ==== Sys2Proof/Machine/Server.lean ====
section
/-! DEFINITION. The Folla server (R324 to R341, R345, R346): which messages are taken, sequence numbers, the requests, OPEN,
messages as bytes, and the receivers behind which it stands. -/

namespace Sys2Proof.Machine

/-! ### Requests and replies (R325) -/

/-- TYPE of a request. -/
def reqType : Req → Nat
  | .opn _ _ _ _ _ => tyOpen
  | .close => tyClose
  | .keepalive => tyKeepalive
  | .access _ => tyAccess
  | .commit _ _ => tyCommit
  | .abort => tyAbort
  | .cancel _ => tyCancel
  | .claim _ _ _ => tyClaim
  | .renew _ _ _ => tyRenew
  | .release _ _ => tyRelease
  | .eventAck _ => tyEventAck
  | .event => tyEvent
  | .reserved t => t
  | .malformed t => t

/-- A plain reply. -/
def plainReply (src : Src) (type session seq status : Nat) (body : List Byte) : Reply :=
  ({ dst := src, response := true, type, session, seq, status, sealed := false, keyEpoch := 0, body, wire := [] } :
    Reply).seal []

/-- A reply of session x to a request. -/
def Session.reply (x : Session) (src : Src) (type seq status : Nat) (body : List Byte) : Reply :=
  ({ dst := src, response := true, type, session := x.num, seq, status, sealed := x.sealed
     keyEpoch := if x.sealed then x.keyEpoch else 0, body, wire := [] } : Reply).seal x.key

/-- The reply to a request leaves. -/
def State.answerWith (s : State) (r : Reply) (cls : Nat) : State := { s with lastReply := some r }.deliver r cls

/-! ### ACCESS (R326) -/

/-- A result record. -/
def resultBytes (r : OpResult) : List Byte :=
  beBytes 4 r.obj ++ [BitVec.ofNat 8 r.status, BitVec.ofNat 8 r.holder] ++ beBytes 2 r.n ++ r.data.flatMap wordBytes

/-- The bytes of the reply to ops that all succeed. -/
def replySize (ops : List Op) : Nat := (ops.map fun o => 8 + if o.op = 1 then 0 else 4 * o.n).sum

/-- R326: no later op of the message runs: session n has ended or is to end, or a warm reset is asked for. -/
def State.opsEnd (s : State) (n : Nat) : Bool := (s.session n).all (·.closing) || s.faults.resetWanted

/-- The ops of a message in turn, up to the first that is not OK. -/
def State.runOps (n : Nat) : List Op → State → List OpResult × State
  | [], s => ([], s)
  | op :: ops, s =>
    let r := s.execOp n op
    let s1 := { r.2 with lastOp := r.1 }
    if r.1.status ≠ stOk || s1.opsEnd n then ([r.1], s1)
    else
      let q := State.runOps n ops s1
      (r.1 :: q.1, q.2)

/-- ACCESS: STATUS, body, state. -/
def State.access (s : State) (n : Nat) (ops : List Op) : Nat × List Byte × State :=
  if 1400 < replySize ops then (stLength, [], s)
  else
    let q := State.runOps n ops s
    ((q.1.getLast?.map (·.status)).getD stOk, q.1.flatMap resultBytes, q.2)

/-! ### One request of a session (R325, R332, R337) -/

/-- R33: a claim key of an object that session x does not see is an unknown object; XC_STAGE's key is every session's. -/
def State.keyHidden (s : State) (x : Session) (obj scope : Nat) : Bool :=
  claimKey obj scope != stageKey && ((findRow obj).isNone || !s.visible x.part x.sealed obj)

/-- The body of a CLAIM, RENEW or RELEASE reply: the holder where the request is refused. -/
def claimAnswer (r : ClaimOut) : Nat × List Byte × State := (r.1, beBytes 2 r.2.1, r.2.2)
def State.keyed (s : State) (x : Session) (obj scope : Nat) (r : ClaimOut) : Nat × List Byte × State :=
  claimAnswer (if s.keyHidden x obj scope then (stUnknown, 0, s) else r)

/-- What a request does: STATUS, body, state. -/
def State.doReq (s : State) (x : Session) : Req → Nat × List Byte × State
  | .close => (stOk, [], s.modSession x.num fun y => { y with closing := true })
  | .keepalive => (stOk, [], s)
  | .access ops => s.access x.num ops
  | .commit fn dry => s.commit x fn dry
  | .abort => let r := s.abort x; (r.1, [], r.2)
  | .cancel id => let r := s.cancel x id; (r.1, [], r.2)
  | .claim obj scope lease => s.keyed x obj scope (s.claimReq x.num obj scope lease)
  | .renew obj scope lease => s.keyed x obj scope (s.renewReq x.num obj scope lease)
  | .release obj scope => s.keyed x obj scope (s.releaseReq x.num obj scope)
  | .eventAck seq => (stOk, [], s.eventAck x.num seq)
  | .malformed _ => (stLength, [], s)
  | .reserved _ => (stBadType, [], s)
  | .event => (stBadType, [], s)
  | .opn _ _ _ _ _ => (stBadType, [], s)

/-- R340: session n is closed before its SEQ would wrap under one KEY_EPOCH. -/
def State.wrapEnd (s : State) (n seq : Nat) : State :=
  if seq = 2 ^ 32 - 1 then
    s.modSession n fun x => if x.sealed && x.newKey.isNone then { x with closing := true } else x
  else s

/-- A request with SEQ = NEXT: executed, its reply stored and sent, and what follows the reply. -/
def State.execReq (s : State) (n : Nat) (src : Src) (seq : Nat) (req : Req) : State :=
  match s.session n with
  | some x =>
    let y := { x with next := (seq + 1) % 2 ^ 32 }
    let a := (s.setSession y).doReq y req
    let r := x.reply src (reqType req) seq a.1 a.2.1
    let s1 := a.2.2.modSession n fun z => { z with replies := ((seq, r) :: z.replies).take 16 }
    ((s1.answerWith r r.cls).wrapEnd n seq).settleOps n
  | none => s

/-! ### Sequence numbers (R328) -/

/-- Held requests whose gap has filled, in order. -/
def State.drainHeld (n : Nat) : Nat → State → State
  | 0, s => s
  | k + 1, s =>
    match s.session n with
    | some x =>
      match x.held.find? (·.seq == x.next) with
      | some h =>
        State.drainHeld n k
          ((s.setSession { x with held := x.held.filter (·.seq != h.seq) }).execReq n h.src h.seq h.req)
      | none => s
    | none => s

/-- The table of R328. -/
def State.sequence (s : State) (x : Session) (src : Src) (seq : Nat) (req : Req) : State :=
  let d := (seq + 2 ^ 32 - x.next) % 2 ^ 32
  if d = 0 then State.drainHeld x.num 8 (s.execReq x.num src seq req)
  else if d ≤ 7 then
    if x.held.any (·.seq == seq) then s
    else s.modSession x.num fun y => { y with held := y.held ++ [⟨seq, s.now, src, req⟩] }
  else
    match x.replies.find? fun p => p.1 == seq && 2 ^ 32 - 16 ≤ d with
    | some p => s.answerWith { p.2 with dst := src } 4
    | none => let r := x.reply src (reqType req) seq stStale []; s.answerWith r r.cls

/-- A valid message of session x: its idle time starts again (R331), and events follow it (R345). -/
def State.inSession (s : State) (x : Session) (src : Src) (seq : Nat) (req : Req) : State :=
  let y := { x with lastMsg := s.now, via := src.transport, vlan := src.vlan }
  (s.setSession y).sequence y src seq req

/-! ### OPEN (R328, R330, R340, R341, R419) -/

/-- R330: transport and peer; M0 and M1 are one transport, and on SPI and DCC the peer is the port. -/
def sameEnd (t : Transport) (p : Nat) (u : Transport) (q : Nat) : Bool :=
  match t, u with
  | .eth _, .eth _ => p == q
  | .spi, .spi => true
  | .dcc, .dcc => true
  | _, _ => false

/-- R341, R416, R422: plain messages of partition p are taken. -/
def State.plainOk (s : State) (p : Nat) : Bool := !s.sealedOn || s.bootOnly || (s.tampered && p == 0)

/-- R330: a session may open in partition p. -/
def State.partOpen (s : State) (p : Nat) : Bool :=
  p == 0 || (p < 8 && s.partitioned && s.on F.PART_ENABLE_ENABLE p)

/-- R340: the slot whose key a session of partition p uses. -/
def keySlot (p : Nat) : Nat := p

/-- R414, R418: whether the vault can form a session key for partition p. -/
def State.keyReady (s : State) (p : Nat) : Bool :=
  (s.lifecycle == lcProvisioned || s.lifecycle == lcDeployed) && Map.has (keySlot p) s.vault.keys

/-- Why an OPEN is refused, none where it is not (R330, R341, R414). -/
def State.openRefused (s : State) (part : Nat) (auth : Bool) : Option Nat :=
  if !auth && !s.plainOk part then some stAuth
  else if !s.partOpen part then some stValue
  else if s.freeNums.isEmpty then some stBusy
  else if auth && s.noRandom then some stBusy
  else if auth && !s.keyReady part then some stAuth
  else none

/-- R419: the device nonce and the confirmation that an OPEN with AUTH is answered with. -/
def keyBytes (device key : List Byte) : List Byte := device ++ confirmation key

/-- R330: the session that an OPEN opens under number n. -/
def State.newSession (s : State) (n : Nat) (src : Src) (seq part : Nat) (auth events : Bool) (idle : Nat)
    (key : List Byte) : Session :=
  { num := n, part, transport := src.transport
    peer := (match src.transport with | .eth _ => src.peer | _ => 0)
    vlan := src.vlan, own := src.own, via := src.transport, sealed := auth, events
    idle := (if idle = 0 then s.fld F.FOLLA_CONFIG_IDLE_DEFAULT else idle) * sec
    lastMsg := s.now, next := (seq + 1) % 2 ^ 32, key, keyEpoch := boolBit auth }

/-- OPEN: STATUS, body, state. -/
def State.openSession (s : State) (src : Src) (seq part : Nat) (auth events : Bool) (idle : Nat) (nonce : List Byte) :
    Nat × List Byte × State :=
  match s.openRefused part auth with
  | some st => (st, [], s)
  | none =>
    let n := s.freeNums.headD 1
    let g := s.gen (ownSession n)
    let device := Config.nonce s.free
    let key := if auth then sessionKey (Map.get [] (keySlot part) s.vault.keys) nonce device n g 1 else []
    let x := s.newSession n src seq part auth events idle key
    let s1 := if auth then s.drawn else s
    (stOk, beBytes 2 n ++ beBytes 2 g ++ beBytes 4 (s.val O.DEVICE_ID).toNat ++ (if auth then keyBytes device key else []),
      { s1 with sessions := s1.sessions ++ [x], freeNums := s1.freeNums.drop 1 })

/-- An OPEN: answered again within 1 s, or for the first time. -/
def State.openReq (s : State) (src : Src) (seq : Nat) (req : Req) : State :=
  let kept := s.opened.filter fun p => s.now ≤ p.2.2.2 + sec
  match kept.find? fun p => sameEnd p.1.transport p.1.peer src.transport src.peer && p.2.1 == seq with
  | some p => { s with opened := kept }.answerWith { p.2.2.1 with dst := src } 4
  | none =>
    let a := match req with
      | .opn part auth events idle nonce => s.openSession src seq part auth events idle nonce
      | _ => (stLength, [], s)
    let r := plainReply src tyOpen 0 seq a.1 a.2.1
    { a.2.2 with opened := kept ++ [(src, seq, r, s.now)] }.answerWith r r.cls

/-! ### Which messages are taken (R324, R330, R341) -/

/-- Discarded without reply. -/
def State.discard (s : State) : State := s.bump O.FOLLA_DISCARDS

/-- R341: discarded without reply as not authentic. -/
def State.authFail (s : State) : State := (s.bump O.AUTH_FAILS).raise F.FOLLA_STICKY_AUTH_FAIL

/-- R330: Folla over the transport is disabled. -/
def State.shut (s : State) : Transport → Bool
  | .eth _ => !s.on F.FOLLA_CONFIG_ETH_EN
  | .spi => !s.on F.FOLLA_CONFIG_SPI_EN
  | .dcc => false

/-- A message whose trailer is good, of the session it names. -/
def State.named (s : State) (src : Src) (h : Head) (req : Req) : State :=
  match s.session h.session with
  | some x =>
    if req == .event || !sameEnd x.transport x.peer src.transport src.peer then s.discard
    else s.inSession x src h.seq req
  | none => s.discard

/-- A plain message. -/
def State.plainMsg (s : State) (src : Src) (h : Head) (req : Req) : State :=
  if !h.trailerOk then s.discard
  else if reqType req = tyOpen then s.openReq src h.seq req
  else if (s.session h.session).any (·.sealed) then s.authFail
  else if !s.plainOk (((s.session h.session).map (·.part)).getD 0) then s.bump O.AUTH_FAILS
  else s.named src h req

/-- A sealed message: its tag is under the key and epoch of the session it names. -/
def State.sealedMsg (s : State) (src : Src) (h : Head) (req : Req) : State :=
  match s.session h.session with
  | some x => if !x.sealed || !h.trailerOk || h.keyEpoch ≠ x.keyEpoch then s.discard.authFail else s.named src h req
  | none => s.discard

/-- A message is looked at. -/
def State.judgeMsg (s : State) (src : Src) (h : Head) (req : Req) : State :=
  if !s.serves then s
  else if s.shut src.transport || h.version ≠ 1 || h.response || !h.lengthOk then s.discard
  else if h.sealed then s.sealedMsg src h req
  else s.plainMsg src h req

/-- A message reaches the server. -/
def State.takeMsg (s : State) (src : Src) (h : Head) (req : Req) : State := s.leasesDue.judgeMsg src h req

/-! ### Commands: Folla requests -/

def execOpenMsg (t : Tick) (src : Src) (h : Head) (part : Nat) (auth events : Bool) (idle : Nat) (nonce : List Byte)
    (s : State) : Host.Outcome State Fault Refusal :=
  onUnit (srcUnit src && headUnit h && part < 256 && nonce.length == 32) "source"
    ((s.advance t).takeMsg src h (.opn part auth events idle nonce))
def execCloseMsg (t : Tick) (src : Src) (h : Head) (s : State) : Host.Outcome State Fault Refusal :=
  onUnit (srcUnit src && headUnit h) "source" ((s.advance t).takeMsg src h .close)
def execKeepaliveMsg (t : Tick) (src : Src) (h : Head) (s : State) : Host.Outcome State Fault Refusal :=
  onUnit (srcUnit src && headUnit h) "source" ((s.advance t).takeMsg src h .keepalive)
def execAccessMsg (t : Tick) (src : Src) (h : Head) (ops : List Op) (s : State) : Host.Outcome State Fault Refusal :=
  onUnit (srcUnit src && headUnit h && ops.all opUnit) "source" ((s.advance t).takeMsg src h (.access ops))
def execCommitMsg (t : Tick) (src : Src) (h : Head) (fn : Nat) (s : State) : Host.Outcome State Fault Refusal :=
  onUnit (srcUnit src && headUnit h) "source" ((s.advance t).takeMsg src h (.commit fn false))
def execDryRunMsg (t : Tick) (src : Src) (h : Head) (fn : Nat) (s : State) : Host.Outcome State Fault Refusal :=
  onUnit (srcUnit src && headUnit h) "source" ((s.advance t).takeMsg src h (.commit fn true))
def execAbortMsg (t : Tick) (src : Src) (h : Head) (s : State) : Host.Outcome State Fault Refusal :=
  onUnit (srcUnit src && headUnit h) "source" ((s.advance t).takeMsg src h .abort)
def execCancelMsg (t : Tick) (src : Src) (h : Head) (txn : Nat) (s : State) : Host.Outcome State Fault Refusal :=
  onUnit (srcUnit src && headUnit h) "source" ((s.advance t).takeMsg src h (.cancel txn))
def execClaimMsg (t : Tick) (src : Src) (h : Head) (obj scope lease : Nat) (s : State) : Host.Outcome State Fault Refusal :=
  onUnit (srcUnit src && headUnit h && objUnit obj) "source" ((s.advance t).takeMsg src h (.claim obj scope lease))
def execRenewMsg (t : Tick) (src : Src) (h : Head) (obj scope lease : Nat) (s : State) : Host.Outcome State Fault Refusal :=
  onUnit (srcUnit src && headUnit h && objUnit obj) "source" ((s.advance t).takeMsg src h (.renew obj scope lease))
def execReleaseMsg (t : Tick) (src : Src) (h : Head) (obj scope : Nat) (s : State) : Host.Outcome State Fault Refusal :=
  onUnit (srcUnit src && headUnit h && objUnit obj) "source" ((s.advance t).takeMsg src h (.release obj scope))
def execEventAckMsg (t : Tick) (src : Src) (h : Head) (seq : Nat) (s : State) : Host.Outcome State Fault Refusal :=
  onUnit (srcUnit src && headUnit h) "source" ((s.advance t).takeMsg src h (.eventAck seq))

/-! ### Messages as bytes (R324, R326) -/

/-- Op records. A record cut short fails its op with LENGTH. -/
def parseOps : Nat → List Byte → List Op
  | 0, _ => []
  | k + 1, bs =>
    if bs.isEmpty then []
    else if bs.length < 8 then [⟨beNat (bs.take 4), 0xFF, false, 0, []⟩]
    else
      let o := beNat (bs.take 4)
      let op := (bs.getD 4 0).toNat
      let restart := (bs.getD 5 0).getLsbD 0
      let n := beNat ((bs.drop 6).take 2)
      let d := (bs.drop 8).take (if op = 1 then 4 * n else 0)
      ⟨o, op, restart, n, toWords (d.take (d.length / 4 * 4))⟩ :: parseOps k (bs.drop (8 + d.length))

/-- The fields of a body of a given type. -/
def parseReq (type : Nat) (b : List Byte) : Req :=
  let at_ := fun (i k : Nat) => beNat ((b.drop i).take k)
  let fits := fun (k : Nat) (r : Req) => if b.length < k then .malformed type else r
  if type = tyOpen then
    let auth := (b.getD 1 0).getLsbD 0
    fits (if auth then 36 else 4) (.opn (at_ 0 1) auth ((b.getD 1 0).getLsbD 1) (at_ 2 2) ((b.drop 4).take 32))
  else if type = tyClose then .close
  else if type = tyKeepalive then .keepalive
  else if type = tyAccess then .access (parseOps b.length b)
  else if type = tyCommit then fits 8 (.commit (at_ 0 6) ((b.getD 6 0).getLsbD 0))
  else if type = tyAbort then .abort
  else if type = tyCancel then fits 4 (.cancel (at_ 0 4))
  else if type = tyClaim then fits 8 (.claim (at_ 0 4) (at_ 4 1) (at_ 6 2))
  else if type = tyRenew then fits 8 (.renew (at_ 0 4) (at_ 4 1) (at_ 6 2))
  else if type = tyRelease then fits 5 (.release (at_ 0 4) (at_ 4 1))
  else if type = tyEventAck then fits 4 (.eventAck (at_ 0 4))
  else if type = tyEvent then .event
  else .reserved type

/-- R324: the size of a message on its transport agrees with LENGTH. -/
def sizeOk (t : Transport) (size need : Nat) : Bool :=
  match t with
  | .eth _ => need ≤ size
  | _ => size == need

/-- R340: the body of a sealed message under the key of the session it names; none where its tag fails. -/
def State.openBody (s : State) (session epoch seq : Nat) (head cipher : List Byte) : Option (List Byte) :=
  (s.session session).bind fun x => Config.gcmOpen x.key (gcmNonce session 0 epoch seq) head cipher

/-- A message as delivered by a transport reaches the server. -/
def State.takeRaw (s : State) (src : Src) (bs : List Byte) : State :=
  let at_ := fun (i k : Nat) => beNat ((bs.drop i).take k)
  let head := bs.take 16
  let b0 := bs.getD 0 0
  let sealed := b0.getLsbD 2
  let len := at_ 8 2
  let rest := bs.drop 16
  let lengthOk := 16 ≤ bs.length && len ≤ 1400 && sizeOk src.transport bs.length (16 + len + if sealed then 16 else 4)
  let plain := rest.take len
  let body := if sealed then s.openBody (at_ 2 2) (at_ 12 4) (at_ 4 4) head (rest.take (len + 16)) else some plain
  let ok := if sealed then body.isSome else beNat ((rest.drop len).take 4) == crc32c (head ++ plain)
  s.takeMsg src
    { version := b0.toNat / 16, response := b0.getLsbD 3, sealed, retry := b0.getLsbD 1, session := at_ 2 2, seq := at_ 4 4
      keyEpoch := at_ 12 4, lengthOk, trailerOk := ok }
    (parseReq (at_ 1 1) (body.getD []))

/-! ### What waits for the server (R302, R346, R352) -/

/-- Frames in the receive buffer of MAC m. -/
def State.serveMac (m : Nat) : Nat → State → State
  | 0, s => s
  | k + 1, s =>
    match (s.mac m).rx with
    | f :: r =>
      if s.serves then
        State.serveMac m k
          (((s.modMac m fun x => { x with rx := r }).pauseCheck m).takeRaw ⟨.eth m, f.src, f.tags.head?, f.dst⟩ f.payload)
      else s
    | [] => s

/-- Messages in the SPI input buffer. -/
def State.serveSpi : Nat → State → State
  | 0, s => s
  | k + 1, s =>
    match s.spiIn with
    | b :: r => if s.serves then State.serveSpi k ({ s with spiIn := r }.takeRaw ⟨.spi, 0, none, 0⟩ b) else s
    | [] => s

/-- Messages that came over the designated channel. -/
def State.serveDcc : Nat → State → State
  | 0, s => s
  | k + 1, s =>
    match s.dccIn with
    | b :: r => if s.serves then State.serveDcc k ({ s with dccIn := r }.takeRaw ⟨.dcc, 0, none, 0⟩ b) else s
    | [] => s

/-- The server takes every message that waits. -/
def State.serveAll (s : State) : State :=
  let mac := fun (s : State) (m : Nat) => State.serveMac m (s.mac m).rx.length s
  let s1 := mac (mac s 0) 1
  let s2 := State.serveSpi s1.spiIn.length s1
  State.serveDcc s2.dccIn.length s2

/-! ### Commands: the SPI host port (R346) -/

def State.spiFill (s : State) : Nat := (s.spiIn.map (·.length)).sum

/-- WRITE_MSG: the message is taken when chip select rises. -/
def State.spiWrite (s : State) (bytes : List Byte) : State :=
  if !s.macsRun then s
  else if 8192 < s.spiFill + bytes.length then s.bump O.SPI_DROPPED
  else { s with spiIn := s.spiIn ++ [bytes] }.serveAll
def execWriteMsg (t : Tick) (bytes : List Byte) (s : State) : Host.Outcome State Fault Refusal :=
  .next ((s.advance t).spiWrite bytes)

/-- READ_MSG: `clocked` bytes are clocked out before chip select rises, the two length bytes among them. -/
def State.spiRead (s : State) (clocked : Nat) : State :=
  if !s.macsRun then s
  else
    match s.spiOut with
    | [] => { s with miso := (beBytes 2 0).take clocked }
    | r :: q =>
      let out := beBytes 2 r.wire.length ++ r.wire
      { s with miso := out.take clocked, spiOut := if out.length ≤ clocked then q else s.spiOut }
def execReadMsg (t : Tick) (clocked : Nat) (s : State) : Host.Outcome State Fault Refusal :=
  .next ((s.advance t).spiRead clocked)

/-- READ_STATUS. -/
def State.spiStatus (s : State) : State :=
  if !s.macsRun then s else { s with miso := beBytes 2 s.spiWaiting ++ beBytes 2 (8192 - s.spiFill) }
def execReadStatus (t : Tick) (s : State) : Host.Outcome State Fault Refusal := .next (s.advance t).spiStatus

/-! ### Commands: received frames, and the server's return -/

/-- MAC_FRAME_RECEIVE (R352). -/
def execMacFrameReceive (t : Tick) (m : Nat) (f : EthFrame) (s : State) : Host.Outcome State Fault Refusal :=
  onUnit (macUnit m && ethOk f) "MAC" ((s.advance t).macTake m f).serveAll

/-- TTF_FRAME_RECEIVE (R173); a Folla frame of the designated channel is served (R302). -/
def execTtfFrameReceive (t : Tick) (lane : Nat) (rx : TtfRx) (s : State) : Host.Outcome State Fault Refusal :=
  onUnit (laneUnit lane && ttfRxOk rx) "lane" (((s.advance t).ttfReceive lane rx).lineEcho lane rx.prior rx.line).serveAll

/-- SDH_FRAME_RECEIVE (R85). -/
def execSdhFrameReceive (t : Tick) (lane : Nat) (rx : SdhRx) (s : State) : Host.Outcome State Fault Refusal :=
  onUnit (laneUnit lane && sdhRxOk rx) "lane" (((s.advance t).sdhReceive lane rx).lineEcho lane 0 rx.line).serveAll

/-- CLIENT_BLOCK_RECEIVE (R135, R136). -/
def execClientBlockReceive (t : Tick) (lane : Nat) (sync : BitVec 2) (payload : BitVec 64) (s : State) :
    Host.Outcome State Fault Refusal :=
  onUnit (laneUnit lane) "lane" (((s.advance t).blockReceive lane sync payload).lineEcho lane 0 (blockLine sync payload))

/-- PAIR_B_IN_SERVICE (R392). -/
def execPairBInService (t : Tick) (s : State) : Host.Outcome State Fault Refusal := .next (s.advance t).pairTakes.serveAll

/-- STARTUP_COMPLETE (R432). -/
def execStartupComplete (t : Tick) (s : State) : Host.Outcome State Fault Refusal := .next (s.advance t).startupDone.serveAll

end Sys2Proof.Machine
end

