-- ==== Sys2Proof/Machine/Dispatch.lean ====
section
/-! DEFINITION. The dispatch: one arm per command. -/

namespace Sys2Proof.Machine

def exec (i : Instr) (s : State) : Host.Outcome State Fault Refusal :=
  match i with
  | .openMsg t src h part auth events idle nonce => Sys2Proof.Machine.execOpenMsg t src h part auth events idle nonce s
  | .closeMsg t src h => Sys2Proof.Machine.execCloseMsg t src h s
  | .keepaliveMsg t src h => Sys2Proof.Machine.execKeepaliveMsg t src h s
  | .accessMsg t src h ops => Sys2Proof.Machine.execAccessMsg t src h ops s
  | .commitMsg t src h fn => Sys2Proof.Machine.execCommitMsg t src h fn s
  | .dryRunMsg t src h fn => Sys2Proof.Machine.execDryRunMsg t src h fn s
  | .abortMsg t src h => Sys2Proof.Machine.execAbortMsg t src h s
  | .cancelMsg t src h txn => Sys2Proof.Machine.execCancelMsg t src h txn s
  | .claimMsg t src h obj scope lease => Sys2Proof.Machine.execClaimMsg t src h obj scope lease s
  | .renewMsg t src h obj scope lease => Sys2Proof.Machine.execRenewMsg t src h obj scope lease s
  | .releaseMsg t src h obj scope => Sys2Proof.Machine.execReleaseMsg t src h obj scope s
  | .eventAckMsg t src h seq => Sys2Proof.Machine.execEventAckMsg t src h seq s
  | .eventSend t n => Sys2Proof.Machine.execEventSend t n s
  | .eventRetransmit t n seq => Sys2Proof.Machine.execEventRetransmit t n seq s
  | .intEnWrite t n obj v => Sys2Proof.Machine.execIntEnWrite t n obj v s
  | .seqHoldTimeout t n seq => Sys2Proof.Machine.execSeqHoldTimeout t n seq s
  | .sessionIdleExpiry t n => Sys2Proof.Machine.execSessionIdleExpiry t n s
  | .leaseExpiry t obj scope => Sys2Proof.Machine.execLeaseExpiry t obj scope s
  | .sessionControlClose t n target => Sys2Proof.Machine.execSessionControlClose t n target s
  | .follaConfigWrite t n v => Sys2Proof.Machine.execFollaConfigWrite t n v s
  | .writeMsg t bytes => Sys2Proof.Machine.execWriteMsg t bytes s
  | .readMsg t clocked => Sys2Proof.Machine.execReadMsg t clocked s
  | .readStatus t => Sys2Proof.Machine.execReadStatus t s
  | .transactionApply t id => Sys2Proof.Machine.execTransactionApply t id s
  | .xcCopyComplete t => Sys2Proof.Machine.execXcCopyComplete t s
  | .frameBoundary t seen => Sys2Proof.Machine.execFrameBoundary t seen s
  | .ttfFrameReceive t lane rx => Sys2Proof.Machine.execTtfFrameReceive t lane rx s
  | .sdhFrameReceive t lane rx => Sys2Proof.Machine.execSdhFrameReceive t lane rx s
  | .clientBlockReceive t lane sync payload => Sys2Proof.Machine.execClientBlockReceive t lane sync payload s
  | .landingFrameReady t l => Sys2Proof.Machine.execLandingFrameReady t l s
  | .slotComplete t lane fn slot => Sys2Proof.Machine.execSlotComplete t lane fn slot s
  | .egressFrameRelease t lane fn => Sys2Proof.Machine.execEgressFrameRelease t lane fn s
  | .egressFrameComplete t lane fn => Sys2Proof.Machine.execEgressFrameComplete t lane fn s
  | .bayPllLock t bay => Sys2Proof.Machine.execBayPllLock t bay s
  | .txReady t lane pinDelay => Sys2Proof.Machine.execTxReady t lane pinDelay s
  | .sigDetChange t lane present => Sys2Proof.Machine.execSigDetChange t lane present s
  | .cdrLock t lane offset => Sys2Proof.Machine.execCdrLock t lane offset s
  | .cdrLockLoss t lane => Sys2Proof.Machine.execCdrLockLoss t lane s
  | .adaptationComplete t lane pinDelay eye dfe1 ctle => Sys2Proof.Machine.execAdaptationComplete t lane pinDelay eye dfe1 ctle s
  | .eqDiscardTimeout t lane => Sys2Proof.Machine.execEqDiscardTimeout t lane s
  | .bringUpTimeout t lane => Sys2Proof.Machine.execBringUpTimeout t lane s
  | .losDeclare t lane => Sys2Proof.Machine.execLosDeclare t lane s
  | .losClear t lane => Sys2Proof.Machine.execLosClear t lane s
  | .lofDeclare t lane => Sys2Proof.Machine.execLofDeclare t lane s
  | .lofClear t lane => Sys2Proof.Machine.execLofClear t lane s
  | .loblDeclare t lane => Sys2Proof.Machine.execLoblDeclare t lane s
  | .loblClear t lane => Sys2Proof.Machine.execLoblClear t lane s
  | .defectPersistence t lane d => Sys2Proof.Machine.execDefectPersistence t lane d s
  | .sfSdDeclare t lane d => Sys2Proof.Machine.execSfSdDeclare t lane d s
  | .sfSdWindowEnd t lane d => Sys2Proof.Machine.execSfSdWindowEnd t lane d s
  | .fieldAcceptance t lane f => Sys2Proof.Machine.execFieldAcceptance t lane f s
  | .traceAcceptance t lane site => Sys2Proof.Machine.execTraceAcceptance t lane site s
  | .s1Acceptance t lane => Sys2Proof.Machine.execS1Acceptance t lane s
  | .ltdClear t lane => Sys2Proof.Machine.execLtdClear t lane s
  | .stepAccept t lane => Sys2Proof.Machine.execStepAccept t lane s
  | .ledgerReseedTimeout t lane => Sys2Proof.Machine.execLedgerReseedTimeout t lane s
  | .actLost t input => Sys2Proof.Machine.execActLost t input s
  | .actReturn t input => Sys2Proof.Machine.execActReturn t input s
  | .freqGateEnd t cand offset => Sys2Proof.Machine.execFreqGateEnd t cand offset s
  | .candWtrExpiry t cand => Sys2Proof.Machine.execCandWtrExpiry t cand s
  | .lockTimeReached t => Sys2Proof.Machine.execLockTimeReached t s
  | .pullComplete t => Sys2Proof.Machine.execPullComplete t s
  | .holdoverExpiry t => Sys2Proof.Machine.execHoldoverExpiry t s
  | .watchdog t => Sys2Proof.Machine.execWatchdog t s
  | .softCw t n cw => Sys2Proof.Machine.execSoftCw t n cw s
  | .dtsSecondBoundary t => Sys2Proof.Machine.execDtsSecondBoundary t s
  | .rampEnd t out delta => Sys2Proof.Machine.execRampEnd t out delta s
  | .glideDone t out => Sys2Proof.Machine.execGlideDone t out s
  | .outputResume t out => Sys2Proof.Machine.execOutputResume t out s
  | .ppsPulse t p => Sys2Proof.Machine.execPpsPulse t p s
  | .apsAcceptance t g => Sys2Proof.Machine.execApsAcceptance t g s
  | .holdOffExpiry t g prot degrade => Sys2Proof.Machine.execHoldOffExpiry t g prot degrade s
  | .apsWtrExpiry t g => Sys2Proof.Machine.execApsWtrExpiry t g s
  | .fopChange t g arch => Sys2Proof.Machine.execFopChange t g arch s
  | .pathHoldOffExpiry t lane slot => Sys2Proof.Machine.execPathHoldOffExpiry t lane slot s
  | .pathWtrExpiry t lane slot => Sys2Proof.Machine.execPathWtrExpiry t lane slot s
  | .tandemRecord t port r => Sys2Proof.Machine.execTandemRecord t port r s
  | .tandemRecordSend t => Sys2Proof.Machine.execTandemRecordSend t s
  | .holdPinChange t high => Sys2Proof.Machine.execHoldPinChange t high s
  | .takeover t => Sys2Proof.Machine.execTakeover t s
  | .standbyWaitExpiry t => Sys2Proof.Machine.execStandbyWaitExpiry t s
  | .recordLossTimeout t => Sys2Proof.Machine.execRecordLossTimeout t s
  | .resyncComplete t => Sys2Proof.Machine.execResyncComplete t s
  | .relinquish t n => Sys2Proof.Machine.execRelinquish t n s
  | .autoRelinquish t => Sys2Proof.Machine.execAutoRelinquish t s
  | .takeoverForce t n => Sys2Proof.Machine.execTakeoverForce t n s
  | .ringHead t port h => Sys2Proof.Machine.execRingHead t port h s
  | .ringMessage t port m => Sys2Proof.Machine.execRingMessage t port m s
  | .ringHeadSend t => Sys2Proof.Machine.execRingHeadSend t s
  | .ringWindowSend t window => Sys2Proof.Machine.execRingWindowSend t window s
  | .seatAbsence t seat => Sys2Proof.Machine.execSeatAbsence t seat s
  | .rosterRemoval t seat => Sys2Proof.Machine.execRosterRemoval t seat s
  | .epochAdoption t => Sys2Proof.Machine.execEpochAdoption t s
  | .gxGoDecision t => Sys2Proof.Machine.execGxGoDecision t s
  | .timeErrorUnknown t => Sys2Proof.Machine.execTimeErrorUnknown t s
  | .unmute t => Sys2Proof.Machine.execUnmute t s
  | .ringRelearn t n => Sys2Proof.Machine.execRingRelearn t n s
  | .gxCatchup t n => Sys2Proof.Machine.execGxCatchup t n s
  | .gxDiscard t n => Sys2Proof.Machine.execGxDiscard t n s
  | .extWindow t n lane c => Sys2Proof.Machine.execExtWindow t n lane c s
  | .insWindow t n lane c tag data => Sys2Proof.Machine.execInsWindow t n lane c tag data s
  | .flushExt t n lane c => Sys2Proof.Machine.execFlushExt t n lane c s
  | .flushIns t n lane c => Sys2Proof.Machine.execFlushIns t n lane c s
  | .dccClockLoss t pair => Sys2Proof.Machine.execDccClockLoss t pair s
  | .tcaLog t n => Sys2Proof.Machine.execTcaLog t n s
  | .pmReadSel t n v => Sys2Proof.Machine.execPmReadSel t n v s
  | .xcWindowStart t n g => Sys2Proof.Machine.execXcWindowStart t n g s
  | .historyInfo t n => Sys2Proof.Machine.execHistoryInfo t n s
  | .historyClear t n => Sys2Proof.Machine.execHistoryClear t n s
  | .clear t n set => Sys2Proof.Machine.execClear t n set s
  | .snapshot t n set => Sys2Proof.Machine.execSnapshot t n set s
  | .freeze t n engine on => Sys2Proof.Machine.execFreeze t n engine on s
  | .reseed t n lane => Sys2Proof.Machine.execReseed t n lane s
  | .injectBip t n lane => Sys2Proof.Machine.execInjectBip t n lane s
  | .injectB1 t n lane => Sys2Proof.Machine.execInjectB1 t n lane s
  | .injectB2 t n lane => Sys2Proof.Machine.execInjectB2 t n lane s
  | .errInject t n lane => Sys2Proof.Machine.execErrInject t n lane s
  | .rcRead t n obj => Sys2Proof.Machine.execRcRead t n obj s
  | .w1cWrite t n obj v => Sys2Proof.Machine.execW1cWrite t n obj v s
  | .registerWrite t n obj data => Sys2Proof.Machine.execRegisterWrite t n obj data s
  | .macFrameReceive t m f => Sys2Proof.Machine.execMacFrameReceive t m f s
  | .pauseExpiry t m => Sys2Proof.Machine.execPauseExpiry t m s
  | .pauseWdExpiry t m => Sys2Proof.Machine.execPauseWdExpiry t m s
  | .pauseIgnoredClear t m => Sys2Proof.Machine.execPauseIgnoredClear t m s
  | .pauseRepeat t m => Sys2Proof.Machine.execPauseRepeat t m s
  | .macTransmitStart t m => Sys2Proof.Machine.execMacTransmitStart t m s
  | .linkDown t m => Sys2Proof.Machine.execLinkDown t m s
  | .linkUp t m speed => Sys2Proof.Machine.execLinkUp t m speed s
  | .addrKWrite t n m k v => Sys2Proof.Machine.execAddrKWrite t n m k v s
  | .wakeFrame t m f => Sys2Proof.Machine.execWakeFrame t m f s
  | .faultRaise t f => Sys2Proof.Machine.execFaultRaise t f s
  | .fatalFault t f => Sys2Proof.Machine.execFatalFault t f s
  | .fatalRecordWritten t => Sys2Proof.Machine.execFatalRecordWritten t s
  | .pairBInService t => Sys2Proof.Machine.execPairBInService t s
  | .faultAck t n record => Sys2Proof.Machine.execFaultAck t n record s
  | .faultDeclare t n party => Sys2Proof.Machine.execFaultDeclare t n party s
  | .faultInfo t n => Sys2Proof.Machine.execFaultInfo t n s
  | .reinit t n subsystem inst => Sys2Proof.Machine.execReinit t n subsystem inst s
  | .reinitComplete t subsystem inst => Sys2Proof.Machine.execReinitComplete t subsystem inst s
  | .reinitTimeout t subsystem inst => Sys2Proof.Machine.execReinitTimeout t subsystem inst s
  | .deviceReset t n key => Sys2Proof.Machine.execDeviceReset t n key s
  | .scrubPeriodEnd t allReached => Sys2Proof.Machine.execScrubPeriodEnd t allReached s
  | .dmaAddr t n v => Sys2Proof.Machine.execDmaAddr t n v s
  | .dmaWindow t n write => Sys2Proof.Machine.execDmaWindow t n write s
  | .cvuConfig t n u v => Sys2Proof.Machine.execCvuConfig t n u v s
  | .cvuData t n u w => Sys2Proof.Machine.execCvuData t n u w s
  | .cvuByte t n u b => Sys2Proof.Machine.execCvuByte t n u b s
  | .start t n u => Sys2Proof.Machine.execStart t n u s
  | .cvuRunComplete t u uncorr => Sys2Proof.Machine.execCvuRunComplete t u uncorr s
  | .tempSample t temps => Sys2Proof.Machine.execTempSample t temps s
  | .railTelemetryRead t readings => Sys2Proof.Machine.execRailTelemetryRead t readings s
  | .fwImage t n w => Sys2Proof.Machine.execFwImage t n w s
  | .verify t n => Sys2Proof.Machine.execVerify t n s
  | .fwVerifyComplete t flashOk => Sys2Proof.Machine.execFwVerifyComplete t flashOk s
  | .activate t n => Sys2Proof.Machine.execActivate t n s
  | .keyImport t n item => Sys2Proof.Machine.execKeyImport t n item s
  | .sessionRekey t n nonce => Sys2Proof.Machine.execSessionRekey t n nonce s
  | .wipe t n key => Sys2Proof.Machine.execWipe t n key s
  | .wipeComplete t => Sys2Proof.Machine.execWipeComplete t s
  | .tamperEvent t input level => Sys2Proof.Machine.execTamperEvent t input level s
  | .entropyFail t => Sys2Proof.Machine.execEntropyFail t s
  | .vddAonGood t straps flash => Sys2Proof.Machine.execVddAonGood t straps flash s
  | .railInRange t rail => Sys2Proof.Machine.execRailInRange t rail s
  | .railTimeout t rail => Sys2Proof.Machine.execRailTimeout t rail s
  | .flywheelAbsent t => Sys2Proof.Machine.execFlywheelAbsent t s
  | .tempoStart t => Sys2Proof.Machine.execTempoStart t s
  | .vaultReady t => Sys2Proof.Machine.execVaultReady t s
  | .slotVerified t => Sys2Proof.Machine.execSlotVerified t s
  | .enginesLoaded t => Sys2Proof.Machine.execEnginesLoaded t s
  | .startupComplete t => Sys2Proof.Machine.execStartupComplete t s
  | .resetNAssert t width => Sys2Proof.Machine.execResetNAssert t width s
  | .resetNRelease t => Sys2Proof.Machine.execResetNRelease t s
  | .powerCycle t => Sys2Proof.Machine.execPowerCycle t s
  | .vddAonBrownout t => Sys2Proof.Machine.execVddAonBrownout t s
  | .upinConfig t n pin v => Sys2Proof.Machine.execUpinConfig t n pin v s
  | .upinChangeEffect t pin => Sys2Proof.Machine.execUpinChangeEffect t pin s
  | .parkEnd t pin => Sys2Proof.Machine.execParkEnd t pin s
  | .patternCheckerLock t lane locked => Sys2Proof.Machine.execPatternCheckerLock t lane locked s
  | .dccPortReceive t port d => Sys2Proof.Machine.execDccPortReceive t port d s
  | .dccPortSend t port => Sys2Proof.Machine.execDccPortSend t port s
  | .dccClockReturn t pair => Sys2Proof.Machine.execDccClockReturn t pair s
  | .bankClearComplete t bank => Sys2Proof.Machine.execBankClearComplete t bank s
  | .pcCounterWrap t engine k => Sys2Proof.Machine.execPcCounterWrap t engine k s
  | .pcThresholdReached t engine k => Sys2Proof.Machine.execPcThresholdReached t engine k s
  | .hwClaimRequest t owner gen key ask => Sys2Proof.Machine.execHwClaimRequest t owner gen key ask s

end Sys2Proof.Machine
end

