-- ==== Sys2Proof/Safety.lean ====
section
/-! DEFINITION. What counts as a safe run: no step stops; and what every step keeps. -/

namespace Sys2Proof

/-- A step that answers a next state. -/
def Machine.State.steps (s : Machine.State) : Prop := ∃ t, Machine.step s = .next t

/-- Every waiting command is well formed. -/
def Machine.State.pendingOk (s : Machine.State) : Bool := s.pending.all Instr.wf

/-- R318, R371: the dictionary, the live counts, the window words and the bank bytes stand in canonical form, so that equal
contents are equal data: keys strictly rising, and nothing listed that reads as its default. -/
def Machine.State.canonical (s : Machine.State) : Bool :=
  Machine.Map.wf Machine.objDefault s.dict && Machine.Map.wf (fun _ => 0) s.live &&
    Machine.Map.wf (fun _ => 0) s.words && Machine.Map.wf (fun _ => 0) s.banks

/-- R330: every session number from 1 to 32 is either that of one open session or free, once. -/
def Machine.State.numbersOk (s : Machine.State) : Prop :=
  (s.sessions.map (·.num) ++ s.freeNums).Perm (List.range' 1 32)

/-- The invariant of the machine that every step keeps. -/
def Machine.State.Sound (s : Machine.State) : Prop := s.canonical = true ∧ s.numbersOk

/-- R317, R326: the server serves open session n, x, which sees object o, and neither its end nor a new key nor a warm reset
is due. -/
def Machine.State.seesObj (s : Machine.State) (n : Nat) (x : Machine.Session) (o : Nat) : Prop :=
  s.serves = true ∧ s.session n = some x ∧ x.closing = false ∧ x.newKey = none ∧ s.faults.resetWanted = false ∧
    s.visible x.part x.sealed o = true

/-- R318, R337, R387: a write of object o by it is not turned away by the fatal state or by another session's claim. -/
def Machine.State.writesObj (s : Machine.State) (n : Nat) (x : Machine.Session) (o : Nat) : Prop :=
  s.seesObj n x o ∧ s.on Machine.F.FAULT_STATUS_FATAL = false ∧ s.claimHolder n o = 0 ∧ s.mayWrite x.part o = true

/-- R324, R328, R341: a valid message of open session x with the SEQ that is next reaches the server, and the session holds
no request; neither its end nor a new key nor a warm reset is due. -/
def Machine.State.talks (s : Machine.State) (src : Src) (h : Head) (x : Machine.Session) : Prop :=
  s.serves = true ∧ s.shut src.transport = false ∧ h.version = 1 ∧ h.response = false ∧ h.lengthOk = true ∧
    h.trailerOk = true ∧ s.session h.session = some x ∧
    Machine.sameEnd x.transport x.peer src.transport src.peer = true ∧ h.sealed = x.sealed ∧
    (x.sealed = true → h.keyEpoch = x.keyEpoch) ∧ (x.sealed = false → s.plainOk x.part = true) ∧ h.seq = x.next ∧
    x.held = [] ∧ x.closing = false ∧ x.newKey = none ∧ s.faults.resetWanted = false

/-- R340: the message is not the last one of its KEY_EPOCH. -/
def Machine.Session.goesOn (x : Machine.Session) (h : Head) : Prop := x.sealed = false ∨ h.seq < 2 ^ 32 - 1

/-- R328, R331, R345: session x once the server has taken a message. -/
def Machine.Session.after (x : Machine.Session) (src : Src) (h : Head) (now : Tick) : Machine.Session :=
  { x with lastMsg := now, via := src.transport, vlan := src.vlan, next := (h.seq + 1) % 2 ^ 32 }

/-- R325: the latest reply answers request h of session x with a status. -/
def Machine.State.replied (s : Machine.State) (x : Machine.Session) (h : Head) (status : Nat) : Prop :=
  ∃ r, s.lastReply = some r ∧ r.response = true ∧ r.session = x.num ∧ r.seq = h.seq ∧ r.status = status

/-- The state after k steps, where no step stops. -/
def Machine.State.run : Nat → Machine.State → Option Machine.State
  | 0, s => some s
  | k + 1, s =>
    match Machine.step s with
    | .next u => Machine.State.run k u
    | _ => none

/-- The instant of a command. -/
def Instr.tick : Instr → Tick
  | .openMsg t _ _ _ _ _ _ _ => t
  | .closeMsg t _ _ => t
  | .keepaliveMsg t _ _ => t
  | .accessMsg t _ _ _ => t
  | .commitMsg t _ _ _ => t
  | .dryRunMsg t _ _ _ => t
  | .abortMsg t _ _ => t
  | .cancelMsg t _ _ _ => t
  | .claimMsg t _ _ _ _ _ => t
  | .renewMsg t _ _ _ _ _ => t
  | .releaseMsg t _ _ _ _ => t
  | .eventAckMsg t _ _ _ => t
  | .eventSend t _ => t
  | .eventRetransmit t _ _ => t
  | .intEnWrite t _ _ _ => t
  | .seqHoldTimeout t _ _ => t
  | .sessionIdleExpiry t _ => t
  | .leaseExpiry t _ _ => t
  | .sessionControlClose t _ _ => t
  | .follaConfigWrite t _ _ => t
  | .writeMsg t _ => t
  | .readMsg t _ => t
  | .readStatus t => t
  | .transactionApply t _ => t
  | .xcCopyComplete t => t
  | .frameBoundary t _ => t
  | .ttfFrameReceive t _ _ => t
  | .sdhFrameReceive t _ _ => t
  | .clientBlockReceive t _ _ _ => t
  | .landingFrameReady t _ => t
  | .slotComplete t _ _ _ => t
  | .egressFrameRelease t _ _ => t
  | .egressFrameComplete t _ _ => t
  | .bayPllLock t _ => t
  | .txReady t _ _ => t
  | .sigDetChange t _ _ => t
  | .cdrLock t _ _ => t
  | .cdrLockLoss t _ => t
  | .adaptationComplete t _ _ _ _ _ => t
  | .eqDiscardTimeout t _ => t
  | .bringUpTimeout t _ => t
  | .losDeclare t _ => t
  | .losClear t _ => t
  | .lofDeclare t _ => t
  | .lofClear t _ => t
  | .loblDeclare t _ => t
  | .loblClear t _ => t
  | .defectPersistence t _ _ => t
  | .sfSdDeclare t _ _ => t
  | .sfSdWindowEnd t _ _ => t
  | .fieldAcceptance t _ _ => t
  | .traceAcceptance t _ _ => t
  | .s1Acceptance t _ => t
  | .ltdClear t _ => t
  | .stepAccept t _ => t
  | .ledgerReseedTimeout t _ => t
  | .actLost t _ => t
  | .actReturn t _ => t
  | .freqGateEnd t _ _ => t
  | .candWtrExpiry t _ => t
  | .lockTimeReached t => t
  | .pullComplete t => t
  | .holdoverExpiry t => t
  | .watchdog t => t
  | .softCw t _ _ => t
  | .dtsSecondBoundary t => t
  | .rampEnd t _ _ => t
  | .glideDone t _ => t
  | .outputResume t _ => t
  | .ppsPulse t _ => t
  | .apsAcceptance t _ => t
  | .holdOffExpiry t _ _ _ => t
  | .apsWtrExpiry t _ => t
  | .fopChange t _ _ => t
  | .pathHoldOffExpiry t _ _ => t
  | .pathWtrExpiry t _ _ => t
  | .tandemRecord t _ _ => t
  | .tandemRecordSend t => t
  | .holdPinChange t _ => t
  | .takeover t => t
  | .standbyWaitExpiry t => t
  | .recordLossTimeout t => t
  | .resyncComplete t => t
  | .relinquish t _ => t
  | .autoRelinquish t => t
  | .takeoverForce t _ => t
  | .ringHead t _ _ => t
  | .ringMessage t _ _ => t
  | .ringHeadSend t => t
  | .ringWindowSend t _ => t
  | .seatAbsence t _ => t
  | .rosterRemoval t _ => t
  | .epochAdoption t => t
  | .gxGoDecision t => t
  | .timeErrorUnknown t => t
  | .unmute t => t
  | .ringRelearn t _ => t
  | .gxCatchup t _ => t
  | .gxDiscard t _ => t
  | .extWindow t _ _ _ => t
  | .insWindow t _ _ _ _ _ => t
  | .flushExt t _ _ _ => t
  | .flushIns t _ _ _ => t
  | .dccClockLoss t _ => t
  | .tcaLog t _ => t
  | .pmReadSel t _ _ => t
  | .xcWindowStart t _ _ => t
  | .historyInfo t _ => t
  | .historyClear t _ => t
  | .clear t _ _ => t
  | .snapshot t _ _ => t
  | .freeze t _ _ _ => t
  | .reseed t _ _ => t
  | .injectBip t _ _ => t
  | .injectB1 t _ _ => t
  | .injectB2 t _ _ => t
  | .errInject t _ _ => t
  | .rcRead t _ _ => t
  | .w1cWrite t _ _ _ => t
  | .registerWrite t _ _ _ => t
  | .macFrameReceive t _ _ => t
  | .pauseExpiry t _ => t
  | .pauseWdExpiry t _ => t
  | .pauseIgnoredClear t _ => t
  | .pauseRepeat t _ => t
  | .macTransmitStart t _ => t
  | .linkDown t _ => t
  | .linkUp t _ _ => t
  | .addrKWrite t _ _ _ _ => t
  | .wakeFrame t _ _ => t
  | .faultRaise t _ => t
  | .fatalFault t _ => t
  | .fatalRecordWritten t => t
  | .pairBInService t => t
  | .faultAck t _ _ => t
  | .faultDeclare t _ _ => t
  | .faultInfo t _ => t
  | .reinit t _ _ _ => t
  | .reinitComplete t _ _ => t
  | .reinitTimeout t _ _ => t
  | .deviceReset t _ _ => t
  | .scrubPeriodEnd t _ => t
  | .dmaAddr t _ _ => t
  | .dmaWindow t _ _ => t
  | .cvuConfig t _ _ _ => t
  | .cvuData t _ _ _ => t
  | .cvuByte t _ _ _ => t
  | .start t _ _ => t
  | .cvuRunComplete t _ _ => t
  | .tempSample t _ => t
  | .railTelemetryRead t _ => t
  | .fwImage t _ _ => t
  | .verify t _ => t
  | .fwVerifyComplete t _ => t
  | .activate t _ => t
  | .keyImport t _ _ => t
  | .sessionRekey t _ _ => t
  | .wipe t _ _ => t
  | .wipeComplete t => t
  | .tamperEvent t _ _ => t
  | .entropyFail t => t
  | .vddAonGood t _ _ => t
  | .railInRange t _ => t
  | .railTimeout t _ => t
  | .flywheelAbsent t => t
  | .tempoStart t => t
  | .vaultReady t => t
  | .slotVerified t => t
  | .enginesLoaded t => t
  | .startupComplete t => t
  | .resetNAssert t _ => t
  | .resetNRelease t => t
  | .powerCycle t => t
  | .vddAonBrownout t => t
  | .upinConfig t _ _ _ => t
  | .upinChangeEffect t _ => t
  | .parkEnd t _ => t
  | .patternCheckerLock t _ _ => t
  | .dccPortReceive t _ _ => t
  | .dccPortSend t _ => t
  | .dccClockReturn t _ => t
  | .bankClearComplete t _ => t
  | .pcCounterWrap t _ _ => t
  | .pcThresholdReached t _ _ => t
  | .hwClaimRequest t _ _ _ _ => t

/-- The lane of an event of one lane's line, framer or ledger. -/
def Instr.laneEvent : Instr → Option Nat
  | .txReady _ l _ => some l
  | .sigDetChange _ l _ => some l
  | .cdrLock _ l _ => some l
  | .cdrLockLoss _ l => some l
  | .adaptationComplete _ l _ _ _ _ => some l
  | .eqDiscardTimeout _ l => some l
  | .bringUpTimeout _ l => some l
  | .losDeclare _ l => some l
  | .losClear _ l => some l
  | .lofDeclare _ l => some l
  | .lofClear _ l => some l
  | .loblDeclare _ l => some l
  | .loblClear _ l => some l
  | .defectPersistence _ l _ => some l
  | .sfSdDeclare _ l _ => some l
  | .sfSdWindowEnd _ l _ => some l
  | .fieldAcceptance _ l _ => some l
  | .traceAcceptance _ l _ => some l
  | .s1Acceptance _ l => some l
  | .ltdClear _ l => some l
  | .stepAccept _ l => some l
  | .ledgerReseedTimeout _ l => some l
  | .patternCheckerLock _ l _ => some l
  | .freqGateEnd _ c _ => Machine.candLane c
  | _ => none

/-- TRACE_ACCEPTANCE writes a trace window; no other lane event writes one. -/
def Instr.isTrace : Instr → Bool
  | .traceAcceptance _ _ _ => true
  | _ => false

/-- Events of the timing engine and the outputs. -/
def Instr.timingEvent : Instr → Bool
  | .actLost _ _ => true
  | .actReturn _ _ => true
  | .freqGateEnd _ c _ => (Machine.candLane c).isNone
  | .candWtrExpiry _ _ => true
  | .lockTimeReached _ => true
  | .pullComplete _ => true
  | .holdoverExpiry _ => true
  | .watchdog _ => true
  | .rampEnd _ _ _ => true
  | .glideDone _ _ => true
  | .outputResume _ _ => true
  | .ppsPulse _ _ => true
  | _ => false

/-- Events of the protection controllers. -/
def Instr.protectionEvent : Instr → Bool
  | .apsAcceptance _ _ => true
  | .holdOffExpiry _ _ _ _ => true
  | .apsWtrExpiry _ _ => true
  | .fopChange _ _ _ => true
  | .pathHoldOffExpiry _ _ _ => true
  | .pathWtrExpiry _ _ _ => true
  | _ => false

/-- Events of the tandem pair and of the gallery ring, but for ring heads. -/
def Instr.pairEvent : Instr → Bool
  | .tandemRecord _ _ _ => true
  | .tandemRecordSend _ => true
  | .holdPinChange _ _ => true
  | .standbyWaitExpiry _ => true
  | .recordLossTimeout _ => true
  | .resyncComplete _ => true
  | .autoRelinquish _ => true
  | .ringMessage _ _ _ => true
  | .ringHeadSend _ => true
  | .ringWindowSend _ _ => true
  | .seatAbsence _ _ => true
  | .rosterRemoval _ _ => true
  | .epochAdoption _ => true
  | .gxGoDecision _ => true
  | .timeErrorUnknown _ => true
  | .unmute _ => true
  | _ => false

/-- Events of the management MACs and the utility pins. -/
def Instr.portEvent : Instr → Bool
  | .pauseExpiry _ _ => true
  | .pauseWdExpiry _ _ => true
  | .pauseIgnoredClear _ _ => true
  | .pauseRepeat _ _ => true
  | .macTransmitStart _ _ => true
  | .linkDown _ _ => true
  | .linkUp _ _ _ => true
  | .upinChangeEffect _ _ => true
  | .parkEnd _ _ => true
  | _ => false

/-- Session n alone may have changed from v to u. -/
def Machine.State.onlySession (v u : Machine.State) (n : Nat) : Prop := ∀ m, m ≠ n → u.session m = v.session m

end Sys2Proof
end

