-- ==== Sys2Proof/Certificates/Slice0/Obligations.lean ====
section
/-! DEFINITION. The statements for the provers. Throughout, v is the state at the command's instant (log 1). -/

open Sys2Proof
open Sys2Proof.Machine

/-- R104, R105, R106, R107: LOS, LOF and LOBL are declared once their condition has lasted its time and clear once the good
condition has; a bring-up that outlasts its steps ends in FAULT. -/
def Obligations.TimedLineDefects : Prop :=
  (∀ (t l : Nat) (s v : State), l < 96 → v = s.advance t →
    (∃ u, exec (.losDeclare t l) s = .next u ∧
      u.defect l dLos = (v.defect l dLos || ((v.lane l).inService && v.sinceOpt (v.lane l).lossSince (10 * us))) ∧
      (v.defect l dLos = false → u.defect l dLos = true → u.objBit (objAt O.DEFECT_STICKY l) dLos = true)) ∧
    (∃ u, exec (.lofDeclare t l) s = .next u ∧
      u.defect l dLof = (v.defect l dLof || (v.defect l dOof && decide (3 * ms ≤ v.oofTime l) && !v.defect l dLos)) ∧
      (v.defect l dLof = false → u.defect l dLof = true → u.objBit (objAt O.DEFECT_STICKY l) dLof = true)) ∧
    (∃ u, exec (.loblDeclare t l) s = .next u ∧
      u.defect l dLobl = (v.defect l dLobl || (v.isClient l && !(v.lane l).blockLock &&
        v.sinceOpt (v.lane l).lockGone (125 * us) && !v.defect l dLos)) ∧
      (v.defect l dLobl = false → u.defect l dLobl = true → u.objBit (objAt O.DEFECT_STICKY l) dLobl = true)) ∧
    (∃ u, exec (.bringUpTimeout t l) s = .next u ∧
      u.defect l dLos = (v.defect l dLos || (v.sinceOpt (v.lane l).bringUpEnd 0 && !v.laneUp l)) ∧
      (v.defect l dLos = false → u.defect l dLos = true → u.objBit (objAt O.DEFECT_STICKY l) dLos = true))) ∧
  (∀ (t l : Nat) (s v : State), l < 96 → v = s.advance t →
    (∃ u, exec (.losClear t l) s = .next u ∧
      u.defect l dLos = (v.defect l dLos && !(v.laneUp l && v.sinceOpt (v.lane l).upSince (125 * us)))) ∧
    (∃ u, exec (.lofClear t l) s = .next u ∧
      u.defect l dLof = (v.defect l dLof && !((v.lane l).inFrame && v.sinceOpt (v.lane l).inSince (3 * ms))) ∧
      (u.lane l).oofHeld =
        (if (v.lane l).inFrame && v.sinceOpt (v.lane l).inSince (3 * ms) then 0 else (v.lane l).oofHeld)) ∧
    (∃ u, exec (.loblClear t l) s = .next u ∧
      u.defect l dLobl = (v.defect l dLobl && !((v.lane l).blockLock && v.sinceOpt (v.lane l).lockHeld ms))))

/-- R109, R78, R143, R95, R116: a run of frames that has reached its length decides its defect or its accepted value; a
shorter run decides nothing. -/
def Obligations.RunsOfFramesDecideDefects : Prop :=
  ∀ (t l : Nat) (s v : State), l < 96 → v = s.advance t →
    (∀ d k b, (d, k, b) ∈ [(Persist.aisL, kAisL, dAisL), (.rdiL, kRdiL, dRdiL), (.ttfRdi, kTtfRdi, dRdiL)] →
      ∃ u, exec (.defectPersistence t l d) s = .next u ∧
        u.defect l b = if 5 ≤ ((v.lane l).run (runKey k 0)).count then
          ((v.lane l).run (runKey k 0)).value == 1 && (v.defect l b || !lineMasked (bits (v.val (lineObj l)) 10 0) b)
          else v.defect l b) ∧
    (∀ k, k < 1024 → ∃ u, exec (.defectPersistence t l (.slotRdi k)) s = .next u ∧
      (u.lane l).slotRdi.contains k = if 5 ≤ ((v.lane l).run (runKey kSlotRdi k)).count then
        ((v.lane l).run (runKey kSlotRdi k)).value == 1 else (v.lane l).slotRdi.contains k) ∧
    (∀ d k b, (d, k, b) ∈ [(Persist.tag, kTag, 0), (.laneId, kLane, 1), (.digest, kDigestChk, 2), (.size, kSize, 3)] →
      ∃ u, exec (.defectPersistence t l d) s = .next u ∧
        u.objBit (objAt O.TTF_RX_FLAGS l) b =
          if 8 ≤ ((v.lane l).run (runKey k 0)).count && v.mismatchOn l b then
            ((v.lane l).run (runKey k 0)).value == 1 && (v.objBit (objAt O.TTF_RX_FLAGS l) b || !v.pathsMasked l)
          else v.objBit (objAt O.TTF_RX_FLAGS l) b) ∧
    (∀ d k b n, (d, k, b, n) ∈ [(Persist.gais, kGais, 0, 3), (.ghl, kGhl, 1, 8), (.gmis, kGmis, 2, 8)] →
      ∃ u, exec (.defectPersistence t l d) s = .next u ∧
        u.objBit (objAt O.GROUP_DEFECT_STATE l) b =
          if n ≤ ((v.lane l).run (runKey k 0)).count then
            ((v.lane l).run (runKey k 0)).value == 1 && (v.objBit (objAt O.GROUP_DEFECT_STATE l) b ||
              !(v.defect l dLos || (b != 0 && v.objBit (objAt O.GROUP_DEFECT_STATE l) 0) ||
                (b == 2 && v.objBit (objAt O.GROUP_DEFECT_STATE l) 1)))
          else v.objBit (objAt O.GROUP_DEFECT_STATE l) b) ∧
    (∀ k, k < 768 → ∃ u, exec (.defectPersistence t l (.c2 k)) s = .next u ∧
      u.fld F.PATH_STATUS_C2_RX l k = if 5 ≤ ((v.lane l).run (runKey kC2 k)).count then
        ((v.lane l).run (runKey kC2 k)).value % 256 else v.fld F.PATH_STATUS_C2_RX l k) ∧
    (∀ k, k < 768 → ∃ u, exec (.defectPersistence t l (.g1 k)) s = .next u ∧
      u.fld F.PATH_DEFECT_STATE_G1_CODE l k = if 5 ≤ ((v.lane l).run (runKey kG1 k)).count then
        ((v.lane l).run (runKey kG1 k)).value % 8 else v.fld F.PATH_DEFECT_STATE_G1_CODE l k)

/-- R112: a detector declares where its running count has reached D, R117's masks allowing, and a window of W frames that
ends below C clears; the window then starts anew. A path whose overhead is not processed has no detector (R114), and with
SCRAMBLE_OFF no path defect is judged (R84). -/
def Obligations.SignalFailAndDegradeFollowTheirWindows : Prop :=
  ∀ (t l : Nat) (s v : State), l < 96 → v = s.advance t →
    (∀ d b, (d, b) ∈ [(SfSd.sf, dSf), (.sd, dSd)] →
      (∃ u, exec (.sfSdDeclare t l d) s = .next u ∧
        u.defect l b = (v.defect l b || ((v.sfParams l d).2 != 0 &&
          decide (sfD (v.sfParams l d).1 (v.sfParams l d).2 ≤ ((v.lane l).window (sfKey d)).count) &&
          !lineMasked (bits (v.val (lineObj l)) 10 0) b))) ∧
      (∃ u, exec (.sfSdWindowEnd t l d) s = .next u ∧
        if (v.sfParams l d).2 != 0 &&
            decide (sfW (v.sfParams l d).1 (v.sfParams l d).2 ≤ ((v.lane l).window (sfKey d)).frames) then
          (u.lane l).window (sfKey d) = noWindow ∧
          u.defect l b = (v.defect l b &&
            decide (sfC (v.sfParams l d).1 (v.sfParams l d).2 ≤ ((v.lane l).window (sfKey d)).count))
        else u.defect l b = v.defect l b ∧ (u.lane l).window (sfKey d) = (v.lane l).window (sfKey d))) ∧
    (∀ k d b, k < 768 → (d, b) ∈ [(SfSd.sfP k, pSf), (.sdP k, pSd)] →
      (∃ u, exec (.sfSdDeclare t l d) s = .next u ∧
        u.pathDefect l k b = (v.pathDefect l k b || ((v.sfParams l d).2 != 0 &&
          decide (sfD (v.sfParams l d).1 (v.sfParams l d).2 ≤ ((v.lane l).window (sfKey d)).count) &&
          !v.pohOff l k && !v.scrambleOff l && !v.pathsMasked l && !pathMaskedBy (bits (v.val (pathObj l k)) 7 0) b))) ∧
      (∃ u, exec (.sfSdWindowEnd t l d) s = .next u ∧
        if (v.sfParams l d).2 != 0 &&
            decide (sfW (v.sfParams l d).1 (v.sfParams l d).2 ≤ ((v.lane l).window (sfKey d)).frames) then
          (u.lane l).window (sfKey d) = noWindow ∧
          u.pathDefect l k b = (v.pathDefect l k b && (v.scrambleOff l ||
            decide (sfC (v.sfParams l d).1 (v.sfParams l d).2 ≤ ((v.lane l).window (sfKey d)).count)))
        else u.pathDefect l k b = v.pathDefect l k b ∧ (u.lane l).window (sfKey d) = (v.lane l).window (sfKey d)))

/-- R71, R101, R88: a received field is accepted after three, S1 after eight, frames in a row that carry one value.
R87, R95, R109: a trace message received three times in a row is accepted, padded with zero bytes, and judged; a shorter
run leaves the accepted trace. -/
def Obligations.FieldsAndTracesAreAccepted : Prop :=
  (∀ (t l : Nat) (s v : State), l < 96 → v = s.advance t →
      (∀ a k f w, (a, k, f, w) ∈ [(AccField.clockClass, kClass, F.TTF_RX_INFO_CLOCK_CLASS, 8),
          (.steps, kSteps, F.TTF_RX_INFO_STEPS, 8), (.epoch, kEpoch, F.TTF_RX_EPOCH_EPOCH, 32),
          (.digest, kDigest, F.TTF_RX_DIGEST_DIGEST, 32)] →
        ∃ u, exec (.fieldAcceptance t l a) s = .next u ∧
          u.fld f l = if 3 ≤ ((v.lane l).run (runKey k 0)).count then ((v.lane l).run (runKey k 0)).value % 2 ^ w
            else v.fld f l) ∧
      (∃ u, exec (.s1Acceptance t l) s = .next u ∧
        u.fld F.SDH_RX_OH_S1_ACCEPTED l = if 8 ≤ ((v.lane l).run (runKey kS1 0)).count && v.isSdh l then
          ((v.lane l).run (runKey kS1 0)).value % 16 else v.fld F.SDH_RX_OH_S1_ACCEPTED l)) ∧
  (∀ (t l : Nat) (s v : State) (m : List Byte) (n : Nat) (site : TraceSite), l < 96 → v = s.advance t →
      traceOk site = true → Map.get ([], 0) (siteKey site) (v.lane l).message = (m, n) → m.length ≤ 64 →
      ∃ u, exec (.traceAcceptance t l site) s = .next u ∧
        (if 3 ≤ n then
          u.traceRx l site = m ++ List.replicate (64 - m.length) 0 ∧
          (site = .j0 → u.defect l dTimS = (v.on F.DEFECT_CONFIG_TIM_S_CHECK l && u.traceDiffers l .j0 &&
            (v.defect l dTimS || !lineMasked (bits (v.val (lineObj l)) 10 0) dTimS)))
        else u.traceRx l site = v.traceRx l site ∧ u.defect l dTimS = v.defect l dTimS))

/-- R201 to R203: LTD clears after 8,000 in-window frames; a run of agreeing steps reseeds the app filter and leaves the
round trip; more than 255 frames without one in frame reseed both filters and count it. -/
def Obligations.LedgerEventsReseedTheFilters : Prop :=
  ∀ (t l : Nat) (s v : State), l < 96 → v = s.advance t →
    (∃ u, exec (.ltdClear t l) s = .next u ∧
      u.on F.LEDGER_STATUS_LTD l = (v.on F.LEDGER_STATUS_LTD l && !decide (8000 ≤ (v.ledger l).inRun))) ∧
    (∃ u, exec (.stepAccept t l) s = .next u ∧
      (u.ledger l).rttN = (v.ledger l).rttN ∧ (u.ledger l).rttY = (v.ledger l).rttY ∧
      if v.fld F.LEDGER_CONFIG_STEP_RUN l ≠ 0 ∧ v.fld F.LEDGER_CONFIG_STEP_RUN l ≤ (v.ledger l).devs.length ∧
          ∀ d ∈ v.lastDevs l, (d - (v.lastDevs l).headD 0).natAbs ≤ v.fld F.ARRIVAL_GUARD_GUARD l * ns then
        (u.ledger l).appN = 1 ∧ (u.ledger l).appY = (v.ledger l).devApp ∧ (u.ledger l).devs = [] ∧
        u.liveOf (objAt O.STEP_ACCEPT l) = (v.liveOf (objAt O.STEP_ACCEPT l) + 1) % 2 ^ 64
      else (u.ledger l).appN = (v.ledger l).appN ∧ (u.ledger l).appY = (v.ledger l).appY ∧
        u.liveOf (objAt O.STEP_ACCEPT l) = v.liveOf (objAt O.STEP_ACCEPT l)) ∧
    (∃ u, exec (.ledgerReseedTimeout t l) s = .next u ∧
      if (v.ledger l).lastIn.any (fun x => v.since x (255 * frame + 1)) && v.ledgerOn l then
        (u.ledger l).rttN = 0 ∧ (u.ledger l).appN = 0 ∧ (u.ledger l).lastIn = none ∧
        u.liveOf (objAt O.RESEED l) = (v.liveOf (objAt O.RESEED l) + 1) % 2 ^ 64
      else u.ledger l = v.ledger l ∧ u.liveOf (objAt O.RESEED l) = v.liveOf (objAt O.RESEED l))

/-- R40, R41, R55, R106: the steps of a bring-up by what each shows of the lane's state and status. A step that its lane
is not waiting for leaves them. -/
def Obligations.BringUpSteps : Prop :=
  ∀ (t l : Nat) (s v : State), l < 96 → v = s.advance t →
    (∀ pin, ∃ u, exec (.txReady t l pin) s = .next u ∧
      if v.laneState l = LaneState.powering.code then
        u.laneState l = LaneState.acquiring.code ∧ u.on F.LANE_STATUS_TX_READY l = true ∧
        u.fld F.TX_PIN_DELAY_FS l = pin.toNat ∧ (u.lane l).txFrom = some v.dts
      else u.laneState l = v.laneState l ∧ u.on F.LANE_STATUS_TX_READY l = v.on F.LANE_STATUS_TX_READY l) ∧
    (∀ present, ∃ u, exec (.sigDetChange t l present) s = .next u ∧
      u.on F.LANE_STATUS_SIG_DET l = (if v.rxPowered l then present else v.on F.LANE_STATUS_SIG_DET l)) ∧
    (∀ offset, ∃ u, exec (.cdrLock t l offset) s = .next u ∧
      if v.laneState l = LaneState.acquiring.code ∧ v.on F.LANE_STATUS_SIG_DET l = true then
        u.fld F.RX_FREQ_OFFSET_OFFSET l = unsigned 32 offset ∧ u.on F.LANE_STATUS_FREQ_OK l = freqOk offset ∧
        u.laneState l = (if freqOk offset then LaneState.adapting.code else LaneState.acquiring.code) ∧
        u.on F.LANE_STATUS_CDR_LOCK l = (freqOk offset || v.on F.LANE_STATUS_CDR_LOCK l)
      else u.laneState l = v.laneState l ∧ u.on F.LANE_STATUS_CDR_LOCK l = v.on F.LANE_STATUS_CDR_LOCK l) ∧
    (∃ u, exec (.cdrLockLoss t l) s = .next u ∧
      if v.laneState l = LaneState.adapting.code ∨ v.laneState l = LaneState.up.code then
        u.laneState l = LaneState.acquiring.code ∧ u.on F.LANE_STATUS_CDR_LOCK l = false ∧
        u.on F.LANE_STATUS_ADAPT_DONE l = false ∧
        (u.lane l).eqKeptSince = (if v.laneState l = LaneState.up.code then some v.now else none)
      else u.laneState l = v.laneState l ∧ u.on F.LANE_STATUS_CDR_LOCK l = v.on F.LANE_STATUS_CDR_LOCK l) ∧
    (∀ pin eye dfe1 ctle, ∃ u, exec (.adaptationComplete t l pin eye dfe1 ctle) s = .next u ∧
      if v.laneState l = LaneState.adapting.code then
        u.laneState l = LaneState.up.code ∧ u.on F.LANE_STATUS_ADAPT_DONE l = true ∧
        u.fld F.RX_PIN_DELAY_FS l = pin.toNat ∧ u.fld F.RX_EQ_READ_EYE_MARGIN l = eye.toNat ∧
        (u.lane l).upSince = some v.now ∧ (u.lane l).inService = true
      else u.laneState l = v.laneState l ∧ (u.lane l).inService = (v.lane l).inService) ∧
    (∃ u, exec (.eqDiscardTimeout t l) s = .next u ∧
      (u.lane l).eqKeptSince =
        (if v.laneState l = LaneState.acquiring.code ∧ v.sinceOpt (v.lane l).eqKeptSince (10 * ms) = true then none
        else (v.lane l).eqKeptSince)) ∧
    (∀ locked, ∃ u, exec (.patternCheckerLock t l locked) s = .next u ∧
      u.on F.PATTERN_STATUS_CHK_LOCK l = (if v.rxPowered l && v.fld F.PATTERN_CTRL_CHK l != 0 then locked
        else v.on F.PATTERN_STATUS_CHK_LOCK l))

/-- R52, R55: a bay's reference distribution locks where the bay is powered, and every lane of it with a role begins
powering. -/
def Obligations.BayLockStartsItsLanes : Prop :=
  ∀ (t b : Nat) (s v : State), b < 12 → v = s.advance t →
    ∃ u, exec (.bayPllLock t b) s = .next u ∧
      u.on F.BAY_STATUS_PLL_LOCK b = (v.on F.BAY_STATUS_PLL_LOCK b || v.on F.BAY_STATUS_POWERED b) ∧
      ∀ l, l ∈ bayLanes b → u.laneState l =
        if v.on F.BAY_STATUS_POWERED b && !v.on F.BAY_STATUS_PLL_LOCK b && v.role l != 0 then LaneState.powering.code
        else v.laneState l

/-- R39, R212, R213, R214: an input that loses its edges is inactive and disqualified, one whose edges return is active; a
gate's offset accepts or rejects with hysteresis, and a lane's gate, while the lane is locked, shows the lane's offset and
whether it is within limits (log 67); a candidate that fits qualifies at the end of its wait-to-restore. -/
def Obligations.ReferenceMonitors : Prop :=
  (∀ (t i : Nat) (s v : State), i < 16 → v = s.advance t →
    (∃ u, exec (.actLost t i) s = .next u ∧
      if (v.cand i).active && v.edgesGone i then
        (u.cand i).active = false ∧ u.candQualified i = false ∧
        u.objBit (F.CAND_STICKY_ACT_LOST.obj i) F.CAND_STICKY_ACT_LOST.lo = true
      else u = v) ∧
    (∃ u, exec (.actReturn t i) s = .next u ∧
      if !(v.cand i).active && v.edgesBack i then
        (u.cand i).active = true ∧ u.objBit (F.CAND_STICKY_ACT_RETURN.obj i) F.CAND_STICKY_ACT_RETURN.lo = true
      else u = v)) ∧
  (∀ (t c : Nat) (s v : State), c < 114 → v = s.advance t →
    (∀ offset : Int, ∃ u, exec (.freqGateEnd t c offset) s = .next u ∧
      (if v.gateEnds c && (candLane c).all (fun l => v.on F.LANE_STATUS_CDR_LOCK l) then
        u.fld F.CAND_FREQ_OFFSET_OFFSET c = unsigned 32 offset ∧
        (u.cand c).accepted = if (v.cand c).accepted then decide (offset.natAbs ≤ v.fld F.MONITOR_LIMITS_REJECT)
          else decide (offset.natAbs ≤ v.fld F.MONITOR_LIMITS_ACCEPT)
      else u.fld F.CAND_FREQ_OFFSET_OFFSET c = v.fld F.CAND_FREQ_OFFSET_OFFSET c ∧
        (u.cand c).accepted = (v.cand c).accepted) ∧
      ∀ l, candLane c = some l → v.gateEnds c = true → v.on F.LANE_STATUS_CDR_LOCK l = true →
        u.fld F.RX_FREQ_OFFSET_OFFSET l = unsigned 32 offset ∧ u.on F.LANE_STATUS_FREQ_OK l = freqOk offset ∧
        u.on F.LANE_STATUS_CDR_LOCK l = (freqOk offset || !v.eqLive l)) ∧
    (∃ u, exec (.candWtrExpiry t c) s = .next u ∧
      (v.candFit c = false → u.candQualified c = false) ∧
      (v.candFit c = true → v.sinceOpt (v.cand c).wtrFrom (v.fld F.WTR_SECONDS * sec) = true →
        u.candQualified c = true)))

/-- R220, R221, R222, R224, R226: the loop is LOCKED once both criteria have held for LOCK_TIME; a pull ends; a
freewheel past HOLDOVER_TIME sends class 0x40; a silent soft loop is disabled; each DTS second, once, adds one sample to
the history. -/
def Obligations.LoopTimersAndHistory : Prop :=
  (∀ (t : Nat) (s v : State), v = s.advance t →
    (∃ u, exec (.lockTimeReached t) s = .next u ∧
      if v.loopState = lAcquire && v.lockHolds && v.sinceOpt v.timing.lockSince (v.fld F.LOCK_CRIT_LOCK_TIME * sec) then
        if v.dts % frame = 0 then u.loopState = lLocked ∧ u.fld F.STATE_FN_FN = v.fn
        else u.loopState = lAcquire ∧ u.timing.lockDue = true
      else u = v) ∧
    (∃ u, exec (.pullComplete t) s = .next u ∧
      u.on F.LOOP_STATUS_PULL_ACTIVE = (v.on F.LOOP_STATUS_PULL_ACTIVE && !decide (v.timing.pullEnd ≤ v.now))) ∧
    (∃ u, exec (.holdoverExpiry t) s = .next u ∧
      u.fld F.LOOP_STATUS_CLASS =
        if v.loopState = lFreewheel then
          (if v.fld F.LOOP_STATUS_SELECTED = 126 then
            (if Map.has shareClock v.tandem.heard.shares then Map.get 0 shareClock v.tandem.heard.shares / 256 % 256
             else v.fld F.LOOP_STATUS_CLASS)
           else if v.sinceOpt v.timing.freewheelFrom (v.fld F.HOLDOVER_TIME_SECONDS * sec) then 0x40 else 0x30)
        else v.fld F.LOOP_STATUS_CLASS) ∧
    (∃ u, exec (.watchdog t) s = .next u ∧
      if v.loopState = lSoft ∧ v.since v.timing.softCwAt (v.fld F.SOFTLOOP_CONFIG_WATCHDOG * ms) = true then
        u.on F.SOFTLOOP_CONFIG_ENABLE = false ∧
        u.objBit (F.TE_STICKY_WATCHDOG.obj 0) F.TE_STICKY_WATCHDOG.lo = true
      else u = v)) ∧
  (∀ (t : Nat) (s v : State), v = s.advance t →
    ∃ u, exec (.dtsSecondBoundary t) s = .next u ∧
      if v.tempo && decide (v.timing.lastSecond < v.dts / sec) then
        u.timing.lastSecond = v.dts / sec ∧ u.timing.cwSum = 0 ∧ u.timing.cwSpan = 0 ∧
        u.timing.history.length = min 86400 (v.timing.history.length + 1) ∧
        u.timing.history.drop 1 = (v.timing.history).take (u.timing.history.length - 1)
      else u = v)

/-- R236 to R239, R243: a ramp ends on the goal, the alignment follows, a held change takes over; an output resumes when
nothing squelches it; a pulse's edge is made, squelched, or omitted less than 500 ms after the one before. -/
def Obligations.OutputsAndPulses : Prop :=
  (∀ (t n : Nat) (s v : State), n < 8 → v = s.advance t →
    (∀ delta, ∃ u, exec (.rampEnd t n delta) s = .next u ∧
      if (v.out n).stage = 1 ∧ (v.out n).stageEnd ≤ v.now then
        (v.on F.OUT_CONFIG_ALIGN n = true →
          (u.out n).stage = 2 ∧ (u.out n).num = (v.out n).goal.1 ∧ (u.out n).den = (v.out n).goal.2) ∧
        (v.on F.OUT_CONFIG_ALIGN n = false → (v.out n).held = none →
          (u.out n).stage = 0 ∧ (u.out n).num = (v.out n).goal.1 ∧ (u.out n).den = (v.out n).goal.2) ∧
        (∀ g, v.on F.OUT_CONFIG_ALIGN n = false → (v.out n).held = some g →
          (u.out n).goal = g ∧ (u.out n).held = none)
      else u = v) ∧
    (∃ u, exec (.glideDone t n) s = .next u ∧
      if (v.out n).stage = 2 ∧ (v.out n).stageEnd ≤ v.now then
        if v.alignLost n (v.out n).delta (v.headroom n - v.pullRate) = 0 then
          u.objBit (F.OUT_STICKY_GLIDE_DONE.obj n) F.OUT_STICKY_GLIDE_DONE.lo = true ∧
          ((v.out n).held = none → (u.out n).stage = 0) ∧
          (∀ g, (v.out n).held = some g → (u.out n).goal = g ∧ (u.out n).held = none)
        else (u.out n).stage = 2 ∧ (u.out n).delta = v.alignLost n (v.out n).delta (v.headroom n - v.pullRate)
      else u = v) ∧
    (∃ u, exec (.outputResume t n) s = .next u ∧
      if (v.out n).squelched && !v.outBlocked n && (v.out n).quietTo.any (· ≤ v.dts) then
        (u.out n).squelched = false ∧ (u.out n).quietTo = none
      else u = v)) ∧
  (∀ (t p : Nat) (s v : State) (e : Nat) (x : Pulse), p < 4 → v = s.advance t →
    e = ((v.now : Int) - ((v.dts : Int) - v.ppsEdge p)).toNat → x = v.pulse p →
    ∃ u, exec (.ppsPulse t p) s = .next u ∧
      (∀ q, q ≠ p → u.pulse q = v.pulse q) ∧
      if v.tempo = false ∨ v.on F.PPS_CONFIG_ENABLE p = false ∨ x.at_ = e + 1 ∨ v.ppsEdge p < x.since then u = v
      else if classSquelch v.classSent (v.fld F.PPS_CONFIG_SQUELCH_CLASS p) || v.dark then
        u.pulse p = x ∧ u.objBit (F.PPS_STICKY_SQUELCHED.obj p) F.PPS_STICKY_SQUELCHED.lo = true
      else if x.at_ ≠ 0 ∧ e + 1 < x.at_ + 500 * ms then
        u.pulse p = x ∧ u.objBit (F.PPS_STICKY_PPS_SKIP.obj p) F.PPS_STICKY_PPS_SKIP.lo = true
      else u.pulse p = { x with at_ := e + 1, width := v.fld F.PPS_WIDTH_NS p * ns })

/-- R248, R249: an APS value carried by three consecutive frames becomes the far request, channel and bridge. -/
def Obligations.ApsAcceptsTheFarRequest : Prop :=
  ∀ (t g : Nat) (s v : State), g < 48 → v = s.advance t →
    ∃ u, exec (.apsAcceptance t g) s = .next u ∧
      if v.apsOn g && decide (3 ≤ (v.apsOf g).farRun.count) then
        u.fld F.APS_STATUS_FAR_REQ g = apsCode ((v.apsOf g).farRun.value / 4096 % 16) ∧
        u.fld F.APS_STATUS_FAR_CH g = (v.apsOf g).farRun.value / 256 % 16 ∧
        u.fld F.APS_STATUS_FAR_BRIDGED g = (v.apsOf g).farRun.value / 16 % 16
      else u = v

/-- R250, R251, R253: after hold-off and at the end of the wait-to-restore a unidirectional 1+1 group selects by its highest
local request; FOP and ARCH_MISMATCH are declared and clear after 50 ms. -/
def Obligations.ApsTimers : Prop :=
  (∀ (t g : Nat) (s v : State), g < 48 → v = s.advance t → v.apsOn g = true → v.reinitBusy 12 0 = false →
    v.on F.APS_CONFIG_BIDIR g = false → v.apsOneToOne g = false →
    (∀ (prot degrade : Bool) (l : Nat) (r : Nat × Nat), l = (if prot then v.apsProt g else v.apsWork g) →
      (if degrade then v.sdCounted g l else v.sfCounted g l) = true → r = (v.apsInputs g).apsLocal g →
      ∃ u, exec (.holdOffExpiry t g prot degrade) s = .next u ∧
        u.fld F.APS_STATUS_LOCAL_REQ g = r.1 % 16 ∧ u.fld F.APS_STATUS_LOCAL_CH g = r.2 % 16 ∧
        u.apsSelected g = (if r.1 = 4 then v.apsSelected g else r.2 == 1)) ∧
    (v.sinceOpt (v.apsOf g).wtrFrom (v.fld F.APS_TIMERS_WTR g * sec) = true → v.fld F.APS_COMMAND_CMD g = 0 →
      (v.apsOf g).sfWork = false → (v.apsOf g).sdWork = false → (v.apsOf g).dnr = false →
      v.sfCounted g (v.apsWork g) = false → v.sdCounted g (v.apsWork g) = false →
      v.sfCounted g (v.apsProt g) = false → v.sdCounted g (v.apsProt g) = false →
      ∃ u, exec (.apsWtrExpiry t g) s = .next u ∧ u.apsSelected g = false ∧
        u.on F.APS_STATUS_WTR_RUNNING g = false ∧ u.fld F.APS_STATUS_LOCAL_REQ g = 0)) ∧
  (∀ (t g : Nat) (s v w : State) (arch : Bool) (f st : Fld) (off ok : Option Tick), g < 48 → v = s.advance t →
    w = v.apsEval g → f = (if arch then F.APS_STATUS_ARCH_MISMATCH else F.APS_STATUS_FOP) →
    st = (if arch then F.APS_STICKY_ARCH_MISMATCH else F.APS_STICKY_FOP) →
    off = (if arch then (w.apsOf g).archOffSince else (w.apsOf g).disagreeSince) →
    ok = (if arch then (w.apsOf g).archOkSince else (w.apsOf g).agreeSince) →
    ∃ u, exec (.fopChange t g arch) s = .next u ∧
      if v.apsOn g = false then u = v
      else if w.sinceOpt off (50 * ms) then
        u.on f g = true ∧ (w.on f g = false → u.objBit (st.obj g) st.lo = true)
      else if w.sinceOpt ok (50 * ms) then u.on f g = false
      else u = w)

/-- R255: a degraded selected source held for HOLD_OFF moves a controlled path to its other source where that is good; the
wait-to-restore at its end selects the working source. SEL_STATE is written on the page of the next egress frame, of
every member of the path. -/
def Obligations.PathSelectorTimers : Prop :=
  ∀ (t l k g : Nat) (s v : State) (e : Entry), l < 96 → k < 1024 → v = s.advance t → g = slotIdx l k → e = v.ctlEntry g →
    (v.reinitBusy 12 0 = false → v.controlled g = true → entrySel e ≤ 1 →
      v.on F.PATH_PROT_CONFIG_SD_TRIGGER l k = true →
      v.sinceOpt (v.srcSdSince (if entrySel e = 1 then entryProt e else entryWork e))
        (v.fld F.PATH_PROT_CONFIG_HOLD_OFF l k * (100 * ms)) = true →
      v.srcGood (if entrySel e = 1 then entryWork e else entryProt e) = true →
      ∃ u, exec (.pathHoldOffExpiry t l k) s = .next u ∧
        ∀ m, m ∈ v.outMembers g → entrySel (u.xc.entryOn v.nextPage m) = 1 - entrySel e) ∧
    (∀ w, w = v.pathWatch g →
      w.sinceOpt (w.pprot g).wtrFrom (w.fld F.PATH_PROT_CONFIG_WTR l k * sec) = true →
      ∃ u, exec (.pathWtrExpiry t l k) s = .next u ∧
        ∀ m, m ∈ v.outMembers g → entrySel (u.xc.entryOn v.nextPage m) = 0)

/-- R350, R351, R354: a link that falls reads down, discards and counts its queued frames and sets LINK; a link rises
only on an enabled MAC, and shows its speed. R356 to R358: the timers of pause. -/
def Obligations.LinksAndPauseTimers : Prop :=
  (∀ (t m : Nat) (s v : State), m < 2 → v = s.advance t →
      (∃ u, exec (.linkDown t m) s = .next u ∧
        if v.macsRun && v.macUp m then
          u.macUp m = false ∧ u.on F.MAC_STATUS_AN_DONE m = false ∧ (u.mac m).queues = [] ∧
          u.objBit (F.MAC_STICKY_LINK.obj m) F.MAC_STICKY_LINK.lo = true
        else u = v) ∧
      (∀ speed, speed < 3 → ∃ u, exec (.linkUp t m speed) s = .next u ∧
        if v.macsRun && v.macOn m && !v.macUp m then
          u.macUp m = true ∧ u.fld F.MAC_STATUS_SPEED m = (if v.fld F.MAC_CONFIG_MODE m = 0 then 2 else speed)
        else u = v)) ∧
  (∀ (t m : Nat) (s v : State), m < 2 → v = s.advance t →
      (∃ u, exec (.pauseExpiry t m) s = .next u ∧
        if (v.mac m).pauseEnd.any (· ≤ v.now) then
          u.on F.MAC_STATUS_PAUSED m = false ∧ (u.mac m).pauseEnd = none ∧ (u.mac m).pausedSince = none
        else u = v) ∧
      (∃ u, exec (.pauseWdExpiry t m) s = .next u ∧
        if v.on F.MAC_STATUS_PAUSED m && !(v.mac m).pauseEnd.any (· < v.now) &&
          v.sinceOpt (v.mac m).pausedSince (v.fld F.PAUSE_CONFIG_PAUSE_WD m * ms) then
          u.on F.MAC_STATUS_PAUSED m = false ∧ u.on F.MAC_STATUS_PAUSE_IGNORED m = true ∧ (u.mac m).pauseEnd = none ∧
          u.objBit (F.MAC_STICKY_PAUSE_WD.obj m) F.MAC_STICKY_PAUSE_WD.lo = true
        else u = v) ∧
      (∃ u, exec (.pauseIgnoredClear t m) s = .next u ∧
        u.on F.MAC_STATUS_PAUSE_IGNORED m =
          (v.on F.MAC_STATUS_PAUSE_IGNORED m && !v.sinceOpt (v.mac m).lastPause sec)) ∧
      (∃ u, exec (.pauseRepeat t m) s = .next u ∧
        (u.mac m).ownPause = (v.mac m).ownPause ++
          (if v.on F.PAUSE_CONFIG_TX_PAUSE_EN m && (v.mac m).ownPaused && v.since (v.mac m).ownPauseAt (16 * ms) then
            [0xFFFF] else [])))

/-- R355: a free transmitter sends its own pause frames first, then the oldest frame of the lowest-numbered queue that holds
one; a busy, paused or idle one sends nothing. Here v is the state once a pause whose quanta have run out is over (R356). -/
def Obligations.TransmitOrder : Prop :=
  ∀ (t m : Nat) (s v : State), m < 2 → v = (s.advance t).pauseExpire m →
    ∃ u, exec (.macTransmitStart t m) s = .next u ∧
      if !v.macsRun || !v.macUp m || decide (v.now < (v.mac m).wireEnd) || v.on F.MAC_STATUS_PAUSED m ||
          v.heldHalted 14 (16 + m) then u = v
      else match (v.mac m).ownPause with
        | q :: r => (u.mac m).ownPause = r ∧ (u.mac m).wirePause = some q ∧ (u.mac m).wire = none ∧
            (u.mac m).queues = (v.mac m).queues
        | [] => match (v.mac m).nextTx with
          | some (q, f, r) => (u.mac m).wire = some f ∧ (u.mac m).wirePause = none ∧ (u.mac m).queue q = r ∧
              (∀ p, p ≠ q → (u.mac m).queue p = (v.mac m).queue p)
          | none => u = v

/-- R328, R331, R340, R343: a session that is silent for its idle time ends and its number becomes the one freed last;
an event message takes the next event SEQ and waits for its acknowledgement, is sent again after 100 ms up to 4 times,
and is then dropped; a request held for 10 ms is discarded and counted. -/
def Obligations.SessionTimers : Prop :=
  ∀ (t n : Nat) (s v : State) (x : Session), 1 ≤ n → n ≤ 32 → v = s.advance t → v.session n = some x →
    (∃ u, exec (.sessionIdleExpiry t n) s = .next u ∧
      if v.since x.lastMsg x.idle then
        u.session n = none ∧ u.freeNums.getLast? = some n ∧
        (∀ p, p ∈ u.claims → p.2.holder ≠ n) ∧
        u.objBit (F.FOLLA_STICKY_SESSION_EXPIRED.obj 0) F.FOLLA_STICKY_SESSION_EXPIRED.lo = true
      else u = v) ∧
    (∃ u, exec (.eventSend t n) s = .next u ∧
      if x.evQueue.isEmpty || !v.running || !(x.evLast.all fun y => v.since y ms) then u = v
      else if x.sealed && decide (2 ^ 32 - 1 ≤ x.evSeq) then u.session n = none
      else ∃ y, u.session n = some y ∧ y.evSeq = (x.evSeq + 1) % 2 ^ 32 ∧ y.evLast = some v.now ∧
        y.evSent = x.evSent ++ [⟨x.evSeq, x.event, v.now, 0⟩] ∧
        (x.via = .spi → v.spiWaiting + x.event.wire.length ≤ 16384 → u.spiOut = v.spiOut ++ [x.event])) ∧
    (∀ q, ∃ u, exec (.eventRetransmit t n q) s = .next u ∧
      match x.evSent.find? fun e => e.seq == q && v.since e.at_ (100 * ms) with
      | none => u = v
      | some e => ∃ y, u.session n = some y ∧ y.evSent =
          if 4 ≤ e.tries then x.evSent.filter (·.seq != q)
          else x.evSent.map fun z => if z.seq = q then { z with at_ := v.now, tries := z.tries + 1 } else z) ∧
    (∀ q, ∃ u, exec (.seqHoldTimeout t n q) s = .next u ∧
      match x.held.find? fun h => h.seq == q && v.since h.since (10 * ms) with
      | none => u = v
      | some h => (∃ y, u.session n = some y ∧ y.held = x.held.filter (·.seq != h.seq)) ∧
          u.val O.SEQ_DISCARDS = BitVec.ofNat 96 (((v.val O.SEQ_DISCARDS).toNat + 1) % 2 ^ 64))

/-- R338, R339: at the end of its lease a claim is freed and marked, and XC_STAGE becomes free and marked.
R388, R389: a hardware claim request under an old generation is refused and counted; one under the current generation takes
a free key, and gives back a key it holds. -/
def Obligations.LeasesAndHardwareClaims : Prop :=
  (∀ (t o k : Nat) (s v : State), o < 4294967296 → k < 2 → v = s.advance t →
      (claimKey o k ≠ stageKey →
        ∃ u, exec (.leaseExpiry t o k) s = .next u ∧
          if (v.claim (claimKey o k)).holder != 0 && decide ((v.claim (claimKey o k)).leaseEnd ≤ v.now) then
            (u.claim (claimKey o k)).holder = 0 ∧ (u.claim (claimKey o k)).mark = true ∧
            u.objBit (F.FOLLA_STICKY_LEASE_EXPIRED.obj 0) F.FOLLA_STICKY_LEASE_EXPIRED.lo = true
          else u = v) ∧
      (claimKey o k = stageKey → ∀ n, v.xc.stage = .session n →
        ∃ u, exec (.leaseExpiry t o k) s = .next u ∧
          if v.xc.leaseEnd.any (· ≤ v.now) then
            u.xc.stage = .free ∧ u.xc.mark = true ∧ u.xc.leaseEnd = none ∧
            u.objBit (F.FOLLA_STICKY_LEASE_EXPIRED.obj 0) F.FOLLA_STICKY_LEASE_EXPIRED.lo = true
          else u = v)) ∧
  (∀ (t w g k : Nat) (s v : State), w < 65536 → g < 65536 → k < 4294967296 → v = s.advance t →
      (∀ a, g ≠ v.gen w → ∃ u, exec (.hwClaimRequest t w g k a) s = .next u ∧
        u.lastOp.status = stStale ∧ u.hwClaims = v.hwClaims ∧
        u.val O.STALE_OPS = BitVec.ofNat 96 (((v.val O.STALE_OPS).toNat + 1) % 2 ^ 64)) ∧
      (g = v.gen w → ∃ u, exec (.hwClaimRequest t w g k .acquire) s = .next u ∧
        if (v.hwClaim k).holder != 0 && (v.hwClaim k).holder != w then
          u.lastOp.status = stClaimed ∧ u.lastOp.holder = (v.hwClaim k).holder ∧ u.hwClaims = v.hwClaims
        else if objArea k == 0x15 && v.claimHolder 0 k != 0 then
          u.lastOp.status = stClaimed ∧ u.hwClaims = v.hwClaims
        else if (v.hwClaim k).holder == 0 && !(v.hwClaim k).mark && decide (512 ≤ v.hwClaims.length) then
          u.lastOp.status = stBusy ∧ u.hwClaims = v.hwClaims
        else u.hwClaim k = ⟨w, g, 0, 0, false⟩ ∧
          u.lastOp.status = (if (v.hwClaim k).mark then stAbandoned else stOk)) ∧
      (g = v.gen w → ∃ u, exec (.hwClaimRequest t w g k .release) s = .next u ∧
        if (v.hwClaim k).holder = w then u.hwClaim k = noClaim ∧ u.lastOp.status = stOk
        else u.lastOp.status = stAccess ∧ u.hwClaims = v.hwClaims))


/-- R299, R301: a pair clock's loss and return show on both ports of the pair and on no other; what a routed port takes
in enters the insert queue of its channel; what it sends leaves the extract queue. R14, R382: a clock that an enabled
port needs, lost from its utility pin, is a fault (its instance number is the model's choice, log 72). -/
def Obligations.DccPorts : Prop :=
  ∀ (t : Nat) (s v : State), v = s.advance t →
    (∀ pair, pair < 4 →
      (∀ w, w = (v.pairClock pair false).raiseFault ⟨0x0B, 14, dccInst pair, 0, false⟩ →
        ∃ u, exec (.dccClockLoss t pair) s = .next u ∧
          if v.pairClockFails pair && v.alive && w.faults.resetWanted then u = w.warmReset
          else (v.pairClockFails pair = true → v.alive = true → u = w) ∧
            ∀ q, q < 8 → u.on F.DCC_PORT_STATUS_CLK_PRESENT q = (q / 2 != pair && v.on F.DCC_PORT_STATUS_CLK_PRESENT q)) ∧
      (∃ u, exec (.dccClockReturn t pair) s = .next u ∧
        ∀ q, q < 8 → u.on F.DCC_PORT_STATUS_CLK_PRESENT q = (q / 2 == pair || v.on F.DCC_PORT_STATUS_CLK_PRESENT q))) ∧
    (∀ (port lane c : Nat) (d : DccIn) (bytes : List Byte) (abort : Bool), port < 8 → v.portLive port = true →
      v.portChan port = some (lane, c) → bytes ≠ [] →
      (d = .raw bytes ∧ abort = false ∨ ∃ ok, d = .hdlc bytes ok ∧ abort = !ok) →
      v.qon F.Q_CONFIG_MODE lane c = false ∨
        (v.chanOf lane c).openLen + bytes.length ≤ v.qfld F.Q_LIMITS_MAX_LEN lane c →
      ∃ u, exec (.dccPortReceive t port d) s = .next u ∧
        (u.chanOf lane c).ext = (v.chanOf lane c).ext ∧
        (u.chanOf lane c).ins = (packItems bytes.length bytes abort false).foldl
            (fun q i => (pushQ q (v.qfld F.Q_DEPTH_INS_DEPTH lane c - (v.chanOf lane c).mgmtFill) i).1)
            (v.chanOf lane c).ins) ∧
    (∀ (port : Nat) (d : DccIn), port < 8 → v.portLive port = false ∨ v.portChan port = none →
      exec (.dccPortReceive t port d) s = .next v ∧ exec (.dccPortSend t port) s = .next v) ∧
    (∀ (port lane c : Nat) (q : List Item), port < 8 → v.portLive port = true → v.portChan port = some (lane, c) →
      q = (v.chanOf lane c).ext.dropWhile Item.gap → v.qon F.Q_CONFIG_MODE lane c = false →
      ∃ u, exec (.dccPortSend t port) s = .next u ∧
        match q with
        | [] => Map.get [] port u.dccOut = [BitVec.ofNat 8 (v.qfld F.Q_CONFIG_IDLE_BYTE lane c)] ∧ u.chans = v.chans
        | i :: r => Map.get [] port u.dccOut = i.bytes ∧ (u.chanOf lane c).ext = r) ∧
    (∀ (port lane c : Nat) (fr r : List Item) (e : Item), port < 8 → v.portLive port = true →
      v.portChan port = some (lane, c) → v.qon F.Q_CONFIG_MODE lane c = true →
      (v.chanOf lane c).ext.dropWhile Item.gap = fr ++ e :: r → (∀ i, i ∈ fr → i.fin = false ∧ i.gap = false) →
      e.fin = true →
      ∃ u, exec (.dccPortSend t port) s = .next u ∧ (u.chanOf lane c).ext = r ∧
        Map.get [] port u.dccOut = (fr ++ [e]).flatMap Item.bytes ++
          ((fcsBytes (v.qon F.Q_CONFIG_FCS32 lane c) ((fr ++ [e]).flatMap Item.bytes)).map fun b =>
            if e.abort || e.fcsBad then b ^^^ 0xFF else b))

/-- In the statements of a session's commands v is the state at the command's instant once leases that have run out have
expired (R390). R48, R82, R145, R189, R210, R359: SNAPSHOT copies the live counts of its set to their objects, and CLEAR
returns them to 0; neither does the other's work, and counts of other sets stand. On a lane of another role the controls
of areas 04 and 06 do nothing (setActs). An engine's counters follow R377 below. -/
def Obligations.CounterSnapshotsAndClears : Prop :=
  ∀ (t n : Nat) (c : CounterSet) (s v : State) (x : Session), 1 ≤ n → n ≤ 32 → counterSetOk c = true →
    v = (s.advance t).leasesDue →
    v.canonical = true → v.writesObj n x (setControl c) → (∀ e, c ≠ .engine e) →
    (∃ u, exec (.snapshot t n c) s = .next u ∧ u.lastOp.status = stOk ∧ u.live = v.live ∧
      ∀ o, inSet c o = true → u.val o = if v.setActs c then Map.get (objDefault o) o v.live else v.val o) ∧
    (∃ u, exec (.clear t n c) s = .next u ∧ u.lastOp.status = stOk ∧
      ∀ o, u.liveOf o = if v.setActs c && inSet c o then 0 else v.liveOf o)

/-- R51, R77, R82, R203: the bits that act on one lane when their write executes: a reseed asked for, and errors to be sent;
the injections inside configuration objects stage the object as well. -/
def Obligations.LaneInjections : Prop :=
  ∀ (t n l : Nat) (s v : State) (x : Session), 1 ≤ n → n ≤ 32 → l < 96 → v = (s.advance t).leasesDue →
    (v.writesObj n x (objAt O.LEDGER_CONTROL l) →
      ∃ u, exec (.reseed t n l) s = .next u ∧ u.lastOp.status = stOk ∧
        (u.ledger l).reseedAsked = (v.ledgerOn l || (v.ledger l).reseedAsked)) ∧
    (v.writesObj n x (objAt O.SDH_CONTROL l) →
      (∃ u, exec (.injectB1 t n l) s = .next u ∧ u.lastOp.status = stOk ∧
        (u.lane l).injectB1 = (v.isSdh l || (v.lane l).injectB1) ∧ (u.lane l).injectB2 = (v.lane l).injectB2) ∧
      (∃ u, exec (.injectB2 t n l) s = .next u ∧ u.lastOp.status = stOk ∧
        (u.lane l).injectB2 = (v.isSdh l || (v.lane l).injectB2) ∧ (u.lane l).injectB1 = (v.lane l).injectB1)) ∧
    (v.seesObj n x (objAt O.TTF_TX_CTRL l) → v.on F.FAULT_STATUS_FATAL = false →
      v.claimHolder n (objAt O.TTF_TX_CTRL l) = 0 →
      ∃ u, exec (.injectBip t n l) s = .next u ∧ u.lastOp.status = stOk ∧
        (u.lane l).injectBip = (v.isTtf l || (v.lane l).injectBip) ∧
        ∃ y, u.session n = some y ∧ (y.txn.getD []).any (fun w => w.o == objAt O.TTF_TX_CTRL l) = true) ∧
    (v.seesObj n x (objAt O.PATTERN_CTRL l) → v.on F.FAULT_STATUS_FATAL = false →
      v.claimHolder n (objAt O.PATTERN_CTRL l) = 0 →
      ∃ u, exec (.errInject t n l) s = .next u ∧ u.lastOp.status = stOk ∧
        (u.lane l).injectErr = (v.lane l).injectErr + 1 ∧
        ∃ y, u.session n = some y ∧ (y.txn.getD []).any (fun w => w.o == objAt O.PATTERN_CTRL l) = true)

/-- R292, R293, R303, R322: a read of the extract window takes the oldest item, or the idle item where there is none or the
channel is not the host's; a write of the insert window queues an item; a flush empties its queue and leaves the other. -/
def Obligations.OverheadQueueWindows : Prop :=
  ∀ (t n l c : Nat) (s v : State) (x : Session), 1 ≤ n → n ≤ 32 → l < 96 → c < 4 → v = (s.advance t).leasesDue →
    (v.seesObj n x (objAt O.EXT_WINDOW l (16 * c)) →
      ∃ u, exec (.extWindow t n l c) s = .next u ∧ u.lastOp.status = stOk ∧
        match (v.chanOf l c).ext with
        | i :: r => if v.qfld F.Q_CONFIG_ROUTE l c = 0 then u.lastOp.data = [i.tag, i.data] ∧ (u.chanOf l c).ext = r
            else u.lastOp.data = [idleItem.tag, idleItem.data] ∧ (u.chanOf l c).ext = i :: r
        | [] => u.lastOp.data = [idleItem.tag, idleItem.data] ∧ (u.chanOf l c).ext = []) ∧
    (∀ tag data, v.writesObj n x (objAt O.INS_WINDOW l (16 * c)) →
      v.qon F.Q_CONFIG_MODE l c = false →
      ∃ u, exec (.insWindow t n l c tag data) s = .next u ∧ u.lastOp.status = stOk ∧
        (u.chanOf l c).ext = (v.chanOf l c).ext ∧
        (u.chanOf l c).ins = if v.qfld F.Q_CONFIG_ROUTE l c = 0 then
          (pushQ (v.chanOf l c).ins (v.qfld F.Q_DEPTH_INS_DEPTH l c - (v.chanOf l c).mgmtFill) ⟨tag &&& 0x3F, data⟩).1
          else (v.chanOf l c).ins) ∧
    (v.writesObj n x (objAt O.Q_CONTROL l (16 * c)) →
      (∃ u, exec (.flushExt t n l c) s = .next u ∧ u.lastOp.status = stOk ∧
        (u.chanOf l c).ext = [] ∧ (u.chanOf l c).ins = (v.chanOf l c).ins) ∧
      (∃ u, exec (.flushIns t n l c) s = .next u ∧ u.lastOp.status = stOk ∧
        (u.chanOf l c).ins = [] ∧ (u.chanOf l c).mgmt = [] ∧ (u.chanOf l c).ext = (v.chanOf l c).ext))

/-- R375 to R377: FREEZE holds and releases the counts without moving the tempo count; CLEAR returns the live counts to
0 and SNAPSHOT copies them; a counter that wraps sets its bit, or counts in its chained neighbour; a threshold that is
reached sets its bit and, with THRESH_FREEZE, freezes the engine's counters. An event that cannot have happened so often
is none (log 29). -/
def Obligations.PerformanceCounters : Prop :=
  ∀ (t n e : Nat) (s v w : State) (x : Session), 1 ≤ n → n ≤ 32 → e < 101 → v = (s.advance t).leasesDue → w = s.advance t →
    (∀ b, v.writesObj n x (objAt O.PC_CONTROL e) → ∃ u, exec (.freeze t n e b) s = .next u ∧ u.lastOp.status = stOk ∧
      u.pcFrozen e = b ∧ u.tempoCount e = v.tempoCount e) ∧
    (v.writesObj n x (objAt O.PC_CONTROL e) → ∃ u, exec (.clear t n (.engine e)) s = .next u ∧ u.lastOp.status = stOk ∧
      (v.pcFrozen e = true → u.pcFrozen e = true) ∧ u.tempoCount e = 0 ∧ ∀ k, k < 6 → u.fld F.PC_COUNT_COUNT e k = 0) ∧
    (v.writesObj n x (objAt O.PC_CONTROL e) → ∃ u, exec (.snapshot t n (.engine e)) s = .next u ∧
      u.lastOp.status = stOk ∧ u.fld F.TEMPO_SNAP_COUNT e = v.tempoCount e ∧
      ∀ k, k < 6 → u.fld F.PC_SNAP_COUNT e k = u.fld F.PC_COUNT_COUNT e k) ∧
    (∀ k, k < 6 → ∃ u, exec (.pcCounterWrap t e k) s = .next u ∧
      if w.pcMay e k (w.pcUntil e k 0) = false then u = w
      else u.fld F.PC_COUNT_COUNT e k = 0 ∧
        if k % 2 = 0 ∧ w.on F.PC_CONFIG_CHAIN e (k + 1) = true then
          w.on F.PC_CONFIG_ENABLE e (k + 1) = true →
            u.fld F.PC_COUNT_COUNT e (k + 1) = (w.fld F.PC_COUNT_COUNT e (k + 1) + 1) % 2 ^ 48
        else u.objBit (objAt O.PC_STICKY e) k = true) ∧
    (∀ k, k < 6 → ∃ u, exec (.pcThresholdReached t e k) s = .next u ∧
      if w.fld F.PC_THRESH_THRESH e k ≠ 0 ∧ w.pcMay e k (w.pcUntil e k (w.threshCount e k)) = true then
        u.fld F.PC_COUNT_COUNT e k = w.threshCount e k ∧ u.objBit (objAt O.PC_STICKY e) (8 + k) = true ∧
        (w.on F.PC_CONFIG_THRESH_FREEZE e k = true → u.pcFrozen e = true)
      else u = w)

/-- R368, R371: a bank whose clearing ends is on; a scrub period ends with its bit set where memory was left over.
R369: DMA_ADDR takes an address inside a bank that the DMA may read; a write of the window stores the four bytes of its
word there, big-endian, and changes no other byte; a read of it changes none. -/
def Obligations.MemoryBanks : Prop :=
  (∀ (t : Nat) (s v : State), v = s.advance t →
      (∀ b, bankUnit b = true → ∃ u, exec (.bankClearComplete t b) s = .next u ∧
        u.fld F.BANK_POWER_POWER b = if v.fld F.BANK_POWER_POWER b = 3 then 2 else v.fld F.BANK_POWER_POWER b) ∧
      (∀ all, ∃ u, exec (.scrubPeriodEnd t all) s = .next u ∧
        if v.running && v.since v.scrubFrom (v.fld F.SCRUB_PERIOD_SECONDS * sec) then
          u.scrubFrom = v.now ∧
          (all = false → u.objBit (F.MEM_STICKY_SCRUB_LATE.obj 0) F.MEM_STICKY_SCRUB_LATE.lo = true)
        else u = v)) ∧
  (∀ (t n : Nat) (s v : State) (x : Session), 1 ≤ n → n ≤ 32 → v = (s.advance t).leasesDue →
      (∀ a, v.writesObj n x O.DMA_ADDR →
        ∃ u, exec (.dmaAddr t n a) s = .next u ∧
          if dmaAddrOk (BitVec.ofNat 96 a.toNat) then
            u.lastOp.status = stOk ∧ u.fld F.DMA_ADDR_BANK = a.toNat / 2 ^ 24 % 256 ∧
            u.fld F.DMA_ADDR_OFFSET = a.toNat % 2 ^ 21
          else u.lastOp.status = stValue ∧ u.val O.DMA_ADDR = v.val O.DMA_ADDR) ∧
      (∀ b off len i, b = v.fld F.DMA_ADDR_BANK → off = v.fld F.DMA_ADDR_OFFSET → len = max 1 (bankSize b / 4) →
        i = v.ptrOf n O.DMA_WINDOW % len →
        (∀ w, v.writesObj n x O.DMA_WINDOW → v.dmaServes true = true →
          ∃ u, exec (.dmaWindow t n (some w)) s = .next u ∧ u.lastOp.status = stOk ∧
            u.ptrOf n O.DMA_WINDOW = (i + 1) % len ∧
            (∀ k, k < 4 → Map.get 0 (b * 2 ^ 24 + (off + 4 * i + k) % bankSize b) u.banks = (wordBytes w).getD k 0) ∧
            (∀ a, (∀ k, k < 4 → a ≠ b * 2 ^ 24 + (off + 4 * i + k) % bankSize b) →
              Map.get 0 a u.banks = Map.get 0 a v.banks)) ∧
        (v.seesObj n x O.DMA_WINDOW → v.dmaServes false = true →
          ∃ u, exec (.dmaWindow t n none) s = .next u ∧ u.lastOp.status = stOk ∧
            u.lastOp.data = [BitVec.ofNat 32 (beNat ((List.range 4).map fun k => v.bankByte b (off + 4 * i + k) k))] ∧
            u.ptrOf n O.DMA_WINDOW = (i + 1) % len ∧ u.banks = v.banks)))

/-- R398 to R400: the holder of a check-value unit that is not busy loads it, feeds it words and bytes, and starts a run;
another's write is refused; a run over known bytes ends with their check value in the register. -/
def Obligations.CheckValueUnits : Prop :=
  ∀ (t n k : Nat) (s v : State) (x : Session), 1 ≤ n → n ≤ 32 → cvuUnit k = true → v = (s.advance t).leasesDue →
    (v.cvuRefuses n k = none → v.cvuBusy k = false →
      (∀ w, v.writesObj n x (objAt O.CVU_CONFIG k) → ∃ u, exec (.cvuConfig t n k w) s = .next u ∧
        u.lastOp.status = stOk ∧ u.fld F.CVU_CONFIG_ALGO k = w.toNat % 4 ∧
        u.fld F.CVU_VALUE_VALUE k = cvuInit (w.toNat % 4) % 2 ^ 32) ∧
      (∀ w, v.writesObj n x (objAt O.CVU_DATA k) → ∃ u, exec (.cvuData t n k w) s = .next u ∧
        u.lastOp.status = stOk ∧ u.fld F.CVU_VALUE_VALUE k =
          (wordBytes w).foldl (cvuStep (v.fld F.CVU_CONFIG_ALGO k)) (v.fld F.CVU_VALUE_VALUE k) % 2 ^ 32) ∧
      (∀ b, v.writesObj n x (objAt O.CVU_BYTE k) → ∃ u, exec (.cvuByte t n k b) s = .next u ∧
        u.lastOp.status = stOk ∧ u.fld F.CVU_VALUE_VALUE k =
          cvuStep (v.fld F.CVU_CONFIG_ALGO k) (v.fld F.CVU_VALUE_VALUE k) b % 2 ^ 32) ∧
      (v.writesObj n x (objAt O.CVU_CONTROL k) → ∃ u, exec (.start t n k) s = .next u ∧
        u.lastOp.status = stOk ∧ u.cvuBusy k = true ∧ u.on F.CVU_STATUS_UNCORR k = false)) ∧
    (∀ r w, v.cvuRefuses n k = some r → v.writesObj n x (objAt O.CVU_DATA k) →
      ∃ u, exec (.cvuData t n k w) s = .next u ∧ u.lastOp.status = r.1 ∧ u.lastOp.holder = r.2 ∧ u.dict = v.dict) ∧
    (∀ r b w, w = s.advance t → w.cvuRuns.find? (·.1 == k) = some (k, r) → ∃ u, exec (.cvuRunComplete t k b) s = .next u ∧
      u.cvuBusy k = false ∧ u.on F.CVU_STATUS_UNCORR k = b ∧
      (b = false → w.bankKnown r.bank = true → u.fld F.CVU_VALUE_VALUE k =
        ((List.range r.length).map fun j => w.bankByte r.bank (r.offset + j) 0).foldl
          (cvuStep (w.fld F.CVU_CONFIG_ALGO k)) (w.fld F.CVU_VALUE_VALUE k) % 2 ^ 32))

/-- R315, R318, R232, R385: reads that have an effect: TCA_LOG gives its oldest entry and drops it; a read-to-clear
object gives its value and returns to its Default; HISTORY_INFO and FAULT_INFO latch what their windows then show. -/
def Obligations.ReadsWithEffects : Prop :=
  ∀ (t n : Nat) (s v : State) (x : Session), 1 ≤ n → n ≤ 32 → v = (s.advance t).leasesDue →
    (v.seesObj n x O.TCA_LOG → ∃ u, exec (.tcaLog t n) s = .next u ∧ u.lastOp.status = stOk ∧
      match v.tcaLog with
      | p :: r => u.lastOp.data = [p.1, p.2] ∧ u.tcaLog = r
      | [] => u.lastOp.data = [0xFFFFFFFF, 0] ∧ u.tcaLog = []) ∧
    (v.seesObj n x O.HISTORY_INFO → ∃ u, exec (.historyInfo t n) s = .next u ∧ u.lastOp.status = stOk ∧
      u.lastOp.data = valWords 1 (v.val O.HISTORY_INFO) ∧
      ∃ y, u.session n = some y ∧ y.histArmed = true ∧ Map.get 0 O.HISTORY y.ptr = 0) ∧
    (v.seesObj n x O.FAULT_INFO → ∃ u, exec (.faultInfo t n) s = .next u ∧ u.lastOp.status = stOk ∧
      ∃ y, u.session n = some y ∧ y.faultLatch = v.faults.log.flatMap FaultRec.words) ∧
    (∀ o r, o < 4294967296 → findRow o = some r → r.acc = .rc → v.readsZero o = false → v.seesObj n x o →
      ∃ u, exec (.rcRead t n o) s = .next u ∧ u.lastOp.status = stOk ∧
        u.lastOp.data = valWords r.words (v.val o) ∧ u.val o = objDefault o)

/-- R314, R161, R321, R226, R231: selectors and controls that act when written: a selector is the session's own and its
window starts over; XC_WINDOW_START starts both entry windows over; SOFT_CW acts at once in SOFTLOOP, within the limits;
the history empties. -/
def Obligations.SelectorsActWhenWritten : Prop :=
  ∀ (t n : Nat) (s v : State) (x : Session), 1 ≤ n → n ≤ 32 → v = (s.advance t).leasesDue →
    (∀ a, v.writesObj n x O.PM_READ_SEL → ∃ u, exec (.pmReadSel t n a) s = .next u ∧
      match v.pmSelRefused x (BitVec.ofNat 96 a.toNat) with
      | none => u.lastOp.status = stOk ∧ ∃ y, u.session n = some y ∧ bits y.pmSel 60 48 = a.toNat / 2 ^ 48 % 2 ^ 13 ∧
          Map.get 0 O.PM_READ_WINDOW y.ptr = 0
      | some e => u.lastOp.status = e.1 ∧ u.session n = some { x with lastMsg := v.now }) ∧
    (∀ g, v.writesObj n x O.XC_WINDOW_START → ∃ u, exec (.xcWindowStart t n g) s = .next u ∧
      if g.toNat % 2 ^ 17 < numSlots then
        u.lastOp.status = stOk ∧ u.fld F.XC_WINDOW_START_G = g.toNat % 2 ^ 17 ∧
        u.ptrOf n O.XC_STANDBY_WINDOW = 0 ∧ u.ptrOf n O.XC_ACTIVE_WINDOW = 0
      else u.lastOp.status = stValue ∧ u.dict = v.dict) ∧
    (∀ a, v.writesObj n x O.SOFT_CW → ∃ u, exec (.softCw t n a) s = .next u ∧ u.lastOp.status = stOk ∧
      u.fld F.SOFT_CW_CW = a.toNat ∧ u.timing.softCwAt = v.now ∧
      u.sfld F.CW_NOW_CW = if v.loopState = lSoft then max (-cwLimit) (min cwLimit (signed 64 a.toNat))
        else v.sfld F.CW_NOW_CW) ∧
    (v.writesObj n x O.HISTORY_CONTROL → ∃ u, exec (.historyClear t n) s = .next u ∧ u.lastOp.status = stOk ∧
      u.timing.history = [] ∧ u.fld F.HISTORY_INFO_COUNT = 0)

/-- R318, R323, R332, R342: a write-one-to-clear object loses the bits written 1; an interrupt enable takes its bits, and one
newly set over a sticky bit queues an event for every session that takes it; a write of a configuration object is
staged in the session's transaction and changes nothing in force. -/
def Obligations.RegisterWrites : Prop :=
  ∀ (t n o : Nat) (s v : State) (x : Session) (r : ObjRow) (w : Word), 1 ≤ n → n ≤ 32 → o < 4294967296 →
    v = (s.advance t).leasesDue →
    findRow o = some r → r.window = 0 → v.seesObj n x o → v.on F.FAULT_STATUS_FATAL = false → v.claimHolder n o = 0 →
    (r.acc = .w1c → r.words = 1 → v.mayWrite x.part o = true →
      ∃ u, exec (.w1cWrite t n o w) s = .next u ∧ u.lastOp.status = stOk ∧
        u.val o = if v.noElement o || v.noClient o then v.val o
          else v.val o &&& ~~~(BitVec.ofNat 96 w.toNat &&& BitVec.ofNat 96 r.mask)) ∧
    (∀ st, stickyOf o = some st → r.acc = .rw → r.words = 1 → v.mayWrite x.part o = true → v.noElement o = false →
      ∃ u, exec (.intEnWrite t n o w) s = .next u ∧ u.lastOp.status = stOk ∧
        u.val o = (v.val o &&& ~~~(BitVec.ofNat 96 r.mask)) ||| (BitVec.ofNat 96 w.toNat &&& BitVec.ofNat 96 r.mask) ∧
        (v.noClient o = false → v.noSdh o = false →
          (v.val st).toNat &&& ((u.val o).toNat &&& ((v.val o).toNat ^^^ 0xFFFFFFFF)) ≠ 0 →
          ∀ m z, v.session m = some z → v.wantsEvent z st = true → z.evQueue.length < 64 →
            ∃ y, u.session m = some y ∧ y.evQueue.any (·.1 == st) = true)) ∧
    (∀ data, r.acc = .rws → data.length = r.words → isEntryObj o = false → notWritable o = false →
      ∃ u, exec (.registerWrite t n o data) s = .next u ∧ u.lastOp.status = stOk ∧ u.dict = v.dict ∧
        ∃ y, u.session n = some y ∧
          lastWrite (y.txn.getD []) o none = some (wordsVal data &&& BitVec.ofNat 96 r.mask))

/-- R317, R326, R337, R387: an op that is turned away names why and changes nothing but the instant of its session's latest
message: an object the session does not see, another session's claim, an object its partition may not write or the
fatal state. -/
def Obligations.OpsAreTurnedAway : Prop :=
  ∀ (t n o : Nat) (s v w : State) (x : Session) (r : ObjRow) (data : List Word), 1 ≤ n → n ≤ 32 → o < 4294967296 →
    v = (s.advance t).leasesDue → v.numbersOk → v.serves = true → v.session n = some x → x.closing = false →
      x.newKey = none →
    v.faults.resetWanted = false → findRow o = some r → opFits r (wr o data) = true →
    w = v.modSession n (fun y => { y with lastMsg := v.now }) →
    (v.visible x.part x.sealed o = false → v.on F.FAULT_STATUS_FATAL = false ∨ v.sees x.part o = false →
      exec (.registerWrite t n o data) s = .next { w with lastOp := ⟨o, stUnknown, 0, data.length, []⟩ }) ∧
    (v.on F.FAULT_STATUS_FATAL = true ∧ v.sees x.part o = true ∨ v.visible x.part x.sealed o = true ∧
        (v.on F.FAULT_STATUS_FATAL = true ∨ r.acc = .ro ∨ r.acc = .rc ∨ (r.acc ≠ .rws ∧ v.mayWrite x.part o = false)) →
      exec (.registerWrite t n o data) s = .next { w with lastOp := ⟨o, stAccess, 0, data.length, []⟩ }) ∧
    (v.visible x.part x.sealed o = true → v.on F.FAULT_STATUS_FATAL = false → r.acc ≠ .ro → r.acc ≠ .rc →
      r.acc = .rws ∨ v.mayWrite x.part o = true → v.claimHolder n o ≠ 0 →
      exec (.registerWrite t n o data) s =
        .next { w with lastOp := ⟨o, stClaimed, v.claimHolder n o, data.length, []⟩ })

/-- R330, R331, R348, R349, R353: FOLLA_CONFIG takes values in its ranges, and no session of a transport that it disables
stays open; SESSION_CONTROL ends its session; an address filter is written unless that would shut out an open session. -/
def Obligations.SessionAndFilterWrites : Prop :=
  ∀ (t n : Nat) (s v : State) (x : Session), 1 ≤ n → n ≤ 32 → v = (s.advance t).leasesDue → v.numbersOk →
    (∀ w, v.writesObj n x O.FOLLA_CONFIG → ∃ u, exec (.follaConfigWrite t n w) s = .next u ∧
      if v.follaConfigOk (BitVec.ofNat 96 w.toNat) then
        u.lastOp.status = stOk ∧ u.fld F.FOLLA_CONFIG_LEASE_DEFAULT = w.toNat / 2 ^ 16 ∧
        u.on F.FOLLA_CONFIG_ETH_EN = w.getLsbD 0 ∧ u.on F.FOLLA_CONFIG_SPI_EN = w.getLsbD 1 ∧
        ∀ y, y ∈ u.sessions →
          (∀ m, y.transport = .eth m → w.getLsbD 0 = true) ∧ (y.transport = .spi → w.getLsbD 1 = true)
      else u.lastOp.status = stValue ∧ u.dict = v.dict) ∧
    (∀ m, 1 ≤ m → m ≤ 32 → v.writesObj n x (objAt O.SESSION_CONTROL m) →
      ∃ u, exec (.sessionControlClose t n m) s = .next u ∧ u.session m = none) ∧
    (∀ m k a, m < 2 → k < 8 → v.writesObj n x (objAt O.ADDR m k) →
      ∃ u, exec (.addrKWrite t n m k a) s = .next u ∧
        if v.filtersSession m k (BitVec.ofNat 96 a.toNat) then
          u.lastOp.status = stValue ∧ u.val (objAt O.ADDR m k) = v.val (objAt O.ADDR m k)
        else u.lastOp.status = stOk ∧ (u.val (objAt O.ADDR m k)).getLsbD 63 = a.getLsbD 63 ∧
          bits (u.val (objAt O.ADDR m k)) 47 0 = a.toNat % 2 ^ 48)

/-- R257, R258, R267, R268, R269: the hold pin as seen; a waiting seat becomes active where the net is high and no peer is
active, else standby; a takeover at the first boundary from its instant on; the relinquish and the force that a host or
AUTO_RELINQUISH asks for. -/
def Obligations.TandemSeats : Prop :=
  ∀ (t n : Nat) (s v w : State) (x : Session), 1 ≤ n → n ≤ 32 → v = s.advance t → w = v.leasesDue →
    (∀ high, ∃ u, exec (.holdPinChange t high) s = .next u ∧ u.tandem.pinHigh = high ∧
      u.tandem.releasedAt = (if high then some v.dts else none) ∧
      u.on F.TANDEM_STATUS_HOLD_PIN = (high || !v.tandemOn || v.dark || v.resetLow) ∧ u.tandemRole = v.tandemRole ∧
      (high = true → v.tandem.pinHigh = false → v.tandemOn = true → v.tandemRole = roleStandby →
        v.on F.TANDEM_STATUS_TAKEOVER_INHIBIT = true →
        u.objBit (F.TANDEM_STICKY_NO_ACTIVE.obj 0) F.TANDEM_STICKY_NO_ACTIVE.lo = true)) ∧
    (∃ u, exec (.standbyWaitExpiry t) s = .next u ∧
      if v.tandemOn && decide (v.tandemRole = roleWaiting) &&
          v.sinceOpt v.tandem.waitFrom (v.fld F.TANDEM_CONFIG_STANDBY_WAIT * ms) then
        if v.tandem.pinHigh && !v.tandem.peer.any (fun r => r.role == .active) then
          u.tandemRole = roleActive ∧ u.tandem.driving = true ∧ u.on F.TANDEM_STATUS_RESYNC = false
        else u.tandemRole = roleStandby ∧ u.tandem.driving = false ∧ u.tandem.wantResync = true ∧
          u.on F.TANDEM_STATUS_RESYNC = true
      else u = v) ∧
    (∃ u, exec (.takeover t) s = .next u ∧
      if v.takeoverFrom.any (· ≤ v.fn * frame) then
        u.tandemRole = roleActive ∧ u.tandem.driving = true ∧ u.fld F.TAKEOVER_FN_FN = v.fn ∧
        u.fld F.TAKEOVERS_COUNT = (v.fld F.TAKEOVERS_COUNT + 1) % 2 ^ 64 ∧
        u.objBit (F.TANDEM_STICKY_TAKEOVER.obj 0) F.TANDEM_STICKY_TAKEOVER.lo = true
      else u = v) ∧
    (∀ p, p = (fun k => decide (1 ≤ k) && (v.fld F.RELINQUISH_MASK_MASK).testBit (k - 1)) →
      ∃ u, exec (.autoRelinquish t) s = .next u ∧
        if v.on F.TANDEM_CONFIG_AUTO_RELINQUISH && v.on F.TANDEM_STATUS_PEER_PRESENT && v.on F.TANDEM_STATUS_PEER_READY &&
            !v.on F.TANDEM_STATUS_PEER_INHIBIT && v.containedOut p && v.tandemOn && decide (v.tandemRole = roleActive) &&
            v.tandem.relinquishAt.isNone then
          u = { v with tandem := { v.tandem with relinquishAt := some (v.fn + 1) } }
        else u = v) ∧
    (w.writesObj n x O.TANDEM_COMMAND → ∃ u, exec (.relinquish t n) s = .next u ∧ u.lastOp.status = stOk ∧
      u.tandem = if w.tandemOn && decide (w.tandemRole = roleActive) && w.tandem.relinquishAt.isNone then
        { w.tandem with relinquishAt := some (w.fn + 1) } else w.tandem) ∧
    (w.writesObj n x O.TANDEM_COMMAND → ∃ u, exec (.takeoverForce t n) s = .next u ∧ u.lastOp.status = stOk ∧
      (w.tandemOn = true → w.tandem.pinHigh = false → w.tandem.driving = false → u.tandem = w.tandem ∧
        u.objBit (F.TANDEM_STICKY_FORCE_REFUSED.obj 0) F.TANDEM_STICKY_FORCE_REFUSED.lo = true) ∧
      (w.tandemOn = true → w.tandem.pinHigh = true → w.tandemRole = roleStandby →
        u.tandem = { w.tandem with force := some w.dts }))

/-- R262, R264, R265, R266: a bad record is counted and not used; the first good one for a boundary is kept, its
sender's state shown; the time sample is T0's copy's, T1's waiting for the boundary; eight boundaries without one end
PEER_PRESENT; a record is sent once a frame for the boundary after it; a resync that has been applied ends. -/
def Obligations.TandemRecords : Prop :=
  ∀ (t p : Nat) (s v : State) (r : TandemRec), p < 2 → tandemRecOk r = true → v = s.advance t →
    (∀ ok bad, ok = (if p = 0 then F.TANDEM_STATUS_T0_OK else F.TANDEM_STATUS_T1_OK) →
      bad = (if p = 0 then O.RECORD_BAD_T0 else O.RECORD_BAD_T1) →
      ∃ u, exec (.tandemRecord t p r) s = .next u ∧
        if v.running && v.tandemOn && v.portHears p then
          if recordBad r then
            u.on ok = false ∧ u.val bad = BitVec.ofNat 96 (((v.val bad).toNat + 1) % 2 ^ 64) ∧ u.tandem = v.tandem
          else u.on ok = true ∧
            (v.tandem.gotFn = some r.fn → u.tandem.peer = v.tandem.peer ∧ u.tandem.missing = v.tandem.missing) ∧
            (p = 0 → u.tandem.t0Fn = some r.fn ∧ u.tandem.late = none) ∧
            (p = 1 → u.tandem.ledger = v.tandem.ledger ∧
              u.tandem.late = if v.tandem.t0Fn = some r.fn then v.tandem.late else some r) ∧
            (v.tandem.gotFn ≠ some r.fn → u.tandem.peer = some r ∧ u.tandem.gotFn = some r.fn ∧ u.tandem.missing = 0 ∧
              u.on F.TANDEM_STATUS_PEER_PRESENT = true ∧ u.on F.TANDEM_STATUS_PEER_READY = r.ready ∧
              u.on F.TANDEM_STATUS_PEER_INHIBIT = r.inhibit ∧ u.fld F.PEER_VERSION_VERSION = r.fwVersion % 2 ^ 32 ∧
              u.on F.TANDEM_STATUS_SEAT_CONFLICT = (r.seatB == v.straps.tseat))
        else u = v) ∧
    (∃ u, exec (.recordLossTimeout t) s = .next u ∧
      if v.tandemOn && decide (8 ≤ v.tandem.missing) then
        u.on F.TANDEM_STATUS_PEER_PRESENT = false ∧ u.on F.TANDEM_STATUS_READY = false
      else u = v) ∧
    (∃ u, exec (.resyncComplete t) s = .next u ∧
      if v.tandemOn && decide (v.tandemRole = roleStandby) && v.on F.TANDEM_STATUS_RESYNC && !v.tandem.wantResync then
        u.on F.TANDEM_STATUS_RESYNC = false ∧ u.tandem.synced = true ∧
        u.val O.RESYNCS = BitVec.ofNat 96 (((v.val O.RESYNCS).toNat + 1) % 2 ^ 64)
      else u = v) ∧
    (∃ u, exec (.tandemRecordSend t) s = .next u ∧
      if v.active && !v.dark && v.tandemOn && decide (v.fn * frame + us ≤ v.dts) &&
          v.tandem.sent.all (fun r => r.fn != (v.fn + 1) % 2 ^ 48) then
        ∃ r, u.tandem.sent = some r ∧ r.fn = (v.fn + 1) % 2 ^ 48 ∧ r.role = roleOf v.tandemRole ∧ r.rver = 1 ∧
          r.crc = crc32c (recordBytes r) ∧ 64 * recordLen r ≤ bodyRoom ∧ r.txTime = time96 (v.fn * frame + us) ∧
            (v.tandemRole ≠ roleActive → r.body = []) ∧
          u.dict = v.dict
      else u = v)

/-- R273, R274, R275, R282: heads and messages with a bad CRC are counted; a good head counts its port's run; a message of
another TYPE is ignored, and one outside its seat's window counts as discarded; own heads and messages are sent once a
frame in their places. -/
def Obligations.RingHeadsAndMessages : Prop :=
  ∀ (t p : Nat) (s v : State), p = 2 ∨ p = 3 → v = s.advance t →
    (∀ h, ringHeadOk h = true → ∃ u, exec (.ringHead t p h) s = .next u ∧
      if v.running && v.galleryOn && v.portHears p then
        if h.crc = crc32c (headBytes h) ∧ h.hver = 1 then
          (u.ringPort p).head = some h ∧ (u.ringPort p).lastFrame = fnOf h.arrival ∧
          (u.ringPort p).heads = (if (v.ringPort p).lastFrame = fnOf h.arrival then (v.ringPort p).heads
            else if (v.ringPort p).lastFrame + 1 = fnOf h.arrival then (v.ringPort p).heads + 1 else 1) ∧
          u.ringPort (5 - p) = v.ringPort (5 - p)
        else u = v.bump O.RING_CRC_BAD
      else u = v) ∧
    (∀ m, ringMsgOk m = true → ∃ u, exec (.ringMessage t p m) s = .next u ∧
      if v.running && v.galleryOn && v.portHears p then
        if m.crc ≠ crc32c (msgBytes m) then u = v.bump O.RING_CRC_BAD
        else if m.type ≠ 1 ∧ m.type ≠ 2 then u = v
        else if v.portService p = false then
          u = v.bump (if p = 2 then O.WINDOW_DISCARD_T2 else O.WINDOW_DISCARD_T3)
        else match windowFrame m.flags.seat ((m.firstAt : Int) - v.hopDelay p) ((m.lastAt : Int) - v.hopDelay p) with
          | none => u = v.bump (if p = 2 then O.WINDOW_DISCARD_T2 else O.WINDOW_DISCARD_T3)
          | some f => (p * 16 + m.flags.seat, (⟨m, f, p⟩ : SeatMsg)) ∈ u.gallery.relay
      else u = v) ∧
    (∃ u, exec (.ringHeadSend t) s = .next u ∧
      if v.onRing && decide (v.fn * frame + 500 * ns ≤ v.dts) && decide (v.dts ≤ v.fn * frame + 4500 * ns) &&
          v.gallery.sentHeads.all (fun q => q.2.fn != v.fn) then
        u.dict = v.dict ∧ (v.portSends p = true →
          ∃ h, (p, h) ∈ u.gallery.sentHeads ∧ h.fn = v.fn ∧ h.hver = 1 ∧ h.epoch = v.epoch ∧
            h.txTime = time96 v.dts ∧ h.crc = crc32c (headBytes h))
      else u = v) ∧
    (∀ w, w < 16 → ∃ u, exec (.ringWindowSend t w) s = .next u ∧ u.dict = v.dict ∧
      if v.onRing && !v.muted && decide (v.fn * frame + windowStart w + 500 * ns ≤ v.dts) &&
          decide (v.dts ≤ v.fn * frame + windowStart (w + 1) - 500 * ns) then
        v.portSends p = true →
          (w = v.seat → v.sendsOwn = true →
            ∃ m, (p * 16 + w, m) ∈ u.gallery.sentMsgs ∧ m = v.ownMsg v.dts ∧ m.originFn = v.fn ∧ m.hops = 0 ∧
              m.crc = crc32c (msgBytes m)) ∧
          (∀ m, w ≠ v.seat → v.relayOf p w v.dts = some m → (p * 16 + w, m) ∈ u.gallery.sentMsgs)
      else u = v)

/-- R271, R272, R279, R280, R283, R285: the root removes a seat that has been silent 8000 frames; an announced epoch is
adopted at its frame; the root decides GO or ABORT; TIME_ERROR becomes unknown and the device mutes; it unmutes after
8000 good frames; the host's catch-up, discard and relearn. -/
def Obligations.GalleryDecisions : Prop :=
  ∀ (t n : Nat) (s v : State) (x : Session), 1 ≤ n → n ≤ 32 → v = s.advance t →
    (∀ k, k < 16 → ∃ u, exec (.seatAbsence t k) s = .next u ∧
      if v.galleryOn && !v.presentSeats.contains k && (v.fld F.ROSTER_PRESENT).testBit k then u = v.showPresent
        else u = v) ∧
    (∀ k, k < 16 → ∃ u, exec (.rosterRemoval t k) s = .next u ∧
      if v.galleryOn && v.isRoot && decide (k ≠ v.seat) && (v.fld F.ROSTER_IN_ROSTER).testBit k &&
          decide (((v.gallery.seats.find? (·.1 == k)).map (·.2.frame)).getD v.gallery.rootSince + 8000 ≤ v.fn) then
        u.fld F.ROSTER_IN_ROSTER = v.fld F.ROSTER_IN_ROSTER - 2 ^ k ∧
        ∃ f, u.gallery.nextEpoch = some (nextEpoch v.epoch v.seat, f + 16) ∧ v.fn ≤ f ∧ f ≤ v.fn + 1
      else u = v) ∧
    (∃ u, exec (.epochAdoption t) s = .next u ∧
      ((∃ e f, v.gallery.nextEpoch = some (e, f) ∧ v.galleryOn = true ∧ f ≤ v.fn ∧ u.epoch = e % 2 ^ 32 ∧
        u.gallery.nextEpoch = none ∧
        (v.galleryState = gJoining → v.gallery.inNextRoster = true → u.galleryState = gMember)) ∨
       (u = v ∧ ∀ e f, v.gallery.nextEpoch = some (e, f) → v.galleryOn = false ∨ v.fn < f))) ∧
    (∃ u, exec (.gxGoDecision t) s = .next u ∧
      ∀ y, v.txns.find? (·.st == .waitGo) = some y →
        if v.galleryOn && v.isRoot && decide (v.gallery.gxSeen = 0) && decide (y.fn = v.fn + 10) then
          u.gallery.gxSeen = (if v.allReady y then gxGo else gxAbort) ∧ u.txns = v.txns
        else u = v) ∧
    (∃ u, exec (.timeErrorUnknown t) s = .next u ∧
      if v.galleryOn && decide (8 ≤ v.gallery.unknownRun) then
        u.fld F.TIME_ERROR_ERR = errUnknown ∧ u.muted = true ∧
        (v.muted = false → u.objBit (F.GALLERY_STICKY_MUTED.obj 0) F.GALLERY_STICKY_MUTED.lo = true)
      else u = v) ∧
    (∃ u, exec (.unmute t) s = .next u ∧
      if v.galleryOn && v.muted && decide (8000 ≤ v.gallery.quietRun) then u.muted = false else u = v) ∧
    (∀ w, w = v.leasesDue → w.writesObj n x O.GALLERY_COMMAND →
      (∃ u, exec (.ringRelearn t n) s = .next u ∧ u.lastOp.status = stOk ∧
        u.gallery = if w.muted then { w.gallery with relearned := true } else w.gallery) ∧
      (∃ u, exec (.gxCatchup t n) s = .next u ∧ u.lastOp.status = stOk ∧
        ∀ y, w.heldTxn = some y →
          u.gallery = if w.rootGxLast = some y.gxId ∧ w.galleryState = gMember then { w.gallery with catchup := some w.fn }
            else w.gallery) ∧
      (∃ u, exec (.gxDiscard t n) s = .next u ∧ u.lastOp.status = stOk ∧
        ∀ y, w.heldTxn = some y → u.heldTxn = none ∧ u.fld F.GX_STATUS_STATE = 0))

/-- R324, R330, R331, R341, R419: a message that is not well formed is discarded; an OPEN opens a session under the number
that ended longest ago, or is refused. -/
def Obligations.OpenStartsASession : Prop :=
  ∀ (t part idle : Nat) (src : Src) (h : Head) (auth events : Bool) (nonce : List Byte) (s v : State),
    srcUnit src = true → headUnit h = true → part < 256 → nonce.length = 32 →
    v = (s.advance t).leasesDue → v.numbersOk →
    v.serves = true →
    (v.shut src.transport = true ∨ h.version ≠ 1 ∨ h.response = true ∨ h.lengthOk = false →
      exec (.openMsg t src h part auth events idle nonce) s = .next (v.bump O.FOLLA_DISCARDS)) ∧
    (v.shut src.transport = false → h.version = 1 → h.response = false → h.lengthOk = true → h.sealed = false →
      (h.trailerOk = false →
        exec (.openMsg t src h part auth events idle nonce) s = .next (v.bump O.FOLLA_DISCARDS)) ∧
      (h.trailerOk = true →
        (∀ p, p ∈ v.opened → p.2.1 = h.seq → sameEnd p.1.transport p.1.peer src.transport src.peer = true →
          p.2.2.2 + sec < v.now) →
        ∃ u, exec (.openMsg t src h part auth events idle nonce) s = .next u ∧ ∃ r, u.lastReply = some r ∧
          r.response = true ∧ r.seq = h.seq ∧
          match v.openRefused part auth with
          | some st => r.status = st ∧ u.freeNums = v.freeNums ∧ u.sessions.map (·.num) = v.sessions.map (·.num)
          | none => r.status = stOk ∧ ∃ n k x, v.freeNums = n :: u.freeNums ∧ u.session n = some x ∧
              u.sessions.map (·.num) = v.sessions.map (·.num) ++ [n] ∧ (auth = false → k = []) ∧ x.key = k ∧
              x.part = part ∧ x.transport = src.transport ∧ x.sealed = auth ∧ x.next = (h.seq + 1) % 2 ^ 32 ∧
              x.events = events ∧ x.txn = none ∧
              x.idle = (if idle = 0 then v.fld F.FOLLA_CONFIG_IDLE_DEFAULT else idle) * sec ∧ x.lastMsg = v.now))

/-- R326, R328, R331, R340, R343: requests of a session: KEEPALIVE and CLOSE; EVENT_ACK drops the event sent under its SEQ;
the ops of an ACCESS run in order up to the first that is not OK, and none where the reply would be too long; a sealed
session ends before its SEQ would wrap. -/
def Obligations.SessionRequests : Prop :=
  ∀ (t : Nat) (src : Src) (h : Head) (s v w : State) (x y : Session), srcUnit src = true → headUnit h = true →
    v = (s.advance t).leasesDue → v.talks src h x → y = x.after src h v.now → w = v.setSession y →
    (∃ u, exec (.closeMsg t src h) s = .next u ∧ u.replied x h stOk ∧ u.session x.num = none) ∧
    (∃ u, exec (.keepaliveMsg t src h) s = .next u ∧ u.replied x h stOk ∧ u.txns = v.txns ∧
      (x.goesOn h → ∃ z, u.session x.num = some z ∧ z.next = (h.seq + 1) % 2 ^ 32 ∧ z.lastMsg = v.now ∧
        z.txn = x.txn) ∧
      (x.sealed = true → h.seq = 2 ^ 32 - 1 → u.session x.num = none)) ∧
    (∀ seq, x.goesOn h → ∃ u, exec (.eventAckMsg t src h seq) s = .next u ∧ u.replied x h stOk ∧
      ∃ z, u.session x.num = some z ∧ z.evSent = x.evSent.filter (·.seq != seq)) ∧
    (∀ ops, ops.all opUnit = true → ∃ u, exec (.accessMsg t src h ops) s = .next u ∧
      ((1400 < replySize ops → u.replied x h stLength) ∧
       ∀ rs q, replySize ops ≤ 1400 → (rs, q) = State.runOps x.num ops w → q.faults.resetWanted = false →
        u.replied x h ((rs.getLast?.map (·.status)).getD stOk) ∧ rs.length ≤ ops.length ∧
        (∀ k r op, rs[k]? = some r → ops[k]? = some op → r.obj = op.obj ∧ (k + 1 < rs.length → r.status = stOk)) ∧
        ∃ r, u.lastReply = some r ∧ r.body = rs.flatMap resultBytes))

/-- R332, R334, R336: COMMIT of an open transaction admits it where every check passes, and reports the check that fails;
DRY_RUN answers the same and changes nothing; ABORT discards; CANCEL withdraws a pending transaction early enough. -/
def Obligations.TransactionRequests : Prop :=
  ∀ (t : Nat) (src : Src) (h : Head) (s v w : State) (x y : Session), srcUnit src = true → headUnit h = true →
    v = (s.advance t).leasesDue → v.talks src h x → x.goesOn h → y = x.after src h v.now → w = v.setSession y →
    (∀ named, ∃ u, exec (.commitMsg t src h named) s = .next u ∧
      match x.txn with
      | none => u.replied x h stNoTxn ∧ u.txns = v.txns
      | some ws => match w.judge y ws named with
        | .inl _ => u.replied x h stRejected ∧ u.txns = v.txns ∧ ∃ z, u.session x.num = some z ∧ z.txn = some ws
        | .inr fn => u.replied x h stOk ∧ u.nextTxn = v.nextTxn + 1 ∧
            (∃ st, u.txns = v.txns ++ [⟨v.nextTxn, x.num, fn, ws, st, gxOf ws⟩]) ∧
            (∃ z, u.session x.num = some z ∧ z.txn = none) ∧
            (ws.any isEntryWr = true → u.xc.stage = .txn v.nextTxn ∧ u.fld F.XC_PENDING_FN_FN = fn % 2 ^ 48)) ∧
    (∀ named, ∃ u, exec (.dryRunMsg t src h named) s = .next u ∧ u.txns = v.txns ∧ u.xc = v.xc ∧
      (∃ z, u.session x.num = some z ∧ z.txn = x.txn) ∧
      match x.txn with
      | none => u.replied x h stNoTxn
      | some ws => match w.judge y ws named with
        | .inl _ => u.replied x h stRejected
        | .inr _ => u.replied x h stOk) ∧
    (∃ u, exec (.abortMsg t src h) s = .next u ∧ u.txns = v.txns ∧
      (∃ z, u.session x.num = some z ∧ z.txn = none) ∧ (x.txn = none → u.replied x h stNoTxn) ∧
      (x.txn ≠ none → u.replied x h stOk ∧
        (v.xc.stage = .session x.num → v.txns.all (fun q => q.st != .held) = true → u.xc.stage = .free))) ∧
    (∀ id, ∃ u, exec (.cancelMsg t src h id) s = .next u ∧
      match v.txns.find? (fun q => q.id == id) with
      | none => u.replied x h stValue ∧ u.txns = v.txns
      | some q => if q.sess = x.num ∧ q.st = .pending ∧ v.fn + 3 ≤ q.fn then
          u.replied x h stOk ∧ u.txns = v.txns.filter (fun r => r.id != id)
        else u.replied x h stNotCancellable ∧ u.txns = v.txns)

/-- R33, R337, R338: CLAIM of a visible object that no other session or hardware claim covers gives the session a lease, and
tells of a claim abandoned before; RENEW extends its own lease; RELEASE frees it without a mark; another session's
claim turns each away. -/
def Obligations.ClaimRequests : Prop :=
  ∀ (t obj scope lease k : Nat) (src : Src) (h : Head) (s v : State) (x : Session), srcUnit src = true →
    headUnit h = true → obj < 4294967296 →
    v = (s.advance t).leasesDue → v.talks src h x → x.goesOn h → k = claimKey obj scope →
    scope ≤ 1 → k ≠ stageKey → v.keyHidden x obj scope = false →
    (∃ u, exec (.claimMsg t src h obj scope lease) s = .next u ∧
      if v.overlapHolder x.num k ≠ 0 ∨ v.hwHolds k = true then u.replied x h stClaimed ∧ u.claims = v.claims
      else if (v.claim k).holder ≠ x.num ∧ (v.claim k).mark = false ∧ 256 ≤ v.claims.length then
        u.replied x h stBusy ∧ u.claims = v.claims
      else u.replied x h (if (v.claim k).holder ≠ x.num ∧ (v.claim k).mark = true then stAbandoned else stOk) ∧
        (x.num ≠ 0 →
          u.claim k = ⟨x.num, v.gen (ownSession x.num), v.now + v.leaseMs lease * ms, v.leaseMs lease, false⟩)) ∧
    (∃ u, exec (.renewMsg t src h obj scope lease) s = .next u ∧
      if (v.claim k).holder = x.num ∧ x.num ≠ 0 then u.replied x h stOk ∧
        u.claim k = { v.claim k with leaseEnd := v.now + v.leaseMs lease * ms, lease := v.leaseMs lease }
      else u.replied x h (if v.coverHolder x.num k = 0 then stAccess else stClaimed) ∧ u.claims = v.claims) ∧
    (∃ u, exec (.releaseMsg t src h obj scope) s = .next u ∧
      if (v.claim k).holder = x.num ∧ x.num ≠ 0 then u.replied x h stOk ∧ u.claim k = noClaim
      else u.replied x h (if v.coverHolder x.num k = 0 then stAccess else stClaimed) ∧ u.claims = v.claims)

/-- R346: the host port takes a message where its buffer has room; READ_MSG clocks out a message with its length before it,
which then leaves the buffer; READ_STATUS gives the bytes that wait and the room. -/
def Obligations.SpiPort : Prop :=
  ∀ (t : Nat) (s v : State), v = s.advance t → v.macsRun = true →
    (∀ bytes, ∃ u, exec (.writeMsg t bytes) s = .next u ∧
      (8192 < v.spiFill + bytes.length → u = v.bump O.SPI_DROPPED) ∧
      (v.spiFill + bytes.length ≤ 8192 → u = { v with spiIn := v.spiIn ++ [bytes] }.serveAll ∧
        (v.serves = false → u.spiIn = v.spiIn ++ [bytes] ∧ u.dict = v.dict))) ∧
    (∀ clocked, ∃ u, exec (.readMsg t clocked) s = .next u ∧ u.dict = v.dict ∧
      match v.spiOut with
      | [] => u.miso = ([0, 0] : List Byte).take clocked ∧ u.spiOut = []
      | r :: q => u.miso = (beBytes 2 r.wire.length ++ r.wire).take clocked ∧
          u.spiOut = if 2 + r.wire.length ≤ clocked then q else v.spiOut) ∧
    (∃ u, exec (.readStatus t) s = .next u ∧ u.dict = v.dict ∧ u.spiOut = v.spiOut ∧
      u.miso = beBytes 2 v.spiWaiting ++ beBytes 2 (8192 - v.spiFill))

/-- R155, R157, R217, R219, R284, R285, R335: a transaction whose frame has come applies and is pending no more; one that
ABORT ended is withdrawn, one that neither GO nor ABORT reached is held, and one that GO reached applies and gives GX_LAST;
the copy of a switched page ends once every lane has let its frame go; a frame boundary is handled once, under the epoch
and the transactions that are due at it, and selects the candidate chosen. -/
def Obligations.TransactionsTakeEffect : Prop :=
  ∀ (t id : Nat) (s v : State), v = s.advance t →
    ((∀ q, v.firstDue = some q → q.id ≠ id) ∨ v.running = false ∨ v.resetLow = true →
      exec (.transactionApply t id) s = .next v) ∧
    (∀ q, v.firstDue = some q → q.id = id → v.running = true → v.resetLow = false →
      (q.st = .pending → exec (.transactionApply t id) s =
        .next ({ v with txns := v.txns.filter (fun r => r.id != id) }.applyWrs id q.writes q.fn)) ∧
      (∀ x, q.st = .pending → q.writes = [⟨O.TEST_BYTE, none, BitVec.ofNat 96 x⟩] →
        (∀ k, k < 6 → v.objBit O.MODES_ACTIVE k = v.modeBit k) → ∃ u, exec (.transactionApply t id) s = .next u ∧
          u.txns = v.txns.filter (fun r => r.id != id) ∧ u.fld F.TEST_BYTE_BYTE = x % 256) ∧
      (q.st = .waitGo → v.galleryOn = true → v.gallery.gxSeen = gxAbort → ∃ u, exec (.transactionApply t id) s = .next u ∧
        u.txns = v.txns.filter (fun r => r.id != id) ∧ u.fld F.GX_STATUS_STATE = 0 ∧
        u.objBit (F.GALLERY_STICKY_GX_ABORTED.obj 0) F.GALLERY_STICKY_GX_ABORTED.lo = true) ∧
      (q.st = .waitGo → v.galleryOn = true → v.gallery.gxSeen = gxGo → v.galleryState = gMember → v.quarantined = false →
        ∃ u, exec (.transactionApply t id) s = .next u ∧ u.fld F.GX_LAST_ID = q.gxId % 2 ^ 32 ∧
          u.fld F.GX_STATUS_STATE = 0 ∧ u.gallery.gxSeen = 0) ∧
      (q.st = .waitGo → v.galleryOn = true → v.gallery.gxSeen ≠ gxAbort →
        v.gallery.gxSeen ≠ gxGo ∨ v.galleryState ≠ gMember ∨ v.quarantined = true →
        ∃ u, exec (.transactionApply t id) s = .next u ∧
          u.txns = v.txns.map (fun r => if r.id = id then { r with st := TxnState.held } else r) ∧
          u.fld F.GX_STATUS_STATE = 2 ∧
          u.objBit (F.GALLERY_STICKY_GX_HELD.obj 0) F.GALLERY_STICKY_GX_HELD.lo = true)) ∧
    (v.xc.copy = none ∨ v.switchFilled = false → exec (.xcCopyComplete t) s = .next v) ∧
    (∀ gs, v.xc.copy = some gs → v.switchFilled = true → ∃ u, exec (.xcCopyComplete t) s = .next u ∧
      u.xc.copy = none ∧ u.xc.stage = .free ∧ u.xc.leaseEnd = none ∧ u.xc.force = v.xc.force ∧
      (∀ g, u.xc.active g = v.xc.active g) ∧ (∀ g, g ∈ gs → u.xc.entryOn (!v.xc.force) g = v.xc.active g) ∧
      ∀ g, g ∉ gs → u.xc.entryOn (!v.xc.force) g = v.xc.entryOn (!v.xc.force) g) ∧
    (∀ seen y w x, boundaryUnits seen = true →
      y = ((v.boundaryDone.frameEnds seen).tandemBoundary).epochAdopt →
      w = ((State.applyDue y.txns.length y).boundaryDone).galleryBoundary →
      x = (List.range 114).foldl (fun s c => s.candWatch c) w →
      (v.atBoundary = false → exec (.frameBoundary t seen) s = .next v) ∧
      (v.atBoundary = true → ∃ u, exec (.frameBoundary t seen) s = .next u ∧
        (x.follows = none → u.fld F.LOOP_STATUS_SELECTED = selCode x.choose) ∧ u.timing.lastFrame = w.timing.lastFrame ∧
        u.dts = w.dts))

/-- R103, R105, R117, R173: a framing word moves the framer between out of frame and in frame, but not while LOS masks
it, nor one that came before the framer searched; a frame out of frame is not landed; one in frame goes to its landing
frame, the ledger and the monitors as it was decoded; a client block moves the block lock. -/
def Obligations.FramesAreReceived : Prop :=
  ∀ (t l : Nat) (s v : State), l < 96 → v = s.advance t →
    v.spiIn = [] → v.dccIn = [] → (v.mac 0).rx = [] → (v.mac 1).rx = [] →
    (∀ rx, ttfRxOk rx = true →
      (v.isTtf l = false ∨ v.framing l rx.arrival = false →
        exec (.ttfFrameReceive t l rx) s = .next (v.lineEcho l rx.prior rx.line)) ∧
      (v.isTtf l = true → v.framing l rx.arrival = true →
        (v.rxSymbols l rx.line rx.prior = none → exec (.ttfFrameReceive t l rx) s =
          .next (((v.sawFraming l false rx.pos rx.arrival).laneHook l).lineEcho l rx.prior rx.line)) ∧
        ∀ line prior f w, v.rxSymbols l rx.line rx.prior = some (line, prior) →
          f = ttfDecode (v.rate l) (v.on F.LANE_CONFIG_FEC_DETECT_ONLY l) (v.lane l).rxTtf rx (v.rxBits l prior line) →
          w = v.sawFraming l f.fawOk f.pos f.arrival →
          ((w.lane l).inFrame = (if v.defect l dLos then (v.lane l).inFrame
            else if (v.lane l).inFrame then f.pos != (v.lane l).framePos || f.fawOk || decide ((v.lane l).badWords ≠ 3)
            else f.fawOk && (v.lane l).candidate.any (·.1 == f.pos))) ∧
          (w.framedAt l f.pos = true → exec (.ttfFrameReceive t l rx) s = .next
            (((((w.ttfInFrame l f).modLane l fun x => { x with rxTtf := some f.parity }).laneHook l).lineEcho l rx.prior
              rx.line).serveAll)) ∧
          (w.framedAt l f.pos = false → (w.lane l).inFrame = true →
            exec (.ttfFrameReceive t l rx) s = .next (w.lineEcho l rx.prior rx.line)) ∧
          ((w.lane l).inFrame = false → ∃ u, exec (.ttfFrameReceive t l rx) s = .next u ∧
            (u.lane l).inFrame = false ∧ (u.lane l).landings = (v.lane l).landings))) ∧
    (∀ rx, sdhRxOk rx = true →
      (v.isSdh l = false ∨ v.framing l rx.arrival = false →
        exec (.sdhFrameReceive t l rx) s = .next (v.lineEcho l 0 rx.line)) ∧
      (v.isSdh l = true → v.framing l rx.arrival = true →
        (v.rxSymbols l rx.line 0 = none → exec (.sdhFrameReceive t l rx) s =
          .next (((v.sawFraming l false rx.pos rx.arrival).laneHook l).lineEcho l 0 rx.line)) ∧
        ∀ line prior f w, v.rxSymbols l rx.line 0 = some (line, prior) →
          f = sdhDecode (v.rate l) (v.on F.SDH_CONFIG_SCRAMBLE_OFF l) (v.lane l).rxSdh rx (v.rxBits l prior line) →
          w = v.sawFraming l f.fawOk f.pos f.arrival →
          (w.framedAt l f.pos = true → exec (.sdhFrameReceive t l rx) s = .next
            (((((w.sdhInFrame l f).modLane l fun x => { x with rxSdh := some f.parity }).laneHook l).lineEcho l 0
              rx.line).serveAll)) ∧
          (w.framedAt l f.pos = false → (w.lane l).inFrame = true →
            exec (.sdhFrameReceive t l rx) s = .next (w.lineEcho l 0 rx.line)) ∧
          ((w.lane l).inFrame = false → ∃ u, exec (.sdhFrameReceive t l rx) s = .next u ∧
            (u.lane l).inFrame = false ∧ (u.lane l).landings = (v.lane l).landings))) ∧
    (∀ sync payload,
      (v.receives l = false ∨ v.isClient l = false ∨ v.defect l dLos = true ∨ v.heldHalted 2 l = true ∨
          v.rxBlock l (sync, payload) = none →
        exec (.clientBlockReceive t l sync payload) s = .next (v.lineEcho l 0 (blockLine sync payload))) ∧
      (∀ x y valid, v.receives l = true → v.isClient l = true → v.defect l dLos = false → v.heldHalted 2 l = false →
        v.rxBlock l (sync, payload) = some x → y = wireBlock (v.on F.LANE_CONFIG_RX_INVERT l) x →
        valid = (y.1 == 1#2 || y.1 == 2#2) → ∃ u, exec (.clientBlockReceive t l sync payload) s = .next u ∧
          (u.lane l).blockLock = (if (v.lane l).blockLock then decide ((v.lane l).winBad + boolBit (!valid) ≠ 16)
            else valid && decide ((v.lane l).goodHdrs = 63)) ∧
          (u.lane l).hbCount = (v.lane l).hbCount + boolBit (!valid)))

/-- R172, R174, R178, R179, R182, R184: at its ready instant a landing frame that nothing completed carries AIS; a slot whose
source is there is stored for its egress frame; at its release instant a frame leaves, or is discarded by a lane that does
not send, and no frame of a number up to it leaves again. -/
def Obligations.FramesLandAndLeave : Prop :=
  ∀ (t l fn k : Nat) (s v : State), l < 96 → k < 1024 → v = s.advance t →
    (∃ u, exec (.landingFrameReady t fn) s = .next u ∧
      if v.active && decide (v.readyAt fn ≤ v.dts) && decide (v.dts < v.readyAt (fn + 1)) then
        (v.isTtf l = true → v.landing l fn = none →
          (v.aligned l && (v.lane l).nextL.all (· ≤ fn)) = false →
          ∃ y, u.landing l fn = some y ∧ y.ais = true ∧ y.complete = some (v.readyAt fn)) ∧
        (v.isSdh l = true → ∃ y, u.landing l fn = some y ∧ y.complete.isSome = true)
      else u = v) ∧
    (v.oldObjs fn = [] → v.oldWords fn = [] → v.aheadWrs fn = [] →
      (∃ u, exec (.slotComplete t l fn k) s = .next u ∧
      ∀ e, e = v.xc.entryAt fn (slotIdx l k) →
        (v.active = false ∨ v.laneSlots l ≤ k ∨ sourced e = false ∨ v.heldHalted 7 l = true → u = v) ∧
        (∀ L p c, v.active = true → k < v.laneSlots l → sourced e = true → v.heldHalted 7 l = false →
          v.readsFrame l fn = some L → p = (if entryAction e = 0 then v.pickSource fn L (slotIdx l k) else (false, v)) →
          p.2.readSource e (entrySource e (slotIdx l k) p.1) L fn = some c → v.storeOf l fn k = none →
          u.storeOf l fn k = if (v.lane l).lastRel.any (fn ≤ ·) then none else
            some ⟨fn, k, p.2.writtenAt (p.2.sourceComplete e (entrySource e (slotIdx l k) p.1) L), c⟩)) ∧
      (∀ x, x = v.releaseAt l fn → ∃ u, exec (.egressFrameRelease t l fn) s = .next u ∧
        if v.mayRelease l fn && v.cadenceOf l fn && decide (v.dts = x) then
          (u.lane l).lastRel = some fn ∧ (v.transmits l fn = false → (u.lane l).lastTx = none) ∧
          (v.transmits l fn = true → v.loopLine l = true → (u.lane l).lastTx = (v.lane l).lastTx ∧
            (u.lane l).txEnd = none) ∧
          (v.transmits l fn = true → v.loopLine l = false → (u.lane l).txEnd = some (x + frame) ∧
            ∃ f, (u.lane l).lastTx = some f ∧ f.fn = fn ∧ f.at_ = x)
        else u.lanes = v.lanes) ∧
      (∀ x d, v.frameDoneAt l fn = some d → x = max d ((v.lane l).txEnd.getD d) →
        ∃ u, exec (.egressFrameComplete t l fn) s = .next u ∧
        if v.mayRelease l fn && v.inTurn l fn && !v.cadenceOf l fn && decide (x ≤ v.dts) && decide (v.dts < x + frame) then
          (u.lane l).lastRel = some fn ∧ (v.transmits l fn = false → (u.lane l).lastTx = none) ∧
          (v.transmits l fn = true → v.loopLine l = true → (u.lane l).lastTx = (v.lane l).lastTx ∧
            (u.lane l).txEnd = none) ∧
          (v.transmits l fn = true → v.loopLine l = false → (u.lane l).txEnd = some (x + frame) ∧
            ∃ f, (u.lane l).lastTx = some f ∧ f.fn = fn ∧ f.at_ = x)
        else u.lanes = v.lanes))

/-- R382, R383, R385, R386, R387, R392, R393: a fatal fault silences the device and opens a record with step 4; a corrected
bank error is counted; faults raised while a record is handled join it; a fatal record goes to flash; the spare pair
takes service; FAULT_ACK and FAULT_DECLARE. -/
def Obligations.FaultsAreCollected : Prop :=
  ∀ (t n : Nat) (s v w : State) (x : Session) (f : FaultIn), 1 ≤ n → n ≤ 32 → faultUnit f = true → v = s.advance t →
    w = v.leasesDue →
    v.faults.resetWanted = false →
    (∃ u, exec (.faultRaise t f) s = .next u ∧ (v.alive = false → u = v) ∧
      (v.alive = true → v.faultClass f = clsFatal →
        u.faults.fatal = true ∧ u.on F.FAULT_STATUS_FATAL = true ∧ (f.cause = 0x0E → u.tempo = false) ∧
        (∀ l, l < 96 → (u.lane l).lastTx = none) ∧
        (v.openNow = none → ∃ r, u.faults.log.head? = some r ∧ r.record = v.fld F.FAULT_NEWEST_RECORD + 1 ∧
          r.cls = clsFatal ∧ r.cause = f.cause ∧ r.subsystem = f.subsystem ∧ r.inst = f.inst ∧ r.step = 4 ∧ r.merges = 0 ∧
          u.faults.handling = some (r.record, v.now + 20 * us)) ∧
        (∀ k, v.openNow = some k → u.faults.log.length = v.faults.log.length ∧
          ∀ r, r ∈ u.faults.log → r.record = k → clsFatal ≤ r.cls ∧ r.step = 4 ∧ 1 ≤ r.merges)) ∧
      (v.alive = true → f.cause = 0x01 →
        u.fld F.CORR_COUNT f.inst = (v.fld F.CORR_COUNT f.inst + 1) % 2 ^ 64 ∧
        u.fld F.CORRECTED_COUNT_COUNT = (v.fld F.CORRECTED_COUNT_COUNT + 1) % 2 ^ 64 ∧
        u.objBit (F.FAULT_STICKY_CORRECTED.obj 0) F.FAULT_STICKY_CORRECTED.lo = true ∧
        (v.openNow = none → v.on F.FAULT_CONFIG_CORR_LOG = false → u.faults.log = v.faults.log))) ∧
    (∃ u, exec (.fatalFault t f) s = .next u ∧ (v.faultClass f ≠ clsFatal → u = v) ∧
      (v.faultClass f = clsFatal → v.alive = true → u.faults.fatal = true ∧
        (v.on F.FAULT_CONFIG_FATAL_TO_FLASH = true →
          u.faults.toFlash = u.faults.log.head?.map fun r => (r, v.now)))) ∧
    (∃ u, exec (.fatalRecordWritten t) s = .next u ∧
      match v.faults.toFlash with
      | some (r, _) => u.faults.flashRecord = some r ∧ u.faults.toFlash = none
      | none => u = v) ∧
    (v.spiIn = [] → v.dccIn = [] → (v.mac 0).rx = [] → (v.mac 1).rx = [] →
      ∃ u, exec (.pairBInService t) s = .next u ∧
        if v.faults.handover.isSome then u.faults.handover = none ∧ u.faults.pairB = !v.faults.pairB else u = v) ∧
    (∀ k, w.writesObj n x O.FAULT_ACK → ∃ u, exec (.faultAck t n k) s = .next u ∧ u.lastOp.status = stOk ∧
      u.faults.outstanding = w.faults.outstanding.filter (· != k.toNat) ∧ u.faults.log = w.faults.log) ∧
    (∀ o, w.writesObj n x O.FAULT_DECLARE → ∃ u, exec (.faultDeclare t n o) s = .next u ∧
      (65536 ≤ o.toNat ∨ o.toNat = 0 ∨ (32 < o.toNat ∧ o.toNat < 0x4000) → u.lastOp.status = stValue ∧ u.dict = w.dict) ∧
      (1 ≤ o.toNat → o.toNat ≤ 32 → u.lastOp.status = stOk ∧
        u.gen (ownSession o.toNat) = nextGen (w.gen (ownSession o.toNat))))

/-- R386, R395, R396, R397, R401: a write of REINIT starts the reinitialisation of an instance that exists; its end settles
its records; one that takes too long escalates: a warm reset, or the instance is halted; DEVICE_RESET with its key
resets the device. -/
def Obligations.Reinitialisations : Prop :=
  ∀ (t n sub inst : Nat) (s v w : State) (x : Session) (r : Reinit), 1 ≤ n → n ≤ 32 → v = s.advance t → w = v.leasesDue →
    r = v.reinitOf sub inst → v.faults.resetWanted = false →
    (sub < 64 → inst < 256 → w.writesObj n x O.REINIT → ∃ u, exec (.reinit t n sub inst) s = .next u ∧
      (reinitOk sub inst = false → u.lastOp.status = stValue ∧ u.dict = w.dict) ∧
      (reinitOk sub inst = true →
        (if r.running then 0 else 1) +
          (if r.halted then 0
            else (r.starts.filter fun a => w.now < a + 60 * sec).length) ≤ w.fld F.FAULT_CONFIG_REINIT_LIMIT →
        u.lastOp.status = stOk ∧ u.fld F.REINIT_STATUS_LAST = sub ∧ (u.reinitOf sub inst).running = true ∧
        (u.reinitOf sub inst).halted = false ∧ u.on F.REINIT_STATUS_BUSY = true)) ∧
    (partyUnit sub inst = true →
      (∃ u, exec (.reinitComplete t sub inst) s = .next u ∧ (r.running = false → u = v) ∧
        (r.running = true → sub ≠ 15 → (u.reinitOf sub inst).running = false ∧ r.record ∉ u.faults.outstanding)) ∧
      (∃ u, exec (.reinitTimeout t sub inst) s = .next u ∧
        if r.running && decide (v.reinitMax sub inst < v.now - r.began) then
          if v.on F.FAULT_CONFIG_AUTO_RESET then u.startup = .flywheel ∧ u.sessions = []
          else (u.reinitOf sub inst).halted = true ∧ (u.reinitOf sub inst).running = false ∧
            u.on F.REINIT_STATUS_HALTED = true ∧
            u.objBit (F.FAULT_STICKY_ESCALATE.obj 0) F.FAULT_STICKY_ESCALATE.lo = true
        else u = v)) ∧
    (∀ key, w.writesObj n x O.DEVICE_RESET → ∃ u, exec (.deviceReset t n key) s = .next u ∧
      if key = 0x5745524D then
        u.startup = .flywheel ∧ u.sessions = [] ∧ u.txns = [] ∧ u.faults.log = w.faults.log ∧ u.dts = w.dts ∧
        u.objBit (F.FAULT_STICKY_WARM_RESET.obj 0) F.FAULT_STICKY_WARM_RESET.lo = true
      else u.lastOp.status = stValue ∧ u.dict = w.dict)

/-- R405, R410: the hottest sensor is published; throttling starts at THROTTLE_C and ends 5 °C below it; 120 °C is fatal;
a rail's reading is published where the rail is enabled. -/
def Obligations.TemperatureAndRails : Prop :=
  ∀ (t : Nat) (s v : State), v = s.advance t →
    (∀ temps i x, temps.length = 16 → hottest 0 temps = some (i, x) → ∃ u, exec (.tempSample t temps) s = .next u ∧
      if v.running then
        u.fld F.TEMP_MAX_SENSOR = i % 16 ∧ u.fld F.TEMP_MAX_TEMP = unsigned 16 x ∧
        u.on F.POWER_STATUS_THROTTLE =
          (if (v.fld F.THERMAL_CONFIG_THROTTLE_C : Int) * 8 ≤ x then true
           else if x ≤ (v.fld F.THERMAL_CONFIG_THROTTLE_C : Int) * 8 - 40 then false else v.on F.POWER_STATUS_THROTTLE) ∧
        (960 ≤ x → u.faults.fatal = true)
      else u = v) ∧
    (∀ r mv ma, r < 6 → ∃ u, exec (.railTelemetryRead t [(r, mv, ma)]) s = .next u ∧
      if v.running then
        (v.on F.RAIL_CONFIG_ENABLE r = true →
          u.fld F.RAIL_TELEMETRY_MA r = ma % 2 ^ 32 ∧ (r ≠ 0 → u.fld F.RAIL_TELEMETRY_MV r = mv % 2 ^ 32)) ∧
        (v.on F.RAIL_CONFIG_ENABLE r = false → u.val (objAt O.RAIL_TELEMETRY r) = v.val (objAt O.RAIL_TELEMETRY r))
      else u = v)

/-- R415, R417: FW_IMAGE takes the words of an image; VERIFY takes it for checking, whose end gives RESULT and writes the
slot not active; ACTIVATE marks that slot, or loads the engines in boot service. -/
def Obligations.FirmwareIsVerified : Prop :=
  ∀ (t n : Nat) (s v w : State) (x : Session) (r : ObjRow), 1 ≤ n → n ≤ 32 → v = s.advance t → w = v.leasesDue →
    (∀ a i, findRow O.FW_IMAGE = some r → i = w.ptrOf n O.FW_IMAGE % w.windowLen r → w.writesObj n x O.FW_IMAGE →
      ∃ u, exec (.fwImage t n a) s = .next u ∧ u.lastOp.status = stOk ∧
        Map.get 0 i u.vault.imageWords = a ∧ i + 1 ≤ u.vault.imageLen ∧
        u.ptrOf n O.FW_IMAGE = (i + 1) % w.windowLen r) ∧
    (w.writesObj n x O.FW_CONTROL →
      (∃ u, exec (.verify t n) s = .next u ∧
        if w.lifecycle = lcScrapped then u.lastOp.status = stAccess ∧ u.vault = w.vault
        else if w.wiping ∨ w.vault.verifying.isSome then u.lastOp.status = stBusy ∧ u.vault = w.vault
        else u.lastOp.status = stOk ∧ u.vault.verifying = some (imageOf w.imageBytes) ∧ u.vault.verified = none ∧
          u.on F.VAULT_STATUS_BUSY = true) ∧
      (∃ u, exec (.activate t n) s = .next u ∧
        match w.vault.verified with
        | none => u.lastOp.status = stValue ∧ u.vault = w.vault
        | some im => u.lastOp.status = stOk ∧ u.vault.verified = none ∧
            if w.straps.bootSel && w.bootOnly then
              u.startup = .loading ∧ u.fld F.FW_VERSION_VERSION = im.version % 2 ^ 32 ∧ u.session n = none
            else u.vault.activeSlot = 1 - w.vault.activeSlot ∧ u.fld F.FW_STATUS_ACTIVE_SLOT = 1 - w.vault.activeSlot)) ∧
    (∀ flashOk, ∃ u, exec (.fwVerifyComplete t flashOk) s = .next u ∧
      match v.vault.verifying with
      | none => u = v
      | some im => u.vault.verifying = none ∧ u.on F.VAULT_STATUS_BUSY = v.wiping ∧
          if v.checkImage im ≠ 1 then u.fld F.FW_STATUS_RESULT = v.checkImage im ∧ u.vault.verified = none ∧
            u.vault.slots = v.vault.slots ∧
            u.objBit (F.VAULT_STICKY_FW_FAIL.obj 0) F.VAULT_STICKY_FW_FAIL.lo = true
          else if (v.straps.bootSel && v.bootOnly) = false ∧ flashOk = false then
            u.fld F.FW_STATUS_RESULT = 6 ∧ u.vault.verified = none ∧ u.vault.slots = v.vault.slots
          else u.fld F.FW_STATUS_RESULT = 1 ∧ u.vault.verified = some im)

/-- R414, R418, R419, R420, R421, R422: a key import writes its slot where it unwraps; a rekey puts the new key in force
once its reply has gone; a wipe needs its key, and at its end the keys are gone and one fuse is burned; a tamper that is
armed latches and wipes; a failed entropy source stops random values. -/
def Obligations.VaultServices : Prop :=
  ∀ (t n : Nat) (s v w : State) (x : Session), 1 ≤ n → n ≤ 32 → v = s.advance t → w = v.leasesDue →
    (∀ item k, item.length = 11 → k = (item.headD 0).toNat → w.writesObj n x O.KEY_IMPORT →
      ∃ u, exec (.keyImport t n item) s = .next u ∧
        match w.importRefuses x with
        | some e => u.lastOp.status = e ∧ u.vault = w.vault
        | none =>
          if k < 8 ∧ Map.has k w.vault.keys = true then
            match Config.aesKwUnwrap (Map.get [] k w.vault.keys) (item.drop 1) with
            | some key => u.lastOp.status = stOk ∧ Map.get [] k u.vault.keys = key ∧
                ∀ j, j ≠ k → Map.get [] j u.vault.keys = Map.get [] j w.vault.keys
            | none => u.lastOp.status = stValue ∧ u.vault = w.vault ∧
                u.objBit (F.VAULT_STICKY_IMPORT_FAIL.obj 0) F.VAULT_STICKY_IMPORT_FAIL.lo = true
          else u.lastOp.status = stValue ∧ u.vault = w.vault ∧
            u.objBit (F.VAULT_STICKY_IMPORT_FAIL.obj 0) F.VAULT_STICKY_IMPORT_FAIL.lo = true) ∧
    (∀ nonce, nonce.length = 8 → w.writesObj n x O.SESSION_REKEY → ∃ u, exec (.sessionRekey t n nonce) s = .next u ∧
      if x.sealed = false then u.lastOp.status = stAccess ∧ u.session n = some { x with lastMsg := w.now, rekey := [] }
      else if w.noRandom then u.lastOp.status = stBusy ∧ u.session n = some { x with lastMsg := w.now, rekey := [] }
      else u.lastOp.status = stOk ∧ ∃ y, u.session n = some y ∧ y.keyEpoch = x.keyEpoch + 1 ∧
        y.key = sessionKey x.key (nonce.flatMap wordBytes) (Config.nonce w.free) n (w.gen (ownSession n)) (x.keyEpoch + 1)) ∧
    (∀ key, w.writesObj n x O.WIPE → ∃ u, exec (.wipe t n key) s = .next u ∧
      if key ≠ 0x57495045 then u.lastOp.status = stValue ∧ u.vault = w.vault
      else if w.wiping then u.lastOp.status = stBusy ∧ u.vault = w.vault
      else u.lastOp.status = stOk ∧ u.vault = { w.vault with wipeFrom := some w.now } ∧ u.on F.VAULT_STATUS_BUSY = true) ∧
    (∃ u, exec (.wipeComplete t) s = .next u ∧ (v.wiping = false → u = v) ∧
      (v.wiping = true → v.vault.moving = none → u.vault.keys = [] ∧ u.vault.blob = [] ∧ u.wiping = false ∧
        u.fld F.WIPE_COUNT_COUNT = min 255 (v.fld F.WIPE_COUNT_COUNT + 1) ∧ u.fld F.VAULT_STATUS_KEYS = 0 ∧
        (∀ y, y ∈ u.sessions → y.sealed = true → y.key = []) ∧
        u.objBit (F.VAULT_STICKY_WIPED.obj 0) F.VAULT_STICKY_WIPED.lo = true)) ∧
    (∀ i level, i < 4 → ∃ u, exec (.tamperEvent t i level) s = .next u ∧ (v.startup = .off → u = v) ∧
      (v.startup ≠ .off → (u.fld F.TAMPER_STATUS_LEVEL).testBit i = level ∧
        ((v.fld F.TAMPER_CONFIG_ENABLE).testBit i = true → (v.fld F.TAMPER_CONFIG_POLARITY).testBit i = level →
          u.tampered = true ∧ (u.fld F.TAMPER_STATUS_LATCHED).testBit i = true ∧
          (v.tampered = false → v.startup ≠ .dormant → u.wiping = true) ∧
          (v.tampered = false → v.on F.TAMPER_CONFIG_POLICY = true → u.on F.VAULT_STATUS_HALTED = true)))) ∧
    (v.faults.resetWanted = false → ∃ u, exec (.entropyFail t) s = .next u ∧
      (v.alive = false → u = v) ∧ (v.alive = true → u.vault.entropyBad = true ∧ u.noRandom = true))

/-- R416, R426, R430, R432: the steps of start-up, in their order: supplies, flywheel and tempo, vault, the flash slots,
engines, service; a rail or the tempo that fails stops it for good. -/
def Obligations.StartUpStepByStep : Prop :=
  ∀ (t : Nat) (s v : State), v = s.advance t →
    (∀ st im, ∃ u, exec (.vddAonGood t st im) s = .next u ∧
      if v.startup = .off then u.startup = .rail 0 ∧ u.straps = st ∧ (∀ xs, im = some xs → u.vault.slots = xs) else u = v) ∧
    (∀ k, k < 5 → ∃ u, exec (.railInRange t k) s = .next u ∧
      if v.startup = .rail k ∧ v.resetLow = false then
        u.rails = v.rails.set k true ∧
        (v.rails = [decide (0 < k), decide (1 < k), decide (2 < k), decide (3 < k), false] →
          u.startup = if k < 2 then .rail (k + 1) else if k = 2 then .flywheel else if k = 3 then .rail 4 else .vault)
      else u = v) ∧
    (∀ k, k < 5 → ∃ u, exec (.railTimeout t k) s = .next u ∧
      if v.startup = .rail k then u.startup = .stopped ∧ u.rails = [false, false, false, false, false] ∧
        u.faults.fatal = true ∧ u.tempo = false
      else u = v) ∧
    (∃ u, exec (.flywheelAbsent t) s = .next u ∧
      if v.startup = .flywheel then u.startup = .stopped ∧ u.faults.fatal = true ∧ u.tempo = false else u = v) ∧
    (∃ u, exec (.tempoStart t) s = .next u ∧
      if v.startup = .flywheel ∧ v.resetLow = false then
        u.tempo = true ∧ u.dts = (if v.tempo then v.dts else 0) ∧ u.startup = v.afterTempo
      else u = v) ∧
    (∃ u, exec (.vaultReady t) s = .next u ∧
      if v.startup = .vault ∧ v.resetLow = false then
        if v.straps.bootSel = true ∨ v.lifecycle = lcScrapped then
          u.startup = .bootService ∧ u.on F.VAULT_STATUS_BOOT_SERVICE = true
        else u.startup = .verifying v.vault.activeSlot false
      else u = v) ∧
    (∀ k second, v.startup = .verifying k second → v.resetLow = false → ∃ u, exec (.slotVerified t) s = .next u ∧
      match v.vault.slots[k]? with
      | some im =>
        if v.checkImage im = 1 then u.startup = .loading ∧ u.fld F.FW_VERSION_VERSION = im.version % 2 ^ 32
        else if second then u.startup = .bootService else u.startup = .verifying (1 - k) true
      | none => if second then u.startup = .bootService else u.startup = .verifying (1 - k) true) ∧
    (∃ u, exec (.enginesLoaded t) s = .next u ∧
      if v.startup = .loading ∧ v.resetLow = false then
        u.startup = .serving ∧ u.faults.runA = true ∧ u.faults.runB = true ∧ u.faults.pairB = false
      else u = v) ∧
    (v.spiIn = [] → v.dccIn = [] → (v.mac 0).rx = [] → (v.mac 1).rx = [] →
      ∃ u, exec (.startupComplete t) s = .next u ∧
      if v.startup = .serving ∧ v.resetLow = false then u.startup = .done else u = v)

/-- R360, R387, R397, R404, R420, R422, R427, R428: a reset pulse of at least 150 ns holds the device in reset, one below
100 ns does nothing; on release start-up runs again; a wake frame takes the device out of DORMANT; the loss of power
ends every session and keeps what flash, fuses and vault hold, a brownout the latches too. -/
def Obligations.ResetsAndPowerLoss : Prop :=
  ∀ (t : Nat) (s v : State), v = s.advance t →
    (∀ width, ∃ u, exec (.resetNAssert t width) s = .next u ∧
      (width < 100 ∨ (v.resetLow = true ∧ 150 ≤ width) → u = v) ∧
      (150 ≤ width → v.resetLow = false → u.resetLow = true ∧ (v.startup = .done → u.sessions = [] ∧
        u.startup = .flywheel) ∧
        (v.startup = .dormant → u.startup = .rail 0))) ∧
    (∃ u, exec (.resetNRelease t) s = .next u ∧ u.resetLow = false ∧ (v.resetLow = false → u = v) ∧
      (v.resetLow = true → v.startup = .flywheel →
        v.rails = [true, true, true, true, true] → u.startup = .flywheel ∧
          u.on F.STRAPS_TSEAT = v.straps.tseat ∧ u.on F.STRAPS_BOOT_SEL = v.straps.bootSel ∧
          u.on F.STRAPS_MAC_SEL = v.straps.macSel)) ∧
    (∀ m f, m < 2 → ethOk f = true → ∃ u, exec (.wakeFrame t m f) s = .next u ∧
      if v.startup = .dormant ∧ v.isWake m f = true then
        u.startup = .rail 0 ∧ u.on F.WAKE_CONFIG_WAKE_SOURCE m = true ∧ u.sessions = [] ∧ u.faults.log = v.faults.log
      else u = v) ∧
    (∃ u, exec (.powerCycle t) s = .next u ∧ u.startup = .off ∧ u.sessions = [] ∧ u.txns = [] ∧ u.tempo = false ∧
      u.faults.fatal = false ∧ u.tampered = false ∧ u.vault.slots = v.vault.slots ∧ u.vault.blob = v.vault.blob ∧
      u.vault.keys = [] ∧ u.vault.lifecycle = v.vault.lifecycle ∧ u.vault.sealedBit = v.vault.sealedBit ∧
      u.fld F.WIPE_COUNT_COUNT = v.fld F.WIPE_COUNT_COUNT ∧ u.faults.flashRecord = v.faults.flashRecord) ∧
    (∃ u, exec (.vddAonBrownout t) s = .next u ∧ (v.startup = .off → u = v) ∧
      (v.startup ≠ .off → u.startup = .off ∧ u.sessions = [] ∧ u.tempo = false ∧ u.faults.fatal = v.faults.fatal ∧
        u.tampered = v.tampered ∧ u.vault.blob = v.vault.blob))

/-- R434, R435, R352, R353, R359: a write of UPIN_CONFIG parks the pin, or waits for a frame boundary, and refuses a function
that another pin has; the new function takes over after 64 ns; a received Ethernet frame is dropped and counted, or
counted and buffered. -/
def Obligations.PinsAndReceivedFrames : Prop :=
  ∀ (t n i : Nat) (s v w : State) (x : Session), 1 ≤ n → n ≤ 32 → i < 32 → v = s.advance t → w = v.leasesDue →
    (∀ d a, w.writesObj n x (objAt O.UPIN_CONFIG i) → a = BitVec.ofNat 96 d.toNat &&& 0xCF0F →
      ∃ u, exec (.upinConfig t n i d) s = .next u ∧
        if w.pinOk i a then
          u.lastOp.status = stOk ∧ (∀ j, j ≠ i → u.pin j = w.pin j) ∧
          ((w.pin i).parkFrom = none → pinTarget a ≠ ((w.pin i).func, (w.pin i).unit) → d.getLsbD 15 = false →
            (u.pin i).parkFrom = some w.now ∧ (u.pin i).driving = false ∧ (u.pin i).target = some (pinTarget a) ∧
            u.on F.UPIN_STATUS_PARKED i = true) ∧
          ((w.pin i).parkFrom = none → pinTarget a ≠ ((w.pin i).func, (w.pin i).unit) → d.getLsbD 15 = true →
            (u.pin i).pending = true ∧ (u.pin i).driving = (w.pin i).driving ∧ u.on F.UPIN_STATUS_PENDING i = true)
        else u.lastOp.status = stValue ∧ u.pins = w.pins ∧ u.dict = w.dict) ∧
    (∃ u, exec (.upinChangeEffect t i) s = .next u ∧
      if (v.pin i).target.isSome && (v.pin i).pending && (v.pin i).since.any (· < v.fn) then
        (u.pin i).parkFrom = some v.now ∧ (u.pin i).pending = false ∧ (u.pin i).driving = false ∧
        (u.pin i).target = (v.pin i).target
      else u = v) ∧
    (∃ u, exec (.parkEnd t i) s = .next u ∧
      match (v.pin i).target with
      | some g =>
        if v.sinceOpt (v.pin i).parkFrom (64 * ns) && v.pinReady g then
          (u.pin i).func = g.1 ∧ (u.pin i).unit = g.2 ∧ (u.pin i).target = none ∧ (u.pin i).parkFrom = none ∧
          u.on F.UPIN_STATUS_PARKED i = false ∧
          u.on F.UPIN_STATUS_DRIVING i = (g.1 == 2 || g.1 == 3 || g.1 == 5 || g.1 == 7)
        else u = v
      | none => u = v) ∧
    (∀ m f, m < 2 → ethOk f = true → v.spiIn = [] → v.dccIn = [] → (v.mac 0).rx = [] → (v.mac 1).rx = [] →
      ∃ u, exec (.macFrameReceive t m f) s = .next u ∧
        if v.macsRun && v.macUp m && v.macOn m && !v.heldHalted 14 (16 + m) then
          isPause f = false →
            (∀ k, v.macDrop m f = some k → u.macs = v.macs ∧
              u.liveOf (objAt O.MAC_COUNTER m k) = (v.liveOf (objAt O.MAC_COUNTER m k) + 1) % 2 ^ 32) ∧
            (v.macDrop m f = none → v.serves = false → (u.mac m).rx = [f] ∧
              u.liveOf (objAt O.MAC_COUNTER m 0) = (v.liveOf (objAt O.MAC_COUNTER m 0) + 1) % 2 ^ 32)
        else u = v)

/-- R7: the frame number is floor(DTS / 125 µs) modulo 2⁴⁸; frame k lasts from k × 125 µs inclusive to (k + 1) × 125 µs
exclusive, so that an instant on a boundary is in the frame that starts there. -/
def Obligations.FrameNumbers : Prop :=
  frame = 125 * us ∧ (∀ s : State, s.fn = fnOf s.dts) ∧ (∀ d : Nat, fnOf d = d / (125 * us) % 2 ^ 48) ∧
  ∀ k d : Nat, (k * frame ≤ d → d < (k + 1) * frame → fnOf d = k % 2 ^ 48) ∧
    (d / frame = k → k * frame ≤ d ∧ d < (k + 1) * frame) ∧ fnOf (k * frame) = k % 2 ^ 48 ∧
    fnOf ((k + 1) * frame) = (k + 1) % 2 ^ 48

/-- R393: FAULT_DECLARE raises cause 0x20 for the party that it names, a session's number included; naming the control
pair in service raises cause 0x09; naming subsystem 18 is answered VALUE and changes nothing. -/
def Obligations.FaultDeclarations : Prop :=
  ∀ (t n : Nat) (o : Word) (s v w : State) (x : Session), 1 ≤ n → n ≤ 32 → v = (s.advance t).leasesDue → v.numbersOk →
    v.writesObj n x O.FAULT_DECLARE → w = v.modSession n (fun y => { y with lastMsg := v.now }) →
    (∀ sub inst, o.toNat < 0x10000 → ownerParty o.toNat = some (sub, inst) → sub ≠ 18 →
      ¬(sub = 14 ∧ inst = v.pairNow) →
      exec (.faultDeclare t n o) s = .next ({ w.raiseFault ⟨0x20, sub, inst, 0, false⟩ with
        lastOp := ⟨O.FAULT_DECLARE, stOk, 0, 1, []⟩ }.settleOps n)) ∧
    (o.toNat < 0x10000 → ownerParty o.toNat = some (14, v.pairNow) →
      exec (.faultDeclare t n o) s = .next ({ w.raiseFault ⟨0x09, 14, v.pairNow, 0, false⟩ with
        lastOp := ⟨O.FAULT_DECLARE, stOk, 0, 1, []⟩ }.settleOps n)) ∧
    (1 ≤ o.toNat → o.toNat ≤ 32 →
      ∃ f : FaultIn, f.cause = 0x20 ∧
      exec (.faultDeclare t n o) s = .next ({ (((w.abandonStage o.toNat).advanceGen (ownSession o.toNat)).raise
        F.FAULT_STICKY_REVOKED).raiseWith f false with
        lastOp := ⟨O.FAULT_DECLARE, stOk, 0, 1, []⟩ }.settleOps n)) ∧
    (∀ inst, o.toNat < 0x10000 → ownerParty o.toNat = some (18, inst) →
      exec (.faultDeclare t n o) s = .next { w with lastOp := ⟨O.FAULT_DECLARE, stValue, 0, 1, []⟩ })

/-- R292: a read of an empty extract queue returns one idle item; it does not block and no count changes. -/
def Obligations.EmptyQueueReads : Prop :=
  ∀ (t n l c : Nat) (s v w : State) (x : Session), 1 ≤ n → n ≤ 32 → l < 96 → c < 4 → v = (s.advance t).leasesDue →
    v.numbersOk →
    v.seesObj n x (objAt O.EXT_WINDOW l (16 * c)) → (v.chanOf l c).ext = [] →
    w = v.modSession n (fun y => { y with lastMsg := v.now }) →
    exec (.extWindow t n l c) s =
      .next { w with lastOp := ⟨objAt O.EXT_WINDOW l (16 * c), stOk, 0, 2, [idleItem.tag, idleItem.data]⟩ }

/-- What the events of one lane leave: every other lane with its objects below area 0x0A, and all state but the lane, its
objects and live counts, what its defects feed, the event queues of the sessions, the count of free values drawn and, for a
trace, its window. -/
def Obligations.LaneEventFrames : Prop :=
  ∀ (c : Instr) (l t : Nat) (s v u : State), c.laneEvent = some l → v = s.advance t → c.tick = t → exec c s = .next u →
    u = { v with
      free := u.free, dict := u.dict, live := u.live, words := u.words, lanes := u.lanes, sessions := u.sessions
      cands := u.cands
      aps := u.aps, pathProt := u.pathProt, chans := u.chans, points := u.points } ∧
    (c.isTrace = false → u.words = v.words) ∧
    (∀ o, o < 0x02000002 → u.val o = v.val o) ∧
    (∀ m, m ≠ l → u.lane m = v.lane m) ∧
    (∀ o, o < 0x0A000000 → objInst o % 256 ≠ l → u.val o = v.val o) ∧
    (∀ m c, m ≠ l → c < 4 → u.chanOf m c = v.chanOf m c)

/-- What the events of the timing engine, of the protection controllers, of the pair and the ring (ring heads move a
timing candidate too), and of the MACs and pins leave: every object below their areas, every bank byte, the queues of
other units. -/
def Obligations.UnitEventFrames : Prop :=
  ∀ (c : Instr) (t : Nat) (s v u : State), v = s.advance t → c.tick = t → exec c s = .next u →
    (c.timingEvent = true →
      u = { v with
        free := u.free, dict := u.dict, sessions := u.sessions, cands := u.cands, timing := u.timing, outs := u.outs
        pps := u.pps } ∧
      (∀ o, o < 0x0A000008 → u.val o = v.val o) ∧ ∀ a, Map.get 0 a u.banks = Map.get 0 a v.banks) ∧
    (c.protectionEvent = true →
      u = { v with dict := u.dict, xc := u.xc, sessions := u.sessions, aps := u.aps, pathProt := u.pathProt } ∧
      (∀ o, o < 0x0C000003 → u.val o = v.val o) ∧ ∀ a, Map.get 0 a u.banks = Map.get 0 a v.banks) ∧
    (c.pairEvent = true →
      u = { v with dict := u.dict, sessions := u.sessions, tandem := u.tandem, gallery := u.gallery } ∧
      (∀ o, o < 0x0D000003 → u.val o = v.val o) ∧ ∀ a, Map.get 0 a u.banks = Map.get 0 a v.banks) ∧
    (∀ p h, c = .ringHead t p h →
      u = { v with dict := u.dict, sessions := u.sessions, cands := u.cands, gallery := u.gallery } ∧
      (∀ o, o < 0x0A000030 → u.val o = v.val o) ∧ ∀ a, Map.get 0 a u.banks = Map.get 0 a v.banks) ∧
    (c.portEvent = true →
      u = { v with dict := u.dict, live := u.live, sessions := u.sessions, macs := u.macs, pins := u.pins } ∧
      (∀ o, o < 0x11F00020 → u.val o = v.val o) ∧ ∀ a, Map.get 0 a u.banks = Map.get 0 a v.banks)

/-- What the reads with an effect and the writes that act at once leave, where neither a session's end nor a reset is due:
all state but what each names, and every object but its own. -/
def Obligations.OpFrames : Prop :=
  ∀ (t n : Nat) (s v u : State) (x : Session), 1 ≤ n → n ≤ 32 → v = (s.advance t).leasesDue →
    (v.seesObj n x O.TCA_LOG → exec (.tcaLog t n) s = .next u →
      u = { v with sessions := u.sessions, tcaLog := u.tcaLog, lastOp := u.lastOp } ∧ v.onlySession u n) ∧
    (v.seesObj n x O.HISTORY_INFO → exec (.historyInfo t n) s = .next u →
      u = { v with sessions := u.sessions, lastOp := u.lastOp } ∧ v.onlySession u n) ∧
    (v.seesObj n x O.FAULT_INFO → exec (.faultInfo t n) s = .next u →
      u = { v with sessions := u.sessions, lastOp := u.lastOp } ∧ v.onlySession u n) ∧
    (v.writesObj n x O.HISTORY_CONTROL → exec (.historyClear t n) s = .next u →
      u = { v with dict := u.dict, sessions := u.sessions, timing := u.timing, lastOp := u.lastOp } ∧
      (∀ o, o ≠ O.HISTORY_INFO → u.val o = v.val o) ∧ v.onlySession u n) ∧
    (∀ o r, o < 4294967296 → findRow o = some r → r.acc = .w1c → v.writesObj n x o → ∀ a,
      exec (.w1cWrite t n o a) s = .next u →
      u = { v with dict := u.dict, sessions := u.sessions, lastOp := u.lastOp } ∧
      (∀ p, p ≠ o → u.val p = v.val p) ∧ v.onlySession u n) ∧
    (∀ c, counterSetOk c = true → (∀ e, c ≠ .engine e) → v.writesObj n x (setControl c) →
      (exec (.snapshot t n c) s = .next u →
        u = { v with dict := u.dict, lanes := u.lanes, sessions := u.sessions, lastOp := u.lastOp } ∧
        (∀ m, u.lane m = v.lane m) ∧ (∀ o, inSet c o = false → u.val o = v.val o) ∧ v.onlySession u n) ∧
      (exec (.clear t n c) s = .next u → (∀ m, c ≠ .mac m) →
        u = { v with live := u.live, lanes := u.lanes, sessions := u.sessions, lastOp := u.lastOp } ∧
        (∀ m, u.lane m = v.lane m) ∧ v.onlySession u n)) ∧
    (∀ l, l < 96 →
      (v.writesObj n x (objAt O.LEDGER_CONTROL l) → exec (.reseed t n l) s = .next u →
        u = { v with lanes := u.lanes, sessions := u.sessions, lastOp := u.lastOp } ∧
        (∀ m, m ≠ l → u.lane m = v.lane m) ∧ v.onlySession u n) ∧
      (v.writesObj n x (objAt O.SDH_CONTROL l) →
        exec (.injectB1 t n l) s = .next u ∨ exec (.injectB2 t n l) s = .next u →
        u = { v with lanes := u.lanes, sessions := u.sessions, lastOp := u.lastOp } ∧
        (∀ m, m ≠ l → u.lane m = v.lane m) ∧ v.onlySession u n) ∧
      ∀ c, c < 4 →
        (v.seesObj n x (objAt O.EXT_WINDOW l (16 * c)) → exec (.extWindow t n l c) s = .next u →
          u = { v with sessions := u.sessions, chans := u.chans, lastOp := u.lastOp } ∧
          (∀ m d, d < 4 → m ≠ l ∨ d ≠ c → u.chanOf m d = v.chanOf m d) ∧ v.onlySession u n) ∧
        (v.writesObj n x (objAt O.Q_CONTROL l (16 * c)) →
          exec (.flushExt t n l c) s = .next u ∨ exec (.flushIns t n l c) s = .next u →
          u = { v with dict := u.dict, sessions := u.sessions, chans := u.chans, lastOp := u.lastOp } ∧
          (∀ m d, d < 4 → m ≠ l ∨ d ≠ c → u.chanOf m d = v.chanOf m d) ∧
          (∀ o, o < 0x0F000000 → u.val o = v.val o) ∧ v.onlySession u n))

/-- Log 3: a command that names a unit which the device does not have is refused with that name; every other command answers
a next state. It leaves the queue as it is, and time does not run back. -/
def Obligations.EveryCommandAnswers : Prop :=
  ∀ (c : Instr) (s : State),
    (c.wf = false → ∃ what, exec c s = .refused (.noSuchUnit what)) ∧
    (c.wf = true → ∃ u, exec c s = .next u) ∧
    ∀ u, exec c s = .next u → u.pending = s.pending ∧ u.now = max s.now c.tick

/-- A step takes the command at the front of the queue and executes it on the state with the queue's rest; on an empty queue
the device idles (log 4). -/
def Obligations.StepTakesTheFront : Prop :=
  (∀ (s : State) (c : Instr) (rest : List Instr), s.pending = c :: rest →
    step s = exec c { s with pending := rest }) ∧
  ∀ s : State, s.pending = [] → step s = .next s

/-- From every state whose waiting commands are well formed, the queue runs empty in as many steps as it holds commands, and
time does not run back. -/
def Obligations.TheQueueRunsEmpty : Prop :=
  ∀ s : State, s.pendingOk = true → ∃ u, s.run s.pending.length = some u ∧ u.pending = [] ∧ s.now ≤ u.now ∧
    (s.Sound → u.Sound)

/-- Every step keeps the canonical form of the dictionary, the live counts, the windows and the banks, and the session
numbers. -/
def Obligations.EveryStepKeepsSound : Prop := ∀ s u : State, s.Sound → step s = .next u → u.Sound

/-- R330, R426, R441: the device before its supply is good: nothing waits, nothing runs, no session is open and its numbers
are free in order; every object reads its Default, no claim is held, no transaction waits and no time has gone by. -/
def Obligations.ResetIsPoweredOff : Prop :=
  State.reset.Sound ∧ State.reset.pending = [] ∧ State.reset.startup = .off ∧ State.reset.tempo = false ∧
  State.reset.serves = false ∧ State.reset.dts = 0 ∧ (∀ o, State.reset.val o = objDefault o) ∧
  (∀ n, State.reset.session n = none) ∧ State.reset.freeNums = List.range' 1 32 ∧ State.reset.claims = [] ∧
  State.reset.txns = [] ∧ (∀ a, Map.get 0 a State.reset.banks = 0) ∧ ∀ e, State.reset.gen e = 0
end

