-- ==== Sys2Proof/Laws/Maps.lean ====
section
/-! SUPPORT. Sparse maps: read after write, and the canonical form. -/

namespace Sys2Proof.Machine

variable {α : Type}

theorem Map.get_erase_ne (d : α) {j k : Nat} (h : j ≠ k) (m : Map α) : Map.get d j (Map.erase k m) = Map.get d j m := by
  induction m with
  | nil => rfl
  | cons p m ih =>
    obtain ⟨i, v⟩ := p
    by_cases hk : i = k
    · subst hk
      simp [Map.erase, Map.get, h] at ih ⊢
      simpa [Map.erase] using ih
    · have : Map.erase k ((i, v) :: m) = (i, v) :: Map.erase k m := by simp [Map.erase, hk]
      rw [this]
      simp only [Map.get, ih]

theorem Map.get_erase_self (d : α) (k : Nat) (m : Map α) : Map.get d k (Map.erase k m) = d := by
  induction m with
  | nil => rfl
  | cons p m ih =>
    obtain ⟨i, v⟩ := p
    by_cases hk : i = k
    · subst hk
      simpa [Map.erase] using ih
    · have : Map.erase k ((i, v) :: m) = (i, v) :: Map.erase k m := by simp [Map.erase, hk]
      rw [this]
      simp only [Map.get, ih]
      rw [if_neg (fun h => hk h.symm)]

theorem Map.get_insert_self (d : α) (k : Nat) (v : α) (m : Map α) (h : ∀ p ∈ m, p.1 ≠ k) :
    Map.get d k (Map.insert k v m) = v := by
  induction m with
  | nil => simp [Map.insert, Map.get]
  | cons p m ih =>
    obtain ⟨i, w⟩ := p
    unfold Map.insert
    have hi : k ≠ i := fun e => h (i, w) (by simp) e.symm
    split
    · simp [Map.get]
    · simp only [Map.get, if_neg hi]
      exact ih fun p hp => h p (by simp [hp])

theorem Map.get_insert_ne (d : α) {j k : Nat} (hj : j ≠ k) (v : α) (m : Map α) :
    Map.get d j (Map.insert k v m) = Map.get d j m := by
  induction m with
  | nil => simp [Map.insert, Map.get, hj]
  | cons p m ih =>
    obtain ⟨i, w⟩ := p
    unfold Map.insert
    split
    · simp [Map.get, hj]
    · simp only [Map.get, ih]

theorem Map.erase_no_key (k : Nat) (m : Map α) : ∀ p ∈ Map.erase k m, p.1 ≠ k := by
  intro p hp
  simpa using (List.mem_filter.mp hp).2

/-- Read after write, at the key written. -/
@[simp] theorem Map.get_set_self [DecidableEq α] (d : α) (k : Nat) (v : α) (m : Map α) :
    Map.get d k (Map.set d k v m) = v := by
  unfold Map.set
  split
  · next h => rw [Map.get_erase_self, h]
  · exact Map.get_insert_self d k v _ (Map.erase_no_key k m)

/-- Read after write, at another key. -/
@[simp] theorem Map.get_set_ne [DecidableEq α] (d e : α) {j k : Nat} (h : j ≠ k) (v : α) (m : Map α) :
    Map.get e j (Map.set d k v m) = Map.get e j m := by
  unfold Map.set
  split
  · exact Map.get_erase_ne e h m
  · rw [Map.get_insert_ne e h, Map.get_erase_ne e h]

theorem Map.wf_filter [DecidableEq α] (d : Nat → α) (p : Nat × α → Bool) (m : Map α) (h : Map.wf d m = true) :
    Map.wf d (m.filter p) = true := by
  induction m with
  | nil => rfl
  | cons x m ih =>
    obtain ⟨i, v⟩ := x
    simp only [Map.wf, Bool.and_eq_true, List.all_eq_true, decide_eq_true_eq] at h
    rw [List.filter_cons]
    split
    · simp only [Map.wf, Bool.and_eq_true, List.all_eq_true, decide_eq_true_eq]
      exact ⟨⟨h.1.1, fun q hq => h.1.2 q (List.mem_filter.mp hq).1⟩, ih h.2⟩
    · exact ih h.2

theorem Map.mem_insert {k : Nat} {v : α} {m : Map α} {p : Nat × α} (h : p ∈ Map.insert k v m) : p = (k, v) ∨ p ∈ m := by
  induction m with
  | nil => simpa [Map.insert] using h
  | cons x m ih =>
    obtain ⟨i, w⟩ := x
    unfold Map.insert at h
    split at h
    · simpa using h
    · rcases List.mem_cons.mp h with h | h
      · exact .inr (by simp [h])
      · rcases ih h with h | h
        · exact .inl h
        · exact .inr (by simp [h])

theorem Map.wf_insert [DecidableEq α] (d : Nat → α) (k : Nat) (v : α) (m : Map α) (hv : v ≠ d k)
    (hk : ∀ p ∈ m, p.1 ≠ k) (h : Map.wf d m = true) : Map.wf d (Map.insert k v m) = true := by
  induction m with
  | nil => simp [Map.insert, Map.wf, hv]
  | cons x m ih =>
    obtain ⟨i, w⟩ := x
    have h0 := h
    simp only [Map.wf, Bool.and_eq_true, List.all_eq_true, decide_eq_true_eq] at h
    unfold Map.insert
    split
    · next hlt =>
      rw [Map.wf]
      simp only [Bool.and_eq_true, List.all_eq_true, decide_eq_true_eq]
      refine ⟨⟨by simpa using hv, ?_⟩, h0⟩
      intro p hp
      rcases List.mem_cons.mp hp with rfl | hp
      · exact hlt
      · exact Nat.lt_trans hlt (h.1.2 p hp)
    · next hge =>
      simp only [Map.wf, Bool.and_eq_true, List.all_eq_true, decide_eq_true_eq]
      refine ⟨⟨h.1.1, ?_⟩, ih (fun p hp => hk p (by simp [hp])) h.2⟩
      intro p hp
      rcases Map.mem_insert hp with rfl | hp
      · have := hk (i, w) (by simp)
        simp only at this ⊢
        omega
      · exact h.1.2 p hp

/-- A write keeps the canonical form. -/
theorem Map.wf_set [DecidableEq α] (d : Nat → α) (k : Nat) (v : α) (m : Map α) (h : Map.wf d m = true) :
    Map.wf d (Map.set (d k) k v m) = true := by
  unfold Map.set
  split
  · exact Map.wf_filter d _ m h
  · next hv => exact Map.wf_insert d k v _ hv (Map.erase_no_key k m) (Map.wf_filter d _ m h)

end Sys2Proof.Machine
end

