-- ==== Sys2Proof/Laws/State.lean ====
section
/-! SUPPORT. What each plain update of the state leaves in every field, and what a read answers after a write. -/

namespace Sys2Proof.Machine

variable (s : State)

/-! ### setVal -/

section
variable (o : Nat) (v : Val)
@[simp] theorem State.setVal_pending : (s.setVal o v).pending = s.pending := rfl
@[simp] theorem State.setVal_now : (s.setVal o v).now = s.now := rfl
@[simp] theorem State.setVal_dts : (s.setVal o v).dts = s.dts := rfl
@[simp] theorem State.setVal_tempo : (s.setVal o v).tempo = s.tempo := rfl
@[simp] theorem State.setVal_startup : (s.setVal o v).startup = s.startup := rfl
@[simp] theorem State.setVal_straps : (s.setVal o v).straps = s.straps := rfl
@[simp] theorem State.setVal_resetLow : (s.setVal o v).resetLow = s.resetLow := rfl
@[simp] theorem State.setVal_rails : (s.setVal o v).rails = s.rails := rfl
@[simp] theorem State.setVal_free : (s.setVal o v).free = s.free := rfl
@[simp] theorem State.setVal_live : (s.setVal o v).live = s.live := rfl
@[simp] theorem State.setVal_words : (s.setVal o v).words = s.words := rfl
@[simp] theorem State.setVal_lanes : (s.setVal o v).lanes = s.lanes := rfl
@[simp] theorem State.setVal_xc : (s.setVal o v).xc = s.xc := rfl
@[simp] theorem State.setVal_sessions : (s.setVal o v).sessions = s.sessions := rfl
@[simp] theorem State.setVal_freeNums : (s.setVal o v).freeNums = s.freeNums := rfl
@[simp] theorem State.setVal_opened : (s.setVal o v).opened = s.opened := rfl
@[simp] theorem State.setVal_txns : (s.setVal o v).txns = s.txns := rfl
@[simp] theorem State.setVal_nextTxn : (s.setVal o v).nextTxn = s.nextTxn := rfl
@[simp] theorem State.setVal_claims : (s.setVal o v).claims = s.claims := rfl
@[simp] theorem State.setVal_hwClaims : (s.setVal o v).hwClaims = s.hwClaims := rfl
@[simp] theorem State.setVal_gens : (s.setVal o v).gens = s.gens := rfl
@[simp] theorem State.setVal_spiIn : (s.setVal o v).spiIn = s.spiIn := rfl
@[simp] theorem State.setVal_spiOut : (s.setVal o v).spiOut = s.spiOut := rfl
@[simp] theorem State.setVal_miso : (s.setVal o v).miso = s.miso := rfl
@[simp] theorem State.setVal_lastOp : (s.setVal o v).lastOp = s.lastOp := rfl
@[simp] theorem State.setVal_lastReply : (s.setVal o v).lastReply = s.lastReply := rfl
@[simp] theorem State.setVal_cands : (s.setVal o v).cands = s.cands := rfl
@[simp] theorem State.setVal_timing : (s.setVal o v).timing = s.timing := rfl
@[simp] theorem State.setVal_outs : (s.setVal o v).outs = s.outs := rfl
@[simp] theorem State.setVal_pps : (s.setVal o v).pps = s.pps := rfl
@[simp] theorem State.setVal_aps : (s.setVal o v).aps = s.aps := rfl
@[simp] theorem State.setVal_pathProt : (s.setVal o v).pathProt = s.pathProt := rfl
@[simp] theorem State.setVal_tandem : (s.setVal o v).tandem = s.tandem := rfl
@[simp] theorem State.setVal_gallery : (s.setVal o v).gallery = s.gallery := rfl
@[simp] theorem State.setVal_chans : (s.setVal o v).chans = s.chans := rfl
@[simp] theorem State.setVal_dccOut : (s.setVal o v).dccOut = s.dccOut := rfl
@[simp] theorem State.setVal_dccIn : (s.setVal o v).dccIn = s.dccIn := rfl
@[simp] theorem State.setVal_points : (s.setVal o v).points = s.points := rfl
@[simp] theorem State.setVal_dayCuts : (s.setVal o v).dayCuts = s.dayCuts := rfl
@[simp] theorem State.setVal_tcaLog : (s.setVal o v).tcaLog = s.tcaLog := rfl
@[simp] theorem State.setVal_macs : (s.setVal o v).macs = s.macs := rfl
@[simp] theorem State.setVal_faults : (s.setVal o v).faults = s.faults := rfl
@[simp] theorem State.setVal_banks : (s.setVal o v).banks = s.banks := rfl
@[simp] theorem State.setVal_usedBanks : (s.setVal o v).usedBanks = s.usedBanks := rfl
@[simp] theorem State.setVal_owners : (s.setVal o v).owners = s.owners := rfl
@[simp] theorem State.setVal_retained : (s.setVal o v).retained = s.retained := rfl
@[simp] theorem State.setVal_seatObjs : (s.setVal o v).seatObjs = s.seatObjs := rfl
@[simp] theorem State.setVal_tempoFrom : (s.setVal o v).tempoFrom = s.tempoFrom := rfl
@[simp] theorem State.setVal_tempoHeld : (s.setVal o v).tempoHeld = s.tempoHeld := rfl
@[simp] theorem State.setVal_bases : (s.setVal o v).bases = s.bases := rfl
@[simp] theorem State.setVal_scrubFrom : (s.setVal o v).scrubFrom = s.scrubFrom := rfl
@[simp] theorem State.setVal_cvuRuns : (s.setVal o v).cvuRuns = s.cvuRuns := rfl
@[simp] theorem State.setVal_supply : (s.setVal o v).supply = s.supply := rfl
@[simp] theorem State.setVal_slacks : (s.setVal o v).slacks = s.slacks := rfl
@[simp] theorem State.setVal_worstFn : (s.setVal o v).worstFn = s.worstFn := rfl
@[simp] theorem State.setVal_slotCheck : (s.setVal o v).slotCheck = s.slotCheck := rfl
@[simp] theorem State.setVal_vault : (s.setVal o v).vault = s.vault := rfl
@[simp] theorem State.setVal_pins : (s.setVal o v).pins = s.pins := rfl
@[simp] theorem State.setVal_lane (ob : Nat) : (s.setVal o v).lane ob = s.lane ob := rfl
@[simp] theorem State.setVal_word (ob bt : Nat) : (s.setVal o v).word ob bt = s.word ob bt := rfl
@[simp] theorem State.setVal_liveOf (ob : Nat) : (s.setVal o v).liveOf ob = s.liveOf ob := rfl
@[simp] theorem State.setVal_session (ob : Nat) : (s.setVal o v).session ob = s.session ob := rfl
@[simp] theorem State.setVal_mac (ob : Nat) : (s.setVal o v).mac ob = s.mac ob := rfl
@[simp] theorem State.setVal_chan (ob : Nat) : (s.setVal o v).chan ob = s.chan ob := rfl
end

/-! ### setFld -/

section
variable (f : Fld) (x : Nat) (i : Nat) (e : Nat)
@[simp] theorem State.setFld_pending : (s.setFld f x i e).pending = s.pending := rfl
@[simp] theorem State.setFld_now : (s.setFld f x i e).now = s.now := rfl
@[simp] theorem State.setFld_dts : (s.setFld f x i e).dts = s.dts := rfl
@[simp] theorem State.setFld_tempo : (s.setFld f x i e).tempo = s.tempo := rfl
@[simp] theorem State.setFld_startup : (s.setFld f x i e).startup = s.startup := rfl
@[simp] theorem State.setFld_straps : (s.setFld f x i e).straps = s.straps := rfl
@[simp] theorem State.setFld_resetLow : (s.setFld f x i e).resetLow = s.resetLow := rfl
@[simp] theorem State.setFld_rails : (s.setFld f x i e).rails = s.rails := rfl
@[simp] theorem State.setFld_free : (s.setFld f x i e).free = s.free := rfl
@[simp] theorem State.setFld_live : (s.setFld f x i e).live = s.live := rfl
@[simp] theorem State.setFld_words : (s.setFld f x i e).words = s.words := rfl
@[simp] theorem State.setFld_lanes : (s.setFld f x i e).lanes = s.lanes := rfl
@[simp] theorem State.setFld_xc : (s.setFld f x i e).xc = s.xc := rfl
@[simp] theorem State.setFld_sessions : (s.setFld f x i e).sessions = s.sessions := rfl
@[simp] theorem State.setFld_freeNums : (s.setFld f x i e).freeNums = s.freeNums := rfl
@[simp] theorem State.setFld_opened : (s.setFld f x i e).opened = s.opened := rfl
@[simp] theorem State.setFld_txns : (s.setFld f x i e).txns = s.txns := rfl
@[simp] theorem State.setFld_nextTxn : (s.setFld f x i e).nextTxn = s.nextTxn := rfl
@[simp] theorem State.setFld_claims : (s.setFld f x i e).claims = s.claims := rfl
@[simp] theorem State.setFld_hwClaims : (s.setFld f x i e).hwClaims = s.hwClaims := rfl
@[simp] theorem State.setFld_gens : (s.setFld f x i e).gens = s.gens := rfl
@[simp] theorem State.setFld_spiIn : (s.setFld f x i e).spiIn = s.spiIn := rfl
@[simp] theorem State.setFld_spiOut : (s.setFld f x i e).spiOut = s.spiOut := rfl
@[simp] theorem State.setFld_miso : (s.setFld f x i e).miso = s.miso := rfl
@[simp] theorem State.setFld_lastOp : (s.setFld f x i e).lastOp = s.lastOp := rfl
@[simp] theorem State.setFld_lastReply : (s.setFld f x i e).lastReply = s.lastReply := rfl
@[simp] theorem State.setFld_cands : (s.setFld f x i e).cands = s.cands := rfl
@[simp] theorem State.setFld_timing : (s.setFld f x i e).timing = s.timing := rfl
@[simp] theorem State.setFld_outs : (s.setFld f x i e).outs = s.outs := rfl
@[simp] theorem State.setFld_pps : (s.setFld f x i e).pps = s.pps := rfl
@[simp] theorem State.setFld_aps : (s.setFld f x i e).aps = s.aps := rfl
@[simp] theorem State.setFld_pathProt : (s.setFld f x i e).pathProt = s.pathProt := rfl
@[simp] theorem State.setFld_tandem : (s.setFld f x i e).tandem = s.tandem := rfl
@[simp] theorem State.setFld_gallery : (s.setFld f x i e).gallery = s.gallery := rfl
@[simp] theorem State.setFld_chans : (s.setFld f x i e).chans = s.chans := rfl
@[simp] theorem State.setFld_dccOut : (s.setFld f x i e).dccOut = s.dccOut := rfl
@[simp] theorem State.setFld_dccIn : (s.setFld f x i e).dccIn = s.dccIn := rfl
@[simp] theorem State.setFld_points : (s.setFld f x i e).points = s.points := rfl
@[simp] theorem State.setFld_dayCuts : (s.setFld f x i e).dayCuts = s.dayCuts := rfl
@[simp] theorem State.setFld_tcaLog : (s.setFld f x i e).tcaLog = s.tcaLog := rfl
@[simp] theorem State.setFld_macs : (s.setFld f x i e).macs = s.macs := rfl
@[simp] theorem State.setFld_faults : (s.setFld f x i e).faults = s.faults := rfl
@[simp] theorem State.setFld_banks : (s.setFld f x i e).banks = s.banks := rfl
@[simp] theorem State.setFld_usedBanks : (s.setFld f x i e).usedBanks = s.usedBanks := rfl
@[simp] theorem State.setFld_owners : (s.setFld f x i e).owners = s.owners := rfl
@[simp] theorem State.setFld_retained : (s.setFld f x i e).retained = s.retained := rfl
@[simp] theorem State.setFld_seatObjs : (s.setFld f x i e).seatObjs = s.seatObjs := rfl
@[simp] theorem State.setFld_tempoFrom : (s.setFld f x i e).tempoFrom = s.tempoFrom := rfl
@[simp] theorem State.setFld_tempoHeld : (s.setFld f x i e).tempoHeld = s.tempoHeld := rfl
@[simp] theorem State.setFld_bases : (s.setFld f x i e).bases = s.bases := rfl
@[simp] theorem State.setFld_scrubFrom : (s.setFld f x i e).scrubFrom = s.scrubFrom := rfl
@[simp] theorem State.setFld_cvuRuns : (s.setFld f x i e).cvuRuns = s.cvuRuns := rfl
@[simp] theorem State.setFld_supply : (s.setFld f x i e).supply = s.supply := rfl
@[simp] theorem State.setFld_slacks : (s.setFld f x i e).slacks = s.slacks := rfl
@[simp] theorem State.setFld_worstFn : (s.setFld f x i e).worstFn = s.worstFn := rfl
@[simp] theorem State.setFld_slotCheck : (s.setFld f x i e).slotCheck = s.slotCheck := rfl
@[simp] theorem State.setFld_vault : (s.setFld f x i e).vault = s.vault := rfl
@[simp] theorem State.setFld_pins : (s.setFld f x i e).pins = s.pins := rfl
@[simp] theorem State.setFld_lane (ob : Nat) : (s.setFld f x i e).lane ob = s.lane ob := rfl
@[simp] theorem State.setFld_word (ob bt : Nat) : (s.setFld f x i e).word ob bt = s.word ob bt := rfl
@[simp] theorem State.setFld_liveOf (ob : Nat) : (s.setFld f x i e).liveOf ob = s.liveOf ob := rfl
@[simp] theorem State.setFld_session (ob : Nat) : (s.setFld f x i e).session ob = s.session ob := rfl
@[simp] theorem State.setFld_mac (ob : Nat) : (s.setFld f x i e).mac ob = s.mac ob := rfl
@[simp] theorem State.setFld_chan (ob : Nat) : (s.setFld f x i e).chan ob = s.chan ob := rfl
end

/-! ### setOn -/

section
variable (f : Fld) (b : Bool) (i : Nat) (e : Nat)
@[simp] theorem State.setOn_pending : (s.setOn f b i e).pending = s.pending := rfl
@[simp] theorem State.setOn_now : (s.setOn f b i e).now = s.now := rfl
@[simp] theorem State.setOn_dts : (s.setOn f b i e).dts = s.dts := rfl
@[simp] theorem State.setOn_tempo : (s.setOn f b i e).tempo = s.tempo := rfl
@[simp] theorem State.setOn_startup : (s.setOn f b i e).startup = s.startup := rfl
@[simp] theorem State.setOn_straps : (s.setOn f b i e).straps = s.straps := rfl
@[simp] theorem State.setOn_resetLow : (s.setOn f b i e).resetLow = s.resetLow := rfl
@[simp] theorem State.setOn_rails : (s.setOn f b i e).rails = s.rails := rfl
@[simp] theorem State.setOn_free : (s.setOn f b i e).free = s.free := rfl
@[simp] theorem State.setOn_live : (s.setOn f b i e).live = s.live := rfl
@[simp] theorem State.setOn_words : (s.setOn f b i e).words = s.words := rfl
@[simp] theorem State.setOn_lanes : (s.setOn f b i e).lanes = s.lanes := rfl
@[simp] theorem State.setOn_xc : (s.setOn f b i e).xc = s.xc := rfl
@[simp] theorem State.setOn_sessions : (s.setOn f b i e).sessions = s.sessions := rfl
@[simp] theorem State.setOn_freeNums : (s.setOn f b i e).freeNums = s.freeNums := rfl
@[simp] theorem State.setOn_opened : (s.setOn f b i e).opened = s.opened := rfl
@[simp] theorem State.setOn_txns : (s.setOn f b i e).txns = s.txns := rfl
@[simp] theorem State.setOn_nextTxn : (s.setOn f b i e).nextTxn = s.nextTxn := rfl
@[simp] theorem State.setOn_claims : (s.setOn f b i e).claims = s.claims := rfl
@[simp] theorem State.setOn_hwClaims : (s.setOn f b i e).hwClaims = s.hwClaims := rfl
@[simp] theorem State.setOn_gens : (s.setOn f b i e).gens = s.gens := rfl
@[simp] theorem State.setOn_spiIn : (s.setOn f b i e).spiIn = s.spiIn := rfl
@[simp] theorem State.setOn_spiOut : (s.setOn f b i e).spiOut = s.spiOut := rfl
@[simp] theorem State.setOn_miso : (s.setOn f b i e).miso = s.miso := rfl
@[simp] theorem State.setOn_lastOp : (s.setOn f b i e).lastOp = s.lastOp := rfl
@[simp] theorem State.setOn_lastReply : (s.setOn f b i e).lastReply = s.lastReply := rfl
@[simp] theorem State.setOn_cands : (s.setOn f b i e).cands = s.cands := rfl
@[simp] theorem State.setOn_timing : (s.setOn f b i e).timing = s.timing := rfl
@[simp] theorem State.setOn_outs : (s.setOn f b i e).outs = s.outs := rfl
@[simp] theorem State.setOn_pps : (s.setOn f b i e).pps = s.pps := rfl
@[simp] theorem State.setOn_aps : (s.setOn f b i e).aps = s.aps := rfl
@[simp] theorem State.setOn_pathProt : (s.setOn f b i e).pathProt = s.pathProt := rfl
@[simp] theorem State.setOn_tandem : (s.setOn f b i e).tandem = s.tandem := rfl
@[simp] theorem State.setOn_gallery : (s.setOn f b i e).gallery = s.gallery := rfl
@[simp] theorem State.setOn_chans : (s.setOn f b i e).chans = s.chans := rfl
@[simp] theorem State.setOn_dccOut : (s.setOn f b i e).dccOut = s.dccOut := rfl
@[simp] theorem State.setOn_dccIn : (s.setOn f b i e).dccIn = s.dccIn := rfl
@[simp] theorem State.setOn_points : (s.setOn f b i e).points = s.points := rfl
@[simp] theorem State.setOn_dayCuts : (s.setOn f b i e).dayCuts = s.dayCuts := rfl
@[simp] theorem State.setOn_tcaLog : (s.setOn f b i e).tcaLog = s.tcaLog := rfl
@[simp] theorem State.setOn_macs : (s.setOn f b i e).macs = s.macs := rfl
@[simp] theorem State.setOn_faults : (s.setOn f b i e).faults = s.faults := rfl
@[simp] theorem State.setOn_banks : (s.setOn f b i e).banks = s.banks := rfl
@[simp] theorem State.setOn_usedBanks : (s.setOn f b i e).usedBanks = s.usedBanks := rfl
@[simp] theorem State.setOn_owners : (s.setOn f b i e).owners = s.owners := rfl
@[simp] theorem State.setOn_retained : (s.setOn f b i e).retained = s.retained := rfl
@[simp] theorem State.setOn_seatObjs : (s.setOn f b i e).seatObjs = s.seatObjs := rfl
@[simp] theorem State.setOn_tempoFrom : (s.setOn f b i e).tempoFrom = s.tempoFrom := rfl
@[simp] theorem State.setOn_tempoHeld : (s.setOn f b i e).tempoHeld = s.tempoHeld := rfl
@[simp] theorem State.setOn_bases : (s.setOn f b i e).bases = s.bases := rfl
@[simp] theorem State.setOn_scrubFrom : (s.setOn f b i e).scrubFrom = s.scrubFrom := rfl
@[simp] theorem State.setOn_cvuRuns : (s.setOn f b i e).cvuRuns = s.cvuRuns := rfl
@[simp] theorem State.setOn_supply : (s.setOn f b i e).supply = s.supply := rfl
@[simp] theorem State.setOn_slacks : (s.setOn f b i e).slacks = s.slacks := rfl
@[simp] theorem State.setOn_worstFn : (s.setOn f b i e).worstFn = s.worstFn := rfl
@[simp] theorem State.setOn_slotCheck : (s.setOn f b i e).slotCheck = s.slotCheck := rfl
@[simp] theorem State.setOn_vault : (s.setOn f b i e).vault = s.vault := rfl
@[simp] theorem State.setOn_pins : (s.setOn f b i e).pins = s.pins := rfl
@[simp] theorem State.setOn_lane (ob : Nat) : (s.setOn f b i e).lane ob = s.lane ob := rfl
@[simp] theorem State.setOn_word (ob bt : Nat) : (s.setOn f b i e).word ob bt = s.word ob bt := rfl
@[simp] theorem State.setOn_liveOf (ob : Nat) : (s.setOn f b i e).liveOf ob = s.liveOf ob := rfl
@[simp] theorem State.setOn_session (ob : Nat) : (s.setOn f b i e).session ob = s.session ob := rfl
@[simp] theorem State.setOn_mac (ob : Nat) : (s.setOn f b i e).mac ob = s.mac ob := rfl
@[simp] theorem State.setOn_chan (ob : Nat) : (s.setOn f b i e).chan ob = s.chan ob := rfl
end

/-! ### bump -/

section
variable (o : Nat) (k : Nat) (w : Nat)
@[simp] theorem State.bump_pending : (s.bump o k w).pending = s.pending := rfl
@[simp] theorem State.bump_now : (s.bump o k w).now = s.now := rfl
@[simp] theorem State.bump_dts : (s.bump o k w).dts = s.dts := rfl
@[simp] theorem State.bump_tempo : (s.bump o k w).tempo = s.tempo := rfl
@[simp] theorem State.bump_startup : (s.bump o k w).startup = s.startup := rfl
@[simp] theorem State.bump_straps : (s.bump o k w).straps = s.straps := rfl
@[simp] theorem State.bump_resetLow : (s.bump o k w).resetLow = s.resetLow := rfl
@[simp] theorem State.bump_rails : (s.bump o k w).rails = s.rails := rfl
@[simp] theorem State.bump_free : (s.bump o k w).free = s.free := rfl
@[simp] theorem State.bump_live : (s.bump o k w).live = s.live := rfl
@[simp] theorem State.bump_words : (s.bump o k w).words = s.words := rfl
@[simp] theorem State.bump_lanes : (s.bump o k w).lanes = s.lanes := rfl
@[simp] theorem State.bump_xc : (s.bump o k w).xc = s.xc := rfl
@[simp] theorem State.bump_sessions : (s.bump o k w).sessions = s.sessions := rfl
@[simp] theorem State.bump_freeNums : (s.bump o k w).freeNums = s.freeNums := rfl
@[simp] theorem State.bump_opened : (s.bump o k w).opened = s.opened := rfl
@[simp] theorem State.bump_txns : (s.bump o k w).txns = s.txns := rfl
@[simp] theorem State.bump_nextTxn : (s.bump o k w).nextTxn = s.nextTxn := rfl
@[simp] theorem State.bump_claims : (s.bump o k w).claims = s.claims := rfl
@[simp] theorem State.bump_hwClaims : (s.bump o k w).hwClaims = s.hwClaims := rfl
@[simp] theorem State.bump_gens : (s.bump o k w).gens = s.gens := rfl
@[simp] theorem State.bump_spiIn : (s.bump o k w).spiIn = s.spiIn := rfl
@[simp] theorem State.bump_spiOut : (s.bump o k w).spiOut = s.spiOut := rfl
@[simp] theorem State.bump_miso : (s.bump o k w).miso = s.miso := rfl
@[simp] theorem State.bump_lastOp : (s.bump o k w).lastOp = s.lastOp := rfl
@[simp] theorem State.bump_lastReply : (s.bump o k w).lastReply = s.lastReply := rfl
@[simp] theorem State.bump_cands : (s.bump o k w).cands = s.cands := rfl
@[simp] theorem State.bump_timing : (s.bump o k w).timing = s.timing := rfl
@[simp] theorem State.bump_outs : (s.bump o k w).outs = s.outs := rfl
@[simp] theorem State.bump_pps : (s.bump o k w).pps = s.pps := rfl
@[simp] theorem State.bump_aps : (s.bump o k w).aps = s.aps := rfl
@[simp] theorem State.bump_pathProt : (s.bump o k w).pathProt = s.pathProt := rfl
@[simp] theorem State.bump_tandem : (s.bump o k w).tandem = s.tandem := rfl
@[simp] theorem State.bump_gallery : (s.bump o k w).gallery = s.gallery := rfl
@[simp] theorem State.bump_chans : (s.bump o k w).chans = s.chans := rfl
@[simp] theorem State.bump_dccOut : (s.bump o k w).dccOut = s.dccOut := rfl
@[simp] theorem State.bump_dccIn : (s.bump o k w).dccIn = s.dccIn := rfl
@[simp] theorem State.bump_points : (s.bump o k w).points = s.points := rfl
@[simp] theorem State.bump_dayCuts : (s.bump o k w).dayCuts = s.dayCuts := rfl
@[simp] theorem State.bump_tcaLog : (s.bump o k w).tcaLog = s.tcaLog := rfl
@[simp] theorem State.bump_macs : (s.bump o k w).macs = s.macs := rfl
@[simp] theorem State.bump_faults : (s.bump o k w).faults = s.faults := rfl
@[simp] theorem State.bump_banks : (s.bump o k w).banks = s.banks := rfl
@[simp] theorem State.bump_usedBanks : (s.bump o k w).usedBanks = s.usedBanks := rfl
@[simp] theorem State.bump_owners : (s.bump o k w).owners = s.owners := rfl
@[simp] theorem State.bump_retained : (s.bump o k w).retained = s.retained := rfl
@[simp] theorem State.bump_seatObjs : (s.bump o k w).seatObjs = s.seatObjs := rfl
@[simp] theorem State.bump_tempoFrom : (s.bump o k w).tempoFrom = s.tempoFrom := rfl
@[simp] theorem State.bump_tempoHeld : (s.bump o k w).tempoHeld = s.tempoHeld := rfl
@[simp] theorem State.bump_bases : (s.bump o k w).bases = s.bases := rfl
@[simp] theorem State.bump_scrubFrom : (s.bump o k w).scrubFrom = s.scrubFrom := rfl
@[simp] theorem State.bump_cvuRuns : (s.bump o k w).cvuRuns = s.cvuRuns := rfl
@[simp] theorem State.bump_supply : (s.bump o k w).supply = s.supply := rfl
@[simp] theorem State.bump_slacks : (s.bump o k w).slacks = s.slacks := rfl
@[simp] theorem State.bump_worstFn : (s.bump o k w).worstFn = s.worstFn := rfl
@[simp] theorem State.bump_slotCheck : (s.bump o k w).slotCheck = s.slotCheck := rfl
@[simp] theorem State.bump_vault : (s.bump o k w).vault = s.vault := rfl
@[simp] theorem State.bump_pins : (s.bump o k w).pins = s.pins := rfl
@[simp] theorem State.bump_lane (ob : Nat) : (s.bump o k w).lane ob = s.lane ob := rfl
@[simp] theorem State.bump_word (ob bt : Nat) : (s.bump o k w).word ob bt = s.word ob bt := rfl
@[simp] theorem State.bump_liveOf (ob : Nat) : (s.bump o k w).liveOf ob = s.liveOf ob := rfl
@[simp] theorem State.bump_session (ob : Nat) : (s.bump o k w).session ob = s.session ob := rfl
@[simp] theorem State.bump_mac (ob : Nat) : (s.bump o k w).mac ob = s.mac ob := rfl
@[simp] theorem State.bump_chan (ob : Nat) : (s.bump o k w).chan ob = s.chan ob := rfl
end

/-! ### setLive -/

section
variable (o n : Nat)
@[simp] theorem State.setLive_pending : (s.setLive o n).pending = s.pending := rfl
@[simp] theorem State.setLive_now : (s.setLive o n).now = s.now := rfl
@[simp] theorem State.setLive_dts : (s.setLive o n).dts = s.dts := rfl
@[simp] theorem State.setLive_tempo : (s.setLive o n).tempo = s.tempo := rfl
@[simp] theorem State.setLive_startup : (s.setLive o n).startup = s.startup := rfl
@[simp] theorem State.setLive_straps : (s.setLive o n).straps = s.straps := rfl
@[simp] theorem State.setLive_resetLow : (s.setLive o n).resetLow = s.resetLow := rfl
@[simp] theorem State.setLive_rails : (s.setLive o n).rails = s.rails := rfl
@[simp] theorem State.setLive_free : (s.setLive o n).free = s.free := rfl
@[simp] theorem State.setLive_dict : (s.setLive o n).dict = s.dict := rfl
@[simp] theorem State.setLive_words : (s.setLive o n).words = s.words := rfl
@[simp] theorem State.setLive_lanes : (s.setLive o n).lanes = s.lanes := rfl
@[simp] theorem State.setLive_xc : (s.setLive o n).xc = s.xc := rfl
@[simp] theorem State.setLive_sessions : (s.setLive o n).sessions = s.sessions := rfl
@[simp] theorem State.setLive_freeNums : (s.setLive o n).freeNums = s.freeNums := rfl
@[simp] theorem State.setLive_opened : (s.setLive o n).opened = s.opened := rfl
@[simp] theorem State.setLive_txns : (s.setLive o n).txns = s.txns := rfl
@[simp] theorem State.setLive_nextTxn : (s.setLive o n).nextTxn = s.nextTxn := rfl
@[simp] theorem State.setLive_claims : (s.setLive o n).claims = s.claims := rfl
@[simp] theorem State.setLive_hwClaims : (s.setLive o n).hwClaims = s.hwClaims := rfl
@[simp] theorem State.setLive_gens : (s.setLive o n).gens = s.gens := rfl
@[simp] theorem State.setLive_spiIn : (s.setLive o n).spiIn = s.spiIn := rfl
@[simp] theorem State.setLive_spiOut : (s.setLive o n).spiOut = s.spiOut := rfl
@[simp] theorem State.setLive_miso : (s.setLive o n).miso = s.miso := rfl
@[simp] theorem State.setLive_lastOp : (s.setLive o n).lastOp = s.lastOp := rfl
@[simp] theorem State.setLive_lastReply : (s.setLive o n).lastReply = s.lastReply := rfl
@[simp] theorem State.setLive_cands : (s.setLive o n).cands = s.cands := rfl
@[simp] theorem State.setLive_timing : (s.setLive o n).timing = s.timing := rfl
@[simp] theorem State.setLive_outs : (s.setLive o n).outs = s.outs := rfl
@[simp] theorem State.setLive_pps : (s.setLive o n).pps = s.pps := rfl
@[simp] theorem State.setLive_aps : (s.setLive o n).aps = s.aps := rfl
@[simp] theorem State.setLive_pathProt : (s.setLive o n).pathProt = s.pathProt := rfl
@[simp] theorem State.setLive_tandem : (s.setLive o n).tandem = s.tandem := rfl
@[simp] theorem State.setLive_gallery : (s.setLive o n).gallery = s.gallery := rfl
@[simp] theorem State.setLive_chans : (s.setLive o n).chans = s.chans := rfl
@[simp] theorem State.setLive_dccOut : (s.setLive o n).dccOut = s.dccOut := rfl
@[simp] theorem State.setLive_dccIn : (s.setLive o n).dccIn = s.dccIn := rfl
@[simp] theorem State.setLive_points : (s.setLive o n).points = s.points := rfl
@[simp] theorem State.setLive_dayCuts : (s.setLive o n).dayCuts = s.dayCuts := rfl
@[simp] theorem State.setLive_tcaLog : (s.setLive o n).tcaLog = s.tcaLog := rfl
@[simp] theorem State.setLive_macs : (s.setLive o n).macs = s.macs := rfl
@[simp] theorem State.setLive_faults : (s.setLive o n).faults = s.faults := rfl
@[simp] theorem State.setLive_banks : (s.setLive o n).banks = s.banks := rfl
@[simp] theorem State.setLive_usedBanks : (s.setLive o n).usedBanks = s.usedBanks := rfl
@[simp] theorem State.setLive_owners : (s.setLive o n).owners = s.owners := rfl
@[simp] theorem State.setLive_retained : (s.setLive o n).retained = s.retained := rfl
@[simp] theorem State.setLive_seatObjs : (s.setLive o n).seatObjs = s.seatObjs := rfl
@[simp] theorem State.setLive_tempoFrom : (s.setLive o n).tempoFrom = s.tempoFrom := rfl
@[simp] theorem State.setLive_tempoHeld : (s.setLive o n).tempoHeld = s.tempoHeld := rfl
@[simp] theorem State.setLive_bases : (s.setLive o n).bases = s.bases := rfl
@[simp] theorem State.setLive_scrubFrom : (s.setLive o n).scrubFrom = s.scrubFrom := rfl
@[simp] theorem State.setLive_cvuRuns : (s.setLive o n).cvuRuns = s.cvuRuns := rfl
@[simp] theorem State.setLive_supply : (s.setLive o n).supply = s.supply := rfl
@[simp] theorem State.setLive_slacks : (s.setLive o n).slacks = s.slacks := rfl
@[simp] theorem State.setLive_worstFn : (s.setLive o n).worstFn = s.worstFn := rfl
@[simp] theorem State.setLive_slotCheck : (s.setLive o n).slotCheck = s.slotCheck := rfl
@[simp] theorem State.setLive_vault : (s.setLive o n).vault = s.vault := rfl
@[simp] theorem State.setLive_pins : (s.setLive o n).pins = s.pins := rfl
@[simp] theorem State.setLive_val (ob : Nat) : (s.setLive o n).val ob = s.val ob := rfl
@[simp] theorem State.setLive_fld (fl : Fld) (j d : Nat) : (s.setLive o n).fld fl j d = s.fld fl j d := rfl
@[simp] theorem State.setLive_on (fl : Fld) (j d : Nat) : (s.setLive o n).on fl j d = s.on fl j d := rfl
@[simp] theorem State.setLive_objBit (ob bt : Nat) : (s.setLive o n).objBit ob bt = s.objBit ob bt := rfl
@[simp] theorem State.setLive_lane (ob : Nat) : (s.setLive o n).lane ob = s.lane ob := rfl
@[simp] theorem State.setLive_word (ob bt : Nat) : (s.setLive o n).word ob bt = s.word ob bt := rfl
@[simp] theorem State.setLive_session (ob : Nat) : (s.setLive o n).session ob = s.session ob := rfl
@[simp] theorem State.setLive_mac (ob : Nat) : (s.setLive o n).mac ob = s.mac ob := rfl
@[simp] theorem State.setLive_chan (ob : Nat) : (s.setLive o n).chan ob = s.chan ob := rfl
end

/-! ### bumpLive -/

section
variable (o : Nat) (k : Nat)
@[simp] theorem State.bumpLive_pending : (s.bumpLive o k).pending = s.pending := rfl
@[simp] theorem State.bumpLive_now : (s.bumpLive o k).now = s.now := rfl
@[simp] theorem State.bumpLive_dts : (s.bumpLive o k).dts = s.dts := rfl
@[simp] theorem State.bumpLive_tempo : (s.bumpLive o k).tempo = s.tempo := rfl
@[simp] theorem State.bumpLive_startup : (s.bumpLive o k).startup = s.startup := rfl
@[simp] theorem State.bumpLive_straps : (s.bumpLive o k).straps = s.straps := rfl
@[simp] theorem State.bumpLive_resetLow : (s.bumpLive o k).resetLow = s.resetLow := rfl
@[simp] theorem State.bumpLive_rails : (s.bumpLive o k).rails = s.rails := rfl
@[simp] theorem State.bumpLive_free : (s.bumpLive o k).free = s.free := rfl
@[simp] theorem State.bumpLive_dict : (s.bumpLive o k).dict = s.dict := rfl
@[simp] theorem State.bumpLive_words : (s.bumpLive o k).words = s.words := rfl
@[simp] theorem State.bumpLive_lanes : (s.bumpLive o k).lanes = s.lanes := rfl
@[simp] theorem State.bumpLive_xc : (s.bumpLive o k).xc = s.xc := rfl
@[simp] theorem State.bumpLive_sessions : (s.bumpLive o k).sessions = s.sessions := rfl
@[simp] theorem State.bumpLive_freeNums : (s.bumpLive o k).freeNums = s.freeNums := rfl
@[simp] theorem State.bumpLive_opened : (s.bumpLive o k).opened = s.opened := rfl
@[simp] theorem State.bumpLive_txns : (s.bumpLive o k).txns = s.txns := rfl
@[simp] theorem State.bumpLive_nextTxn : (s.bumpLive o k).nextTxn = s.nextTxn := rfl
@[simp] theorem State.bumpLive_claims : (s.bumpLive o k).claims = s.claims := rfl
@[simp] theorem State.bumpLive_hwClaims : (s.bumpLive o k).hwClaims = s.hwClaims := rfl
@[simp] theorem State.bumpLive_gens : (s.bumpLive o k).gens = s.gens := rfl
@[simp] theorem State.bumpLive_spiIn : (s.bumpLive o k).spiIn = s.spiIn := rfl
@[simp] theorem State.bumpLive_spiOut : (s.bumpLive o k).spiOut = s.spiOut := rfl
@[simp] theorem State.bumpLive_miso : (s.bumpLive o k).miso = s.miso := rfl
@[simp] theorem State.bumpLive_lastOp : (s.bumpLive o k).lastOp = s.lastOp := rfl
@[simp] theorem State.bumpLive_lastReply : (s.bumpLive o k).lastReply = s.lastReply := rfl
@[simp] theorem State.bumpLive_cands : (s.bumpLive o k).cands = s.cands := rfl
@[simp] theorem State.bumpLive_timing : (s.bumpLive o k).timing = s.timing := rfl
@[simp] theorem State.bumpLive_outs : (s.bumpLive o k).outs = s.outs := rfl
@[simp] theorem State.bumpLive_pps : (s.bumpLive o k).pps = s.pps := rfl
@[simp] theorem State.bumpLive_aps : (s.bumpLive o k).aps = s.aps := rfl
@[simp] theorem State.bumpLive_pathProt : (s.bumpLive o k).pathProt = s.pathProt := rfl
@[simp] theorem State.bumpLive_tandem : (s.bumpLive o k).tandem = s.tandem := rfl
@[simp] theorem State.bumpLive_gallery : (s.bumpLive o k).gallery = s.gallery := rfl
@[simp] theorem State.bumpLive_chans : (s.bumpLive o k).chans = s.chans := rfl
@[simp] theorem State.bumpLive_dccOut : (s.bumpLive o k).dccOut = s.dccOut := rfl
@[simp] theorem State.bumpLive_dccIn : (s.bumpLive o k).dccIn = s.dccIn := rfl
@[simp] theorem State.bumpLive_points : (s.bumpLive o k).points = s.points := rfl
@[simp] theorem State.bumpLive_dayCuts : (s.bumpLive o k).dayCuts = s.dayCuts := rfl
@[simp] theorem State.bumpLive_tcaLog : (s.bumpLive o k).tcaLog = s.tcaLog := rfl
@[simp] theorem State.bumpLive_macs : (s.bumpLive o k).macs = s.macs := rfl
@[simp] theorem State.bumpLive_faults : (s.bumpLive o k).faults = s.faults := rfl
@[simp] theorem State.bumpLive_banks : (s.bumpLive o k).banks = s.banks := rfl
@[simp] theorem State.bumpLive_usedBanks : (s.bumpLive o k).usedBanks = s.usedBanks := rfl
@[simp] theorem State.bumpLive_owners : (s.bumpLive o k).owners = s.owners := rfl
@[simp] theorem State.bumpLive_retained : (s.bumpLive o k).retained = s.retained := rfl
@[simp] theorem State.bumpLive_seatObjs : (s.bumpLive o k).seatObjs = s.seatObjs := rfl
@[simp] theorem State.bumpLive_tempoFrom : (s.bumpLive o k).tempoFrom = s.tempoFrom := rfl
@[simp] theorem State.bumpLive_tempoHeld : (s.bumpLive o k).tempoHeld = s.tempoHeld := rfl
@[simp] theorem State.bumpLive_bases : (s.bumpLive o k).bases = s.bases := rfl
@[simp] theorem State.bumpLive_scrubFrom : (s.bumpLive o k).scrubFrom = s.scrubFrom := rfl
@[simp] theorem State.bumpLive_cvuRuns : (s.bumpLive o k).cvuRuns = s.cvuRuns := rfl
@[simp] theorem State.bumpLive_supply : (s.bumpLive o k).supply = s.supply := rfl
@[simp] theorem State.bumpLive_slacks : (s.bumpLive o k).slacks = s.slacks := rfl
@[simp] theorem State.bumpLive_worstFn : (s.bumpLive o k).worstFn = s.worstFn := rfl
@[simp] theorem State.bumpLive_slotCheck : (s.bumpLive o k).slotCheck = s.slotCheck := rfl
@[simp] theorem State.bumpLive_vault : (s.bumpLive o k).vault = s.vault := rfl
@[simp] theorem State.bumpLive_pins : (s.bumpLive o k).pins = s.pins := rfl
@[simp] theorem State.bumpLive_val (ob : Nat) : (s.bumpLive o k).val ob = s.val ob := rfl
@[simp] theorem State.bumpLive_fld (fl : Fld) (j d : Nat) : (s.bumpLive o k).fld fl j d = s.fld fl j d := rfl
@[simp] theorem State.bumpLive_on (fl : Fld) (j d : Nat) : (s.bumpLive o k).on fl j d = s.on fl j d := rfl
@[simp] theorem State.bumpLive_objBit (ob bt : Nat) : (s.bumpLive o k).objBit ob bt = s.objBit ob bt := rfl
@[simp] theorem State.bumpLive_lane (ob : Nat) : (s.bumpLive o k).lane ob = s.lane ob := rfl
@[simp] theorem State.bumpLive_word (ob bt : Nat) : (s.bumpLive o k).word ob bt = s.word ob bt := rfl
@[simp] theorem State.bumpLive_session (ob : Nat) : (s.bumpLive o k).session ob = s.session ob := rfl
@[simp] theorem State.bumpLive_mac (ob : Nat) : (s.bumpLive o k).mac ob = s.mac ob := rfl
@[simp] theorem State.bumpLive_chan (ob : Nat) : (s.bumpLive o k).chan ob = s.chan ob := rfl
end

/-! ### setWord -/

section
variable (o k : Nat) (w : Word)
@[simp] theorem State.setWord_pending : (s.setWord o k w).pending = s.pending := rfl
@[simp] theorem State.setWord_now : (s.setWord o k w).now = s.now := rfl
@[simp] theorem State.setWord_dts : (s.setWord o k w).dts = s.dts := rfl
@[simp] theorem State.setWord_tempo : (s.setWord o k w).tempo = s.tempo := rfl
@[simp] theorem State.setWord_startup : (s.setWord o k w).startup = s.startup := rfl
@[simp] theorem State.setWord_straps : (s.setWord o k w).straps = s.straps := rfl
@[simp] theorem State.setWord_resetLow : (s.setWord o k w).resetLow = s.resetLow := rfl
@[simp] theorem State.setWord_rails : (s.setWord o k w).rails = s.rails := rfl
@[simp] theorem State.setWord_free : (s.setWord o k w).free = s.free := rfl
@[simp] theorem State.setWord_dict : (s.setWord o k w).dict = s.dict := rfl
@[simp] theorem State.setWord_live : (s.setWord o k w).live = s.live := rfl
@[simp] theorem State.setWord_lanes : (s.setWord o k w).lanes = s.lanes := rfl
@[simp] theorem State.setWord_xc : (s.setWord o k w).xc = s.xc := rfl
@[simp] theorem State.setWord_sessions : (s.setWord o k w).sessions = s.sessions := rfl
@[simp] theorem State.setWord_freeNums : (s.setWord o k w).freeNums = s.freeNums := rfl
@[simp] theorem State.setWord_opened : (s.setWord o k w).opened = s.opened := rfl
@[simp] theorem State.setWord_txns : (s.setWord o k w).txns = s.txns := rfl
@[simp] theorem State.setWord_nextTxn : (s.setWord o k w).nextTxn = s.nextTxn := rfl
@[simp] theorem State.setWord_claims : (s.setWord o k w).claims = s.claims := rfl
@[simp] theorem State.setWord_hwClaims : (s.setWord o k w).hwClaims = s.hwClaims := rfl
@[simp] theorem State.setWord_gens : (s.setWord o k w).gens = s.gens := rfl
@[simp] theorem State.setWord_spiIn : (s.setWord o k w).spiIn = s.spiIn := rfl
@[simp] theorem State.setWord_spiOut : (s.setWord o k w).spiOut = s.spiOut := rfl
@[simp] theorem State.setWord_miso : (s.setWord o k w).miso = s.miso := rfl
@[simp] theorem State.setWord_lastOp : (s.setWord o k w).lastOp = s.lastOp := rfl
@[simp] theorem State.setWord_lastReply : (s.setWord o k w).lastReply = s.lastReply := rfl
@[simp] theorem State.setWord_cands : (s.setWord o k w).cands = s.cands := rfl
@[simp] theorem State.setWord_timing : (s.setWord o k w).timing = s.timing := rfl
@[simp] theorem State.setWord_outs : (s.setWord o k w).outs = s.outs := rfl
@[simp] theorem State.setWord_pps : (s.setWord o k w).pps = s.pps := rfl
@[simp] theorem State.setWord_aps : (s.setWord o k w).aps = s.aps := rfl
@[simp] theorem State.setWord_pathProt : (s.setWord o k w).pathProt = s.pathProt := rfl
@[simp] theorem State.setWord_tandem : (s.setWord o k w).tandem = s.tandem := rfl
@[simp] theorem State.setWord_gallery : (s.setWord o k w).gallery = s.gallery := rfl
@[simp] theorem State.setWord_chans : (s.setWord o k w).chans = s.chans := rfl
@[simp] theorem State.setWord_dccOut : (s.setWord o k w).dccOut = s.dccOut := rfl
@[simp] theorem State.setWord_dccIn : (s.setWord o k w).dccIn = s.dccIn := rfl
@[simp] theorem State.setWord_points : (s.setWord o k w).points = s.points := rfl
@[simp] theorem State.setWord_dayCuts : (s.setWord o k w).dayCuts = s.dayCuts := rfl
@[simp] theorem State.setWord_tcaLog : (s.setWord o k w).tcaLog = s.tcaLog := rfl
@[simp] theorem State.setWord_macs : (s.setWord o k w).macs = s.macs := rfl
@[simp] theorem State.setWord_faults : (s.setWord o k w).faults = s.faults := rfl
@[simp] theorem State.setWord_banks : (s.setWord o k w).banks = s.banks := rfl
@[simp] theorem State.setWord_usedBanks : (s.setWord o k w).usedBanks = s.usedBanks := rfl
@[simp] theorem State.setWord_owners : (s.setWord o k w).owners = s.owners := rfl
@[simp] theorem State.setWord_retained : (s.setWord o k w).retained = s.retained := rfl
@[simp] theorem State.setWord_seatObjs : (s.setWord o k w).seatObjs = s.seatObjs := rfl
@[simp] theorem State.setWord_tempoFrom : (s.setWord o k w).tempoFrom = s.tempoFrom := rfl
@[simp] theorem State.setWord_tempoHeld : (s.setWord o k w).tempoHeld = s.tempoHeld := rfl
@[simp] theorem State.setWord_bases : (s.setWord o k w).bases = s.bases := rfl
@[simp] theorem State.setWord_scrubFrom : (s.setWord o k w).scrubFrom = s.scrubFrom := rfl
@[simp] theorem State.setWord_cvuRuns : (s.setWord o k w).cvuRuns = s.cvuRuns := rfl
@[simp] theorem State.setWord_supply : (s.setWord o k w).supply = s.supply := rfl
@[simp] theorem State.setWord_slacks : (s.setWord o k w).slacks = s.slacks := rfl
@[simp] theorem State.setWord_worstFn : (s.setWord o k w).worstFn = s.worstFn := rfl
@[simp] theorem State.setWord_slotCheck : (s.setWord o k w).slotCheck = s.slotCheck := rfl
@[simp] theorem State.setWord_vault : (s.setWord o k w).vault = s.vault := rfl
@[simp] theorem State.setWord_pins : (s.setWord o k w).pins = s.pins := rfl
@[simp] theorem State.setWord_val (ob : Nat) : (s.setWord o k w).val ob = s.val ob := rfl
@[simp] theorem State.setWord_fld (fl : Fld) (j d : Nat) : (s.setWord o k w).fld fl j d = s.fld fl j d := rfl
@[simp] theorem State.setWord_on (fl : Fld) (j d : Nat) : (s.setWord o k w).on fl j d = s.on fl j d := rfl
@[simp] theorem State.setWord_objBit (ob bt : Nat) : (s.setWord o k w).objBit ob bt = s.objBit ob bt := rfl
@[simp] theorem State.setWord_lane (ob : Nat) : (s.setWord o k w).lane ob = s.lane ob := rfl
@[simp] theorem State.setWord_liveOf (ob : Nat) : (s.setWord o k w).liveOf ob = s.liveOf ob := rfl
@[simp] theorem State.setWord_session (ob : Nat) : (s.setWord o k w).session ob = s.session ob := rfl
@[simp] theorem State.setWord_mac (ob : Nat) : (s.setWord o k w).mac ob = s.mac ob := rfl
@[simp] theorem State.setWord_chan (ob : Nat) : (s.setWord o k w).chan ob = s.chan ob := rfl
end

/-! ### drawn -/

section
@[simp] theorem State.drawn_pending : (s.drawn).pending = s.pending := rfl
@[simp] theorem State.drawn_now : (s.drawn).now = s.now := rfl
@[simp] theorem State.drawn_dts : (s.drawn).dts = s.dts := rfl
@[simp] theorem State.drawn_tempo : (s.drawn).tempo = s.tempo := rfl
@[simp] theorem State.drawn_startup : (s.drawn).startup = s.startup := rfl
@[simp] theorem State.drawn_straps : (s.drawn).straps = s.straps := rfl
@[simp] theorem State.drawn_resetLow : (s.drawn).resetLow = s.resetLow := rfl
@[simp] theorem State.drawn_rails : (s.drawn).rails = s.rails := rfl
@[simp] theorem State.drawn_dict : (s.drawn).dict = s.dict := rfl
@[simp] theorem State.drawn_live : (s.drawn).live = s.live := rfl
@[simp] theorem State.drawn_words : (s.drawn).words = s.words := rfl
@[simp] theorem State.drawn_lanes : (s.drawn).lanes = s.lanes := rfl
@[simp] theorem State.drawn_xc : (s.drawn).xc = s.xc := rfl
@[simp] theorem State.drawn_sessions : (s.drawn).sessions = s.sessions := rfl
@[simp] theorem State.drawn_freeNums : (s.drawn).freeNums = s.freeNums := rfl
@[simp] theorem State.drawn_opened : (s.drawn).opened = s.opened := rfl
@[simp] theorem State.drawn_txns : (s.drawn).txns = s.txns := rfl
@[simp] theorem State.drawn_nextTxn : (s.drawn).nextTxn = s.nextTxn := rfl
@[simp] theorem State.drawn_claims : (s.drawn).claims = s.claims := rfl
@[simp] theorem State.drawn_hwClaims : (s.drawn).hwClaims = s.hwClaims := rfl
@[simp] theorem State.drawn_gens : (s.drawn).gens = s.gens := rfl
@[simp] theorem State.drawn_spiIn : (s.drawn).spiIn = s.spiIn := rfl
@[simp] theorem State.drawn_spiOut : (s.drawn).spiOut = s.spiOut := rfl
@[simp] theorem State.drawn_miso : (s.drawn).miso = s.miso := rfl
@[simp] theorem State.drawn_lastOp : (s.drawn).lastOp = s.lastOp := rfl
@[simp] theorem State.drawn_lastReply : (s.drawn).lastReply = s.lastReply := rfl
@[simp] theorem State.drawn_cands : (s.drawn).cands = s.cands := rfl
@[simp] theorem State.drawn_timing : (s.drawn).timing = s.timing := rfl
@[simp] theorem State.drawn_outs : (s.drawn).outs = s.outs := rfl
@[simp] theorem State.drawn_pps : (s.drawn).pps = s.pps := rfl
@[simp] theorem State.drawn_aps : (s.drawn).aps = s.aps := rfl
@[simp] theorem State.drawn_pathProt : (s.drawn).pathProt = s.pathProt := rfl
@[simp] theorem State.drawn_tandem : (s.drawn).tandem = s.tandem := rfl
@[simp] theorem State.drawn_gallery : (s.drawn).gallery = s.gallery := rfl
@[simp] theorem State.drawn_chans : (s.drawn).chans = s.chans := rfl
@[simp] theorem State.drawn_dccOut : (s.drawn).dccOut = s.dccOut := rfl
@[simp] theorem State.drawn_dccIn : (s.drawn).dccIn = s.dccIn := rfl
@[simp] theorem State.drawn_points : (s.drawn).points = s.points := rfl
@[simp] theorem State.drawn_dayCuts : (s.drawn).dayCuts = s.dayCuts := rfl
@[simp] theorem State.drawn_tcaLog : (s.drawn).tcaLog = s.tcaLog := rfl
@[simp] theorem State.drawn_macs : (s.drawn).macs = s.macs := rfl
@[simp] theorem State.drawn_faults : (s.drawn).faults = s.faults := rfl
@[simp] theorem State.drawn_banks : (s.drawn).banks = s.banks := rfl
@[simp] theorem State.drawn_usedBanks : (s.drawn).usedBanks = s.usedBanks := rfl
@[simp] theorem State.drawn_owners : (s.drawn).owners = s.owners := rfl
@[simp] theorem State.drawn_retained : (s.drawn).retained = s.retained := rfl
@[simp] theorem State.drawn_seatObjs : (s.drawn).seatObjs = s.seatObjs := rfl
@[simp] theorem State.drawn_tempoFrom : (s.drawn).tempoFrom = s.tempoFrom := rfl
@[simp] theorem State.drawn_tempoHeld : (s.drawn).tempoHeld = s.tempoHeld := rfl
@[simp] theorem State.drawn_bases : (s.drawn).bases = s.bases := rfl
@[simp] theorem State.drawn_scrubFrom : (s.drawn).scrubFrom = s.scrubFrom := rfl
@[simp] theorem State.drawn_cvuRuns : (s.drawn).cvuRuns = s.cvuRuns := rfl
@[simp] theorem State.drawn_supply : (s.drawn).supply = s.supply := rfl
@[simp] theorem State.drawn_slacks : (s.drawn).slacks = s.slacks := rfl
@[simp] theorem State.drawn_worstFn : (s.drawn).worstFn = s.worstFn := rfl
@[simp] theorem State.drawn_slotCheck : (s.drawn).slotCheck = s.slotCheck := rfl
@[simp] theorem State.drawn_vault : (s.drawn).vault = s.vault := rfl
@[simp] theorem State.drawn_pins : (s.drawn).pins = s.pins := rfl
@[simp] theorem State.drawn_val (ob : Nat) : (s.drawn).val ob = s.val ob := rfl
@[simp] theorem State.drawn_fld (fl : Fld) (j d : Nat) : (s.drawn).fld fl j d = s.fld fl j d := rfl
@[simp] theorem State.drawn_on (fl : Fld) (j d : Nat) : (s.drawn).on fl j d = s.on fl j d := rfl
@[simp] theorem State.drawn_objBit (ob bt : Nat) : (s.drawn).objBit ob bt = s.objBit ob bt := rfl
@[simp] theorem State.drawn_lane (ob : Nat) : (s.drawn).lane ob = s.lane ob := rfl
@[simp] theorem State.drawn_word (ob bt : Nat) : (s.drawn).word ob bt = s.word ob bt := rfl
@[simp] theorem State.drawn_liveOf (ob : Nat) : (s.drawn).liveOf ob = s.liveOf ob := rfl
@[simp] theorem State.drawn_session (ob : Nat) : (s.drawn).session ob = s.session ob := rfl
@[simp] theorem State.drawn_mac (ob : Nat) : (s.drawn).mac ob = s.mac ob := rfl
@[simp] theorem State.drawn_chan (ob : Nat) : (s.drawn).chan ob = s.chan ob := rfl
end

/-! ### setLane -/

section
variable (i : Nat) (l : Lane)
@[simp] theorem State.setLane_pending : (s.setLane i l).pending = s.pending := rfl
@[simp] theorem State.setLane_now : (s.setLane i l).now = s.now := rfl
@[simp] theorem State.setLane_dts : (s.setLane i l).dts = s.dts := rfl
@[simp] theorem State.setLane_tempo : (s.setLane i l).tempo = s.tempo := rfl
@[simp] theorem State.setLane_startup : (s.setLane i l).startup = s.startup := rfl
@[simp] theorem State.setLane_straps : (s.setLane i l).straps = s.straps := rfl
@[simp] theorem State.setLane_resetLow : (s.setLane i l).resetLow = s.resetLow := rfl
@[simp] theorem State.setLane_rails : (s.setLane i l).rails = s.rails := rfl
@[simp] theorem State.setLane_free : (s.setLane i l).free = s.free := rfl
@[simp] theorem State.setLane_dict : (s.setLane i l).dict = s.dict := rfl
@[simp] theorem State.setLane_live : (s.setLane i l).live = s.live := rfl
@[simp] theorem State.setLane_words : (s.setLane i l).words = s.words := rfl
@[simp] theorem State.setLane_xc : (s.setLane i l).xc = s.xc := rfl
@[simp] theorem State.setLane_sessions : (s.setLane i l).sessions = s.sessions := rfl
@[simp] theorem State.setLane_freeNums : (s.setLane i l).freeNums = s.freeNums := rfl
@[simp] theorem State.setLane_opened : (s.setLane i l).opened = s.opened := rfl
@[simp] theorem State.setLane_txns : (s.setLane i l).txns = s.txns := rfl
@[simp] theorem State.setLane_nextTxn : (s.setLane i l).nextTxn = s.nextTxn := rfl
@[simp] theorem State.setLane_claims : (s.setLane i l).claims = s.claims := rfl
@[simp] theorem State.setLane_hwClaims : (s.setLane i l).hwClaims = s.hwClaims := rfl
@[simp] theorem State.setLane_gens : (s.setLane i l).gens = s.gens := rfl
@[simp] theorem State.setLane_spiIn : (s.setLane i l).spiIn = s.spiIn := rfl
@[simp] theorem State.setLane_spiOut : (s.setLane i l).spiOut = s.spiOut := rfl
@[simp] theorem State.setLane_miso : (s.setLane i l).miso = s.miso := rfl
@[simp] theorem State.setLane_lastOp : (s.setLane i l).lastOp = s.lastOp := rfl
@[simp] theorem State.setLane_lastReply : (s.setLane i l).lastReply = s.lastReply := rfl
@[simp] theorem State.setLane_cands : (s.setLane i l).cands = s.cands := rfl
@[simp] theorem State.setLane_timing : (s.setLane i l).timing = s.timing := rfl
@[simp] theorem State.setLane_outs : (s.setLane i l).outs = s.outs := rfl
@[simp] theorem State.setLane_pps : (s.setLane i l).pps = s.pps := rfl
@[simp] theorem State.setLane_aps : (s.setLane i l).aps = s.aps := rfl
@[simp] theorem State.setLane_pathProt : (s.setLane i l).pathProt = s.pathProt := rfl
@[simp] theorem State.setLane_tandem : (s.setLane i l).tandem = s.tandem := rfl
@[simp] theorem State.setLane_gallery : (s.setLane i l).gallery = s.gallery := rfl
@[simp] theorem State.setLane_chans : (s.setLane i l).chans = s.chans := rfl
@[simp] theorem State.setLane_dccOut : (s.setLane i l).dccOut = s.dccOut := rfl
@[simp] theorem State.setLane_dccIn : (s.setLane i l).dccIn = s.dccIn := rfl
@[simp] theorem State.setLane_points : (s.setLane i l).points = s.points := rfl
@[simp] theorem State.setLane_dayCuts : (s.setLane i l).dayCuts = s.dayCuts := rfl
@[simp] theorem State.setLane_tcaLog : (s.setLane i l).tcaLog = s.tcaLog := rfl
@[simp] theorem State.setLane_macs : (s.setLane i l).macs = s.macs := rfl
@[simp] theorem State.setLane_faults : (s.setLane i l).faults = s.faults := rfl
@[simp] theorem State.setLane_banks : (s.setLane i l).banks = s.banks := rfl
@[simp] theorem State.setLane_usedBanks : (s.setLane i l).usedBanks = s.usedBanks := rfl
@[simp] theorem State.setLane_owners : (s.setLane i l).owners = s.owners := rfl
@[simp] theorem State.setLane_retained : (s.setLane i l).retained = s.retained := rfl
@[simp] theorem State.setLane_seatObjs : (s.setLane i l).seatObjs = s.seatObjs := rfl
@[simp] theorem State.setLane_tempoFrom : (s.setLane i l).tempoFrom = s.tempoFrom := rfl
@[simp] theorem State.setLane_tempoHeld : (s.setLane i l).tempoHeld = s.tempoHeld := rfl
@[simp] theorem State.setLane_bases : (s.setLane i l).bases = s.bases := rfl
@[simp] theorem State.setLane_scrubFrom : (s.setLane i l).scrubFrom = s.scrubFrom := rfl
@[simp] theorem State.setLane_cvuRuns : (s.setLane i l).cvuRuns = s.cvuRuns := rfl
@[simp] theorem State.setLane_supply : (s.setLane i l).supply = s.supply := rfl
@[simp] theorem State.setLane_slacks : (s.setLane i l).slacks = s.slacks := rfl
@[simp] theorem State.setLane_worstFn : (s.setLane i l).worstFn = s.worstFn := rfl
@[simp] theorem State.setLane_slotCheck : (s.setLane i l).slotCheck = s.slotCheck := rfl
@[simp] theorem State.setLane_vault : (s.setLane i l).vault = s.vault := rfl
@[simp] theorem State.setLane_pins : (s.setLane i l).pins = s.pins := rfl
@[simp] theorem State.setLane_val (ob : Nat) : (s.setLane i l).val ob = s.val ob := rfl
@[simp] theorem State.setLane_fld (fl : Fld) (j d : Nat) : (s.setLane i l).fld fl j d = s.fld fl j d := rfl
@[simp] theorem State.setLane_on (fl : Fld) (j d : Nat) : (s.setLane i l).on fl j d = s.on fl j d := rfl
@[simp] theorem State.setLane_objBit (ob bt : Nat) : (s.setLane i l).objBit ob bt = s.objBit ob bt := rfl
@[simp] theorem State.setLane_word (ob bt : Nat) : (s.setLane i l).word ob bt = s.word ob bt := rfl
@[simp] theorem State.setLane_liveOf (ob : Nat) : (s.setLane i l).liveOf ob = s.liveOf ob := rfl
@[simp] theorem State.setLane_session (ob : Nat) : (s.setLane i l).session ob = s.session ob := rfl
@[simp] theorem State.setLane_mac (ob : Nat) : (s.setLane i l).mac ob = s.mac ob := rfl
@[simp] theorem State.setLane_chan (ob : Nat) : (s.setLane i l).chan ob = s.chan ob := rfl
end

/-! ### modLane -/

section
variable (i : Nat) (f : Lane → Lane)
@[simp] theorem State.modLane_pending : (s.modLane i f).pending = s.pending := rfl
@[simp] theorem State.modLane_now : (s.modLane i f).now = s.now := rfl
@[simp] theorem State.modLane_dts : (s.modLane i f).dts = s.dts := rfl
@[simp] theorem State.modLane_tempo : (s.modLane i f).tempo = s.tempo := rfl
@[simp] theorem State.modLane_startup : (s.modLane i f).startup = s.startup := rfl
@[simp] theorem State.modLane_straps : (s.modLane i f).straps = s.straps := rfl
@[simp] theorem State.modLane_resetLow : (s.modLane i f).resetLow = s.resetLow := rfl
@[simp] theorem State.modLane_rails : (s.modLane i f).rails = s.rails := rfl
@[simp] theorem State.modLane_free : (s.modLane i f).free = s.free := rfl
@[simp] theorem State.modLane_dict : (s.modLane i f).dict = s.dict := rfl
@[simp] theorem State.modLane_live : (s.modLane i f).live = s.live := rfl
@[simp] theorem State.modLane_words : (s.modLane i f).words = s.words := rfl
@[simp] theorem State.modLane_xc : (s.modLane i f).xc = s.xc := rfl
@[simp] theorem State.modLane_sessions : (s.modLane i f).sessions = s.sessions := rfl
@[simp] theorem State.modLane_freeNums : (s.modLane i f).freeNums = s.freeNums := rfl
@[simp] theorem State.modLane_opened : (s.modLane i f).opened = s.opened := rfl
@[simp] theorem State.modLane_txns : (s.modLane i f).txns = s.txns := rfl
@[simp] theorem State.modLane_nextTxn : (s.modLane i f).nextTxn = s.nextTxn := rfl
@[simp] theorem State.modLane_claims : (s.modLane i f).claims = s.claims := rfl
@[simp] theorem State.modLane_hwClaims : (s.modLane i f).hwClaims = s.hwClaims := rfl
@[simp] theorem State.modLane_gens : (s.modLane i f).gens = s.gens := rfl
@[simp] theorem State.modLane_spiIn : (s.modLane i f).spiIn = s.spiIn := rfl
@[simp] theorem State.modLane_spiOut : (s.modLane i f).spiOut = s.spiOut := rfl
@[simp] theorem State.modLane_miso : (s.modLane i f).miso = s.miso := rfl
@[simp] theorem State.modLane_lastOp : (s.modLane i f).lastOp = s.lastOp := rfl
@[simp] theorem State.modLane_lastReply : (s.modLane i f).lastReply = s.lastReply := rfl
@[simp] theorem State.modLane_cands : (s.modLane i f).cands = s.cands := rfl
@[simp] theorem State.modLane_timing : (s.modLane i f).timing = s.timing := rfl
@[simp] theorem State.modLane_outs : (s.modLane i f).outs = s.outs := rfl
@[simp] theorem State.modLane_pps : (s.modLane i f).pps = s.pps := rfl
@[simp] theorem State.modLane_aps : (s.modLane i f).aps = s.aps := rfl
@[simp] theorem State.modLane_pathProt : (s.modLane i f).pathProt = s.pathProt := rfl
@[simp] theorem State.modLane_tandem : (s.modLane i f).tandem = s.tandem := rfl
@[simp] theorem State.modLane_gallery : (s.modLane i f).gallery = s.gallery := rfl
@[simp] theorem State.modLane_chans : (s.modLane i f).chans = s.chans := rfl
@[simp] theorem State.modLane_dccOut : (s.modLane i f).dccOut = s.dccOut := rfl
@[simp] theorem State.modLane_dccIn : (s.modLane i f).dccIn = s.dccIn := rfl
@[simp] theorem State.modLane_points : (s.modLane i f).points = s.points := rfl
@[simp] theorem State.modLane_dayCuts : (s.modLane i f).dayCuts = s.dayCuts := rfl
@[simp] theorem State.modLane_tcaLog : (s.modLane i f).tcaLog = s.tcaLog := rfl
@[simp] theorem State.modLane_macs : (s.modLane i f).macs = s.macs := rfl
@[simp] theorem State.modLane_faults : (s.modLane i f).faults = s.faults := rfl
@[simp] theorem State.modLane_banks : (s.modLane i f).banks = s.banks := rfl
@[simp] theorem State.modLane_usedBanks : (s.modLane i f).usedBanks = s.usedBanks := rfl
@[simp] theorem State.modLane_owners : (s.modLane i f).owners = s.owners := rfl
@[simp] theorem State.modLane_retained : (s.modLane i f).retained = s.retained := rfl
@[simp] theorem State.modLane_seatObjs : (s.modLane i f).seatObjs = s.seatObjs := rfl
@[simp] theorem State.modLane_tempoFrom : (s.modLane i f).tempoFrom = s.tempoFrom := rfl
@[simp] theorem State.modLane_tempoHeld : (s.modLane i f).tempoHeld = s.tempoHeld := rfl
@[simp] theorem State.modLane_bases : (s.modLane i f).bases = s.bases := rfl
@[simp] theorem State.modLane_scrubFrom : (s.modLane i f).scrubFrom = s.scrubFrom := rfl
@[simp] theorem State.modLane_cvuRuns : (s.modLane i f).cvuRuns = s.cvuRuns := rfl
@[simp] theorem State.modLane_supply : (s.modLane i f).supply = s.supply := rfl
@[simp] theorem State.modLane_slacks : (s.modLane i f).slacks = s.slacks := rfl
@[simp] theorem State.modLane_worstFn : (s.modLane i f).worstFn = s.worstFn := rfl
@[simp] theorem State.modLane_slotCheck : (s.modLane i f).slotCheck = s.slotCheck := rfl
@[simp] theorem State.modLane_vault : (s.modLane i f).vault = s.vault := rfl
@[simp] theorem State.modLane_pins : (s.modLane i f).pins = s.pins := rfl
@[simp] theorem State.modLane_val (ob : Nat) : (s.modLane i f).val ob = s.val ob := rfl
@[simp] theorem State.modLane_fld (fl : Fld) (j d : Nat) : (s.modLane i f).fld fl j d = s.fld fl j d := rfl
@[simp] theorem State.modLane_on (fl : Fld) (j d : Nat) : (s.modLane i f).on fl j d = s.on fl j d := rfl
@[simp] theorem State.modLane_objBit (ob bt : Nat) : (s.modLane i f).objBit ob bt = s.objBit ob bt := rfl
@[simp] theorem State.modLane_word (ob bt : Nat) : (s.modLane i f).word ob bt = s.word ob bt := rfl
@[simp] theorem State.modLane_liveOf (ob : Nat) : (s.modLane i f).liveOf ob = s.liveOf ob := rfl
@[simp] theorem State.modLane_session (ob : Nat) : (s.modLane i f).session ob = s.session ob := rfl
@[simp] theorem State.modLane_mac (ob : Nat) : (s.modLane i f).mac ob = s.mac ob := rfl
@[simp] theorem State.modLane_chan (ob : Nat) : (s.modLane i f).chan ob = s.chan ob := rfl
end

/-! ### setCand -/

section
variable (i : Nat) (c : Cand)
@[simp] theorem State.setCand_pending : (s.setCand i c).pending = s.pending := rfl
@[simp] theorem State.setCand_now : (s.setCand i c).now = s.now := rfl
@[simp] theorem State.setCand_dts : (s.setCand i c).dts = s.dts := rfl
@[simp] theorem State.setCand_tempo : (s.setCand i c).tempo = s.tempo := rfl
@[simp] theorem State.setCand_startup : (s.setCand i c).startup = s.startup := rfl
@[simp] theorem State.setCand_straps : (s.setCand i c).straps = s.straps := rfl
@[simp] theorem State.setCand_resetLow : (s.setCand i c).resetLow = s.resetLow := rfl
@[simp] theorem State.setCand_rails : (s.setCand i c).rails = s.rails := rfl
@[simp] theorem State.setCand_free : (s.setCand i c).free = s.free := rfl
@[simp] theorem State.setCand_dict : (s.setCand i c).dict = s.dict := rfl
@[simp] theorem State.setCand_live : (s.setCand i c).live = s.live := rfl
@[simp] theorem State.setCand_words : (s.setCand i c).words = s.words := rfl
@[simp] theorem State.setCand_lanes : (s.setCand i c).lanes = s.lanes := rfl
@[simp] theorem State.setCand_xc : (s.setCand i c).xc = s.xc := rfl
@[simp] theorem State.setCand_sessions : (s.setCand i c).sessions = s.sessions := rfl
@[simp] theorem State.setCand_freeNums : (s.setCand i c).freeNums = s.freeNums := rfl
@[simp] theorem State.setCand_opened : (s.setCand i c).opened = s.opened := rfl
@[simp] theorem State.setCand_txns : (s.setCand i c).txns = s.txns := rfl
@[simp] theorem State.setCand_nextTxn : (s.setCand i c).nextTxn = s.nextTxn := rfl
@[simp] theorem State.setCand_claims : (s.setCand i c).claims = s.claims := rfl
@[simp] theorem State.setCand_hwClaims : (s.setCand i c).hwClaims = s.hwClaims := rfl
@[simp] theorem State.setCand_gens : (s.setCand i c).gens = s.gens := rfl
@[simp] theorem State.setCand_spiIn : (s.setCand i c).spiIn = s.spiIn := rfl
@[simp] theorem State.setCand_spiOut : (s.setCand i c).spiOut = s.spiOut := rfl
@[simp] theorem State.setCand_miso : (s.setCand i c).miso = s.miso := rfl
@[simp] theorem State.setCand_lastOp : (s.setCand i c).lastOp = s.lastOp := rfl
@[simp] theorem State.setCand_lastReply : (s.setCand i c).lastReply = s.lastReply := rfl
@[simp] theorem State.setCand_timing : (s.setCand i c).timing = s.timing := rfl
@[simp] theorem State.setCand_outs : (s.setCand i c).outs = s.outs := rfl
@[simp] theorem State.setCand_pps : (s.setCand i c).pps = s.pps := rfl
@[simp] theorem State.setCand_aps : (s.setCand i c).aps = s.aps := rfl
@[simp] theorem State.setCand_pathProt : (s.setCand i c).pathProt = s.pathProt := rfl
@[simp] theorem State.setCand_tandem : (s.setCand i c).tandem = s.tandem := rfl
@[simp] theorem State.setCand_gallery : (s.setCand i c).gallery = s.gallery := rfl
@[simp] theorem State.setCand_chans : (s.setCand i c).chans = s.chans := rfl
@[simp] theorem State.setCand_dccOut : (s.setCand i c).dccOut = s.dccOut := rfl
@[simp] theorem State.setCand_dccIn : (s.setCand i c).dccIn = s.dccIn := rfl
@[simp] theorem State.setCand_points : (s.setCand i c).points = s.points := rfl
@[simp] theorem State.setCand_dayCuts : (s.setCand i c).dayCuts = s.dayCuts := rfl
@[simp] theorem State.setCand_tcaLog : (s.setCand i c).tcaLog = s.tcaLog := rfl
@[simp] theorem State.setCand_macs : (s.setCand i c).macs = s.macs := rfl
@[simp] theorem State.setCand_faults : (s.setCand i c).faults = s.faults := rfl
@[simp] theorem State.setCand_banks : (s.setCand i c).banks = s.banks := rfl
@[simp] theorem State.setCand_usedBanks : (s.setCand i c).usedBanks = s.usedBanks := rfl
@[simp] theorem State.setCand_owners : (s.setCand i c).owners = s.owners := rfl
@[simp] theorem State.setCand_retained : (s.setCand i c).retained = s.retained := rfl
@[simp] theorem State.setCand_seatObjs : (s.setCand i c).seatObjs = s.seatObjs := rfl
@[simp] theorem State.setCand_tempoFrom : (s.setCand i c).tempoFrom = s.tempoFrom := rfl
@[simp] theorem State.setCand_tempoHeld : (s.setCand i c).tempoHeld = s.tempoHeld := rfl
@[simp] theorem State.setCand_bases : (s.setCand i c).bases = s.bases := rfl
@[simp] theorem State.setCand_scrubFrom : (s.setCand i c).scrubFrom = s.scrubFrom := rfl
@[simp] theorem State.setCand_cvuRuns : (s.setCand i c).cvuRuns = s.cvuRuns := rfl
@[simp] theorem State.setCand_supply : (s.setCand i c).supply = s.supply := rfl
@[simp] theorem State.setCand_slacks : (s.setCand i c).slacks = s.slacks := rfl
@[simp] theorem State.setCand_worstFn : (s.setCand i c).worstFn = s.worstFn := rfl
@[simp] theorem State.setCand_slotCheck : (s.setCand i c).slotCheck = s.slotCheck := rfl
@[simp] theorem State.setCand_vault : (s.setCand i c).vault = s.vault := rfl
@[simp] theorem State.setCand_pins : (s.setCand i c).pins = s.pins := rfl
@[simp] theorem State.setCand_val (ob : Nat) : (s.setCand i c).val ob = s.val ob := rfl
@[simp] theorem State.setCand_fld (fl : Fld) (j d : Nat) : (s.setCand i c).fld fl j d = s.fld fl j d := rfl
@[simp] theorem State.setCand_on (fl : Fld) (j d : Nat) : (s.setCand i c).on fl j d = s.on fl j d := rfl
@[simp] theorem State.setCand_objBit (ob bt : Nat) : (s.setCand i c).objBit ob bt = s.objBit ob bt := rfl
@[simp] theorem State.setCand_lane (ob : Nat) : (s.setCand i c).lane ob = s.lane ob := rfl
@[simp] theorem State.setCand_word (ob bt : Nat) : (s.setCand i c).word ob bt = s.word ob bt := rfl
@[simp] theorem State.setCand_liveOf (ob : Nat) : (s.setCand i c).liveOf ob = s.liveOf ob := rfl
@[simp] theorem State.setCand_session (ob : Nat) : (s.setCand i c).session ob = s.session ob := rfl
@[simp] theorem State.setCand_mac (ob : Nat) : (s.setCand i c).mac ob = s.mac ob := rfl
@[simp] theorem State.setCand_chan (ob : Nat) : (s.setCand i c).chan ob = s.chan ob := rfl
end

/-! ### setOut -/

section
variable (i : Nat) (c : Out)
@[simp] theorem State.setOut_pending : (s.setOut i c).pending = s.pending := rfl
@[simp] theorem State.setOut_now : (s.setOut i c).now = s.now := rfl
@[simp] theorem State.setOut_dts : (s.setOut i c).dts = s.dts := rfl
@[simp] theorem State.setOut_tempo : (s.setOut i c).tempo = s.tempo := rfl
@[simp] theorem State.setOut_startup : (s.setOut i c).startup = s.startup := rfl
@[simp] theorem State.setOut_straps : (s.setOut i c).straps = s.straps := rfl
@[simp] theorem State.setOut_resetLow : (s.setOut i c).resetLow = s.resetLow := rfl
@[simp] theorem State.setOut_rails : (s.setOut i c).rails = s.rails := rfl
@[simp] theorem State.setOut_free : (s.setOut i c).free = s.free := rfl
@[simp] theorem State.setOut_dict : (s.setOut i c).dict = s.dict := rfl
@[simp] theorem State.setOut_live : (s.setOut i c).live = s.live := rfl
@[simp] theorem State.setOut_words : (s.setOut i c).words = s.words := rfl
@[simp] theorem State.setOut_lanes : (s.setOut i c).lanes = s.lanes := rfl
@[simp] theorem State.setOut_xc : (s.setOut i c).xc = s.xc := rfl
@[simp] theorem State.setOut_sessions : (s.setOut i c).sessions = s.sessions := rfl
@[simp] theorem State.setOut_freeNums : (s.setOut i c).freeNums = s.freeNums := rfl
@[simp] theorem State.setOut_opened : (s.setOut i c).opened = s.opened := rfl
@[simp] theorem State.setOut_txns : (s.setOut i c).txns = s.txns := rfl
@[simp] theorem State.setOut_nextTxn : (s.setOut i c).nextTxn = s.nextTxn := rfl
@[simp] theorem State.setOut_claims : (s.setOut i c).claims = s.claims := rfl
@[simp] theorem State.setOut_hwClaims : (s.setOut i c).hwClaims = s.hwClaims := rfl
@[simp] theorem State.setOut_gens : (s.setOut i c).gens = s.gens := rfl
@[simp] theorem State.setOut_spiIn : (s.setOut i c).spiIn = s.spiIn := rfl
@[simp] theorem State.setOut_spiOut : (s.setOut i c).spiOut = s.spiOut := rfl
@[simp] theorem State.setOut_miso : (s.setOut i c).miso = s.miso := rfl
@[simp] theorem State.setOut_lastOp : (s.setOut i c).lastOp = s.lastOp := rfl
@[simp] theorem State.setOut_lastReply : (s.setOut i c).lastReply = s.lastReply := rfl
@[simp] theorem State.setOut_cands : (s.setOut i c).cands = s.cands := rfl
@[simp] theorem State.setOut_timing : (s.setOut i c).timing = s.timing := rfl
@[simp] theorem State.setOut_pps : (s.setOut i c).pps = s.pps := rfl
@[simp] theorem State.setOut_aps : (s.setOut i c).aps = s.aps := rfl
@[simp] theorem State.setOut_pathProt : (s.setOut i c).pathProt = s.pathProt := rfl
@[simp] theorem State.setOut_tandem : (s.setOut i c).tandem = s.tandem := rfl
@[simp] theorem State.setOut_gallery : (s.setOut i c).gallery = s.gallery := rfl
@[simp] theorem State.setOut_chans : (s.setOut i c).chans = s.chans := rfl
@[simp] theorem State.setOut_dccOut : (s.setOut i c).dccOut = s.dccOut := rfl
@[simp] theorem State.setOut_dccIn : (s.setOut i c).dccIn = s.dccIn := rfl
@[simp] theorem State.setOut_points : (s.setOut i c).points = s.points := rfl
@[simp] theorem State.setOut_dayCuts : (s.setOut i c).dayCuts = s.dayCuts := rfl
@[simp] theorem State.setOut_tcaLog : (s.setOut i c).tcaLog = s.tcaLog := rfl
@[simp] theorem State.setOut_macs : (s.setOut i c).macs = s.macs := rfl
@[simp] theorem State.setOut_faults : (s.setOut i c).faults = s.faults := rfl
@[simp] theorem State.setOut_banks : (s.setOut i c).banks = s.banks := rfl
@[simp] theorem State.setOut_usedBanks : (s.setOut i c).usedBanks = s.usedBanks := rfl
@[simp] theorem State.setOut_owners : (s.setOut i c).owners = s.owners := rfl
@[simp] theorem State.setOut_retained : (s.setOut i c).retained = s.retained := rfl
@[simp] theorem State.setOut_seatObjs : (s.setOut i c).seatObjs = s.seatObjs := rfl
@[simp] theorem State.setOut_tempoFrom : (s.setOut i c).tempoFrom = s.tempoFrom := rfl
@[simp] theorem State.setOut_tempoHeld : (s.setOut i c).tempoHeld = s.tempoHeld := rfl
@[simp] theorem State.setOut_bases : (s.setOut i c).bases = s.bases := rfl
@[simp] theorem State.setOut_scrubFrom : (s.setOut i c).scrubFrom = s.scrubFrom := rfl
@[simp] theorem State.setOut_cvuRuns : (s.setOut i c).cvuRuns = s.cvuRuns := rfl
@[simp] theorem State.setOut_supply : (s.setOut i c).supply = s.supply := rfl
@[simp] theorem State.setOut_slacks : (s.setOut i c).slacks = s.slacks := rfl
@[simp] theorem State.setOut_worstFn : (s.setOut i c).worstFn = s.worstFn := rfl
@[simp] theorem State.setOut_slotCheck : (s.setOut i c).slotCheck = s.slotCheck := rfl
@[simp] theorem State.setOut_vault : (s.setOut i c).vault = s.vault := rfl
@[simp] theorem State.setOut_pins : (s.setOut i c).pins = s.pins := rfl
@[simp] theorem State.setOut_val (ob : Nat) : (s.setOut i c).val ob = s.val ob := rfl
@[simp] theorem State.setOut_fld (fl : Fld) (j d : Nat) : (s.setOut i c).fld fl j d = s.fld fl j d := rfl
@[simp] theorem State.setOut_on (fl : Fld) (j d : Nat) : (s.setOut i c).on fl j d = s.on fl j d := rfl
@[simp] theorem State.setOut_objBit (ob bt : Nat) : (s.setOut i c).objBit ob bt = s.objBit ob bt := rfl
@[simp] theorem State.setOut_lane (ob : Nat) : (s.setOut i c).lane ob = s.lane ob := rfl
@[simp] theorem State.setOut_word (ob bt : Nat) : (s.setOut i c).word ob bt = s.word ob bt := rfl
@[simp] theorem State.setOut_liveOf (ob : Nat) : (s.setOut i c).liveOf ob = s.liveOf ob := rfl
@[simp] theorem State.setOut_session (ob : Nat) : (s.setOut i c).session ob = s.session ob := rfl
@[simp] theorem State.setOut_mac (ob : Nat) : (s.setOut i c).mac ob = s.mac ob := rfl
@[simp] theorem State.setOut_chan (ob : Nat) : (s.setOut i c).chan ob = s.chan ob := rfl
end

/-! ### setAps -/

section
variable (g : Nat) (a : Aps)
@[simp] theorem State.setAps_pending : (s.setAps g a).pending = s.pending := rfl
@[simp] theorem State.setAps_now : (s.setAps g a).now = s.now := rfl
@[simp] theorem State.setAps_dts : (s.setAps g a).dts = s.dts := rfl
@[simp] theorem State.setAps_tempo : (s.setAps g a).tempo = s.tempo := rfl
@[simp] theorem State.setAps_startup : (s.setAps g a).startup = s.startup := rfl
@[simp] theorem State.setAps_straps : (s.setAps g a).straps = s.straps := rfl
@[simp] theorem State.setAps_resetLow : (s.setAps g a).resetLow = s.resetLow := rfl
@[simp] theorem State.setAps_rails : (s.setAps g a).rails = s.rails := rfl
@[simp] theorem State.setAps_free : (s.setAps g a).free = s.free := rfl
@[simp] theorem State.setAps_dict : (s.setAps g a).dict = s.dict := rfl
@[simp] theorem State.setAps_live : (s.setAps g a).live = s.live := rfl
@[simp] theorem State.setAps_words : (s.setAps g a).words = s.words := rfl
@[simp] theorem State.setAps_lanes : (s.setAps g a).lanes = s.lanes := rfl
@[simp] theorem State.setAps_xc : (s.setAps g a).xc = s.xc := rfl
@[simp] theorem State.setAps_sessions : (s.setAps g a).sessions = s.sessions := rfl
@[simp] theorem State.setAps_freeNums : (s.setAps g a).freeNums = s.freeNums := rfl
@[simp] theorem State.setAps_opened : (s.setAps g a).opened = s.opened := rfl
@[simp] theorem State.setAps_txns : (s.setAps g a).txns = s.txns := rfl
@[simp] theorem State.setAps_nextTxn : (s.setAps g a).nextTxn = s.nextTxn := rfl
@[simp] theorem State.setAps_claims : (s.setAps g a).claims = s.claims := rfl
@[simp] theorem State.setAps_hwClaims : (s.setAps g a).hwClaims = s.hwClaims := rfl
@[simp] theorem State.setAps_gens : (s.setAps g a).gens = s.gens := rfl
@[simp] theorem State.setAps_spiIn : (s.setAps g a).spiIn = s.spiIn := rfl
@[simp] theorem State.setAps_spiOut : (s.setAps g a).spiOut = s.spiOut := rfl
@[simp] theorem State.setAps_miso : (s.setAps g a).miso = s.miso := rfl
@[simp] theorem State.setAps_lastOp : (s.setAps g a).lastOp = s.lastOp := rfl
@[simp] theorem State.setAps_lastReply : (s.setAps g a).lastReply = s.lastReply := rfl
@[simp] theorem State.setAps_cands : (s.setAps g a).cands = s.cands := rfl
@[simp] theorem State.setAps_timing : (s.setAps g a).timing = s.timing := rfl
@[simp] theorem State.setAps_outs : (s.setAps g a).outs = s.outs := rfl
@[simp] theorem State.setAps_pps : (s.setAps g a).pps = s.pps := rfl
@[simp] theorem State.setAps_pathProt : (s.setAps g a).pathProt = s.pathProt := rfl
@[simp] theorem State.setAps_tandem : (s.setAps g a).tandem = s.tandem := rfl
@[simp] theorem State.setAps_gallery : (s.setAps g a).gallery = s.gallery := rfl
@[simp] theorem State.setAps_chans : (s.setAps g a).chans = s.chans := rfl
@[simp] theorem State.setAps_dccOut : (s.setAps g a).dccOut = s.dccOut := rfl
@[simp] theorem State.setAps_dccIn : (s.setAps g a).dccIn = s.dccIn := rfl
@[simp] theorem State.setAps_points : (s.setAps g a).points = s.points := rfl
@[simp] theorem State.setAps_dayCuts : (s.setAps g a).dayCuts = s.dayCuts := rfl
@[simp] theorem State.setAps_tcaLog : (s.setAps g a).tcaLog = s.tcaLog := rfl
@[simp] theorem State.setAps_macs : (s.setAps g a).macs = s.macs := rfl
@[simp] theorem State.setAps_faults : (s.setAps g a).faults = s.faults := rfl
@[simp] theorem State.setAps_banks : (s.setAps g a).banks = s.banks := rfl
@[simp] theorem State.setAps_usedBanks : (s.setAps g a).usedBanks = s.usedBanks := rfl
@[simp] theorem State.setAps_owners : (s.setAps g a).owners = s.owners := rfl
@[simp] theorem State.setAps_retained : (s.setAps g a).retained = s.retained := rfl
@[simp] theorem State.setAps_seatObjs : (s.setAps g a).seatObjs = s.seatObjs := rfl
@[simp] theorem State.setAps_tempoFrom : (s.setAps g a).tempoFrom = s.tempoFrom := rfl
@[simp] theorem State.setAps_tempoHeld : (s.setAps g a).tempoHeld = s.tempoHeld := rfl
@[simp] theorem State.setAps_bases : (s.setAps g a).bases = s.bases := rfl
@[simp] theorem State.setAps_scrubFrom : (s.setAps g a).scrubFrom = s.scrubFrom := rfl
@[simp] theorem State.setAps_cvuRuns : (s.setAps g a).cvuRuns = s.cvuRuns := rfl
@[simp] theorem State.setAps_supply : (s.setAps g a).supply = s.supply := rfl
@[simp] theorem State.setAps_slacks : (s.setAps g a).slacks = s.slacks := rfl
@[simp] theorem State.setAps_worstFn : (s.setAps g a).worstFn = s.worstFn := rfl
@[simp] theorem State.setAps_slotCheck : (s.setAps g a).slotCheck = s.slotCheck := rfl
@[simp] theorem State.setAps_vault : (s.setAps g a).vault = s.vault := rfl
@[simp] theorem State.setAps_pins : (s.setAps g a).pins = s.pins := rfl
@[simp] theorem State.setAps_val (ob : Nat) : (s.setAps g a).val ob = s.val ob := rfl
@[simp] theorem State.setAps_fld (fl : Fld) (j d : Nat) : (s.setAps g a).fld fl j d = s.fld fl j d := rfl
@[simp] theorem State.setAps_on (fl : Fld) (j d : Nat) : (s.setAps g a).on fl j d = s.on fl j d := rfl
@[simp] theorem State.setAps_objBit (ob bt : Nat) : (s.setAps g a).objBit ob bt = s.objBit ob bt := rfl
@[simp] theorem State.setAps_lane (ob : Nat) : (s.setAps g a).lane ob = s.lane ob := rfl
@[simp] theorem State.setAps_word (ob bt : Nat) : (s.setAps g a).word ob bt = s.word ob bt := rfl
@[simp] theorem State.setAps_liveOf (ob : Nat) : (s.setAps g a).liveOf ob = s.liveOf ob := rfl
@[simp] theorem State.setAps_session (ob : Nat) : (s.setAps g a).session ob = s.session ob := rfl
@[simp] theorem State.setAps_mac (ob : Nat) : (s.setAps g a).mac ob = s.mac ob := rfl
@[simp] theorem State.setAps_chan (ob : Nat) : (s.setAps g a).chan ob = s.chan ob := rfl
end

/-! ### setPprot -/

section
variable (g : Nat) (p : PathProt)
@[simp] theorem State.setPprot_pending : (s.setPprot g p).pending = s.pending := rfl
@[simp] theorem State.setPprot_now : (s.setPprot g p).now = s.now := rfl
@[simp] theorem State.setPprot_dts : (s.setPprot g p).dts = s.dts := rfl
@[simp] theorem State.setPprot_tempo : (s.setPprot g p).tempo = s.tempo := rfl
@[simp] theorem State.setPprot_startup : (s.setPprot g p).startup = s.startup := rfl
@[simp] theorem State.setPprot_straps : (s.setPprot g p).straps = s.straps := rfl
@[simp] theorem State.setPprot_resetLow : (s.setPprot g p).resetLow = s.resetLow := rfl
@[simp] theorem State.setPprot_rails : (s.setPprot g p).rails = s.rails := rfl
@[simp] theorem State.setPprot_free : (s.setPprot g p).free = s.free := rfl
@[simp] theorem State.setPprot_dict : (s.setPprot g p).dict = s.dict := rfl
@[simp] theorem State.setPprot_live : (s.setPprot g p).live = s.live := rfl
@[simp] theorem State.setPprot_words : (s.setPprot g p).words = s.words := rfl
@[simp] theorem State.setPprot_lanes : (s.setPprot g p).lanes = s.lanes := rfl
@[simp] theorem State.setPprot_xc : (s.setPprot g p).xc = s.xc := rfl
@[simp] theorem State.setPprot_sessions : (s.setPprot g p).sessions = s.sessions := rfl
@[simp] theorem State.setPprot_freeNums : (s.setPprot g p).freeNums = s.freeNums := rfl
@[simp] theorem State.setPprot_opened : (s.setPprot g p).opened = s.opened := rfl
@[simp] theorem State.setPprot_txns : (s.setPprot g p).txns = s.txns := rfl
@[simp] theorem State.setPprot_nextTxn : (s.setPprot g p).nextTxn = s.nextTxn := rfl
@[simp] theorem State.setPprot_claims : (s.setPprot g p).claims = s.claims := rfl
@[simp] theorem State.setPprot_hwClaims : (s.setPprot g p).hwClaims = s.hwClaims := rfl
@[simp] theorem State.setPprot_gens : (s.setPprot g p).gens = s.gens := rfl
@[simp] theorem State.setPprot_spiIn : (s.setPprot g p).spiIn = s.spiIn := rfl
@[simp] theorem State.setPprot_spiOut : (s.setPprot g p).spiOut = s.spiOut := rfl
@[simp] theorem State.setPprot_miso : (s.setPprot g p).miso = s.miso := rfl
@[simp] theorem State.setPprot_lastOp : (s.setPprot g p).lastOp = s.lastOp := rfl
@[simp] theorem State.setPprot_lastReply : (s.setPprot g p).lastReply = s.lastReply := rfl
@[simp] theorem State.setPprot_cands : (s.setPprot g p).cands = s.cands := rfl
@[simp] theorem State.setPprot_timing : (s.setPprot g p).timing = s.timing := rfl
@[simp] theorem State.setPprot_outs : (s.setPprot g p).outs = s.outs := rfl
@[simp] theorem State.setPprot_pps : (s.setPprot g p).pps = s.pps := rfl
@[simp] theorem State.setPprot_aps : (s.setPprot g p).aps = s.aps := rfl
@[simp] theorem State.setPprot_tandem : (s.setPprot g p).tandem = s.tandem := rfl
@[simp] theorem State.setPprot_gallery : (s.setPprot g p).gallery = s.gallery := rfl
@[simp] theorem State.setPprot_chans : (s.setPprot g p).chans = s.chans := rfl
@[simp] theorem State.setPprot_dccOut : (s.setPprot g p).dccOut = s.dccOut := rfl
@[simp] theorem State.setPprot_dccIn : (s.setPprot g p).dccIn = s.dccIn := rfl
@[simp] theorem State.setPprot_points : (s.setPprot g p).points = s.points := rfl
@[simp] theorem State.setPprot_dayCuts : (s.setPprot g p).dayCuts = s.dayCuts := rfl
@[simp] theorem State.setPprot_tcaLog : (s.setPprot g p).tcaLog = s.tcaLog := rfl
@[simp] theorem State.setPprot_macs : (s.setPprot g p).macs = s.macs := rfl
@[simp] theorem State.setPprot_faults : (s.setPprot g p).faults = s.faults := rfl
@[simp] theorem State.setPprot_banks : (s.setPprot g p).banks = s.banks := rfl
@[simp] theorem State.setPprot_usedBanks : (s.setPprot g p).usedBanks = s.usedBanks := rfl
@[simp] theorem State.setPprot_owners : (s.setPprot g p).owners = s.owners := rfl
@[simp] theorem State.setPprot_retained : (s.setPprot g p).retained = s.retained := rfl
@[simp] theorem State.setPprot_seatObjs : (s.setPprot g p).seatObjs = s.seatObjs := rfl
@[simp] theorem State.setPprot_tempoFrom : (s.setPprot g p).tempoFrom = s.tempoFrom := rfl
@[simp] theorem State.setPprot_tempoHeld : (s.setPprot g p).tempoHeld = s.tempoHeld := rfl
@[simp] theorem State.setPprot_bases : (s.setPprot g p).bases = s.bases := rfl
@[simp] theorem State.setPprot_scrubFrom : (s.setPprot g p).scrubFrom = s.scrubFrom := rfl
@[simp] theorem State.setPprot_cvuRuns : (s.setPprot g p).cvuRuns = s.cvuRuns := rfl
@[simp] theorem State.setPprot_supply : (s.setPprot g p).supply = s.supply := rfl
@[simp] theorem State.setPprot_slacks : (s.setPprot g p).slacks = s.slacks := rfl
@[simp] theorem State.setPprot_worstFn : (s.setPprot g p).worstFn = s.worstFn := rfl
@[simp] theorem State.setPprot_slotCheck : (s.setPprot g p).slotCheck = s.slotCheck := rfl
@[simp] theorem State.setPprot_vault : (s.setPprot g p).vault = s.vault := rfl
@[simp] theorem State.setPprot_pins : (s.setPprot g p).pins = s.pins := rfl
@[simp] theorem State.setPprot_val (ob : Nat) : (s.setPprot g p).val ob = s.val ob := rfl
@[simp] theorem State.setPprot_fld (fl : Fld) (j d : Nat) : (s.setPprot g p).fld fl j d = s.fld fl j d := rfl
@[simp] theorem State.setPprot_on (fl : Fld) (j d : Nat) : (s.setPprot g p).on fl j d = s.on fl j d := rfl
@[simp] theorem State.setPprot_objBit (ob bt : Nat) : (s.setPprot g p).objBit ob bt = s.objBit ob bt := rfl
@[simp] theorem State.setPprot_lane (ob : Nat) : (s.setPprot g p).lane ob = s.lane ob := rfl
@[simp] theorem State.setPprot_word (ob bt : Nat) : (s.setPprot g p).word ob bt = s.word ob bt := rfl
@[simp] theorem State.setPprot_liveOf (ob : Nat) : (s.setPprot g p).liveOf ob = s.liveOf ob := rfl
@[simp] theorem State.setPprot_session (ob : Nat) : (s.setPprot g p).session ob = s.session ob := rfl
@[simp] theorem State.setPprot_mac (ob : Nat) : (s.setPprot g p).mac ob = s.mac ob := rfl
@[simp] theorem State.setPprot_chan (ob : Nat) : (s.setPprot g p).chan ob = s.chan ob := rfl
end

/-! ### setChan -/

section
variable (k : Nat) (c : Chan)
@[simp] theorem State.setChan_pending : (s.setChan k c).pending = s.pending := rfl
@[simp] theorem State.setChan_now : (s.setChan k c).now = s.now := rfl
@[simp] theorem State.setChan_dts : (s.setChan k c).dts = s.dts := rfl
@[simp] theorem State.setChan_tempo : (s.setChan k c).tempo = s.tempo := rfl
@[simp] theorem State.setChan_startup : (s.setChan k c).startup = s.startup := rfl
@[simp] theorem State.setChan_straps : (s.setChan k c).straps = s.straps := rfl
@[simp] theorem State.setChan_resetLow : (s.setChan k c).resetLow = s.resetLow := rfl
@[simp] theorem State.setChan_rails : (s.setChan k c).rails = s.rails := rfl
@[simp] theorem State.setChan_free : (s.setChan k c).free = s.free := rfl
@[simp] theorem State.setChan_dict : (s.setChan k c).dict = s.dict := rfl
@[simp] theorem State.setChan_live : (s.setChan k c).live = s.live := rfl
@[simp] theorem State.setChan_words : (s.setChan k c).words = s.words := rfl
@[simp] theorem State.setChan_lanes : (s.setChan k c).lanes = s.lanes := rfl
@[simp] theorem State.setChan_xc : (s.setChan k c).xc = s.xc := rfl
@[simp] theorem State.setChan_sessions : (s.setChan k c).sessions = s.sessions := rfl
@[simp] theorem State.setChan_freeNums : (s.setChan k c).freeNums = s.freeNums := rfl
@[simp] theorem State.setChan_opened : (s.setChan k c).opened = s.opened := rfl
@[simp] theorem State.setChan_txns : (s.setChan k c).txns = s.txns := rfl
@[simp] theorem State.setChan_nextTxn : (s.setChan k c).nextTxn = s.nextTxn := rfl
@[simp] theorem State.setChan_claims : (s.setChan k c).claims = s.claims := rfl
@[simp] theorem State.setChan_hwClaims : (s.setChan k c).hwClaims = s.hwClaims := rfl
@[simp] theorem State.setChan_gens : (s.setChan k c).gens = s.gens := rfl
@[simp] theorem State.setChan_spiIn : (s.setChan k c).spiIn = s.spiIn := rfl
@[simp] theorem State.setChan_spiOut : (s.setChan k c).spiOut = s.spiOut := rfl
@[simp] theorem State.setChan_miso : (s.setChan k c).miso = s.miso := rfl
@[simp] theorem State.setChan_lastOp : (s.setChan k c).lastOp = s.lastOp := rfl
@[simp] theorem State.setChan_lastReply : (s.setChan k c).lastReply = s.lastReply := rfl
@[simp] theorem State.setChan_cands : (s.setChan k c).cands = s.cands := rfl
@[simp] theorem State.setChan_timing : (s.setChan k c).timing = s.timing := rfl
@[simp] theorem State.setChan_outs : (s.setChan k c).outs = s.outs := rfl
@[simp] theorem State.setChan_pps : (s.setChan k c).pps = s.pps := rfl
@[simp] theorem State.setChan_aps : (s.setChan k c).aps = s.aps := rfl
@[simp] theorem State.setChan_pathProt : (s.setChan k c).pathProt = s.pathProt := rfl
@[simp] theorem State.setChan_tandem : (s.setChan k c).tandem = s.tandem := rfl
@[simp] theorem State.setChan_gallery : (s.setChan k c).gallery = s.gallery := rfl
@[simp] theorem State.setChan_dccOut : (s.setChan k c).dccOut = s.dccOut := rfl
@[simp] theorem State.setChan_dccIn : (s.setChan k c).dccIn = s.dccIn := rfl
@[simp] theorem State.setChan_points : (s.setChan k c).points = s.points := rfl
@[simp] theorem State.setChan_dayCuts : (s.setChan k c).dayCuts = s.dayCuts := rfl
@[simp] theorem State.setChan_tcaLog : (s.setChan k c).tcaLog = s.tcaLog := rfl
@[simp] theorem State.setChan_macs : (s.setChan k c).macs = s.macs := rfl
@[simp] theorem State.setChan_faults : (s.setChan k c).faults = s.faults := rfl
@[simp] theorem State.setChan_banks : (s.setChan k c).banks = s.banks := rfl
@[simp] theorem State.setChan_usedBanks : (s.setChan k c).usedBanks = s.usedBanks := rfl
@[simp] theorem State.setChan_owners : (s.setChan k c).owners = s.owners := rfl
@[simp] theorem State.setChan_retained : (s.setChan k c).retained = s.retained := rfl
@[simp] theorem State.setChan_seatObjs : (s.setChan k c).seatObjs = s.seatObjs := rfl
@[simp] theorem State.setChan_tempoFrom : (s.setChan k c).tempoFrom = s.tempoFrom := rfl
@[simp] theorem State.setChan_tempoHeld : (s.setChan k c).tempoHeld = s.tempoHeld := rfl
@[simp] theorem State.setChan_bases : (s.setChan k c).bases = s.bases := rfl
@[simp] theorem State.setChan_scrubFrom : (s.setChan k c).scrubFrom = s.scrubFrom := rfl
@[simp] theorem State.setChan_cvuRuns : (s.setChan k c).cvuRuns = s.cvuRuns := rfl
@[simp] theorem State.setChan_supply : (s.setChan k c).supply = s.supply := rfl
@[simp] theorem State.setChan_slacks : (s.setChan k c).slacks = s.slacks := rfl
@[simp] theorem State.setChan_worstFn : (s.setChan k c).worstFn = s.worstFn := rfl
@[simp] theorem State.setChan_slotCheck : (s.setChan k c).slotCheck = s.slotCheck := rfl
@[simp] theorem State.setChan_vault : (s.setChan k c).vault = s.vault := rfl
@[simp] theorem State.setChan_pins : (s.setChan k c).pins = s.pins := rfl
@[simp] theorem State.setChan_val (ob : Nat) : (s.setChan k c).val ob = s.val ob := rfl
@[simp] theorem State.setChan_fld (fl : Fld) (j d : Nat) : (s.setChan k c).fld fl j d = s.fld fl j d := rfl
@[simp] theorem State.setChan_on (fl : Fld) (j d : Nat) : (s.setChan k c).on fl j d = s.on fl j d := rfl
@[simp] theorem State.setChan_objBit (ob bt : Nat) : (s.setChan k c).objBit ob bt = s.objBit ob bt := rfl
@[simp] theorem State.setChan_lane (ob : Nat) : (s.setChan k c).lane ob = s.lane ob := rfl
@[simp] theorem State.setChan_word (ob bt : Nat) : (s.setChan k c).word ob bt = s.word ob bt := rfl
@[simp] theorem State.setChan_liveOf (ob : Nat) : (s.setChan k c).liveOf ob = s.liveOf ob := rfl
@[simp] theorem State.setChan_session (ob : Nat) : (s.setChan k c).session ob = s.session ob := rfl
@[simp] theorem State.setChan_mac (ob : Nat) : (s.setChan k c).mac ob = s.mac ob := rfl
end

/-! ### setPoint -/

section
variable (k : Nat) (p : Point)
@[simp] theorem State.setPoint_pending : (s.setPoint k p).pending = s.pending := rfl
@[simp] theorem State.setPoint_now : (s.setPoint k p).now = s.now := rfl
@[simp] theorem State.setPoint_dts : (s.setPoint k p).dts = s.dts := rfl
@[simp] theorem State.setPoint_tempo : (s.setPoint k p).tempo = s.tempo := rfl
@[simp] theorem State.setPoint_startup : (s.setPoint k p).startup = s.startup := rfl
@[simp] theorem State.setPoint_straps : (s.setPoint k p).straps = s.straps := rfl
@[simp] theorem State.setPoint_resetLow : (s.setPoint k p).resetLow = s.resetLow := rfl
@[simp] theorem State.setPoint_rails : (s.setPoint k p).rails = s.rails := rfl
@[simp] theorem State.setPoint_free : (s.setPoint k p).free = s.free := rfl
@[simp] theorem State.setPoint_dict : (s.setPoint k p).dict = s.dict := rfl
@[simp] theorem State.setPoint_live : (s.setPoint k p).live = s.live := rfl
@[simp] theorem State.setPoint_words : (s.setPoint k p).words = s.words := rfl
@[simp] theorem State.setPoint_lanes : (s.setPoint k p).lanes = s.lanes := rfl
@[simp] theorem State.setPoint_xc : (s.setPoint k p).xc = s.xc := rfl
@[simp] theorem State.setPoint_sessions : (s.setPoint k p).sessions = s.sessions := rfl
@[simp] theorem State.setPoint_freeNums : (s.setPoint k p).freeNums = s.freeNums := rfl
@[simp] theorem State.setPoint_opened : (s.setPoint k p).opened = s.opened := rfl
@[simp] theorem State.setPoint_txns : (s.setPoint k p).txns = s.txns := rfl
@[simp] theorem State.setPoint_nextTxn : (s.setPoint k p).nextTxn = s.nextTxn := rfl
@[simp] theorem State.setPoint_claims : (s.setPoint k p).claims = s.claims := rfl
@[simp] theorem State.setPoint_hwClaims : (s.setPoint k p).hwClaims = s.hwClaims := rfl
@[simp] theorem State.setPoint_gens : (s.setPoint k p).gens = s.gens := rfl
@[simp] theorem State.setPoint_spiIn : (s.setPoint k p).spiIn = s.spiIn := rfl
@[simp] theorem State.setPoint_spiOut : (s.setPoint k p).spiOut = s.spiOut := rfl
@[simp] theorem State.setPoint_miso : (s.setPoint k p).miso = s.miso := rfl
@[simp] theorem State.setPoint_lastOp : (s.setPoint k p).lastOp = s.lastOp := rfl
@[simp] theorem State.setPoint_lastReply : (s.setPoint k p).lastReply = s.lastReply := rfl
@[simp] theorem State.setPoint_cands : (s.setPoint k p).cands = s.cands := rfl
@[simp] theorem State.setPoint_timing : (s.setPoint k p).timing = s.timing := rfl
@[simp] theorem State.setPoint_outs : (s.setPoint k p).outs = s.outs := rfl
@[simp] theorem State.setPoint_pps : (s.setPoint k p).pps = s.pps := rfl
@[simp] theorem State.setPoint_aps : (s.setPoint k p).aps = s.aps := rfl
@[simp] theorem State.setPoint_pathProt : (s.setPoint k p).pathProt = s.pathProt := rfl
@[simp] theorem State.setPoint_tandem : (s.setPoint k p).tandem = s.tandem := rfl
@[simp] theorem State.setPoint_gallery : (s.setPoint k p).gallery = s.gallery := rfl
@[simp] theorem State.setPoint_chans : (s.setPoint k p).chans = s.chans := rfl
@[simp] theorem State.setPoint_dccOut : (s.setPoint k p).dccOut = s.dccOut := rfl
@[simp] theorem State.setPoint_dccIn : (s.setPoint k p).dccIn = s.dccIn := rfl
@[simp] theorem State.setPoint_dayCuts : (s.setPoint k p).dayCuts = s.dayCuts := rfl
@[simp] theorem State.setPoint_tcaLog : (s.setPoint k p).tcaLog = s.tcaLog := rfl
@[simp] theorem State.setPoint_macs : (s.setPoint k p).macs = s.macs := rfl
@[simp] theorem State.setPoint_faults : (s.setPoint k p).faults = s.faults := rfl
@[simp] theorem State.setPoint_banks : (s.setPoint k p).banks = s.banks := rfl
@[simp] theorem State.setPoint_usedBanks : (s.setPoint k p).usedBanks = s.usedBanks := rfl
@[simp] theorem State.setPoint_owners : (s.setPoint k p).owners = s.owners := rfl
@[simp] theorem State.setPoint_retained : (s.setPoint k p).retained = s.retained := rfl
@[simp] theorem State.setPoint_seatObjs : (s.setPoint k p).seatObjs = s.seatObjs := rfl
@[simp] theorem State.setPoint_tempoFrom : (s.setPoint k p).tempoFrom = s.tempoFrom := rfl
@[simp] theorem State.setPoint_tempoHeld : (s.setPoint k p).tempoHeld = s.tempoHeld := rfl
@[simp] theorem State.setPoint_bases : (s.setPoint k p).bases = s.bases := rfl
@[simp] theorem State.setPoint_scrubFrom : (s.setPoint k p).scrubFrom = s.scrubFrom := rfl
@[simp] theorem State.setPoint_cvuRuns : (s.setPoint k p).cvuRuns = s.cvuRuns := rfl
@[simp] theorem State.setPoint_supply : (s.setPoint k p).supply = s.supply := rfl
@[simp] theorem State.setPoint_slacks : (s.setPoint k p).slacks = s.slacks := rfl
@[simp] theorem State.setPoint_worstFn : (s.setPoint k p).worstFn = s.worstFn := rfl
@[simp] theorem State.setPoint_slotCheck : (s.setPoint k p).slotCheck = s.slotCheck := rfl
@[simp] theorem State.setPoint_vault : (s.setPoint k p).vault = s.vault := rfl
@[simp] theorem State.setPoint_pins : (s.setPoint k p).pins = s.pins := rfl
@[simp] theorem State.setPoint_val (ob : Nat) : (s.setPoint k p).val ob = s.val ob := rfl
@[simp] theorem State.setPoint_fld (fl : Fld) (j d : Nat) : (s.setPoint k p).fld fl j d = s.fld fl j d := rfl
@[simp] theorem State.setPoint_on (fl : Fld) (j d : Nat) : (s.setPoint k p).on fl j d = s.on fl j d := rfl
@[simp] theorem State.setPoint_objBit (ob bt : Nat) : (s.setPoint k p).objBit ob bt = s.objBit ob bt := rfl
@[simp] theorem State.setPoint_lane (ob : Nat) : (s.setPoint k p).lane ob = s.lane ob := rfl
@[simp] theorem State.setPoint_word (ob bt : Nat) : (s.setPoint k p).word ob bt = s.word ob bt := rfl
@[simp] theorem State.setPoint_liveOf (ob : Nat) : (s.setPoint k p).liveOf ob = s.liveOf ob := rfl
@[simp] theorem State.setPoint_session (ob : Nat) : (s.setPoint k p).session ob = s.session ob := rfl
@[simp] theorem State.setPoint_mac (ob : Nat) : (s.setPoint k p).mac ob = s.mac ob := rfl
@[simp] theorem State.setPoint_chan (ob : Nat) : (s.setPoint k p).chan ob = s.chan ob := rfl
end

/-! ### setMac -/

section
variable (m : Nat) (x : Mac)
@[simp] theorem State.setMac_pending : (s.setMac m x).pending = s.pending := rfl
@[simp] theorem State.setMac_now : (s.setMac m x).now = s.now := rfl
@[simp] theorem State.setMac_dts : (s.setMac m x).dts = s.dts := rfl
@[simp] theorem State.setMac_tempo : (s.setMac m x).tempo = s.tempo := rfl
@[simp] theorem State.setMac_startup : (s.setMac m x).startup = s.startup := rfl
@[simp] theorem State.setMac_straps : (s.setMac m x).straps = s.straps := rfl
@[simp] theorem State.setMac_resetLow : (s.setMac m x).resetLow = s.resetLow := rfl
@[simp] theorem State.setMac_rails : (s.setMac m x).rails = s.rails := rfl
@[simp] theorem State.setMac_free : (s.setMac m x).free = s.free := rfl
@[simp] theorem State.setMac_dict : (s.setMac m x).dict = s.dict := rfl
@[simp] theorem State.setMac_live : (s.setMac m x).live = s.live := rfl
@[simp] theorem State.setMac_words : (s.setMac m x).words = s.words := rfl
@[simp] theorem State.setMac_lanes : (s.setMac m x).lanes = s.lanes := rfl
@[simp] theorem State.setMac_xc : (s.setMac m x).xc = s.xc := rfl
@[simp] theorem State.setMac_sessions : (s.setMac m x).sessions = s.sessions := rfl
@[simp] theorem State.setMac_freeNums : (s.setMac m x).freeNums = s.freeNums := rfl
@[simp] theorem State.setMac_opened : (s.setMac m x).opened = s.opened := rfl
@[simp] theorem State.setMac_txns : (s.setMac m x).txns = s.txns := rfl
@[simp] theorem State.setMac_nextTxn : (s.setMac m x).nextTxn = s.nextTxn := rfl
@[simp] theorem State.setMac_claims : (s.setMac m x).claims = s.claims := rfl
@[simp] theorem State.setMac_hwClaims : (s.setMac m x).hwClaims = s.hwClaims := rfl
@[simp] theorem State.setMac_gens : (s.setMac m x).gens = s.gens := rfl
@[simp] theorem State.setMac_spiIn : (s.setMac m x).spiIn = s.spiIn := rfl
@[simp] theorem State.setMac_spiOut : (s.setMac m x).spiOut = s.spiOut := rfl
@[simp] theorem State.setMac_miso : (s.setMac m x).miso = s.miso := rfl
@[simp] theorem State.setMac_lastOp : (s.setMac m x).lastOp = s.lastOp := rfl
@[simp] theorem State.setMac_lastReply : (s.setMac m x).lastReply = s.lastReply := rfl
@[simp] theorem State.setMac_cands : (s.setMac m x).cands = s.cands := rfl
@[simp] theorem State.setMac_timing : (s.setMac m x).timing = s.timing := rfl
@[simp] theorem State.setMac_outs : (s.setMac m x).outs = s.outs := rfl
@[simp] theorem State.setMac_pps : (s.setMac m x).pps = s.pps := rfl
@[simp] theorem State.setMac_aps : (s.setMac m x).aps = s.aps := rfl
@[simp] theorem State.setMac_pathProt : (s.setMac m x).pathProt = s.pathProt := rfl
@[simp] theorem State.setMac_tandem : (s.setMac m x).tandem = s.tandem := rfl
@[simp] theorem State.setMac_gallery : (s.setMac m x).gallery = s.gallery := rfl
@[simp] theorem State.setMac_chans : (s.setMac m x).chans = s.chans := rfl
@[simp] theorem State.setMac_dccOut : (s.setMac m x).dccOut = s.dccOut := rfl
@[simp] theorem State.setMac_dccIn : (s.setMac m x).dccIn = s.dccIn := rfl
@[simp] theorem State.setMac_points : (s.setMac m x).points = s.points := rfl
@[simp] theorem State.setMac_dayCuts : (s.setMac m x).dayCuts = s.dayCuts := rfl
@[simp] theorem State.setMac_tcaLog : (s.setMac m x).tcaLog = s.tcaLog := rfl
@[simp] theorem State.setMac_faults : (s.setMac m x).faults = s.faults := rfl
@[simp] theorem State.setMac_banks : (s.setMac m x).banks = s.banks := rfl
@[simp] theorem State.setMac_usedBanks : (s.setMac m x).usedBanks = s.usedBanks := rfl
@[simp] theorem State.setMac_owners : (s.setMac m x).owners = s.owners := rfl
@[simp] theorem State.setMac_retained : (s.setMac m x).retained = s.retained := rfl
@[simp] theorem State.setMac_seatObjs : (s.setMac m x).seatObjs = s.seatObjs := rfl
@[simp] theorem State.setMac_tempoFrom : (s.setMac m x).tempoFrom = s.tempoFrom := rfl
@[simp] theorem State.setMac_tempoHeld : (s.setMac m x).tempoHeld = s.tempoHeld := rfl
@[simp] theorem State.setMac_bases : (s.setMac m x).bases = s.bases := rfl
@[simp] theorem State.setMac_scrubFrom : (s.setMac m x).scrubFrom = s.scrubFrom := rfl
@[simp] theorem State.setMac_cvuRuns : (s.setMac m x).cvuRuns = s.cvuRuns := rfl
@[simp] theorem State.setMac_supply : (s.setMac m x).supply = s.supply := rfl
@[simp] theorem State.setMac_slacks : (s.setMac m x).slacks = s.slacks := rfl
@[simp] theorem State.setMac_worstFn : (s.setMac m x).worstFn = s.worstFn := rfl
@[simp] theorem State.setMac_slotCheck : (s.setMac m x).slotCheck = s.slotCheck := rfl
@[simp] theorem State.setMac_vault : (s.setMac m x).vault = s.vault := rfl
@[simp] theorem State.setMac_pins : (s.setMac m x).pins = s.pins := rfl
@[simp] theorem State.setMac_val (ob : Nat) : (s.setMac m x).val ob = s.val ob := rfl
@[simp] theorem State.setMac_fld (fl : Fld) (j d : Nat) : (s.setMac m x).fld fl j d = s.fld fl j d := rfl
@[simp] theorem State.setMac_on (fl : Fld) (j d : Nat) : (s.setMac m x).on fl j d = s.on fl j d := rfl
@[simp] theorem State.setMac_objBit (ob bt : Nat) : (s.setMac m x).objBit ob bt = s.objBit ob bt := rfl
@[simp] theorem State.setMac_lane (ob : Nat) : (s.setMac m x).lane ob = s.lane ob := rfl
@[simp] theorem State.setMac_word (ob bt : Nat) : (s.setMac m x).word ob bt = s.word ob bt := rfl
@[simp] theorem State.setMac_liveOf (ob : Nat) : (s.setMac m x).liveOf ob = s.liveOf ob := rfl
@[simp] theorem State.setMac_session (ob : Nat) : (s.setMac m x).session ob = s.session ob := rfl
@[simp] theorem State.setMac_chan (ob : Nat) : (s.setMac m x).chan ob = s.chan ob := rfl
end

/-! ### modMac -/

section
variable (m : Nat) (f : Mac → Mac)
@[simp] theorem State.modMac_pending : (s.modMac m f).pending = s.pending := rfl
@[simp] theorem State.modMac_now : (s.modMac m f).now = s.now := rfl
@[simp] theorem State.modMac_dts : (s.modMac m f).dts = s.dts := rfl
@[simp] theorem State.modMac_tempo : (s.modMac m f).tempo = s.tempo := rfl
@[simp] theorem State.modMac_startup : (s.modMac m f).startup = s.startup := rfl
@[simp] theorem State.modMac_straps : (s.modMac m f).straps = s.straps := rfl
@[simp] theorem State.modMac_resetLow : (s.modMac m f).resetLow = s.resetLow := rfl
@[simp] theorem State.modMac_rails : (s.modMac m f).rails = s.rails := rfl
@[simp] theorem State.modMac_free : (s.modMac m f).free = s.free := rfl
@[simp] theorem State.modMac_dict : (s.modMac m f).dict = s.dict := rfl
@[simp] theorem State.modMac_live : (s.modMac m f).live = s.live := rfl
@[simp] theorem State.modMac_words : (s.modMac m f).words = s.words := rfl
@[simp] theorem State.modMac_lanes : (s.modMac m f).lanes = s.lanes := rfl
@[simp] theorem State.modMac_xc : (s.modMac m f).xc = s.xc := rfl
@[simp] theorem State.modMac_sessions : (s.modMac m f).sessions = s.sessions := rfl
@[simp] theorem State.modMac_freeNums : (s.modMac m f).freeNums = s.freeNums := rfl
@[simp] theorem State.modMac_opened : (s.modMac m f).opened = s.opened := rfl
@[simp] theorem State.modMac_txns : (s.modMac m f).txns = s.txns := rfl
@[simp] theorem State.modMac_nextTxn : (s.modMac m f).nextTxn = s.nextTxn := rfl
@[simp] theorem State.modMac_claims : (s.modMac m f).claims = s.claims := rfl
@[simp] theorem State.modMac_hwClaims : (s.modMac m f).hwClaims = s.hwClaims := rfl
@[simp] theorem State.modMac_gens : (s.modMac m f).gens = s.gens := rfl
@[simp] theorem State.modMac_spiIn : (s.modMac m f).spiIn = s.spiIn := rfl
@[simp] theorem State.modMac_spiOut : (s.modMac m f).spiOut = s.spiOut := rfl
@[simp] theorem State.modMac_miso : (s.modMac m f).miso = s.miso := rfl
@[simp] theorem State.modMac_lastOp : (s.modMac m f).lastOp = s.lastOp := rfl
@[simp] theorem State.modMac_lastReply : (s.modMac m f).lastReply = s.lastReply := rfl
@[simp] theorem State.modMac_cands : (s.modMac m f).cands = s.cands := rfl
@[simp] theorem State.modMac_timing : (s.modMac m f).timing = s.timing := rfl
@[simp] theorem State.modMac_outs : (s.modMac m f).outs = s.outs := rfl
@[simp] theorem State.modMac_pps : (s.modMac m f).pps = s.pps := rfl
@[simp] theorem State.modMac_aps : (s.modMac m f).aps = s.aps := rfl
@[simp] theorem State.modMac_pathProt : (s.modMac m f).pathProt = s.pathProt := rfl
@[simp] theorem State.modMac_tandem : (s.modMac m f).tandem = s.tandem := rfl
@[simp] theorem State.modMac_gallery : (s.modMac m f).gallery = s.gallery := rfl
@[simp] theorem State.modMac_chans : (s.modMac m f).chans = s.chans := rfl
@[simp] theorem State.modMac_dccOut : (s.modMac m f).dccOut = s.dccOut := rfl
@[simp] theorem State.modMac_dccIn : (s.modMac m f).dccIn = s.dccIn := rfl
@[simp] theorem State.modMac_points : (s.modMac m f).points = s.points := rfl
@[simp] theorem State.modMac_dayCuts : (s.modMac m f).dayCuts = s.dayCuts := rfl
@[simp] theorem State.modMac_tcaLog : (s.modMac m f).tcaLog = s.tcaLog := rfl
@[simp] theorem State.modMac_faults : (s.modMac m f).faults = s.faults := rfl
@[simp] theorem State.modMac_banks : (s.modMac m f).banks = s.banks := rfl
@[simp] theorem State.modMac_usedBanks : (s.modMac m f).usedBanks = s.usedBanks := rfl
@[simp] theorem State.modMac_owners : (s.modMac m f).owners = s.owners := rfl
@[simp] theorem State.modMac_retained : (s.modMac m f).retained = s.retained := rfl
@[simp] theorem State.modMac_seatObjs : (s.modMac m f).seatObjs = s.seatObjs := rfl
@[simp] theorem State.modMac_tempoFrom : (s.modMac m f).tempoFrom = s.tempoFrom := rfl
@[simp] theorem State.modMac_tempoHeld : (s.modMac m f).tempoHeld = s.tempoHeld := rfl
@[simp] theorem State.modMac_bases : (s.modMac m f).bases = s.bases := rfl
@[simp] theorem State.modMac_scrubFrom : (s.modMac m f).scrubFrom = s.scrubFrom := rfl
@[simp] theorem State.modMac_cvuRuns : (s.modMac m f).cvuRuns = s.cvuRuns := rfl
@[simp] theorem State.modMac_supply : (s.modMac m f).supply = s.supply := rfl
@[simp] theorem State.modMac_slacks : (s.modMac m f).slacks = s.slacks := rfl
@[simp] theorem State.modMac_worstFn : (s.modMac m f).worstFn = s.worstFn := rfl
@[simp] theorem State.modMac_slotCheck : (s.modMac m f).slotCheck = s.slotCheck := rfl
@[simp] theorem State.modMac_vault : (s.modMac m f).vault = s.vault := rfl
@[simp] theorem State.modMac_pins : (s.modMac m f).pins = s.pins := rfl
@[simp] theorem State.modMac_val (ob : Nat) : (s.modMac m f).val ob = s.val ob := rfl
@[simp] theorem State.modMac_fld (fl : Fld) (j d : Nat) : (s.modMac m f).fld fl j d = s.fld fl j d := rfl
@[simp] theorem State.modMac_on (fl : Fld) (j d : Nat) : (s.modMac m f).on fl j d = s.on fl j d := rfl
@[simp] theorem State.modMac_objBit (ob bt : Nat) : (s.modMac m f).objBit ob bt = s.objBit ob bt := rfl
@[simp] theorem State.modMac_lane (ob : Nat) : (s.modMac m f).lane ob = s.lane ob := rfl
@[simp] theorem State.modMac_word (ob bt : Nat) : (s.modMac m f).word ob bt = s.word ob bt := rfl
@[simp] theorem State.modMac_liveOf (ob : Nat) : (s.modMac m f).liveOf ob = s.liveOf ob := rfl
@[simp] theorem State.modMac_session (ob : Nat) : (s.modMac m f).session ob = s.session ob := rfl
@[simp] theorem State.modMac_chan (ob : Nat) : (s.modMac m f).chan ob = s.chan ob := rfl
end

/-! ### setPin -/

section
variable (u : Nat) (p : Pin)
@[simp] theorem State.setPin_pending : (s.setPin u p).pending = s.pending := rfl
@[simp] theorem State.setPin_now : (s.setPin u p).now = s.now := rfl
@[simp] theorem State.setPin_dts : (s.setPin u p).dts = s.dts := rfl
@[simp] theorem State.setPin_tempo : (s.setPin u p).tempo = s.tempo := rfl
@[simp] theorem State.setPin_startup : (s.setPin u p).startup = s.startup := rfl
@[simp] theorem State.setPin_straps : (s.setPin u p).straps = s.straps := rfl
@[simp] theorem State.setPin_resetLow : (s.setPin u p).resetLow = s.resetLow := rfl
@[simp] theorem State.setPin_rails : (s.setPin u p).rails = s.rails := rfl
@[simp] theorem State.setPin_free : (s.setPin u p).free = s.free := rfl
@[simp] theorem State.setPin_dict : (s.setPin u p).dict = s.dict := rfl
@[simp] theorem State.setPin_live : (s.setPin u p).live = s.live := rfl
@[simp] theorem State.setPin_words : (s.setPin u p).words = s.words := rfl
@[simp] theorem State.setPin_lanes : (s.setPin u p).lanes = s.lanes := rfl
@[simp] theorem State.setPin_xc : (s.setPin u p).xc = s.xc := rfl
@[simp] theorem State.setPin_sessions : (s.setPin u p).sessions = s.sessions := rfl
@[simp] theorem State.setPin_freeNums : (s.setPin u p).freeNums = s.freeNums := rfl
@[simp] theorem State.setPin_opened : (s.setPin u p).opened = s.opened := rfl
@[simp] theorem State.setPin_txns : (s.setPin u p).txns = s.txns := rfl
@[simp] theorem State.setPin_nextTxn : (s.setPin u p).nextTxn = s.nextTxn := rfl
@[simp] theorem State.setPin_claims : (s.setPin u p).claims = s.claims := rfl
@[simp] theorem State.setPin_hwClaims : (s.setPin u p).hwClaims = s.hwClaims := rfl
@[simp] theorem State.setPin_gens : (s.setPin u p).gens = s.gens := rfl
@[simp] theorem State.setPin_spiIn : (s.setPin u p).spiIn = s.spiIn := rfl
@[simp] theorem State.setPin_spiOut : (s.setPin u p).spiOut = s.spiOut := rfl
@[simp] theorem State.setPin_miso : (s.setPin u p).miso = s.miso := rfl
@[simp] theorem State.setPin_lastOp : (s.setPin u p).lastOp = s.lastOp := rfl
@[simp] theorem State.setPin_lastReply : (s.setPin u p).lastReply = s.lastReply := rfl
@[simp] theorem State.setPin_cands : (s.setPin u p).cands = s.cands := rfl
@[simp] theorem State.setPin_timing : (s.setPin u p).timing = s.timing := rfl
@[simp] theorem State.setPin_outs : (s.setPin u p).outs = s.outs := rfl
@[simp] theorem State.setPin_pps : (s.setPin u p).pps = s.pps := rfl
@[simp] theorem State.setPin_aps : (s.setPin u p).aps = s.aps := rfl
@[simp] theorem State.setPin_pathProt : (s.setPin u p).pathProt = s.pathProt := rfl
@[simp] theorem State.setPin_tandem : (s.setPin u p).tandem = s.tandem := rfl
@[simp] theorem State.setPin_gallery : (s.setPin u p).gallery = s.gallery := rfl
@[simp] theorem State.setPin_chans : (s.setPin u p).chans = s.chans := rfl
@[simp] theorem State.setPin_dccOut : (s.setPin u p).dccOut = s.dccOut := rfl
@[simp] theorem State.setPin_dccIn : (s.setPin u p).dccIn = s.dccIn := rfl
@[simp] theorem State.setPin_points : (s.setPin u p).points = s.points := rfl
@[simp] theorem State.setPin_dayCuts : (s.setPin u p).dayCuts = s.dayCuts := rfl
@[simp] theorem State.setPin_tcaLog : (s.setPin u p).tcaLog = s.tcaLog := rfl
@[simp] theorem State.setPin_macs : (s.setPin u p).macs = s.macs := rfl
@[simp] theorem State.setPin_faults : (s.setPin u p).faults = s.faults := rfl
@[simp] theorem State.setPin_banks : (s.setPin u p).banks = s.banks := rfl
@[simp] theorem State.setPin_usedBanks : (s.setPin u p).usedBanks = s.usedBanks := rfl
@[simp] theorem State.setPin_owners : (s.setPin u p).owners = s.owners := rfl
@[simp] theorem State.setPin_retained : (s.setPin u p).retained = s.retained := rfl
@[simp] theorem State.setPin_seatObjs : (s.setPin u p).seatObjs = s.seatObjs := rfl
@[simp] theorem State.setPin_tempoFrom : (s.setPin u p).tempoFrom = s.tempoFrom := rfl
@[simp] theorem State.setPin_tempoHeld : (s.setPin u p).tempoHeld = s.tempoHeld := rfl
@[simp] theorem State.setPin_bases : (s.setPin u p).bases = s.bases := rfl
@[simp] theorem State.setPin_scrubFrom : (s.setPin u p).scrubFrom = s.scrubFrom := rfl
@[simp] theorem State.setPin_cvuRuns : (s.setPin u p).cvuRuns = s.cvuRuns := rfl
@[simp] theorem State.setPin_supply : (s.setPin u p).supply = s.supply := rfl
@[simp] theorem State.setPin_slacks : (s.setPin u p).slacks = s.slacks := rfl
@[simp] theorem State.setPin_worstFn : (s.setPin u p).worstFn = s.worstFn := rfl
@[simp] theorem State.setPin_slotCheck : (s.setPin u p).slotCheck = s.slotCheck := rfl
@[simp] theorem State.setPin_vault : (s.setPin u p).vault = s.vault := rfl
@[simp] theorem State.setPin_val (ob : Nat) : (s.setPin u p).val ob = s.val ob := rfl
@[simp] theorem State.setPin_fld (fl : Fld) (j d : Nat) : (s.setPin u p).fld fl j d = s.fld fl j d := rfl
@[simp] theorem State.setPin_on (fl : Fld) (j d : Nat) : (s.setPin u p).on fl j d = s.on fl j d := rfl
@[simp] theorem State.setPin_objBit (ob bt : Nat) : (s.setPin u p).objBit ob bt = s.objBit ob bt := rfl
@[simp] theorem State.setPin_lane (ob : Nat) : (s.setPin u p).lane ob = s.lane ob := rfl
@[simp] theorem State.setPin_word (ob bt : Nat) : (s.setPin u p).word ob bt = s.word ob bt := rfl
@[simp] theorem State.setPin_liveOf (ob : Nat) : (s.setPin u p).liveOf ob = s.liveOf ob := rfl
@[simp] theorem State.setPin_session (ob : Nat) : (s.setPin u p).session ob = s.session ob := rfl
@[simp] theorem State.setPin_mac (ob : Nat) : (s.setPin u p).mac ob = s.mac ob := rfl
@[simp] theorem State.setPin_chan (ob : Nat) : (s.setPin u p).chan ob = s.chan ob := rfl
end

/-! ### modPin -/

section
variable (u : Nat) (f : Pin → Pin)
@[simp] theorem State.modPin_pending : (s.modPin u f).pending = s.pending := rfl
@[simp] theorem State.modPin_now : (s.modPin u f).now = s.now := rfl
@[simp] theorem State.modPin_dts : (s.modPin u f).dts = s.dts := rfl
@[simp] theorem State.modPin_tempo : (s.modPin u f).tempo = s.tempo := rfl
@[simp] theorem State.modPin_startup : (s.modPin u f).startup = s.startup := rfl
@[simp] theorem State.modPin_straps : (s.modPin u f).straps = s.straps := rfl
@[simp] theorem State.modPin_resetLow : (s.modPin u f).resetLow = s.resetLow := rfl
@[simp] theorem State.modPin_rails : (s.modPin u f).rails = s.rails := rfl
@[simp] theorem State.modPin_free : (s.modPin u f).free = s.free := rfl
@[simp] theorem State.modPin_dict : (s.modPin u f).dict = s.dict := rfl
@[simp] theorem State.modPin_live : (s.modPin u f).live = s.live := rfl
@[simp] theorem State.modPin_words : (s.modPin u f).words = s.words := rfl
@[simp] theorem State.modPin_lanes : (s.modPin u f).lanes = s.lanes := rfl
@[simp] theorem State.modPin_xc : (s.modPin u f).xc = s.xc := rfl
@[simp] theorem State.modPin_sessions : (s.modPin u f).sessions = s.sessions := rfl
@[simp] theorem State.modPin_freeNums : (s.modPin u f).freeNums = s.freeNums := rfl
@[simp] theorem State.modPin_opened : (s.modPin u f).opened = s.opened := rfl
@[simp] theorem State.modPin_txns : (s.modPin u f).txns = s.txns := rfl
@[simp] theorem State.modPin_nextTxn : (s.modPin u f).nextTxn = s.nextTxn := rfl
@[simp] theorem State.modPin_claims : (s.modPin u f).claims = s.claims := rfl
@[simp] theorem State.modPin_hwClaims : (s.modPin u f).hwClaims = s.hwClaims := rfl
@[simp] theorem State.modPin_gens : (s.modPin u f).gens = s.gens := rfl
@[simp] theorem State.modPin_spiIn : (s.modPin u f).spiIn = s.spiIn := rfl
@[simp] theorem State.modPin_spiOut : (s.modPin u f).spiOut = s.spiOut := rfl
@[simp] theorem State.modPin_miso : (s.modPin u f).miso = s.miso := rfl
@[simp] theorem State.modPin_lastOp : (s.modPin u f).lastOp = s.lastOp := rfl
@[simp] theorem State.modPin_lastReply : (s.modPin u f).lastReply = s.lastReply := rfl
@[simp] theorem State.modPin_cands : (s.modPin u f).cands = s.cands := rfl
@[simp] theorem State.modPin_timing : (s.modPin u f).timing = s.timing := rfl
@[simp] theorem State.modPin_outs : (s.modPin u f).outs = s.outs := rfl
@[simp] theorem State.modPin_pps : (s.modPin u f).pps = s.pps := rfl
@[simp] theorem State.modPin_aps : (s.modPin u f).aps = s.aps := rfl
@[simp] theorem State.modPin_pathProt : (s.modPin u f).pathProt = s.pathProt := rfl
@[simp] theorem State.modPin_tandem : (s.modPin u f).tandem = s.tandem := rfl
@[simp] theorem State.modPin_gallery : (s.modPin u f).gallery = s.gallery := rfl
@[simp] theorem State.modPin_chans : (s.modPin u f).chans = s.chans := rfl
@[simp] theorem State.modPin_dccOut : (s.modPin u f).dccOut = s.dccOut := rfl
@[simp] theorem State.modPin_dccIn : (s.modPin u f).dccIn = s.dccIn := rfl
@[simp] theorem State.modPin_points : (s.modPin u f).points = s.points := rfl
@[simp] theorem State.modPin_dayCuts : (s.modPin u f).dayCuts = s.dayCuts := rfl
@[simp] theorem State.modPin_tcaLog : (s.modPin u f).tcaLog = s.tcaLog := rfl
@[simp] theorem State.modPin_macs : (s.modPin u f).macs = s.macs := rfl
@[simp] theorem State.modPin_faults : (s.modPin u f).faults = s.faults := rfl
@[simp] theorem State.modPin_banks : (s.modPin u f).banks = s.banks := rfl
@[simp] theorem State.modPin_usedBanks : (s.modPin u f).usedBanks = s.usedBanks := rfl
@[simp] theorem State.modPin_owners : (s.modPin u f).owners = s.owners := rfl
@[simp] theorem State.modPin_retained : (s.modPin u f).retained = s.retained := rfl
@[simp] theorem State.modPin_seatObjs : (s.modPin u f).seatObjs = s.seatObjs := rfl
@[simp] theorem State.modPin_tempoFrom : (s.modPin u f).tempoFrom = s.tempoFrom := rfl
@[simp] theorem State.modPin_tempoHeld : (s.modPin u f).tempoHeld = s.tempoHeld := rfl
@[simp] theorem State.modPin_bases : (s.modPin u f).bases = s.bases := rfl
@[simp] theorem State.modPin_scrubFrom : (s.modPin u f).scrubFrom = s.scrubFrom := rfl
@[simp] theorem State.modPin_cvuRuns : (s.modPin u f).cvuRuns = s.cvuRuns := rfl
@[simp] theorem State.modPin_supply : (s.modPin u f).supply = s.supply := rfl
@[simp] theorem State.modPin_slacks : (s.modPin u f).slacks = s.slacks := rfl
@[simp] theorem State.modPin_worstFn : (s.modPin u f).worstFn = s.worstFn := rfl
@[simp] theorem State.modPin_slotCheck : (s.modPin u f).slotCheck = s.slotCheck := rfl
@[simp] theorem State.modPin_vault : (s.modPin u f).vault = s.vault := rfl
@[simp] theorem State.modPin_val (ob : Nat) : (s.modPin u f).val ob = s.val ob := rfl
@[simp] theorem State.modPin_fld (fl : Fld) (j d : Nat) : (s.modPin u f).fld fl j d = s.fld fl j d := rfl
@[simp] theorem State.modPin_on (fl : Fld) (j d : Nat) : (s.modPin u f).on fl j d = s.on fl j d := rfl
@[simp] theorem State.modPin_objBit (ob bt : Nat) : (s.modPin u f).objBit ob bt = s.objBit ob bt := rfl
@[simp] theorem State.modPin_lane (ob : Nat) : (s.modPin u f).lane ob = s.lane ob := rfl
@[simp] theorem State.modPin_word (ob bt : Nat) : (s.modPin u f).word ob bt = s.word ob bt := rfl
@[simp] theorem State.modPin_liveOf (ob : Nat) : (s.modPin u f).liveOf ob = s.liveOf ob := rfl
@[simp] theorem State.modPin_session (ob : Nat) : (s.modPin u f).session ob = s.session ob := rfl
@[simp] theorem State.modPin_mac (ob : Nat) : (s.modPin u f).mac ob = s.mac ob := rfl
@[simp] theorem State.modPin_chan (ob : Nat) : (s.modPin u f).chan ob = s.chan ob := rfl
end

/-! ### setSession -/

section
variable (x : Session)
@[simp] theorem State.setSession_pending : (s.setSession x).pending = s.pending := rfl
@[simp] theorem State.setSession_now : (s.setSession x).now = s.now := rfl
@[simp] theorem State.setSession_dts : (s.setSession x).dts = s.dts := rfl
@[simp] theorem State.setSession_tempo : (s.setSession x).tempo = s.tempo := rfl
@[simp] theorem State.setSession_startup : (s.setSession x).startup = s.startup := rfl
@[simp] theorem State.setSession_straps : (s.setSession x).straps = s.straps := rfl
@[simp] theorem State.setSession_resetLow : (s.setSession x).resetLow = s.resetLow := rfl
@[simp] theorem State.setSession_rails : (s.setSession x).rails = s.rails := rfl
@[simp] theorem State.setSession_free : (s.setSession x).free = s.free := rfl
@[simp] theorem State.setSession_dict : (s.setSession x).dict = s.dict := rfl
@[simp] theorem State.setSession_live : (s.setSession x).live = s.live := rfl
@[simp] theorem State.setSession_words : (s.setSession x).words = s.words := rfl
@[simp] theorem State.setSession_lanes : (s.setSession x).lanes = s.lanes := rfl
@[simp] theorem State.setSession_xc : (s.setSession x).xc = s.xc := rfl
@[simp] theorem State.setSession_freeNums : (s.setSession x).freeNums = s.freeNums := rfl
@[simp] theorem State.setSession_opened : (s.setSession x).opened = s.opened := rfl
@[simp] theorem State.setSession_txns : (s.setSession x).txns = s.txns := rfl
@[simp] theorem State.setSession_nextTxn : (s.setSession x).nextTxn = s.nextTxn := rfl
@[simp] theorem State.setSession_claims : (s.setSession x).claims = s.claims := rfl
@[simp] theorem State.setSession_hwClaims : (s.setSession x).hwClaims = s.hwClaims := rfl
@[simp] theorem State.setSession_gens : (s.setSession x).gens = s.gens := rfl
@[simp] theorem State.setSession_spiIn : (s.setSession x).spiIn = s.spiIn := rfl
@[simp] theorem State.setSession_spiOut : (s.setSession x).spiOut = s.spiOut := rfl
@[simp] theorem State.setSession_miso : (s.setSession x).miso = s.miso := rfl
@[simp] theorem State.setSession_lastOp : (s.setSession x).lastOp = s.lastOp := rfl
@[simp] theorem State.setSession_lastReply : (s.setSession x).lastReply = s.lastReply := rfl
@[simp] theorem State.setSession_cands : (s.setSession x).cands = s.cands := rfl
@[simp] theorem State.setSession_timing : (s.setSession x).timing = s.timing := rfl
@[simp] theorem State.setSession_outs : (s.setSession x).outs = s.outs := rfl
@[simp] theorem State.setSession_pps : (s.setSession x).pps = s.pps := rfl
@[simp] theorem State.setSession_aps : (s.setSession x).aps = s.aps := rfl
@[simp] theorem State.setSession_pathProt : (s.setSession x).pathProt = s.pathProt := rfl
@[simp] theorem State.setSession_tandem : (s.setSession x).tandem = s.tandem := rfl
@[simp] theorem State.setSession_gallery : (s.setSession x).gallery = s.gallery := rfl
@[simp] theorem State.setSession_chans : (s.setSession x).chans = s.chans := rfl
@[simp] theorem State.setSession_dccOut : (s.setSession x).dccOut = s.dccOut := rfl
@[simp] theorem State.setSession_dccIn : (s.setSession x).dccIn = s.dccIn := rfl
@[simp] theorem State.setSession_points : (s.setSession x).points = s.points := rfl
@[simp] theorem State.setSession_dayCuts : (s.setSession x).dayCuts = s.dayCuts := rfl
@[simp] theorem State.setSession_tcaLog : (s.setSession x).tcaLog = s.tcaLog := rfl
@[simp] theorem State.setSession_macs : (s.setSession x).macs = s.macs := rfl
@[simp] theorem State.setSession_faults : (s.setSession x).faults = s.faults := rfl
@[simp] theorem State.setSession_banks : (s.setSession x).banks = s.banks := rfl
@[simp] theorem State.setSession_usedBanks : (s.setSession x).usedBanks = s.usedBanks := rfl
@[simp] theorem State.setSession_owners : (s.setSession x).owners = s.owners := rfl
@[simp] theorem State.setSession_retained : (s.setSession x).retained = s.retained := rfl
@[simp] theorem State.setSession_seatObjs : (s.setSession x).seatObjs = s.seatObjs := rfl
@[simp] theorem State.setSession_tempoFrom : (s.setSession x).tempoFrom = s.tempoFrom := rfl
@[simp] theorem State.setSession_tempoHeld : (s.setSession x).tempoHeld = s.tempoHeld := rfl
@[simp] theorem State.setSession_bases : (s.setSession x).bases = s.bases := rfl
@[simp] theorem State.setSession_scrubFrom : (s.setSession x).scrubFrom = s.scrubFrom := rfl
@[simp] theorem State.setSession_cvuRuns : (s.setSession x).cvuRuns = s.cvuRuns := rfl
@[simp] theorem State.setSession_supply : (s.setSession x).supply = s.supply := rfl
@[simp] theorem State.setSession_slacks : (s.setSession x).slacks = s.slacks := rfl
@[simp] theorem State.setSession_worstFn : (s.setSession x).worstFn = s.worstFn := rfl
@[simp] theorem State.setSession_slotCheck : (s.setSession x).slotCheck = s.slotCheck := rfl
@[simp] theorem State.setSession_vault : (s.setSession x).vault = s.vault := rfl
@[simp] theorem State.setSession_pins : (s.setSession x).pins = s.pins := rfl
@[simp] theorem State.setSession_val (ob : Nat) : (s.setSession x).val ob = s.val ob := rfl
@[simp] theorem State.setSession_fld (fl : Fld) (j d : Nat) : (s.setSession x).fld fl j d = s.fld fl j d := rfl
@[simp] theorem State.setSession_on (fl : Fld) (j d : Nat) : (s.setSession x).on fl j d = s.on fl j d := rfl
@[simp] theorem State.setSession_objBit (ob bt : Nat) : (s.setSession x).objBit ob bt = s.objBit ob bt := rfl
@[simp] theorem State.setSession_lane (ob : Nat) : (s.setSession x).lane ob = s.lane ob := rfl
@[simp] theorem State.setSession_word (ob bt : Nat) : (s.setSession x).word ob bt = s.word ob bt := rfl
@[simp] theorem State.setSession_liveOf (ob : Nat) : (s.setSession x).liveOf ob = s.liveOf ob := rfl
@[simp] theorem State.setSession_mac (ob : Nat) : (s.setSession x).mac ob = s.mac ob := rfl
@[simp] theorem State.setSession_chan (ob : Nat) : (s.setSession x).chan ob = s.chan ob := rfl
end

/-! ### modSession -/

section
variable (n : Nat) (f : Session → Session)
@[simp] theorem State.modSession_pending : (s.modSession n f).pending = s.pending := rfl
@[simp] theorem State.modSession_now : (s.modSession n f).now = s.now := rfl
@[simp] theorem State.modSession_dts : (s.modSession n f).dts = s.dts := rfl
@[simp] theorem State.modSession_tempo : (s.modSession n f).tempo = s.tempo := rfl
@[simp] theorem State.modSession_startup : (s.modSession n f).startup = s.startup := rfl
@[simp] theorem State.modSession_straps : (s.modSession n f).straps = s.straps := rfl
@[simp] theorem State.modSession_resetLow : (s.modSession n f).resetLow = s.resetLow := rfl
@[simp] theorem State.modSession_rails : (s.modSession n f).rails = s.rails := rfl
@[simp] theorem State.modSession_free : (s.modSession n f).free = s.free := rfl
@[simp] theorem State.modSession_dict : (s.modSession n f).dict = s.dict := rfl
@[simp] theorem State.modSession_live : (s.modSession n f).live = s.live := rfl
@[simp] theorem State.modSession_words : (s.modSession n f).words = s.words := rfl
@[simp] theorem State.modSession_lanes : (s.modSession n f).lanes = s.lanes := rfl
@[simp] theorem State.modSession_xc : (s.modSession n f).xc = s.xc := rfl
@[simp] theorem State.modSession_freeNums : (s.modSession n f).freeNums = s.freeNums := rfl
@[simp] theorem State.modSession_opened : (s.modSession n f).opened = s.opened := rfl
@[simp] theorem State.modSession_txns : (s.modSession n f).txns = s.txns := rfl
@[simp] theorem State.modSession_nextTxn : (s.modSession n f).nextTxn = s.nextTxn := rfl
@[simp] theorem State.modSession_claims : (s.modSession n f).claims = s.claims := rfl
@[simp] theorem State.modSession_hwClaims : (s.modSession n f).hwClaims = s.hwClaims := rfl
@[simp] theorem State.modSession_gens : (s.modSession n f).gens = s.gens := rfl
@[simp] theorem State.modSession_spiIn : (s.modSession n f).spiIn = s.spiIn := rfl
@[simp] theorem State.modSession_spiOut : (s.modSession n f).spiOut = s.spiOut := rfl
@[simp] theorem State.modSession_miso : (s.modSession n f).miso = s.miso := rfl
@[simp] theorem State.modSession_lastOp : (s.modSession n f).lastOp = s.lastOp := rfl
@[simp] theorem State.modSession_lastReply : (s.modSession n f).lastReply = s.lastReply := rfl
@[simp] theorem State.modSession_cands : (s.modSession n f).cands = s.cands := rfl
@[simp] theorem State.modSession_timing : (s.modSession n f).timing = s.timing := rfl
@[simp] theorem State.modSession_outs : (s.modSession n f).outs = s.outs := rfl
@[simp] theorem State.modSession_pps : (s.modSession n f).pps = s.pps := rfl
@[simp] theorem State.modSession_aps : (s.modSession n f).aps = s.aps := rfl
@[simp] theorem State.modSession_pathProt : (s.modSession n f).pathProt = s.pathProt := rfl
@[simp] theorem State.modSession_tandem : (s.modSession n f).tandem = s.tandem := rfl
@[simp] theorem State.modSession_gallery : (s.modSession n f).gallery = s.gallery := rfl
@[simp] theorem State.modSession_chans : (s.modSession n f).chans = s.chans := rfl
@[simp] theorem State.modSession_dccOut : (s.modSession n f).dccOut = s.dccOut := rfl
@[simp] theorem State.modSession_dccIn : (s.modSession n f).dccIn = s.dccIn := rfl
@[simp] theorem State.modSession_points : (s.modSession n f).points = s.points := rfl
@[simp] theorem State.modSession_dayCuts : (s.modSession n f).dayCuts = s.dayCuts := rfl
@[simp] theorem State.modSession_tcaLog : (s.modSession n f).tcaLog = s.tcaLog := rfl
@[simp] theorem State.modSession_macs : (s.modSession n f).macs = s.macs := rfl
@[simp] theorem State.modSession_faults : (s.modSession n f).faults = s.faults := rfl
@[simp] theorem State.modSession_banks : (s.modSession n f).banks = s.banks := rfl
@[simp] theorem State.modSession_usedBanks : (s.modSession n f).usedBanks = s.usedBanks := rfl
@[simp] theorem State.modSession_owners : (s.modSession n f).owners = s.owners := rfl
@[simp] theorem State.modSession_retained : (s.modSession n f).retained = s.retained := rfl
@[simp] theorem State.modSession_seatObjs : (s.modSession n f).seatObjs = s.seatObjs := rfl
@[simp] theorem State.modSession_tempoFrom : (s.modSession n f).tempoFrom = s.tempoFrom := rfl
@[simp] theorem State.modSession_tempoHeld : (s.modSession n f).tempoHeld = s.tempoHeld := rfl
@[simp] theorem State.modSession_bases : (s.modSession n f).bases = s.bases := rfl
@[simp] theorem State.modSession_scrubFrom : (s.modSession n f).scrubFrom = s.scrubFrom := rfl
@[simp] theorem State.modSession_cvuRuns : (s.modSession n f).cvuRuns = s.cvuRuns := rfl
@[simp] theorem State.modSession_supply : (s.modSession n f).supply = s.supply := rfl
@[simp] theorem State.modSession_slacks : (s.modSession n f).slacks = s.slacks := rfl
@[simp] theorem State.modSession_worstFn : (s.modSession n f).worstFn = s.worstFn := rfl
@[simp] theorem State.modSession_slotCheck : (s.modSession n f).slotCheck = s.slotCheck := rfl
@[simp] theorem State.modSession_vault : (s.modSession n f).vault = s.vault := rfl
@[simp] theorem State.modSession_pins : (s.modSession n f).pins = s.pins := rfl
@[simp] theorem State.modSession_val (ob : Nat) : (s.modSession n f).val ob = s.val ob := rfl
@[simp] theorem State.modSession_fld (fl : Fld) (j d : Nat) : (s.modSession n f).fld fl j d = s.fld fl j d := rfl
@[simp] theorem State.modSession_on (fl : Fld) (j d : Nat) : (s.modSession n f).on fl j d = s.on fl j d := rfl
@[simp] theorem State.modSession_objBit (ob bt : Nat) : (s.modSession n f).objBit ob bt = s.objBit ob bt := rfl
@[simp] theorem State.modSession_lane (ob : Nat) : (s.modSession n f).lane ob = s.lane ob := rfl
@[simp] theorem State.modSession_word (ob bt : Nat) : (s.modSession n f).word ob bt = s.word ob bt := rfl
@[simp] theorem State.modSession_liveOf (ob : Nat) : (s.modSession n f).liveOf ob = s.liveOf ob := rfl
@[simp] theorem State.modSession_mac (ob : Nat) : (s.modSession n f).mac ob = s.mac ob := rfl
@[simp] theorem State.modSession_chan (ob : Nat) : (s.modSession n f).chan ob = s.chan ob := rfl
end

/-! ### setClaim -/

section
variable (k : Nat) (c : Claim)
@[simp] theorem State.setClaim_pending : (s.setClaim k c).pending = s.pending := rfl
@[simp] theorem State.setClaim_now : (s.setClaim k c).now = s.now := rfl
@[simp] theorem State.setClaim_dts : (s.setClaim k c).dts = s.dts := rfl
@[simp] theorem State.setClaim_tempo : (s.setClaim k c).tempo = s.tempo := rfl
@[simp] theorem State.setClaim_startup : (s.setClaim k c).startup = s.startup := rfl
@[simp] theorem State.setClaim_straps : (s.setClaim k c).straps = s.straps := rfl
@[simp] theorem State.setClaim_resetLow : (s.setClaim k c).resetLow = s.resetLow := rfl
@[simp] theorem State.setClaim_rails : (s.setClaim k c).rails = s.rails := rfl
@[simp] theorem State.setClaim_free : (s.setClaim k c).free = s.free := rfl
@[simp] theorem State.setClaim_dict : (s.setClaim k c).dict = s.dict := rfl
@[simp] theorem State.setClaim_live : (s.setClaim k c).live = s.live := rfl
@[simp] theorem State.setClaim_words : (s.setClaim k c).words = s.words := rfl
@[simp] theorem State.setClaim_lanes : (s.setClaim k c).lanes = s.lanes := rfl
@[simp] theorem State.setClaim_xc : (s.setClaim k c).xc = s.xc := rfl
@[simp] theorem State.setClaim_sessions : (s.setClaim k c).sessions = s.sessions := rfl
@[simp] theorem State.setClaim_freeNums : (s.setClaim k c).freeNums = s.freeNums := rfl
@[simp] theorem State.setClaim_opened : (s.setClaim k c).opened = s.opened := rfl
@[simp] theorem State.setClaim_txns : (s.setClaim k c).txns = s.txns := rfl
@[simp] theorem State.setClaim_nextTxn : (s.setClaim k c).nextTxn = s.nextTxn := rfl
@[simp] theorem State.setClaim_hwClaims : (s.setClaim k c).hwClaims = s.hwClaims := rfl
@[simp] theorem State.setClaim_gens : (s.setClaim k c).gens = s.gens := rfl
@[simp] theorem State.setClaim_spiIn : (s.setClaim k c).spiIn = s.spiIn := rfl
@[simp] theorem State.setClaim_spiOut : (s.setClaim k c).spiOut = s.spiOut := rfl
@[simp] theorem State.setClaim_miso : (s.setClaim k c).miso = s.miso := rfl
@[simp] theorem State.setClaim_lastOp : (s.setClaim k c).lastOp = s.lastOp := rfl
@[simp] theorem State.setClaim_lastReply : (s.setClaim k c).lastReply = s.lastReply := rfl
@[simp] theorem State.setClaim_cands : (s.setClaim k c).cands = s.cands := rfl
@[simp] theorem State.setClaim_timing : (s.setClaim k c).timing = s.timing := rfl
@[simp] theorem State.setClaim_outs : (s.setClaim k c).outs = s.outs := rfl
@[simp] theorem State.setClaim_pps : (s.setClaim k c).pps = s.pps := rfl
@[simp] theorem State.setClaim_aps : (s.setClaim k c).aps = s.aps := rfl
@[simp] theorem State.setClaim_pathProt : (s.setClaim k c).pathProt = s.pathProt := rfl
@[simp] theorem State.setClaim_tandem : (s.setClaim k c).tandem = s.tandem := rfl
@[simp] theorem State.setClaim_gallery : (s.setClaim k c).gallery = s.gallery := rfl
@[simp] theorem State.setClaim_chans : (s.setClaim k c).chans = s.chans := rfl
@[simp] theorem State.setClaim_dccOut : (s.setClaim k c).dccOut = s.dccOut := rfl
@[simp] theorem State.setClaim_dccIn : (s.setClaim k c).dccIn = s.dccIn := rfl
@[simp] theorem State.setClaim_points : (s.setClaim k c).points = s.points := rfl
@[simp] theorem State.setClaim_dayCuts : (s.setClaim k c).dayCuts = s.dayCuts := rfl
@[simp] theorem State.setClaim_tcaLog : (s.setClaim k c).tcaLog = s.tcaLog := rfl
@[simp] theorem State.setClaim_macs : (s.setClaim k c).macs = s.macs := rfl
@[simp] theorem State.setClaim_faults : (s.setClaim k c).faults = s.faults := rfl
@[simp] theorem State.setClaim_banks : (s.setClaim k c).banks = s.banks := rfl
@[simp] theorem State.setClaim_usedBanks : (s.setClaim k c).usedBanks = s.usedBanks := rfl
@[simp] theorem State.setClaim_owners : (s.setClaim k c).owners = s.owners := rfl
@[simp] theorem State.setClaim_retained : (s.setClaim k c).retained = s.retained := rfl
@[simp] theorem State.setClaim_seatObjs : (s.setClaim k c).seatObjs = s.seatObjs := rfl
@[simp] theorem State.setClaim_tempoFrom : (s.setClaim k c).tempoFrom = s.tempoFrom := rfl
@[simp] theorem State.setClaim_tempoHeld : (s.setClaim k c).tempoHeld = s.tempoHeld := rfl
@[simp] theorem State.setClaim_bases : (s.setClaim k c).bases = s.bases := rfl
@[simp] theorem State.setClaim_scrubFrom : (s.setClaim k c).scrubFrom = s.scrubFrom := rfl
@[simp] theorem State.setClaim_cvuRuns : (s.setClaim k c).cvuRuns = s.cvuRuns := rfl
@[simp] theorem State.setClaim_supply : (s.setClaim k c).supply = s.supply := rfl
@[simp] theorem State.setClaim_slacks : (s.setClaim k c).slacks = s.slacks := rfl
@[simp] theorem State.setClaim_worstFn : (s.setClaim k c).worstFn = s.worstFn := rfl
@[simp] theorem State.setClaim_slotCheck : (s.setClaim k c).slotCheck = s.slotCheck := rfl
@[simp] theorem State.setClaim_vault : (s.setClaim k c).vault = s.vault := rfl
@[simp] theorem State.setClaim_pins : (s.setClaim k c).pins = s.pins := rfl
@[simp] theorem State.setClaim_val (ob : Nat) : (s.setClaim k c).val ob = s.val ob := rfl
@[simp] theorem State.setClaim_fld (fl : Fld) (j d : Nat) : (s.setClaim k c).fld fl j d = s.fld fl j d := rfl
@[simp] theorem State.setClaim_on (fl : Fld) (j d : Nat) : (s.setClaim k c).on fl j d = s.on fl j d := rfl
@[simp] theorem State.setClaim_objBit (ob bt : Nat) : (s.setClaim k c).objBit ob bt = s.objBit ob bt := rfl
@[simp] theorem State.setClaim_lane (ob : Nat) : (s.setClaim k c).lane ob = s.lane ob := rfl
@[simp] theorem State.setClaim_word (ob bt : Nat) : (s.setClaim k c).word ob bt = s.word ob bt := rfl
@[simp] theorem State.setClaim_liveOf (ob : Nat) : (s.setClaim k c).liveOf ob = s.liveOf ob := rfl
@[simp] theorem State.setClaim_session (ob : Nat) : (s.setClaim k c).session ob = s.session ob := rfl
@[simp] theorem State.setClaim_mac (ob : Nat) : (s.setClaim k c).mac ob = s.mac ob := rfl
@[simp] theorem State.setClaim_chan (ob : Nat) : (s.setClaim k c).chan ob = s.chan ob := rfl
end

/-! ### setHwClaim -/

section
variable (k : Nat) (c : Claim)
@[simp] theorem State.setHwClaim_pending : (s.setHwClaim k c).pending = s.pending := rfl
@[simp] theorem State.setHwClaim_now : (s.setHwClaim k c).now = s.now := rfl
@[simp] theorem State.setHwClaim_dts : (s.setHwClaim k c).dts = s.dts := rfl
@[simp] theorem State.setHwClaim_tempo : (s.setHwClaim k c).tempo = s.tempo := rfl
@[simp] theorem State.setHwClaim_startup : (s.setHwClaim k c).startup = s.startup := rfl
@[simp] theorem State.setHwClaim_straps : (s.setHwClaim k c).straps = s.straps := rfl
@[simp] theorem State.setHwClaim_resetLow : (s.setHwClaim k c).resetLow = s.resetLow := rfl
@[simp] theorem State.setHwClaim_rails : (s.setHwClaim k c).rails = s.rails := rfl
@[simp] theorem State.setHwClaim_free : (s.setHwClaim k c).free = s.free := rfl
@[simp] theorem State.setHwClaim_dict : (s.setHwClaim k c).dict = s.dict := rfl
@[simp] theorem State.setHwClaim_live : (s.setHwClaim k c).live = s.live := rfl
@[simp] theorem State.setHwClaim_words : (s.setHwClaim k c).words = s.words := rfl
@[simp] theorem State.setHwClaim_lanes : (s.setHwClaim k c).lanes = s.lanes := rfl
@[simp] theorem State.setHwClaim_xc : (s.setHwClaim k c).xc = s.xc := rfl
@[simp] theorem State.setHwClaim_sessions : (s.setHwClaim k c).sessions = s.sessions := rfl
@[simp] theorem State.setHwClaim_freeNums : (s.setHwClaim k c).freeNums = s.freeNums := rfl
@[simp] theorem State.setHwClaim_opened : (s.setHwClaim k c).opened = s.opened := rfl
@[simp] theorem State.setHwClaim_txns : (s.setHwClaim k c).txns = s.txns := rfl
@[simp] theorem State.setHwClaim_nextTxn : (s.setHwClaim k c).nextTxn = s.nextTxn := rfl
@[simp] theorem State.setHwClaim_claims : (s.setHwClaim k c).claims = s.claims := rfl
@[simp] theorem State.setHwClaim_gens : (s.setHwClaim k c).gens = s.gens := rfl
@[simp] theorem State.setHwClaim_spiIn : (s.setHwClaim k c).spiIn = s.spiIn := rfl
@[simp] theorem State.setHwClaim_spiOut : (s.setHwClaim k c).spiOut = s.spiOut := rfl
@[simp] theorem State.setHwClaim_miso : (s.setHwClaim k c).miso = s.miso := rfl
@[simp] theorem State.setHwClaim_lastOp : (s.setHwClaim k c).lastOp = s.lastOp := rfl
@[simp] theorem State.setHwClaim_lastReply : (s.setHwClaim k c).lastReply = s.lastReply := rfl
@[simp] theorem State.setHwClaim_cands : (s.setHwClaim k c).cands = s.cands := rfl
@[simp] theorem State.setHwClaim_timing : (s.setHwClaim k c).timing = s.timing := rfl
@[simp] theorem State.setHwClaim_outs : (s.setHwClaim k c).outs = s.outs := rfl
@[simp] theorem State.setHwClaim_pps : (s.setHwClaim k c).pps = s.pps := rfl
@[simp] theorem State.setHwClaim_aps : (s.setHwClaim k c).aps = s.aps := rfl
@[simp] theorem State.setHwClaim_pathProt : (s.setHwClaim k c).pathProt = s.pathProt := rfl
@[simp] theorem State.setHwClaim_tandem : (s.setHwClaim k c).tandem = s.tandem := rfl
@[simp] theorem State.setHwClaim_gallery : (s.setHwClaim k c).gallery = s.gallery := rfl
@[simp] theorem State.setHwClaim_chans : (s.setHwClaim k c).chans = s.chans := rfl
@[simp] theorem State.setHwClaim_dccOut : (s.setHwClaim k c).dccOut = s.dccOut := rfl
@[simp] theorem State.setHwClaim_dccIn : (s.setHwClaim k c).dccIn = s.dccIn := rfl
@[simp] theorem State.setHwClaim_points : (s.setHwClaim k c).points = s.points := rfl
@[simp] theorem State.setHwClaim_dayCuts : (s.setHwClaim k c).dayCuts = s.dayCuts := rfl
@[simp] theorem State.setHwClaim_tcaLog : (s.setHwClaim k c).tcaLog = s.tcaLog := rfl
@[simp] theorem State.setHwClaim_macs : (s.setHwClaim k c).macs = s.macs := rfl
@[simp] theorem State.setHwClaim_faults : (s.setHwClaim k c).faults = s.faults := rfl
@[simp] theorem State.setHwClaim_banks : (s.setHwClaim k c).banks = s.banks := rfl
@[simp] theorem State.setHwClaim_usedBanks : (s.setHwClaim k c).usedBanks = s.usedBanks := rfl
@[simp] theorem State.setHwClaim_owners : (s.setHwClaim k c).owners = s.owners := rfl
@[simp] theorem State.setHwClaim_retained : (s.setHwClaim k c).retained = s.retained := rfl
@[simp] theorem State.setHwClaim_seatObjs : (s.setHwClaim k c).seatObjs = s.seatObjs := rfl
@[simp] theorem State.setHwClaim_tempoFrom : (s.setHwClaim k c).tempoFrom = s.tempoFrom := rfl
@[simp] theorem State.setHwClaim_tempoHeld : (s.setHwClaim k c).tempoHeld = s.tempoHeld := rfl
@[simp] theorem State.setHwClaim_bases : (s.setHwClaim k c).bases = s.bases := rfl
@[simp] theorem State.setHwClaim_scrubFrom : (s.setHwClaim k c).scrubFrom = s.scrubFrom := rfl
@[simp] theorem State.setHwClaim_cvuRuns : (s.setHwClaim k c).cvuRuns = s.cvuRuns := rfl
@[simp] theorem State.setHwClaim_supply : (s.setHwClaim k c).supply = s.supply := rfl
@[simp] theorem State.setHwClaim_slacks : (s.setHwClaim k c).slacks = s.slacks := rfl
@[simp] theorem State.setHwClaim_worstFn : (s.setHwClaim k c).worstFn = s.worstFn := rfl
@[simp] theorem State.setHwClaim_slotCheck : (s.setHwClaim k c).slotCheck = s.slotCheck := rfl
@[simp] theorem State.setHwClaim_vault : (s.setHwClaim k c).vault = s.vault := rfl
@[simp] theorem State.setHwClaim_pins : (s.setHwClaim k c).pins = s.pins := rfl
@[simp] theorem State.setHwClaim_val (ob : Nat) : (s.setHwClaim k c).val ob = s.val ob := rfl
@[simp] theorem State.setHwClaim_fld (fl : Fld) (j d : Nat) : (s.setHwClaim k c).fld fl j d = s.fld fl j d := rfl
@[simp] theorem State.setHwClaim_on (fl : Fld) (j d : Nat) : (s.setHwClaim k c).on fl j d = s.on fl j d := rfl
@[simp] theorem State.setHwClaim_objBit (ob bt : Nat) : (s.setHwClaim k c).objBit ob bt = s.objBit ob bt := rfl
@[simp] theorem State.setHwClaim_lane (ob : Nat) : (s.setHwClaim k c).lane ob = s.lane ob := rfl
@[simp] theorem State.setHwClaim_word (ob bt : Nat) : (s.setHwClaim k c).word ob bt = s.word ob bt := rfl
@[simp] theorem State.setHwClaim_liveOf (ob : Nat) : (s.setHwClaim k c).liveOf ob = s.liveOf ob := rfl
@[simp] theorem State.setHwClaim_session (ob : Nat) : (s.setHwClaim k c).session ob = s.session ob := rfl
@[simp] theorem State.setHwClaim_mac (ob : Nat) : (s.setHwClaim k c).mac ob = s.mac ob := rfl
@[simp] theorem State.setHwClaim_chan (ob : Nat) : (s.setHwClaim k c).chan ob = s.chan ob := rfl
end

/-! ### modTandem -/

section
variable (f : Tandem → Tandem)
@[simp] theorem State.modTandem_pending : (s.modTandem f).pending = s.pending := rfl
@[simp] theorem State.modTandem_now : (s.modTandem f).now = s.now := rfl
@[simp] theorem State.modTandem_dts : (s.modTandem f).dts = s.dts := rfl
@[simp] theorem State.modTandem_tempo : (s.modTandem f).tempo = s.tempo := rfl
@[simp] theorem State.modTandem_startup : (s.modTandem f).startup = s.startup := rfl
@[simp] theorem State.modTandem_straps : (s.modTandem f).straps = s.straps := rfl
@[simp] theorem State.modTandem_resetLow : (s.modTandem f).resetLow = s.resetLow := rfl
@[simp] theorem State.modTandem_rails : (s.modTandem f).rails = s.rails := rfl
@[simp] theorem State.modTandem_free : (s.modTandem f).free = s.free := rfl
@[simp] theorem State.modTandem_dict : (s.modTandem f).dict = s.dict := rfl
@[simp] theorem State.modTandem_live : (s.modTandem f).live = s.live := rfl
@[simp] theorem State.modTandem_words : (s.modTandem f).words = s.words := rfl
@[simp] theorem State.modTandem_lanes : (s.modTandem f).lanes = s.lanes := rfl
@[simp] theorem State.modTandem_xc : (s.modTandem f).xc = s.xc := rfl
@[simp] theorem State.modTandem_sessions : (s.modTandem f).sessions = s.sessions := rfl
@[simp] theorem State.modTandem_freeNums : (s.modTandem f).freeNums = s.freeNums := rfl
@[simp] theorem State.modTandem_opened : (s.modTandem f).opened = s.opened := rfl
@[simp] theorem State.modTandem_txns : (s.modTandem f).txns = s.txns := rfl
@[simp] theorem State.modTandem_nextTxn : (s.modTandem f).nextTxn = s.nextTxn := rfl
@[simp] theorem State.modTandem_claims : (s.modTandem f).claims = s.claims := rfl
@[simp] theorem State.modTandem_hwClaims : (s.modTandem f).hwClaims = s.hwClaims := rfl
@[simp] theorem State.modTandem_gens : (s.modTandem f).gens = s.gens := rfl
@[simp] theorem State.modTandem_spiIn : (s.modTandem f).spiIn = s.spiIn := rfl
@[simp] theorem State.modTandem_spiOut : (s.modTandem f).spiOut = s.spiOut := rfl
@[simp] theorem State.modTandem_miso : (s.modTandem f).miso = s.miso := rfl
@[simp] theorem State.modTandem_lastOp : (s.modTandem f).lastOp = s.lastOp := rfl
@[simp] theorem State.modTandem_lastReply : (s.modTandem f).lastReply = s.lastReply := rfl
@[simp] theorem State.modTandem_cands : (s.modTandem f).cands = s.cands := rfl
@[simp] theorem State.modTandem_timing : (s.modTandem f).timing = s.timing := rfl
@[simp] theorem State.modTandem_outs : (s.modTandem f).outs = s.outs := rfl
@[simp] theorem State.modTandem_pps : (s.modTandem f).pps = s.pps := rfl
@[simp] theorem State.modTandem_aps : (s.modTandem f).aps = s.aps := rfl
@[simp] theorem State.modTandem_pathProt : (s.modTandem f).pathProt = s.pathProt := rfl
@[simp] theorem State.modTandem_gallery : (s.modTandem f).gallery = s.gallery := rfl
@[simp] theorem State.modTandem_chans : (s.modTandem f).chans = s.chans := rfl
@[simp] theorem State.modTandem_dccOut : (s.modTandem f).dccOut = s.dccOut := rfl
@[simp] theorem State.modTandem_dccIn : (s.modTandem f).dccIn = s.dccIn := rfl
@[simp] theorem State.modTandem_points : (s.modTandem f).points = s.points := rfl
@[simp] theorem State.modTandem_dayCuts : (s.modTandem f).dayCuts = s.dayCuts := rfl
@[simp] theorem State.modTandem_tcaLog : (s.modTandem f).tcaLog = s.tcaLog := rfl
@[simp] theorem State.modTandem_macs : (s.modTandem f).macs = s.macs := rfl
@[simp] theorem State.modTandem_faults : (s.modTandem f).faults = s.faults := rfl
@[simp] theorem State.modTandem_banks : (s.modTandem f).banks = s.banks := rfl
@[simp] theorem State.modTandem_usedBanks : (s.modTandem f).usedBanks = s.usedBanks := rfl
@[simp] theorem State.modTandem_owners : (s.modTandem f).owners = s.owners := rfl
@[simp] theorem State.modTandem_retained : (s.modTandem f).retained = s.retained := rfl
@[simp] theorem State.modTandem_seatObjs : (s.modTandem f).seatObjs = s.seatObjs := rfl
@[simp] theorem State.modTandem_tempoFrom : (s.modTandem f).tempoFrom = s.tempoFrom := rfl
@[simp] theorem State.modTandem_tempoHeld : (s.modTandem f).tempoHeld = s.tempoHeld := rfl
@[simp] theorem State.modTandem_bases : (s.modTandem f).bases = s.bases := rfl
@[simp] theorem State.modTandem_scrubFrom : (s.modTandem f).scrubFrom = s.scrubFrom := rfl
@[simp] theorem State.modTandem_cvuRuns : (s.modTandem f).cvuRuns = s.cvuRuns := rfl
@[simp] theorem State.modTandem_supply : (s.modTandem f).supply = s.supply := rfl
@[simp] theorem State.modTandem_slacks : (s.modTandem f).slacks = s.slacks := rfl
@[simp] theorem State.modTandem_worstFn : (s.modTandem f).worstFn = s.worstFn := rfl
@[simp] theorem State.modTandem_slotCheck : (s.modTandem f).slotCheck = s.slotCheck := rfl
@[simp] theorem State.modTandem_vault : (s.modTandem f).vault = s.vault := rfl
@[simp] theorem State.modTandem_pins : (s.modTandem f).pins = s.pins := rfl
@[simp] theorem State.modTandem_val (ob : Nat) : (s.modTandem f).val ob = s.val ob := rfl
@[simp] theorem State.modTandem_fld (fl : Fld) (j d : Nat) : (s.modTandem f).fld fl j d = s.fld fl j d := rfl
@[simp] theorem State.modTandem_on (fl : Fld) (j d : Nat) : (s.modTandem f).on fl j d = s.on fl j d := rfl
@[simp] theorem State.modTandem_objBit (ob bt : Nat) : (s.modTandem f).objBit ob bt = s.objBit ob bt := rfl
@[simp] theorem State.modTandem_lane (ob : Nat) : (s.modTandem f).lane ob = s.lane ob := rfl
@[simp] theorem State.modTandem_word (ob bt : Nat) : (s.modTandem f).word ob bt = s.word ob bt := rfl
@[simp] theorem State.modTandem_liveOf (ob : Nat) : (s.modTandem f).liveOf ob = s.liveOf ob := rfl
@[simp] theorem State.modTandem_session (ob : Nat) : (s.modTandem f).session ob = s.session ob := rfl
@[simp] theorem State.modTandem_mac (ob : Nat) : (s.modTandem f).mac ob = s.mac ob := rfl
@[simp] theorem State.modTandem_chan (ob : Nat) : (s.modTandem f).chan ob = s.chan ob := rfl
end

/-! ### modGallery -/

section
variable (f : Gallery → Gallery)
@[simp] theorem State.modGallery_pending : (s.modGallery f).pending = s.pending := rfl
@[simp] theorem State.modGallery_now : (s.modGallery f).now = s.now := rfl
@[simp] theorem State.modGallery_dts : (s.modGallery f).dts = s.dts := rfl
@[simp] theorem State.modGallery_tempo : (s.modGallery f).tempo = s.tempo := rfl
@[simp] theorem State.modGallery_startup : (s.modGallery f).startup = s.startup := rfl
@[simp] theorem State.modGallery_straps : (s.modGallery f).straps = s.straps := rfl
@[simp] theorem State.modGallery_resetLow : (s.modGallery f).resetLow = s.resetLow := rfl
@[simp] theorem State.modGallery_rails : (s.modGallery f).rails = s.rails := rfl
@[simp] theorem State.modGallery_free : (s.modGallery f).free = s.free := rfl
@[simp] theorem State.modGallery_dict : (s.modGallery f).dict = s.dict := rfl
@[simp] theorem State.modGallery_live : (s.modGallery f).live = s.live := rfl
@[simp] theorem State.modGallery_words : (s.modGallery f).words = s.words := rfl
@[simp] theorem State.modGallery_lanes : (s.modGallery f).lanes = s.lanes := rfl
@[simp] theorem State.modGallery_xc : (s.modGallery f).xc = s.xc := rfl
@[simp] theorem State.modGallery_sessions : (s.modGallery f).sessions = s.sessions := rfl
@[simp] theorem State.modGallery_freeNums : (s.modGallery f).freeNums = s.freeNums := rfl
@[simp] theorem State.modGallery_opened : (s.modGallery f).opened = s.opened := rfl
@[simp] theorem State.modGallery_txns : (s.modGallery f).txns = s.txns := rfl
@[simp] theorem State.modGallery_nextTxn : (s.modGallery f).nextTxn = s.nextTxn := rfl
@[simp] theorem State.modGallery_claims : (s.modGallery f).claims = s.claims := rfl
@[simp] theorem State.modGallery_hwClaims : (s.modGallery f).hwClaims = s.hwClaims := rfl
@[simp] theorem State.modGallery_gens : (s.modGallery f).gens = s.gens := rfl
@[simp] theorem State.modGallery_spiIn : (s.modGallery f).spiIn = s.spiIn := rfl
@[simp] theorem State.modGallery_spiOut : (s.modGallery f).spiOut = s.spiOut := rfl
@[simp] theorem State.modGallery_miso : (s.modGallery f).miso = s.miso := rfl
@[simp] theorem State.modGallery_lastOp : (s.modGallery f).lastOp = s.lastOp := rfl
@[simp] theorem State.modGallery_lastReply : (s.modGallery f).lastReply = s.lastReply := rfl
@[simp] theorem State.modGallery_cands : (s.modGallery f).cands = s.cands := rfl
@[simp] theorem State.modGallery_timing : (s.modGallery f).timing = s.timing := rfl
@[simp] theorem State.modGallery_outs : (s.modGallery f).outs = s.outs := rfl
@[simp] theorem State.modGallery_pps : (s.modGallery f).pps = s.pps := rfl
@[simp] theorem State.modGallery_aps : (s.modGallery f).aps = s.aps := rfl
@[simp] theorem State.modGallery_pathProt : (s.modGallery f).pathProt = s.pathProt := rfl
@[simp] theorem State.modGallery_tandem : (s.modGallery f).tandem = s.tandem := rfl
@[simp] theorem State.modGallery_chans : (s.modGallery f).chans = s.chans := rfl
@[simp] theorem State.modGallery_dccOut : (s.modGallery f).dccOut = s.dccOut := rfl
@[simp] theorem State.modGallery_dccIn : (s.modGallery f).dccIn = s.dccIn := rfl
@[simp] theorem State.modGallery_points : (s.modGallery f).points = s.points := rfl
@[simp] theorem State.modGallery_dayCuts : (s.modGallery f).dayCuts = s.dayCuts := rfl
@[simp] theorem State.modGallery_tcaLog : (s.modGallery f).tcaLog = s.tcaLog := rfl
@[simp] theorem State.modGallery_macs : (s.modGallery f).macs = s.macs := rfl
@[simp] theorem State.modGallery_faults : (s.modGallery f).faults = s.faults := rfl
@[simp] theorem State.modGallery_banks : (s.modGallery f).banks = s.banks := rfl
@[simp] theorem State.modGallery_usedBanks : (s.modGallery f).usedBanks = s.usedBanks := rfl
@[simp] theorem State.modGallery_owners : (s.modGallery f).owners = s.owners := rfl
@[simp] theorem State.modGallery_retained : (s.modGallery f).retained = s.retained := rfl
@[simp] theorem State.modGallery_seatObjs : (s.modGallery f).seatObjs = s.seatObjs := rfl
@[simp] theorem State.modGallery_tempoFrom : (s.modGallery f).tempoFrom = s.tempoFrom := rfl
@[simp] theorem State.modGallery_tempoHeld : (s.modGallery f).tempoHeld = s.tempoHeld := rfl
@[simp] theorem State.modGallery_bases : (s.modGallery f).bases = s.bases := rfl
@[simp] theorem State.modGallery_scrubFrom : (s.modGallery f).scrubFrom = s.scrubFrom := rfl
@[simp] theorem State.modGallery_cvuRuns : (s.modGallery f).cvuRuns = s.cvuRuns := rfl
@[simp] theorem State.modGallery_supply : (s.modGallery f).supply = s.supply := rfl
@[simp] theorem State.modGallery_slacks : (s.modGallery f).slacks = s.slacks := rfl
@[simp] theorem State.modGallery_worstFn : (s.modGallery f).worstFn = s.worstFn := rfl
@[simp] theorem State.modGallery_slotCheck : (s.modGallery f).slotCheck = s.slotCheck := rfl
@[simp] theorem State.modGallery_vault : (s.modGallery f).vault = s.vault := rfl
@[simp] theorem State.modGallery_pins : (s.modGallery f).pins = s.pins := rfl
@[simp] theorem State.modGallery_val (ob : Nat) : (s.modGallery f).val ob = s.val ob := rfl
@[simp] theorem State.modGallery_fld (fl : Fld) (j d : Nat) : (s.modGallery f).fld fl j d = s.fld fl j d := rfl
@[simp] theorem State.modGallery_on (fl : Fld) (j d : Nat) : (s.modGallery f).on fl j d = s.on fl j d := rfl
@[simp] theorem State.modGallery_objBit (ob bt : Nat) : (s.modGallery f).objBit ob bt = s.objBit ob bt := rfl
@[simp] theorem State.modGallery_lane (ob : Nat) : (s.modGallery f).lane ob = s.lane ob := rfl
@[simp] theorem State.modGallery_word (ob bt : Nat) : (s.modGallery f).word ob bt = s.word ob bt := rfl
@[simp] theorem State.modGallery_liveOf (ob : Nat) : (s.modGallery f).liveOf ob = s.liveOf ob := rfl
@[simp] theorem State.modGallery_session (ob : Nat) : (s.modGallery f).session ob = s.session ob := rfl
@[simp] theorem State.modGallery_mac (ob : Nat) : (s.modGallery f).mac ob = s.mac ob := rfl
@[simp] theorem State.modGallery_chan (ob : Nat) : (s.modGallery f).chan ob = s.chan ob := rfl
end

/-! ### modFaults -/

section
variable (f : Faults → Faults)
@[simp] theorem State.modFaults_pending : (s.modFaults f).pending = s.pending := rfl
@[simp] theorem State.modFaults_now : (s.modFaults f).now = s.now := rfl
@[simp] theorem State.modFaults_dts : (s.modFaults f).dts = s.dts := rfl
@[simp] theorem State.modFaults_tempo : (s.modFaults f).tempo = s.tempo := rfl
@[simp] theorem State.modFaults_startup : (s.modFaults f).startup = s.startup := rfl
@[simp] theorem State.modFaults_straps : (s.modFaults f).straps = s.straps := rfl
@[simp] theorem State.modFaults_resetLow : (s.modFaults f).resetLow = s.resetLow := rfl
@[simp] theorem State.modFaults_rails : (s.modFaults f).rails = s.rails := rfl
@[simp] theorem State.modFaults_free : (s.modFaults f).free = s.free := rfl
@[simp] theorem State.modFaults_dict : (s.modFaults f).dict = s.dict := rfl
@[simp] theorem State.modFaults_live : (s.modFaults f).live = s.live := rfl
@[simp] theorem State.modFaults_words : (s.modFaults f).words = s.words := rfl
@[simp] theorem State.modFaults_lanes : (s.modFaults f).lanes = s.lanes := rfl
@[simp] theorem State.modFaults_xc : (s.modFaults f).xc = s.xc := rfl
@[simp] theorem State.modFaults_sessions : (s.modFaults f).sessions = s.sessions := rfl
@[simp] theorem State.modFaults_freeNums : (s.modFaults f).freeNums = s.freeNums := rfl
@[simp] theorem State.modFaults_opened : (s.modFaults f).opened = s.opened := rfl
@[simp] theorem State.modFaults_txns : (s.modFaults f).txns = s.txns := rfl
@[simp] theorem State.modFaults_nextTxn : (s.modFaults f).nextTxn = s.nextTxn := rfl
@[simp] theorem State.modFaults_claims : (s.modFaults f).claims = s.claims := rfl
@[simp] theorem State.modFaults_hwClaims : (s.modFaults f).hwClaims = s.hwClaims := rfl
@[simp] theorem State.modFaults_gens : (s.modFaults f).gens = s.gens := rfl
@[simp] theorem State.modFaults_spiIn : (s.modFaults f).spiIn = s.spiIn := rfl
@[simp] theorem State.modFaults_spiOut : (s.modFaults f).spiOut = s.spiOut := rfl
@[simp] theorem State.modFaults_miso : (s.modFaults f).miso = s.miso := rfl
@[simp] theorem State.modFaults_lastOp : (s.modFaults f).lastOp = s.lastOp := rfl
@[simp] theorem State.modFaults_lastReply : (s.modFaults f).lastReply = s.lastReply := rfl
@[simp] theorem State.modFaults_cands : (s.modFaults f).cands = s.cands := rfl
@[simp] theorem State.modFaults_timing : (s.modFaults f).timing = s.timing := rfl
@[simp] theorem State.modFaults_outs : (s.modFaults f).outs = s.outs := rfl
@[simp] theorem State.modFaults_pps : (s.modFaults f).pps = s.pps := rfl
@[simp] theorem State.modFaults_aps : (s.modFaults f).aps = s.aps := rfl
@[simp] theorem State.modFaults_pathProt : (s.modFaults f).pathProt = s.pathProt := rfl
@[simp] theorem State.modFaults_tandem : (s.modFaults f).tandem = s.tandem := rfl
@[simp] theorem State.modFaults_gallery : (s.modFaults f).gallery = s.gallery := rfl
@[simp] theorem State.modFaults_chans : (s.modFaults f).chans = s.chans := rfl
@[simp] theorem State.modFaults_dccOut : (s.modFaults f).dccOut = s.dccOut := rfl
@[simp] theorem State.modFaults_dccIn : (s.modFaults f).dccIn = s.dccIn := rfl
@[simp] theorem State.modFaults_points : (s.modFaults f).points = s.points := rfl
@[simp] theorem State.modFaults_dayCuts : (s.modFaults f).dayCuts = s.dayCuts := rfl
@[simp] theorem State.modFaults_tcaLog : (s.modFaults f).tcaLog = s.tcaLog := rfl
@[simp] theorem State.modFaults_macs : (s.modFaults f).macs = s.macs := rfl
@[simp] theorem State.modFaults_banks : (s.modFaults f).banks = s.banks := rfl
@[simp] theorem State.modFaults_usedBanks : (s.modFaults f).usedBanks = s.usedBanks := rfl
@[simp] theorem State.modFaults_owners : (s.modFaults f).owners = s.owners := rfl
@[simp] theorem State.modFaults_retained : (s.modFaults f).retained = s.retained := rfl
@[simp] theorem State.modFaults_seatObjs : (s.modFaults f).seatObjs = s.seatObjs := rfl
@[simp] theorem State.modFaults_tempoFrom : (s.modFaults f).tempoFrom = s.tempoFrom := rfl
@[simp] theorem State.modFaults_tempoHeld : (s.modFaults f).tempoHeld = s.tempoHeld := rfl
@[simp] theorem State.modFaults_bases : (s.modFaults f).bases = s.bases := rfl
@[simp] theorem State.modFaults_scrubFrom : (s.modFaults f).scrubFrom = s.scrubFrom := rfl
@[simp] theorem State.modFaults_cvuRuns : (s.modFaults f).cvuRuns = s.cvuRuns := rfl
@[simp] theorem State.modFaults_supply : (s.modFaults f).supply = s.supply := rfl
@[simp] theorem State.modFaults_slacks : (s.modFaults f).slacks = s.slacks := rfl
@[simp] theorem State.modFaults_worstFn : (s.modFaults f).worstFn = s.worstFn := rfl
@[simp] theorem State.modFaults_slotCheck : (s.modFaults f).slotCheck = s.slotCheck := rfl
@[simp] theorem State.modFaults_vault : (s.modFaults f).vault = s.vault := rfl
@[simp] theorem State.modFaults_pins : (s.modFaults f).pins = s.pins := rfl
@[simp] theorem State.modFaults_val (ob : Nat) : (s.modFaults f).val ob = s.val ob := rfl
@[simp] theorem State.modFaults_fld (fl : Fld) (j d : Nat) : (s.modFaults f).fld fl j d = s.fld fl j d := rfl
@[simp] theorem State.modFaults_on (fl : Fld) (j d : Nat) : (s.modFaults f).on fl j d = s.on fl j d := rfl
@[simp] theorem State.modFaults_objBit (ob bt : Nat) : (s.modFaults f).objBit ob bt = s.objBit ob bt := rfl
@[simp] theorem State.modFaults_lane (ob : Nat) : (s.modFaults f).lane ob = s.lane ob := rfl
@[simp] theorem State.modFaults_word (ob bt : Nat) : (s.modFaults f).word ob bt = s.word ob bt := rfl
@[simp] theorem State.modFaults_liveOf (ob : Nat) : (s.modFaults f).liveOf ob = s.liveOf ob := rfl
@[simp] theorem State.modFaults_session (ob : Nat) : (s.modFaults f).session ob = s.session ob := rfl
@[simp] theorem State.modFaults_mac (ob : Nat) : (s.modFaults f).mac ob = s.mac ob := rfl
@[simp] theorem State.modFaults_chan (ob : Nat) : (s.modFaults f).chan ob = s.chan ob := rfl
end

/-! ### modVault -/

section
variable (f : Vault → Vault)
@[simp] theorem State.modVault_pending : (s.modVault f).pending = s.pending := rfl
@[simp] theorem State.modVault_now : (s.modVault f).now = s.now := rfl
@[simp] theorem State.modVault_dts : (s.modVault f).dts = s.dts := rfl
@[simp] theorem State.modVault_tempo : (s.modVault f).tempo = s.tempo := rfl
@[simp] theorem State.modVault_startup : (s.modVault f).startup = s.startup := rfl
@[simp] theorem State.modVault_straps : (s.modVault f).straps = s.straps := rfl
@[simp] theorem State.modVault_resetLow : (s.modVault f).resetLow = s.resetLow := rfl
@[simp] theorem State.modVault_rails : (s.modVault f).rails = s.rails := rfl
@[simp] theorem State.modVault_free : (s.modVault f).free = s.free := rfl
@[simp] theorem State.modVault_dict : (s.modVault f).dict = s.dict := rfl
@[simp] theorem State.modVault_live : (s.modVault f).live = s.live := rfl
@[simp] theorem State.modVault_words : (s.modVault f).words = s.words := rfl
@[simp] theorem State.modVault_lanes : (s.modVault f).lanes = s.lanes := rfl
@[simp] theorem State.modVault_xc : (s.modVault f).xc = s.xc := rfl
@[simp] theorem State.modVault_sessions : (s.modVault f).sessions = s.sessions := rfl
@[simp] theorem State.modVault_freeNums : (s.modVault f).freeNums = s.freeNums := rfl
@[simp] theorem State.modVault_opened : (s.modVault f).opened = s.opened := rfl
@[simp] theorem State.modVault_txns : (s.modVault f).txns = s.txns := rfl
@[simp] theorem State.modVault_nextTxn : (s.modVault f).nextTxn = s.nextTxn := rfl
@[simp] theorem State.modVault_claims : (s.modVault f).claims = s.claims := rfl
@[simp] theorem State.modVault_hwClaims : (s.modVault f).hwClaims = s.hwClaims := rfl
@[simp] theorem State.modVault_gens : (s.modVault f).gens = s.gens := rfl
@[simp] theorem State.modVault_spiIn : (s.modVault f).spiIn = s.spiIn := rfl
@[simp] theorem State.modVault_spiOut : (s.modVault f).spiOut = s.spiOut := rfl
@[simp] theorem State.modVault_miso : (s.modVault f).miso = s.miso := rfl
@[simp] theorem State.modVault_lastOp : (s.modVault f).lastOp = s.lastOp := rfl
@[simp] theorem State.modVault_lastReply : (s.modVault f).lastReply = s.lastReply := rfl
@[simp] theorem State.modVault_cands : (s.modVault f).cands = s.cands := rfl
@[simp] theorem State.modVault_timing : (s.modVault f).timing = s.timing := rfl
@[simp] theorem State.modVault_outs : (s.modVault f).outs = s.outs := rfl
@[simp] theorem State.modVault_pps : (s.modVault f).pps = s.pps := rfl
@[simp] theorem State.modVault_aps : (s.modVault f).aps = s.aps := rfl
@[simp] theorem State.modVault_pathProt : (s.modVault f).pathProt = s.pathProt := rfl
@[simp] theorem State.modVault_tandem : (s.modVault f).tandem = s.tandem := rfl
@[simp] theorem State.modVault_gallery : (s.modVault f).gallery = s.gallery := rfl
@[simp] theorem State.modVault_chans : (s.modVault f).chans = s.chans := rfl
@[simp] theorem State.modVault_dccOut : (s.modVault f).dccOut = s.dccOut := rfl
@[simp] theorem State.modVault_dccIn : (s.modVault f).dccIn = s.dccIn := rfl
@[simp] theorem State.modVault_points : (s.modVault f).points = s.points := rfl
@[simp] theorem State.modVault_dayCuts : (s.modVault f).dayCuts = s.dayCuts := rfl
@[simp] theorem State.modVault_tcaLog : (s.modVault f).tcaLog = s.tcaLog := rfl
@[simp] theorem State.modVault_macs : (s.modVault f).macs = s.macs := rfl
@[simp] theorem State.modVault_faults : (s.modVault f).faults = s.faults := rfl
@[simp] theorem State.modVault_banks : (s.modVault f).banks = s.banks := rfl
@[simp] theorem State.modVault_usedBanks : (s.modVault f).usedBanks = s.usedBanks := rfl
@[simp] theorem State.modVault_owners : (s.modVault f).owners = s.owners := rfl
@[simp] theorem State.modVault_retained : (s.modVault f).retained = s.retained := rfl
@[simp] theorem State.modVault_seatObjs : (s.modVault f).seatObjs = s.seatObjs := rfl
@[simp] theorem State.modVault_tempoFrom : (s.modVault f).tempoFrom = s.tempoFrom := rfl
@[simp] theorem State.modVault_tempoHeld : (s.modVault f).tempoHeld = s.tempoHeld := rfl
@[simp] theorem State.modVault_bases : (s.modVault f).bases = s.bases := rfl
@[simp] theorem State.modVault_scrubFrom : (s.modVault f).scrubFrom = s.scrubFrom := rfl
@[simp] theorem State.modVault_cvuRuns : (s.modVault f).cvuRuns = s.cvuRuns := rfl
@[simp] theorem State.modVault_supply : (s.modVault f).supply = s.supply := rfl
@[simp] theorem State.modVault_slacks : (s.modVault f).slacks = s.slacks := rfl
@[simp] theorem State.modVault_worstFn : (s.modVault f).worstFn = s.worstFn := rfl
@[simp] theorem State.modVault_slotCheck : (s.modVault f).slotCheck = s.slotCheck := rfl
@[simp] theorem State.modVault_pins : (s.modVault f).pins = s.pins := rfl
@[simp] theorem State.modVault_val (ob : Nat) : (s.modVault f).val ob = s.val ob := rfl
@[simp] theorem State.modVault_fld (fl : Fld) (j d : Nat) : (s.modVault f).fld fl j d = s.fld fl j d := rfl
@[simp] theorem State.modVault_on (fl : Fld) (j d : Nat) : (s.modVault f).on fl j d = s.on fl j d := rfl
@[simp] theorem State.modVault_objBit (ob bt : Nat) : (s.modVault f).objBit ob bt = s.objBit ob bt := rfl
@[simp] theorem State.modVault_lane (ob : Nat) : (s.modVault f).lane ob = s.lane ob := rfl
@[simp] theorem State.modVault_word (ob bt : Nat) : (s.modVault f).word ob bt = s.word ob bt := rfl
@[simp] theorem State.modVault_liveOf (ob : Nat) : (s.modVault f).liveOf ob = s.liveOf ob := rfl
@[simp] theorem State.modVault_session (ob : Nat) : (s.modVault f).session ob = s.session ob := rfl
@[simp] theorem State.modVault_mac (ob : Nat) : (s.modVault f).mac ob = s.mac ob := rfl
@[simp] theorem State.modVault_chan (ob : Nat) : (s.modVault f).chan ob = s.chan ob := rfl
end

/-! ### advance -/

section
variable (t : Tick)
@[simp] theorem State.advance_pending : (s.advance t).pending = s.pending := rfl
@[simp] theorem State.advance_tempo : (s.advance t).tempo = s.tempo := rfl
@[simp] theorem State.advance_startup : (s.advance t).startup = s.startup := rfl
@[simp] theorem State.advance_straps : (s.advance t).straps = s.straps := rfl
@[simp] theorem State.advance_resetLow : (s.advance t).resetLow = s.resetLow := rfl
@[simp] theorem State.advance_rails : (s.advance t).rails = s.rails := rfl
@[simp] theorem State.advance_free : (s.advance t).free = s.free := rfl
@[simp] theorem State.advance_dict : (s.advance t).dict = s.dict := rfl
@[simp] theorem State.advance_live : (s.advance t).live = s.live := rfl
@[simp] theorem State.advance_words : (s.advance t).words = s.words := rfl
@[simp] theorem State.advance_lanes : (s.advance t).lanes = s.lanes := rfl
@[simp] theorem State.advance_xc : (s.advance t).xc = s.xc := rfl
@[simp] theorem State.advance_sessions : (s.advance t).sessions = s.sessions := rfl
@[simp] theorem State.advance_freeNums : (s.advance t).freeNums = s.freeNums := rfl
@[simp] theorem State.advance_opened : (s.advance t).opened = s.opened := rfl
@[simp] theorem State.advance_txns : (s.advance t).txns = s.txns := rfl
@[simp] theorem State.advance_nextTxn : (s.advance t).nextTxn = s.nextTxn := rfl
@[simp] theorem State.advance_claims : (s.advance t).claims = s.claims := rfl
@[simp] theorem State.advance_hwClaims : (s.advance t).hwClaims = s.hwClaims := rfl
@[simp] theorem State.advance_gens : (s.advance t).gens = s.gens := rfl
@[simp] theorem State.advance_spiIn : (s.advance t).spiIn = s.spiIn := rfl
@[simp] theorem State.advance_spiOut : (s.advance t).spiOut = s.spiOut := rfl
@[simp] theorem State.advance_miso : (s.advance t).miso = s.miso := rfl
@[simp] theorem State.advance_lastOp : (s.advance t).lastOp = s.lastOp := rfl
@[simp] theorem State.advance_lastReply : (s.advance t).lastReply = s.lastReply := rfl
@[simp] theorem State.advance_cands : (s.advance t).cands = s.cands := rfl
@[simp] theorem State.advance_timing : (s.advance t).timing = s.timing := rfl
@[simp] theorem State.advance_outs : (s.advance t).outs = s.outs := rfl
@[simp] theorem State.advance_pps : (s.advance t).pps = s.pps := rfl
@[simp] theorem State.advance_aps : (s.advance t).aps = s.aps := rfl
@[simp] theorem State.advance_pathProt : (s.advance t).pathProt = s.pathProt := rfl
@[simp] theorem State.advance_tandem : (s.advance t).tandem = s.tandem := rfl
@[simp] theorem State.advance_gallery : (s.advance t).gallery = s.gallery := rfl
@[simp] theorem State.advance_chans : (s.advance t).chans = s.chans := rfl
@[simp] theorem State.advance_dccOut : (s.advance t).dccOut = s.dccOut := rfl
@[simp] theorem State.advance_dccIn : (s.advance t).dccIn = s.dccIn := rfl
@[simp] theorem State.advance_points : (s.advance t).points = s.points := rfl
@[simp] theorem State.advance_dayCuts : (s.advance t).dayCuts = s.dayCuts := rfl
@[simp] theorem State.advance_tcaLog : (s.advance t).tcaLog = s.tcaLog := rfl
@[simp] theorem State.advance_macs : (s.advance t).macs = s.macs := rfl
@[simp] theorem State.advance_faults : (s.advance t).faults = s.faults := rfl
@[simp] theorem State.advance_banks : (s.advance t).banks = s.banks := rfl
@[simp] theorem State.advance_usedBanks : (s.advance t).usedBanks = s.usedBanks := rfl
@[simp] theorem State.advance_owners : (s.advance t).owners = s.owners := rfl
@[simp] theorem State.advance_retained : (s.advance t).retained = s.retained := rfl
@[simp] theorem State.advance_seatObjs : (s.advance t).seatObjs = s.seatObjs := rfl
@[simp] theorem State.advance_tempoFrom : (s.advance t).tempoFrom = s.tempoFrom := rfl
@[simp] theorem State.advance_tempoHeld : (s.advance t).tempoHeld = s.tempoHeld := rfl
@[simp] theorem State.advance_bases : (s.advance t).bases = s.bases := rfl
@[simp] theorem State.advance_scrubFrom : (s.advance t).scrubFrom = s.scrubFrom := rfl
@[simp] theorem State.advance_cvuRuns : (s.advance t).cvuRuns = s.cvuRuns := rfl
@[simp] theorem State.advance_supply : (s.advance t).supply = s.supply := rfl
@[simp] theorem State.advance_slacks : (s.advance t).slacks = s.slacks := rfl
@[simp] theorem State.advance_worstFn : (s.advance t).worstFn = s.worstFn := rfl
@[simp] theorem State.advance_slotCheck : (s.advance t).slotCheck = s.slotCheck := rfl
@[simp] theorem State.advance_vault : (s.advance t).vault = s.vault := rfl
@[simp] theorem State.advance_pins : (s.advance t).pins = s.pins := rfl
@[simp] theorem State.advance_val (ob : Nat) : (s.advance t).val ob = s.val ob := rfl
@[simp] theorem State.advance_fld (fl : Fld) (j d : Nat) : (s.advance t).fld fl j d = s.fld fl j d := rfl
@[simp] theorem State.advance_on (fl : Fld) (j d : Nat) : (s.advance t).on fl j d = s.on fl j d := rfl
@[simp] theorem State.advance_objBit (ob bt : Nat) : (s.advance t).objBit ob bt = s.objBit ob bt := rfl
@[simp] theorem State.advance_lane (ob : Nat) : (s.advance t).lane ob = s.lane ob := rfl
@[simp] theorem State.advance_word (ob bt : Nat) : (s.advance t).word ob bt = s.word ob bt := rfl
@[simp] theorem State.advance_liveOf (ob : Nat) : (s.advance t).liveOf ob = s.liveOf ob := rfl
@[simp] theorem State.advance_session (ob : Nat) : (s.advance t).session ob = s.session ob := rfl
@[simp] theorem State.advance_mac (ob : Nat) : (s.advance t).mac ob = s.mac ob := rfl
@[simp] theorem State.advance_chan (ob : Nat) : (s.advance t).chan ob = s.chan ob := rfl
end

/-! ### Reads after writes -/

@[simp] theorem State.val_setVal_self (o : Nat) (v : Val) : (s.setVal o v).val o = v := by
  unfold State.val State.setVal
  exact Map.get_set_self (objDefault o) o v s.dict

theorem State.val_setVal_ne {o p : Nat} (h : p ≠ o) (v : Val) : (s.setVal o v).val p = s.val p :=
  Map.get_set_ne _ _ h v s.dict

theorem bits_lt (v : Val) (hi lo : Nat) : bits v hi lo < 2 ^ (hi + 1 - lo) := Nat.mod_lt _ (Nat.two_pow_pos _)

theorem bits_testBit (v : Val) (hi lo j : Nat) :
    (bits v hi lo).testBit j = (decide (j < hi + 1 - lo) && v.getLsbD (lo + j)) := by
  rw [bits, Nat.testBit_mod_two_pow, Nat.testBit_div_two_pow, BitVec.getLsbD, Nat.add_comm lo j]

theorem setBits_toNat_testBit (v : Val) (hi lo x j : Nat) (hl : lo ≤ hi) :
    (v.toNat / 2 ^ (hi + 1) * 2 ^ (hi + 1) + x % 2 ^ (hi + 1 - lo) * 2 ^ lo + v.toNat % 2 ^ lo).testBit j =
      if j < lo then v.toNat.testBit j else if j ≤ hi then x.testBit (j - lo) else v.toNat.testBit j := by
  have hm : x % 2 ^ (hi + 1 - lo) * 2 ^ lo + v.toNat % 2 ^ lo < 2 ^ (hi + 1) := by
    have h1 : x % 2 ^ (hi + 1 - lo) < 2 ^ (hi + 1 - lo) := Nat.mod_lt _ (Nat.two_pow_pos _)
    have h2 : v.toNat % 2 ^ lo < 2 ^ lo := Nat.mod_lt _ (Nat.two_pow_pos _)
    have h3 : 2 ^ (hi + 1) = 2 ^ (hi + 1 - lo) * 2 ^ lo := by rw [← Nat.pow_add]; congr 1; omega
    rw [h3]
    calc _ < x % 2 ^ (hi + 1 - lo) * 2 ^ lo + 2 ^ lo := by omega
      _ = (x % 2 ^ (hi + 1 - lo) + 1) * 2 ^ lo := by rw [Nat.add_mul, Nat.one_mul]
      _ ≤ _ := Nat.mul_le_mul_right _ h1
  rw [Nat.add_assoc, Nat.mul_comm (v.toNat / _), Nat.testBit_two_pow_mul_add _ hm]
  have h2 : v.toNat % 2 ^ lo < 2 ^ lo := Nat.mod_lt _ (Nat.two_pow_pos _)
  rw [Nat.mul_comm (x % _), Nat.testBit_two_pow_mul_add _ h2, Nat.testBit_div_two_pow, Nat.testBit_mod_two_pow,
    Nat.testBit_mod_two_pow]
  split
  · split
    · next h => simp [h]
    · next h => rw [if_pos (by omega)]; simp; omega
  · rw [if_neg (by omega), if_neg (by omega)]
    congr 1
    omega

theorem getLsbD_setBits (v : Val) (hi lo x j : Nat) (hl : lo ≤ hi) (hj : j < 96) :
    (setBits v hi lo x).getLsbD j = if lo ≤ j ∧ j ≤ hi then x.testBit (j - lo) else v.getLsbD j := by
  rw [setBits, BitVec.getLsbD_ofNat, setBits_toNat_testBit v hi lo x j hl]
  simp only [hj, decide_true, Bool.true_and, BitVec.getLsbD]
  split
  · rw [if_neg (by omega)]
  · split
    · rw [if_pos (by omega)]
    · rw [if_neg (by omega)]

theorem bits_setBits_self (v : Val) (hi lo x : Nat) (hl : lo ≤ hi) (hh : hi < 96) :
    bits (setBits v hi lo x) hi lo = x % 2 ^ (hi + 1 - lo) := by
  apply Nat.eq_of_testBit_eq
  intro j
  rw [bits_testBit, Nat.testBit_mod_two_pow]
  by_cases hj : j < hi + 1 - lo
  · rw [getLsbD_setBits v hi lo x _ hl (by omega), if_pos (by omega)]
    simp
  · simp [hj]

theorem bits_setBits_ne (v : Val) (hi lo x h2 l2 : Nat) (hl : lo ≤ hi) (hh : h2 < 96) (hd : h2 < lo ∨ hi < l2) :
    bits (setBits v hi lo x) h2 l2 = bits v h2 l2 := by
  apply Nat.eq_of_testBit_eq
  intro j
  rw [bits_testBit, bits_testBit]
  by_cases hj : j < h2 + 1 - l2
  · rw [getLsbD_setBits v hi lo x _ hl (by omega), if_neg (by omega)]
  · simp [hj]

/-- A field reads as what was written into it, cut to its width. -/
theorem State.fld_setFld_self (f : Fld) (x i e : Nat) (hl : f.lo ≤ f.hi) (hh : f.hi < 96) :
    (s.setFld f x i e).fld f i e = x % 2 ^ (f.hi + 1 - f.lo) := by
  unfold State.fld State.setFld
  rw [State.val_setVal_self, bits_setBits_self _ _ _ _ hl hh]

/-- A field of another object stands. -/
theorem State.fld_setFld_obj (f g : Fld) (x i e j d : Nat) (h : g.obj j d ≠ f.obj i e) :
    (s.setFld f x i e).fld g j d = s.fld g j d := by
  unfold State.fld State.setFld
  rw [State.val_setVal_ne s h]

/-- Another field of the same object stands. -/
theorem State.fld_setFld_ne (f g : Fld) (x i e : Nat) (ho : g.base = f.base) (hl : f.lo ≤ f.hi) (hh : g.hi < 96)
    (hd : g.hi < f.lo ∨ f.hi < g.lo) : (s.setFld f x i e).fld g i e = s.fld g i e := by
  have h : g.obj i e = f.obj i e := by unfold Fld.obj; rw [ho]
  unfold State.fld State.setFld
  rw [h, State.val_setVal_self, bits_setBits_ne _ _ _ _ _ _ hl hh hd]

theorem State.on_setOn_self (f : Fld) (b : Bool) (i e : Nat) (hl : f.lo = f.hi) (hh : f.hi < 96) :
    (s.setOn f b i e).on f i e = b := by
  unfold State.on State.setOn
  rw [State.fld_setFld_self s f _ i e (by omega) hh, show f.hi + 1 - f.lo = 1 by omega]
  cases b <;> rfl

theorem State.val_setFld_ne (f : Fld) (x i e o : Nat) (h : o ≠ f.obj i e) : (s.setFld f x i e).val o = s.val o :=
  State.val_setVal_ne s h _

theorem State.objBit_of_val {s t : State} {o : Nat} (h : t.val o = s.val o) (k : Nat) : t.objBit o k = s.objBit o k := by
  unfold State.objBit; rw [h]

theorem State.fld_of_val {s t : State} {f : Fld} {i e : Nat} (h : t.val (f.obj i e) = s.val (f.obj i e)) :
    t.fld f i e = s.fld f i e := by
  unfold State.fld; rw [h]

theorem State.on_of_val {s t : State} {f : Fld} {i e : Nat} (h : t.val (f.obj i e) = s.val (f.obj i e)) :
    t.on f i e = s.on f i e := by
  unfold State.on; rw [State.fld_of_val h]

theorem State.objBit_putBit (o b c : Nat) (v : Bool) (hc : c < 96) :
    (s.putBit o b v).objBit o c = if c = b then v else s.objBit o c := by
  unfold State.objBit State.putBit
  rw [State.val_setVal_self, getLsbD_setBits _ _ _ _ _ (Nat.le_refl b) hc]
  by_cases h : c = b
  · subst h
    rw [if_pos ⟨Nat.le_refl c, Nat.le_refl c⟩, if_pos rfl, Nat.sub_self]
    cases v <;> rfl
  · rw [if_neg (by omega), if_neg h]

@[simp] theorem State.lane_setLane_self (i : Nat) (l : Lane) : (s.setLane i l).lane i = l :=
  Map.get_set_self _ i l s.lanes

theorem State.lane_setLane_ne {i j : Nat} (h : j ≠ i) (l : Lane) : (s.setLane i l).lane j = s.lane j :=
  Map.get_set_ne _ _ h l s.lanes

@[simp] theorem State.lane_modLane_self (i : Nat) (f : Lane → Lane) : (s.modLane i f).lane i = f (s.lane i) :=
  State.lane_setLane_self s i _

@[simp] theorem State.mac_setMac_self (i : Nat) (x : Mac) : (s.setMac i x).mac i = x := Map.get_set_self _ i x s.macs
@[simp] theorem State.mac_modMac_self (i : Nat) (f : Mac → Mac) : (s.modMac i f).mac i = f (s.mac i) :=
  State.mac_setMac_self s i _
@[simp] theorem State.chan_setChan_self (i : Nat) (x : Chan) : (s.setChan i x).chan i = x := Map.get_set_self _ i x s.chans
@[simp] theorem State.cand_setCand_self (i : Nat) (x : Cand) : (s.setCand i x).cand i = x := Map.get_set_self _ i x s.cands
@[simp] theorem State.out_setOut_self (i : Nat) (x : Out) : (s.setOut i x).out i = x := Map.get_set_self _ i x s.outs
@[simp] theorem State.apsOf_setAps_self (i : Nat) (x : Aps) : (s.setAps i x).apsOf i = x := Map.get_set_self _ i x s.aps
@[simp] theorem State.pprot_setPprot_self (i : Nat) (x : PathProt) : (s.setPprot i x).pprot i = x :=
  Map.get_set_self _ i x s.pathProt
@[simp] theorem State.pin_setPin_self (i : Nat) (x : Pin) : (s.setPin i x).pin i = x := Map.get_set_self _ i x s.pins
@[simp] theorem State.point_setPoint_self (i : Nat) (x : Point) : (s.setPoint i x).point i = x :=
  Map.get_set_self _ i x s.points

end Sys2Proof.Machine
end

