-- ==== Sys2Proof/Laws/Flags.lean ====
section
/-! SUPPORT. What a sticky bit set by hardware does, once: the bit is set, other objects stand but FOLLA_STICKY, which may
gain EVENTS_LOST; beyond the dictionary only the event queues of sessions change. And what onUnit and advance answer. -/

namespace Sys2Proof.Machine

variable (s : State)

theorem onUnit_ok {ok : Bool} (h : ok = true) (what : String) (s : State) : onUnit ok what s = .next s := if_pos h

theorem onUnit_no {ok : Bool} (h : ok = false) (what : String) (s : State) :
    onUnit ok what s = .refused (.noSuchUnit what) := if_neg (by simp [h])

@[simp] theorem State.queueAll_val (o p : Nat) : (s.queueAll o).val p = s.val p := rfl

theorem State.event_val {o p : Nat} (h : p ≠ O.FOLLA_STICKY) : (s.event o).val p = s.val p := by
  have h1 : ∀ b : Bool, ((s.queueAll o).setOn F.FOLLA_STICKY_EVENTS_LOST b).val p = s.val p := fun b =>
    (State.val_setFld_ne _ _ _ _ _ _ h).trans rfl
  unfold State.event
  dsimp only
  split
  · split
    · exact (State.queueAll_val _ _ _).trans (h1 true)
    · exact h1 true
  · rfl

/-- An event clears no bit. -/
theorem State.event_objBit (o p k : Nat) (hk : k < 96) (h : s.objBit p k = true) : (s.event o).objBit p k = true := by
  by_cases hp : p = O.FOLLA_STICKY
  · have h1 : ((s.queueAll o).setOn F.FOLLA_STICKY_EVENTS_LOST true).objBit p k = true := by
      subst hp
      have e : ∀ t : State, t.setOn F.FOLLA_STICKY_EVENTS_LOST true =
          t.putBit O.FOLLA_STICKY F.FOLLA_STICKY_EVENTS_LOST.lo true := fun t => rfl
      rw [e, State.objBit_putBit _ _ _ _ _ hk]
      split
      · rfl
      · exact h
    unfold State.event
    dsimp only
    split
    · split
      · exact h1
      · exact h1
    · exact h
  · rw [State.objBit_of_val (State.event_val s hp)]; exact h

theorem State.raiseBit_val {o p k : Nat} (h : p ≠ o) (hf : p ≠ O.FOLLA_STICKY) : (s.raiseBit o k).val p = s.val p := by
  unfold State.raiseBit
  dsimp only
  split
  · rfl
  · split
    · rw [State.event_val _ hf, State.val_setVal_ne _ h]
    · exact State.val_setVal_ne _ h _

/-- The bit is set. -/
theorem State.raiseBit_self (o k : Nat) (hk : k < 96) : (s.raiseBit o k).objBit o k = true := by
  have h1 : (s.setVal o (setBits (s.val o) k k 1)).objBit o k = true := by
    unfold State.objBit
    rw [State.val_setVal_self, getLsbD_setBits _ _ _ _ _ (Nat.le_refl k) hk, if_pos ⟨Nat.le_refl k, Nat.le_refl k⟩,
      Nat.sub_self]
    rfl
  unfold State.raiseBit
  dsimp only
  split
  · next h => exact h
  · split
    · exact State.event_objBit _ _ _ _ hk h1
    · exact h1

/-- No bit is cleared. -/
theorem State.raiseBit_mono (o k p b : Nat) (hb : b < 96) (h : s.objBit p b = true) :
    (s.raiseBit o k).objBit p b = true := by
  have h1 : (s.setVal o (setBits (s.val o) k k 1)).objBit p b = true := by
    by_cases hp : p = o
    · subst hp
      unfold State.objBit
      rw [State.val_setVal_self, getLsbD_setBits _ _ _ _ _ (Nat.le_refl k) hb]
      split
      · next hc =>
        have : b - k = 0 := by omega
        rw [this]; rfl
      · exact h
    · rw [State.objBit_of_val (State.val_setVal_ne _ hp _)]; exact h
  unfold State.raiseBit
  dsimp only
  split
  · exact h
  · split
    · exact State.event_objBit _ _ _ _ hb h1
    · exact h1

theorem State.raise_val {f : Fld} {i e p : Nat} (h : p ≠ f.obj i e) (hf : p ≠ O.FOLLA_STICKY) :
    (s.raise f i e).val p = s.val p := State.raiseBit_val s h hf

theorem State.raise_self (f : Fld) (i e : Nat) (hk : f.lo < 96) : (s.raise f i e).objBit (f.obj i e) f.lo = true :=
  State.raiseBit_self s _ _ hk

theorem State.raiseIf_val {b : Bool} {f : Fld} {i e p : Nat} (h : p ≠ f.obj i e) (hf : p ≠ O.FOLLA_STICKY) :
    (s.raiseIf b f i e).val p = s.val p := by
  unfold State.raiseIf
  split
  · exact State.raise_val s h hf
  · rfl

end Sys2Proof.Machine
end

