-- ==== Sys2Proof/Laws/Same.lean ====
section
/-! SUPPORT. What the operations of the model leave: Same K B s t says that from s to t the fields of State whose bit K
has stand, and every object below number B. The lemma of an operation says which bits it may write and from which object
number on. -/

namespace Sys2Proof.Machine

structure Same (K B : Nat) (s t : State) : Prop where
  pending : K.testBit 0 = true → t.pending = s.pending
  now : K.testBit 1 = true → t.now = s.now
  dts : K.testBit 2 = true → t.dts = s.dts
  tempo : K.testBit 3 = true → t.tempo = s.tempo
  startup : K.testBit 4 = true → t.startup = s.startup
  straps : K.testBit 5 = true → t.straps = s.straps
  resetLow : K.testBit 6 = true → t.resetLow = s.resetLow
  rails : K.testBit 7 = true → t.rails = s.rails
  free : K.testBit 8 = true → t.free = s.free
  live : K.testBit 10 = true → t.live = s.live
  words : K.testBit 11 = true → t.words = s.words
  lanes : K.testBit 12 = true → t.lanes = s.lanes
  xc : K.testBit 13 = true → t.xc = s.xc
  sessions : K.testBit 14 = true → t.sessions = s.sessions
  freeNums : K.testBit 15 = true → t.freeNums = s.freeNums
  opened : K.testBit 16 = true → t.opened = s.opened
  txns : K.testBit 17 = true → t.txns = s.txns
  nextTxn : K.testBit 18 = true → t.nextTxn = s.nextTxn
  claims : K.testBit 19 = true → t.claims = s.claims
  hwClaims : K.testBit 20 = true → t.hwClaims = s.hwClaims
  gens : K.testBit 21 = true → t.gens = s.gens
  spiIn : K.testBit 22 = true → t.spiIn = s.spiIn
  spiOut : K.testBit 23 = true → t.spiOut = s.spiOut
  miso : K.testBit 24 = true → t.miso = s.miso
  lastOp : K.testBit 25 = true → t.lastOp = s.lastOp
  lastReply : K.testBit 26 = true → t.lastReply = s.lastReply
  cands : K.testBit 27 = true → t.cands = s.cands
  timing : K.testBit 28 = true → t.timing = s.timing
  outs : K.testBit 29 = true → t.outs = s.outs
  pps : K.testBit 30 = true → t.pps = s.pps
  aps : K.testBit 31 = true → t.aps = s.aps
  pathProt : K.testBit 32 = true → t.pathProt = s.pathProt
  tandem : K.testBit 33 = true → t.tandem = s.tandem
  gallery : K.testBit 34 = true → t.gallery = s.gallery
  chans : K.testBit 35 = true → t.chans = s.chans
  dccOut : K.testBit 36 = true → t.dccOut = s.dccOut
  dccIn : K.testBit 37 = true → t.dccIn = s.dccIn
  points : K.testBit 38 = true → t.points = s.points
  dayCuts : K.testBit 39 = true → t.dayCuts = s.dayCuts
  tcaLog : K.testBit 40 = true → t.tcaLog = s.tcaLog
  macs : K.testBit 41 = true → t.macs = s.macs
  faults : K.testBit 42 = true → t.faults = s.faults
  banks : K.testBit 43 = true → t.banks = s.banks
  usedBanks : K.testBit 44 = true → t.usedBanks = s.usedBanks
  owners : K.testBit 45 = true → t.owners = s.owners
  retained : K.testBit 46 = true → t.retained = s.retained
  seatObjs : K.testBit 47 = true → t.seatObjs = s.seatObjs
  tempoFrom : K.testBit 48 = true → t.tempoFrom = s.tempoFrom
  tempoHeld : K.testBit 49 = true → t.tempoHeld = s.tempoHeld
  bases : K.testBit 50 = true → t.bases = s.bases
  scrubFrom : K.testBit 51 = true → t.scrubFrom = s.scrubFrom
  cvuRuns : K.testBit 52 = true → t.cvuRuns = s.cvuRuns
  supply : K.testBit 53 = true → t.supply = s.supply
  slacks : K.testBit 54 = true → t.slacks = s.slacks
  worstFn : K.testBit 55 = true → t.worstFn = s.worstFn
  slotCheck : K.testBit 56 = true → t.slotCheck = s.slotCheck
  vault : K.testBit 57 = true → t.vault = s.vault
  pins : K.testBit 58 = true → t.pins = s.pins
  objs : ∀ o, o < B → t.val o = s.val o

theorem Same.refl (K B : Nat) (s : State) : Same K B s s := by
  constructor <;> intros <;> rfl

theorem Same.trans {K B : Nat} {a b c : State} (h : Same K B a b) (k : Same K B b c) : Same K B a c :=
  ⟨fun x => (k.pending x).trans (h.pending x),
    fun x => (k.now x).trans (h.now x),
    fun x => (k.dts x).trans (h.dts x),
    fun x => (k.tempo x).trans (h.tempo x),
    fun x => (k.startup x).trans (h.startup x),
    fun x => (k.straps x).trans (h.straps x),
    fun x => (k.resetLow x).trans (h.resetLow x),
    fun x => (k.rails x).trans (h.rails x),
    fun x => (k.free x).trans (h.free x),
    fun x => (k.live x).trans (h.live x),
    fun x => (k.words x).trans (h.words x),
    fun x => (k.lanes x).trans (h.lanes x),
    fun x => (k.xc x).trans (h.xc x),
    fun x => (k.sessions x).trans (h.sessions x),
    fun x => (k.freeNums x).trans (h.freeNums x),
    fun x => (k.opened x).trans (h.opened x),
    fun x => (k.txns x).trans (h.txns x),
    fun x => (k.nextTxn x).trans (h.nextTxn x),
    fun x => (k.claims x).trans (h.claims x),
    fun x => (k.hwClaims x).trans (h.hwClaims x),
    fun x => (k.gens x).trans (h.gens x),
    fun x => (k.spiIn x).trans (h.spiIn x),
    fun x => (k.spiOut x).trans (h.spiOut x),
    fun x => (k.miso x).trans (h.miso x),
    fun x => (k.lastOp x).trans (h.lastOp x),
    fun x => (k.lastReply x).trans (h.lastReply x),
    fun x => (k.cands x).trans (h.cands x),
    fun x => (k.timing x).trans (h.timing x),
    fun x => (k.outs x).trans (h.outs x),
    fun x => (k.pps x).trans (h.pps x),
    fun x => (k.aps x).trans (h.aps x),
    fun x => (k.pathProt x).trans (h.pathProt x),
    fun x => (k.tandem x).trans (h.tandem x),
    fun x => (k.gallery x).trans (h.gallery x),
    fun x => (k.chans x).trans (h.chans x),
    fun x => (k.dccOut x).trans (h.dccOut x),
    fun x => (k.dccIn x).trans (h.dccIn x),
    fun x => (k.points x).trans (h.points x),
    fun x => (k.dayCuts x).trans (h.dayCuts x),
    fun x => (k.tcaLog x).trans (h.tcaLog x),
    fun x => (k.macs x).trans (h.macs x),
    fun x => (k.faults x).trans (h.faults x),
    fun x => (k.banks x).trans (h.banks x),
    fun x => (k.usedBanks x).trans (h.usedBanks x),
    fun x => (k.owners x).trans (h.owners x),
    fun x => (k.retained x).trans (h.retained x),
    fun x => (k.seatObjs x).trans (h.seatObjs x),
    fun x => (k.tempoFrom x).trans (h.tempoFrom x),
    fun x => (k.tempoHeld x).trans (h.tempoHeld x),
    fun x => (k.bases x).trans (h.bases x),
    fun x => (k.scrubFrom x).trans (h.scrubFrom x),
    fun x => (k.cvuRuns x).trans (h.cvuRuns x),
    fun x => (k.supply x).trans (h.supply x),
    fun x => (k.slacks x).trans (h.slacks x),
    fun x => (k.worstFn x).trans (h.worstFn x),
    fun x => (k.slotCheck x).trans (h.slotCheck x),
    fun x => (k.vault x).trans (h.vault x),
    fun x => (k.pins x).trans (h.pins x),
    fun o ho => (k.objs o ho).trans (h.objs o ho)⟩

theorem mask_sub {K V W : Nat} (h : K &&& W = 0) (hv : V &&& W = V) : K &&& V = 0 := by
  rw [← hv, Nat.and_comm V W, ← Nat.and_assoc, h, Nat.zero_and]

theorem mask_bit {K i : Nat} (h : K &&& 2 ^ i = 0) : K.testBit i = false := by
  have e := congrArg (fun n => Nat.testBit n i) h
  simpa [Nat.testBit_and, Nat.testBit_two_pow_self] using e

theorem le_objAt {B b i e : Nat} (h : B ≤ b) : B ≤ objAt b i e :=
  Nat.le_trans h (Nat.le_trans (Nat.le_add_right _ _) (Nat.le_add_right _ _))

theorem Same.foldl {β : Type} {K B : Nat} {a : State} {f : State → β → State}
    (hf : ∀ s x, Same K B a s → Same K B a (f s x)) (l : List β) {s : State} (h : Same K B a s) :
    Same K B a (l.foldl f s) := by
  induction l generalizing s with
  | nil => exact h
  | cons x l ih => exact ih (hf s x h)

theorem Same.foldl_snd {β γ : Type} {K B : Nat} {a : State} {f : γ × State → β → γ × State}
    (hf : ∀ p x, Same K B a p.2 → Same K B a (f p x).2) (l : List β) {p : γ × State} (h : Same K B a p.2) :
    Same K B a (l.foldl f p).2 := by
  induction l generalizing p with
  | nil => exact h
  | cons x l ih => exact ih (hf p x h)

theorem Same.foldl_fst {β γ : Type} {K B : Nat} {a : State} {f : State × γ → β → State × γ}
    (hf : ∀ p x, Same K B a p.1 → Same K B a (f p x).1) (l : List β) {p : State × γ} (h : Same K B a p.1) :
    Same K B a (l.foldl f p).1 := by
  induction l generalizing p with
  | nil => exact h
  | cons x l ih => exact ih (hf p x h)

/-! ### Updates of fields -/

theorem Same.upd_dict {K B : Nat} {s0 s : State} {dict' : Map Val}
    (hK : K &&& 512 = 0) (hB : B ≤ 0) (h : Same K B s0 s) :
    Same K B s0 (State.mk s.pending s.now s.dts s.tempo s.startup s.straps s.resetLow s.rails s.free dict' s.live s.words s.lanes
      s.xc s.sessions s.freeNums s.opened s.txns s.nextTxn s.claims s.hwClaims s.gens s.spiIn s.spiOut s.miso
      s.lastOp s.lastReply s.cands s.timing s.outs s.pps s.aps s.pathProt s.tandem s.gallery s.chans s.dccOut
      s.dccIn s.points s.dayCuts s.tcaLog s.macs s.faults s.banks s.usedBanks s.owners s.retained s.seatObjs
      s.tempoFrom s.tempoHeld s.bases s.scrubFrom s.cvuRuns s.supply s.slacks s.worstFn s.slotCheck s.vault
      s.pins) :=
  ⟨h.pending, h.now, h.dts, h.tempo, h.startup, h.straps, h.resetLow, h.rails, h.free, h.live, h.words, h.lanes, h.xc, h.sessions, h.freeNums, h.opened, h.txns, h.nextTxn, h.claims, h.hwClaims, h.gens, h.spiIn, h.spiOut, h.miso, h.lastOp, h.lastReply, h.cands, h.timing, h.outs, h.pps, h.aps, h.pathProt, h.tandem, h.gallery, h.chans, h.dccOut, h.dccIn, h.points, h.dayCuts, h.tcaLog, h.macs, h.faults, h.banks, h.usedBanks, h.owners, h.retained, h.seatObjs, h.tempoFrom, h.tempoHeld, h.bases, h.scrubFrom, h.cvuRuns, h.supply, h.slacks, h.worstFn, h.slotCheck, h.vault, h.pins, fun o ho => absurd (Nat.lt_of_lt_of_le ho hB) (Nat.not_lt_zero o)⟩

theorem Same.upd_live {K B : Nat} {s0 s : State} {live' : Map Val}
    (hK : K &&& 1024 = 0) (h : Same K B s0 s) :
    Same K B s0 (State.mk s.pending s.now s.dts s.tempo s.startup s.straps s.resetLow s.rails s.free s.dict live' s.words s.lanes
      s.xc s.sessions s.freeNums s.opened s.txns s.nextTxn s.claims s.hwClaims s.gens s.spiIn s.spiOut s.miso
      s.lastOp s.lastReply s.cands s.timing s.outs s.pps s.aps s.pathProt s.tandem s.gallery s.chans s.dccOut
      s.dccIn s.points s.dayCuts s.tcaLog s.macs s.faults s.banks s.usedBanks s.owners s.retained s.seatObjs
      s.tempoFrom s.tempoHeld s.bases s.scrubFrom s.cvuRuns s.supply s.slacks s.worstFn s.slotCheck s.vault
      s.pins) :=
  ⟨h.pending, h.now, h.dts, h.tempo, h.startup, h.straps, h.resetLow, h.rails, h.free, fun k => absurd k (by rw [mask_bit (mask_sub hK rfl)]; exact Bool.noConfusion), h.words, h.lanes, h.xc, h.sessions, h.freeNums, h.opened, h.txns, h.nextTxn, h.claims, h.hwClaims, h.gens, h.spiIn, h.spiOut, h.miso, h.lastOp, h.lastReply, h.cands, h.timing, h.outs, h.pps, h.aps, h.pathProt, h.tandem, h.gallery, h.chans, h.dccOut, h.dccIn, h.points, h.dayCuts, h.tcaLog, h.macs, h.faults, h.banks, h.usedBanks, h.owners, h.retained, h.seatObjs, h.tempoFrom, h.tempoHeld, h.bases, h.scrubFrom, h.cvuRuns, h.supply, h.slacks, h.worstFn, h.slotCheck, h.vault, h.pins, h.objs⟩

theorem Same.upd_free {K B : Nat} {s0 s : State} {free' : Nat}
    (hK : K &&& 256 = 0) (h : Same K B s0 s) :
    Same K B s0 (State.mk s.pending s.now s.dts s.tempo s.startup s.straps s.resetLow s.rails free' s.dict s.live s.words s.lanes
      s.xc s.sessions s.freeNums s.opened s.txns s.nextTxn s.claims s.hwClaims s.gens s.spiIn s.spiOut s.miso
      s.lastOp s.lastReply s.cands s.timing s.outs s.pps s.aps s.pathProt s.tandem s.gallery s.chans s.dccOut
      s.dccIn s.points s.dayCuts s.tcaLog s.macs s.faults s.banks s.usedBanks s.owners s.retained s.seatObjs
      s.tempoFrom s.tempoHeld s.bases s.scrubFrom s.cvuRuns s.supply s.slacks s.worstFn s.slotCheck s.vault
      s.pins) :=
  ⟨h.pending, h.now, h.dts, h.tempo, h.startup, h.straps, h.resetLow, h.rails, fun k => absurd k (by rw [mask_bit (mask_sub hK rfl)]; exact Bool.noConfusion), h.live, h.words, h.lanes, h.xc, h.sessions, h.freeNums, h.opened, h.txns, h.nextTxn, h.claims, h.hwClaims, h.gens, h.spiIn, h.spiOut, h.miso, h.lastOp, h.lastReply, h.cands, h.timing, h.outs, h.pps, h.aps, h.pathProt, h.tandem, h.gallery, h.chans, h.dccOut, h.dccIn, h.points, h.dayCuts, h.tcaLog, h.macs, h.faults, h.banks, h.usedBanks, h.owners, h.retained, h.seatObjs, h.tempoFrom, h.tempoHeld, h.bases, h.scrubFrom, h.cvuRuns, h.supply, h.slacks, h.worstFn, h.slotCheck, h.vault, h.pins, h.objs⟩

theorem Same.upd_lanes {K B : Nat} {s0 s : State} {lanes' : Map Lane}
    (hK : K &&& 4096 = 0) (h : Same K B s0 s) :
    Same K B s0 (State.mk s.pending s.now s.dts s.tempo s.startup s.straps s.resetLow s.rails s.free s.dict s.live s.words lanes'
      s.xc s.sessions s.freeNums s.opened s.txns s.nextTxn s.claims s.hwClaims s.gens s.spiIn s.spiOut s.miso
      s.lastOp s.lastReply s.cands s.timing s.outs s.pps s.aps s.pathProt s.tandem s.gallery s.chans s.dccOut
      s.dccIn s.points s.dayCuts s.tcaLog s.macs s.faults s.banks s.usedBanks s.owners s.retained s.seatObjs
      s.tempoFrom s.tempoHeld s.bases s.scrubFrom s.cvuRuns s.supply s.slacks s.worstFn s.slotCheck s.vault
      s.pins) :=
  ⟨h.pending, h.now, h.dts, h.tempo, h.startup, h.straps, h.resetLow, h.rails, h.free, h.live, h.words, fun k => absurd k (by rw [mask_bit (mask_sub hK rfl)]; exact Bool.noConfusion), h.xc, h.sessions, h.freeNums, h.opened, h.txns, h.nextTxn, h.claims, h.hwClaims, h.gens, h.spiIn, h.spiOut, h.miso, h.lastOp, h.lastReply, h.cands, h.timing, h.outs, h.pps, h.aps, h.pathProt, h.tandem, h.gallery, h.chans, h.dccOut, h.dccIn, h.points, h.dayCuts, h.tcaLog, h.macs, h.faults, h.banks, h.usedBanks, h.owners, h.retained, h.seatObjs, h.tempoFrom, h.tempoHeld, h.bases, h.scrubFrom, h.cvuRuns, h.supply, h.slacks, h.worstFn, h.slotCheck, h.vault, h.pins, h.objs⟩

theorem Same.upd_cands {K B : Nat} {s0 s : State} {cands' : Map Cand}
    (hK : K &&& 134217728 = 0) (h : Same K B s0 s) :
    Same K B s0 (State.mk s.pending s.now s.dts s.tempo s.startup s.straps s.resetLow s.rails s.free s.dict s.live s.words s.lanes
      s.xc s.sessions s.freeNums s.opened s.txns s.nextTxn s.claims s.hwClaims s.gens s.spiIn s.spiOut s.miso
      s.lastOp s.lastReply cands' s.timing s.outs s.pps s.aps s.pathProt s.tandem s.gallery s.chans s.dccOut
      s.dccIn s.points s.dayCuts s.tcaLog s.macs s.faults s.banks s.usedBanks s.owners s.retained s.seatObjs
      s.tempoFrom s.tempoHeld s.bases s.scrubFrom s.cvuRuns s.supply s.slacks s.worstFn s.slotCheck s.vault
      s.pins) :=
  ⟨h.pending, h.now, h.dts, h.tempo, h.startup, h.straps, h.resetLow, h.rails, h.free, h.live, h.words, h.lanes, h.xc, h.sessions, h.freeNums, h.opened, h.txns, h.nextTxn, h.claims, h.hwClaims, h.gens, h.spiIn, h.spiOut, h.miso, h.lastOp, h.lastReply, fun k => absurd k (by rw [mask_bit (mask_sub hK rfl)]; exact Bool.noConfusion), h.timing, h.outs, h.pps, h.aps, h.pathProt, h.tandem, h.gallery, h.chans, h.dccOut, h.dccIn, h.points, h.dayCuts, h.tcaLog, h.macs, h.faults, h.banks, h.usedBanks, h.owners, h.retained, h.seatObjs, h.tempoFrom, h.tempoHeld, h.bases, h.scrubFrom, h.cvuRuns, h.supply, h.slacks, h.worstFn, h.slotCheck, h.vault, h.pins, h.objs⟩

theorem Same.upd_outs {K B : Nat} {s0 s : State} {outs' : Map Out}
    (hK : K &&& 536870912 = 0) (h : Same K B s0 s) :
    Same K B s0 (State.mk s.pending s.now s.dts s.tempo s.startup s.straps s.resetLow s.rails s.free s.dict s.live s.words s.lanes
      s.xc s.sessions s.freeNums s.opened s.txns s.nextTxn s.claims s.hwClaims s.gens s.spiIn s.spiOut s.miso
      s.lastOp s.lastReply s.cands s.timing outs' s.pps s.aps s.pathProt s.tandem s.gallery s.chans s.dccOut
      s.dccIn s.points s.dayCuts s.tcaLog s.macs s.faults s.banks s.usedBanks s.owners s.retained s.seatObjs
      s.tempoFrom s.tempoHeld s.bases s.scrubFrom s.cvuRuns s.supply s.slacks s.worstFn s.slotCheck s.vault
      s.pins) :=
  ⟨h.pending, h.now, h.dts, h.tempo, h.startup, h.straps, h.resetLow, h.rails, h.free, h.live, h.words, h.lanes, h.xc, h.sessions, h.freeNums, h.opened, h.txns, h.nextTxn, h.claims, h.hwClaims, h.gens, h.spiIn, h.spiOut, h.miso, h.lastOp, h.lastReply, h.cands, h.timing, fun k => absurd k (by rw [mask_bit (mask_sub hK rfl)]; exact Bool.noConfusion), h.pps, h.aps, h.pathProt, h.tandem, h.gallery, h.chans, h.dccOut, h.dccIn, h.points, h.dayCuts, h.tcaLog, h.macs, h.faults, h.banks, h.usedBanks, h.owners, h.retained, h.seatObjs, h.tempoFrom, h.tempoHeld, h.bases, h.scrubFrom, h.cvuRuns, h.supply, h.slacks, h.worstFn, h.slotCheck, h.vault, h.pins, h.objs⟩

theorem Same.upd_aps {K B : Nat} {s0 s : State} {aps' : Map Aps}
    (hK : K &&& 2147483648 = 0) (h : Same K B s0 s) :
    Same K B s0 (State.mk s.pending s.now s.dts s.tempo s.startup s.straps s.resetLow s.rails s.free s.dict s.live s.words s.lanes
      s.xc s.sessions s.freeNums s.opened s.txns s.nextTxn s.claims s.hwClaims s.gens s.spiIn s.spiOut s.miso
      s.lastOp s.lastReply s.cands s.timing s.outs s.pps aps' s.pathProt s.tandem s.gallery s.chans s.dccOut
      s.dccIn s.points s.dayCuts s.tcaLog s.macs s.faults s.banks s.usedBanks s.owners s.retained s.seatObjs
      s.tempoFrom s.tempoHeld s.bases s.scrubFrom s.cvuRuns s.supply s.slacks s.worstFn s.slotCheck s.vault
      s.pins) :=
  ⟨h.pending, h.now, h.dts, h.tempo, h.startup, h.straps, h.resetLow, h.rails, h.free, h.live, h.words, h.lanes, h.xc, h.sessions, h.freeNums, h.opened, h.txns, h.nextTxn, h.claims, h.hwClaims, h.gens, h.spiIn, h.spiOut, h.miso, h.lastOp, h.lastReply, h.cands, h.timing, h.outs, h.pps, fun k => absurd k (by rw [mask_bit (mask_sub hK rfl)]; exact Bool.noConfusion), h.pathProt, h.tandem, h.gallery, h.chans, h.dccOut, h.dccIn, h.points, h.dayCuts, h.tcaLog, h.macs, h.faults, h.banks, h.usedBanks, h.owners, h.retained, h.seatObjs, h.tempoFrom, h.tempoHeld, h.bases, h.scrubFrom, h.cvuRuns, h.supply, h.slacks, h.worstFn, h.slotCheck, h.vault, h.pins, h.objs⟩

theorem Same.upd_pathProt {K B : Nat} {s0 s : State} {pathProt' : Map PathProt}
    (hK : K &&& 4294967296 = 0) (h : Same K B s0 s) :
    Same K B s0 (State.mk s.pending s.now s.dts s.tempo s.startup s.straps s.resetLow s.rails s.free s.dict s.live s.words s.lanes
      s.xc s.sessions s.freeNums s.opened s.txns s.nextTxn s.claims s.hwClaims s.gens s.spiIn s.spiOut s.miso
      s.lastOp s.lastReply s.cands s.timing s.outs s.pps s.aps pathProt' s.tandem s.gallery s.chans s.dccOut
      s.dccIn s.points s.dayCuts s.tcaLog s.macs s.faults s.banks s.usedBanks s.owners s.retained s.seatObjs
      s.tempoFrom s.tempoHeld s.bases s.scrubFrom s.cvuRuns s.supply s.slacks s.worstFn s.slotCheck s.vault
      s.pins) :=
  ⟨h.pending, h.now, h.dts, h.tempo, h.startup, h.straps, h.resetLow, h.rails, h.free, h.live, h.words, h.lanes, h.xc, h.sessions, h.freeNums, h.opened, h.txns, h.nextTxn, h.claims, h.hwClaims, h.gens, h.spiIn, h.spiOut, h.miso, h.lastOp, h.lastReply, h.cands, h.timing, h.outs, h.pps, h.aps, fun k => absurd k (by rw [mask_bit (mask_sub hK rfl)]; exact Bool.noConfusion), h.tandem, h.gallery, h.chans, h.dccOut, h.dccIn, h.points, h.dayCuts, h.tcaLog, h.macs, h.faults, h.banks, h.usedBanks, h.owners, h.retained, h.seatObjs, h.tempoFrom, h.tempoHeld, h.bases, h.scrubFrom, h.cvuRuns, h.supply, h.slacks, h.worstFn, h.slotCheck, h.vault, h.pins, h.objs⟩

theorem Same.upd_chans {K B : Nat} {s0 s : State} {chans' : Map Chan}
    (hK : K &&& 34359738368 = 0) (h : Same K B s0 s) :
    Same K B s0 (State.mk s.pending s.now s.dts s.tempo s.startup s.straps s.resetLow s.rails s.free s.dict s.live s.words s.lanes
      s.xc s.sessions s.freeNums s.opened s.txns s.nextTxn s.claims s.hwClaims s.gens s.spiIn s.spiOut s.miso
      s.lastOp s.lastReply s.cands s.timing s.outs s.pps s.aps s.pathProt s.tandem s.gallery chans' s.dccOut
      s.dccIn s.points s.dayCuts s.tcaLog s.macs s.faults s.banks s.usedBanks s.owners s.retained s.seatObjs
      s.tempoFrom s.tempoHeld s.bases s.scrubFrom s.cvuRuns s.supply s.slacks s.worstFn s.slotCheck s.vault
      s.pins) :=
  ⟨h.pending, h.now, h.dts, h.tempo, h.startup, h.straps, h.resetLow, h.rails, h.free, h.live, h.words, h.lanes, h.xc, h.sessions, h.freeNums, h.opened, h.txns, h.nextTxn, h.claims, h.hwClaims, h.gens, h.spiIn, h.spiOut, h.miso, h.lastOp, h.lastReply, h.cands, h.timing, h.outs, h.pps, h.aps, h.pathProt, h.tandem, h.gallery, fun k => absurd k (by rw [mask_bit (mask_sub hK rfl)]; exact Bool.noConfusion), h.dccOut, h.dccIn, h.points, h.dayCuts, h.tcaLog, h.macs, h.faults, h.banks, h.usedBanks, h.owners, h.retained, h.seatObjs, h.tempoFrom, h.tempoHeld, h.bases, h.scrubFrom, h.cvuRuns, h.supply, h.slacks, h.worstFn, h.slotCheck, h.vault, h.pins, h.objs⟩

theorem Same.upd_points {K B : Nat} {s0 s : State} {points' : Map Point}
    (hK : K &&& 274877906944 = 0) (h : Same K B s0 s) :
    Same K B s0 (State.mk s.pending s.now s.dts s.tempo s.startup s.straps s.resetLow s.rails s.free s.dict s.live s.words s.lanes
      s.xc s.sessions s.freeNums s.opened s.txns s.nextTxn s.claims s.hwClaims s.gens s.spiIn s.spiOut s.miso
      s.lastOp s.lastReply s.cands s.timing s.outs s.pps s.aps s.pathProt s.tandem s.gallery s.chans s.dccOut
      s.dccIn points' s.dayCuts s.tcaLog s.macs s.faults s.banks s.usedBanks s.owners s.retained s.seatObjs
      s.tempoFrom s.tempoHeld s.bases s.scrubFrom s.cvuRuns s.supply s.slacks s.worstFn s.slotCheck s.vault
      s.pins) :=
  ⟨h.pending, h.now, h.dts, h.tempo, h.startup, h.straps, h.resetLow, h.rails, h.free, h.live, h.words, h.lanes, h.xc, h.sessions, h.freeNums, h.opened, h.txns, h.nextTxn, h.claims, h.hwClaims, h.gens, h.spiIn, h.spiOut, h.miso, h.lastOp, h.lastReply, h.cands, h.timing, h.outs, h.pps, h.aps, h.pathProt, h.tandem, h.gallery, h.chans, h.dccOut, h.dccIn, fun k => absurd k (by rw [mask_bit (mask_sub hK rfl)]; exact Bool.noConfusion), h.dayCuts, h.tcaLog, h.macs, h.faults, h.banks, h.usedBanks, h.owners, h.retained, h.seatObjs, h.tempoFrom, h.tempoHeld, h.bases, h.scrubFrom, h.cvuRuns, h.supply, h.slacks, h.worstFn, h.slotCheck, h.vault, h.pins, h.objs⟩

theorem Same.upd_macs {K B : Nat} {s0 s : State} {macs' : Map Mac}
    (hK : K &&& 2199023255552 = 0) (h : Same K B s0 s) :
    Same K B s0 (State.mk s.pending s.now s.dts s.tempo s.startup s.straps s.resetLow s.rails s.free s.dict s.live s.words s.lanes
      s.xc s.sessions s.freeNums s.opened s.txns s.nextTxn s.claims s.hwClaims s.gens s.spiIn s.spiOut s.miso
      s.lastOp s.lastReply s.cands s.timing s.outs s.pps s.aps s.pathProt s.tandem s.gallery s.chans s.dccOut
      s.dccIn s.points s.dayCuts s.tcaLog macs' s.faults s.banks s.usedBanks s.owners s.retained s.seatObjs
      s.tempoFrom s.tempoHeld s.bases s.scrubFrom s.cvuRuns s.supply s.slacks s.worstFn s.slotCheck s.vault
      s.pins) :=
  ⟨h.pending, h.now, h.dts, h.tempo, h.startup, h.straps, h.resetLow, h.rails, h.free, h.live, h.words, h.lanes, h.xc, h.sessions, h.freeNums, h.opened, h.txns, h.nextTxn, h.claims, h.hwClaims, h.gens, h.spiIn, h.spiOut, h.miso, h.lastOp, h.lastReply, h.cands, h.timing, h.outs, h.pps, h.aps, h.pathProt, h.tandem, h.gallery, h.chans, h.dccOut, h.dccIn, h.points, h.dayCuts, h.tcaLog, fun k => absurd k (by rw [mask_bit (mask_sub hK rfl)]; exact Bool.noConfusion), h.faults, h.banks, h.usedBanks, h.owners, h.retained, h.seatObjs, h.tempoFrom, h.tempoHeld, h.bases, h.scrubFrom, h.cvuRuns, h.supply, h.slacks, h.worstFn, h.slotCheck, h.vault, h.pins, h.objs⟩

theorem Same.upd_pins {K B : Nat} {s0 s : State} {pins' : Map Pin}
    (hK : K &&& 288230376151711744 = 0) (h : Same K B s0 s) :
    Same K B s0 (State.mk s.pending s.now s.dts s.tempo s.startup s.straps s.resetLow s.rails s.free s.dict s.live s.words s.lanes
      s.xc s.sessions s.freeNums s.opened s.txns s.nextTxn s.claims s.hwClaims s.gens s.spiIn s.spiOut s.miso
      s.lastOp s.lastReply s.cands s.timing s.outs s.pps s.aps s.pathProt s.tandem s.gallery s.chans s.dccOut
      s.dccIn s.points s.dayCuts s.tcaLog s.macs s.faults s.banks s.usedBanks s.owners s.retained s.seatObjs
      s.tempoFrom s.tempoHeld s.bases s.scrubFrom s.cvuRuns s.supply s.slacks s.worstFn s.slotCheck s.vault
      pins') :=
  ⟨h.pending, h.now, h.dts, h.tempo, h.startup, h.straps, h.resetLow, h.rails, h.free, h.live, h.words, h.lanes, h.xc, h.sessions, h.freeNums, h.opened, h.txns, h.nextTxn, h.claims, h.hwClaims, h.gens, h.spiIn, h.spiOut, h.miso, h.lastOp, h.lastReply, h.cands, h.timing, h.outs, h.pps, h.aps, h.pathProt, h.tandem, h.gallery, h.chans, h.dccOut, h.dccIn, h.points, h.dayCuts, h.tcaLog, h.macs, h.faults, h.banks, h.usedBanks, h.owners, h.retained, h.seatObjs, h.tempoFrom, h.tempoHeld, h.bases, h.scrubFrom, h.cvuRuns, h.supply, h.slacks, h.worstFn, h.slotCheck, h.vault, fun k => absurd k (by rw [mask_bit (mask_sub hK rfl)]; exact Bool.noConfusion), h.objs⟩

theorem Same.upd_sessions {K B : Nat} {s0 s : State} {sessions' : List Session}
    (hK : K &&& 16384 = 0) (h : Same K B s0 s) :
    Same K B s0 (State.mk s.pending s.now s.dts s.tempo s.startup s.straps s.resetLow s.rails s.free s.dict s.live s.words s.lanes
      s.xc sessions' s.freeNums s.opened s.txns s.nextTxn s.claims s.hwClaims s.gens s.spiIn s.spiOut s.miso
      s.lastOp s.lastReply s.cands s.timing s.outs s.pps s.aps s.pathProt s.tandem s.gallery s.chans s.dccOut
      s.dccIn s.points s.dayCuts s.tcaLog s.macs s.faults s.banks s.usedBanks s.owners s.retained s.seatObjs
      s.tempoFrom s.tempoHeld s.bases s.scrubFrom s.cvuRuns s.supply s.slacks s.worstFn s.slotCheck s.vault
      s.pins) :=
  ⟨h.pending, h.now, h.dts, h.tempo, h.startup, h.straps, h.resetLow, h.rails, h.free, h.live, h.words, h.lanes, h.xc, fun k => absurd k (by rw [mask_bit (mask_sub hK rfl)]; exact Bool.noConfusion), h.freeNums, h.opened, h.txns, h.nextTxn, h.claims, h.hwClaims, h.gens, h.spiIn, h.spiOut, h.miso, h.lastOp, h.lastReply, h.cands, h.timing, h.outs, h.pps, h.aps, h.pathProt, h.tandem, h.gallery, h.chans, h.dccOut, h.dccIn, h.points, h.dayCuts, h.tcaLog, h.macs, h.faults, h.banks, h.usedBanks, h.owners, h.retained, h.seatObjs, h.tempoFrom, h.tempoHeld, h.bases, h.scrubFrom, h.cvuRuns, h.supply, h.slacks, h.worstFn, h.slotCheck, h.vault, h.pins, h.objs⟩

theorem Same.upd_words {K B : Nat} {s0 s : State} {words' : Map Word}
    (hK : K &&& 2048 = 0) (h : Same K B s0 s) :
    Same K B s0 (State.mk s.pending s.now s.dts s.tempo s.startup s.straps s.resetLow s.rails s.free s.dict s.live words' s.lanes
      s.xc s.sessions s.freeNums s.opened s.txns s.nextTxn s.claims s.hwClaims s.gens s.spiIn s.spiOut s.miso
      s.lastOp s.lastReply s.cands s.timing s.outs s.pps s.aps s.pathProt s.tandem s.gallery s.chans s.dccOut
      s.dccIn s.points s.dayCuts s.tcaLog s.macs s.faults s.banks s.usedBanks s.owners s.retained s.seatObjs
      s.tempoFrom s.tempoHeld s.bases s.scrubFrom s.cvuRuns s.supply s.slacks s.worstFn s.slotCheck s.vault
      s.pins) :=
  ⟨h.pending, h.now, h.dts, h.tempo, h.startup, h.straps, h.resetLow, h.rails, h.free, h.live, fun k => absurd k (by rw [mask_bit (mask_sub hK rfl)]; exact Bool.noConfusion), h.lanes, h.xc, h.sessions, h.freeNums, h.opened, h.txns, h.nextTxn, h.claims, h.hwClaims, h.gens, h.spiIn, h.spiOut, h.miso, h.lastOp, h.lastReply, h.cands, h.timing, h.outs, h.pps, h.aps, h.pathProt, h.tandem, h.gallery, h.chans, h.dccOut, h.dccIn, h.points, h.dayCuts, h.tcaLog, h.macs, h.faults, h.banks, h.usedBanks, h.owners, h.retained, h.seatObjs, h.tempoFrom, h.tempoHeld, h.bases, h.scrubFrom, h.cvuRuns, h.supply, h.slacks, h.worstFn, h.slotCheck, h.vault, h.pins, h.objs⟩

theorem Same.upd_xc {K B : Nat} {s0 s : State} {xc' : Xc}
    (hK : K &&& 8192 = 0) (h : Same K B s0 s) :
    Same K B s0 (State.mk s.pending s.now s.dts s.tempo s.startup s.straps s.resetLow s.rails s.free s.dict s.live s.words s.lanes
      xc' s.sessions s.freeNums s.opened s.txns s.nextTxn s.claims s.hwClaims s.gens s.spiIn s.spiOut s.miso
      s.lastOp s.lastReply s.cands s.timing s.outs s.pps s.aps s.pathProt s.tandem s.gallery s.chans s.dccOut
      s.dccIn s.points s.dayCuts s.tcaLog s.macs s.faults s.banks s.usedBanks s.owners s.retained s.seatObjs
      s.tempoFrom s.tempoHeld s.bases s.scrubFrom s.cvuRuns s.supply s.slacks s.worstFn s.slotCheck s.vault
      s.pins) :=
  ⟨h.pending, h.now, h.dts, h.tempo, h.startup, h.straps, h.resetLow, h.rails, h.free, h.live, h.words, h.lanes, fun k => absurd k (by rw [mask_bit (mask_sub hK rfl)]; exact Bool.noConfusion), h.sessions, h.freeNums, h.opened, h.txns, h.nextTxn, h.claims, h.hwClaims, h.gens, h.spiIn, h.spiOut, h.miso, h.lastOp, h.lastReply, h.cands, h.timing, h.outs, h.pps, h.aps, h.pathProt, h.tandem, h.gallery, h.chans, h.dccOut, h.dccIn, h.points, h.dayCuts, h.tcaLog, h.macs, h.faults, h.banks, h.usedBanks, h.owners, h.retained, h.seatObjs, h.tempoFrom, h.tempoHeld, h.bases, h.scrubFrom, h.cvuRuns, h.supply, h.slacks, h.worstFn, h.slotCheck, h.vault, h.pins, h.objs⟩

theorem Same.upd_claims {K B : Nat} {s0 s : State} {claims' : Map Claim}
    (hK : K &&& 524288 = 0) (h : Same K B s0 s) :
    Same K B s0 (State.mk s.pending s.now s.dts s.tempo s.startup s.straps s.resetLow s.rails s.free s.dict s.live s.words s.lanes
      s.xc s.sessions s.freeNums s.opened s.txns s.nextTxn claims' s.hwClaims s.gens s.spiIn s.spiOut s.miso
      s.lastOp s.lastReply s.cands s.timing s.outs s.pps s.aps s.pathProt s.tandem s.gallery s.chans s.dccOut
      s.dccIn s.points s.dayCuts s.tcaLog s.macs s.faults s.banks s.usedBanks s.owners s.retained s.seatObjs
      s.tempoFrom s.tempoHeld s.bases s.scrubFrom s.cvuRuns s.supply s.slacks s.worstFn s.slotCheck s.vault
      s.pins) :=
  ⟨h.pending, h.now, h.dts, h.tempo, h.startup, h.straps, h.resetLow, h.rails, h.free, h.live, h.words, h.lanes, h.xc, h.sessions, h.freeNums, h.opened, h.txns, h.nextTxn, fun k => absurd k (by rw [mask_bit (mask_sub hK rfl)]; exact Bool.noConfusion), h.hwClaims, h.gens, h.spiIn, h.spiOut, h.miso, h.lastOp, h.lastReply, h.cands, h.timing, h.outs, h.pps, h.aps, h.pathProt, h.tandem, h.gallery, h.chans, h.dccOut, h.dccIn, h.points, h.dayCuts, h.tcaLog, h.macs, h.faults, h.banks, h.usedBanks, h.owners, h.retained, h.seatObjs, h.tempoFrom, h.tempoHeld, h.bases, h.scrubFrom, h.cvuRuns, h.supply, h.slacks, h.worstFn, h.slotCheck, h.vault, h.pins, h.objs⟩

theorem Same.upd_hwClaims {K B : Nat} {s0 s : State} {hwClaims' : Map Claim}
    (hK : K &&& 1048576 = 0) (h : Same K B s0 s) :
    Same K B s0 (State.mk s.pending s.now s.dts s.tempo s.startup s.straps s.resetLow s.rails s.free s.dict s.live s.words s.lanes
      s.xc s.sessions s.freeNums s.opened s.txns s.nextTxn s.claims hwClaims' s.gens s.spiIn s.spiOut s.miso
      s.lastOp s.lastReply s.cands s.timing s.outs s.pps s.aps s.pathProt s.tandem s.gallery s.chans s.dccOut
      s.dccIn s.points s.dayCuts s.tcaLog s.macs s.faults s.banks s.usedBanks s.owners s.retained s.seatObjs
      s.tempoFrom s.tempoHeld s.bases s.scrubFrom s.cvuRuns s.supply s.slacks s.worstFn s.slotCheck s.vault
      s.pins) :=
  ⟨h.pending, h.now, h.dts, h.tempo, h.startup, h.straps, h.resetLow, h.rails, h.free, h.live, h.words, h.lanes, h.xc, h.sessions, h.freeNums, h.opened, h.txns, h.nextTxn, h.claims, fun k => absurd k (by rw [mask_bit (mask_sub hK rfl)]; exact Bool.noConfusion), h.gens, h.spiIn, h.spiOut, h.miso, h.lastOp, h.lastReply, h.cands, h.timing, h.outs, h.pps, h.aps, h.pathProt, h.tandem, h.gallery, h.chans, h.dccOut, h.dccIn, h.points, h.dayCuts, h.tcaLog, h.macs, h.faults, h.banks, h.usedBanks, h.owners, h.retained, h.seatObjs, h.tempoFrom, h.tempoHeld, h.bases, h.scrubFrom, h.cvuRuns, h.supply, h.slacks, h.worstFn, h.slotCheck, h.vault, h.pins, h.objs⟩

theorem Same.upd_txns {K B : Nat} {s0 s : State} {txns' : List Txn}
    (hK : K &&& 131072 = 0) (h : Same K B s0 s) :
    Same K B s0 (State.mk s.pending s.now s.dts s.tempo s.startup s.straps s.resetLow s.rails s.free s.dict s.live s.words s.lanes
      s.xc s.sessions s.freeNums s.opened txns' s.nextTxn s.claims s.hwClaims s.gens s.spiIn s.spiOut s.miso
      s.lastOp s.lastReply s.cands s.timing s.outs s.pps s.aps s.pathProt s.tandem s.gallery s.chans s.dccOut
      s.dccIn s.points s.dayCuts s.tcaLog s.macs s.faults s.banks s.usedBanks s.owners s.retained s.seatObjs
      s.tempoFrom s.tempoHeld s.bases s.scrubFrom s.cvuRuns s.supply s.slacks s.worstFn s.slotCheck s.vault
      s.pins) :=
  ⟨h.pending, h.now, h.dts, h.tempo, h.startup, h.straps, h.resetLow, h.rails, h.free, h.live, h.words, h.lanes, h.xc, h.sessions, h.freeNums, h.opened, fun k => absurd k (by rw [mask_bit (mask_sub hK rfl)]; exact Bool.noConfusion), h.nextTxn, h.claims, h.hwClaims, h.gens, h.spiIn, h.spiOut, h.miso, h.lastOp, h.lastReply, h.cands, h.timing, h.outs, h.pps, h.aps, h.pathProt, h.tandem, h.gallery, h.chans, h.dccOut, h.dccIn, h.points, h.dayCuts, h.tcaLog, h.macs, h.faults, h.banks, h.usedBanks, h.owners, h.retained, h.seatObjs, h.tempoFrom, h.tempoHeld, h.bases, h.scrubFrom, h.cvuRuns, h.supply, h.slacks, h.worstFn, h.slotCheck, h.vault, h.pins, h.objs⟩

theorem Same.upd_claims_hwClaims_gens {K B : Nat} {s0 s : State} {claims' : Map Claim} {hwClaims' : Map Claim} {gens' : Map Nat}
    (hK : K &&& 3670016 = 0) (h : Same K B s0 s) :
    Same K B s0 (State.mk s.pending s.now s.dts s.tempo s.startup s.straps s.resetLow s.rails s.free s.dict s.live s.words s.lanes
      s.xc s.sessions s.freeNums s.opened s.txns s.nextTxn claims' hwClaims' gens' s.spiIn s.spiOut s.miso
      s.lastOp s.lastReply s.cands s.timing s.outs s.pps s.aps s.pathProt s.tandem s.gallery s.chans s.dccOut
      s.dccIn s.points s.dayCuts s.tcaLog s.macs s.faults s.banks s.usedBanks s.owners s.retained s.seatObjs
      s.tempoFrom s.tempoHeld s.bases s.scrubFrom s.cvuRuns s.supply s.slacks s.worstFn s.slotCheck s.vault
      s.pins) :=
  ⟨h.pending, h.now, h.dts, h.tempo, h.startup, h.straps, h.resetLow, h.rails, h.free, h.live, h.words, h.lanes, h.xc, h.sessions, h.freeNums, h.opened, h.txns, h.nextTxn, fun k => absurd k (by rw [mask_bit (mask_sub hK rfl)]; exact Bool.noConfusion), fun k => absurd k (by rw [mask_bit (mask_sub hK rfl)]; exact Bool.noConfusion), fun k => absurd k (by rw [mask_bit (mask_sub hK rfl)]; exact Bool.noConfusion), h.spiIn, h.spiOut, h.miso, h.lastOp, h.lastReply, h.cands, h.timing, h.outs, h.pps, h.aps, h.pathProt, h.tandem, h.gallery, h.chans, h.dccOut, h.dccIn, h.points, h.dayCuts, h.tcaLog, h.macs, h.faults, h.banks, h.usedBanks, h.owners, h.retained, h.seatObjs, h.tempoFrom, h.tempoHeld, h.bases, h.scrubFrom, h.cvuRuns, h.supply, h.slacks, h.worstFn, h.slotCheck, h.vault, h.pins, h.objs⟩

theorem Same.upd_lastOp {K B : Nat} {s0 s : State} {lastOp' : OpResult}
    (hK : K &&& 33554432 = 0) (h : Same K B s0 s) :
    Same K B s0 (State.mk s.pending s.now s.dts s.tempo s.startup s.straps s.resetLow s.rails s.free s.dict s.live s.words s.lanes
      s.xc s.sessions s.freeNums s.opened s.txns s.nextTxn s.claims s.hwClaims s.gens s.spiIn s.spiOut s.miso
      lastOp' s.lastReply s.cands s.timing s.outs s.pps s.aps s.pathProt s.tandem s.gallery s.chans s.dccOut
      s.dccIn s.points s.dayCuts s.tcaLog s.macs s.faults s.banks s.usedBanks s.owners s.retained s.seatObjs
      s.tempoFrom s.tempoHeld s.bases s.scrubFrom s.cvuRuns s.supply s.slacks s.worstFn s.slotCheck s.vault
      s.pins) :=
  ⟨h.pending, h.now, h.dts, h.tempo, h.startup, h.straps, h.resetLow, h.rails, h.free, h.live, h.words, h.lanes, h.xc, h.sessions, h.freeNums, h.opened, h.txns, h.nextTxn, h.claims, h.hwClaims, h.gens, h.spiIn, h.spiOut, h.miso, fun k => absurd k (by rw [mask_bit (mask_sub hK rfl)]; exact Bool.noConfusion), h.lastReply, h.cands, h.timing, h.outs, h.pps, h.aps, h.pathProt, h.tandem, h.gallery, h.chans, h.dccOut, h.dccIn, h.points, h.dayCuts, h.tcaLog, h.macs, h.faults, h.banks, h.usedBanks, h.owners, h.retained, h.seatObjs, h.tempoFrom, h.tempoHeld, h.bases, h.scrubFrom, h.cvuRuns, h.supply, h.slacks, h.worstFn, h.slotCheck, h.vault, h.pins, h.objs⟩

theorem Same.upd_dccIn {K B : Nat} {s0 s : State} {dccIn' : List (List Byte)}
    (hK : K &&& 137438953472 = 0) (h : Same K B s0 s) :
    Same K B s0 (State.mk s.pending s.now s.dts s.tempo s.startup s.straps s.resetLow s.rails s.free s.dict s.live s.words s.lanes
      s.xc s.sessions s.freeNums s.opened s.txns s.nextTxn s.claims s.hwClaims s.gens s.spiIn s.spiOut s.miso
      s.lastOp s.lastReply s.cands s.timing s.outs s.pps s.aps s.pathProt s.tandem s.gallery s.chans s.dccOut
      dccIn' s.points s.dayCuts s.tcaLog s.macs s.faults s.banks s.usedBanks s.owners s.retained s.seatObjs
      s.tempoFrom s.tempoHeld s.bases s.scrubFrom s.cvuRuns s.supply s.slacks s.worstFn s.slotCheck s.vault
      s.pins) :=
  ⟨h.pending, h.now, h.dts, h.tempo, h.startup, h.straps, h.resetLow, h.rails, h.free, h.live, h.words, h.lanes, h.xc, h.sessions, h.freeNums, h.opened, h.txns, h.nextTxn, h.claims, h.hwClaims, h.gens, h.spiIn, h.spiOut, h.miso, h.lastOp, h.lastReply, h.cands, h.timing, h.outs, h.pps, h.aps, h.pathProt, h.tandem, h.gallery, h.chans, h.dccOut, fun k => absurd k (by rw [mask_bit (mask_sub hK rfl)]; exact Bool.noConfusion), h.points, h.dayCuts, h.tcaLog, h.macs, h.faults, h.banks, h.usedBanks, h.owners, h.retained, h.seatObjs, h.tempoFrom, h.tempoHeld, h.bases, h.scrubFrom, h.cvuRuns, h.supply, h.slacks, h.worstFn, h.slotCheck, h.vault, h.pins, h.objs⟩

theorem Same.upd_dccOut {K B : Nat} {s0 s : State} {dccOut' : Map (List Byte)}
    (hK : K &&& 68719476736 = 0) (h : Same K B s0 s) :
    Same K B s0 (State.mk s.pending s.now s.dts s.tempo s.startup s.straps s.resetLow s.rails s.free s.dict s.live s.words s.lanes
      s.xc s.sessions s.freeNums s.opened s.txns s.nextTxn s.claims s.hwClaims s.gens s.spiIn s.spiOut s.miso
      s.lastOp s.lastReply s.cands s.timing s.outs s.pps s.aps s.pathProt s.tandem s.gallery s.chans dccOut'
      s.dccIn s.points s.dayCuts s.tcaLog s.macs s.faults s.banks s.usedBanks s.owners s.retained s.seatObjs
      s.tempoFrom s.tempoHeld s.bases s.scrubFrom s.cvuRuns s.supply s.slacks s.worstFn s.slotCheck s.vault
      s.pins) :=
  ⟨h.pending, h.now, h.dts, h.tempo, h.startup, h.straps, h.resetLow, h.rails, h.free, h.live, h.words, h.lanes, h.xc, h.sessions, h.freeNums, h.opened, h.txns, h.nextTxn, h.claims, h.hwClaims, h.gens, h.spiIn, h.spiOut, h.miso, h.lastOp, h.lastReply, h.cands, h.timing, h.outs, h.pps, h.aps, h.pathProt, h.tandem, h.gallery, h.chans, fun k => absurd k (by rw [mask_bit (mask_sub hK rfl)]; exact Bool.noConfusion), h.dccIn, h.points, h.dayCuts, h.tcaLog, h.macs, h.faults, h.banks, h.usedBanks, h.owners, h.retained, h.seatObjs, h.tempoFrom, h.tempoHeld, h.bases, h.scrubFrom, h.cvuRuns, h.supply, h.slacks, h.worstFn, h.slotCheck, h.vault, h.pins, h.objs⟩

theorem Same.upd_spiOut {K B : Nat} {s0 s : State} {spiOut' : List Reply}
    (hK : K &&& 8388608 = 0) (h : Same K B s0 s) :
    Same K B s0 (State.mk s.pending s.now s.dts s.tempo s.startup s.straps s.resetLow s.rails s.free s.dict s.live s.words s.lanes
      s.xc s.sessions s.freeNums s.opened s.txns s.nextTxn s.claims s.hwClaims s.gens s.spiIn spiOut' s.miso
      s.lastOp s.lastReply s.cands s.timing s.outs s.pps s.aps s.pathProt s.tandem s.gallery s.chans s.dccOut
      s.dccIn s.points s.dayCuts s.tcaLog s.macs s.faults s.banks s.usedBanks s.owners s.retained s.seatObjs
      s.tempoFrom s.tempoHeld s.bases s.scrubFrom s.cvuRuns s.supply s.slacks s.worstFn s.slotCheck s.vault
      s.pins) :=
  ⟨h.pending, h.now, h.dts, h.tempo, h.startup, h.straps, h.resetLow, h.rails, h.free, h.live, h.words, h.lanes, h.xc, h.sessions, h.freeNums, h.opened, h.txns, h.nextTxn, h.claims, h.hwClaims, h.gens, h.spiIn, fun k => absurd k (by rw [mask_bit (mask_sub hK rfl)]; exact Bool.noConfusion), h.miso, h.lastOp, h.lastReply, h.cands, h.timing, h.outs, h.pps, h.aps, h.pathProt, h.tandem, h.gallery, h.chans, h.dccOut, h.dccIn, h.points, h.dayCuts, h.tcaLog, h.macs, h.faults, h.banks, h.usedBanks, h.owners, h.retained, h.seatObjs, h.tempoFrom, h.tempoHeld, h.bases, h.scrubFrom, h.cvuRuns, h.supply, h.slacks, h.worstFn, h.slotCheck, h.vault, h.pins, h.objs⟩

theorem Same.upd_slotCheck {K B : Nat} {s0 s : State} {slotCheck' : SlotCheck}
    (hK : K &&& 72057594037927936 = 0) (h : Same K B s0 s) :
    Same K B s0 (State.mk s.pending s.now s.dts s.tempo s.startup s.straps s.resetLow s.rails s.free s.dict s.live s.words s.lanes
      s.xc s.sessions s.freeNums s.opened s.txns s.nextTxn s.claims s.hwClaims s.gens s.spiIn s.spiOut s.miso
      s.lastOp s.lastReply s.cands s.timing s.outs s.pps s.aps s.pathProt s.tandem s.gallery s.chans s.dccOut
      s.dccIn s.points s.dayCuts s.tcaLog s.macs s.faults s.banks s.usedBanks s.owners s.retained s.seatObjs
      s.tempoFrom s.tempoHeld s.bases s.scrubFrom s.cvuRuns s.supply s.slacks s.worstFn slotCheck' s.vault
      s.pins) :=
  ⟨h.pending, h.now, h.dts, h.tempo, h.startup, h.straps, h.resetLow, h.rails, h.free, h.live, h.words, h.lanes, h.xc, h.sessions, h.freeNums, h.opened, h.txns, h.nextTxn, h.claims, h.hwClaims, h.gens, h.spiIn, h.spiOut, h.miso, h.lastOp, h.lastReply, h.cands, h.timing, h.outs, h.pps, h.aps, h.pathProt, h.tandem, h.gallery, h.chans, h.dccOut, h.dccIn, h.points, h.dayCuts, h.tcaLog, h.macs, h.faults, h.banks, h.usedBanks, h.owners, h.retained, h.seatObjs, h.tempoFrom, h.tempoHeld, h.bases, h.scrubFrom, h.cvuRuns, h.supply, h.slacks, h.worstFn, fun k => absurd k (by rw [mask_bit (mask_sub hK rfl)]; exact Bool.noConfusion), h.vault, h.pins, h.objs⟩

theorem Same.upd_tcaLog {K B : Nat} {s0 s : State} {tcaLog' : List (Word × Word)}
    (hK : K &&& 1099511627776 = 0) (h : Same K B s0 s) :
    Same K B s0 (State.mk s.pending s.now s.dts s.tempo s.startup s.straps s.resetLow s.rails s.free s.dict s.live s.words s.lanes
      s.xc s.sessions s.freeNums s.opened s.txns s.nextTxn s.claims s.hwClaims s.gens s.spiIn s.spiOut s.miso
      s.lastOp s.lastReply s.cands s.timing s.outs s.pps s.aps s.pathProt s.tandem s.gallery s.chans s.dccOut
      s.dccIn s.points s.dayCuts tcaLog' s.macs s.faults s.banks s.usedBanks s.owners s.retained s.seatObjs
      s.tempoFrom s.tempoHeld s.bases s.scrubFrom s.cvuRuns s.supply s.slacks s.worstFn s.slotCheck s.vault
      s.pins) :=
  ⟨h.pending, h.now, h.dts, h.tempo, h.startup, h.straps, h.resetLow, h.rails, h.free, h.live, h.words, h.lanes, h.xc, h.sessions, h.freeNums, h.opened, h.txns, h.nextTxn, h.claims, h.hwClaims, h.gens, h.spiIn, h.spiOut, h.miso, h.lastOp, h.lastReply, h.cands, h.timing, h.outs, h.pps, h.aps, h.pathProt, h.tandem, h.gallery, h.chans, h.dccOut, h.dccIn, h.points, h.dayCuts, fun k => absurd k (by rw [mask_bit (mask_sub hK rfl)]; exact Bool.noConfusion), h.macs, h.faults, h.banks, h.usedBanks, h.owners, h.retained, h.seatObjs, h.tempoFrom, h.tempoHeld, h.bases, h.scrubFrom, h.cvuRuns, h.supply, h.slacks, h.worstFn, h.slotCheck, h.vault, h.pins, h.objs⟩

theorem Same.upd_dayCuts {K B : Nat} {s0 s : State} {dayCuts' : List (Nat × Nat)}
    (hK : K &&& 549755813888 = 0) (h : Same K B s0 s) :
    Same K B s0 (State.mk s.pending s.now s.dts s.tempo s.startup s.straps s.resetLow s.rails s.free s.dict s.live s.words s.lanes
      s.xc s.sessions s.freeNums s.opened s.txns s.nextTxn s.claims s.hwClaims s.gens s.spiIn s.spiOut s.miso
      s.lastOp s.lastReply s.cands s.timing s.outs s.pps s.aps s.pathProt s.tandem s.gallery s.chans s.dccOut
      s.dccIn s.points dayCuts' s.tcaLog s.macs s.faults s.banks s.usedBanks s.owners s.retained s.seatObjs
      s.tempoFrom s.tempoHeld s.bases s.scrubFrom s.cvuRuns s.supply s.slacks s.worstFn s.slotCheck s.vault
      s.pins) :=
  ⟨h.pending, h.now, h.dts, h.tempo, h.startup, h.straps, h.resetLow, h.rails, h.free, h.live, h.words, h.lanes, h.xc, h.sessions, h.freeNums, h.opened, h.txns, h.nextTxn, h.claims, h.hwClaims, h.gens, h.spiIn, h.spiOut, h.miso, h.lastOp, h.lastReply, h.cands, h.timing, h.outs, h.pps, h.aps, h.pathProt, h.tandem, h.gallery, h.chans, h.dccOut, h.dccIn, h.points, fun k => absurd k (by rw [mask_bit (mask_sub hK rfl)]; exact Bool.noConfusion), h.tcaLog, h.macs, h.faults, h.banks, h.usedBanks, h.owners, h.retained, h.seatObjs, h.tempoFrom, h.tempoHeld, h.bases, h.scrubFrom, h.cvuRuns, h.supply, h.slacks, h.worstFn, h.slotCheck, h.vault, h.pins, h.objs⟩

theorem Same.upd_points_dayCuts {K B : Nat} {s0 s : State} {points' : Map Point} {dayCuts' : List (Nat × Nat)}
    (hK : K &&& 824633720832 = 0) (h : Same K B s0 s) :
    Same K B s0 (State.mk s.pending s.now s.dts s.tempo s.startup s.straps s.resetLow s.rails s.free s.dict s.live s.words s.lanes
      s.xc s.sessions s.freeNums s.opened s.txns s.nextTxn s.claims s.hwClaims s.gens s.spiIn s.spiOut s.miso
      s.lastOp s.lastReply s.cands s.timing s.outs s.pps s.aps s.pathProt s.tandem s.gallery s.chans s.dccOut
      s.dccIn points' dayCuts' s.tcaLog s.macs s.faults s.banks s.usedBanks s.owners s.retained s.seatObjs
      s.tempoFrom s.tempoHeld s.bases s.scrubFrom s.cvuRuns s.supply s.slacks s.worstFn s.slotCheck s.vault
      s.pins) :=
  ⟨h.pending, h.now, h.dts, h.tempo, h.startup, h.straps, h.resetLow, h.rails, h.free, h.live, h.words, h.lanes, h.xc, h.sessions, h.freeNums, h.opened, h.txns, h.nextTxn, h.claims, h.hwClaims, h.gens, h.spiIn, h.spiOut, h.miso, h.lastOp, h.lastReply, h.cands, h.timing, h.outs, h.pps, h.aps, h.pathProt, h.tandem, h.gallery, h.chans, h.dccOut, h.dccIn, fun k => absurd k (by rw [mask_bit (mask_sub hK rfl)]; exact Bool.noConfusion), fun k => absurd k (by rw [mask_bit (mask_sub hK rfl)]; exact Bool.noConfusion), h.tcaLog, h.macs, h.faults, h.banks, h.usedBanks, h.owners, h.retained, h.seatObjs, h.tempoFrom, h.tempoHeld, h.bases, h.scrubFrom, h.cvuRuns, h.supply, h.slacks, h.worstFn, h.slotCheck, h.vault, h.pins, h.objs⟩

theorem Same.upd_pps {K B : Nat} {s0 s : State} {pps' : Map Pulse}
    (hK : K &&& 1073741824 = 0) (h : Same K B s0 s) :
    Same K B s0 (State.mk s.pending s.now s.dts s.tempo s.startup s.straps s.resetLow s.rails s.free s.dict s.live s.words s.lanes
      s.xc s.sessions s.freeNums s.opened s.txns s.nextTxn s.claims s.hwClaims s.gens s.spiIn s.spiOut s.miso
      s.lastOp s.lastReply s.cands s.timing s.outs pps' s.aps s.pathProt s.tandem s.gallery s.chans s.dccOut
      s.dccIn s.points s.dayCuts s.tcaLog s.macs s.faults s.banks s.usedBanks s.owners s.retained s.seatObjs
      s.tempoFrom s.tempoHeld s.bases s.scrubFrom s.cvuRuns s.supply s.slacks s.worstFn s.slotCheck s.vault
      s.pins) :=
  ⟨h.pending, h.now, h.dts, h.tempo, h.startup, h.straps, h.resetLow, h.rails, h.free, h.live, h.words, h.lanes, h.xc, h.sessions, h.freeNums, h.opened, h.txns, h.nextTxn, h.claims, h.hwClaims, h.gens, h.spiIn, h.spiOut, h.miso, h.lastOp, h.lastReply, h.cands, h.timing, h.outs, fun k => absurd k (by rw [mask_bit (mask_sub hK rfl)]; exact Bool.noConfusion), h.aps, h.pathProt, h.tandem, h.gallery, h.chans, h.dccOut, h.dccIn, h.points, h.dayCuts, h.tcaLog, h.macs, h.faults, h.banks, h.usedBanks, h.owners, h.retained, h.seatObjs, h.tempoFrom, h.tempoHeld, h.bases, h.scrubFrom, h.cvuRuns, h.supply, h.slacks, h.worstFn, h.slotCheck, h.vault, h.pins, h.objs⟩

theorem Same.upd_gallery {K B : Nat} {s0 s : State} {gallery' : Gallery}
    (hK : K &&& 17179869184 = 0) (h : Same K B s0 s) :
    Same K B s0 (State.mk s.pending s.now s.dts s.tempo s.startup s.straps s.resetLow s.rails s.free s.dict s.live s.words s.lanes
      s.xc s.sessions s.freeNums s.opened s.txns s.nextTxn s.claims s.hwClaims s.gens s.spiIn s.spiOut s.miso
      s.lastOp s.lastReply s.cands s.timing s.outs s.pps s.aps s.pathProt s.tandem gallery' s.chans s.dccOut
      s.dccIn s.points s.dayCuts s.tcaLog s.macs s.faults s.banks s.usedBanks s.owners s.retained s.seatObjs
      s.tempoFrom s.tempoHeld s.bases s.scrubFrom s.cvuRuns s.supply s.slacks s.worstFn s.slotCheck s.vault
      s.pins) :=
  ⟨h.pending, h.now, h.dts, h.tempo, h.startup, h.straps, h.resetLow, h.rails, h.free, h.live, h.words, h.lanes, h.xc, h.sessions, h.freeNums, h.opened, h.txns, h.nextTxn, h.claims, h.hwClaims, h.gens, h.spiIn, h.spiOut, h.miso, h.lastOp, h.lastReply, h.cands, h.timing, h.outs, h.pps, h.aps, h.pathProt, h.tandem, fun k => absurd k (by rw [mask_bit (mask_sub hK rfl)]; exact Bool.noConfusion), h.chans, h.dccOut, h.dccIn, h.points, h.dayCuts, h.tcaLog, h.macs, h.faults, h.banks, h.usedBanks, h.owners, h.retained, h.seatObjs, h.tempoFrom, h.tempoHeld, h.bases, h.scrubFrom, h.cvuRuns, h.supply, h.slacks, h.worstFn, h.slotCheck, h.vault, h.pins, h.objs⟩

theorem Same.upd_timing {K B : Nat} {s0 s : State} {timing' : Timing}
    (hK : K &&& 268435456 = 0) (h : Same K B s0 s) :
    Same K B s0 (State.mk s.pending s.now s.dts s.tempo s.startup s.straps s.resetLow s.rails s.free s.dict s.live s.words s.lanes
      s.xc s.sessions s.freeNums s.opened s.txns s.nextTxn s.claims s.hwClaims s.gens s.spiIn s.spiOut s.miso
      s.lastOp s.lastReply s.cands timing' s.outs s.pps s.aps s.pathProt s.tandem s.gallery s.chans s.dccOut
      s.dccIn s.points s.dayCuts s.tcaLog s.macs s.faults s.banks s.usedBanks s.owners s.retained s.seatObjs
      s.tempoFrom s.tempoHeld s.bases s.scrubFrom s.cvuRuns s.supply s.slacks s.worstFn s.slotCheck s.vault
      s.pins) :=
  ⟨h.pending, h.now, h.dts, h.tempo, h.startup, h.straps, h.resetLow, h.rails, h.free, h.live, h.words, h.lanes, h.xc, h.sessions, h.freeNums, h.opened, h.txns, h.nextTxn, h.claims, h.hwClaims, h.gens, h.spiIn, h.spiOut, h.miso, h.lastOp, h.lastReply, h.cands, fun k => absurd k (by rw [mask_bit (mask_sub hK rfl)]; exact Bool.noConfusion), h.outs, h.pps, h.aps, h.pathProt, h.tandem, h.gallery, h.chans, h.dccOut, h.dccIn, h.points, h.dayCuts, h.tcaLog, h.macs, h.faults, h.banks, h.usedBanks, h.owners, h.retained, h.seatObjs, h.tempoFrom, h.tempoHeld, h.bases, h.scrubFrom, h.cvuRuns, h.supply, h.slacks, h.worstFn, h.slotCheck, h.vault, h.pins, h.objs⟩

theorem Same.upd_slacks_worstFn {K B : Nat} {s0 s : State} {slacks' : List (Nat × Nat × Option Int)} {worstFn' : Option Nat}
    (hK : K &&& 54043195528445952 = 0) (h : Same K B s0 s) :
    Same K B s0 (State.mk s.pending s.now s.dts s.tempo s.startup s.straps s.resetLow s.rails s.free s.dict s.live s.words s.lanes
      s.xc s.sessions s.freeNums s.opened s.txns s.nextTxn s.claims s.hwClaims s.gens s.spiIn s.spiOut s.miso
      s.lastOp s.lastReply s.cands s.timing s.outs s.pps s.aps s.pathProt s.tandem s.gallery s.chans s.dccOut
      s.dccIn s.points s.dayCuts s.tcaLog s.macs s.faults s.banks s.usedBanks s.owners s.retained s.seatObjs
      s.tempoFrom s.tempoHeld s.bases s.scrubFrom s.cvuRuns s.supply slacks' worstFn' s.slotCheck s.vault
      s.pins) :=
  ⟨h.pending, h.now, h.dts, h.tempo, h.startup, h.straps, h.resetLow, h.rails, h.free, h.live, h.words, h.lanes, h.xc, h.sessions, h.freeNums, h.opened, h.txns, h.nextTxn, h.claims, h.hwClaims, h.gens, h.spiIn, h.spiOut, h.miso, h.lastOp, h.lastReply, h.cands, h.timing, h.outs, h.pps, h.aps, h.pathProt, h.tandem, h.gallery, h.chans, h.dccOut, h.dccIn, h.points, h.dayCuts, h.tcaLog, h.macs, h.faults, h.banks, h.usedBanks, h.owners, h.retained, h.seatObjs, h.tempoFrom, h.tempoHeld, h.bases, h.scrubFrom, h.cvuRuns, h.supply, fun k => absurd k (by rw [mask_bit (mask_sub hK rfl)]; exact Bool.noConfusion), fun k => absurd k (by rw [mask_bit (mask_sub hK rfl)]; exact Bool.noConfusion), h.slotCheck, h.vault, h.pins, h.objs⟩

theorem Same.upd_slacks {K B : Nat} {s0 s : State} {slacks' : List (Nat × Nat × Option Int)}
    (hK : K &&& 18014398509481984 = 0) (h : Same K B s0 s) :
    Same K B s0 (State.mk s.pending s.now s.dts s.tempo s.startup s.straps s.resetLow s.rails s.free s.dict s.live s.words s.lanes
      s.xc s.sessions s.freeNums s.opened s.txns s.nextTxn s.claims s.hwClaims s.gens s.spiIn s.spiOut s.miso
      s.lastOp s.lastReply s.cands s.timing s.outs s.pps s.aps s.pathProt s.tandem s.gallery s.chans s.dccOut
      s.dccIn s.points s.dayCuts s.tcaLog s.macs s.faults s.banks s.usedBanks s.owners s.retained s.seatObjs
      s.tempoFrom s.tempoHeld s.bases s.scrubFrom s.cvuRuns s.supply slacks' s.worstFn s.slotCheck s.vault
      s.pins) :=
  ⟨h.pending, h.now, h.dts, h.tempo, h.startup, h.straps, h.resetLow, h.rails, h.free, h.live, h.words, h.lanes, h.xc, h.sessions, h.freeNums, h.opened, h.txns, h.nextTxn, h.claims, h.hwClaims, h.gens, h.spiIn, h.spiOut, h.miso, h.lastOp, h.lastReply, h.cands, h.timing, h.outs, h.pps, h.aps, h.pathProt, h.tandem, h.gallery, h.chans, h.dccOut, h.dccIn, h.points, h.dayCuts, h.tcaLog, h.macs, h.faults, h.banks, h.usedBanks, h.owners, h.retained, h.seatObjs, h.tempoFrom, h.tempoHeld, h.bases, h.scrubFrom, h.cvuRuns, h.supply, fun k => absurd k (by rw [mask_bit (mask_sub hK rfl)]; exact Bool.noConfusion), h.worstFn, h.slotCheck, h.vault, h.pins, h.objs⟩

theorem Same.upd_tandem {K B : Nat} {s0 s : State} {tandem' : Tandem}
    (hK : K &&& 8589934592 = 0) (h : Same K B s0 s) :
    Same K B s0 (State.mk s.pending s.now s.dts s.tempo s.startup s.straps s.resetLow s.rails s.free s.dict s.live s.words s.lanes
      s.xc s.sessions s.freeNums s.opened s.txns s.nextTxn s.claims s.hwClaims s.gens s.spiIn s.spiOut s.miso
      s.lastOp s.lastReply s.cands s.timing s.outs s.pps s.aps s.pathProt tandem' s.gallery s.chans s.dccOut
      s.dccIn s.points s.dayCuts s.tcaLog s.macs s.faults s.banks s.usedBanks s.owners s.retained s.seatObjs
      s.tempoFrom s.tempoHeld s.bases s.scrubFrom s.cvuRuns s.supply s.slacks s.worstFn s.slotCheck s.vault
      s.pins) :=
  ⟨h.pending, h.now, h.dts, h.tempo, h.startup, h.straps, h.resetLow, h.rails, h.free, h.live, h.words, h.lanes, h.xc, h.sessions, h.freeNums, h.opened, h.txns, h.nextTxn, h.claims, h.hwClaims, h.gens, h.spiIn, h.spiOut, h.miso, h.lastOp, h.lastReply, h.cands, h.timing, h.outs, h.pps, h.aps, h.pathProt, fun k => absurd k (by rw [mask_bit (mask_sub hK rfl)]; exact Bool.noConfusion), h.gallery, h.chans, h.dccOut, h.dccIn, h.points, h.dayCuts, h.tcaLog, h.macs, h.faults, h.banks, h.usedBanks, h.owners, h.retained, h.seatObjs, h.tempoFrom, h.tempoHeld, h.bases, h.scrubFrom, h.cvuRuns, h.supply, h.slacks, h.worstFn, h.slotCheck, h.vault, h.pins, h.objs⟩

theorem Same.upd_sessions_freeNums {K B : Nat} {s0 s : State} {sessions' : List Session} {freeNums' : List Nat}
    (hK : K &&& 49152 = 0) (h : Same K B s0 s) :
    Same K B s0 (State.mk s.pending s.now s.dts s.tempo s.startup s.straps s.resetLow s.rails s.free s.dict s.live s.words s.lanes
      s.xc sessions' freeNums' s.opened s.txns s.nextTxn s.claims s.hwClaims s.gens s.spiIn s.spiOut s.miso
      s.lastOp s.lastReply s.cands s.timing s.outs s.pps s.aps s.pathProt s.tandem s.gallery s.chans s.dccOut
      s.dccIn s.points s.dayCuts s.tcaLog s.macs s.faults s.banks s.usedBanks s.owners s.retained s.seatObjs
      s.tempoFrom s.tempoHeld s.bases s.scrubFrom s.cvuRuns s.supply s.slacks s.worstFn s.slotCheck s.vault
      s.pins) :=
  ⟨h.pending, h.now, h.dts, h.tempo, h.startup, h.straps, h.resetLow, h.rails, h.free, h.live, h.words, h.lanes, h.xc, fun k => absurd k (by rw [mask_bit (mask_sub hK rfl)]; exact Bool.noConfusion), fun k => absurd k (by rw [mask_bit (mask_sub hK rfl)]; exact Bool.noConfusion), h.opened, h.txns, h.nextTxn, h.claims, h.hwClaims, h.gens, h.spiIn, h.spiOut, h.miso, h.lastOp, h.lastReply, h.cands, h.timing, h.outs, h.pps, h.aps, h.pathProt, h.tandem, h.gallery, h.chans, h.dccOut, h.dccIn, h.points, h.dayCuts, h.tcaLog, h.macs, h.faults, h.banks, h.usedBanks, h.owners, h.retained, h.seatObjs, h.tempoFrom, h.tempoHeld, h.bases, h.scrubFrom, h.cvuRuns, h.supply, h.slacks, h.worstFn, h.slotCheck, h.vault, h.pins, h.objs⟩

theorem Same.upd_owners {K B : Nat} {s0 s : State} {owners' : Map Nat}
    (hK : K &&& 35184372088832 = 0) (h : Same K B s0 s) :
    Same K B s0 (State.mk s.pending s.now s.dts s.tempo s.startup s.straps s.resetLow s.rails s.free s.dict s.live s.words s.lanes
      s.xc s.sessions s.freeNums s.opened s.txns s.nextTxn s.claims s.hwClaims s.gens s.spiIn s.spiOut s.miso
      s.lastOp s.lastReply s.cands s.timing s.outs s.pps s.aps s.pathProt s.tandem s.gallery s.chans s.dccOut
      s.dccIn s.points s.dayCuts s.tcaLog s.macs s.faults s.banks s.usedBanks owners' s.retained s.seatObjs
      s.tempoFrom s.tempoHeld s.bases s.scrubFrom s.cvuRuns s.supply s.slacks s.worstFn s.slotCheck s.vault
      s.pins) :=
  ⟨h.pending, h.now, h.dts, h.tempo, h.startup, h.straps, h.resetLow, h.rails, h.free, h.live, h.words, h.lanes, h.xc, h.sessions, h.freeNums, h.opened, h.txns, h.nextTxn, h.claims, h.hwClaims, h.gens, h.spiIn, h.spiOut, h.miso, h.lastOp, h.lastReply, h.cands, h.timing, h.outs, h.pps, h.aps, h.pathProt, h.tandem, h.gallery, h.chans, h.dccOut, h.dccIn, h.points, h.dayCuts, h.tcaLog, h.macs, h.faults, h.banks, h.usedBanks, fun k => absurd k (by rw [mask_bit (mask_sub hK rfl)]; exact Bool.noConfusion), h.retained, h.seatObjs, h.tempoFrom, h.tempoHeld, h.bases, h.scrubFrom, h.cvuRuns, h.supply, h.slacks, h.worstFn, h.slotCheck, h.vault, h.pins, h.objs⟩

theorem Same.upd_banks_usedBanks {K B : Nat} {s0 s : State} {banks' : Map Byte} {usedBanks' : List Nat}
    (hK : K &&& 26388279066624 = 0) (h : Same K B s0 s) :
    Same K B s0 (State.mk s.pending s.now s.dts s.tempo s.startup s.straps s.resetLow s.rails s.free s.dict s.live s.words s.lanes
      s.xc s.sessions s.freeNums s.opened s.txns s.nextTxn s.claims s.hwClaims s.gens s.spiIn s.spiOut s.miso
      s.lastOp s.lastReply s.cands s.timing s.outs s.pps s.aps s.pathProt s.tandem s.gallery s.chans s.dccOut
      s.dccIn s.points s.dayCuts s.tcaLog s.macs s.faults banks' usedBanks' s.owners s.retained s.seatObjs
      s.tempoFrom s.tempoHeld s.bases s.scrubFrom s.cvuRuns s.supply s.slacks s.worstFn s.slotCheck s.vault
      s.pins) :=
  ⟨h.pending, h.now, h.dts, h.tempo, h.startup, h.straps, h.resetLow, h.rails, h.free, h.live, h.words, h.lanes, h.xc, h.sessions, h.freeNums, h.opened, h.txns, h.nextTxn, h.claims, h.hwClaims, h.gens, h.spiIn, h.spiOut, h.miso, h.lastOp, h.lastReply, h.cands, h.timing, h.outs, h.pps, h.aps, h.pathProt, h.tandem, h.gallery, h.chans, h.dccOut, h.dccIn, h.points, h.dayCuts, h.tcaLog, h.macs, h.faults, fun k => absurd k (by rw [mask_bit (mask_sub hK rfl)]; exact Bool.noConfusion), fun k => absurd k (by rw [mask_bit (mask_sub hK rfl)]; exact Bool.noConfusion), h.owners, h.retained, h.seatObjs, h.tempoFrom, h.tempoHeld, h.bases, h.scrubFrom, h.cvuRuns, h.supply, h.slacks, h.worstFn, h.slotCheck, h.vault, h.pins, h.objs⟩

theorem Same.upd_retained {K B : Nat} {s0 s : State} {retained' : List Nat}
    (hK : K &&& 70368744177664 = 0) (h : Same K B s0 s) :
    Same K B s0 (State.mk s.pending s.now s.dts s.tempo s.startup s.straps s.resetLow s.rails s.free s.dict s.live s.words s.lanes
      s.xc s.sessions s.freeNums s.opened s.txns s.nextTxn s.claims s.hwClaims s.gens s.spiIn s.spiOut s.miso
      s.lastOp s.lastReply s.cands s.timing s.outs s.pps s.aps s.pathProt s.tandem s.gallery s.chans s.dccOut
      s.dccIn s.points s.dayCuts s.tcaLog s.macs s.faults s.banks s.usedBanks s.owners retained' s.seatObjs
      s.tempoFrom s.tempoHeld s.bases s.scrubFrom s.cvuRuns s.supply s.slacks s.worstFn s.slotCheck s.vault
      s.pins) :=
  ⟨h.pending, h.now, h.dts, h.tempo, h.startup, h.straps, h.resetLow, h.rails, h.free, h.live, h.words, h.lanes, h.xc, h.sessions, h.freeNums, h.opened, h.txns, h.nextTxn, h.claims, h.hwClaims, h.gens, h.spiIn, h.spiOut, h.miso, h.lastOp, h.lastReply, h.cands, h.timing, h.outs, h.pps, h.aps, h.pathProt, h.tandem, h.gallery, h.chans, h.dccOut, h.dccIn, h.points, h.dayCuts, h.tcaLog, h.macs, h.faults, h.banks, h.usedBanks, h.owners, fun k => absurd k (by rw [mask_bit (mask_sub hK rfl)]; exact Bool.noConfusion), h.seatObjs, h.tempoFrom, h.tempoHeld, h.bases, h.scrubFrom, h.cvuRuns, h.supply, h.slacks, h.worstFn, h.slotCheck, h.vault, h.pins, h.objs⟩

theorem Same.upd_scrubFrom {K B : Nat} {s0 s : State} {scrubFrom' : Tick}
    (hK : K &&& 2251799813685248 = 0) (h : Same K B s0 s) :
    Same K B s0 (State.mk s.pending s.now s.dts s.tempo s.startup s.straps s.resetLow s.rails s.free s.dict s.live s.words s.lanes
      s.xc s.sessions s.freeNums s.opened s.txns s.nextTxn s.claims s.hwClaims s.gens s.spiIn s.spiOut s.miso
      s.lastOp s.lastReply s.cands s.timing s.outs s.pps s.aps s.pathProt s.tandem s.gallery s.chans s.dccOut
      s.dccIn s.points s.dayCuts s.tcaLog s.macs s.faults s.banks s.usedBanks s.owners s.retained s.seatObjs
      s.tempoFrom s.tempoHeld s.bases scrubFrom' s.cvuRuns s.supply s.slacks s.worstFn s.slotCheck s.vault
      s.pins) :=
  ⟨h.pending, h.now, h.dts, h.tempo, h.startup, h.straps, h.resetLow, h.rails, h.free, h.live, h.words, h.lanes, h.xc, h.sessions, h.freeNums, h.opened, h.txns, h.nextTxn, h.claims, h.hwClaims, h.gens, h.spiIn, h.spiOut, h.miso, h.lastOp, h.lastReply, h.cands, h.timing, h.outs, h.pps, h.aps, h.pathProt, h.tandem, h.gallery, h.chans, h.dccOut, h.dccIn, h.points, h.dayCuts, h.tcaLog, h.macs, h.faults, h.banks, h.usedBanks, h.owners, h.retained, h.seatObjs, h.tempoFrom, h.tempoHeld, h.bases, fun k => absurd k (by rw [mask_bit (mask_sub hK rfl)]; exact Bool.noConfusion), h.cvuRuns, h.supply, h.slacks, h.worstFn, h.slotCheck, h.vault, h.pins, h.objs⟩

theorem Same.upd_banks {K B : Nat} {s0 s : State} {banks' : Map Byte}
    (hK : K &&& 8796093022208 = 0) (h : Same K B s0 s) :
    Same K B s0 (State.mk s.pending s.now s.dts s.tempo s.startup s.straps s.resetLow s.rails s.free s.dict s.live s.words s.lanes
      s.xc s.sessions s.freeNums s.opened s.txns s.nextTxn s.claims s.hwClaims s.gens s.spiIn s.spiOut s.miso
      s.lastOp s.lastReply s.cands s.timing s.outs s.pps s.aps s.pathProt s.tandem s.gallery s.chans s.dccOut
      s.dccIn s.points s.dayCuts s.tcaLog s.macs s.faults banks' s.usedBanks s.owners s.retained s.seatObjs
      s.tempoFrom s.tempoHeld s.bases s.scrubFrom s.cvuRuns s.supply s.slacks s.worstFn s.slotCheck s.vault
      s.pins) :=
  ⟨h.pending, h.now, h.dts, h.tempo, h.startup, h.straps, h.resetLow, h.rails, h.free, h.live, h.words, h.lanes, h.xc, h.sessions, h.freeNums, h.opened, h.txns, h.nextTxn, h.claims, h.hwClaims, h.gens, h.spiIn, h.spiOut, h.miso, h.lastOp, h.lastReply, h.cands, h.timing, h.outs, h.pps, h.aps, h.pathProt, h.tandem, h.gallery, h.chans, h.dccOut, h.dccIn, h.points, h.dayCuts, h.tcaLog, h.macs, h.faults, fun k => absurd k (by rw [mask_bit (mask_sub hK rfl)]; exact Bool.noConfusion), h.usedBanks, h.owners, h.retained, h.seatObjs, h.tempoFrom, h.tempoHeld, h.bases, h.scrubFrom, h.cvuRuns, h.supply, h.slacks, h.worstFn, h.slotCheck, h.vault, h.pins, h.objs⟩

theorem Same.upd_bases {K B : Nat} {s0 s : State} {bases' : Map Val}
    (hK : K &&& 1125899906842624 = 0) (h : Same K B s0 s) :
    Same K B s0 (State.mk s.pending s.now s.dts s.tempo s.startup s.straps s.resetLow s.rails s.free s.dict s.live s.words s.lanes
      s.xc s.sessions s.freeNums s.opened s.txns s.nextTxn s.claims s.hwClaims s.gens s.spiIn s.spiOut s.miso
      s.lastOp s.lastReply s.cands s.timing s.outs s.pps s.aps s.pathProt s.tandem s.gallery s.chans s.dccOut
      s.dccIn s.points s.dayCuts s.tcaLog s.macs s.faults s.banks s.usedBanks s.owners s.retained s.seatObjs
      s.tempoFrom s.tempoHeld bases' s.scrubFrom s.cvuRuns s.supply s.slacks s.worstFn s.slotCheck s.vault
      s.pins) :=
  ⟨h.pending, h.now, h.dts, h.tempo, h.startup, h.straps, h.resetLow, h.rails, h.free, h.live, h.words, h.lanes, h.xc, h.sessions, h.freeNums, h.opened, h.txns, h.nextTxn, h.claims, h.hwClaims, h.gens, h.spiIn, h.spiOut, h.miso, h.lastOp, h.lastReply, h.cands, h.timing, h.outs, h.pps, h.aps, h.pathProt, h.tandem, h.gallery, h.chans, h.dccOut, h.dccIn, h.points, h.dayCuts, h.tcaLog, h.macs, h.faults, h.banks, h.usedBanks, h.owners, h.retained, h.seatObjs, h.tempoFrom, h.tempoHeld, fun k => absurd k (by rw [mask_bit (mask_sub hK rfl)]; exact Bool.noConfusion), h.scrubFrom, h.cvuRuns, h.supply, h.slacks, h.worstFn, h.slotCheck, h.vault, h.pins, h.objs⟩

theorem Same.upd_cvuRuns {K B : Nat} {s0 s : State} {cvuRuns' : Map CvuRun}
    (hK : K &&& 4503599627370496 = 0) (h : Same K B s0 s) :
    Same K B s0 (State.mk s.pending s.now s.dts s.tempo s.startup s.straps s.resetLow s.rails s.free s.dict s.live s.words s.lanes
      s.xc s.sessions s.freeNums s.opened s.txns s.nextTxn s.claims s.hwClaims s.gens s.spiIn s.spiOut s.miso
      s.lastOp s.lastReply s.cands s.timing s.outs s.pps s.aps s.pathProt s.tandem s.gallery s.chans s.dccOut
      s.dccIn s.points s.dayCuts s.tcaLog s.macs s.faults s.banks s.usedBanks s.owners s.retained s.seatObjs
      s.tempoFrom s.tempoHeld s.bases s.scrubFrom cvuRuns' s.supply s.slacks s.worstFn s.slotCheck s.vault
      s.pins) :=
  ⟨h.pending, h.now, h.dts, h.tempo, h.startup, h.straps, h.resetLow, h.rails, h.free, h.live, h.words, h.lanes, h.xc, h.sessions, h.freeNums, h.opened, h.txns, h.nextTxn, h.claims, h.hwClaims, h.gens, h.spiIn, h.spiOut, h.miso, h.lastOp, h.lastReply, h.cands, h.timing, h.outs, h.pps, h.aps, h.pathProt, h.tandem, h.gallery, h.chans, h.dccOut, h.dccIn, h.points, h.dayCuts, h.tcaLog, h.macs, h.faults, h.banks, h.usedBanks, h.owners, h.retained, h.seatObjs, h.tempoFrom, h.tempoHeld, h.bases, h.scrubFrom, fun k => absurd k (by rw [mask_bit (mask_sub hK rfl)]; exact Bool.noConfusion), h.supply, h.slacks, h.worstFn, h.slotCheck, h.vault, h.pins, h.objs⟩

theorem Same.upd_faults {K B : Nat} {s0 s : State} {faults' : Faults}
    (hK : K &&& 4398046511104 = 0) (h : Same K B s0 s) :
    Same K B s0 (State.mk s.pending s.now s.dts s.tempo s.startup s.straps s.resetLow s.rails s.free s.dict s.live s.words s.lanes
      s.xc s.sessions s.freeNums s.opened s.txns s.nextTxn s.claims s.hwClaims s.gens s.spiIn s.spiOut s.miso
      s.lastOp s.lastReply s.cands s.timing s.outs s.pps s.aps s.pathProt s.tandem s.gallery s.chans s.dccOut
      s.dccIn s.points s.dayCuts s.tcaLog s.macs faults' s.banks s.usedBanks s.owners s.retained s.seatObjs
      s.tempoFrom s.tempoHeld s.bases s.scrubFrom s.cvuRuns s.supply s.slacks s.worstFn s.slotCheck s.vault
      s.pins) :=
  ⟨h.pending, h.now, h.dts, h.tempo, h.startup, h.straps, h.resetLow, h.rails, h.free, h.live, h.words, h.lanes, h.xc, h.sessions, h.freeNums, h.opened, h.txns, h.nextTxn, h.claims, h.hwClaims, h.gens, h.spiIn, h.spiOut, h.miso, h.lastOp, h.lastReply, h.cands, h.timing, h.outs, h.pps, h.aps, h.pathProt, h.tandem, h.gallery, h.chans, h.dccOut, h.dccIn, h.points, h.dayCuts, h.tcaLog, h.macs, fun k => absurd k (by rw [mask_bit (mask_sub hK rfl)]; exact Bool.noConfusion), h.banks, h.usedBanks, h.owners, h.retained, h.seatObjs, h.tempoFrom, h.tempoHeld, h.bases, h.scrubFrom, h.cvuRuns, h.supply, h.slacks, h.worstFn, h.slotCheck, h.vault, h.pins, h.objs⟩

theorem Same.upd_aps_pathProt {K B : Nat} {s0 s : State} {aps' : Map Aps} {pathProt' : Map PathProt}
    (hK : K &&& 6442450944 = 0) (h : Same K B s0 s) :
    Same K B s0 (State.mk s.pending s.now s.dts s.tempo s.startup s.straps s.resetLow s.rails s.free s.dict s.live s.words s.lanes
      s.xc s.sessions s.freeNums s.opened s.txns s.nextTxn s.claims s.hwClaims s.gens s.spiIn s.spiOut s.miso
      s.lastOp s.lastReply s.cands s.timing s.outs s.pps aps' pathProt' s.tandem s.gallery s.chans s.dccOut
      s.dccIn s.points s.dayCuts s.tcaLog s.macs s.faults s.banks s.usedBanks s.owners s.retained s.seatObjs
      s.tempoFrom s.tempoHeld s.bases s.scrubFrom s.cvuRuns s.supply s.slacks s.worstFn s.slotCheck s.vault
      s.pins) :=
  ⟨h.pending, h.now, h.dts, h.tempo, h.startup, h.straps, h.resetLow, h.rails, h.free, h.live, h.words, h.lanes, h.xc, h.sessions, h.freeNums, h.opened, h.txns, h.nextTxn, h.claims, h.hwClaims, h.gens, h.spiIn, h.spiOut, h.miso, h.lastOp, h.lastReply, h.cands, h.timing, h.outs, h.pps, fun k => absurd k (by rw [mask_bit (mask_sub hK rfl)]; exact Bool.noConfusion), fun k => absurd k (by rw [mask_bit (mask_sub hK rfl)]; exact Bool.noConfusion), h.tandem, h.gallery, h.chans, h.dccOut, h.dccIn, h.points, h.dayCuts, h.tcaLog, h.macs, h.faults, h.banks, h.usedBanks, h.owners, h.retained, h.seatObjs, h.tempoFrom, h.tempoHeld, h.bases, h.scrubFrom, h.cvuRuns, h.supply, h.slacks, h.worstFn, h.slotCheck, h.vault, h.pins, h.objs⟩

theorem Same.upd_supply {K B : Nat} {s0 s : State} {supply' : Supply}
    (hK : K &&& 9007199254740992 = 0) (h : Same K B s0 s) :
    Same K B s0 (State.mk s.pending s.now s.dts s.tempo s.startup s.straps s.resetLow s.rails s.free s.dict s.live s.words s.lanes
      s.xc s.sessions s.freeNums s.opened s.txns s.nextTxn s.claims s.hwClaims s.gens s.spiIn s.spiOut s.miso
      s.lastOp s.lastReply s.cands s.timing s.outs s.pps s.aps s.pathProt s.tandem s.gallery s.chans s.dccOut
      s.dccIn s.points s.dayCuts s.tcaLog s.macs s.faults s.banks s.usedBanks s.owners s.retained s.seatObjs
      s.tempoFrom s.tempoHeld s.bases s.scrubFrom s.cvuRuns supply' s.slacks s.worstFn s.slotCheck s.vault
      s.pins) :=
  ⟨h.pending, h.now, h.dts, h.tempo, h.startup, h.straps, h.resetLow, h.rails, h.free, h.live, h.words, h.lanes, h.xc, h.sessions, h.freeNums, h.opened, h.txns, h.nextTxn, h.claims, h.hwClaims, h.gens, h.spiIn, h.spiOut, h.miso, h.lastOp, h.lastReply, h.cands, h.timing, h.outs, h.pps, h.aps, h.pathProt, h.tandem, h.gallery, h.chans, h.dccOut, h.dccIn, h.points, h.dayCuts, h.tcaLog, h.macs, h.faults, h.banks, h.usedBanks, h.owners, h.retained, h.seatObjs, h.tempoFrom, h.tempoHeld, h.bases, h.scrubFrom, h.cvuRuns, fun k => absurd k (by rw [mask_bit (mask_sub hK rfl)]; exact Bool.noConfusion), h.slacks, h.worstFn, h.slotCheck, h.vault, h.pins, h.objs⟩

theorem Same.upd_vault {K B : Nat} {s0 s : State} {vault' : Vault}
    (hK : K &&& 144115188075855872 = 0) (h : Same K B s0 s) :
    Same K B s0 (State.mk s.pending s.now s.dts s.tempo s.startup s.straps s.resetLow s.rails s.free s.dict s.live s.words s.lanes
      s.xc s.sessions s.freeNums s.opened s.txns s.nextTxn s.claims s.hwClaims s.gens s.spiIn s.spiOut s.miso
      s.lastOp s.lastReply s.cands s.timing s.outs s.pps s.aps s.pathProt s.tandem s.gallery s.chans s.dccOut
      s.dccIn s.points s.dayCuts s.tcaLog s.macs s.faults s.banks s.usedBanks s.owners s.retained s.seatObjs
      s.tempoFrom s.tempoHeld s.bases s.scrubFrom s.cvuRuns s.supply s.slacks s.worstFn s.slotCheck vault'
      s.pins) :=
  ⟨h.pending, h.now, h.dts, h.tempo, h.startup, h.straps, h.resetLow, h.rails, h.free, h.live, h.words, h.lanes, h.xc, h.sessions, h.freeNums, h.opened, h.txns, h.nextTxn, h.claims, h.hwClaims, h.gens, h.spiIn, h.spiOut, h.miso, h.lastOp, h.lastReply, h.cands, h.timing, h.outs, h.pps, h.aps, h.pathProt, h.tandem, h.gallery, h.chans, h.dccOut, h.dccIn, h.points, h.dayCuts, h.tcaLog, h.macs, h.faults, h.banks, h.usedBanks, h.owners, h.retained, h.seatObjs, h.tempoFrom, h.tempoHeld, h.bases, h.scrubFrom, h.cvuRuns, h.supply, h.slacks, h.worstFn, h.slotCheck, fun k => absurd k (by rw [mask_bit (mask_sub hK rfl)]; exact Bool.noConfusion), h.pins, h.objs⟩

theorem Same.upd_tempo_startup_rails_cvuRuns {K B : Nat} {s0 s : State} {tempo' : Bool} {startup' : Startup} {rails' : List Bool} {cvuRuns' : Map CvuRun}
    (hK : K &&& 4503599627370648 = 0) (h : Same K B s0 s) :
    Same K B s0 (State.mk s.pending s.now s.dts tempo' startup' s.straps s.resetLow rails' s.free s.dict s.live s.words s.lanes
      s.xc s.sessions s.freeNums s.opened s.txns s.nextTxn s.claims s.hwClaims s.gens s.spiIn s.spiOut s.miso
      s.lastOp s.lastReply s.cands s.timing s.outs s.pps s.aps s.pathProt s.tandem s.gallery s.chans s.dccOut
      s.dccIn s.points s.dayCuts s.tcaLog s.macs s.faults s.banks s.usedBanks s.owners s.retained s.seatObjs
      s.tempoFrom s.tempoHeld s.bases s.scrubFrom cvuRuns' s.supply s.slacks s.worstFn s.slotCheck s.vault
      s.pins) :=
  ⟨h.pending, h.now, h.dts, fun k => absurd k (by rw [mask_bit (mask_sub hK rfl)]; exact Bool.noConfusion), fun k => absurd k (by rw [mask_bit (mask_sub hK rfl)]; exact Bool.noConfusion), h.straps, h.resetLow, fun k => absurd k (by rw [mask_bit (mask_sub hK rfl)]; exact Bool.noConfusion), h.free, h.live, h.words, h.lanes, h.xc, h.sessions, h.freeNums, h.opened, h.txns, h.nextTxn, h.claims, h.hwClaims, h.gens, h.spiIn, h.spiOut, h.miso, h.lastOp, h.lastReply, h.cands, h.timing, h.outs, h.pps, h.aps, h.pathProt, h.tandem, h.gallery, h.chans, h.dccOut, h.dccIn, h.points, h.dayCuts, h.tcaLog, h.macs, h.faults, h.banks, h.usedBanks, h.owners, h.retained, h.seatObjs, h.tempoFrom, h.tempoHeld, h.bases, h.scrubFrom, fun k => absurd k (by rw [mask_bit (mask_sub hK rfl)]; exact Bool.noConfusion), h.supply, h.slacks, h.worstFn, h.slotCheck, h.vault, h.pins, h.objs⟩

theorem Same.upd_startup {K B : Nat} {s0 s : State} {startup' : Startup}
    (hK : K &&& 16 = 0) (h : Same K B s0 s) :
    Same K B s0 (State.mk s.pending s.now s.dts s.tempo startup' s.straps s.resetLow s.rails s.free s.dict s.live s.words s.lanes
      s.xc s.sessions s.freeNums s.opened s.txns s.nextTxn s.claims s.hwClaims s.gens s.spiIn s.spiOut s.miso
      s.lastOp s.lastReply s.cands s.timing s.outs s.pps s.aps s.pathProt s.tandem s.gallery s.chans s.dccOut
      s.dccIn s.points s.dayCuts s.tcaLog s.macs s.faults s.banks s.usedBanks s.owners s.retained s.seatObjs
      s.tempoFrom s.tempoHeld s.bases s.scrubFrom s.cvuRuns s.supply s.slacks s.worstFn s.slotCheck s.vault
      s.pins) :=
  ⟨h.pending, h.now, h.dts, h.tempo, fun k => absurd k (by rw [mask_bit (mask_sub hK rfl)]; exact Bool.noConfusion), h.straps, h.resetLow, h.rails, h.free, h.live, h.words, h.lanes, h.xc, h.sessions, h.freeNums, h.opened, h.txns, h.nextTxn, h.claims, h.hwClaims, h.gens, h.spiIn, h.spiOut, h.miso, h.lastOp, h.lastReply, h.cands, h.timing, h.outs, h.pps, h.aps, h.pathProt, h.tandem, h.gallery, h.chans, h.dccOut, h.dccIn, h.points, h.dayCuts, h.tcaLog, h.macs, h.faults, h.banks, h.usedBanks, h.owners, h.retained, h.seatObjs, h.tempoFrom, h.tempoHeld, h.bases, h.scrubFrom, h.cvuRuns, h.supply, h.slacks, h.worstFn, h.slotCheck, h.vault, h.pins, h.objs⟩

theorem Same.upd_faults_vault {K B : Nat} {s0 s : State} {faults' : Faults} {vault' : Vault}
    (hK : K &&& 144119586122366976 = 0) (h : Same K B s0 s) :
    Same K B s0 (State.mk s.pending s.now s.dts s.tempo s.startup s.straps s.resetLow s.rails s.free s.dict s.live s.words s.lanes
      s.xc s.sessions s.freeNums s.opened s.txns s.nextTxn s.claims s.hwClaims s.gens s.spiIn s.spiOut s.miso
      s.lastOp s.lastReply s.cands s.timing s.outs s.pps s.aps s.pathProt s.tandem s.gallery s.chans s.dccOut
      s.dccIn s.points s.dayCuts s.tcaLog s.macs faults' s.banks s.usedBanks s.owners s.retained s.seatObjs
      s.tempoFrom s.tempoHeld s.bases s.scrubFrom s.cvuRuns s.supply s.slacks s.worstFn s.slotCheck vault'
      s.pins) :=
  ⟨h.pending, h.now, h.dts, h.tempo, h.startup, h.straps, h.resetLow, h.rails, h.free, h.live, h.words, h.lanes, h.xc, h.sessions, h.freeNums, h.opened, h.txns, h.nextTxn, h.claims, h.hwClaims, h.gens, h.spiIn, h.spiOut, h.miso, h.lastOp, h.lastReply, h.cands, h.timing, h.outs, h.pps, h.aps, h.pathProt, h.tandem, h.gallery, h.chans, h.dccOut, h.dccIn, h.points, h.dayCuts, h.tcaLog, h.macs, fun k => absurd k (by rw [mask_bit (mask_sub hK rfl)]; exact Bool.noConfusion), h.banks, h.usedBanks, h.owners, h.retained, h.seatObjs, h.tempoFrom, h.tempoHeld, h.bases, h.scrubFrom, h.cvuRuns, h.supply, h.slacks, h.worstFn, h.slotCheck, fun k => absurd k (by rw [mask_bit (mask_sub hK rfl)]; exact Bool.noConfusion), h.pins, h.objs⟩

theorem Same.upd_timing_faults {K B : Nat} {s0 s : State} {timing' : Timing} {faults' : Faults}
    (hK : K &&& 4398314946560 = 0) (h : Same K B s0 s) :
    Same K B s0 (State.mk s.pending s.now s.dts s.tempo s.startup s.straps s.resetLow s.rails s.free s.dict s.live s.words s.lanes
      s.xc s.sessions s.freeNums s.opened s.txns s.nextTxn s.claims s.hwClaims s.gens s.spiIn s.spiOut s.miso
      s.lastOp s.lastReply s.cands timing' s.outs s.pps s.aps s.pathProt s.tandem s.gallery s.chans s.dccOut
      s.dccIn s.points s.dayCuts s.tcaLog s.macs faults' s.banks s.usedBanks s.owners s.retained s.seatObjs
      s.tempoFrom s.tempoHeld s.bases s.scrubFrom s.cvuRuns s.supply s.slacks s.worstFn s.slotCheck s.vault
      s.pins) :=
  ⟨h.pending, h.now, h.dts, h.tempo, h.startup, h.straps, h.resetLow, h.rails, h.free, h.live, h.words, h.lanes, h.xc, h.sessions, h.freeNums, h.opened, h.txns, h.nextTxn, h.claims, h.hwClaims, h.gens, h.spiIn, h.spiOut, h.miso, h.lastOp, h.lastReply, h.cands, fun k => absurd k (by rw [mask_bit (mask_sub hK rfl)]; exact Bool.noConfusion), h.outs, h.pps, h.aps, h.pathProt, h.tandem, h.gallery, h.chans, h.dccOut, h.dccIn, h.points, h.dayCuts, h.tcaLog, h.macs, fun k => absurd k (by rw [mask_bit (mask_sub hK rfl)]; exact Bool.noConfusion), h.banks, h.usedBanks, h.owners, h.retained, h.seatObjs, h.tempoFrom, h.tempoHeld, h.bases, h.scrubFrom, h.cvuRuns, h.supply, h.slacks, h.worstFn, h.slotCheck, h.vault, h.pins, h.objs⟩

theorem Same.upd_startup_banks_retained {K B : Nat} {s0 s : State} {startup' : Startup} {banks' : Map Byte} {retained' : List Nat}
    (hK : K &&& 79164837199888 = 0) (h : Same K B s0 s) :
    Same K B s0 (State.mk s.pending s.now s.dts s.tempo startup' s.straps s.resetLow s.rails s.free s.dict s.live s.words s.lanes
      s.xc s.sessions s.freeNums s.opened s.txns s.nextTxn s.claims s.hwClaims s.gens s.spiIn s.spiOut s.miso
      s.lastOp s.lastReply s.cands s.timing s.outs s.pps s.aps s.pathProt s.tandem s.gallery s.chans s.dccOut
      s.dccIn s.points s.dayCuts s.tcaLog s.macs s.faults banks' s.usedBanks s.owners retained' s.seatObjs
      s.tempoFrom s.tempoHeld s.bases s.scrubFrom s.cvuRuns s.supply s.slacks s.worstFn s.slotCheck s.vault
      s.pins) :=
  ⟨h.pending, h.now, h.dts, h.tempo, fun k => absurd k (by rw [mask_bit (mask_sub hK rfl)]; exact Bool.noConfusion), h.straps, h.resetLow, h.rails, h.free, h.live, h.words, h.lanes, h.xc, h.sessions, h.freeNums, h.opened, h.txns, h.nextTxn, h.claims, h.hwClaims, h.gens, h.spiIn, h.spiOut, h.miso, h.lastOp, h.lastReply, h.cands, h.timing, h.outs, h.pps, h.aps, h.pathProt, h.tandem, h.gallery, h.chans, h.dccOut, h.dccIn, h.points, h.dayCuts, h.tcaLog, h.macs, h.faults, fun k => absurd k (by rw [mask_bit (mask_sub hK rfl)]; exact Bool.noConfusion), h.usedBanks, h.owners, fun k => absurd k (by rw [mask_bit (mask_sub hK rfl)]; exact Bool.noConfusion), h.seatObjs, h.tempoFrom, h.tempoHeld, h.bases, h.scrubFrom, h.cvuRuns, h.supply, h.slacks, h.worstFn, h.slotCheck, h.vault, h.pins, h.objs⟩

theorem Same.upd_tempo_tempoHeld {K B : Nat} {s0 s : State} {tempo' : Bool} {tempoHeld' : Nat}
    (hK : K &&& 562949953421320 = 0) (h : Same K B s0 s) :
    Same K B s0 (State.mk s.pending s.now s.dts tempo' s.startup s.straps s.resetLow s.rails s.free s.dict s.live s.words s.lanes
      s.xc s.sessions s.freeNums s.opened s.txns s.nextTxn s.claims s.hwClaims s.gens s.spiIn s.spiOut s.miso
      s.lastOp s.lastReply s.cands s.timing s.outs s.pps s.aps s.pathProt s.tandem s.gallery s.chans s.dccOut
      s.dccIn s.points s.dayCuts s.tcaLog s.macs s.faults s.banks s.usedBanks s.owners s.retained s.seatObjs
      s.tempoFrom tempoHeld' s.bases s.scrubFrom s.cvuRuns s.supply s.slacks s.worstFn s.slotCheck s.vault
      s.pins) :=
  ⟨h.pending, h.now, h.dts, fun k => absurd k (by rw [mask_bit (mask_sub hK rfl)]; exact Bool.noConfusion), h.startup, h.straps, h.resetLow, h.rails, h.free, h.live, h.words, h.lanes, h.xc, h.sessions, h.freeNums, h.opened, h.txns, h.nextTxn, h.claims, h.hwClaims, h.gens, h.spiIn, h.spiOut, h.miso, h.lastOp, h.lastReply, h.cands, h.timing, h.outs, h.pps, h.aps, h.pathProt, h.tandem, h.gallery, h.chans, h.dccOut, h.dccIn, h.points, h.dayCuts, h.tcaLog, h.macs, h.faults, h.banks, h.usedBanks, h.owners, h.retained, h.seatObjs, h.tempoFrom, fun k => absurd k (by rw [mask_bit (mask_sub hK rfl)]; exact Bool.noConfusion), h.bases, h.scrubFrom, h.cvuRuns, h.supply, h.slacks, h.worstFn, h.slotCheck, h.vault, h.pins, h.objs⟩

theorem Same.upd_startup_vault {K B : Nat} {s0 s : State} {startup' : Startup} {vault' : Vault}
    (hK : K &&& 144115188075855888 = 0) (h : Same K B s0 s) :
    Same K B s0 (State.mk s.pending s.now s.dts s.tempo startup' s.straps s.resetLow s.rails s.free s.dict s.live s.words s.lanes
      s.xc s.sessions s.freeNums s.opened s.txns s.nextTxn s.claims s.hwClaims s.gens s.spiIn s.spiOut s.miso
      s.lastOp s.lastReply s.cands s.timing s.outs s.pps s.aps s.pathProt s.tandem s.gallery s.chans s.dccOut
      s.dccIn s.points s.dayCuts s.tcaLog s.macs s.faults s.banks s.usedBanks s.owners s.retained s.seatObjs
      s.tempoFrom s.tempoHeld s.bases s.scrubFrom s.cvuRuns s.supply s.slacks s.worstFn s.slotCheck vault'
      s.pins) :=
  ⟨h.pending, h.now, h.dts, h.tempo, fun k => absurd k (by rw [mask_bit (mask_sub hK rfl)]; exact Bool.noConfusion), h.straps, h.resetLow, h.rails, h.free, h.live, h.words, h.lanes, h.xc, h.sessions, h.freeNums, h.opened, h.txns, h.nextTxn, h.claims, h.hwClaims, h.gens, h.spiIn, h.spiOut, h.miso, h.lastOp, h.lastReply, h.cands, h.timing, h.outs, h.pps, h.aps, h.pathProt, h.tandem, h.gallery, h.chans, h.dccOut, h.dccIn, h.points, h.dayCuts, h.tcaLog, h.macs, h.faults, h.banks, h.usedBanks, h.owners, h.retained, h.seatObjs, h.tempoFrom, h.tempoHeld, h.bases, h.scrubFrom, h.cvuRuns, h.supply, h.slacks, h.worstFn, h.slotCheck, fun k => absurd k (by rw [mask_bit (mask_sub hK rfl)]; exact Bool.noConfusion), h.pins, h.objs⟩

theorem Same.upd_startup_straps_vault {K B : Nat} {s0 s : State} {startup' : Startup} {straps' : Straps} {vault' : Vault}
    (hK : K &&& 144115188075855920 = 0) (h : Same K B s0 s) :
    Same K B s0 (State.mk s.pending s.now s.dts s.tempo startup' straps' s.resetLow s.rails s.free s.dict s.live s.words s.lanes
      s.xc s.sessions s.freeNums s.opened s.txns s.nextTxn s.claims s.hwClaims s.gens s.spiIn s.spiOut s.miso
      s.lastOp s.lastReply s.cands s.timing s.outs s.pps s.aps s.pathProt s.tandem s.gallery s.chans s.dccOut
      s.dccIn s.points s.dayCuts s.tcaLog s.macs s.faults s.banks s.usedBanks s.owners s.retained s.seatObjs
      s.tempoFrom s.tempoHeld s.bases s.scrubFrom s.cvuRuns s.supply s.slacks s.worstFn s.slotCheck vault'
      s.pins) :=
  ⟨h.pending, h.now, h.dts, h.tempo, fun k => absurd k (by rw [mask_bit (mask_sub hK rfl)]; exact Bool.noConfusion), fun k => absurd k (by rw [mask_bit (mask_sub hK rfl)]; exact Bool.noConfusion), h.resetLow, h.rails, h.free, h.live, h.words, h.lanes, h.xc, h.sessions, h.freeNums, h.opened, h.txns, h.nextTxn, h.claims, h.hwClaims, h.gens, h.spiIn, h.spiOut, h.miso, h.lastOp, h.lastReply, h.cands, h.timing, h.outs, h.pps, h.aps, h.pathProt, h.tandem, h.gallery, h.chans, h.dccOut, h.dccIn, h.points, h.dayCuts, h.tcaLog, h.macs, h.faults, h.banks, h.usedBanks, h.owners, h.retained, h.seatObjs, h.tempoFrom, h.tempoHeld, h.bases, h.scrubFrom, h.cvuRuns, h.supply, h.slacks, h.worstFn, h.slotCheck, fun k => absurd k (by rw [mask_bit (mask_sub hK rfl)]; exact Bool.noConfusion), h.pins, h.objs⟩

theorem Same.upd_rails {K B : Nat} {s0 s : State} {rails' : List Bool}
    (hK : K &&& 128 = 0) (h : Same K B s0 s) :
    Same K B s0 (State.mk s.pending s.now s.dts s.tempo s.startup s.straps s.resetLow rails' s.free s.dict s.live s.words s.lanes
      s.xc s.sessions s.freeNums s.opened s.txns s.nextTxn s.claims s.hwClaims s.gens s.spiIn s.spiOut s.miso
      s.lastOp s.lastReply s.cands s.timing s.outs s.pps s.aps s.pathProt s.tandem s.gallery s.chans s.dccOut
      s.dccIn s.points s.dayCuts s.tcaLog s.macs s.faults s.banks s.usedBanks s.owners s.retained s.seatObjs
      s.tempoFrom s.tempoHeld s.bases s.scrubFrom s.cvuRuns s.supply s.slacks s.worstFn s.slotCheck s.vault
      s.pins) :=
  ⟨h.pending, h.now, h.dts, h.tempo, h.startup, h.straps, h.resetLow, fun k => absurd k (by rw [mask_bit (mask_sub hK rfl)]; exact Bool.noConfusion), h.free, h.live, h.words, h.lanes, h.xc, h.sessions, h.freeNums, h.opened, h.txns, h.nextTxn, h.claims, h.hwClaims, h.gens, h.spiIn, h.spiOut, h.miso, h.lastOp, h.lastReply, h.cands, h.timing, h.outs, h.pps, h.aps, h.pathProt, h.tandem, h.gallery, h.chans, h.dccOut, h.dccIn, h.points, h.dayCuts, h.tcaLog, h.macs, h.faults, h.banks, h.usedBanks, h.owners, h.retained, h.seatObjs, h.tempoFrom, h.tempoHeld, h.bases, h.scrubFrom, h.cvuRuns, h.supply, h.slacks, h.worstFn, h.slotCheck, h.vault, h.pins, h.objs⟩

theorem Same.upd_startup_rails {K B : Nat} {s0 s : State} {startup' : Startup} {rails' : List Bool}
    (hK : K &&& 144 = 0) (h : Same K B s0 s) :
    Same K B s0 (State.mk s.pending s.now s.dts s.tempo startup' s.straps s.resetLow rails' s.free s.dict s.live s.words s.lanes
      s.xc s.sessions s.freeNums s.opened s.txns s.nextTxn s.claims s.hwClaims s.gens s.spiIn s.spiOut s.miso
      s.lastOp s.lastReply s.cands s.timing s.outs s.pps s.aps s.pathProt s.tandem s.gallery s.chans s.dccOut
      s.dccIn s.points s.dayCuts s.tcaLog s.macs s.faults s.banks s.usedBanks s.owners s.retained s.seatObjs
      s.tempoFrom s.tempoHeld s.bases s.scrubFrom s.cvuRuns s.supply s.slacks s.worstFn s.slotCheck s.vault
      s.pins) :=
  ⟨h.pending, h.now, h.dts, h.tempo, fun k => absurd k (by rw [mask_bit (mask_sub hK rfl)]; exact Bool.noConfusion), h.straps, h.resetLow, fun k => absurd k (by rw [mask_bit (mask_sub hK rfl)]; exact Bool.noConfusion), h.free, h.live, h.words, h.lanes, h.xc, h.sessions, h.freeNums, h.opened, h.txns, h.nextTxn, h.claims, h.hwClaims, h.gens, h.spiIn, h.spiOut, h.miso, h.lastOp, h.lastReply, h.cands, h.timing, h.outs, h.pps, h.aps, h.pathProt, h.tandem, h.gallery, h.chans, h.dccOut, h.dccIn, h.points, h.dayCuts, h.tcaLog, h.macs, h.faults, h.banks, h.usedBanks, h.owners, h.retained, h.seatObjs, h.tempoFrom, h.tempoHeld, h.bases, h.scrubFrom, h.cvuRuns, h.supply, h.slacks, h.worstFn, h.slotCheck, h.vault, h.pins, h.objs⟩

theorem Same.upd_tempo_startup_rails {K B : Nat} {s0 s : State} {tempo' : Bool} {startup' : Startup} {rails' : List Bool}
    (hK : K &&& 152 = 0) (h : Same K B s0 s) :
    Same K B s0 (State.mk s.pending s.now s.dts tempo' startup' s.straps s.resetLow rails' s.free s.dict s.live s.words s.lanes
      s.xc s.sessions s.freeNums s.opened s.txns s.nextTxn s.claims s.hwClaims s.gens s.spiIn s.spiOut s.miso
      s.lastOp s.lastReply s.cands s.timing s.outs s.pps s.aps s.pathProt s.tandem s.gallery s.chans s.dccOut
      s.dccIn s.points s.dayCuts s.tcaLog s.macs s.faults s.banks s.usedBanks s.owners s.retained s.seatObjs
      s.tempoFrom s.tempoHeld s.bases s.scrubFrom s.cvuRuns s.supply s.slacks s.worstFn s.slotCheck s.vault
      s.pins) :=
  ⟨h.pending, h.now, h.dts, fun k => absurd k (by rw [mask_bit (mask_sub hK rfl)]; exact Bool.noConfusion), fun k => absurd k (by rw [mask_bit (mask_sub hK rfl)]; exact Bool.noConfusion), h.straps, h.resetLow, fun k => absurd k (by rw [mask_bit (mask_sub hK rfl)]; exact Bool.noConfusion), h.free, h.live, h.words, h.lanes, h.xc, h.sessions, h.freeNums, h.opened, h.txns, h.nextTxn, h.claims, h.hwClaims, h.gens, h.spiIn, h.spiOut, h.miso, h.lastOp, h.lastReply, h.cands, h.timing, h.outs, h.pps, h.aps, h.pathProt, h.tandem, h.gallery, h.chans, h.dccOut, h.dccIn, h.points, h.dayCuts, h.tcaLog, h.macs, h.faults, h.banks, h.usedBanks, h.owners, h.retained, h.seatObjs, h.tempoFrom, h.tempoHeld, h.bases, h.scrubFrom, h.cvuRuns, h.supply, h.slacks, h.worstFn, h.slotCheck, h.vault, h.pins, h.objs⟩

theorem Same.upd_dts_tempo_tempoFrom {K B : Nat} {s0 s : State} {dts' : Tick} {tempo' : Bool} {tempoFrom' : Tick}
    (hK : K &&& 281474976710668 = 0) (h : Same K B s0 s) :
    Same K B s0 (State.mk s.pending s.now dts' tempo' s.startup s.straps s.resetLow s.rails s.free s.dict s.live s.words s.lanes
      s.xc s.sessions s.freeNums s.opened s.txns s.nextTxn s.claims s.hwClaims s.gens s.spiIn s.spiOut s.miso
      s.lastOp s.lastReply s.cands s.timing s.outs s.pps s.aps s.pathProt s.tandem s.gallery s.chans s.dccOut
      s.dccIn s.points s.dayCuts s.tcaLog s.macs s.faults s.banks s.usedBanks s.owners s.retained s.seatObjs
      tempoFrom' s.tempoHeld s.bases s.scrubFrom s.cvuRuns s.supply s.slacks s.worstFn s.slotCheck s.vault
      s.pins) :=
  ⟨h.pending, h.now, fun k => absurd k (by rw [mask_bit (mask_sub hK rfl)]; exact Bool.noConfusion), fun k => absurd k (by rw [mask_bit (mask_sub hK rfl)]; exact Bool.noConfusion), h.startup, h.straps, h.resetLow, h.rails, h.free, h.live, h.words, h.lanes, h.xc, h.sessions, h.freeNums, h.opened, h.txns, h.nextTxn, h.claims, h.hwClaims, h.gens, h.spiIn, h.spiOut, h.miso, h.lastOp, h.lastReply, h.cands, h.timing, h.outs, h.pps, h.aps, h.pathProt, h.tandem, h.gallery, h.chans, h.dccOut, h.dccIn, h.points, h.dayCuts, h.tcaLog, h.macs, h.faults, h.banks, h.usedBanks, h.owners, h.retained, h.seatObjs, fun k => absurd k (by rw [mask_bit (mask_sub hK rfl)]; exact Bool.noConfusion), h.tempoHeld, h.bases, h.scrubFrom, h.cvuRuns, h.supply, h.slacks, h.worstFn, h.slotCheck, h.vault, h.pins, h.objs⟩

theorem Same.upd_dts_tempo_startup_tempoFrom {K B : Nat} {s0 s : State} {dts' : Tick} {tempo' : Bool} {startup' : Startup} {tempoFrom' : Tick}
    (hK : K &&& 281474976710684 = 0) (h : Same K B s0 s) :
    Same K B s0 (State.mk s.pending s.now dts' tempo' startup' s.straps s.resetLow s.rails s.free s.dict s.live s.words s.lanes
      s.xc s.sessions s.freeNums s.opened s.txns s.nextTxn s.claims s.hwClaims s.gens s.spiIn s.spiOut s.miso
      s.lastOp s.lastReply s.cands s.timing s.outs s.pps s.aps s.pathProt s.tandem s.gallery s.chans s.dccOut
      s.dccIn s.points s.dayCuts s.tcaLog s.macs s.faults s.banks s.usedBanks s.owners s.retained s.seatObjs
      tempoFrom' s.tempoHeld s.bases s.scrubFrom s.cvuRuns s.supply s.slacks s.worstFn s.slotCheck s.vault
      s.pins) :=
  ⟨h.pending, h.now, fun k => absurd k (by rw [mask_bit (mask_sub hK rfl)]; exact Bool.noConfusion), fun k => absurd k (by rw [mask_bit (mask_sub hK rfl)]; exact Bool.noConfusion), fun k => absurd k (by rw [mask_bit (mask_sub hK rfl)]; exact Bool.noConfusion), h.straps, h.resetLow, h.rails, h.free, h.live, h.words, h.lanes, h.xc, h.sessions, h.freeNums, h.opened, h.txns, h.nextTxn, h.claims, h.hwClaims, h.gens, h.spiIn, h.spiOut, h.miso, h.lastOp, h.lastReply, h.cands, h.timing, h.outs, h.pps, h.aps, h.pathProt, h.tandem, h.gallery, h.chans, h.dccOut, h.dccIn, h.points, h.dayCuts, h.tcaLog, h.macs, h.faults, h.banks, h.usedBanks, h.owners, h.retained, h.seatObjs, fun k => absurd k (by rw [mask_bit (mask_sub hK rfl)]; exact Bool.noConfusion), h.tempoHeld, h.bases, h.scrubFrom, h.cvuRuns, h.supply, h.slacks, h.worstFn, h.slotCheck, h.vault, h.pins, h.objs⟩

theorem Same.upd_startup_scrubFrom {K B : Nat} {s0 s : State} {startup' : Startup} {scrubFrom' : Tick}
    (hK : K &&& 2251799813685264 = 0) (h : Same K B s0 s) :
    Same K B s0 (State.mk s.pending s.now s.dts s.tempo startup' s.straps s.resetLow s.rails s.free s.dict s.live s.words s.lanes
      s.xc s.sessions s.freeNums s.opened s.txns s.nextTxn s.claims s.hwClaims s.gens s.spiIn s.spiOut s.miso
      s.lastOp s.lastReply s.cands s.timing s.outs s.pps s.aps s.pathProt s.tandem s.gallery s.chans s.dccOut
      s.dccIn s.points s.dayCuts s.tcaLog s.macs s.faults s.banks s.usedBanks s.owners s.retained s.seatObjs
      s.tempoFrom s.tempoHeld s.bases scrubFrom' s.cvuRuns s.supply s.slacks s.worstFn s.slotCheck s.vault
      s.pins) :=
  ⟨h.pending, h.now, h.dts, h.tempo, fun k => absurd k (by rw [mask_bit (mask_sub hK rfl)]; exact Bool.noConfusion), h.straps, h.resetLow, h.rails, h.free, h.live, h.words, h.lanes, h.xc, h.sessions, h.freeNums, h.opened, h.txns, h.nextTxn, h.claims, h.hwClaims, h.gens, h.spiIn, h.spiOut, h.miso, h.lastOp, h.lastReply, h.cands, h.timing, h.outs, h.pps, h.aps, h.pathProt, h.tandem, h.gallery, h.chans, h.dccOut, h.dccIn, h.points, h.dayCuts, h.tcaLog, h.macs, h.faults, h.banks, h.usedBanks, h.owners, h.retained, h.seatObjs, h.tempoFrom, h.tempoHeld, h.bases, fun k => absurd k (by rw [mask_bit (mask_sub hK rfl)]; exact Bool.noConfusion), h.cvuRuns, h.supply, h.slacks, h.worstFn, h.slotCheck, h.vault, h.pins, h.objs⟩

theorem Same.upd_resetLow {K B : Nat} {s0 s : State} {resetLow' : Bool}
    (hK : K &&& 64 = 0) (h : Same K B s0 s) :
    Same K B s0 (State.mk s.pending s.now s.dts s.tempo s.startup s.straps resetLow' s.rails s.free s.dict s.live s.words s.lanes
      s.xc s.sessions s.freeNums s.opened s.txns s.nextTxn s.claims s.hwClaims s.gens s.spiIn s.spiOut s.miso
      s.lastOp s.lastReply s.cands s.timing s.outs s.pps s.aps s.pathProt s.tandem s.gallery s.chans s.dccOut
      s.dccIn s.points s.dayCuts s.tcaLog s.macs s.faults s.banks s.usedBanks s.owners s.retained s.seatObjs
      s.tempoFrom s.tempoHeld s.bases s.scrubFrom s.cvuRuns s.supply s.slacks s.worstFn s.slotCheck s.vault
      s.pins) :=
  ⟨h.pending, h.now, h.dts, h.tempo, h.startup, h.straps, fun k => absurd k (by rw [mask_bit (mask_sub hK rfl)]; exact Bool.noConfusion), h.rails, h.free, h.live, h.words, h.lanes, h.xc, h.sessions, h.freeNums, h.opened, h.txns, h.nextTxn, h.claims, h.hwClaims, h.gens, h.spiIn, h.spiOut, h.miso, h.lastOp, h.lastReply, h.cands, h.timing, h.outs, h.pps, h.aps, h.pathProt, h.tandem, h.gallery, h.chans, h.dccOut, h.dccIn, h.points, h.dayCuts, h.tcaLog, h.macs, h.faults, h.banks, h.usedBanks, h.owners, h.retained, h.seatObjs, h.tempoFrom, h.tempoHeld, h.bases, h.scrubFrom, h.cvuRuns, h.supply, h.slacks, h.worstFn, h.slotCheck, h.vault, h.pins, h.objs⟩

theorem Same.upd_txns_nextTxn {K B : Nat} {s0 s : State} {txns' : List Txn} {nextTxn' : Nat}
    (hK : K &&& 393216 = 0) (h : Same K B s0 s) :
    Same K B s0 (State.mk s.pending s.now s.dts s.tempo s.startup s.straps s.resetLow s.rails s.free s.dict s.live s.words s.lanes
      s.xc s.sessions s.freeNums s.opened txns' nextTxn' s.claims s.hwClaims s.gens s.spiIn s.spiOut s.miso
      s.lastOp s.lastReply s.cands s.timing s.outs s.pps s.aps s.pathProt s.tandem s.gallery s.chans s.dccOut
      s.dccIn s.points s.dayCuts s.tcaLog s.macs s.faults s.banks s.usedBanks s.owners s.retained s.seatObjs
      s.tempoFrom s.tempoHeld s.bases s.scrubFrom s.cvuRuns s.supply s.slacks s.worstFn s.slotCheck s.vault
      s.pins) :=
  ⟨h.pending, h.now, h.dts, h.tempo, h.startup, h.straps, h.resetLow, h.rails, h.free, h.live, h.words, h.lanes, h.xc, h.sessions, h.freeNums, h.opened, fun k => absurd k (by rw [mask_bit (mask_sub hK rfl)]; exact Bool.noConfusion), fun k => absurd k (by rw [mask_bit (mask_sub hK rfl)]; exact Bool.noConfusion), h.claims, h.hwClaims, h.gens, h.spiIn, h.spiOut, h.miso, h.lastOp, h.lastReply, h.cands, h.timing, h.outs, h.pps, h.aps, h.pathProt, h.tandem, h.gallery, h.chans, h.dccOut, h.dccIn, h.points, h.dayCuts, h.tcaLog, h.macs, h.faults, h.banks, h.usedBanks, h.owners, h.retained, h.seatObjs, h.tempoFrom, h.tempoHeld, h.bases, h.scrubFrom, h.cvuRuns, h.supply, h.slacks, h.worstFn, h.slotCheck, h.vault, h.pins, h.objs⟩

theorem Same.upd_pps_pins {K B : Nat} {s0 s : State} {pps' : Map Pulse} {pins' : Map Pin}
    (hK : K &&& 288230377225453568 = 0) (h : Same K B s0 s) :
    Same K B s0 (State.mk s.pending s.now s.dts s.tempo s.startup s.straps s.resetLow s.rails s.free s.dict s.live s.words s.lanes
      s.xc s.sessions s.freeNums s.opened s.txns s.nextTxn s.claims s.hwClaims s.gens s.spiIn s.spiOut s.miso
      s.lastOp s.lastReply s.cands s.timing s.outs pps' s.aps s.pathProt s.tandem s.gallery s.chans s.dccOut
      s.dccIn s.points s.dayCuts s.tcaLog s.macs s.faults s.banks s.usedBanks s.owners s.retained s.seatObjs
      s.tempoFrom s.tempoHeld s.bases s.scrubFrom s.cvuRuns s.supply s.slacks s.worstFn s.slotCheck s.vault
      pins') :=
  ⟨h.pending, h.now, h.dts, h.tempo, h.startup, h.straps, h.resetLow, h.rails, h.free, h.live, h.words, h.lanes, h.xc, h.sessions, h.freeNums, h.opened, h.txns, h.nextTxn, h.claims, h.hwClaims, h.gens, h.spiIn, h.spiOut, h.miso, h.lastOp, h.lastReply, h.cands, h.timing, h.outs, fun k => absurd k (by rw [mask_bit (mask_sub hK rfl)]; exact Bool.noConfusion), h.aps, h.pathProt, h.tandem, h.gallery, h.chans, h.dccOut, h.dccIn, h.points, h.dayCuts, h.tcaLog, h.macs, h.faults, h.banks, h.usedBanks, h.owners, h.retained, h.seatObjs, h.tempoFrom, h.tempoHeld, h.bases, h.scrubFrom, h.cvuRuns, h.supply, h.slacks, h.worstFn, h.slotCheck, h.vault, fun k => absurd k (by rw [mask_bit (mask_sub hK rfl)]; exact Bool.noConfusion), h.objs⟩

theorem Same.upd_dts_timing_slacks_worstFn {K B : Nat} {s0 s : State} {dts' : Tick} {timing' : Timing} {slacks' : List (Nat × Nat × Option Int)} {worstFn' : Option Nat}
    (hK : K &&& 54043195796881412 = 0) (h : Same K B s0 s) :
    Same K B s0 (State.mk s.pending s.now dts' s.tempo s.startup s.straps s.resetLow s.rails s.free s.dict s.live s.words s.lanes
      s.xc s.sessions s.freeNums s.opened s.txns s.nextTxn s.claims s.hwClaims s.gens s.spiIn s.spiOut s.miso
      s.lastOp s.lastReply s.cands timing' s.outs s.pps s.aps s.pathProt s.tandem s.gallery s.chans s.dccOut
      s.dccIn s.points s.dayCuts s.tcaLog s.macs s.faults s.banks s.usedBanks s.owners s.retained s.seatObjs
      s.tempoFrom s.tempoHeld s.bases s.scrubFrom s.cvuRuns s.supply slacks' worstFn' s.slotCheck s.vault
      s.pins) :=
  ⟨h.pending, h.now, fun k => absurd k (by rw [mask_bit (mask_sub hK rfl)]; exact Bool.noConfusion), h.tempo, h.startup, h.straps, h.resetLow, h.rails, h.free, h.live, h.words, h.lanes, h.xc, h.sessions, h.freeNums, h.opened, h.txns, h.nextTxn, h.claims, h.hwClaims, h.gens, h.spiIn, h.spiOut, h.miso, h.lastOp, h.lastReply, h.cands, fun k => absurd k (by rw [mask_bit (mask_sub hK rfl)]; exact Bool.noConfusion), h.outs, h.pps, h.aps, h.pathProt, h.tandem, h.gallery, h.chans, h.dccOut, h.dccIn, h.points, h.dayCuts, h.tcaLog, h.macs, h.faults, h.banks, h.usedBanks, h.owners, h.retained, h.seatObjs, h.tempoFrom, h.tempoHeld, h.bases, h.scrubFrom, h.cvuRuns, h.supply, fun k => absurd k (by rw [mask_bit (mask_sub hK rfl)]; exact Bool.noConfusion), fun k => absurd k (by rw [mask_bit (mask_sub hK rfl)]; exact Bool.noConfusion), h.slotCheck, h.vault, h.pins, h.objs⟩

theorem Same.upd_usedBanks {K B : Nat} {s0 s : State} {usedBanks' : List Nat}
    (hK : K &&& 17592186044416 = 0) (h : Same K B s0 s) :
    Same K B s0 (State.mk s.pending s.now s.dts s.tempo s.startup s.straps s.resetLow s.rails s.free s.dict s.live s.words s.lanes
      s.xc s.sessions s.freeNums s.opened s.txns s.nextTxn s.claims s.hwClaims s.gens s.spiIn s.spiOut s.miso
      s.lastOp s.lastReply s.cands s.timing s.outs s.pps s.aps s.pathProt s.tandem s.gallery s.chans s.dccOut
      s.dccIn s.points s.dayCuts s.tcaLog s.macs s.faults s.banks usedBanks' s.owners s.retained s.seatObjs
      s.tempoFrom s.tempoHeld s.bases s.scrubFrom s.cvuRuns s.supply s.slacks s.worstFn s.slotCheck s.vault
      s.pins) :=
  ⟨h.pending, h.now, h.dts, h.tempo, h.startup, h.straps, h.resetLow, h.rails, h.free, h.live, h.words, h.lanes, h.xc, h.sessions, h.freeNums, h.opened, h.txns, h.nextTxn, h.claims, h.hwClaims, h.gens, h.spiIn, h.spiOut, h.miso, h.lastOp, h.lastReply, h.cands, h.timing, h.outs, h.pps, h.aps, h.pathProt, h.tandem, h.gallery, h.chans, h.dccOut, h.dccIn, h.points, h.dayCuts, h.tcaLog, h.macs, h.faults, h.banks, fun k => absurd k (by rw [mask_bit (mask_sub hK rfl)]; exact Bool.noConfusion), h.owners, h.retained, h.seatObjs, h.tempoFrom, h.tempoHeld, h.bases, h.scrubFrom, h.cvuRuns, h.supply, h.slacks, h.worstFn, h.slotCheck, h.vault, h.pins, h.objs⟩

theorem Same.upd_seatObjs {K B : Nat} {s0 s : State} {seatObjs' : List Nat}
    (hK : K &&& 140737488355328 = 0) (h : Same K B s0 s) :
    Same K B s0 (State.mk s.pending s.now s.dts s.tempo s.startup s.straps s.resetLow s.rails s.free s.dict s.live s.words s.lanes
      s.xc s.sessions s.freeNums s.opened s.txns s.nextTxn s.claims s.hwClaims s.gens s.spiIn s.spiOut s.miso
      s.lastOp s.lastReply s.cands s.timing s.outs s.pps s.aps s.pathProt s.tandem s.gallery s.chans s.dccOut
      s.dccIn s.points s.dayCuts s.tcaLog s.macs s.faults s.banks s.usedBanks s.owners s.retained seatObjs'
      s.tempoFrom s.tempoHeld s.bases s.scrubFrom s.cvuRuns s.supply s.slacks s.worstFn s.slotCheck s.vault
      s.pins) :=
  ⟨h.pending, h.now, h.dts, h.tempo, h.startup, h.straps, h.resetLow, h.rails, h.free, h.live, h.words, h.lanes, h.xc, h.sessions, h.freeNums, h.opened, h.txns, h.nextTxn, h.claims, h.hwClaims, h.gens, h.spiIn, h.spiOut, h.miso, h.lastOp, h.lastReply, h.cands, h.timing, h.outs, h.pps, h.aps, h.pathProt, h.tandem, h.gallery, h.chans, h.dccOut, h.dccIn, h.points, h.dayCuts, h.tcaLog, h.macs, h.faults, h.banks, h.usedBanks, h.owners, h.retained, fun k => absurd k (by rw [mask_bit (mask_sub hK rfl)]; exact Bool.noConfusion), h.tempoFrom, h.tempoHeld, h.bases, h.scrubFrom, h.cvuRuns, h.supply, h.slacks, h.worstFn, h.slotCheck, h.vault, h.pins, h.objs⟩

theorem Same.upd_xc_txns {K B : Nat} {s0 s : State} {xc' : Xc} {txns' : List Txn}
    (hK : K &&& 139264 = 0) (h : Same K B s0 s) :
    Same K B s0 (State.mk s.pending s.now s.dts s.tempo s.startup s.straps s.resetLow s.rails s.free s.dict s.live s.words s.lanes
      xc' s.sessions s.freeNums s.opened txns' s.nextTxn s.claims s.hwClaims s.gens s.spiIn s.spiOut s.miso
      s.lastOp s.lastReply s.cands s.timing s.outs s.pps s.aps s.pathProt s.tandem s.gallery s.chans s.dccOut
      s.dccIn s.points s.dayCuts s.tcaLog s.macs s.faults s.banks s.usedBanks s.owners s.retained s.seatObjs
      s.tempoFrom s.tempoHeld s.bases s.scrubFrom s.cvuRuns s.supply s.slacks s.worstFn s.slotCheck s.vault
      s.pins) :=
  ⟨h.pending, h.now, h.dts, h.tempo, h.startup, h.straps, h.resetLow, h.rails, h.free, h.live, h.words, h.lanes, fun k => absurd k (by rw [mask_bit (mask_sub hK rfl)]; exact Bool.noConfusion), h.sessions, h.freeNums, h.opened, fun k => absurd k (by rw [mask_bit (mask_sub hK rfl)]; exact Bool.noConfusion), h.nextTxn, h.claims, h.hwClaims, h.gens, h.spiIn, h.spiOut, h.miso, h.lastOp, h.lastReply, h.cands, h.timing, h.outs, h.pps, h.aps, h.pathProt, h.tandem, h.gallery, h.chans, h.dccOut, h.dccIn, h.points, h.dayCuts, h.tcaLog, h.macs, h.faults, h.banks, h.usedBanks, h.owners, h.retained, h.seatObjs, h.tempoFrom, h.tempoHeld, h.bases, h.scrubFrom, h.cvuRuns, h.supply, h.slacks, h.worstFn, h.slotCheck, h.vault, h.pins, h.objs⟩

theorem Same.upd_xc_txns_nextTxn {K B : Nat} {s0 s : State} {xc' : Xc} {txns' : List Txn} {nextTxn' : Nat}
    (hK : K &&& 401408 = 0) (h : Same K B s0 s) :
    Same K B s0 (State.mk s.pending s.now s.dts s.tempo s.startup s.straps s.resetLow s.rails s.free s.dict s.live s.words s.lanes
      xc' s.sessions s.freeNums s.opened txns' nextTxn' s.claims s.hwClaims s.gens s.spiIn s.spiOut s.miso
      s.lastOp s.lastReply s.cands s.timing s.outs s.pps s.aps s.pathProt s.tandem s.gallery s.chans s.dccOut
      s.dccIn s.points s.dayCuts s.tcaLog s.macs s.faults s.banks s.usedBanks s.owners s.retained s.seatObjs
      s.tempoFrom s.tempoHeld s.bases s.scrubFrom s.cvuRuns s.supply s.slacks s.worstFn s.slotCheck s.vault
      s.pins) :=
  ⟨h.pending, h.now, h.dts, h.tempo, h.startup, h.straps, h.resetLow, h.rails, h.free, h.live, h.words, h.lanes, fun k => absurd k (by rw [mask_bit (mask_sub hK rfl)]; exact Bool.noConfusion), h.sessions, h.freeNums, h.opened, fun k => absurd k (by rw [mask_bit (mask_sub hK rfl)]; exact Bool.noConfusion), fun k => absurd k (by rw [mask_bit (mask_sub hK rfl)]; exact Bool.noConfusion), h.claims, h.hwClaims, h.gens, h.spiIn, h.spiOut, h.miso, h.lastOp, h.lastReply, h.cands, h.timing, h.outs, h.pps, h.aps, h.pathProt, h.tandem, h.gallery, h.chans, h.dccOut, h.dccIn, h.points, h.dayCuts, h.tcaLog, h.macs, h.faults, h.banks, h.usedBanks, h.owners, h.retained, h.seatObjs, h.tempoFrom, h.tempoHeld, h.bases, h.scrubFrom, h.cvuRuns, h.supply, h.slacks, h.worstFn, h.slotCheck, h.vault, h.pins, h.objs⟩

theorem Same.upd_lastReply {K B : Nat} {s0 s : State} {lastReply' : Option Reply}
    (hK : K &&& 67108864 = 0) (h : Same K B s0 s) :
    Same K B s0 (State.mk s.pending s.now s.dts s.tempo s.startup s.straps s.resetLow s.rails s.free s.dict s.live s.words s.lanes
      s.xc s.sessions s.freeNums s.opened s.txns s.nextTxn s.claims s.hwClaims s.gens s.spiIn s.spiOut s.miso
      s.lastOp lastReply' s.cands s.timing s.outs s.pps s.aps s.pathProt s.tandem s.gallery s.chans s.dccOut
      s.dccIn s.points s.dayCuts s.tcaLog s.macs s.faults s.banks s.usedBanks s.owners s.retained s.seatObjs
      s.tempoFrom s.tempoHeld s.bases s.scrubFrom s.cvuRuns s.supply s.slacks s.worstFn s.slotCheck s.vault
      s.pins) :=
  ⟨h.pending, h.now, h.dts, h.tempo, h.startup, h.straps, h.resetLow, h.rails, h.free, h.live, h.words, h.lanes, h.xc, h.sessions, h.freeNums, h.opened, h.txns, h.nextTxn, h.claims, h.hwClaims, h.gens, h.spiIn, h.spiOut, h.miso, h.lastOp, fun k => absurd k (by rw [mask_bit (mask_sub hK rfl)]; exact Bool.noConfusion), h.cands, h.timing, h.outs, h.pps, h.aps, h.pathProt, h.tandem, h.gallery, h.chans, h.dccOut, h.dccIn, h.points, h.dayCuts, h.tcaLog, h.macs, h.faults, h.banks, h.usedBanks, h.owners, h.retained, h.seatObjs, h.tempoFrom, h.tempoHeld, h.bases, h.scrubFrom, h.cvuRuns, h.supply, h.slacks, h.worstFn, h.slotCheck, h.vault, h.pins, h.objs⟩

theorem Same.upd_opened {K B : Nat} {s0 s : State} {opened' : List (Src × Nat × Reply × Tick)}
    (hK : K &&& 65536 = 0) (h : Same K B s0 s) :
    Same K B s0 (State.mk s.pending s.now s.dts s.tempo s.startup s.straps s.resetLow s.rails s.free s.dict s.live s.words s.lanes
      s.xc s.sessions s.freeNums opened' s.txns s.nextTxn s.claims s.hwClaims s.gens s.spiIn s.spiOut s.miso
      s.lastOp s.lastReply s.cands s.timing s.outs s.pps s.aps s.pathProt s.tandem s.gallery s.chans s.dccOut
      s.dccIn s.points s.dayCuts s.tcaLog s.macs s.faults s.banks s.usedBanks s.owners s.retained s.seatObjs
      s.tempoFrom s.tempoHeld s.bases s.scrubFrom s.cvuRuns s.supply s.slacks s.worstFn s.slotCheck s.vault
      s.pins) :=
  ⟨h.pending, h.now, h.dts, h.tempo, h.startup, h.straps, h.resetLow, h.rails, h.free, h.live, h.words, h.lanes, h.xc, h.sessions, h.freeNums, fun k => absurd k (by rw [mask_bit (mask_sub hK rfl)]; exact Bool.noConfusion), h.txns, h.nextTxn, h.claims, h.hwClaims, h.gens, h.spiIn, h.spiOut, h.miso, h.lastOp, h.lastReply, h.cands, h.timing, h.outs, h.pps, h.aps, h.pathProt, h.tandem, h.gallery, h.chans, h.dccOut, h.dccIn, h.points, h.dayCuts, h.tcaLog, h.macs, h.faults, h.banks, h.usedBanks, h.owners, h.retained, h.seatObjs, h.tempoFrom, h.tempoHeld, h.bases, h.scrubFrom, h.cvuRuns, h.supply, h.slacks, h.worstFn, h.slotCheck, h.vault, h.pins, h.objs⟩

theorem Same.upd_spiIn {K B : Nat} {s0 s : State} {spiIn' : List (List Byte)}
    (hK : K &&& 4194304 = 0) (h : Same K B s0 s) :
    Same K B s0 (State.mk s.pending s.now s.dts s.tempo s.startup s.straps s.resetLow s.rails s.free s.dict s.live s.words s.lanes
      s.xc s.sessions s.freeNums s.opened s.txns s.nextTxn s.claims s.hwClaims s.gens spiIn' s.spiOut s.miso
      s.lastOp s.lastReply s.cands s.timing s.outs s.pps s.aps s.pathProt s.tandem s.gallery s.chans s.dccOut
      s.dccIn s.points s.dayCuts s.tcaLog s.macs s.faults s.banks s.usedBanks s.owners s.retained s.seatObjs
      s.tempoFrom s.tempoHeld s.bases s.scrubFrom s.cvuRuns s.supply s.slacks s.worstFn s.slotCheck s.vault
      s.pins) :=
  ⟨h.pending, h.now, h.dts, h.tempo, h.startup, h.straps, h.resetLow, h.rails, h.free, h.live, h.words, h.lanes, h.xc, h.sessions, h.freeNums, h.opened, h.txns, h.nextTxn, h.claims, h.hwClaims, h.gens, fun k => absurd k (by rw [mask_bit (mask_sub hK rfl)]; exact Bool.noConfusion), h.spiOut, h.miso, h.lastOp, h.lastReply, h.cands, h.timing, h.outs, h.pps, h.aps, h.pathProt, h.tandem, h.gallery, h.chans, h.dccOut, h.dccIn, h.points, h.dayCuts, h.tcaLog, h.macs, h.faults, h.banks, h.usedBanks, h.owners, h.retained, h.seatObjs, h.tempoFrom, h.tempoHeld, h.bases, h.scrubFrom, h.cvuRuns, h.supply, h.slacks, h.worstFn, h.slotCheck, h.vault, h.pins, h.objs⟩

theorem Same.upd_miso {K B : Nat} {s0 s : State} {miso' : List Byte}
    (hK : K &&& 16777216 = 0) (h : Same K B s0 s) :
    Same K B s0 (State.mk s.pending s.now s.dts s.tempo s.startup s.straps s.resetLow s.rails s.free s.dict s.live s.words s.lanes
      s.xc s.sessions s.freeNums s.opened s.txns s.nextTxn s.claims s.hwClaims s.gens s.spiIn s.spiOut miso'
      s.lastOp s.lastReply s.cands s.timing s.outs s.pps s.aps s.pathProt s.tandem s.gallery s.chans s.dccOut
      s.dccIn s.points s.dayCuts s.tcaLog s.macs s.faults s.banks s.usedBanks s.owners s.retained s.seatObjs
      s.tempoFrom s.tempoHeld s.bases s.scrubFrom s.cvuRuns s.supply s.slacks s.worstFn s.slotCheck s.vault
      s.pins) :=
  ⟨h.pending, h.now, h.dts, h.tempo, h.startup, h.straps, h.resetLow, h.rails, h.free, h.live, h.words, h.lanes, h.xc, h.sessions, h.freeNums, h.opened, h.txns, h.nextTxn, h.claims, h.hwClaims, h.gens, h.spiIn, h.spiOut, fun k => absurd k (by rw [mask_bit (mask_sub hK rfl)]; exact Bool.noConfusion), h.lastOp, h.lastReply, h.cands, h.timing, h.outs, h.pps, h.aps, h.pathProt, h.tandem, h.gallery, h.chans, h.dccOut, h.dccIn, h.points, h.dayCuts, h.tcaLog, h.macs, h.faults, h.banks, h.usedBanks, h.owners, h.retained, h.seatObjs, h.tempoFrom, h.tempoHeld, h.bases, h.scrubFrom, h.cvuRuns, h.supply, h.slacks, h.worstFn, h.slotCheck, h.vault, h.pins, h.objs⟩

theorem Same.upd_spiOut_miso {K B : Nat} {s0 s : State} {spiOut' : List Reply} {miso' : List Byte}
    (hK : K &&& 25165824 = 0) (h : Same K B s0 s) :
    Same K B s0 (State.mk s.pending s.now s.dts s.tempo s.startup s.straps s.resetLow s.rails s.free s.dict s.live s.words s.lanes
      s.xc s.sessions s.freeNums s.opened s.txns s.nextTxn s.claims s.hwClaims s.gens s.spiIn spiOut' miso'
      s.lastOp s.lastReply s.cands s.timing s.outs s.pps s.aps s.pathProt s.tandem s.gallery s.chans s.dccOut
      s.dccIn s.points s.dayCuts s.tcaLog s.macs s.faults s.banks s.usedBanks s.owners s.retained s.seatObjs
      s.tempoFrom s.tempoHeld s.bases s.scrubFrom s.cvuRuns s.supply s.slacks s.worstFn s.slotCheck s.vault
      s.pins) :=
  ⟨h.pending, h.now, h.dts, h.tempo, h.startup, h.straps, h.resetLow, h.rails, h.free, h.live, h.words, h.lanes, h.xc, h.sessions, h.freeNums, h.opened, h.txns, h.nextTxn, h.claims, h.hwClaims, h.gens, h.spiIn, fun k => absurd k (by rw [mask_bit (mask_sub hK rfl)]; exact Bool.noConfusion), fun k => absurd k (by rw [mask_bit (mask_sub hK rfl)]; exact Bool.noConfusion), h.lastOp, h.lastReply, h.cands, h.timing, h.outs, h.pps, h.aps, h.pathProt, h.tandem, h.gallery, h.chans, h.dccOut, h.dccIn, h.points, h.dayCuts, h.tcaLog, h.macs, h.faults, h.banks, h.usedBanks, h.owners, h.retained, h.seatObjs, h.tempoFrom, h.tempoHeld, h.bases, h.scrubFrom, h.cvuRuns, h.supply, h.slacks, h.worstFn, h.slotCheck, h.vault, h.pins, h.objs⟩

theorem State.setVal_same {K B : Nat} {s0 s : State} (o : Nat) (v : Val) (hK : K &&& 512 = 0) (hB0 : B ≤ o)
    (hk : Same K B s0 s) : Same K B s0 (s.setVal o v) := by
  constructor
  case objs =>
    intro p hp
    have hne : p ≠ o := by omega
    rw [← hk.objs p hp]
    exact Map.get_set_ne _ _ hne v s.dict
  case pending => exact hk.pending
  case now => exact hk.now
  case dts => exact hk.dts
  case tempo => exact hk.tempo
  case startup => exact hk.startup
  case straps => exact hk.straps
  case resetLow => exact hk.resetLow
  case rails => exact hk.rails
  case free => exact hk.free
  case live => exact hk.live
  case words => exact hk.words
  case lanes => exact hk.lanes
  case xc => exact hk.xc
  case sessions => exact hk.sessions
  case freeNums => exact hk.freeNums
  case opened => exact hk.opened
  case txns => exact hk.txns
  case nextTxn => exact hk.nextTxn
  case claims => exact hk.claims
  case hwClaims => exact hk.hwClaims
  case gens => exact hk.gens
  case spiIn => exact hk.spiIn
  case spiOut => exact hk.spiOut
  case miso => exact hk.miso
  case lastOp => exact hk.lastOp
  case lastReply => exact hk.lastReply
  case cands => exact hk.cands
  case timing => exact hk.timing
  case outs => exact hk.outs
  case pps => exact hk.pps
  case aps => exact hk.aps
  case pathProt => exact hk.pathProt
  case tandem => exact hk.tandem
  case gallery => exact hk.gallery
  case chans => exact hk.chans
  case dccOut => exact hk.dccOut
  case dccIn => exact hk.dccIn
  case points => exact hk.points
  case dayCuts => exact hk.dayCuts
  case tcaLog => exact hk.tcaLog
  case macs => exact hk.macs
  case faults => exact hk.faults
  case banks => exact hk.banks
  case usedBanks => exact hk.usedBanks
  case owners => exact hk.owners
  case retained => exact hk.retained
  case seatObjs => exact hk.seatObjs
  case tempoFrom => exact hk.tempoFrom
  case tempoHeld => exact hk.tempoHeld
  case bases => exact hk.bases
  case scrubFrom => exact hk.scrubFrom
  case cvuRuns => exact hk.cvuRuns
  case supply => exact hk.supply
  case slacks => exact hk.slacks
  case worstFn => exact hk.worstFn
  case slotCheck => exact hk.slotCheck
  case vault => exact hk.vault
  case pins => exact hk.pins
theorem State.setSession_same {K B : Nat} {s0 s : State} (x : Session) (hK : K &&& 16384 = 0)
    (hk : Same K B s0 s) : Same K B s0 (s.setSession x) :=
  Same.upd_sessions hK hk

theorem State.modSession_same {K B : Nat} {s0 s : State} (n : Nat) (f : Session → Session) (hK : K &&& 16384 = 0)
    (hk : Same K B s0 s) : Same K B s0 (s.modSession n f) :=
  Same.upd_sessions hK hk

end Sys2Proof.Machine
end

