-- ==== Sys2Proof/Laws/SameOps.lean ====
section
/-! SUPPORT. What the operations of Machine/Ops.lean leave (Same). -/

namespace Sys2Proof.Machine

theorem State.setFld_same {K B : Nat} {s0 : State} {s : State} (f : Fld) (x : Nat) (i : Nat) (e : Nat)
    (hK : K &&& 512 = 0) (hB0 : B ≤ f.base) (hk : Same K B s0 s) :
    Same K B s0 (State.setFld s f x i e) := by
  unfold State.setFld
  try dsimp only
  repeat' first
    | with_reducible assumption
    | with_reducible rfl
    | exact mask_sub hK rfl
    | exact le_objAt hB0
    | with_reducible apply State.setVal_same
    | dsimp only
    | split
    | intro _

theorem State.setOn_same {K B : Nat} {s0 : State} {s : State} (f : Fld) (b : Bool) (i : Nat) (e : Nat)
    (hK : K &&& 512 = 0) (hB0 : B ≤ f.base) (hk : Same K B s0 s) :
    Same K B s0 (State.setOn s f b i e) := by
  unfold State.setOn
  try dsimp only
  repeat' first
    | with_reducible assumption
    | with_reducible rfl
    | exact mask_sub hK rfl
    | exact le_objAt hB0
    | with_reducible apply State.setFld_same
    | dsimp only
    | split
    | intro _

theorem State.setLive_same {K B : Nat} {s0 : State} {s : State} (o : Nat) (n : Nat)
    (hK : K &&& 1024 = 0) (hk : Same K B s0 s) :
    Same K B s0 (State.setLive s o n) := by
  unfold State.setLive
  try dsimp only
  repeat' first
    | with_reducible assumption
    | with_reducible rfl
    | exact mask_sub hK rfl
    | dsimp only
    | split
    | intro _
    | with_reducible apply Same.upd_live

theorem State.bumpLive_same {K B : Nat} {s0 : State} {s : State} (o : Nat) (k : Nat)
    (hK : K &&& 1024 = 0) (hk : Same K B s0 s) :
    Same K B s0 (State.bumpLive s o k) := by
  unfold State.bumpLive
  try dsimp only
  repeat' first
    | with_reducible assumption
    | with_reducible rfl
    | exact mask_sub hK rfl
    | with_reducible apply State.setLive_same
    | dsimp only
    | split
    | intro _

theorem State.bump_same {K B : Nat} {s0 : State} {s : State} (o : Nat) (k : Nat) (w : Nat)
    (hK : K &&& 512 = 0) (hB0 : B ≤ o) (hk : Same K B s0 s) :
    Same K B s0 (State.bump s o k w) := by
  unfold State.bump
  try dsimp only
  repeat' first
    | with_reducible assumption
    | with_reducible rfl
    | exact mask_sub hK rfl
    | exact le_objAt hB0
    | with_reducible apply State.setVal_same
    | dsimp only
    | split
    | intro _

theorem State.drawn_same {K B : Nat} {s0 : State} {s : State}
    (hK : K &&& 256 = 0) (hk : Same K B s0 s) :
    Same K B s0 (State.drawn s) := by
  unfold State.drawn
  try dsimp only
  repeat' first
    | with_reducible assumption
    | with_reducible rfl
    | exact mask_sub hK rfl
    | dsimp only
    | split
    | intro _
    | with_reducible apply Same.upd_free

theorem State.setLane_same {K B : Nat} {s0 : State} {s : State} (i : Nat) (l : Lane)
    (hK : K &&& 4096 = 0) (hk : Same K B s0 s) :
    Same K B s0 (State.setLane s i l) := by
  unfold State.setLane
  try dsimp only
  repeat' first
    | with_reducible assumption
    | with_reducible rfl
    | exact mask_sub hK rfl
    | dsimp only
    | split
    | intro _
    | with_reducible apply Same.upd_lanes

theorem State.modLane_same {K B : Nat} {s0 : State} {s : State} (i : Nat) (f : Lane → Lane)
    (hK : K &&& 4096 = 0) (hk : Same K B s0 s) :
    Same K B s0 (State.modLane s i f) := by
  unfold State.modLane
  try dsimp only
  repeat' first
    | with_reducible assumption
    | with_reducible rfl
    | exact mask_sub hK rfl
    | with_reducible apply State.setLane_same
    | dsimp only
    | split
    | intro _

theorem State.setCand_same {K B : Nat} {s0 : State} {s : State} (i : Nat) (c : Cand)
    (hK : K &&& 134217728 = 0) (hk : Same K B s0 s) :
    Same K B s0 (State.setCand s i c) := by
  unfold State.setCand
  try dsimp only
  repeat' first
    | with_reducible assumption
    | with_reducible rfl
    | exact mask_sub hK rfl
    | dsimp only
    | split
    | intro _
    | with_reducible apply Same.upd_cands

theorem State.setOut_same {K B : Nat} {s0 : State} {s : State} (i : Nat) (c : Out)
    (hK : K &&& 536870912 = 0) (hk : Same K B s0 s) :
    Same K B s0 (State.setOut s i c) := by
  unfold State.setOut
  try dsimp only
  repeat' first
    | with_reducible assumption
    | with_reducible rfl
    | exact mask_sub hK rfl
    | dsimp only
    | split
    | intro _
    | with_reducible apply Same.upd_outs

theorem State.setAps_same {K B : Nat} {s0 : State} {s : State} (g : Nat) (a : Aps)
    (hK : K &&& 2147483648 = 0) (hk : Same K B s0 s) :
    Same K B s0 (State.setAps s g a) := by
  unfold State.setAps
  try dsimp only
  repeat' first
    | with_reducible assumption
    | with_reducible rfl
    | exact mask_sub hK rfl
    | dsimp only
    | split
    | intro _
    | with_reducible apply Same.upd_aps

theorem State.setPprot_same {K B : Nat} {s0 : State} {s : State} (g : Nat) (p : PathProt)
    (hK : K &&& 4294967296 = 0) (hk : Same K B s0 s) :
    Same K B s0 (State.setPprot s g p) := by
  unfold State.setPprot
  try dsimp only
  repeat' first
    | with_reducible assumption
    | with_reducible rfl
    | exact mask_sub hK rfl
    | dsimp only
    | split
    | intro _
    | with_reducible apply Same.upd_pathProt

theorem State.setChan_same {K B : Nat} {s0 : State} {s : State} (k : Nat) (c : Chan)
    (hK : K &&& 34359738368 = 0) (hk : Same K B s0 s) :
    Same K B s0 (State.setChan s k c) := by
  unfold State.setChan
  try dsimp only
  repeat' first
    | with_reducible assumption
    | with_reducible rfl
    | exact mask_sub hK rfl
    | dsimp only
    | split
    | intro _
    | with_reducible apply Same.upd_chans

theorem State.setPoint_same {K B : Nat} {s0 : State} {s : State} (k : Nat) (p : Point)
    (hK : K &&& 274877906944 = 0) (hk : Same K B s0 s) :
    Same K B s0 (State.setPoint s k p) := by
  unfold State.setPoint
  try dsimp only
  repeat' first
    | with_reducible assumption
    | with_reducible rfl
    | exact mask_sub hK rfl
    | dsimp only
    | split
    | intro _
    | with_reducible apply Same.upd_points

theorem State.setMac_same {K B : Nat} {s0 : State} {s : State} (m : Nat) (x : Mac)
    (hK : K &&& 2199023255552 = 0) (hk : Same K B s0 s) :
    Same K B s0 (State.setMac s m x) := by
  unfold State.setMac
  try dsimp only
  repeat' first
    | with_reducible assumption
    | with_reducible rfl
    | exact mask_sub hK rfl
    | dsimp only
    | split
    | intro _
    | with_reducible apply Same.upd_macs

theorem State.setPin_same {K B : Nat} {s0 : State} {s : State} (u : Nat) (p : Pin)
    (hK : K &&& 288230376151711744 = 0) (hk : Same K B s0 s) :
    Same K B s0 (State.setPin s u p) := by
  unfold State.setPin
  try dsimp only
  repeat' first
    | with_reducible assumption
    | with_reducible rfl
    | exact mask_sub hK rfl
    | dsimp only
    | split
    | intro _
    | with_reducible apply Same.upd_pins

theorem State.setWord_same {K B : Nat} {s0 : State} {s : State} (o : Nat) (k : Nat) (w : Word)
    (hK : K &&& 2048 = 0) (hk : Same K B s0 s) :
    Same K B s0 (State.setWord s o k w) := by
  unfold State.setWord
  try dsimp only
  repeat' first
    | with_reducible assumption
    | with_reducible rfl
    | exact mask_sub hK rfl
    | dsimp only
    | split
    | intro _
    | with_reducible apply Same.upd_words

end Sys2Proof.Machine
end

