-- ==== Sys2Proof/Laws/SameOperands.lean ====
section
/-! SUPPORT. What the operations of Machine/Operands.lean leave (Same). -/

namespace Sys2Proof.Machine

theorem State.setSelOn_same {K B : Nat} {s0 : State} {s : State} (b : Bool) (g : Nat) (st : Nat)
    (hK : K &&& 8192 = 0) (hk : Same K B s0 s) :
    Same K B s0 (State.setSelOn s b g st) := by
  unfold State.setSelOn
  try dsimp only
  repeat' first
    | with_reducible assumption
    | with_reducible rfl
    | exact mask_sub hK rfl
    | dsimp only
    | split
    | intro _
    | with_reducible apply Same.upd_xc

theorem State.setSel_same {K B : Nat} {s0 : State} {s : State} (g : Nat) (st : Nat)
    (hK : K &&& 8192 = 0) (hk : Same K B s0 s) :
    Same K B s0 (State.setSel s g st) := by
  unfold State.setSel
  try dsimp only
  repeat' first
    | with_reducible assumption
    | with_reducible rfl
    | exact mask_sub hK rfl
    | with_reducible apply State.setSelOn_same
    | dsimp only
    | split
    | intro _

end Sys2Proof.Machine
end

