-- ==== Sys2Proof/Laws/SameFlags.lean ====
section
/-! SUPPORT. What the operations of Machine/Flags.lean leave (Same). -/

namespace Sys2Proof.Machine

theorem State.queueAll_same {K B : Nat} {s0 : State} {s : State} (o : Nat)
    (hK : K &&& 16384 = 0) (hB : B ≤ 0x11f00020) (hk : Same K B s0 s) :
    Same K B s0 (State.queueAll s o) := by
  unfold State.queueAll
  try dsimp only
  repeat' first
    | with_reducible assumption
    | with_reducible rfl
    | exact mask_sub hK rfl
    | exact le_objAt (Nat.le_trans hB (by decide))
    | exact Nat.le_trans hB (by decide)
    | exact Nat.le_trans hB (by split <;> decide)
    | dsimp only
    | split
    | intro _
    | with_reducible apply Same.upd_sessions

theorem State.event_same {K B : Nat} {s0 : State} {s : State} (o : Nat)
    (hK : K &&& 16896 = 0) (hB : B ≤ 0x11f00020) (hk : Same K B s0 s) :
    Same K B s0 (State.event s o) := by
  unfold State.event
  try dsimp only
  repeat' first
    | with_reducible assumption
    | with_reducible rfl
    | exact mask_sub hK rfl
    | exact le_objAt (Nat.le_trans hB (by decide))
    | exact Nat.le_trans hB (by decide)
    | exact Nat.le_trans hB (by split <;> decide)
    | with_reducible apply State.setOn_same
    | with_reducible apply State.queueAll_same
    | dsimp only
    | split
    | intro _

theorem State.raiseBit_same {K B : Nat} {s0 : State} {s : State} (o : Nat) (k : Nat)
    (hK : K &&& 16896 = 0) (hB : B ≤ 0x11f00020) (hB0 : B ≤ o) (hk : Same K B s0 s) :
    Same K B s0 (State.raiseBit s o k) := by
  unfold State.raiseBit
  try dsimp only
  repeat' first
    | with_reducible assumption
    | with_reducible rfl
    | exact mask_sub hK rfl
    | exact le_objAt (Nat.le_trans hB (by decide))
    | exact Nat.le_trans hB (by decide)
    | exact Nat.le_trans hB (by split <;> decide)
    | exact le_objAt hB0
    | with_reducible apply State.setVal_same
    | with_reducible apply State.event_same
    | dsimp only
    | split
    | intro _

theorem State.raise_same {K B : Nat} {s0 : State} {s : State} (f : Fld) (i : Nat) (e : Nat)
    (hK : K &&& 16896 = 0) (hB : B ≤ 0x11f00020) (hB0 : B ≤ f.base) (hk : Same K B s0 s) :
    Same K B s0 (State.raise s f i e) := by
  unfold State.raise
  try dsimp only
  repeat' first
    | with_reducible assumption
    | with_reducible rfl
    | exact mask_sub hK rfl
    | exact le_objAt (Nat.le_trans hB (by decide))
    | exact Nat.le_trans hB (by decide)
    | exact Nat.le_trans hB (by split <;> decide)
    | exact le_objAt hB0
    | with_reducible apply State.raiseBit_same
    | dsimp only
    | split
    | intro _

theorem State.raiseIf_same {K B : Nat} {s0 : State} {s : State} (b : Bool) (f : Fld) (i : Nat) (e : Nat)
    (hK : K &&& 16896 = 0) (hB : B ≤ 0x11f00020) (hB0 : B ≤ f.base) (hk : Same K B s0 s) :
    Same K B s0 (State.raiseIf s b f i e) := by
  unfold State.raiseIf
  try dsimp only
  repeat' first
    | with_reducible assumption
    | with_reducible rfl
    | exact mask_sub hK rfl
    | exact le_objAt (Nat.le_trans hB (by decide))
    | exact Nat.le_trans hB (by decide)
    | exact Nat.le_trans hB (by split <;> decide)
    | exact le_objAt hB0
    | with_reducible apply State.raise_same
    | dsimp only
    | split
    | intro _

theorem State.intEnEvent_same {K B : Nat} {s0 : State} {s : State} (sticky : Nat) (old : Val) (new : Val)
    (hK : K &&& 16896 = 0) (hB : B ≤ 0x11f00020) (hk : Same K B s0 s) :
    Same K B s0 (State.intEnEvent s sticky old new) := by
  unfold State.intEnEvent
  try dsimp only
  repeat' first
    | with_reducible assumption
    | with_reducible rfl
    | exact mask_sub hK rfl
    | exact le_objAt (Nat.le_trans hB (by decide))
    | exact Nat.le_trans hB (by decide)
    | exact Nat.le_trans hB (by split <;> decide)
    | with_reducible apply State.event_same
    | dsimp only
    | split
    | intro _

end Sys2Proof.Machine
end

