-- ==== Sys2Proof/Laws/SameClaims.lean ====
section
/-! SUPPORT. What the operations of Machine/Claims.lean leave (Same). -/

namespace Sys2Proof.Machine

theorem State.setClaim_same {K B : Nat} {s0 : State} {s : State} (k : Nat) (c : Claim)
    (hK : K &&& 524288 = 0) (hk : Same K B s0 s) :
    Same K B s0 (State.setClaim s k c) := by
  unfold State.setClaim
  try dsimp only
  repeat' first
    | with_reducible assumption
    | with_reducible rfl
    | exact mask_sub hK rfl
    | dsimp only
    | split
    | intro _
    | with_reducible apply Same.upd_claims

theorem State.setHwClaim_same {K B : Nat} {s0 : State} {s : State} (k : Nat) (c : Claim)
    (hK : K &&& 1048576 = 0) (hk : Same K B s0 s) :
    Same K B s0 (State.setHwClaim s k c) := by
  unfold State.setHwClaim
  try dsimp only
  repeat' first
    | with_reducible assumption
    | with_reducible rfl
    | exact mask_sub hK rfl
    | dsimp only
    | split
    | intro _
    | with_reducible apply Same.upd_hwClaims

theorem State.abandoned_same {K B : Nat} {s0 : State} {s : State} (k : Nat)
    (hK : K &&& 16896 = 0) (hB : B ≤ 0x11f00020) (hk : Same K B s0 s) :
    Same K B s0 (State.abandoned s k) := by
  unfold State.abandoned
  try dsimp only
  repeat' first
    | with_reducible assumption
    | with_reducible rfl
    | exact mask_sub hK rfl
    | exact le_objAt (Nat.le_trans hB (by decide))
    | exact Nat.le_trans hB (by decide)
    | exact Nat.le_trans hB (by split <;> decide)
    | with_reducible apply State.bump_same
    | with_reducible apply State.raise_same
    | dsimp only
    | split
    | intro _

theorem State.mergeVal_same {K B : Nat} {s0 : State} {s : State} (o : Nat) (v : Val)
    (hK : K &&& 512 = 0) (hB : B ≤ 0) (hk : Same K B s0 s) :
    Same K B s0 (State.mergeVal s o v) := by
  unfold State.mergeVal
  try dsimp only
  repeat' first
    | with_reducible assumption
    | with_reducible rfl
    | exact mask_sub hK rfl
    | exact Nat.le_trans hB (Nat.zero_le _)
    | with_reducible apply State.setVal_same
    | dsimp only
    | split
    | intro _

theorem State.discardHeld_same {K B : Nat} {s0 : State} {s : State}
    (hK : K &&& 131584 = 0) (hB : B ≤ 0xe000022) (hk : Same K B s0 s) :
    Same K B s0 (State.discardHeld s) := by
  unfold State.discardHeld
  try dsimp only
  repeat' first
    | with_reducible assumption
    | with_reducible rfl
    | exact mask_sub hK rfl
    | exact le_objAt (Nat.le_trans hB (by decide))
    | exact Nat.le_trans hB (by decide)
    | exact Nat.le_trans hB (by split <;> decide)
    | with_reducible apply State.setFld_same
    | dsimp only
    | split
    | intro _
    | with_reducible apply Same.upd_txns

theorem State.freeStage_same {K B : Nat} {s0 : State} {s : State} (mark : Bool)
    (hK : K &&& 8192 = 0) (hk : Same K B s0 s) :
    Same K B s0 (State.freeStage s mark) := by
  unfold State.freeStage
  try dsimp only
  repeat' first
    | with_reducible assumption
    | with_reducible rfl
    | exact mask_sub hK rfl
    | dsimp only
    | split
    | intro _
    | with_reducible apply Same.upd_xc

theorem State.abandonStage_same {K B : Nat} {s0 : State} {s : State} (n : Nat)
    (hK : K &&& 156160 = 0) (hB : B ≤ 0xe000022) (hk : Same K B s0 s) :
    Same K B s0 (State.abandonStage s n) := by
  unfold State.abandonStage
  try dsimp only
  repeat' first
    | with_reducible assumption
    | with_reducible rfl
    | exact mask_sub hK rfl
    | exact le_objAt (Nat.le_trans hB (by decide))
    | exact Nat.le_trans hB (by decide)
    | exact Nat.le_trans hB (by split <;> decide)
    | with_reducible apply State.modSession_same
    | with_reducible apply State.abandoned_same
    | with_reducible apply State.discardHeld_same
    | with_reducible apply State.freeStage_same
    | dsimp only
    | split
    | intro _

theorem State.advanceGen_same {K B : Nat} {s0 : State} {s : State} (w : Nat)
    (hK : K &&& 3686912 = 0) (hB : B ≤ 0x11f00020) (hk : Same K B s0 s) :
    Same K B s0 (State.advanceGen s w) := by
  unfold State.advanceGen
  try dsimp only
  repeat' first
    | with_reducible assumption
    | with_reducible rfl
    | exact mask_sub hK rfl
    | exact le_objAt (Nat.le_trans hB (by decide))
    | exact Nat.le_trans hB (by decide)
    | exact Nat.le_trans hB (by split <;> decide)
    | with_reducible apply State.abandoned_same
    | dsimp only
    | split
    | intro _
    | with_reducible apply Same.upd_claims_hwClaims_gens

theorem State.claimReq_same {K B : Nat} {s0 : State} {s : State} (n : Nat) (obj : Nat) (scope : Nat) (lease : Nat)
    (hK : K &&& 524288 = 0) (hk : Same K B s0 s) :
    Same K B s0 (State.claimReq s n obj scope lease).2.2 := by
  unfold State.claimReq
  try dsimp only
  repeat' first
    | with_reducible assumption
    | with_reducible rfl
    | exact mask_sub hK rfl
    | with_reducible apply State.setClaim_same
    | dsimp only
    | split
    | intro _

theorem State.renewStage_same {K B : Nat} {s0 : State} {s : State} (n : Nat)
    (hK : K &&& 8192 = 0) (hk : Same K B s0 s) :
    Same K B s0 (State.renewStage s n).2.2 := by
  unfold State.renewStage
  try dsimp only
  repeat' first
    | with_reducible assumption
    | with_reducible rfl
    | exact mask_sub hK rfl
    | dsimp only
    | split
    | intro _
    | with_reducible apply Same.upd_xc

theorem State.renewReq_same {K B : Nat} {s0 : State} {s : State} (n : Nat) (obj : Nat) (scope : Nat) (lease : Nat)
    (hK : K &&& 532480 = 0) (hk : Same K B s0 s) :
    Same K B s0 (State.renewReq s n obj scope lease).2.2 := by
  unfold State.renewReq
  try dsimp only
  repeat' first
    | with_reducible assumption
    | with_reducible rfl
    | exact mask_sub hK rfl
    | with_reducible apply State.setClaim_same
    | with_reducible apply State.renewStage_same
    | dsimp only
    | split
    | intro _

theorem State.releaseReq_same {K B : Nat} {s0 : State} {s : State} (n : Nat) (obj : Nat) (scope : Nat)
    (hK : K &&& 524288 = 0) (hk : Same K B s0 s) :
    Same K B s0 (State.releaseReq s n obj scope).2.2 := by
  unfold State.releaseReq
  try dsimp only
  repeat' first
    | with_reducible assumption
    | with_reducible rfl
    | exact mask_sub hK rfl
    | with_reducible apply State.setClaim_same
    | dsimp only
    | split
    | intro _

theorem State.expireLease_same {K B : Nat} {s0 : State} {s : State} (obj : Nat) (scope : Nat)
    (hK : K &&& 680448 = 0) (hB : B ≤ 0xe000022) (hk : Same K B s0 s) :
    Same K B s0 (State.expireLease s obj scope) := by
  unfold State.expireLease
  try dsimp only
  repeat' first
    | with_reducible assumption
    | with_reducible rfl
    | exact mask_sub hK rfl
    | exact le_objAt (Nat.le_trans hB (by decide))
    | exact Nat.le_trans hB (by decide)
    | exact Nat.le_trans hB (by split <;> decide)
    | with_reducible apply State.raise_same
    | with_reducible apply State.setClaim_same
    | with_reducible apply State.abandoned_same
    | with_reducible apply State.abandonStage_same
    | dsimp only
    | split
    | intro _

theorem State.leasesDue_same {K B : Nat} {s0 : State} {s : State}
    (hK : K &&& 680448 = 0) (hB : B ≤ 0xe000022) (hk : Same K B s0 s) :
    Same K B s0 (State.leasesDue s) := by
  unfold State.leasesDue
  try dsimp only
  repeat' first
    | with_reducible assumption
    | with_reducible rfl
    | exact mask_sub hK rfl
    | exact le_objAt (Nat.le_trans hB (by decide))
    | exact Nat.le_trans hB (by decide)
    | exact Nat.le_trans hB (by split <;> decide)
    | with_reducible apply State.expireLease_same
    | with_reducible apply Same.foldl
    | with_reducible apply Same.foldl_snd
    | with_reducible apply Same.foldl_fst
    | dsimp only
    | split
    | intro _

theorem State.answer_same {K B : Nat} {s0 : State} {s : State} (obj : Nat) (status : Nat) (holder : Nat)
    (hK : K &&& 33554432 = 0) (hk : Same K B s0 s) :
    Same K B s0 (State.answer s obj status holder) := by
  unfold State.answer
  try dsimp only
  repeat' first
    | with_reducible assumption
    | with_reducible rfl
    | exact mask_sub hK rfl
    | dsimp only
    | split
    | intro _
    | with_reducible apply Same.upd_lastOp

theorem State.hwClaimAsk_same {K B : Nat} {s0 : State} {s : State} (owner : Nat) (gen : Nat) (key : Nat) (ask : HwAsk)
    (hK : K &&& 54043506948200192 = 0) (hB : B ≤ 0x6000002) (hk : Same K B s0 s) :
    Same K B s0 (State.hwClaimAsk s owner gen key ask) := by
  unfold State.hwClaimAsk
  try dsimp only
  repeat' first
    | with_reducible assumption
    | with_reducible rfl
    | exact mask_sub hK rfl
    | exact le_objAt (Nat.le_trans hB (by decide))
    | exact Nat.le_trans hB (by decide)
    | exact Nat.le_trans hB (by split <;> decide)
    | with_reducible apply State.bump_same
    | with_reducible apply State.setHwClaim_same
    | with_reducible apply State.answer_same
    | dsimp only
    | split
    | intro _

end Sys2Proof.Machine
end

