-- ==== Sys2Proof/Laws/SameQueues.lean ====
section
/-! SUPPORT. What the operations of Machine/Queues.lean leave (Same). -/

namespace Sys2Proof.Machine

theorem State.putChan_same {K B : Nat} {s0 : State} {s : State} (lane : Nat) (c : Nat) (x : Chan)
    (hK : K &&& 34359738368 = 0) (hk : Same K B s0 s) :
    Same K B s0 (State.putChan s lane c x) := by
  unfold State.putChan
  try dsimp only
  repeat' first
    | with_reducible assumption
    | with_reducible rfl
    | exact mask_sub hK rfl
    | with_reducible apply State.setChan_same
    | dsimp only
    | split
    | intro _

theorem State.setFc_same {K B : Nat} {s0 : State} {s : State} (lane : Nat) (c : Nat)
    (hK : K &&& 512 = 0) (hB : B ≤ 0xf000003) (hk : Same K B s0 s) :
    Same K B s0 (State.setFc s lane c) := by
  unfold State.setFc
  try dsimp only
  repeat' first
    | with_reducible assumption
    | with_reducible rfl
    | exact mask_sub hK rfl
    | exact le_objAt (Nat.le_trans hB (by decide))
    | exact Nat.le_trans hB (by decide)
    | exact Nat.le_trans hB (by split <;> decide)
    | with_reducible apply State.setOn_same
    | dsimp only
    | split
    | intro _

theorem State.pushExt_same {K B : Nat} {s0 : State} {s : State} (lane : Nat) (c : Nat) (i : Item)
    (hK : K &&& 34359755264 = 0) (hB : B ≤ 0xf000007) (hk : Same K B s0 s) :
    Same K B s0 (State.pushExt s lane c i) := by
  unfold State.pushExt
  try dsimp only
  repeat' first
    | with_reducible assumption
    | with_reducible rfl
    | exact mask_sub hK rfl
    | exact le_objAt (Nat.le_trans hB (by decide))
    | exact Nat.le_trans hB (by decide)
    | exact Nat.le_trans hB (by split <;> decide)
    | with_reducible apply State.bump_same
    | with_reducible apply State.raiseIf_same
    | with_reducible apply State.putChan_same
    | dsimp only
    | split
    | intro _

theorem State.pushIns_same {K B : Nat} {s0 : State} {s : State} (lane : Nat) (c : Nat) (i : Item)
    (hK : K &&& 34359755264 = 0) (hB : B ≤ 0xf000003) (hk : Same K B s0 s) :
    Same K B s0 (State.pushIns s lane c i) := by
  unfold State.pushIns
  try dsimp only
  repeat' first
    | with_reducible assumption
    | with_reducible rfl
    | exact mask_sub hK rfl
    | exact le_objAt (Nat.le_trans hB (by decide))
    | exact Nat.le_trans hB (by decide)
    | exact Nat.le_trans hB (by split <;> decide)
    | with_reducible apply State.bump_same
    | with_reducible apply State.raiseIf_same
    | with_reducible apply State.putChan_same
    | with_reducible apply State.setFc_same
    | dsimp only
    | split
    | intro _

theorem State.flushExt_same {K B : Nat} {s0 : State} {s : State} (lane : Nat) (c : Nat)
    (hK : K &&& 34359738368 = 0) (hk : Same K B s0 s) :
    Same K B s0 (State.flushExt s lane c) := by
  unfold State.flushExt
  try dsimp only
  repeat' first
    | with_reducible assumption
    | with_reducible rfl
    | exact mask_sub hK rfl
    | with_reducible apply State.putChan_same
    | dsimp only
    | split
    | intro _

theorem State.flushIns_same {K B : Nat} {s0 : State} {s : State} (lane : Nat) (c : Nat)
    (hK : K &&& 34359738880 = 0) (hB : B ≤ 0xf000003) (hk : Same K B s0 s) :
    Same K B s0 (State.flushIns s lane c) := by
  unfold State.flushIns
  try dsimp only
  repeat' first
    | with_reducible assumption
    | with_reducible rfl
    | exact mask_sub hK rfl
    | exact le_objAt (Nat.le_trans hB (by decide))
    | exact Nat.le_trans hB (by decide)
    | exact Nat.le_trans hB (by split <;> decide)
    | with_reducible apply State.putChan_same
    | with_reducible apply State.setFc_same
    | dsimp only
    | split
    | intro _

theorem State.flushChan_same {K B : Nat} {s0 : State} {s : State} (lane : Nat) (c : Nat)
    (hK : K &&& 34359738880 = 0) (hB : B ≤ 0xf000003) (hk : Same K B s0 s) :
    Same K B s0 (State.flushChan s lane c) := by
  unfold State.flushChan
  try dsimp only
  repeat' first
    | with_reducible assumption
    | with_reducible rfl
    | exact mask_sub hK rfl
    | exact le_objAt (Nat.le_trans hB (by decide))
    | exact Nat.le_trans hB (by decide)
    | exact Nat.le_trans hB (by split <;> decide)
    | with_reducible apply State.putChan_same
    | with_reducible apply State.setFc_same
    | dsimp only
    | split
    | intro _

theorem State.flushLane_same {K B : Nat} {s0 : State} {s : State} (lane : Nat)
    (hK : K &&& 34359738880 = 0) (hB : B ≤ 0xf000003) (hk : Same K B s0 s) :
    Same K B s0 (State.flushLane s lane) := by
  unfold State.flushLane
  try dsimp only
  repeat' first
    | with_reducible assumption
    | with_reducible rfl
    | exact mask_sub hK rfl
    | exact le_objAt (Nat.le_trans hB (by decide))
    | exact Nat.le_trans hB (by decide)
    | exact Nat.le_trans hB (by split <;> decide)
    | with_reducible apply State.flushChan_same
    | with_reducible apply Same.foldl
    | with_reducible apply Same.foldl_snd
    | with_reducible apply Same.foldl_fst
    | dsimp only
    | split
    | intro _

theorem State.popExt_same {K B : Nat} {s0 : State} {s : State} (lane : Nat) (c : Nat)
    (hK : K &&& 34359738368 = 0) (hk : Same K B s0 s) :
    Same K B s0 (State.popExt s lane c).2 := by
  unfold State.popExt
  try dsimp only
  repeat' first
    | with_reducible assumption
    | with_reducible rfl
    | exact mask_sub hK rfl
    | with_reducible apply State.putChan_same
    | dsimp only
    | split
    | intro _

theorem State.hostIns_same {K B : Nat} {s0 : State} {s : State} (lane : Nat) (c : Nat) (tag : Word) (data : Word)
    (hK : K &&& 34359755264 = 0) (hB : B ≤ 0xf000003) (hk : Same K B s0 s) :
    Same K B s0 (State.hostIns s lane c tag data) := by
  unfold State.hostIns
  try dsimp only
  repeat' first
    | with_reducible assumption
    | with_reducible rfl
    | exact mask_sub hK rfl
    | exact le_objAt (Nat.le_trans hB (by decide))
    | exact Nat.le_trans hB (by decide)
    | exact Nat.le_trans hB (by split <;> decide)
    | with_reducible apply State.pushIns_same
    | dsimp only
    | split
    | intro _

theorem State.rxError_same {K B : Nat} {s0 : State} {s : State} (lane : Nat) (c : Nat)
    (hK : K &&& 16896 = 0) (hB : B ≤ 0xf000007) (hk : Same K B s0 s) :
    Same K B s0 (State.rxError s lane c) := by
  unfold State.rxError
  try dsimp only
  repeat' first
    | with_reducible assumption
    | with_reducible rfl
    | exact mask_sub hK rfl
    | exact le_objAt (Nat.le_trans hB (by decide))
    | exact Nat.le_trans hB (by decide)
    | exact Nat.le_trans hB (by split <;> decide)
    | with_reducible apply State.bump_same
    | with_reducible apply State.raise_same
    | dsimp only
    | split
    | intro _

theorem State.pushItems_same {K B : Nat} {s0 : State} {s : State} (lane : Nat) (c : Nat) (is : List Item)
    (hK : K &&& 34359755264 = 0) (hB : B ≤ 0xf000007) (hk : Same K B s0 s) :
    Same K B s0 (State.pushItems s lane c is) := by
  unfold State.pushItems
  try dsimp only
  repeat' first
    | with_reducible assumption
    | with_reducible rfl
    | exact mask_sub hK rfl
    | exact le_objAt (Nat.le_trans hB (by decide))
    | exact Nat.le_trans hB (by decide)
    | exact Nat.le_trans hB (by split <;> decide)
    | with_reducible apply State.pushExt_same
    | with_reducible apply Same.foldl
    | with_reducible apply Same.foldl_snd
    | with_reducible apply Same.foldl_fst
    | dsimp only
    | split
    | intro _

theorem State.hdlcContent_same {K B : Nat} {s0 : State} {s : State} (lane : Nat) (c : Nat) (content : List Byte) (good : Bool)
    (hK : K &&& 171798708736 = 0) (hB : B ≤ 0xf000007) (hk : Same K B s0 s) :
    Same K B s0 (State.hdlcContent s lane c content good) := by
  unfold State.hdlcContent
  try dsimp only
  repeat' first
    | with_reducible assumption
    | with_reducible rfl
    | exact mask_sub hK rfl
    | exact le_objAt (Nat.le_trans hB (by decide))
    | exact Nat.le_trans hB (by decide)
    | exact Nat.le_trans hB (by split <;> decide)
    | with_reducible apply State.bump_same
    | with_reducible apply State.rxError_same
    | with_reducible apply State.pushItems_same
    | dsimp only
    | split
    | intro _
    | with_reducible apply Same.upd_dccIn

theorem State.hdlcFrame_same {K B : Nat} {s0 : State} {s : State} (lane : Nat) (c : Nat) (raw : List Bool)
    (hK : K &&& 171798708736 = 0) (hB : B ≤ 0xf000007) (hk : Same K B s0 s) :
    Same K B s0 (State.hdlcFrame s lane c raw) := by
  unfold State.hdlcFrame
  try dsimp only
  repeat' first
    | with_reducible assumption
    | with_reducible rfl
    | exact mask_sub hK rfl
    | exact le_objAt (Nat.le_trans hB (by decide))
    | exact Nat.le_trans hB (by decide)
    | exact Nat.le_trans hB (by split <;> decide)
    | with_reducible apply State.hdlcContent_same
    | dsimp only
    | split
    | intro _

theorem State.hdlcAbort_same {K B : Nat} {s0 : State} {s : State} (lane : Nat) (c : Nat) (raw : List Bool)
    (hK : K &&& 34359755264 = 0) (hB : B ≤ 0xf000007) (hk : Same K B s0 s) :
    Same K B s0 (State.hdlcAbort s lane c raw) := by
  unfold State.hdlcAbort
  try dsimp only
  repeat' first
    | with_reducible assumption
    | with_reducible rfl
    | exact mask_sub hK rfl
    | exact le_objAt (Nat.le_trans hB (by decide))
    | exact Nat.le_trans hB (by decide)
    | exact Nat.le_trans hB (by split <;> decide)
    | with_reducible apply State.rxError_same
    | with_reducible apply State.pushItems_same
    | dsimp only
    | split
    | intro _

theorem State.hdlcBit_same {K B : Nat} {s0 : State} {s : State} (lane : Nat) (c : Nat) (b : Bool)
    (hK : K &&& 171798708736 = 0) (hB : B ≤ 0xf000007) (hk : Same K B s0 s) :
    Same K B s0 (State.hdlcBit s lane c b) := by
  unfold State.hdlcBit
  try dsimp only
  repeat' first
    | with_reducible assumption
    | with_reducible rfl
    | exact mask_sub hK rfl
    | exact le_objAt (Nat.le_trans hB (by decide))
    | exact Nat.le_trans hB (by decide)
    | exact Nat.le_trans hB (by split <;> decide)
    | with_reducible apply State.putChan_same
    | with_reducible apply State.hdlcFrame_same
    | with_reducible apply State.hdlcAbort_same
    | dsimp only
    | split
    | intro _

theorem State.hdlcLong_same {K B : Nat} {s0 : State} {s : State} (lane : Nat) (c : Nat)
    (hK : K &&& 34359755264 = 0) (hB : B ≤ 0xf000007) (hk : Same K B s0 s) :
    Same K B s0 (State.hdlcLong s lane c) := by
  unfold State.hdlcLong
  try dsimp only
  repeat' first
    | with_reducible assumption
    | with_reducible rfl
    | exact mask_sub hK rfl
    | exact le_objAt (Nat.le_trans hB (by decide))
    | exact Nat.le_trans hB (by decide)
    | exact Nat.le_trans hB (by split <;> decide)
    | with_reducible apply State.putChan_same
    | with_reducible apply State.rxError_same
    | with_reducible apply State.pushItems_same
    | dsimp only
    | split
    | intro _

theorem State.chanReceive_same {K B : Nat} {s0 : State} {s : State} (lane : Nat) (c : Nat) (bytes : List Byte)
    (hK : K &&& 171798708736 = 0) (hB : B ≤ 0xf000007) (hk : Same K B s0 s) :
    Same K B s0 (State.chanReceive s lane c bytes) := by
  unfold State.chanReceive
  try dsimp only
  repeat' first
    | with_reducible assumption
    | with_reducible rfl
    | exact mask_sub hK rfl
    | exact le_objAt (Nat.le_trans hB (by decide))
    | exact Nat.le_trans hB (by decide)
    | exact Nat.le_trans hB (by split <;> decide)
    | with_reducible apply State.pushItems_same
    | with_reducible apply State.hdlcBit_same
    | with_reducible apply State.hdlcLong_same
    | with_reducible apply Same.foldl
    | with_reducible apply Same.foldl_snd
    | with_reducible apply Same.foldl_fst
    | dsimp only
    | split
    | intro _

theorem State.chanStop_same {K B : Nat} {s0 : State} {s : State} (lane : Nat) (c : Nat)
    (hK : K &&& 34359755264 = 0) (hB : B ≤ 0xf000007) (hk : Same K B s0 s) :
    Same K B s0 (State.chanStop s lane c) := by
  unfold State.chanStop
  try dsimp only
  repeat' first
    | with_reducible assumption
    | with_reducible rfl
    | exact mask_sub hK rfl
    | exact le_objAt (Nat.le_trans hB (by decide))
    | exact Nat.le_trans hB (by decide)
    | exact Nat.le_trans hB (by split <;> decide)
    | with_reducible apply State.putChan_same
    | with_reducible apply State.hdlcAbort_same
    | dsimp only
    | split
    | intro _

theorem State.chanSend_same {K B : Nat} {s0 : State} {s : State} (lane : Nat) (c : Nat)
    (hK : K &&& 34359738880 = 0) (hB : B ≤ 0xf000003) (hk : Same K B s0 s) :
    Same K B s0 (State.chanSend s lane c).2 := by
  unfold State.chanSend
  try dsimp only
  repeat' first
    | with_reducible assumption
    | with_reducible rfl
    | exact mask_sub hK rfl
    | exact le_objAt (Nat.le_trans hB (by decide))
    | exact Nat.le_trans hB (by decide)
    | exact Nat.le_trans hB (by split <;> decide)
    | with_reducible apply State.bump_same
    | with_reducible apply State.putChan_same
    | with_reducible apply State.setFc_same
    | dsimp only
    | split
    | intro _

theorem State.mgmtQueue_same {K B : Nat} {s0 : State} {s : State} (bytes : List Byte)
    (hK : K &&& 34359755264 = 0) (hB : B ≤ 0xf000003) (hk : Same K B s0 s) :
    Same K B s0 (State.mgmtQueue s bytes) := by
  unfold State.mgmtQueue
  try dsimp only
  repeat' first
    | with_reducible assumption
    | with_reducible rfl
    | exact mask_sub hK rfl
    | exact le_objAt (Nat.le_trans hB (by decide))
    | exact Nat.le_trans hB (by decide)
    | exact Nat.le_trans hB (by split <;> decide)
    | with_reducible apply State.bump_same
    | with_reducible apply State.raiseIf_same
    | with_reducible apply State.putChan_same
    | with_reducible apply State.setFc_same
    | with_reducible apply Same.foldl
    | with_reducible apply Same.foldl_snd
    | with_reducible apply Same.foldl_fst
    | dsimp only
    | split
    | intro _

theorem State.portReceive_same {K B : Nat} {s0 : State} {s : State} (port : Nat) (d : DccIn)
    (hK : K &&& 34359755264 = 0) (hB : B ≤ 0xf000003) (hk : Same K B s0 s) :
    Same K B s0 (State.portReceive s port d) := by
  unfold State.portReceive
  try dsimp only
  repeat' first
    | with_reducible assumption
    | with_reducible rfl
    | exact mask_sub hK rfl
    | exact le_objAt (Nat.le_trans hB (by decide))
    | exact Nat.le_trans hB (by decide)
    | exact Nat.le_trans hB (by split <;> decide)
    | with_reducible apply State.pushIns_same
    | with_reducible apply Same.foldl
    | with_reducible apply Same.foldl_snd
    | with_reducible apply Same.foldl_fst
    | dsimp only
    | split
    | intro _

theorem State.portSend_same {K B : Nat} {s0 : State} {s : State} (port : Nat)
    (hK : K &&& 103079239680 = 0) (hk : Same K B s0 s) :
    Same K B s0 (State.portSend s port) := by
  unfold State.portSend
  try dsimp only
  repeat' first
    | with_reducible assumption
    | with_reducible rfl
    | exact mask_sub hK rfl
    | with_reducible apply State.putChan_same
    | dsimp only
    | split
    | intro _
    | with_reducible apply Same.upd_dccOut

theorem State.pairClock_same {K B : Nat} {s0 : State} {s : State} (pair : Nat) (b : Bool)
    (hK : K &&& 512 = 0) (hB : B ≤ 0xf200001) (hk : Same K B s0 s) :
    Same K B s0 (State.pairClock s pair b) := by
  unfold State.pairClock
  try dsimp only
  repeat' first
    | with_reducible assumption
    | with_reducible rfl
    | exact mask_sub hK rfl
    | exact le_objAt (Nat.le_trans hB (by decide))
    | exact Nat.le_trans hB (by decide)
    | exact Nat.le_trans hB (by split <;> decide)
    | with_reducible apply State.setOn_same
    | dsimp only
    | split
    | intro _

end Sys2Proof.Machine
end

