-- ==== Sys2Proof/Laws/SameTransport.lean ====
section
/-! SUPPORT. What the operations of Machine/Transport.lean leave (Same). -/

namespace Sys2Proof.Machine

theorem State.macCount_same {K B : Nat} {s0 : State} {s : State} (m : Nat) (k : Nat) (n : Nat)
    (hK : K &&& 17920 = 0) (hB : B ≤ 0x11f00020) (hk : Same K B s0 s) :
    Same K B s0 (State.macCount s m k n) := by
  unfold State.macCount
  try dsimp only
  repeat' first
    | with_reducible assumption
    | with_reducible rfl
    | exact mask_sub hK rfl
    | exact le_objAt (Nat.le_trans hB (by decide))
    | exact Nat.le_trans hB (by decide)
    | exact Nat.le_trans hB (by split <;> decide)
    | with_reducible apply State.setVal_same
    | with_reducible apply State.setLive_same
    | with_reducible apply State.raise_same
    | dsimp only
    | split
    | intro _

theorem State.macEnqueue_same {K B : Nat} {s0 : State} {s : State} (m : Nat) (cls : Nat) (x : TxEth)
    (hK : K &&& 2199023273472 = 0) (hB : B ≤ 0x11f00020) (hk : Same K B s0 s) :
    Same K B s0 (State.macEnqueue s m cls x) := by
  unfold State.macEnqueue
  try dsimp only
  repeat' first
    | with_reducible assumption
    | with_reducible rfl
    | exact mask_sub hK rfl
    | exact le_objAt (Nat.le_trans hB (by decide))
    | exact Nat.le_trans hB (by decide)
    | exact Nat.le_trans hB (by split <;> decide)
    | with_reducible apply State.setMac_same
    | with_reducible apply State.macCount_same
    | dsimp only
    | split
    | intro _

theorem State.deliver_same {K B : Nat} {s0 : State} {s : State} (r : Reply) (cls : Nat)
    (hK : K &&& 2233391400448 = 0) (hB : B ≤ 0xf000003) (hk : Same K B s0 s) :
    Same K B s0 (State.deliver s r cls) := by
  unfold State.deliver
  try dsimp only
  repeat' first
    | with_reducible assumption
    | with_reducible rfl
    | exact mask_sub hK rfl
    | exact le_objAt (Nat.le_trans hB (by decide))
    | exact Nat.le_trans hB (by decide)
    | exact Nat.le_trans hB (by split <;> decide)
    | with_reducible apply State.bump_same
    | with_reducible apply State.raise_same
    | with_reducible apply State.mgmtQueue_same
    | with_reducible apply State.macEnqueue_same
    | dsimp only
    | split
    | intro _
    | with_reducible apply Same.upd_spiOut

end Sys2Proof.Machine
end

