-- ==== Sys2Proof/Laws/SameLedger.lean ====
section
/-! SUPPORT. What the operations of Machine/Ledger.lean leave (Same). -/

namespace Sys2Proof.Machine

theorem State.setLedger_same {K B : Nat} {s0 : State} {s : State} (l : Nat) (g : Ledger)
    (hK : K &&& 4096 = 0) (hk : Same K B s0 s) :
    Same K B s0 (State.setLedger s l g) := by
  unfold State.setLedger
  try dsimp only
  repeat' first
    | with_reducible assumption
    | with_reducible rfl
    | exact mask_sub hK rfl
    | with_reducible apply State.modLane_same
    | dsimp only
    | split
    | intro _

theorem State.publishLedger_same {K B : Nat} {s0 : State} {s : State} (l : Nat)
    (hK : K &&& 512 = 0) (hB : B ≤ 0x9000011) (hk : Same K B s0 s) :
    Same K B s0 (State.publishLedger s l) := by
  unfold State.publishLedger
  try dsimp only
  repeat' first
    | with_reducible assumption
    | with_reducible rfl
    | exact mask_sub hK rfl
    | exact le_objAt (Nat.le_trans hB (by decide))
    | exact Nat.le_trans hB (by decide)
    | exact Nat.le_trans hB (by split <;> decide)
    | with_reducible apply State.setFld_same
    | with_reducible apply State.setOn_same
    | dsimp only
    | split
    | intro _

theorem State.reseedLane_same {K B : Nat} {s0 : State} {s : State} (l : Nat)
    (hK : K &&& 22016 = 0) (hB : B ≤ 0x9000011) (hk : Same K B s0 s) :
    Same K B s0 (State.reseedLane s l) := by
  unfold State.reseedLane
  try dsimp only
  repeat' first
    | with_reducible assumption
    | with_reducible rfl
    | exact mask_sub hK rfl
    | exact le_objAt (Nat.le_trans hB (by decide))
    | exact Nat.le_trans hB (by decide)
    | exact Nat.le_trans hB (by split <;> decide)
    | with_reducible apply State.bumpLive_same
    | with_reducible apply State.raise_same
    | with_reducible apply State.setLedger_same
    | with_reducible apply State.publishLedger_same
    | dsimp only
    | split
    | intro _

theorem State.noteTraceable_same {K B : Nat} {s0 : State} {s : State} (l : Nat)
    (hK : K &&& 16896 = 0) (hB : B ≤ 0x9000011) (hk : Same K B s0 s) :
    Same K B s0 (State.noteTraceable s l) := by
  unfold State.noteTraceable
  try dsimp only
  repeat' first
    | with_reducible assumption
    | with_reducible rfl
    | exact mask_sub hK rfl
    | exact le_objAt (Nat.le_trans hB (by decide))
    | exact Nat.le_trans hB (by decide)
    | exact Nat.le_trans hB (by split <;> decide)
    | with_reducible apply State.setOn_same
    | with_reducible apply State.raise_same
    | with_reducible apply State.publishLedger_same
    | dsimp only
    | split
    | intro _

theorem State.startLedger_same {K B : Nat} {s0 : State} {s : State} (l : Nat)
    (hK : K &&& 7680 = 0) (hB : B ≤ 0) (hk : Same K B s0 s) :
    Same K B s0 (State.startLedger s l) := by
  unfold State.startLedger
  try dsimp only
  repeat' first
    | with_reducible assumption
    | with_reducible rfl
    | exact mask_sub hK rfl
    | exact Nat.le_trans hB (Nat.zero_le _)
    | with_reducible apply State.setVal_same
    | with_reducible apply State.setLive_same
    | with_reducible apply State.setWord_same
    | with_reducible apply State.setLedger_same
    | with_reducible apply Same.foldl
    | with_reducible apply Same.foldl_snd
    | with_reducible apply Same.foldl_fst
    | dsimp only
    | split
    | intro _

theorem State.ltdClear_same {K B : Nat} {s0 : State} {s : State} (l : Nat)
    (hK : K &&& 512 = 0) (hB : B ≤ 0x9000018) (hk : Same K B s0 s) :
    Same K B s0 (State.ltdClear s l) := by
  unfold State.ltdClear
  try dsimp only
  repeat' first
    | with_reducible assumption
    | with_reducible rfl
    | exact mask_sub hK rfl
    | exact le_objAt (Nat.le_trans hB (by decide))
    | exact Nat.le_trans hB (by decide)
    | exact Nat.le_trans hB (by split <;> decide)
    | with_reducible apply State.setOn_same
    | dsimp only
    | split
    | intro _

theorem State.stepAccept_same {K B : Nat} {s0 : State} {s : State} (l : Nat)
    (hK : K &&& 22016 = 0) (hB : B ≤ 0x9000011) (hk : Same K B s0 s) :
    Same K B s0 (State.stepAccept s l) := by
  unfold State.stepAccept
  try dsimp only
  repeat' first
    | with_reducible assumption
    | with_reducible rfl
    | exact mask_sub hK rfl
    | exact le_objAt (Nat.le_trans hB (by decide))
    | exact Nat.le_trans hB (by decide)
    | exact Nat.le_trans hB (by split <;> decide)
    | with_reducible apply State.bumpLive_same
    | with_reducible apply State.raise_same
    | with_reducible apply State.setLedger_same
    | with_reducible apply State.publishLedger_same
    | dsimp only
    | split
    | intro _

theorem State.ledgerTimeout_same {K B : Nat} {s0 : State} {s : State} (l : Nat)
    (hK : K &&& 22016 = 0) (hB : B ≤ 0x9000011) (hk : Same K B s0 s) :
    Same K B s0 (State.ledgerTimeout s l) := by
  unfold State.ledgerTimeout
  try dsimp only
  repeat' first
    | with_reducible assumption
    | with_reducible rfl
    | exact mask_sub hK rfl
    | exact le_objAt (Nat.le_trans hB (by decide))
    | exact Nat.le_trans hB (by decide)
    | exact Nat.le_trans hB (by split <;> decide)
    | with_reducible apply State.modLane_same
    | with_reducible apply State.reseedLane_same
    | dsimp only
    | split
    | intro _

theorem State.judgeArrival_same {K B : Nat} {s0 : State} {s : State} (l : Nat) (f : LedgerIn)
    (hK : K &&& 22016 = 0) (hB : B ≤ 0x9000017) (hk : Same K B s0 s) :
    Same K B s0 (State.judgeArrival s l f).2 := by
  unfold State.judgeArrival
  try dsimp only
  repeat' first
    | with_reducible assumption
    | with_reducible rfl
    | exact mask_sub hK rfl
    | exact le_objAt (Nat.le_trans hB (by decide))
    | exact Nat.le_trans hB (by decide)
    | exact Nat.le_trans hB (by split <;> decide)
    | with_reducible apply State.setFld_same
    | with_reducible apply State.setOn_same
    | with_reducible apply State.bumpLive_same
    | with_reducible apply State.raiseIf_same
    | with_reducible apply State.setLedger_same
    | dsimp only
    | split
    | intro _

theorem State.excludeSample_same {K B : Nat} {s0 : State} {s : State} (l : Nat) (n : Nat)
    (hK : K &&& 5120 = 0) (hk : Same K B s0 s) :
    Same K B s0 (State.excludeSample s l n) := by
  unfold State.excludeSample
  try dsimp only
  repeat' first
    | with_reducible assumption
    | with_reducible rfl
    | exact mask_sub hK rfl
    | with_reducible apply State.bumpLive_same
    | with_reducible apply State.modLane_same
    | dsimp only
    | split
    | intro _

theorem State.enterSample_same {K B : Nat} {s0 : State} {s : State} (l : Nat) (rtt : Int) (app : Int)
    (hK : K &&& 5632 = 0) (hB : B ≤ 0x9000010) (hk : Same K B s0 s) :
    Same K B s0 (State.enterSample s l rtt app) := by
  unfold State.enterSample
  try dsimp only
  repeat' first
    | with_reducible assumption
    | with_reducible rfl
    | exact mask_sub hK rfl
    | exact le_objAt (Nat.le_trans hB (by decide))
    | exact Nat.le_trans hB (by decide)
    | exact Nat.le_trans hB (by split <;> decide)
    | with_reducible apply State.setFld_same
    | with_reducible apply State.bumpLive_same
    | with_reducible apply State.setLedger_same
    | with_reducible apply State.publishLedger_same
    | dsimp only
    | split
    | intro _

theorem State.takeSample_same {K B : Nat} {s0 : State} {s : State} (l : Nat) (f : LedgerIn)
    (hK : K &&& 5632 = 0) (hB : B ≤ 0x9000010) (hk : Same K B s0 s) :
    Same K B s0 (State.takeSample s l f) := by
  unfold State.takeSample
  try dsimp only
  repeat' first
    | with_reducible assumption
    | with_reducible rfl
    | exact mask_sub hK rfl
    | exact le_objAt (Nat.le_trans hB (by decide))
    | exact Nat.le_trans hB (by decide)
    | exact Nat.le_trans hB (by split <;> decide)
    | with_reducible apply State.enterSample_same
    | dsimp only
    | split
    | intro _

theorem State.ledgerFrame_same {K B : Nat} {s0 : State} {s : State} (l : Nat) (f : LedgerIn)
    (hK : K &&& 22016 = 0) (hB : B ≤ 0x3000020) (hk : Same K B s0 s) :
    Same K B s0 (State.ledgerFrame s l f).2 := by
  unfold State.ledgerFrame
  try dsimp only
  repeat' first
    | with_reducible assumption
    | with_reducible rfl
    | exact mask_sub hK rfl
    | exact le_objAt (Nat.le_trans hB (by decide))
    | exact Nat.le_trans hB (by decide)
    | exact Nat.le_trans hB (by split <;> decide)
    | with_reducible apply State.bumpLive_same
    | with_reducible apply State.raise_same
    | with_reducible apply State.reseedLane_same
    | with_reducible apply State.judgeArrival_same
    | with_reducible apply State.excludeSample_same
    | with_reducible apply State.takeSample_same
    | dsimp only
    | split
    | intro _

theorem State.latchRecord_same {K B : Nat} {s0 : State} {s : State} (l : Nat)
    (hK : K &&& 6144 = 0) (hk : Same K B s0 s) :
    Same K B s0 (State.latchRecord s l) := by
  unfold State.latchRecord
  try dsimp only
  repeat' first
    | with_reducible assumption
    | with_reducible rfl
    | exact mask_sub hK rfl
    | with_reducible apply State.setWord_same
    | with_reducible apply State.setLedger_same
    | with_reducible apply Same.foldl
    | with_reducible apply Same.foldl_snd
    | with_reducible apply Same.foldl_fst
    | dsimp only
    | split
    | intro _

end Sys2Proof.Machine
end

