-- ==== Sys2Proof/Laws/SameDefects.lean ====
section
/-! SUPPORT. What the operations of Machine/Defects.lean leave (Same). -/

namespace Sys2Proof.Machine

theorem State.putBit_same {K B : Nat} {s0 : State} {s : State} (o : Nat) (b : Nat) (v : Bool)
    (hK : K &&& 512 = 0) (hB0 : B ≤ o) (hk : Same K B s0 s) :
    Same K B s0 (State.putBit s o b v) := by
  unfold State.putBit
  try dsimp only
  repeat' first
    | with_reducible assumption
    | with_reducible rfl
    | exact mask_sub hK rfl
    | exact le_objAt hB0
    | with_reducible apply State.setVal_same
    | dsimp only
    | split
    | intro _

theorem State.noteSf_same {K B : Nat} {s0 : State} {s : State} (l : Nat)
    (hK : K &&& 4096 = 0) (hk : Same K B s0 s) :
    Same K B s0 (State.noteSf s l) := by
  unfold State.noteSf
  try dsimp only
  repeat' first
    | with_reducible assumption
    | with_reducible rfl
    | exact mask_sub hK rfl
    | with_reducible apply State.setLane_same
    | dsimp only
    | split
    | intro _

theorem State.noteSdP_same {K B : Nat} {s0 : State} {s : State} (l : Nat) (k : Nat)
    (hK : K &&& 4096 = 0) (hk : Same K B s0 s) :
    Same K B s0 (State.noteSdP s l k) := by
  unfold State.noteSdP
  try dsimp only
  repeat' first
    | with_reducible assumption
    | with_reducible rfl
    | exact mask_sub hK rfl
    | with_reducible apply State.setLane_same
    | dsimp only
    | split
    | intro _

theorem State.dropS1_same {K B : Nat} {s0 : State} {s : State} (l : Nat)
    (hK : K &&& 16896 = 0) (hB : B ≤ 0x4000002) (hk : Same K B s0 s) :
    Same K B s0 (State.dropS1 s l) := by
  unfold State.dropS1
  try dsimp only
  repeat' first
    | with_reducible assumption
    | with_reducible rfl
    | exact mask_sub hK rfl
    | exact le_objAt (Nat.le_trans hB (by decide))
    | exact Nat.le_trans hB (by decide)
    | exact Nat.le_trans hB (by split <;> decide)
    | with_reducible apply State.setFld_same
    | with_reducible apply State.raise_same
    | dsimp only
    | split
    | intro _

theorem State.clearPaths_same {K B : Nat} {s0 : State} {s : State} (l : Nat)
    (hK : K &&& 4608 = 0) (hB : B ≤ 0x5200000) (hk : Same K B s0 s) :
    Same K B s0 (State.clearPaths s l) := by
  unfold State.clearPaths
  try dsimp only
  repeat' first
    | with_reducible assumption
    | with_reducible rfl
    | exact mask_sub hK rfl
    | exact le_objAt (Nat.le_trans hB (by decide))
    | exact Nat.le_trans hB (by decide)
    | exact Nat.le_trans hB (by split <;> decide)
    | with_reducible apply State.setVal_same
    | with_reducible apply State.modLane_same
    | with_reducible apply Same.foldl
    | with_reducible apply Same.foldl_snd
    | with_reducible apply Same.foldl_fst
    | dsimp only
    | split
    | intro _

theorem State.applyMasks_same {K B : Nat} {s0 : State} {s : State} (l : Nat)
    (hK : K &&& 20992 = 0) (hB : B ≤ 0x3000015) (hk : Same K B s0 s) :
    Same K B s0 (State.applyMasks s l) := by
  unfold State.applyMasks
  try dsimp only
  repeat' first
    | with_reducible assumption
    | with_reducible rfl
    | exact mask_sub hK rfl
    | exact le_objAt (Nat.le_trans hB (by decide))
    | exact Nat.le_trans hB (by decide)
    | exact Nat.le_trans hB (by split <;> decide)
    | with_reducible apply State.setVal_same
    | with_reducible apply State.setOn_same
    | with_reducible apply State.modLane_same
    | with_reducible apply State.putBit_same
    | with_reducible apply State.dropS1_same
    | with_reducible apply State.clearPaths_same
    | with_reducible apply Same.foldl
    | with_reducible apply Same.foldl_snd
    | with_reducible apply Same.foldl_fst
    | dsimp only
    | split
    | intro _

theorem State.declare_same {K B : Nat} {s0 : State} {s : State} (l : Nat) (b : Nat)
    (hK : K &&& 20992 = 0) (hB : B ≤ 0x3000015) (hk : Same K B s0 s) :
    Same K B s0 (State.declare s l b) := by
  unfold State.declare
  try dsimp only
  repeat' first
    | with_reducible assumption
    | with_reducible rfl
    | exact mask_sub hK rfl
    | exact le_objAt (Nat.le_trans hB (by decide))
    | exact Nat.le_trans hB (by decide)
    | exact Nat.le_trans hB (by split <;> decide)
    | with_reducible apply State.raiseBit_same
    | with_reducible apply State.putBit_same
    | with_reducible apply State.noteSf_same
    | with_reducible apply State.applyMasks_same
    | dsimp only
    | split
    | intro _

theorem State.unmaskLos_same {K B : Nat} {s0 : State} {s : State} (l : Nat)
    (hK : K &&& 20992 = 0) (hB : B ≤ 0x3000015) (hk : Same K B s0 s) :
    Same K B s0 (State.unmaskLos s l) := by
  unfold State.unmaskLos
  try dsimp only
  repeat' first
    | with_reducible assumption
    | with_reducible rfl
    | exact mask_sub hK rfl
    | exact le_objAt (Nat.le_trans hB (by decide))
    | exact Nat.le_trans hB (by decide)
    | exact Nat.le_trans hB (by split <;> decide)
    | with_reducible apply State.modLane_same
    | with_reducible apply State.declare_same
    | dsimp only
    | split
    | intro _

theorem State.undeclare_same {K B : Nat} {s0 : State} {s : State} (l : Nat) (b : Nat)
    (hK : K &&& 20992 = 0) (hB : B ≤ 0x3000015) (hk : Same K B s0 s) :
    Same K B s0 (State.undeclare s l b) := by
  unfold State.undeclare
  try dsimp only
  repeat' first
    | with_reducible assumption
    | with_reducible rfl
    | exact mask_sub hK rfl
    | exact le_objAt (Nat.le_trans hB (by decide))
    | exact Nat.le_trans hB (by decide)
    | exact Nat.le_trans hB (by split <;> decide)
    | with_reducible apply State.modLane_same
    | with_reducible apply State.putBit_same
    | with_reducible apply State.noteSf_same
    | with_reducible apply State.unmaskLos_same
    | dsimp only
    | split
    | intro _

theorem State.declarePath_same {K B : Nat} {s0 : State} {s : State} (l : Nat) (k : Nat) (b : Nat)
    (hK : K &&& 20992 = 0) (hB : B ≤ 0x5200000) (hk : Same K B s0 s) :
    Same K B s0 (State.declarePath s l k b) := by
  unfold State.declarePath
  try dsimp only
  repeat' first
    | with_reducible assumption
    | with_reducible rfl
    | exact mask_sub hK rfl
    | exact le_objAt (Nat.le_trans hB (by decide))
    | exact Nat.le_trans hB (by decide)
    | exact Nat.le_trans hB (by split <;> decide)
    | with_reducible apply State.modLane_same
    | with_reducible apply State.raiseBit_same
    | with_reducible apply State.putBit_same
    | with_reducible apply State.noteSdP_same
    | with_reducible apply Same.foldl
    | with_reducible apply Same.foldl_snd
    | with_reducible apply Same.foldl_fst
    | dsimp only
    | split
    | intro _

theorem State.undeclarePath_same {K B : Nat} {s0 : State} {s : State} (l : Nat) (k : Nat) (b : Nat)
    (hK : K &&& 4608 = 0) (hB : B ≤ 0x5200000) (hk : Same K B s0 s) :
    Same K B s0 (State.undeclarePath s l k b) := by
  unfold State.undeclarePath
  try dsimp only
  repeat' first
    | with_reducible assumption
    | with_reducible rfl
    | exact mask_sub hK rfl
    | exact le_objAt (Nat.le_trans hB (by decide))
    | exact Nat.le_trans hB (by decide)
    | exact Nat.le_trans hB (by split <;> decide)
    | with_reducible apply State.modLane_same
    | with_reducible apply State.putBit_same
    | with_reducible apply State.noteSdP_same
    | dsimp only
    | split
    | intro _

theorem State.judgePath_same {K B : Nat} {s0 : State} {s : State} (l : Nat) (k : Nat) (b : Nat) (v : Bool)
    (hK : K &&& 20992 = 0) (hB : B ≤ 0x5200000) (hk : Same K B s0 s) :
    Same K B s0 (State.judgePath s l k b v) := by
  unfold State.judgePath
  try dsimp only
  repeat' first
    | with_reducible assumption
    | with_reducible rfl
    | exact mask_sub hK rfl
    | exact le_objAt (Nat.le_trans hB (by decide))
    | exact Nat.le_trans hB (by decide)
    | exact Nat.le_trans hB (by split <;> decide)
    | with_reducible apply State.declarePath_same
    | with_reducible apply State.undeclarePath_same
    | dsimp only
    | split
    | intro _

theorem State.sfJudge_same {K B : Nat} {s0 : State} {s : State} (l : Nat) (d : SfSd) (v : Bool)
    (hK : K &&& 20992 = 0) (hB : B ≤ 0x3000015) (hk : Same K B s0 s) :
    Same K B s0 (State.sfJudge s l d v) := by
  unfold State.sfJudge
  try dsimp only
  repeat' first
    | with_reducible assumption
    | with_reducible rfl
    | exact mask_sub hK rfl
    | exact le_objAt (Nat.le_trans hB (by decide))
    | exact Nat.le_trans hB (by decide)
    | exact Nat.le_trans hB (by split <;> decide)
    | with_reducible apply State.declare_same
    | with_reducible apply State.undeclare_same
    | with_reducible apply State.judgePath_same
    | dsimp only
    | split
    | intro _

theorem State.sfDeclare_same {K B : Nat} {s0 : State} {s : State} (l : Nat) (d : SfSd)
    (hK : K &&& 20992 = 0) (hB : B ≤ 0x3000015) (hk : Same K B s0 s) :
    Same K B s0 (State.sfDeclare s l d) := by
  unfold State.sfDeclare
  try dsimp only
  repeat' first
    | with_reducible assumption
    | with_reducible rfl
    | exact mask_sub hK rfl
    | exact le_objAt (Nat.le_trans hB (by decide))
    | exact Nat.le_trans hB (by decide)
    | exact Nat.le_trans hB (by split <;> decide)
    | with_reducible apply State.sfJudge_same
    | dsimp only
    | split
    | intro _

theorem State.sfWindowEnd_same {K B : Nat} {s0 : State} {s : State} (l : Nat) (d : SfSd)
    (hK : K &&& 20992 = 0) (hB : B ≤ 0x3000015) (hk : Same K B s0 s) :
    Same K B s0 (State.sfWindowEnd s l d) := by
  unfold State.sfWindowEnd
  try dsimp only
  repeat' first
    | with_reducible assumption
    | with_reducible rfl
    | exact mask_sub hK rfl
    | exact le_objAt (Nat.le_trans hB (by decide))
    | exact Nat.le_trans hB (by decide)
    | exact Nat.le_trans hB (by split <;> decide)
    | with_reducible apply State.modLane_same
    | with_reducible apply State.sfJudge_same
    | dsimp only
    | split
    | intro _

theorem State.judgeTim_same {K B : Nat} {s0 : State} {s : State} (l : Nat) (site : TraceSite)
    (hK : K &&& 20992 = 0) (hB : B ≤ 0x3000015) (hk : Same K B s0 s) :
    Same K B s0 (State.judgeTim s l site) := by
  unfold State.judgeTim
  try dsimp only
  repeat' first
    | with_reducible assumption
    | with_reducible rfl
    | exact mask_sub hK rfl
    | exact le_objAt (Nat.le_trans hB (by decide))
    | exact Nat.le_trans hB (by decide)
    | exact Nat.le_trans hB (by split <;> decide)
    | with_reducible apply State.declare_same
    | with_reducible apply State.undeclare_same
    | with_reducible apply State.judgePath_same
    | dsimp only
    | split
    | intro _

theorem State.storeTrace_same {K B : Nat} {s0 : State} {s : State} (o : Nat) (first : Nat) (m : List Byte)
    (hK : K &&& 2048 = 0) (hk : Same K B s0 s) :
    Same K B s0 (State.storeTrace s o first m) := by
  unfold State.storeTrace
  try dsimp only
  repeat' first
    | with_reducible assumption
    | with_reducible rfl
    | exact mask_sub hK rfl
    | with_reducible apply State.setWord_same
    | with_reducible apply Same.foldl
    | with_reducible apply Same.foldl_snd
    | with_reducible apply Same.foldl_fst
    | dsimp only
    | split
    | intro _

theorem State.acceptTrace_same {K B : Nat} {s0 : State} {s : State} (l : Nat) (site : TraceSite)
    (hK : K &&& 23040 = 0) (hB : B ≤ 0x3000015) (hk : Same K B s0 s) :
    Same K B s0 (State.acceptTrace s l site) := by
  unfold State.acceptTrace
  try dsimp only
  repeat' first
    | with_reducible assumption
    | with_reducible rfl
    | exact mask_sub hK rfl
    | exact le_objAt (Nat.le_trans hB (by decide))
    | exact Nat.le_trans hB (by decide)
    | exact Nat.le_trans hB (by split <;> decide)
    | with_reducible apply State.raiseIf_same
    | with_reducible apply State.judgeTim_same
    | with_reducible apply State.storeTrace_same
    | dsimp only
    | split
    | intro _

theorem State.losDeclare_same {K B : Nat} {s0 : State} {s : State} (l : Nat)
    (hK : K &&& 20992 = 0) (hB : B ≤ 0x3000015) (hk : Same K B s0 s) :
    Same K B s0 (State.losDeclare s l) := by
  unfold State.losDeclare
  try dsimp only
  repeat' first
    | with_reducible assumption
    | with_reducible rfl
    | exact mask_sub hK rfl
    | exact le_objAt (Nat.le_trans hB (by decide))
    | exact Nat.le_trans hB (by decide)
    | exact Nat.le_trans hB (by split <;> decide)
    | with_reducible apply State.declare_same
    | dsimp only
    | split
    | intro _

theorem State.losClear_same {K B : Nat} {s0 : State} {s : State} (l : Nat)
    (hK : K &&& 22016 = 0) (hB : B ≤ 0x3000015) (hk : Same K B s0 s) :
    Same K B s0 (State.losClear s l) := by
  unfold State.losClear
  try dsimp only
  repeat' first
    | with_reducible assumption
    | with_reducible rfl
    | exact mask_sub hK rfl
    | exact le_objAt (Nat.le_trans hB (by decide))
    | exact Nat.le_trans hB (by decide)
    | exact Nat.le_trans hB (by split <;> decide)
    | with_reducible apply State.reseedLane_same
    | with_reducible apply State.undeclare_same
    | dsimp only
    | split
    | intro _

theorem State.lofDeclare_same {K B : Nat} {s0 : State} {s : State} (l : Nat)
    (hK : K &&& 20992 = 0) (hB : B ≤ 0x3000015) (hk : Same K B s0 s) :
    Same K B s0 (State.lofDeclare s l) := by
  unfold State.lofDeclare
  try dsimp only
  repeat' first
    | with_reducible assumption
    | with_reducible rfl
    | exact mask_sub hK rfl
    | exact le_objAt (Nat.le_trans hB (by decide))
    | exact Nat.le_trans hB (by decide)
    | exact Nat.le_trans hB (by split <;> decide)
    | with_reducible apply State.declare_same
    | dsimp only
    | split
    | intro _

theorem State.lofClear_same {K B : Nat} {s0 : State} {s : State} (l : Nat)
    (hK : K &&& 22016 = 0) (hB : B ≤ 0x3000015) (hk : Same K B s0 s) :
    Same K B s0 (State.lofClear s l) := by
  unfold State.lofClear
  try dsimp only
  repeat' first
    | with_reducible assumption
    | with_reducible rfl
    | exact mask_sub hK rfl
    | exact le_objAt (Nat.le_trans hB (by decide))
    | exact Nat.le_trans hB (by decide)
    | exact Nat.le_trans hB (by split <;> decide)
    | with_reducible apply State.modLane_same
    | with_reducible apply State.reseedLane_same
    | with_reducible apply State.undeclare_same
    | dsimp only
    | split
    | intro _

theorem State.loblDeclare_same {K B : Nat} {s0 : State} {s : State} (l : Nat)
    (hK : K &&& 20992 = 0) (hB : B ≤ 0x3000015) (hk : Same K B s0 s) :
    Same K B s0 (State.loblDeclare s l) := by
  unfold State.loblDeclare
  try dsimp only
  repeat' first
    | with_reducible assumption
    | with_reducible rfl
    | exact mask_sub hK rfl
    | exact le_objAt (Nat.le_trans hB (by decide))
    | exact Nat.le_trans hB (by decide)
    | exact Nat.le_trans hB (by split <;> decide)
    | with_reducible apply State.declare_same
    | dsimp only
    | split
    | intro _

theorem State.loblClear_same {K B : Nat} {s0 : State} {s : State} (l : Nat)
    (hK : K &&& 20992 = 0) (hB : B ≤ 0x3000015) (hk : Same K B s0 s) :
    Same K B s0 (State.loblClear s l) := by
  unfold State.loblClear
  try dsimp only
  repeat' first
    | with_reducible assumption
    | with_reducible rfl
    | exact mask_sub hK rfl
    | exact le_objAt (Nat.le_trans hB (by decide))
    | exact Nat.le_trans hB (by decide)
    | exact Nat.le_trans hB (by split <;> decide)
    | with_reducible apply State.undeclare_same
    | dsimp only
    | split
    | intro _

theorem State.goOof_same {K B : Nat} {s0 : State} {s : State} (l : Nat) (w : Tick)
    (hK : K &&& 20992 = 0) (hB : B ≤ 0x3000015) (hk : Same K B s0 s) :
    Same K B s0 (State.goOof s l w) := by
  unfold State.goOof
  try dsimp only
  repeat' first
    | with_reducible assumption
    | with_reducible rfl
    | exact mask_sub hK rfl
    | exact le_objAt (Nat.le_trans hB (by decide))
    | exact Nat.le_trans hB (by decide)
    | exact Nat.le_trans hB (by split <;> decide)
    | with_reducible apply State.setLane_same
    | with_reducible apply State.dropS1_same
    | with_reducible apply State.declare_same
    | dsimp only
    | split
    | intro _

theorem State.goInFrame_same {K B : Nat} {s0 : State} {s : State} (l : Nat) (pos : Nat) (w : Tick)
    (hK : K &&& 20992 = 0) (hB : B ≤ 0x3000015) (hk : Same K B s0 s) :
    Same K B s0 (State.goInFrame s l pos w) := by
  unfold State.goInFrame
  try dsimp only
  repeat' first
    | with_reducible assumption
    | with_reducible rfl
    | exact mask_sub hK rfl
    | exact le_objAt (Nat.le_trans hB (by decide))
    | exact Nat.le_trans hB (by decide)
    | exact Nat.le_trans hB (by split <;> decide)
    | with_reducible apply State.setLane_same
    | with_reducible apply State.modLane_same
    | with_reducible apply State.undeclare_same
    | dsimp only
    | split
    | intro _

theorem State.frameWord_same {K B : Nat} {s0 : State} {s : State} (l : Nat) (ok : Bool) (pos : Nat) (w : Tick)
    (hK : K &&& 20992 = 0) (hB : B ≤ 0x3000015) (hk : Same K B s0 s) :
    Same K B s0 (State.frameWord s l ok pos w) := by
  unfold State.frameWord
  try dsimp only
  repeat' first
    | with_reducible assumption
    | with_reducible rfl
    | exact mask_sub hK rfl
    | exact le_objAt (Nat.le_trans hB (by decide))
    | exact Nat.le_trans hB (by decide)
    | exact Nat.le_trans hB (by split <;> decide)
    | with_reducible apply State.setLane_same
    | with_reducible apply State.goOof_same
    | with_reducible apply State.goInFrame_same
    | dsimp only
    | split
    | intro _

theorem State.setBlockLock_same {K B : Nat} {s0 : State} {s : State} (l : Nat) (b : Bool)
    (hK : K &&& 4096 = 0) (hk : Same K B s0 s) :
    Same K B s0 (State.setBlockLock s l b) := by
  unfold State.setBlockLock
  try dsimp only
  repeat' first
    | with_reducible assumption
    | with_reducible rfl
    | exact mask_sub hK rfl
    | with_reducible apply State.modLane_same
    | dsimp only
    | split
    | intro _

theorem State.syncHeader_same {K B : Nat} {s0 : State} {s : State} (l : Nat) (valid : Bool)
    (hK : K &&& 4096 = 0) (hk : Same K B s0 s) :
    Same K B s0 (State.syncHeader s l valid) := by
  unfold State.syncHeader
  try dsimp only
  repeat' first
    | with_reducible assumption
    | with_reducible rfl
    | exact mask_sub hK rfl
    | with_reducible apply State.setLane_same
    | with_reducible apply State.setBlockLock_same
    | dsimp only
    | split
    | intro _

theorem State.hiBerFrame_same {K B : Nat} {s0 : State} {s : State} (l : Nat)
    (hK : K &&& 20992 = 0) (hB : B ≤ 0x3000015) (hk : Same K B s0 s) :
    Same K B s0 (State.hiBerFrame s l) := by
  unfold State.hiBerFrame
  try dsimp only
  repeat' first
    | with_reducible assumption
    | with_reducible rfl
    | exact mask_sub hK rfl
    | exact le_objAt (Nat.le_trans hB (by decide))
    | exact Nat.le_trans hB (by decide)
    | exact Nat.le_trans hB (by split <;> decide)
    | with_reducible apply State.setLane_same
    | with_reducible apply State.declare_same
    | with_reducible apply State.undeclare_same
    | dsimp only
    | split
    | intro _

theorem State.judgeMismatch_same {K B : Nat} {s0 : State} {s : State} (l : Nat) (b : Nat) (v : Bool)
    (hK : K &&& 20992 = 0) (hB : B ≤ 0x3000015) (hk : Same K B s0 s) :
    Same K B s0 (State.judgeMismatch s l b v) := by
  unfold State.judgeMismatch
  try dsimp only
  repeat' first
    | with_reducible assumption
    | with_reducible rfl
    | exact mask_sub hK rfl
    | exact le_objAt (Nat.le_trans hB (by decide))
    | exact Nat.le_trans hB (by decide)
    | exact Nat.le_trans hB (by split <;> decide)
    | with_reducible apply State.modLane_same
    | with_reducible apply State.raiseBit_same
    | with_reducible apply State.putBit_same
    | with_reducible apply State.noteSf_same
    | dsimp only
    | split
    | intro _

theorem State.judgeSlotRdi_same {K B : Nat} {s0 : State} {s : State} (l : Nat) (k : Nat) (v : Bool)
    (hK : K &&& 20992 = 0) (hB : B ≤ 0x3000015) (hk : Same K B s0 s) :
    Same K B s0 (State.judgeSlotRdi s l k v) := by
  unfold State.judgeSlotRdi
  try dsimp only
  repeat' first
    | with_reducible assumption
    | with_reducible rfl
    | exact mask_sub hK rfl
    | exact le_objAt (Nat.le_trans hB (by decide))
    | exact Nat.le_trans hB (by decide)
    | exact Nat.le_trans hB (by split <;> decide)
    | with_reducible apply State.setLane_same
    | with_reducible apply State.declare_same
    | with_reducible apply State.undeclare_same
    | dsimp only
    | split
    | intro _

theorem State.acceptC2_same {K B : Nat} {s0 : State} {s : State} (l : Nat) (k : Nat) (v : Nat)
    (hK : K &&& 20992 = 0) (hB : B ≤ 0x4200000) (hk : Same K B s0 s) :
    Same K B s0 (State.acceptC2 s l k v) := by
  unfold State.acceptC2
  try dsimp only
  repeat' first
    | with_reducible assumption
    | with_reducible rfl
    | exact mask_sub hK rfl
    | exact le_objAt (Nat.le_trans hB (by decide))
    | exact Nat.le_trans hB (by decide)
    | exact Nat.le_trans hB (by split <;> decide)
    | with_reducible apply State.setFld_same
    | with_reducible apply State.judgePath_same
    | dsimp only
    | split
    | intro _

theorem State.acceptG1_same {K B : Nat} {s0 : State} {s : State} (l : Nat) (k : Nat) (v : Nat)
    (hK : K &&& 20992 = 0) (hB : B ≤ 0x5200000) (hk : Same K B s0 s) :
    Same K B s0 (State.acceptG1 s l k v) := by
  unfold State.acceptG1
  try dsimp only
  repeat' first
    | with_reducible assumption
    | with_reducible rfl
    | exact mask_sub hK rfl
    | exact le_objAt (Nat.le_trans hB (by decide))
    | exact Nat.le_trans hB (by decide)
    | exact Nat.le_trans hB (by split <;> decide)
    | with_reducible apply State.setFld_same
    | with_reducible apply State.judgePath_same
    | dsimp only
    | split
    | intro _

theorem State.judgeGroup_same {K B : Nat} {s0 : State} {s : State} (l : Nat) (b : Nat) (v : Bool)
    (hK : K &&& 20992 = 0) (hB : B ≤ 0x6000010) (hk : Same K B s0 s) :
    Same K B s0 (State.judgeGroup s l b v) := by
  unfold State.judgeGroup
  try dsimp only
  repeat' first
    | with_reducible assumption
    | with_reducible rfl
    | exact mask_sub hK rfl
    | exact le_objAt (Nat.le_trans hB (by decide))
    | exact Nat.le_trans hB (by decide)
    | exact Nat.le_trans hB (by split <;> decide)
    | with_reducible apply State.modLane_same
    | with_reducible apply State.raiseBit_same
    | with_reducible apply State.putBit_same
    | dsimp only
    | split
    | intro _

theorem State.persistence_same {K B : Nat} {s0 : State} {s : State} (l : Nat) (d : Persist)
    (hK : K &&& 20992 = 0) (hB : B ≤ 0x3000015) (hk : Same K B s0 s) :
    Same K B s0 (State.persistence s l d) := by
  unfold State.persistence
  try dsimp only
  repeat' first
    | with_reducible assumption
    | with_reducible rfl
    | exact mask_sub hK rfl
    | exact le_objAt (Nat.le_trans hB (by decide))
    | exact Nat.le_trans hB (by decide)
    | exact Nat.le_trans hB (by split <;> decide)
    | with_reducible apply State.declare_same
    | with_reducible apply State.undeclare_same
    | with_reducible apply State.judgeMismatch_same
    | with_reducible apply State.judgeSlotRdi_same
    | with_reducible apply State.acceptC2_same
    | with_reducible apply State.acceptG1_same
    | with_reducible apply State.judgeGroup_same
    | dsimp only
    | split
    | intro _

theorem State.rejudgeTim_same {K B : Nat} {s0 : State} {s : State} (l : Nat) (site : TraceSite)
    (hK : K &&& 20992 = 0) (hB : B ≤ 0x3000015) (hk : Same K B s0 s) :
    Same K B s0 (State.rejudgeTim s l site) := by
  unfold State.rejudgeTim
  try dsimp only
  repeat' first
    | with_reducible assumption
    | with_reducible rfl
    | exact mask_sub hK rfl
    | exact le_objAt (Nat.le_trans hB (by decide))
    | exact Nat.le_trans hB (by decide)
    | exact Nat.le_trans hB (by split <;> decide)
    | with_reducible apply State.undeclare_same
    | with_reducible apply State.undeclarePath_same
    | with_reducible apply State.judgeTim_same
    | dsimp only
    | split
    | intro _

theorem State.rejudgePath_same {K B : Nat} {s0 : State} {s : State} (l : Nat) (k : Nat)
    (hK : K &&& 20992 = 0) (hB : B ≤ 0x3000015) (hk : Same K B s0 s) :
    Same K B s0 (State.rejudgePath s l k) := by
  unfold State.rejudgePath
  try dsimp only
  repeat' first
    | with_reducible assumption
    | with_reducible rfl
    | exact mask_sub hK rfl
    | exact le_objAt (Nat.le_trans hB (by decide))
    | exact Nat.le_trans hB (by decide)
    | exact Nat.le_trans hB (by split <;> decide)
    | with_reducible apply State.undeclarePath_same
    | with_reducible apply State.judgePath_same
    | with_reducible apply State.rejudgeTim_same
    | dsimp only
    | split
    | intro _

theorem State.acceptField_same {K B : Nat} {s0 : State} {s : State} (l : Nat) (f : AccField)
    (hK : K &&& 16896 = 0) (hB : B ≤ 0x3000011) (hk : Same K B s0 s) :
    Same K B s0 (State.acceptField s l f) := by
  unfold State.acceptField
  try dsimp only
  repeat' first
    | with_reducible assumption
    | with_reducible rfl
    | exact mask_sub hK rfl
    | exact le_objAt (Nat.le_trans hB (by decide))
    | exact Nat.le_trans hB (by decide)
    | exact Nat.le_trans hB (by split <;> decide)
    | with_reducible apply State.setFld_same
    | with_reducible apply State.raiseIf_same
    | dsimp only
    | split
    | intro _

theorem State.acceptS1_same {K B : Nat} {s0 : State} {s : State} (l : Nat)
    (hK : K &&& 16896 = 0) (hB : B ≤ 0x4000002) (hk : Same K B s0 s) :
    Same K B s0 (State.acceptS1 s l) := by
  unfold State.acceptS1
  try dsimp only
  repeat' first
    | with_reducible assumption
    | with_reducible rfl
    | exact mask_sub hK rfl
    | exact le_objAt (Nat.le_trans hB (by decide))
    | exact Nat.le_trans hB (by decide)
    | exact Nat.le_trans hB (by split <;> decide)
    | with_reducible apply State.setFld_same
    | with_reducible apply State.raiseIf_same
    | dsimp only
    | split
    | intro _

theorem State.quietLane_same {K B : Nat} {s0 : State} {s : State} (l : Nat)
    (hK : K &&& 20992 = 0) (hB : B ≤ 0x3000015) (hk : Same K B s0 s) :
    Same K B s0 (State.quietLane s l) := by
  unfold State.quietLane
  try dsimp only
  repeat' first
    | with_reducible assumption
    | with_reducible rfl
    | exact mask_sub hK rfl
    | exact le_objAt (Nat.le_trans hB (by decide))
    | exact Nat.le_trans hB (by decide)
    | exact Nat.le_trans hB (by split <;> decide)
    | with_reducible apply State.setVal_same
    | with_reducible apply State.modLane_same
    | with_reducible apply State.dropS1_same
    | with_reducible apply State.clearPaths_same
    | dsimp only
    | split
    | intro _

end Sys2Proof.Machine
end

