-- ==== Sys2Proof/Laws/SameLaneArray.lean ====
section
/-! SUPPORT. What the operations of Machine/LaneArray.lean leave (Same). -/

namespace Sys2Proof.Machine

theorem State.noteMoving_same {K B : Nat} {s0 : State} {s : State}
    (hK : K &&& 16896 = 0) (hB : B ≤ 0x7f00030) (hk : Same K B s0 s) :
    Same K B s0 (State.noteMoving s) := by
  unfold State.noteMoving
  try dsimp only
  repeat' first
    | with_reducible assumption
    | with_reducible rfl
    | exact mask_sub hK rfl
    | exact le_objAt (Nat.le_trans hB (by decide))
    | exact Nat.le_trans hB (by decide)
    | exact Nat.le_trans hB (by split <;> decide)
    | with_reducible apply State.setFld_same
    | with_reducible apply State.raiseIf_same
    | dsimp only
    | split
    | intro _

theorem State.setMoving_same {K B : Nat} {s0 : State} {s : State} (l : Nat) (rx : Bool) (tx : Bool)
    (hK : K &&& 20992 = 0) (hB : B ≤ 0x7f00030) (hk : Same K B s0 s) :
    Same K B s0 (State.setMoving s l rx tx) := by
  unfold State.setMoving
  try dsimp only
  repeat' first
    | with_reducible assumption
    | with_reducible rfl
    | exact mask_sub hK rfl
    | exact le_objAt (Nat.le_trans hB (by decide))
    | exact Nat.le_trans hB (by decide)
    | exact Nat.le_trans hB (by split <;> decide)
    | with_reducible apply State.modLane_same
    | with_reducible apply State.noteMoving_same
    | dsimp only
    | split
    | intro _

theorem State.rxDone_same {K B : Nat} {s0 : State} {s : State} (l : Nat)
    (hK : K &&& 20992 = 0) (hB : B ≤ 0x7f00030) (hk : Same K B s0 s) :
    Same K B s0 (State.rxDone s l) := by
  unfold State.rxDone
  try dsimp only
  repeat' first
    | with_reducible assumption
    | with_reducible rfl
    | exact mask_sub hK rfl
    | exact le_objAt (Nat.le_trans hB (by decide))
    | exact Nat.le_trans hB (by decide)
    | exact Nat.le_trans hB (by split <;> decide)
    | with_reducible apply State.setMoving_same
    | dsimp only
    | split
    | intro _

theorem State.txDone_same {K B : Nat} {s0 : State} {s : State} (l : Nat)
    (hK : K &&& 20992 = 0) (hB : B ≤ 0x7f00030) (hk : Same K B s0 s) :
    Same K B s0 (State.txDone s l) := by
  unfold State.txDone
  try dsimp only
  repeat' first
    | with_reducible assumption
    | with_reducible rfl
    | exact mask_sub hK rfl
    | exact le_objAt (Nat.le_trans hB (by decide))
    | exact Nat.le_trans hB (by decide)
    | exact Nat.le_trans hB (by split <;> decide)
    | with_reducible apply State.setMoving_same
    | dsimp only
    | split
    | intro _

theorem State.setLaneState_same {K B : Nat} {s0 : State} {s : State} (l : Nat) (st : LaneState)
    (hK : K &&& 16896 = 0) (hB : B ≤ 0x2000002) (hk : Same K B s0 s) :
    Same K B s0 (State.setLaneState s l st) := by
  unfold State.setLaneState
  try dsimp only
  repeat' first
    | with_reducible assumption
    | with_reducible rfl
    | exact mask_sub hK rfl
    | exact le_objAt (Nat.le_trans hB (by decide))
    | exact Nat.le_trans hB (by decide)
    | exact Nat.le_trans hB (by split <;> decide)
    | with_reducible apply State.setFld_same
    | with_reducible apply State.raise_same
    | dsimp only
    | split
    | intro _

theorem State.laneBit_same {K B : Nat} {s0 : State} {s : State} (l : Nat) (f : Fld) (lost : Fld) (b : Bool)
    (hK : K &&& 16896 = 0) (hB : B ≤ 0x11f00020) (hB0 : B ≤ f.base) (hB1 : B ≤ lost.base) (hk : Same K B s0 s) :
    Same K B s0 (State.laneBit s l f lost b) := by
  unfold State.laneBit
  try dsimp only
  repeat' first
    | with_reducible assumption
    | with_reducible rfl
    | exact mask_sub hK rfl
    | exact le_objAt (Nat.le_trans hB (by decide))
    | exact Nat.le_trans hB (by decide)
    | exact Nat.le_trans hB (by split <;> decide)
    | exact le_objAt hB0
    | exact le_objAt hB1
    | with_reducible apply State.setOn_same
    | with_reducible apply State.raiseIf_same
    | dsimp only
    | split
    | intro _

theorem State.noteLoss_same {K B : Nat} {s0 : State} {s : State} (l : Nat)
    (hK : K &&& 4096 = 0) (hk : Same K B s0 s) :
    Same K B s0 (State.noteLoss s l) := by
  unfold State.noteLoss
  try dsimp only
  repeat' first
    | with_reducible assumption
    | with_reducible rfl
    | exact mask_sub hK rfl
    | with_reducible apply State.modLane_same
    | dsimp only
    | split
    | intro _

theorem State.dropTxReady_same {K B : Nat} {s0 : State} {s : State} (l : Nat)
    (hK : K &&& 20992 = 0) (hB : B ≤ 0x2000003) (hk : Same K B s0 s) :
    Same K B s0 (State.dropTxReady s l) := by
  unfold State.dropTxReady
  try dsimp only
  repeat' first
    | with_reducible assumption
    | with_reducible rfl
    | exact mask_sub hK rfl
    | exact le_objAt (Nat.le_trans hB (by decide))
    | exact Nat.le_trans hB (by decide)
    | exact Nat.le_trans hB (by split <;> decide)
    | with_reducible apply State.setOn_same
    | with_reducible apply State.modLane_same
    | with_reducible apply State.raiseIf_same
    | dsimp only
    | split
    | intro _

theorem State.dropRx_same {K B : Nat} {s0 : State} {s : State} (l : Nat)
    (hK : K &&& 16896 = 0) (hB : B ≤ 0x2000003) (hk : Same K B s0 s) :
    Same K B s0 (State.dropRx s l) := by
  unfold State.dropRx
  try dsimp only
  repeat' first
    | with_reducible assumption
    | with_reducible rfl
    | exact mask_sub hK rfl
    | exact le_objAt (Nat.le_trans hB (by decide))
    | exact Nat.le_trans hB (by decide)
    | exact Nat.le_trans hB (by split <;> decide)
    | with_reducible apply State.setOn_same
    | with_reducible apply State.laneBit_same
    | dsimp only
    | split
    | intro _

theorem State.clearEq_same {K B : Nat} {s0 : State} {s : State} (l : Nat)
    (hK : K &&& 512 = 0) (hB : B ≤ 0x2000012) (hk : Same K B s0 s) :
    Same K B s0 (State.clearEq s l) := by
  unfold State.clearEq
  try dsimp only
  repeat' first
    | with_reducible assumption
    | with_reducible rfl
    | exact mask_sub hK rfl
    | exact le_objAt (Nat.le_trans hB (by decide))
    | exact Nat.le_trans hB (by decide)
    | exact Nat.le_trans hB (by split <;> decide)
    | with_reducible apply State.setVal_same
    | dsimp only
    | split
    | intro _

theorem State.eqManual_same {K B : Nat} {s0 : State} {s : State} (l : Nat)
    (hK : K &&& 512 = 0) (hB : B ≤ 0x2000012) (hk : Same K B s0 s) :
    Same K B s0 (State.eqManual s l) := by
  unfold State.eqManual
  try dsimp only
  repeat' first
    | with_reducible assumption
    | with_reducible rfl
    | exact mask_sub hK rfl
    | exact le_objAt (Nat.le_trans hB (by decide))
    | exact Nat.le_trans hB (by decide)
    | exact Nat.le_trans hB (by split <;> decide)
    | with_reducible apply State.setFld_same
    | dsimp only
    | split
    | intro _

theorem State.laneDown_same {K B : Nat} {s0 : State} {s : State} (l : Nat)
    (hK : K &&& 20992 = 0) (hB : B ≤ 0x2000002) (hk : Same K B s0 s) :
    Same K B s0 (State.laneDown s l) := by
  unfold State.laneDown
  try dsimp only
  repeat' first
    | with_reducible assumption
    | with_reducible rfl
    | exact mask_sub hK rfl
    | exact le_objAt (Nat.le_trans hB (by decide))
    | exact Nat.le_trans hB (by decide)
    | exact Nat.le_trans hB (by split <;> decide)
    | with_reducible apply State.setFld_same
    | with_reducible apply State.modLane_same
    | with_reducible apply State.quietLane_same
    | with_reducible apply State.setLaneState_same
    | with_reducible apply State.dropTxReady_same
    | with_reducible apply State.dropRx_same
    | with_reducible apply State.clearEq_same
    | dsimp only
    | split
    | intro _

theorem State.lanePower_same {K B : Nat} {s0 : State} {s : State} (l : Nat)
    (hK : K &&& 16896 = 0) (hB : B ≤ 0x2000002) (hk : Same K B s0 s) :
    Same K B s0 (State.lanePower s l) := by
  unfold State.lanePower
  try dsimp only
  repeat' first
    | with_reducible assumption
    | with_reducible rfl
    | exact mask_sub hK rfl
    | exact le_objAt (Nat.le_trans hB (by decide))
    | exact Nat.le_trans hB (by decide)
    | exact Nat.le_trans hB (by split <;> decide)
    | with_reducible apply State.setFld_same
    | with_reducible apply State.setLaneState_same
    | dsimp only
    | split
    | intro _

theorem State.bringUp_same {K B : Nat} {s0 : State} {s : State} (l : Nat)
    (hK : K &&& 20992 = 0) (hB : B ≤ 0x2000002) (hk : Same K B s0 s) :
    Same K B s0 (State.bringUp s l) := by
  unfold State.bringUp
  try dsimp only
  repeat' first
    | with_reducible assumption
    | with_reducible rfl
    | exact mask_sub hK rfl
    | exact le_objAt (Nat.le_trans hB (by decide))
    | exact Nat.le_trans hB (by decide)
    | exact Nat.le_trans hB (by split <;> decide)
    | with_reducible apply State.modLane_same
    | with_reducible apply State.putBit_same
    | with_reducible apply State.quietLane_same
    | with_reducible apply State.setMoving_same
    | with_reducible apply State.setLaneState_same
    | with_reducible apply State.dropTxReady_same
    | with_reducible apply State.dropRx_same
    | with_reducible apply State.clearEq_same
    | with_reducible apply State.lanePower_same
    | dsimp only
    | split
    | intro _

theorem State.retune_same {K B : Nat} {s0 : State} {s : State} (l : Nat)
    (hK : K &&& 20992 = 0) (hB : B ≤ 0x2000002) (hk : Same K B s0 s) :
    Same K B s0 (State.retune s l) := by
  unfold State.retune
  try dsimp only
  repeat' first
    | with_reducible assumption
    | with_reducible rfl
    | exact mask_sub hK rfl
    | exact le_objAt (Nat.le_trans hB (by decide))
    | exact Nat.le_trans hB (by decide)
    | exact Nat.le_trans hB (by split <;> decide)
    | with_reducible apply State.modLane_same
    | with_reducible apply State.setMoving_same
    | with_reducible apply State.setLaneState_same
    | with_reducible apply State.eqManual_same
    | dsimp only
    | split
    | intro _

theorem State.laneFault_same {K B : Nat} {s0 : State} {s : State} (l : Nat)
    (hK : K &&& 20992 = 0) (hB : B ≤ 0x2000002) (hk : Same K B s0 s) :
    Same K B s0 (State.laneFault s l) := by
  unfold State.laneFault
  try dsimp only
  repeat' first
    | with_reducible assumption
    | with_reducible rfl
    | exact mask_sub hK rfl
    | exact le_objAt (Nat.le_trans hB (by decide))
    | exact Nat.le_trans hB (by decide)
    | exact Nat.le_trans hB (by split <;> decide)
    | with_reducible apply State.modLane_same
    | with_reducible apply State.setLaneState_same
    | with_reducible apply State.noteLoss_same
    | with_reducible apply State.dropTxReady_same
    | with_reducible apply State.dropRx_same
    | dsimp only
    | split
    | intro _

theorem State.bayLock_same {K B : Nat} {s0 : State} {s : State} (b : Nat)
    (hK : K &&& 16896 = 0) (hB : B ≤ 0x2000002) (hk : Same K B s0 s) :
    Same K B s0 (State.bayLock s b) := by
  unfold State.bayLock
  try dsimp only
  repeat' first
    | with_reducible assumption
    | with_reducible rfl
    | exact mask_sub hK rfl
    | exact le_objAt (Nat.le_trans hB (by decide))
    | exact Nat.le_trans hB (by decide)
    | exact Nat.le_trans hB (by split <;> decide)
    | with_reducible apply State.setOn_same
    | with_reducible apply State.lanePower_same
    | with_reducible apply Same.foldl
    | with_reducible apply Same.foldl_snd
    | with_reducible apply Same.foldl_fst
    | dsimp only
    | split
    | intro _

theorem State.txReadyNow_same {K B : Nat} {s0 : State} {s : State} (l : Nat) (pin : Word)
    (hK : K &&& 20992 = 0) (hB : B ≤ 0x2000002) (hk : Same K B s0 s) :
    Same K B s0 (State.txReadyNow s l pin) := by
  unfold State.txReadyNow
  try dsimp only
  repeat' first
    | with_reducible assumption
    | with_reducible rfl
    | exact mask_sub hK rfl
    | exact le_objAt (Nat.le_trans hB (by decide))
    | exact Nat.le_trans hB (by decide)
    | exact Nat.le_trans hB (by split <;> decide)
    | with_reducible apply State.setFld_same
    | with_reducible apply State.setOn_same
    | with_reducible apply State.modLane_same
    | with_reducible apply State.setLaneState_same
    | dsimp only
    | split
    | intro _

theorem State.sigDet_same {K B : Nat} {s0 : State} {s : State} (l : Nat) (present : Bool)
    (hK : K &&& 20992 = 0) (hB : B ≤ 0x2000003) (hk : Same K B s0 s) :
    Same K B s0 (State.sigDet s l present) := by
  unfold State.sigDet
  try dsimp only
  repeat' first
    | with_reducible assumption
    | with_reducible rfl
    | exact mask_sub hK rfl
    | exact le_objAt (Nat.le_trans hB (by decide))
    | exact Nat.le_trans hB (by decide)
    | exact Nat.le_trans hB (by split <;> decide)
    | with_reducible apply State.laneBit_same
    | with_reducible apply State.noteLoss_same
    | dsimp only
    | split
    | intro _

theorem State.cdrLocked_same {K B : Nat} {s0 : State} {s : State} (l : Nat) (offset : Int)
    (hK : K &&& 20992 = 0) (hB : B ≤ 0x2000002) (hk : Same K B s0 s) :
    Same K B s0 (State.cdrLocked s l offset) := by
  unfold State.cdrLocked
  try dsimp only
  repeat' first
    | with_reducible assumption
    | with_reducible rfl
    | exact mask_sub hK rfl
    | exact le_objAt (Nat.le_trans hB (by decide))
    | exact Nat.le_trans hB (by decide)
    | exact Nat.le_trans hB (by split <;> decide)
    | with_reducible apply State.setFld_same
    | with_reducible apply State.setOn_same
    | with_reducible apply State.setLaneState_same
    | with_reducible apply State.laneBit_same
    | with_reducible apply State.noteLoss_same
    | dsimp only
    | split
    | intro _

theorem State.eqCodes_same {K B : Nat} {s0 : State} {s : State} (l : Nat) (dfe1 : Byte) (ctle : BitVec 5)
    (hK : K &&& 512 = 0) (hB : B ≤ 0x2000012) (hk : Same K B s0 s) :
    Same K B s0 (State.eqCodes s l dfe1 ctle) := by
  unfold State.eqCodes
  try dsimp only
  repeat' first
    | with_reducible assumption
    | with_reducible rfl
    | exact mask_sub hK rfl
    | exact le_objAt (Nat.le_trans hB (by decide))
    | exact Nat.le_trans hB (by decide)
    | exact Nat.le_trans hB (by split <;> decide)
    | with_reducible apply State.setFld_same
    | with_reducible apply State.eqManual_same
    | dsimp only
    | split
    | intro _

theorem State.eyeRead_same {K B : Nat} {s0 : State} {s : State} (e : EyeRead)
    (hK : K &&& 512 = 0) (hB : B ≤ 0x2000012) (hk : Same K B s0 s) :
    Same K B s0 (State.eyeRead s e) := by
  unfold State.eyeRead
  try dsimp only
  repeat' first
    | with_reducible assumption
    | with_reducible rfl
    | exact mask_sub hK rfl
    | exact le_objAt (Nat.le_trans hB (by decide))
    | exact Nat.le_trans hB (by decide)
    | exact Nat.le_trans hB (by split <;> decide)
    | with_reducible apply State.setFld_same
    | with_reducible apply State.eqCodes_same
    | dsimp only
    | split
    | intro _

theorem State.cdrLost_same {K B : Nat} {s0 : State} {s : State} (l : Nat)
    (hK : K &&& 20992 = 0) (hB : B ≤ 0x2000002) (hk : Same K B s0 s) :
    Same K B s0 (State.cdrLost s l) := by
  unfold State.cdrLost
  try dsimp only
  repeat' first
    | with_reducible assumption
    | with_reducible rfl
    | exact mask_sub hK rfl
    | exact le_objAt (Nat.le_trans hB (by decide))
    | exact Nat.le_trans hB (by decide)
    | exact Nat.le_trans hB (by split <;> decide)
    | with_reducible apply State.setOn_same
    | with_reducible apply State.modLane_same
    | with_reducible apply State.setLaneState_same
    | with_reducible apply State.laneBit_same
    | with_reducible apply State.noteLoss_same
    | dsimp only
    | split
    | intro _

theorem State.framerStart_same {K B : Nat} {s0 : State} {s : State} (l : Nat)
    (hK : K &&& 20992 = 0) (hB : B ≤ 0x3000015) (hk : Same K B s0 s) :
    Same K B s0 (State.framerStart s l) := by
  unfold State.framerStart
  try dsimp only
  repeat' first
    | with_reducible assumption
    | with_reducible rfl
    | exact mask_sub hK rfl
    | exact le_objAt (Nat.le_trans hB (by decide))
    | exact Nat.le_trans hB (by decide)
    | exact Nat.le_trans hB (by split <;> decide)
    | with_reducible apply State.modLane_same
    | with_reducible apply State.declare_same
    | dsimp only
    | split
    | intro _

theorem State.adapted_same {K B : Nat} {s0 : State} {s : State} (l : Nat) (pin : Word) (eye : Byte) (dfe1 : Byte) (ctle : BitVec 5)
    (hK : K &&& 20992 = 0) (hB : B ≤ 0x2000002) (hk : Same K B s0 s) :
    Same K B s0 (State.adapted s l pin eye dfe1 ctle) := by
  unfold State.adapted
  try dsimp only
  repeat' first
    | with_reducible assumption
    | with_reducible rfl
    | exact mask_sub hK rfl
    | exact le_objAt (Nat.le_trans hB (by decide))
    | exact Nat.le_trans hB (by decide)
    | exact Nat.le_trans hB (by split <;> decide)
    | with_reducible apply State.setFld_same
    | with_reducible apply State.setOn_same
    | with_reducible apply State.modLane_same
    | with_reducible apply State.setLaneState_same
    | with_reducible apply State.eqCodes_same
    | with_reducible apply State.framerStart_same
    | dsimp only
    | split
    | intro _

theorem State.eqDiscard_same {K B : Nat} {s0 : State} {s : State} (l : Nat)
    (hK : K &&& 4096 = 0) (hk : Same K B s0 s) :
    Same K B s0 (State.eqDiscard s l) := by
  unfold State.eqDiscard
  try dsimp only
  repeat' first
    | with_reducible assumption
    | with_reducible rfl
    | exact mask_sub hK rfl
    | with_reducible apply State.modLane_same
    | dsimp only
    | split
    | intro _

theorem State.bringUpLate_same {K B : Nat} {s0 : State} {s : State} (l : Nat)
    (hK : K &&& 20992 = 0) (hB : B ≤ 0x3000015) (hk : Same K B s0 s) :
    Same K B s0 (State.bringUpLate s l) := by
  unfold State.bringUpLate
  try dsimp only
  repeat' first
    | with_reducible assumption
    | with_reducible rfl
    | exact mask_sub hK rfl
    | exact le_objAt (Nat.le_trans hB (by decide))
    | exact Nat.le_trans hB (by decide)
    | exact Nat.le_trans hB (by split <;> decide)
    | with_reducible apply State.modLane_same
    | with_reducible apply State.declare_same
    | dsimp only
    | split
    | intro _

theorem State.patternLock_same {K B : Nat} {s0 : State} {s : State} (l : Nat) (locked : Bool)
    (hK : K &&& 20992 = 0) (hB : B ≤ 0x2000004) (hk : Same K B s0 s) :
    Same K B s0 (State.patternLock s l locked) := by
  unfold State.patternLock
  try dsimp only
  repeat' first
    | with_reducible assumption
    | with_reducible rfl
    | exact mask_sub hK rfl
    | exact le_objAt (Nat.le_trans hB (by decide))
    | exact Nat.le_trans hB (by decide)
    | exact Nat.le_trans hB (by split <;> decide)
    | with_reducible apply State.setOn_same
    | with_reducible apply State.modLane_same
    | with_reducible apply State.raiseIf_same
    | dsimp only
    | split
    | intro _

theorem State.patternErrors_same {K B : Nat} {s0 : State} {s : State} (l : Nat) (n : Nat)
    (hK : K &&& 16896 = 0) (hB : B ≤ 0x2000004) (hk : Same K B s0 s) :
    Same K B s0 (State.patternErrors s l n) := by
  unfold State.patternErrors
  try dsimp only
  repeat' first
    | with_reducible assumption
    | with_reducible rfl
    | exact mask_sub hK rfl
    | exact le_objAt (Nat.le_trans hB (by decide))
    | exact Nat.le_trans hB (by decide)
    | exact Nat.le_trans hB (by split <;> decide)
    | with_reducible apply State.bump_same
    | with_reducible apply State.raise_same
    | dsimp only
    | split
    | intro _

theorem State.patternCheck_same {K B : Nat} {s0 : State} {s : State} (e : Stream)
    (hK : K &&& 20992 = 0) (hB : B ≤ 0x2000004) (hk : Same K B s0 s) :
    Same K B s0 (State.patternCheck s e) := by
  unfold State.patternCheck
  try dsimp only
  repeat' first
    | with_reducible assumption
    | with_reducible rfl
    | exact mask_sub hK rfl
    | exact le_objAt (Nat.le_trans hB (by decide))
    | exact Nat.le_trans hB (by decide)
    | exact Nat.le_trans hB (by split <;> decide)
    | with_reducible apply State.modLane_same
    | with_reducible apply State.patternErrors_same
    | dsimp only
    | split
    | intro _

end Sys2Proof.Machine
end

