-- ==== Sys2Proof/Laws/SameLanding.lean ====
section
/-! SUPPORT. What the operations of Machine/Landing.lean leave (Same). -/

namespace Sys2Proof.Machine

theorem State.setVals_same {K B : Nat} {s0 : State} {s : State} (vs : List (Nat × Val))
    (hK : K &&& 512 = 0) (hB : B ≤ 0) (hk : Same K B s0 s) :
    Same K B s0 (State.setVals s vs) := by
  unfold State.setVals
  try dsimp only
  repeat' first
    | with_reducible assumption
    | with_reducible rfl
    | exact mask_sub hK rfl
    | exact Nat.le_trans hB (Nat.zero_le _)
    | with_reducible apply State.setVal_same
    | with_reducible apply Same.foldl
    | with_reducible apply Same.foldl_snd
    | with_reducible apply Same.foldl_fst
    | dsimp only
    | split
    | intro _

theorem State.setWords_same {K B : Nat} {s0 : State} {s : State} (vs : List (Nat × Nat × Word))
    (hK : K &&& 2048 = 0) (hk : Same K B s0 s) :
    Same K B s0 (State.setWords s vs) := by
  unfold State.setWords
  try dsimp only
  repeat' first
    | with_reducible assumption
    | with_reducible rfl
    | exact mask_sub hK rfl
    | with_reducible apply State.setWord_same
    | with_reducible apply Same.foldl
    | with_reducible apply Same.foldl_snd
    | with_reducible apply Same.foldl_fst
    | dsimp only
    | split
    | intro _

theorem State.asOf_same {K B : Nat} {s0 : State} {s : State} (fn : Nat) (f : State → State) (hf : ∀ t, Same K B s0 t → Same K B s0 (f t))
    (hK : K &&& 2560 = 0) (hB : B ≤ 0) (hk : Same K B s0 s) :
    Same K B s0 (State.asOf s fn f) := by
  unfold State.asOf
  try dsimp only
  repeat' first
    | with_reducible assumption
    | with_reducible rfl
    | exact mask_sub hK rfl
    | exact Nat.le_trans hB (Nat.zero_le _)
    | with_reducible apply State.setVals_same
    | with_reducible apply State.setWords_same
    | with_reducible apply hf
    | dsimp only
    | split
    | intro _

theorem State.asLanding_same {K B : Nat} {s0 : State} {s : State} (l : Nat) (L : Nat)
    (hK : K &&& 512 = 0) (hB : B ≤ 0) (hk : Same K B s0 s) :
    Same K B s0 (State.asLanding s l L) := by
  unfold State.asLanding
  try dsimp only
  repeat' first
    | with_reducible assumption
    | with_reducible rfl
    | exact mask_sub hK rfl
    | exact Nat.le_trans hB (Nat.zero_le _)
    | with_reducible apply State.setVals_same
    | dsimp only
    | split
    | intro _

theorem State.putLanding_same {K B : Nat} {s0 : State} {s : State} (l : Nat) (x : Landing)
    (hK : K &&& 4096 = 0) (hk : Same K B s0 s) :
    Same K B s0 (State.putLanding s l x) := by
  unfold State.putLanding
  try dsimp only
  repeat' first
    | with_reducible assumption
    | with_reducible rfl
    | exact mask_sub hK rfl
    | with_reducible apply State.modLane_same
    | dsimp only
    | split
    | intro _

theorem State.noteLanded_same {K B : Nat} {s0 : State} {s : State} (l : Nat) (x : Landing)
    (hK : K &&& 20992 = 0) (hB : B ≤ 0x7f00030) (hk : Same K B s0 s) :
    Same K B s0 (State.noteLanded s l x) := by
  unfold State.noteLanded
  try dsimp only
  repeat' first
    | with_reducible assumption
    | with_reducible rfl
    | exact mask_sub hK rfl
    | exact le_objAt (Nat.le_trans hB (by decide))
    | exact Nat.le_trans hB (by decide)
    | exact Nat.le_trans hB (by split <;> decide)
    | with_reducible apply State.rxDone_same
    | dsimp only
    | split
    | intro _

theorem State.checkBytes_same {K B : Nat} {s0 : State} {s : State} (l : Nat) (bs : List Byte)
    (hK : K &&& 72057594037928448 = 0) (hB : B ≤ 0x7f00022) (hk : Same K B s0 s) :
    Same K B s0 (State.checkBytes s l bs) := by
  unfold State.checkBytes
  try dsimp only
  repeat' first
    | with_reducible assumption
    | with_reducible rfl
    | exact mask_sub hK rfl
    | exact le_objAt (Nat.le_trans hB (by decide))
    | exact Nat.le_trans hB (by decide)
    | exact Nat.le_trans hB (by split <;> decide)
    | with_reducible apply State.setOn_same
    | with_reducible apply State.bump_same
    | with_reducible apply Same.foldl
    | with_reducible apply Same.foldl_snd
    | with_reducible apply Same.foldl_fst
    | dsimp only
    | split
    | intro _
    | with_reducible apply Same.upd_slotCheck

theorem State.checkSlot_same {K B : Nat} {s0 : State} {s : State} (l : Nat) (x : Landing)
    (hK : K &&& 72057594037928448 = 0) (hB : B ≤ 0x7f00022) (hk : Same K B s0 s) :
    Same K B s0 (State.checkSlot s l x) := by
  unfold State.checkSlot
  try dsimp only
  repeat' first
    | with_reducible assumption
    | with_reducible rfl
    | exact mask_sub hK rfl
    | exact le_objAt (Nat.le_trans hB (by decide))
    | exact Nat.le_trans hB (by decide)
    | exact Nat.le_trans hB (by split <;> decide)
    | with_reducible apply State.checkBytes_same
    | dsimp only
    | split
    | intro _

theorem State.land_same {K B : Nat} {s0 : State} {s : State} (l : Nat) (x : Landing)
    (hK : K &&& 72057594037948928 = 0) (hB : B ≤ 0x7f00022) (hk : Same K B s0 s) :
    Same K B s0 (State.land s l x) := by
  unfold State.land
  try dsimp only
  repeat' first
    | with_reducible assumption
    | with_reducible rfl
    | exact mask_sub hK rfl
    | exact le_objAt (Nat.le_trans hB (by decide))
    | exact Nat.le_trans hB (by decide)
    | exact Nat.le_trans hB (by split <;> decide)
    | with_reducible apply State.putLanding_same
    | with_reducible apply State.noteLanded_same
    | with_reducible apply State.checkSlot_same
    | dsimp only
    | split
    | intro _

theorem State.showSpare_same {K B : Nat} {s0 : State} {s : State} (l : Nat) (L : Nat)
    (hK : K &&& 512 = 0) (hB : B ≤ 0x8000003) (hk : Same K B s0 s) :
    Same K B s0 (State.showSpare s l L) := by
  unfold State.showSpare
  try dsimp only
  repeat' first
    | with_reducible assumption
    | with_reducible rfl
    | exact mask_sub hK rfl
    | exact le_objAt (Nat.le_trans hB (by decide))
    | exact Nat.le_trans hB (by decide)
    | exact Nat.le_trans hB (by split <;> decide)
    | with_reducible apply State.setFld_same
    | dsimp only
    | split
    | intro _

theorem State.slipRepeat_same {K B : Nat} {s0 : State} {s : State} (l : Nat) (L : Nat)
    (hK : K &&& 72057594037949952 = 0) (hB : B ≤ 0x7f00022) (hk : Same K B s0 s) :
    Same K B s0 (State.slipRepeat s l L) := by
  unfold State.slipRepeat
  try dsimp only
  repeat' first
    | with_reducible assumption
    | with_reducible rfl
    | exact mask_sub hK rfl
    | exact le_objAt (Nat.le_trans hB (by decide))
    | exact Nat.le_trans hB (by decide)
    | exact Nat.le_trans hB (by split <;> decide)
    | with_reducible apply State.bumpLive_same
    | with_reducible apply State.modLane_same
    | with_reducible apply State.raise_same
    | with_reducible apply State.land_same
    | dsimp only
    | split
    | intro _

theorem State.coreDrop_same {K B : Nat} {s0 : State} {s : State} (l : Nat) (L : Nat) (arrival : Tick)
    (hK : K &&& 22016 = 0) (hB : B ≤ 0x8000020) (hk : Same K B s0 s) :
    Same K B s0 (State.coreDrop s l L arrival) := by
  unfold State.coreDrop
  try dsimp only
  repeat' first
    | with_reducible assumption
    | with_reducible rfl
    | exact mask_sub hK rfl
    | exact le_objAt (Nat.le_trans hB (by decide))
    | exact Nat.le_trans hB (by decide)
    | exact Nat.le_trans hB (by split <;> decide)
    | with_reducible apply State.bumpLive_same
    | with_reducible apply State.modLane_same
    | with_reducible apply State.raise_same
    | with_reducible apply State.putLanding_same
    | dsimp only
    | split
    | intro _

theorem State.takeLanding_same {K B : Nat} {s0 : State} {s : State} (l : Nat) (L : Nat) (x : Landing) (behind : Bool)
    (hK : K &&& 72057594037949952 = 0) (hB : B ≤ 0x7f00022) (hk : Same K B s0 s) :
    Same K B s0 (State.takeLanding s l L x behind) := by
  unfold State.takeLanding
  try dsimp only
  repeat' first
    | with_reducible assumption
    | with_reducible rfl
    | exact mask_sub hK rfl
    | exact le_objAt (Nat.le_trans hB (by decide))
    | exact Nat.le_trans hB (by decide)
    | exact Nat.le_trans hB (by split <;> decide)
    | with_reducible apply State.modLane_same
    | with_reducible apply State.land_same
    | with_reducible apply State.showSpare_same
    | with_reducible apply State.coreDrop_same
    | dsimp only
    | split
    | intro _

theorem State.realign_same {K B : Nat} {s0 : State} {s : State} (l : Nat) (x : Landing) (behind : Bool)
    (hK : K &&& 72057594037949952 = 0) (hB : B ≤ 0x7f00022) (hk : Same K B s0 s) :
    Same K B s0 (State.realign s l x behind) := by
  unfold State.realign
  try dsimp only
  repeat' first
    | with_reducible assumption
    | with_reducible rfl
    | exact mask_sub hK rfl
    | exact le_objAt (Nat.le_trans hB (by decide))
    | exact Nat.le_trans hB (by decide)
    | exact Nat.le_trans hB (by split <;> decide)
    | with_reducible apply State.bumpLive_same
    | with_reducible apply State.raise_same
    | with_reducible apply State.reseedLane_same
    | with_reducible apply State.takeLanding_same
    | dsimp only
    | split
    | intro _

theorem State.followOn_same {K B : Nat} {s0 : State} {s : State} (l : Nat) (L : Nat) (x : Landing) (behind : Bool)
    (hK : K &&& 72057594037949952 = 0) (hB : B ≤ 0x7f00022) (hk : Same K B s0 s) :
    Same K B s0 (State.followOn s l L x behind) := by
  unfold State.followOn
  try dsimp only
  repeat' first
    | with_reducible assumption
    | with_reducible rfl
    | exact mask_sub hK rfl
    | exact le_objAt (Nat.le_trans hB (by decide))
    | exact Nat.le_trans hB (by decide)
    | exact Nat.le_trans hB (by split <;> decide)
    | with_reducible apply State.bumpLive_same
    | with_reducible apply State.raise_same
    | with_reducible apply State.showSpare_same
    | with_reducible apply State.slipRepeat_same
    | with_reducible apply State.takeLanding_same
    | dsimp only
    | split
    | intro _

theorem State.placeTtf_same {K B : Nat} {s0 : State} {s : State} (l : Nat) (x : Landing) (behind : Bool)
    (hK : K &&& 72057594037949952 = 0) (hB : B ≤ 0x7f00022) (hk : Same K B s0 s) :
    Same K B s0 (State.placeTtf s l x behind) := by
  unfold State.placeTtf
  try dsimp only
  repeat' first
    | with_reducible assumption
    | with_reducible rfl
    | exact mask_sub hK rfl
    | exact le_objAt (Nat.le_trans hB (by decide))
    | exact Nat.le_trans hB (by decide)
    | exact Nat.le_trans hB (by split <;> decide)
    | with_reducible apply State.realign_same
    | with_reducible apply State.followOn_same
    | dsimp only
    | split
    | intro _

theorem State.landAis_same {K B : Nat} {s0 : State} {s : State} (l : Nat) (L : Nat)
    (hK : K &&& 72057594037948928 = 0) (hB : B ≤ 0x7f00022) (hk : Same K B s0 s) :
    Same K B s0 (State.landAis s l L) := by
  unfold State.landAis
  try dsimp only
  repeat' first
    | with_reducible assumption
    | with_reducible rfl
    | exact mask_sub hK rfl
    | exact le_objAt (Nat.le_trans hB (by decide))
    | exact Nat.le_trans hB (by decide)
    | exact Nat.le_trans hB (by split <;> decide)
    | with_reducible apply State.land_same
    | dsimp only
    | split
    | intro _

theorem State.readyTtf_same {K B : Nat} {s0 : State} {s : State} (l : Nat) (L : Nat)
    (hK : K &&& 72057594037949952 = 0) (hB : B ≤ 0x7f00022) (hk : Same K B s0 s) :
    Same K B s0 (State.readyTtf s l L) := by
  unfold State.readyTtf
  try dsimp only
  repeat' first
    | with_reducible assumption
    | with_reducible rfl
    | exact mask_sub hK rfl
    | exact le_objAt (Nat.le_trans hB (by decide))
    | exact Nat.le_trans hB (by decide)
    | exact Nat.le_trans hB (by split <;> decide)
    | with_reducible apply State.slipRepeat_same
    | with_reducible apply State.landAis_same
    | dsimp only
    | split
    | intro _

theorem State.readySdh_same {K B : Nat} {s0 : State} {s : State} (l : Nat) (L : Nat)
    (hK : K &&& 72057594037948928 = 0) (hB : B ≤ 0) (hk : Same K B s0 s) :
    Same K B s0 (State.readySdh s l L) := by
  unfold State.readySdh
  try dsimp only
  repeat' first
    | with_reducible assumption
    | with_reducible rfl
    | exact mask_sub hK rfl
    | exact Nat.le_trans hB (Nat.zero_le _)
    | with_reducible apply State.asLanding_same
    | with_reducible apply State.land_same
    | dsimp only
    | split
    | intro _

end Sys2Proof.Machine
end

