-- ==== Sys2Proof/Laws/SameMapper.lean ====
section
/-! SUPPORT. What the operations of Machine/Mapper.lean leave (Same). -/

namespace Sys2Proof.Machine

theorem State.closeMapping_same {K B : Nat} {s0 : State} {s : State} (l : Nat) (L : Nat)
    (hK : K &&& 72057594037949952 = 0) (hB : B ≤ 0x7f00022) (hk : Same K B s0 s) :
    Same K B s0 (State.closeMapping s l L) := by
  unfold State.closeMapping
  try dsimp only
  repeat' first
    | with_reducible assumption
    | with_reducible rfl
    | exact mask_sub hK rfl
    | exact le_objAt (Nat.le_trans hB (by decide))
    | exact Nat.le_trans hB (by decide)
    | exact Nat.le_trans hB (by split <;> decide)
    | with_reducible apply State.bumpLive_same
    | with_reducible apply State.setLane_same
    | with_reducible apply State.land_same
    | dsimp only
    | split
    | intro _

theorem State.mapUpTo_same {K B : Nat} {s0 : State} {s : State} (l : Nat) (fn : Nat)
    (hK : K &&& 72057594037949952 = 0) (hB : B ≤ 0x7f00022) (hk : Same K B s0 s) :
    Same K B s0 (State.mapUpTo s l fn) := by
  unfold State.mapUpTo
  try dsimp only
  repeat' first
    | with_reducible assumption
    | with_reducible rfl
    | exact mask_sub hK rfl
    | exact le_objAt (Nat.le_trans hB (by decide))
    | exact Nat.le_trans hB (by decide)
    | exact Nat.le_trans hB (by split <;> decide)
    | with_reducible apply State.modLane_same
    | with_reducible apply State.closeMapping_same
    | dsimp only
    | split
    | intro _

theorem State.mapBlock_same {K B : Nat} {s0 : State} {s : State} (l : Nat) (sync : BitVec 2) (payload : BitVec 64)
    (hK : K &&& 72057594037949952 = 0) (hB : B ≤ 0x7f00022) (hk : Same K B s0 s) :
    Same K B s0 (State.mapBlock s l sync payload) := by
  unfold State.mapBlock
  try dsimp only
  repeat' first
    | with_reducible assumption
    | with_reducible rfl
    | exact mask_sub hK rfl
    | exact le_objAt (Nat.le_trans hB (by decide))
    | exact Nat.le_trans hB (by decide)
    | exact Nat.le_trans hB (by split <;> decide)
    | with_reducible apply State.bumpLive_same
    | with_reducible apply State.setLane_same
    | with_reducible apply State.modLane_same
    | with_reducible apply State.mapUpTo_same
    | dsimp only
    | split
    | intro _

theorem State.readyClient_same {K B : Nat} {s0 : State} {s : State} (l : Nat) (L : Nat)
    (hK : K &&& 72057594037949952 = 0) (hB : B ≤ 0x7f00022) (hk : Same K B s0 s) :
    Same K B s0 (State.readyClient s l L) := by
  unfold State.readyClient
  try dsimp only
  repeat' first
    | with_reducible assumption
    | with_reducible rfl
    | exact mask_sub hK rfl
    | exact le_objAt (Nat.le_trans hB (by decide))
    | exact Nat.le_trans hB (by decide)
    | exact Nat.le_trans hB (by split <;> decide)
    | with_reducible apply State.closeMapping_same
    | dsimp only
    | split
    | intro _

theorem State.takeSeq_same {K B : Nat} {s0 : State} {s : State} (l : Nat) (seq : Nat)
    (hK : K &&& 5120 = 0) (hk : Same K B s0 s) :
    Same K B s0 (State.takeSeq s l seq).2 := by
  unfold State.takeSeq
  try dsimp only
  repeat' first
    | with_reducible assumption
    | with_reducible rfl
    | exact mask_sub hK rfl
    | with_reducible apply State.bumpLive_same
    | with_reducible apply State.modLane_same
    | dsimp only
    | split
    | intro _

theorem State.appendBlocks_same {K B : Nat} {s0 : State} {s : State} (l : Nat) (fn : Nat) (bs : List Block)
    (hK : K &&& 5120 = 0) (hk : Same K B s0 s) :
    Same K B s0 (State.appendBlocks s l fn bs).2 := by
  unfold State.appendBlocks
  try dsimp only
  repeat' first
    | with_reducible assumption
    | with_reducible rfl
    | exact mask_sub hK rfl
    | with_reducible apply State.bumpLive_same
    | with_reducible apply State.setLane_same
    | dsimp only
    | split
    | intro _

theorem State.groupRuns_same {K B : Nat} {s0 : State} {s : State} (l : Nat) (gais : Bool) (late : Bool) (headerBad : Bool) (pchk : Option Bool)
    (hK : K &&& 4096 = 0) (hk : Same K B s0 s) :
    Same K B s0 (State.groupRuns s l gais late headerBad pchk) := by
  unfold State.groupRuns
  try dsimp only
  repeat' first
    | with_reducible assumption
    | with_reducible rfl
    | exact mask_sub hK rfl
    | with_reducible apply State.modLane_same
    | dsimp only
    | split
    | intro _

theorem State.sendBlocks_same {K B : Nat} {s0 : State} {s : State} (l : Nat) (fn : Nat)
    (hK : K &&& 5120 = 0) (hk : Same K B s0 s) :
    Same K B s0 (State.sendBlocks s l fn).2 := by
  unfold State.sendBlocks
  try dsimp only
  repeat' first
    | with_reducible assumption
    | with_reducible rfl
    | exact mask_sub hK rfl
    | with_reducible apply State.bumpLive_same
    | with_reducible apply State.setLane_same
    | dsimp only
    | split
    | intro _

theorem State.useFrame_same {K B : Nat} {s0 : State} {s : State} (l : Nat) (fn : Nat) (at_ : Tick) (h : GroupHeader) (stream : List Byte)
    (hK : K &&& 5632 = 0) (hB : B ≤ 0x6000002) (hk : Same K B s0 s) :
    Same K B s0 (State.useFrame s l fn at_ h stream) := by
  unfold State.useFrame
  try dsimp only
  repeat' first
    | with_reducible assumption
    | with_reducible rfl
    | exact mask_sub hK rfl
    | exact le_objAt (Nat.le_trans hB (by decide))
    | exact Nat.le_trans hB (by decide)
    | exact Nat.le_trans hB (by split <;> decide)
    | with_reducible apply State.setVal_same
    | with_reducible apply State.setFld_same
    | with_reducible apply State.takeSeq_same
    | with_reducible apply State.appendBlocks_same
    | dsimp only
    | split
    | intro _

theorem State.demap_same {K B : Nat} {s0 : State} {s : State} (l : Nat) (fn : Nat) (at_ : Tick) (cells : List Cell)
    (hK : K &&& 5632 = 0) (hB : B ≤ 0x6000002) (hk : Same K B s0 s) :
    Same K B s0 (State.demap s l fn at_ cells).2 := by
  unfold State.demap
  try dsimp only
  repeat' first
    | with_reducible assumption
    | with_reducible rfl
    | exact mask_sub hK rfl
    | exact le_objAt (Nat.le_trans hB (by decide))
    | exact Nat.le_trans hB (by decide)
    | exact Nat.le_trans hB (by split <;> decide)
    | with_reducible apply State.bumpLive_same
    | with_reducible apply State.modLane_same
    | with_reducible apply State.appendBlocks_same
    | with_reducible apply State.groupRuns_same
    | with_reducible apply State.sendBlocks_same
    | with_reducible apply State.useFrame_same
    | dsimp only
    | split
    | intro _

theorem State.resetDemapper_same {K B : Nat} {s0 : State} {s : State} (l : Nat)
    (hK : K &&& 4096 = 0) (hk : Same K B s0 s) :
    Same K B s0 (State.resetDemapper s l) := by
  unfold State.resetDemapper
  try dsimp only
  repeat' first
    | with_reducible assumption
    | with_reducible rfl
    | exact mask_sub hK rfl
    | with_reducible apply State.modLane_same
    | dsimp only
    | split
    | intro _

end Sys2Proof.Machine
end

