-- ==== Sys2Proof/Laws/SameSdh.lean ====
section
/-! SUPPORT. What the operations of Machine/Sdh.lean leave (Same). -/

namespace Sys2Proof.Machine

theorem State.interpret_same {K B : Nat} {s0 : State} {s : State} (l : Nat) (k : Nat) (p : PointerWord)
    (hK : K &&& 22016 = 0) (hB : B ≤ 0x4200000) (hk : Same K B s0 s) :
    Same K B s0 (State.interpret s l k p) := by
  unfold State.interpret
  try dsimp only
  repeat' first
    | with_reducible assumption
    | with_reducible rfl
    | exact mask_sub hK rfl
    | exact le_objAt (Nat.le_trans hB (by decide))
    | exact Nat.le_trans hB (by decide)
    | exact Nat.le_trans hB (by split <;> decide)
    | with_reducible apply State.setFld_same
    | with_reducible apply State.bumpLive_same
    | with_reducible apply State.modLane_same
    | with_reducible apply State.judgePath_same
    | dsimp only
    | split
    | intro _

theorem State.sawRun_same {K B : Nat} {s0 : State} {s : State} (l : Nat) (k : Nat) (v : Nat)
    (hK : K &&& 4096 = 0) (hk : Same K B s0 s) :
    Same K B s0 (State.sawRun s l k v) := by
  unfold State.sawRun
  try dsimp only
  repeat' first
    | with_reducible assumption
    | with_reducible rfl
    | exact mask_sub hK rfl
    | with_reducible apply State.modLane_same
    | dsimp only
    | split
    | intro _

theorem State.b3_same {K B : Nat} {s0 : State} {s : State} (l : Nat) (k : Nat) (n : Nat)
    (hK : K &&& 5120 = 0) (hk : Same K B s0 s) :
    Same K B s0 (State.b3 s l k n) := by
  unfold State.b3
  try dsimp only
  repeat' first
    | with_reducible assumption
    | with_reducible rfl
    | exact mask_sub hK rfl
    | with_reducible apply State.bumpLive_same
    | with_reducible apply State.modLane_same
    | dsimp only
    | split
    | intro _

theorem State.pathOverhead_same {K B : Nat} {s0 : State} {s : State} (l : Nat) (k : Nat) (p : Spe)
    (hK : K &&& 5120 = 0) (hk : Same K B s0 s) :
    Same K B s0 (State.pathOverhead s l k p) := by
  unfold State.pathOverhead
  try dsimp only
  repeat' first
    | with_reducible assumption
    | with_reducible rfl
    | exact mask_sub hK rfl
    | with_reducible apply State.bumpLive_same
    | with_reducible apply State.modLane_same
    | with_reducible apply State.sawRun_same
    | with_reducible apply State.b3_same
    | dsimp only
    | split
    | intro _

theorem State.placeSpe_same {K B : Nat} {s0 : State} {s : State} (l : Nat) (k : Nat) (arrival : Tick) (p : Spe)
    (hK : K &&& 72057594037932544 = 0) (hB : B ≤ 0x7f00022) (hk : Same K B s0 s) :
    Same K B s0 (State.placeSpe s l k arrival p) := by
  unfold State.placeSpe
  try dsimp only
  repeat' first
    | with_reducible assumption
    | with_reducible rfl
    | exact mask_sub hK rfl
    | exact le_objAt (Nat.le_trans hB (by decide))
    | exact Nat.le_trans hB (by decide)
    | exact Nat.le_trans hB (by split <;> decide)
    | with_reducible apply State.putLanding_same
    | with_reducible apply State.checkBytes_same
    | dsimp only
    | split
    | intro _

theorem State.receiveSpe_same {K B : Nat} {s0 : State} {s : State} (l : Nat) (k : Nat) (arrival : Tick) (p : Spe)
    (hK : K &&& 72057594037933568 = 0) (hB : B ≤ 0x7f00022) (hk : Same K B s0 s) :
    Same K B s0 (State.receiveSpe s l k arrival p) := by
  unfold State.receiveSpe
  try dsimp only
  repeat' first
    | with_reducible assumption
    | with_reducible rfl
    | exact mask_sub hK rfl
    | exact le_objAt (Nat.le_trans hB (by decide))
    | exact Nat.le_trans hB (by decide)
    | exact Nat.le_trans hB (by split <;> decide)
    | with_reducible apply State.pathOverhead_same
    | with_reducible apply State.placeSpe_same
    | dsimp only
    | split
    | intro _

theorem State.fillPath_same {K B : Nat} {s0 : State} {s : State} (l : Nat) (k : Nat) (arrival : Tick) (whole : Bool)
    (hK : K &&& 4096 = 0) (hk : Same K B s0 s) :
    Same K B s0 (State.fillPath s l k arrival whole) := by
  unfold State.fillPath
  try dsimp only
  repeat' first
    | with_reducible assumption
    | with_reducible rfl
    | exact mask_sub hK rfl
    | with_reducible apply State.putLanding_same
    | dsimp only
    | split
    | intro _

theorem State.receivePath_same {K B : Nat} {s0 : State} {s : State} (l : Nat) (arrival : Tick) (a : Array Byte) (k : Nat)
    (hK : K &&& 72057594037949952 = 0) (hB : B ≤ 0x4200000) (hk : Same K B s0 s) :
    Same K B s0 (State.receivePath s l arrival a k) := by
  unfold State.receivePath
  try dsimp only
  repeat' first
    | with_reducible assumption
    | with_reducible rfl
    | exact mask_sub hK rfl
    | exact le_objAt (Nat.le_trans hB (by decide))
    | exact Nat.le_trans hB (by decide)
    | exact Nat.le_trans hB (by split <;> decide)
    | with_reducible apply State.modLane_same
    | with_reducible apply State.interpret_same
    | with_reducible apply State.b3_same
    | with_reducible apply State.receiveSpe_same
    | with_reducible apply State.fillPath_same
    | with_reducible apply Same.foldl
    | with_reducible apply Same.foldl_snd
    | with_reducible apply Same.foldl_fst
    | dsimp only
    | split
    | intro _

theorem State.receivePaths_same {K B : Nat} {s0 : State} {s : State} (l : Nat) (arrival : Tick) (bytes : List Byte)
    (hK : K &&& 72057594037949952 = 0) (hB : B ≤ 0x4200000) (hk : Same K B s0 s) :
    Same K B s0 (State.receivePaths s l arrival bytes) := by
  unfold State.receivePaths
  try dsimp only
  repeat' first
    | with_reducible assumption
    | with_reducible rfl
    | exact mask_sub hK rfl
    | exact le_objAt (Nat.le_trans hB (by decide))
    | exact Nat.le_trans hB (by decide)
    | exact Nat.le_trans hB (by split <;> decide)
    | with_reducible apply State.receivePath_same
    | with_reducible apply Same.foldl
    | with_reducible apply Same.foldl_snd
    | with_reducible apply Same.foldl_fst
    | dsimp only
    | split
    | intro _

theorem State.overlaySample_same {K B : Nat} {s0 : State} {s : State} (l : Nat) (tx0 : Nat) (x : Nat × OvWord × Track)
    (hK : K &&& 22016 = 0) (hB : B ≤ 0x9000010) (hk : Same K B s0 s) :
    Same K B s0 (State.overlaySample s l tx0 x) := by
  unfold State.overlaySample
  try dsimp only
  repeat' first
    | with_reducible assumption
    | with_reducible rfl
    | exact mask_sub hK rfl
    | exact le_objAt (Nat.le_trans hB (by decide))
    | exact Nat.le_trans hB (by decide)
    | exact Nat.le_trans hB (by split <;> decide)
    | with_reducible apply State.bumpLive_same
    | with_reducible apply State.raise_same
    | with_reducible apply State.excludeSample_same
    | with_reducible apply State.enterSample_same
    | dsimp only
    | split
    | intro _

theorem State.discardOverlay_same {K B : Nat} {s0 : State} {s : State} (l : Nat) (n : Nat)
    (hK : K &&& 22016 = 0) (hB : B ≤ 0x4000020) (hk : Same K B s0 s) :
    Same K B s0 (State.discardOverlay s l n) := by
  unfold State.discardOverlay
  try dsimp only
  repeat' first
    | with_reducible assumption
    | with_reducible rfl
    | exact mask_sub hK rfl
    | exact le_objAt (Nat.le_trans hB (by decide))
    | exact Nat.le_trans hB (by decide)
    | exact Nat.le_trans hB (by split <;> decide)
    | with_reducible apply State.bumpLive_same
    | with_reducible apply State.raise_same
    | with_reducible apply State.excludeSample_same
    | dsimp only
    | split
    | intro _

theorem State.overlayBreak_same {K B : Nat} {s0 : State} {s : State} (l : Nat)
    (hK : K &&& 4096 = 0) (hk : Same K B s0 s) :
    Same K B s0 (State.overlayBreak s l) := by
  unfold State.overlayBreak
  try dsimp only
  repeat' first
    | with_reducible assumption
    | with_reducible rfl
    | exact mask_sub hK rfl
    | with_reducible apply State.modLane_same
    | dsimp only
    | split
    | intro _

theorem State.overlayMultiframe_same {K B : Nat} {s0 : State} {s : State} (l : Nat) (prev : List OvWord) (cur : List OvWord)
    (hK : K &&& 22016 = 0) (hB : B ≤ 0x4000020) (hk : Same K B s0 s) :
    Same K B s0 (State.overlayMultiframe s l prev cur) := by
  unfold State.overlayMultiframe
  try dsimp only
  repeat' first
    | with_reducible assumption
    | with_reducible rfl
    | exact mask_sub hK rfl
    | exact le_objAt (Nat.le_trans hB (by decide))
    | exact Nat.le_trans hB (by decide)
    | exact Nat.le_trans hB (by split <;> decide)
    | with_reducible apply State.sawRun_same
    | with_reducible apply State.overlaySample_same
    | with_reducible apply State.discardOverlay_same
    | with_reducible apply State.overlayBreak_same
    | with_reducible apply Same.foldl
    | with_reducible apply Same.foldl_snd
    | with_reducible apply Same.foldl_fst
    | dsimp only
    | split
    | intro _

theorem State.overlayEnd_same {K B : Nat} {s0 : State} {s : State} (l : Nat) (o : Overlay)
    (hK : K &&& 22016 = 0) (hB : B ≤ 0x4000020) (hk : Same K B s0 s) :
    Same K B s0 (State.overlayEnd s l o).2 := by
  unfold State.overlayEnd
  try dsimp only
  repeat' first
    | with_reducible assumption
    | with_reducible rfl
    | exact mask_sub hK rfl
    | exact le_objAt (Nat.le_trans hB (by decide))
    | exact Nat.le_trans hB (by decide)
    | exact Nat.le_trans hB (by split <;> decide)
    | with_reducible apply State.discardOverlay_same
    | with_reducible apply State.overlayBreak_same
    | with_reducible apply State.overlayMultiframe_same
    | dsimp only
    | split
    | intro _

theorem State.overlayWord_same {K B : Nat} {s0 : State} {s : State} (l : Nat) (w : OvWord)
    (hK : K &&& 22016 = 0) (hB : B ≤ 0x4000020) (hk : Same K B s0 s) :
    Same K B s0 (State.overlayWord s l w) := by
  unfold State.overlayWord
  try dsimp only
  repeat' first
    | with_reducible assumption
    | with_reducible rfl
    | exact mask_sub hK rfl
    | exact le_objAt (Nat.le_trans hB (by decide))
    | exact Nat.le_trans hB (by decide)
    | exact Nat.le_trans hB (by split <;> decide)
    | with_reducible apply State.modLane_same
    | with_reducible apply State.overlayEnd_same
    | dsimp only
    | split
    | intro _

theorem State.overlayOut_same {K B : Nat} {s0 : State} {s : State} (l : Nat) (fn : Nat) (tx : Tick) (cls : Nat) (steps : Nat) (root : Bool) (stepped : Bool)
    (hK : K &&& 4352 = 0) (hk : Same K B s0 s) :
    Same K B s0 (State.overlayOut s l fn tx cls steps root stepped).2 := by
  unfold State.overlayOut
  try dsimp only
  repeat' first
    | with_reducible assumption
    | with_reducible rfl
    | exact mask_sub hK rfl
    | with_reducible apply State.drawn_same
    | with_reducible apply State.modLane_same
    | dsimp only
    | split
    | intro _

theorem State.overlayAgain_same {K B : Nat} {s0 : State} {s : State} (l : Nat) (fn : Nat) (tx : Tick) (w : BitVec 16)
    (hK : K &&& 4352 = 0) (hk : Same K B s0 s) :
    Same K B s0 (State.overlayAgain s l fn tx w).2 := by
  unfold State.overlayAgain
  try dsimp only
  repeat' first
    | with_reducible assumption
    | with_reducible rfl
    | exact mask_sub hK rfl
    | with_reducible apply State.drawn_same
    | with_reducible apply State.modLane_same
    | dsimp only
    | split
    | intro _

theorem State.countPj_same {K B : Nat} {s0 : State} {s : State} (l : Nat) (k : Nat) (mv : Int)
    (hK : K &&& 1024 = 0) (hk : Same K B s0 s) :
    Same K B s0 (State.countPj s l k mv) := by
  unfold State.countPj
  try dsimp only
  repeat' first
    | with_reducible assumption
    | with_reducible rfl
    | exact mask_sub hK rfl
    | with_reducible apply State.setLive_same
    | dsimp only
    | split
    | intro _

theorem State.onLine_same {K B : Nat} {s0 : State} {s : State} (l : Nat) (f : TxFrame) (prior : Nat)
    (hK : K &&& 4096 = 0) (hk : Same K B s0 s) :
    Same K B s0 (State.onLine s l f prior) := by
  unfold State.onLine
  try dsimp only
  repeat' first
    | with_reducible assumption
    | with_reducible rfl
    | exact mask_sub hK rfl
    | with_reducible apply State.modLane_same
    | dsimp only
    | split
    | intro _

end Sys2Proof.Machine
end

