-- ==== Sys2Proof/Laws/SamePm.lean ====
section
/-! SUPPORT. What the operations of Machine/Pm.lean leave (Same). -/

namespace Sys2Proof.Machine

theorem State.pmAt_same {K B : Nat} {s0 : State} {s : State} (key : Nat) (second : Nat) (f : PmSecond → PmSecond)
    (hK : K &&& 274877906944 = 0) (hk : Same K B s0 s) :
    Same K B s0 (State.pmAt s key second f) := by
  unfold State.pmAt
  try dsimp only
  repeat' first
    | with_reducible assumption
    | with_reducible rfl
    | exact mask_sub hK rfl
    | with_reducible apply State.setPoint_same
    | dsimp only
    | split
    | intro _

theorem State.pmBlock_same {K B : Nat} {s0 : State} {s : State} (key : Nat) (near : Bool) (far : Bool)
    (hK : K &&& 274877906944 = 0) (hk : Same K B s0 s) :
    Same K B s0 (State.pmBlock s key near far) := by
  unfold State.pmBlock
  try dsimp only
  repeat' first
    | with_reducible assumption
    | with_reducible rfl
    | exact mask_sub hK rfl
    | with_reducible apply State.pmAt_same
    | dsimp only
    | split
    | intro _

theorem State.pmScan_same {K B : Nat} {s0 : State} {s : State} (key : Nat)
    (hK : K &&& 274877906944 = 0) (hk : Same K B s0 s) :
    Same K B s0 (State.pmScan s key) := by
  unfold State.pmScan
  try dsimp only
  repeat' first
    | with_reducible assumption
    | with_reducible rfl
    | exact mask_sub hK rfl
    | with_reducible apply State.pmAt_same
    | dsimp only
    | split
    | intro _

theorem State.pmScanAll_same {K B : Nat} {s0 : State} {s : State}
    (hK : K &&& 274877906944 = 0) (hk : Same K B s0 s) :
    Same K B s0 (State.pmScanAll s) := by
  unfold State.pmScanAll
  try dsimp only
  repeat' first
    | with_reducible assumption
    | with_reducible rfl
    | exact mask_sub hK rfl
    | with_reducible apply State.pmScan_same
    | with_reducible apply Same.foldl
    | with_reducible apply Same.foldl_snd
    | with_reducible apply Same.foldl_fst
    | dsimp only
    | split
    | intro _

theorem State.pmSuspect_same {K B : Nat} {s0 : State} {s : State} (key : Nat)
    (hK : K &&& 274877906944 = 0) (hk : Same K B s0 s) :
    Same K B s0 (State.pmSuspect s key) := by
  unfold State.pmSuspect
  try dsimp only
  repeat' first
    | with_reducible assumption
    | with_reducible rfl
    | exact mask_sub hK rfl
    | with_reducible apply State.setPoint_same
    | with_reducible apply State.pmAt_same
    | dsimp only
    | split
    | intro _

theorem State.tcaPush_same {K B : Nat} {s0 : State} {s : State} (key : Nat) (day : Bool) (c : Nat) (t : Nat)
    (hK : K &&& 1099511644672 = 0) (hB : B ≤ 0x10f00031) (hk : Same K B s0 s) :
    Same K B s0 (State.tcaPush s key day c t) := by
  unfold State.tcaPush
  try dsimp only
  repeat' first
    | with_reducible assumption
    | with_reducible rfl
    | exact mask_sub hK rfl
    | exact le_objAt (Nat.le_trans hB (by decide))
    | exact Nat.le_trans hB (by decide)
    | exact Nat.le_trans hB (by split <;> decide)
    | with_reducible apply State.bump_same
    | with_reducible apply State.raise_same
    | dsimp only
    | split
    | intro _
    | with_reducible apply Same.upd_tcaLog

theorem State.tcaCheck_same {K B : Nat} {s0 : State} {s : State} (key : Nat) (day : Bool) (old : List Nat) (new : List Nat) (t : Nat)
    (hK : K &&& 1099511644672 = 0) (hB : B ≤ 0x10f00031) (hk : Same K B s0 s) :
    Same K B s0 (State.tcaCheck s key day old new t) := by
  unfold State.tcaCheck
  try dsimp only
  repeat' first
    | with_reducible assumption
    | with_reducible rfl
    | exact mask_sub hK rfl
    | exact le_objAt (Nat.le_trans hB (by decide))
    | exact Nat.le_trans hB (by decide)
    | exact Nat.le_trans hB (by split <;> decide)
    | with_reducible apply State.tcaPush_same
    | with_reducible apply Same.foldl
    | with_reducible apply Same.foldl_snd
    | with_reducible apply Same.foldl_fst
    | dsimp only
    | split
    | intro _

theorem State.cutDay_same {K B : Nat} {s0 : State} {s : State} (key : Nat) (t : Nat)
    (hK : K &&& 274877923840 = 0) (hB : B ≤ 0x10f00032) (hk : Same K B s0 s) :
    Same K B s0 (State.cutDay s key t) := by
  unfold State.cutDay
  try dsimp only
  repeat' first
    | with_reducible assumption
    | with_reducible rfl
    | exact mask_sub hK rfl
    | exact le_objAt (Nat.le_trans hB (by decide))
    | exact Nat.le_trans hB (by decide)
    | exact Nat.le_trans hB (by split <;> decide)
    | with_reducible apply State.setPoint_same
    | with_reducible apply State.raiseIf_same
    | dsimp only
    | split
    | intro _

theorem State.classify_same {K B : Nat} {s0 : State} {s : State} (key : Nat) (x : PmSecond) (run : List PmSecond)
    (hK : K &&& 1374389551616 = 0) (hB : B ≤ 0x10f00003) (hk : Same K B s0 s) :
    Same K B s0 (State.classify s key x run) := by
  unfold State.classify
  try dsimp only
  repeat' first
    | with_reducible assumption
    | with_reducible rfl
    | exact mask_sub hK rfl
    | exact le_objAt (Nat.le_trans hB (by decide))
    | exact Nat.le_trans hB (by decide)
    | exact Nat.le_trans hB (by split <;> decide)
    | with_reducible apply State.setFld_same
    | with_reducible apply State.setPoint_same
    | with_reducible apply State.raise_same
    | with_reducible apply State.raiseIf_same
    | with_reducible apply State.tcaCheck_same
    | with_reducible apply State.cutDay_same
    | dsimp only
    | split
    | intro _

theorem State.pmTick_same {K B : Nat} {s0 : State} {s : State} (key : Nat) (t : Nat)
    (hK : K &&& 1374389551616 = 0) (hB : B ≤ 0x10f00003) (hk : Same K B s0 s) :
    Same K B s0 (State.pmTick s key t) := by
  unfold State.pmTick
  try dsimp only
  repeat' first
    | with_reducible assumption
    | with_reducible rfl
    | exact mask_sub hK rfl
    | exact le_objAt (Nat.le_trans hB (by decide))
    | exact Nat.le_trans hB (by decide)
    | exact Nat.le_trans hB (by split <;> decide)
    | with_reducible apply State.setPoint_same
    | with_reducible apply State.classify_same
    | dsimp only
    | split
    | intro _

theorem State.pmLedger_same {K B : Nat} {s0 : State} {s : State} (l : Nat)
    (hK : K &&& 274877906944 = 0) (hk : Same K B s0 s) :
    Same K B s0 (State.pmLedger s l) := by
  unfold State.pmLedger
  try dsimp only
  repeat' first
    | with_reducible assumption
    | with_reducible rfl
    | exact mask_sub hK rfl
    | with_reducible apply State.setPoint_same
    | dsimp only
    | split
    | intro _

theorem State.pmSecond_same {K B : Nat} {s0 : State} {s : State}
    (hK : K &&& 1924145365504 = 0) (hB : B ≤ 0x10f00003) (hk : Same K B s0 s) :
    Same K B s0 (State.pmSecond s) := by
  unfold State.pmSecond
  try dsimp only
  repeat' first
    | with_reducible assumption
    | with_reducible rfl
    | exact mask_sub hK rfl
    | exact le_objAt (Nat.le_trans hB (by decide))
    | exact Nat.le_trans hB (by decide)
    | exact Nat.le_trans hB (by split <;> decide)
    | with_reducible apply State.pmTick_same
    | with_reducible apply State.pmLedger_same
    | with_reducible apply Same.foldl
    | with_reducible apply Same.foldl_snd
    | with_reducible apply Same.foldl_fst
    | dsimp only
    | split
    | intro _
    | with_reducible apply Same.upd_dayCuts

theorem State.pmStep_same {K B : Nat} {s0 : State} {s : State}
    (hK : K &&& 824633737728 = 0) (hB : B ≤ 0x10f00003) (hk : Same K B s0 s) :
    Same K B s0 (State.pmStep s) := by
  unfold State.pmStep
  try dsimp only
  repeat' first
    | with_reducible assumption
    | with_reducible rfl
    | exact mask_sub hK rfl
    | exact le_objAt (Nat.le_trans hB (by decide))
    | exact Nat.le_trans hB (by decide)
    | exact Nat.le_trans hB (by split <;> decide)
    | with_reducible apply State.setFld_same
    | with_reducible apply State.raiseIf_same
    | dsimp only
    | split
    | intro _
    | with_reducible apply Same.upd_points_dayCuts

end Sys2Proof.Machine
end

