-- ==== Sys2Proof/Laws/SameSynth.lean ====
section
/-! SUPPORT. What the operations of Machine/Synth.lean leave (Same). -/

namespace Sys2Proof.Machine

theorem State.showClamp_same {K B : Nat} {s0 : State} {s : State} (n : Nat)
    (hK : K &&& 536887808 = 0) (hB : B ≤ 0xb100010) (hk : Same K B s0 s) :
    Same K B s0 (State.showClamp s n) := by
  unfold State.showClamp
  try dsimp only
  repeat' first
    | with_reducible assumption
    | with_reducible rfl
    | exact mask_sub hK rfl
    | exact le_objAt (Nat.le_trans hB (by decide))
    | exact Nat.le_trans hB (by decide)
    | exact Nat.le_trans hB (by split <;> decide)
    | with_reducible apply State.setOn_same
    | with_reducible apply State.setOut_same
    | with_reducible apply State.raiseIf_same
    | dsimp only
    | split
    | intro _

theorem State.quench_same {K B : Nat} {s0 : State} {s : State} (n : Nat)
    (hK : K &&& 536887808 = 0) (hB : B ≤ 0xb100011) (hk : Same K B s0 s) :
    Same K B s0 (State.quench s n) := by
  unfold State.quench
  try dsimp only
  repeat' first
    | with_reducible assumption
    | with_reducible rfl
    | exact mask_sub hK rfl
    | exact le_objAt (Nat.le_trans hB (by decide))
    | exact Nat.le_trans hB (by decide)
    | exact Nat.le_trans hB (by split <;> decide)
    | with_reducible apply State.setOut_same
    | with_reducible apply State.raise_same
    | dsimp only
    | split
    | intro _

theorem State.showOut_same {K B : Nat} {s0 : State} {s : State} (n : Nat)
    (hK : K &&& 536887808 = 0) (hB : B ≤ 0xb100010) (hk : Same K B s0 s) :
    Same K B s0 (State.showOut s n) := by
  unfold State.showOut
  try dsimp only
  repeat' first
    | with_reducible assumption
    | with_reducible rfl
    | exact mask_sub hK rfl
    | exact le_objAt (Nat.le_trans hB (by decide))
    | exact Nat.le_trans hB (by decide)
    | exact Nat.le_trans hB (by split <;> decide)
    | with_reducible apply State.setFld_same
    | with_reducible apply State.setOn_same
    | with_reducible apply State.setOut_same
    | with_reducible apply State.showClamp_same
    | with_reducible apply State.quench_same
    | dsimp only
    | split
    | intro _

theorem State.startChange_same {K B : Nat} {s0 : State} {s : State} (n : Nat) (goal : Nat × Nat) (x : Tick)
    (hK : K &&& 536887808 = 0) (hB : B ≤ 0xb100010) (hk : Same K B s0 s) :
    Same K B s0 (State.startChange s n goal x) := by
  unfold State.startChange
  try dsimp only
  repeat' first
    | with_reducible assumption
    | with_reducible rfl
    | exact mask_sub hK rfl
    | exact le_objAt (Nat.le_trans hB (by decide))
    | exact Nat.le_trans hB (by decide)
    | exact Nat.le_trans hB (by split <;> decide)
    | with_reducible apply State.setOn_same
    | with_reducible apply State.setOut_same
    | with_reducible apply State.quench_same
    | with_reducible apply State.showOut_same
    | dsimp only
    | split
    | intro _

theorem State.changeFreq_same {K B : Nat} {s0 : State} {s : State} (n : Nat) (goal : Nat × Nat) (x : Tick)
    (hK : K &&& 536887808 = 0) (hB : B ≤ 0xb100010) (hk : Same K B s0 s) :
    Same K B s0 (State.changeFreq s n goal x) := by
  unfold State.changeFreq
  try dsimp only
  repeat' first
    | with_reducible assumption
    | with_reducible rfl
    | exact mask_sub hK rfl
    | exact le_objAt (Nat.le_trans hB (by decide))
    | exact Nat.le_trans hB (by decide)
    | exact Nat.le_trans hB (by split <;> decide)
    | with_reducible apply State.setOut_same
    | with_reducible apply State.showOut_same
    | with_reducible apply State.startChange_same
    | dsimp only
    | split
    | intro _

theorem State.startAlign_same {K B : Nat} {s0 : State} {s : State} (n : Nat) (d : Int)
    (hK : K &&& 536887808 = 0) (hB : B ≤ 0xb100010) (hk : Same K B s0 s) :
    Same K B s0 (State.startAlign s n d) := by
  unfold State.startAlign
  try dsimp only
  repeat' first
    | with_reducible assumption
    | with_reducible rfl
    | exact mask_sub hK rfl
    | exact le_objAt (Nat.le_trans hB (by decide))
    | exact Nat.le_trans hB (by decide)
    | exact Nat.le_trans hB (by split <;> decide)
    | with_reducible apply State.setOn_same
    | with_reducible apply State.setOut_same
    | with_reducible apply State.showOut_same
    | dsimp only
    | split
    | intro _

theorem State.endGlide_same {K B : Nat} {s0 : State} {s : State} (n : Nat)
    (hK : K &&& 536887808 = 0) (hB : B ≤ 0xb100010) (hk : Same K B s0 s) :
    Same K B s0 (State.endGlide s n) := by
  unfold State.endGlide
  try dsimp only
  repeat' first
    | with_reducible assumption
    | with_reducible rfl
    | exact mask_sub hK rfl
    | exact le_objAt (Nat.le_trans hB (by decide))
    | exact Nat.le_trans hB (by decide)
    | exact Nat.le_trans hB (by split <;> decide)
    | with_reducible apply State.setOn_same
    | with_reducible apply State.setOut_same
    | with_reducible apply State.raise_same
    | with_reducible apply State.showOut_same
    | with_reducible apply State.startChange_same
    | dsimp only
    | split
    | intro _

theorem State.rampEnd_same {K B : Nat} {s0 : State} {s : State} (n : Nat) (delta : Int)
    (hK : K &&& 536887808 = 0) (hB : B ≤ 0xb100010) (hk : Same K B s0 s) :
    Same K B s0 (State.rampEnd s n delta) := by
  unfold State.rampEnd
  try dsimp only
  repeat' first
    | with_reducible assumption
    | with_reducible rfl
    | exact mask_sub hK rfl
    | exact le_objAt (Nat.le_trans hB (by decide))
    | exact Nat.le_trans hB (by decide)
    | exact Nat.le_trans hB (by split <;> decide)
    | with_reducible apply State.setOut_same
    | with_reducible apply State.startAlign_same
    | with_reducible apply State.endGlide_same
    | dsimp only
    | split
    | intro _

theorem State.glideDone_same {K B : Nat} {s0 : State} {s : State} (n : Nat)
    (hK : K &&& 536887808 = 0) (hB : B ≤ 0xb100010) (hk : Same K B s0 s) :
    Same K B s0 (State.glideDone s n) := by
  unfold State.glideDone
  try dsimp only
  repeat' first
    | with_reducible assumption
    | with_reducible rfl
    | exact mask_sub hK rfl
    | exact le_objAt (Nat.le_trans hB (by decide))
    | exact Nat.le_trans hB (by decide)
    | exact Nat.le_trans hB (by split <;> decide)
    | with_reducible apply State.startAlign_same
    | with_reducible apply State.endGlide_same
    | dsimp only
    | split
    | intro _

theorem State.unclamp_same {K B : Nat} {s0 : State} {s : State} (n : Nat)
    (hK : K &&& 536887808 = 0) (hB : B ≤ 0xb100010) (hk : Same K B s0 s) :
    Same K B s0 (State.unclamp s n) := by
  unfold State.unclamp
  try dsimp only
  repeat' first
    | with_reducible assumption
    | with_reducible rfl
    | exact mask_sub hK rfl
    | exact le_objAt (Nat.le_trans hB (by decide))
    | exact Nat.le_trans hB (by decide)
    | exact Nat.le_trans hB (by split <;> decide)
    | with_reducible apply State.setOut_same
    | with_reducible apply State.showOut_same
    | with_reducible apply State.startAlign_same
    | dsimp only
    | split
    | intro _

theorem State.showOuts_same {K B : Nat} {s0 : State} {s : State}
    (hK : K &&& 536887808 = 0) (hB : B ≤ 0xb100010) (hk : Same K B s0 s) :
    Same K B s0 (State.showOuts s) := by
  unfold State.showOuts
  try dsimp only
  repeat' first
    | with_reducible assumption
    | with_reducible rfl
    | exact mask_sub hK rfl
    | exact le_objAt (Nat.le_trans hB (by decide))
    | exact Nat.le_trans hB (by decide)
    | exact Nat.le_trans hB (by split <;> decide)
    | with_reducible apply State.unclamp_same
    | with_reducible apply Same.foldl
    | with_reducible apply Same.foldl_snd
    | with_reducible apply Same.foldl_fst
    | dsimp only
    | split
    | intro _

theorem State.outputResume_same {K B : Nat} {s0 : State} {s : State} (n : Nat)
    (hK : K &&& 536887808 = 0) (hB : B ≤ 0xb100010) (hk : Same K B s0 s) :
    Same K B s0 (State.outputResume s n) := by
  unfold State.outputResume
  try dsimp only
  repeat' first
    | with_reducible assumption
    | with_reducible rfl
    | exact mask_sub hK rfl
    | exact le_objAt (Nat.le_trans hB (by decide))
    | exact Nat.le_trans hB (by decide)
    | exact Nat.le_trans hB (by split <;> decide)
    | with_reducible apply State.setOn_same
    | with_reducible apply State.setOut_same
    | with_reducible apply State.showOut_same
    | dsimp only
    | split
    | intro _

theorem State.stepOut_same {K B : Nat} {s0 : State} {s : State} (d : Int) (n : Nat)
    (hK : K &&& 536887808 = 0) (hB : B ≤ 0xb100010) (hk : Same K B s0 s) :
    Same K B s0 (State.stepOut s d n) := by
  unfold State.stepOut
  try dsimp only
  repeat' first
    | with_reducible assumption
    | with_reducible rfl
    | exact mask_sub hK rfl
    | exact le_objAt (Nat.le_trans hB (by decide))
    | exact Nat.le_trans hB (by decide)
    | exact Nat.le_trans hB (by split <;> decide)
    | with_reducible apply State.startChange_same
    | with_reducible apply State.startAlign_same
    | dsimp only
    | split
    | intro _

theorem State.stepOuts_same {K B : Nat} {s0 : State} {s : State} (d : Int)
    (hK : K &&& 536887808 = 0) (hB : B ≤ 0xb100010) (hk : Same K B s0 s) :
    Same K B s0 (State.stepOuts s d) := by
  unfold State.stepOuts
  try dsimp only
  repeat' first
    | with_reducible assumption
    | with_reducible rfl
    | exact mask_sub hK rfl
    | exact le_objAt (Nat.le_trans hB (by decide))
    | exact Nat.le_trans hB (by decide)
    | exact Nat.le_trans hB (by split <;> decide)
    | with_reducible apply State.stepOut_same
    | with_reducible apply Same.foldl
    | with_reducible apply Same.foldl_snd
    | with_reducible apply Same.foldl_fst
    | dsimp only
    | split
    | intro _

theorem State.setPulse_same {K B : Nat} {s0 : State} {s : State} (p : Nat) (x : Pulse)
    (hK : K &&& 1073741824 = 0) (hk : Same K B s0 s) :
    Same K B s0 (State.setPulse s p x) := by
  unfold State.setPulse
  try dsimp only
  repeat' first
    | with_reducible assumption
    | with_reducible rfl
    | exact mask_sub hK rfl
    | dsimp only
    | split
    | intro _
    | with_reducible apply Same.upd_pps

theorem State.ppsPulse_same {K B : Nat} {s0 : State} {s : State} (p : Nat)
    (hK : K &&& 1073758720 = 0) (hB : B ≤ 0xb200003) (hk : Same K B s0 s) :
    Same K B s0 (State.ppsPulse s p) := by
  unfold State.ppsPulse
  try dsimp only
  repeat' first
    | with_reducible assumption
    | with_reducible rfl
    | exact mask_sub hK rfl
    | exact le_objAt (Nat.le_trans hB (by decide))
    | exact Nat.le_trans hB (by decide)
    | exact Nat.le_trans hB (by split <;> decide)
    | with_reducible apply State.raise_same
    | with_reducible apply State.setPulse_same
    | dsimp only
    | split
    | intro _

end Sys2Proof.Machine
end

