-- ==== Sys2Proof/Laws/SameTiming.lean ====
section
/-! SUPPORT. What the operations of Machine/Timing.lean leave (Same). -/

namespace Sys2Proof.Machine

theorem State.setRingPort_same {K B : Nat} {s0 : State} {s : State} (p : Nat) (r : RingPort)
    (hK : K &&& 17179869184 = 0) (hk : Same K B s0 s) :
    Same K B s0 (State.setRingPort s p r) := by
  unfold State.setRingPort
  try dsimp only
  repeat' first
    | with_reducible assumption
    | with_reducible rfl
    | exact mask_sub hK rfl
    | dsimp only
    | split
    | intro _
    | with_reducible apply Same.upd_gallery

theorem State.setQualified_same {K B : Nat} {s0 : State} {s : State} (c : Nat) (q : Bool)
    (hK : K &&& 134234624 = 0) (hB : B ≤ 0xa000030) (hk : Same K B s0 s) :
    Same K B s0 (State.setQualified s c q) := by
  unfold State.setQualified
  try dsimp only
  repeat' first
    | with_reducible assumption
    | with_reducible rfl
    | exact mask_sub hK rfl
    | exact le_objAt (Nat.le_trans hB (by decide))
    | exact Nat.le_trans hB (by decide)
    | exact Nat.le_trans hB (by split <;> decide)
    | with_reducible apply State.setOn_same
    | with_reducible apply State.setCand_same
    | with_reducible apply State.raise_same
    | dsimp only
    | split
    | intro _

theorem State.candWatchAt_same {K B : Nat} {s0 : State} {s : State} (c : Nat) (from_ : Tick)
    (hK : K &&& 134234624 = 0) (hB : B ≤ 0xa000030) (hk : Same K B s0 s) :
    Same K B s0 (State.candWatchAt s c from_) := by
  unfold State.candWatchAt
  try dsimp only
  repeat' first
    | with_reducible assumption
    | with_reducible rfl
    | exact mask_sub hK rfl
    | exact le_objAt (Nat.le_trans hB (by decide))
    | exact Nat.le_trans hB (by decide)
    | exact Nat.le_trans hB (by split <;> decide)
    | with_reducible apply State.setFld_same
    | with_reducible apply State.setOn_same
    | with_reducible apply State.setCand_same
    | with_reducible apply State.raiseIf_same
    | with_reducible apply State.setQualified_same
    | dsimp only
    | split
    | intro _

theorem State.candWatch_same {K B : Nat} {s0 : State} {s : State} (c : Nat)
    (hK : K &&& 134234624 = 0) (hB : B ≤ 0xa000030) (hk : Same K B s0 s) :
    Same K B s0 (State.candWatch s c) := by
  unfold State.candWatch
  try dsimp only
  repeat' first
    | with_reducible assumption
    | with_reducible rfl
    | exact mask_sub hK rfl
    | exact le_objAt (Nat.le_trans hB (by decide))
    | exact Nat.le_trans hB (by decide)
    | exact Nat.le_trans hB (by split <;> decide)
    | with_reducible apply State.candWatchAt_same
    | dsimp only
    | split
    | intro _

theorem State.candWtr_same {K B : Nat} {s0 : State} {s : State} (c : Nat)
    (hK : K &&& 134234624 = 0) (hB : B ≤ 0xa000030) (hk : Same K B s0 s) :
    Same K B s0 (State.candWtr s c) := by
  unfold State.candWtr
  try dsimp only
  repeat' first
    | with_reducible assumption
    | with_reducible rfl
    | exact mask_sub hK rfl
    | exact le_objAt (Nat.le_trans hB (by decide))
    | exact Nat.le_trans hB (by decide)
    | exact Nat.le_trans hB (by split <;> decide)
    | with_reducible apply State.setOn_same
    | with_reducible apply State.setQualified_same
    | with_reducible apply State.candWatch_same
    | dsimp only
    | split
    | intro _

theorem State.sawEdge_same {K B : Nat} {s0 : State} {s : State} (i : Nat) (e : Tick)
    (hK : K &&& 134217728 = 0) (hk : Same K B s0 s) :
    Same K B s0 (State.sawEdge s i e) := by
  unfold State.sawEdge
  try dsimp only
  repeat' first
    | with_reducible assumption
    | with_reducible rfl
    | exact mask_sub hK rfl
    | with_reducible apply State.setCand_same
    | dsimp only
    | split
    | intro _

theorem State.actLost_same {K B : Nat} {s0 : State} {s : State} (i : Nat)
    (hK : K &&& 134234624 = 0) (hB : B ≤ 0xa000030) (hk : Same K B s0 s) :
    Same K B s0 (State.actLost s i) := by
  unfold State.actLost
  try dsimp only
  repeat' first
    | with_reducible assumption
    | with_reducible rfl
    | exact mask_sub hK rfl
    | exact le_objAt (Nat.le_trans hB (by decide))
    | exact Nat.le_trans hB (by decide)
    | exact Nat.le_trans hB (by split <;> decide)
    | with_reducible apply State.setCand_same
    | with_reducible apply State.raise_same
    | with_reducible apply State.candWatch_same
    | dsimp only
    | split
    | intro _

theorem State.actReturn_same {K B : Nat} {s0 : State} {s : State} (i : Nat)
    (hK : K &&& 134234624 = 0) (hB : B ≤ 0xa000030) (hk : Same K B s0 s) :
    Same K B s0 (State.actReturn s i) := by
  unfold State.actReturn
  try dsimp only
  repeat' first
    | with_reducible assumption
    | with_reducible rfl
    | exact mask_sub hK rfl
    | exact le_objAt (Nat.le_trans hB (by decide))
    | exact Nat.le_trans hB (by decide)
    | exact Nat.le_trans hB (by split <;> decide)
    | with_reducible apply State.setCand_same
    | with_reducible apply State.raise_same
    | with_reducible apply State.candWatch_same
    | dsimp only
    | split
    | intro _

theorem State.freqMonitor_same {K B : Nat} {s0 : State} {s : State} (c : Nat) (offset : Int)
    (hK : K &&& 134234624 = 0) (hB : B ≤ 0xa000030) (hk : Same K B s0 s) :
    Same K B s0 (State.freqMonitor s c offset) := by
  unfold State.freqMonitor
  try dsimp only
  repeat' first
    | with_reducible assumption
    | with_reducible rfl
    | exact mask_sub hK rfl
    | exact le_objAt (Nat.le_trans hB (by decide))
    | exact Nat.le_trans hB (by decide)
    | exact Nat.le_trans hB (by split <;> decide)
    | with_reducible apply State.setFld_same
    | with_reducible apply State.setCand_same
    | with_reducible apply State.raise_same
    | with_reducible apply State.candWatch_same
    | dsimp only
    | split
    | intro _

theorem State.gateOf_same {K B : Nat} {s0 : State} {s : State} (c : Nat) (offset : Int)
    (hK : K &&& 134238720 = 0) (hB : B ≤ 0x2000002) (hk : Same K B s0 s) :
    Same K B s0 (State.gateOf s c offset) := by
  unfold State.gateOf
  try dsimp only
  repeat' first
    | with_reducible assumption
    | with_reducible rfl
    | exact mask_sub hK rfl
    | exact le_objAt (Nat.le_trans hB (by decide))
    | exact Nat.le_trans hB (by decide)
    | exact Nat.le_trans hB (by split <;> decide)
    | with_reducible apply State.setFld_same
    | with_reducible apply State.laneBit_same
    | with_reducible apply State.cdrLost_same
    | with_reducible apply State.freqMonitor_same
    | dsimp only
    | split
    | intro _

theorem State.freqGate_same {K B : Nat} {s0 : State} {s : State} (c : Nat) (offset : Int)
    (hK : K &&& 134238720 = 0) (hB : B ≤ 0x2000002) (hk : Same K B s0 s) :
    Same K B s0 (State.freqGate s c offset) := by
  unfold State.freqGate
  try dsimp only
  repeat' first
    | with_reducible assumption
    | with_reducible rfl
    | exact mask_sub hK rfl
    | exact le_objAt (Nat.le_trans hB (by decide))
    | exact Nat.le_trans hB (by decide)
    | exact Nat.le_trans hB (by split <;> decide)
    | with_reducible apply State.setCand_same
    | with_reducible apply State.gateOf_same
    | dsimp only
    | split
    | intro _

theorem State.showError_same {K B : Nat} {s0 : State} {s : State} (c : Nat)
    (hK : K &&& 512 = 0) (hB : B ≤ 0xa100005) (hk : Same K B s0 s) :
    Same K B s0 (State.showError s c) := by
  unfold State.showError
  try dsimp only
  repeat' first
    | with_reducible assumption
    | with_reducible rfl
    | exact mask_sub hK rfl
    | exact le_objAt (Nat.le_trans hB (by decide))
    | exact Nat.le_trans hB (by decide)
    | exact Nat.le_trans hB (by split <;> decide)
    | with_reducible apply State.setFld_same
    | dsimp only
    | split
    | intro _

theorem State.runPull_same {K B : Nat} {s0 : State} {s : State}
    (hK : K &&& 268435968 = 0) (hB : B ≤ 0xa000020) (hk : Same K B s0 s) :
    Same K B s0 (State.runPull s) := by
  unfold State.runPull
  try dsimp only
  repeat' first
    | with_reducible assumption
    | with_reducible rfl
    | exact mask_sub hK rfl
    | exact le_objAt (Nat.le_trans hB (by decide))
    | exact Nat.le_trans hB (by decide)
    | exact Nat.le_trans hB (by split <;> decide)
    | with_reducible apply State.setOn_same
    | dsimp only
    | split
    | intro _
    | with_reducible apply Same.upd_timing

theorem State.buildOut_same {K B : Nat} {s0 : State} {s : State} (c : Nat)
    (hK : K &&& 134217728 = 0) (hk : Same K B s0 s) :
    Same K B s0 (State.buildOut s c) := by
  unfold State.buildOut
  try dsimp only
  repeat' first
    | with_reducible assumption
    | with_reducible rfl
    | exact mask_sub hK rfl
    | with_reducible apply State.setCand_same
    | dsimp only
    | split
    | intro _

theorem State.stopPull_same {K B : Nat} {s0 : State} {s : State}
    (hK : K &&& 512 = 0) (hB : B ≤ 0xa000020) (hk : Same K B s0 s) :
    Same K B s0 (State.stopPull s) := by
  unfold State.stopPull
  try dsimp only
  repeat' first
    | with_reducible assumption
    | with_reducible rfl
    | exact mask_sub hK rfl
    | exact le_objAt (Nat.le_trans hB (by decide))
    | exact Nat.le_trans hB (by decide)
    | exact Nat.le_trans hB (by split <;> decide)
    | with_reducible apply State.setOn_same
    | dsimp only
    | split
    | intro _

theorem State.setSelected_same {K B : Nat} {s0 : State} {s : State} (x : Nat)
    (hK : K &&& 402670080 = 0) (hB : B ≤ 0xa000020) (hk : Same K B s0 s) :
    Same K B s0 (State.setSelected s x) := by
  unfold State.setSelected
  try dsimp only
  repeat' first
    | with_reducible assumption
    | with_reducible rfl
    | exact mask_sub hK rfl
    | exact le_objAt (Nat.le_trans hB (by decide))
    | exact Nat.le_trans hB (by decide)
    | exact Nat.le_trans hB (by split <;> decide)
    | with_reducible apply State.setFld_same
    | with_reducible apply State.setOn_same
    | with_reducible apply State.raise_same
    | with_reducible apply State.runPull_same
    | with_reducible apply State.buildOut_same
    | with_reducible apply State.stopPull_same
    | dsimp only
    | split
    | intro _
    | with_reducible apply Same.upd_timing

theorem State.setLoop_same {K B : Nat} {s0 : State} {s : State} (st : Nat)
    (hK : K &&& 268452352 = 0) (hB : B ≤ 0xa000020) (hk : Same K B s0 s) :
    Same K B s0 (State.setLoop s st) := by
  unfold State.setLoop
  try dsimp only
  repeat' first
    | with_reducible assumption
    | with_reducible rfl
    | exact mask_sub hK rfl
    | exact le_objAt (Nat.le_trans hB (by decide))
    | exact Nat.le_trans hB (by decide)
    | exact Nat.le_trans hB (by split <;> decide)
    | with_reducible apply State.setFld_same
    | with_reducible apply State.raise_same
    | with_reducible apply State.raiseIf_same
    | dsimp only
    | split
    | intro _
    | with_reducible apply Same.upd_timing

theorem State.loopMove_same {K B : Nat} {s0 : State} {s : State} (switched : Bool)
    (hK : K &&& 268452352 = 0) (hB : B ≤ 0xa000020) (hk : Same K B s0 s) :
    Same K B s0 (State.loopMove s switched) := by
  unfold State.loopMove
  try dsimp only
  repeat' first
    | with_reducible assumption
    | with_reducible rfl
    | exact mask_sub hK rfl
    | exact le_objAt (Nat.le_trans hB (by decide))
    | exact Nat.le_trans hB (by decide)
    | exact Nat.le_trans hB (by split <;> decide)
    | with_reducible apply State.setLoop_same
    | dsimp only
    | split
    | intro _

theorem State.watchLock_same {K B : Nat} {s0 : State} {s : State}
    (hK : K &&& 268435456 = 0) (hk : Same K B s0 s) :
    Same K B s0 (State.watchLock s) := by
  unfold State.watchLock
  try dsimp only
  repeat' first
    | with_reducible assumption
    | with_reducible rfl
    | exact mask_sub hK rfl
    | dsimp only
    | split
    | intro _
    | with_reducible apply Same.upd_timing

theorem State.showClass_same {K B : Nat} {s0 : State} {s : State}
    (hK : K &&& 512 = 0) (hB : B ≤ 0xa000020) (hk : Same K B s0 s) :
    Same K B s0 (State.showClass s) := by
  unfold State.showClass
  try dsimp only
  repeat' first
    | with_reducible assumption
    | with_reducible rfl
    | exact mask_sub hK rfl
    | exact le_objAt (Nat.le_trans hB (by decide))
    | exact Nat.le_trans hB (by decide)
    | exact Nat.le_trans hB (by split <;> decide)
    | with_reducible apply State.setFld_same
    | dsimp only
    | split
    | intro _

theorem State.gatherTo_same {K B : Nat} {s0 : State} {s : State} (x : Tick)
    (hK : K &&& 268435456 = 0) (hk : Same K B s0 s) :
    Same K B s0 (State.gatherTo s x) := by
  unfold State.gatherTo
  try dsimp only
  repeat' first
    | with_reducible assumption
    | with_reducible rfl
    | exact mask_sub hK rfl
    | dsimp only
    | split
    | intro _
    | with_reducible apply Same.upd_timing

theorem State.putCw_same {K B : Nat} {s0 : State} {s : State}
    (hK : K &&& 17152 = 0) (hB : B ≤ 0xa000022) (hk : Same K B s0 s) :
    Same K B s0 (State.putCw s) := by
  unfold State.putCw
  try dsimp only
  repeat' first
    | with_reducible assumption
    | with_reducible rfl
    | exact mask_sub hK rfl
    | exact le_objAt (Nat.le_trans hB (by decide))
    | exact Nat.le_trans hB (by decide)
    | exact Nat.le_trans hB (by split <;> decide)
    | with_reducible apply State.setFld_same
    | with_reducible apply State.drawn_same
    | with_reducible apply State.raiseIf_same
    | dsimp only
    | split
    | intro _

theorem State.showCw_same {K B : Nat} {s0 : State} {s : State}
    (hK : K &&& 268452608 = 0) (hB : B ≤ 0xa000022) (hk : Same K B s0 s) :
    Same K B s0 (State.showCw s) := by
  unfold State.showCw
  try dsimp only
  repeat' first
    | with_reducible assumption
    | with_reducible rfl
    | exact mask_sub hK rfl
    | exact le_objAt (Nat.le_trans hB (by decide))
    | exact Nat.le_trans hB (by decide)
    | exact Nat.le_trans hB (by split <;> decide)
    | with_reducible apply State.gatherTo_same
    | with_reducible apply State.putCw_same
    | dsimp only
    | split
    | intro _

theorem State.gatherSecond_same {K B : Nat} {s0 : State} {s : State}
    (hK : K &&& 268435456 = 0) (hk : Same K B s0 s) :
    Same K B s0 (State.gatherSecond s) := by
  unfold State.gatherSecond
  try dsimp only
  repeat' first
    | with_reducible assumption
    | with_reducible rfl
    | exact mask_sub hK rfl
    | dsimp only
    | split
    | intro _
    | with_reducible apply Same.upd_timing

theorem State.settle_same {K B : Nat} {s0 : State} {s : State}
    (hK : K &&& 805323520 = 0) (hB : B ≤ 0xa000020) (hk : Same K B s0 s) :
    Same K B s0 (State.settle s) := by
  unfold State.settle
  try dsimp only
  repeat' first
    | with_reducible assumption
    | with_reducible rfl
    | exact mask_sub hK rfl
    | exact le_objAt (Nat.le_trans hB (by decide))
    | exact Nat.le_trans hB (by decide)
    | exact Nat.le_trans hB (by split <;> decide)
    | with_reducible apply State.showOuts_same
    | with_reducible apply State.watchLock_same
    | with_reducible apply State.showClass_same
    | with_reducible apply State.showCw_same
    | dsimp only
    | split
    | intro _

theorem State.timingBoundary_same {K B : Nat} {s0 : State} {s : State}
    (hK : K &&& 939541248 = 0) (hB : B ≤ 0xa000020) (hk : Same K B s0 s) :
    Same K B s0 (State.timingBoundary s) := by
  unfold State.timingBoundary
  try dsimp only
  repeat' first
    | with_reducible assumption
    | with_reducible rfl
    | exact mask_sub hK rfl
    | exact le_objAt (Nat.le_trans hB (by decide))
    | exact Nat.le_trans hB (by decide)
    | exact Nat.le_trans hB (by split <;> decide)
    | with_reducible apply State.setFld_same
    | with_reducible apply State.setCand_same
    | with_reducible apply State.candWatch_same
    | with_reducible apply State.showError_same
    | with_reducible apply State.buildOut_same
    | with_reducible apply State.setSelected_same
    | with_reducible apply State.loopMove_same
    | with_reducible apply State.gatherSecond_same
    | with_reducible apply State.settle_same
    | with_reducible apply Same.foldl
    | with_reducible apply Same.foldl_snd
    | with_reducible apply Same.foldl_fst
    | dsimp only
    | split
    | intro _

theorem State.lockReached_same {K B : Nat} {s0 : State} {s : State}
    (hK : K &&& 805323520 = 0) (hB : B ≤ 0xa000020) (hk : Same K B s0 s) :
    Same K B s0 (State.lockReached s) := by
  unfold State.lockReached
  try dsimp only
  repeat' first
    | with_reducible assumption
    | with_reducible rfl
    | exact mask_sub hK rfl
    | exact le_objAt (Nat.le_trans hB (by decide))
    | exact Nat.le_trans hB (by decide)
    | exact Nat.le_trans hB (by split <;> decide)
    | with_reducible apply State.setLoop_same
    | with_reducible apply State.settle_same
    | dsimp only
    | split
    | intro _
    | with_reducible apply Same.upd_timing

theorem State.pullComplete_same {K B : Nat} {s0 : State} {s : State}
    (hK : K &&& 536887808 = 0) (hB : B ≤ 0xa000020) (hk : Same K B s0 s) :
    Same K B s0 (State.pullComplete s) := by
  unfold State.pullComplete
  try dsimp only
  repeat' first
    | with_reducible assumption
    | with_reducible rfl
    | exact mask_sub hK rfl
    | exact le_objAt (Nat.le_trans hB (by decide))
    | exact Nat.le_trans hB (by decide)
    | exact Nat.le_trans hB (by split <;> decide)
    | with_reducible apply State.showOuts_same
    | with_reducible apply State.stopPull_same
    | dsimp only
    | split
    | intro _

theorem State.holdoverExpiry_same {K B : Nat} {s0 : State} {s : State}
    (hK : K &&& 536887808 = 0) (hB : B ≤ 0xa000020) (hk : Same K B s0 s) :
    Same K B s0 (State.holdoverExpiry s) := by
  unfold State.holdoverExpiry
  try dsimp only
  repeat' first
    | with_reducible assumption
    | with_reducible rfl
    | exact mask_sub hK rfl
    | exact le_objAt (Nat.le_trans hB (by decide))
    | exact Nat.le_trans hB (by decide)
    | exact Nat.le_trans hB (by split <;> decide)
    | with_reducible apply State.showOuts_same
    | with_reducible apply State.showClass_same
    | dsimp only
    | split
    | intro _

theorem State.watchdogExpiry_same {K B : Nat} {s0 : State} {s : State}
    (hK : K &&& 268452352 = 0) (hB : B ≤ 0xa000008) (hk : Same K B s0 s) :
    Same K B s0 (State.watchdogExpiry s) := by
  unfold State.watchdogExpiry
  try dsimp only
  repeat' first
    | with_reducible assumption
    | with_reducible rfl
    | exact mask_sub hK rfl
    | exact le_objAt (Nat.le_trans hB (by decide))
    | exact Nat.le_trans hB (by decide)
    | exact Nat.le_trans hB (by split <;> decide)
    | with_reducible apply State.setOn_same
    | with_reducible apply State.raise_same
    | dsimp only
    | split
    | intro _
    | with_reducible apply Same.upd_timing

theorem State.writeSoftCw_same {K B : Nat} {s0 : State} {s : State} (cw : Nat)
    (hK : K &&& 268452608 = 0) (hB : B ≤ 0xa000009) (hk : Same K B s0 s) :
    Same K B s0 (State.writeSoftCw s cw) := by
  unfold State.writeSoftCw
  try dsimp only
  repeat' first
    | with_reducible assumption
    | with_reducible rfl
    | exact mask_sub hK rfl
    | exact le_objAt (Nat.le_trans hB (by decide))
    | exact Nat.le_trans hB (by decide)
    | exact Nat.le_trans hB (by split <;> decide)
    | with_reducible apply State.setFld_same
    | with_reducible apply State.showCw_same
    | dsimp only
    | split
    | intro _
    | with_reducible apply Same.upd_timing

theorem State.writeSample_same {K B : Nat} {s0 : State} {s : State}
    (hK : K &&& 268452352 = 0) (hB : B ≤ 0xa000030) (hk : Same K B s0 s) :
    Same K B s0 (State.writeSample s) := by
  unfold State.writeSample
  try dsimp only
  repeat' first
    | with_reducible assumption
    | with_reducible rfl
    | exact mask_sub hK rfl
    | exact le_objAt (Nat.le_trans hB (by decide))
    | exact Nat.le_trans hB (by decide)
    | exact Nat.le_trans hB (by split <;> decide)
    | with_reducible apply State.setFld_same
    | with_reducible apply State.raiseIf_same
    | dsimp only
    | split
    | intro _
    | with_reducible apply Same.upd_timing

theorem State.historySample_same {K B : Nat} {s0 : State} {s : State}
    (hK : K &&& 268452352 = 0) (hB : B ≤ 0xa000030) (hk : Same K B s0 s) :
    Same K B s0 (State.historySample s) := by
  unfold State.historySample
  try dsimp only
  repeat' first
    | with_reducible assumption
    | with_reducible rfl
    | exact mask_sub hK rfl
    | exact le_objAt (Nat.le_trans hB (by decide))
    | exact Nat.le_trans hB (by decide)
    | exact Nat.le_trans hB (by split <;> decide)
    | with_reducible apply State.gatherTo_same
    | with_reducible apply State.writeSample_same
    | dsimp only
    | split
    | intro _

theorem State.freewheelValue_same {K B : Nat} {s0 : State} {s : State}
    (hK : K &&& 512 = 0) (hB : B ≤ 0xa000020) (hk : Same K B s0 s) :
    Same K B s0 (State.freewheelValue s) := by
  unfold State.freewheelValue
  try dsimp only
  repeat' first
    | with_reducible assumption
    | with_reducible rfl
    | exact mask_sub hK rfl
    | exact le_objAt (Nat.le_trans hB (by decide))
    | exact Nat.le_trans hB (by decide)
    | exact Nat.le_trans hB (by split <;> decide)
    | with_reducible apply State.setFld_same
    | with_reducible apply State.setOn_same
    | dsimp only
    | split
    | intro _

theorem State.historyClear_same {K B : Nat} {s0 : State} {s : State}
    (hK : K &&& 268435968 = 0) (hB : B ≤ 0xa000042) (hk : Same K B s0 s) :
    Same K B s0 (State.historyClear s) := by
  unfold State.historyClear
  try dsimp only
  repeat' first
    | with_reducible assumption
    | with_reducible rfl
    | exact mask_sub hK rfl
    | exact le_objAt (Nat.le_trans hB (by decide))
    | exact Nat.le_trans hB (by decide)
    | exact Nat.le_trans hB (by split <;> decide)
    | with_reducible apply State.setFld_same
    | dsimp only
    | split
    | intro _
    | with_reducible apply Same.upd_timing

theorem State.secondBoundary_same {K B : Nat} {s0 : State} {s : State}
    (hK : K &&& 1924413807104 = 0) (hB : B ≤ 0xa000020) (hk : Same K B s0 s) :
    Same K B s0 (State.secondBoundary s) := by
  unfold State.secondBoundary
  try dsimp only
  repeat' first
    | with_reducible assumption
    | with_reducible rfl
    | exact mask_sub hK rfl
    | exact le_objAt (Nat.le_trans hB (by decide))
    | exact Nat.le_trans hB (by decide)
    | exact Nat.le_trans hB (by split <;> decide)
    | with_reducible apply State.latchRecord_same
    | with_reducible apply State.pmSecond_same
    | with_reducible apply State.historySample_same
    | with_reducible apply State.freewheelValue_same
    | with_reducible apply Same.foldl
    | with_reducible apply Same.foldl_snd
    | with_reducible apply Same.foldl_fst
    | dsimp only
    | split
    | intro _
    | with_reducible apply Same.upd_timing

end Sys2Proof.Machine
end

