-- ==== Sys2Proof/Laws/SameProtection.lean ====
section
/-! SUPPORT. What the operations of Machine/Protection.lean leave (Same). -/

namespace Sys2Proof.Machine

theorem State.apsInputs_same {K B : Nat} {s0 : State} {s : State} (g : Nat)
    (hK : K &&& 2147483648 = 0) (hk : Same K B s0 s) :
    Same K B s0 (State.apsInputs s g) := by
  unfold State.apsInputs
  try dsimp only
  repeat' first
    | with_reducible assumption
    | with_reducible rfl
    | exact mask_sub hK rfl
    | with_reducible apply State.setAps_same
    | dsimp only
    | split
    | intro _

theorem State.apsSelect_same {K B : Nat} {s0 : State} {s : State} (g : Nat) (v : Bool)
    (hK : K &&& 16896 = 0) (hB : B ≤ 0xc000003) (hk : Same K B s0 s) :
    Same K B s0 (State.apsSelect s g v) := by
  unfold State.apsSelect
  try dsimp only
  repeat' first
    | with_reducible assumption
    | with_reducible rfl
    | exact mask_sub hK rfl
    | exact le_objAt (Nat.le_trans hB (by decide))
    | exact Nat.le_trans hB (by decide)
    | exact Nat.le_trans hB (by split <;> decide)
    | with_reducible apply State.setOn_same
    | with_reducible apply State.bump_same
    | with_reducible apply State.raise_same
    | dsimp only
    | split
    | intro _

theorem State.apsMove_same {K B : Nat} {s0 : State} {s : State} (g : Nat) (act : Nat × Nat)
    (hK : K &&& 16896 = 0) (hB : B ≤ 0xc000003) (hk : Same K B s0 s) :
    Same K B s0 (State.apsMove s g act) := by
  unfold State.apsMove
  try dsimp only
  repeat' first
    | with_reducible assumption
    | with_reducible rfl
    | exact mask_sub hK rfl
    | exact le_objAt (Nat.le_trans hB (by decide))
    | exact Nat.le_trans hB (by decide)
    | exact Nat.le_trans hB (by split <;> decide)
    | with_reducible apply State.setOn_same
    | with_reducible apply State.apsSelect_same
    | dsimp only
    | split
    | intro _

theorem State.apsWatch_same {K B : Nat} {s0 : State} {s : State} (g : Nat) (sent : Nat × Nat)
    (hK : K &&& 2147500544 = 0) (hB : B ≤ 0xc000003) (hk : Same K B s0 s) :
    Same K B s0 (State.apsWatch s g sent) := by
  unfold State.apsWatch
  try dsimp only
  repeat' first
    | with_reducible assumption
    | with_reducible rfl
    | exact mask_sub hK rfl
    | exact le_objAt (Nat.le_trans hB (by decide))
    | exact Nat.le_trans hB (by decide)
    | exact Nat.le_trans hB (by split <;> decide)
    | with_reducible apply State.setOn_same
    | with_reducible apply State.setAps_same
    | with_reducible apply State.raiseIf_same
    | dsimp only
    | split
    | intro _

theorem State.apsEval_same {K B : Nat} {s0 : State} {s : State} (g : Nat)
    (hK : K &&& 2147500544 = 0) (hB : B ≤ 0xc000003) (hk : Same K B s0 s) :
    Same K B s0 (State.apsEval s g) := by
  unfold State.apsEval
  try dsimp only
  repeat' first
    | with_reducible assumption
    | with_reducible rfl
    | exact mask_sub hK rfl
    | exact le_objAt (Nat.le_trans hB (by decide))
    | exact Nat.le_trans hB (by decide)
    | exact Nat.le_trans hB (by split <;> decide)
    | with_reducible apply State.setFld_same
    | with_reducible apply State.setOn_same
    | with_reducible apply State.setAps_same
    | with_reducible apply State.apsInputs_same
    | with_reducible apply State.apsMove_same
    | with_reducible apply State.apsWatch_same
    | dsimp only
    | split
    | intro _

theorem State.apsStart_same {K B : Nat} {s0 : State} {s : State} (g : Nat)
    (hK : K &&& 2147500544 = 0) (hB : B ≤ 0xc000003) (hk : Same K B s0 s) :
    Same K B s0 (State.apsStart s g) := by
  unfold State.apsStart
  try dsimp only
  repeat' first
    | with_reducible assumption
    | with_reducible rfl
    | exact mask_sub hK rfl
    | exact le_objAt (Nat.le_trans hB (by decide))
    | exact Nat.le_trans hB (by decide)
    | exact Nat.le_trans hB (by split <;> decide)
    | with_reducible apply State.setVal_same
    | with_reducible apply State.setAps_same
    | with_reducible apply State.apsEval_same
    | dsimp only
    | split
    | intro _

theorem State.apsLane_same {K B : Nat} {s0 : State} {s : State} (l : Nat)
    (hK : K &&& 2147500544 = 0) (hB : B ≤ 0xc000003) (hk : Same K B s0 s) :
    Same K B s0 (State.apsLane s l) := by
  unfold State.apsLane
  try dsimp only
  repeat' first
    | with_reducible assumption
    | with_reducible rfl
    | exact mask_sub hK rfl
    | exact le_objAt (Nat.le_trans hB (by decide))
    | exact Nat.le_trans hB (by decide)
    | exact Nat.le_trans hB (by split <;> decide)
    | with_reducible apply State.apsEval_same
    | with_reducible apply Same.foldl
    | with_reducible apply Same.foldl_snd
    | with_reducible apply Same.foldl_fst
    | dsimp only
    | split
    | intro _

theorem State.apsSaw_same {K B : Nat} {s0 : State} {s : State} (l : Nat) (v : Nat)
    (hK : K &&& 2147483648 = 0) (hk : Same K B s0 s) :
    Same K B s0 (State.apsSaw s l v) := by
  unfold State.apsSaw
  try dsimp only
  repeat' first
    | with_reducible assumption
    | with_reducible rfl
    | exact mask_sub hK rfl
    | with_reducible apply State.setAps_same
    | dsimp only
    | split
    | intro _

theorem State.apsBreak_same {K B : Nat} {s0 : State} {s : State} (l : Nat)
    (hK : K &&& 2147483648 = 0) (hk : Same K B s0 s) :
    Same K B s0 (State.apsBreak s l) := by
  unfold State.apsBreak
  try dsimp only
  repeat' first
    | with_reducible assumption
    | with_reducible rfl
    | exact mask_sub hK rfl
    | with_reducible apply State.setAps_same
    | dsimp only
    | split
    | intro _

theorem State.apsAccept_same {K B : Nat} {s0 : State} {s : State} (g : Nat)
    (hK : K &&& 2147500544 = 0) (hB : B ≤ 0xc000003) (hk : Same K B s0 s) :
    Same K B s0 (State.apsAccept s g) := by
  unfold State.apsAccept
  try dsimp only
  repeat' first
    | with_reducible assumption
    | with_reducible rfl
    | exact mask_sub hK rfl
    | exact le_objAt (Nat.le_trans hB (by decide))
    | exact Nat.le_trans hB (by decide)
    | exact Nat.le_trans hB (by split <;> decide)
    | with_reducible apply State.setFld_same
    | with_reducible apply State.setAps_same
    | with_reducible apply State.raiseIf_same
    | with_reducible apply State.apsEval_same
    | dsimp only
    | split
    | intro _

theorem State.apsHoldOff_same {K B : Nat} {s0 : State} {s : State} (g : Nat) (prot : Bool) (degrade : Bool)
    (hK : K &&& 2147500544 = 0) (hB : B ≤ 0xc000003) (hk : Same K B s0 s) :
    Same K B s0 (State.apsHoldOff s g prot degrade) := by
  unfold State.apsHoldOff
  try dsimp only
  repeat' first
    | with_reducible assumption
    | with_reducible rfl
    | exact mask_sub hK rfl
    | exact le_objAt (Nat.le_trans hB (by decide))
    | exact Nat.le_trans hB (by decide)
    | exact Nat.le_trans hB (by split <;> decide)
    | with_reducible apply State.apsEval_same
    | dsimp only
    | split
    | intro _

theorem State.apsWtr_same {K B : Nat} {s0 : State} {s : State} (g : Nat)
    (hK : K &&& 2147500544 = 0) (hB : B ≤ 0xc000003) (hk : Same K B s0 s) :
    Same K B s0 (State.apsWtr s g) := by
  unfold State.apsWtr
  try dsimp only
  repeat' first
    | with_reducible assumption
    | with_reducible rfl
    | exact mask_sub hK rfl
    | exact le_objAt (Nat.le_trans hB (by decide))
    | exact Nat.le_trans hB (by decide)
    | exact Nat.le_trans hB (by split <;> decide)
    | with_reducible apply State.setAps_same
    | with_reducible apply State.apsEval_same
    | dsimp only
    | split
    | intro _

theorem State.apsDefect_same {K B : Nat} {s0 : State} {s : State} (g : Nat) (f : Fld) (st : Fld) (off : Option Tick) (ok : Option Tick)
    (hK : K &&& 16896 = 0) (hB : B ≤ 0x11f00020) (hB0 : B ≤ f.base) (hB1 : B ≤ st.base) (hk : Same K B s0 s) :
    Same K B s0 (State.apsDefect s g f st off ok) := by
  unfold State.apsDefect
  try dsimp only
  repeat' first
    | with_reducible assumption
    | with_reducible rfl
    | exact mask_sub hK rfl
    | exact le_objAt (Nat.le_trans hB (by decide))
    | exact Nat.le_trans hB (by decide)
    | exact Nat.le_trans hB (by split <;> decide)
    | exact le_objAt hB0
    | exact le_objAt hB1
    | with_reducible apply State.setOn_same
    | with_reducible apply State.raiseIf_same
    | dsimp only
    | split
    | intro _

theorem State.fopChange_same {K B : Nat} {s0 : State} {s : State} (g : Nat) (arch : Bool)
    (hK : K &&& 2147500544 = 0) (hB : B ≤ 0xc000003) (hk : Same K B s0 s) :
    Same K B s0 (State.fopChange s g arch) := by
  unfold State.fopChange
  try dsimp only
  repeat' first
    | with_reducible assumption
    | with_reducible rfl
    | exact mask_sub hK rfl
    | exact le_objAt (Nat.le_trans hB (by decide))
    | exact Nat.le_trans hB (by decide)
    | exact Nat.le_trans hB (by split <;> decide)
    | with_reducible apply State.apsEval_same
    | with_reducible apply State.apsDefect_same
    | dsimp only
    | split
    | intro _

theorem State.apsFix_same {K B : Nat} {s0 : State} {s : State} (L : Nat)
    (hK : K &&& 2147487744 = 0) (hk : Same K B s0 s) :
    Same K B s0 (State.apsFix s L) := by
  unfold State.apsFix
  try dsimp only
  repeat' first
    | with_reducible assumption
    | with_reducible rfl
    | exact mask_sub hK rfl
    | with_reducible apply State.putLanding_same
    | with_reducible apply Same.foldl
    | with_reducible apply Same.foldl_snd
    | with_reducible apply Same.foldl_fst
    | dsimp only
    | split
    | intro _
    | with_reducible apply Same.upd_aps

theorem State.ctlSelect_same {K B : Nat} {s0 : State} {s : State} (g : Nat) (st : Nat)
    (hK : K &&& 8192 = 0) (hk : Same K B s0 s) :
    Same K B s0 (State.ctlSelect s g st) := by
  unfold State.ctlSelect
  try dsimp only
  repeat' first
    | with_reducible assumption
    | with_reducible rfl
    | exact mask_sub hK rfl
    | with_reducible apply State.setSelOn_same
    | with_reducible apply Same.foldl
    | with_reducible apply Same.foldl_snd
    | with_reducible apply Same.foldl_fst
    | dsimp only
    | split
    | intro _
    | with_reducible apply Same.upd_xc

theorem State.pathCommand_same {K B : Nat} {s0 : State} {s : State} (g : Nat) (cmd : Nat)
    (hK : K &&& 8704 = 0) (hB : B ≤ 0xc300000) (hk : Same K B s0 s) :
    Same K B s0 (State.pathCommand s g cmd) := by
  unfold State.pathCommand
  try dsimp only
  repeat' first
    | with_reducible assumption
    | with_reducible rfl
    | exact mask_sub hK rfl
    | exact le_objAt (Nat.le_trans hB (by decide))
    | exact Nat.le_trans hB (by decide)
    | exact Nat.le_trans hB (by split <;> decide)
    | with_reducible apply State.setFld_same
    | with_reducible apply State.ctlSelect_same
    | dsimp only
    | split
    | intro _

theorem State.pathWatch_same {K B : Nat} {s0 : State} {s : State} (g : Nat)
    (hK : K &&& 4294967808 = 0) (hB : B ≤ 0xc300000) (hk : Same K B s0 s) :
    Same K B s0 (State.pathWatch s g) := by
  unfold State.pathWatch
  try dsimp only
  repeat' first
    | with_reducible assumption
    | with_reducible rfl
    | exact mask_sub hK rfl
    | exact le_objAt (Nat.le_trans hB (by decide))
    | exact Nat.le_trans hB (by decide)
    | exact Nat.le_trans hB (by split <;> decide)
    | with_reducible apply State.setOn_same
    | with_reducible apply State.setPprot_same
    | dsimp only
    | split
    | intro _

theorem State.pathWatchAll_same {K B : Nat} {s0 : State} {s : State}
    (hK : K &&& 4294967808 = 0) (hB : B ≤ 0xc300000) (hk : Same K B s0 s) :
    Same K B s0 (State.pathWatchAll s) := by
  unfold State.pathWatchAll
  try dsimp only
  repeat' first
    | with_reducible assumption
    | with_reducible rfl
    | exact mask_sub hK rfl
    | exact le_objAt (Nat.le_trans hB (by decide))
    | exact Nat.le_trans hB (by decide)
    | exact Nat.le_trans hB (by split <;> decide)
    | with_reducible apply State.pathWatch_same
    | with_reducible apply Same.foldl
    | with_reducible apply Same.foldl_snd
    | with_reducible apply Same.foldl_fst
    | dsimp only
    | split
    | intro _

theorem State.pathCancel_same {K B : Nat} {s0 : State} {s : State} (g : Nat)
    (hK : K &&& 4294967808 = 0) (hB : B ≤ 0xc300000) (hk : Same K B s0 s) :
    Same K B s0 (State.pathCancel s g) := by
  unfold State.pathCancel
  try dsimp only
  repeat' first
    | with_reducible assumption
    | with_reducible rfl
    | exact mask_sub hK rfl
    | exact le_objAt (Nat.le_trans hB (by decide))
    | exact Nat.le_trans hB (by decide)
    | exact Nat.le_trans hB (by split <;> decide)
    | with_reducible apply State.setVal_same
    | with_reducible apply State.setPprot_same
    | dsimp only
    | split
    | intro _

theorem State.pathHoldOff_same {K B : Nat} {s0 : State} {s : State} (l : Nat) (k : Nat)
    (hK : K &&& 4294976000 = 0) (hB : B ≤ 0xc300000) (hk : Same K B s0 s) :
    Same K B s0 (State.pathHoldOff s l k) := by
  unfold State.pathHoldOff
  try dsimp only
  repeat' first
    | with_reducible assumption
    | with_reducible rfl
    | exact mask_sub hK rfl
    | exact le_objAt (Nat.le_trans hB (by decide))
    | exact Nat.le_trans hB (by decide)
    | exact Nat.le_trans hB (by split <;> decide)
    | with_reducible apply State.ctlSelect_same
    | with_reducible apply State.pathWatch_same
    | dsimp only
    | split
    | intro _

theorem State.pathWtr_same {K B : Nat} {s0 : State} {s : State} (l : Nat) (k : Nat)
    (hK : K &&& 4294976000 = 0) (hB : B ≤ 0xc300000) (hk : Same K B s0 s) :
    Same K B s0 (State.pathWtr s l k) := by
  unfold State.pathWtr
  try dsimp only
  repeat' first
    | with_reducible assumption
    | with_reducible rfl
    | exact mask_sub hK rfl
    | exact le_objAt (Nat.le_trans hB (by decide))
    | exact Nat.le_trans hB (by decide)
    | exact Nat.le_trans hB (by split <;> decide)
    | with_reducible apply State.ctlSelect_same
    | with_reducible apply State.pathWatch_same
    | dsimp only
    | split
    | intro _

theorem State.rdiAgain_same {K B : Nat} {s0 : State} {s : State} (l : Nat)
    (hK : K &&& 4096 = 0) (hk : Same K B s0 s) :
    Same K B s0 (State.rdiAgain s l) := by
  unfold State.rdiAgain
  try dsimp only
  repeat' first
    | with_reducible assumption
    | with_reducible rfl
    | exact mask_sub hK rfl
    | with_reducible apply State.onLine_same
    | dsimp only
    | split
    | intro _

theorem State.laneHook_same {K B : Nat} {s0 : State} {s : State} (l : Nat)
    (hK : K &&& 315814334976 = 0) (hB : B ≤ 0xa000030) (hk : Same K B s0 s) :
    Same K B s0 (State.laneHook s l) := by
  unfold State.laneHook
  try dsimp only
  repeat' first
    | with_reducible assumption
    | with_reducible rfl
    | exact mask_sub hK rfl
    | exact le_objAt (Nat.le_trans hB (by decide))
    | exact Nat.le_trans hB (by decide)
    | exact Nat.le_trans hB (by split <;> decide)
    | with_reducible apply State.chanStop_same
    | with_reducible apply State.pmScan_same
    | with_reducible apply State.candWatch_same
    | with_reducible apply State.apsLane_same
    | with_reducible apply State.pathWatchAll_same
    | with_reducible apply State.rdiAgain_same
    | with_reducible apply Same.foldl
    | with_reducible apply Same.foldl_snd
    | with_reducible apply Same.foldl_fst
    | dsimp only
    | split
    | intro _

end Sys2Proof.Machine
end

