-- ==== Sys2Proof/Laws/SameLaneEvents.lean ====
section
/-! SUPPORT. What the operations of Machine/LaneEvents.lean leave (Same). -/

namespace Sys2Proof.Machine

theorem State.candHook_same {K B : Nat} {s0 : State} {s : State} (c : Nat)
    (hK : K &&& 315814334976 = 0) (hB : B ≤ 0xa000030) (hk : Same K B s0 s) :
    Same K B s0 (State.candHook s c) := by
  unfold State.candHook
  try dsimp only
  repeat' first
    | with_reducible assumption
    | with_reducible rfl
    | exact mask_sub hK rfl
    | exact le_objAt (Nat.le_trans hB (by decide))
    | exact Nat.le_trans hB (by decide)
    | exact Nat.le_trans hB (by split <;> decide)
    | with_reducible apply State.laneHook_same
    | dsimp only
    | split
    | intro _

end Sys2Proof.Machine
end

