-- ==== Sys2Proof/Laws/SameFrameRx.lean ====
section
/-! SUPPORT. What the operations of Machine/FrameRx.lean leave (Same). -/

namespace Sys2Proof.Machine

theorem State.fieldBreak_same {K B : Nat} {s0 : State} {s : State} (l : Nat)
    (hK : K &&& 4096 = 0) (hk : Same K B s0 s) :
    Same K B s0 (State.fieldBreak s l) := by
  unfold State.fieldBreak
  try dsimp only
  repeat' first
    | with_reducible assumption
    | with_reducible rfl
    | exact mask_sub hK rfl
    | with_reducible apply State.modLane_same
    | dsimp only
    | split
    | intro _

theorem State.fecCount_same {K B : Nat} {s0 : State} {s : State} (l : Nat) (rx : TtfSeen)
    (hK : K &&& 1024 = 0) (hk : Same K B s0 s) :
    Same K B s0 (State.fecCount s l rx) := by
  unfold State.fecCount
  try dsimp only
  repeat' first
    | with_reducible assumption
    | with_reducible rfl
    | exact mask_sub hK rfl
    | with_reducible apply State.bumpLive_same
    | with_reducible apply Same.foldl
    | with_reducible apply Same.foldl_snd
    | with_reducible apply Same.foldl_fst
    | dsimp only
    | split
    | intro _

theorem State.sfCount_same {K B : Nat} {s0 : State} {s : State} (l : Nat) (sf : Nat) (sd : Nat)
    (hK : K &&& 4096 = 0) (hk : Same K B s0 s) :
    Same K B s0 (State.sfCount s l sf sd) := by
  unfold State.sfCount
  try dsimp only
  repeat' first
    | with_reducible assumption
    | with_reducible rfl
    | exact mask_sub hK rfl
    | with_reducible apply State.modLane_same
    | dsimp only
    | split
    | intro _

theorem State.gatherRep_same {K B : Nat} {s0 : State} {s : State} (l : Nat) (rx : TtfSeen)
    (hK : K &&& 4096 = 0) (hk : Same K B s0 s) :
    Same K B s0 (State.gatherRep s l rx) := by
  unfold State.gatherRep
  try dsimp only
  repeat' first
    | with_reducible assumption
    | with_reducible rfl
    | exact mask_sub hK rfl
    | with_reducible apply State.modLane_same
    | with_reducible apply Same.foldl
    | with_reducible apply Same.foldl_snd
    | with_reducible apply Same.foldl_fst
    | dsimp only
    | split
    | intro _

theorem State.showTtf_same {K B : Nat} {s0 : State} {s : State} (l : Nat) (rx : TtfSeen)
    (hK : K &&& 16896 = 0) (hB : B ≤ 0x3000010) (hk : Same K B s0 s) :
    Same K B s0 (State.showTtf s l rx) := by
  unfold State.showTtf
  try dsimp only
  repeat' first
    | with_reducible assumption
    | with_reducible rfl
    | exact mask_sub hK rfl
    | exact le_objAt (Nat.le_trans hB (by decide))
    | exact Nat.le_trans hB (by decide)
    | exact Nat.le_trans hB (by split <;> decide)
    | with_reducible apply State.setFld_same
    | with_reducible apply State.setOn_same
    | with_reducible apply State.raiseIf_same
    | dsimp only
    | split
    | intro _

theorem State.ttfDefectRuns_same {K B : Nat} {s0 : State} {s : State} (l : Nat) (rx : TtfSeen)
    (hK : K &&& 4096 = 0) (hk : Same K B s0 s) :
    Same K B s0 (State.ttfDefectRuns s l rx) := by
  unfold State.ttfDefectRuns
  try dsimp only
  repeat' first
    | with_reducible assumption
    | with_reducible rfl
    | exact mask_sub hK rfl
    | with_reducible apply State.sawRun_same
    | dsimp only
    | split
    | intro _

theorem State.slotRdiRuns_same {K B : Nat} {s0 : State} {s : State} (l : Nat) (rx : TtfSeen)
    (hK : K &&& 4096 = 0) (hk : Same K B s0 s) :
    Same K B s0 (State.slotRdiRuns s l rx) := by
  unfold State.slotRdiRuns
  try dsimp only
  repeat' first
    | with_reducible assumption
    | with_reducible rfl
    | exact mask_sub hK rfl
    | with_reducible apply State.sawRun_same
    | with_reducible apply Same.foldl
    | with_reducible apply Same.foldl_snd
    | with_reducible apply Same.foldl_fst
    | dsimp only
    | split
    | intro _

theorem State.fieldRuns_same {K B : Nat} {s0 : State} {s : State} (l : Nat) (rx : TtfSeen)
    (hK : K &&& 4096 = 0) (hk : Same K B s0 s) :
    Same K B s0 (State.fieldRuns s l rx) := by
  unfold State.fieldRuns
  try dsimp only
  repeat' first
    | with_reducible assumption
    | with_reducible rfl
    | exact mask_sub hK rfl
    | with_reducible apply State.sawRun_same
    | dsimp only
    | split
    | intro _

theorem State.ttfAps_same {K B : Nat} {s0 : State} {s : State} (l : Nat) (rx : TtfSeen)
    (hK : K &&& 2147483648 = 0) (hk : Same K B s0 s) :
    Same K B s0 (State.ttfAps s l rx) := by
  unfold State.ttfAps
  try dsimp only
  repeat' first
    | with_reducible assumption
    | with_reducible rfl
    | exact mask_sub hK rfl
    | with_reducible apply State.apsSaw_same
    | with_reducible apply State.apsBreak_same
    | dsimp only
    | split
    | intro _

theorem State.markWindow_same {K B : Nat} {s0 : State} {s : State} (l : Nat) (arrival : Tick)
    (hK : K &&& 4096 = 0) (hk : Same K B s0 s) :
    Same K B s0 (State.markWindow s l arrival) := by
  unfold State.markWindow
  try dsimp only
  repeat' first
    | with_reducible assumption
    | with_reducible rfl
    | exact mask_sub hK rfl
    | with_reducible apply State.modLane_same
    | dsimp only
    | split
    | intro _

theorem State.echoAgain_same {K B : Nat} {s0 : State} {s : State} (l : Nat) (arrival : Tick)
    (hK : K &&& 4352 = 0) (hk : Same K B s0 s) :
    Same K B s0 (State.echoAgain s l arrival) := by
  unfold State.echoAgain
  try dsimp only
  repeat' first
    | with_reducible assumption
    | with_reducible rfl
    | exact mask_sub hK rfl
    | with_reducible apply State.overlayAgain_same
    | with_reducible apply State.onLine_same
    | dsimp only
    | split
    | intro _

theorem State.ttfLedger_same {K B : Nat} {s0 : State} {s : State} (l : Nat) (rx : TtfSeen)
    (hK : K &&& 22272 = 0) (hB : B ≤ 0x3000020) (hk : Same K B s0 s) :
    Same K B s0 (State.ttfLedger s l rx) := by
  unfold State.ttfLedger
  try dsimp only
  repeat' first
    | with_reducible assumption
    | with_reducible rfl
    | exact mask_sub hK rfl
    | exact le_objAt (Nat.le_trans hB (by decide))
    | exact Nat.le_trans hB (by decide)
    | exact Nat.le_trans hB (by split <;> decide)
    | with_reducible apply State.setVal_same
    | with_reducible apply State.modLane_same
    | with_reducible apply State.ledgerFrame_same
    | with_reducible apply State.markWindow_same
    | with_reducible apply State.echoAgain_same
    | dsimp only
    | split
    | intro _

theorem State.ttfPm_same {K B : Nat} {s0 : State} {s : State} (l : Nat) (rx : TtfSeen)
    (hK : K &&& 274877906944 = 0) (hk : Same K B s0 s) :
    Same K B s0 (State.ttfPm s l rx) := by
  unfold State.ttfPm
  try dsimp only
  repeat' first
    | with_reducible assumption
    | with_reducible rfl
    | exact mask_sub hK rfl
    | with_reducible apply State.pmAt_same
    | with_reducible apply State.pmBlock_same
    | dsimp only
    | split
    | intro _

theorem State.ttfInFrame_same {K B : Nat} {s0 : State} {s : State} (l : Nat) (rx : TtfSeen)
    (hK : K &&& 72058042862032640 = 0) (hB : B ≤ 0x3000010) (hk : Same K B s0 s) :
    Same K B s0 (State.ttfInFrame s l rx) := by
  unfold State.ttfInFrame
  try dsimp only
  repeat' first
    | with_reducible assumption
    | with_reducible rfl
    | exact mask_sub hK rfl
    | exact le_objAt (Nat.le_trans hB (by decide))
    | exact Nat.le_trans hB (by decide)
    | exact Nat.le_trans hB (by split <;> decide)
    | with_reducible apply State.chanReceive_same
    | with_reducible apply State.chanStop_same
    | with_reducible apply State.placeTtf_same
    | with_reducible apply State.fecCount_same
    | with_reducible apply State.sfCount_same
    | with_reducible apply State.gatherRep_same
    | with_reducible apply State.showTtf_same
    | with_reducible apply State.ttfDefectRuns_same
    | with_reducible apply State.slotRdiRuns_same
    | with_reducible apply State.fieldRuns_same
    | with_reducible apply State.ttfAps_same
    | with_reducible apply State.ttfLedger_same
    | with_reducible apply State.ttfPm_same
    | dsimp only
    | split
    | intro _

theorem State.ttfOut_same {K B : Nat} {s0 : State} {s : State} (l : Nat) (rx : TtfSeen)
    (hK : K &&& 36507244032 = 0) (hB : B ≤ 0x3000020) (hk : Same K B s0 s) :
    Same K B s0 (State.ttfOut s l rx) := by
  unfold State.ttfOut
  try dsimp only
  repeat' first
    | with_reducible assumption
    | with_reducible rfl
    | exact mask_sub hK rfl
    | exact le_objAt (Nat.le_trans hB (by decide))
    | exact Nat.le_trans hB (by decide)
    | exact Nat.le_trans hB (by split <;> decide)
    | with_reducible apply State.chanStop_same
    | with_reducible apply State.ledgerFrame_same
    | with_reducible apply State.apsBreak_same
    | with_reducible apply State.fieldBreak_same
    | dsimp only
    | split
    | intro _

theorem State.sawFraming_same {K B : Nat} {s0 : State} {s : State} (l : Nat) (ok : Bool) (pos : Nat) (arrival : Tick)
    (hK : K &&& 134238720 = 0) (hB : B ≤ 0x3000015) (hk : Same K B s0 s) :
    Same K B s0 (State.sawFraming s l ok pos arrival) := by
  unfold State.sawFraming
  try dsimp only
  repeat' first
    | with_reducible assumption
    | with_reducible rfl
    | exact mask_sub hK rfl
    | exact le_objAt (Nat.le_trans hB (by decide))
    | exact Nat.le_trans hB (by decide)
    | exact Nat.le_trans hB (by split <;> decide)
    | with_reducible apply State.frameWord_same
    | with_reducible apply State.candWatchAt_same
    | dsimp only
    | split
    | intro _

theorem State.ttfTake_same {K B : Nat} {s0 : State} {s : State} (l : Nat) (rx : TtfSeen)
    (hK : K &&& 72058047291217664 = 0) (hB : B ≤ 0x3000010) (hk : Same K B s0 s) :
    Same K B s0 (State.ttfTake s l rx) := by
  unfold State.ttfTake
  try dsimp only
  repeat' first
    | with_reducible assumption
    | with_reducible rfl
    | exact mask_sub hK rfl
    | exact le_objAt (Nat.le_trans hB (by decide))
    | exact Nat.le_trans hB (by decide)
    | exact Nat.le_trans hB (by split <;> decide)
    | with_reducible apply State.modLane_same
    | with_reducible apply State.laneHook_same
    | with_reducible apply State.ttfInFrame_same
    | with_reducible apply State.ttfOut_same
    | with_reducible apply State.sawFraming_same
    | dsimp only
    | split
    | intro _

theorem State.ttfReceive_same {K B : Nat} {s0 : State} {s : State} (l : Nat) (rx : TtfRx)
    (hK : K &&& 72058047291217664 = 0) (hB : B ≤ 0x3000010) (hk : Same K B s0 s) :
    Same K B s0 (State.ttfReceive s l rx) := by
  unfold State.ttfReceive
  try dsimp only
  repeat' first
    | with_reducible assumption
    | with_reducible rfl
    | exact mask_sub hK rfl
    | exact le_objAt (Nat.le_trans hB (by decide))
    | exact Nat.le_trans hB (by decide)
    | exact Nat.le_trans hB (by split <;> decide)
    | with_reducible apply State.laneHook_same
    | with_reducible apply State.sawFraming_same
    | with_reducible apply State.ttfTake_same
    | dsimp only
    | split
    | intro _

theorem State.sdhParity_same {K B : Nat} {s0 : State} {s : State} (l : Nat) (rx : SdhSeen)
    (hK : K &&& 274877912064 = 0) (hk : Same K B s0 s) :
    Same K B s0 (State.sdhParity s l rx) := by
  unfold State.sdhParity
  try dsimp only
  repeat' first
    | with_reducible assumption
    | with_reducible rfl
    | exact mask_sub hK rfl
    | with_reducible apply State.bumpLive_same
    | with_reducible apply State.modLane_same
    | with_reducible apply State.pmBlock_same
    | with_reducible apply State.sfCount_same
    | dsimp only
    | split
    | intro _

theorem State.sdhOverhead_same {K B : Nat} {s0 : State} {s : State} (l : Nat) (rx : SdhSeen)
    (hK : K &&& 2147488256 = 0) (hB : B ≤ 0x4000002) (hk : Same K B s0 s) :
    Same K B s0 (State.sdhOverhead s l rx) := by
  unfold State.sdhOverhead
  try dsimp only
  repeat' first
    | with_reducible assumption
    | with_reducible rfl
    | exact mask_sub hK rfl
    | exact le_objAt (Nat.le_trans hB (by decide))
    | exact Nat.le_trans hB (by decide)
    | exact Nat.le_trans hB (by split <;> decide)
    | with_reducible apply State.setFld_same
    | with_reducible apply State.modLane_same
    | with_reducible apply State.sawRun_same
    | with_reducible apply State.apsSaw_same
    | with_reducible apply State.apsBreak_same
    | dsimp only
    | split
    | intro _

theorem State.sdhChannels_same {K B : Nat} {s0 : State} {s : State} (l : Nat) (rx : SdhSeen)
    (hK : K &&& 171798708736 = 0) (hB : B ≤ 0xf000007) (hk : Same K B s0 s) :
    Same K B s0 (State.sdhChannels s l rx) := by
  unfold State.sdhChannels
  try dsimp only
  repeat' first
    | with_reducible assumption
    | with_reducible rfl
    | exact mask_sub hK rfl
    | exact le_objAt (Nat.le_trans hB (by decide))
    | exact Nat.le_trans hB (by decide)
    | exact Nat.le_trans hB (by split <;> decide)
    | with_reducible apply State.chanReceive_same
    | with_reducible apply State.chanStop_same
    | with_reducible apply Same.foldl
    | with_reducible apply Same.foldl_snd
    | with_reducible apply Same.foldl_fst
    | dsimp only
    | split
    | intro _

theorem State.sdhOverlay_same {K B : Nat} {s0 : State} {s : State} (l : Nat) (rx : SdhSeen)
    (hK : K &&& 22272 = 0) (hB : B ≤ 0x4000020) (hk : Same K B s0 s) :
    Same K B s0 (State.sdhOverlay s l rx) := by
  unfold State.sdhOverlay
  try dsimp only
  repeat' first
    | with_reducible assumption
    | with_reducible rfl
    | exact mask_sub hK rfl
    | exact le_objAt (Nat.le_trans hB (by decide))
    | exact Nat.le_trans hB (by decide)
    | exact Nat.le_trans hB (by split <;> decide)
    | with_reducible apply State.setVal_same
    | with_reducible apply State.modLane_same
    | with_reducible apply State.reseedLane_same
    | with_reducible apply State.overlayWord_same
    | with_reducible apply State.echoAgain_same
    | dsimp only
    | split
    | intro _

theorem State.sdhPaths_same {K B : Nat} {s0 : State} {s : State} (l : Nat) (rx : SdhSeen)
    (hK : K &&& 72057594037949952 = 0) (hB : B ≤ 0x4200000) (hk : Same K B s0 s) :
    Same K B s0 (State.sdhPaths s l rx) := by
  unfold State.sdhPaths
  try dsimp only
  repeat' first
    | with_reducible assumption
    | with_reducible rfl
    | exact mask_sub hK rfl
    | exact le_objAt (Nat.le_trans hB (by decide))
    | exact Nat.le_trans hB (by decide)
    | exact Nat.le_trans hB (by split <;> decide)
    | with_reducible apply State.modLane_same
    | with_reducible apply State.receivePaths_same
    | dsimp only
    | split
    | intro _

theorem State.sdhInFrame_same {K B : Nat} {s0 : State} {s : State} (l : Nat) (rx : SdhSeen)
    (hK : K &&& 72058042862032640 = 0) (hB : B ≤ 0x4000002) (hk : Same K B s0 s) :
    Same K B s0 (State.sdhInFrame s l rx) := by
  unfold State.sdhInFrame
  try dsimp only
  repeat' first
    | with_reducible assumption
    | with_reducible rfl
    | exact mask_sub hK rfl
    | exact le_objAt (Nat.le_trans hB (by decide))
    | exact Nat.le_trans hB (by decide)
    | exact Nat.le_trans hB (by split <;> decide)
    | with_reducible apply State.sdhParity_same
    | with_reducible apply State.sdhOverhead_same
    | with_reducible apply State.sdhChannels_same
    | with_reducible apply State.sdhOverlay_same
    | with_reducible apply State.sdhPaths_same
    | dsimp only
    | split
    | intro _

theorem State.sdhOut_same {K B : Nat} {s0 : State} {s : State} (l : Nat)
    (hK : K &&& 36507244032 = 0) (hB : B ≤ 0xf000007) (hk : Same K B s0 s) :
    Same K B s0 (State.sdhOut s l) := by
  unfold State.sdhOut
  try dsimp only
  repeat' first
    | with_reducible assumption
    | with_reducible rfl
    | exact mask_sub hK rfl
    | exact le_objAt (Nat.le_trans hB (by decide))
    | exact Nat.le_trans hB (by decide)
    | exact Nat.le_trans hB (by split <;> decide)
    | with_reducible apply State.modLane_same
    | with_reducible apply State.chanStop_same
    | with_reducible apply State.excludeSample_same
    | with_reducible apply State.apsBreak_same
    | with_reducible apply Same.foldl
    | with_reducible apply Same.foldl_snd
    | with_reducible apply Same.foldl_fst
    | dsimp only
    | split
    | intro _

theorem State.sdhTake_same {K B : Nat} {s0 : State} {s : State} (l : Nat) (rx : SdhSeen)
    (hK : K &&& 72058047291217664 = 0) (hB : B ≤ 0x3000015) (hk : Same K B s0 s) :
    Same K B s0 (State.sdhTake s l rx) := by
  unfold State.sdhTake
  try dsimp only
  repeat' first
    | with_reducible assumption
    | with_reducible rfl
    | exact mask_sub hK rfl
    | exact le_objAt (Nat.le_trans hB (by decide))
    | exact Nat.le_trans hB (by decide)
    | exact Nat.le_trans hB (by split <;> decide)
    | with_reducible apply State.modLane_same
    | with_reducible apply State.laneHook_same
    | with_reducible apply State.sawFraming_same
    | with_reducible apply State.sdhInFrame_same
    | with_reducible apply State.sdhOut_same
    | dsimp only
    | split
    | intro _

theorem State.sdhReceive_same {K B : Nat} {s0 : State} {s : State} (l : Nat) (rx : SdhRx)
    (hK : K &&& 72058047291217664 = 0) (hB : B ≤ 0x3000015) (hk : Same K B s0 s) :
    Same K B s0 (State.sdhReceive s l rx) := by
  unfold State.sdhReceive
  try dsimp only
  repeat' first
    | with_reducible assumption
    | with_reducible rfl
    | exact mask_sub hK rfl
    | exact le_objAt (Nat.le_trans hB (by decide))
    | exact Nat.le_trans hB (by decide)
    | exact Nat.le_trans hB (by split <;> decide)
    | with_reducible apply State.laneHook_same
    | with_reducible apply State.sawFraming_same
    | with_reducible apply State.sdhTake_same
    | dsimp only
    | split
    | intro _

theorem State.loopTaken_same {K B : Nat} {s0 : State} {s : State} (l : Nat)
    (hK : K &&& 4096 = 0) (hk : Same K B s0 s) :
    Same K B s0 (State.loopTaken s l) := by
  unfold State.loopTaken
  try dsimp only
  repeat' first
    | with_reducible assumption
    | with_reducible rfl
    | exact mask_sub hK rfl
    | with_reducible apply State.modLane_same
    | dsimp only
    | split
    | intro _

theorem State.blockTake_same {K B : Nat} {s0 : State} {s : State} (l : Nat) (x : BitVec 2 × BitVec 64)
    (hK : K &&& 72057909852263936 = 0) (hB : B ≤ 0x7f00022) (hk : Same K B s0 s) :
    Same K B s0 (State.blockTake s l x) := by
  unfold State.blockTake
  try dsimp only
  repeat' first
    | with_reducible assumption
    | with_reducible rfl
    | exact mask_sub hK rfl
    | exact le_objAt (Nat.le_trans hB (by decide))
    | exact Nat.le_trans hB (by decide)
    | exact Nat.le_trans hB (by split <;> decide)
    | with_reducible apply State.modLane_same
    | with_reducible apply State.syncHeader_same
    | with_reducible apply State.mapBlock_same
    | with_reducible apply State.laneHook_same
    | dsimp only
    | split
    | intro _

theorem State.blockReceive_same {K B : Nat} {s0 : State} {s : State} (l : Nat) (sync : BitVec 2) (payload : BitVec 64)
    (hK : K &&& 72057909852263936 = 0) (hB : B ≤ 0x7f00022) (hk : Same K B s0 s) :
    Same K B s0 (State.blockReceive s l sync payload) := by
  unfold State.blockReceive
  try dsimp only
  repeat' first
    | with_reducible assumption
    | with_reducible rfl
    | exact mask_sub hK rfl
    | exact le_objAt (Nat.le_trans hB (by decide))
    | exact Nat.le_trans hB (by decide)
    | exact Nat.le_trans hB (by split <;> decide)
    | with_reducible apply State.loopTaken_same
    | with_reducible apply State.blockTake_same
    | dsimp only
    | split
    | intro _

theorem State.laneReady_same {K B : Nat} {s0 : State} {s : State} (L : Nat) (l : Nat)
    (hK : K &&& 72057594037949952 = 0) (hB : B ≤ 0) (hk : Same K B s0 s) :
    Same K B s0 (State.laneReady s L l) := by
  unfold State.laneReady
  try dsimp only
  repeat' first
    | with_reducible assumption
    | with_reducible rfl
    | exact mask_sub hK rfl
    | exact Nat.le_trans hB (Nat.zero_le _)
    | with_reducible apply State.modLane_same
    | with_reducible apply State.readyTtf_same
    | with_reducible apply State.readySdh_same
    | with_reducible apply State.readyClient_same
    | dsimp only
    | split
    | intro _

theorem State.landingReady_same {K B : Nat} {s0 : State} {s : State} (L : Nat)
    (hK : K &&& 72057600480400896 = 0) (hB : B ≤ 0) (hk : Same K B s0 s) :
    Same K B s0 (State.landingReady s L) := by
  unfold State.landingReady
  try dsimp only
  repeat' first
    | with_reducible assumption
    | with_reducible rfl
    | exact mask_sub hK rfl
    | exact Nat.le_trans hB (Nat.zero_le _)
    | with_reducible apply State.apsFix_same
    | with_reducible apply State.pathWatchAll_same
    | with_reducible apply State.laneReady_same
    | with_reducible apply Same.foldl
    | with_reducible apply Same.foldl_snd
    | with_reducible apply Same.foldl_fst
    | dsimp only
    | split
    | intro _

end Sys2Proof.Machine
end

