-- ==== Sys2Proof/Laws/SameRelease.lean ====
section
/-! SUPPORT. What the operations of Machine/Release.lean leave (Same). -/

namespace Sys2Proof.Machine

theorem State.autoSwitch_same {K B : Nat} {s0 : State} {s : State} (fn : Nat) (h : Nat) (prot : Bool)
    (hK : K &&& 25088 = 0) (hB : B ≤ 0x7000001) (hk : Same K B s0 s) :
    Same K B s0 (State.autoSwitch s fn h prot) := by
  unfold State.autoSwitch
  try dsimp only
  repeat' first
    | with_reducible assumption
    | with_reducible rfl
    | exact mask_sub hK rfl
    | exact le_objAt (Nat.le_trans hB (by decide))
    | exact Nat.le_trans hB (by decide)
    | exact Nat.le_trans hB (by split <;> decide)
    | with_reducible apply State.bump_same
    | with_reducible apply State.setSelOn_same
    | with_reducible apply State.raise_same
    | with_reducible apply Same.foldl
    | with_reducible apply Same.foldl_snd
    | with_reducible apply Same.foldl_fst
    | dsimp only
    | split
    | intro _

theorem State.pickSource_same {K B : Nat} {s0 : State} {s : State} (fn : Nat) (L : Nat) (g : Nat)
    (hK : K &&& 29184 = 0) (hB : B ≤ 0x7000001) (hk : Same K B s0 s) :
    Same K B s0 (State.pickSource s fn L g).2 := by
  unfold State.pickSource
  try dsimp only
  repeat' first
    | with_reducible assumption
    | with_reducible rfl
    | exact mask_sub hK rfl
    | exact le_objAt (Nat.le_trans hB (by decide))
    | exact Nat.le_trans hB (by decide)
    | exact Nat.le_trans hB (by split <;> decide)
    | with_reducible apply State.modLane_same
    | with_reducible apply State.autoSwitch_same
    | dsimp only
    | split
    | intro _

theorem State.markRead_same {K B : Nat} {s0 : State} {s : State} (e : Entry) (g : Nat) (L : Nat)
    (hK : K &&& 4096 = 0) (hk : Same K B s0 s) :
    Same K B s0 (State.markRead s e g L) := by
  unfold State.markRead
  try dsimp only
  repeat' first
    | with_reducible assumption
    | with_reducible rfl
    | exact mask_sub hK rfl
    | with_reducible apply State.putLanding_same
    | dsimp only
    | split
    | intro _

theorem State.noteSlack_same {K B : Nat} {s0 : State} {s : State} (o : Nat) (v : Int)
    (hK : K &&& 512 = 0) (hB : B ≤ 0x8000010) (hk : Same K B s0 s) :
    Same K B s0 (State.noteSlack s o v) := by
  unfold State.noteSlack
  try dsimp only
  repeat' first
    | with_reducible assumption
    | with_reducible rfl
    | exact mask_sub hK rfl
    | exact le_objAt (Nat.le_trans hB (by decide))
    | exact Nat.le_trans hB (by decide)
    | exact Nat.le_trans hB (by split <;> decide)
    | with_reducible apply State.setFld_same
    | dsimp only
    | split
    | intro _

theorem State.showWorst_same {K B : Nat} {s0 : State} {s : State} (fn : Nat)
    (hK : K &&& 512 = 0) (hB : B ≤ 0x8f00001) (hk : Same K B s0 s) :
    Same K B s0 (State.showWorst s fn) := by
  unfold State.showWorst
  try dsimp only
  repeat' first
    | with_reducible assumption
    | with_reducible rfl
    | exact mask_sub hK rfl
    | exact le_objAt (Nat.le_trans hB (by decide))
    | exact Nat.le_trans hB (by decide)
    | exact Nat.le_trans hB (by split <;> decide)
    | with_reducible apply State.setFld_same
    | dsimp only
    | split
    | intro _

theorem State.worstSlack_same {K B : Nat} {s0 : State} {s : State} (fn : Nat)
    (hK : K &&& 54043195528446464 = 0) (hB : B ≤ 0x8f00001) (hk : Same K B s0 s) :
    Same K B s0 (State.worstSlack s fn) := by
  unfold State.worstSlack
  try dsimp only
  repeat' first
    | with_reducible assumption
    | with_reducible rfl
    | exact mask_sub hK rfl
    | exact le_objAt (Nat.le_trans hB (by decide))
    | exact Nat.le_trans hB (by decide)
    | exact Nat.le_trans hB (by split <;> decide)
    | with_reducible apply State.showWorst_same
    | dsimp only
    | split
    | intro _
    | with_reducible apply Same.upd_slacks_worstFn

theorem State.slackKnown_same {K B : Nat} {s0 : State} {s : State} (o : Nat) (f : LateFrame)
    (hK : K &&& 18014398509486592 = 0) (hB : B ≤ 0x8000010) (hk : Same K B s0 s) :
    Same K B s0 (State.slackKnown s o f) := by
  unfold State.slackKnown
  try dsimp only
  repeat' first
    | with_reducible assumption
    | with_reducible rfl
    | exact mask_sub hK rfl
    | exact le_objAt (Nat.le_trans hB (by decide))
    | exact Nat.le_trans hB (by decide)
    | exact Nat.le_trans hB (by split <;> decide)
    | with_reducible apply State.modLane_same
    | with_reducible apply State.noteSlack_same
    | with_reducible apply State.showWorst_same
    | dsimp only
    | split
    | intro _
    | with_reducible apply Same.upd_slacks

theorem State.lateSlot_same {K B : Nat} {s0 : State} {s : State} (o : Nat) (f : LateFrame) (k : Nat)
    (hK : K &&& 18014398509486592 = 0) (hB : B ≤ 0x8000010) (hk : Same K B s0 s) :
    Same K B s0 (State.lateSlot s o f k) := by
  unfold State.lateSlot
  try dsimp only
  repeat' first
    | with_reducible assumption
    | with_reducible rfl
    | exact mask_sub hK rfl
    | exact le_objAt (Nat.le_trans hB (by decide))
    | exact Nat.le_trans hB (by decide)
    | exact Nat.le_trans hB (by split <;> decide)
    | with_reducible apply State.modLane_same
    | with_reducible apply State.slackKnown_same
    | dsimp only
    | split
    | intro _

theorem State.slotDone_same {K B : Nat} {s0 : State} {s : State} (o : Nat) (fn : Nat) (k : Nat)
    (hK : K &&& 18014398509511168 = 0) (hB : B ≤ 0x7000001) (hk : Same K B s0 s) :
    Same K B s0 (State.slotDone s o fn k) := by
  unfold State.slotDone
  try dsimp only
  repeat' first
    | with_reducible assumption
    | with_reducible rfl
    | exact mask_sub hK rfl
    | exact le_objAt (Nat.le_trans hB (by decide))
    | exact Nat.le_trans hB (by decide)
    | exact Nat.le_trans hB (by split <;> decide)
    | with_reducible apply State.modLane_same
    | with_reducible apply State.pickSource_same
    | with_reducible apply State.markRead_same
    | with_reducible apply State.lateSlot_same
    | dsimp only
    | split
    | intro _

theorem State.unpick_same {K B : Nat} {s0 : State} {s : State} (h : Nat) (fn : Nat)
    (hK : K &&& 4096 = 0) (hk : Same K B s0 s) :
    Same K B s0 (State.unpick s h fn) := by
  unfold State.unpick
  try dsimp only
  repeat' first
    | with_reducible assumption
    | with_reducible rfl
    | exact mask_sub hK rfl
    | with_reducible apply State.modLane_same
    | dsimp only
    | split
    | intro _

theorem State.refill_same {K B : Nat} {s0 : State} {s : State} (o : Nat) (y : StoreCell)
    (hK : K &&& 29184 = 0) (hB : B ≤ 0x7000001) (hk : Same K B s0 s) :
    Same K B s0 (State.refill s o y) := by
  unfold State.refill
  try dsimp only
  repeat' first
    | with_reducible assumption
    | with_reducible rfl
    | exact mask_sub hK rfl
    | exact le_objAt (Nat.le_trans hB (by decide))
    | exact Nat.le_trans hB (by decide)
    | exact Nat.le_trans hB (by split <;> decide)
    | with_reducible apply State.modLane_same
    | with_reducible apply State.pickSource_same
    | dsimp only
    | split
    | intro _

theorem State.failStores_same {K B : Nat} {s0 : State} {s : State} (l : Nat)
    (hK : K &&& 29184 = 0) (hB : B ≤ 0x7000001) (hk : Same K B s0 s) :
    Same K B s0 (State.failStores s l) := by
  unfold State.failStores
  try dsimp only
  repeat' first
    | with_reducible assumption
    | with_reducible rfl
    | exact mask_sub hK rfl
    | exact le_objAt (Nat.le_trans hB (by decide))
    | exact Nat.le_trans hB (by decide)
    | exact Nat.le_trans hB (by split <;> decide)
    | with_reducible apply State.modLane_same
    | with_reducible apply State.unpick_same
    | with_reducible apply State.refill_same
    | with_reducible apply Same.foldl
    | with_reducible apply Same.foldl_snd
    | with_reducible apply Same.foldl_fst
    | dsimp only
    | split
    | intro _

theorem State.refillSlots_same {K B : Nat} {s0 : State} {s : State} (gs : List Nat)
    (hK : K &&& 29184 = 0) (hB : B ≤ 0x7000001) (hk : Same K B s0 s) :
    Same K B s0 (State.refillSlots s gs) := by
  unfold State.refillSlots
  try dsimp only
  repeat' first
    | with_reducible assumption
    | with_reducible rfl
    | exact mask_sub hK rfl
    | exact le_objAt (Nat.le_trans hB (by decide))
    | exact Nat.le_trans hB (by decide)
    | exact Nat.le_trans hB (by split <;> decide)
    | with_reducible apply State.refill_same
    | with_reducible apply Same.foldl
    | with_reducible apply Same.foldl_snd
    | with_reducible apply Same.foldl_fst
    | dsimp only
    | split
    | intro _

theorem State.testCell_same {K B : Nat} {s0 : State} {s : State} (o : Nat) (k : Nat) (code : Nat) (fn : Nat)
    (hK : K &&& 4096 = 0) (hk : Same K B s0 s) :
    Same K B s0 (State.testCell s o k code fn).2 := by
  unfold State.testCell
  try dsimp only
  repeat' first
    | with_reducible assumption
    | with_reducible rfl
    | exact mask_sub hK rfl
    | with_reducible apply State.modLane_same
    | dsimp only
    | split
    | intro _

theorem State.egressCell_same {K B : Nat} {s0 : State} {s : State} (o : Nat) (fn : Nat) (k : Nat) (x : Tick)
    (hK : K &&& 4096 = 0) (hk : Same K B s0 s) :
    Same K B s0 (State.egressCell s o fn k x).2 := by
  unfold State.egressCell
  try dsimp only
  repeat' first
    | with_reducible assumption
    | with_reducible rfl
    | exact mask_sub hK rfl
    | with_reducible apply State.testCell_same
    | dsimp only
    | split
    | intro _

theorem State.egressCells_same {K B : Nat} {s0 : State} {s : State} (o : Nat) (fn : Nat) (x : Tick)
    (hK : K &&& 4096 = 0) (hk : Same K B s0 s) :
    Same K B s0 (State.egressCells s o fn x).2 := by
  unfold State.egressCells
  try dsimp only
  repeat' first
    | with_reducible assumption
    | with_reducible rfl
    | exact mask_sub hK rfl
    | with_reducible apply State.egressCell_same
    | with_reducible apply Same.foldl
    | with_reducible apply Same.foldl_snd
    | with_reducible apply Same.foldl_fst
    | dsimp only
    | split
    | intro _

theorem State.buildTtf_same {K B : Nat} {s0 : State} {s : State} (l : Nat) (fn : Nat) (x : Tick)
    (hK : K &&& 34359742976 = 0) (hB : B ≤ 0xf000003) (hk : Same K B s0 s) :
    Same K B s0 (State.buildTtf s l fn x).2 := by
  unfold State.buildTtf
  try dsimp only
  repeat' first
    | with_reducible assumption
    | with_reducible rfl
    | exact mask_sub hK rfl
    | exact le_objAt (Nat.le_trans hB (by decide))
    | exact Nat.le_trans hB (by decide)
    | exact Nat.le_trans hB (by split <;> decide)
    | with_reducible apply State.modLane_same
    | with_reducible apply State.chanSend_same
    | with_reducible apply State.egressCells_same
    | dsimp only
    | split
    | intro _

theorem State.justifyPath_same {K B : Nat} {s0 : State} {s : State} (l : Nat) (fn : Nat) (k : Nat) (ais : Bool)
    (hK : K &&& 5120 = 0) (hk : Same K B s0 s) :
    Same K B s0 (State.justifyPath s l fn k ais).2 := by
  unfold State.justifyPath
  try dsimp only
  repeat' first
    | with_reducible assumption
    | with_reducible rfl
    | exact mask_sub hK rfl
    | with_reducible apply State.modLane_same
    | with_reducible apply State.countPj_same
    | dsimp only
    | split
    | intro _

theorem State.slotLine_same {K B : Nat} {s0 : State} {s : State} (l : Nat) (k : Nat) (v : Nat) (mv : Int) (c : Cell)
    (hK : K &&& 4096 = 0) (hk : Same K B s0 s) :
    Same K B s0 (State.slotLine s l k v mv c).2 := by
  unfold State.slotLine
  try dsimp only
  repeat' first
    | with_reducible assumption
    | with_reducible rfl
    | exact mask_sub hK rfl
    | with_reducible apply State.modLane_same
    | dsimp only
    | split
    | intro _

theorem State.sdhPath_same {K B : Nat} {s0 : State} {s : State} (l : Nat) (fn : Nat) (k : Nat) (cells : List (Nat × Cell))
    (hK : K &&& 5120 = 0) (hk : Same K B s0 s) :
    Same K B s0 (State.sdhPath s l fn k cells).2 := by
  unfold State.sdhPath
  try dsimp only
  repeat' first
    | with_reducible assumption
    | with_reducible rfl
    | exact mask_sub hK rfl
    | with_reducible apply State.modLane_same
    | with_reducible apply State.justifyPath_same
    | with_reducible apply State.slotLine_same
    | with_reducible apply Same.foldl
    | with_reducible apply Same.foldl_snd
    | with_reducible apply Same.foldl_fst
    | dsimp only
    | split
    | intro _

theorem State.buildSdh_same {K B : Nat} {s0 : State} {s : State} (l : Nat) (fn : Nat) (x : Tick)
    (hK : K &&& 34359744256 = 0) (hB : B ≤ 0xf000003) (hk : Same K B s0 s) :
    Same K B s0 (State.buildSdh s l fn x).2 := by
  unfold State.buildSdh
  try dsimp only
  repeat' first
    | with_reducible assumption
    | with_reducible rfl
    | exact mask_sub hK rfl
    | exact le_objAt (Nat.le_trans hB (by decide))
    | exact Nat.le_trans hB (by decide)
    | exact Nat.le_trans hB (by split <;> decide)
    | with_reducible apply State.modLane_same
    | with_reducible apply State.chanSend_same
    | with_reducible apply State.overlayOut_same
    | with_reducible apply State.egressCells_same
    | with_reducible apply State.sdhPath_same
    | with_reducible apply Same.foldl
    | with_reducible apply Same.foldl_snd
    | with_reducible apply Same.foldl_fst
    | dsimp only
    | split
    | intro _

theorem State.buildOwn_same {K B : Nat} {s0 : State} {s : State} (l : Nat) (fn : Nat) (x : Tick)
    (hK : K &&& 34359744256 = 0) (hB : B ≤ 0x6000002) (hk : Same K B s0 s) :
    Same K B s0 (State.buildOwn s l fn x).2 := by
  unfold State.buildOwn
  try dsimp only
  repeat' first
    | with_reducible assumption
    | with_reducible rfl
    | exact mask_sub hK rfl
    | exact le_objAt (Nat.le_trans hB (by decide))
    | exact Nat.le_trans hB (by decide)
    | exact Nat.le_trans hB (by split <;> decide)
    | with_reducible apply State.demap_same
    | with_reducible apply State.egressCells_same
    | with_reducible apply State.buildTtf_same
    | with_reducible apply State.buildSdh_same
    | dsimp only
    | split
    | intro _

theorem State.mirrored_same {K B : Nat} {s0 : State} {s : State} (l : Nat) (fn : Nat) (x : Tick) (f : TxFrame)
    (hK : K &&& 2147488000 = 0) (hk : Same K B s0 s) :
    Same K B s0 (State.mirrored s l fn x f).2 := by
  unfold State.mirrored
  try dsimp only
  repeat' first
    | with_reducible assumption
    | with_reducible rfl
    | exact mask_sub hK rfl
    | with_reducible apply State.overlayOut_same
    | dsimp only
    | split
    | intro _
    | with_reducible apply Same.upd_aps

theorem State.buildFrame_same {K B : Nat} {s0 : State} {s : State} (l : Nat) (fn : Nat) (x : Tick)
    (hK : K &&& 36507227904 = 0) (hB : B ≤ 0x6000002) (hk : Same K B s0 s) :
    Same K B s0 (State.buildFrame s l fn x).2 := by
  unfold State.buildFrame
  try dsimp only
  repeat' first
    | with_reducible assumption
    | with_reducible rfl
    | exact mask_sub hK rfl
    | exact le_objAt (Nat.le_trans hB (by decide))
    | exact Nat.le_trans hB (by decide)
    | exact Nat.le_trans hB (by split <;> decide)
    | with_reducible apply State.buildOwn_same
    | with_reducible apply State.mirrored_same
    | dsimp only
    | split
    | intro _

theorem State.rephase_same {K B : Nat} {s0 : State} {s : State} (l : Nat) (x : Tick)
    (hK : K &&& 17920 = 0) (hB : B ≤ 0x8000020) (hk : Same K B s0 s) :
    Same K B s0 (State.rephase s l x).2 := by
  unfold State.rephase
  try dsimp only
  repeat' first
    | with_reducible assumption
    | with_reducible rfl
    | exact mask_sub hK rfl
    | exact le_objAt (Nat.le_trans hB (by decide))
    | exact Nat.le_trans hB (by decide)
    | exact Nat.le_trans hB (by split <;> decide)
    | with_reducible apply State.bumpLive_same
    | with_reducible apply State.raise_same
    | dsimp only
    | split
    | intro _

theorem State.sentDone_same {K B : Nat} {s0 : State} {s : State} (l : Nat) (fn : Nat)
    (hK : K &&& 20992 = 0) (hB : B ≤ 0x7f00030) (hk : Same K B s0 s) :
    Same K B s0 (State.sentDone s l fn) := by
  unfold State.sentDone
  try dsimp only
  repeat' first
    | with_reducible assumption
    | with_reducible rfl
    | exact mask_sub hK rfl
    | exact le_objAt (Nat.le_trans hB (by decide))
    | exact Nat.le_trans hB (by decide)
    | exact Nat.le_trans hB (by split <;> decide)
    | with_reducible apply State.txDone_same
    | dsimp only
    | split
    | intro _

theorem State.putOnLine_same {K B : Nat} {s0 : State} {s : State} (l : Nat) (f : TxFrame) (x : Tick) (e : Option Tick)
    (hK : K &&& 4096 = 0) (hk : Same K B s0 s) :
    Same K B s0 (State.putOnLine s l f x e) := by
  unfold State.putOnLine
  try dsimp only
  repeat' first
    | with_reducible assumption
    | with_reducible rfl
    | exact mask_sub hK rfl
    | with_reducible apply State.modLane_same
    | with_reducible apply State.onLine_same
    | dsimp only
    | split
    | intro _

theorem State.sendFrame_same {K B : Nat} {s0 : State} {s : State} (l : Nat) (fn : Nat) (x : Tick)
    (hK : K &&& 36507244288 = 0) (hB : B ≤ 0x6000002) (hk : Same K B s0 s) :
    Same K B s0 (State.sendFrame s l fn x) := by
  unfold State.sendFrame
  try dsimp only
  repeat' first
    | with_reducible assumption
    | with_reducible rfl
    | exact mask_sub hK rfl
    | exact le_objAt (Nat.le_trans hB (by decide))
    | exact Nat.le_trans hB (by decide)
    | exact Nat.le_trans hB (by split <;> decide)
    | with_reducible apply State.drawn_same
    | with_reducible apply State.buildFrame_same
    | with_reducible apply State.rephase_same
    | with_reducible apply State.sentDone_same
    | with_reducible apply State.putOnLine_same
    | dsimp only
    | split
    | intro _

theorem State.sendPattern_same {K B : Nat} {s0 : State} {s : State} (l : Nat) (fn : Nat) (x : Tick)
    (hK : K &&& 4096 = 0) (hk : Same K B s0 s) :
    Same K B s0 (State.sendPattern s l fn x) := by
  unfold State.sendPattern
  try dsimp only
  repeat' first
    | with_reducible assumption
    | with_reducible rfl
    | exact mask_sub hK rfl
    | with_reducible apply State.modLane_same
    | dsimp only
    | split
    | intro _

theorem State.sendNothing_same {K B : Nat} {s0 : State} {s : State} (l : Nat)
    (hK : K &&& 4096 = 0) (hk : Same K B s0 s) :
    Same K B s0 (State.sendNothing s l) := by
  unfold State.sendNothing
  try dsimp only
  repeat' first
    | with_reducible assumption
    | with_reducible rfl
    | exact mask_sub hK rfl
    | with_reducible apply State.modLane_same
    | dsimp only
    | split
    | intro _

theorem State.letGo_same {K B : Nat} {s0 : State} {s : State} (l : Nat) (fn : Nat) (x : Tick)
    (hK : K &&& 36507244288 = 0) (hB : B ≤ 0x6000002) (hk : Same K B s0 s) :
    Same K B s0 (State.letGo s l fn x) := by
  unfold State.letGo
  try dsimp only
  repeat' first
    | with_reducible assumption
    | with_reducible rfl
    | exact mask_sub hK rfl
    | exact le_objAt (Nat.le_trans hB (by decide))
    | exact Nat.le_trans hB (by decide)
    | exact Nat.le_trans hB (by split <;> decide)
    | with_reducible apply State.modLane_same
    | with_reducible apply State.sendFrame_same
    | with_reducible apply State.sendPattern_same
    | with_reducible apply State.sendNothing_same
    | dsimp only
    | split
    | intro _

theorem State.lineEcho_same {K B : Nat} {s0 : State} {s : State} (l : Nat) (prior : Nat) (line : List Nat)
    (hK : K &&& 4096 = 0) (hk : Same K B s0 s) :
    Same K B s0 (State.lineEcho s l prior line) := by
  unfold State.lineEcho
  try dsimp only
  repeat' first
    | with_reducible assumption
    | with_reducible rfl
    | exact mask_sub hK rfl
    | with_reducible apply State.modLane_same
    | dsimp only
    | split
    | intro _

theorem State.closeLate_same {K B : Nat} {s0 : State} {s : State} (o : Nat)
    (hK : K &&& 18014398509486592 = 0) (hB : B ≤ 0x8000010) (hk : Same K B s0 s) :
    Same K B s0 (State.closeLate s o) := by
  unfold State.closeLate
  try dsimp only
  repeat' first
    | with_reducible assumption
    | with_reducible rfl
    | exact mask_sub hK rfl
    | exact le_objAt (Nat.le_trans hB (by decide))
    | exact Nat.le_trans hB (by decide)
    | exact Nat.le_trans hB (by split <;> decide)
    | with_reducible apply State.slackKnown_same
    | dsimp only
    | split
    | intro _

theorem State.countLate_same {K B : Nat} {s0 : State} {s : State} (o : Nat) (lates : List Nat)
    (hK : K &&& 17920 = 0) (hB : B ≤ 0x8000020) (hk : Same K B s0 s) :
    Same K B s0 (State.countLate s o lates) := by
  unfold State.countLate
  try dsimp only
  repeat' first
    | with_reducible assumption
    | with_reducible rfl
    | exact mask_sub hK rfl
    | exact le_objAt (Nat.le_trans hB (by decide))
    | exact Nat.le_trans hB (by decide)
    | exact Nat.le_trans hB (by split <;> decide)
    | with_reducible apply State.bumpLive_same
    | with_reducible apply State.raise_same
    | dsimp only
    | split
    | intro _

theorem State.slackOf_same {K B : Nat} {s0 : State} {s : State} (o : Nat) (fn : Nat) (x : Tick)
    (hK : K &&& 54043195528467968 = 0) (hB : B ≤ 0x8000010) (hk : Same K B s0 s) :
    Same K B s0 (State.slackOf s o fn x) := by
  unfold State.slackOf
  try dsimp only
  repeat' first
    | with_reducible assumption
    | with_reducible rfl
    | exact mask_sub hK rfl
    | exact le_objAt (Nat.le_trans hB (by decide))
    | exact Nat.le_trans hB (by decide)
    | exact Nat.le_trans hB (by split <;> decide)
    | with_reducible apply State.setFld_same
    | with_reducible apply State.modLane_same
    | with_reducible apply State.raiseIf_same
    | with_reducible apply State.noteSlack_same
    | with_reducible apply State.worstSlack_same
    | with_reducible apply State.closeLate_same
    | with_reducible apply State.countLate_same
    | with_reducible apply Same.foldl
    | with_reducible apply Same.foldl_snd
    | with_reducible apply Same.foldl_fst
    | dsimp only
    | split
    | intro _
    | with_reducible apply Same.upd_slacks

theorem State.watchPath_same {K B : Nat} {s0 : State} {s : State} (fn : Nat) (g : Nat) (w : Nat) (cells : List (Nat × SlotStatus))
    (hK : K &&& 274877906944 = 0) (hk : Same K B s0 s) :
    Same K B s0 (State.watchPath s fn g w cells) := by
  unfold State.watchPath
  try dsimp only
  repeat' first
    | with_reducible assumption
    | with_reducible rfl
    | exact mask_sub hK rfl
    | with_reducible apply State.pmAt_same
    | dsimp only
    | split
    | intro _

theorem State.watchLane_same {K B : Nat} {s0 : State} {s : State} (o : Nat) (fn : Nat) (x : Tick)
    (hK : K &&& 274877911040 = 0) (hk : Same K B s0 s) :
    Same K B s0 (State.watchLane s o fn x) := by
  unfold State.watchLane
  try dsimp only
  repeat' first
    | with_reducible assumption
    | with_reducible rfl
    | exact mask_sub hK rfl
    | with_reducible apply State.egressCells_same
    | with_reducible apply State.watchPath_same
    | with_reducible apply Same.foldl
    | with_reducible apply Same.foldl_snd
    | with_reducible apply Same.foldl_fst
    | dsimp only
    | split
    | intro _

theorem State.noteSwitch_same {K B : Nat} {s0 : State} {s : State} (fn : Nat)
    (hK : K &&& 16896 = 0) (hB : B ≤ 0x7f00000) (hk : Same K B s0 s) :
    Same K B s0 (State.noteSwitch s fn) := by
  unfold State.noteSwitch
  try dsimp only
  repeat' first
    | with_reducible assumption
    | with_reducible rfl
    | exact mask_sub hK rfl
    | exact le_objAt (Nat.le_trans hB (by decide))
    | exact Nat.le_trans hB (by decide)
    | exact Nat.le_trans hB (by split <;> decide)
    | with_reducible apply State.setFld_same
    | with_reducible apply State.setOn_same
    | with_reducible apply State.raise_same
    | dsimp only
    | split
    | intro _

theorem State.release_same {K B : Nat} {s0 : State} {s : State} (l : Nat) (fn : Nat) (x : Tick)
    (hK : K &&& 54043506913597184 = 0) (hB : B ≤ 0x6000002) (hk : Same K B s0 s) :
    Same K B s0 (State.release s l fn x) := by
  unfold State.release
  try dsimp only
  repeat' first
    | with_reducible assumption
    | with_reducible rfl
    | exact mask_sub hK rfl
    | exact le_objAt (Nat.le_trans hB (by decide))
    | exact Nat.le_trans hB (by decide)
    | exact Nat.le_trans hB (by split <;> decide)
    | with_reducible apply State.modLane_same
    | with_reducible apply State.letGo_same
    | with_reducible apply State.slackOf_same
    | with_reducible apply State.watchLane_same
    | with_reducible apply State.noteSwitch_same
    | dsimp only
    | split
    | intro _

theorem State.releaseFrame_same {K B : Nat} {s0 : State} {s : State} (l : Nat) (fn : Nat)
    (hK : K &&& 54043506913597184 = 0) (hB : B ≤ 0x6000002) (hk : Same K B s0 s) :
    Same K B s0 (State.releaseFrame s l fn) := by
  unfold State.releaseFrame
  try dsimp only
  repeat' first
    | with_reducible assumption
    | with_reducible rfl
    | exact mask_sub hK rfl
    | exact le_objAt (Nat.le_trans hB (by decide))
    | exact Nat.le_trans hB (by decide)
    | exact Nat.le_trans hB (by split <;> decide)
    | with_reducible apply State.release_same
    | dsimp only
    | split
    | intro _

theorem State.completeFrame_same {K B : Nat} {s0 : State} {s : State} (l : Nat) (fn : Nat)
    (hK : K &&& 54043506913597184 = 0) (hB : B ≤ 0x6000002) (hk : Same K B s0 s) :
    Same K B s0 (State.completeFrame s l fn) := by
  unfold State.completeFrame
  try dsimp only
  repeat' first
    | with_reducible assumption
    | with_reducible rfl
    | exact mask_sub hK rfl
    | exact le_objAt (Nat.le_trans hB (by decide))
    | exact Nat.le_trans hB (by decide)
    | exact Nat.le_trans hB (by split <;> decide)
    | with_reducible apply State.release_same
    | dsimp only
    | split
    | intro _

theorem State.putPage_same {K B : Nat} {s0 : State} {s : State} (id : Nat) (es : Map Entry)
    (hK : K &&& 8192 = 0) (hk : Same K B s0 s) :
    Same K B s0 (State.putPage s id es) := by
  unfold State.putPage
  try dsimp only
  repeat' first
    | with_reducible assumption
    | with_reducible rfl
    | exact mask_sub hK rfl
    | with_reducible apply Same.foldl
    | with_reducible apply Same.foldl_snd
    | with_reducible apply Same.foldl_fst
    | dsimp only
    | split
    | intro _
    | with_reducible apply Same.upd_xc

theorem State.aheadWr_same {K B : Nat} {s0 : State} {s : State} (w : Wr)
    (hK : K &&& 512 = 0) (hB : B ≤ 0) (hk : Same K B s0 s) :
    Same K B s0 (State.aheadWr s w) := by
  unfold State.aheadWr
  try dsimp only
  repeat' first
    | with_reducible assumption
    | with_reducible rfl
    | exact mask_sub hK rfl
    | exact Nat.le_trans hB (Nat.zero_le _)
    | with_reducible apply State.setOn_same
    | with_reducible apply State.mergeVal_same
    | dsimp only
    | split
    | intro _

theorem State.ahead_same {K B : Nat} {s0 : State} {s : State} (fn : Nat) (f : State → State) (hf : ∀ t, Same K B s0 t → Same K B s0 (f t))
    (hK : K &&& 8704 = 0) (hB : B ≤ 0) (hk : Same K B s0 s) :
    Same K B s0 (State.ahead s fn f) := by
  unfold State.ahead
  try dsimp only
  repeat' first
    | with_reducible assumption
    | with_reducible rfl
    | exact mask_sub hK rfl
    | exact Nat.le_trans hB (Nat.zero_le _)
    | with_reducible apply State.setVals_same
    | with_reducible apply State.putPage_same
    | with_reducible apply State.aheadWr_same
    | with_reducible apply hf
    | with_reducible apply Same.foldl
    | with_reducible apply Same.foldl_snd
    | with_reducible apply Same.foldl_fst
    | dsimp only
    | split
    | intro _
    | with_reducible apply Same.upd_xc

end Sys2Proof.Machine
end

