-- ==== Sys2Proof/Laws/SameTandem.lean ====
section
/-! SUPPORT. What the operations of Machine/Tandem.lean leave (Same). -/

namespace Sys2Proof.Machine

theorem State.setRole_same {K B : Nat} {s0 : State} {s : State} (r : Nat)
    (hK : K &&& 512 = 0) (hB : B ≤ 0xd000003) (hk : Same K B s0 s) :
    Same K B s0 (State.setRole s r) := by
  unfold State.setRole
  try dsimp only
  repeat' first
    | with_reducible assumption
    | with_reducible rfl
    | exact mask_sub hK rfl
    | exact le_objAt (Nat.le_trans hB (by decide))
    | exact Nat.le_trans hB (by decide)
    | exact Nat.le_trans hB (by split <;> decide)
    | with_reducible apply State.setFld_same
    | dsimp only
    | split
    | intro _

theorem State.modTandem_same {K B : Nat} {s0 : State} {s : State} (f : Tandem → Tandem)
    (hK : K &&& 8589934592 = 0) (hk : Same K B s0 s) :
    Same K B s0 (State.modTandem s f) := by
  unfold State.modTandem
  try dsimp only
  repeat' first
    | with_reducible assumption
    | with_reducible rfl
    | exact mask_sub hK rfl
    | dsimp only
    | split
    | intro _
    | with_reducible apply Same.upd_tandem

theorem State.modOut_same {K B : Nat} {s0 : State} {s : State} (f : TandemOut → TandemOut)
    (hK : K &&& 8589934592 = 0) (hk : Same K B s0 s) :
    Same K B s0 (State.modOut s f) := by
  unfold State.modOut
  try dsimp only
  repeat' first
    | with_reducible assumption
    | with_reducible rfl
    | exact mask_sub hK rfl
    | with_reducible apply State.modTandem_same
    | dsimp only
    | split
    | intro _

theorem State.modHeard_same {K B : Nat} {s0 : State} {s : State} (f : TandemIn → TandemIn)
    (hK : K &&& 8589934592 = 0) (hk : Same K B s0 s) :
    Same K B s0 (State.modHeard s f) := by
  unfold State.modHeard
  try dsimp only
  repeat' first
    | with_reducible assumption
    | with_reducible rfl
    | exact mask_sub hK rfl
    | with_reducible apply State.modTandem_same
    | dsimp only
    | split
    | intro _

theorem State.showPin_same {K B : Nat} {s0 : State} {s : State}
    (hK : K &&& 512 = 0) (hB : B ≤ 0xd000003) (hk : Same K B s0 s) :
    Same K B s0 (State.showPin s) := by
  unfold State.showPin
  try dsimp only
  repeat' first
    | with_reducible assumption
    | with_reducible rfl
    | exact mask_sub hK rfl
    | exact le_objAt (Nat.le_trans hB (by decide))
    | exact Nat.le_trans hB (by decide)
    | exact Nat.le_trans hB (by split <;> decide)
    | with_reducible apply State.setOn_same
    | dsimp only
    | split
    | intro _

theorem State.becomeStandby_same {K B : Nat} {s0 : State} {s : State}
    (hK : K &&& 8589935104 = 0) (hB : B ≤ 0xd000003) (hk : Same K B s0 s) :
    Same K B s0 (State.becomeStandby s) := by
  unfold State.becomeStandby
  try dsimp only
  repeat' first
    | with_reducible assumption
    | with_reducible rfl
    | exact mask_sub hK rfl
    | exact le_objAt (Nat.le_trans hB (by decide))
    | exact Nat.le_trans hB (by decide)
    | exact Nat.le_trans hB (by split <;> decide)
    | with_reducible apply State.setOn_same
    | with_reducible apply State.setRole_same
    | with_reducible apply State.modTandem_same
    | dsimp only
    | split
    | intro _

theorem State.becomeActive_same {K B : Nat} {s0 : State} {s : State}
    (hK : K &&& 8589935104 = 0) (hB : B ≤ 0xd000003) (hk : Same K B s0 s) :
    Same K B s0 (State.becomeActive s) := by
  unfold State.becomeActive
  try dsimp only
  repeat' first
    | with_reducible assumption
    | with_reducible rfl
    | exact mask_sub hK rfl
    | exact le_objAt (Nat.le_trans hB (by decide))
    | exact Nat.le_trans hB (by decide)
    | exact Nat.le_trans hB (by split <;> decide)
    | with_reducible apply State.setOn_same
    | with_reducible apply State.setRole_same
    | with_reducible apply State.modTandem_same
    | with_reducible apply State.showPin_same
    | dsimp only
    | split
    | intro _

theorem State.tandemStart_same {K B : Nat} {s0 : State} {s : State}
    (hK : K &&& 8589935104 = 0) (hB : B ≤ 0xd000003) (hk : Same K B s0 s) :
    Same K B s0 (State.tandemStart s) := by
  unfold State.tandemStart
  try dsimp only
  repeat' first
    | with_reducible assumption
    | with_reducible rfl
    | exact mask_sub hK rfl
    | exact le_objAt (Nat.le_trans hB (by decide))
    | exact Nat.le_trans hB (by decide)
    | exact Nat.le_trans hB (by split <;> decide)
    | with_reducible apply State.setOn_same
    | with_reducible apply State.setRole_same
    | with_reducible apply State.modTandem_same
    | with_reducible apply State.showPin_same
    | with_reducible apply State.becomeStandby_same
    | with_reducible apply State.becomeActive_same
    | dsimp only
    | split
    | intro _

theorem State.tandemStop_same {K B : Nat} {s0 : State} {s : State}
    (hK : K &&& 8589935104 = 0) (hB : B ≤ 0xd000003) (hk : Same K B s0 s) :
    Same K B s0 (State.tandemStop s) := by
  unfold State.tandemStop
  try dsimp only
  repeat' first
    | with_reducible assumption
    | with_reducible rfl
    | exact mask_sub hK rfl
    | exact le_objAt (Nat.le_trans hB (by decide))
    | exact Nat.le_trans hB (by decide)
    | exact Nat.le_trans hB (by split <;> decide)
    | with_reducible apply State.setVal_same
    | with_reducible apply State.setOn_same
    | with_reducible apply State.showPin_same
    | dsimp only
    | split
    | intro _
    | with_reducible apply Same.upd_tandem

theorem State.tandemDrop_same {K B : Nat} {s0 : State} {s : State}
    (hK : K &&& 8589935104 = 0) (hB : B ≤ 0xd000003) (hk : Same K B s0 s) :
    Same K B s0 (State.tandemDrop s) := by
  unfold State.tandemDrop
  try dsimp only
  repeat' first
    | with_reducible assumption
    | with_reducible rfl
    | exact mask_sub hK rfl
    | exact le_objAt (Nat.le_trans hB (by decide))
    | exact Nat.le_trans hB (by decide)
    | exact Nat.le_trans hB (by split <;> decide)
    | with_reducible apply State.modTandem_same
    | with_reducible apply State.showPin_same
    | dsimp only
    | split
    | intro _

theorem State.standbyWait_same {K B : Nat} {s0 : State} {s : State}
    (hK : K &&& 8589935104 = 0) (hB : B ≤ 0xd000003) (hk : Same K B s0 s) :
    Same K B s0 (State.standbyWait s) := by
  unfold State.standbyWait
  try dsimp only
  repeat' first
    | with_reducible assumption
    | with_reducible rfl
    | exact mask_sub hK rfl
    | exact le_objAt (Nat.le_trans hB (by decide))
    | exact Nat.le_trans hB (by decide)
    | exact Nat.le_trans hB (by split <;> decide)
    | with_reducible apply State.becomeStandby_same
    | with_reducible apply State.becomeActive_same
    | dsimp only
    | split
    | intro _

theorem State.holdChange_same {K B : Nat} {s0 : State} {s : State} (high : Bool)
    (hK : K &&& 8589951488 = 0) (hB : B ≤ 0xd000003) (hk : Same K B s0 s) :
    Same K B s0 (State.holdChange s high) := by
  unfold State.holdChange
  try dsimp only
  repeat' first
    | with_reducible assumption
    | with_reducible rfl
    | exact mask_sub hK rfl
    | exact le_objAt (Nat.le_trans hB (by decide))
    | exact Nat.le_trans hB (by decide)
    | exact Nat.le_trans hB (by split <;> decide)
    | with_reducible apply State.raise_same
    | with_reducible apply State.modTandem_same
    | with_reducible apply State.showPin_same
    | dsimp only
    | split
    | intro _

theorem State.rootMoves_same {K B : Nat} {s0 : State} {s : State}
    (hK : K &&& 512 = 0) (hB : B ≤ 0xe000010) (hk : Same K B s0 s) :
    Same K B s0 (State.rootMoves s) := by
  unfold State.rootMoves
  try dsimp only
  repeat' first
    | with_reducible assumption
    | with_reducible rfl
    | exact mask_sub hK rfl
    | exact le_objAt (Nat.le_trans hB (by decide))
    | exact Nat.le_trans hB (by decide)
    | exact Nat.le_trans hB (by split <;> decide)
    | with_reducible apply State.setOn_same
    | dsimp only
    | split
    | intro _

theorem State.takeOver_same {K B : Nat} {s0 : State} {s : State}
    (hK : K &&& 9529475840 = 0) (hB : B ≤ 0xa000020) (hk : Same K B s0 s) :
    Same K B s0 (State.takeOver s) := by
  unfold State.takeOver
  try dsimp only
  repeat' first
    | with_reducible assumption
    | with_reducible rfl
    | exact mask_sub hK rfl
    | exact le_objAt (Nat.le_trans hB (by decide))
    | exact Nat.le_trans hB (by decide)
    | exact Nat.le_trans hB (by split <;> decide)
    | with_reducible apply State.setFld_same
    | with_reducible apply State.bump_same
    | with_reducible apply State.raise_same
    | with_reducible apply State.setSelected_same
    | with_reducible apply State.loopMove_same
    | with_reducible apply State.settle_same
    | with_reducible apply State.becomeActive_same
    | with_reducible apply State.rootMoves_same
    | dsimp only
    | split
    | intro _

theorem State.takeover_same {K B : Nat} {s0 : State} {s : State}
    (hK : K &&& 9529475840 = 0) (hB : B ≤ 0xa000020) (hk : Same K B s0 s) :
    Same K B s0 (State.takeover s) := by
  unfold State.takeover
  try dsimp only
  repeat' first
    | with_reducible assumption
    | with_reducible rfl
    | exact mask_sub hK rfl
    | exact le_objAt (Nat.le_trans hB (by decide))
    | exact Nat.le_trans hB (by decide)
    | exact Nat.le_trans hB (by split <;> decide)
    | with_reducible apply State.takeOver_same
    | dsimp only
    | split
    | intro _

theorem State.takeoverForce_same {K B : Nat} {s0 : State} {s : State}
    (hK : K &&& 8589951488 = 0) (hB : B ≤ 0xd000020) (hk : Same K B s0 s) :
    Same K B s0 (State.takeoverForce s) := by
  unfold State.takeoverForce
  try dsimp only
  repeat' first
    | with_reducible assumption
    | with_reducible rfl
    | exact mask_sub hK rfl
    | exact le_objAt (Nat.le_trans hB (by decide))
    | exact Nat.le_trans hB (by decide)
    | exact Nat.le_trans hB (by split <;> decide)
    | with_reducible apply State.raise_same
    | with_reducible apply State.modTandem_same
    | dsimp only
    | split
    | intro _

theorem State.relinquish_same {K B : Nat} {s0 : State} {s : State}
    (hK : K &&& 8589934592 = 0) (hk : Same K B s0 s) :
    Same K B s0 (State.relinquish s) := by
  unfold State.relinquish
  try dsimp only
  repeat' first
    | with_reducible assumption
    | with_reducible rfl
    | exact mask_sub hK rfl
    | with_reducible apply State.modTandem_same
    | dsimp only
    | split
    | intro _

theorem State.autoRelinquish_same {K B : Nat} {s0 : State} {s : State}
    (hK : K &&& 8589934592 = 0) (hk : Same K B s0 s) :
    Same K B s0 (State.autoRelinquish s) := by
  unfold State.autoRelinquish
  try dsimp only
  repeat' first
    | with_reducible assumption
    | with_reducible rfl
    | exact mask_sub hK rfl
    | with_reducible apply State.relinquish_same
    | dsimp only
    | split
    | intro _

theorem State.tandemRelease_same {K B : Nat} {s0 : State} {s : State}
    (hK : K &&& 8589951488 = 0) (hB : B ≤ 0xd000020) (hk : Same K B s0 s) :
    Same K B s0 (State.tandemRelease s) := by
  unfold State.tandemRelease
  try dsimp only
  repeat' first
    | with_reducible assumption
    | with_reducible rfl
    | exact mask_sub hK rfl
    | exact le_objAt (Nat.le_trans hB (by decide))
    | exact Nat.le_trans hB (by decide)
    | exact Nat.le_trans hB (by split <;> decide)
    | with_reducible apply State.raise_same
    | with_reducible apply State.modTandem_same
    | dsimp only
    | split
    | intro _

theorem State.tandemYield_same {K B : Nat} {s0 : State} {s : State}
    (hK : K &&& 8589935104 = 0) (hB : B ≤ 0xd000003) (hk : Same K B s0 s) :
    Same K B s0 (State.tandemYield s) := by
  unfold State.tandemYield
  try dsimp only
  repeat' first
    | with_reducible assumption
    | with_reducible rfl
    | exact mask_sub hK rfl
    | exact le_objAt (Nat.le_trans hB (by decide))
    | exact Nat.le_trans hB (by decide)
    | exact Nat.le_trans hB (by split <;> decide)
    | with_reducible apply State.becomeStandby_same
    | dsimp only
    | split
    | intro _

theorem State.tandemSample_same {K B : Nat} {s0 : State} {s : State} (r : TandemRec)
    (hK : K &&& 8589934592 = 0) (hk : Same K B s0 s) :
    Same K B s0 (State.tandemSample s r) := by
  unfold State.tandemSample
  try dsimp only
  repeat' first
    | with_reducible assumption
    | with_reducible rfl
    | exact mask_sub hK rfl
    | with_reducible apply State.modTandem_same
    | dsimp only
    | split
    | intro _

theorem State.seatConflict_same {K B : Nat} {s0 : State} {s : State} (r : TandemRec)
    (hK : K &&& 16896 = 0) (hB : B ≤ 0xd000003) (hk : Same K B s0 s) :
    Same K B s0 (State.seatConflict s r) := by
  unfold State.seatConflict
  try dsimp only
  repeat' first
    | with_reducible assumption
    | with_reducible rfl
    | exact mask_sub hK rfl
    | exact le_objAt (Nat.le_trans hB (by decide))
    | exact Nat.le_trans hB (by decide)
    | exact Nat.le_trans hB (by split <;> decide)
    | with_reducible apply State.setOn_same
    | with_reducible apply State.raiseIf_same
    | dsimp only
    | split
    | intro _

theorem State.takeoverInhibit_same {K B : Nat} {s0 : State} {s : State} (r : TandemRec)
    (hK : K &&& 16896 = 0) (hB : B ≤ 0xd000003) (hk : Same K B s0 s) :
    Same K B s0 (State.takeoverInhibit s r) := by
  unfold State.takeoverInhibit
  try dsimp only
  repeat' first
    | with_reducible assumption
    | with_reducible rfl
    | exact mask_sub hK rfl
    | exact le_objAt (Nat.le_trans hB (by decide))
    | exact Nat.le_trans hB (by decide)
    | exact Nat.le_trans hB (by split <;> decide)
    | with_reducible apply State.setOn_same
    | with_reducible apply State.raiseIf_same
    | dsimp only
    | split
    | intro _

theorem State.recordFirst_same {K B : Nat} {s0 : State} {s : State} (r : TandemRec)
    (hK : K &&& 8589951488 = 0) (hB : B ≤ 0xd000003) (hk : Same K B s0 s) :
    Same K B s0 (State.recordFirst s r) := by
  unfold State.recordFirst
  try dsimp only
  repeat' first
    | with_reducible assumption
    | with_reducible rfl
    | exact mask_sub hK rfl
    | exact le_objAt (Nat.le_trans hB (by decide))
    | exact Nat.le_trans hB (by decide)
    | exact Nat.le_trans hB (by split <;> decide)
    | with_reducible apply State.setFld_same
    | with_reducible apply State.setOn_same
    | with_reducible apply State.modTandem_same
    | with_reducible apply State.seatConflict_same
    | with_reducible apply State.takeoverInhibit_same
    | dsimp only
    | split
    | intro _

theorem State.recordTime_same {K B : Nat} {s0 : State} {s : State} (p : Nat) (r : TandemRec)
    (hK : K &&& 8589934592 = 0) (hk : Same K B s0 s) :
    Same K B s0 (State.recordTime s p r) := by
  unfold State.recordTime
  try dsimp only
  repeat' first
    | with_reducible assumption
    | with_reducible rfl
    | exact mask_sub hK rfl
    | with_reducible apply State.modTandem_same
    | with_reducible apply State.tandemSample_same
    | dsimp only
    | split
    | intro _

theorem State.recordGood_same {K B : Nat} {s0 : State} {s : State} (p : Nat) (r : TandemRec)
    (hK : K &&& 8589951488 = 0) (hB : B ≤ 0xd000003) (hk : Same K B s0 s) :
    Same K B s0 (State.recordGood s p r) := by
  unfold State.recordGood
  try dsimp only
  repeat' first
    | with_reducible assumption
    | with_reducible rfl
    | exact mask_sub hK rfl
    | exact le_objAt (Nat.le_trans hB (by decide))
    | exact Nat.le_trans hB (by decide)
    | exact Nat.le_trans hB (by split <;> decide)
    | with_reducible apply State.recordFirst_same
    | with_reducible apply State.recordTime_same
    | dsimp only
    | split
    | intro _

theorem State.recordLate_same {K B : Nat} {s0 : State} {s : State}
    (hK : K &&& 8589934592 = 0) (hk : Same K B s0 s) :
    Same K B s0 (State.recordLate s) := by
  unfold State.recordLate
  try dsimp only
  repeat' first
    | with_reducible assumption
    | with_reducible rfl
    | exact mask_sub hK rfl
    | with_reducible apply State.modTandem_same
    | with_reducible apply State.tandemSample_same
    | dsimp only
    | split
    | intro _

theorem State.tandemRecord_same {K B : Nat} {s0 : State} {s : State} (p : Nat) (r : TandemRec)
    (hK : K &&& 8589951488 = 0) (hB : B ≤ 0xd000003) (hk : Same K B s0 s) :
    Same K B s0 (State.tandemRecord s p r) := by
  unfold State.tandemRecord
  try dsimp only
  repeat' first
    | with_reducible assumption
    | with_reducible rfl
    | exact mask_sub hK rfl
    | exact le_objAt (Nat.le_trans hB (by decide))
    | exact Nat.le_trans hB (by decide)
    | exact Nat.le_trans hB (by split <;> decide)
    | with_reducible apply State.setOn_same
    | with_reducible apply State.bump_same
    | with_reducible apply State.recordGood_same
    | dsimp only
    | split
    | intro _

theorem State.recordLoss_same {K B : Nat} {s0 : State} {s : State}
    (hK : K &&& 512 = 0) (hB : B ≤ 0xd000003) (hk : Same K B s0 s) :
    Same K B s0 (State.recordLoss s) := by
  unfold State.recordLoss
  try dsimp only
  repeat' first
    | with_reducible assumption
    | with_reducible rfl
    | exact mask_sub hK rfl
    | exact le_objAt (Nat.le_trans hB (by decide))
    | exact Nat.le_trans hB (by decide)
    | exact Nat.le_trans hB (by split <;> decide)
    | with_reducible apply State.setOn_same
    | dsimp only
    | split
    | intro _

theorem State.resyncComplete_same {K B : Nat} {s0 : State} {s : State}
    (hK : K &&& 8589935104 = 0) (hB : B ≤ 0xd000003) (hk : Same K B s0 s) :
    Same K B s0 (State.resyncComplete s) := by
  unfold State.resyncComplete
  try dsimp only
  repeat' first
    | with_reducible assumption
    | with_reducible rfl
    | exact mask_sub hK rfl
    | exact le_objAt (Nat.le_trans hB (by decide))
    | exact Nat.le_trans hB (by decide)
    | exact Nat.le_trans hB (by split <;> decide)
    | with_reducible apply State.setOn_same
    | with_reducible apply State.bump_same
    | with_reducible apply State.modTandem_same
    | dsimp only
    | split
    | intro _

theorem State.copyBegin_same {K B : Nat} {s0 : State} {s : State}
    (hK : K &&& 8589934592 = 0) (hk : Same K B s0 s) :
    Same K B s0 (State.copyBegin s) := by
  unfold State.copyBegin
  try dsimp only
  repeat' first
    | with_reducible assumption
    | with_reducible rfl
    | exact mask_sub hK rfl
    | with_reducible apply State.modOut_same
    | dsimp only
    | split
    | intro _

theorem State.recordLeaves_same {K B : Nat} {s0 : State} {s : State} (r : TandemRec)
    (hK : K &&& 8590065664 = 0) (hk : Same K B s0 s) :
    Same K B s0 (State.recordLeaves s r) := by
  unfold State.recordLeaves
  try dsimp only
  repeat' first
    | with_reducible assumption
    | with_reducible rfl
    | exact mask_sub hK rfl
    | with_reducible apply State.modTandem_same
    | with_reducible apply Same.foldl
    | with_reducible apply Same.foldl_snd
    | with_reducible apply Same.foldl_fst
    | dsimp only
    | split
    | intro _
    | with_reducible apply Same.upd_txns

theorem State.sendRecord_same {K B : Nat} {s0 : State} {s : State}
    (hK : K &&& 8590065664 = 0) (hk : Same K B s0 s) :
    Same K B s0 (State.sendRecord s) := by
  unfold State.sendRecord
  try dsimp only
  repeat' first
    | with_reducible assumption
    | with_reducible rfl
    | exact mask_sub hK rfl
    | with_reducible apply State.copyBegin_same
    | with_reducible apply State.recordLeaves_same
    | dsimp only
    | split
    | intro _

theorem State.dualActive_same {K B : Nat} {s0 : State} {s : State}
    (hK : K &&& 8589951488 = 0) (hB : B ≤ 0xd000003) (hk : Same K B s0 s) :
    Same K B s0 (State.dualActive s) := by
  unfold State.dualActive
  try dsimp only
  repeat' first
    | with_reducible assumption
    | with_reducible rfl
    | exact mask_sub hK rfl
    | exact le_objAt (Nat.le_trans hB (by decide))
    | exact Nat.le_trans hB (by decide)
    | exact Nat.le_trans hB (by split <;> decide)
    | with_reducible apply State.raise_same
    | with_reducible apply State.becomeStandby_same
    | dsimp only
    | split
    | intro _

theorem State.modeMismatch_same {K B : Nat} {s0 : State} {s : State}
    (hK : K &&& 16896 = 0) (hB : B ≤ 0xd000003) (hk : Same K B s0 s) :
    Same K B s0 (State.modeMismatch s) := by
  unfold State.modeMismatch
  try dsimp only
  repeat' first
    | with_reducible assumption
    | with_reducible rfl
    | exact mask_sub hK rfl
    | exact le_objAt (Nat.le_trans hB (by decide))
    | exact Nat.le_trans hB (by decide)
    | exact Nat.le_trans hB (by split <;> decide)
    | with_reducible apply State.setOn_same
    | with_reducible apply State.raiseIf_same
    | dsimp only
    | split
    | intro _

theorem State.recordMissing_same {K B : Nat} {s0 : State} {s : State}
    (hK : K &&& 8589951488 = 0) (hB : B ≤ 0xd000003) (hk : Same K B s0 s) :
    Same K B s0 (State.recordMissing s) := by
  unfold State.recordMissing
  try dsimp only
  repeat' first
    | with_reducible assumption
    | with_reducible rfl
    | exact mask_sub hK rfl
    | exact le_objAt (Nat.le_trans hB (by decide))
    | exact Nat.le_trans hB (by decide)
    | exact Nat.le_trans hB (by split <;> decide)
    | with_reducible apply State.setOn_same
    | with_reducible apply State.bump_same
    | with_reducible apply State.raise_same
    | with_reducible apply State.modTandem_same
    | dsimp only
    | split
    | intro _

theorem State.tandemReady_same {K B : Nat} {s0 : State} {s : State}
    (hK : K &&& 8589935104 = 0) (hB : B ≤ 0xd000003) (hk : Same K B s0 s) :
    Same K B s0 (State.tandemReady s) := by
  unfold State.tandemReady
  try dsimp only
  repeat' first
    | with_reducible assumption
    | with_reducible rfl
    | exact mask_sub hK rfl
    | exact le_objAt (Nat.le_trans hB (by decide))
    | exact Nat.le_trans hB (by decide)
    | exact Nat.le_trans hB (by split <;> decide)
    | with_reducible apply State.setOn_same
    | with_reducible apply State.modTandem_same
    | dsimp only
    | split
    | intro _

end Sys2Proof.Machine
end

