-- ==== Sys2Proof/Laws/SameGallery.lean ====
section
/-! SUPPORT. What the operations of Machine/Gallery.lean leave (Same). -/

namespace Sys2Proof.Machine

theorem State.modGallery_same {K B : Nat} {s0 : State} {s : State} (f : Gallery → Gallery)
    (hK : K &&& 17179869184 = 0) (hk : Same K B s0 s) :
    Same K B s0 (State.modGallery s f) := by
  unfold State.modGallery
  try dsimp only
  repeat' first
    | with_reducible assumption
    | with_reducible rfl
    | exact mask_sub hK rfl
    | dsimp only
    | split
    | intro _
    | with_reducible apply Same.upd_gallery

theorem State.rootConflict_same {K B : Nat} {s0 : State} {s : State} (roots : List Nat)
    (hK : K &&& 16896 = 0) (hB : B ≤ 0xe000010) (hk : Same K B s0 s) :
    Same K B s0 (State.rootConflict s roots) := by
  unfold State.rootConflict
  try dsimp only
  repeat' first
    | with_reducible assumption
    | with_reducible rfl
    | exact mask_sub hK rfl
    | exact le_objAt (Nat.le_trans hB (by decide))
    | exact Nat.le_trans hB (by decide)
    | exact Nat.le_trans hB (by split <;> decide)
    | with_reducible apply State.setOn_same
    | with_reducible apply State.raiseIf_same
    | dsimp only
    | split
    | intro _

theorem State.announce_same {K B : Nat} {s0 : State} {s : State}
    (hK : K &&& 17179869184 = 0) (hk : Same K B s0 s) :
    Same K B s0 (State.announce s) := by
  unfold State.announce
  try dsimp only
  repeat' first
    | with_reducible assumption
    | with_reducible rfl
    | exact mask_sub hK rfl
    | with_reducible apply State.modGallery_same
    | dsimp only
    | split
    | intro _

theorem State.setEpoch_same {K B : Nat} {s0 : State} {s : State} (e : Nat)
    (hK : K &&& 16896 = 0) (hB : B ≤ 0xe000011) (hk : Same K B s0 s) :
    Same K B s0 (State.setEpoch s e) := by
  unfold State.setEpoch
  try dsimp only
  repeat' first
    | with_reducible assumption
    | with_reducible rfl
    | exact mask_sub hK rfl
    | exact le_objAt (Nat.le_trans hB (by decide))
    | exact Nat.le_trans hB (by decide)
    | exact Nat.le_trans hB (by split <;> decide)
    | with_reducible apply State.setFld_same
    | with_reducible apply State.raise_same
    | dsimp only
    | split
    | intro _

theorem State.noteOwn_same {K B : Nat} {s0 : State} {s : State}
    (hK : K &&& 17179869184 = 0) (hk : Same K B s0 s) :
    Same K B s0 (State.noteOwn s) := by
  unfold State.noteOwn
  try dsimp only
  repeat' first
    | with_reducible assumption
    | with_reducible rfl
    | exact mask_sub hK rfl
    | with_reducible apply State.modGallery_same
    | dsimp only
    | split
    | intro _

theorem State.setRoot_same {K B : Nat} {s0 : State} {s : State} (k : Nat)
    (hK : K &&& 17179886080 = 0) (hB : B ≤ 0xe000010) (hk : Same K B s0 s) :
    Same K B s0 (State.setRoot s k) := by
  unfold State.setRoot
  try dsimp only
  repeat' first
    | with_reducible assumption
    | with_reducible rfl
    | exact mask_sub hK rfl
    | exact le_objAt (Nat.le_trans hB (by decide))
    | exact Nat.le_trans hB (by decide)
    | exact Nat.le_trans hB (by split <;> decide)
    | with_reducible apply State.setFld_same
    | with_reducible apply State.setOn_same
    | with_reducible apply State.raise_same
    | with_reducible apply State.modGallery_same
    | with_reducible apply State.announce_same
    | dsimp only
    | split
    | intro _

theorem State.showPresent_same {K B : Nat} {s0 : State} {s : State}
    (hK : K &&& 17179886080 = 0) (hB : B ≤ 0xe000010) (hk : Same K B s0 s) :
    Same K B s0 (State.showPresent s) := by
  unfold State.showPresent
  try dsimp only
  repeat' first
    | with_reducible assumption
    | with_reducible rfl
    | exact mask_sub hK rfl
    | exact le_objAt (Nat.le_trans hB (by decide))
    | exact Nat.le_trans hB (by decide)
    | exact Nat.le_trans hB (by split <;> decide)
    | with_reducible apply State.setFld_same
    | with_reducible apply State.rootConflict_same
    | with_reducible apply State.setRoot_same
    | dsimp only
    | split
    | intro _

theorem State.galleryStart_same {K B : Nat} {s0 : State} {s : State}
    (hK : K &&& 17179886080 = 0) (hB : B ≤ 0xe000010) (hk : Same K B s0 s) :
    Same K B s0 (State.galleryStart s) := by
  unfold State.galleryStart
  try dsimp only
  repeat' first
    | with_reducible assumption
    | with_reducible rfl
    | exact mask_sub hK rfl
    | exact le_objAt (Nat.le_trans hB (by decide))
    | exact Nat.le_trans hB (by decide)
    | exact Nat.le_trans hB (by split <;> decide)
    | with_reducible apply State.setFld_same
    | with_reducible apply State.showPresent_same
    | dsimp only
    | split
    | intro _
    | with_reducible apply Same.upd_gallery

theorem State.galleryStop_same {K B : Nat} {s0 : State} {s : State}
    (hK : K &&& 17179869696 = 0) (hB : B ≤ 0xe000010) (hk : Same K B s0 s) :
    Same K B s0 (State.galleryStop s) := by
  unfold State.galleryStop
  try dsimp only
  repeat' first
    | with_reducible assumption
    | with_reducible rfl
    | exact mask_sub hK rfl
    | exact le_objAt (Nat.le_trans hB (by decide))
    | exact Nat.le_trans hB (by decide)
    | exact Nat.le_trans hB (by split <;> decide)
    | with_reducible apply State.setVal_same
    | with_reducible apply State.setFld_same
    | dsimp only
    | split
    | intro _
    | with_reducible apply Same.upd_gallery

theorem State.showService_same {K B : Nat} {s0 : State} {s : State} (p : Nat)
    (hK : K &&& 512 = 0) (hB : B ≤ 0xe000010) (hk : Same K B s0 s) :
    Same K B s0 (State.showService s p) := by
  unfold State.showService
  try dsimp only
  repeat' first
    | with_reducible assumption
    | with_reducible rfl
    | exact mask_sub hK rfl
    | exact le_objAt (Nat.le_trans hB (by decide))
    | exact Nat.le_trans hB (by decide)
    | exact Nat.le_trans hB (by split <;> decide)
    | with_reducible apply State.setOn_same
    | dsimp only
    | split
    | intro _

theorem State.ringHead_same {K B : Nat} {s0 : State} {s : State} (p : Nat) (h : RingHead)
    (hK : K &&& 17314103808 = 0) (hB : B ≤ 0xa000030) (hk : Same K B s0 s) :
    Same K B s0 (State.ringHead s p h) := by
  unfold State.ringHead
  try dsimp only
  repeat' first
    | with_reducible assumption
    | with_reducible rfl
    | exact mask_sub hK rfl
    | exact le_objAt (Nat.le_trans hB (by decide))
    | exact Nat.le_trans hB (by decide)
    | exact Nat.le_trans hB (by split <;> decide)
    | with_reducible apply State.bump_same
    | with_reducible apply State.setRingPort_same
    | with_reducible apply State.candWatch_same
    | with_reducible apply State.showService_same
    | dsimp only
    | split
    | intro _

theorem State.useMsg_same {K B : Nat} {s0 : State} {s : State} (p : Nat) (f : Nat) (m : RingMsg)
    (hK : K &&& 17179869184 = 0) (hk : Same K B s0 s) :
    Same K B s0 (State.useMsg s p f m) := by
  unfold State.useMsg
  try dsimp only
  repeat' first
    | with_reducible assumption
    | with_reducible rfl
    | exact mask_sub hK rfl
    | with_reducible apply State.modGallery_same
    | dsimp only
    | split
    | intro _

theorem State.rootMsg_same {K B : Nat} {s0 : State} {s : State} (m : RingMsg)
    (hK : K &&& 17179869696 = 0) (hB : B ≤ 0xe000010) (hk : Same K B s0 s) :
    Same K B s0 (State.rootMsg s m) := by
  unfold State.rootMsg
  try dsimp only
  repeat' first
    | with_reducible assumption
    | with_reducible rfl
    | exact mask_sub hK rfl
    | exact le_objAt (Nat.le_trans hB (by decide))
    | exact Nat.le_trans hB (by decide)
    | exact Nat.le_trans hB (by split <;> decide)
    | with_reducible apply State.setFld_same
    | with_reducible apply State.modGallery_same
    | dsimp only
    | split
    | intro _

theorem State.joinMsg_same {K B : Nat} {s0 : State} {s : State} (m : RingMsg)
    (hK : K &&& 17179869696 = 0) (hB : B ≤ 0xe000012) (hk : Same K B s0 s) :
    Same K B s0 (State.joinMsg s m) := by
  unfold State.joinMsg
  try dsimp only
  repeat' first
    | with_reducible assumption
    | with_reducible rfl
    | exact mask_sub hK rfl
    | exact le_objAt (Nat.le_trans hB (by decide))
    | exact Nat.le_trans hB (by decide)
    | exact Nat.le_trans hB (by split <;> decide)
    | with_reducible apply State.setFld_same
    | with_reducible apply State.announce_same
    | dsimp only
    | split
    | intro _

theorem State.seatInUse_same {K B : Nat} {s0 : State} {s : State} (m : RingMsg)
    (hK : K &&& 16896 = 0) (hB : B ≤ 0xe000010) (hk : Same K B s0 s) :
    Same K B s0 (State.seatInUse s m) := by
  unfold State.seatInUse
  try dsimp only
  repeat' first
    | with_reducible assumption
    | with_reducible rfl
    | exact mask_sub hK rfl
    | exact le_objAt (Nat.le_trans hB (by decide))
    | exact Nat.le_trans hB (by decide)
    | exact Nat.le_trans hB (by split <;> decide)
    | with_reducible apply State.setOn_same
    | with_reducible apply State.raiseIf_same
    | dsimp only
    | split
    | intro _

theorem State.ringMsg_same {K B : Nat} {s0 : State} {s : State} (p : Nat) (m : RingMsg)
    (hK : K &&& 17179886080 = 0) (hB : B ≤ 0xe000010) (hk : Same K B s0 s) :
    Same K B s0 (State.ringMsg s p m) := by
  unfold State.ringMsg
  try dsimp only
  repeat' first
    | with_reducible assumption
    | with_reducible rfl
    | exact mask_sub hK rfl
    | exact le_objAt (Nat.le_trans hB (by decide))
    | exact Nat.le_trans hB (by decide)
    | exact Nat.le_trans hB (by split <;> decide)
    | with_reducible apply State.bump_same
    | with_reducible apply State.showPresent_same
    | with_reducible apply State.useMsg_same
    | with_reducible apply State.rootMsg_same
    | with_reducible apply State.joinMsg_same
    | with_reducible apply State.seatInUse_same
    | dsimp only
    | split
    | intro _

theorem State.headSend_same {K B : Nat} {s0 : State} {s : State}
    (hK : K &&& 17179869184 = 0) (hk : Same K B s0 s) :
    Same K B s0 (State.headSend s) := by
  unfold State.headSend
  try dsimp only
  repeat' first
    | with_reducible assumption
    | with_reducible rfl
    | exact mask_sub hK rfl
    | with_reducible apply State.setRingPort_same
    | with_reducible apply State.modGallery_same
    | dsimp only
    | split
    | intro _

theorem State.windowSend_same {K B : Nat} {s0 : State} {s : State} (w : Nat)
    (hK : K &&& 17179869184 = 0) (hk : Same K B s0 s) :
    Same K B s0 (State.windowSend s w) := by
  unfold State.windowSend
  try dsimp only
  repeat' first
    | with_reducible assumption
    | with_reducible rfl
    | exact mask_sub hK rfl
    | with_reducible apply State.modGallery_same
    | dsimp only
    | split
    | intro _

theorem State.seatAbsent_same {K B : Nat} {s0 : State} {s : State} (k : Nat)
    (hK : K &&& 17179886080 = 0) (hB : B ≤ 0xe000010) (hk : Same K B s0 s) :
    Same K B s0 (State.seatAbsent s k) := by
  unfold State.seatAbsent
  try dsimp only
  repeat' first
    | with_reducible assumption
    | with_reducible rfl
    | exact mask_sub hK rfl
    | exact le_objAt (Nat.le_trans hB (by decide))
    | exact Nat.le_trans hB (by decide)
    | exact Nat.le_trans hB (by split <;> decide)
    | with_reducible apply State.showPresent_same
    | dsimp only
    | split
    | intro _

theorem State.rosterRemove_same {K B : Nat} {s0 : State} {s : State} (k : Nat)
    (hK : K &&& 17179869696 = 0) (hB : B ≤ 0xe000012) (hk : Same K B s0 s) :
    Same K B s0 (State.rosterRemove s k) := by
  unfold State.rosterRemove
  try dsimp only
  repeat' first
    | with_reducible assumption
    | with_reducible rfl
    | exact mask_sub hK rfl
    | exact le_objAt (Nat.le_trans hB (by decide))
    | exact Nat.le_trans hB (by decide)
    | exact Nat.le_trans hB (by split <;> decide)
    | with_reducible apply State.setFld_same
    | with_reducible apply State.announce_same
    | dsimp only
    | split
    | intro _

theorem State.epochAdopt_same {K B : Nat} {s0 : State} {s : State}
    (hK : K &&& 17179886080 = 0) (hB : B ≤ 0xe000010) (hk : Same K B s0 s) :
    Same K B s0 (State.epochAdopt s) := by
  unfold State.epochAdopt
  try dsimp only
  repeat' first
    | with_reducible assumption
    | with_reducible rfl
    | exact mask_sub hK rfl
    | exact le_objAt (Nat.le_trans hB (by decide))
    | exact Nat.le_trans hB (by decide)
    | exact Nat.le_trans hB (by split <;> decide)
    | with_reducible apply State.setFld_same
    | with_reducible apply State.modGallery_same
    | with_reducible apply State.setEpoch_same
    | with_reducible apply State.noteOwn_same
    | dsimp only
    | split
    | intro _

theorem State.gxDecide_same {K B : Nat} {s0 : State} {s : State}
    (hK : K &&& 17179869184 = 0) (hk : Same K B s0 s) :
    Same K B s0 (State.gxDecide s) := by
  unfold State.gxDecide
  try dsimp only
  repeat' first
    | with_reducible assumption
    | with_reducible rfl
    | exact mask_sub hK rfl
    | with_reducible apply State.modGallery_same
    | dsimp only
    | split
    | intro _

theorem State.gxCatchup_same {K B : Nat} {s0 : State} {s : State}
    (hK : K &&& 17179869184 = 0) (hk : Same K B s0 s) :
    Same K B s0 (State.gxCatchup s) := by
  unfold State.gxCatchup
  try dsimp only
  repeat' first
    | with_reducible assumption
    | with_reducible rfl
    | exact mask_sub hK rfl
    | with_reducible apply State.modGallery_same
    | dsimp only
    | split
    | intro _

theorem State.gxDiscard_same {K B : Nat} {s0 : State} {s : State}
    (hK : K &&& 17180008960 = 0) (hB : B ≤ 0xe000022) (hk : Same K B s0 s) :
    Same K B s0 (State.gxDiscard s) := by
  unfold State.gxDiscard
  try dsimp only
  repeat' first
    | with_reducible assumption
    | with_reducible rfl
    | exact mask_sub hK rfl
    | exact le_objAt (Nat.le_trans hB (by decide))
    | exact Nat.le_trans hB (by decide)
    | exact Nat.le_trans hB (by split <;> decide)
    | with_reducible apply State.discardHeld_same
    | with_reducible apply State.freeStage_same
    | with_reducible apply State.modGallery_same
    | dsimp only
    | split
    | intro _

theorem State.mute_same {K B : Nat} {s0 : State} {s : State}
    (hK : K &&& 17179886080 = 0) (hB : B ≤ 0xe000010) (hk : Same K B s0 s) :
    Same K B s0 (State.mute s) := by
  unfold State.mute
  try dsimp only
  repeat' first
    | with_reducible assumption
    | with_reducible rfl
    | exact mask_sub hK rfl
    | exact le_objAt (Nat.le_trans hB (by decide))
    | exact Nat.le_trans hB (by decide)
    | exact Nat.le_trans hB (by split <;> decide)
    | with_reducible apply State.setOn_same
    | with_reducible apply State.bump_same
    | with_reducible apply State.raise_same
    | with_reducible apply State.modGallery_same
    | dsimp only
    | split
    | intro _

theorem State.galleryTime_same {K B : Nat} {s0 : State} {s : State}
    (hK : K &&& 17179886080 = 0) (hB : B ≤ 0xe000010) (hk : Same K B s0 s) :
    Same K B s0 (State.galleryTime s) := by
  unfold State.galleryTime
  try dsimp only
  repeat' first
    | with_reducible assumption
    | with_reducible rfl
    | exact mask_sub hK rfl
    | exact le_objAt (Nat.le_trans hB (by decide))
    | exact Nat.le_trans hB (by decide)
    | exact Nat.le_trans hB (by split <;> decide)
    | with_reducible apply State.setFld_same
    | with_reducible apply State.modGallery_same
    | with_reducible apply State.mute_same
    | dsimp only
    | split
    | intro _

theorem State.timeErrorLost_same {K B : Nat} {s0 : State} {s : State}
    (hK : K &&& 17179886080 = 0) (hB : B ≤ 0xe000010) (hk : Same K B s0 s) :
    Same K B s0 (State.timeErrorLost s) := by
  unfold State.timeErrorLost
  try dsimp only
  repeat' first
    | with_reducible assumption
    | with_reducible rfl
    | exact mask_sub hK rfl
    | exact le_objAt (Nat.le_trans hB (by decide))
    | exact Nat.le_trans hB (by decide)
    | exact Nat.le_trans hB (by split <;> decide)
    | with_reducible apply State.setFld_same
    | with_reducible apply State.mute_same
    | dsimp only
    | split
    | intro _

theorem State.unmute_same {K B : Nat} {s0 : State} {s : State}
    (hK : K &&& 17179886080 = 0) (hB : B ≤ 0xe000010) (hk : Same K B s0 s) :
    Same K B s0 (State.unmute s) := by
  unfold State.unmute
  try dsimp only
  repeat' first
    | with_reducible assumption
    | with_reducible rfl
    | exact mask_sub hK rfl
    | exact le_objAt (Nat.le_trans hB (by decide))
    | exact Nat.le_trans hB (by decide)
    | exact Nat.le_trans hB (by split <;> decide)
    | with_reducible apply State.setOn_same
    | with_reducible apply State.modGallery_same
    | with_reducible apply State.showPresent_same
    | dsimp only
    | split
    | intro _

theorem State.ringRelearn_same {K B : Nat} {s0 : State} {s : State}
    (hK : K &&& 17179869184 = 0) (hk : Same K B s0 s) :
    Same K B s0 (State.ringRelearn s) := by
  unfold State.ringRelearn
  try dsimp only
  repeat' first
    | with_reducible assumption
    | with_reducible rfl
    | exact mask_sub hK rfl
    | with_reducible apply State.modGallery_same
    | dsimp only
    | split
    | intro _

theorem State.quarantine_same {K B : Nat} {s0 : State} {s : State} (f : Fld)
    (hK : K &&& 17179886080 = 0) (hB : B ≤ 0xe000010) (hB0 : B ≤ f.base) (hk : Same K B s0 s) :
    Same K B s0 (State.quarantine s f) := by
  unfold State.quarantine
  try dsimp only
  repeat' first
    | with_reducible assumption
    | with_reducible rfl
    | exact mask_sub hK rfl
    | exact le_objAt (Nat.le_trans hB (by decide))
    | exact Nat.le_trans hB (by decide)
    | exact Nat.le_trans hB (by split <;> decide)
    | exact le_objAt hB0
    | with_reducible apply State.setOn_same
    | with_reducible apply State.bump_same
    | with_reducible apply State.raise_same
    | with_reducible apply State.modGallery_same
    | dsimp only
    | split
    | intro _

theorem State.compareMsg_same {K B : Nat} {s0 : State} {s : State} (m : RingMsg)
    (hK : K &&& 17179886080 = 0) (hB : B ≤ 0xe000010) (hk : Same K B s0 s) :
    Same K B s0 (State.compareMsg s m) := by
  unfold State.compareMsg
  try dsimp only
  repeat' first
    | with_reducible assumption
    | with_reducible rfl
    | exact mask_sub hK rfl
    | exact le_objAt (Nat.le_trans hB (by decide))
    | exact Nat.le_trans hB (by decide)
    | exact Nat.le_trans hB (by split <;> decide)
    | with_reducible apply State.setOn_same
    | with_reducible apply State.modGallery_same
    | with_reducible apply State.setEpoch_same
    | with_reducible apply State.quarantine_same
    | dsimp only
    | split
    | intro _

theorem State.compareAll_same {K B : Nat} {s0 : State} {s : State}
    (hK : K &&& 17179886080 = 0) (hB : B ≤ 0xe000010) (hk : Same K B s0 s) :
    Same K B s0 (State.compareAll s) := by
  unfold State.compareAll
  try dsimp only
  repeat' first
    | with_reducible assumption
    | with_reducible rfl
    | exact mask_sub hK rfl
    | exact le_objAt (Nat.le_trans hB (by decide))
    | exact Nat.le_trans hB (by decide)
    | exact Nat.le_trans hB (by split <;> decide)
    | with_reducible apply State.modGallery_same
    | with_reducible apply State.compareMsg_same
    | with_reducible apply Same.foldl
    | with_reducible apply Same.foldl_snd
    | with_reducible apply Same.foldl_fst
    | dsimp only
    | split
    | intro _

theorem State.galleryBoundary_same {K B : Nat} {s0 : State} {s : State}
    (hK : K &&& 17179886080 = 0) (hB : B ≤ 0xe000010) (hk : Same K B s0 s) :
    Same K B s0 (State.galleryBoundary s) := by
  unfold State.galleryBoundary
  try dsimp only
  repeat' first
    | with_reducible assumption
    | with_reducible rfl
    | exact mask_sub hK rfl
    | exact le_objAt (Nat.le_trans hB (by decide))
    | exact Nat.le_trans hB (by decide)
    | exact Nat.le_trans hB (by split <;> decide)
    | with_reducible apply State.modGallery_same
    | with_reducible apply State.noteOwn_same
    | with_reducible apply State.showPresent_same
    | with_reducible apply State.showService_same
    | with_reducible apply State.galleryTime_same
    | with_reducible apply State.compareAll_same
    | dsimp only
    | split
    | intro _

end Sys2Proof.Machine
end

