-- ==== Sys2Proof/Laws/SameMac.lean ====
section
/-! SUPPORT. What the operations of Machine/Mac.lean leave (Same). -/

namespace Sys2Proof.Machine

theorem State.modMac_same {K B : Nat} {s0 : State} {s : State} (m : Nat) (f : Mac → Mac)
    (hK : K &&& 2199023255552 = 0) (hk : Same K B s0 s) :
    Same K B s0 (State.modMac s m f) := by
  unfold State.modMac
  try dsimp only
  repeat' first
    | with_reducible assumption
    | with_reducible rfl
    | exact mask_sub hK rfl
    | with_reducible apply State.setMac_same
    | dsimp only
    | split
    | intro _

theorem State.dropQueues_same {K B : Nat} {s0 : State} {s : State} (m : Nat)
    (hK : K &&& 2199023273472 = 0) (hB : B ≤ 0x11f00020) (hk : Same K B s0 s) :
    Same K B s0 (State.dropQueues s m) := by
  unfold State.dropQueues
  try dsimp only
  repeat' first
    | with_reducible assumption
    | with_reducible rfl
    | exact mask_sub hK rfl
    | exact le_objAt (Nat.le_trans hB (by decide))
    | exact Nat.le_trans hB (by decide)
    | exact Nat.le_trans hB (by split <;> decide)
    | with_reducible apply State.macCount_same
    | with_reducible apply State.modMac_same
    | with_reducible apply Same.foldl
    | with_reducible apply Same.foldl_snd
    | with_reducible apply Same.foldl_fst
    | dsimp only
    | split
    | intro _

theorem State.linkFall_same {K B : Nat} {s0 : State} {s : State} (m : Nat)
    (hK : K &&& 2199023273472 = 0) (hB : B ≤ 0x11f00020) (hk : Same K B s0 s) :
    Same K B s0 (State.linkFall s m) := by
  unfold State.linkFall
  try dsimp only
  repeat' first
    | with_reducible assumption
    | with_reducible rfl
    | exact mask_sub hK rfl
    | exact le_objAt (Nat.le_trans hB (by decide))
    | exact Nat.le_trans hB (by decide)
    | exact Nat.le_trans hB (by split <;> decide)
    | with_reducible apply State.setOn_same
    | with_reducible apply State.raise_same
    | with_reducible apply State.macCount_same
    | with_reducible apply State.dropQueues_same
    | dsimp only
    | split
    | intro _

theorem State.macRestart_same {K B : Nat} {s0 : State} {s : State} (m : Nat)
    (hK : K &&& 2199023273472 = 0) (hB : B ≤ 0x11f00020) (hk : Same K B s0 s) :
    Same K B s0 (State.macRestart s m) := by
  unfold State.macRestart
  try dsimp only
  repeat' first
    | with_reducible assumption
    | with_reducible rfl
    | exact mask_sub hK rfl
    | exact le_objAt (Nat.le_trans hB (by decide))
    | exact Nat.le_trans hB (by decide)
    | exact Nat.le_trans hB (by split <;> decide)
    | with_reducible apply State.dropQueues_same
    | with_reducible apply State.linkFall_same
    | dsimp only
    | split
    | intro _

theorem State.linkRise_same {K B : Nat} {s0 : State} {s : State} (m : Nat) (speed : Nat)
    (hK : K &&& 512 = 0) (hB : B ≤ 0x12000001) (hk : Same K B s0 s) :
    Same K B s0 (State.linkRise s m speed) := by
  unfold State.linkRise
  try dsimp only
  repeat' first
    | with_reducible assumption
    | with_reducible rfl
    | exact mask_sub hK rfl
    | exact le_objAt (Nat.le_trans hB (by decide))
    | exact Nat.le_trans hB (by decide)
    | exact Nat.le_trans hB (by split <;> decide)
    | with_reducible apply State.setFld_same
    | with_reducible apply State.setOn_same
    | dsimp only
    | split
    | intro _

theorem State.resumeTx_same {K B : Nat} {s0 : State} {s : State} (m : Nat)
    (hK : K &&& 2199023256064 = 0) (hB : B ≤ 0x12000001) (hk : Same K B s0 s) :
    Same K B s0 (State.resumeTx s m) := by
  unfold State.resumeTx
  try dsimp only
  repeat' first
    | with_reducible assumption
    | with_reducible rfl
    | exact mask_sub hK rfl
    | exact le_objAt (Nat.le_trans hB (by decide))
    | exact Nat.le_trans hB (by decide)
    | exact Nat.le_trans hB (by split <;> decide)
    | with_reducible apply State.setOn_same
    | with_reducible apply State.modMac_same
    | dsimp only
    | split
    | intro _

theorem State.pauseExpire_same {K B : Nat} {s0 : State} {s : State} (m : Nat)
    (hK : K &&& 2199023256064 = 0) (hB : B ≤ 0x12000001) (hk : Same K B s0 s) :
    Same K B s0 (State.pauseExpire s m) := by
  unfold State.pauseExpire
  try dsimp only
  repeat' first
    | with_reducible assumption
    | with_reducible rfl
    | exact mask_sub hK rfl
    | exact le_objAt (Nat.le_trans hB (by decide))
    | exact Nat.le_trans hB (by decide)
    | exact Nat.le_trans hB (by split <;> decide)
    | with_reducible apply State.resumeTx_same
    | dsimp only
    | split
    | intro _

theorem State.pauseAnew_same {K B : Nat} {s0 : State} {s : State} (m : Nat) (quanta : Nat)
    (hK : K &&& 2199023256064 = 0) (hB : B ≤ 0x12000001) (hk : Same K B s0 s) :
    Same K B s0 (State.pauseAnew s m quanta) := by
  unfold State.pauseAnew
  try dsimp only
  repeat' first
    | with_reducible assumption
    | with_reducible rfl
    | exact mask_sub hK rfl
    | exact le_objAt (Nat.le_trans hB (by decide))
    | exact Nat.le_trans hB (by decide)
    | exact Nat.le_trans hB (by split <;> decide)
    | with_reducible apply State.setOn_same
    | with_reducible apply State.setMac_same
    | with_reducible apply State.modMac_same
    | with_reducible apply State.resumeTx_same
    | dsimp only
    | split
    | intro _

theorem State.pauseFrame_same {K B : Nat} {s0 : State} {s : State} (m : Nat) (quanta : Nat)
    (hK : K &&& 2199023256064 = 0) (hB : B ≤ 0x12000001) (hk : Same K B s0 s) :
    Same K B s0 (State.pauseFrame s m quanta) := by
  unfold State.pauseFrame
  try dsimp only
  repeat' first
    | with_reducible assumption
    | with_reducible rfl
    | exact mask_sub hK rfl
    | exact le_objAt (Nat.le_trans hB (by decide))
    | exact Nat.le_trans hB (by decide)
    | exact Nat.le_trans hB (by split <;> decide)
    | with_reducible apply State.pauseExpire_same
    | with_reducible apply State.pauseAnew_same
    | dsimp only
    | split
    | intro _

theorem State.pauseWd_same {K B : Nat} {s0 : State} {s : State} (m : Nat)
    (hK : K &&& 2199023273472 = 0) (hB : B ≤ 0x11f00020) (hk : Same K B s0 s) :
    Same K B s0 (State.pauseWd s m) := by
  unfold State.pauseWd
  try dsimp only
  repeat' first
    | with_reducible assumption
    | with_reducible rfl
    | exact mask_sub hK rfl
    | exact le_objAt (Nat.le_trans hB (by decide))
    | exact Nat.le_trans hB (by decide)
    | exact Nat.le_trans hB (by split <;> decide)
    | with_reducible apply State.setOn_same
    | with_reducible apply State.raise_same
    | with_reducible apply State.macCount_same
    | with_reducible apply State.resumeTx_same
    | dsimp only
    | split
    | intro _

theorem State.pauseClear_same {K B : Nat} {s0 : State} {s : State} (m : Nat)
    (hK : K &&& 512 = 0) (hB : B ≤ 0x12000001) (hk : Same K B s0 s) :
    Same K B s0 (State.pauseClear s m) := by
  unfold State.pauseClear
  try dsimp only
  repeat' first
    | with_reducible assumption
    | with_reducible rfl
    | exact mask_sub hK rfl
    | exact le_objAt (Nat.le_trans hB (by decide))
    | exact Nat.le_trans hB (by decide)
    | exact Nat.le_trans hB (by split <;> decide)
    | with_reducible apply State.setOn_same
    | dsimp only
    | split
    | intro _

theorem State.pauseCheck_same {K B : Nat} {s0 : State} {s : State} (m : Nat)
    (hK : K &&& 2199023255552 = 0) (hk : Same K B s0 s) :
    Same K B s0 (State.pauseCheck s m) := by
  unfold State.pauseCheck
  try dsimp only
  repeat' first
    | with_reducible assumption
    | with_reducible rfl
    | exact mask_sub hK rfl
    | with_reducible apply State.setMac_same
    | dsimp only
    | split
    | intro _

theorem State.pauseAgain_same {K B : Nat} {s0 : State} {s : State} (m : Nat)
    (hK : K &&& 2199023255552 = 0) (hk : Same K B s0 s) :
    Same K B s0 (State.pauseAgain s m) := by
  unfold State.pauseAgain
  try dsimp only
  repeat' first
    | with_reducible assumption
    | with_reducible rfl
    | exact mask_sub hK rfl
    | with_reducible apply State.setMac_same
    | dsimp only
    | split
    | intro _

theorem State.sendNext_same {K B : Nat} {s0 : State} {s : State} (m : Nat)
    (hK : K &&& 2199023273472 = 0) (hB : B ≤ 0x11f00020) (hk : Same K B s0 s) :
    Same K B s0 (State.sendNext s m) := by
  unfold State.sendNext
  try dsimp only
  repeat' first
    | with_reducible assumption
    | with_reducible rfl
    | exact mask_sub hK rfl
    | exact le_objAt (Nat.le_trans hB (by decide))
    | exact Nat.le_trans hB (by decide)
    | exact Nat.le_trans hB (by split <;> decide)
    | with_reducible apply State.setMac_same
    | with_reducible apply State.macCount_same
    | dsimp only
    | split
    | intro _

theorem State.transmit_same {K B : Nat} {s0 : State} {s : State} (m : Nat)
    (hK : K &&& 2199023273472 = 0) (hB : B ≤ 0x11f00020) (hk : Same K B s0 s) :
    Same K B s0 (State.transmit s m) := by
  unfold State.transmit
  try dsimp only
  repeat' first
    | with_reducible assumption
    | with_reducible rfl
    | exact mask_sub hK rfl
    | exact le_objAt (Nat.le_trans hB (by decide))
    | exact Nat.le_trans hB (by decide)
    | exact Nat.le_trans hB (by split <;> decide)
    | with_reducible apply State.pauseExpire_same
    | with_reducible apply State.sendNext_same
    | dsimp only
    | split
    | intro _

theorem State.macTake_same {K B : Nat} {s0 : State} {s : State} (m : Nat) (f : EthFrame)
    (hK : K &&& 2199023273472 = 0) (hB : B ≤ 0x11f00020) (hk : Same K B s0 s) :
    Same K B s0 (State.macTake s m f) := by
  unfold State.macTake
  try dsimp only
  repeat' first
    | with_reducible assumption
    | with_reducible rfl
    | exact mask_sub hK rfl
    | exact le_objAt (Nat.le_trans hB (by decide))
    | exact Nat.le_trans hB (by decide)
    | exact Nat.le_trans hB (by split <;> decide)
    | with_reducible apply State.macCount_same
    | with_reducible apply State.modMac_same
    | with_reducible apply State.pauseFrame_same
    | with_reducible apply State.pauseCheck_same
    | dsimp only
    | split
    | intro _

end Sys2Proof.Machine
end

