-- ==== Sys2Proof/Laws/SameSessions.lean ====
section
/-! SUPPORT. What the operations of Machine/Sessions.lean leave (Same). -/

namespace Sys2Proof.Machine

theorem State.endSession_same {K B : Nat} {s0 : State} {s : State} (n : Nat)
    (hK : K &&& 3858944 = 0) (hB : B ≤ 0xe000022) (hk : Same K B s0 s) :
    Same K B s0 (State.endSession s n) := by
  unfold State.endSession
  try dsimp only
  repeat' first
    | with_reducible assumption
    | with_reducible rfl
    | exact mask_sub hK rfl
    | exact le_objAt (Nat.le_trans hB (by decide))
    | exact Nat.le_trans hB (by decide)
    | exact Nat.le_trans hB (by split <;> decide)
    | with_reducible apply State.abandonStage_same
    | with_reducible apply State.advanceGen_same
    | dsimp only
    | split
    | intro _
    | with_reducible apply Same.upd_sessions_freeNums

theorem State.endWhere_same {K B : Nat} {s0 : State} {s : State} (p : Session → Bool)
    (hK : K &&& 3858944 = 0) (hB : B ≤ 0xe000022) (hk : Same K B s0 s) :
    Same K B s0 (State.endWhere s p) := by
  unfold State.endWhere
  try dsimp only
  repeat' first
    | with_reducible assumption
    | with_reducible rfl
    | exact mask_sub hK rfl
    | exact le_objAt (Nat.le_trans hB (by decide))
    | exact Nat.le_trans hB (by decide)
    | exact Nat.le_trans hB (by split <;> decide)
    | with_reducible apply State.endSession_same
    | with_reducible apply Same.foldl
    | with_reducible apply Same.foldl_snd
    | with_reducible apply Same.foldl_fst
    | dsimp only
    | split
    | intro _

theorem State.sessionIdle_same {K B : Nat} {s0 : State} {s : State} (n : Nat)
    (hK : K &&& 3858944 = 0) (hB : B ≤ 0xe000022) (hk : Same K B s0 s) :
    Same K B s0 (State.sessionIdle s n) := by
  unfold State.sessionIdle
  try dsimp only
  repeat' first
    | with_reducible assumption
    | with_reducible rfl
    | exact mask_sub hK rfl
    | exact le_objAt (Nat.le_trans hB (by decide))
    | exact Nat.le_trans hB (by decide)
    | exact Nat.le_trans hB (by split <;> decide)
    | with_reducible apply State.raise_same
    | with_reducible apply State.endSession_same
    | dsimp only
    | split
    | intro _

theorem State.seqHold_same {K B : Nat} {s0 : State} {s : State} (n : Nat) (seq : Nat)
    (hK : K &&& 16896 = 0) (hB : B ≤ 0x11f00032) (hk : Same K B s0 s) :
    Same K B s0 (State.seqHold s n seq) := by
  unfold State.seqHold
  try dsimp only
  repeat' first
    | with_reducible assumption
    | with_reducible rfl
    | exact mask_sub hK rfl
    | exact le_objAt (Nat.le_trans hB (by decide))
    | exact Nat.le_trans hB (by decide)
    | exact Nat.le_trans hB (by split <;> decide)
    | with_reducible apply State.modSession_same
    | with_reducible apply State.bump_same
    | dsimp only
    | split
    | intro _

theorem State.eventSend_same {K B : Nat} {s0 : State} {s : State} (n : Nat)
    (hK : K &&& 2233395242496 = 0) (hB : B ≤ 0xe000022) (hk : Same K B s0 s) :
    Same K B s0 (State.eventSend s n) := by
  unfold State.eventSend
  try dsimp only
  repeat' first
    | with_reducible assumption
    | with_reducible rfl
    | exact mask_sub hK rfl
    | exact le_objAt (Nat.le_trans hB (by decide))
    | exact Nat.le_trans hB (by decide)
    | exact Nat.le_trans hB (by split <;> decide)
    | with_reducible apply State.setSession_same
    | with_reducible apply State.event_same
    | with_reducible apply State.deliver_same
    | with_reducible apply State.endSession_same
    | dsimp only
    | split
    | intro _

theorem State.eventAgain_same {K B : Nat} {s0 : State} {s : State} (n : Nat) (seq : Nat)
    (hK : K &&& 2233391400448 = 0) (hB : B ≤ 0xf000003) (hk : Same K B s0 s) :
    Same K B s0 (State.eventAgain s n seq) := by
  unfold State.eventAgain
  try dsimp only
  repeat' first
    | with_reducible assumption
    | with_reducible rfl
    | exact mask_sub hK rfl
    | exact le_objAt (Nat.le_trans hB (by decide))
    | exact Nat.le_trans hB (by decide)
    | exact Nat.le_trans hB (by split <;> decide)
    | with_reducible apply State.setSession_same
    | with_reducible apply State.deliver_same
    | dsimp only
    | split
    | intro _

theorem State.eventAck_same {K B : Nat} {s0 : State} {s : State} (n : Nat) (seq : Nat)
    (hK : K &&& 16384 = 0) (hk : Same K B s0 s) :
    Same K B s0 (State.eventAck s n seq) := by
  unfold State.eventAck
  try dsimp only
  repeat' first
    | with_reducible assumption
    | with_reducible rfl
    | exact mask_sub hK rfl
    | with_reducible apply State.modSession_same
    | dsimp only
    | split
    | intro _

end Sys2Proof.Machine
end

