-- ==== Sys2Proof/Laws/SameBanks.lean ====
section
/-! SUPPORT. What the operations of Machine/Banks.lean leave (Same). -/

namespace Sys2Proof.Machine

theorem State.engineState_same {K B : Nat} {s0 : State} {s : State} (e : Nat) (st : Nat)
    (hK : K &&& 512 = 0) (hB : B ≤ 0x13000000) (hk : Same K B s0 s) :
    Same K B s0 (State.engineState s e st) := by
  unfold State.engineState
  try dsimp only
  repeat' first
    | with_reducible assumption
    | with_reducible rfl
    | exact mask_sub hK rfl
    | exact le_objAt (Nat.le_trans hB (by decide))
    | exact Nat.le_trans hB (by decide)
    | exact Nat.le_trans hB (by split <;> decide)
    | with_reducible apply State.setFld_same
    | dsimp only
    | split
    | intro _

theorem State.advanceParty_same {K B : Nat} {s0 : State} {s : State} (sub : Nat) (inst : Nat)
    (hK : K &&& 3686912 = 0) (hB : B ≤ 0x11f00020) (hk : Same K B s0 s) :
    Same K B s0 (State.advanceParty s sub inst) := by
  unfold State.advanceParty
  try dsimp only
  repeat' first
    | with_reducible assumption
    | with_reducible rfl
    | exact mask_sub hK rfl
    | exact le_objAt (Nat.le_trans hB (by decide))
    | exact Nat.le_trans hB (by decide)
    | exact Nat.le_trans hB (by split <;> decide)
    | with_reducible apply State.advanceGen_same
    | with_reducible apply Same.foldl
    | with_reducible apply Same.foldl_snd
    | with_reducible apply Same.foldl_fst
    | dsimp only
    | split
    | intro _

theorem State.revokeBanks_same {K B : Nat} {s0 : State} {s : State} (owner : Nat) (to_ : Nat)
    (hK : K &&& 35184372105728 = 0) (hB : B ≤ 0x11f00020) (hk : Same K B s0 s) :
    Same K B s0 (State.revokeBanks s owner to_) := by
  unfold State.revokeBanks
  try dsimp only
  repeat' first
    | with_reducible assumption
    | with_reducible rfl
    | exact mask_sub hK rfl
    | exact le_objAt (Nat.le_trans hB (by decide))
    | exact Nat.le_trans hB (by decide)
    | exact Nat.le_trans hB (by split <;> decide)
    | with_reducible apply State.raise_same
    | with_reducible apply Same.foldl
    | with_reducible apply Same.foldl_snd
    | with_reducible apply Same.foldl_fst
    | dsimp only
    | split
    | intro _
    | with_reducible apply Same.upd_owners

theorem State.returnBank_same {K B : Nat} {s0 : State} {s : State} (b : Nat)
    (hK : K &&& 35184372088832 = 0) (hk : Same K B s0 s) :
    Same K B s0 (State.returnBank s b) := by
  unfold State.returnBank
  try dsimp only
  repeat' first
    | with_reducible assumption
    | with_reducible rfl
    | exact mask_sub hK rfl
    | dsimp only
    | split
    | intro _
    | with_reducible apply Same.upd_owners

theorem State.wipeBank_same {K B : Nat} {s0 : State} {s : State} (b : Nat)
    (hK : K &&& 26388279066624 = 0) (hk : Same K B s0 s) :
    Same K B s0 (State.wipeBank s b) := by
  unfold State.wipeBank
  try dsimp only
  repeat' first
    | with_reducible assumption
    | with_reducible rfl
    | exact mask_sub hK rfl
    | dsimp only
    | split
    | intro _
    | with_reducible apply Same.upd_banks_usedBanks

theorem State.bankFollow_same {K B : Nat} {s0 : State} {s : State} (b : Nat)
    (hK : K &&& 96757023244800 = 0) (hB : B ≤ 0x14000001) (hk : Same K B s0 s) :
    Same K B s0 (State.bankFollow s b) := by
  unfold State.bankFollow
  try dsimp only
  repeat' first
    | with_reducible assumption
    | with_reducible rfl
    | exact mask_sub hK rfl
    | exact le_objAt (Nat.le_trans hB (by decide))
    | exact Nat.le_trans hB (by decide)
    | exact Nat.le_trans hB (by split <;> decide)
    | with_reducible apply State.setFld_same
    | with_reducible apply State.wipeBank_same
    | dsimp only
    | split
    | intro _
    | with_reducible apply Same.upd_retained

theorem State.banksFollow_same {K B : Nat} {s0 : State} {s : State}
    (hK : K &&& 96757023244800 = 0) (hB : B ≤ 0x14000001) (hk : Same K B s0 s) :
    Same K B s0 (State.banksFollow s) := by
  unfold State.banksFollow
  try dsimp only
  repeat' first
    | with_reducible assumption
    | with_reducible rfl
    | exact mask_sub hK rfl
    | exact le_objAt (Nat.le_trans hB (by decide))
    | exact Nat.le_trans hB (by decide)
    | exact Nat.le_trans hB (by split <;> decide)
    | with_reducible apply State.bankFollow_same
    | with_reducible apply Same.foldl
    | with_reducible apply Same.foldl_snd
    | with_reducible apply Same.foldl_fst
    | dsimp only
    | split
    | intro _

theorem State.bankCleared_same {K B : Nat} {s0 : State} {s : State} (b : Nat)
    (hK : K &&& 512 = 0) (hB : B ≤ 0x14000001) (hk : Same K B s0 s) :
    Same K B s0 (State.bankCleared s b) := by
  unfold State.bankCleared
  try dsimp only
  repeat' first
    | with_reducible assumption
    | with_reducible rfl
    | exact mask_sub hK rfl
    | exact le_objAt (Nat.le_trans hB (by decide))
    | exact Nat.le_trans hB (by decide)
    | exact Nat.le_trans hB (by split <;> decide)
    | with_reducible apply State.setFld_same
    | dsimp only
    | split
    | intro _

theorem State.clearBank_same {K B : Nat} {s0 : State} {s : State} (b : Nat)
    (hK : K &&& 26388279067136 = 0) (hB : B ≤ 0x14000001) (hk : Same K B s0 s) :
    Same K B s0 (State.clearBank s b) := by
  unfold State.clearBank
  try dsimp only
  repeat' first
    | with_reducible assumption
    | with_reducible rfl
    | exact mask_sub hK rfl
    | exact le_objAt (Nat.le_trans hB (by decide))
    | exact Nat.le_trans hB (by decide)
    | exact Nat.le_trans hB (by split <;> decide)
    | with_reducible apply State.setFld_same
    | with_reducible apply State.wipeBank_same
    | dsimp only
    | split
    | intro _

theorem State.scrubEnd_same {K B : Nat} {s0 : State} {s : State} (all : Bool)
    (hK : K &&& 2251799813702144 = 0) (hB : B ≤ 0x11f00020) (hk : Same K B s0 s) :
    Same K B s0 (State.scrubEnd s all) := by
  unfold State.scrubEnd
  try dsimp only
  repeat' first
    | with_reducible assumption
    | with_reducible rfl
    | exact mask_sub hK rfl
    | exact le_objAt (Nat.le_trans hB (by decide))
    | exact Nat.le_trans hB (by decide)
    | exact Nat.le_trans hB (by split <;> decide)
    | with_reducible apply State.raiseIf_same
    | dsimp only
    | split
    | intro _
    | with_reducible apply Same.upd_scrubFrom

theorem State.dmaRead_same {K B : Nat} {s0 : State} {s : State} (i : Nat)
    (hK : K &&& 256 = 0) (hk : Same K B s0 s) :
    Same K B s0 (State.dmaRead s i).2 := by
  unfold State.dmaRead
  try dsimp only
  repeat' first
    | with_reducible assumption
    | with_reducible rfl
    | exact mask_sub hK rfl
    | with_reducible apply State.drawn_same
    | dsimp only
    | split
    | intro _

theorem State.dmaWrite_same {K B : Nat} {s0 : State} {s : State} (i : Nat) (w : Word)
    (hK : K &&& 8796093022208 = 0) (hk : Same K B s0 s) :
    Same K B s0 (State.dmaWrite s i w) := by
  unfold State.dmaWrite
  try dsimp only
  repeat' first
    | with_reducible assumption
    | with_reducible rfl
    | exact mask_sub hK rfl
    | with_reducible apply Same.foldl
    | with_reducible apply Same.foldl_snd
    | with_reducible apply Same.foldl_fst
    | dsimp only
    | split
    | intro _
    | with_reducible apply Same.upd_banks

theorem State.tempoFromCount_same {K B : Nat} {s0 : State} {s : State} (e : Nat) (x : Nat)
    (hK : K &&& 1024 = 0) (hk : Same K B s0 s) :
    Same K B s0 (State.tempoFromCount s e x) := by
  unfold State.tempoFromCount
  try dsimp only
  repeat' first
    | with_reducible assumption
    | with_reducible rfl
    | exact mask_sub hK rfl
    | with_reducible apply State.setLive_same
    | dsimp only
    | split
    | intro _

theorem State.pcThresh_same {K B : Nat} {s0 : State} {s : State} (e : Nat) (k : Nat)
    (hK : K &&& 16896 = 0) (hB : B ≤ 0x11f00020) (hk : Same K B s0 s) :
    Same K B s0 (State.pcThresh s e k) := by
  unfold State.pcThresh
  try dsimp only
  repeat' first
    | with_reducible assumption
    | with_reducible rfl
    | exact mask_sub hK rfl
    | exact le_objAt (Nat.le_trans hB (by decide))
    | exact Nat.le_trans hB (by decide)
    | exact Nat.le_trans hB (by split <;> decide)
    | with_reducible apply State.setFld_same
    | with_reducible apply State.setOn_same
    | with_reducible apply State.raiseBit_same
    | dsimp only
    | split
    | intro _

theorem State.pcMatch_same {K B : Nat} {s0 : State} {s : State} (e : Nat) (k : Nat)
    (hK : K &&& 16896 = 0) (hB : B ≤ 0x11f00020) (hk : Same K B s0 s) :
    Same K B s0 (State.pcMatch s e k) := by
  unfold State.pcMatch
  try dsimp only
  repeat' first
    | with_reducible assumption
    | with_reducible rfl
    | exact mask_sub hK rfl
    | exact le_objAt (Nat.le_trans hB (by decide))
    | exact Nat.le_trans hB (by decide)
    | exact Nat.le_trans hB (by split <;> decide)
    | with_reducible apply State.pcThresh_same
    | dsimp only
    | split
    | intro _

theorem State.pcWrapped_same {K B : Nat} {s0 : State} {s : State} (e : Nat) (k : Nat)
    (hK : K &&& 16896 = 0) (hB : B ≤ 0x11f00020) (hk : Same K B s0 s) :
    Same K B s0 (State.pcWrapped s e k) := by
  unfold State.pcWrapped
  try dsimp only
  repeat' first
    | with_reducible assumption
    | with_reducible rfl
    | exact mask_sub hK rfl
    | exact le_objAt (Nat.le_trans hB (by decide))
    | exact Nat.le_trans hB (by decide)
    | exact Nat.le_trans hB (by split <;> decide)
    | with_reducible apply State.setFld_same
    | with_reducible apply State.raiseBit_same
    | dsimp only
    | split
    | intro _

theorem State.pcLand_same {K B : Nat} {s0 : State} {s : State} (e : Nat) (k : Nat) (n : Nat)
    (hK : K &&& 16896 = 0) (hB : B ≤ 0x11f00020) (hk : Same K B s0 s) :
    Same K B s0 (State.pcLand s e k n) := by
  unfold State.pcLand
  try dsimp only
  repeat' first
    | with_reducible assumption
    | with_reducible rfl
    | exact mask_sub hK rfl
    | exact le_objAt (Nat.le_trans hB (by decide))
    | exact Nat.le_trans hB (by decide)
    | exact Nat.le_trans hB (by split <;> decide)
    | with_reducible apply State.pcWrapped_same
    | dsimp only
    | split
    | intro _

theorem State.pcJudge_same {K B : Nat} {s0 : State} {s : State} (e : Nat) (k : Nat) (n : Nat)
    (hK : K &&& 16896 = 0) (hB : B ≤ 0x11f00020) (hk : Same K B s0 s) :
    Same K B s0 (State.pcJudge s e k n) := by
  unfold State.pcJudge
  try dsimp only
  repeat' first
    | with_reducible assumption
    | with_reducible rfl
    | exact mask_sub hK rfl
    | exact le_objAt (Nat.le_trans hB (by decide))
    | exact Nat.le_trans hB (by decide)
    | exact Nat.le_trans hB (by split <;> decide)
    | with_reducible apply State.pcMatch_same
    | dsimp only
    | split
    | intro _

theorem State.pcSettle_same {K B : Nat} {s0 : State} {s : State} (places : List (Nat × Nat)) (n : Nat × Nat → Nat)
    (hK : K &&& 16896 = 0) (hB : B ≤ 0x11f00020) (hk : Same K B s0 s) :
    Same K B s0 (State.pcSettle s places n) := by
  unfold State.pcSettle
  try dsimp only
  repeat' first
    | with_reducible assumption
    | with_reducible rfl
    | exact mask_sub hK rfl
    | exact le_objAt (Nat.le_trans hB (by decide))
    | exact Nat.le_trans hB (by decide)
    | exact Nat.le_trans hB (by split <;> decide)
    | with_reducible apply State.pcLand_same
    | with_reducible apply State.pcJudge_same
    | with_reducible apply Same.foldl
    | with_reducible apply Same.foldl_snd
    | with_reducible apply Same.foldl_fst
    | dsimp only
    | split
    | intro _

theorem State.pcAdvance_same {K B : Nat} {s0 : State} {s : State} (e : Nat) (fix : Option (Nat × Nat))
    (hK : K &&& 18176 = 0) (hB : B ≤ 0x11f00020) (hk : Same K B s0 s) :
    Same K B s0 (State.pcAdvance s e fix) := by
  unfold State.pcAdvance
  try dsimp only
  repeat' first
    | with_reducible assumption
    | with_reducible rfl
    | exact mask_sub hK rfl
    | exact le_objAt (Nat.le_trans hB (by decide))
    | exact Nat.le_trans hB (by decide)
    | exact Nat.le_trans hB (by split <;> decide)
    | with_reducible apply State.setFld_same
    | with_reducible apply State.setLive_same
    | with_reducible apply State.pcSettle_same
    | with_reducible apply Same.foldl
    | with_reducible apply Same.foldl_snd
    | with_reducible apply Same.foldl_fst
    | dsimp only
    | split
    | intro _
    | with_reducible apply Same.upd_free

theorem State.pcSample_same {K B : Nat} {s0 : State} {s : State} (e : Nat)
    (hK : K &&& 18176 = 0) (hB : B ≤ 0x11f00020) (hk : Same K B s0 s) :
    Same K B s0 (State.pcSample s e) := by
  unfold State.pcSample
  try dsimp only
  repeat' first
    | with_reducible assumption
    | with_reducible rfl
    | exact mask_sub hK rfl
    | exact le_objAt (Nat.le_trans hB (by decide))
    | exact Nat.le_trans hB (by decide)
    | exact Nat.le_trans hB (by split <;> decide)
    | with_reducible apply State.pcAdvance_same
    | dsimp only
    | split
    | intro _

theorem State.pcGiven_same {K B : Nat} {s0 : State} {s : State} (e : Nat) (k : Nat) (n : Nat)
    (hK : K &&& 18176 = 0) (hB : B ≤ 0x11f00020) (hk : Same K B s0 s) :
    Same K B s0 (State.pcGiven s e k n) := by
  unfold State.pcGiven
  try dsimp only
  repeat' first
    | with_reducible assumption
    | with_reducible rfl
    | exact mask_sub hK rfl
    | exact le_objAt (Nat.le_trans hB (by decide))
    | exact Nat.le_trans hB (by decide)
    | exact Nat.le_trans hB (by split <;> decide)
    | with_reducible apply State.pcAdvance_same
    | dsimp only
    | split
    | intro _

theorem State.pcCorrected_same {K B : Nat} {s0 : State} {s : State} (e : Nat)
    (hK : K &&& 16896 = 0) (hB : B ≤ 0x11f00020) (hk : Same K B s0 s) :
    Same K B s0 (State.pcCorrected s e) := by
  unfold State.pcCorrected
  try dsimp only
  repeat' first
    | with_reducible assumption
    | with_reducible rfl
    | exact mask_sub hK rfl
    | exact le_objAt (Nat.le_trans hB (by decide))
    | exact Nat.le_trans hB (by decide)
    | exact Nat.le_trans hB (by split <;> decide)
    | with_reducible apply State.setFld_same
    | with_reducible apply State.pcSettle_same
    | with_reducible apply Same.foldl
    | with_reducible apply Same.foldl_snd
    | with_reducible apply Same.foldl_fst
    | dsimp only
    | split
    | intro _

theorem State.freeze_same {K B : Nat} {s0 : State} {s : State} (e : Nat) (on_ : Bool)
    (hK : K &&& 18176 = 0) (hB : B ≤ 0x11f00020) (hk : Same K B s0 s) :
    Same K B s0 (State.freeze s e on_) := by
  unfold State.freeze
  try dsimp only
  repeat' first
    | with_reducible assumption
    | with_reducible rfl
    | exact mask_sub hK rfl
    | exact le_objAt (Nat.le_trans hB (by decide))
    | exact Nat.le_trans hB (by decide)
    | exact Nat.le_trans hB (by split <;> decide)
    | with_reducible apply State.setFld_same
    | with_reducible apply State.setOn_same
    | with_reducible apply State.tempoFromCount_same
    | with_reducible apply State.pcSample_same
    | dsimp only
    | split
    | intro _

theorem State.pcSnapshot_same {K B : Nat} {s0 : State} {s : State} (e : Nat)
    (hK : K &&& 18176 = 0) (hB : B ≤ 0x11f00020) (hk : Same K B s0 s) :
    Same K B s0 (State.pcSnapshot s e) := by
  unfold State.pcSnapshot
  try dsimp only
  repeat' first
    | with_reducible assumption
    | with_reducible rfl
    | exact mask_sub hK rfl
    | exact le_objAt (Nat.le_trans hB (by decide))
    | exact Nat.le_trans hB (by decide)
    | exact Nat.le_trans hB (by split <;> decide)
    | with_reducible apply State.setFld_same
    | with_reducible apply State.pcSample_same
    | with_reducible apply Same.foldl
    | with_reducible apply Same.foldl_snd
    | with_reducible apply Same.foldl_fst
    | dsimp only
    | split
    | intro _

theorem State.pcClear_same {K B : Nat} {s0 : State} {s : State} (e : Nat)
    (hK : K &&& 18176 = 0) (hB : B ≤ 0x11f00020) (hk : Same K B s0 s) :
    Same K B s0 (State.pcClear s e) := by
  unfold State.pcClear
  try dsimp only
  repeat' first
    | with_reducible assumption
    | with_reducible rfl
    | exact mask_sub hK rfl
    | exact le_objAt (Nat.le_trans hB (by decide))
    | exact Nat.le_trans hB (by decide)
    | exact Nat.le_trans hB (by split <;> decide)
    | with_reducible apply State.setFld_same
    | with_reducible apply State.tempoFromCount_same
    | with_reducible apply State.pcSample_same
    | with_reducible apply Same.foldl
    | with_reducible apply Same.foldl_snd
    | with_reducible apply Same.foldl_fst
    | dsimp only
    | split
    | intro _

theorem State.pcWrap_same {K B : Nat} {s0 : State} {s : State} (e : Nat) (k : Nat)
    (hK : K &&& 18176 = 0) (hB : B ≤ 0x11f00020) (hk : Same K B s0 s) :
    Same K B s0 (State.pcWrap s e k) := by
  unfold State.pcWrap
  try dsimp only
  repeat' first
    | with_reducible assumption
    | with_reducible rfl
    | exact mask_sub hK rfl
    | exact le_objAt (Nat.le_trans hB (by decide))
    | exact Nat.le_trans hB (by decide)
    | exact Nat.le_trans hB (by split <;> decide)
    | with_reducible apply State.pcGiven_same
    | dsimp only
    | split
    | intro _

theorem State.pcReached_same {K B : Nat} {s0 : State} {s : State} (e : Nat) (k : Nat)
    (hK : K &&& 18176 = 0) (hB : B ≤ 0x11f00020) (hk : Same K B s0 s) :
    Same K B s0 (State.pcReached s e k) := by
  unfold State.pcReached
  try dsimp only
  repeat' first
    | with_reducible assumption
    | with_reducible rfl
    | exact mask_sub hK rfl
    | exact le_objAt (Nat.le_trans hB (by decide))
    | exact Nat.le_trans hB (by decide)
    | exact Nat.le_trans hB (by split <;> decide)
    | with_reducible apply State.pcGiven_same
    | dsimp only
    | split
    | intro _

theorem State.pcHandOver_same {K B : Nat} {s0 : State} {s : State} (e : Nat)
    (hK : K &&& 1125899906860800 = 0) (hB : B ≤ 0x11f00020) (hk : Same K B s0 s) :
    Same K B s0 (State.pcHandOver s e) := by
  unfold State.pcHandOver
  try dsimp only
  repeat' first
    | with_reducible assumption
    | with_reducible rfl
    | exact mask_sub hK rfl
    | exact le_objAt (Nat.le_trans hB (by decide))
    | exact Nat.le_trans hB (by decide)
    | exact Nat.le_trans hB (by split <;> decide)
    | with_reducible apply State.setVal_same
    | with_reducible apply State.pcSample_same
    | with_reducible apply Same.foldl
    | with_reducible apply Same.foldl_snd
    | with_reducible apply Same.foldl_fst
    | dsimp only
    | split
    | intro _
    | with_reducible apply Same.upd_bases

theorem State.cvuConfig_same {K B : Nat} {s0 : State} {s : State} (u : Nat) (algo : Nat)
    (hK : K &&& 512 = 0) (hB : B ≤ 0x15200000) (hk : Same K B s0 s) :
    Same K B s0 (State.cvuConfig s u algo) := by
  unfold State.cvuConfig
  try dsimp only
  repeat' first
    | with_reducible assumption
    | with_reducible rfl
    | exact mask_sub hK rfl
    | exact le_objAt (Nat.le_trans hB (by decide))
    | exact Nat.le_trans hB (by decide)
    | exact Nat.le_trans hB (by split <;> decide)
    | with_reducible apply State.setFld_same
    | dsimp only
    | split
    | intro _

theorem State.cvuFeed_same {K B : Nat} {s0 : State} {s : State} (u : Nat) (bs : List Byte)
    (hK : K &&& 512 = 0) (hB : B ≤ 0x15200001) (hk : Same K B s0 s) :
    Same K B s0 (State.cvuFeed s u bs) := by
  unfold State.cvuFeed
  try dsimp only
  repeat' first
    | with_reducible assumption
    | with_reducible rfl
    | exact mask_sub hK rfl
    | exact le_objAt (Nat.le_trans hB (by decide))
    | exact Nat.le_trans hB (by decide)
    | exact Nat.le_trans hB (by split <;> decide)
    | with_reducible apply State.setFld_same
    | with_reducible apply Same.foldl
    | with_reducible apply Same.foldl_snd
    | with_reducible apply Same.foldl_fst
    | dsimp only
    | split
    | intro _

theorem State.cvuStart_same {K B : Nat} {s0 : State} {s : State} (u : Nat)
    (hK : K &&& 4503599627371008 = 0) (hB : B ≤ 0x15200007) (hk : Same K B s0 s) :
    Same K B s0 (State.cvuStart s u) := by
  unfold State.cvuStart
  try dsimp only
  repeat' first
    | with_reducible assumption
    | with_reducible rfl
    | exact mask_sub hK rfl
    | exact le_objAt (Nat.le_trans hB (by decide))
    | exact Nat.le_trans hB (by decide)
    | exact Nat.le_trans hB (by split <;> decide)
    | with_reducible apply State.setOn_same
    | dsimp only
    | split
    | intro _
    | with_reducible apply Same.upd_cvuRuns

theorem State.cvuDone_same {K B : Nat} {s0 : State} {s : State} (u : Nat) (uncorr : Bool)
    (hK : K &&& 4503599627371264 = 0) (hB : B ≤ 0x15200001) (hk : Same K B s0 s) :
    Same K B s0 (State.cvuDone s u uncorr) := by
  unfold State.cvuDone
  try dsimp only
  repeat' first
    | with_reducible assumption
    | with_reducible rfl
    | exact mask_sub hK rfl
    | exact le_objAt (Nat.le_trans hB (by decide))
    | exact Nat.le_trans hB (by decide)
    | exact Nat.le_trans hB (by split <;> decide)
    | with_reducible apply State.setFld_same
    | with_reducible apply State.setOn_same
    | with_reducible apply State.drawn_same
    | with_reducible apply State.cvuFeed_same
    | dsimp only
    | split
    | intro _
    | with_reducible apply Same.upd_cvuRuns

end Sys2Proof.Machine
end

