-- ==== Sys2Proof/Laws/SameCollector.lean ====
section
/-! SUPPORT. What the operations of Machine/Collector.lean leave (Same). -/

namespace Sys2Proof.Machine

theorem State.modFaults_same {K B : Nat} {s0 : State} {s : State} (f : Faults → Faults)
    (hK : K &&& 4398046511104 = 0) (hk : Same K B s0 s) :
    Same K B s0 (State.modFaults s f) := by
  unfold State.modFaults
  try dsimp only
  repeat' first
    | with_reducible assumption
    | with_reducible rfl
    | exact mask_sub hK rfl
    | dsimp only
    | split
    | intro _
    | with_reducible apply Same.upd_faults

theorem State.fatalNow_same {K B : Nat} {s0 : State} {s : State}
    (hK : K &&& 4407173337600 = 0) (hB : B ≤ 0xb100010) (hk : Same K B s0 s) :
    Same K B s0 (State.fatalNow s) := by
  unfold State.fatalNow
  try dsimp only
  repeat' first
    | with_reducible assumption
    | with_reducible rfl
    | exact mask_sub hK rfl
    | exact le_objAt (Nat.le_trans hB (by decide))
    | exact Nat.le_trans hB (by decide)
    | exact Nat.le_trans hB (by split <;> decide)
    | with_reducible apply State.setOn_same
    | with_reducible apply State.modLane_same
    | with_reducible apply State.showOuts_same
    | with_reducible apply State.tandemDrop_same
    | with_reducible apply State.modFaults_same
    | with_reducible apply Same.foldl
    | with_reducible apply Same.foldl_snd
    | with_reducible apply Same.foldl_fst
    | dsimp only
    | split
    | intro _

theorem State.stopSpare_same {K B : Nat} {s0 : State} {s : State} (p : Nat)
    (hK : K &&& 4398046511104 = 0) (hk : Same K B s0 s) :
    Same K B s0 (State.stopSpare s p) := by
  unfold State.stopSpare
  try dsimp only
  repeat' first
    | with_reducible assumption
    | with_reducible rfl
    | exact mask_sub hK rfl
    | with_reducible apply State.modFaults_same
    | dsimp only
    | split
    | intro _

theorem State.revoke_same {K B : Nat} {s0 : State} {s : State} (sub : Nat) (inst : Nat) (to_ : Nat)
    (hK : K &&& 39616782025216 = 0) (hB : B ≤ 0xf000003) (hk : Same K B s0 s) :
    Same K B s0 (State.revoke s sub inst to_) := by
  unfold State.revoke
  try dsimp only
  repeat' first
    | with_reducible assumption
    | with_reducible rfl
    | exact mask_sub hK rfl
    | exact le_objAt (Nat.le_trans hB (by decide))
    | exact Nat.le_trans hB (by decide)
    | exact Nat.le_trans hB (by split <;> decide)
    | with_reducible apply State.raise_same
    | with_reducible apply State.flushLane_same
    | with_reducible apply State.engineState_same
    | with_reducible apply State.advanceParty_same
    | with_reducible apply State.revokeBanks_same
    | with_reducible apply State.modFaults_same
    | with_reducible apply State.stopSpare_same
    | with_reducible apply Same.foldl
    | with_reducible apply Same.foldl_snd
    | with_reducible apply Same.foldl_fst
    | dsimp only
    | split
    | intro _

theorem State.pairFails_same {K B : Nat} {s0 : State} {s : State}
    (hK : K &&& 39616782197248 = 0) (hB : B ≤ 0xe000022) (hk : Same K B s0 s) :
    Same K B s0 (State.pairFails s) := by
  unfold State.pairFails
  try dsimp only
  repeat' first
    | with_reducible assumption
    | with_reducible rfl
    | exact mask_sub hK rfl
    | exact le_objAt (Nat.le_trans hB (by decide))
    | exact Nat.le_trans hB (by decide)
    | exact Nat.le_trans hB (by split <;> decide)
    | with_reducible apply State.endWhere_same
    | with_reducible apply State.modFaults_same
    | with_reducible apply State.revoke_same
    | dsimp only
    | split
    | intro _

theorem State.pairTakes_same {K B : Nat} {s0 : State} {s : State}
    (hK : K &&& 4398046511616 = 0) (hB : B ≤ 0x13000000) (hk : Same K B s0 s) :
    Same K B s0 (State.pairTakes s) := by
  unfold State.pairTakes
  try dsimp only
  repeat' first
    | with_reducible assumption
    | with_reducible rfl
    | exact mask_sub hK rfl
    | exact le_objAt (Nat.le_trans hB (by decide))
    | exact Nat.le_trans hB (by decide)
    | exact Nat.le_trans hB (by split <;> decide)
    | with_reducible apply State.setOn_same
    | with_reducible apply State.engineState_same
    | with_reducible apply State.modFaults_same
    | with_reducible apply Same.foldl
    | with_reducible apply Same.foldl_snd
    | with_reducible apply Same.foldl_fst
    | dsimp only
    | split
    | intro _

theorem State.setReinit_same {K B : Nat} {s0 : State} {s : State} (sub : Nat) (inst : Nat) (r : Reinit)
    (hK : K &&& 4398046511104 = 0) (hk : Same K B s0 s) :
    Same K B s0 (State.setReinit s sub inst r) := by
  unfold State.setReinit
  try dsimp only
  repeat' first
    | with_reducible assumption
    | with_reducible rfl
    | exact mask_sub hK rfl
    | with_reducible apply State.modFaults_same
    | dsimp only
    | split
    | intro _

theorem State.showReinit_same {K B : Nat} {s0 : State} {s : State}
    (hK : K &&& 512 = 0) (hB : B ≤ 0x15f00008) (hk : Same K B s0 s) :
    Same K B s0 (State.showReinit s) := by
  unfold State.showReinit
  try dsimp only
  repeat' first
    | with_reducible assumption
    | with_reducible rfl
    | exact mask_sub hK rfl
    | exact le_objAt (Nat.le_trans hB (by decide))
    | exact Nat.le_trans hB (by decide)
    | exact Nat.le_trans hB (by split <;> decide)
    | with_reducible apply State.setOn_same
    | dsimp only
    | split
    | intro _

theorem State.reframe_same {K B : Nat} {s0 : State} {s : State} (l : Nat)
    (hK : K &&& 20992 = 0) (hB : B ≤ 0x3000015) (hk : Same K B s0 s) :
    Same K B s0 (State.reframe s l) := by
  unfold State.reframe
  try dsimp only
  repeat' first
    | with_reducible assumption
    | with_reducible rfl
    | exact mask_sub hK rfl
    | exact le_objAt (Nat.le_trans hB (by decide))
    | exact Nat.le_trans hB (by decide)
    | exact Nat.le_trans hB (by split <;> decide)
    | with_reducible apply State.modLane_same
    | with_reducible apply State.quietLane_same
    | with_reducible apply State.framerStart_same
    | dsimp only
    | split
    | intro _

theorem State.remap_same {K B : Nat} {s0 : State} {s : State} (l : Nat)
    (hK : K &&& 4096 = 0) (hk : Same K B s0 s) :
    Same K B s0 (State.remap s l) := by
  unfold State.remap
  try dsimp only
  repeat' first
    | with_reducible assumption
    | with_reducible rfl
    | exact mask_sub hK rfl
    | with_reducible apply State.modLane_same
    | dsimp only
    | split
    | intro _

theorem State.restage_same {K B : Nat} {s0 : State} {s : State}
    (hK : K &&& 156160 = 0) (hB : B ≤ 0xe000022) (hk : Same K B s0 s) :
    Same K B s0 (State.restage s) := by
  unfold State.restage
  try dsimp only
  repeat' first
    | with_reducible assumption
    | with_reducible rfl
    | exact mask_sub hK rfl
    | exact le_objAt (Nat.le_trans hB (by decide))
    | exact Nat.le_trans hB (by decide)
    | exact Nat.le_trans hB (by split <;> decide)
    | with_reducible apply State.modSession_same
    | with_reducible apply State.discardHeld_same
    | with_reducible apply State.freeStage_same
    | dsimp only
    | split
    | intro _

theorem State.loopRestart_same {K B : Nat} {s0 : State} {s : State}
    (hK : K &&& 939541248 = 0) (hB : B ≤ 0xa000020) (hk : Same K B s0 s) :
    Same K B s0 (State.loopRestart s) := by
  unfold State.loopRestart
  try dsimp only
  repeat' first
    | with_reducible assumption
    | with_reducible rfl
    | exact mask_sub hK rfl
    | exact le_objAt (Nat.le_trans hB (by decide))
    | exact Nat.le_trans hB (by decide)
    | exact Nat.le_trans hB (by split <;> decide)
    | with_reducible apply State.setSelected_same
    | with_reducible apply State.setLoop_same
    | with_reducible apply State.settle_same
    | dsimp only
    | split
    | intro _

theorem State.resynth_same {K B : Nat} {s0 : State} {s : State} (n : Nat)
    (hK : K &&& 1610629632 = 0) (hB : B ≤ 0xb100010) (hk : Same K B s0 s) :
    Same K B s0 (State.resynth s n) := by
  unfold State.resynth
  try dsimp only
  repeat' first
    | with_reducible assumption
    | with_reducible rfl
    | exact mask_sub hK rfl
    | exact le_objAt (Nat.le_trans hB (by decide))
    | exact Nat.le_trans hB (by decide)
    | exact Nat.le_trans hB (by split <;> decide)
    | with_reducible apply State.setOut_same
    | with_reducible apply State.showOut_same
    | dsimp only
    | split
    | intro _
    | with_reducible apply Same.upd_pps

theorem State.protRestart_same {K B : Nat} {s0 : State} {s : State}
    (hK : K &&& 6442450944 = 0) (hk : Same K B s0 s) :
    Same K B s0 (State.protRestart s) := by
  unfold State.protRestart
  try dsimp only
  repeat' first
    | with_reducible assumption
    | with_reducible rfl
    | exact mask_sub hK rfl
    | dsimp only
    | split
    | intro _
    | with_reducible apply Same.upd_aps_pathProt

theorem State.reControl_same {K B : Nat} {s0 : State} {s : State} (inst : Nat)
    (hK : K &&& 41832985323008 = 0) (hB : B ≤ 0xd000003) (hk : Same K B s0 s) :
    Same K B s0 (State.reControl s inst) := by
  unfold State.reControl
  try dsimp only
  repeat' first
    | with_reducible assumption
    | with_reducible rfl
    | exact mask_sub hK rfl
    | exact le_objAt (Nat.le_trans hB (by decide))
    | exact Nat.le_trans hB (by decide)
    | exact Nat.le_trans hB (by split <;> decide)
    | with_reducible apply State.setOn_same
    | with_reducible apply State.setRingPort_same
    | with_reducible apply State.showService_same
    | with_reducible apply State.macRestart_same
    | with_reducible apply State.engineState_same
    | with_reducible apply State.stopSpare_same
    | with_reducible apply State.pairFails_same
    | with_reducible apply Same.foldl
    | with_reducible apply Same.foldl_snd
    | with_reducible apply Same.foldl_fst
    | dsimp only
    | split
    | intro _

theorem State.reinitAct_same {K B : Nat} {s0 : State} {s : State} (sub : Nat) (inst : Nat)
    (hK : K &&& 9076253608572672 = 0) (hB : B ≤ 0x2000002) (hk : Same K B s0 s) :
    Same K B s0 (State.reinitAct s sub inst) := by
  unfold State.reinitAct
  try dsimp only
  repeat' first
    | with_reducible assumption
    | with_reducible rfl
    | exact mask_sub hK rfl
    | exact le_objAt (Nat.le_trans hB (by decide))
    | exact Nat.le_trans hB (by decide)
    | exact Nat.le_trans hB (by split <;> decide)
    | with_reducible apply State.modLane_same
    | with_reducible apply State.flushLane_same
    | with_reducible apply State.reseedLane_same
    | with_reducible apply State.clearPaths_same
    | with_reducible apply State.bringUp_same
    | with_reducible apply State.pmStep_same
    | with_reducible apply State.endWhere_same
    | with_reducible apply State.engineState_same
    | with_reducible apply State.clearBank_same
    | with_reducible apply State.reframe_same
    | with_reducible apply State.remap_same
    | with_reducible apply State.restage_same
    | with_reducible apply State.loopRestart_same
    | with_reducible apply State.resynth_same
    | with_reducible apply State.protRestart_same
    | with_reducible apply State.reControl_same
    | dsimp only
    | split
    | intro _
    | with_reducible apply Same.upd_supply

theorem State.escalate_same {K B : Nat} {s0 : State} {s : State} (sub : Nat) (inst : Nat)
    (hK : K &&& 4398046532096 = 0) (hB : B ≤ 0x2000002) (hk : Same K B s0 s) :
    Same K B s0 (State.escalate s sub inst) := by
  unfold State.escalate
  try dsimp only
  repeat' first
    | with_reducible assumption
    | with_reducible rfl
    | exact mask_sub hK rfl
    | exact le_objAt (Nat.le_trans hB (by decide))
    | exact Nat.le_trans hB (by decide)
    | exact Nat.le_trans hB (by split <;> decide)
    | with_reducible apply State.raise_same
    | with_reducible apply State.laneFault_same
    | with_reducible apply State.engineState_same
    | with_reducible apply State.modFaults_same
    | with_reducible apply State.setReinit_same
    | with_reducible apply State.showReinit_same
    | with_reducible apply Same.foldl
    | with_reducible apply Same.foldl_snd
    | with_reducible apply Same.foldl_fst
    | dsimp only
    | split
    | intro _

theorem State.reinitStart_same {K B : Nat} {s0 : State} {s : State} (sub : Nat) (inst : Nat) (record : Nat) (byHost : Bool)
    (hK : K &&& 9076253608572672 = 0) (hB : B ≤ 0x2000002) (hk : Same K B s0 s) :
    Same K B s0 (State.reinitStart s sub inst record byHost) := by
  unfold State.reinitStart
  try dsimp only
  repeat' first
    | with_reducible assumption
    | with_reducible rfl
    | exact mask_sub hK rfl
    | exact le_objAt (Nat.le_trans hB (by decide))
    | exact Nat.le_trans hB (by decide)
    | exact Nat.le_trans hB (by split <;> decide)
    | with_reducible apply State.setFld_same
    | with_reducible apply State.advanceParty_same
    | with_reducible apply State.setReinit_same
    | with_reducible apply State.showReinit_same
    | with_reducible apply State.reinitAct_same
    | with_reducible apply State.escalate_same
    | dsimp only
    | split
    | intro _

theorem State.showOutstanding_same {K B : Nat} {s0 : State} {s : State}
    (hK : K &&& 512 = 0) (hB : B ≤ 0x15f00001) (hk : Same K B s0 s) :
    Same K B s0 (State.showOutstanding s) := by
  unfold State.showOutstanding
  try dsimp only
  repeat' first
    | with_reducible assumption
    | with_reducible rfl
    | exact mask_sub hK rfl
    | exact le_objAt (Nat.le_trans hB (by decide))
    | exact Nat.le_trans hB (by decide)
    | exact Nat.le_trans hB (by split <;> decide)
    | with_reducible apply State.setFld_same
    | dsimp only
    | split
    | intro _

theorem State.settleRecords_same {K B : Nat} {s0 : State} {s : State} (sub : Nat) (inst : Nat) (record : Nat)
    (hK : K &&& 4398046511616 = 0) (hB : B ≤ 0x15f00001) (hk : Same K B s0 s) :
    Same K B s0 (State.settleRecords s sub inst record) := by
  unfold State.settleRecords
  try dsimp only
  repeat' first
    | with_reducible assumption
    | with_reducible rfl
    | exact mask_sub hK rfl
    | exact le_objAt (Nat.le_trans hB (by decide))
    | exact Nat.le_trans hB (by decide)
    | exact Nat.le_trans hB (by split <;> decide)
    | with_reducible apply State.modFaults_same
    | with_reducible apply State.showOutstanding_same
    | dsimp only
    | split
    | intro _

theorem State.reinitEnd_same {K B : Nat} {s0 : State} {s : State} (sub : Nat) (inst : Nat)
    (hK : K &&& 144154772641956352 = 0) (hB : B ≤ 0xc000003) (hk : Same K B s0 s) :
    Same K B s0 (State.reinitEnd s sub inst) := by
  unfold State.reinitEnd
  try dsimp only
  repeat' first
    | with_reducible assumption
    | with_reducible rfl
    | exact mask_sub hK rfl
    | exact le_objAt (Nat.le_trans hB (by decide))
    | exact Nat.le_trans hB (by decide)
    | exact Nat.le_trans hB (by split <;> decide)
    | with_reducible apply State.setOn_same
    | with_reducible apply State.apsEval_same
    | with_reducible apply State.engineState_same
    | with_reducible apply State.returnBank_same
    | with_reducible apply State.modFaults_same
    | with_reducible apply Same.foldl
    | with_reducible apply Same.foldl_snd
    | with_reducible apply Same.foldl_fst
    | dsimp only
    | split
    | intro _
    | with_reducible apply Same.upd_owners
    | with_reducible apply Same.upd_vault

theorem State.reinitDone_same {K B : Nat} {s0 : State} {s : State} (sub : Nat) (inst : Nat)
    (hK : K &&& 153191441684428544 = 0) (hB : B ≤ 0x2000002) (hk : Same K B s0 s) :
    Same K B s0 (State.reinitDone s sub inst) := by
  unfold State.reinitDone
  try dsimp only
  repeat' first
    | with_reducible assumption
    | with_reducible rfl
    | exact mask_sub hK rfl
    | exact le_objAt (Nat.le_trans hB (by decide))
    | exact Nat.le_trans hB (by decide)
    | exact Nat.le_trans hB (by split <;> decide)
    | with_reducible apply State.setReinit_same
    | with_reducible apply State.showReinit_same
    | with_reducible apply State.reinitStart_same
    | with_reducible apply State.settleRecords_same
    | with_reducible apply State.reinitEnd_same
    | dsimp only
    | split
    | intro _

theorem State.reinitLate_same {K B : Nat} {s0 : State} {s : State} (sub : Nat) (inst : Nat)
    (hK : K &&& 4398046532096 = 0) (hB : B ≤ 0x2000002) (hk : Same K B s0 s) :
    Same K B s0 (State.reinitLate s sub inst) := by
  unfold State.reinitLate
  try dsimp only
  repeat' first
    | with_reducible assumption
    | with_reducible rfl
    | exact mask_sub hK rfl
    | exact le_objAt (Nat.le_trans hB (by decide))
    | exact Nat.le_trans hB (by decide)
    | exact Nat.le_trans hB (by split <;> decide)
    | with_reducible apply State.escalate_same
    | dsimp only
    | split
    | intro _

theorem State.loseRetention_same {K B : Nat} {s0 : State} {s : State}
    (hK : K &&& 4398314946816 = 0) (hk : Same K B s0 s) :
    Same K B s0 (State.loseRetention s) := by
  unfold State.loseRetention
  try dsimp only
  repeat' first
    | with_reducible assumption
    | with_reducible rfl
    | exact mask_sub hK rfl
    | with_reducible apply State.drawn_same
    | with_reducible apply State.modFaults_same
    | dsimp only
    | split
    | intro _
    | with_reducible apply Same.upd_timing

theorem State.loseWord_same {K B : Nat} {s0 : State} {s : State} (l : Nat)
    (hK : K &&& 4352 = 0) (hk : Same K B s0 s) :
    Same K B s0 (State.loseWord s l) := by
  unfold State.loseWord
  try dsimp only
  repeat' first
    | with_reducible assumption
    | with_reducible rfl
    | exact mask_sub hK rfl
    | with_reducible apply State.modLane_same
    | dsimp only
    | split
    | intro _
    | with_reducible apply Same.upd_free

theorem State.badEntry_same {K B : Nat} {s0 : State} {s : State} (f : FaultIn)
    (hK : K &&& 25088 = 0) (hB : B ≤ 0x7f00030) (hk : Same K B s0 s) :
    Same K B s0 (State.badEntry s f) := by
  unfold State.badEntry
  try dsimp only
  repeat' first
    | with_reducible assumption
    | with_reducible rfl
    | exact mask_sub hK rfl
    | exact le_objAt (Nat.le_trans hB (by decide))
    | exact Nat.le_trans hB (by decide)
    | exact Nat.le_trans hB (by split <;> decide)
    | with_reducible apply State.raise_same
    | dsimp only
    | split
    | intro _
    | with_reducible apply Same.upd_xc

theorem State.bankError_same {K B : Nat} {s0 : State} {s : State} (f : FaultIn)
    (hK : K &&& 16896 = 0) (hB : B ≤ 0x11f00020) (hk : Same K B s0 s) :
    Same K B s0 (State.bankError s f) := by
  unfold State.bankError
  try dsimp only
  repeat' first
    | with_reducible assumption
    | with_reducible rfl
    | exact mask_sub hK rfl
    | exact le_objAt (Nat.le_trans hB (by decide))
    | exact Nat.le_trans hB (by decide)
    | exact Nat.le_trans hB (by split <;> decide)
    | with_reducible apply State.bump_same
    | with_reducible apply State.raise_same
    | with_reducible apply State.pcCorrected_same
    | dsimp only
    | split
    | intro _

theorem State.contain_same {K B : Nat} {s0 : State} {s : State} (f : FaultIn) (record : Nat)
    (hK : K &&& 9076253608572672 = 0) (hB : B ≤ 0x2000002) (hk : Same K B s0 s) :
    Same K B s0 (State.contain s f record).2 := by
  unfold State.contain
  try dsimp only
  repeat' first
    | with_reducible assumption
    | with_reducible rfl
    | exact mask_sub hK rfl
    | exact le_objAt (Nat.le_trans hB (by decide))
    | exact Nat.le_trans hB (by decide)
    | exact Nat.le_trans hB (by split <;> decide)
    | with_reducible apply State.setOn_same
    | with_reducible apply State.laneFault_same
    | with_reducible apply State.endWhere_same
    | with_reducible apply State.clearBank_same
    | with_reducible apply State.revoke_same
    | with_reducible apply State.pairFails_same
    | with_reducible apply State.reinitStart_same
    | with_reducible apply State.loseRetention_same
    | with_reducible apply State.loseWord_same
    | with_reducible apply State.badEntry_same
    | with_reducible apply State.bankError_same
    | dsimp only
    | split
    | intro _

theorem State.openRecord_same {K B : Nat} {s0 : State} {s : State} (f : FaultIn) (cls : Nat) (step : Nat)
    (hK : K &&& 4398046528000 = 0) (hB : B ≤ 0x11f00020) (hk : Same K B s0 s) :
    Same K B s0 (State.openRecord s f cls step) := by
  unfold State.openRecord
  try dsimp only
  repeat' first
    | with_reducible assumption
    | with_reducible rfl
    | exact mask_sub hK rfl
    | exact le_objAt (Nat.le_trans hB (by decide))
    | exact Nat.le_trans hB (by decide)
    | exact Nat.le_trans hB (by split <;> decide)
    | with_reducible apply State.setFld_same
    | with_reducible apply State.bump_same
    | with_reducible apply State.raise_same
    | with_reducible apply State.modFaults_same
    | with_reducible apply State.showOutstanding_same
    | dsimp only
    | split
    | intro _

theorem State.joinRecord_same {K B : Nat} {s0 : State} {s : State} (n : Nat) (f : FaultIn) (cls : Nat) (step : Nat)
    (hK : K &&& 4398046511616 = 0) (hB : B ≤ 0x15f00001) (hk : Same K B s0 s) :
    Same K B s0 (State.joinRecord s n f cls step) := by
  unfold State.joinRecord
  try dsimp only
  repeat' first
    | with_reducible assumption
    | with_reducible rfl
    | exact mask_sub hK rfl
    | exact le_objAt (Nat.le_trans hB (by decide))
    | exact Nat.le_trans hB (by decide)
    | exact Nat.le_trans hB (by split <;> decide)
    | with_reducible apply State.modFaults_same
    | with_reducible apply State.showOutstanding_same
    | dsimp only
    | split
    | intro _

theorem State.raiseWith_same {K B : Nat} {s0 : State} {s : State} (f : FaultIn) (acts : Bool)
    (hK : K &&& 9076262198507264 = 0) (hB : B ≤ 0x2000002) (hk : Same K B s0 s) :
    Same K B s0 (State.raiseWith s f acts) := by
  unfold State.raiseWith
  try dsimp only
  repeat' first
    | with_reducible assumption
    | with_reducible rfl
    | exact mask_sub hK rfl
    | exact le_objAt (Nat.le_trans hB (by decide))
    | exact Nat.le_trans hB (by decide)
    | exact Nat.le_trans hB (by split <;> decide)
    | with_reducible apply State.bump_same
    | with_reducible apply State.raise_same
    | with_reducible apply State.modFaults_same
    | with_reducible apply State.fatalNow_same
    | with_reducible apply State.contain_same
    | with_reducible apply State.openRecord_same
    | with_reducible apply State.joinRecord_same
    | dsimp only
    | split
    | intro _

theorem State.raiseFault_same {K B : Nat} {s0 : State} {s : State} (f : FaultIn)
    (hK : K &&& 9076262198507264 = 0) (hB : B ≤ 0x2000002) (hk : Same K B s0 s) :
    Same K B s0 (State.raiseFault s f) := by
  unfold State.raiseFault
  try dsimp only
  repeat' first
    | with_reducible assumption
    | with_reducible rfl
    | exact mask_sub hK rfl
    | exact le_objAt (Nat.le_trans hB (by decide))
    | exact Nat.le_trans hB (by decide)
    | exact Nat.le_trans hB (by split <;> decide)
    | with_reducible apply State.raiseWith_same
    | dsimp only
    | split
    | intro _

theorem State.fatalWritten_same {K B : Nat} {s0 : State} {s : State}
    (hK : K &&& 4398046511104 = 0) (hk : Same K B s0 s) :
    Same K B s0 (State.fatalWritten s) := by
  unfold State.fatalWritten
  try dsimp only
  repeat' first
    | with_reducible assumption
    | with_reducible rfl
    | exact mask_sub hK rfl
    | with_reducible apply State.modFaults_same
    | dsimp only
    | split
    | intro _

theorem State.latchFaults_same {K B : Nat} {s0 : State} {s : State} (n : Nat)
    (hK : K &&& 16384 = 0) (hk : Same K B s0 s) :
    Same K B s0 (State.latchFaults s n) := by
  unfold State.latchFaults
  try dsimp only
  repeat' first
    | with_reducible assumption
    | with_reducible rfl
    | exact mask_sub hK rfl
    | with_reducible apply State.modSession_same
    | dsimp only
    | split
    | intro _

theorem State.ackFault_same {K B : Nat} {s0 : State} {s : State} (record : Nat)
    (hK : K &&& 4398046511616 = 0) (hB : B ≤ 0x15f00001) (hk : Same K B s0 s) :
    Same K B s0 (State.ackFault s record) := by
  unfold State.ackFault
  try dsimp only
  repeat' first
    | with_reducible assumption
    | with_reducible rfl
    | exact mask_sub hK rfl
    | exact le_objAt (Nat.le_trans hB (by decide))
    | exact Nat.le_trans hB (by decide)
    | exact Nat.le_trans hB (by split <;> decide)
    | with_reducible apply State.modFaults_same
    | with_reducible apply State.showOutstanding_same
    | dsimp only
    | split
    | intro _

theorem State.declareSession_same {K B : Nat} {s0 : State} {s : State} (n : Nat)
    (hK : K &&& 9076262198507264 = 0) (hB : B ≤ 0x2000002) (hk : Same K B s0 s) :
    Same K B s0 (State.declareSession s n) := by
  unfold State.declareSession
  try dsimp only
  repeat' first
    | with_reducible assumption
    | with_reducible rfl
    | exact mask_sub hK rfl
    | exact le_objAt (Nat.le_trans hB (by decide))
    | exact Nat.le_trans hB (by decide)
    | exact Nat.le_trans hB (by split <;> decide)
    | with_reducible apply State.raise_same
    | with_reducible apply State.abandonStage_same
    | with_reducible apply State.advanceGen_same
    | with_reducible apply State.raiseWith_same
    | dsimp only
    | split
    | intro _

theorem State.declareFault_same {K B : Nat} {s0 : State} {s t : State} (o : Nat) (ht : s.declareFault o = some t)
    (hK : K &&& 9076262198507264 = 0) (hB : B ≤ 0x2000002) (hk : Same K B s0 s) : Same K B s0 t := by
  unfold State.declareFault at ht
  repeat' split at ht
  all_goals cases ht
  all_goals repeat' first
    | with_reducible assumption
    | exact mask_sub hK rfl
    | exact Nat.le_trans hB (by decide)
    | with_reducible apply State.declareSession_same
    | with_reducible apply State.raiseFault_same
    | with_reducible apply State.raise_same
    | with_reducible apply State.advanceGen_same
    | with_reducible apply State.abandonStage_same

end Sys2Proof.Machine
end

