-- ==== Sys2Proof/Laws/SamePower.lean ====
section
/-! SUPPORT. What the operations of Machine/Power.lean leave (Same). -/

namespace Sys2Proof.Machine

theorem State.setCore_same {K B : Nat} {s0 : State} {s : State} (c : Nat)
    (hK : K &&& 512 = 0) (hB : B ≤ 0x16000001) (hk : Same K B s0 s) :
    Same K B s0 (State.setCore s c) := by
  unfold State.setCore
  try dsimp only
  repeat' first
    | with_reducible assumption
    | with_reducible rfl
    | exact mask_sub hK rfl
    | exact le_objAt (Nat.le_trans hB (by decide))
    | exact Nat.le_trans hB (by decide)
    | exact Nat.le_trans hB (by split <;> decide)
    | with_reducible apply State.setFld_same
    | with_reducible apply State.bump_same
    | dsimp only
    | split
    | intro _

theorem State.clampCore_same {K B : Nat} {s0 : State} {s : State}
    (hK : K &&& 512 = 0) (hB : B ≤ 0x16000001) (hk : Same K B s0 s) :
    Same K B s0 (State.clampCore s) := by
  unfold State.clampCore
  try dsimp only
  repeat' first
    | with_reducible assumption
    | with_reducible rfl
    | exact mask_sub hK rfl
    | exact le_objAt (Nat.le_trans hB (by decide))
    | exact Nat.le_trans hB (by decide)
    | exact Nat.le_trans hB (by split <;> decide)
    | with_reducible apply State.setCore_same
    | dsimp only
    | split
    | intro _

theorem State.stepTaken_same {K B : Nat} {s0 : State} {s : State}
    (hK : K &&& 9007199254740992 = 0) (hk : Same K B s0 s) :
    Same K B s0 (State.stepTaken s) := by
  unfold State.stepTaken
  try dsimp only
  repeat' first
    | with_reducible assumption
    | with_reducible rfl
    | exact mask_sub hK rfl
    | dsimp only
    | split
    | intro _
    | with_reducible apply Same.upd_supply

theorem State.stepDown_same {K B : Nat} {s0 : State} {s : State}
    (hK : K &&& 9007199254741504 = 0) (hB : B ≤ 0x16000001) (hk : Same K B s0 s) :
    Same K B s0 (State.stepDown s) := by
  unfold State.stepDown
  try dsimp only
  repeat' first
    | with_reducible assumption
    | with_reducible rfl
    | exact mask_sub hK rfl
    | exact le_objAt (Nat.le_trans hB (by decide))
    | exact Nat.le_trans hB (by decide)
    | exact Nat.le_trans hB (by split <;> decide)
    | with_reducible apply State.setCore_same
    | with_reducible apply State.stepTaken_same
    | dsimp only
    | split
    | intro _

theorem State.stepUp_same {K B : Nat} {s0 : State} {s : State} (k : Nat)
    (hK : K &&& 9007199254757888 = 0) (hB : B ≤ 0x11f00020) (hk : Same K B s0 s) :
    Same K B s0 (State.stepUp s k) := by
  unfold State.stepUp
  try dsimp only
  repeat' first
    | with_reducible assumption
    | with_reducible rfl
    | exact mask_sub hK rfl
    | exact le_objAt (Nat.le_trans hB (by decide))
    | exact Nat.le_trans hB (by decide)
    | exact Nat.le_trans hB (by split <;> decide)
    | with_reducible apply State.raiseIf_same
    | with_reducible apply State.setCore_same
    | with_reducible apply State.stepTaken_same
    | dsimp only
    | split
    | intro _

theorem State.capClear_same {K B : Nat} {s0 : State} {s : State}
    (hK : K &&& 9007199254741504 = 0) (hB : B ≤ 0x16000001) (hk : Same K B s0 s) :
    Same K B s0 (State.capClear s) := by
  unfold State.capClear
  try dsimp only
  repeat' first
    | with_reducible assumption
    | with_reducible rfl
    | exact mask_sub hK rfl
    | exact le_objAt (Nat.le_trans hB (by decide))
    | exact Nat.le_trans hB (by decide)
    | exact Nat.le_trans hB (by split <;> decide)
    | with_reducible apply State.setFld_same
    | with_reducible apply State.setOn_same
    | dsimp only
    | split
    | intro _
    | with_reducible apply Same.upd_supply

theorem State.capWatch_same {K B : Nat} {s0 : State} {s : State}
    (hK : K &&& 9007199254757888 = 0) (hB : B ≤ 0x11f00020) (hk : Same K B s0 s) :
    Same K B s0 (State.capWatch s) := by
  unfold State.capWatch
  try dsimp only
  repeat' first
    | with_reducible assumption
    | with_reducible rfl
    | exact mask_sub hK rfl
    | exact le_objAt (Nat.le_trans hB (by decide))
    | exact Nat.le_trans hB (by decide)
    | exact Nat.le_trans hB (by split <;> decide)
    | with_reducible apply State.setFld_same
    | with_reducible apply State.setOn_same
    | with_reducible apply State.bump_same
    | with_reducible apply State.raise_same
    | with_reducible apply State.capClear_same
    | dsimp only
    | split
    | intro _
    | with_reducible apply Same.upd_supply

theorem State.supplyCount_same {K B : Nat} {s0 : State} {s : State}
    (hK : K &&& 9007199254740992 = 0) (hk : Same K B s0 s) :
    Same K B s0 (State.supplyCount s) := by
  unfold State.supplyCount
  try dsimp only
  repeat' first
    | with_reducible assumption
    | with_reducible rfl
    | exact mask_sub hK rfl
    | dsimp only
    | split
    | intro _
    | with_reducible apply Same.upd_supply

theorem State.supplyRows_same {K B : Nat} {s0 : State} {s : State}
    (hK : K &&& 9007199254757888 = 0) (hB : B ≤ 0x11f00020) (hk : Same K B s0 s) :
    Same K B s0 (State.supplyRows s) := by
  unfold State.supplyRows
  try dsimp only
  repeat' first
    | with_reducible assumption
    | with_reducible rfl
    | exact mask_sub hK rfl
    | exact le_objAt (Nat.le_trans hB (by decide))
    | exact Nat.le_trans hB (by decide)
    | exact Nat.le_trans hB (by split <;> decide)
    | with_reducible apply State.stepDown_same
    | with_reducible apply State.stepUp_same
    | dsimp only
    | split
    | intro _
    | with_reducible apply Same.upd_supply

theorem State.supplyLoop_same {K B : Nat} {s0 : State} {s : State}
    (hK : K &&& 9007199254757888 = 0) (hB : B ≤ 0x11f00020) (hk : Same K B s0 s) :
    Same K B s0 (State.supplyLoop s) := by
  unfold State.supplyLoop
  try dsimp only
  repeat' first
    | with_reducible assumption
    | with_reducible rfl
    | exact mask_sub hK rfl
    | exact le_objAt (Nat.le_trans hB (by decide))
    | exact Nat.le_trans hB (by decide)
    | exact Nat.le_trans hB (by split <;> decide)
    | with_reducible apply State.bump_same
    | with_reducible apply State.capWatch_same
    | with_reducible apply State.supplyCount_same
    | with_reducible apply State.supplyRows_same
    | dsimp only
    | split
    | intro _

theorem State.supplyAfter_same {K B : Nat} {s0 : State} {s : State} (before : Option Nat)
    (hK : K &&& 9007199254757888 = 0) (hB : B ≤ 0x11f00020) (hk : Same K B s0 s) :
    Same K B s0 (State.supplyAfter s before) := by
  unfold State.supplyAfter
  try dsimp only
  repeat' first
    | with_reducible assumption
    | with_reducible rfl
    | exact mask_sub hK rfl
    | exact le_objAt (Nat.le_trans hB (by decide))
    | exact Nat.le_trans hB (by decide)
    | exact Nat.le_trans hB (by split <;> decide)
    | with_reducible apply State.supplyLoop_same
    | dsimp only
    | split
    | intro _

theorem State.egressRelease_same {K B : Nat} {s0 : State} {s : State} (l : Nat) (fn : Nat)
    (hK : K &&& 63050714758283008 = 0) (hB : B ≤ 0) (hk : Same K B s0 s) :
    Same K B s0 (State.egressRelease s l fn) := by
  unfold State.egressRelease
  try dsimp only
  repeat' first
    | with_reducible assumption
    | with_reducible rfl
    | exact mask_sub hK rfl
    | exact Nat.le_trans hB (Nat.zero_le _)
    | with_reducible apply State.asOf_same
    | with_reducible apply State.releaseFrame_same
    | with_reducible apply State.ahead_same
    | with_reducible apply State.tandemYield_same
    | with_reducible apply State.supplyAfter_same
    | dsimp only
    | split
    | intro _

theorem State.egressComplete_same {K B : Nat} {s0 : State} {s : State} (l : Nat) (fn : Nat)
    (hK : K &&& 63050714758283008 = 0) (hB : B ≤ 0) (hk : Same K B s0 s) :
    Same K B s0 (State.egressComplete s l fn) := by
  unfold State.egressComplete
  try dsimp only
  repeat' first
    | with_reducible assumption
    | with_reducible rfl
    | exact mask_sub hK rfl
    | exact Nat.le_trans hB (Nat.zero_le _)
    | with_reducible apply State.asOf_same
    | with_reducible apply State.completeFrame_same
    | with_reducible apply State.ahead_same
    | with_reducible apply State.tandemYield_same
    | with_reducible apply State.supplyAfter_same
    | dsimp only
    | split
    | intro _

theorem State.supplyIdle_same {K B : Nat} {s0 : State} {s : State}
    (hK : K &&& 63050394783203840 = 0) (hB : B ≤ 0x8f00001) (hk : Same K B s0 s) :
    Same K B s0 (State.supplyIdle s) := by
  unfold State.supplyIdle
  try dsimp only
  repeat' first
    | with_reducible assumption
    | with_reducible rfl
    | exact mask_sub hK rfl
    | exact le_objAt (Nat.le_trans hB (by decide))
    | exact Nat.le_trans hB (by decide)
    | exact Nat.le_trans hB (by split <;> decide)
    | with_reducible apply State.worstSlack_same
    | with_reducible apply State.supplyAfter_same
    | dsimp only
    | split
    | intro _

theorem State.showPower_same {K B : Nat} {s0 : State} {s : State}
    (hK : K &&& 512 = 0) (hB : B ≤ 0x16000010) (hk : Same K B s0 s) :
    Same K B s0 (State.showPower s) := by
  unfold State.showPower
  try dsimp only
  repeat' first
    | with_reducible assumption
    | with_reducible rfl
    | exact mask_sub hK rfl
    | exact le_objAt (Nat.le_trans hB (by decide))
    | exact Nat.le_trans hB (by decide)
    | exact Nat.le_trans hB (by split <;> decide)
    | with_reducible apply State.setFld_same
    | dsimp only
    | split
    | intro _

theorem State.railRead_same {K B : Nat} {s0 : State} {s : State} (rs : List (Nat × Nat × Nat))
    (hK : K &&& 512 = 0) (hB : B ≤ 0x16000010) (hk : Same K B s0 s) :
    Same K B s0 (State.railRead s rs) := by
  unfold State.railRead
  try dsimp only
  repeat' first
    | with_reducible assumption
    | with_reducible rfl
    | exact mask_sub hK rfl
    | exact le_objAt (Nat.le_trans hB (by decide))
    | exact Nat.le_trans hB (by decide)
    | exact Nat.le_trans hB (by split <;> decide)
    | with_reducible apply State.setFld_same
    | with_reducible apply State.showPower_same
    | with_reducible apply Same.foldl
    | with_reducible apply Same.foldl_snd
    | with_reducible apply Same.foldl_fst
    | dsimp only
    | split
    | intro _

theorem State.throttle_same {K B : Nat} {s0 : State} {s : State} (x : Int)
    (hK : K &&& 16896 = 0) (hB : B ≤ 0x11f00020) (hk : Same K B s0 s) :
    Same K B s0 (State.throttle s x) := by
  unfold State.throttle
  try dsimp only
  repeat' first
    | with_reducible assumption
    | with_reducible rfl
    | exact mask_sub hK rfl
    | exact le_objAt (Nat.le_trans hB (by decide))
    | exact Nat.le_trans hB (by decide)
    | exact Nat.le_trans hB (by split <;> decide)
    | with_reducible apply State.setOn_same
    | with_reducible apply State.raiseIf_same
    | dsimp only
    | split
    | intro _

theorem State.tempSample_same {K B : Nat} {s0 : State} {s : State} (temps : List Int)
    (hK : K &&& 9076262198507264 = 0) (hB : B ≤ 0x2000002) (hk : Same K B s0 s) :
    Same K B s0 (State.tempSample s temps) := by
  unfold State.tempSample
  try dsimp only
  repeat' first
    | with_reducible assumption
    | with_reducible rfl
    | exact mask_sub hK rfl
    | exact le_objAt (Nat.le_trans hB (by decide))
    | exact Nat.le_trans hB (by decide)
    | exact Nat.le_trans hB (by split <;> decide)
    | with_reducible apply State.setFld_same
    | with_reducible apply State.raiseIf_same
    | with_reducible apply State.raiseFault_same
    | with_reducible apply State.throttle_same
    | dsimp only
    | split
    | intro _

theorem State.bayPower_same {K B : Nat} {s0 : State} {s : State} (b : Nat)
    (hK : K &&& 512 = 0) (hB : B ≤ 0x2100001) (hk : Same K B s0 s) :
    Same K B s0 (State.bayPower s b) := by
  unfold State.bayPower
  try dsimp only
  repeat' first
    | with_reducible assumption
    | with_reducible rfl
    | exact mask_sub hK rfl
    | exact le_objAt (Nat.le_trans hB (by decide))
    | exact Nat.le_trans hB (by decide)
    | exact Nat.le_trans hB (by split <;> decide)
    | with_reducible apply State.setVal_same
    | dsimp only
    | split
    | intro _

theorem State.laneOff_same {K B : Nat} {s0 : State} {s : State} (l : Nat)
    (hK : K &&& 20992 = 0) (hB : B ≤ 0x2000002) (hk : Same K B s0 s) :
    Same K B s0 (State.laneOff s l) := by
  unfold State.laneOff
  try dsimp only
  repeat' first
    | with_reducible assumption
    | with_reducible rfl
    | exact mask_sub hK rfl
    | exact le_objAt (Nat.le_trans hB (by decide))
    | exact Nat.le_trans hB (by decide)
    | exact Nat.le_trans hB (by split <;> decide)
    | with_reducible apply State.modLane_same
    | with_reducible apply State.setMoving_same
    | with_reducible apply State.laneDown_same
    | dsimp only
    | split
    | intro _

theorem State.bayGate_same {K B : Nat} {s0 : State} {s : State} (b : Nat)
    (hK : K &&& 20992 = 0) (hB : B ≤ 0x2000002) (hk : Same K B s0 s) :
    Same K B s0 (State.bayGate s b) := by
  unfold State.bayGate
  try dsimp only
  repeat' first
    | with_reducible assumption
    | with_reducible rfl
    | exact mask_sub hK rfl
    | exact le_objAt (Nat.le_trans hB (by decide))
    | exact Nat.le_trans hB (by decide)
    | exact Nat.le_trans hB (by split <;> decide)
    | with_reducible apply State.setVal_same
    | with_reducible apply State.laneOff_same
    | with_reducible apply Same.foldl
    | with_reducible apply Same.foldl_snd
    | with_reducible apply Same.foldl_fst
    | dsimp only
    | split
    | intro _

theorem State.setPower_same {K B : Nat} {s0 : State} {s : State} (x : Nat)
    (hK : K &&& 16896 = 0) (hB : B ≤ 0x11f00020) (hk : Same K B s0 s) :
    Same K B s0 (State.setPower s x) := by
  unfold State.setPower
  try dsimp only
  repeat' first
    | with_reducible assumption
    | with_reducible rfl
    | exact mask_sub hK rfl
    | exact le_objAt (Nat.le_trans hB (by decide))
    | exact Nat.le_trans hB (by decide)
    | exact Nat.le_trans hB (by split <;> decide)
    | with_reducible apply State.setFld_same
    | with_reducible apply State.raise_same
    | dsimp only
    | split
    | intro _

theorem State.lanesDark_same {K B : Nat} {s0 : State} {s : State}
    (hK : K &&& 20992 = 0) (hB : B ≤ 0x2000002) (hk : Same K B s0 s) :
    Same K B s0 (State.lanesDark s) := by
  unfold State.lanesDark
  try dsimp only
  repeat' first
    | with_reducible assumption
    | with_reducible rfl
    | exact mask_sub hK rfl
    | exact le_objAt (Nat.le_trans hB (by decide))
    | exact Nat.le_trans hB (by decide)
    | exact Nat.le_trans hB (by split <;> decide)
    | with_reducible apply State.bayGate_same
    | with_reducible apply Same.foldl
    | with_reducible apply Same.foldl_snd
    | with_reducible apply Same.foldl_fst
    | dsimp only
    | split
    | intro _

theorem State.enterDoze_same {K B : Nat} {s0 : State} {s : State}
    (hK : K &&& 9103956278006272 = 0) (hB : B ≤ 0x2000002) (hk : Same K B s0 s) :
    Same K B s0 (State.enterDoze s) := by
  unfold State.enterDoze
  try dsimp only
  repeat' first
    | with_reducible assumption
    | with_reducible rfl
    | exact mask_sub hK rfl
    | exact le_objAt (Nat.le_trans hB (by decide))
    | exact Nat.le_trans hB (by decide)
    | exact Nat.le_trans hB (by split <;> decide)
    | with_reducible apply State.banksFollow_same
    | with_reducible apply State.setCore_same
    | with_reducible apply State.stepTaken_same
    | with_reducible apply State.setPower_same
    | with_reducible apply State.lanesDark_same
    | dsimp only
    | split
    | intro _

theorem State.enterActive_same {K B : Nat} {s0 : State} {s : State}
    (hK : K &&& 96757023265280 = 0) (hB : B ≤ 0x2000002) (hk : Same K B s0 s) :
    Same K B s0 (State.enterActive s) := by
  unfold State.enterActive
  try dsimp only
  repeat' first
    | with_reducible assumption
    | with_reducible rfl
    | exact mask_sub hK rfl
    | exact le_objAt (Nat.le_trans hB (by decide))
    | exact Nat.le_trans hB (by decide)
    | exact Nat.le_trans hB (by split <;> decide)
    | with_reducible apply State.bringUp_same
    | with_reducible apply State.banksFollow_same
    | with_reducible apply State.bayPower_same
    | with_reducible apply State.setPower_same
    | with_reducible apply Same.foldl
    | with_reducible apply Same.foldl_snd
    | with_reducible apply Same.foldl_fst
    | dsimp only
    | split
    | intro _

theorem State.dormantPower_same {K B : Nat} {s0 : State} {s : State}
    (hK : K &&& 96757023244800 = 0) (hB : B ≤ 0x14000001) (hk : Same K B s0 s) :
    Same K B s0 (State.dormantPower s) := by
  unfold State.dormantPower
  try dsimp only
  repeat' first
    | with_reducible assumption
    | with_reducible rfl
    | exact mask_sub hK rfl
    | exact le_objAt (Nat.le_trans hB (by decide))
    | exact Nat.le_trans hB (by decide)
    | exact Nat.le_trans hB (by split <;> decide)
    | with_reducible apply State.setFld_same
    | with_reducible apply State.wipeBank_same
    | with_reducible apply Same.foldl
    | with_reducible apply Same.foldl_snd
    | with_reducible apply Same.foldl_fst
    | dsimp only
    | split
    | intro _
    | with_reducible apply Same.upd_retained

theorem State.enterDormant_same {K B : Nat} {s0 : State} {s : State}
    (hK : K &&& 4600356654477976 = 0) (hB : B ≤ 0x2000002) (hk : Same K B s0 s) :
    Same K B s0 (State.enterDormant s) := by
  unfold State.enterDormant
  try dsimp only
  repeat' first
    | with_reducible assumption
    | with_reducible rfl
    | exact mask_sub hK rfl
    | exact le_objAt (Nat.le_trans hB (by decide))
    | exact Nat.le_trans hB (by decide)
    | exact Nat.le_trans hB (by split <;> decide)
    | with_reducible apply State.endWhere_same
    | with_reducible apply State.setPower_same
    | with_reducible apply State.lanesDark_same
    | with_reducible apply State.dormantPower_same
    | dsimp only
    | split
    | intro _
    | with_reducible apply Same.upd_tempo_startup_rails_cvuRuns

theorem State.powerApply_same {K B : Nat} {s0 : State} {s : State} (x : Nat)
    (hK : K &&& 13607555909218968 = 0) (hB : B ≤ 0x2000002) (hk : Same K B s0 s) :
    Same K B s0 (State.powerApply s x) := by
  unfold State.powerApply
  try dsimp only
  repeat' first
    | with_reducible assumption
    | with_reducible rfl
    | exact mask_sub hK rfl
    | exact le_objAt (Nat.le_trans hB (by decide))
    | exact Nat.le_trans hB (by decide)
    | exact Nat.le_trans hB (by split <;> decide)
    | with_reducible apply State.enterDoze_same
    | with_reducible apply State.enterActive_same
    | with_reducible apply State.enterDormant_same
    | dsimp only
    | split
    | intro _

end Sys2Proof.Machine
end

