-- ==== Sys2Proof/Laws/SameVault.lean ====
section
/-! SUPPORT. What the operations of Machine/Vault.lean leave (Same). -/

namespace Sys2Proof.Machine

theorem State.modVault_same {K B : Nat} {s0 : State} {s : State} (f : Vault → Vault)
    (hK : K &&& 144115188075855872 = 0) (hk : Same K B s0 s) :
    Same K B s0 (State.modVault s f) := by
  unfold State.modVault
  try dsimp only
  repeat' first
    | with_reducible assumption
    | with_reducible rfl
    | exact mask_sub hK rfl
    | dsimp only
    | split
    | intro _
    | with_reducible apply Same.upd_vault

theorem State.showBusy_same {K B : Nat} {s0 : State} {s : State}
    (hK : K &&& 512 = 0) (hB : B ≤ 0x17000000) (hk : Same K B s0 s) :
    Same K B s0 (State.showBusy s) := by
  unfold State.showBusy
  try dsimp only
  repeat' first
    | with_reducible assumption
    | with_reducible rfl
    | exact mask_sub hK rfl
    | exact le_objAt (Nat.le_trans hB (by decide))
    | exact Nat.le_trans hB (by decide)
    | exact Nat.le_trans hB (by split <;> decide)
    | with_reducible apply State.setOn_same
    | dsimp only
    | split
    | intro _

theorem State.showKeys_same {K B : Nat} {s0 : State} {s : State}
    (hK : K &&& 512 = 0) (hB : B ≤ 0x17000000) (hk : Same K B s0 s) :
    Same K B s0 (State.showKeys s) := by
  unfold State.showKeys
  try dsimp only
  repeat' first
    | with_reducible assumption
    | with_reducible rfl
    | exact mask_sub hK rfl
    | exact le_objAt (Nat.le_trans hB (by decide))
    | exact Nat.le_trans hB (by decide)
    | exact Nat.le_trans hB (by split <;> decide)
    | with_reducible apply State.setFld_same
    | with_reducible apply State.setOn_same
    | with_reducible apply Same.foldl
    | with_reducible apply Same.foldl_snd
    | with_reducible apply Same.foldl_fst
    | dsimp only
    | split
    | intro _

theorem State.imageWord_same {K B : Nat} {s0 : State} {s : State} (i : Nat) (w : Word)
    (hK : K &&& 144115188075855872 = 0) (hk : Same K B s0 s) :
    Same K B s0 (State.imageWord s i w) := by
  unfold State.imageWord
  try dsimp only
  repeat' first
    | with_reducible assumption
    | with_reducible rfl
    | exact mask_sub hK rfl
    | with_reducible apply State.modVault_same
    | dsimp only
    | split
    | intro _

theorem State.fwVerify_same {K B : Nat} {s0 : State} {s : State}
    (hK : K &&& 144115188075856384 = 0) (hB : B ≤ 0x17000000) (hk : Same K B s0 s) :
    Same K B s0 (State.fwVerify s).2 := by
  unfold State.fwVerify
  try dsimp only
  repeat' first
    | with_reducible assumption
    | with_reducible rfl
    | exact mask_sub hK rfl
    | exact le_objAt (Nat.le_trans hB (by decide))
    | exact Nat.le_trans hB (by decide)
    | exact Nat.le_trans hB (by split <;> decide)
    | with_reducible apply State.modVault_same
    | with_reducible apply State.showBusy_same
    | dsimp only
    | split
    | intro _

theorem State.fwVerified_same {K B : Nat} {s0 : State} {s : State} (flashOk : Bool)
    (hK : K &&& 144115188075872768 = 0) (hB : B ≤ 0x11f00020) (hk : Same K B s0 s) :
    Same K B s0 (State.fwVerified s flashOk) := by
  unfold State.fwVerified
  try dsimp only
  repeat' first
    | with_reducible assumption
    | with_reducible rfl
    | exact mask_sub hK rfl
    | exact le_objAt (Nat.le_trans hB (by decide))
    | exact Nat.le_trans hB (by decide)
    | exact Nat.le_trans hB (by split <;> decide)
    | with_reducible apply State.setFld_same
    | with_reducible apply State.raiseIf_same
    | with_reducible apply State.modVault_same
    | with_reducible apply State.showBusy_same
    | dsimp only
    | split
    | intro _

theorem State.loadFrom_same {K B : Nat} {s0 : State} {s : State} (im : Image)
    (hK : K &&& 3858960 = 0) (hB : B ≤ 0xe000022) (hk : Same K B s0 s) :
    Same K B s0 (State.loadFrom s im) := by
  unfold State.loadFrom
  try dsimp only
  repeat' first
    | with_reducible assumption
    | with_reducible rfl
    | exact mask_sub hK rfl
    | exact le_objAt (Nat.le_trans hB (by decide))
    | exact Nat.le_trans hB (by decide)
    | exact Nat.le_trans hB (by split <;> decide)
    | with_reducible apply State.setFld_same
    | with_reducible apply State.setOn_same
    | with_reducible apply State.endWhere_same
    | dsimp only
    | split
    | intro _
    | with_reducible apply Same.upd_startup

theorem State.fwActivate_same {K B : Nat} {s0 : State} {s : State}
    (hK : K &&& 144115188079714832 = 0) (hB : B ≤ 0xe000022) (hk : Same K B s0 s) :
    Same K B s0 (State.fwActivate s).2 := by
  unfold State.fwActivate
  try dsimp only
  repeat' first
    | with_reducible assumption
    | with_reducible rfl
    | exact mask_sub hK rfl
    | exact le_objAt (Nat.le_trans hB (by decide))
    | exact Nat.le_trans hB (by decide)
    | exact Nat.le_trans hB (by split <;> decide)
    | with_reducible apply State.setFld_same
    | with_reducible apply State.modVault_same
    | with_reducible apply State.loadFrom_same
    | dsimp only
    | split
    | intro _

theorem State.setKeys_same {K B : Nat} {s0 : State} {s : State} (keys : Map (List Byte))
    (hK : K &&& 144115188075856384 = 0) (hB : B ≤ 0x17000000) (hk : Same K B s0 s) :
    Same K B s0 (State.setKeys s keys) := by
  unfold State.setKeys
  try dsimp only
  repeat' first
    | with_reducible assumption
    | with_reducible rfl
    | exact mask_sub hK rfl
    | exact le_objAt (Nat.le_trans hB (by decide))
    | exact Nat.le_trans hB (by decide)
    | exact Nat.le_trans hB (by split <;> decide)
    | with_reducible apply State.modVault_same
    | with_reducible apply State.showKeys_same
    | dsimp only
    | split
    | intro _

theorem State.importFails_same {K B : Nat} {s0 : State} {s : State}
    (hK : K &&& 16896 = 0) (hB : B ≤ 0x11f00020) (hk : Same K B s0 s) :
    Same K B s0 (State.importFails s).2 := by
  unfold State.importFails
  try dsimp only
  repeat' first
    | with_reducible assumption
    | with_reducible rfl
    | exact mask_sub hK rfl
    | exact le_objAt (Nat.le_trans hB (by decide))
    | exact Nat.le_trans hB (by decide)
    | exact Nat.le_trans hB (by split <;> decide)
    | with_reducible apply State.raise_same
    | dsimp only
    | split
    | intro _

theorem State.importItem_same {K B : Nat} {s0 : State} {s : State} (item : List Word)
    (hK : K &&& 144115188075872768 = 0) (hB : B ≤ 0x11f00020) (hk : Same K B s0 s) :
    Same K B s0 (State.importItem s item).2 := by
  unfold State.importItem
  try dsimp only
  repeat' first
    | with_reducible assumption
    | with_reducible rfl
    | exact mask_sub hK rfl
    | exact le_objAt (Nat.le_trans hB (by decide))
    | exact Nat.le_trans hB (by decide)
    | exact Nat.le_trans hB (by split <;> decide)
    | with_reducible apply State.setKeys_same
    | with_reducible apply State.importFails_same
    | dsimp only
    | split
    | intro _

theorem State.importWord_same {K B : Nat} {s0 : State} {s : State} (n : Nat) (w : Word)
    (hK : K &&& 144115188075872768 = 0) (hB : B ≤ 0x11f00020) (hk : Same K B s0 s) :
    Same K B s0 (State.importWord s n w).2 := by
  unfold State.importWord
  try dsimp only
  repeat' first
    | with_reducible assumption
    | with_reducible rfl
    | exact mask_sub hK rfl
    | exact le_objAt (Nat.le_trans hB (by decide))
    | exact Nat.le_trans hB (by decide)
    | exact Nat.le_trans hB (by split <;> decide)
    | with_reducible apply State.setSession_same
    | with_reducible apply State.importItem_same
    | dsimp only
    | split
    | intro _

theorem State.rekeyWord_same {K B : Nat} {s0 : State} {s : State} (n : Nat) (w : Word)
    (hK : K &&& 16640 = 0) (hk : Same K B s0 s) :
    Same K B s0 (State.rekeyWord s n w).2 := by
  unfold State.rekeyWord
  try dsimp only
  repeat' first
    | with_reducible assumption
    | with_reducible rfl
    | exact mask_sub hK rfl
    | with_reducible apply State.setSession_same
    | with_reducible apply State.drawn_same
    | dsimp only
    | split
    | intro _

theorem State.rekeyed_same {K B : Nat} {s0 : State} {s : State} (n : Nat)
    (hK : K &&& 16384 = 0) (hk : Same K B s0 s) :
    Same K B s0 (State.rekeyed s n) := by
  unfold State.rekeyed
  try dsimp only
  repeat' first
    | with_reducible assumption
    | with_reducible rfl
    | exact mask_sub hK rfl
    | with_reducible apply State.modSession_same
    | dsimp only
    | split
    | intro _

theorem State.wipeStart_same {K B : Nat} {s0 : State} {s : State}
    (hK : K &&& 144115188075856384 = 0) (hB : B ≤ 0x17000000) (hk : Same K B s0 s) :
    Same K B s0 (State.wipeStart s) := by
  unfold State.wipeStart
  try dsimp only
  repeat' first
    | with_reducible assumption
    | with_reducible rfl
    | exact mask_sub hK rfl
    | exact le_objAt (Nat.le_trans hB (by decide))
    | exact Nat.le_trans hB (by decide)
    | exact Nat.le_trans hB (by split <;> decide)
    | with_reducible apply State.modVault_same
    | with_reducible apply State.showBusy_same
    | dsimp only
    | split
    | intro _

theorem State.wipeByKey_same {K B : Nat} {s0 : State} {s : State}
    (hK : K &&& 144115188075856384 = 0) (hB : B ≤ 0x17000000) (hk : Same K B s0 s) :
    Same K B s0 (State.wipeByKey s).2 := by
  unfold State.wipeByKey
  try dsimp only
  repeat' first
    | with_reducible assumption
    | with_reducible rfl
    | exact mask_sub hK rfl
    | exact le_objAt (Nat.le_trans hB (by decide))
    | exact Nat.le_trans hB (by decide)
    | exact Nat.le_trans hB (by split <;> decide)
    | with_reducible apply State.wipeStart_same
    | dsimp only
    | split
    | intro _

theorem State.wiped_same {K B : Nat} {s0 : State} {s : State}
    (hK : K &&& 144115188075872768 = 0) (hB : B ≤ 0x11f00020) (hk : Same K B s0 s) :
    Same K B s0 (State.wiped s) := by
  unfold State.wiped
  try dsimp only
  repeat' first
    | with_reducible assumption
    | with_reducible rfl
    | exact mask_sub hK rfl
    | exact le_objAt (Nat.le_trans hB (by decide))
    | exact Nat.le_trans hB (by decide)
    | exact Nat.le_trans hB (by split <;> decide)
    | with_reducible apply State.setFld_same
    | with_reducible apply State.raise_same
    | with_reducible apply State.modVault_same
    | with_reducible apply State.showBusy_same
    | with_reducible apply State.showKeys_same
    | dsimp only
    | split
    | intro _
    | with_reducible apply Same.upd_sessions

theorem State.setSealed_same {K B : Nat} {s0 : State} {s : State} (b : Bool)
    (hK : K &&& 144115188075856384 = 0) (hB : B ≤ 0x1000000) (hk : Same K B s0 s) :
    Same K B s0 (State.setSealed s b) := by
  unfold State.setSealed
  try dsimp only
  repeat' first
    | with_reducible assumption
    | with_reducible rfl
    | exact mask_sub hK rfl
    | exact le_objAt (Nat.le_trans hB (by decide))
    | exact Nat.le_trans hB (by decide)
    | exact Nat.le_trans hB (by split <;> decide)
    | with_reducible apply State.setFld_same
    | with_reducible apply State.setOn_same
    | with_reducible apply State.modVault_same
    | dsimp only
    | split
    | intro _

theorem State.tamperClear_same {K B : Nat} {s0 : State} {s : State}
    (hK : K &&& 512 = 0) (hB : B ≤ 0x17000000) (hk : Same K B s0 s) :
    Same K B s0 (State.tamperClear s) := by
  unfold State.tamperClear
  try dsimp only
  repeat' first
    | with_reducible assumption
    | with_reducible rfl
    | exact mask_sub hK rfl
    | exact le_objAt (Nat.le_trans hB (by decide))
    | exact Nat.le_trans hB (by decide)
    | exact Nat.le_trans hB (by split <;> decide)
    | with_reducible apply State.setFld_same
    | with_reducible apply State.setOn_same
    | dsimp only
    | split
    | intro _

theorem State.enterLifecycle_same {K B : Nat} {s0 : State} {s : State} (st : Nat)
    (hK : K &&& 144115188612743680 = 0) (hB : B ≤ 0x1000000) (hk : Same K B s0 s) :
    Same K B s0 (State.enterLifecycle s st) := by
  unfold State.enterLifecycle
  try dsimp only
  repeat' first
    | with_reducible assumption
    | with_reducible rfl
    | exact mask_sub hK rfl
    | exact le_objAt (Nat.le_trans hB (by decide))
    | exact Nat.le_trans hB (by decide)
    | exact Nat.le_trans hB (by split <;> decide)
    | with_reducible apply State.setFld_same
    | with_reducible apply State.setOn_same
    | with_reducible apply State.showOuts_same
    | with_reducible apply State.modVault_same
    | with_reducible apply State.setSealed_same
    | with_reducible apply State.tamperClear_same
    | dsimp only
    | split
    | intro _

theorem State.lifecycleApply_same {K B : Nat} {s0 : State} {s : State} (st : Nat) (words : List Word)
    (hK : K &&& 144115188079714816 = 0) (hB : B ≤ 0xe000022) (hk : Same K B s0 s) :
    Same K B s0 (State.lifecycleApply s st words) := by
  unfold State.lifecycleApply
  try dsimp only
  repeat' first
    | with_reducible assumption
    | with_reducible rfl
    | exact mask_sub hK rfl
    | exact le_objAt (Nat.le_trans hB (by decide))
    | exact Nat.le_trans hB (by decide)
    | exact Nat.le_trans hB (by split <;> decide)
    | with_reducible apply State.endWhere_same
    | with_reducible apply State.modVault_same
    | with_reducible apply State.wipeStart_same
    | with_reducible apply Same.foldl
    | with_reducible apply Same.foldl_snd
    | with_reducible apply Same.foldl_fst
    | dsimp only
    | split
    | intro _

theorem State.wipeDone_same {K B : Nat} {s0 : State} {s : State}
    (hK : K &&& 144115188612743680 = 0) (hB : B ≤ 0x1000000) (hk : Same K B s0 s) :
    Same K B s0 (State.wipeDone s) := by
  unfold State.wipeDone
  try dsimp only
  repeat' first
    | with_reducible assumption
    | with_reducible rfl
    | exact mask_sub hK rfl
    | exact le_objAt (Nat.le_trans hB (by decide))
    | exact Nat.le_trans hB (by decide)
    | exact Nat.le_trans hB (by split <;> decide)
    | with_reducible apply State.modVault_same
    | with_reducible apply State.setKeys_same
    | with_reducible apply State.wiped_same
    | with_reducible apply State.enterLifecycle_same
    | dsimp only
    | split
    | intro _

theorem State.halt_same {K B : Nat} {s0 : State} {s : State}
    (hK : K &&& 9126826496 = 0) (hB : B ≤ 0xb100010) (hk : Same K B s0 s) :
    Same K B s0 (State.halt s) := by
  unfold State.halt
  try dsimp only
  repeat' first
    | with_reducible assumption
    | with_reducible rfl
    | exact mask_sub hK rfl
    | exact le_objAt (Nat.le_trans hB (by decide))
    | exact Nat.le_trans hB (by decide)
    | exact Nat.le_trans hB (by split <;> decide)
    | with_reducible apply State.setOn_same
    | with_reducible apply State.modLane_same
    | with_reducible apply State.showOuts_same
    | with_reducible apply State.tandemDrop_same
    | with_reducible apply Same.foldl
    | with_reducible apply Same.foldl_snd
    | with_reducible apply Same.foldl_fst
    | dsimp only
    | split
    | intro _

theorem State.tamperNow_same {K B : Nat} {s0 : State} {s : State} (i : Nat)
    (hK : K &&& 144115197202682368 = 0) (hB : B ≤ 0xb100010) (hk : Same K B s0 s) :
    Same K B s0 (State.tamperNow s i) := by
  unfold State.tamperNow
  try dsimp only
  repeat' first
    | with_reducible assumption
    | with_reducible rfl
    | exact mask_sub hK rfl
    | exact le_objAt (Nat.le_trans hB (by decide))
    | exact Nat.le_trans hB (by decide)
    | exact Nat.le_trans hB (by split <;> decide)
    | with_reducible apply State.setFld_same
    | with_reducible apply State.setOn_same
    | with_reducible apply State.bump_same
    | with_reducible apply State.raise_same
    | with_reducible apply State.modVault_same
    | with_reducible apply State.wipeStart_same
    | with_reducible apply State.halt_same
    | dsimp only
    | split
    | intro _

theorem State.tamper_same {K B : Nat} {s0 : State} {s : State} (i : Nat) (level : Bool)
    (hK : K &&& 144115197202682368 = 0) (hB : B ≤ 0xb100010) (hk : Same K B s0 s) :
    Same K B s0 (State.tamper s i level) := by
  unfold State.tamper
  try dsimp only
  repeat' first
    | with_reducible assumption
    | with_reducible rfl
    | exact mask_sub hK rfl
    | exact le_objAt (Nat.le_trans hB (by decide))
    | exact Nat.le_trans hB (by decide)
    | exact Nat.le_trans hB (by split <;> decide)
    | with_reducible apply State.setFld_same
    | with_reducible apply State.tamperNow_same
    | dsimp only
    | split
    | intro _

theorem State.entropyFails_same {K B : Nat} {s0 : State} {s : State}
    (hK : K &&& 144115188075872768 = 0) (hB : B ≤ 0x11f00020) (hk : Same K B s0 s) :
    Same K B s0 (State.entropyFails s) := by
  unfold State.entropyFails
  try dsimp only
  repeat' first
    | with_reducible assumption
    | with_reducible rfl
    | exact mask_sub hK rfl
    | exact le_objAt (Nat.le_trans hB (by decide))
    | exact Nat.le_trans hB (by decide)
    | exact Nat.le_trans hB (by split <;> decide)
    | with_reducible apply State.setOn_same
    | with_reducible apply State.raise_same
    | with_reducible apply State.modVault_same
    | dsimp only
    | split
    | intro _

theorem State.vaultUp_same {K B : Nat} {s0 : State} {s : State}
    (hK : K &&& 144115188075872768 = 0) (hB : B ≤ 0x11f00020) (hk : Same K B s0 s) :
    Same K B s0 (State.vaultUp s) := by
  unfold State.vaultUp
  try dsimp only
  repeat' first
    | with_reducible assumption
    | with_reducible rfl
    | exact mask_sub hK rfl
    | exact le_objAt (Nat.le_trans hB (by decide))
    | exact Nat.le_trans hB (by decide)
    | exact Nat.le_trans hB (by split <;> decide)
    | with_reducible apply State.setFld_same
    | with_reducible apply State.setOn_same
    | with_reducible apply State.modVault_same
    | with_reducible apply State.showKeys_same
    | with_reducible apply State.wiped_same
    | dsimp only
    | split
    | intro _

end Sys2Proof.Machine
end

