-- ==== Sys2Proof/Laws/SamePins.lean ====
section
/-! SUPPORT. What the operations of Machine/Pins.lean leave (Same). -/

namespace Sys2Proof.Machine

theorem State.modPin_same {K B : Nat} {s0 : State} {s : State} (u : Nat) (f : Pin → Pin)
    (hK : K &&& 288230376151711744 = 0) (hk : Same K B s0 s) :
    Same K B s0 (State.modPin s u f) := by
  unfold State.modPin
  try dsimp only
  repeat' first
    | with_reducible assumption
    | with_reducible rfl
    | exact mask_sub hK rfl
    | with_reducible apply State.setPin_same
    | dsimp only
    | split
    | intro _

theorem State.showUtility_same {K B : Nat} {s0 : State} {s : State} (u : Nat)
    (hK : K &&& 512 = 0) (hB : B ≤ 0x18000001) (hk : Same K B s0 s) :
    Same K B s0 (State.showUtility s u) := by
  unfold State.showUtility
  try dsimp only
  repeat' first
    | with_reducible assumption
    | with_reducible rfl
    | exact mask_sub hK rfl
    | exact le_objAt (Nat.le_trans hB (by decide))
    | exact Nat.le_trans hB (by decide)
    | exact Nat.le_trans hB (by split <;> decide)
    | with_reducible apply State.setOn_same
    | dsimp only
    | split
    | intro _

theorem State.pinWrite_same {K B : Nat} {s0 : State} {s : State} (u : Nat) (v : Val)
    (hK : K &&& 288230376151712256 = 0) (hB : B ≤ 0x18000000) (hk : Same K B s0 s) :
    Same K B s0 (State.pinWrite s u v) := by
  unfold State.pinWrite
  try dsimp only
  repeat' first
    | with_reducible assumption
    | with_reducible rfl
    | exact mask_sub hK rfl
    | exact le_objAt (Nat.le_trans hB (by decide))
    | exact Nat.le_trans hB (by decide)
    | exact Nat.le_trans hB (by split <;> decide)
    | with_reducible apply State.setVal_same
    | with_reducible apply State.modPin_same
    | with_reducible apply State.showUtility_same
    | dsimp only
    | split
    | intro _

theorem State.pinEffect_same {K B : Nat} {s0 : State} {s : State} (u : Nat)
    (hK : K &&& 288230376151712256 = 0) (hB : B ≤ 0x18000001) (hk : Same K B s0 s) :
    Same K B s0 (State.pinEffect s u) := by
  unfold State.pinEffect
  try dsimp only
  repeat' first
    | with_reducible assumption
    | with_reducible rfl
    | exact mask_sub hK rfl
    | exact le_objAt (Nat.le_trans hB (by decide))
    | exact Nat.le_trans hB (by decide)
    | exact Nat.le_trans hB (by split <;> decide)
    | with_reducible apply State.modPin_same
    | with_reducible apply State.showUtility_same
    | dsimp only
    | split
    | intro _

theorem State.parkEnd_same {K B : Nat} {s0 : State} {s : State} (u : Nat)
    (hK : K &&& 288230376151712256 = 0) (hB : B ≤ 0x18000001) (hk : Same K B s0 s) :
    Same K B s0 (State.parkEnd s u) := by
  unfold State.parkEnd
  try dsimp only
  repeat' first
    | with_reducible assumption
    | with_reducible rfl
    | exact mask_sub hK rfl
    | exact le_objAt (Nat.le_trans hB (by decide))
    | exact Nat.le_trans hB (by decide)
    | exact Nat.le_trans hB (by split <;> decide)
    | with_reducible apply State.modPin_same
    | with_reducible apply State.showUtility_same
    | dsimp only
    | split
    | intro _

end Sys2Proof.Machine
end

