-- ==== Sys2Proof/Laws/SameRecovery.lean ====
section
/-! SUPPORT. What the operations of Machine/Recovery.lean leave (Same). -/

namespace Sys2Proof.Machine

theorem State.loadSealed_same {K B : Nat} {s0 : State} {s : State}
    (hK : K &&& 512 = 0) (hB : B ≤ 0x1000000) (hk : Same K B s0 s) :
    Same K B s0 (State.loadSealed s) := by
  unfold State.loadSealed
  try dsimp only
  repeat' first
    | with_reducible assumption
    | with_reducible rfl
    | exact mask_sub hK rfl
    | exact le_objAt (Nat.le_trans hB (by decide))
    | exact Nat.le_trans hB (by decide)
    | exact Nat.le_trans hB (by split <;> decide)
    | with_reducible apply State.setOn_same
    | dsimp only
    | split
    | intro _

theorem State.sampleStraps_same {K B : Nat} {s0 : State} {s : State}
    (hK : K &&& 512 = 0) (hB : B ≤ 0x1) (hk : Same K B s0 s) :
    Same K B s0 (State.sampleStraps s) := by
  unfold State.sampleStraps
  try dsimp only
  repeat' first
    | with_reducible assumption
    | with_reducible rfl
    | exact mask_sub hK rfl
    | exact le_objAt (Nat.le_trans hB (by decide))
    | exact Nat.le_trans hB (by decide)
    | exact Nat.le_trans hB (by split <;> decide)
    | with_reducible apply State.setFld_same
    | with_reducible apply State.setOn_same
    | with_reducible apply Same.foldl
    | with_reducible apply Same.foldl_snd
    | with_reducible apply Same.foldl_fst
    | dsimp only
    | split
    | intro _

theorem State.warmBase_same {K B : Nat} {s0 : State} {s : State}
    (hK : K &&& 576390383559245336 = 0) (hB : B ≤ 0) (hk : Same K B s0 s) :
    Same K B s0 (State.warmBase s) := by
  constructor
  case objs => exact fun o ho => absurd (Nat.lt_of_lt_of_le ho hB) (Nat.not_lt_zero o)
  case pending => exact hk.pending
  case now => exact hk.now
  case dts => exact hk.dts
  case straps => exact hk.straps
  case resetLow => exact hk.resetLow
  case rails => exact hk.rails
  case free => exact hk.free
  case retained => exact hk.retained
  all_goals exact fun k => absurd k (by rw [mask_bit (mask_sub hK rfl)]; exact Bool.noConfusion)

theorem State.warmShow_same {K B : Nat} {s0 : State} {s : State}
    (hK : K &&& 512 = 0) (hB : B ≤ 0x1000000) (hk : Same K B s0 s) :
    Same K B s0 (State.warmShow s) := by
  unfold State.warmShow
  try dsimp only
  repeat' first
    | with_reducible assumption
    | with_reducible rfl
    | exact mask_sub hK rfl
    | exact le_objAt (Nat.le_trans hB (by decide))
    | exact Nat.le_trans hB (by decide)
    | exact Nat.le_trans hB (by split <;> decide)
    | with_reducible apply State.setFld_same
    | with_reducible apply State.setOn_same
    | with_reducible apply State.showPin_same
    | with_reducible apply State.showBusy_same
    | with_reducible apply State.showUtility_same
    | with_reducible apply State.loadSealed_same
    | with_reducible apply Same.foldl
    | with_reducible apply Same.foldl_snd
    | with_reducible apply Same.foldl_fst
    | dsimp only
    | split
    | intro _

theorem State.warmReset_same {K B : Nat} {s0 : State} {s : State}
    (hK : K &&& 576390383559245592 = 0) (hB : B ≤ 0) (hk : Same K B s0 s) :
    Same K B s0 (State.warmReset s) := by
  unfold State.warmReset
  try dsimp only
  repeat' first
    | with_reducible assumption
    | with_reducible rfl
    | exact mask_sub hK rfl
    | exact Nat.le_trans hB (Nat.zero_le _)
    | with_reducible apply State.raise_same
    | with_reducible apply State.setLoop_same
    | with_reducible apply State.settle_same
    | with_reducible apply State.freewheelValue_same
    | with_reducible apply State.sampleStraps_same
    | with_reducible apply State.warmBase_same
    | with_reducible apply State.warmShow_same
    | dsimp only
    | split
    | intro _

theorem State.settleReset_same {K B : Nat} {s0 : State} {s : State}
    (hK : K &&& 576390383559245592 = 0) (hB : B ≤ 0) (hk : Same K B s0 s) :
    Same K B s0 (State.settleReset s) := by
  unfold State.settleReset
  try dsimp only
  repeat' first
    | with_reducible assumption
    | with_reducible rfl
    | exact mask_sub hK rfl
    | exact Nat.le_trans hB (Nat.zero_le _)
    | with_reducible apply State.warmReset_same
    | dsimp only
    | split
    | intro _

theorem State.blank_same {K B : Nat} {s0 : State} {s : State}
    (hK : K &&& 576460752303423132 = 0) (hB : B ≤ 0) (hk : Same K B s0 s) :
    Same K B s0 (State.blank s) := by
  unfold State.blank
  dsimp only
  with_reducible apply State.setFld_same
  case hK => exact mask_sub hK rfl
  case hB0 => exact Nat.le_trans hB (Nat.zero_le _)
  with_reducible apply State.loadSealed_same
  case hK => exact mask_sub hK rfl
  case hB => exact Nat.le_trans hB (Nat.zero_le _)
  constructor
  case objs => exact fun o ho => absurd (Nat.lt_of_lt_of_le ho hB) (Nat.not_lt_zero o)
  case pending => exact hk.pending
  case now => exact hk.now
  case straps => exact hk.straps
  case resetLow => exact hk.resetLow
  case free => exact hk.free
  all_goals exact fun k => absurd k (by rw [mask_bit (mask_sub hK rfl)]; exact Bool.noConfusion)

theorem State.keepLatches_same {K B : Nat} {s0 : State} (old : State) {s : State}
    (hK : K &&& 144119586122367488 = 0) (hB : B ≤ 0x15f00001) (hk : Same K B s0 s) :
    Same K B s0 (State.keepLatches old s) := by
  unfold State.keepLatches
  try dsimp only
  repeat' first
    | with_reducible assumption
    | with_reducible rfl
    | exact mask_sub hK rfl
    | exact le_objAt (Nat.le_trans hB (by decide))
    | exact Nat.le_trans hB (by decide)
    | exact Nat.le_trans hB (by split <;> decide)
    | with_reducible apply State.setFld_same
    | with_reducible apply State.setOn_same
    | dsimp only
    | split
    | intro _
    | with_reducible apply Same.upd_faults_vault

theorem State.restore_same {K B : Nat} {s0 : State} {s : State} (d : Map Val)
    (hK : K &&& 512 = 0) (hB : B ≤ 0) (hk : Same K B s0 s) :
    Same K B s0 (State.restore s d) := by
  unfold State.restore
  try dsimp only
  repeat' first
    | with_reducible assumption
    | with_reducible rfl
    | exact mask_sub hK rfl
    | exact Nat.le_trans hB (Nat.zero_le _)
    | with_reducible apply State.setVal_same
    | with_reducible apply Same.foldl
    | with_reducible apply Same.foldl_snd
    | with_reducible apply Same.foldl_fst
    | dsimp only
    | split
    | intro _

theorem State.keepRetention_same {K B : Nat} {s0 : State} (old : State) {s : State}
    (hK : K &&& 4398314947072 = 0) (hB : B ≤ 0) (hk : Same K B s0 s) :
    Same K B s0 (State.keepRetention old s) := by
  unfold State.keepRetention
  try dsimp only
  repeat' first
    | with_reducible assumption
    | with_reducible rfl
    | exact mask_sub hK rfl
    | exact Nat.le_trans hB (Nat.zero_le _)
    | with_reducible apply State.restore_same
    | dsimp only
    | split
    | intro _
    | with_reducible apply Same.upd_timing_faults

theorem State.wakeUp_same {K B : Nat} {s0 : State} {s : State} (mac : Option Nat)
    (hK : K &&& 576460752303423132 = 0) (hB : B ≤ 0) (hk : Same K B s0 s) :
    Same K B s0 (State.wakeUp s mac) := by
  unfold State.wakeUp
  try dsimp only
  repeat' first
    | with_reducible assumption
    | with_reducible rfl
    | exact mask_sub hK rfl
    | exact Nat.le_trans hB (Nat.zero_le _)
    | with_reducible apply State.setFld_same
    | with_reducible apply State.setOn_same
    | with_reducible apply State.blank_same
    | with_reducible apply State.keepLatches_same
    | with_reducible apply State.restore_same
    | with_reducible apply State.keepRetention_same
    | dsimp only
    | split
    | intro _
    | with_reducible apply Same.upd_startup_banks_retained

theorem State.brownout_same {K B : Nat} {s0 : State} {s : State}
    (hK : K &&& 576460752303423388 = 0) (hB : B ≤ 0) (hk : Same K B s0 s) :
    Same K B s0 (State.brownout s) := by
  unfold State.brownout
  try dsimp only
  repeat' first
    | with_reducible assumption
    | with_reducible rfl
    | exact mask_sub hK rfl
    | exact Nat.le_trans hB (Nat.zero_le _)
    | with_reducible apply State.drawn_same
    | with_reducible apply State.blank_same
    | with_reducible apply State.keepLatches_same
    | with_reducible apply State.keepRetention_same
    | dsimp only
    | split
    | intro _

theorem State.faultIn_same {K B : Nat} {s0 : State} {s : State} (f : FaultIn)
    (hK : K &&& 576390383559245592 = 0) (hB : B ≤ 0) (hk : Same K B s0 s) :
    Same K B s0 (State.faultIn s f) := by
  unfold State.faultIn
  try dsimp only
  repeat' first
    | with_reducible assumption
    | with_reducible rfl
    | exact mask_sub hK rfl
    | exact Nat.le_trans hB (Nat.zero_le _)
    | with_reducible apply State.raiseFault_same
    | with_reducible apply State.settleReset_same
    | dsimp only
    | split
    | intro _
    | with_reducible apply Same.upd_tempo_tempoHeld

theorem State.dccClockLost_same {K B : Nat} {s0 : State} {s : State} (pair : Nat)
    (hK : K &&& 576390383559245592 = 0) (hB : B ≤ 0) (hk : Same K B s0 s) :
    Same K B s0 (State.dccClockLost s pair) := by
  unfold State.dccClockLost
  try dsimp only
  repeat' first
    | with_reducible assumption
    | with_reducible rfl
    | exact mask_sub hK rfl
    | exact Nat.le_trans hB (Nat.zero_le _)
    | with_reducible apply State.pairClock_same
    | with_reducible apply State.faultIn_same
    | dsimp only
    | split
    | intro _

theorem State.fatalIn_same {K B : Nat} {s0 : State} {s : State} (f : FaultIn)
    (hK : K &&& 576390383559245592 = 0) (hB : B ≤ 0) (hk : Same K B s0 s) :
    Same K B s0 (State.fatalIn s f) := by
  unfold State.fatalIn
  try dsimp only
  repeat' first
    | with_reducible assumption
    | with_reducible rfl
    | exact mask_sub hK rfl
    | exact Nat.le_trans hB (Nat.zero_le _)
    | with_reducible apply State.faultIn_same
    | dsimp only
    | split
    | intro _

end Sys2Proof.Machine
end

