-- ==== Sys2Proof/Laws/SameStartup.lean ====
section
/-! SUPPORT. What the operations of Machine/Startup.lean leave (Same). -/

namespace Sys2Proof.Machine

theorem State.aonGood_same {K B : Nat} {s0 : State} {s : State} (straps : Straps) (flash : Option (List Image))
    (hK : K &&& 144115188075855920 = 0) (hk : Same K B s0 s) :
    Same K B s0 (State.aonGood s straps flash) := by
  unfold State.aonGood
  try dsimp only
  repeat' first
    | with_reducible assumption
    | with_reducible rfl
    | exact mask_sub hK rfl
    | dsimp only
    | split
    | intro _
    | with_reducible apply Same.upd_startup_vault
    | with_reducible apply Same.upd_startup_straps_vault

theorem State.railGood_same {K B : Nat} {s0 : State} {s : State} (k : Nat)
    (hK : K &&& 656 = 0) (hB : B ≤ 0x1) (hk : Same K B s0 s) :
    Same K B s0 (State.railGood s k) := by
  unfold State.railGood
  try dsimp only
  repeat' first
    | with_reducible assumption
    | with_reducible rfl
    | exact mask_sub hK rfl
    | exact le_objAt (Nat.le_trans hB (by decide))
    | exact Nat.le_trans hB (by decide)
    | exact Nat.le_trans hB (by split <;> decide)
    | with_reducible apply State.sampleStraps_same
    | dsimp only
    | split
    | intro _
    | with_reducible apply Same.upd_rails
    | with_reducible apply Same.upd_startup
    | with_reducible apply Same.upd_startup_rails

theorem State.startupStops_same {K B : Nat} {s0 : State} {s : State}
    (hK : K &&& 4407173337752 = 0) (hB : B ≤ 0xb100010) (hk : Same K B s0 s) :
    Same K B s0 (State.startupStops s) := by
  unfold State.startupStops
  try dsimp only
  repeat' first
    | with_reducible assumption
    | with_reducible rfl
    | exact mask_sub hK rfl
    | exact le_objAt (Nat.le_trans hB (by decide))
    | exact Nat.le_trans hB (by decide)
    | exact Nat.le_trans hB (by split <;> decide)
    | with_reducible apply State.fatalNow_same
    | dsimp only
    | split
    | intro _
    | with_reducible apply Same.upd_tempo_startup_rails

theorem State.railLate_same {K B : Nat} {s0 : State} {s : State} (k : Nat)
    (hK : K &&& 4407173337752 = 0) (hB : B ≤ 0xb100010) (hk : Same K B s0 s) :
    Same K B s0 (State.railLate s k) := by
  unfold State.railLate
  try dsimp only
  repeat' first
    | with_reducible assumption
    | with_reducible rfl
    | exact mask_sub hK rfl
    | exact le_objAt (Nat.le_trans hB (by decide))
    | exact Nat.le_trans hB (by decide)
    | exact Nat.le_trans hB (by split <;> decide)
    | with_reducible apply State.startupStops_same
    | dsimp only
    | split
    | intro _

theorem State.noFlywheel_same {K B : Nat} {s0 : State} {s : State}
    (hK : K &&& 9076262198507416 = 0) (hB : B ≤ 0x2000002) (hk : Same K B s0 s) :
    Same K B s0 (State.noFlywheel s) := by
  unfold State.noFlywheel
  try dsimp only
  repeat' first
    | with_reducible assumption
    | with_reducible rfl
    | exact mask_sub hK rfl
    | exact le_objAt (Nat.le_trans hB (by decide))
    | exact Nat.le_trans hB (by decide)
    | exact Nat.le_trans hB (by split <;> decide)
    | with_reducible apply State.raiseFault_same
    | with_reducible apply State.startupStops_same
    | dsimp only
    | split
    | intro _

theorem State.tempoStarts_same {K B : Nat} {s0 : State} {s : State}
    (hK : K &&& 281474976710684 = 0) (hk : Same K B s0 s) :
    Same K B s0 (State.tempoStarts s) := by
  unfold State.tempoStarts
  try dsimp only
  repeat' first
    | with_reducible assumption
    | with_reducible rfl
    | exact mask_sub hK rfl
    | dsimp only
    | split
    | intro _
    | with_reducible apply Same.upd_dts_tempo_tempoFrom
    | with_reducible apply Same.upd_startup
    | with_reducible apply Same.upd_dts_tempo_startup_tempoFrom

theorem State.writeAddrs_same {K B : Nat} {s0 : State} {s : State}
    (hK : K &&& 512 = 0) (hB : B ≤ 0x12000008) (hk : Same K B s0 s) :
    Same K B s0 (State.writeAddrs s) := by
  unfold State.writeAddrs
  try dsimp only
  repeat' first
    | with_reducible assumption
    | with_reducible rfl
    | exact mask_sub hK rfl
    | exact le_objAt (Nat.le_trans hB (by decide))
    | exact Nat.le_trans hB (by decide)
    | exact Nat.le_trans hB (by split <;> decide)
    | with_reducible apply State.setVal_same
    | with_reducible apply Same.foldl
    | with_reducible apply Same.foldl_snd
    | with_reducible apply Same.foldl_fst
    | dsimp only
    | split
    | intro _

theorem State.enterBoot_same {K B : Nat} {s0 : State} {s : State}
    (hK : K &&& 528 = 0) (hB : B ≤ 0x12000008) (hk : Same K B s0 s) :
    Same K B s0 (State.enterBoot s) := by
  unfold State.enterBoot
  try dsimp only
  repeat' first
    | with_reducible assumption
    | with_reducible rfl
    | exact mask_sub hK rfl
    | exact le_objAt (Nat.le_trans hB (by decide))
    | exact Nat.le_trans hB (by decide)
    | exact Nat.le_trans hB (by split <;> decide)
    | with_reducible apply State.setOn_same
    | with_reducible apply State.writeAddrs_same
    | dsimp only
    | split
    | intro _
    | with_reducible apply Same.upd_startup

theorem State.vaultReady_same {K B : Nat} {s0 : State} {s : State}
    (hK : K &&& 144115188075872784 = 0) (hB : B ≤ 0x11f00020) (hk : Same K B s0 s) :
    Same K B s0 (State.vaultReady s) := by
  unfold State.vaultReady
  try dsimp only
  repeat' first
    | with_reducible assumption
    | with_reducible rfl
    | exact mask_sub hK rfl
    | exact le_objAt (Nat.le_trans hB (by decide))
    | exact Nat.le_trans hB (by decide)
    | exact Nat.le_trans hB (by split <;> decide)
    | with_reducible apply State.vaultUp_same
    | with_reducible apply State.enterBoot_same
    | dsimp only
    | split
    | intro _
    | with_reducible apply Same.upd_startup

theorem State.slotVerified_same {K B : Nat} {s0 : State} {s : State}
    (hK : K &&& 3858960 = 0) (hB : B ≤ 0xe000022) (hk : Same K B s0 s) :
    Same K B s0 (State.slotVerified s) := by
  unfold State.slotVerified
  try dsimp only
  repeat' first
    | with_reducible assumption
    | with_reducible rfl
    | exact mask_sub hK rfl
    | exact le_objAt (Nat.le_trans hB (by decide))
    | exact Nat.le_trans hB (by decide)
    | exact Nat.le_trans hB (by split <;> decide)
    | with_reducible apply State.loadFrom_same
    | with_reducible apply State.enterBoot_same
    | dsimp only
    | split
    | intro _
    | with_reducible apply Same.upd_startup

theorem State.enginesUp_same {K B : Nat} {s0 : State} {s : State}
    (hK : K &&& 2352954883441168 = 0) (hB : B ≤ 0x13000000) (hk : Same K B s0 s) :
    Same K B s0 (State.enginesUp s) := by
  unfold State.enginesUp
  try dsimp only
  repeat' first
    | with_reducible assumption
    | with_reducible rfl
    | exact mask_sub hK rfl
    | exact le_objAt (Nat.le_trans hB (by decide))
    | exact Nat.le_trans hB (by decide)
    | exact Nat.le_trans hB (by split <;> decide)
    | with_reducible apply State.setOn_same
    | with_reducible apply State.engineState_same
    | with_reducible apply State.banksFollow_same
    | with_reducible apply State.modFaults_same
    | with_reducible apply Same.foldl
    | with_reducible apply Same.foldl_snd
    | with_reducible apply Same.foldl_fst
    | dsimp only
    | split
    | intro _
    | with_reducible apply Same.upd_startup_scrubFrom

theorem State.startupDone_same {K B : Nat} {s0 : State} {s : State}
    (hK : K &&& 536887824 = 0) (hB : B ≤ 0xb100010) (hk : Same K B s0 s) :
    Same K B s0 (State.startupDone s) := by
  unfold State.startupDone
  try dsimp only
  repeat' first
    | with_reducible assumption
    | with_reducible rfl
    | exact mask_sub hK rfl
    | exact le_objAt (Nat.le_trans hB (by decide))
    | exact Nat.le_trans hB (by decide)
    | exact Nat.le_trans hB (by split <;> decide)
    | with_reducible apply State.showOuts_same
    | with_reducible apply State.writeAddrs_same
    | dsimp only
    | split
    | intro _
    | with_reducible apply Same.upd_startup

theorem State.resetFalls_same {K B : Nat} {s0 : State} {s : State}
    (hK : K &&& 576460752303423452 = 0) (hB : B ≤ 0) (hk : Same K B s0 s) :
    Same K B s0 (State.resetFalls s) := by
  unfold State.resetFalls
  try dsimp only
  repeat' first
    | with_reducible assumption
    | with_reducible rfl
    | exact mask_sub hK rfl
    | exact Nat.le_trans hB (Nat.zero_le _)
    | with_reducible apply State.warmReset_same
    | with_reducible apply State.wakeUp_same
    | dsimp only
    | split
    | intro _
    | with_reducible apply Same.upd_resetLow

theorem State.resetAssert_same {K B : Nat} {s0 : State} {s : State} (width : Nat)
    (hK : K &&& 576460752303423452 = 0) (hB : B ≤ 0) (hk : Same K B s0 s) :
    Same K B s0 (State.resetAssert s width) := by
  unfold State.resetAssert
  try dsimp only
  repeat' first
    | with_reducible assumption
    | with_reducible rfl
    | exact mask_sub hK rfl
    | exact Nat.le_trans hB (Nat.zero_le _)
    | with_reducible apply State.drawn_same
    | with_reducible apply State.resetFalls_same
    | dsimp only
    | split
    | intro _

theorem State.fromStraps_same {K B : Nat} {s0 : State} {s : State}
    (hK : K &&& 528 = 0) (hB : B ≤ 0x1) (hk : Same K B s0 s) :
    Same K B s0 (State.fromStraps s) := by
  unfold State.fromStraps
  try dsimp only
  repeat' first
    | with_reducible assumption
    | with_reducible rfl
    | exact mask_sub hK rfl
    | exact le_objAt (Nat.le_trans hB (by decide))
    | exact Nat.le_trans hB (by decide)
    | exact Nat.le_trans hB (by split <;> decide)
    | with_reducible apply State.sampleStraps_same
    | dsimp only
    | split
    | intro _
    | with_reducible apply Same.upd_startup

theorem State.resetRelease_same {K B : Nat} {s0 : State} {s : State}
    (hK : K &&& 592 = 0) (hB : B ≤ 0x1) (hk : Same K B s0 s) :
    Same K B s0 (State.resetRelease s) := by
  unfold State.resetRelease
  try dsimp only
  repeat' first
    | with_reducible assumption
    | with_reducible rfl
    | exact mask_sub hK rfl
    | exact le_objAt (Nat.le_trans hB (by decide))
    | exact Nat.le_trans hB (by decide)
    | exact Nat.le_trans hB (by split <;> decide)
    | with_reducible apply State.fromStraps_same
    | dsimp only
    | split
    | intro _
    | with_reducible apply Same.upd_resetLow

theorem State.wakeFrame_same {K B : Nat} {s0 : State} {s : State} (m : Nat) (f : EthFrame)
    (hK : K &&& 576460752303423132 = 0) (hB : B ≤ 0) (hk : Same K B s0 s) :
    Same K B s0 (State.wakeFrame s m f) := by
  unfold State.wakeFrame
  try dsimp only
  repeat' first
    | with_reducible assumption
    | with_reducible rfl
    | exact mask_sub hK rfl
    | exact Nat.le_trans hB (Nat.zero_le _)
    | with_reducible apply State.wakeUp_same
    | dsimp only
    | split
    | intro _

end Sys2Proof.Machine
end

