-- ==== Sys2Proof/Laws/SameReads.lean ====
section
/-! SUPPORT. What the operations of Machine/Reads.lean leave (Same). -/

namespace Sys2Proof.Machine

theorem State.beforeRead_same {K B : Nat} {s0 : State} {s : State} (o : Nat)
    (hK : K &&& 18176 = 0) (hB : B ≤ 0x11f00020) (hk : Same K B s0 s) :
    Same K B s0 (State.beforeRead s o) := by
  unfold State.beforeRead
  try dsimp only
  repeat' first
    | with_reducible assumption
    | with_reducible rfl
    | exact mask_sub hK rfl
    | exact le_objAt (Nat.le_trans hB (by decide))
    | exact Nat.le_trans hB (by decide)
    | exact Nat.le_trans hB (by split <;> decide)
    | with_reducible apply State.pcSample_same
    | dsimp only
    | split
    | intro _

theorem State.afterRead_same {K B : Nat} {s0 : State} {s : State} (n : Nat) (o : Nat) (acc : Access)
    (hK : K &&& 17152 = 0) (hB : B ≤ 0) (hk : Same K B s0 s) :
    Same K B s0 (State.afterRead s n o acc) := by
  unfold State.afterRead
  try dsimp only
  repeat' first
    | with_reducible assumption
    | with_reducible rfl
    | exact mask_sub hK rfl
    | exact Nat.le_trans hB (Nat.zero_le _)
    | with_reducible apply State.setVal_same
    | with_reducible apply State.modSession_same
    | with_reducible apply State.drawn_same
    | with_reducible apply State.latchFaults_same
    | dsimp only
    | split
    | intro _

theorem State.latchHistory_same {K B : Nat} {s0 : State} {s : State} (n : Nat) (o : Nat)
    (hK : K &&& 16384 = 0) (hk : Same K B s0 s) :
    Same K B s0 (State.latchHistory s n o) := by
  unfold State.latchHistory
  try dsimp only
  repeat' first
    | with_reducible assumption
    | with_reducible rfl
    | exact mask_sub hK rfl
    | with_reducible apply State.modSession_same
    | dsimp only
    | split
    | intro _

theorem State.popItem_same {K B : Nat} {s0 : State} {s : State} (o : Nat)
    (hK : K &&& 1133871366144 = 0) (hk : Same K B s0 s) :
    Same K B s0 (State.popItem s o).2 := by
  unfold State.popItem
  try dsimp only
  repeat' first
    | with_reducible assumption
    | with_reducible rfl
    | exact mask_sub hK rfl
    | with_reducible apply State.popExt_same
    | dsimp only
    | split
    | intro _
    | with_reducible apply Same.upd_tcaLog

theorem State.popItems_same {K B : Nat} {s0 : State} (k : Nat) {s : State} (o : Nat)
    (hK : K &&& 1133871366144 = 0) (hk : Same K B s0 s) :
    Same K B s0 (State.popItems k s o).2 := by
  induction k generalizing s with
  | zero => exact hk
  | succ k ih => exact ih (State.popItem_same o (mask_sub hK rfl) hk)

theorem State.readWords_same {K B : Nat} {s0 : State} (x : Session) (o len k : Nat) {s : State} (i : Nat)
    (hK : K &&& 256 = 0) (hk : Same K B s0 s) :
    Same K B s0 (State.readWords x o len k s i).2 := by
  induction k generalizing s i with
  | zero => exact hk
  | succ k ih =>
    unfold State.readWords
    refine ih _ ?_
    split
    · exact State.dmaRead_same i (mask_sub hK rfl) hk
    · exact hk

end Sys2Proof.Machine
end

