-- ==== Sys2Proof/Laws/SameAccess.lean ====
section
/-! SUPPORT. What the operations of Machine/Access.lean leave (Same). -/

namespace Sys2Proof.Machine

theorem State.failed_same {K B : Nat} {s0 : State} {s : State} (status : Nat) (holder : Nat)
    (hK : K &&& 0 = 0) (hk : Same K B s0 s) :
    Same K B s0 (State.failed s status holder).st := by
  unfold State.failed
  try dsimp only
  repeat' first
    | with_reducible assumption
    | with_reducible rfl
    | exact mask_sub hK rfl
    | dsimp only
    | split
    | intro _

theorem State.did_same {K B : Nat} {s0 : State} {s : State}
    (hK : K &&& 0 = 0) (hk : Same K B s0 s) :
    Same K B s0 (State.did s).st := by
  unfold State.did
  try dsimp only
  repeat' first
    | with_reducible assumption
    | with_reducible rfl
    | exact mask_sub hK rfl
    | dsimp only
    | split
    | intro _

theorem State.takeSnapshot_same {K B : Nat} {s0 : State} {s : State} (c : CounterSet)
    (hK : K &&& 18176 = 0) (hB : B ≤ 0) (hk : Same K B s0 s) :
    Same K B s0 (State.takeSnapshot s c) := by
  unfold State.takeSnapshot
  try dsimp only
  repeat' first
    | with_reducible assumption
    | with_reducible rfl
    | exact mask_sub hK rfl
    | exact Nat.le_trans hB (Nat.zero_le _)
    | with_reducible apply State.setVal_same
    | with_reducible apply State.pcSnapshot_same
    | with_reducible apply Same.foldl
    | with_reducible apply Same.foldl_snd
    | with_reducible apply Same.foldl_fst
    | dsimp only
    | split
    | intro _
    | with_reducible apply Same.upd_dict

theorem State.clearHalves_same {K B : Nat} {s0 : State} {s : State} (m : Nat)
    (hK : K &&& 16896 = 0) (hB : B ≤ 0x11f00020) (hk : Same K B s0 s) :
    Same K B s0 (State.clearHalves s m) := by
  unfold State.clearHalves
  try dsimp only
  repeat' first
    | with_reducible assumption
    | with_reducible rfl
    | exact mask_sub hK rfl
    | exact le_objAt (Nat.le_trans hB (by decide))
    | exact Nat.le_trans hB (by decide)
    | exact Nat.le_trans hB (by split <;> decide)
    | with_reducible apply State.setVal_same
    | with_reducible apply State.raise_same
    | with_reducible apply Same.foldl
    | with_reducible apply Same.foldl_snd
    | with_reducible apply Same.foldl_fst
    | dsimp only
    | split
    | intro _

theorem State.clearSet_same {K B : Nat} {s0 : State} {s : State} (c : CounterSet)
    (hK : K &&& 18176 = 0) (hB : B ≤ 0x11f00020) (hk : Same K B s0 s) :
    Same K B s0 (State.clearSet s c) := by
  unfold State.clearSet
  try dsimp only
  repeat' first
    | with_reducible assumption
    | with_reducible rfl
    | exact mask_sub hK rfl
    | exact le_objAt (Nat.le_trans hB (by decide))
    | exact Nat.le_trans hB (by decide)
    | exact Nat.le_trans hB (by split <;> decide)
    | with_reducible apply State.pcClear_same
    | with_reducible apply State.clearHalves_same
    | dsimp only
    | split
    | intro _
    | with_reducible apply Same.upd_live

theorem State.setControlled_same {K B : Nat} {s0 : State} {s : State} (c : CounterSet) (snap : Bool) (clr : Bool)
    (hK : K &&& 18176 = 0) (hB : B ≤ 0) (hk : Same K B s0 s) :
    Same K B s0 (State.setControlled s c snap clr) := by
  unfold State.setControlled
  try dsimp only
  repeat' first
    | with_reducible assumption
    | with_reducible rfl
    | exact mask_sub hK rfl
    | exact Nat.le_trans hB (Nat.zero_le _)
    | with_reducible apply State.takeSnapshot_same
    | with_reducible apply State.clearSet_same
    | dsimp only
    | split
    | intro _

theorem State.movePtr_same {K B : Nat} {s0 : State} {s : State} (n : Nat) (o : Nat) (i : Nat)
    (hK : K &&& 16384 = 0) (hk : Same K B s0 s) :
    Same K B s0 (State.movePtr s n o i) := by
  unfold State.movePtr
  try dsimp only
  repeat' first
    | with_reducible assumption
    | with_reducible rfl
    | exact mask_sub hK rfl
    | with_reducible apply State.modSession_same
    | dsimp only
    | split
    | intro _

theorem State.readWindow_same {K B : Nat} {s0 : State} {s : State} (n : Nat) (r : ObjRow) (op : Op)
    (hK : K &&& 16640 = 0) (hk : Same K B s0 s) :
    Same K B s0 (State.readWindow s n r op).st := by
  unfold State.readWindow
  try dsimp only
  repeat' first
    | with_reducible assumption
    | with_reducible rfl
    | exact mask_sub hK rfl
    | with_reducible apply State.latchHistory_same
    | with_reducible apply State.readWords_same
    | with_reducible apply State.failed_same
    | with_reducible apply State.movePtr_same
    | dsimp only
    | split
    | intro _

theorem State.readOp_same {K B : Nat} {s0 : State} {s : State} (x : Session) (r : ObjRow) (op : Op)
    (hK : K &&& 1133871384320 = 0) (hB : B ≤ 0) (hk : Same K B s0 s) :
    Same K B s0 (State.readOp s x r op).st := by
  unfold State.readOp
  try dsimp only
  repeat' first
    | with_reducible assumption
    | with_reducible rfl
    | exact mask_sub hK rfl
    | exact Nat.le_trans hB (Nat.zero_le _)
    | with_reducible apply State.beforeRead_same
    | with_reducible apply State.afterRead_same
    | with_reducible apply State.popItems_same
    | with_reducible apply State.failed_same
    | with_reducible apply State.readWindow_same
    | dsimp only
    | split
    | intro _

theorem State.takeStage_same {K B : Nat} {s0 : State} {s : State} (n : Nat)
    (hK : K &&& 8192 = 0) (hk : Same K B s0 s) :
    Same K B s0 (State.takeStage s n).2.2 := by
  unfold State.takeStage
  try dsimp only
  repeat' first
    | with_reducible assumption
    | with_reducible rfl
    | exact mask_sub hK rfl
    | dsimp only
    | split
    | intro _
    | with_reducible apply Same.upd_xc

theorem State.stageWr_same {K B : Nat} {s0 : State} {s : State} (n : Nat) (w : Wr)
    (hK : K &&& 24576 = 0) (hk : Same K B s0 s) :
    Same K B s0 (State.stageWr s n w).2.2 := by
  unfold State.stageWr
  try dsimp only
  repeat' first
    | with_reducible assumption
    | with_reducible rfl
    | exact mask_sub hK rfl
    | with_reducible apply State.modSession_same
    | with_reducible apply State.takeStage_same
    | dsimp only
    | split
    | intro _

theorem State.stageWrs_same {K B : Nat} {s0 : State} (n : Nat) (ws : List Wr) {s : State} (k st : Nat)
    (hK : K &&& 24576 = 0) (hk : Same K B s0 s) :
    Same K B s0 (State.stageWrs n ws s k st).2.2.2 := by
  induction ws generalizing s k st with
  | nil => exact hk
  | cons w ws ih =>
    unfold State.stageWrs
    dsimp only
    split
    · exact State.stageWr_same n w (mask_sub hK rfl) hk
    · exact ih _ _ (State.stageWr_same n w (mask_sub hK rfl) hk)

theorem State.stageWindow_same {K B : Nat} {s0 : State} {s : State} (n : Nat) (r : ObjRow) (op : Op)
    (hK : K &&& 24576 = 0) (hk : Same K B s0 s) :
    Same K B s0 (State.stageWindow s n r op).st := by
  unfold State.stageWindow
  try dsimp only
  repeat' first
    | with_reducible assumption
    | with_reducible rfl
    | exact mask_sub hK rfl
    | with_reducible apply State.movePtr_same
    | with_reducible apply State.stageWrs_same
    | dsimp only
    | split
    | intro _

theorem State.actInside_same {K B : Nat} {s0 : State} {s : State} (o : Nat) (v : Val)
    (hK : K &&& 4096 = 0) (hk : Same K B s0 s) :
    Same K B s0 (State.actInside s o v) := by
  unfold State.actInside
  try dsimp only
  repeat' first
    | with_reducible assumption
    | with_reducible rfl
    | exact mask_sub hK rfl
    | with_reducible apply State.modLane_same
    | dsimp only
    | split
    | intro _

theorem State.stageOp_same {K B : Nat} {s0 : State} {s : State} (n : Nat) (r : ObjRow) (op : Op)
    (hK : K &&& 28672 = 0) (hk : Same K B s0 s) :
    Same K B s0 (State.stageOp s n r op).st := by
  unfold State.stageOp
  try dsimp only
  repeat' first
    | with_reducible assumption
    | with_reducible rfl
    | exact mask_sub hK rfl
    | with_reducible apply State.failed_same
    | with_reducible apply State.stageWr_same
    | with_reducible apply State.stageWindow_same
    | with_reducible apply State.actInside_same
    | dsimp only
    | split
    | intro _

theorem State.rewind_same {K B : Nat} {s0 : State} {s : State} (n : Nat) (ws : List Nat)
    (hK : K &&& 16384 = 0) (hk : Same K B s0 s) :
    Same K B s0 (State.rewind s n ws) := by
  unfold State.rewind
  try dsimp only
  repeat' first
    | with_reducible assumption
    | with_reducible rfl
    | exact mask_sub hK rfl
    | with_reducible apply State.modSession_same
    | with_reducible apply Same.foldl
    | with_reducible apply Same.foldl_snd
    | with_reducible apply Same.foldl_fst
    | dsimp only
    | split
    | intro _

theorem State.endDisabled_same {K B : Nat} {s0 : State} {s : State} (n : Nat)
    (hK : K &&& 3858944 = 0) (hB : B ≤ 0xe000022) (hk : Same K B s0 s) :
    Same K B s0 (State.endDisabled s n) := by
  unfold State.endDisabled
  try dsimp only
  repeat' first
    | with_reducible assumption
    | with_reducible rfl
    | exact mask_sub hK rfl
    | exact le_objAt (Nat.le_trans hB (by decide))
    | exact Nat.le_trans hB (by decide)
    | exact Nat.le_trans hB (by split <;> decide)
    | with_reducible apply State.modSession_same
    | with_reducible apply State.endWhere_same
    | dsimp only
    | split
    | intro _

theorem State.rwWrite_same {K B : Nat} {s0 : State} {s : State} (x : Session) (o : Nat) (v : Val)
    (hK : K &&& 288232575447262976 = 0) (hB : B ≤ 0) (hk : Same K B s0 s) :
    Same K B s0 (State.rwWrite s x o v) := by
  unfold State.rwWrite
  try dsimp only
  repeat' first
    | with_reducible assumption
    | with_reducible rfl
    | exact mask_sub hK rfl
    | exact Nat.le_trans hB (Nat.zero_le _)
    | with_reducible apply State.setVal_same
    | with_reducible apply State.modSession_same
    | with_reducible apply State.intEnEvent_same
    | with_reducible apply State.writeSoftCw_same
    | with_reducible apply State.pauseCheck_same
    | with_reducible apply State.pcSample_same
    | with_reducible apply State.cvuConfig_same
    | with_reducible apply State.pinWrite_same
    | with_reducible apply State.rewind_same
    | with_reducible apply State.endDisabled_same
    | dsimp only
    | split
    | intro _

theorem State.putWord_same {K B : Nat} {s0 : State} {s : State} (o : Nat) (i : Nat) (w : Word)
    (hK : K &&& 8796093024256 = 0) (hk : Same K B s0 s) :
    Same K B s0 (State.putWord s o i w) := by
  unfold State.putWord
  try dsimp only
  repeat' first
    | with_reducible assumption
    | with_reducible rfl
    | exact mask_sub hK rfl
    | with_reducible apply State.setWord_same
    | with_reducible apply State.dmaWrite_same
    | dsimp only
    | split
    | intro _

theorem State.putWords_same {K B : Nat} {s0 : State} (o len : Nat) {s : State} (i : Nat) (ws : List Word)
    (hK : K &&& 8796093024256 = 0) (hk : Same K B s0 s) :
    Same K B s0 (State.putWords o len s i ws) := by
  induction ws generalizing s i with
  | nil => exact hk
  | cons w ws ih => exact ih _ (State.putWord_same o i w (mask_sub hK rfl) hk)

theorem State.traceWritten_same {K B : Nat} {s0 : State} {s : State} (old : State) (o : Nat)
    (hK : K &&& 315814334976 = 0) (hB : B ≤ 0x3000015) (hk : Same K B s0 s) :
    Same K B s0 (State.traceWritten s old o) := by
  unfold State.traceWritten
  try dsimp only
  repeat' first
    | with_reducible assumption
    | with_reducible rfl
    | exact mask_sub hK rfl
    | exact le_objAt (Nat.le_trans hB (by decide))
    | exact Nat.le_trans hB (by decide)
    | exact Nat.le_trans hB (by split <;> decide)
    | with_reducible apply State.rejudgeTim_same
    | with_reducible apply State.laneHook_same
    | dsimp only
    | split
    | intro _

theorem State.rwOp_same {K B : Nat} {s0 : State} {s : State} (x : Session) (r : ObjRow) (op : Op)
    (hK : K &&& 288241687354605312 = 0) (hB : B ≤ 0) (hk : Same K B s0 s) :
    Same K B s0 (State.rwOp s x r op).st := by
  unfold State.rwOp
  try dsimp only
  repeat' first
    | with_reducible assumption
    | with_reducible rfl
    | exact mask_sub hK rfl
    | exact Nat.le_trans hB (Nat.zero_le _)
    | with_reducible apply State.freeze_same
    | with_reducible apply State.failed_same
    | with_reducible apply State.did_same
    | with_reducible apply State.setControlled_same
    | with_reducible apply State.movePtr_same
    | with_reducible apply State.rwWrite_same
    | with_reducible apply State.putWords_same
    | with_reducible apply State.traceWritten_same
    | dsimp only
    | split
    | intro _

theorem opEnd_same {K B : Nat} {s0 : State} (r : Nat × State) (hk : Same K B s0 r.2) : Same K B s0 (opEnd r).st := hk

theorem OpEnd.ite_same {K B : Nat} {s0 : State} {p : Prop} [Decidable p] {x y : OpEnd} (hx : p → Same K B s0 x.st)
    (hy : ¬p → Same K B s0 y.st) : Same K B s0 (if p then x else y).st := by
  split
  · next h => exact hx h
  · next h => exact hy h

theorem State.closeSession_same {K B : Nat} {s0 : State} {s : State} (n : Nat) (target : Nat)
    (hK : K &&& 3858944 = 0) (hB : B ≤ 0xe000022) (hk : Same K B s0 s) :
    Same K B s0 (State.closeSession s n target) := by
  unfold State.closeSession
  try dsimp only
  repeat' first
    | with_reducible assumption
    | with_reducible rfl
    | exact mask_sub hK rfl
    | exact le_objAt (Nat.le_trans hB (by decide))
    | exact Nat.le_trans hB (by decide)
    | exact Nat.le_trans hB (by split <;> decide)
    | with_reducible apply State.modSession_same
    | with_reducible apply State.endSession_same
    | dsimp only
    | split
    | intro _

theorem State.cvuOp_same {K B : Nat} {s0 : State} {s : State} (n : Nat) (u : Nat) (e : Nat) (ws : List Word)
    (hK : K &&& 4503599627371008 = 0) (hB : B ≤ 0x15200001) (hk : Same K B s0 s) :
    Same K B s0 (State.cvuOp s n u e ws).st := by
  unfold State.cvuOp
  try dsimp only
  repeat' first
    | with_reducible assumption
    | with_reducible rfl
    | exact mask_sub hK rfl
    | exact le_objAt (Nat.le_trans hB (by decide))
    | exact Nat.le_trans hB (by decide)
    | exact Nat.le_trans hB (by split <;> decide)
    | with_reducible apply State.cvuFeed_same
    | with_reducible apply State.cvuStart_same
    | with_reducible apply State.failed_same
    | with_reducible apply State.did_same
    | dsimp only
    | split
    | intro _

theorem State.fwControl_same {K B : Nat} {s0 : State} {s : State} (w : Word)
    (hK : K &&& 144115188079714832 = 0) (hB : B ≤ 0xe000022) (hk : Same K B s0 s) :
    Same K B s0 (State.fwControl s w).2 := by
  unfold State.fwControl
  try dsimp only
  repeat' first
    | with_reducible assumption
    | with_reducible rfl
    | exact mask_sub hK rfl
    | exact le_objAt (Nat.le_trans hB (by decide))
    | exact Nat.le_trans hB (by decide)
    | exact Nat.le_trans hB (by split <;> decide)
    | with_reducible apply State.fwVerify_same
    | with_reducible apply State.fwActivate_same
    | dsimp only
    | split
    | intro _

theorem feedWords_same {K B : Nat} {s0 : State} (f : State → Word → Nat × State)
    (hf : ∀ t w, Same K B s0 t → Same K B s0 (f t w).2) {s : State} (ws : List Word) (hk : Same K B s0 s) :
    Same K B s0 (feedWords f s ws).2 := by
  induction ws generalizing s with
  | nil => exact hk
  | cons w ws ih =>
    unfold feedWords
    dsimp only
    split
    · exact ih (hf s w hk)
    · exact hf s w hk

theorem State.imageWordsFrom_same {K B : Nat} {s0 : State} (len : Nat) {s : State} (i : Nat) (ws : List Word)
    (hK : K &&& 144115188075855872 = 0) (hk : Same K B s0 s) :
    Same K B s0 (State.imageWordsFrom len s i ws) := by
  induction ws generalizing s i with
  | nil => exact hk
  | cons w ws ih => exact ih _ (State.imageWord_same i w (mask_sub hK rfl) hk)

theorem State.insItems_same {K B : Nat} {s0 : State} (lane c : Nat) (ws : List Word)
    (hK : K &&& 34359755264 = 0) (hB : B ≤ 0xf000003) :
    ∀ {s : State}, Same K B s0 s → Same K B s0 (State.insItems lane c s ws) := by
  induction ws using List.twoStepInduction with
  | nil => exact fun hk => hk
  | singleton a => exact fun hk => hk
  | cons_cons a b r ih _ => exact fun hk => ih (State.hostIns_same lane c a b (mask_sub hK rfl) (Nat.le_trans hB (by decide)) hk)

theorem State.woWindow_same {K B : Nat} {s0 : State} {s : State} (n : Nat) (r : ObjRow) (op : Op)
    (hK : K &&& 148618822062981888 = 0) (hB : B ≤ 0xf000003) (hk : Same K B s0 s) :
    Same K B s0 (State.woWindow s n r op).st := by
  unfold State.woWindow
  try dsimp only
  repeat' first
    | with_reducible assumption
    | with_reducible rfl
    | exact mask_sub hK rfl
    | exact le_objAt (Nat.le_trans hB (by decide))
    | exact Nat.le_trans hB (by decide)
    | exact Nat.le_trans hB (by split <;> decide)
    | with_reducible apply State.modSession_same
    | with_reducible apply State.importWord_same
    | with_reducible apply State.rekeyWord_same
    | with_reducible apply State.did_same
    | with_reducible apply State.movePtr_same
    | with_reducible apply opEnd_same
    | with_reducible apply State.cvuOp_same
    | with_reducible apply feedWords_same
    | with_reducible apply State.imageWordsFrom_same
    | with_reducible apply State.insItems_same
    | dsimp only
    | split
    | intro _

theorem State.commandBits_same {K B : Nat} {s0 : State} {s : State} (o : Nat) (w : Word)
    (hK : K &&& 25769959936 = 0) (hB : B ≤ 0xd000020) (hk : Same K B s0 s) :
    Same K B s0 (State.commandBits s o w) := by
  unfold State.commandBits
  try dsimp only
  repeat' first
    | with_reducible assumption
    | with_reducible rfl
    | exact mask_sub hK rfl
    | exact le_objAt (Nat.le_trans hB (by decide))
    | exact Nat.le_trans hB (by decide)
    | exact Nat.le_trans hB (by split <;> decide)
    | with_reducible apply State.takeoverForce_same
    | with_reducible apply State.relinquish_same
    | with_reducible apply State.gxCatchup_same
    | with_reducible apply State.gxDiscard_same
    | with_reducible apply State.ringRelearn_same
    | dsimp only
    | split
    | intro _

theorem State.laneControl_same {K B : Nat} {s0 : State} {s : State} (o : Nat) (w : Word)
    (hK : K &&& 34359760640 = 0) (hB : B ≤ 0) (hk : Same K B s0 s) :
    Same K B s0 (State.laneControl s o w) := by
  unfold State.laneControl
  try dsimp only
  repeat' first
    | with_reducible assumption
    | with_reducible rfl
    | exact mask_sub hK rfl
    | exact Nat.le_trans hB (Nat.zero_le _)
    | with_reducible apply State.modLane_same
    | with_reducible apply State.flushExt_same
    | with_reducible apply State.flushIns_same
    | with_reducible apply State.setControlled_same
    | dsimp only
    | split
    | intro _

theorem State.woOp_same {K B : Nat} {s0 : State} {s : State} (n : Nat) (r : ObjRow) (op : Op)
    (hK : K &&& 157695049901733648 = 0) (hB : B ≤ 0) (hk : Same K B s0 s) :
    Same K B s0 (State.woOp s n r op).st := by
  unfold State.woOp
  try dsimp only
  repeat' first
    | with_reducible assumption
    | with_reducible rfl
    | exact mask_sub hK rfl
    | exact Nat.le_trans hB (Nat.zero_le _)
    | with_reducible apply State.historyClear_same
    | with_reducible apply State.modFaults_same
    | with_reducible apply State.reinitStart_same
    | with_reducible apply State.ackFault_same
    | refine State.declareFault_same _ (by assumption) (mask_sub hK rfl) (Nat.le_trans hB (by decide)) ?_
    | with_reducible apply State.wipeByKey_same
    | with_reducible apply State.failed_same
    | with_reducible apply State.did_same
    | with_reducible apply opEnd_same
    | with_reducible apply State.closeSession_same
    | with_reducible apply State.cvuOp_same
    | with_reducible apply State.fwControl_same
    | with_reducible apply State.woWindow_same
    | with_reducible apply State.commandBits_same
    | with_reducible apply State.laneControl_same
    | with_reducible apply OpEnd.ite_same
    | dsimp only
    | split
    | intro _

theorem State.w1cOp_same {K B : Nat} {s0 : State} {s : State} (r : ObjRow) (op : Op)
    (hK : K &&& 512 = 0) (hB : B ≤ 0) (hk : Same K B s0 s) :
    Same K B s0 (State.w1cOp s r op) := by
  unfold State.w1cOp
  try dsimp only
  repeat' first
    | with_reducible assumption
    | with_reducible rfl
    | exact mask_sub hK rfl
    | exact Nat.le_trans hB (Nat.zero_le _)
    | with_reducible apply State.setVal_same
    | dsimp only
    | split
    | intro _

theorem State.writeOp_same {K B : Nat} {s0 : State} {s : State} (x : Session) (r : ObjRow) (op : Op)
    (hK : K &&& 445925426053447440 = 0) (hB : B ≤ 0) (hk : Same K B s0 s) :
    Same K B s0 (State.writeOp s x r op).st := by
  unfold State.writeOp
  try dsimp only
  repeat' first
    | with_reducible assumption
    | with_reducible rfl
    | exact mask_sub hK rfl
    | exact Nat.le_trans hB (Nat.zero_le _)
    | with_reducible apply State.failed_same
    | with_reducible apply State.did_same
    | with_reducible apply State.stageOp_same
    | with_reducible apply State.rwOp_same
    | with_reducible apply State.woOp_same
    | with_reducible apply State.w1cOp_same
    | dsimp only
    | split
    | intro _

theorem State.execOp_same {K B : Nat} {s0 : State} {s : State} (n : Nat) (op : Op)
    (hK : K &&& 445926525565075216 = 0) (hB : B ≤ 0) (hk : Same K B s0 s) :
    Same K B s0 (State.execOp s n op).2 := by
  unfold State.execOp
  try dsimp only
  repeat' first
    | with_reducible assumption
    | with_reducible rfl
    | exact mask_sub hK rfl
    | exact Nat.le_trans hB (Nat.zero_le _)
    | with_reducible apply State.failed_same
    | with_reducible apply State.readOp_same
    | with_reducible apply State.writeOp_same
    | dsimp only
    | split
    | intro _

theorem State.settleOps_same {K B : Nat} {s0 : State} {s : State} (n : Nat)
    (hK : K &&& 576390383559245592 = 0) (hB : B ≤ 0) (hk : Same K B s0 s) :
    Same K B s0 (State.settleOps s n) := by
  unfold State.settleOps
  try dsimp only
  repeat' first
    | with_reducible assumption
    | with_reducible rfl
    | exact mask_sub hK rfl
    | exact Nat.le_trans hB (Nat.zero_le _)
    | with_reducible apply State.endSession_same
    | with_reducible apply State.rekeyed_same
    | with_reducible apply State.settleReset_same
    | dsimp only
    | split
    | intro _

theorem State.oneOp_same {K B : Nat} {s0 : State} {s : State} (n : Nat) (op : Op)
    (hK : K &&& 576390383559245592 = 0) (hB : B ≤ 0) (hk : Same K B s0 s) :
    Same K B s0 (State.oneOp s n op) := by
  unfold State.oneOp
  try dsimp only
  repeat' first
    | with_reducible assumption
    | with_reducible rfl
    | exact mask_sub hK rfl
    | exact Nat.le_trans hB (Nat.zero_le _)
    | with_reducible apply State.modSession_same
    | with_reducible apply State.execOp_same
    | with_reducible apply State.settleOps_same
    | dsimp only
    | split
    | intro _
    | with_reducible apply Same.upd_lastOp

theorem State.hostOp_same {K B : Nat} {s0 : State} {s : State} (n : Nat) (op : Op)
    (hK : K &&& 576390383559245592 = 0) (hB : B ≤ 0) (hk : Same K B s0 s) :
    Same K B s0 (State.hostOp s n op) := by
  unfold State.hostOp
  try dsimp only
  repeat' first
    | with_reducible assumption
    | with_reducible rfl
    | exact mask_sub hK rfl
    | exact Nat.le_trans hB (Nat.zero_le _)
    | with_reducible apply State.leasesDue_same
    | with_reducible apply State.oneOp_same
    | dsimp only
    | split
    | intro _

theorem State.woBit_same {K B : Nat} {s0 : State} {s : State} (n : Nat) (o : Nat) (bit : Nat)
    (hK : K &&& 576390383559245592 = 0) (hB : B ≤ 0) (hk : Same K B s0 s) :
    Same K B s0 (State.woBit s n o bit) := by
  unfold State.woBit
  try dsimp only
  repeat' first
    | with_reducible assumption
    | with_reducible rfl
    | exact mask_sub hK rfl
    | exact Nat.le_trans hB (Nat.zero_le _)
    | with_reducible apply State.hostOp_same
    | dsimp only
    | split
    | intro _

theorem State.kindOp_same {K B : Nat} {s0 : State} {s : State} (n : Nat) (obj : Nat) (p : ObjRow → Bool) (op : ObjRow → Op)
    (hK : K &&& 576390383559245592 = 0) (hB : B ≤ 0) (hk : Same K B s0 s) :
    Same K B s0 (State.kindOp s n obj p op) := by
  unfold State.kindOp
  try dsimp only
  repeat' first
    | with_reducible assumption
    | with_reducible rfl
    | exact mask_sub hK rfl
    | exact Nat.le_trans hB (Nat.zero_le _)
    | with_reducible apply State.hostOp_same
    | dsimp only
    | split
    | intro _

end Sys2Proof.Machine
end

