-- ==== Sys2Proof/Laws/SameAdmission.lean ====
section
/-! SUPPORT. What the operations of Machine/Admission.lean leave (Same). -/

namespace Sys2Proof.Machine

theorem State.putWr_same {K B : Nat} {s0 : State} {s : State} (w : Wr)
    (hK : K &&& 10752 = 0) (hB : B ≤ 0) (hk : Same K B s0 s) :
    Same K B s0 (State.putWr s w) := by
  unfold State.putWr
  try dsimp only
  repeat' first
    | with_reducible assumption
    | with_reducible rfl
    | exact mask_sub hK rfl
    | exact Nat.le_trans hB (Nat.zero_le _)
    | with_reducible apply State.setWord_same
    | with_reducible apply State.mergeVal_same
    | dsimp only
    | split
    | intro _
    | with_reducible apply Same.upd_xc

theorem State.afterWrs_same {K B : Nat} {s0 : State} {s : State} (ws : List Wr)
    (hK : K &&& 10752 = 0) (hB : B ≤ 0) (hk : Same K B s0 s) :
    Same K B s0 (State.afterWrs s ws) := by
  unfold State.afterWrs
  try dsimp only
  repeat' first
    | with_reducible assumption
    | with_reducible rfl
    | exact mask_sub hK rfl
    | exact Nat.le_trans hB (Nat.zero_le _)
    | with_reducible apply State.setVal_same
    | with_reducible apply State.putWr_same
    | with_reducible apply Same.foldl
    | with_reducible apply Same.foldl_snd
    | with_reducible apply Same.foldl_fst
    | dsimp only
    | split
    | intro _

theorem State.stageWith_same {K B : Nat} {s0 : State} {s : State} (id : Nat) (fn : Nat)
    (hK : K &&& 8704 = 0) (hB : B ≤ 0x7f00000) (hk : Same K B s0 s) :
    Same K B s0 (State.stageWith s id fn) := by
  unfold State.stageWith
  try dsimp only
  repeat' first
    | with_reducible assumption
    | with_reducible rfl
    | exact mask_sub hK rfl
    | exact le_objAt (Nat.le_trans hB (by decide))
    | exact Nat.le_trans hB (by decide)
    | exact Nat.le_trans hB (by split <;> decide)
    | with_reducible apply State.setFld_same
    | with_reducible apply State.setOn_same
    | dsimp only
    | split
    | intro _
    | with_reducible apply Same.upd_xc

theorem State.admitTxn_same {K B : Nat} {s0 : State} {s : State} (x : Session) (ws : List Wr) (fn : Nat)
    (hK : K &&& 17180287488 = 0) (hB : B ≤ 0x7f00000) (hk : Same K B s0 s) :
    Same K B s0 (State.admitTxn s x ws fn) := by
  unfold State.admitTxn
  try dsimp only
  repeat' first
    | with_reducible assumption
    | with_reducible rfl
    | exact mask_sub hK rfl
    | exact le_objAt (Nat.le_trans hB (by decide))
    | exact Nat.le_trans hB (by decide)
    | exact Nat.le_trans hB (by split <;> decide)
    | with_reducible apply State.modSession_same
    | with_reducible apply State.setFld_same
    | with_reducible apply State.modGallery_same
    | with_reducible apply State.stageWith_same
    | dsimp only
    | split
    | intro _
    | with_reducible apply Same.upd_txns_nextTxn

theorem State.commit_same {K B : Nat} {s0 : State} {s : State} (x : Session) (named : Nat) (dry : Bool)
    (hK : K &&& 17180287488 = 0) (hB : B ≤ 0x7f00000) (hk : Same K B s0 s) :
    Same K B s0 (State.commit s x named dry).2.2 := by
  unfold State.commit
  try dsimp only
  repeat' first
    | with_reducible assumption
    | with_reducible rfl
    | exact mask_sub hK rfl
    | exact le_objAt (Nat.le_trans hB (by decide))
    | exact Nat.le_trans hB (by decide)
    | exact Nat.le_trans hB (by split <;> decide)
    | with_reducible apply State.admitTxn_same
    | dsimp only
    | split
    | intro _

theorem State.abort_same {K B : Nat} {s0 : State} {s : State} (x : Session)
    (hK : K &&& 24576 = 0) (hk : Same K B s0 s) :
    Same K B s0 (State.abort s x).2 := by
  unfold State.abort
  try dsimp only
  repeat' first
    | with_reducible assumption
    | with_reducible rfl
    | exact mask_sub hK rfl
    | with_reducible apply State.modSession_same
    | with_reducible apply State.freeStage_same
    | dsimp only
    | split
    | intro _

theorem State.withdraw_same {K B : Nat} {s0 : State} {s : State} (t : Txn)
    (hK : K &&& 139776 = 0) (hB : B ≤ 0x7f00000) (hk : Same K B s0 s) :
    Same K B s0 (State.withdraw s t) := by
  unfold State.withdraw
  try dsimp only
  repeat' first
    | with_reducible assumption
    | with_reducible rfl
    | exact mask_sub hK rfl
    | exact le_objAt (Nat.le_trans hB (by decide))
    | exact Nat.le_trans hB (by decide)
    | exact Nat.le_trans hB (by split <;> decide)
    | with_reducible apply State.setFld_same
    | with_reducible apply State.setOn_same
    | with_reducible apply State.freeStage_same
    | dsimp only
    | split
    | intro _
    | with_reducible apply Same.upd_txns

theorem State.cancel_same {K B : Nat} {s0 : State} {s : State} (x : Session) (id : Nat)
    (hK : K &&& 139776 = 0) (hB : B ≤ 0x7f00000) (hk : Same K B s0 s) :
    Same K B s0 (State.cancel s x id).2 := by
  unfold State.cancel
  try dsimp only
  repeat' first
    | with_reducible assumption
    | with_reducible rfl
    | exact mask_sub hK rfl
    | exact le_objAt (Nat.le_trans hB (by decide))
    | exact Nat.le_trans hB (by decide)
    | exact Nat.le_trans hB (by split <;> decide)
    | with_reducible apply State.withdraw_same
    | dsimp only
    | split
    | intro _

end Sys2Proof.Machine
end

