-- ==== Sys2Proof/Laws/SameTimeSet.lean ====
section
/-! SUPPORT. What the operations of Machine/TimeSet.lean leave (Same). -/

namespace Sys2Proof.Machine

theorem State.copyPage_same {K B : Nat} {s0 : State} {s : State}
    (hK : K &&& 8192 = 0) (hk : Same K B s0 s) :
    Same K B s0 (State.copyPage s) := by
  unfold State.copyPage
  try dsimp only
  repeat' first
    | with_reducible assumption
    | with_reducible rfl
    | exact mask_sub hK rfl
    | with_reducible apply State.freeStage_same
    | with_reducible apply Same.foldl
    | with_reducible apply Same.foldl_snd
    | with_reducible apply Same.foldl_fst
    | dsimp only
    | split
    | intro _
    | with_reducible apply Same.upd_xc

theorem State.finishCopy_same {K B : Nat} {s0 : State} {s : State}
    (hK : K &&& 25088 = 0) (hB : B ≤ 0x7f00000) (hk : Same K B s0 s) :
    Same K B s0 (State.finishCopy s) := by
  unfold State.finishCopy
  try dsimp only
  repeat' first
    | with_reducible assumption
    | with_reducible rfl
    | exact mask_sub hK rfl
    | exact le_objAt (Nat.le_trans hB (by decide))
    | exact Nat.le_trans hB (by decide)
    | exact Nat.le_trans hB (by split <;> decide)
    | with_reducible apply State.noteSwitch_same
    | with_reducible apply State.copyPage_same
    | dsimp only
    | split
    | intro _

theorem State.stepLane_same {K B : Nat} {s0 : State} {s : State} (d : Int) (n : Nat) (l : Nat)
    (hK : K &&& 72057594037949952 = 0) (hB : B ≤ 0x7f00022) (hk : Same K B s0 s) :
    Same K B s0 (State.stepLane s d n l) := by
  unfold State.stepLane
  try dsimp only
  repeat' first
    | with_reducible assumption
    | with_reducible rfl
    | exact mask_sub hK rfl
    | exact le_objAt (Nat.le_trans hB (by decide))
    | exact Nat.le_trans hB (by decide)
    | exact Nat.le_trans hB (by split <;> decide)
    | with_reducible apply State.modLane_same
    | with_reducible apply State.setLedger_same
    | with_reducible apply State.reseedLane_same
    | with_reducible apply State.landAis_same
    | dsimp only
    | split
    | intro _

theorem State.stepCand_same {K B : Nat} {s0 : State} {s : State} (d : Int) (c : Nat)
    (hK : K &&& 134217728 = 0) (hk : Same K B s0 s) :
    Same K B s0 (State.stepCand s d c) := by
  unfold State.stepCand
  try dsimp only
  repeat' first
    | with_reducible assumption
    | with_reducible rfl
    | exact mask_sub hK rfl
    | with_reducible apply State.setCand_same
    | with_reducible apply State.buildOut_same
    | dsimp only
    | split
    | intro _

theorem State.pullAgain_same {K B : Nat} {s0 : State} {s : State}
    (hK : K &&& 268435968 = 0) (hB : B ≤ 0xa000020) (hk : Same K B s0 s) :
    Same K B s0 (State.pullAgain s) := by
  unfold State.pullAgain
  try dsimp only
  repeat' first
    | with_reducible assumption
    | with_reducible rfl
    | exact mask_sub hK rfl
    | exact le_objAt (Nat.le_trans hB (by decide))
    | exact Nat.le_trans hB (by decide)
    | exact Nat.le_trans hB (by split <;> decide)
    | with_reducible apply State.runPull_same
    | dsimp only
    | split
    | intro _

theorem State.stepGallery_same {K B : Nat} {s0 : State} {s : State} (f : Int)
    (hK : K &&& 17179869184 = 0) (hk : Same K B s0 s) :
    Same K B s0 (State.stepGallery s f) := by
  unfold State.stepGallery
  try dsimp only
  repeat' first
    | with_reducible assumption
    | with_reducible rfl
    | exact mask_sub hK rfl
    | with_reducible apply State.modGallery_same
    | dsimp only
    | split
    | intro _

theorem State.stepTandem_same {K B : Nat} {s0 : State} {s : State} (d : Int) (f : Int)
    (hK : K &&& 8589934592 = 0) (hk : Same K B s0 s) :
    Same K B s0 (State.stepTandem s d f) := by
  unfold State.stepTandem
  try dsimp only
  repeat' first
    | with_reducible assumption
    | with_reducible rfl
    | exact mask_sub hK rfl
    | with_reducible apply State.modTandem_same
    | dsimp only
    | split
    | intro _

theorem State.stepWaits_same {K B : Nat} {s0 : State} {s : State} (d : Int) (f : Int)
    (hK : K &&& 288230377762324480 = 0) (hk : Same K B s0 s) :
    Same K B s0 (State.stepWaits s d f) := by
  unfold State.stepWaits
  try dsimp only
  repeat' first
    | with_reducible assumption
    | with_reducible rfl
    | exact mask_sub hK rfl
    | with_reducible apply State.setOut_same
    | with_reducible apply Same.foldl
    | with_reducible apply Same.foldl_snd
    | with_reducible apply Same.foldl_fst
    | dsimp only
    | split
    | intro _
    | with_reducible apply Same.upd_pps_pins

theorem State.timeSet_same {K B : Nat} {s0 : State} {s : State} (v : Val) (fn : Nat)
    (hK : K &&& 414332018134906372 = 0) (hB : B ≤ 0x7f00000) (hk : Same K B s0 s) :
    Same K B s0 (State.timeSet s v fn) := by
  unfold State.timeSet
  try dsimp only
  repeat' first
    | with_reducible assumption
    | with_reducible rfl
    | exact mask_sub hK rfl
    | exact le_objAt (Nat.le_trans hB (by decide))
    | exact Nat.le_trans hB (by decide)
    | exact Nat.le_trans hB (by split <;> decide)
    | with_reducible apply State.raise_same
    | with_reducible apply State.pmStep_same
    | with_reducible apply State.stepOuts_same
    | with_reducible apply State.gatherTo_same
    | with_reducible apply State.finishCopy_same
    | with_reducible apply State.stepLane_same
    | with_reducible apply State.stepCand_same
    | with_reducible apply State.pullAgain_same
    | with_reducible apply State.stepGallery_same
    | with_reducible apply State.stepTandem_same
    | with_reducible apply State.stepWaits_same
    | with_reducible apply Same.foldl
    | with_reducible apply Same.foldl_snd
    | with_reducible apply Same.foldl_fst
    | dsimp only
    | split
    | intro _
    | with_reducible apply Same.upd_dts_timing_slacks_worstFn

end Sys2Proof.Machine
end

