-- ==== Sys2Proof/Laws/SameChanges.lean ====
section
/-! SUPPORT. What the operations of Machine/Changes.lean leave (Same). -/

namespace Sys2Proof.Machine

theorem State.putAll_same {K B : Nat} {s0 : State} {s : State} (ws : List Wr) (p : Nat → Bool)
    (hK : K &&& 2560 = 0) (hB : B ≤ 0) (hk : Same K B s0 s) :
    Same K B s0 (State.putAll s ws p) := by
  unfold State.putAll
  try dsimp only
  repeat' first
    | with_reducible assumption
    | with_reducible rfl
    | exact mask_sub hK rfl
    | exact Nat.le_trans hB (Nat.zero_le _)
    | with_reducible apply State.setWord_same
    | with_reducible apply State.mergeVal_same
    | with_reducible apply Same.foldl
    | with_reducible apply Same.foldl_snd
    | with_reducible apply Same.foldl_fst
    | dsimp only
    | split
    | intro _

theorem State.modeStep_same {K B : Nat} {s0 : State} {s : State} (k : Nat)
    (hK : K &&& 144115213849518592 = 0) (hB : B ≤ 0x1000000) (hk : Same K B s0 s) :
    Same K B s0 (State.modeStep s k) := by
  unfold State.modeStep
  try dsimp only
  repeat' first
    | with_reducible assumption
    | with_reducible rfl
    | exact mask_sub hK rfl
    | exact le_objAt (Nat.le_trans hB (by decide))
    | exact Nat.le_trans hB (by decide)
    | exact Nat.le_trans hB (by split <;> decide)
    | with_reducible apply State.setVal_same
    | with_reducible apply State.setFld_same
    | with_reducible apply State.setOn_same
    | with_reducible apply State.tandemStart_same
    | with_reducible apply State.tandemStop_same
    | with_reducible apply State.galleryStart_same
    | with_reducible apply State.galleryStop_same
    | with_reducible apply State.endWhere_same
    | with_reducible apply State.setSealed_same
    | dsimp only
    | split
    | intro _

theorem State.modeSteps_same {K B : Nat} {s0 : State} {s : State}
    (hK : K &&& 144115213849518592 = 0) (hB : B ≤ 0x1000000) (hk : Same K B s0 s) :
    Same K B s0 (State.modeSteps s) := by
  unfold State.modeSteps
  try dsimp only
  repeat' first
    | with_reducible assumption
    | with_reducible rfl
    | exact mask_sub hK rfl
    | exact le_objAt (Nat.le_trans hB (by decide))
    | exact Nat.le_trans hB (by decide)
    | exact Nat.le_trans hB (by split <;> decide)
    | with_reducible apply State.modeStep_same
    | with_reducible apply Same.foldl
    | with_reducible apply Same.foldl_snd
    | with_reducible apply Same.foldl_fst
    | dsimp only
    | split
    | intro _

theorem State.partDisabled_same {K B : Nat} {s0 : State} {s : State} (old : State) (p : Nat)
    (hK : K &&& 26388282925568 = 0) (hB : B ≤ 0xe000022) (hk : Same K B s0 s) :
    Same K B s0 (State.partDisabled s old p) := by
  unfold State.partDisabled
  try dsimp only
  repeat' first
    | with_reducible assumption
    | with_reducible rfl
    | exact mask_sub hK rfl
    | exact le_objAt (Nat.le_trans hB (by decide))
    | exact Nat.le_trans hB (by decide)
    | exact Nat.le_trans hB (by split <;> decide)
    | with_reducible apply State.endWhere_same
    | with_reducible apply State.clearBank_same
    | dsimp only
    | split
    | intro _

theorem State.laneMoves_same {K B : Nat} {s0 : State} {s : State} (old : State) (l : Nat)
    (hK : K &&& 1125899907385088 = 0) (hB : B ≤ 0x11f00020) (hk : Same K B s0 s) :
    Same K B s0 (State.laneMoves s old l) := by
  unfold State.laneMoves
  try dsimp only
  repeat' first
    | with_reducible assumption
    | with_reducible rfl
    | exact mask_sub hK rfl
    | exact le_objAt (Nat.le_trans hB (by decide))
    | exact Nat.le_trans hB (by decide)
    | exact Nat.le_trans hB (by split <;> decide)
    | with_reducible apply State.abandoned_same
    | with_reducible apply State.pcHandOver_same
    | dsimp only
    | split
    | intro _
    | with_reducible apply Same.upd_claims

theorem State.partSteps_same {K B : Nat} {s0 : State} {s : State} (old : State)
    (hK : K &&& 1152288189769472 = 0) (hB : B ≤ 0xe000022) (hk : Same K B s0 s) :
    Same K B s0 (State.partSteps s old) := by
  unfold State.partSteps
  try dsimp only
  repeat' first
    | with_reducible assumption
    | with_reducible rfl
    | exact mask_sub hK rfl
    | exact le_objAt (Nat.le_trans hB (by decide))
    | exact Nat.le_trans hB (by decide)
    | exact Nat.le_trans hB (by split <;> decide)
    | with_reducible apply State.partDisabled_same
    | with_reducible apply State.laneMoves_same
    | with_reducible apply Same.foldl
    | with_reducible apply Same.foldl_snd
    | with_reducible apply Same.foldl_fst
    | dsimp only
    | split
    | intro _

theorem State.bayChange_same {K B : Nat} {s0 : State} {s : State} (b : Nat)
    (hK : K &&& 20992 = 0) (hB : B ≤ 0x2000002) (hk : Same K B s0 s) :
    Same K B s0 (State.bayChange s b) := by
  unfold State.bayChange
  try dsimp only
  repeat' first
    | with_reducible assumption
    | with_reducible rfl
    | exact mask_sub hK rfl
    | exact le_objAt (Nat.le_trans hB (by decide))
    | exact Nat.le_trans hB (by decide)
    | exact Nat.le_trans hB (by split <;> decide)
    | with_reducible apply State.bayPower_same
    | with_reducible apply State.bayGate_same
    | dsimp only
    | split
    | intro _

theorem State.dropLanded_same {K B : Nat} {s0 : State} {s : State} (l : Nat)
    (hK : K &&& 29184 = 0) (hB : B ≤ 0x7000001) (hk : Same K B s0 s) :
    Same K B s0 (State.dropLanded s l) := by
  unfold State.dropLanded
  try dsimp only
  repeat' first
    | with_reducible assumption
    | with_reducible rfl
    | exact mask_sub hK rfl
    | exact le_objAt (Nat.le_trans hB (by decide))
    | exact Nat.le_trans hB (by decide)
    | exact Nat.le_trans hB (by split <;> decide)
    | with_reducible apply State.modLane_same
    | with_reducible apply State.failStores_same
    | dsimp only
    | split
    | intro _

theorem State.lineClears_same {K B : Nat} {s0 : State} {s : State} (old : State) (l : Nat)
    (hK : K &&& 309237645824 = 0) (hB : B ≤ 0xf000003) (hk : Same K B s0 s) :
    Same K B s0 (State.lineClears s old l) := by
  unfold State.lineClears
  try dsimp only
  repeat' first
    | with_reducible assumption
    | with_reducible rfl
    | exact mask_sub hK rfl
    | exact le_objAt (Nat.le_trans hB (by decide))
    | exact Nat.le_trans hB (by decide)
    | exact Nat.le_trans hB (by split <;> decide)
    | with_reducible apply State.flushLane_same
    | with_reducible apply State.pmSuspect_same
    | dsimp only
    | split
    | intro _

theorem State.bankInUse_same {K B : Nat} {s0 : State} {s : State} (l : Nat)
    (hK : K &&& 26388279066624 = 0) (hk : Same K B s0 s) :
    Same K B s0 (State.bankInUse s l) := by
  unfold State.bankInUse
  try dsimp only
  repeat' first
    | with_reducible assumption
    | with_reducible rfl
    | exact mask_sub hK rfl
    | with_reducible apply State.wipeBank_same
    | dsimp only
    | split
    | intro _
    | with_reducible apply Same.upd_usedBanks

theorem State.lineChange_same {K B : Nat} {s0 : State} {s : State} (old : State) (l : Nat)
    (hK : K &&& 26697516741120 = 0) (hB : B ≤ 0x2000002) (hk : Same K B s0 s) :
    Same K B s0 (State.lineChange s old l) := by
  unfold State.lineChange
  try dsimp only
  repeat' first
    | with_reducible assumption
    | with_reducible rfl
    | exact mask_sub hK rfl
    | exact le_objAt (Nat.le_trans hB (by decide))
    | exact Nat.le_trans hB (by decide)
    | exact Nat.le_trans hB (by split <;> decide)
    | with_reducible apply State.modLane_same
    | with_reducible apply State.bringUp_same
    | with_reducible apply State.resetDemapper_same
    | with_reducible apply State.laneOff_same
    | with_reducible apply State.dropLanded_same
    | with_reducible apply State.lineClears_same
    | with_reducible apply State.bankInUse_same
    | dsimp only
    | split
    | intro _

theorem State.ledgerChange_same {K B : Nat} {s0 : State} {s : State} (old : State) (l : Nat)
    (hK : K &&& 7680 = 0) (hB : B ≤ 0) (hk : Same K B s0 s) :
    Same K B s0 (State.ledgerChange s old l) := by
  unfold State.ledgerChange
  try dsimp only
  repeat' first
    | with_reducible assumption
    | with_reducible rfl
    | exact mask_sub hK rfl
    | exact Nat.le_trans hB (Nat.zero_le _)
    | with_reducible apply State.setVal_same
    | with_reducible apply State.modLane_same
    | with_reducible apply State.startLedger_same
    | dsimp only
    | split
    | intro _

theorem State.eqChange_same {K B : Nat} {s0 : State} {s : State} (old : State) (l : Nat)
    (hK : K &&& 29184 = 0) (hB : B ≤ 0x2000002) (hk : Same K B s0 s) :
    Same K B s0 (State.eqChange s old l) := by
  unfold State.eqChange
  try dsimp only
  repeat' first
    | with_reducible assumption
    | with_reducible rfl
    | exact mask_sub hK rfl
    | exact le_objAt (Nat.le_trans hB (by decide))
    | exact Nat.le_trans hB (by decide)
    | exact Nat.le_trans hB (by split <;> decide)
    | with_reducible apply State.retune_same
    | with_reducible apply State.dropLanded_same
    | dsimp only
    | split
    | intro _

theorem State.patternChange_same {K B : Nat} {s0 : State} {s : State} (old : State) (l : Nat)
    (hK : K &&& 4608 = 0) (hB : B ≤ 0x2000032) (hk : Same K B s0 s) :
    Same K B s0 (State.patternChange s old l) := by
  unfold State.patternChange
  try dsimp only
  repeat' first
    | with_reducible assumption
    | with_reducible rfl
    | exact mask_sub hK rfl
    | exact le_objAt (Nat.le_trans hB (by decide))
    | exact Nat.le_trans hB (by decide)
    | exact Nat.le_trans hB (by split <;> decide)
    | with_reducible apply State.setFld_same
    | with_reducible apply State.modLane_same
    | dsimp only
    | split
    | intro _

theorem State.laneChange_same {K B : Nat} {s0 : State} {s : State} (old : State) (l : Nat)
    (hK : K &&& 26697516744192 = 0) (hB : B ≤ 0) (hk : Same K B s0 s) :
    Same K B s0 (State.laneChange s old l) := by
  unfold State.laneChange
  try dsimp only
  repeat' first
    | with_reducible assumption
    | with_reducible rfl
    | exact mask_sub hK rfl
    | exact Nat.le_trans hB (Nat.zero_le _)
    | with_reducible apply State.lineChange_same
    | with_reducible apply State.ledgerChange_same
    | with_reducible apply State.eqChange_same
    | with_reducible apply State.patternChange_same
    | dsimp only
    | split
    | intro _

theorem State.restartPath_same {K B : Nat} {s0 : State} {s : State} (l : Nat) (k : Nat)
    (hK : K &&& 6656 = 0) (hB : B ≤ 0x4200000) (hk : Same K B s0 s) :
    Same K B s0 (State.restartPath s l k) := by
  unfold State.restartPath
  try dsimp only
  repeat' first
    | with_reducible assumption
    | with_reducible rfl
    | exact mask_sub hK rfl
    | exact le_objAt (Nat.le_trans hB (by decide))
    | exact Nat.le_trans hB (by decide)
    | exact Nat.le_trans hB (by split <;> decide)
    | with_reducible apply State.setVal_same
    | with_reducible apply State.modLane_same
    | with_reducible apply State.setWord_same
    | with_reducible apply Same.foldl
    | with_reducible apply Same.foldl_snd
    | with_reducible apply Same.foldl_fst
    | dsimp only
    | split
    | intro _

theorem State.descChange_same {K B : Nat} {s0 : State} {s : State} (old : State) (o : Nat)
    (hK : K &&& 6656 = 0) (hB : B ≤ 0x4200000) (hk : Same K B s0 s) :
    Same K B s0 (State.descChange s old o) := by
  unfold State.descChange
  try dsimp only
  repeat' first
    | with_reducible assumption
    | with_reducible rfl
    | exact mask_sub hK rfl
    | exact le_objAt (Nat.le_trans hB (by decide))
    | exact Nat.le_trans hB (by decide)
    | exact Nat.le_trans hB (by split <;> decide)
    | with_reducible apply State.restartPath_same
    | dsimp only
    | split
    | intro _

theorem State.dropWindows_same {K B : Nat} {s0 : State} {s : State} (l : Nat) (a : SfSd) (b : SfSd)
    (hK : K &&& 4096 = 0) (hk : Same K B s0 s) :
    Same K B s0 (State.dropWindows s l a b) := by
  unfold State.dropWindows
  try dsimp only
  repeat' first
    | with_reducible assumption
    | with_reducible rfl
    | exact mask_sub hK rfl
    | with_reducible apply State.modLane_same
    | dsimp only
    | split
    | intro _

theorem State.defectConfig_same {K B : Nat} {s0 : State} {s : State} (old : State) (l : Nat)
    (hK : K &&& 20992 = 0) (hB : B ≤ 0x3000015) (hk : Same K B s0 s) :
    Same K B s0 (State.defectConfig s old l) := by
  unfold State.defectConfig
  try dsimp only
  repeat' first
    | with_reducible assumption
    | with_reducible rfl
    | exact mask_sub hK rfl
    | exact le_objAt (Nat.le_trans hB (by decide))
    | exact Nat.le_trans hB (by decide)
    | exact Nat.le_trans hB (by split <;> decide)
    | with_reducible apply State.noteSf_same
    | with_reducible apply State.rejudgeTim_same
    | with_reducible apply State.dropWindows_same
    | dsimp only
    | split
    | intro _

theorem State.pathDefectConfig_same {K B : Nat} {s0 : State} {s : State} (old : State) (l : Nat) (k : Nat)
    (hK : K &&& 20992 = 0) (hB : B ≤ 0x3000015) (hk : Same K B s0 s) :
    Same K B s0 (State.pathDefectConfig s old l k) := by
  unfold State.pathDefectConfig
  try dsimp only
  repeat' first
    | with_reducible assumption
    | with_reducible rfl
    | exact mask_sub hK rfl
    | exact le_objAt (Nat.le_trans hB (by decide))
    | exact Nat.le_trans hB (by decide)
    | exact Nat.le_trans hB (by split <;> decide)
    | with_reducible apply State.rejudgePath_same
    | with_reducible apply State.dropWindows_same
    | dsimp only
    | split
    | intro _

theorem State.pathConfig_same {K B : Nat} {s0 : State} {s : State} (l : Nat) (k : Nat)
    (hK : K &&& 20992 = 0) (hB : B ≤ 0x3000015) (hk : Same K B s0 s) :
    Same K B s0 (State.pathConfig s l k) := by
  unfold State.pathConfig
  try dsimp only
  repeat' first
    | with_reducible assumption
    | with_reducible rfl
    | exact mask_sub hK rfl
    | exact le_objAt (Nat.le_trans hB (by decide))
    | exact Nat.le_trans hB (by decide)
    | exact Nat.le_trans hB (by split <;> decide)
    | with_reducible apply State.undeclarePath_same
    | with_reducible apply State.rejudgePath_same
    | with_reducible apply State.dropWindows_same
    | with_reducible apply Same.foldl
    | with_reducible apply Same.foldl_snd
    | with_reducible apply Same.foldl_fst
    | dsimp only
    | split
    | intro _

theorem State.idChecks_same {K B : Nat} {s0 : State} {s : State} (l : Nat)
    (hK : K &&& 20992 = 0) (hB : B ≤ 0x3000015) (hk : Same K B s0 s) :
    Same K B s0 (State.idChecks s l) := by
  unfold State.idChecks
  try dsimp only
  repeat' first
    | with_reducible assumption
    | with_reducible rfl
    | exact mask_sub hK rfl
    | exact le_objAt (Nat.le_trans hB (by decide))
    | exact Nat.le_trans hB (by decide)
    | exact Nat.le_trans hB (by split <;> decide)
    | with_reducible apply State.modLane_same
    | with_reducible apply State.judgeMismatch_same
    | with_reducible apply Same.foldl
    | with_reducible apply Same.foldl_snd
    | with_reducible apply Same.foldl_fst
    | dsimp only
    | split
    | intro _

theorem State.freqChange_same {K B : Nat} {s0 : State} {s : State} (n : Nat) (fn : Nat)
    (hK : K &&& 536887808 = 0) (hB : B ≤ 0xb100010) (hk : Same K B s0 s) :
    Same K B s0 (State.freqChange s n fn) := by
  unfold State.freqChange
  try dsimp only
  repeat' first
    | with_reducible assumption
    | with_reducible rfl
    | exact mask_sub hK rfl
    | exact le_objAt (Nat.le_trans hB (by decide))
    | exact Nat.le_trans hB (by decide)
    | exact Nat.le_trans hB (by split <;> decide)
    | with_reducible apply State.setOut_same
    | with_reducible apply State.startChange_same
    | with_reducible apply State.changeFreq_same
    | dsimp only
    | split
    | intro _

theorem State.formatChange_same {K B : Nat} {s0 : State} {s : State} (n : Nat) (fn : Nat)
    (hK : K &&& 536887808 = 0) (hB : B ≤ 0xb100011) (hk : Same K B s0 s) :
    Same K B s0 (State.formatChange s n fn) := by
  unfold State.formatChange
  try dsimp only
  repeat' first
    | with_reducible assumption
    | with_reducible rfl
    | exact mask_sub hK rfl
    | exact le_objAt (Nat.le_trans hB (by decide))
    | exact Nat.le_trans hB (by decide)
    | exact Nat.le_trans hB (by split <;> decide)
    | with_reducible apply State.setOut_same
    | with_reducible apply State.quench_same
    | dsimp only
    | split
    | intro _

theorem State.outChange_same {K B : Nat} {s0 : State} {s : State} (old : State) (n : Nat) (fn : Nat)
    (hK : K &&& 536887808 = 0) (hB : B ≤ 0xb100010) (hk : Same K B s0 s) :
    Same K B s0 (State.outChange s old n fn) := by
  unfold State.outChange
  try dsimp only
  repeat' first
    | with_reducible assumption
    | with_reducible rfl
    | exact mask_sub hK rfl
    | exact le_objAt (Nat.le_trans hB (by decide))
    | exact Nat.le_trans hB (by decide)
    | exact Nat.le_trans hB (by split <;> decide)
    | with_reducible apply State.setOn_same
    | with_reducible apply State.unclamp_same
    | with_reducible apply State.freqChange_same
    | with_reducible apply State.formatChange_same
    | dsimp only
    | split
    | intro _

theorem State.chanChange_same {K B : Nat} {s0 : State} {s : State} (old : State) (l : Nat) (c : Nat)
    (hK : K &&& 34359738880 = 0) (hB : B ≤ 0xf000003) (hk : Same K B s0 s) :
    Same K B s0 (State.chanChange s old l c) := by
  unfold State.chanChange
  try dsimp only
  repeat' first
    | with_reducible assumption
    | with_reducible rfl
    | exact mask_sub hK rfl
    | exact le_objAt (Nat.le_trans hB (by decide))
    | exact Nat.le_trans hB (by decide)
    | exact Nat.le_trans hB (by split <;> decide)
    | with_reducible apply State.setFc_same
    | with_reducible apply State.flushChan_same
    | dsimp only
    | split
    | intro _

theorem State.groupChange_same {K B : Nat} {s0 : State} {s : State} (old : State) (g : Nat)
    (hK : K &&& 2147500544 = 0) (hB : B ≤ 0xc000003) (hk : Same K B s0 s) :
    Same K B s0 (State.groupChange s old g) := by
  unfold State.groupChange
  try dsimp only
  repeat' first
    | with_reducible assumption
    | with_reducible rfl
    | exact mask_sub hK rfl
    | exact le_objAt (Nat.le_trans hB (by decide))
    | exact Nat.le_trans hB (by decide)
    | exact Nat.le_trans hB (by split <;> decide)
    | with_reducible apply State.apsEval_same
    | with_reducible apply State.apsStart_same
    | dsimp only
    | split
    | intro _

theorem State.dayChange_same {K B : Nat} {s0 : State} {s : State} (old : State) (fn : Nat)
    (hK : K &&& 824633720832 = 0) (hk : Same K B s0 s) :
    Same K B s0 (State.dayChange s old fn) := by
  unfold State.dayChange
  try dsimp only
  repeat' first
    | with_reducible assumption
    | with_reducible rfl
    | exact mask_sub hK rfl
    | with_reducible apply State.pmSuspect_same
    | with_reducible apply Same.foldl
    | with_reducible apply Same.foldl_snd
    | with_reducible apply Same.foldl_fst
    | dsimp only
    | split
    | intro _
    | with_reducible apply Same.upd_dayCuts

theorem State.macChange_same {K B : Nat} {s0 : State} {s : State} (old : State) (m : Nat)
    (hK : K &&& 2199023273472 = 0) (hB : B ≤ 0x11f00020) (hk : Same K B s0 s) :
    Same K B s0 (State.macChange s old m) := by
  unfold State.macChange
  try dsimp only
  repeat' first
    | with_reducible assumption
    | with_reducible rfl
    | exact mask_sub hK rfl
    | exact le_objAt (Nat.le_trans hB (by decide))
    | exact Nat.le_trans hB (by decide)
    | exact Nat.le_trans hB (by split <;> decide)
    | with_reducible apply State.macRestart_same
    | dsimp only
    | split
    | intro _

theorem State.softChange_same {K B : Nat} {s0 : State} {s : State} (old : State)
    (hK : K &&& 268435456 = 0) (hk : Same K B s0 s) :
    Same K B s0 (State.softChange s old) := by
  unfold State.softChange
  try dsimp only
  repeat' first
    | with_reducible assumption
    | with_reducible rfl
    | exact mask_sub hK rfl
    | dsimp only
    | split
    | intro _
    | with_reducible apply Same.upd_timing

theorem State.pulseChange_same {K B : Nat} {s0 : State} {s : State} (p : Nat) (fn : Nat)
    (hK : K &&& 1073741824 = 0) (hk : Same K B s0 s) :
    Same K B s0 (State.pulseChange s p fn) := by
  unfold State.pulseChange
  try dsimp only
  repeat' first
    | with_reducible assumption
    | with_reducible rfl
    | exact mask_sub hK rfl
    | with_reducible apply State.setPulse_same
    | dsimp only
    | split
    | intro _

theorem State.laneObjChange_same {K B : Nat} {s0 : State} {s : State} (old : State) (o : Nat)
    (hK : K &&& 34359761408 = 0) (hB : B ≤ 0x3000015) (hk : Same K B s0 s) :
    Same K B s0 (State.laneObjChange s old o) := by
  unfold State.laneObjChange
  try dsimp only
  repeat' first
    | with_reducible assumption
    | with_reducible rfl
    | exact mask_sub hK rfl
    | exact le_objAt (Nat.le_trans hB (by decide))
    | exact Nat.le_trans hB (by decide)
    | exact Nat.le_trans hB (by split <;> decide)
    | with_reducible apply State.publishLedger_same
    | with_reducible apply State.rejudgeTim_same
    | with_reducible apply State.descChange_same
    | with_reducible apply State.defectConfig_same
    | with_reducible apply State.pathDefectConfig_same
    | with_reducible apply State.pathConfig_same
    | with_reducible apply State.idChecks_same
    | with_reducible apply State.chanChange_same
    | dsimp only
    | split
    | intro _

theorem State.chipObjChange_same {K B : Nat} {s0 : State} {s : State} (old : State) (o : Nat) (fn : Nat)
    (hK : K &&& 9010222911735296 = 0) (hB : B ≤ 0xe000010) (hk : Same K B s0 s) :
    Same K B s0 (State.chipObjChange s old o fn) := by
  unfold State.chipObjChange
  try dsimp only
  repeat' first
    | with_reducible assumption
    | with_reducible rfl
    | exact mask_sub hK rfl
    | exact le_objAt (Nat.le_trans hB (by decide))
    | exact Nat.le_trans hB (by decide)
    | exact Nat.le_trans hB (by split <;> decide)
    | with_reducible apply State.setOn_same
    | with_reducible apply State.clampCore_same
    | with_reducible apply State.capClear_same
    | with_reducible apply State.showPower_same
    | with_reducible apply State.dayChange_same
    | with_reducible apply State.macChange_same
    | dsimp only
    | split
    | intro _

theorem State.unitObjChange_same {K B : Nat} {s0 : State} {s : State} (old : State) (o : Nat) (fn : Nat)
    (hK : K &&& 9010230830581248 = 0) (hB : B ≤ 0xa000030) (hk : Same K B s0 s) :
    Same K B s0 (State.unitObjChange s old o fn) := by
  unfold State.unitObjChange
  try dsimp only
  repeat' first
    | with_reducible assumption
    | with_reducible rfl
    | exact mask_sub hK rfl
    | exact le_objAt (Nat.le_trans hB (by decide))
    | exact Nat.le_trans hB (by decide)
    | exact Nat.le_trans hB (by split <;> decide)
    | with_reducible apply State.candWatch_same
    | with_reducible apply State.apsEval_same
    | with_reducible apply State.pathWatch_same
    | with_reducible apply State.groupChange_same
    | with_reducible apply State.softChange_same
    | with_reducible apply State.pulseChange_same
    | with_reducible apply State.chipObjChange_same
    | dsimp only
    | split
    | intro _

theorem State.tracesWritten_same {K B : Nat} {s0 : State} {s : State} (ws : List Wr)
    (hK : K &&& 20992 = 0) (hB : B ≤ 0x3000015) (hk : Same K B s0 s) :
    Same K B s0 (State.tracesWritten s ws) := by
  unfold State.tracesWritten
  try dsimp only
  repeat' first
    | with_reducible assumption
    | with_reducible rfl
    | exact mask_sub hK rfl
    | exact le_objAt (Nat.le_trans hB (by decide))
    | exact Nat.le_trans hB (by decide)
    | exact Nat.le_trans hB (by split <;> decide)
    | with_reducible apply State.rejudgeTim_same
    | with_reducible apply Same.foldl
    | with_reducible apply Same.foldl_snd
    | with_reducible apply Same.foldl_fst
    | dsimp only
    | split
    | intro _

theorem State.written_same {K B : Nat} {s0 : State} {s : State} (w : Wr)
    (hK : K &&& 70370891686400 = 0) (hB : B ≤ 0xc000003) (hk : Same K B s0 s) :
    Same K B s0 (State.written s w) := by
  unfold State.written
  try dsimp only
  repeat' first
    | with_reducible assumption
    | with_reducible rfl
    | exact mask_sub hK rfl
    | exact le_objAt (Nat.le_trans hB (by decide))
    | exact Nat.le_trans hB (by decide)
    | exact Nat.le_trans hB (by split <;> decide)
    | with_reducible apply State.apsEval_same
    | with_reducible apply State.pathCommand_same
    | dsimp only
    | split
    | intro _
    | with_reducible apply Same.upd_retained

end Sys2Proof.Machine
end

