-- ==== Sys2Proof/Laws/SameApply.lean ====
section
/-! SUPPORT. What the operations of Machine/Apply.lean leave (Same). -/

namespace Sys2Proof.Machine

theorem State.pageSwitch_same {K B : Nat} {s0 : State} {s : State} (id : Nat) (ws : List Wr)
    (hK : K &&& 279172903424 = 0) (hB : B ≤ 0x7000001) (hk : Same K B s0 s) :
    Same K B s0 (State.pageSwitch s id ws) := by
  unfold State.pageSwitch
  try dsimp only
  repeat' first
    | with_reducible assumption
    | with_reducible rfl
    | exact mask_sub hK rfl
    | exact le_objAt (Nat.le_trans hB (by decide))
    | exact Nat.le_trans hB (by decide)
    | exact Nat.le_trans hB (by split <;> decide)
    | with_reducible apply State.setFld_same
    | with_reducible apply State.setOn_same
    | with_reducible apply State.pmSuspect_same
    | with_reducible apply State.pathCancel_same
    | with_reducible apply State.refillSlots_same
    | with_reducible apply State.putPage_same
    | with_reducible apply State.finishCopy_same
    | with_reducible apply Same.foldl
    | with_reducible apply Same.foldl_snd
    | with_reducible apply Same.foldl_fst
    | dsimp only
    | split
    | intro _
    | with_reducible apply Same.upd_xc

theorem State.keepLane_same {K B : Nat} {s0 : State} {s : State} (old : State) (changed : List Nat) (ws : List Wr) (l : Nat)
    (hK : K &&& 4096 = 0) (hk : Same K B s0 s) :
    Same K B s0 (State.keepLane s old changed ws l) := by
  unfold State.keepLane
  try dsimp only
  repeat' first
    | with_reducible assumption
    | with_reducible rfl
    | exact mask_sub hK rfl
    | with_reducible apply State.modLane_same
    | dsimp only
    | split
    | intro _

theorem State.putWrites_same {K B : Nat} {s0 : State} {s : State} (ws : List Wr)
    (hK : K &&& 144115213849520640 = 0) (hB : B ≤ 0) (hk : Same K B s0 s) :
    Same K B s0 (State.putWrites s ws) := by
  unfold State.putWrites
  try dsimp only
  repeat' first
    | with_reducible assumption
    | with_reducible rfl
    | exact mask_sub hK rfl
    | exact Nat.le_trans hB (Nat.zero_le _)
    | with_reducible apply State.putAll_same
    | with_reducible apply State.modeSteps_same
    | dsimp only
    | split
    | intro _

theorem State.followWrites_same {K B : Nat} {s0 : State} {s : State} (old : State) (ws : List Wr) (fn : Nat)
    (hK : K &&& 10162553916948224 = 0) (hB : B ≤ 0) (hk : Same K B s0 s) :
    Same K B s0 (State.followWrites s old ws fn) := by
  unfold State.followWrites
  try dsimp only
  repeat' first
    | with_reducible assumption
    | with_reducible rfl
    | exact mask_sub hK rfl
    | exact Nat.le_trans hB (Nat.zero_le _)
    | with_reducible apply State.partSteps_same
    | with_reducible apply State.bayChange_same
    | with_reducible apply State.ledgerChange_same
    | with_reducible apply State.laneChange_same
    | with_reducible apply State.outChange_same
    | with_reducible apply State.laneObjChange_same
    | with_reducible apply State.unitObjChange_same
    | with_reducible apply Same.foldl
    | with_reducible apply Same.foldl_snd
    | with_reducible apply Same.foldl_fst
    | dsimp only
    | split
    | intro _

theorem State.lifecycleSteps_same {K B : Nat} {s0 : State} {s : State} (ws : List Wr)
    (hK : K &&& 144115188079714816 = 0) (hB : B ≤ 0xe000022) (hk : Same K B s0 s) :
    Same K B s0 (State.lifecycleSteps s ws) := by
  unfold State.lifecycleSteps
  try dsimp only
  repeat' first
    | with_reducible assumption
    | with_reducible rfl
    | exact mask_sub hK rfl
    | exact le_objAt (Nat.le_trans hB (by decide))
    | exact Nat.le_trans hB (by decide)
    | exact Nat.le_trans hB (by split <;> decide)
    | with_reducible apply State.lifecycleApply_same
    | dsimp only
    | split
    | intro _

theorem State.noteSeatObjs_same {K B : Nat} {s0 : State} {s : State} (ws : List Wr)
    (hK : K &&& 140737488355328 = 0) (hk : Same K B s0 s) :
    Same K B s0 (State.noteSeatObjs s ws) := by
  unfold State.noteSeatObjs
  try dsimp only
  repeat' first
    | with_reducible assumption
    | with_reducible rfl
    | exact mask_sub hK rfl
    | dsimp only
    | split
    | intro _
    | with_reducible apply Same.upd_seatObjs

theorem State.applyWrs_same {K B : Nat} {s0 : State} {s : State} (id : Nat) (ws : List Wr) (fn : Nat)
    (hK : K &&& 573323639340597148 = 0) (hB : B ≤ 0) (hk : Same K B s0 s) :
    Same K B s0 (State.applyWrs s id ws fn) := by
  unfold State.applyWrs
  try dsimp only
  repeat' first
    | with_reducible assumption
    | with_reducible rfl
    | exact mask_sub hK rfl
    | exact Nat.le_trans hB (Nat.zero_le _)
    | with_reducible apply State.laneHook_same
    | with_reducible apply State.banksFollow_same
    | with_reducible apply State.powerApply_same
    | with_reducible apply State.timeSet_same
    | with_reducible apply State.tracesWritten_same
    | with_reducible apply State.written_same
    | with_reducible apply State.pageSwitch_same
    | with_reducible apply State.keepLane_same
    | with_reducible apply State.putWrites_same
    | with_reducible apply State.followWrites_same
    | with_reducible apply State.lifecycleSteps_same
    | with_reducible apply State.noteSeatObjs_same
    | with_reducible apply Same.foldl
    | with_reducible apply Same.foldl_snd
    | with_reducible apply Same.foldl_fst
    | dsimp only
    | split
    | intro _

theorem State.applyTxn_same {K B : Nat} {s0 : State} {s : State} (x : Txn) (fn : Nat)
    (hK : K &&& 573323639340597148 = 0) (hB : B ≤ 0) (hk : Same K B s0 s) :
    Same K B s0 (State.applyTxn s x fn) := by
  unfold State.applyTxn
  try dsimp only
  repeat' first
    | with_reducible assumption
    | with_reducible rfl
    | exact mask_sub hK rfl
    | exact Nat.le_trans hB (Nat.zero_le _)
    | with_reducible apply State.applyWrs_same
    | dsimp only
    | split
    | intro _
    | with_reducible apply Same.upd_txns

theorem State.applyGx_same {K B : Nat} {s0 : State} {s : State} (x : Txn)
    (hK : K &&& 573323639340597148 = 0) (hB : B ≤ 0) (hk : Same K B s0 s) :
    Same K B s0 (State.applyGx s x) := by
  unfold State.applyGx
  try dsimp only
  repeat' first
    | with_reducible assumption
    | with_reducible rfl
    | exact mask_sub hK rfl
    | exact Nat.le_trans hB (Nat.zero_le _)
    | with_reducible apply State.setFld_same
    | with_reducible apply State.modGallery_same
    | with_reducible apply State.noteOwn_same
    | with_reducible apply State.applyTxn_same
    | dsimp only
    | split
    | intro _

theorem State.abortGx_same {K B : Nat} {s0 : State} {s : State} (x : Txn)
    (hK : K &&& 17180025344 = 0) (hB : B ≤ 0x7f00000) (hk : Same K B s0 s) :
    Same K B s0 (State.abortGx s x) := by
  unfold State.abortGx
  try dsimp only
  repeat' first
    | with_reducible assumption
    | with_reducible rfl
    | exact mask_sub hK rfl
    | exact le_objAt (Nat.le_trans hB (by decide))
    | exact Nat.le_trans hB (by decide)
    | exact Nat.le_trans hB (by split <;> decide)
    | with_reducible apply State.setFld_same
    | with_reducible apply State.bump_same
    | with_reducible apply State.raise_same
    | with_reducible apply State.modGallery_same
    | with_reducible apply State.withdraw_same
    | dsimp only
    | split
    | intro _

theorem State.holdGx_same {K B : Nat} {s0 : State} {s : State} (x : Txn)
    (hK : K &&& 17180025344 = 0) (hB : B ≤ 0x7f00000) (hk : Same K B s0 s) :
    Same K B s0 (State.holdGx s x) := by
  unfold State.holdGx
  try dsimp only
  repeat' first
    | with_reducible assumption
    | with_reducible rfl
    | exact mask_sub hK rfl
    | exact le_objAt (Nat.le_trans hB (by decide))
    | exact Nat.le_trans hB (by decide)
    | exact Nat.le_trans hB (by split <;> decide)
    | with_reducible apply State.setFld_same
    | with_reducible apply State.setOn_same
    | with_reducible apply State.raise_same
    | with_reducible apply State.modGallery_same
    | dsimp only
    | split
    | intro _
    | with_reducible apply Same.upd_txns
    | with_reducible apply Same.upd_xc
    | with_reducible apply Same.upd_xc_txns

theorem State.dueTxn_same {K B : Nat} {s0 : State} {s : State} (x : Txn)
    (hK : K &&& 573323639340597148 = 0) (hB : B ≤ 0) (hk : Same K B s0 s) :
    Same K B s0 (State.dueTxn s x) := by
  unfold State.dueTxn
  try dsimp only
  repeat' first
    | with_reducible assumption
    | with_reducible rfl
    | exact mask_sub hK rfl
    | exact Nat.le_trans hB (Nat.zero_le _)
    | with_reducible apply State.applyTxn_same
    | with_reducible apply State.applyGx_same
    | with_reducible apply State.abortGx_same
    | with_reducible apply State.holdGx_same
    | dsimp only
    | split
    | intro _

theorem State.apply_same {K B : Nat} {s0 : State} {s : State} (id : Nat)
    (hK : K &&& 573323639340597148 = 0) (hB : B ≤ 0) (hk : Same K B s0 s) :
    Same K B s0 (State.apply s id) := by
  unfold State.apply
  try dsimp only
  repeat' first
    | with_reducible assumption
    | with_reducible rfl
    | exact mask_sub hK rfl
    | exact Nat.le_trans hB (Nat.zero_le _)
    | with_reducible apply State.dueTxn_same
    | dsimp only
    | split
    | intro _

theorem State.applyDue_same {K B : Nat} {s0 : State} (k : Nat) {s : State}
    (hK : K &&& 573323639340597148 = 0) (hB : B ≤ 0) (hk : Same K B s0 s) :
    Same K B s0 (State.applyDue k s) := by
  induction k generalizing s with
  | zero => exact hk
  | succ k ih =>
    unfold State.applyDue
    split
    · exact ih (State.dueTxn_same _ (mask_sub hK rfl) (Nat.le_trans hB (by decide)) hk)
    · exact hk

end Sys2Proof.Machine
end

