-- ==== Sys2Proof/Laws/SameBoundary.lean ====
section
/-! SUPPORT. What the operations of Machine/Boundary.lean leave (Same). -/

namespace Sys2Proof.Machine

theorem State.takeTxn_same {K B : Nat} {s0 : State} {s : State} (id : Nat) (fn : Nat) (ws : List Wr)
    (hK : K &&& 8590336512 = 0) (hB : B ≤ 0x7f00000) (hk : Same K B s0 s) :
    Same K B s0 (State.takeTxn s id fn ws) := by
  unfold State.takeTxn
  try dsimp only
  repeat' first
    | with_reducible assumption
    | with_reducible rfl
    | exact mask_sub hK rfl
    | exact le_objAt (Nat.le_trans hB (by decide))
    | exact Nat.le_trans hB (by decide)
    | exact Nat.le_trans hB (by split <;> decide)
    | with_reducible apply State.setFld_same
    | with_reducible apply State.modHeard_same
    | with_reducible apply State.stageWith_same
    | dsimp only
    | split
    | intro _
    | with_reducible apply Same.upd_txns_nextTxn
    | with_reducible apply Same.upd_txns
    | with_reducible apply Same.upd_xc_txns_nextTxn

theorem State.takeCancel_same {K B : Nat} {s0 : State} {s : State} (id : Nat)
    (hK : K &&& 8590074368 = 0) (hB : B ≤ 0x7f00000) (hk : Same K B s0 s) :
    Same K B s0 (State.takeCancel s id) := by
  unfold State.takeCancel
  try dsimp only
  repeat' first
    | with_reducible assumption
    | with_reducible rfl
    | exact mask_sub hK rfl
    | exact le_objAt (Nat.le_trans hB (by decide))
    | exact Nat.le_trans hB (by decide)
    | exact Nat.le_trans hB (by split <;> decide)
    | with_reducible apply State.modHeard_same
    | with_reducible apply State.withdraw_same
    | dsimp only
    | split
    | intro _
    | with_reducible apply Same.upd_txns

theorem State.stateDiff_same {K B : Nat} {s0 : State} {s : State}
    (hK : K &&& 16896 = 0) (hB : B ≤ 0xd000015) (hk : Same K B s0 s) :
    Same K B s0 (State.stateDiff s) := by
  unfold State.stateDiff
  try dsimp only
  repeat' first
    | with_reducible assumption
    | with_reducible rfl
    | exact mask_sub hK rfl
    | exact le_objAt (Nat.le_trans hB (by decide))
    | exact Nat.le_trans hB (by decide)
    | exact Nat.le_trans hB (by split <;> decide)
    | with_reducible apply State.bump_same
    | with_reducible apply State.raise_same
    | dsimp only
    | split
    | intro _

theorem State.takeSel_same {K B : Nat} {s0 : State} {s : State} (g : Nat) (st : Nat)
    (hK : K &&& 25088 = 0) (hB : B ≤ 0xd000015) (hk : Same K B s0 s) :
    Same K B s0 (State.takeSel s g st) := by
  unfold State.takeSel
  try dsimp only
  repeat' first
    | with_reducible assumption
    | with_reducible rfl
    | exact mask_sub hK rfl
    | exact le_objAt (Nat.le_trans hB (by decide))
    | exact Nat.le_trans hB (by decide)
    | exact Nat.le_trans hB (by split <;> decide)
    | with_reducible apply State.setSel_same
    | with_reducible apply State.stateDiff_same
    | dsimp only
    | split
    | intro _

theorem State.takePath_same {K B : Nat} {s0 : State} {s : State} (g : Nat) (v : Nat)
    (hK : K &&& 4294984192 = 0) (hB : B ≤ 0xc300000) (hk : Same K B s0 s) :
    Same K B s0 (State.takePath s g v) := by
  unfold State.takePath
  try dsimp only
  repeat' first
    | with_reducible assumption
    | with_reducible rfl
    | exact mask_sub hK rfl
    | exact le_objAt (Nat.le_trans hB (by decide))
    | exact Nat.le_trans hB (by decide)
    | exact Nat.le_trans hB (by split <;> decide)
    | with_reducible apply State.setFld_same
    | with_reducible apply State.setOn_same
    | with_reducible apply State.setPprot_same
    | with_reducible apply State.stateDiff_same
    | dsimp only
    | split
    | intro _

theorem State.takeAps_same {K B : Nat} {s0 : State} {s : State} (g : Nat) (v : Nat)
    (hK : K &&& 2147500544 = 0) (hB : B ≤ 0xc000003) (hk : Same K B s0 s) :
    Same K B s0 (State.takeAps s g v) := by
  unfold State.takeAps
  try dsimp only
  repeat' first
    | with_reducible assumption
    | with_reducible rfl
    | exact mask_sub hK rfl
    | exact le_objAt (Nat.le_trans hB (by decide))
    | exact Nat.le_trans hB (by decide)
    | exact Nat.le_trans hB (by split <;> decide)
    | with_reducible apply State.setOn_same
    | with_reducible apply State.setAps_same
    | with_reducible apply State.stateDiff_same
    | dsimp only
    | split
    | intro _

theorem State.takeSealed_same {K B : Nat} {s0 : State} {s : State} (v : Nat)
    (hK : K &&& 144115188079714816 = 0) (hB : B ≤ 0x1000000) (hk : Same K B s0 s) :
    Same K B s0 (State.takeSealed s v) := by
  unfold State.takeSealed
  try dsimp only
  repeat' first
    | with_reducible assumption
    | with_reducible rfl
    | exact mask_sub hK rfl
    | exact le_objAt (Nat.le_trans hB (by decide))
    | exact Nat.le_trans hB (by decide)
    | exact Nat.le_trans hB (by split <;> decide)
    | with_reducible apply State.endWhere_same
    | with_reducible apply State.setSealed_same
    | dsimp only
    | split
    | intro _

theorem State.takeGalleryStatus_same {K B : Nat} {s0 : State} {s : State} (v : Nat)
    (hK : K &&& 16896 = 0) (hB : B ≤ 0xe000010) (hk : Same K B s0 s) :
    Same K B s0 (State.takeGalleryStatus s v) := by
  unfold State.takeGalleryStatus
  try dsimp only
  repeat' first
    | with_reducible assumption
    | with_reducible rfl
    | exact mask_sub hK rfl
    | exact le_objAt (Nat.le_trans hB (by decide))
    | exact Nat.le_trans hB (by decide)
    | exact Nat.le_trans hB (by split <;> decide)
    | with_reducible apply State.setVal_same
    | with_reducible apply State.bump_same
    | with_reducible apply State.raise_same
    | with_reducible apply State.raiseIf_same
    | dsimp only
    | split
    | intro _

theorem State.takeGx_same {K B : Nat} {s0 : State} {s : State} (v : Nat)
    (hK : K &&& 573323639340597148 = 0) (hB : B ≤ 0) (hk : Same K B s0 s) :
    Same K B s0 (State.takeGx s v) := by
  unfold State.takeGx
  try dsimp only
  repeat' first
    | with_reducible assumption
    | with_reducible rfl
    | exact mask_sub hK rfl
    | exact Nat.le_trans hB (Nat.zero_le _)
    | with_reducible apply State.setFld_same
    | with_reducible apply State.gxDiscard_same
    | with_reducible apply State.applyGx_same
    | dsimp only
    | split
    | intro _

theorem State.takeGallery_same {K B : Nat} {s0 : State} {s : State} (i : Nat) (v : Nat)
    (hK : K &&& 573323639340597148 = 0) (hB : B ≤ 0) (hk : Same K B s0 s) :
    Same K B s0 (State.takeGallery s i v) := by
  unfold State.takeGallery
  try dsimp only
  repeat' first
    | with_reducible assumption
    | with_reducible rfl
    | exact mask_sub hK rfl
    | exact Nat.le_trans hB (Nat.zero_le _)
    | with_reducible apply State.setVal_same
    | with_reducible apply State.setFld_same
    | with_reducible apply State.modGallery_same
    | with_reducible apply State.setEpoch_same
    | with_reducible apply State.takeGalleryStatus_same
    | with_reducible apply State.takeGx_same
    | dsimp only
    | split
    | intro _

theorem State.takeShare_same {K B : Nat} {s0 : State} {s : State} (k : Nat) (v : Nat)
    (hK : K &&& 573323639340597148 = 0) (hB : B ≤ 0) (hk : Same K B s0 s) :
    Same K B s0 (State.takeShare s k v) := by
  unfold State.takeShare
  try dsimp only
  repeat' first
    | with_reducible assumption
    | with_reducible rfl
    | exact mask_sub hK rfl
    | exact Nat.le_trans hB (Nat.zero_le _)
    | with_reducible apply State.modHeard_same
    | with_reducible apply State.takeGallery_same
    | dsimp only
    | split
    | intro _

theorem State.holdShare_same {K B : Nat} {s0 : State} {s : State} (k : Nat) (v : Nat)
    (hK : K &&& 144115194522165760 = 0) (hB : B ≤ 0x1000000) (hk : Same K B s0 s) :
    Same K B s0 (State.holdShare s k v) := by
  unfold State.holdShare
  try dsimp only
  repeat' first
    | with_reducible assumption
    | with_reducible rfl
    | exact mask_sub hK rfl
    | exact le_objAt (Nat.le_trans hB (by decide))
    | exact Nat.le_trans hB (by decide)
    | exact Nat.le_trans hB (by split <;> decide)
    | with_reducible apply State.takeSel_same
    | with_reducible apply State.takePath_same
    | with_reducible apply State.takeAps_same
    | with_reducible apply State.takeSealed_same
    | dsimp only
    | split
    | intro _

theorem State.holdShares_same {K B : Nat} {s0 : State} {s : State}
    (hK : K &&& 144115194522165760 = 0) (hB : B ≤ 0x1000000) (hk : Same K B s0 s) :
    Same K B s0 (State.holdShares s) := by
  unfold State.holdShares
  try dsimp only
  repeat' first
    | with_reducible assumption
    | with_reducible rfl
    | exact mask_sub hK rfl
    | exact le_objAt (Nat.le_trans hB (by decide))
    | exact Nat.le_trans hB (by decide)
    | exact Nat.le_trans hB (by split <;> decide)
    | with_reducible apply State.holdShare_same
    | with_reducible apply Same.foldl
    | with_reducible apply Same.foldl_snd
    | with_reducible apply Same.foldl_fst
    | dsimp only
    | split
    | intro _

theorem State.copyEntries_same {K B : Nat} {s0 : State} {s : State} (body : List BodyItem)
    (hK : K &&& 8192 = 0) (hk : Same K B s0 s) :
    Same K B s0 (State.copyEntries s body) := by
  unfold State.copyEntries
  try dsimp only
  repeat' first
    | with_reducible assumption
    | with_reducible rfl
    | exact mask_sub hK rfl
    | with_reducible apply Same.foldl
    | with_reducible apply Same.foldl_snd
    | with_reducible apply Same.foldl_fst
    | dsimp only
    | split
    | intro _
    | with_reducible apply Same.upd_xc

theorem State.dropUnsent_same {K B : Nat} {s0 : State} {s : State}
    (hK : K &&& 139776 = 0) (hB : B ≤ 0x7f00000) (hk : Same K B s0 s) :
    Same K B s0 (State.dropUnsent s) := by
  unfold State.dropUnsent
  try dsimp only
  repeat' first
    | with_reducible assumption
    | with_reducible rfl
    | exact mask_sub hK rfl
    | exact le_objAt (Nat.le_trans hB (by decide))
    | exact Nat.le_trans hB (by decide)
    | exact Nat.le_trans hB (by split <;> decide)
    | with_reducible apply State.withdraw_same
    | with_reducible apply Same.foldl
    | with_reducible apply Same.foldl_snd
    | with_reducible apply Same.foldl_fst
    | dsimp only
    | split
    | intro _

theorem State.takeCopy_same {K B : Nat} {s0 : State} {s : State} (body : List BodyItem)
    (hK : K &&& 573323639340597148 = 0) (hB : B ≤ 0) (hk : Same K B s0 s) :
    Same K B s0 (State.takeCopy s body) := by
  unfold State.takeCopy
  try dsimp only
  repeat' first
    | with_reducible assumption
    | with_reducible rfl
    | exact mask_sub hK rfl
    | exact Nat.le_trans hB (Nat.zero_le _)
    | with_reducible apply State.modTandem_same
    | with_reducible apply State.finishCopy_same
    | with_reducible apply State.putAll_same
    | with_reducible apply State.applyWrs_same
    | with_reducible apply State.copyEntries_same
    | with_reducible apply State.dropUnsent_same
    | dsimp only
    | split
    | intro _

theorem State.gatherItem_same {K B : Nat} {s0 : State} {s : State} (b : BodyItem)
    (hK : K &&& 8589934592 = 0) (hk : Same K B s0 s) :
    Same K B s0 (State.gatherItem s b) := by
  unfold State.gatherItem
  try dsimp only
  repeat' first
    | with_reducible assumption
    | with_reducible rfl
    | exact mask_sub hK rfl
    | with_reducible apply State.modHeard_same
    | dsimp only
    | split
    | intro _

theorem State.takeStaged_same {K B : Nat} {s0 : State} {s : State} (id : Nat) (fn : Nat) (es : Bool)
    (hK : K &&& 8590336512 = 0) (hB : B ≤ 0x7f00000) (hk : Same K B s0 s) :
    Same K B s0 (State.takeStaged s id fn es) := by
  unfold State.takeStaged
  try dsimp only
  repeat' first
    | with_reducible assumption
    | with_reducible rfl
    | exact mask_sub hK rfl
    | exact le_objAt (Nat.le_trans hB (by decide))
    | exact Nat.le_trans hB (by decide)
    | exact Nat.le_trans hB (by split <;> decide)
    | with_reducible apply State.modHeard_same
    | with_reducible apply State.takeTxn_same
    | dsimp only
    | split
    | intro _

theorem State.resyncEnd_same {K B : Nat} {s0 : State} {s : State}
    (hK : K &&& 573323639340597148 = 0) (hB : B ≤ 0) (hk : Same K B s0 s) :
    Same K B s0 (State.resyncEnd s) := by
  unfold State.resyncEnd
  try dsimp only
  repeat' first
    | with_reducible assumption
    | with_reducible rfl
    | exact mask_sub hK rfl
    | exact Nat.le_trans hB (Nat.zero_le _)
    | with_reducible apply State.takeCopy_same
    | dsimp only
    | split
    | intro _

theorem State.takeItem_same {K B : Nat} {s0 : State} {s : State} (b : BodyItem)
    (hK : K &&& 573323639340859292 = 0) (hB : B ≤ 0) (hk : Same K B s0 s) :
    Same K B s0 (State.takeItem s b) := by
  unfold State.takeItem
  try dsimp only
  repeat' first
    | with_reducible assumption
    | with_reducible rfl
    | exact mask_sub hK rfl
    | exact Nat.le_trans hB (Nat.zero_le _)
    | with_reducible apply State.modHeard_same
    | with_reducible apply State.cancel_same
    | with_reducible apply State.takeCancel_same
    | with_reducible apply State.takeShare_same
    | with_reducible apply State.gatherItem_same
    | with_reducible apply State.takeStaged_same
    | with_reducible apply State.resyncEnd_same
    | dsimp only
    | split
    | intro _

theorem State.takeRecord_same {K B : Nat} {s0 : State} {s : State}
    (hK : K &&& 573323639340859292 = 0) (hB : B ≤ 0) (hk : Same K B s0 s) :
    Same K B s0 (State.takeRecord s) := by
  unfold State.takeRecord
  try dsimp only
  repeat' first
    | with_reducible assumption
    | with_reducible rfl
    | exact mask_sub hK rfl
    | exact Nat.le_trans hB (Nat.zero_le _)
    | with_reducible apply State.modHeard_same
    | with_reducible apply State.holdShares_same
    | with_reducible apply State.takeItem_same
    | with_reducible apply Same.foldl
    | with_reducible apply Same.foldl_snd
    | with_reducible apply Same.foldl_fst
    | dsimp only
    | split
    | intro _
    | with_reducible apply Same.upd_txns

theorem State.tandemBoundary_same {K B : Nat} {s0 : State} {s : State}
    (hK : K &&& 573323639340859292 = 0) (hB : B ≤ 0) (hk : Same K B s0 s) :
    Same K B s0 (State.tandemBoundary s) := by
  unfold State.tandemBoundary
  try dsimp only
  repeat' first
    | with_reducible assumption
    | with_reducible rfl
    | exact mask_sub hK rfl
    | exact Nat.le_trans hB (Nat.zero_le _)
    | with_reducible apply State.tandemRelease_same
    | with_reducible apply State.recordLate_same
    | with_reducible apply State.dualActive_same
    | with_reducible apply State.modeMismatch_same
    | with_reducible apply State.recordMissing_same
    | with_reducible apply State.tandemReady_same
    | with_reducible apply State.takeRecord_same
    | dsimp only
    | split
    | intro _

theorem State.clientFrame_same {K B : Nat} {s0 : State} {s : State} (l : Nat)
    (hK : K &&& 72057909852263936 = 0) (hB : B ≤ 0x3000015) (hk : Same K B s0 s) :
    Same K B s0 (State.clientFrame s l) := by
  unfold State.clientFrame
  try dsimp only
  repeat' first
    | with_reducible assumption
    | with_reducible rfl
    | exact mask_sub hK rfl
    | exact le_objAt (Nat.le_trans hB (by decide))
    | exact Nat.le_trans hB (by decide)
    | exact Nat.le_trans hB (by split <;> decide)
    | with_reducible apply State.modLane_same
    | with_reducible apply State.hiBerFrame_same
    | with_reducible apply State.mapUpTo_same
    | with_reducible apply State.pmBlock_same
    | with_reducible apply State.laneHook_same
    | dsimp only
    | split
    | intro _

theorem State.frameEnds_same {K B : Nat} {s0 : State} {s : State} (seen : FrameSeen)
    (hK : K &&& 72057909852263936 = 0) (hB : B ≤ 0x2000004) (hk : Same K B s0 s) :
    Same K B s0 (State.frameEnds s seen) := by
  unfold State.frameEnds
  try dsimp only
  repeat' first
    | with_reducible assumption
    | with_reducible rfl
    | exact mask_sub hK rfl
    | exact le_objAt (Nat.le_trans hB (by decide))
    | exact Nat.le_trans hB (by decide)
    | exact Nat.le_trans hB (by split <;> decide)
    | with_reducible apply State.eyeRead_same
    | with_reducible apply State.patternCheck_same
    | with_reducible apply State.sawEdge_same
    | with_reducible apply State.clientFrame_same
    | with_reducible apply Same.foldl
    | with_reducible apply Same.foldl_snd
    | with_reducible apply Same.foldl_fst
    | dsimp only
    | split
    | intro _

theorem State.boundaryDone_same {K B : Nat} {s0 : State} {s : State}
    (hK : K &&& 268435456 = 0) (hk : Same K B s0 s) :
    Same K B s0 (State.boundaryDone s) := by
  unfold State.boundaryDone
  try dsimp only
  repeat' first
    | with_reducible assumption
    | with_reducible rfl
    | exact mask_sub hK rfl
    | dsimp only
    | split
    | intro _
    | with_reducible apply Same.upd_timing

theorem State.boundary_same {K B : Nat} {s0 : State} {s : State} (seen : FrameSeen)
    (hK : K &&& 573323639340859292 = 0) (hB : B ≤ 0) (hk : Same K B s0 s) :
    Same K B s0 (State.boundary s seen) := by
  unfold State.boundary
  try dsimp only
  repeat' first
    | with_reducible assumption
    | with_reducible rfl
    | exact mask_sub hK rfl
    | exact Nat.le_trans hB (Nat.zero_le _)
    | with_reducible apply State.pmScanAll_same
    | with_reducible apply State.timingBoundary_same
    | with_reducible apply State.epochAdopt_same
    | with_reducible apply State.galleryBoundary_same
    | with_reducible apply State.supplyIdle_same
    | with_reducible apply State.applyDue_same
    | with_reducible apply State.tandemBoundary_same
    | with_reducible apply State.frameEnds_same
    | with_reducible apply State.boundaryDone_same
    | dsimp only
    | split
    | intro _

theorem State.copyComplete_same {K B : Nat} {s0 : State} {s : State}
    (hK : K &&& 25088 = 0) (hB : B ≤ 0x7f00000) (hk : Same K B s0 s) :
    Same K B s0 (State.copyComplete s) := by
  unfold State.copyComplete
  try dsimp only
  repeat' first
    | with_reducible assumption
    | with_reducible rfl
    | exact mask_sub hK rfl
    | exact le_objAt (Nat.le_trans hB (by decide))
    | exact Nat.le_trans hB (by decide)
    | exact Nat.le_trans hB (by split <;> decide)
    | with_reducible apply State.finishCopy_same
    | dsimp only
    | split
    | intro _

end Sys2Proof.Machine
end

