-- ==== Sys2Proof/Laws/SameServer.lean ====
section
/-! SUPPORT. What the operations of Machine/Server.lean leave (Same). -/

namespace Sys2Proof.Machine

theorem State.answerWith_same {K B : Nat} {s0 : State} {s : State} (r : Reply) (cls : Nat)
    (hK : K &&& 2233458509312 = 0) (hB : B ≤ 0xf000003) (hk : Same K B s0 s) :
    Same K B s0 (State.answerWith s r cls) := by
  unfold State.answerWith
  try dsimp only
  repeat' first
    | with_reducible assumption
    | with_reducible rfl
    | exact mask_sub hK rfl
    | exact le_objAt (Nat.le_trans hB (by decide))
    | exact Nat.le_trans hB (by decide)
    | exact Nat.le_trans hB (by split <;> decide)
    | with_reducible apply State.deliver_same
    | dsimp only
    | split
    | intro _
    | with_reducible apply Same.upd_lastReply

theorem State.runOps_same {K B : Nat} {s0 : State} (n : Nat) (ops : List Op) {s : State}
    (hK : K &&& 445926525598629648 = 0) (hB : B ≤ 0) (hk : Same K B s0 s) :
    Same K B s0 (State.runOps n ops s).2 := by
  induction ops generalizing s with
  | nil => exact hk
  | cons op ops ih =>
    unfold State.runOps
    dsimp only
    split
    · exact Same.upd_lastOp (mask_sub hK rfl) (State.execOp_same n op (mask_sub hK rfl) (Nat.le_trans hB (by decide)) hk)
    · exact ih (Same.upd_lastOp (mask_sub hK rfl) (State.execOp_same n op (mask_sub hK rfl) (Nat.le_trans hB (by decide)) hk))

theorem State.access_same {K B : Nat} {s0 : State} {s : State} (n : Nat) (ops : List Op)
    (hK : K &&& 445926525598629648 = 0) (hB : B ≤ 0) (hk : Same K B s0 s) :
    Same K B s0 (State.access s n ops).2.2 := by
  unfold State.access
  try dsimp only
  repeat' first
    | with_reducible assumption
    | with_reducible rfl
    | exact mask_sub hK rfl
    | exact Nat.le_trans hB (Nat.zero_le _)
    | with_reducible apply State.runOps_same
    | dsimp only
    | split
    | intro _

theorem State.keyed_same {K B : Nat} {s0 : State} {s : State} (x : Session) (obj scope : Nat) (r : ClaimOut)
    (hr : Same K B s0 r.2.2) (hk : Same K B s0 s) : Same K B s0 (s.keyed x obj scope r).2.2 := by
  unfold State.keyed claimAnswer
  dsimp only
  split
  · exact hk
  · exact hr

theorem State.doReq_same {K B : Nat} {s0 : State} {s : State} (x : Session) (r : Req)
    (hK : K &&& 499969721127337744 = 0) (hB : B ≤ 0) (hk : Same K B s0 s) :
    Same K B s0 (s.doReq x r).2.2 := by
  cases r with
  | opn => exact hk
  | close => exact State.modSession_same _ _ (mask_sub hK rfl) hk
  | keepalive => exact hk
  | access ops => exact State.access_same x.num ops (mask_sub hK rfl) (Nat.le_trans hB (by decide)) hk
  | commit fn dry => exact State.commit_same x fn dry (mask_sub hK rfl) (Nat.le_trans hB (by decide)) hk
  | abort => exact State.abort_same x (mask_sub hK rfl) hk
  | cancel id => exact State.cancel_same x id (mask_sub hK rfl) (Nat.le_trans hB (by decide)) hk
  | claim obj scope lease => exact State.keyed_same x obj scope _ (State.claimReq_same x.num obj scope lease (mask_sub hK rfl) hk) hk
  | renew obj scope lease => exact State.keyed_same x obj scope _ (State.renewReq_same x.num obj scope lease (mask_sub hK rfl) hk) hk
  | release obj scope => exact State.keyed_same x obj scope _ (State.releaseReq_same x.num obj scope (mask_sub hK rfl) hk) hk
  | eventAck seq => exact State.eventAck_same x.num seq (mask_sub hK rfl) hk
  | event => exact hk
  | reserved => exact hk
  | malformed => exact hk

theorem State.wrapEnd_same {K B : Nat} {s0 : State} {s : State} (n : Nat) (seq : Nat)
    (hK : K &&& 16384 = 0) (hk : Same K B s0 s) :
    Same K B s0 (State.wrapEnd s n seq) := by
  unfold State.wrapEnd
  try dsimp only
  repeat' first
    | with_reducible assumption
    | with_reducible rfl
    | exact mask_sub hK rfl
    | with_reducible apply State.modSession_same
    | dsimp only
    | split
    | intro _

theorem State.execReq_same {K B : Nat} {s0 : State} {s : State} (n : Nat) (src : Src) (seq : Nat) (req : Req)
    (hK : K &&& 576390383559245592 = 0) (hB : B ≤ 0) (hk : Same K B s0 s) :
    Same K B s0 (State.execReq s n src seq req) := by
  unfold State.execReq
  try dsimp only
  repeat' first
    | with_reducible assumption
    | with_reducible rfl
    | exact mask_sub hK rfl
    | exact Nat.le_trans hB (Nat.zero_le _)
    | with_reducible apply State.setSession_same
    | with_reducible apply State.modSession_same
    | with_reducible apply State.settleOps_same
    | with_reducible apply State.answerWith_same
    | with_reducible apply State.doReq_same
    | with_reducible apply State.wrapEnd_same
    | dsimp only
    | split
    | intro _

theorem State.drainHeld_same {K B : Nat} {s0 : State} (n k : Nat) {s : State}
    (hK : K &&& 576390383559245592 = 0) (hB : B ≤ 0) (hk : Same K B s0 s) :
    Same K B s0 (State.drainHeld n k s) := by
  induction k generalizing s with
  | zero => exact hk
  | succ k ih =>
    unfold State.drainHeld
    split
    · split
      · exact ih (State.execReq_same _ _ _ _ (mask_sub hK rfl) (Nat.le_trans hB (by decide)) (State.setSession_same _ (mask_sub hK rfl) hk))
      · exact hk
    · exact hk

theorem State.sequence_same {K B : Nat} {s0 : State} {s : State} (x : Session) (src : Src) (seq : Nat) (req : Req)
    (hK : K &&& 576390383559245592 = 0) (hB : B ≤ 0) (hk : Same K B s0 s) :
    Same K B s0 (State.sequence s x src seq req) := by
  unfold State.sequence
  try dsimp only
  repeat' first
    | with_reducible assumption
    | with_reducible rfl
    | exact mask_sub hK rfl
    | exact Nat.le_trans hB (Nat.zero_le _)
    | with_reducible apply State.modSession_same
    | with_reducible apply State.answerWith_same
    | with_reducible apply State.execReq_same
    | with_reducible apply State.drainHeld_same
    | dsimp only
    | split
    | intro _

theorem State.inSession_same {K B : Nat} {s0 : State} {s : State} (x : Session) (src : Src) (seq : Nat) (req : Req)
    (hK : K &&& 576390383559245592 = 0) (hB : B ≤ 0) (hk : Same K B s0 s) :
    Same K B s0 (State.inSession s x src seq req) := by
  unfold State.inSession
  try dsimp only
  repeat' first
    | with_reducible assumption
    | with_reducible rfl
    | exact mask_sub hK rfl
    | exact Nat.le_trans hB (Nat.zero_le _)
    | with_reducible apply State.setSession_same
    | with_reducible apply State.sequence_same
    | dsimp only
    | split
    | intro _

theorem State.openSession_same {K B : Nat} {s0 : State} {s : State} (src : Src) (seq : Nat) (part : Nat) (auth : Bool) (events : Bool) (idle : Nat) (nonce : List Byte)
    (hK : K &&& 49408 = 0) (hk : Same K B s0 s) :
    Same K B s0 (State.openSession s src seq part auth events idle nonce).2.2 := by
  unfold State.openSession
  try dsimp only
  repeat' first
    | with_reducible assumption
    | with_reducible rfl
    | exact mask_sub hK rfl
    | with_reducible apply State.drawn_same
    | dsimp only
    | split
    | intro _
    | with_reducible apply Same.upd_sessions_freeNums

theorem State.openReq_same {K B : Nat} {s0 : State} {s : State} (src : Src) (seq : Nat) (req : Req)
    (hK : K &&& 2233458607872 = 0) (hB : B ≤ 0xf000003) (hk : Same K B s0 s) :
    Same K B s0 (State.openReq s src seq req) := by
  unfold State.openReq
  try dsimp only
  repeat' first
    | with_reducible assumption
    | with_reducible rfl
    | exact mask_sub hK rfl
    | exact le_objAt (Nat.le_trans hB (by decide))
    | exact Nat.le_trans hB (by decide)
    | exact Nat.le_trans hB (by split <;> decide)
    | with_reducible apply State.answerWith_same
    | with_reducible apply State.openSession_same
    | dsimp only
    | split
    | intro _
    | with_reducible apply Same.upd_opened

theorem State.discard_same {K B : Nat} {s0 : State} {s : State}
    (hK : K &&& 512 = 0) (hB : B ≤ 0x11f00030) (hk : Same K B s0 s) :
    Same K B s0 (State.discard s) := by
  unfold State.discard
  try dsimp only
  repeat' first
    | with_reducible assumption
    | with_reducible rfl
    | exact mask_sub hK rfl
    | exact le_objAt (Nat.le_trans hB (by decide))
    | exact Nat.le_trans hB (by decide)
    | exact Nat.le_trans hB (by split <;> decide)
    | with_reducible apply State.bump_same
    | dsimp only
    | split
    | intro _

theorem State.authFail_same {K B : Nat} {s0 : State} {s : State}
    (hK : K &&& 16896 = 0) (hB : B ≤ 0x11f00020) (hk : Same K B s0 s) :
    Same K B s0 (State.authFail s) := by
  unfold State.authFail
  try dsimp only
  repeat' first
    | with_reducible assumption
    | with_reducible rfl
    | exact mask_sub hK rfl
    | exact le_objAt (Nat.le_trans hB (by decide))
    | exact Nat.le_trans hB (by decide)
    | exact Nat.le_trans hB (by split <;> decide)
    | with_reducible apply State.bump_same
    | with_reducible apply State.raise_same
    | dsimp only
    | split
    | intro _

theorem State.named_same {K B : Nat} {s0 : State} {s : State} (src : Src) (h : Head) (req : Req)
    (hK : K &&& 576390383559245592 = 0) (hB : B ≤ 0) (hk : Same K B s0 s) :
    Same K B s0 (State.named s src h req) := by
  unfold State.named
  try dsimp only
  repeat' first
    | with_reducible assumption
    | with_reducible rfl
    | exact mask_sub hK rfl
    | exact Nat.le_trans hB (Nat.zero_le _)
    | with_reducible apply State.event_same
    | with_reducible apply State.inSession_same
    | with_reducible apply State.discard_same
    | dsimp only
    | split
    | intro _

theorem State.plainMsg_same {K B : Nat} {s0 : State} {s : State} (src : Src) (h : Head) (req : Req)
    (hK : K &&& 576390383559245592 = 0) (hB : B ≤ 0) (hk : Same K B s0 s) :
    Same K B s0 (State.plainMsg s src h req) := by
  unfold State.plainMsg
  try dsimp only
  repeat' first
    | with_reducible assumption
    | with_reducible rfl
    | exact mask_sub hK rfl
    | exact Nat.le_trans hB (Nat.zero_le _)
    | with_reducible apply State.bump_same
    | with_reducible apply State.openReq_same
    | with_reducible apply State.discard_same
    | with_reducible apply State.authFail_same
    | with_reducible apply State.named_same
    | dsimp only
    | split
    | intro _

theorem State.sealedMsg_same {K B : Nat} {s0 : State} {s : State} (src : Src) (h : Head) (req : Req)
    (hK : K &&& 576390383559245592 = 0) (hB : B ≤ 0) (hk : Same K B s0 s) :
    Same K B s0 (State.sealedMsg s src h req) := by
  unfold State.sealedMsg
  try dsimp only
  repeat' first
    | with_reducible assumption
    | with_reducible rfl
    | exact mask_sub hK rfl
    | exact Nat.le_trans hB (Nat.zero_le _)
    | with_reducible apply State.discard_same
    | with_reducible apply State.authFail_same
    | with_reducible apply State.named_same
    | dsimp only
    | split
    | intro _

theorem State.judgeMsg_same {K B : Nat} {s0 : State} {s : State} (src : Src) (h : Head) (req : Req)
    (hK : K &&& 576390383559245592 = 0) (hB : B ≤ 0) (hk : Same K B s0 s) :
    Same K B s0 (State.judgeMsg s src h req) := by
  unfold State.judgeMsg
  try dsimp only
  repeat' first
    | with_reducible assumption
    | with_reducible rfl
    | exact mask_sub hK rfl
    | exact Nat.le_trans hB (Nat.zero_le _)
    | with_reducible apply State.discard_same
    | with_reducible apply State.plainMsg_same
    | with_reducible apply State.sealedMsg_same
    | dsimp only
    | split
    | intro _

theorem State.takeMsg_same {K B : Nat} {s0 : State} {s : State} (src : Src) (h : Head) (req : Req)
    (hK : K &&& 576390383559245592 = 0) (hB : B ≤ 0) (hk : Same K B s0 s) :
    Same K B s0 (State.takeMsg s src h req) := by
  unfold State.takeMsg
  try dsimp only
  repeat' first
    | with_reducible assumption
    | with_reducible rfl
    | exact mask_sub hK rfl
    | exact Nat.le_trans hB (Nat.zero_le _)
    | with_reducible apply State.leasesDue_same
    | with_reducible apply State.judgeMsg_same
    | dsimp only
    | split
    | intro _

theorem State.takeRaw_same {K B : Nat} {s0 : State} {s : State} (src : Src) (bs : List Byte)
    (hK : K &&& 576390383559245592 = 0) (hB : B ≤ 0) (hk : Same K B s0 s) :
    Same K B s0 (State.takeRaw s src bs) := by
  unfold State.takeRaw
  try dsimp only
  repeat' first
    | with_reducible assumption
    | with_reducible rfl
    | exact mask_sub hK rfl
    | exact Nat.le_trans hB (Nat.zero_le _)
    | with_reducible apply State.takeMsg_same
    | dsimp only
    | split
    | intro _

theorem State.serveMac_same {K B : Nat} {s0 : State} (m k : Nat) {s : State}
    (hK : K &&& 576390383559245592 = 0) (hB : B ≤ 0) (hk : Same K B s0 s) :
    Same K B s0 (State.serveMac m k s) := by
  induction k generalizing s with
  | zero => exact hk
  | succ k ih =>
    unfold State.serveMac
    split
    · split
      · exact ih (State.takeRaw_same _ _ (mask_sub hK rfl) (Nat.le_trans hB (by decide))
          (State.pauseCheck_same _ (mask_sub hK rfl) (State.modMac_same _ _ (mask_sub hK rfl) hk)))
      · exact hk
    · exact hk

theorem State.serveSpi_same {K B : Nat} {s0 : State} (k : Nat) {s : State}
    (hK : K &&& 576390383559245592 = 0) (hB : B ≤ 0) (hk : Same K B s0 s) :
    Same K B s0 (State.serveSpi k s) := by
  induction k generalizing s with
  | zero => exact hk
  | succ k ih =>
    unfold State.serveSpi
    split
    · split
      · exact ih (State.takeRaw_same _ _ (mask_sub hK rfl) (Nat.le_trans hB (by decide)) (Same.upd_spiIn (mask_sub hK rfl) hk))
      · exact hk
    · exact hk

theorem State.serveDcc_same {K B : Nat} {s0 : State} (k : Nat) {s : State}
    (hK : K &&& 576390383559245592 = 0) (hB : B ≤ 0) (hk : Same K B s0 s) :
    Same K B s0 (State.serveDcc k s) := by
  induction k generalizing s with
  | zero => exact hk
  | succ k ih =>
    unfold State.serveDcc
    split
    · split
      · exact ih (State.takeRaw_same _ _ (mask_sub hK rfl) (Nat.le_trans hB (by decide)) (Same.upd_dccIn (mask_sub hK rfl) hk))
      · exact hk
    · exact hk

theorem State.serveAll_same {K B : Nat} {s0 : State} {s : State}
    (hK : K &&& 576390383559245592 = 0) (hB : B ≤ 0) (hk : Same K B s0 s) :
    Same K B s0 (State.serveAll s) := by
  unfold State.serveAll
  try dsimp only
  repeat' first
    | with_reducible assumption
    | with_reducible rfl
    | exact mask_sub hK rfl
    | exact Nat.le_trans hB (Nat.zero_le _)
    | with_reducible apply State.serveMac_same
    | with_reducible apply State.serveSpi_same
    | with_reducible apply State.serveDcc_same
    | dsimp only
    | split
    | intro _

theorem State.spiWrite_same {K B : Nat} {s0 : State} {s : State} (bytes : List Byte)
    (hK : K &&& 576390383559245592 = 0) (hB : B ≤ 0) (hk : Same K B s0 s) :
    Same K B s0 (State.spiWrite s bytes) := by
  unfold State.spiWrite
  try dsimp only
  repeat' first
    | with_reducible assumption
    | with_reducible rfl
    | exact mask_sub hK rfl
    | exact Nat.le_trans hB (Nat.zero_le _)
    | with_reducible apply State.bump_same
    | with_reducible apply State.serveAll_same
    | dsimp only
    | split
    | intro _
    | with_reducible apply Same.upd_spiIn

theorem State.spiRead_same {K B : Nat} {s0 : State} {s : State} (clocked : Nat)
    (hK : K &&& 25165824 = 0) (hk : Same K B s0 s) :
    Same K B s0 (State.spiRead s clocked) := by
  unfold State.spiRead
  try dsimp only
  repeat' first
    | with_reducible assumption
    | with_reducible rfl
    | exact mask_sub hK rfl
    | dsimp only
    | split
    | intro _
    | with_reducible apply Same.upd_miso
    | with_reducible apply Same.upd_spiOut_miso

theorem State.spiStatus_same {K B : Nat} {s0 : State} {s : State}
    (hK : K &&& 16777216 = 0) (hk : Same K B s0 s) :
    Same K B s0 (State.spiStatus s) := by
  unfold State.spiStatus
  try dsimp only
  repeat' first
    | with_reducible assumption
    | with_reducible rfl
    | exact mask_sub hK rfl
    | dsimp only
    | split
    | intro _
    | with_reducible apply Same.upd_miso

end Sys2Proof.Machine
end

