-- ==== Sys2Proof/Laws/Defects.lean ====
section
/-! SUPPORT. What declaring and clearing a line defect does to DEFECT_STATE and DEFECT_STICKY, and what the watchers of a
lane leave. -/

namespace Sys2Proof.Machine

variable (s : State)

/-- What watches a lane writes no object below TE_STICKY. -/
theorem State.laneHook_val (l : Nat) {o : Nat} (h : o < 0x0A000030) : (s.laneHook l).val o = s.val o :=
  (State.laneHook_same (K := 0) (B := 0x0A000030) l (Nat.zero_and _) (Nat.le_refl _) (Same.refl _ _ s)).objs o h

theorem State.laneHook_live (l : Nat) : (s.laneHook l).live = s.live :=
  (State.laneHook_same (K := 1024) (B := 0) l rfl (Nat.zero_le _) (Same.refl _ _ s)).live rfl

theorem State.laneHook_words (l : Nat) : (s.laneHook l).words = s.words :=
  (State.laneHook_same (K := 2048) (B := 0) l rfl (Nat.zero_le _) (Same.refl _ _ s)).words rfl

theorem lineObj_lt {l : Nat} (h : l < 96) : lineObj l < 0x0A000030 := by
  unfold lineObj objAt O.DEFECT_STATE; omega

theorem State.laneHook_defect {l m : Nat} (h : m < 96) (b : Nat) : (s.laneHook l).defect m b = s.defect m b :=
  State.objBit_of_val (State.laneHook_val s l (lineObj_lt h)) b

theorem State.laneHook_sticky {l m : Nat} (h : m < 96) (b : Nat) :
    (s.laneHook l).objBit (objAt O.DEFECT_STICKY m) b = s.objBit (objAt O.DEFECT_STICKY m) b :=
  State.objBit_of_val (State.laneHook_val s l (by unfold objAt O.DEFECT_STICKY; omega)) b

@[simp] theorem State.noteSf_val (l o : Nat) : (s.noteSf l).val o = s.val o := rfl

theorem State.defect_of_val {s t : State} {l : Nat} (h : t.val (lineObj l) = s.val (lineObj l)) (b : Nat) :
    t.defect l b = s.defect l b := State.objBit_of_val h b

theorem State.foldl_val {β : Type} {f : State → β → State} {o : Nat} (hf : ∀ t x, (f t x).val o = t.val o) (xs : List β)
    (s : State) : (xs.foldl f s).val o = s.val o := by
  induction xs generalizing s with
  | nil => rfl
  | cons x xs ih => exact (ih (f s x)).trans (hf s x)

theorem State.clearPaths_val {l o : Nat} (h : o < pathObj l 0) : (s.clearPaths l).val o = s.val o := by
  unfold State.clearPaths
  refine (State.foldl_val (fun t k => State.val_setVal_ne t ?_ _) _ _)
  unfold pathObj objAt at *
  omega

/-- The masks of R117, one bit at a time. -/
theorem State.maskBits (l st : Nat) (bs : List Nat) (s : State) :
    ∀ c, c < 96 → (bs.foldl (fun s b => if lineMasked st b && s.defect l b then s.putBit (lineObj l) b false else s) s).defect l c =
      (s.defect l c && !(lineMasked st c && bs.contains c)) := by
  induction bs generalizing s with
  | nil => intro c hc; simp
  | cons b bs ih =>
    intro c hc
    rw [List.foldl_cons, ih _ c hc]
    by_cases hm : lineMasked st b && s.defect l b
    · rw [if_pos hm]
      unfold State.defect at *
      rw [State.objBit_putBit _ _ _ _ _ hc]
      by_cases hcb : c = b
      · subst hcb
        simp only [Bool.and_eq_true] at hm
        simp [hm.1]
      · rw [if_neg hcb]
        simp [hcb]
    · rw [if_neg hm]
      by_cases hcb : c = b
      · subst hcb
        cases h1 : lineMasked st c <;> cases h2 : s.defect l c <;> simp_all
      · simp [hcb]

/-- Values other than DEFECT_STATE's that applyMasks leaves. -/
theorem State.maskBits_val (l st : Nat) (bs : List Nat) (s : State) {o : Nat} (h : o ≠ lineObj l) :
    (bs.foldl (fun s b => if lineMasked st b && s.defect l b then s.putBit (lineObj l) b false else s) s).val o = s.val o :=
  State.foldl_val (fun t b => by
    split
    · exact State.val_setVal_ne _ h _
    · rfl) bs s

theorem State.dropS1_val {l o : Nat} (h1 : o ≠ objAt O.SDH_RX_OH l) (h2 : o ≠ objAt O.SDH_STICKY l)
    (h3 : o ≠ O.FOLLA_STICKY) : (s.dropS1 l).val o = s.val o := by
  unfold State.dropS1
  split
  · exact (State.raiseBit_val _ h2 h3).trans (State.val_setFld_ne _ _ _ _ _ _ h1)
  · rfl

/-- After the masks: what they leave of the bits of DEFECT_STATE stays. -/
theorem State.applyMasks_defect {l c : Nat} (hc : c < 11) :
    (s.applyMasks l).defect l c = (s.defect l c && !lineMasked (bits (s.val (lineObj l)) 10 0) c) := by
  have hfin : ∀ t u : State, u.val (lineObj l) = t.val (lineObj l) → u.defect l c = t.defect l c :=
    fun t u h => State.defect_of_val h c
  have hmask := State.maskBits l (bits (s.val (lineObj l)) 10 0) (List.range 11) s c (by omega)
  have hin : (List.range 11).contains c = true := by simpa using hc
  rw [hin, Bool.and_true] at hmask
  rw [← hmask]
  apply hfin
  have h1 : ∀ (t : State) v, (t.setVal (objAt O.TTF_RX_FLAGS l) v).val (lineObj l) = t.val (lineObj l) := fun t v =>
    State.val_setVal_ne t (by unfold lineObj objAt O.DEFECT_STATE O.TTF_RX_FLAGS; omega) v
  have h2 : ∀ (t : State) b, (t.setOn F.LEDGER_STATUS_LTD b l).val (lineObj l) = t.val (lineObj l) := fun t b =>
    State.val_setVal_ne t (by simp only [lineObj, Fld.obj, objAt, O.DEFECT_STATE, F.LEDGER_STATUS_LTD]; omega) _
  have h3 : ∀ t : State, (t.clearPaths l).val (lineObj l) = t.val (lineObj l) := fun t =>
    State.clearPaths_val t (by unfold lineObj pathObj objAt O.DEFECT_STATE O.PATH_DEFECT_STATE; omega)
  have h4 : ∀ (t : State) v, (t.setVal (objAt O.GROUP_DEFECT_STATE l) v).val (lineObj l) = t.val (lineObj l) := fun t v =>
    State.val_setVal_ne t (by unfold lineObj objAt O.DEFECT_STATE O.GROUP_DEFECT_STATE; omega) v
  have h5 : ∀ t : State, (t.dropS1 l).val (lineObj l) = t.val (lineObj l) := fun t =>
    State.dropS1_val t (by unfold lineObj objAt O.DEFECT_STATE O.SDH_RX_OH; omega)
      (by unfold lineObj objAt O.DEFECT_STATE O.SDH_STICKY; omega) (by unfold lineObj objAt O.DEFECT_STATE O.FOLLA_STICKY; omega)
  unfold State.applyMasks
  dsimp only
  repeat' split
  all_goals simp only [State.modLane_val, h1, h2, h3, h4, h5]

theorem State.applyMasks_val {l o : Nat} (hn : o ≠ lineObj l) (h1 : o ≠ objAt O.TTF_RX_FLAGS l)
    (h2 : o < pathObj l 0) (h4 : o ≠ objAt O.GROUP_DEFECT_STATE l) (h5 : o ≠ objAt O.SDH_RX_OH l)
    (h6 : o ≠ objAt O.SDH_STICKY l) (h7 : o ≠ O.FOLLA_STICKY) : (s.applyMasks l).val o = s.val o := by
  have hm := State.maskBits_val l (bits (s.val (lineObj l)) 10 0) (List.range 11) s hn
  have h1' : ∀ (t : State) v, (t.setVal (objAt O.TTF_RX_FLAGS l) v).val o = t.val o := fun t v =>
    State.val_setVal_ne t h1 v
  have h2' : ∀ (t : State) b, (t.setOn F.LEDGER_STATUS_LTD b l).val o = t.val o := fun t b =>
    State.val_setVal_ne t (by simp only [pathObj, Fld.obj, objAt, O.PATH_DEFECT_STATE, F.LEDGER_STATUS_LTD] at *; omega) _
  have h3 : ∀ t : State, (t.clearPaths l).val o = t.val o := fun t => State.clearPaths_val t h2
  have h4' : ∀ (t : State) v, (t.setVal (objAt O.GROUP_DEFECT_STATE l) v).val o = t.val o := fun t v =>
    State.val_setVal_ne t h4 v
  have h5' : ∀ t : State, (t.dropS1 l).val o = t.val o := fun t => State.dropS1_val t h5 h6 h7
  rw [← hm]
  unfold State.applyMasks
  dsimp only
  repeat' split
  all_goals simp only [State.modLane_val, h1', h2', h3, h4', h5']

/-- The bits of DEFECT_STATE read as a number. -/
theorem State.defect_testBit (l c : Nat) (hc : c < 11) : (bits (s.val (lineObj l)) 10 0).testBit c = s.defect l c := by
  rw [bits_testBit]
  simp [State.defect, State.objBit, hc]

/-- No line defect masks itself. -/
theorem lineMasked_self (x y b : Nat) (hb : b < 11) (h : ∀ c, c < 11 → c ≠ b → y.testBit c = x.testBit c) :
    lineMasked y b = lineMasked x b := by
  have e0 := h dLos (by decide)
  have e1 := h dOof (by decide)
  have e2 := h dLof (by decide)
  have e3 := h dAisL (by decide)
  have e6 := h dSf (by decide)
  have e8 := h dLobl (by decide)
  unfold lineMasked
  generalize y.testBit dLos = y0 at *
  generalize y.testBit dOof = y1 at *
  generalize y.testBit dLof = y2 at *
  generalize y.testBit dAisL = y3 at *
  generalize y.testBit dSf = y6 at *
  generalize y.testBit dLobl = y8 at *
  interval_cases b <;> simp_all [dSd, dHiBer]

/-- Whether R117 masks line defect b of the lane. -/
def State.lineMask (s : State) (l b : Nat) : Bool := lineMasked (bits (s.val (lineObj l)) 10 0) b

/-- declare: the defect is in force unless masked. -/
theorem State.declare_defect {l b : Nat} (hl : l < 96) (hb : b < 11) :
    (s.declare l b).defect l b = (s.defect l b || !s.lineMask l b) := by
  unfold State.declare State.lineMask
  by_cases h : (s.defect l b || lineMasked (bits (s.val (lineObj l)) 10 0) b) = true
  · rw [if_pos h]
    cases h1 : s.defect l b
    · rw [h1] at h; simp_all
    · rfl
  · rw [if_neg h]
    rw [Bool.not_eq_true, Bool.or_eq_false_iff] at h
    have hne : lineObj l ≠ objAt O.DEFECT_STICKY l := by unfold lineObj objAt O.DEFECT_STATE O.DEFECT_STICKY; omega
    have hf : lineObj l ≠ O.FOLLA_STICKY := by unfold lineObj objAt O.DEFECT_STATE O.FOLLA_STICKY; omega
    have hv : ((s.putBit (lineObj l) b true).raiseBit (objAt O.DEFECT_STICKY l) b).val (lineObj l) =
        (s.putBit (lineObj l) b true).val (lineObj l) := State.raiseBit_val _ hne hf
    have hd : ∀ c, c < 11 → ((s.putBit (lineObj l) b true).raiseBit (objAt O.DEFECT_STICKY l) b).defect l c =
        if c = b then true else s.defect l c := by
      intro c hc
      rw [State.defect_of_val hv]
      exact State.objBit_putBit s _ _ _ _ (by omega)
    have ha : ((((s.putBit (lineObj l) b true).raiseBit (objAt O.DEFECT_STICKY l) b).applyMasks l).noteSf l).defect l b =
        (((s.putBit (lineObj l) b true).raiseBit (objAt O.DEFECT_STICKY l) b).applyMasks l).defect l b :=
      State.defect_of_val rfl b
    rw [ha, State.applyMasks_defect _ hb, hd b hb, if_pos rfl]
    rw [lineMasked_self (bits (s.val (lineObj l)) 10 0) _ b hb]
    · simp [h.1, h.2]
    · intro c hc hcb
      rw [State.defect_testBit _ _ _ hc, State.defect_testBit _ _ _ hc, hd c hc, if_neg hcb]

/-- declare: a defect newly in force has set its sticky bit. -/
theorem State.declare_sticky {l b : Nat} (hl : l < 96) (hb : b < 11) (h : s.defect l b = false)
    (hd : (s.declare l b).defect l b = true) : (s.declare l b).objBit (objAt O.DEFECT_STICKY l) b = true := by
  have hg : lineMasked (bits (s.val (lineObj l)) 10 0) b = false := by
    rw [State.declare_defect s hl hb, h] at hd
    simpa [State.lineMask] using hd
  unfold State.declare
  rw [h, hg]
  simp only [Bool.or_self, Bool.false_eq_true, if_false]
  have hv : ∀ t : State, ((t.applyMasks l).noteSf l).val (objAt O.DEFECT_STICKY l) = t.val (objAt O.DEFECT_STICKY l) :=
    fun t => (State.noteSf_val _ _ _).trans (State.applyMasks_val t
      (by unfold lineObj objAt O.DEFECT_STATE O.DEFECT_STICKY; omega)
      (by unfold objAt O.DEFECT_STICKY O.TTF_RX_FLAGS; omega)
      (by unfold pathObj objAt O.DEFECT_STICKY O.PATH_DEFECT_STATE; omega)
      (by unfold objAt O.DEFECT_STICKY O.GROUP_DEFECT_STATE; omega)
      (by unfold objAt O.DEFECT_STICKY O.SDH_RX_OH; omega)
      (by unfold objAt O.DEFECT_STICKY O.SDH_STICKY; omega)
      (by unfold objAt O.DEFECT_STICKY O.FOLLA_STICKY; omega))
  rw [State.objBit_of_val (hv _)]
  exact State.raiseBit_self _ _ _ (by omega)

end Sys2Proof.Machine
end

