-- ==== Sys2Proof/Laws/Keeps.lean ====
section
/-! SUPPORT. What the operations of the model keep, said once: the queue, the instant, and Sound. -/

namespace Sys2Proof.Machine

/-- From s to t the queue and the instant stand, and Sound is kept. -/
structure Keeps (s t : State) : Prop where
  pending : t.pending = s.pending
  now : t.now = s.now
  sound : s.Sound → t.Sound

theorem Keeps.refl (s : State) : Keeps s s := ⟨rfl, rfl, id⟩

theorem Keeps.trans {a b c : State} (h : Keeps a b) (k : Keeps b c) : Keeps a c :=
  ⟨k.pending.trans h.pending, k.now.trans h.now, fun x => k.sound (h.sound x)⟩

/-- An update of other fields. -/
theorem Keeps.upd {s0 s : State} {dts' : Tick} {tempo' : Bool} {startup' : Startup} {straps' : Straps} {resetLow' :
    Bool} {rails' : List Bool} {free' : Nat} {lanes' : Map Lane} {xc' : Xc} {opened' : List (Src × Nat × Reply ×
    Tick)} {txns' : List Txn} {nextTxn' : Nat} {claims' : Map Claim} {hwClaims' : Map Claim} {gens' : Map Nat} {spiIn'
    : List (List Byte)} {spiOut' : List Reply} {miso' : List Byte} {lastOp' : OpResult} {lastReply' : Option Reply}
    {cands' : Map Cand} {timing' : Timing} {outs' : Map Out} {pps' : Map Pulse} {aps' : Map Aps} {pathProt' : Map
    PathProt} {tandem' : Tandem} {gallery' : Gallery} {chans' : Map Chan} {dccOut' : Map (List Byte)} {dccIn' : List
    (List Byte)} {points' : Map Point} {dayCuts' : List (Nat × Nat)} {tcaLog' : List (Word × Word)} {macs' : Map Mac}
    {faults' : Faults} {usedBanks' : List Nat} {owners' : Map Nat} {retained' : List Nat} {seatObjs' : List Nat}
    {tempoFrom' : Tick} {tempoHeld' : Nat} {bases' : Map Val} {scrubFrom' : Tick} {cvuRuns' : Map CvuRun} {supply' :
    Supply} {slacks' : List (Nat × Nat × Option Int)} {worstFn' : Option Nat} {slotCheck' : SlotCheck} {vault' :
    Vault} {pins' : Map Pin} (h : Keeps s0 s) :
    Keeps s0 (State.mk s.pending s.now dts' tempo' startup' straps' resetLow' rails' free' s.dict s.live s.words lanes' xc'
      s.sessions s.freeNums opened' txns' nextTxn' claims' hwClaims' gens' spiIn' spiOut' miso' lastOp' lastReply'
      cands' timing' outs' pps' aps' pathProt' tandem' gallery' chans' dccOut' dccIn' points' dayCuts' tcaLog'
      macs' faults' s.banks usedBanks' owners' retained' seatObjs' tempoFrom' tempoHeld' bases' scrubFrom'
      cvuRuns' supply' slacks' worstFn' slotCheck' vault' pins') :=
  ⟨h.pending, h.now, h.sound⟩

theorem Keeps.foldl {β : Type} {a : State} {f : State → β → State} (hf : ∀ s x, Keeps a s → Keeps a (f s x)) (l : List β)
    {s : State} (h : Keeps a s) : Keeps a (l.foldl f s) := by
  induction l generalizing s with
  | nil => exact h
  | cons x l ih => exact ih (hf s x h)

theorem Keeps.foldl_snd {β γ : Type} {a : State} {f : γ × State → β → γ × State}
    (hf : ∀ p x, Keeps a p.2 → Keeps a (f p x).2) (l : List β) {p : γ × State} (h : Keeps a p.2) :
    Keeps a (l.foldl f p).2 := by
  induction l generalizing p with
  | nil => exact h
  | cons x l ih => exact ih (hf p x h)

theorem Keeps.foldl_fst {β γ : Type} {a : State} {f : State × γ → β → State × γ}
    (hf : ∀ p x, Keeps a p.1 → Keeps a (f p x).1) (l : List β) {p : State × γ} (h : Keeps a p.1) :
    Keeps a (l.foldl f p).1 := by
  induction l generalizing p with
  | nil => exact h
  | cons x l ih => exact ih (hf p x h)

/-! ### The updates of the fields that Sound speaks of -/

theorem Keeps.dict {a s : State} {d : Map Val} (hd : Map.wf objDefault s.dict = true → Map.wf objDefault d = true)
    (h : Keeps a s) : Keeps a { s with dict := d } := by
  refine ⟨h.pending, h.now, fun x => ?_⟩
  obtain ⟨y, z⟩ := h.sound x
  refine ⟨?_, z⟩
  simp only [State.canonical, Bool.and_eq_true] at y ⊢
  exact ⟨⟨⟨hd y.1.1.1, y.1.1.2⟩, y.1.2⟩, y.2⟩

theorem Keeps.live {a s : State} {d : Map Val}
    (hd : Map.wf (fun _ => 0) s.live = true → Map.wf (fun _ => 0) d = true) (h : Keeps a s) :
    Keeps a { s with live := d } := by
  refine ⟨h.pending, h.now, fun x => ?_⟩
  obtain ⟨y, z⟩ := h.sound x
  refine ⟨?_, z⟩
  simp only [State.canonical, Bool.and_eq_true] at y ⊢
  exact ⟨⟨⟨y.1.1.1, hd y.1.1.2⟩, y.1.2⟩, y.2⟩

theorem Keeps.words {a s : State} {d : Map Word}
    (hd : Map.wf (fun _ => 0) s.words = true → Map.wf (fun _ => 0) d = true) (h : Keeps a s) :
    Keeps a { s with words := d } := by
  refine ⟨h.pending, h.now, fun x => ?_⟩
  obtain ⟨y, z⟩ := h.sound x
  refine ⟨?_, z⟩
  simp only [State.canonical, Bool.and_eq_true] at y ⊢
  exact ⟨⟨y.1.1, hd y.1.2⟩, y.2⟩

theorem Keeps.banks {a s : State} {d : Map Byte}
    (hd : Map.wf (fun _ => 0) s.banks = true → Map.wf (fun _ => 0) d = true) (h : Keeps a s) :
    Keeps a { s with banks := d } := by
  refine ⟨h.pending, h.now, fun x => ?_⟩
  obtain ⟨y, z⟩ := h.sound x
  refine ⟨?_, z⟩
  simp only [State.canonical, Bool.and_eq_true] at y ⊢
  exact ⟨y.1, hd y.2⟩

/-- Sessions changed and their numbers left. -/
theorem Keeps.map_sessions {a s : State} {f : Session → Session} (hf : ∀ x, (f x).num = x.num) (h : Keeps a s) :
    Keeps a { s with sessions := s.sessions.map f } := by
  refine ⟨h.pending, h.now, fun x => ?_⟩
  obtain ⟨y, z⟩ := h.sound x
  refine ⟨y, ?_⟩
  have e : (s.sessions.map f).map (·.num) = s.sessions.map (·.num) := by
    rw [List.map_map]
    exact List.map_congr_left fun x _ => hf x
  simpa only [State.numbersOk, e] using z

theorem State.setVal_keeps {a s : State} (o : Nat) (v : Val) (h : Keeps a s) : Keeps a (s.setVal o v) :=
  h.dict (Map.wf_set objDefault o v s.dict)

theorem State.setLive_keeps {a s : State} (o n : Nat) (h : Keeps a s) : Keeps a (s.setLive o n) :=
  h.live (Map.wf_set (fun _ => 0) o _ s.live)

theorem State.setWord_keeps {a s : State} (o k : Nat) (w : Word) (h : Keeps a s) : Keeps a (s.setWord o k w) :=
  h.words (Map.wf_set (fun _ => 0) _ w s.words)

theorem State.setSession_keeps {a s : State} (x : Session) (h : Keeps a s) : Keeps a (s.setSession x) :=
  h.map_sessions fun y => by
    split
    · next e => exact e.symm
    · rfl

theorem State.modSession_keeps {a s : State} (n : Nat) (f : Session → Session) (hf : ∀ x, (f x).num = x.num)
    (h : Keeps a s) : Keeps a (s.modSession n f) :=
  h.map_sessions fun y => by
    split
    · exact hf y
    · rfl

theorem Session.queueEvent_num (x : Session) (o : Nat) (v : Word) : (x.queueEvent o v).num = x.num := by
  unfold Session.queueEvent
  repeat' split
  all_goals rfl

theorem Keeps.dict_filter {a s : State} (p : Nat × Val → Bool) (h : Keeps a s) :
    Keeps a { s with dict := s.dict.filter p } :=
  h.dict (Map.wf_filter _ p s.dict)

theorem Keeps.live_filter {a s : State} (p : Nat × Val → Bool) (h : Keeps a s) :
    Keeps a { s with live := s.live.filter p } :=
  h.live (Map.wf_filter _ p s.live)

theorem State.Sound.banks {s : State} (h : s.Sound) : Map.wf (fun _ => 0) s.banks = true := by
  have y := h.1
  simp only [State.canonical, Bool.and_eq_true] at y
  exact y.2

theorem State.Sound.dict {s : State} (h : s.Sound) : Map.wf objDefault s.dict = true := by
  have y := h.1
  simp only [State.canonical, Bool.and_eq_true] at y
  exact y.1.1.1

theorem Keeps.banks_as {a s : State} {d : Map Byte} (hd : a.Sound → Map.wf (fun _ => 0) d = true) (h : Keeps a s) :
    Keeps a { s with banks := d } := by
  refine ⟨h.pending, h.now, fun x => ?_⟩
  obtain ⟨y, z⟩ := h.sound x
  refine ⟨?_, z⟩
  simp only [State.canonical, Bool.and_eq_true] at y ⊢
  exact ⟨y.1, hd x⟩

/-- A machine that starts afresh: no sessions, no counts, no window words. -/
theorem Keeps.fresh {a t : State} (hp : t.pending = a.pending) (hn : t.now = a.now)
    (hd : a.Sound → Map.wf objDefault t.dict = true) (hl : t.live = []) (hw : t.words = [])
    (hb : a.Sound → Map.wf (fun _ => 0) t.banks = true) (hs : t.sessions = []) (hf : t.freeNums = State.reset.freeNums) :
    Keeps a t := by
  refine ⟨hp, hn, fun x => ⟨?_, ?_⟩⟩
  · simp only [State.canonical, Bool.and_eq_true, hl, hw]
    exact ⟨⟨⟨hd x, rfl⟩, rfl⟩, hb x⟩
  · unfold State.numbersOk
    rw [hs, hf]
    exact List.Perm.refl _

/-! ### Session numbers (R330, R331) -/

theorem perm_move {l f : List Nat} {n : Nat} (hd : (l ++ f).Nodup) (hn : n ∈ l ++ f) :
    (l.filter (· != n) ++ (f.filter (· != n) ++ [n])).Perm (l ++ f) := by
  rw [← List.append_assoc, ← List.filter_append]
  have h : ((l ++ f).filter (· != n)) = (l ++ f).erase n := (hd.erase_eq_filter n).symm
  rw [h]
  exact List.perm_append_comm.trans (List.perm_cons_erase hn).symm

theorem Keeps.end_number {a s : State} {n : Nat} (hn : a.Sound → n ∈ List.range' 1 32) (h : Keeps a s) :
    Keeps a { s with sessions := s.sessions.filter (·.num != n), freeNums := s.freeNums.filter (· != n) ++ [n] } := by
  refine ⟨h.pending, h.now, fun x => ?_⟩
  obtain ⟨y, z⟩ := h.sound x
  refine ⟨y, ?_⟩
  unfold State.numbersOk at z ⊢
  have e : (s.sessions.filter (·.num != n)).map (·.num) = (s.sessions.map (·.num)).filter (· != n) := by
    rw [List.filter_map]
    rfl
  simp only [e]
  exact (perm_move (z.nodup_iff.mpr List.nodup_range') (z.mem_iff.mpr (hn x))).trans z

theorem Keeps.open_number {a s : State} {x : Session} {n : Nat} {r : List Nat} (hx : x.num = n)
    (hf : s.freeNums = n :: r) (h : Keeps a s) : Keeps a { s with sessions := s.sessions ++ [x], freeNums := r } := by
  refine ⟨h.pending, h.now, fun y => ?_⟩
  obtain ⟨u, z⟩ := h.sound y
  refine ⟨u, ?_⟩
  unfold State.numbersOk at z ⊢
  rw [hf] at z
  simpa [hx] using z

theorem State.session_mem {s : State} {n : Nat} (h : (s.session n).isSome = true) : n ∈ s.sessions.map (·.num) := by
  unfold State.session at h
  obtain ⟨x, hx⟩ := Option.isSome_iff_exists.mp h
  have hn := List.find?_some hx
  exact List.mem_map.mpr ⟨x, List.mem_of_find?_eq_some hx, by simpa using hn⟩

theorem State.Sound.session_range {s : State} (h : s.Sound) {n : Nat} (hn : (s.session n).isSome = true) :
    n ∈ List.range' 1 32 :=
  h.2.mem_iff.mp (List.mem_append_left _ (State.session_mem hn))

end Sys2Proof.Machine
end

