-- ==== Sys2Proof/Laws/KeepsOps.lean ====
section
/-! SUPPORT. What the operations of Machine/Ops.lean keep (Keeps). -/

namespace Sys2Proof.Machine

theorem State.setFld_keeps {s0 : State} {s : State} (f : Fld) (x : Nat) (i : Nat) (e : Nat)
    (hk : Keeps s0 s) : Keeps s0 (State.setFld s f x i e) := by
  unfold State.setFld
  try dsimp only
  repeat' first
    | with_reducible assumption
    | with_reducible rfl
    | with_reducible apply State.setVal_keeps

theorem State.setOn_keeps {s0 : State} {s : State} (f : Fld) (b : Bool) (i : Nat) (e : Nat)
    (hk : Keeps s0 s) : Keeps s0 (State.setOn s f b i e) := by
  unfold State.setOn
  try dsimp only
  repeat' first
    | with_reducible assumption
    | with_reducible rfl
    | with_reducible apply State.setFld_keeps

theorem State.bumpLive_keeps {s0 : State} {s : State} (o : Nat) (k : Nat)
    (hk : Keeps s0 s) : Keeps s0 (State.bumpLive s o k) := by
  unfold State.bumpLive
  try dsimp only
  repeat' first
    | with_reducible assumption
    | with_reducible rfl
    | with_reducible apply State.setLive_keeps

theorem State.bump_keeps {s0 : State} {s : State} (o : Nat) (k : Nat) (w : Nat)
    (hk : Keeps s0 s) : Keeps s0 (State.bump s o k w) := by
  unfold State.bump
  try dsimp only
  repeat' first
    | with_reducible assumption
    | with_reducible rfl
    | with_reducible apply State.setVal_keeps

theorem State.drawn_keeps {s0 : State} {s : State}
    (hk : Keeps s0 s) : Keeps s0 (State.drawn s) := by
  unfold State.drawn
  try dsimp only
  repeat' first
    | with_reducible assumption
    | with_reducible rfl
    | dsimp only
    | split
    | intro _
    | with_reducible apply Keeps.upd

theorem State.setLane_keeps {s0 : State} {s : State} (i : Nat) (l : Lane)
    (hk : Keeps s0 s) : Keeps s0 (State.setLane s i l) := by
  unfold State.setLane
  try dsimp only
  repeat' first
    | with_reducible assumption
    | with_reducible rfl
    | dsimp only
    | split
    | intro _
    | with_reducible apply Keeps.upd

theorem State.modLane_keeps {s0 : State} {s : State} (i : Nat) (f : Lane → Lane)
    (hk : Keeps s0 s) : Keeps s0 (State.modLane s i f) := by
  unfold State.modLane
  try dsimp only
  repeat' first
    | with_reducible assumption
    | with_reducible rfl
    | with_reducible apply State.setLane_keeps

theorem State.setCand_keeps {s0 : State} {s : State} (i : Nat) (c : Cand)
    (hk : Keeps s0 s) : Keeps s0 (State.setCand s i c) := by
  unfold State.setCand
  try dsimp only
  repeat' first
    | with_reducible assumption
    | with_reducible rfl
    | dsimp only
    | split
    | intro _
    | with_reducible apply Keeps.upd

theorem State.setOut_keeps {s0 : State} {s : State} (i : Nat) (c : Out)
    (hk : Keeps s0 s) : Keeps s0 (State.setOut s i c) := by
  unfold State.setOut
  try dsimp only
  repeat' first
    | with_reducible assumption
    | with_reducible rfl
    | dsimp only
    | split
    | intro _
    | with_reducible apply Keeps.upd

theorem State.setAps_keeps {s0 : State} {s : State} (g : Nat) (a : Aps)
    (hk : Keeps s0 s) : Keeps s0 (State.setAps s g a) := by
  unfold State.setAps
  try dsimp only
  repeat' first
    | with_reducible assumption
    | with_reducible rfl
    | dsimp only
    | split
    | intro _
    | with_reducible apply Keeps.upd

theorem State.setPprot_keeps {s0 : State} {s : State} (g : Nat) (p : PathProt)
    (hk : Keeps s0 s) : Keeps s0 (State.setPprot s g p) := by
  unfold State.setPprot
  try dsimp only
  repeat' first
    | with_reducible assumption
    | with_reducible rfl
    | dsimp only
    | split
    | intro _
    | with_reducible apply Keeps.upd

theorem State.setChan_keeps {s0 : State} {s : State} (k : Nat) (c : Chan)
    (hk : Keeps s0 s) : Keeps s0 (State.setChan s k c) := by
  unfold State.setChan
  try dsimp only
  repeat' first
    | with_reducible assumption
    | with_reducible rfl
    | dsimp only
    | split
    | intro _
    | with_reducible apply Keeps.upd

theorem State.setPoint_keeps {s0 : State} {s : State} (k : Nat) (p : Point)
    (hk : Keeps s0 s) : Keeps s0 (State.setPoint s k p) := by
  unfold State.setPoint
  try dsimp only
  repeat' first
    | with_reducible assumption
    | with_reducible rfl
    | dsimp only
    | split
    | intro _
    | with_reducible apply Keeps.upd

theorem State.setMac_keeps {s0 : State} {s : State} (m : Nat) (x : Mac)
    (hk : Keeps s0 s) : Keeps s0 (State.setMac s m x) := by
  unfold State.setMac
  try dsimp only
  repeat' first
    | with_reducible assumption
    | with_reducible rfl
    | dsimp only
    | split
    | intro _
    | with_reducible apply Keeps.upd

theorem State.setPin_keeps {s0 : State} {s : State} (u : Nat) (p : Pin)
    (hk : Keeps s0 s) : Keeps s0 (State.setPin s u p) := by
  unfold State.setPin
  try dsimp only
  repeat' first
    | with_reducible assumption
    | with_reducible rfl
    | dsimp only
    | split
    | intro _
    | with_reducible apply Keeps.upd

end Sys2Proof.Machine
end

