-- ==== Sys2Proof/Laws/KeepsOperands.lean ====
section
/-! SUPPORT. What the operations of Machine/Operands.lean keep (Keeps). -/

namespace Sys2Proof.Machine

theorem State.setSelOn_keeps {s0 : State} {s : State} (b : Bool) (g : Nat) (st : Nat)
    (hk : Keeps s0 s) : Keeps s0 (State.setSelOn s b g st) := by
  unfold State.setSelOn
  try dsimp only
  repeat' first
    | with_reducible assumption
    | with_reducible rfl
    | with_reducible apply State.setOn_keeps
    | dsimp only
    | split
    | intro _
    | with_reducible apply Keeps.upd

theorem State.setSel_keeps {s0 : State} {s : State} (g : Nat) (st : Nat)
    (hk : Keeps s0 s) : Keeps s0 (State.setSel s g st) := by
  unfold State.setSel
  try dsimp only
  repeat' first
    | with_reducible assumption
    | with_reducible rfl
    | with_reducible apply State.setSelOn_keeps

end Sys2Proof.Machine
end

