-- ==== Sys2Proof/Laws/KeepsFlags.lean ====
section
/-! SUPPORT. What the operations of Machine/Flags.lean keep (Keeps). -/

namespace Sys2Proof.Machine

theorem State.queueAll_keeps {s0 : State} {s : State} (o : Nat)
    (hk : Keeps s0 s) : Keeps s0 (State.queueAll s o) := by
  refine hk.map_sessions fun x => ?_
  split
  · exact Session.queueEvent_num x _ _
  · rfl

theorem State.event_keeps {s0 : State} {s : State} (o : Nat)
    (hk : Keeps s0 s) : Keeps s0 (State.event s o) := by
  unfold State.event
  try dsimp only
  repeat' first
    | with_reducible assumption
    | with_reducible rfl
    | with_reducible apply State.setOn_keeps
    | with_reducible apply State.queueAll_keeps
    | dsimp only
    | split

theorem State.raiseBit_keeps {s0 : State} {s : State} (o : Nat) (k : Nat)
    (hk : Keeps s0 s) : Keeps s0 (State.raiseBit s o k) := by
  unfold State.raiseBit
  try dsimp only
  repeat' first
    | with_reducible assumption
    | with_reducible rfl
    | with_reducible apply State.setVal_keeps
    | with_reducible apply State.event_keeps
    | dsimp only
    | split

theorem State.raise_keeps {s0 : State} {s : State} (f : Fld) (i : Nat) (e : Nat)
    (hk : Keeps s0 s) : Keeps s0 (State.raise s f i e) := by
  unfold State.raise
  try dsimp only
  repeat' first
    | with_reducible assumption
    | with_reducible rfl
    | with_reducible apply State.raiseBit_keeps

theorem State.raiseIf_keeps {s0 : State} {s : State} (b : Bool) (f : Fld) (i : Nat) (e : Nat)
    (hk : Keeps s0 s) : Keeps s0 (State.raiseIf s b f i e) := by
  unfold State.raiseIf
  try dsimp only
  repeat' first
    | with_reducible assumption
    | with_reducible rfl
    | with_reducible apply State.raise_keeps
    | dsimp only
    | split

theorem State.intEnEvent_keeps {s0 : State} {s : State} (sticky : Nat) (old : Val) (new : Val)
    (hk : Keeps s0 s) : Keeps s0 (State.intEnEvent s sticky old new) := by
  unfold State.intEnEvent
  try dsimp only
  repeat' first
    | with_reducible assumption
    | with_reducible rfl
    | with_reducible apply State.event_keeps
    | dsimp only
    | split

end Sys2Proof.Machine
end

