-- ==== Sys2Proof/Laws/KeepsClaims.lean ====
section
/-! SUPPORT. What the operations of Machine/Claims.lean keep (Keeps). -/

namespace Sys2Proof.Machine

theorem State.setClaim_keeps {s0 : State} {s : State} (k : Nat) (c : Claim)
    (hk : Keeps s0 s) : Keeps s0 (State.setClaim s k c) := by
  unfold State.setClaim
  try dsimp only
  repeat' first
    | with_reducible assumption
    | with_reducible rfl
    | dsimp only
    | split
    | intro _
    | with_reducible apply Keeps.upd

theorem State.setHwClaim_keeps {s0 : State} {s : State} (k : Nat) (c : Claim)
    (hk : Keeps s0 s) : Keeps s0 (State.setHwClaim s k c) := by
  unfold State.setHwClaim
  try dsimp only
  repeat' first
    | with_reducible assumption
    | with_reducible rfl
    | dsimp only
    | split
    | intro _
    | with_reducible apply Keeps.upd

theorem State.abandoned_keeps {s0 : State} {s : State} (k : Nat)
    (hk : Keeps s0 s) : Keeps s0 (State.abandoned s k) := by
  unfold State.abandoned
  try dsimp only
  repeat' first
    | with_reducible assumption
    | with_reducible rfl
    | with_reducible apply State.bump_keeps
    | with_reducible apply State.raise_keeps
    | dsimp only
    | split

theorem State.mergeVal_keeps {s0 : State} {s : State} (o : Nat) (v : Val)
    (hk : Keeps s0 s) : Keeps s0 (State.mergeVal s o v) := by
  unfold State.mergeVal
  try dsimp only
  repeat' first
    | with_reducible assumption
    | with_reducible rfl
    | with_reducible apply State.setVal_keeps
    | dsimp only
    | split

theorem State.discardHeld_keeps {s0 : State} {s : State}
    (hk : Keeps s0 s) : Keeps s0 (State.discardHeld s) := by
  unfold State.discardHeld
  try dsimp only
  repeat' first
    | with_reducible assumption
    | with_reducible rfl
    | with_reducible apply State.setFld_keeps
    | dsimp only
    | split
    | intro _
    | with_reducible apply Keeps.upd

theorem State.freeStage_keeps {s0 : State} {s : State} (mark : Bool)
    (hk : Keeps s0 s) : Keeps s0 (State.freeStage s mark) := by
  unfold State.freeStage
  try dsimp only
  repeat' first
    | with_reducible assumption
    | with_reducible rfl
    | dsimp only
    | split
    | intro _
    | with_reducible apply Keeps.upd

theorem State.abandonStage_keeps {s0 : State} {s : State} (n : Nat)
    (hk : Keeps s0 s) : Keeps s0 (State.abandonStage s n) := by
  unfold State.abandonStage
  try dsimp only
  repeat' first
    | with_reducible assumption
    | with_reducible rfl
    | with_reducible apply State.modSession_keeps
    | with_reducible apply State.abandoned_keeps
    | with_reducible apply State.discardHeld_keeps
    | with_reducible apply State.freeStage_keeps
    | dsimp only
    | split
    | intro _

theorem State.advanceGen_keeps {s0 : State} {s : State} (w : Nat)
    (hk : Keeps s0 s) : Keeps s0 (State.advanceGen s w) := by
  unfold State.advanceGen
  try dsimp only
  repeat' first
    | with_reducible assumption
    | with_reducible rfl
    | with_reducible apply State.abandoned_keeps
    | dsimp only
    | split
    | intro _
    | with_reducible apply Keeps.upd

theorem State.claimReq_keeps {s0 : State} {s : State} (n : Nat) (obj : Nat) (scope : Nat) (lease : Nat)
    (hk : Keeps s0 s) : Keeps s0 (State.claimReq s n obj scope lease).2.2 := by
  unfold State.claimReq
  try dsimp only
  repeat' first
    | with_reducible assumption
    | with_reducible rfl
    | with_reducible apply State.setClaim_keeps
    | dsimp only
    | split

theorem State.renewStage_keeps {s0 : State} {s : State} (n : Nat)
    (hk : Keeps s0 s) : Keeps s0 (State.renewStage s n).2.2 := by
  unfold State.renewStage
  try dsimp only
  repeat' first
    | with_reducible assumption
    | with_reducible rfl
    | dsimp only
    | split
    | intro _
    | with_reducible apply Keeps.upd

theorem State.renewReq_keeps {s0 : State} {s : State} (n : Nat) (obj : Nat) (scope : Nat) (lease : Nat)
    (hk : Keeps s0 s) : Keeps s0 (State.renewReq s n obj scope lease).2.2 := by
  unfold State.renewReq
  try dsimp only
  repeat' first
    | with_reducible assumption
    | with_reducible rfl
    | with_reducible apply State.setClaim_keeps
    | with_reducible apply State.renewStage_keeps
    | dsimp only
    | split

theorem State.releaseReq_keeps {s0 : State} {s : State} (n : Nat) (obj : Nat) (scope : Nat)
    (hk : Keeps s0 s) : Keeps s0 (State.releaseReq s n obj scope).2.2 := by
  unfold State.releaseReq
  try dsimp only
  repeat' first
    | with_reducible assumption
    | with_reducible rfl
    | with_reducible apply State.setClaim_keeps
    | dsimp only
    | split

theorem State.expireLease_keeps {s0 : State} {s : State} (obj : Nat) (scope : Nat)
    (hk : Keeps s0 s) : Keeps s0 (State.expireLease s obj scope) := by
  unfold State.expireLease
  try dsimp only
  repeat' first
    | with_reducible assumption
    | with_reducible rfl
    | with_reducible apply State.raise_keeps
    | with_reducible apply State.setClaim_keeps
    | with_reducible apply State.abandoned_keeps
    | with_reducible apply State.abandonStage_keeps
    | dsimp only
    | split

theorem State.leasesDue_keeps {s0 : State} {s : State}
    (hk : Keeps s0 s) : Keeps s0 (State.leasesDue s) := by
  unfold State.leasesDue
  try dsimp only
  repeat' first
    | with_reducible assumption
    | with_reducible rfl
    | with_reducible apply State.expireLease_keeps
    | with_reducible apply Keeps.foldl
    | with_reducible apply Keeps.foldl_snd
    | with_reducible apply Keeps.foldl_fst
    | dsimp only
    | split
    | intro _

theorem State.answer_keeps {s0 : State} {s : State} (obj : Nat) (status : Nat) (holder : Nat)
    (hk : Keeps s0 s) : Keeps s0 (State.answer s obj status holder) := by
  unfold State.answer
  try dsimp only
  repeat' first
    | with_reducible assumption
    | with_reducible rfl
    | dsimp only
    | split
    | intro _
    | with_reducible apply Keeps.upd

theorem State.hwClaimAsk_keeps {s0 : State} {s : State} (owner : Nat) (gen : Nat) (key : Nat) (ask : HwAsk)
    (hk : Keeps s0 s) : Keeps s0 (State.hwClaimAsk s owner gen key ask) := by
  unfold State.hwClaimAsk
  try dsimp only
  repeat' first
    | with_reducible assumption
    | with_reducible rfl
    | with_reducible apply State.bump_keeps
    | with_reducible apply State.setHwClaim_keeps
    | with_reducible apply State.answer_keeps
    | dsimp only
    | split

end Sys2Proof.Machine
end

