-- ==== Sys2Proof/Laws/KeepsQueues.lean ====
section
/-! SUPPORT. What the operations of Machine/Queues.lean keep (Keeps). -/

namespace Sys2Proof.Machine

theorem State.putChan_keeps {s0 : State} {s : State} (lane : Nat) (c : Nat) (x : Chan)
    (hk : Keeps s0 s) : Keeps s0 (State.putChan s lane c x) := by
  unfold State.putChan
  try dsimp only
  repeat' first
    | with_reducible assumption
    | with_reducible rfl
    | with_reducible apply State.setChan_keeps

theorem State.setFc_keeps {s0 : State} {s : State} (lane : Nat) (c : Nat)
    (hk : Keeps s0 s) : Keeps s0 (State.setFc s lane c) := by
  unfold State.setFc
  try dsimp only
  repeat' first
    | with_reducible assumption
    | with_reducible rfl
    | with_reducible apply State.setOn_keeps
    | dsimp only
    | split

theorem State.pushExt_keeps {s0 : State} {s : State} (lane : Nat) (c : Nat) (i : Item)
    (hk : Keeps s0 s) : Keeps s0 (State.pushExt s lane c i) := by
  unfold State.pushExt
  try dsimp only
  repeat' first
    | with_reducible assumption
    | with_reducible rfl
    | with_reducible apply State.bump_keeps
    | with_reducible apply State.raiseIf_keeps
    | with_reducible apply State.putChan_keeps
    | dsimp only
    | split

theorem State.pushIns_keeps {s0 : State} {s : State} (lane : Nat) (c : Nat) (i : Item)
    (hk : Keeps s0 s) : Keeps s0 (State.pushIns s lane c i) := by
  unfold State.pushIns
  try dsimp only
  repeat' first
    | with_reducible assumption
    | with_reducible rfl
    | with_reducible apply State.bump_keeps
    | with_reducible apply State.raiseIf_keeps
    | with_reducible apply State.putChan_keeps
    | with_reducible apply State.setFc_keeps
    | dsimp only
    | split

theorem State.flushExt_keeps {s0 : State} {s : State} (lane : Nat) (c : Nat)
    (hk : Keeps s0 s) : Keeps s0 (State.flushExt s lane c) := by
  unfold State.flushExt
  try dsimp only
  repeat' first
    | with_reducible assumption
    | with_reducible rfl
    | with_reducible apply State.putChan_keeps

theorem State.flushIns_keeps {s0 : State} {s : State} (lane : Nat) (c : Nat)
    (hk : Keeps s0 s) : Keeps s0 (State.flushIns s lane c) := by
  unfold State.flushIns
  try dsimp only
  repeat' first
    | with_reducible assumption
    | with_reducible rfl
    | with_reducible apply State.putChan_keeps
    | with_reducible apply State.setFc_keeps

theorem State.flushChan_keeps {s0 : State} {s : State} (lane : Nat) (c : Nat)
    (hk : Keeps s0 s) : Keeps s0 (State.flushChan s lane c) := by
  unfold State.flushChan
  try dsimp only
  repeat' first
    | with_reducible assumption
    | with_reducible rfl
    | with_reducible apply State.putChan_keeps
    | with_reducible apply State.setFc_keeps

theorem State.flushLane_keeps {s0 : State} {s : State} (lane : Nat)
    (hk : Keeps s0 s) : Keeps s0 (State.flushLane s lane) := by
  unfold State.flushLane
  try dsimp only
  repeat' first
    | with_reducible assumption
    | with_reducible rfl
    | with_reducible apply State.flushChan_keeps
    | with_reducible apply Keeps.foldl
    | with_reducible apply Keeps.foldl_snd
    | with_reducible apply Keeps.foldl_fst
    | dsimp only
    | split
    | intro _

theorem State.popExt_keeps {s0 : State} {s : State} (lane : Nat) (c : Nat)
    (hk : Keeps s0 s) : Keeps s0 (State.popExt s lane c).2 := by
  unfold State.popExt
  try dsimp only
  repeat' first
    | with_reducible assumption
    | with_reducible rfl
    | with_reducible apply State.putChan_keeps
    | dsimp only
    | split

theorem State.hostIns_keeps {s0 : State} {s : State} (lane : Nat) (c : Nat) (tag : Word) (data : Word)
    (hk : Keeps s0 s) : Keeps s0 (State.hostIns s lane c tag data) := by
  unfold State.hostIns
  try dsimp only
  repeat' first
    | with_reducible assumption
    | with_reducible rfl
    | with_reducible apply State.pushIns_keeps
    | dsimp only
    | split

theorem State.rxError_keeps {s0 : State} {s : State} (lane : Nat) (c : Nat)
    (hk : Keeps s0 s) : Keeps s0 (State.rxError s lane c) := by
  unfold State.rxError
  try dsimp only
  repeat' first
    | with_reducible assumption
    | with_reducible rfl
    | with_reducible apply State.bump_keeps
    | with_reducible apply State.raise_keeps

theorem State.pushItems_keeps {s0 : State} {s : State} (lane : Nat) (c : Nat) (is : List Item)
    (hk : Keeps s0 s) : Keeps s0 (State.pushItems s lane c is) := by
  unfold State.pushItems
  try dsimp only
  repeat' first
    | with_reducible assumption
    | with_reducible rfl
    | with_reducible apply State.pushExt_keeps
    | with_reducible apply Keeps.foldl
    | with_reducible apply Keeps.foldl_snd
    | with_reducible apply Keeps.foldl_fst
    | dsimp only
    | split
    | intro _

theorem State.hdlcContent_keeps {s0 : State} {s : State} (lane : Nat) (c : Nat) (content : List Byte) (good : Bool)
    (hk : Keeps s0 s) : Keeps s0 (State.hdlcContent s lane c content good) := by
  unfold State.hdlcContent
  try dsimp only
  repeat' first
    | with_reducible assumption
    | with_reducible rfl
    | with_reducible apply State.bump_keeps
    | with_reducible apply State.rxError_keeps
    | with_reducible apply State.pushItems_keeps
    | dsimp only
    | split
    | intro _
    | with_reducible apply Keeps.upd

theorem State.hdlcFrame_keeps {s0 : State} {s : State} (lane : Nat) (c : Nat) (raw : List Bool)
    (hk : Keeps s0 s) : Keeps s0 (State.hdlcFrame s lane c raw) := by
  unfold State.hdlcFrame
  try dsimp only
  repeat' first
    | with_reducible assumption
    | with_reducible rfl
    | with_reducible apply State.hdlcContent_keeps
    | dsimp only
    | split

theorem State.hdlcAbort_keeps {s0 : State} {s : State} (lane : Nat) (c : Nat) (raw : List Bool)
    (hk : Keeps s0 s) : Keeps s0 (State.hdlcAbort s lane c raw) := by
  unfold State.hdlcAbort
  try dsimp only
  repeat' first
    | with_reducible assumption
    | with_reducible rfl
    | with_reducible apply State.rxError_keeps
    | with_reducible apply State.pushItems_keeps
    | dsimp only
    | split

theorem State.hdlcBit_keeps {s0 : State} {s : State} (lane : Nat) (c : Nat) (b : Bool)
    (hk : Keeps s0 s) : Keeps s0 (State.hdlcBit s lane c b) := by
  unfold State.hdlcBit
  try dsimp only
  repeat' first
    | with_reducible assumption
    | with_reducible rfl
    | with_reducible apply State.putChan_keeps
    | with_reducible apply State.hdlcFrame_keeps
    | with_reducible apply State.hdlcAbort_keeps
    | dsimp only
    | split

theorem State.hdlcLong_keeps {s0 : State} {s : State} (lane : Nat) (c : Nat)
    (hk : Keeps s0 s) : Keeps s0 (State.hdlcLong s lane c) := by
  unfold State.hdlcLong
  try dsimp only
  repeat' first
    | with_reducible assumption
    | with_reducible rfl
    | with_reducible apply State.putChan_keeps
    | with_reducible apply State.rxError_keeps
    | with_reducible apply State.pushItems_keeps
    | dsimp only
    | split

theorem State.chanReceive_keeps {s0 : State} {s : State} (lane : Nat) (c : Nat) (bytes : List Byte)
    (hk : Keeps s0 s) : Keeps s0 (State.chanReceive s lane c bytes) := by
  unfold State.chanReceive
  try dsimp only
  repeat' first
    | with_reducible assumption
    | with_reducible rfl
    | with_reducible apply State.pushItems_keeps
    | with_reducible apply State.hdlcBit_keeps
    | with_reducible apply State.hdlcLong_keeps
    | with_reducible apply Keeps.foldl
    | with_reducible apply Keeps.foldl_snd
    | with_reducible apply Keeps.foldl_fst
    | dsimp only
    | split
    | intro _

theorem State.chanStop_keeps {s0 : State} {s : State} (lane : Nat) (c : Nat)
    (hk : Keeps s0 s) : Keeps s0 (State.chanStop s lane c) := by
  unfold State.chanStop
  try dsimp only
  repeat' first
    | with_reducible assumption
    | with_reducible rfl
    | with_reducible apply State.putChan_keeps
    | with_reducible apply State.hdlcAbort_keeps
    | dsimp only
    | split

theorem State.chanSend_keeps {s0 : State} {s : State} (lane : Nat) (c : Nat)
    (hk : Keeps s0 s) : Keeps s0 (State.chanSend s lane c).2 := by
  unfold State.chanSend
  try dsimp only
  repeat' first
    | with_reducible assumption
    | with_reducible rfl
    | with_reducible apply State.bump_keeps
    | with_reducible apply State.putChan_keeps
    | with_reducible apply State.setFc_keeps
    | dsimp only
    | split

theorem State.mgmtQueue_keeps {s0 : State} {s : State} (bytes : List Byte)
    (hk : Keeps s0 s) : Keeps s0 (State.mgmtQueue s bytes) := by
  unfold State.mgmtQueue
  try dsimp only
  repeat' first
    | with_reducible assumption
    | with_reducible rfl
    | with_reducible apply State.bump_keeps
    | with_reducible apply State.raiseIf_keeps
    | with_reducible apply State.putChan_keeps
    | with_reducible apply State.setFc_keeps
    | with_reducible apply Keeps.foldl
    | with_reducible apply Keeps.foldl_snd
    | with_reducible apply Keeps.foldl_fst
    | dsimp only
    | split

theorem State.portReceive_keeps {s0 : State} {s : State} (port : Nat) (d : DccIn)
    (hk : Keeps s0 s) : Keeps s0 (State.portReceive s port d) := by
  unfold State.portReceive
  try dsimp only
  repeat' first
    | with_reducible assumption
    | with_reducible rfl
    | with_reducible apply State.pushIns_keeps
    | with_reducible apply Keeps.foldl
    | with_reducible apply Keeps.foldl_snd
    | with_reducible apply Keeps.foldl_fst
    | dsimp only
    | split
    | intro _

theorem State.portSend_keeps {s0 : State} {s : State} (port : Nat)
    (hk : Keeps s0 s) : Keeps s0 (State.portSend s port) := by
  unfold State.portSend
  try dsimp only
  repeat' first
    | with_reducible assumption
    | with_reducible rfl
    | with_reducible apply State.putChan_keeps
    | dsimp only
    | split
    | intro _
    | with_reducible apply Keeps.upd

theorem State.pairClock_keeps {s0 : State} {s : State} (pair : Nat) (b : Bool)
    (hk : Keeps s0 s) : Keeps s0 (State.pairClock s pair b) := by
  unfold State.pairClock
  try dsimp only
  repeat' first
    | with_reducible assumption
    | with_reducible rfl
    | with_reducible apply State.setOn_keeps

end Sys2Proof.Machine
end

