-- ==== Sys2Proof/Laws/KeepsTransport.lean ====
section
/-! SUPPORT. What the operations of Machine/Transport.lean keep (Keeps). -/

namespace Sys2Proof.Machine

theorem State.macCount_keeps {s0 : State} {s : State} (m : Nat) (k : Nat) (n : Nat)
    (hk : Keeps s0 s) : Keeps s0 (State.macCount s m k n) := by
  unfold State.macCount
  try dsimp only
  repeat' first
    | with_reducible assumption
    | with_reducible rfl
    | with_reducible apply State.setVal_keeps
    | with_reducible apply State.setLive_keeps
    | with_reducible apply State.raise_keeps
    | dsimp only
    | split

theorem State.macEnqueue_keeps {s0 : State} {s : State} (m : Nat) (cls : Nat) (x : TxEth)
    (hk : Keeps s0 s) : Keeps s0 (State.macEnqueue s m cls x) := by
  unfold State.macEnqueue
  try dsimp only
  repeat' first
    | with_reducible assumption
    | with_reducible rfl
    | with_reducible apply State.setMac_keeps
    | with_reducible apply State.macCount_keeps
    | dsimp only
    | split

theorem State.deliver_keeps {s0 : State} {s : State} (r : Reply) (cls : Nat)
    (hk : Keeps s0 s) : Keeps s0 (State.deliver s r cls) := by
  unfold State.deliver
  try dsimp only
  repeat' first
    | with_reducible assumption
    | with_reducible rfl
    | with_reducible apply State.bump_keeps
    | with_reducible apply State.raise_keeps
    | with_reducible apply State.mgmtQueue_keeps
    | with_reducible apply State.macEnqueue_keeps
    | dsimp only
    | split
    | intro _
    | with_reducible apply Keeps.upd

end Sys2Proof.Machine
end

