-- ==== Sys2Proof/Laws/KeepsLedger.lean ====
section
/-! SUPPORT. What the operations of Machine/Ledger.lean keep (Keeps). -/

namespace Sys2Proof.Machine

theorem State.setLedger_keeps {s0 : State} {s : State} (l : Nat) (g : Ledger)
    (hk : Keeps s0 s) : Keeps s0 (State.setLedger s l g) := by
  unfold State.setLedger
  try dsimp only
  repeat' first
    | with_reducible assumption
    | with_reducible rfl
    | with_reducible apply State.modLane_keeps

theorem State.publishLedger_keeps {s0 : State} {s : State} (l : Nat)
    (hk : Keeps s0 s) : Keeps s0 (State.publishLedger s l) := by
  unfold State.publishLedger
  try dsimp only
  repeat' first
    | with_reducible assumption
    | with_reducible rfl
    | with_reducible apply State.setFld_keeps
    | with_reducible apply State.setOn_keeps
    | dsimp only
    | split

theorem State.reseedLane_keeps {s0 : State} {s : State} (l : Nat)
    (hk : Keeps s0 s) : Keeps s0 (State.reseedLane s l) := by
  unfold State.reseedLane
  try dsimp only
  repeat' first
    | with_reducible assumption
    | with_reducible rfl
    | with_reducible apply State.bumpLive_keeps
    | with_reducible apply State.raise_keeps
    | with_reducible apply State.setLedger_keeps
    | with_reducible apply State.publishLedger_keeps
    | dsimp only
    | split

theorem State.noteTraceable_keeps {s0 : State} {s : State} (l : Nat)
    (hk : Keeps s0 s) : Keeps s0 (State.noteTraceable s l) := by
  unfold State.noteTraceable
  try dsimp only
  repeat' first
    | with_reducible assumption
    | with_reducible rfl
    | with_reducible apply State.setOn_keeps
    | with_reducible apply State.raise_keeps
    | with_reducible apply State.publishLedger_keeps
    | dsimp only
    | split

theorem State.startLedger_keeps {s0 : State} {s : State} (l : Nat)
    (hk : Keeps s0 s) : Keeps s0 (State.startLedger s l) := by
  unfold State.startLedger
  try dsimp only
  repeat' first
    | with_reducible assumption
    | with_reducible rfl
    | with_reducible apply State.setVal_keeps
    | with_reducible apply State.setLive_keeps
    | with_reducible apply State.setWord_keeps
    | with_reducible apply State.setLedger_keeps
    | with_reducible apply Keeps.foldl
    | with_reducible apply Keeps.foldl_snd
    | with_reducible apply Keeps.foldl_fst
    | dsimp only
    | split
    | intro _

theorem State.ltdClear_keeps {s0 : State} {s : State} (l : Nat)
    (hk : Keeps s0 s) : Keeps s0 (State.ltdClear s l) := by
  unfold State.ltdClear
  try dsimp only
  repeat' first
    | with_reducible assumption
    | with_reducible rfl
    | with_reducible apply State.setOn_keeps
    | dsimp only
    | split

theorem State.stepAccept_keeps {s0 : State} {s : State} (l : Nat)
    (hk : Keeps s0 s) : Keeps s0 (State.stepAccept s l) := by
  unfold State.stepAccept
  try dsimp only
  repeat' first
    | with_reducible assumption
    | with_reducible rfl
    | with_reducible apply State.bumpLive_keeps
    | with_reducible apply State.raise_keeps
    | with_reducible apply State.setLedger_keeps
    | with_reducible apply State.publishLedger_keeps
    | dsimp only
    | split

theorem State.ledgerTimeout_keeps {s0 : State} {s : State} (l : Nat)
    (hk : Keeps s0 s) : Keeps s0 (State.ledgerTimeout s l) := by
  unfold State.ledgerTimeout
  try dsimp only
  repeat' first
    | with_reducible assumption
    | with_reducible rfl
    | with_reducible apply State.modLane_keeps
    | with_reducible apply State.reseedLane_keeps
    | dsimp only
    | split

theorem State.judgeArrival_keeps {s0 : State} {s : State} (l : Nat) (f : LedgerIn)
    (hk : Keeps s0 s) : Keeps s0 (State.judgeArrival s l f).2 := by
  unfold State.judgeArrival
  try dsimp only
  repeat' first
    | with_reducible assumption
    | with_reducible rfl
    | with_reducible apply State.setFld_keeps
    | with_reducible apply State.setOn_keeps
    | with_reducible apply State.bumpLive_keeps
    | with_reducible apply State.raiseIf_keeps
    | with_reducible apply State.setLedger_keeps
    | dsimp only
    | split

theorem State.excludeSample_keeps {s0 : State} {s : State} (l : Nat) (n : Nat)
    (hk : Keeps s0 s) : Keeps s0 (State.excludeSample s l n) := by
  unfold State.excludeSample
  try dsimp only
  repeat' first
    | with_reducible assumption
    | with_reducible rfl
    | with_reducible apply State.bumpLive_keeps
    | with_reducible apply State.modLane_keeps

theorem State.enterSample_keeps {s0 : State} {s : State} (l : Nat) (rtt : Int) (app : Int)
    (hk : Keeps s0 s) : Keeps s0 (State.enterSample s l rtt app) := by
  unfold State.enterSample
  try dsimp only
  repeat' first
    | with_reducible assumption
    | with_reducible rfl
    | with_reducible apply State.setFld_keeps
    | with_reducible apply State.bumpLive_keeps
    | with_reducible apply State.setLedger_keeps
    | with_reducible apply State.publishLedger_keeps

theorem State.takeSample_keeps {s0 : State} {s : State} (l : Nat) (f : LedgerIn)
    (hk : Keeps s0 s) : Keeps s0 (State.takeSample s l f) := by
  unfold State.takeSample
  try dsimp only
  repeat' first
    | with_reducible assumption
    | with_reducible rfl
    | with_reducible apply State.enterSample_keeps

theorem State.ledgerFrame_keeps {s0 : State} {s : State} (l : Nat) (f : LedgerIn)
    (hk : Keeps s0 s) : Keeps s0 (State.ledgerFrame s l f).2 := by
  unfold State.ledgerFrame
  try dsimp only
  repeat' first
    | with_reducible assumption
    | with_reducible rfl
    | with_reducible apply State.bumpLive_keeps
    | with_reducible apply State.raise_keeps
    | with_reducible apply State.reseedLane_keeps
    | with_reducible apply State.judgeArrival_keeps
    | with_reducible apply State.excludeSample_keeps
    | with_reducible apply State.takeSample_keeps
    | dsimp only
    | split

theorem State.latchRecord_keeps {s0 : State} {s : State} (l : Nat)
    (hk : Keeps s0 s) : Keeps s0 (State.latchRecord s l) := by
  unfold State.latchRecord
  try dsimp only
  repeat' first
    | with_reducible assumption
    | with_reducible rfl
    | with_reducible apply State.setWord_keeps
    | with_reducible apply State.setLedger_keeps
    | with_reducible apply Keeps.foldl
    | with_reducible apply Keeps.foldl_snd
    | with_reducible apply Keeps.foldl_fst
    | dsimp only
    | split
    | intro _

end Sys2Proof.Machine
end

