-- ==== Sys2Proof/Laws/KeepsDefects.lean ====
section
/-! SUPPORT. What the operations of Machine/Defects.lean keep (Keeps). -/

namespace Sys2Proof.Machine

theorem State.putBit_keeps {s0 : State} {s : State} (o : Nat) (b : Nat) (v : Bool)
    (hk : Keeps s0 s) : Keeps s0 (State.putBit s o b v) := by
  unfold State.putBit
  try dsimp only
  repeat' first
    | with_reducible assumption
    | with_reducible rfl
    | with_reducible apply State.setVal_keeps

theorem State.noteSf_keeps {s0 : State} {s : State} (l : Nat)
    (hk : Keeps s0 s) : Keeps s0 (State.noteSf s l) := by
  unfold State.noteSf
  try dsimp only
  repeat' first
    | with_reducible assumption
    | with_reducible rfl
    | with_reducible apply State.setLane_keeps

theorem State.noteSdP_keeps {s0 : State} {s : State} (l : Nat) (k : Nat)
    (hk : Keeps s0 s) : Keeps s0 (State.noteSdP s l k) := by
  unfold State.noteSdP
  try dsimp only
  repeat' first
    | with_reducible assumption
    | with_reducible rfl
    | with_reducible apply State.setLane_keeps
    | dsimp only
    | split

theorem State.dropS1_keeps {s0 : State} {s : State} (l : Nat)
    (hk : Keeps s0 s) : Keeps s0 (State.dropS1 s l) := by
  unfold State.dropS1
  try dsimp only
  repeat' first
    | with_reducible assumption
    | with_reducible rfl
    | with_reducible apply State.setFld_keeps
    | with_reducible apply State.raise_keeps
    | dsimp only
    | split

theorem State.clearPaths_keeps {s0 : State} {s : State} (l : Nat)
    (hk : Keeps s0 s) : Keeps s0 (State.clearPaths s l) := by
  unfold State.clearPaths
  try dsimp only
  repeat' first
    | with_reducible assumption
    | with_reducible rfl
    | with_reducible apply State.setVal_keeps
    | with_reducible apply State.modLane_keeps
    | with_reducible apply Keeps.foldl
    | with_reducible apply Keeps.foldl_snd
    | with_reducible apply Keeps.foldl_fst
    | dsimp only
    | split
    | intro _

theorem State.applyMasks_keeps {s0 : State} {s : State} (l : Nat)
    (hk : Keeps s0 s) : Keeps s0 (State.applyMasks s l) := by
  unfold State.applyMasks
  try dsimp only
  repeat' first
    | with_reducible assumption
    | with_reducible rfl
    | with_reducible apply State.setVal_keeps
    | with_reducible apply State.setOn_keeps
    | with_reducible apply State.modLane_keeps
    | with_reducible apply State.putBit_keeps
    | with_reducible apply State.dropS1_keeps
    | with_reducible apply State.clearPaths_keeps
    | with_reducible apply Keeps.foldl
    | with_reducible apply Keeps.foldl_snd
    | with_reducible apply Keeps.foldl_fst
    | dsimp only
    | split
    | intro _

theorem State.declare_keeps {s0 : State} {s : State} (l : Nat) (b : Nat)
    (hk : Keeps s0 s) : Keeps s0 (State.declare s l b) := by
  unfold State.declare
  try dsimp only
  repeat' first
    | with_reducible assumption
    | with_reducible rfl
    | with_reducible apply State.raiseBit_keeps
    | with_reducible apply State.putBit_keeps
    | with_reducible apply State.noteSf_keeps
    | with_reducible apply State.applyMasks_keeps
    | dsimp only
    | split

theorem State.unmaskLos_keeps {s0 : State} {s : State} (l : Nat)
    (hk : Keeps s0 s) : Keeps s0 (State.unmaskLos s l) := by
  unfold State.unmaskLos
  try dsimp only
  repeat' first
    | with_reducible assumption
    | with_reducible rfl
    | with_reducible apply State.modLane_keeps
    | with_reducible apply State.declare_keeps
    | dsimp only
    | split

theorem State.undeclare_keeps {s0 : State} {s : State} (l : Nat) (b : Nat)
    (hk : Keeps s0 s) : Keeps s0 (State.undeclare s l b) := by
  unfold State.undeclare
  try dsimp only
  repeat' first
    | with_reducible assumption
    | with_reducible rfl
    | with_reducible apply State.modLane_keeps
    | with_reducible apply State.putBit_keeps
    | with_reducible apply State.noteSf_keeps
    | with_reducible apply State.unmaskLos_keeps
    | dsimp only
    | split

theorem State.declarePath_keeps {s0 : State} {s : State} (l : Nat) (k : Nat) (b : Nat)
    (hk : Keeps s0 s) : Keeps s0 (State.declarePath s l k b) := by
  unfold State.declarePath
  try dsimp only
  repeat' first
    | with_reducible assumption
    | with_reducible rfl
    | with_reducible apply State.modLane_keeps
    | with_reducible apply State.raiseBit_keeps
    | with_reducible apply State.putBit_keeps
    | with_reducible apply State.noteSdP_keeps
    | with_reducible apply Keeps.foldl
    | with_reducible apply Keeps.foldl_snd
    | with_reducible apply Keeps.foldl_fst
    | dsimp only
    | split
    | intro _

theorem State.undeclarePath_keeps {s0 : State} {s : State} (l : Nat) (k : Nat) (b : Nat)
    (hk : Keeps s0 s) : Keeps s0 (State.undeclarePath s l k b) := by
  unfold State.undeclarePath
  try dsimp only
  repeat' first
    | with_reducible assumption
    | with_reducible rfl
    | with_reducible apply State.modLane_keeps
    | with_reducible apply State.putBit_keeps
    | with_reducible apply State.noteSdP_keeps
    | dsimp only
    | split

theorem State.judgePath_keeps {s0 : State} {s : State} (l : Nat) (k : Nat) (b : Nat) (v : Bool)
    (hk : Keeps s0 s) : Keeps s0 (State.judgePath s l k b v) := by
  unfold State.judgePath
  try dsimp only
  repeat' first
    | with_reducible assumption
    | with_reducible rfl
    | with_reducible apply State.declarePath_keeps
    | with_reducible apply State.undeclarePath_keeps
    | dsimp only
    | split

theorem State.sfJudge_keeps {s0 : State} {s : State} (l : Nat) (d : SfSd) (v : Bool)
    (hk : Keeps s0 s) : Keeps s0 (State.sfJudge s l d v) := by
  unfold State.sfJudge
  try dsimp only
  repeat' first
    | with_reducible assumption
    | with_reducible rfl
    | with_reducible apply State.declare_keeps
    | with_reducible apply State.undeclare_keeps
    | with_reducible apply State.judgePath_keeps
    | dsimp only
    | split

theorem State.sfDeclare_keeps {s0 : State} {s : State} (l : Nat) (d : SfSd)
    (hk : Keeps s0 s) : Keeps s0 (State.sfDeclare s l d) := by
  unfold State.sfDeclare
  try dsimp only
  repeat' first
    | with_reducible assumption
    | with_reducible rfl
    | with_reducible apply State.sfJudge_keeps
    | dsimp only
    | split

theorem State.sfWindowEnd_keeps {s0 : State} {s : State} (l : Nat) (d : SfSd)
    (hk : Keeps s0 s) : Keeps s0 (State.sfWindowEnd s l d) := by
  unfold State.sfWindowEnd
  try dsimp only
  repeat' first
    | with_reducible assumption
    | with_reducible rfl
    | with_reducible apply State.modLane_keeps
    | with_reducible apply State.sfJudge_keeps
    | dsimp only
    | split

theorem State.judgeTim_keeps {s0 : State} {s : State} (l : Nat) (site : TraceSite)
    (hk : Keeps s0 s) : Keeps s0 (State.judgeTim s l site) := by
  unfold State.judgeTim
  try dsimp only
  repeat' first
    | with_reducible assumption
    | with_reducible rfl
    | with_reducible apply State.declare_keeps
    | with_reducible apply State.undeclare_keeps
    | with_reducible apply State.judgePath_keeps
    | dsimp only
    | split

theorem State.storeTrace_keeps {s0 : State} {s : State} (o : Nat) (first : Nat) (m : List Byte)
    (hk : Keeps s0 s) : Keeps s0 (State.storeTrace s o first m) := by
  unfold State.storeTrace
  try dsimp only
  repeat' first
    | with_reducible assumption
    | with_reducible rfl
    | with_reducible apply State.setWord_keeps
    | with_reducible apply Keeps.foldl
    | with_reducible apply Keeps.foldl_snd
    | with_reducible apply Keeps.foldl_fst
    | dsimp only
    | split
    | intro _

theorem State.acceptTrace_keeps {s0 : State} {s : State} (l : Nat) (site : TraceSite)
    (hk : Keeps s0 s) : Keeps s0 (State.acceptTrace s l site) := by
  unfold State.acceptTrace
  try dsimp only
  repeat' first
    | with_reducible assumption
    | with_reducible rfl
    | with_reducible apply State.raiseIf_keeps
    | with_reducible apply State.judgeTim_keeps
    | with_reducible apply State.storeTrace_keeps
    | dsimp only
    | split

theorem State.losDeclare_keeps {s0 : State} {s : State} (l : Nat)
    (hk : Keeps s0 s) : Keeps s0 (State.losDeclare s l) := by
  unfold State.losDeclare
  try dsimp only
  repeat' first
    | with_reducible assumption
    | with_reducible rfl
    | with_reducible apply State.declare_keeps
    | dsimp only
    | split

theorem State.losClear_keeps {s0 : State} {s : State} (l : Nat)
    (hk : Keeps s0 s) : Keeps s0 (State.losClear s l) := by
  unfold State.losClear
  try dsimp only
  repeat' first
    | with_reducible assumption
    | with_reducible rfl
    | with_reducible apply State.reseedLane_keeps
    | with_reducible apply State.undeclare_keeps
    | dsimp only
    | split

theorem State.lofDeclare_keeps {s0 : State} {s : State} (l : Nat)
    (hk : Keeps s0 s) : Keeps s0 (State.lofDeclare s l) := by
  unfold State.lofDeclare
  try dsimp only
  repeat' first
    | with_reducible assumption
    | with_reducible rfl
    | with_reducible apply State.declare_keeps
    | dsimp only
    | split

theorem State.lofClear_keeps {s0 : State} {s : State} (l : Nat)
    (hk : Keeps s0 s) : Keeps s0 (State.lofClear s l) := by
  unfold State.lofClear
  try dsimp only
  repeat' first
    | with_reducible assumption
    | with_reducible rfl
    | with_reducible apply State.modLane_keeps
    | with_reducible apply State.reseedLane_keeps
    | with_reducible apply State.undeclare_keeps
    | dsimp only
    | split

theorem State.loblDeclare_keeps {s0 : State} {s : State} (l : Nat)
    (hk : Keeps s0 s) : Keeps s0 (State.loblDeclare s l) := by
  unfold State.loblDeclare
  try dsimp only
  repeat' first
    | with_reducible assumption
    | with_reducible rfl
    | with_reducible apply State.declare_keeps
    | dsimp only
    | split

theorem State.loblClear_keeps {s0 : State} {s : State} (l : Nat)
    (hk : Keeps s0 s) : Keeps s0 (State.loblClear s l) := by
  unfold State.loblClear
  try dsimp only
  repeat' first
    | with_reducible assumption
    | with_reducible rfl
    | with_reducible apply State.undeclare_keeps
    | dsimp only
    | split

theorem State.goOof_keeps {s0 : State} {s : State} (l : Nat) (w : Tick)
    (hk : Keeps s0 s) : Keeps s0 (State.goOof s l w) := by
  unfold State.goOof
  try dsimp only
  repeat' first
    | with_reducible assumption
    | with_reducible rfl
    | with_reducible apply State.setLane_keeps
    | with_reducible apply State.dropS1_keeps
    | with_reducible apply State.declare_keeps

theorem State.goInFrame_keeps {s0 : State} {s : State} (l : Nat) (pos : Nat) (w : Tick)
    (hk : Keeps s0 s) : Keeps s0 (State.goInFrame s l pos w) := by
  unfold State.goInFrame
  try dsimp only
  repeat' first
    | with_reducible assumption
    | with_reducible rfl
    | with_reducible apply State.setLane_keeps
    | with_reducible apply State.modLane_keeps
    | with_reducible apply State.undeclare_keeps

theorem State.frameWord_keeps {s0 : State} {s : State} (l : Nat) (ok : Bool) (pos : Nat) (w : Tick)
    (hk : Keeps s0 s) : Keeps s0 (State.frameWord s l ok pos w) := by
  unfold State.frameWord
  try dsimp only
  repeat' first
    | with_reducible assumption
    | with_reducible rfl
    | with_reducible apply State.setLane_keeps
    | with_reducible apply State.goOof_keeps
    | with_reducible apply State.goInFrame_keeps
    | dsimp only
    | split

theorem State.setBlockLock_keeps {s0 : State} {s : State} (l : Nat) (b : Bool)
    (hk : Keeps s0 s) : Keeps s0 (State.setBlockLock s l b) := by
  unfold State.setBlockLock
  try dsimp only
  repeat' first
    | with_reducible assumption
    | with_reducible rfl
    | with_reducible apply State.modLane_keeps

theorem State.syncHeader_keeps {s0 : State} {s : State} (l : Nat) (valid : Bool)
    (hk : Keeps s0 s) : Keeps s0 (State.syncHeader s l valid) := by
  unfold State.syncHeader
  try dsimp only
  repeat' first
    | with_reducible assumption
    | with_reducible rfl
    | with_reducible apply State.setLane_keeps
    | with_reducible apply State.setBlockLock_keeps
    | dsimp only
    | split

theorem State.hiBerFrame_keeps {s0 : State} {s : State} (l : Nat)
    (hk : Keeps s0 s) : Keeps s0 (State.hiBerFrame s l) := by
  unfold State.hiBerFrame
  try dsimp only
  repeat' first
    | with_reducible assumption
    | with_reducible rfl
    | with_reducible apply State.setLane_keeps
    | with_reducible apply State.declare_keeps
    | with_reducible apply State.undeclare_keeps
    | dsimp only
    | split

theorem State.judgeMismatch_keeps {s0 : State} {s : State} (l : Nat) (b : Nat) (v : Bool)
    (hk : Keeps s0 s) : Keeps s0 (State.judgeMismatch s l b v) := by
  unfold State.judgeMismatch
  try dsimp only
  repeat' first
    | with_reducible assumption
    | with_reducible rfl
    | with_reducible apply State.modLane_keeps
    | with_reducible apply State.raiseBit_keeps
    | with_reducible apply State.putBit_keeps
    | with_reducible apply State.noteSf_keeps
    | dsimp only
    | split

theorem State.judgeSlotRdi_keeps {s0 : State} {s : State} (l : Nat) (k : Nat) (v : Bool)
    (hk : Keeps s0 s) : Keeps s0 (State.judgeSlotRdi s l k v) := by
  unfold State.judgeSlotRdi
  try dsimp only
  repeat' first
    | with_reducible assumption
    | with_reducible rfl
    | with_reducible apply State.setLane_keeps
    | with_reducible apply State.declare_keeps
    | with_reducible apply State.undeclare_keeps
    | dsimp only
    | split

theorem State.acceptC2_keeps {s0 : State} {s : State} (l : Nat) (k : Nat) (v : Nat)
    (hk : Keeps s0 s) : Keeps s0 (State.acceptC2 s l k v) := by
  unfold State.acceptC2
  try dsimp only
  repeat' first
    | with_reducible assumption
    | with_reducible rfl
    | with_reducible apply State.setFld_keeps
    | with_reducible apply State.judgePath_keeps
    | dsimp only
    | split

theorem State.acceptG1_keeps {s0 : State} {s : State} (l : Nat) (k : Nat) (v : Nat)
    (hk : Keeps s0 s) : Keeps s0 (State.acceptG1 s l k v) := by
  unfold State.acceptG1
  try dsimp only
  repeat' first
    | with_reducible assumption
    | with_reducible rfl
    | with_reducible apply State.setFld_keeps
    | with_reducible apply State.judgePath_keeps
    | dsimp only
    | split

theorem State.judgeGroup_keeps {s0 : State} {s : State} (l : Nat) (b : Nat) (v : Bool)
    (hk : Keeps s0 s) : Keeps s0 (State.judgeGroup s l b v) := by
  unfold State.judgeGroup
  try dsimp only
  repeat' first
    | with_reducible assumption
    | with_reducible rfl
    | with_reducible apply State.modLane_keeps
    | with_reducible apply State.raiseBit_keeps
    | with_reducible apply State.putBit_keeps
    | dsimp only
    | split

theorem State.persistence_keeps {s0 : State} {s : State} (l : Nat) (d : Persist)
    (hk : Keeps s0 s) : Keeps s0 (State.persistence s l d) := by
  unfold State.persistence
  try dsimp only
  repeat' first
    | with_reducible assumption
    | with_reducible rfl
    | with_reducible apply State.declare_keeps
    | with_reducible apply State.undeclare_keeps
    | with_reducible apply State.judgeMismatch_keeps
    | with_reducible apply State.judgeSlotRdi_keeps
    | with_reducible apply State.acceptC2_keeps
    | with_reducible apply State.acceptG1_keeps
    | with_reducible apply State.judgeGroup_keeps
    | dsimp only
    | split

theorem State.rejudgeTim_keeps {s0 : State} {s : State} (l : Nat) (site : TraceSite)
    (hk : Keeps s0 s) : Keeps s0 (State.rejudgeTim s l site) := by
  unfold State.rejudgeTim
  try dsimp only
  repeat' first
    | with_reducible assumption
    | with_reducible rfl
    | with_reducible apply State.undeclare_keeps
    | with_reducible apply State.undeclarePath_keeps
    | with_reducible apply State.judgeTim_keeps
    | dsimp only
    | split

theorem State.rejudgePath_keeps {s0 : State} {s : State} (l : Nat) (k : Nat)
    (hk : Keeps s0 s) : Keeps s0 (State.rejudgePath s l k) := by
  unfold State.rejudgePath
  try dsimp only
  repeat' first
    | with_reducible assumption
    | with_reducible rfl
    | with_reducible apply State.undeclarePath_keeps
    | with_reducible apply State.judgePath_keeps
    | with_reducible apply State.rejudgeTim_keeps
    | dsimp only
    | split

theorem State.acceptField_keeps {s0 : State} {s : State} (l : Nat) (f : AccField)
    (hk : Keeps s0 s) : Keeps s0 (State.acceptField s l f) := by
  unfold State.acceptField
  try dsimp only
  repeat' first
    | with_reducible assumption
    | with_reducible rfl
    | with_reducible apply State.setFld_keeps
    | with_reducible apply State.raiseIf_keeps
    | dsimp only
    | split

theorem State.acceptS1_keeps {s0 : State} {s : State} (l : Nat)
    (hk : Keeps s0 s) : Keeps s0 (State.acceptS1 s l) := by
  unfold State.acceptS1
  try dsimp only
  repeat' first
    | with_reducible assumption
    | with_reducible rfl
    | with_reducible apply State.setFld_keeps
    | with_reducible apply State.raiseIf_keeps
    | dsimp only
    | split

theorem State.quietLane_keeps {s0 : State} {s : State} (l : Nat)
    (hk : Keeps s0 s) : Keeps s0 (State.quietLane s l) := by
  unfold State.quietLane
  try dsimp only
  repeat' first
    | with_reducible assumption
    | with_reducible rfl
    | with_reducible apply State.setVal_keeps
    | with_reducible apply State.modLane_keeps
    | with_reducible apply State.dropS1_keeps
    | with_reducible apply State.clearPaths_keeps

end Sys2Proof.Machine
end

