-- ==== Sys2Proof/Laws/KeepsLaneArray.lean ====
section
/-! SUPPORT. What the operations of Machine/LaneArray.lean keep (Keeps). -/

namespace Sys2Proof.Machine

theorem State.noteMoving_keeps {s0 : State} {s : State}
    (hk : Keeps s0 s) : Keeps s0 (State.noteMoving s) := by
  unfold State.noteMoving
  try dsimp only
  repeat' first
    | with_reducible assumption
    | with_reducible rfl
    | with_reducible apply State.setFld_keeps
    | with_reducible apply State.raiseIf_keeps

theorem State.setMoving_keeps {s0 : State} {s : State} (l : Nat) (rx : Bool) (tx : Bool)
    (hk : Keeps s0 s) : Keeps s0 (State.setMoving s l rx tx) := by
  unfold State.setMoving
  try dsimp only
  repeat' first
    | with_reducible assumption
    | with_reducible rfl
    | with_reducible apply State.modLane_keeps
    | with_reducible apply State.noteMoving_keeps

theorem State.rxDone_keeps {s0 : State} {s : State} (l : Nat)
    (hk : Keeps s0 s) : Keeps s0 (State.rxDone s l) := by
  unfold State.rxDone
  try dsimp only
  repeat' first
    | with_reducible assumption
    | with_reducible rfl
    | with_reducible apply State.setMoving_keeps
    | dsimp only
    | split

theorem State.txDone_keeps {s0 : State} {s : State} (l : Nat)
    (hk : Keeps s0 s) : Keeps s0 (State.txDone s l) := by
  unfold State.txDone
  try dsimp only
  repeat' first
    | with_reducible assumption
    | with_reducible rfl
    | with_reducible apply State.setMoving_keeps
    | dsimp only
    | split

theorem State.setLaneState_keeps {s0 : State} {s : State} (l : Nat) (st : LaneState)
    (hk : Keeps s0 s) : Keeps s0 (State.setLaneState s l st) := by
  unfold State.setLaneState
  try dsimp only
  repeat' first
    | with_reducible assumption
    | with_reducible rfl
    | with_reducible apply State.setFld_keeps
    | with_reducible apply State.raise_keeps
    | dsimp only
    | split

theorem State.laneBit_keeps {s0 : State} {s : State} (l : Nat) (f : Fld) (lost : Fld) (b : Bool)
    (hk : Keeps s0 s) : Keeps s0 (State.laneBit s l f lost b) := by
  unfold State.laneBit
  try dsimp only
  repeat' first
    | with_reducible assumption
    | with_reducible rfl
    | with_reducible apply State.setOn_keeps
    | with_reducible apply State.raiseIf_keeps

theorem State.noteLoss_keeps {s0 : State} {s : State} (l : Nat)
    (hk : Keeps s0 s) : Keeps s0 (State.noteLoss s l) := by
  unfold State.noteLoss
  try dsimp only
  repeat' first
    | with_reducible assumption
    | with_reducible rfl
    | with_reducible apply State.modLane_keeps

theorem State.dropTxReady_keeps {s0 : State} {s : State} (l : Nat)
    (hk : Keeps s0 s) : Keeps s0 (State.dropTxReady s l) := by
  unfold State.dropTxReady
  try dsimp only
  repeat' first
    | with_reducible assumption
    | with_reducible rfl
    | with_reducible apply State.setOn_keeps
    | with_reducible apply State.modLane_keeps
    | with_reducible apply State.raiseIf_keeps

theorem State.dropRx_keeps {s0 : State} {s : State} (l : Nat)
    (hk : Keeps s0 s) : Keeps s0 (State.dropRx s l) := by
  unfold State.dropRx
  try dsimp only
  repeat' first
    | with_reducible assumption
    | with_reducible rfl
    | with_reducible apply State.setOn_keeps
    | with_reducible apply State.laneBit_keeps

theorem State.clearEq_keeps {s0 : State} {s : State} (l : Nat)
    (hk : Keeps s0 s) : Keeps s0 (State.clearEq s l) := by
  unfold State.clearEq
  try dsimp only
  repeat' first
    | with_reducible assumption
    | with_reducible rfl
    | with_reducible apply State.setVal_keeps

theorem State.eqManual_keeps {s0 : State} {s : State} (l : Nat)
    (hk : Keeps s0 s) : Keeps s0 (State.eqManual s l) := by
  unfold State.eqManual
  try dsimp only
  repeat' first
    | with_reducible assumption
    | with_reducible rfl
    | with_reducible apply State.setFld_keeps
    | dsimp only
    | split

theorem State.laneDown_keeps {s0 : State} {s : State} (l : Nat)
    (hk : Keeps s0 s) : Keeps s0 (State.laneDown s l) := by
  unfold State.laneDown
  try dsimp only
  repeat' first
    | with_reducible assumption
    | with_reducible rfl
    | with_reducible apply State.setFld_keeps
    | with_reducible apply State.modLane_keeps
    | with_reducible apply State.quietLane_keeps
    | with_reducible apply State.setLaneState_keeps
    | with_reducible apply State.dropTxReady_keeps
    | with_reducible apply State.dropRx_keeps
    | with_reducible apply State.clearEq_keeps

theorem State.lanePower_keeps {s0 : State} {s : State} (l : Nat)
    (hk : Keeps s0 s) : Keeps s0 (State.lanePower s l) := by
  unfold State.lanePower
  try dsimp only
  repeat' first
    | with_reducible assumption
    | with_reducible rfl
    | with_reducible apply State.setFld_keeps
    | with_reducible apply State.setLaneState_keeps
    | dsimp only
    | split

theorem State.bringUp_keeps {s0 : State} {s : State} (l : Nat)
    (hk : Keeps s0 s) : Keeps s0 (State.bringUp s l) := by
  unfold State.bringUp
  try dsimp only
  repeat' first
    | with_reducible assumption
    | with_reducible rfl
    | with_reducible apply State.modLane_keeps
    | with_reducible apply State.putBit_keeps
    | with_reducible apply State.quietLane_keeps
    | with_reducible apply State.setMoving_keeps
    | with_reducible apply State.setLaneState_keeps
    | with_reducible apply State.dropTxReady_keeps
    | with_reducible apply State.dropRx_keeps
    | with_reducible apply State.clearEq_keeps
    | with_reducible apply State.lanePower_keeps
    | dsimp only
    | split

theorem State.retune_keeps {s0 : State} {s : State} (l : Nat)
    (hk : Keeps s0 s) : Keeps s0 (State.retune s l) := by
  unfold State.retune
  try dsimp only
  repeat' first
    | with_reducible assumption
    | with_reducible rfl
    | with_reducible apply State.modLane_keeps
    | with_reducible apply State.setMoving_keeps
    | with_reducible apply State.setLaneState_keeps
    | with_reducible apply State.eqManual_keeps
    | dsimp only
    | split

theorem State.laneFault_keeps {s0 : State} {s : State} (l : Nat)
    (hk : Keeps s0 s) : Keeps s0 (State.laneFault s l) := by
  unfold State.laneFault
  try dsimp only
  repeat' first
    | with_reducible assumption
    | with_reducible rfl
    | with_reducible apply State.modLane_keeps
    | with_reducible apply State.setLaneState_keeps
    | with_reducible apply State.noteLoss_keeps
    | with_reducible apply State.dropTxReady_keeps
    | with_reducible apply State.dropRx_keeps
    | dsimp only
    | split

theorem State.bayLock_keeps {s0 : State} {s : State} (b : Nat)
    (hk : Keeps s0 s) : Keeps s0 (State.bayLock s b) := by
  unfold State.bayLock
  try dsimp only
  repeat' first
    | with_reducible assumption
    | with_reducible rfl
    | with_reducible apply State.setOn_keeps
    | with_reducible apply State.lanePower_keeps
    | with_reducible apply Keeps.foldl
    | with_reducible apply Keeps.foldl_snd
    | with_reducible apply Keeps.foldl_fst
    | dsimp only
    | split
    | intro _

theorem State.txReadyNow_keeps {s0 : State} {s : State} (l : Nat) (pin : Word)
    (hk : Keeps s0 s) : Keeps s0 (State.txReadyNow s l pin) := by
  unfold State.txReadyNow
  try dsimp only
  repeat' first
    | with_reducible assumption
    | with_reducible rfl
    | with_reducible apply State.setFld_keeps
    | with_reducible apply State.setOn_keeps
    | with_reducible apply State.modLane_keeps
    | with_reducible apply State.setLaneState_keeps
    | dsimp only
    | split

theorem State.sigDet_keeps {s0 : State} {s : State} (l : Nat) (present : Bool)
    (hk : Keeps s0 s) : Keeps s0 (State.sigDet s l present) := by
  unfold State.sigDet
  try dsimp only
  repeat' first
    | with_reducible assumption
    | with_reducible rfl
    | with_reducible apply State.laneBit_keeps
    | with_reducible apply State.noteLoss_keeps
    | dsimp only
    | split

theorem State.cdrLocked_keeps {s0 : State} {s : State} (l : Nat) (offset : Int)
    (hk : Keeps s0 s) : Keeps s0 (State.cdrLocked s l offset) := by
  unfold State.cdrLocked
  try dsimp only
  repeat' first
    | with_reducible assumption
    | with_reducible rfl
    | with_reducible apply State.setFld_keeps
    | with_reducible apply State.setOn_keeps
    | with_reducible apply State.setLaneState_keeps
    | with_reducible apply State.laneBit_keeps
    | with_reducible apply State.noteLoss_keeps
    | dsimp only
    | split

theorem State.eqCodes_keeps {s0 : State} {s : State} (l : Nat) (dfe1 : Byte) (ctle : BitVec 5)
    (hk : Keeps s0 s) : Keeps s0 (State.eqCodes s l dfe1 ctle) := by
  unfold State.eqCodes
  try dsimp only
  repeat' first
    | with_reducible assumption
    | with_reducible rfl
    | with_reducible apply State.setFld_keeps
    | with_reducible apply State.eqManual_keeps

theorem State.eyeRead_keeps {s0 : State} {s : State} (e : EyeRead)
    (hk : Keeps s0 s) : Keeps s0 (State.eyeRead s e) := by
  unfold State.eyeRead
  try dsimp only
  repeat' first
    | with_reducible assumption
    | with_reducible rfl
    | with_reducible apply State.setFld_keeps
    | with_reducible apply State.eqCodes_keeps
    | dsimp only
    | split

theorem State.cdrLost_keeps {s0 : State} {s : State} (l : Nat)
    (hk : Keeps s0 s) : Keeps s0 (State.cdrLost s l) := by
  unfold State.cdrLost
  try dsimp only
  repeat' first
    | with_reducible assumption
    | with_reducible rfl
    | with_reducible apply State.setOn_keeps
    | with_reducible apply State.modLane_keeps
    | with_reducible apply State.setLaneState_keeps
    | with_reducible apply State.laneBit_keeps
    | with_reducible apply State.noteLoss_keeps
    | dsimp only
    | split

theorem State.framerStart_keeps {s0 : State} {s : State} (l : Nat)
    (hk : Keeps s0 s) : Keeps s0 (State.framerStart s l) := by
  unfold State.framerStart
  try dsimp only
  repeat' first
    | with_reducible assumption
    | with_reducible rfl
    | with_reducible apply State.modLane_keeps
    | with_reducible apply State.declare_keeps
    | dsimp only
    | split

theorem State.adapted_keeps {s0 : State} {s : State} (l : Nat) (pin : Word) (eye : Byte) (dfe1 : Byte) (ctle : BitVec 5)
    (hk : Keeps s0 s) : Keeps s0 (State.adapted s l pin eye dfe1 ctle) := by
  unfold State.adapted
  try dsimp only
  repeat' first
    | with_reducible assumption
    | with_reducible rfl
    | with_reducible apply State.setFld_keeps
    | with_reducible apply State.setOn_keeps
    | with_reducible apply State.modLane_keeps
    | with_reducible apply State.setLaneState_keeps
    | with_reducible apply State.eqCodes_keeps
    | with_reducible apply State.framerStart_keeps
    | dsimp only
    | split

theorem State.eqDiscard_keeps {s0 : State} {s : State} (l : Nat)
    (hk : Keeps s0 s) : Keeps s0 (State.eqDiscard s l) := by
  unfold State.eqDiscard
  try dsimp only
  repeat' first
    | with_reducible assumption
    | with_reducible rfl
    | with_reducible apply State.modLane_keeps
    | dsimp only
    | split

theorem State.bringUpLate_keeps {s0 : State} {s : State} (l : Nat)
    (hk : Keeps s0 s) : Keeps s0 (State.bringUpLate s l) := by
  unfold State.bringUpLate
  try dsimp only
  repeat' first
    | with_reducible assumption
    | with_reducible rfl
    | with_reducible apply State.modLane_keeps
    | with_reducible apply State.declare_keeps
    | dsimp only
    | split

theorem State.patternLock_keeps {s0 : State} {s : State} (l : Nat) (locked : Bool)
    (hk : Keeps s0 s) : Keeps s0 (State.patternLock s l locked) := by
  unfold State.patternLock
  try dsimp only
  repeat' first
    | with_reducible assumption
    | with_reducible rfl
    | with_reducible apply State.setOn_keeps
    | with_reducible apply State.modLane_keeps
    | with_reducible apply State.raiseIf_keeps
    | dsimp only
    | split

theorem State.patternErrors_keeps {s0 : State} {s : State} (l : Nat) (n : Nat)
    (hk : Keeps s0 s) : Keeps s0 (State.patternErrors s l n) := by
  unfold State.patternErrors
  try dsimp only
  repeat' first
    | with_reducible assumption
    | with_reducible rfl
    | with_reducible apply State.bump_keeps
    | with_reducible apply State.raise_keeps
    | dsimp only
    | split

theorem State.patternCheck_keeps {s0 : State} {s : State} (e : Stream)
    (hk : Keeps s0 s) : Keeps s0 (State.patternCheck s e) := by
  unfold State.patternCheck
  try dsimp only
  repeat' first
    | with_reducible assumption
    | with_reducible rfl
    | with_reducible apply State.modLane_keeps
    | with_reducible apply State.patternErrors_keeps
    | dsimp only
    | split

end Sys2Proof.Machine
end

