-- ==== Sys2Proof/Laws/KeepsLanding.lean ====
section
/-! SUPPORT. What the operations of Machine/Landing.lean keep (Keeps). -/

namespace Sys2Proof.Machine

theorem State.setVals_keeps {s0 : State} {s : State} (vs : List (Nat × Val))
    (hk : Keeps s0 s) : Keeps s0 (State.setVals s vs) := by
  unfold State.setVals
  try dsimp only
  repeat' first
    | with_reducible assumption
    | with_reducible rfl
    | with_reducible apply State.setVal_keeps
    | with_reducible apply Keeps.foldl
    | with_reducible apply Keeps.foldl_snd
    | with_reducible apply Keeps.foldl_fst
    | dsimp only
    | split
    | intro _

theorem State.setWords_keeps {s0 : State} {s : State} (vs : List (Nat × Nat × Word))
    (hk : Keeps s0 s) : Keeps s0 (State.setWords s vs) := by
  unfold State.setWords
  try dsimp only
  repeat' first
    | with_reducible assumption
    | with_reducible rfl
    | with_reducible apply State.setWord_keeps
    | with_reducible apply Keeps.foldl
    | with_reducible apply Keeps.foldl_snd
    | with_reducible apply Keeps.foldl_fst
    | dsimp only
    | split
    | intro _

theorem State.asOf_keeps {s0 : State} {s : State} (fn : Nat) (f : State → State) (hf : ∀ t, Keeps s0 t → Keeps s0 (f t))
    (hk : Keeps s0 s) : Keeps s0 (State.asOf s fn f) := by
  unfold State.asOf
  try dsimp only
  repeat' first
    | with_reducible assumption
    | with_reducible rfl
    | with_reducible apply State.setVals_keeps
    | with_reducible apply State.setWords_keeps
    | with_reducible apply hf
    | dsimp only
    | split

theorem State.asLanding_keeps {s0 : State} {s : State} (l : Nat) (L : Nat)
    (hk : Keeps s0 s) : Keeps s0 (State.asLanding s l L) := by
  unfold State.asLanding
  try dsimp only
  repeat' first
    | with_reducible assumption
    | with_reducible rfl
    | with_reducible apply State.setVals_keeps

theorem State.putLanding_keeps {s0 : State} {s : State} (l : Nat) (x : Landing)
    (hk : Keeps s0 s) : Keeps s0 (State.putLanding s l x) := by
  unfold State.putLanding
  try dsimp only
  repeat' first
    | with_reducible assumption
    | with_reducible rfl
    | with_reducible apply State.modLane_keeps
    | dsimp only
    | split

theorem State.noteLanded_keeps {s0 : State} {s : State} (l : Nat) (x : Landing)
    (hk : Keeps s0 s) : Keeps s0 (State.noteLanded s l x) := by
  unfold State.noteLanded
  try dsimp only
  repeat' first
    | with_reducible assumption
    | with_reducible rfl
    | with_reducible apply State.rxDone_keeps
    | dsimp only
    | split

theorem State.checkBytes_keeps {s0 : State} {s : State} (l : Nat) (bs : List Byte)
    (hk : Keeps s0 s) : Keeps s0 (State.checkBytes s l bs) := by
  unfold State.checkBytes
  try dsimp only
  repeat' first
    | with_reducible assumption
    | with_reducible rfl
    | with_reducible apply State.setOn_keeps
    | with_reducible apply State.bump_keeps
    | with_reducible apply Keeps.foldl
    | with_reducible apply Keeps.foldl_snd
    | with_reducible apply Keeps.foldl_fst
    | dsimp only
    | split
    | intro _
    | with_reducible apply Keeps.upd

theorem State.checkSlot_keeps {s0 : State} {s : State} (l : Nat) (x : Landing)
    (hk : Keeps s0 s) : Keeps s0 (State.checkSlot s l x) := by
  unfold State.checkSlot
  try dsimp only
  repeat' first
    | with_reducible assumption
    | with_reducible rfl
    | with_reducible apply State.checkBytes_keeps
    | dsimp only
    | split

theorem State.land_keeps {s0 : State} {s : State} (l : Nat) (x : Landing)
    (hk : Keeps s0 s) : Keeps s0 (State.land s l x) := by
  unfold State.land
  try dsimp only
  repeat' first
    | with_reducible assumption
    | with_reducible rfl
    | with_reducible apply State.putLanding_keeps
    | with_reducible apply State.noteLanded_keeps
    | with_reducible apply State.checkSlot_keeps

theorem State.showSpare_keeps {s0 : State} {s : State} (l : Nat) (L : Nat)
    (hk : Keeps s0 s) : Keeps s0 (State.showSpare s l L) := by
  unfold State.showSpare
  try dsimp only
  repeat' first
    | with_reducible assumption
    | with_reducible rfl
    | with_reducible apply State.setFld_keeps

theorem State.slipRepeat_keeps {s0 : State} {s : State} (l : Nat) (L : Nat)
    (hk : Keeps s0 s) : Keeps s0 (State.slipRepeat s l L) := by
  unfold State.slipRepeat
  try dsimp only
  repeat' first
    | with_reducible assumption
    | with_reducible rfl
    | with_reducible apply State.bumpLive_keeps
    | with_reducible apply State.modLane_keeps
    | with_reducible apply State.raise_keeps
    | with_reducible apply State.land_keeps

theorem State.coreDrop_keeps {s0 : State} {s : State} (l : Nat) (L : Nat) (arrival : Tick)
    (hk : Keeps s0 s) : Keeps s0 (State.coreDrop s l L arrival) := by
  unfold State.coreDrop
  try dsimp only
  repeat' first
    | with_reducible assumption
    | with_reducible rfl
    | with_reducible apply State.bumpLive_keeps
    | with_reducible apply State.modLane_keeps
    | with_reducible apply State.raise_keeps
    | with_reducible apply State.putLanding_keeps

theorem State.takeLanding_keeps {s0 : State} {s : State} (l : Nat) (L : Nat) (x : Landing) (behind : Bool)
    (hk : Keeps s0 s) : Keeps s0 (State.takeLanding s l L x behind) := by
  unfold State.takeLanding
  try dsimp only
  repeat' first
    | with_reducible assumption
    | with_reducible rfl
    | with_reducible apply State.modLane_keeps
    | with_reducible apply State.land_keeps
    | with_reducible apply State.showSpare_keeps
    | with_reducible apply State.coreDrop_keeps
    | dsimp only
    | split

theorem State.realign_keeps {s0 : State} {s : State} (l : Nat) (x : Landing) (behind : Bool)
    (hk : Keeps s0 s) : Keeps s0 (State.realign s l x behind) := by
  unfold State.realign
  try dsimp only
  repeat' first
    | with_reducible assumption
    | with_reducible rfl
    | with_reducible apply State.bumpLive_keeps
    | with_reducible apply State.raise_keeps
    | with_reducible apply State.reseedLane_keeps
    | with_reducible apply State.takeLanding_keeps

theorem State.followOn_keeps {s0 : State} {s : State} (l : Nat) (L : Nat) (x : Landing) (behind : Bool)
    (hk : Keeps s0 s) : Keeps s0 (State.followOn s l L x behind) := by
  unfold State.followOn
  try dsimp only
  repeat' first
    | with_reducible assumption
    | with_reducible rfl
    | with_reducible apply State.bumpLive_keeps
    | with_reducible apply State.raise_keeps
    | with_reducible apply State.showSpare_keeps
    | with_reducible apply State.slipRepeat_keeps
    | with_reducible apply State.takeLanding_keeps
    | dsimp only
    | split

theorem State.placeTtf_keeps {s0 : State} {s : State} (l : Nat) (x : Landing) (behind : Bool)
    (hk : Keeps s0 s) : Keeps s0 (State.placeTtf s l x behind) := by
  unfold State.placeTtf
  try dsimp only
  repeat' first
    | with_reducible assumption
    | with_reducible rfl
    | with_reducible apply State.realign_keeps
    | with_reducible apply State.followOn_keeps
    | dsimp only
    | split

theorem State.landAis_keeps {s0 : State} {s : State} (l : Nat) (L : Nat)
    (hk : Keeps s0 s) : Keeps s0 (State.landAis s l L) := by
  unfold State.landAis
  try dsimp only
  repeat' first
    | with_reducible assumption
    | with_reducible rfl
    | with_reducible apply State.land_keeps

theorem State.readyTtf_keeps {s0 : State} {s : State} (l : Nat) (L : Nat)
    (hk : Keeps s0 s) : Keeps s0 (State.readyTtf s l L) := by
  unfold State.readyTtf
  try dsimp only
  repeat' first
    | with_reducible assumption
    | with_reducible rfl
    | with_reducible apply State.slipRepeat_keeps
    | with_reducible apply State.landAis_keeps
    | dsimp only
    | split

theorem State.readySdh_keeps {s0 : State} {s : State} (l : Nat) (L : Nat)
    (hk : Keeps s0 s) : Keeps s0 (State.readySdh s l L) := by
  unfold State.readySdh
  try dsimp only
  repeat' first
    | with_reducible assumption
    | with_reducible rfl
    | with_reducible apply State.asLanding_keeps
    | with_reducible apply State.land_keeps
    | dsimp only
    | split

end Sys2Proof.Machine
end

