-- ==== Sys2Proof/Laws/KeepsMapper.lean ====
section
/-! SUPPORT. What the operations of Machine/Mapper.lean keep (Keeps). -/

namespace Sys2Proof.Machine

theorem State.closeMapping_keeps {s0 : State} {s : State} (l : Nat) (L : Nat)
    (hk : Keeps s0 s) : Keeps s0 (State.closeMapping s l L) := by
  unfold State.closeMapping
  try dsimp only
  repeat' first
    | with_reducible assumption
    | with_reducible rfl
    | with_reducible apply State.bumpLive_keeps
    | with_reducible apply State.setLane_keeps
    | with_reducible apply State.land_keeps

theorem State.mapUpTo_keeps {s0 : State} {s : State} (l : Nat) (fn : Nat)
    (hk : Keeps s0 s) : Keeps s0 (State.mapUpTo s l fn) := by
  unfold State.mapUpTo
  try dsimp only
  repeat' first
    | with_reducible assumption
    | with_reducible rfl
    | with_reducible apply State.modLane_keeps
    | with_reducible apply State.closeMapping_keeps
    | dsimp only
    | split

theorem State.mapBlock_keeps {s0 : State} {s : State} (l : Nat) (sync : BitVec 2) (payload : BitVec 64)
    (hk : Keeps s0 s) : Keeps s0 (State.mapBlock s l sync payload) := by
  unfold State.mapBlock
  try dsimp only
  repeat' first
    | with_reducible assumption
    | with_reducible rfl
    | with_reducible apply State.bumpLive_keeps
    | with_reducible apply State.setLane_keeps
    | with_reducible apply State.modLane_keeps
    | with_reducible apply State.mapUpTo_keeps
    | dsimp only
    | split

theorem State.readyClient_keeps {s0 : State} {s : State} (l : Nat) (L : Nat)
    (hk : Keeps s0 s) : Keeps s0 (State.readyClient s l L) := by
  unfold State.readyClient
  try dsimp only
  repeat' first
    | with_reducible assumption
    | with_reducible rfl
    | with_reducible apply State.closeMapping_keeps
    | dsimp only
    | split

theorem State.takeSeq_keeps {s0 : State} {s : State} (l : Nat) (seq : Nat)
    (hk : Keeps s0 s) : Keeps s0 (State.takeSeq s l seq).2 := by
  unfold State.takeSeq
  try dsimp only
  repeat' first
    | with_reducible assumption
    | with_reducible rfl
    | with_reducible apply State.bumpLive_keeps
    | with_reducible apply State.modLane_keeps
    | dsimp only
    | split

theorem State.appendBlocks_keeps {s0 : State} {s : State} (l : Nat) (fn : Nat) (bs : List Block)
    (hk : Keeps s0 s) : Keeps s0 (State.appendBlocks s l fn bs).2 := by
  unfold State.appendBlocks
  try dsimp only
  repeat' first
    | with_reducible assumption
    | with_reducible rfl
    | with_reducible apply State.bumpLive_keeps
    | with_reducible apply State.setLane_keeps

theorem State.groupRuns_keeps {s0 : State} {s : State} (l : Nat) (gais : Bool) (late : Bool) (headerBad : Bool) (pchk : Option Bool)
    (hk : Keeps s0 s) : Keeps s0 (State.groupRuns s l gais late headerBad pchk) := by
  unfold State.groupRuns
  try dsimp only
  repeat' first
    | with_reducible assumption
    | with_reducible rfl
    | with_reducible apply State.modLane_keeps
    | dsimp only
    | split

theorem State.sendBlocks_keeps {s0 : State} {s : State} (l : Nat) (fn : Nat)
    (hk : Keeps s0 s) : Keeps s0 (State.sendBlocks s l fn).2 := by
  unfold State.sendBlocks
  try dsimp only
  repeat' first
    | with_reducible assumption
    | with_reducible rfl
    | with_reducible apply State.bumpLive_keeps
    | with_reducible apply State.setLane_keeps

theorem State.useFrame_keeps {s0 : State} {s : State} (l : Nat) (fn : Nat) (at_ : Tick) (h : GroupHeader) (stream : List Byte)
    (hk : Keeps s0 s) : Keeps s0 (State.useFrame s l fn at_ h stream) := by
  unfold State.useFrame
  try dsimp only
  repeat' first
    | with_reducible assumption
    | with_reducible rfl
    | with_reducible apply State.setVal_keeps
    | with_reducible apply State.setFld_keeps
    | with_reducible apply State.takeSeq_keeps
    | with_reducible apply State.appendBlocks_keeps
    | dsimp only
    | split

theorem State.demap_keeps {s0 : State} {s : State} (l : Nat) (fn : Nat) (at_ : Tick) (cells : List Cell)
    (hk : Keeps s0 s) : Keeps s0 (State.demap s l fn at_ cells).2 := by
  unfold State.demap
  try dsimp only
  repeat' first
    | with_reducible assumption
    | with_reducible rfl
    | with_reducible apply State.bumpLive_keeps
    | with_reducible apply State.modLane_keeps
    | with_reducible apply State.appendBlocks_keeps
    | with_reducible apply State.groupRuns_keeps
    | with_reducible apply State.sendBlocks_keeps
    | with_reducible apply State.useFrame_keeps
    | dsimp only
    | split

theorem State.resetDemapper_keeps {s0 : State} {s : State} (l : Nat)
    (hk : Keeps s0 s) : Keeps s0 (State.resetDemapper s l) := by
  unfold State.resetDemapper
  try dsimp only
  repeat' first
    | with_reducible assumption
    | with_reducible rfl
    | with_reducible apply State.modLane_keeps

end Sys2Proof.Machine
end

