-- ==== Sys2Proof/Laws/KeepsSdh.lean ====
section
/-! SUPPORT. What the operations of Machine/Sdh.lean keep (Keeps). -/

namespace Sys2Proof.Machine

theorem State.interpret_keeps {s0 : State} {s : State} (l : Nat) (k : Nat) (p : PointerWord)
    (hk : Keeps s0 s) : Keeps s0 (State.interpret s l k p) := by
  unfold State.interpret
  try dsimp only
  repeat' first
    | with_reducible assumption
    | with_reducible rfl
    | with_reducible apply State.setFld_keeps
    | with_reducible apply State.bumpLive_keeps
    | with_reducible apply State.modLane_keeps
    | with_reducible apply State.judgePath_keeps
    | dsimp only
    | split

theorem State.sawRun_keeps {s0 : State} {s : State} (l : Nat) (k : Nat) (v : Nat)
    (hk : Keeps s0 s) : Keeps s0 (State.sawRun s l k v) := by
  unfold State.sawRun
  try dsimp only
  repeat' first
    | with_reducible assumption
    | with_reducible rfl
    | with_reducible apply State.modLane_keeps

theorem State.b3_keeps {s0 : State} {s : State} (l : Nat) (k : Nat) (n : Nat)
    (hk : Keeps s0 s) : Keeps s0 (State.b3 s l k n) := by
  unfold State.b3
  try dsimp only
  repeat' first
    | with_reducible assumption
    | with_reducible rfl
    | with_reducible apply State.bumpLive_keeps
    | with_reducible apply State.modLane_keeps

theorem State.pathOverhead_keeps {s0 : State} {s : State} (l : Nat) (k : Nat) (p : Spe)
    (hk : Keeps s0 s) : Keeps s0 (State.pathOverhead s l k p) := by
  unfold State.pathOverhead
  try dsimp only
  repeat' first
    | with_reducible assumption
    | with_reducible rfl
    | with_reducible apply State.bumpLive_keeps
    | with_reducible apply State.modLane_keeps
    | with_reducible apply State.sawRun_keeps
    | with_reducible apply State.b3_keeps
    | dsimp only
    | split

theorem State.placeSpe_keeps {s0 : State} {s : State} (l : Nat) (k : Nat) (arrival : Tick) (p : Spe)
    (hk : Keeps s0 s) : Keeps s0 (State.placeSpe s l k arrival p) := by
  unfold State.placeSpe
  try dsimp only
  repeat' first
    | with_reducible assumption
    | with_reducible rfl
    | with_reducible apply State.putLanding_keeps
    | with_reducible apply State.checkBytes_keeps
    | dsimp only
    | split

theorem State.receiveSpe_keeps {s0 : State} {s : State} (l : Nat) (k : Nat) (arrival : Tick) (p : Spe)
    (hk : Keeps s0 s) : Keeps s0 (State.receiveSpe s l k arrival p) := by
  unfold State.receiveSpe
  try dsimp only
  repeat' first
    | with_reducible assumption
    | with_reducible rfl
    | with_reducible apply State.pathOverhead_keeps
    | with_reducible apply State.placeSpe_keeps

theorem State.fillPath_keeps {s0 : State} {s : State} (l : Nat) (k : Nat) (arrival : Tick) (whole : Bool)
    (hk : Keeps s0 s) : Keeps s0 (State.fillPath s l k arrival whole) := by
  unfold State.fillPath
  try dsimp only
  repeat' first
    | with_reducible assumption
    | with_reducible rfl
    | with_reducible apply State.putLanding_keeps
    | dsimp only
    | split

theorem State.receivePath_keeps {s0 : State} {s : State} (l : Nat) (arrival : Tick) (a : Array Byte) (k : Nat)
    (hk : Keeps s0 s) : Keeps s0 (State.receivePath s l arrival a k) := by
  unfold State.receivePath
  try dsimp only
  repeat' first
    | with_reducible assumption
    | with_reducible rfl
    | with_reducible apply State.modLane_keeps
    | with_reducible apply State.interpret_keeps
    | with_reducible apply State.b3_keeps
    | with_reducible apply State.receiveSpe_keeps
    | with_reducible apply State.fillPath_keeps
    | with_reducible apply Keeps.foldl
    | with_reducible apply Keeps.foldl_snd
    | with_reducible apply Keeps.foldl_fst
    | dsimp only
    | split
    | intro _

theorem State.receivePaths_keeps {s0 : State} {s : State} (l : Nat) (arrival : Tick) (bytes : List Byte)
    (hk : Keeps s0 s) : Keeps s0 (State.receivePaths s l arrival bytes) := by
  unfold State.receivePaths
  try dsimp only
  repeat' first
    | with_reducible assumption
    | with_reducible rfl
    | with_reducible apply State.receivePath_keeps
    | with_reducible apply Keeps.foldl
    | with_reducible apply Keeps.foldl_snd
    | with_reducible apply Keeps.foldl_fst
    | dsimp only
    | split
    | intro _

theorem State.overlaySample_keeps {s0 : State} {s : State} (l : Nat) (tx0 : Nat) (x : Nat × OvWord × Track)
    (hk : Keeps s0 s) : Keeps s0 (State.overlaySample s l tx0 x) := by
  unfold State.overlaySample
  try dsimp only
  repeat' first
    | with_reducible assumption
    | with_reducible rfl
    | with_reducible apply State.bumpLive_keeps
    | with_reducible apply State.raise_keeps
    | with_reducible apply State.excludeSample_keeps
    | with_reducible apply State.enterSample_keeps
    | dsimp only
    | split

theorem State.discardOverlay_keeps {s0 : State} {s : State} (l : Nat) (n : Nat)
    (hk : Keeps s0 s) : Keeps s0 (State.discardOverlay s l n) := by
  unfold State.discardOverlay
  try dsimp only
  repeat' first
    | with_reducible assumption
    | with_reducible rfl
    | with_reducible apply State.bumpLive_keeps
    | with_reducible apply State.raise_keeps
    | with_reducible apply State.excludeSample_keeps
    | dsimp only
    | split

theorem State.overlayBreak_keeps {s0 : State} {s : State} (l : Nat)
    (hk : Keeps s0 s) : Keeps s0 (State.overlayBreak s l) := by
  unfold State.overlayBreak
  try dsimp only
  repeat' first
    | with_reducible assumption
    | with_reducible rfl
    | with_reducible apply State.modLane_keeps

theorem State.overlayMultiframe_keeps {s0 : State} {s : State} (l : Nat) (prev : List OvWord) (cur : List OvWord)
    (hk : Keeps s0 s) : Keeps s0 (State.overlayMultiframe s l prev cur) := by
  unfold State.overlayMultiframe
  try dsimp only
  repeat' first
    | with_reducible assumption
    | with_reducible rfl
    | with_reducible apply State.sawRun_keeps
    | with_reducible apply State.overlaySample_keeps
    | with_reducible apply State.discardOverlay_keeps
    | with_reducible apply State.overlayBreak_keeps
    | with_reducible apply Keeps.foldl
    | with_reducible apply Keeps.foldl_snd
    | with_reducible apply Keeps.foldl_fst
    | dsimp only
    | split
    | intro _

theorem State.overlayEnd_keeps {s0 : State} {s : State} (l : Nat) (o : Overlay)
    (hk : Keeps s0 s) : Keeps s0 (State.overlayEnd s l o).2 := by
  unfold State.overlayEnd
  try dsimp only
  repeat' first
    | with_reducible assumption
    | with_reducible rfl
    | with_reducible apply State.discardOverlay_keeps
    | with_reducible apply State.overlayBreak_keeps
    | with_reducible apply State.overlayMultiframe_keeps
    | dsimp only
    | split

theorem State.overlayWord_keeps {s0 : State} {s : State} (l : Nat) (w : OvWord)
    (hk : Keeps s0 s) : Keeps s0 (State.overlayWord s l w) := by
  unfold State.overlayWord
  try dsimp only
  repeat' first
    | with_reducible assumption
    | with_reducible rfl
    | with_reducible apply State.modLane_keeps
    | with_reducible apply State.overlayEnd_keeps
    | dsimp only
    | split

theorem State.overlayOut_keeps {s0 : State} {s : State} (l : Nat) (fn : Nat) (tx : Tick) (cls : Nat) (steps : Nat) (root : Bool) (stepped : Bool)
    (hk : Keeps s0 s) : Keeps s0 (State.overlayOut s l fn tx cls steps root stepped).2 := by
  unfold State.overlayOut
  try dsimp only
  repeat' first
    | with_reducible assumption
    | with_reducible rfl
    | with_reducible apply State.drawn_keeps
    | with_reducible apply State.modLane_keeps
    | dsimp only
    | split

theorem State.overlayAgain_keeps {s0 : State} {s : State} (l : Nat) (fn : Nat) (tx : Tick) (w : BitVec 16)
    (hk : Keeps s0 s) : Keeps s0 (State.overlayAgain s l fn tx w).2 := by
  unfold State.overlayAgain
  try dsimp only
  repeat' first
    | with_reducible assumption
    | with_reducible rfl
    | with_reducible apply State.drawn_keeps
    | with_reducible apply State.modLane_keeps

theorem State.countPj_keeps {s0 : State} {s : State} (l : Nat) (k : Nat) (mv : Int)
    (hk : Keeps s0 s) : Keeps s0 (State.countPj s l k mv) := by
  unfold State.countPj
  try dsimp only
  repeat' first
    | with_reducible assumption
    | with_reducible rfl
    | with_reducible apply State.setLive_keeps
    | dsimp only
    | split

theorem State.onLine_keeps {s0 : State} {s : State} (l : Nat) (f : TxFrame) (prior : Nat)
    (hk : Keeps s0 s) : Keeps s0 (State.onLine s l f prior) := by
  unfold State.onLine
  try dsimp only
  repeat' first
    | with_reducible assumption
    | with_reducible rfl
    | with_reducible apply State.modLane_keeps

end Sys2Proof.Machine
end

