-- ==== Sys2Proof/Laws/KeepsPm.lean ====
section
/-! SUPPORT. What the operations of Machine/Pm.lean keep (Keeps). -/

namespace Sys2Proof.Machine

theorem State.pmAt_keeps {s0 : State} {s : State} (key : Nat) (second : Nat) (f : PmSecond → PmSecond)
    (hk : Keeps s0 s) : Keeps s0 (State.pmAt s key second f) := by
  unfold State.pmAt
  try dsimp only
  repeat' first
    | with_reducible assumption
    | with_reducible rfl
    | with_reducible apply State.setPoint_keeps
    | dsimp only
    | split

theorem State.pmBlock_keeps {s0 : State} {s : State} (key : Nat) (near : Bool) (far : Bool)
    (hk : Keeps s0 s) : Keeps s0 (State.pmBlock s key near far) := by
  unfold State.pmBlock
  try dsimp only
  repeat' first
    | with_reducible assumption
    | with_reducible rfl
    | with_reducible apply State.pmAt_keeps
    | dsimp only
    | split

theorem State.pmScan_keeps {s0 : State} {s : State} (key : Nat)
    (hk : Keeps s0 s) : Keeps s0 (State.pmScan s key) := by
  unfold State.pmScan
  try dsimp only
  repeat' first
    | with_reducible assumption
    | with_reducible rfl
    | with_reducible apply State.pmAt_keeps

theorem State.pmScanAll_keeps {s0 : State} {s : State}
    (hk : Keeps s0 s) : Keeps s0 (State.pmScanAll s) := by
  unfold State.pmScanAll
  try dsimp only
  repeat' first
    | with_reducible assumption
    | with_reducible rfl
    | with_reducible apply State.pmScan_keeps
    | with_reducible apply Keeps.foldl

theorem State.pmSuspect_keeps {s0 : State} {s : State} (key : Nat)
    (hk : Keeps s0 s) : Keeps s0 (State.pmSuspect s key) := by
  unfold State.pmSuspect
  try dsimp only
  repeat' first
    | with_reducible assumption
    | with_reducible rfl
    | with_reducible apply State.setPoint_keeps
    | with_reducible apply State.pmAt_keeps

theorem State.tcaPush_keeps {s0 : State} {s : State} (key : Nat) (day : Bool) (c : Nat) (t : Nat)
    (hk : Keeps s0 s) : Keeps s0 (State.tcaPush s key day c t) := by
  unfold State.tcaPush
  try dsimp only
  repeat' first
    | with_reducible assumption
    | with_reducible rfl
    | with_reducible apply State.bump_keeps
    | with_reducible apply State.raise_keeps
    | dsimp only
    | split
    | intro _
    | with_reducible apply Keeps.upd

theorem State.tcaCheck_keeps {s0 : State} {s : State} (key : Nat) (day : Bool) (old : List Nat) (new : List Nat) (t : Nat)
    (hk : Keeps s0 s) : Keeps s0 (State.tcaCheck s key day old new t) := by
  unfold State.tcaCheck
  try dsimp only
  repeat' first
    | with_reducible assumption
    | with_reducible rfl
    | with_reducible apply State.tcaPush_keeps
    | with_reducible apply Keeps.foldl
    | with_reducible apply Keeps.foldl_snd
    | with_reducible apply Keeps.foldl_fst
    | dsimp only
    | split
    | intro _

theorem State.cutDay_keeps {s0 : State} {s : State} (key : Nat) (t : Nat)
    (hk : Keeps s0 s) : Keeps s0 (State.cutDay s key t) := by
  unfold State.cutDay
  try dsimp only
  repeat' first
    | with_reducible assumption
    | with_reducible rfl
    | with_reducible apply State.setPoint_keeps
    | with_reducible apply State.raiseIf_keeps
    | dsimp only
    | split

theorem State.classify_keeps {s0 : State} {s : State} (key : Nat) (x : PmSecond) (run : List PmSecond)
    (hk : Keeps s0 s) : Keeps s0 (State.classify s key x run) := by
  unfold State.classify
  try dsimp only
  repeat' first
    | with_reducible assumption
    | with_reducible rfl
    | with_reducible apply State.setFld_keeps
    | with_reducible apply State.setPoint_keeps
    | with_reducible apply State.raise_keeps
    | with_reducible apply State.raiseIf_keeps
    | with_reducible apply State.tcaCheck_keeps
    | with_reducible apply State.cutDay_keeps
    | dsimp only
    | split

theorem State.pmTick_keeps {s0 : State} {s : State} (key : Nat) (t : Nat)
    (hk : Keeps s0 s) : Keeps s0 (State.pmTick s key t) := by
  unfold State.pmTick
  try dsimp only
  repeat' first
    | with_reducible assumption
    | with_reducible rfl
    | with_reducible apply State.setPoint_keeps
    | with_reducible apply State.classify_keeps
    | dsimp only
    | split

theorem State.pmLedger_keeps {s0 : State} {s : State} (l : Nat)
    (hk : Keeps s0 s) : Keeps s0 (State.pmLedger s l) := by
  unfold State.pmLedger
  try dsimp only
  repeat' first
    | with_reducible assumption
    | with_reducible rfl
    | with_reducible apply State.setPoint_keeps
    | dsimp only
    | split

theorem State.pmSecond_keeps {s0 : State} {s : State}
    (hk : Keeps s0 s) : Keeps s0 (State.pmSecond s) := by
  unfold State.pmSecond
  try dsimp only
  repeat' first
    | with_reducible assumption
    | with_reducible rfl
    | with_reducible apply State.pmTick_keeps
    | with_reducible apply State.pmLedger_keeps
    | with_reducible apply Keeps.foldl
    | with_reducible apply Keeps.foldl_snd
    | with_reducible apply Keeps.foldl_fst
    | dsimp only
    | split
    | intro _
    | with_reducible apply Keeps.upd

theorem State.pmStep_keeps {s0 : State} {s : State}
    (hk : Keeps s0 s) : Keeps s0 (State.pmStep s) := by
  unfold State.pmStep
  try dsimp only
  repeat' first
    | with_reducible assumption
    | with_reducible rfl
    | with_reducible apply State.setFld_keeps
    | with_reducible apply State.raiseIf_keeps
    | dsimp only
    | split
    | intro _
    | with_reducible apply Keeps.upd

end Sys2Proof.Machine
end

