-- ==== Sys2Proof/Laws/KeepsSynth.lean ====
section
/-! SUPPORT. What the operations of Machine/Synth.lean keep (Keeps). -/

namespace Sys2Proof.Machine

theorem State.showClamp_keeps {s0 : State} {s : State} (n : Nat)
    (hk : Keeps s0 s) : Keeps s0 (State.showClamp s n) := by
  unfold State.showClamp
  try dsimp only
  repeat' first
    | with_reducible assumption
    | with_reducible rfl
    | with_reducible apply State.setOn_keeps
    | with_reducible apply State.setOut_keeps
    | with_reducible apply State.raiseIf_keeps
    | dsimp only
    | split

theorem State.quench_keeps {s0 : State} {s : State} (n : Nat)
    (hk : Keeps s0 s) : Keeps s0 (State.quench s n) := by
  unfold State.quench
  try dsimp only
  repeat' first
    | with_reducible assumption
    | with_reducible rfl
    | with_reducible apply State.setOut_keeps
    | with_reducible apply State.raise_keeps
    | dsimp only
    | split

theorem State.showOut_keeps {s0 : State} {s : State} (n : Nat)
    (hk : Keeps s0 s) : Keeps s0 (State.showOut s n) := by
  unfold State.showOut
  try dsimp only
  repeat' first
    | with_reducible assumption
    | with_reducible rfl
    | with_reducible apply State.setFld_keeps
    | with_reducible apply State.setOn_keeps
    | with_reducible apply State.setOut_keeps
    | with_reducible apply State.showClamp_keeps
    | with_reducible apply State.quench_keeps
    | dsimp only
    | split

theorem State.startChange_keeps {s0 : State} {s : State} (n : Nat) (goal : Nat × Nat) (x : Tick)
    (hk : Keeps s0 s) : Keeps s0 (State.startChange s n goal x) := by
  unfold State.startChange
  try dsimp only
  repeat' first
    | with_reducible assumption
    | with_reducible rfl
    | with_reducible apply State.setOn_keeps
    | with_reducible apply State.setOut_keeps
    | with_reducible apply State.quench_keeps
    | with_reducible apply State.showOut_keeps
    | dsimp only
    | split

theorem State.changeFreq_keeps {s0 : State} {s : State} (n : Nat) (goal : Nat × Nat) (x : Tick)
    (hk : Keeps s0 s) : Keeps s0 (State.changeFreq s n goal x) := by
  unfold State.changeFreq
  try dsimp only
  repeat' first
    | with_reducible assumption
    | with_reducible rfl
    | with_reducible apply State.setOut_keeps
    | with_reducible apply State.showOut_keeps
    | with_reducible apply State.startChange_keeps
    | dsimp only
    | split

theorem State.startAlign_keeps {s0 : State} {s : State} (n : Nat) (d : Int)
    (hk : Keeps s0 s) : Keeps s0 (State.startAlign s n d) := by
  unfold State.startAlign
  try dsimp only
  repeat' first
    | with_reducible assumption
    | with_reducible rfl
    | with_reducible apply State.setOn_keeps
    | with_reducible apply State.setOut_keeps
    | with_reducible apply State.showOut_keeps

theorem State.endGlide_keeps {s0 : State} {s : State} (n : Nat)
    (hk : Keeps s0 s) : Keeps s0 (State.endGlide s n) := by
  unfold State.endGlide
  try dsimp only
  repeat' first
    | with_reducible assumption
    | with_reducible rfl
    | with_reducible apply State.setOn_keeps
    | with_reducible apply State.setOut_keeps
    | with_reducible apply State.raise_keeps
    | with_reducible apply State.showOut_keeps
    | with_reducible apply State.startChange_keeps
    | dsimp only
    | split

theorem State.rampEnd_keeps {s0 : State} {s : State} (n : Nat) (delta : Int)
    (hk : Keeps s0 s) : Keeps s0 (State.rampEnd s n delta) := by
  unfold State.rampEnd
  try dsimp only
  repeat' first
    | with_reducible assumption
    | with_reducible rfl
    | with_reducible apply State.setOut_keeps
    | with_reducible apply State.startAlign_keeps
    | with_reducible apply State.endGlide_keeps
    | dsimp only
    | split

theorem State.glideDone_keeps {s0 : State} {s : State} (n : Nat)
    (hk : Keeps s0 s) : Keeps s0 (State.glideDone s n) := by
  unfold State.glideDone
  try dsimp only
  repeat' first
    | with_reducible assumption
    | with_reducible rfl
    | with_reducible apply State.startAlign_keeps
    | with_reducible apply State.endGlide_keeps
    | dsimp only
    | split

theorem State.unclamp_keeps {s0 : State} {s : State} (n : Nat)
    (hk : Keeps s0 s) : Keeps s0 (State.unclamp s n) := by
  unfold State.unclamp
  try dsimp only
  repeat' first
    | with_reducible assumption
    | with_reducible rfl
    | with_reducible apply State.setOut_keeps
    | with_reducible apply State.showOut_keeps
    | with_reducible apply State.startAlign_keeps
    | dsimp only
    | split

theorem State.showOuts_keeps {s0 : State} {s : State}
    (hk : Keeps s0 s) : Keeps s0 (State.showOuts s) := by
  unfold State.showOuts
  try dsimp only
  repeat' first
    | with_reducible assumption
    | with_reducible rfl
    | with_reducible apply State.unclamp_keeps
    | with_reducible apply Keeps.foldl

theorem State.outputResume_keeps {s0 : State} {s : State} (n : Nat)
    (hk : Keeps s0 s) : Keeps s0 (State.outputResume s n) := by
  unfold State.outputResume
  try dsimp only
  repeat' first
    | with_reducible assumption
    | with_reducible rfl
    | with_reducible apply State.setOn_keeps
    | with_reducible apply State.setOut_keeps
    | with_reducible apply State.showOut_keeps
    | dsimp only
    | split

theorem State.stepOut_keeps {s0 : State} {s : State} (d : Int) (n : Nat)
    (hk : Keeps s0 s) : Keeps s0 (State.stepOut s d n) := by
  unfold State.stepOut
  try dsimp only
  repeat' first
    | with_reducible assumption
    | with_reducible rfl
    | with_reducible apply State.startChange_keeps
    | with_reducible apply State.startAlign_keeps
    | dsimp only
    | split

theorem State.stepOuts_keeps {s0 : State} {s : State} (d : Int)
    (hk : Keeps s0 s) : Keeps s0 (State.stepOuts s d) := by
  unfold State.stepOuts
  try dsimp only
  repeat' first
    | with_reducible assumption
    | with_reducible rfl
    | with_reducible apply State.stepOut_keeps
    | with_reducible apply Keeps.foldl
    | with_reducible apply Keeps.foldl_snd
    | with_reducible apply Keeps.foldl_fst
    | dsimp only
    | split
    | intro _

theorem State.setPulse_keeps {s0 : State} {s : State} (p : Nat) (x : Pulse)
    (hk : Keeps s0 s) : Keeps s0 (State.setPulse s p x) := by
  unfold State.setPulse
  try dsimp only
  repeat' first
    | with_reducible assumption
    | with_reducible rfl
    | dsimp only
    | split
    | intro _
    | with_reducible apply Keeps.upd

theorem State.ppsPulse_keeps {s0 : State} {s : State} (p : Nat)
    (hk : Keeps s0 s) : Keeps s0 (State.ppsPulse s p) := by
  unfold State.ppsPulse
  try dsimp only
  repeat' first
    | with_reducible assumption
    | with_reducible rfl
    | with_reducible apply State.raise_keeps
    | with_reducible apply State.setPulse_keeps
    | dsimp only
    | split

end Sys2Proof.Machine
end

