-- ==== Sys2Proof/Laws/KeepsTiming.lean ====
section
/-! SUPPORT. What the operations of Machine/Timing.lean keep (Keeps). -/

namespace Sys2Proof.Machine

theorem State.setRingPort_keeps {s0 : State} {s : State} (p : Nat) (r : RingPort)
    (hk : Keeps s0 s) : Keeps s0 (State.setRingPort s p r) := by
  unfold State.setRingPort
  try dsimp only
  repeat' first
    | with_reducible assumption
    | with_reducible rfl
    | dsimp only
    | split
    | intro _
    | with_reducible apply Keeps.upd

theorem State.setQualified_keeps {s0 : State} {s : State} (c : Nat) (q : Bool)
    (hk : Keeps s0 s) : Keeps s0 (State.setQualified s c q) := by
  unfold State.setQualified
  try dsimp only
  repeat' first
    | with_reducible assumption
    | with_reducible rfl
    | with_reducible apply State.setOn_keeps
    | with_reducible apply State.setCand_keeps
    | with_reducible apply State.raise_keeps
    | dsimp only
    | split

theorem State.candWatchAt_keeps {s0 : State} {s : State} (c : Nat) (from_ : Tick)
    (hk : Keeps s0 s) : Keeps s0 (State.candWatchAt s c from_) := by
  unfold State.candWatchAt
  try dsimp only
  repeat' first
    | with_reducible assumption
    | with_reducible rfl
    | with_reducible apply State.setFld_keeps
    | with_reducible apply State.setOn_keeps
    | with_reducible apply State.setCand_keeps
    | with_reducible apply State.raiseIf_keeps
    | with_reducible apply State.setQualified_keeps
    | dsimp only
    | split

theorem State.candWatch_keeps {s0 : State} {s : State} (c : Nat)
    (hk : Keeps s0 s) : Keeps s0 (State.candWatch s c) := by
  unfold State.candWatch
  try dsimp only
  repeat' first
    | with_reducible assumption
    | with_reducible rfl
    | with_reducible apply State.candWatchAt_keeps

theorem State.candWtr_keeps {s0 : State} {s : State} (c : Nat)
    (hk : Keeps s0 s) : Keeps s0 (State.candWtr s c) := by
  unfold State.candWtr
  try dsimp only
  repeat' first
    | with_reducible assumption
    | with_reducible rfl
    | with_reducible apply State.setOn_keeps
    | with_reducible apply State.setQualified_keeps
    | with_reducible apply State.candWatch_keeps
    | dsimp only
    | split

theorem State.sawEdge_keeps {s0 : State} {s : State} (i : Nat) (e : Tick)
    (hk : Keeps s0 s) : Keeps s0 (State.sawEdge s i e) := by
  unfold State.sawEdge
  try dsimp only
  repeat' first
    | with_reducible assumption
    | with_reducible rfl
    | with_reducible apply State.setCand_keeps
    | dsimp only
    | split

theorem State.actLost_keeps {s0 : State} {s : State} (i : Nat)
    (hk : Keeps s0 s) : Keeps s0 (State.actLost s i) := by
  unfold State.actLost
  try dsimp only
  repeat' first
    | with_reducible assumption
    | with_reducible rfl
    | with_reducible apply State.setCand_keeps
    | with_reducible apply State.raise_keeps
    | with_reducible apply State.candWatch_keeps
    | dsimp only
    | split

theorem State.actReturn_keeps {s0 : State} {s : State} (i : Nat)
    (hk : Keeps s0 s) : Keeps s0 (State.actReturn s i) := by
  unfold State.actReturn
  try dsimp only
  repeat' first
    | with_reducible assumption
    | with_reducible rfl
    | with_reducible apply State.setCand_keeps
    | with_reducible apply State.raise_keeps
    | with_reducible apply State.candWatch_keeps
    | dsimp only
    | split

theorem State.freqMonitor_keeps {s0 : State} {s : State} (c : Nat) (offset : Int)
    (hk : Keeps s0 s) : Keeps s0 (State.freqMonitor s c offset) := by
  unfold State.freqMonitor
  try dsimp only
  repeat' first
    | with_reducible assumption
    | with_reducible rfl
    | with_reducible apply State.setFld_keeps
    | with_reducible apply State.setCand_keeps
    | with_reducible apply State.raise_keeps
    | with_reducible apply State.candWatch_keeps
    | dsimp only
    | split

theorem State.gateOf_keeps {s0 : State} {s : State} (c : Nat) (offset : Int)
    (hk : Keeps s0 s) : Keeps s0 (State.gateOf s c offset) := by
  unfold State.gateOf
  try dsimp only
  repeat' first
    | with_reducible assumption
    | with_reducible rfl
    | with_reducible apply State.setFld_keeps
    | with_reducible apply State.laneBit_keeps
    | with_reducible apply State.cdrLost_keeps
    | with_reducible apply State.freqMonitor_keeps
    | dsimp only
    | split

theorem State.freqGate_keeps {s0 : State} {s : State} (c : Nat) (offset : Int)
    (hk : Keeps s0 s) : Keeps s0 (State.freqGate s c offset) := by
  unfold State.freqGate
  try dsimp only
  repeat' first
    | with_reducible assumption
    | with_reducible rfl
    | with_reducible apply State.setCand_keeps
    | with_reducible apply State.gateOf_keeps
    | dsimp only
    | split

theorem State.showError_keeps {s0 : State} {s : State} (c : Nat)
    (hk : Keeps s0 s) : Keeps s0 (State.showError s c) := by
  unfold State.showError
  try dsimp only
  repeat' first
    | with_reducible assumption
    | with_reducible rfl
    | with_reducible apply State.setFld_keeps
    | dsimp only
    | split

theorem State.runPull_keeps {s0 : State} {s : State}
    (hk : Keeps s0 s) : Keeps s0 (State.runPull s) := by
  unfold State.runPull
  try dsimp only
  repeat' first
    | with_reducible assumption
    | with_reducible rfl
    | with_reducible apply State.setOn_keeps
    | dsimp only
    | split
    | intro _
    | with_reducible apply Keeps.upd

theorem State.buildOut_keeps {s0 : State} {s : State} (c : Nat)
    (hk : Keeps s0 s) : Keeps s0 (State.buildOut s c) := by
  unfold State.buildOut
  try dsimp only
  repeat' first
    | with_reducible assumption
    | with_reducible rfl
    | with_reducible apply State.setCand_keeps
    | dsimp only
    | split

theorem State.stopPull_keeps {s0 : State} {s : State}
    (hk : Keeps s0 s) : Keeps s0 (State.stopPull s) := by
  unfold State.stopPull
  try dsimp only
  repeat' first
    | with_reducible assumption
    | with_reducible rfl
    | with_reducible apply State.setOn_keeps

theorem State.setSelected_keeps {s0 : State} {s : State} (x : Nat)
    (hk : Keeps s0 s) : Keeps s0 (State.setSelected s x) := by
  unfold State.setSelected
  try dsimp only
  repeat' first
    | with_reducible assumption
    | with_reducible rfl
    | with_reducible apply State.setFld_keeps
    | with_reducible apply State.setOn_keeps
    | with_reducible apply State.raise_keeps
    | with_reducible apply State.runPull_keeps
    | with_reducible apply State.buildOut_keeps
    | with_reducible apply State.stopPull_keeps
    | dsimp only
    | split
    | intro _
    | with_reducible apply Keeps.upd

theorem State.setLoop_keeps {s0 : State} {s : State} (st : Nat)
    (hk : Keeps s0 s) : Keeps s0 (State.setLoop s st) := by
  unfold State.setLoop
  try dsimp only
  repeat' first
    | with_reducible assumption
    | with_reducible rfl
    | with_reducible apply State.setFld_keeps
    | with_reducible apply State.raise_keeps
    | with_reducible apply State.raiseIf_keeps
    | dsimp only
    | split
    | intro _
    | with_reducible apply Keeps.upd

theorem State.loopMove_keeps {s0 : State} {s : State} (switched : Bool)
    (hk : Keeps s0 s) : Keeps s0 (State.loopMove s switched) := by
  unfold State.loopMove
  try dsimp only
  repeat' first
    | with_reducible assumption
    | with_reducible rfl
    | with_reducible apply State.setLoop_keeps
    | dsimp only
    | split

theorem State.watchLock_keeps {s0 : State} {s : State}
    (hk : Keeps s0 s) : Keeps s0 (State.watchLock s) := by
  unfold State.watchLock
  try dsimp only
  repeat' first
    | with_reducible assumption
    | with_reducible rfl
    | dsimp only
    | split
    | intro _
    | with_reducible apply Keeps.upd

theorem State.showClass_keeps {s0 : State} {s : State}
    (hk : Keeps s0 s) : Keeps s0 (State.showClass s) := by
  unfold State.showClass
  try dsimp only
  repeat' first
    | with_reducible assumption
    | with_reducible rfl
    | with_reducible apply State.setFld_keeps
    | dsimp only
    | split

theorem State.gatherTo_keeps {s0 : State} {s : State} (x : Tick)
    (hk : Keeps s0 s) : Keeps s0 (State.gatherTo s x) := by
  unfold State.gatherTo
  try dsimp only
  repeat' first
    | with_reducible assumption
    | with_reducible rfl
    | dsimp only
    | split
    | intro _
    | with_reducible apply Keeps.upd

theorem State.putCw_keeps {s0 : State} {s : State}
    (hk : Keeps s0 s) : Keeps s0 (State.putCw s) := by
  unfold State.putCw
  try dsimp only
  repeat' first
    | with_reducible assumption
    | with_reducible rfl
    | with_reducible apply State.setFld_keeps
    | with_reducible apply State.drawn_keeps
    | with_reducible apply State.raiseIf_keeps
    | dsimp only
    | split

theorem State.showCw_keeps {s0 : State} {s : State}
    (hk : Keeps s0 s) : Keeps s0 (State.showCw s) := by
  unfold State.showCw
  try dsimp only
  repeat' first
    | with_reducible assumption
    | with_reducible rfl
    | with_reducible apply State.gatherTo_keeps
    | with_reducible apply State.putCw_keeps

theorem State.gatherSecond_keeps {s0 : State} {s : State}
    (hk : Keeps s0 s) : Keeps s0 (State.gatherSecond s) := by
  unfold State.gatherSecond
  try dsimp only
  repeat' first
    | with_reducible assumption
    | with_reducible rfl
    | dsimp only
    | split
    | intro _
    | with_reducible apply Keeps.upd

theorem State.settle_keeps {s0 : State} {s : State}
    (hk : Keeps s0 s) : Keeps s0 (State.settle s) := by
  unfold State.settle
  try dsimp only
  repeat' first
    | with_reducible assumption
    | with_reducible rfl
    | with_reducible apply State.showOuts_keeps
    | with_reducible apply State.watchLock_keeps
    | with_reducible apply State.showClass_keeps
    | with_reducible apply State.showCw_keeps

theorem State.timingBoundary_keeps {s0 : State} {s : State}
    (hk : Keeps s0 s) : Keeps s0 (State.timingBoundary s) := by
  unfold State.timingBoundary
  try dsimp only
  repeat' first
    | with_reducible assumption
    | with_reducible rfl
    | with_reducible apply State.setFld_keeps
    | with_reducible apply State.setCand_keeps
    | with_reducible apply State.candWatch_keeps
    | with_reducible apply State.showError_keeps
    | with_reducible apply State.buildOut_keeps
    | with_reducible apply State.setSelected_keeps
    | with_reducible apply State.loopMove_keeps
    | with_reducible apply State.gatherSecond_keeps
    | with_reducible apply State.settle_keeps
    | with_reducible apply Keeps.foldl
    | with_reducible apply Keeps.foldl_snd
    | with_reducible apply Keeps.foldl_fst
    | dsimp only
    | split

theorem State.lockReached_keeps {s0 : State} {s : State}
    (hk : Keeps s0 s) : Keeps s0 (State.lockReached s) := by
  unfold State.lockReached
  try dsimp only
  repeat' first
    | with_reducible assumption
    | with_reducible rfl
    | with_reducible apply State.setLoop_keeps
    | with_reducible apply State.settle_keeps
    | dsimp only
    | split
    | intro _
    | with_reducible apply Keeps.upd

theorem State.pullComplete_keeps {s0 : State} {s : State}
    (hk : Keeps s0 s) : Keeps s0 (State.pullComplete s) := by
  unfold State.pullComplete
  try dsimp only
  repeat' first
    | with_reducible assumption
    | with_reducible rfl
    | with_reducible apply State.showOuts_keeps
    | with_reducible apply State.stopPull_keeps
    | dsimp only
    | split

theorem State.holdoverExpiry_keeps {s0 : State} {s : State}
    (hk : Keeps s0 s) : Keeps s0 (State.holdoverExpiry s) := by
  unfold State.holdoverExpiry
  try dsimp only
  repeat' first
    | with_reducible assumption
    | with_reducible rfl
    | with_reducible apply State.showOuts_keeps
    | with_reducible apply State.showClass_keeps
    | dsimp only
    | split

theorem State.watchdogExpiry_keeps {s0 : State} {s : State}
    (hk : Keeps s0 s) : Keeps s0 (State.watchdogExpiry s) := by
  unfold State.watchdogExpiry
  try dsimp only
  repeat' first
    | with_reducible assumption
    | with_reducible rfl
    | with_reducible apply State.setOn_keeps
    | with_reducible apply State.raise_keeps
    | dsimp only
    | split
    | intro _
    | with_reducible apply Keeps.upd

theorem State.writeSoftCw_keeps {s0 : State} {s : State} (cw : Nat)
    (hk : Keeps s0 s) : Keeps s0 (State.writeSoftCw s cw) := by
  unfold State.writeSoftCw
  try dsimp only
  repeat' first
    | with_reducible assumption
    | with_reducible rfl
    | with_reducible apply State.setFld_keeps
    | with_reducible apply State.showCw_keeps
    | dsimp only
    | split
    | intro _
    | with_reducible apply Keeps.upd

theorem State.writeSample_keeps {s0 : State} {s : State}
    (hk : Keeps s0 s) : Keeps s0 (State.writeSample s) := by
  unfold State.writeSample
  try dsimp only
  repeat' first
    | with_reducible assumption
    | with_reducible rfl
    | with_reducible apply State.setFld_keeps
    | with_reducible apply State.raiseIf_keeps
    | dsimp only
    | split
    | intro _
    | with_reducible apply Keeps.upd

theorem State.historySample_keeps {s0 : State} {s : State}
    (hk : Keeps s0 s) : Keeps s0 (State.historySample s) := by
  unfold State.historySample
  try dsimp only
  repeat' first
    | with_reducible assumption
    | with_reducible rfl
    | with_reducible apply State.gatherTo_keeps
    | with_reducible apply State.writeSample_keeps

theorem State.freewheelValue_keeps {s0 : State} {s : State}
    (hk : Keeps s0 s) : Keeps s0 (State.freewheelValue s) := by
  unfold State.freewheelValue
  try dsimp only
  repeat' first
    | with_reducible assumption
    | with_reducible rfl
    | with_reducible apply State.setFld_keeps
    | with_reducible apply State.setOn_keeps
    | dsimp only
    | split

theorem State.historyClear_keeps {s0 : State} {s : State}
    (hk : Keeps s0 s) : Keeps s0 (State.historyClear s) := by
  unfold State.historyClear
  try dsimp only
  repeat' first
    | with_reducible assumption
    | with_reducible rfl
    | with_reducible apply State.setFld_keeps
    | dsimp only
    | split
    | intro _
    | with_reducible apply Keeps.upd

theorem State.secondBoundary_keeps {s0 : State} {s : State}
    (hk : Keeps s0 s) : Keeps s0 (State.secondBoundary s) := by
  unfold State.secondBoundary
  try dsimp only
  repeat' first
    | with_reducible assumption
    | with_reducible rfl
    | with_reducible apply State.latchRecord_keeps
    | with_reducible apply State.pmSecond_keeps
    | with_reducible apply State.historySample_keeps
    | with_reducible apply State.freewheelValue_keeps
    | with_reducible apply Keeps.foldl
    | with_reducible apply Keeps.foldl_snd
    | with_reducible apply Keeps.foldl_fst
    | dsimp only
    | split
    | intro _
    | with_reducible apply Keeps.upd

end Sys2Proof.Machine
end

