-- ==== Sys2Proof/Laws/KeepsProtection.lean ====
section
/-! SUPPORT. What the operations of Machine/Protection.lean keep (Keeps). -/

namespace Sys2Proof.Machine

theorem State.apsInputs_keeps {s0 : State} {s : State} (g : Nat)
    (hk : Keeps s0 s) : Keeps s0 (State.apsInputs s g) := by
  unfold State.apsInputs
  try dsimp only
  repeat' first
    | with_reducible assumption
    | with_reducible rfl
    | with_reducible apply State.setAps_keeps

theorem State.apsSelect_keeps {s0 : State} {s : State} (g : Nat) (v : Bool)
    (hk : Keeps s0 s) : Keeps s0 (State.apsSelect s g v) := by
  unfold State.apsSelect
  try dsimp only
  repeat' first
    | with_reducible assumption
    | with_reducible rfl
    | with_reducible apply State.setOn_keeps
    | with_reducible apply State.bump_keeps
    | with_reducible apply State.raise_keeps
    | dsimp only
    | split

theorem State.apsMove_keeps {s0 : State} {s : State} (g : Nat) (act : Nat × Nat)
    (hk : Keeps s0 s) : Keeps s0 (State.apsMove s g act) := by
  unfold State.apsMove
  try dsimp only
  repeat' first
    | with_reducible assumption
    | with_reducible rfl
    | with_reducible apply State.setOn_keeps
    | with_reducible apply State.apsSelect_keeps
    | dsimp only
    | split

theorem State.apsWatch_keeps {s0 : State} {s : State} (g : Nat) (sent : Nat × Nat)
    (hk : Keeps s0 s) : Keeps s0 (State.apsWatch s g sent) := by
  unfold State.apsWatch
  try dsimp only
  repeat' first
    | with_reducible assumption
    | with_reducible rfl
    | with_reducible apply State.setOn_keeps
    | with_reducible apply State.setAps_keeps
    | with_reducible apply State.raiseIf_keeps
    | dsimp only
    | split

theorem State.apsEval_keeps {s0 : State} {s : State} (g : Nat)
    (hk : Keeps s0 s) : Keeps s0 (State.apsEval s g) := by
  unfold State.apsEval
  try dsimp only
  repeat' first
    | with_reducible assumption
    | with_reducible rfl
    | with_reducible apply State.setFld_keeps
    | with_reducible apply State.setOn_keeps
    | with_reducible apply State.setAps_keeps
    | with_reducible apply State.apsInputs_keeps
    | with_reducible apply State.apsMove_keeps
    | with_reducible apply State.apsWatch_keeps
    | dsimp only
    | split

theorem State.apsStart_keeps {s0 : State} {s : State} (g : Nat)
    (hk : Keeps s0 s) : Keeps s0 (State.apsStart s g) := by
  unfold State.apsStart
  try dsimp only
  repeat' first
    | with_reducible assumption
    | with_reducible rfl
    | with_reducible apply State.setVal_keeps
    | with_reducible apply State.setAps_keeps
    | with_reducible apply State.apsEval_keeps

theorem State.apsLane_keeps {s0 : State} {s : State} (l : Nat)
    (hk : Keeps s0 s) : Keeps s0 (State.apsLane s l) := by
  unfold State.apsLane
  try dsimp only
  repeat' first
    | with_reducible assumption
    | with_reducible rfl
    | with_reducible apply State.apsEval_keeps
    | with_reducible apply Keeps.foldl
    | with_reducible apply Keeps.foldl_snd
    | with_reducible apply Keeps.foldl_fst
    | dsimp only
    | split
    | intro _

theorem State.apsSaw_keeps {s0 : State} {s : State} (l : Nat) (v : Nat)
    (hk : Keeps s0 s) : Keeps s0 (State.apsSaw s l v) := by
  unfold State.apsSaw
  try dsimp only
  repeat' first
    | with_reducible assumption
    | with_reducible rfl
    | with_reducible apply State.setAps_keeps
    | dsimp only
    | split

theorem State.apsBreak_keeps {s0 : State} {s : State} (l : Nat)
    (hk : Keeps s0 s) : Keeps s0 (State.apsBreak s l) := by
  unfold State.apsBreak
  try dsimp only
  repeat' first
    | with_reducible assumption
    | with_reducible rfl
    | with_reducible apply State.setAps_keeps
    | dsimp only
    | split

theorem State.apsAccept_keeps {s0 : State} {s : State} (g : Nat)
    (hk : Keeps s0 s) : Keeps s0 (State.apsAccept s g) := by
  unfold State.apsAccept
  try dsimp only
  repeat' first
    | with_reducible assumption
    | with_reducible rfl
    | with_reducible apply State.setFld_keeps
    | with_reducible apply State.setAps_keeps
    | with_reducible apply State.raiseIf_keeps
    | with_reducible apply State.apsEval_keeps
    | dsimp only
    | split

theorem State.apsHoldOff_keeps {s0 : State} {s : State} (g : Nat) (prot : Bool) (degrade : Bool)
    (hk : Keeps s0 s) : Keeps s0 (State.apsHoldOff s g prot degrade) := by
  unfold State.apsHoldOff
  try dsimp only
  repeat' first
    | with_reducible assumption
    | with_reducible rfl
    | with_reducible apply State.apsEval_keeps
    | dsimp only
    | split

theorem State.apsWtr_keeps {s0 : State} {s : State} (g : Nat)
    (hk : Keeps s0 s) : Keeps s0 (State.apsWtr s g) := by
  unfold State.apsWtr
  try dsimp only
  repeat' first
    | with_reducible assumption
    | with_reducible rfl
    | with_reducible apply State.setAps_keeps
    | with_reducible apply State.apsEval_keeps
    | dsimp only
    | split

theorem State.apsDefect_keeps {s0 : State} {s : State} (g : Nat) (f : Fld) (st : Fld) (off : Option Tick) (ok : Option Tick)
    (hk : Keeps s0 s) : Keeps s0 (State.apsDefect s g f st off ok) := by
  unfold State.apsDefect
  try dsimp only
  repeat' first
    | with_reducible assumption
    | with_reducible rfl
    | with_reducible apply State.setOn_keeps
    | with_reducible apply State.raiseIf_keeps
    | dsimp only
    | split

theorem State.fopChange_keeps {s0 : State} {s : State} (g : Nat) (arch : Bool)
    (hk : Keeps s0 s) : Keeps s0 (State.fopChange s g arch) := by
  unfold State.fopChange
  try dsimp only
  repeat' first
    | with_reducible assumption
    | with_reducible rfl
    | with_reducible apply State.apsEval_keeps
    | with_reducible apply State.apsDefect_keeps
    | dsimp only
    | split

theorem State.apsFix_keeps {s0 : State} {s : State} (L : Nat)
    (hk : Keeps s0 s) : Keeps s0 (State.apsFix s L) := by
  unfold State.apsFix
  try dsimp only
  repeat' first
    | with_reducible assumption
    | with_reducible rfl
    | with_reducible apply State.putLanding_keeps
    | with_reducible apply Keeps.foldl
    | with_reducible apply Keeps.foldl_snd
    | with_reducible apply Keeps.foldl_fst
    | dsimp only
    | split
    | intro _

theorem State.ctlSelect_keeps {s0 : State} {s : State} (g : Nat) (st : Nat)
    (hk : Keeps s0 s) : Keeps s0 (State.ctlSelect s g st) := by
  unfold State.ctlSelect
  try dsimp only
  repeat' first
    | with_reducible assumption
    | with_reducible rfl
    | with_reducible apply State.setSelOn_keeps
    | with_reducible apply Keeps.foldl
    | with_reducible apply Keeps.foldl_snd
    | with_reducible apply Keeps.foldl_fst
    | dsimp only
    | split
    | intro _
    | with_reducible apply Keeps.upd

theorem State.pathCommand_keeps {s0 : State} {s : State} (g : Nat) (cmd : Nat)
    (hk : Keeps s0 s) : Keeps s0 (State.pathCommand s g cmd) := by
  unfold State.pathCommand
  try dsimp only
  repeat' first
    | with_reducible assumption
    | with_reducible rfl
    | with_reducible apply State.setFld_keeps
    | with_reducible apply State.ctlSelect_keeps
    | dsimp only
    | split

theorem State.pathWatch_keeps {s0 : State} {s : State} (g : Nat)
    (hk : Keeps s0 s) : Keeps s0 (State.pathWatch s g) := by
  unfold State.pathWatch
  try dsimp only
  repeat' first
    | with_reducible assumption
    | with_reducible rfl
    | with_reducible apply State.setOn_keeps
    | with_reducible apply State.setPprot_keeps

theorem State.pathWatchAll_keeps {s0 : State} {s : State}
    (hk : Keeps s0 s) : Keeps s0 (State.pathWatchAll s) := by
  unfold State.pathWatchAll
  try dsimp only
  repeat' first
    | with_reducible assumption
    | with_reducible rfl
    | with_reducible apply State.pathWatch_keeps
    | with_reducible apply Keeps.foldl

theorem State.pathCancel_keeps {s0 : State} {s : State} (g : Nat)
    (hk : Keeps s0 s) : Keeps s0 (State.pathCancel s g) := by
  unfold State.pathCancel
  try dsimp only
  repeat' first
    | with_reducible assumption
    | with_reducible rfl
    | with_reducible apply State.setVal_keeps
    | with_reducible apply State.setPprot_keeps

theorem State.pathHoldOff_keeps {s0 : State} {s : State} (l : Nat) (k : Nat)
    (hk : Keeps s0 s) : Keeps s0 (State.pathHoldOff s l k) := by
  unfold State.pathHoldOff
  try dsimp only
  repeat' first
    | with_reducible assumption
    | with_reducible rfl
    | with_reducible apply State.ctlSelect_keeps
    | with_reducible apply State.pathWatch_keeps
    | dsimp only
    | split

theorem State.pathWtr_keeps {s0 : State} {s : State} (l : Nat) (k : Nat)
    (hk : Keeps s0 s) : Keeps s0 (State.pathWtr s l k) := by
  unfold State.pathWtr
  try dsimp only
  repeat' first
    | with_reducible assumption
    | with_reducible rfl
    | with_reducible apply State.ctlSelect_keeps
    | with_reducible apply State.pathWatch_keeps
    | dsimp only
    | split

theorem State.rdiAgain_keeps {s0 : State} {s : State} (l : Nat)
    (hk : Keeps s0 s) : Keeps s0 (State.rdiAgain s l) := by
  unfold State.rdiAgain
  try dsimp only
  repeat' first
    | with_reducible assumption
    | with_reducible rfl
    | with_reducible apply State.onLine_keeps
    | dsimp only
    | split

theorem State.laneHook_keeps {s0 : State} {s : State} (l : Nat)
    (hk : Keeps s0 s) : Keeps s0 (State.laneHook s l) := by
  unfold State.laneHook
  try dsimp only
  repeat' first
    | with_reducible assumption
    | with_reducible rfl
    | with_reducible apply State.chanStop_keeps
    | with_reducible apply State.pmScan_keeps
    | with_reducible apply State.candWatch_keeps
    | with_reducible apply State.apsLane_keeps
    | with_reducible apply State.pathWatchAll_keeps
    | with_reducible apply State.rdiAgain_keeps
    | with_reducible apply Keeps.foldl
    | with_reducible apply Keeps.foldl_snd
    | with_reducible apply Keeps.foldl_fst
    | dsimp only
    | split
    | intro _

end Sys2Proof.Machine
end

