-- ==== Sys2Proof/Laws/KeepsLaneEvents.lean ====
section
/-! SUPPORT. What the operations of Machine/LaneEvents.lean keep (Keeps). -/

namespace Sys2Proof.Machine

theorem State.candHook_keeps {s0 : State} {s : State} (c : Nat)
    (hk : Keeps s0 s) : Keeps s0 (State.candHook s c) := by
  unfold State.candHook
  try dsimp only
  repeat' first
    | with_reducible assumption
    | with_reducible rfl
    | with_reducible apply State.laneHook_keeps
    | dsimp only
    | split

end Sys2Proof.Machine
end

