-- ==== Sys2Proof/Laws/KeepsFrameRx.lean ====
section
/-! SUPPORT. What the operations of Machine/FrameRx.lean keep (Keeps). -/

namespace Sys2Proof.Machine

theorem State.fieldBreak_keeps {s0 : State} {s : State} (l : Nat)
    (hk : Keeps s0 s) : Keeps s0 (State.fieldBreak s l) := by
  unfold State.fieldBreak
  try dsimp only
  repeat' first
    | with_reducible assumption
    | with_reducible rfl
    | with_reducible apply State.modLane_keeps

theorem State.fecCount_keeps {s0 : State} {s : State} (l : Nat) (rx : TtfSeen)
    (hk : Keeps s0 s) : Keeps s0 (State.fecCount s l rx) := by
  unfold State.fecCount
  try dsimp only
  repeat' first
    | with_reducible assumption
    | with_reducible rfl
    | with_reducible apply State.bumpLive_keeps
    | with_reducible apply Keeps.foldl
    | with_reducible apply Keeps.foldl_snd
    | with_reducible apply Keeps.foldl_fst
    | dsimp only
    | split
    | intro _

theorem State.sfCount_keeps {s0 : State} {s : State} (l : Nat) (sf : Nat) (sd : Nat)
    (hk : Keeps s0 s) : Keeps s0 (State.sfCount s l sf sd) := by
  unfold State.sfCount
  try dsimp only
  repeat' first
    | with_reducible assumption
    | with_reducible rfl
    | with_reducible apply State.modLane_keeps
    | dsimp only
    | split

theorem State.gatherRep_keeps {s0 : State} {s : State} (l : Nat) (rx : TtfSeen)
    (hk : Keeps s0 s) : Keeps s0 (State.gatherRep s l rx) := by
  unfold State.gatherRep
  try dsimp only
  repeat' first
    | with_reducible assumption
    | with_reducible rfl
    | with_reducible apply State.modLane_keeps

theorem State.showTtf_keeps {s0 : State} {s : State} (l : Nat) (rx : TtfSeen)
    (hk : Keeps s0 s) : Keeps s0 (State.showTtf s l rx) := by
  unfold State.showTtf
  try dsimp only
  repeat' first
    | with_reducible assumption
    | with_reducible rfl
    | with_reducible apply State.setFld_keeps
    | with_reducible apply State.setOn_keeps
    | with_reducible apply State.raiseIf_keeps
    | dsimp only
    | split

theorem State.ttfDefectRuns_keeps {s0 : State} {s : State} (l : Nat) (rx : TtfSeen)
    (hk : Keeps s0 s) : Keeps s0 (State.ttfDefectRuns s l rx) := by
  unfold State.ttfDefectRuns
  try dsimp only
  repeat' first
    | with_reducible assumption
    | with_reducible rfl
    | with_reducible apply State.sawRun_keeps
    | dsimp only
    | split

theorem State.slotRdiRuns_keeps {s0 : State} {s : State} (l : Nat) (rx : TtfSeen)
    (hk : Keeps s0 s) : Keeps s0 (State.slotRdiRuns s l rx) := by
  unfold State.slotRdiRuns
  try dsimp only
  repeat' first
    | with_reducible assumption
    | with_reducible rfl
    | with_reducible apply State.sawRun_keeps
    | with_reducible apply Keeps.foldl
    | with_reducible apply Keeps.foldl_snd
    | with_reducible apply Keeps.foldl_fst
    | dsimp only
    | split
    | intro _

theorem State.fieldRuns_keeps {s0 : State} {s : State} (l : Nat) (rx : TtfSeen)
    (hk : Keeps s0 s) : Keeps s0 (State.fieldRuns s l rx) := by
  unfold State.fieldRuns
  try dsimp only
  repeat' first
    | with_reducible assumption
    | with_reducible rfl
    | with_reducible apply State.sawRun_keeps
    | dsimp only
    | split

theorem State.ttfAps_keeps {s0 : State} {s : State} (l : Nat) (rx : TtfSeen)
    (hk : Keeps s0 s) : Keeps s0 (State.ttfAps s l rx) := by
  unfold State.ttfAps
  try dsimp only
  repeat' first
    | with_reducible assumption
    | with_reducible rfl
    | with_reducible apply State.apsSaw_keeps
    | with_reducible apply State.apsBreak_keeps
    | dsimp only
    | split

theorem State.markWindow_keeps {s0 : State} {s : State} (l : Nat) (arrival : Tick)
    (hk : Keeps s0 s) : Keeps s0 (State.markWindow s l arrival) := by
  unfold State.markWindow
  try dsimp only
  repeat' first
    | with_reducible assumption
    | with_reducible rfl
    | with_reducible apply State.modLane_keeps

theorem State.echoAgain_keeps {s0 : State} {s : State} (l : Nat) (arrival : Tick)
    (hk : Keeps s0 s) : Keeps s0 (State.echoAgain s l arrival) := by
  unfold State.echoAgain
  try dsimp only
  repeat' first
    | with_reducible assumption
    | with_reducible rfl
    | with_reducible apply State.overlayAgain_keeps
    | with_reducible apply State.onLine_keeps
    | dsimp only
    | split

theorem State.ttfLedger_keeps {s0 : State} {s : State} (l : Nat) (rx : TtfSeen)
    (hk : Keeps s0 s) : Keeps s0 (State.ttfLedger s l rx) := by
  unfold State.ttfLedger
  try dsimp only
  repeat' first
    | with_reducible assumption
    | with_reducible rfl
    | with_reducible apply State.setVal_keeps
    | with_reducible apply State.modLane_keeps
    | with_reducible apply State.ledgerFrame_keeps
    | with_reducible apply State.markWindow_keeps
    | with_reducible apply State.echoAgain_keeps
    | dsimp only
    | split

theorem State.ttfPm_keeps {s0 : State} {s : State} (l : Nat) (rx : TtfSeen)
    (hk : Keeps s0 s) : Keeps s0 (State.ttfPm s l rx) := by
  unfold State.ttfPm
  try dsimp only
  repeat' first
    | with_reducible assumption
    | with_reducible rfl
    | with_reducible apply State.pmAt_keeps
    | with_reducible apply State.pmBlock_keeps

theorem State.ttfInFrame_keeps {s0 : State} {s : State} (l : Nat) (rx : TtfSeen)
    (hk : Keeps s0 s) : Keeps s0 (State.ttfInFrame s l rx) := by
  unfold State.ttfInFrame
  try dsimp only
  repeat' first
    | with_reducible assumption
    | with_reducible rfl
    | with_reducible apply State.chanReceive_keeps
    | with_reducible apply State.chanStop_keeps
    | with_reducible apply State.placeTtf_keeps
    | with_reducible apply State.fecCount_keeps
    | with_reducible apply State.sfCount_keeps
    | with_reducible apply State.gatherRep_keeps
    | with_reducible apply State.showTtf_keeps
    | with_reducible apply State.ttfDefectRuns_keeps
    | with_reducible apply State.slotRdiRuns_keeps
    | with_reducible apply State.fieldRuns_keeps
    | with_reducible apply State.ttfAps_keeps
    | with_reducible apply State.ttfLedger_keeps
    | with_reducible apply State.ttfPm_keeps
    | dsimp only
    | split

theorem State.ttfOut_keeps {s0 : State} {s : State} (l : Nat) (rx : TtfSeen)
    (hk : Keeps s0 s) : Keeps s0 (State.ttfOut s l rx) := by
  unfold State.ttfOut
  try dsimp only
  repeat' first
    | with_reducible assumption
    | with_reducible rfl
    | with_reducible apply State.chanStop_keeps
    | with_reducible apply State.ledgerFrame_keeps
    | with_reducible apply State.apsBreak_keeps
    | with_reducible apply State.fieldBreak_keeps

theorem State.sawFraming_keeps {s0 : State} {s : State} (l : Nat) (ok : Bool) (pos : Nat) (arrival : Tick)
    (hk : Keeps s0 s) : Keeps s0 (State.sawFraming s l ok pos arrival) := by
  unfold State.sawFraming
  try dsimp only
  repeat' first
    | with_reducible assumption
    | with_reducible rfl
    | with_reducible apply State.frameWord_keeps
    | with_reducible apply State.candWatchAt_keeps
    | dsimp only
    | split

theorem State.ttfTake_keeps {s0 : State} {s : State} (l : Nat) (rx : TtfSeen)
    (hk : Keeps s0 s) : Keeps s0 (State.ttfTake s l rx) := by
  unfold State.ttfTake
  try dsimp only
  repeat' first
    | with_reducible assumption
    | with_reducible rfl
    | with_reducible apply State.modLane_keeps
    | with_reducible apply State.laneHook_keeps
    | with_reducible apply State.ttfInFrame_keeps
    | with_reducible apply State.ttfOut_keeps
    | with_reducible apply State.sawFraming_keeps
    | dsimp only
    | split

theorem State.ttfReceive_keeps {s0 : State} {s : State} (l : Nat) (rx : TtfRx)
    (hk : Keeps s0 s) : Keeps s0 (State.ttfReceive s l rx) := by
  unfold State.ttfReceive
  try dsimp only
  repeat' first
    | with_reducible assumption
    | with_reducible rfl
    | with_reducible apply State.laneHook_keeps
    | with_reducible apply State.sawFraming_keeps
    | with_reducible apply State.ttfTake_keeps
    | dsimp only
    | split

theorem State.sdhParity_keeps {s0 : State} {s : State} (l : Nat) (rx : SdhSeen)
    (hk : Keeps s0 s) : Keeps s0 (State.sdhParity s l rx) := by
  unfold State.sdhParity
  try dsimp only
  repeat' first
    | with_reducible assumption
    | with_reducible rfl
    | with_reducible apply State.bumpLive_keeps
    | with_reducible apply State.modLane_keeps
    | with_reducible apply State.pmBlock_keeps
    | with_reducible apply State.sfCount_keeps

theorem State.sdhOverhead_keeps {s0 : State} {s : State} (l : Nat) (rx : SdhSeen)
    (hk : Keeps s0 s) : Keeps s0 (State.sdhOverhead s l rx) := by
  unfold State.sdhOverhead
  try dsimp only
  repeat' first
    | with_reducible assumption
    | with_reducible rfl
    | with_reducible apply State.setFld_keeps
    | with_reducible apply State.modLane_keeps
    | with_reducible apply State.sawRun_keeps
    | with_reducible apply State.apsSaw_keeps
    | with_reducible apply State.apsBreak_keeps
    | dsimp only
    | split

theorem State.sdhChannels_keeps {s0 : State} {s : State} (l : Nat) (rx : SdhSeen)
    (hk : Keeps s0 s) : Keeps s0 (State.sdhChannels s l rx) := by
  unfold State.sdhChannels
  try dsimp only
  repeat' first
    | with_reducible assumption
    | with_reducible rfl
    | with_reducible apply State.chanReceive_keeps
    | with_reducible apply State.chanStop_keeps
    | with_reducible apply Keeps.foldl
    | with_reducible apply Keeps.foldl_snd
    | with_reducible apply Keeps.foldl_fst
    | dsimp only
    | split
    | intro _

theorem State.sdhOverlay_keeps {s0 : State} {s : State} (l : Nat) (rx : SdhSeen)
    (hk : Keeps s0 s) : Keeps s0 (State.sdhOverlay s l rx) := by
  unfold State.sdhOverlay
  try dsimp only
  repeat' first
    | with_reducible assumption
    | with_reducible rfl
    | with_reducible apply State.setVal_keeps
    | with_reducible apply State.modLane_keeps
    | with_reducible apply State.reseedLane_keeps
    | with_reducible apply State.overlayWord_keeps
    | with_reducible apply State.echoAgain_keeps
    | dsimp only
    | split

theorem State.sdhPaths_keeps {s0 : State} {s : State} (l : Nat) (rx : SdhSeen)
    (hk : Keeps s0 s) : Keeps s0 (State.sdhPaths s l rx) := by
  unfold State.sdhPaths
  try dsimp only
  repeat' first
    | with_reducible assumption
    | with_reducible rfl
    | with_reducible apply State.modLane_keeps
    | with_reducible apply State.receivePaths_keeps
    | dsimp only
    | split

theorem State.sdhInFrame_keeps {s0 : State} {s : State} (l : Nat) (rx : SdhSeen)
    (hk : Keeps s0 s) : Keeps s0 (State.sdhInFrame s l rx) := by
  unfold State.sdhInFrame
  try dsimp only
  repeat' first
    | with_reducible assumption
    | with_reducible rfl
    | with_reducible apply State.sdhParity_keeps
    | with_reducible apply State.sdhOverhead_keeps
    | with_reducible apply State.sdhChannels_keeps
    | with_reducible apply State.sdhOverlay_keeps
    | with_reducible apply State.sdhPaths_keeps

theorem State.sdhOut_keeps {s0 : State} {s : State} (l : Nat)
    (hk : Keeps s0 s) : Keeps s0 (State.sdhOut s l) := by
  unfold State.sdhOut
  try dsimp only
  repeat' first
    | with_reducible assumption
    | with_reducible rfl
    | with_reducible apply State.modLane_keeps
    | with_reducible apply State.chanStop_keeps
    | with_reducible apply State.excludeSample_keeps
    | with_reducible apply State.apsBreak_keeps
    | with_reducible apply Keeps.foldl
    | with_reducible apply Keeps.foldl_snd
    | with_reducible apply Keeps.foldl_fst
    | dsimp only
    | split
    | intro _

theorem State.sdhTake_keeps {s0 : State} {s : State} (l : Nat) (rx : SdhSeen)
    (hk : Keeps s0 s) : Keeps s0 (State.sdhTake s l rx) := by
  unfold State.sdhTake
  try dsimp only
  repeat' first
    | with_reducible assumption
    | with_reducible rfl
    | with_reducible apply State.modLane_keeps
    | with_reducible apply State.laneHook_keeps
    | with_reducible apply State.sawFraming_keeps
    | with_reducible apply State.sdhInFrame_keeps
    | with_reducible apply State.sdhOut_keeps
    | dsimp only
    | split

theorem State.sdhReceive_keeps {s0 : State} {s : State} (l : Nat) (rx : SdhRx)
    (hk : Keeps s0 s) : Keeps s0 (State.sdhReceive s l rx) := by
  unfold State.sdhReceive
  try dsimp only
  repeat' first
    | with_reducible assumption
    | with_reducible rfl
    | with_reducible apply State.laneHook_keeps
    | with_reducible apply State.sawFraming_keeps
    | with_reducible apply State.sdhTake_keeps
    | dsimp only
    | split

theorem State.loopTaken_keeps {s0 : State} {s : State} (l : Nat)
    (hk : Keeps s0 s) : Keeps s0 (State.loopTaken s l) := by
  unfold State.loopTaken
  try dsimp only
  repeat' first
    | with_reducible assumption
    | with_reducible rfl
    | with_reducible apply State.modLane_keeps
    | dsimp only
    | split

theorem State.blockTake_keeps {s0 : State} {s : State} (l : Nat) (x : BitVec 2 × BitVec 64)
    (hk : Keeps s0 s) : Keeps s0 (State.blockTake s l x) := by
  unfold State.blockTake
  try dsimp only
  repeat' first
    | with_reducible assumption
    | with_reducible rfl
    | with_reducible apply State.modLane_keeps
    | with_reducible apply State.syncHeader_keeps
    | with_reducible apply State.mapBlock_keeps
    | with_reducible apply State.laneHook_keeps
    | dsimp only
    | split

theorem State.blockReceive_keeps {s0 : State} {s : State} (l : Nat) (sync : BitVec 2) (payload : BitVec 64)
    (hk : Keeps s0 s) : Keeps s0 (State.blockReceive s l sync payload) := by
  unfold State.blockReceive
  try dsimp only
  repeat' first
    | with_reducible assumption
    | with_reducible rfl
    | with_reducible apply State.loopTaken_keeps
    | with_reducible apply State.blockTake_keeps
    | dsimp only
    | split

theorem State.laneReady_keeps {s0 : State} {s : State} (L : Nat) (l : Nat)
    (hk : Keeps s0 s) : Keeps s0 (State.laneReady s L l) := by
  unfold State.laneReady
  try dsimp only
  repeat' first
    | with_reducible assumption
    | with_reducible rfl
    | with_reducible apply State.modLane_keeps
    | with_reducible apply State.readyTtf_keeps
    | with_reducible apply State.readySdh_keeps
    | with_reducible apply State.readyClient_keeps
    | dsimp only
    | split

theorem State.landingReady_keeps {s0 : State} {s : State} (L : Nat)
    (hk : Keeps s0 s) : Keeps s0 (State.landingReady s L) := by
  unfold State.landingReady
  try dsimp only
  repeat' first
    | with_reducible assumption
    | with_reducible rfl
    | with_reducible apply State.apsFix_keeps
    | with_reducible apply State.pathWatchAll_keeps
    | with_reducible apply State.laneReady_keeps
    | with_reducible apply Keeps.foldl
    | with_reducible apply Keeps.foldl_snd
    | with_reducible apply Keeps.foldl_fst
    | dsimp only
    | split
    | intro _

end Sys2Proof.Machine
end

