-- ==== Sys2Proof/Laws/KeepsRelease.lean ====
section
/-! SUPPORT. What the operations of Machine/Release.lean keep (Keeps). -/

namespace Sys2Proof.Machine

theorem State.autoSwitch_keeps {s0 : State} {s : State} (fn : Nat) (h : Nat) (prot : Bool)
    (hk : Keeps s0 s) : Keeps s0 (State.autoSwitch s fn h prot) := by
  unfold State.autoSwitch
  try dsimp only
  repeat' first
    | with_reducible assumption
    | with_reducible rfl
    | with_reducible apply State.bump_keeps
    | with_reducible apply State.setSelOn_keeps
    | with_reducible apply State.raise_keeps
    | with_reducible apply Keeps.foldl
    | with_reducible apply Keeps.foldl_snd
    | with_reducible apply Keeps.foldl_fst
    | dsimp only
    | split
    | intro _

theorem State.pickSource_keeps {s0 : State} {s : State} (fn : Nat) (L : Nat) (g : Nat)
    (hk : Keeps s0 s) : Keeps s0 (State.pickSource s fn L g).2 := by
  unfold State.pickSource
  try dsimp only
  repeat' first
    | with_reducible assumption
    | with_reducible rfl
    | with_reducible apply State.modLane_keeps
    | with_reducible apply State.autoSwitch_keeps
    | dsimp only
    | split

theorem State.markRead_keeps {s0 : State} {s : State} (e : Entry) (g : Nat) (L : Nat)
    (hk : Keeps s0 s) : Keeps s0 (State.markRead s e g L) := by
  unfold State.markRead
  try dsimp only
  repeat' first
    | with_reducible assumption
    | with_reducible rfl
    | with_reducible apply State.putLanding_keeps
    | dsimp only
    | split

theorem State.noteSlack_keeps {s0 : State} {s : State} (o : Nat) (v : Int)
    (hk : Keeps s0 s) : Keeps s0 (State.noteSlack s o v) := by
  unfold State.noteSlack
  try dsimp only
  repeat' first
    | with_reducible assumption
    | with_reducible rfl
    | with_reducible apply State.setFld_keeps

theorem State.showWorst_keeps {s0 : State} {s : State} (fn : Nat)
    (hk : Keeps s0 s) : Keeps s0 (State.showWorst s fn) := by
  unfold State.showWorst
  try dsimp only
  repeat' first
    | with_reducible assumption
    | with_reducible rfl
    | with_reducible apply State.setFld_keeps
    | dsimp only
    | split

theorem State.worstSlack_keeps {s0 : State} {s : State} (fn : Nat)
    (hk : Keeps s0 s) : Keeps s0 (State.worstSlack s fn) := by
  unfold State.worstSlack
  try dsimp only
  repeat' first
    | with_reducible assumption
    | with_reducible rfl
    | with_reducible apply State.showWorst_keeps
    | dsimp only
    | split
    | intro _
    | with_reducible apply Keeps.upd

theorem State.slackKnown_keeps {s0 : State} {s : State} (o : Nat) (f : LateFrame)
    (hk : Keeps s0 s) : Keeps s0 (State.slackKnown s o f) := by
  unfold State.slackKnown
  try dsimp only
  repeat' first
    | with_reducible assumption
    | with_reducible rfl
    | with_reducible apply State.modLane_keeps
    | with_reducible apply State.noteSlack_keeps
    | with_reducible apply State.showWorst_keeps
    | dsimp only
    | split
    | intro _
    | with_reducible apply Keeps.upd

theorem State.lateSlot_keeps {s0 : State} {s : State} (o : Nat) (f : LateFrame) (k : Nat)
    (hk : Keeps s0 s) : Keeps s0 (State.lateSlot s o f k) := by
  unfold State.lateSlot
  try dsimp only
  repeat' first
    | with_reducible assumption
    | with_reducible rfl
    | with_reducible apply State.modLane_keeps
    | with_reducible apply State.slackKnown_keeps
    | dsimp only
    | split

theorem State.slotDone_keeps {s0 : State} {s : State} (o : Nat) (fn : Nat) (k : Nat)
    (hk : Keeps s0 s) : Keeps s0 (State.slotDone s o fn k) := by
  unfold State.slotDone
  try dsimp only
  repeat' first
    | with_reducible assumption
    | with_reducible rfl
    | with_reducible apply State.modLane_keeps
    | with_reducible apply State.pickSource_keeps
    | with_reducible apply State.markRead_keeps
    | with_reducible apply State.lateSlot_keeps
    | dsimp only
    | split

theorem State.unpick_keeps {s0 : State} {s : State} (h : Nat) (fn : Nat)
    (hk : Keeps s0 s) : Keeps s0 (State.unpick s h fn) := by
  unfold State.unpick
  try dsimp only
  repeat' first
    | with_reducible assumption
    | with_reducible rfl
    | with_reducible apply State.modLane_keeps
    | dsimp only
    | split

theorem State.refill_keeps {s0 : State} {s : State} (o : Nat) (y : StoreCell)
    (hk : Keeps s0 s) : Keeps s0 (State.refill s o y) := by
  unfold State.refill
  try dsimp only
  repeat' first
    | with_reducible assumption
    | with_reducible rfl
    | with_reducible apply State.modLane_keeps
    | with_reducible apply State.pickSource_keeps
    | dsimp only
    | split

theorem State.failStores_keeps {s0 : State} {s : State} (l : Nat)
    (hk : Keeps s0 s) : Keeps s0 (State.failStores s l) := by
  unfold State.failStores
  try dsimp only
  repeat' first
    | with_reducible assumption
    | with_reducible rfl
    | with_reducible apply State.modLane_keeps
    | with_reducible apply State.unpick_keeps
    | with_reducible apply State.refill_keeps
    | with_reducible apply Keeps.foldl
    | with_reducible apply Keeps.foldl_snd
    | with_reducible apply Keeps.foldl_fst
    | dsimp only
    | split
    | intro _

theorem State.refillSlots_keeps {s0 : State} {s : State} (gs : List Nat)
    (hk : Keeps s0 s) : Keeps s0 (State.refillSlots s gs) := by
  unfold State.refillSlots
  try dsimp only
  repeat' first
    | with_reducible assumption
    | with_reducible rfl
    | with_reducible apply State.refill_keeps
    | with_reducible apply Keeps.foldl
    | with_reducible apply Keeps.foldl_snd
    | with_reducible apply Keeps.foldl_fst
    | dsimp only
    | split
    | intro _

theorem State.testCell_keeps {s0 : State} {s : State} (o : Nat) (k : Nat) (code : Nat) (fn : Nat)
    (hk : Keeps s0 s) : Keeps s0 (State.testCell s o k code fn).2 := by
  unfold State.testCell
  try dsimp only
  repeat' first
    | with_reducible assumption
    | with_reducible rfl
    | with_reducible apply State.modLane_keeps
    | dsimp only
    | split

theorem State.egressCell_keeps {s0 : State} {s : State} (o : Nat) (fn : Nat) (k : Nat) (x : Tick)
    (hk : Keeps s0 s) : Keeps s0 (State.egressCell s o fn k x).2 := by
  unfold State.egressCell
  try dsimp only
  repeat' first
    | with_reducible assumption
    | with_reducible rfl
    | with_reducible apply State.testCell_keeps
    | dsimp only
    | split

theorem State.egressCells_keeps {s0 : State} {s : State} (o : Nat) (fn : Nat) (x : Tick)
    (hk : Keeps s0 s) : Keeps s0 (State.egressCells s o fn x).2 := by
  unfold State.egressCells
  try dsimp only
  repeat' first
    | with_reducible assumption
    | with_reducible rfl
    | with_reducible apply State.egressCell_keeps
    | with_reducible apply Keeps.foldl
    | with_reducible apply Keeps.foldl_snd
    | with_reducible apply Keeps.foldl_fst
    | dsimp only
    | split
    | intro _

theorem State.buildTtf_keeps {s0 : State} {s : State} (l : Nat) (fn : Nat) (x : Tick)
    (hk : Keeps s0 s) : Keeps s0 (State.buildTtf s l fn x).2 := by
  unfold State.buildTtf
  try dsimp only
  repeat' first
    | with_reducible assumption
    | with_reducible rfl
    | with_reducible apply State.modLane_keeps
    | with_reducible apply State.chanSend_keeps
    | with_reducible apply State.egressCells_keeps

theorem State.justifyPath_keeps {s0 : State} {s : State} (l : Nat) (fn : Nat) (k : Nat) (ais : Bool)
    (hk : Keeps s0 s) : Keeps s0 (State.justifyPath s l fn k ais).2 := by
  unfold State.justifyPath
  try dsimp only
  repeat' first
    | with_reducible assumption
    | with_reducible rfl
    | with_reducible apply State.modLane_keeps
    | with_reducible apply State.countPj_keeps
    | dsimp only
    | split

theorem State.slotLine_keeps {s0 : State} {s : State} (l : Nat) (k : Nat) (v : Nat) (mv : Int) (c : Cell)
    (hk : Keeps s0 s) : Keeps s0 (State.slotLine s l k v mv c).2 := by
  unfold State.slotLine
  try dsimp only
  repeat' first
    | with_reducible assumption
    | with_reducible rfl
    | with_reducible apply State.modLane_keeps

theorem State.sdhPath_keeps {s0 : State} {s : State} (l : Nat) (fn : Nat) (k : Nat) (cells : List (Nat × Cell))
    (hk : Keeps s0 s) : Keeps s0 (State.sdhPath s l fn k cells).2 := by
  unfold State.sdhPath
  try dsimp only
  repeat' first
    | with_reducible assumption
    | with_reducible rfl
    | with_reducible apply State.modLane_keeps
    | with_reducible apply State.justifyPath_keeps
    | with_reducible apply State.slotLine_keeps
    | with_reducible apply Keeps.foldl
    | with_reducible apply Keeps.foldl_snd
    | with_reducible apply Keeps.foldl_fst
    | dsimp only
    | split
    | intro _

theorem State.buildSdh_keeps {s0 : State} {s : State} (l : Nat) (fn : Nat) (x : Tick)
    (hk : Keeps s0 s) : Keeps s0 (State.buildSdh s l fn x).2 := by
  unfold State.buildSdh
  try dsimp only
  repeat' first
    | with_reducible assumption
    | with_reducible rfl
    | with_reducible apply State.modLane_keeps
    | with_reducible apply State.chanSend_keeps
    | with_reducible apply State.overlayOut_keeps
    | with_reducible apply State.egressCells_keeps
    | with_reducible apply State.sdhPath_keeps
    | with_reducible apply Keeps.foldl
    | with_reducible apply Keeps.foldl_snd
    | with_reducible apply Keeps.foldl_fst
    | dsimp only
    | split
    | intro _

theorem State.buildOwn_keeps {s0 : State} {s : State} (l : Nat) (fn : Nat) (x : Tick)
    (hk : Keeps s0 s) : Keeps s0 (State.buildOwn s l fn x).2 := by
  unfold State.buildOwn
  try dsimp only
  repeat' first
    | with_reducible assumption
    | with_reducible rfl
    | with_reducible apply State.demap_keeps
    | with_reducible apply State.egressCells_keeps
    | with_reducible apply State.buildTtf_keeps
    | with_reducible apply State.buildSdh_keeps
    | dsimp only
    | split

theorem State.mirrored_keeps {s0 : State} {s : State} (l : Nat) (fn : Nat) (x : Tick) (f : TxFrame)
    (hk : Keeps s0 s) : Keeps s0 (State.mirrored s l fn x f).2 := by
  unfold State.mirrored
  try dsimp only
  repeat' first
    | with_reducible assumption
    | with_reducible rfl
    | with_reducible apply State.overlayOut_keeps
    | dsimp only
    | split

theorem State.buildFrame_keeps {s0 : State} {s : State} (l : Nat) (fn : Nat) (x : Tick)
    (hk : Keeps s0 s) : Keeps s0 (State.buildFrame s l fn x).2 := by
  unfold State.buildFrame
  try dsimp only
  repeat' first
    | with_reducible assumption
    | with_reducible rfl
    | with_reducible apply State.buildOwn_keeps
    | with_reducible apply State.mirrored_keeps
    | dsimp only
    | split

theorem State.rephase_keeps {s0 : State} {s : State} (l : Nat) (x : Tick)
    (hk : Keeps s0 s) : Keeps s0 (State.rephase s l x).2 := by
  unfold State.rephase
  try dsimp only
  repeat' first
    | with_reducible assumption
    | with_reducible rfl
    | with_reducible apply State.bumpLive_keeps
    | with_reducible apply State.raise_keeps
    | dsimp only
    | split

theorem State.sentDone_keeps {s0 : State} {s : State} (l : Nat) (fn : Nat)
    (hk : Keeps s0 s) : Keeps s0 (State.sentDone s l fn) := by
  unfold State.sentDone
  try dsimp only
  repeat' first
    | with_reducible assumption
    | with_reducible rfl
    | with_reducible apply State.txDone_keeps
    | dsimp only
    | split

theorem State.putOnLine_keeps {s0 : State} {s : State} (l : Nat) (f : TxFrame) (x : Tick) (e : Option Tick)
    (hk : Keeps s0 s) : Keeps s0 (State.putOnLine s l f x e) := by
  unfold State.putOnLine
  try dsimp only
  repeat' first
    | with_reducible assumption
    | with_reducible rfl
    | with_reducible apply State.modLane_keeps
    | with_reducible apply State.onLine_keeps

theorem State.sendFrame_keeps {s0 : State} {s : State} (l : Nat) (fn : Nat) (x : Tick)
    (hk : Keeps s0 s) : Keeps s0 (State.sendFrame s l fn x) := by
  unfold State.sendFrame
  try dsimp only
  repeat' first
    | with_reducible assumption
    | with_reducible rfl
    | with_reducible apply State.drawn_keeps
    | with_reducible apply State.buildFrame_keeps
    | with_reducible apply State.rephase_keeps
    | with_reducible apply State.sentDone_keeps
    | with_reducible apply State.putOnLine_keeps

theorem State.sendPattern_keeps {s0 : State} {s : State} (l : Nat) (fn : Nat) (x : Tick)
    (hk : Keeps s0 s) : Keeps s0 (State.sendPattern s l fn x) := by
  unfold State.sendPattern
  try dsimp only
  repeat' first
    | with_reducible assumption
    | with_reducible rfl
    | with_reducible apply State.modLane_keeps

theorem State.sendNothing_keeps {s0 : State} {s : State} (l : Nat)
    (hk : Keeps s0 s) : Keeps s0 (State.sendNothing s l) := by
  unfold State.sendNothing
  try dsimp only
  repeat' first
    | with_reducible assumption
    | with_reducible rfl
    | with_reducible apply State.modLane_keeps

theorem State.letGo_keeps {s0 : State} {s : State} (l : Nat) (fn : Nat) (x : Tick)
    (hk : Keeps s0 s) : Keeps s0 (State.letGo s l fn x) := by
  unfold State.letGo
  try dsimp only
  repeat' first
    | with_reducible assumption
    | with_reducible rfl
    | with_reducible apply State.modLane_keeps
    | with_reducible apply State.sendFrame_keeps
    | with_reducible apply State.sendPattern_keeps
    | with_reducible apply State.sendNothing_keeps
    | dsimp only
    | split

theorem State.lineEcho_keeps {s0 : State} {s : State} (l : Nat) (prior : Nat) (line : List Nat)
    (hk : Keeps s0 s) : Keeps s0 (State.lineEcho s l prior line) := by
  unfold State.lineEcho
  try dsimp only
  repeat' first
    | with_reducible assumption
    | with_reducible rfl
    | with_reducible apply State.modLane_keeps
    | dsimp only
    | split

theorem State.closeLate_keeps {s0 : State} {s : State} (o : Nat)
    (hk : Keeps s0 s) : Keeps s0 (State.closeLate s o) := by
  unfold State.closeLate
  try dsimp only
  repeat' first
    | with_reducible assumption
    | with_reducible rfl
    | with_reducible apply State.slackKnown_keeps
    | dsimp only
    | split

theorem State.countLate_keeps {s0 : State} {s : State} (o : Nat) (lates : List Nat)
    (hk : Keeps s0 s) : Keeps s0 (State.countLate s o lates) := by
  unfold State.countLate
  try dsimp only
  repeat' first
    | with_reducible assumption
    | with_reducible rfl
    | with_reducible apply State.bumpLive_keeps
    | with_reducible apply State.raise_keeps
    | dsimp only
    | split

theorem State.slackOf_keeps {s0 : State} {s : State} (o : Nat) (fn : Nat) (x : Tick)
    (hk : Keeps s0 s) : Keeps s0 (State.slackOf s o fn x) := by
  unfold State.slackOf
  try dsimp only
  repeat' first
    | with_reducible assumption
    | with_reducible rfl
    | with_reducible apply State.setFld_keeps
    | with_reducible apply State.modLane_keeps
    | with_reducible apply State.raiseIf_keeps
    | with_reducible apply State.noteSlack_keeps
    | with_reducible apply State.worstSlack_keeps
    | with_reducible apply State.closeLate_keeps
    | with_reducible apply State.countLate_keeps
    | with_reducible apply Keeps.foldl
    | with_reducible apply Keeps.foldl_snd
    | with_reducible apply Keeps.foldl_fst
    | dsimp only
    | split
    | intro _
    | with_reducible apply Keeps.upd

theorem State.watchPath_keeps {s0 : State} {s : State} (fn : Nat) (g : Nat) (w : Nat) (cells : List (Nat × SlotStatus))
    (hk : Keeps s0 s) : Keeps s0 (State.watchPath s fn g w cells) := by
  unfold State.watchPath
  try dsimp only
  repeat' first
    | with_reducible assumption
    | with_reducible rfl
    | with_reducible apply State.pmAt_keeps

theorem State.watchLane_keeps {s0 : State} {s : State} (o : Nat) (fn : Nat) (x : Tick)
    (hk : Keeps s0 s) : Keeps s0 (State.watchLane s o fn x) := by
  unfold State.watchLane
  try dsimp only
  repeat' first
    | with_reducible assumption
    | with_reducible rfl
    | with_reducible apply State.egressCells_keeps
    | with_reducible apply State.watchPath_keeps
    | with_reducible apply Keeps.foldl
    | with_reducible apply Keeps.foldl_snd
    | with_reducible apply Keeps.foldl_fst
    | dsimp only
    | split
    | intro _

theorem State.noteSwitch_keeps {s0 : State} {s : State} (fn : Nat)
    (hk : Keeps s0 s) : Keeps s0 (State.noteSwitch s fn) := by
  unfold State.noteSwitch
  try dsimp only
  repeat' first
    | with_reducible assumption
    | with_reducible rfl
    | with_reducible apply State.setFld_keeps
    | with_reducible apply State.setOn_keeps
    | with_reducible apply State.raise_keeps
    | dsimp only
    | split

theorem State.release_keeps {s0 : State} {s : State} (l : Nat) (fn : Nat) (x : Tick)
    (hk : Keeps s0 s) : Keeps s0 (State.release s l fn x) := by
  unfold State.release
  try dsimp only
  repeat' first
    | with_reducible assumption
    | with_reducible rfl
    | with_reducible apply State.modLane_keeps
    | with_reducible apply State.letGo_keeps
    | with_reducible apply State.slackOf_keeps
    | with_reducible apply State.watchLane_keeps
    | with_reducible apply State.noteSwitch_keeps

theorem State.releaseFrame_keeps {s0 : State} {s : State} (l : Nat) (fn : Nat)
    (hk : Keeps s0 s) : Keeps s0 (State.releaseFrame s l fn) := by
  unfold State.releaseFrame
  try dsimp only
  repeat' first
    | with_reducible assumption
    | with_reducible rfl
    | with_reducible apply State.release_keeps
    | dsimp only
    | split

theorem State.completeFrame_keeps {s0 : State} {s : State} (l : Nat) (fn : Nat)
    (hk : Keeps s0 s) : Keeps s0 (State.completeFrame s l fn) := by
  unfold State.completeFrame
  try dsimp only
  repeat' first
    | with_reducible assumption
    | with_reducible rfl
    | with_reducible apply State.release_keeps
    | dsimp only
    | split

theorem State.putPage_keeps {s0 : State} {s : State} (id : Nat) (es : Map Entry)
    (hk : Keeps s0 s) : Keeps s0 (State.putPage s id es) := by
  unfold State.putPage
  try dsimp only
  repeat' first
    | with_reducible assumption
    | with_reducible rfl
    | with_reducible apply State.setOn_keeps
    | with_reducible apply Keeps.foldl
    | with_reducible apply Keeps.foldl_snd
    | with_reducible apply Keeps.foldl_fst
    | dsimp only
    | split
    | intro _
    | with_reducible apply Keeps.upd

theorem State.aheadWr_keeps {s0 : State} {s : State} (w : Wr)
    (hk : Keeps s0 s) : Keeps s0 (State.aheadWr s w) := by
  unfold State.aheadWr
  try dsimp only
  repeat' first
    | with_reducible assumption
    | with_reducible rfl
    | with_reducible apply State.setOn_keeps
    | with_reducible apply State.mergeVal_keeps
    | dsimp only
    | split

theorem State.ahead_keeps {s0 : State} {s : State} (fn : Nat) (f : State → State) (hf : ∀ t, Keeps s0 t → Keeps s0 (f t))
    (hk : Keeps s0 s) : Keeps s0 (State.ahead s fn f) := by
  unfold State.ahead
  try dsimp only
  repeat' first
    | with_reducible assumption
    | with_reducible rfl
    | with_reducible apply State.setVals_keeps
    | with_reducible apply State.putPage_keeps
    | with_reducible apply State.aheadWr_keeps
    | with_reducible apply hf
    | with_reducible apply Keeps.foldl
    | with_reducible apply Keeps.foldl_snd
    | with_reducible apply Keeps.foldl_fst
    | dsimp only
    | split
    | intro _
    | with_reducible apply Keeps.upd

end Sys2Proof.Machine
end

