-- ==== Sys2Proof/Laws/KeepsTandem.lean ====
section
/-! SUPPORT. What the operations of Machine/Tandem.lean keep (Keeps). -/

namespace Sys2Proof.Machine

theorem State.setRole_keeps {s0 : State} {s : State} (r : Nat)
    (hk : Keeps s0 s) : Keeps s0 (State.setRole s r) := by
  unfold State.setRole
  try dsimp only
  repeat' first
    | with_reducible assumption
    | with_reducible rfl
    | with_reducible apply State.setFld_keeps

theorem State.modTandem_keeps {s0 : State} {s : State} (f : Tandem → Tandem)
    (hk : Keeps s0 s) : Keeps s0 (State.modTandem s f) := by
  unfold State.modTandem
  try dsimp only
  repeat' first
    | with_reducible assumption
    | with_reducible rfl
    | dsimp only
    | split
    | intro _
    | with_reducible apply Keeps.upd

theorem State.modOut_keeps {s0 : State} {s : State} (f : TandemOut → TandemOut)
    (hk : Keeps s0 s) : Keeps s0 (State.modOut s f) := by
  unfold State.modOut
  try dsimp only
  repeat' first
    | with_reducible assumption
    | with_reducible rfl
    | with_reducible apply State.modTandem_keeps

theorem State.modHeard_keeps {s0 : State} {s : State} (f : TandemIn → TandemIn)
    (hk : Keeps s0 s) : Keeps s0 (State.modHeard s f) := by
  unfold State.modHeard
  try dsimp only
  repeat' first
    | with_reducible assumption
    | with_reducible rfl
    | with_reducible apply State.modTandem_keeps

theorem State.showPin_keeps {s0 : State} {s : State}
    (hk : Keeps s0 s) : Keeps s0 (State.showPin s) := by
  unfold State.showPin
  try dsimp only
  repeat' first
    | with_reducible assumption
    | with_reducible rfl
    | with_reducible apply State.setOn_keeps

theorem State.becomeStandby_keeps {s0 : State} {s : State}
    (hk : Keeps s0 s) : Keeps s0 (State.becomeStandby s) := by
  unfold State.becomeStandby
  try dsimp only
  repeat' first
    | with_reducible assumption
    | with_reducible rfl
    | with_reducible apply State.setOn_keeps
    | with_reducible apply State.setRole_keeps
    | with_reducible apply State.modTandem_keeps

theorem State.becomeActive_keeps {s0 : State} {s : State}
    (hk : Keeps s0 s) : Keeps s0 (State.becomeActive s) := by
  unfold State.becomeActive
  try dsimp only
  repeat' first
    | with_reducible assumption
    | with_reducible rfl
    | with_reducible apply State.setOn_keeps
    | with_reducible apply State.setRole_keeps
    | with_reducible apply State.modTandem_keeps
    | with_reducible apply State.showPin_keeps

theorem State.tandemStart_keeps {s0 : State} {s : State}
    (hk : Keeps s0 s) : Keeps s0 (State.tandemStart s) := by
  unfold State.tandemStart
  try dsimp only
  repeat' first
    | with_reducible assumption
    | with_reducible rfl
    | with_reducible apply State.setOn_keeps
    | with_reducible apply State.setRole_keeps
    | with_reducible apply State.modTandem_keeps
    | with_reducible apply State.showPin_keeps
    | with_reducible apply State.becomeStandby_keeps
    | with_reducible apply State.becomeActive_keeps
    | dsimp only
    | split

theorem State.tandemStop_keeps {s0 : State} {s : State}
    (hk : Keeps s0 s) : Keeps s0 (State.tandemStop s) := by
  unfold State.tandemStop
  try dsimp only
  repeat' first
    | with_reducible assumption
    | with_reducible rfl
    | with_reducible apply State.setVal_keeps
    | with_reducible apply State.setOn_keeps
    | with_reducible apply State.showPin_keeps
    | dsimp only
    | split
    | intro _
    | with_reducible apply Keeps.upd

theorem State.tandemDrop_keeps {s0 : State} {s : State}
    (hk : Keeps s0 s) : Keeps s0 (State.tandemDrop s) := by
  unfold State.tandemDrop
  try dsimp only
  repeat' first
    | with_reducible assumption
    | with_reducible rfl
    | with_reducible apply State.modTandem_keeps
    | with_reducible apply State.showPin_keeps
    | dsimp only
    | split

theorem State.standbyWait_keeps {s0 : State} {s : State}
    (hk : Keeps s0 s) : Keeps s0 (State.standbyWait s) := by
  unfold State.standbyWait
  try dsimp only
  repeat' first
    | with_reducible assumption
    | with_reducible rfl
    | with_reducible apply State.becomeStandby_keeps
    | with_reducible apply State.becomeActive_keeps
    | dsimp only
    | split

theorem State.holdChange_keeps {s0 : State} {s : State} (high : Bool)
    (hk : Keeps s0 s) : Keeps s0 (State.holdChange s high) := by
  unfold State.holdChange
  try dsimp only
  repeat' first
    | with_reducible assumption
    | with_reducible rfl
    | with_reducible apply State.raise_keeps
    | with_reducible apply State.modTandem_keeps
    | with_reducible apply State.showPin_keeps
    | dsimp only
    | split

theorem State.rootMoves_keeps {s0 : State} {s : State}
    (hk : Keeps s0 s) : Keeps s0 (State.rootMoves s) := by
  unfold State.rootMoves
  try dsimp only
  repeat' first
    | with_reducible assumption
    | with_reducible rfl
    | with_reducible apply State.setOn_keeps

theorem State.takeOver_keeps {s0 : State} {s : State}
    (hk : Keeps s0 s) : Keeps s0 (State.takeOver s) := by
  unfold State.takeOver
  try dsimp only
  repeat' first
    | with_reducible assumption
    | with_reducible rfl
    | with_reducible apply State.setFld_keeps
    | with_reducible apply State.bump_keeps
    | with_reducible apply State.raise_keeps
    | with_reducible apply State.setSelected_keeps
    | with_reducible apply State.loopMove_keeps
    | with_reducible apply State.settle_keeps
    | with_reducible apply State.becomeActive_keeps
    | with_reducible apply State.rootMoves_keeps

theorem State.takeover_keeps {s0 : State} {s : State}
    (hk : Keeps s0 s) : Keeps s0 (State.takeover s) := by
  unfold State.takeover
  try dsimp only
  repeat' first
    | with_reducible assumption
    | with_reducible rfl
    | with_reducible apply State.takeOver_keeps
    | dsimp only
    | split

theorem State.takeoverForce_keeps {s0 : State} {s : State}
    (hk : Keeps s0 s) : Keeps s0 (State.takeoverForce s) := by
  unfold State.takeoverForce
  try dsimp only
  repeat' first
    | with_reducible assumption
    | with_reducible rfl
    | with_reducible apply State.raise_keeps
    | with_reducible apply State.modTandem_keeps
    | dsimp only
    | split

theorem State.relinquish_keeps {s0 : State} {s : State}
    (hk : Keeps s0 s) : Keeps s0 (State.relinquish s) := by
  unfold State.relinquish
  try dsimp only
  repeat' first
    | with_reducible assumption
    | with_reducible rfl
    | with_reducible apply State.modTandem_keeps
    | dsimp only
    | split

theorem State.autoRelinquish_keeps {s0 : State} {s : State}
    (hk : Keeps s0 s) : Keeps s0 (State.autoRelinquish s) := by
  unfold State.autoRelinquish
  try dsimp only
  repeat' first
    | with_reducible assumption
    | with_reducible rfl
    | with_reducible apply State.relinquish_keeps
    | dsimp only
    | split

theorem State.tandemRelease_keeps {s0 : State} {s : State}
    (hk : Keeps s0 s) : Keeps s0 (State.tandemRelease s) := by
  unfold State.tandemRelease
  try dsimp only
  repeat' first
    | with_reducible assumption
    | with_reducible rfl
    | with_reducible apply State.raise_keeps
    | with_reducible apply State.modTandem_keeps
    | dsimp only
    | split

theorem State.tandemYield_keeps {s0 : State} {s : State}
    (hk : Keeps s0 s) : Keeps s0 (State.tandemYield s) := by
  unfold State.tandemYield
  try dsimp only
  repeat' first
    | with_reducible assumption
    | with_reducible rfl
    | with_reducible apply State.becomeStandby_keeps
    | dsimp only
    | split

theorem State.tandemSample_keeps {s0 : State} {s : State} (r : TandemRec)
    (hk : Keeps s0 s) : Keeps s0 (State.tandemSample s r) := by
  unfold State.tandemSample
  try dsimp only
  repeat' first
    | with_reducible assumption
    | with_reducible rfl
    | with_reducible apply State.modTandem_keeps

theorem State.seatConflict_keeps {s0 : State} {s : State} (r : TandemRec)
    (hk : Keeps s0 s) : Keeps s0 (State.seatConflict s r) := by
  unfold State.seatConflict
  try dsimp only
  repeat' first
    | with_reducible assumption
    | with_reducible rfl
    | with_reducible apply State.setOn_keeps
    | with_reducible apply State.raiseIf_keeps

theorem State.takeoverInhibit_keeps {s0 : State} {s : State} (r : TandemRec)
    (hk : Keeps s0 s) : Keeps s0 (State.takeoverInhibit s r) := by
  unfold State.takeoverInhibit
  try dsimp only
  repeat' first
    | with_reducible assumption
    | with_reducible rfl
    | with_reducible apply State.setOn_keeps
    | with_reducible apply State.raiseIf_keeps

theorem State.recordFirst_keeps {s0 : State} {s : State} (r : TandemRec)
    (hk : Keeps s0 s) : Keeps s0 (State.recordFirst s r) := by
  unfold State.recordFirst
  try dsimp only
  repeat' first
    | with_reducible assumption
    | with_reducible rfl
    | with_reducible apply State.setFld_keeps
    | with_reducible apply State.setOn_keeps
    | with_reducible apply State.modTandem_keeps
    | with_reducible apply State.seatConflict_keeps
    | with_reducible apply State.takeoverInhibit_keeps

theorem State.recordTime_keeps {s0 : State} {s : State} (p : Nat) (r : TandemRec)
    (hk : Keeps s0 s) : Keeps s0 (State.recordTime s p r) := by
  unfold State.recordTime
  try dsimp only
  repeat' first
    | with_reducible assumption
    | with_reducible rfl
    | with_reducible apply State.modTandem_keeps
    | with_reducible apply State.tandemSample_keeps
    | dsimp only
    | split

theorem State.recordGood_keeps {s0 : State} {s : State} (p : Nat) (r : TandemRec)
    (hk : Keeps s0 s) : Keeps s0 (State.recordGood s p r) := by
  unfold State.recordGood
  try dsimp only
  repeat' first
    | with_reducible assumption
    | with_reducible rfl
    | with_reducible apply State.recordFirst_keeps
    | with_reducible apply State.recordTime_keeps
    | dsimp only
    | split

theorem State.recordLate_keeps {s0 : State} {s : State}
    (hk : Keeps s0 s) : Keeps s0 (State.recordLate s) := by
  unfold State.recordLate
  try dsimp only
  repeat' first
    | with_reducible assumption
    | with_reducible rfl
    | with_reducible apply State.modTandem_keeps
    | with_reducible apply State.tandemSample_keeps
    | dsimp only
    | split

theorem State.tandemRecord_keeps {s0 : State} {s : State} (p : Nat) (r : TandemRec)
    (hk : Keeps s0 s) : Keeps s0 (State.tandemRecord s p r) := by
  unfold State.tandemRecord
  try dsimp only
  repeat' first
    | with_reducible assumption
    | with_reducible rfl
    | with_reducible apply State.setOn_keeps
    | with_reducible apply State.bump_keeps
    | with_reducible apply State.recordGood_keeps
    | dsimp only
    | split

theorem State.recordLoss_keeps {s0 : State} {s : State}
    (hk : Keeps s0 s) : Keeps s0 (State.recordLoss s) := by
  unfold State.recordLoss
  try dsimp only
  repeat' first
    | with_reducible assumption
    | with_reducible rfl
    | with_reducible apply State.setOn_keeps
    | dsimp only
    | split

theorem State.resyncComplete_keeps {s0 : State} {s : State}
    (hk : Keeps s0 s) : Keeps s0 (State.resyncComplete s) := by
  unfold State.resyncComplete
  try dsimp only
  repeat' first
    | with_reducible assumption
    | with_reducible rfl
    | with_reducible apply State.setOn_keeps
    | with_reducible apply State.bump_keeps
    | with_reducible apply State.modTandem_keeps
    | dsimp only
    | split

theorem State.copyBegin_keeps {s0 : State} {s : State}
    (hk : Keeps s0 s) : Keeps s0 (State.copyBegin s) := by
  unfold State.copyBegin
  try dsimp only
  repeat' first
    | with_reducible assumption
    | with_reducible rfl
    | with_reducible apply State.modOut_keeps
    | dsimp only
    | split

theorem State.recordLeaves_keeps {s0 : State} {s : State} (r : TandemRec)
    (hk : Keeps s0 s) : Keeps s0 (State.recordLeaves s r) := by
  unfold State.recordLeaves
  try dsimp only
  repeat' first
    | with_reducible assumption
    | with_reducible rfl
    | with_reducible apply State.modTandem_keeps

theorem State.sendRecord_keeps {s0 : State} {s : State}
    (hk : Keeps s0 s) : Keeps s0 (State.sendRecord s) := by
  unfold State.sendRecord
  try dsimp only
  repeat' first
    | with_reducible assumption
    | with_reducible rfl
    | with_reducible apply State.copyBegin_keeps
    | with_reducible apply State.recordLeaves_keeps
    | dsimp only
    | split

theorem State.dualActive_keeps {s0 : State} {s : State}
    (hk : Keeps s0 s) : Keeps s0 (State.dualActive s) := by
  unfold State.dualActive
  try dsimp only
  repeat' first
    | with_reducible assumption
    | with_reducible rfl
    | with_reducible apply State.raise_keeps
    | with_reducible apply State.becomeStandby_keeps
    | dsimp only
    | split

theorem State.modeMismatch_keeps {s0 : State} {s : State}
    (hk : Keeps s0 s) : Keeps s0 (State.modeMismatch s) := by
  unfold State.modeMismatch
  try dsimp only
  repeat' first
    | with_reducible assumption
    | with_reducible rfl
    | with_reducible apply State.setOn_keeps
    | with_reducible apply State.raiseIf_keeps

theorem State.recordMissing_keeps {s0 : State} {s : State}
    (hk : Keeps s0 s) : Keeps s0 (State.recordMissing s) := by
  unfold State.recordMissing
  try dsimp only
  repeat' first
    | with_reducible assumption
    | with_reducible rfl
    | with_reducible apply State.setOn_keeps
    | with_reducible apply State.bump_keeps
    | with_reducible apply State.raise_keeps
    | with_reducible apply State.modTandem_keeps
    | dsimp only
    | split

theorem State.tandemReady_keeps {s0 : State} {s : State}
    (hk : Keeps s0 s) : Keeps s0 (State.tandemReady s) := by
  unfold State.tandemReady
  try dsimp only
  repeat' first
    | with_reducible assumption
    | with_reducible rfl
    | with_reducible apply State.setOn_keeps
    | with_reducible apply State.modTandem_keeps
    | dsimp only
    | split

end Sys2Proof.Machine
end

