-- ==== Sys2Proof/Laws/KeepsGallery.lean ====
section
/-! SUPPORT. What the operations of Machine/Gallery.lean keep (Keeps). -/

namespace Sys2Proof.Machine

theorem State.modGallery_keeps {s0 : State} {s : State} (f : Gallery → Gallery)
    (hk : Keeps s0 s) : Keeps s0 (State.modGallery s f) := by
  unfold State.modGallery
  try dsimp only
  repeat' first
    | with_reducible assumption
    | with_reducible rfl
    | dsimp only
    | split
    | intro _
    | with_reducible apply Keeps.upd

theorem State.rootConflict_keeps {s0 : State} {s : State} (roots : List Nat)
    (hk : Keeps s0 s) : Keeps s0 (State.rootConflict s roots) := by
  unfold State.rootConflict
  try dsimp only
  repeat' first
    | with_reducible assumption
    | with_reducible rfl
    | with_reducible apply State.setOn_keeps
    | with_reducible apply State.raiseIf_keeps

theorem State.announce_keeps {s0 : State} {s : State}
    (hk : Keeps s0 s) : Keeps s0 (State.announce s) := by
  unfold State.announce
  try dsimp only
  repeat' first
    | with_reducible assumption
    | with_reducible rfl
    | with_reducible apply State.modGallery_keeps

theorem State.setEpoch_keeps {s0 : State} {s : State} (e : Nat)
    (hk : Keeps s0 s) : Keeps s0 (State.setEpoch s e) := by
  unfold State.setEpoch
  try dsimp only
  repeat' first
    | with_reducible assumption
    | with_reducible rfl
    | with_reducible apply State.setFld_keeps
    | with_reducible apply State.raise_keeps
    | dsimp only
    | split

theorem State.noteOwn_keeps {s0 : State} {s : State}
    (hk : Keeps s0 s) : Keeps s0 (State.noteOwn s) := by
  unfold State.noteOwn
  try dsimp only
  repeat' first
    | with_reducible assumption
    | with_reducible rfl
    | with_reducible apply State.modGallery_keeps
    | dsimp only
    | split

theorem State.setRoot_keeps {s0 : State} {s : State} (k : Nat)
    (hk : Keeps s0 s) : Keeps s0 (State.setRoot s k) := by
  unfold State.setRoot
  try dsimp only
  repeat' first
    | with_reducible assumption
    | with_reducible rfl
    | with_reducible apply State.setFld_keeps
    | with_reducible apply State.setOn_keeps
    | with_reducible apply State.raise_keeps
    | with_reducible apply State.modGallery_keeps
    | with_reducible apply State.announce_keeps
    | dsimp only
    | split

theorem State.showPresent_keeps {s0 : State} {s : State}
    (hk : Keeps s0 s) : Keeps s0 (State.showPresent s) := by
  unfold State.showPresent
  try dsimp only
  repeat' first
    | with_reducible assumption
    | with_reducible rfl
    | with_reducible apply State.setFld_keeps
    | with_reducible apply State.rootConflict_keeps
    | with_reducible apply State.setRoot_keeps
    | dsimp only
    | split

theorem State.galleryStart_keeps {s0 : State} {s : State}
    (hk : Keeps s0 s) : Keeps s0 (State.galleryStart s) := by
  unfold State.galleryStart
  try dsimp only
  repeat' first
    | with_reducible assumption
    | with_reducible rfl
    | with_reducible apply State.setFld_keeps
    | with_reducible apply State.showPresent_keeps
    | dsimp only
    | split
    | intro _
    | with_reducible apply Keeps.upd

theorem State.galleryStop_keeps {s0 : State} {s : State}
    (hk : Keeps s0 s) : Keeps s0 (State.galleryStop s) := by
  unfold State.galleryStop
  try dsimp only
  repeat' first
    | with_reducible assumption
    | with_reducible rfl
    | with_reducible apply State.setVal_keeps
    | with_reducible apply State.setFld_keeps
    | dsimp only
    | split
    | intro _
    | with_reducible apply Keeps.upd

theorem State.showService_keeps {s0 : State} {s : State} (p : Nat)
    (hk : Keeps s0 s) : Keeps s0 (State.showService s p) := by
  unfold State.showService
  try dsimp only
  repeat' first
    | with_reducible assumption
    | with_reducible rfl
    | with_reducible apply State.setOn_keeps

theorem State.ringHead_keeps {s0 : State} {s : State} (p : Nat) (h : RingHead)
    (hk : Keeps s0 s) : Keeps s0 (State.ringHead s p h) := by
  unfold State.ringHead
  try dsimp only
  repeat' first
    | with_reducible assumption
    | with_reducible rfl
    | with_reducible apply State.bump_keeps
    | with_reducible apply State.setRingPort_keeps
    | with_reducible apply State.candWatch_keeps
    | with_reducible apply State.showService_keeps
    | dsimp only
    | split

theorem State.useMsg_keeps {s0 : State} {s : State} (p : Nat) (f : Nat) (m : RingMsg)
    (hk : Keeps s0 s) : Keeps s0 (State.useMsg s p f m) := by
  unfold State.useMsg
  try dsimp only
  repeat' first
    | with_reducible assumption
    | with_reducible rfl
    | with_reducible apply State.modGallery_keeps

theorem State.rootMsg_keeps {s0 : State} {s : State} (m : RingMsg)
    (hk : Keeps s0 s) : Keeps s0 (State.rootMsg s m) := by
  unfold State.rootMsg
  try dsimp only
  repeat' first
    | with_reducible assumption
    | with_reducible rfl
    | with_reducible apply State.setFld_keeps
    | with_reducible apply State.modGallery_keeps
    | dsimp only
    | split

theorem State.joinMsg_keeps {s0 : State} {s : State} (m : RingMsg)
    (hk : Keeps s0 s) : Keeps s0 (State.joinMsg s m) := by
  unfold State.joinMsg
  try dsimp only
  repeat' first
    | with_reducible assumption
    | with_reducible rfl
    | with_reducible apply State.setFld_keeps
    | with_reducible apply State.announce_keeps
    | dsimp only
    | split

theorem State.seatInUse_keeps {s0 : State} {s : State} (m : RingMsg)
    (hk : Keeps s0 s) : Keeps s0 (State.seatInUse s m) := by
  unfold State.seatInUse
  try dsimp only
  repeat' first
    | with_reducible assumption
    | with_reducible rfl
    | with_reducible apply State.setOn_keeps
    | with_reducible apply State.raiseIf_keeps
    | dsimp only
    | split

theorem State.ringMsg_keeps {s0 : State} {s : State} (p : Nat) (m : RingMsg)
    (hk : Keeps s0 s) : Keeps s0 (State.ringMsg s p m) := by
  unfold State.ringMsg
  try dsimp only
  repeat' first
    | with_reducible assumption
    | with_reducible rfl
    | with_reducible apply State.bump_keeps
    | with_reducible apply State.showPresent_keeps
    | with_reducible apply State.useMsg_keeps
    | with_reducible apply State.rootMsg_keeps
    | with_reducible apply State.joinMsg_keeps
    | with_reducible apply State.seatInUse_keeps
    | dsimp only
    | split

theorem State.headSend_keeps {s0 : State} {s : State}
    (hk : Keeps s0 s) : Keeps s0 (State.headSend s) := by
  unfold State.headSend
  try dsimp only
  repeat' first
    | with_reducible assumption
    | with_reducible rfl
    | with_reducible apply State.setRingPort_keeps
    | with_reducible apply State.modGallery_keeps
    | dsimp only
    | split

theorem State.windowSend_keeps {s0 : State} {s : State} (w : Nat)
    (hk : Keeps s0 s) : Keeps s0 (State.windowSend s w) := by
  unfold State.windowSend
  try dsimp only
  repeat' first
    | with_reducible assumption
    | with_reducible rfl
    | with_reducible apply State.modGallery_keeps
    | dsimp only
    | split

theorem State.seatAbsent_keeps {s0 : State} {s : State} (k : Nat)
    (hk : Keeps s0 s) : Keeps s0 (State.seatAbsent s k) := by
  unfold State.seatAbsent
  try dsimp only
  repeat' first
    | with_reducible assumption
    | with_reducible rfl
    | with_reducible apply State.showPresent_keeps
    | dsimp only
    | split

theorem State.rosterRemove_keeps {s0 : State} {s : State} (k : Nat)
    (hk : Keeps s0 s) : Keeps s0 (State.rosterRemove s k) := by
  unfold State.rosterRemove
  try dsimp only
  repeat' first
    | with_reducible assumption
    | with_reducible rfl
    | with_reducible apply State.setFld_keeps
    | with_reducible apply State.announce_keeps
    | dsimp only
    | split

theorem State.epochAdopt_keeps {s0 : State} {s : State}
    (hk : Keeps s0 s) : Keeps s0 (State.epochAdopt s) := by
  unfold State.epochAdopt
  try dsimp only
  repeat' first
    | with_reducible assumption
    | with_reducible rfl
    | with_reducible apply State.setFld_keeps
    | with_reducible apply State.modGallery_keeps
    | with_reducible apply State.setEpoch_keeps
    | with_reducible apply State.noteOwn_keeps
    | dsimp only
    | split

theorem State.gxDecide_keeps {s0 : State} {s : State}
    (hk : Keeps s0 s) : Keeps s0 (State.gxDecide s) := by
  unfold State.gxDecide
  try dsimp only
  repeat' first
    | with_reducible assumption
    | with_reducible rfl
    | with_reducible apply State.modGallery_keeps
    | dsimp only
    | split

theorem State.gxCatchup_keeps {s0 : State} {s : State}
    (hk : Keeps s0 s) : Keeps s0 (State.gxCatchup s) := by
  unfold State.gxCatchup
  try dsimp only
  repeat' first
    | with_reducible assumption
    | with_reducible rfl
    | with_reducible apply State.modGallery_keeps
    | dsimp only
    | split

theorem State.gxDiscard_keeps {s0 : State} {s : State}
    (hk : Keeps s0 s) : Keeps s0 (State.gxDiscard s) := by
  unfold State.gxDiscard
  try dsimp only
  repeat' first
    | with_reducible assumption
    | with_reducible rfl
    | with_reducible apply State.discardHeld_keeps
    | with_reducible apply State.freeStage_keeps
    | with_reducible apply State.modGallery_keeps
    | dsimp only
    | split

theorem State.mute_keeps {s0 : State} {s : State}
    (hk : Keeps s0 s) : Keeps s0 (State.mute s) := by
  unfold State.mute
  try dsimp only
  repeat' first
    | with_reducible assumption
    | with_reducible rfl
    | with_reducible apply State.setOn_keeps
    | with_reducible apply State.bump_keeps
    | with_reducible apply State.raise_keeps
    | with_reducible apply State.modGallery_keeps
    | dsimp only
    | split

theorem State.galleryTime_keeps {s0 : State} {s : State}
    (hk : Keeps s0 s) : Keeps s0 (State.galleryTime s) := by
  unfold State.galleryTime
  try dsimp only
  repeat' first
    | with_reducible assumption
    | with_reducible rfl
    | with_reducible apply State.setFld_keeps
    | with_reducible apply State.modGallery_keeps
    | with_reducible apply State.mute_keeps
    | dsimp only
    | split

theorem State.timeErrorLost_keeps {s0 : State} {s : State}
    (hk : Keeps s0 s) : Keeps s0 (State.timeErrorLost s) := by
  unfold State.timeErrorLost
  try dsimp only
  repeat' first
    | with_reducible assumption
    | with_reducible rfl
    | with_reducible apply State.setFld_keeps
    | with_reducible apply State.mute_keeps
    | dsimp only
    | split

theorem State.unmute_keeps {s0 : State} {s : State}
    (hk : Keeps s0 s) : Keeps s0 (State.unmute s) := by
  unfold State.unmute
  try dsimp only
  repeat' first
    | with_reducible assumption
    | with_reducible rfl
    | with_reducible apply State.setOn_keeps
    | with_reducible apply State.modGallery_keeps
    | with_reducible apply State.showPresent_keeps
    | dsimp only
    | split

theorem State.ringRelearn_keeps {s0 : State} {s : State}
    (hk : Keeps s0 s) : Keeps s0 (State.ringRelearn s) := by
  unfold State.ringRelearn
  try dsimp only
  repeat' first
    | with_reducible assumption
    | with_reducible rfl
    | with_reducible apply State.modGallery_keeps
    | dsimp only
    | split

theorem State.quarantine_keeps {s0 : State} {s : State} (f : Fld)
    (hk : Keeps s0 s) : Keeps s0 (State.quarantine s f) := by
  unfold State.quarantine
  try dsimp only
  repeat' first
    | with_reducible assumption
    | with_reducible rfl
    | with_reducible apply State.setOn_keeps
    | with_reducible apply State.bump_keeps
    | with_reducible apply State.raise_keeps
    | with_reducible apply State.modGallery_keeps
    | dsimp only
    | split

theorem State.compareMsg_keeps {s0 : State} {s : State} (m : RingMsg)
    (hk : Keeps s0 s) : Keeps s0 (State.compareMsg s m) := by
  unfold State.compareMsg
  try dsimp only
  repeat' first
    | with_reducible assumption
    | with_reducible rfl
    | with_reducible apply State.setOn_keeps
    | with_reducible apply State.modGallery_keeps
    | with_reducible apply State.setEpoch_keeps
    | with_reducible apply State.quarantine_keeps
    | dsimp only
    | split

theorem State.compareAll_keeps {s0 : State} {s : State}
    (hk : Keeps s0 s) : Keeps s0 (State.compareAll s) := by
  unfold State.compareAll
  try dsimp only
  repeat' first
    | with_reducible assumption
    | with_reducible rfl
    | with_reducible apply State.modGallery_keeps
    | with_reducible apply State.compareMsg_keeps
    | with_reducible apply Keeps.foldl
    | with_reducible apply Keeps.foldl_snd
    | with_reducible apply Keeps.foldl_fst
    | dsimp only
    | split

theorem State.galleryBoundary_keeps {s0 : State} {s : State}
    (hk : Keeps s0 s) : Keeps s0 (State.galleryBoundary s) := by
  unfold State.galleryBoundary
  try dsimp only
  repeat' first
    | with_reducible assumption
    | with_reducible rfl
    | with_reducible apply State.modGallery_keeps
    | with_reducible apply State.noteOwn_keeps
    | with_reducible apply State.showPresent_keeps
    | with_reducible apply State.showService_keeps
    | with_reducible apply State.galleryTime_keeps
    | with_reducible apply State.compareAll_keeps
    | dsimp only
    | split

end Sys2Proof.Machine
end

