-- ==== Sys2Proof/Laws/KeepsMac.lean ====
section
/-! SUPPORT. What the operations of Machine/Mac.lean keep (Keeps). -/

namespace Sys2Proof.Machine

theorem State.modMac_keeps {s0 : State} {s : State} (m : Nat) (f : Mac → Mac)
    (hk : Keeps s0 s) : Keeps s0 (State.modMac s m f) := by
  unfold State.modMac
  try dsimp only
  repeat' first
    | with_reducible assumption
    | with_reducible rfl
    | with_reducible apply State.setMac_keeps

theorem State.dropQueues_keeps {s0 : State} {s : State} (m : Nat)
    (hk : Keeps s0 s) : Keeps s0 (State.dropQueues s m) := by
  unfold State.dropQueues
  try dsimp only
  repeat' first
    | with_reducible assumption
    | with_reducible rfl
    | with_reducible apply State.macCount_keeps
    | with_reducible apply State.modMac_keeps
    | with_reducible apply Keeps.foldl
    | with_reducible apply Keeps.foldl_snd
    | with_reducible apply Keeps.foldl_fst
    | dsimp only
    | split
    | intro _

theorem State.linkFall_keeps {s0 : State} {s : State} (m : Nat)
    (hk : Keeps s0 s) : Keeps s0 (State.linkFall s m) := by
  unfold State.linkFall
  try dsimp only
  repeat' first
    | with_reducible assumption
    | with_reducible rfl
    | with_reducible apply State.setOn_keeps
    | with_reducible apply State.raise_keeps
    | with_reducible apply State.macCount_keeps
    | with_reducible apply State.dropQueues_keeps
    | dsimp only
    | split

theorem State.macRestart_keeps {s0 : State} {s : State} (m : Nat)
    (hk : Keeps s0 s) : Keeps s0 (State.macRestart s m) := by
  unfold State.macRestart
  try dsimp only
  repeat' first
    | with_reducible assumption
    | with_reducible rfl
    | with_reducible apply State.dropQueues_keeps
    | with_reducible apply State.linkFall_keeps

theorem State.linkRise_keeps {s0 : State} {s : State} (m : Nat) (speed : Nat)
    (hk : Keeps s0 s) : Keeps s0 (State.linkRise s m speed) := by
  unfold State.linkRise
  try dsimp only
  repeat' first
    | with_reducible assumption
    | with_reducible rfl
    | with_reducible apply State.setFld_keeps
    | with_reducible apply State.setOn_keeps
    | dsimp only
    | split

theorem State.resumeTx_keeps {s0 : State} {s : State} (m : Nat)
    (hk : Keeps s0 s) : Keeps s0 (State.resumeTx s m) := by
  unfold State.resumeTx
  try dsimp only
  repeat' first
    | with_reducible assumption
    | with_reducible rfl
    | with_reducible apply State.setOn_keeps
    | with_reducible apply State.modMac_keeps

theorem State.pauseExpire_keeps {s0 : State} {s : State} (m : Nat)
    (hk : Keeps s0 s) : Keeps s0 (State.pauseExpire s m) := by
  unfold State.pauseExpire
  try dsimp only
  repeat' first
    | with_reducible assumption
    | with_reducible rfl
    | with_reducible apply State.resumeTx_keeps
    | dsimp only
    | split

theorem State.pauseAnew_keeps {s0 : State} {s : State} (m : Nat) (quanta : Nat)
    (hk : Keeps s0 s) : Keeps s0 (State.pauseAnew s m quanta) := by
  unfold State.pauseAnew
  try dsimp only
  repeat' first
    | with_reducible assumption
    | with_reducible rfl
    | with_reducible apply State.setOn_keeps
    | with_reducible apply State.setMac_keeps
    | with_reducible apply State.modMac_keeps
    | with_reducible apply State.resumeTx_keeps
    | dsimp only
    | split

theorem State.pauseFrame_keeps {s0 : State} {s : State} (m : Nat) (quanta : Nat)
    (hk : Keeps s0 s) : Keeps s0 (State.pauseFrame s m quanta) := by
  unfold State.pauseFrame
  try dsimp only
  repeat' first
    | with_reducible assumption
    | with_reducible rfl
    | with_reducible apply State.pauseExpire_keeps
    | with_reducible apply State.pauseAnew_keeps

theorem State.pauseWd_keeps {s0 : State} {s : State} (m : Nat)
    (hk : Keeps s0 s) : Keeps s0 (State.pauseWd s m) := by
  unfold State.pauseWd
  try dsimp only
  repeat' first
    | with_reducible assumption
    | with_reducible rfl
    | with_reducible apply State.setOn_keeps
    | with_reducible apply State.raise_keeps
    | with_reducible apply State.macCount_keeps
    | with_reducible apply State.resumeTx_keeps
    | dsimp only
    | split

theorem State.pauseClear_keeps {s0 : State} {s : State} (m : Nat)
    (hk : Keeps s0 s) : Keeps s0 (State.pauseClear s m) := by
  unfold State.pauseClear
  try dsimp only
  repeat' first
    | with_reducible assumption
    | with_reducible rfl
    | with_reducible apply State.setOn_keeps
    | dsimp only
    | split

theorem State.pauseCheck_keeps {s0 : State} {s : State} (m : Nat)
    (hk : Keeps s0 s) : Keeps s0 (State.pauseCheck s m) := by
  unfold State.pauseCheck
  try dsimp only
  repeat' first
    | with_reducible assumption
    | with_reducible rfl
    | with_reducible apply State.setMac_keeps
    | dsimp only
    | split

theorem State.pauseAgain_keeps {s0 : State} {s : State} (m : Nat)
    (hk : Keeps s0 s) : Keeps s0 (State.pauseAgain s m) := by
  unfold State.pauseAgain
  try dsimp only
  repeat' first
    | with_reducible assumption
    | with_reducible rfl
    | with_reducible apply State.setMac_keeps
    | dsimp only
    | split

theorem State.sendNext_keeps {s0 : State} {s : State} (m : Nat)
    (hk : Keeps s0 s) : Keeps s0 (State.sendNext s m) := by
  unfold State.sendNext
  try dsimp only
  repeat' first
    | with_reducible assumption
    | with_reducible rfl
    | with_reducible apply State.setMac_keeps
    | with_reducible apply State.macCount_keeps
    | dsimp only
    | split

theorem State.transmit_keeps {s0 : State} {s : State} (m : Nat)
    (hk : Keeps s0 s) : Keeps s0 (State.transmit s m) := by
  unfold State.transmit
  try dsimp only
  repeat' first
    | with_reducible assumption
    | with_reducible rfl
    | with_reducible apply State.pauseExpire_keeps
    | with_reducible apply State.sendNext_keeps

theorem State.macTake_keeps {s0 : State} {s : State} (m : Nat) (f : EthFrame)
    (hk : Keeps s0 s) : Keeps s0 (State.macTake s m f) := by
  unfold State.macTake
  try dsimp only
  repeat' first
    | with_reducible assumption
    | with_reducible rfl
    | with_reducible apply State.macCount_keeps
    | with_reducible apply State.modMac_keeps
    | with_reducible apply State.pauseFrame_keeps
    | with_reducible apply State.pauseCheck_keeps
    | dsimp only
    | split

end Sys2Proof.Machine
end

