-- ==== Sys2Proof/Laws/KeepsSessions.lean ====
section
/-! SUPPORT. What the operations of Machine/Sessions.lean keep (Keeps). -/

namespace Sys2Proof.Machine

theorem State.endSession_keeps {s0 : State} {s : State} (n : Nat)
    (hk : Keeps s0 s) : Keeps s0 (State.endSession s n) := by
  unfold State.endSession
  dsimp only
  split
  · next hn =>
    exact Keeps.end_number (fun x => (hk.sound x).session_range hn)
      (State.advanceGen_keeps _ (State.abandonStage_keeps _ hk))
  · exact hk

theorem State.endWhere_keeps {s0 : State} {s : State} (p : Session → Bool)
    (hk : Keeps s0 s) : Keeps s0 (State.endWhere s p) := by
  unfold State.endWhere
  try dsimp only
  repeat' first
    | with_reducible assumption
    | with_reducible rfl
    | with_reducible apply State.endSession_keeps
    | with_reducible apply Keeps.foldl
    | with_reducible apply Keeps.foldl_snd
    | with_reducible apply Keeps.foldl_fst
    | dsimp only
    | split
    | intro _

theorem State.sessionIdle_keeps {s0 : State} {s : State} (n : Nat)
    (hk : Keeps s0 s) : Keeps s0 (State.sessionIdle s n) := by
  unfold State.sessionIdle
  try dsimp only
  repeat' first
    | with_reducible assumption
    | with_reducible rfl
    | with_reducible apply State.raise_keeps
    | with_reducible apply State.endSession_keeps
    | dsimp only
    | split

theorem State.seqHold_keeps {s0 : State} {s : State} (n : Nat) (seq : Nat)
    (hk : Keeps s0 s) : Keeps s0 (State.seqHold s n seq) := by
  unfold State.seqHold
  try dsimp only
  repeat' first
    | with_reducible assumption
    | with_reducible rfl
    | with_reducible apply State.modSession_keeps
    | with_reducible apply State.bump_keeps
    | dsimp only
    | split
    | intro _

theorem State.eventSend_keeps {s0 : State} {s : State} (n : Nat)
    (hk : Keeps s0 s) : Keeps s0 (State.eventSend s n) := by
  unfold State.eventSend
  try dsimp only
  repeat' first
    | with_reducible assumption
    | with_reducible rfl
    | with_reducible apply State.setSession_keeps
    | with_reducible apply State.event_keeps
    | with_reducible apply State.deliver_keeps
    | with_reducible apply State.endSession_keeps
    | dsimp only
    | split

theorem State.eventAgain_keeps {s0 : State} {s : State} (n : Nat) (seq : Nat)
    (hk : Keeps s0 s) : Keeps s0 (State.eventAgain s n seq) := by
  unfold State.eventAgain
  try dsimp only
  repeat' first
    | with_reducible assumption
    | with_reducible rfl
    | with_reducible apply State.setSession_keeps
    | with_reducible apply State.deliver_keeps
    | dsimp only
    | split

theorem State.eventAck_keeps {s0 : State} {s : State} (n : Nat) (seq : Nat)
    (hk : Keeps s0 s) : Keeps s0 (State.eventAck s n seq) := by
  unfold State.eventAck
  try dsimp only
  repeat' first
    | with_reducible assumption
    | with_reducible rfl
    | with_reducible apply State.modSession_keeps
    | dsimp only
    | split
    | intro _

end Sys2Proof.Machine
end

