-- ==== Sys2Proof/Laws/KeepsBanks.lean ====
section
/-! SUPPORT. What the operations of Machine/Banks.lean keep (Keeps). -/

namespace Sys2Proof.Machine

theorem State.engineState_keeps {s0 : State} {s : State} (e : Nat) (st : Nat)
    (hk : Keeps s0 s) : Keeps s0 (State.engineState s e st) := by
  unfold State.engineState
  try dsimp only
  repeat' first
    | with_reducible assumption
    | with_reducible rfl
    | with_reducible apply State.setFld_keeps

theorem State.advanceParty_keeps {s0 : State} {s : State} (sub : Nat) (inst : Nat)
    (hk : Keeps s0 s) : Keeps s0 (State.advanceParty s sub inst) := by
  unfold State.advanceParty
  try dsimp only
  repeat' first
    | with_reducible assumption
    | with_reducible rfl
    | with_reducible apply State.advanceGen_keeps
    | with_reducible apply Keeps.foldl
    | with_reducible apply Keeps.foldl_snd
    | with_reducible apply Keeps.foldl_fst
    | dsimp only
    | split
    | intro _

theorem State.revokeBanks_keeps {s0 : State} {s : State} (owner : Nat) (to_ : Nat)
    (hk : Keeps s0 s) : Keeps s0 (State.revokeBanks s owner to_) := by
  unfold State.revokeBanks
  try dsimp only
  repeat' first
    | with_reducible assumption
    | with_reducible rfl
    | with_reducible apply State.raise_keeps
    | with_reducible apply Keeps.foldl
    | with_reducible apply Keeps.foldl_snd
    | with_reducible apply Keeps.foldl_fst
    | dsimp only
    | split
    | intro _
    | with_reducible apply Keeps.upd

theorem State.returnBank_keeps {s0 : State} {s : State} (b : Nat)
    (hk : Keeps s0 s) : Keeps s0 (State.returnBank s b) := by
  unfold State.returnBank
  try dsimp only
  repeat' first
    | with_reducible assumption
    | with_reducible rfl
    | dsimp only
    | split
    | intro _
    | with_reducible apply Keeps.upd

theorem State.wipeBank_keeps {s0 : State} {s : State} (b : Nat)
    (hk : Keeps s0 s) : Keeps s0 (State.wipeBank s b) := by
  exact (Keeps.banks (d := s.banks.filter _) (Map.wf_filter _ _ _) hk).upd

theorem State.bankFollow_keeps {s0 : State} {s : State} (b : Nat)
    (hk : Keeps s0 s) : Keeps s0 (State.bankFollow s b) := by
  unfold State.bankFollow
  try dsimp only
  repeat' first
    | with_reducible assumption
    | with_reducible rfl
    | with_reducible apply State.setFld_keeps
    | with_reducible apply State.wipeBank_keeps
    | dsimp only
    | split
    | intro _
    | with_reducible apply Keeps.upd

theorem State.banksFollow_keeps {s0 : State} {s : State}
    (hk : Keeps s0 s) : Keeps s0 (State.banksFollow s) := by
  unfold State.banksFollow
  try dsimp only
  repeat' first
    | with_reducible assumption
    | with_reducible rfl
    | with_reducible apply State.bankFollow_keeps
    | with_reducible apply Keeps.foldl
    | with_reducible apply Keeps.foldl_snd
    | with_reducible apply Keeps.foldl_fst
    | dsimp only
    | split
    | intro _

theorem State.bankCleared_keeps {s0 : State} {s : State} (b : Nat)
    (hk : Keeps s0 s) : Keeps s0 (State.bankCleared s b) := by
  unfold State.bankCleared
  try dsimp only
  repeat' first
    | with_reducible assumption
    | with_reducible rfl
    | with_reducible apply State.setFld_keeps
    | dsimp only
    | split

theorem State.clearBank_keeps {s0 : State} {s : State} (b : Nat)
    (hk : Keeps s0 s) : Keeps s0 (State.clearBank s b) := by
  unfold State.clearBank
  try dsimp only
  repeat' first
    | with_reducible assumption
    | with_reducible rfl
    | with_reducible apply State.setFld_keeps
    | with_reducible apply State.wipeBank_keeps
    | dsimp only
    | split

theorem State.scrubEnd_keeps {s0 : State} {s : State} (all : Bool)
    (hk : Keeps s0 s) : Keeps s0 (State.scrubEnd s all) := by
  unfold State.scrubEnd
  try dsimp only
  repeat' first
    | with_reducible assumption
    | with_reducible rfl
    | with_reducible apply State.raiseIf_keeps
    | dsimp only
    | split
    | intro _
    | with_reducible apply Keeps.upd

theorem State.dmaRead_keeps {s0 : State} {s : State} (i : Nat)
    (hk : Keeps s0 s) : Keeps s0 (State.dmaRead s i).2 := by
  unfold State.dmaRead
  try dsimp only
  repeat' first
    | with_reducible assumption
    | with_reducible rfl
    | with_reducible apply State.drawn_keeps
    | dsimp only
    | split

theorem State.dmaWrite_keeps {s0 : State} {s : State} (i : Nat) (w : Word)
    (hk : Keeps s0 s) : Keeps s0 (State.dmaWrite s i w) := by
  unfold State.dmaWrite
  refine Keeps.banks (fun hw => ?_) hk
  dsimp only [List.foldl]
  exact Map.wf_set (fun _ => 0) _ _ _ (Map.wf_set (fun _ => 0) _ _ _ (Map.wf_set (fun _ => 0) _ _ _
    (Map.wf_set (fun _ => 0) _ _ _ hw)))

theorem State.tempoFromCount_keeps {s0 : State} {s : State} (e : Nat) (x : Nat)
    (hk : Keeps s0 s) : Keeps s0 (State.tempoFromCount s e x) := by
  unfold State.tempoFromCount
  try dsimp only
  repeat' first
    | with_reducible assumption
    | with_reducible rfl
    | with_reducible apply State.setLive_keeps

theorem State.pcThresh_keeps {s0 : State} {s : State} (e : Nat) (k : Nat)
    (hk : Keeps s0 s) : Keeps s0 (State.pcThresh s e k) := by
  unfold State.pcThresh
  try dsimp only
  repeat' first
    | with_reducible assumption
    | with_reducible rfl
    | with_reducible apply State.setFld_keeps
    | with_reducible apply State.setOn_keeps
    | with_reducible apply State.raiseBit_keeps
    | dsimp only
    | split

theorem State.pcMatch_keeps {s0 : State} {s : State} (e : Nat) (k : Nat)
    (hk : Keeps s0 s) : Keeps s0 (State.pcMatch s e k) := by
  unfold State.pcMatch
  try dsimp only
  repeat' first
    | with_reducible assumption
    | with_reducible rfl
    | with_reducible apply State.pcThresh_keeps
    | dsimp only
    | split

theorem State.pcWrapped_keeps {s0 : State} {s : State} (e : Nat) (k : Nat)
    (hk : Keeps s0 s) : Keeps s0 (State.pcWrapped s e k) := by
  unfold State.pcWrapped
  try dsimp only
  repeat' first
    | with_reducible assumption
    | with_reducible rfl
    | with_reducible apply State.setFld_keeps
    | with_reducible apply State.raiseBit_keeps
    | dsimp only
    | split

theorem State.pcLand_keeps {s0 : State} {s : State} (e : Nat) (k : Nat) (n : Nat)
    (hk : Keeps s0 s) : Keeps s0 (State.pcLand s e k n) := by
  unfold State.pcLand
  try dsimp only
  repeat' first
    | with_reducible assumption
    | with_reducible rfl
    | with_reducible apply State.pcWrapped_keeps
    | dsimp only
    | split

theorem State.pcJudge_keeps {s0 : State} {s : State} (e : Nat) (k : Nat) (n : Nat)
    (hk : Keeps s0 s) : Keeps s0 (State.pcJudge s e k n) := by
  unfold State.pcJudge
  try dsimp only
  repeat' first
    | with_reducible assumption
    | with_reducible rfl
    | with_reducible apply State.pcMatch_keeps
    | dsimp only
    | split

theorem State.pcSettle_keeps {s0 : State} {s : State} (places : List (Nat × Nat)) (n : Nat × Nat → Nat)
    (hk : Keeps s0 s) : Keeps s0 (State.pcSettle s places n) := by
  unfold State.pcSettle
  try dsimp only
  repeat' first
    | with_reducible assumption
    | with_reducible rfl
    | with_reducible apply State.pcLand_keeps
    | with_reducible apply State.pcJudge_keeps
    | with_reducible apply Keeps.foldl
    | with_reducible apply Keeps.foldl_snd
    | with_reducible apply Keeps.foldl_fst
    | dsimp only
    | split
    | intro _

theorem State.pcAdvance_keeps {s0 : State} {s : State} (e : Nat) (fix : Option (Nat × Nat))
    (hk : Keeps s0 s) : Keeps s0 (State.pcAdvance s e fix) := by
  unfold State.pcAdvance
  try dsimp only
  repeat' first
    | with_reducible assumption
    | with_reducible rfl
    | with_reducible apply State.setLive_keeps
    | with_reducible apply State.setFld_keeps
    | with_reducible apply State.pcSettle_keeps
    | with_reducible apply Keeps.foldl
    | with_reducible apply Keeps.foldl_snd
    | with_reducible apply Keeps.foldl_fst
    | dsimp only
    | split
    | intro _
    | with_reducible apply Keeps.upd

theorem State.pcSample_keeps {s0 : State} {s : State} (e : Nat)
    (hk : Keeps s0 s) : Keeps s0 (State.pcSample s e) := by
  unfold State.pcSample
  try dsimp only
  repeat' first
    | with_reducible assumption
    | with_reducible rfl
    | with_reducible apply State.pcAdvance_keeps

theorem State.pcGiven_keeps {s0 : State} {s : State} (e : Nat) (k : Nat) (n : Nat)
    (hk : Keeps s0 s) : Keeps s0 (State.pcGiven s e k n) := by
  unfold State.pcGiven
  try dsimp only
  repeat' first
    | with_reducible assumption
    | with_reducible rfl
    | with_reducible apply State.pcAdvance_keeps
    | dsimp only
    | split

theorem State.pcCorrected_keeps {s0 : State} {s : State} (e : Nat)
    (hk : Keeps s0 s) : Keeps s0 (State.pcCorrected s e) := by
  unfold State.pcCorrected
  try dsimp only
  repeat' first
    | with_reducible assumption
    | with_reducible rfl
    | with_reducible apply State.setFld_keeps
    | with_reducible apply State.pcSettle_keeps
    | with_reducible apply Keeps.foldl
    | with_reducible apply Keeps.foldl_snd
    | with_reducible apply Keeps.foldl_fst
    | dsimp only
    | split
    | intro _

theorem State.freeze_keeps {s0 : State} {s : State} (e : Nat) (on_ : Bool)
    (hk : Keeps s0 s) : Keeps s0 (State.freeze s e on_) := by
  unfold State.freeze
  try dsimp only
  repeat' first
    | with_reducible assumption
    | with_reducible rfl
    | with_reducible apply State.setFld_keeps
    | with_reducible apply State.setOn_keeps
    | with_reducible apply State.tempoFromCount_keeps
    | with_reducible apply State.pcSample_keeps
    | dsimp only
    | split

theorem State.pcSnapshot_keeps {s0 : State} {s : State} (e : Nat)
    (hk : Keeps s0 s) : Keeps s0 (State.pcSnapshot s e) := by
  unfold State.pcSnapshot
  try dsimp only
  repeat' first
    | with_reducible assumption
    | with_reducible rfl
    | with_reducible apply State.setFld_keeps
    | with_reducible apply State.pcSample_keeps
    | with_reducible apply Keeps.foldl
    | with_reducible apply Keeps.foldl_snd
    | with_reducible apply Keeps.foldl_fst
    | dsimp only
    | split
    | intro _

theorem State.pcClear_keeps {s0 : State} {s : State} (e : Nat)
    (hk : Keeps s0 s) : Keeps s0 (State.pcClear s e) := by
  unfold State.pcClear
  try dsimp only
  repeat' first
    | with_reducible assumption
    | with_reducible rfl
    | with_reducible apply State.setFld_keeps
    | with_reducible apply State.tempoFromCount_keeps
    | with_reducible apply State.pcSample_keeps
    | with_reducible apply Keeps.foldl
    | with_reducible apply Keeps.foldl_snd
    | with_reducible apply Keeps.foldl_fst
    | dsimp only
    | split
    | intro _

theorem State.pcWrap_keeps {s0 : State} {s : State} (e : Nat) (k : Nat)
    (hk : Keeps s0 s) : Keeps s0 (State.pcWrap s e k) := by
  unfold State.pcWrap
  try dsimp only
  repeat' first
    | with_reducible assumption
    | with_reducible rfl
    | with_reducible apply State.pcGiven_keeps

theorem State.pcReached_keeps {s0 : State} {s : State} (e : Nat) (k : Nat)
    (hk : Keeps s0 s) : Keeps s0 (State.pcReached s e k) := by
  unfold State.pcReached
  try dsimp only
  repeat' first
    | with_reducible assumption
    | with_reducible rfl
    | with_reducible apply State.pcGiven_keeps
    | dsimp only
    | split

theorem State.pcHandOver_keeps {s0 : State} {s : State} (e : Nat)
    (hk : Keeps s0 s) : Keeps s0 (State.pcHandOver s e) := by
  unfold State.pcHandOver
  try dsimp only
  repeat' first
    | with_reducible assumption
    | with_reducible rfl
    | with_reducible apply State.setVal_keeps
    | with_reducible apply State.pcSample_keeps
    | with_reducible apply Keeps.foldl
    | with_reducible apply Keeps.foldl_snd
    | with_reducible apply Keeps.foldl_fst
    | dsimp only
    | split
    | intro _
    | with_reducible apply Keeps.upd

theorem State.cvuConfig_keeps {s0 : State} {s : State} (u : Nat) (algo : Nat)
    (hk : Keeps s0 s) : Keeps s0 (State.cvuConfig s u algo) := by
  unfold State.cvuConfig
  try dsimp only
  repeat' first
    | with_reducible assumption
    | with_reducible rfl
    | with_reducible apply State.setFld_keeps

theorem State.cvuFeed_keeps {s0 : State} {s : State} (u : Nat) (bs : List Byte)
    (hk : Keeps s0 s) : Keeps s0 (State.cvuFeed s u bs) := by
  unfold State.cvuFeed
  try dsimp only
  repeat' first
    | with_reducible assumption
    | with_reducible rfl
    | with_reducible apply State.setFld_keeps

theorem State.cvuStart_keeps {s0 : State} {s : State} (u : Nat)
    (hk : Keeps s0 s) : Keeps s0 (State.cvuStart s u) := by
  unfold State.cvuStart
  try dsimp only
  repeat' first
    | with_reducible assumption
    | with_reducible rfl
    | with_reducible apply State.setOn_keeps
    | dsimp only
    | split
    | intro _
    | with_reducible apply Keeps.upd

theorem State.cvuDone_keeps {s0 : State} {s : State} (u : Nat) (uncorr : Bool)
    (hk : Keeps s0 s) : Keeps s0 (State.cvuDone s u uncorr) := by
  unfold State.cvuDone
  try dsimp only
  repeat' first
    | with_reducible assumption
    | with_reducible rfl
    | with_reducible apply State.setFld_keeps
    | with_reducible apply State.setOn_keeps
    | with_reducible apply State.drawn_keeps
    | with_reducible apply State.cvuFeed_keeps
    | dsimp only
    | split
    | intro _
    | with_reducible apply Keeps.upd

end Sys2Proof.Machine
end

