-- ==== Sys2Proof/Laws/KeepsCollector.lean ====
section
/-! SUPPORT. What the operations of Machine/Collector.lean keep (Keeps). -/

namespace Sys2Proof.Machine

theorem State.modFaults_keeps {s0 : State} {s : State} (f : Faults → Faults)
    (hk : Keeps s0 s) : Keeps s0 (State.modFaults s f) := by
  unfold State.modFaults
  try dsimp only
  repeat' first
    | with_reducible assumption
    | with_reducible rfl
    | dsimp only
    | split
    | intro _
    | with_reducible apply Keeps.upd

theorem State.fatalNow_keeps {s0 : State} {s : State}
    (hk : Keeps s0 s) : Keeps s0 (State.fatalNow s) := by
  unfold State.fatalNow
  try dsimp only
  repeat' first
    | with_reducible assumption
    | with_reducible rfl
    | with_reducible apply State.setOn_keeps
    | with_reducible apply State.modLane_keeps
    | with_reducible apply State.showOuts_keeps
    | with_reducible apply State.tandemDrop_keeps
    | with_reducible apply State.modFaults_keeps
    | with_reducible apply Keeps.foldl
    | with_reducible apply Keeps.foldl_snd
    | with_reducible apply Keeps.foldl_fst
    | dsimp only
    | split
    | intro _

theorem State.stopSpare_keeps {s0 : State} {s : State} (p : Nat)
    (hk : Keeps s0 s) : Keeps s0 (State.stopSpare s p) := by
  unfold State.stopSpare
  try dsimp only
  repeat' first
    | with_reducible assumption
    | with_reducible rfl
    | with_reducible apply State.modFaults_keeps
    | dsimp only
    | split

theorem State.revoke_keeps {s0 : State} {s : State} (sub : Nat) (inst : Nat) (to_ : Nat)
    (hk : Keeps s0 s) : Keeps s0 (State.revoke s sub inst to_) := by
  unfold State.revoke
  try dsimp only
  repeat' first
    | with_reducible assumption
    | with_reducible rfl
    | with_reducible apply State.raise_keeps
    | with_reducible apply State.flushLane_keeps
    | with_reducible apply State.engineState_keeps
    | with_reducible apply State.advanceParty_keeps
    | with_reducible apply State.revokeBanks_keeps
    | with_reducible apply State.modFaults_keeps
    | with_reducible apply State.stopSpare_keeps
    | with_reducible apply Keeps.foldl
    | with_reducible apply Keeps.foldl_snd
    | with_reducible apply Keeps.foldl_fst
    | dsimp only
    | split
    | intro _

theorem State.pairFails_keeps {s0 : State} {s : State}
    (hk : Keeps s0 s) : Keeps s0 (State.pairFails s) := by
  unfold State.pairFails
  try dsimp only
  repeat' first
    | with_reducible assumption
    | with_reducible rfl
    | with_reducible apply State.endWhere_keeps
    | with_reducible apply State.modFaults_keeps
    | with_reducible apply State.revoke_keeps

theorem State.pairTakes_keeps {s0 : State} {s : State}
    (hk : Keeps s0 s) : Keeps s0 (State.pairTakes s) := by
  unfold State.pairTakes
  try dsimp only
  repeat' first
    | with_reducible assumption
    | with_reducible rfl
    | with_reducible apply State.setOn_keeps
    | with_reducible apply State.engineState_keeps
    | with_reducible apply State.modFaults_keeps
    | with_reducible apply Keeps.foldl
    | with_reducible apply Keeps.foldl_snd
    | with_reducible apply Keeps.foldl_fst
    | dsimp only
    | split
    | intro _

theorem State.setReinit_keeps {s0 : State} {s : State} (sub : Nat) (inst : Nat) (r : Reinit)
    (hk : Keeps s0 s) : Keeps s0 (State.setReinit s sub inst r) := by
  unfold State.setReinit
  try dsimp only
  repeat' first
    | with_reducible assumption
    | with_reducible rfl
    | with_reducible apply State.modFaults_keeps

theorem State.showReinit_keeps {s0 : State} {s : State}
    (hk : Keeps s0 s) : Keeps s0 (State.showReinit s) := by
  unfold State.showReinit
  try dsimp only
  repeat' first
    | with_reducible assumption
    | with_reducible rfl
    | with_reducible apply State.setOn_keeps

theorem State.reframe_keeps {s0 : State} {s : State} (l : Nat)
    (hk : Keeps s0 s) : Keeps s0 (State.reframe s l) := by
  unfold State.reframe
  try dsimp only
  repeat' first
    | with_reducible assumption
    | with_reducible rfl
    | with_reducible apply State.modLane_keeps
    | with_reducible apply State.quietLane_keeps
    | with_reducible apply State.framerStart_keeps
    | dsimp only
    | split

theorem State.remap_keeps {s0 : State} {s : State} (l : Nat)
    (hk : Keeps s0 s) : Keeps s0 (State.remap s l) := by
  unfold State.remap
  try dsimp only
  repeat' first
    | with_reducible assumption
    | with_reducible rfl
    | with_reducible apply State.modLane_keeps

theorem State.restage_keeps {s0 : State} {s : State}
    (hk : Keeps s0 s) : Keeps s0 (State.restage s) := by
  unfold State.restage
  try dsimp only
  repeat' first
    | with_reducible assumption
    | with_reducible rfl
    | with_reducible apply State.modSession_keeps
    | with_reducible apply State.discardHeld_keeps
    | with_reducible apply State.freeStage_keeps
    | dsimp only
    | split
    | intro _

theorem State.loopRestart_keeps {s0 : State} {s : State}
    (hk : Keeps s0 s) : Keeps s0 (State.loopRestart s) := by
  unfold State.loopRestart
  try dsimp only
  repeat' first
    | with_reducible assumption
    | with_reducible rfl
    | with_reducible apply State.setSelected_keeps
    | with_reducible apply State.setLoop_keeps
    | with_reducible apply State.settle_keeps

theorem State.resynth_keeps {s0 : State} {s : State} (n : Nat)
    (hk : Keeps s0 s) : Keeps s0 (State.resynth s n) := by
  unfold State.resynth
  try dsimp only
  repeat' first
    | with_reducible assumption
    | with_reducible rfl
    | with_reducible apply State.setOut_keeps
    | with_reducible apply State.showOut_keeps
    | dsimp only
    | split
    | intro _
    | with_reducible apply Keeps.upd

theorem State.protRestart_keeps {s0 : State} {s : State}
    (hk : Keeps s0 s) : Keeps s0 (State.protRestart s) := by
  unfold State.protRestart
  try dsimp only
  repeat' first
    | with_reducible assumption
    | with_reducible rfl
    | dsimp only
    | split
    | intro _
    | with_reducible apply Keeps.upd

theorem State.reControl_keeps {s0 : State} {s : State} (inst : Nat)
    (hk : Keeps s0 s) : Keeps s0 (State.reControl s inst) := by
  unfold State.reControl
  try dsimp only
  repeat' first
    | with_reducible assumption
    | with_reducible rfl
    | with_reducible apply State.setOn_keeps
    | with_reducible apply State.setRingPort_keeps
    | with_reducible apply State.showService_keeps
    | with_reducible apply State.macRestart_keeps
    | with_reducible apply State.engineState_keeps
    | with_reducible apply State.stopSpare_keeps
    | with_reducible apply State.pairFails_keeps
    | with_reducible apply Keeps.foldl
    | with_reducible apply Keeps.foldl_snd
    | with_reducible apply Keeps.foldl_fst
    | dsimp only
    | split
    | intro _

theorem State.reinitAct_keeps {s0 : State} {s : State} (sub : Nat) (inst : Nat)
    (hk : Keeps s0 s) : Keeps s0 (State.reinitAct s sub inst) := by
  unfold State.reinitAct
  try dsimp only
  repeat' first
    | with_reducible assumption
    | with_reducible rfl
    | with_reducible apply State.modLane_keeps
    | with_reducible apply State.flushLane_keeps
    | with_reducible apply State.reseedLane_keeps
    | with_reducible apply State.clearPaths_keeps
    | with_reducible apply State.bringUp_keeps
    | with_reducible apply State.pmStep_keeps
    | with_reducible apply State.endWhere_keeps
    | with_reducible apply State.engineState_keeps
    | with_reducible apply State.clearBank_keeps
    | with_reducible apply State.reframe_keeps
    | with_reducible apply State.remap_keeps
    | with_reducible apply State.restage_keeps
    | with_reducible apply State.loopRestart_keeps
    | with_reducible apply State.resynth_keeps
    | with_reducible apply State.protRestart_keeps
    | with_reducible apply State.reControl_keeps
    | dsimp only
    | split
    | intro _
    | with_reducible apply Keeps.upd

theorem State.escalate_keeps {s0 : State} {s : State} (sub : Nat) (inst : Nat)
    (hk : Keeps s0 s) : Keeps s0 (State.escalate s sub inst) := by
  unfold State.escalate
  try dsimp only
  repeat' first
    | with_reducible assumption
    | with_reducible rfl
    | with_reducible apply State.raise_keeps
    | with_reducible apply State.laneFault_keeps
    | with_reducible apply State.engineState_keeps
    | with_reducible apply State.modFaults_keeps
    | with_reducible apply State.setReinit_keeps
    | with_reducible apply State.showReinit_keeps
    | with_reducible apply Keeps.foldl
    | with_reducible apply Keeps.foldl_snd
    | with_reducible apply Keeps.foldl_fst
    | dsimp only
    | split
    | intro _

theorem State.reinitStart_keeps {s0 : State} {s : State} (sub : Nat) (inst : Nat) (record : Nat) (byHost : Bool)
    (hk : Keeps s0 s) : Keeps s0 (State.reinitStart s sub inst record byHost) := by
  unfold State.reinitStart
  try dsimp only
  repeat' first
    | with_reducible assumption
    | with_reducible rfl
    | with_reducible apply State.setFld_keeps
    | with_reducible apply State.advanceParty_keeps
    | with_reducible apply State.setReinit_keeps
    | with_reducible apply State.showReinit_keeps
    | with_reducible apply State.reinitAct_keeps
    | with_reducible apply State.escalate_keeps
    | dsimp only
    | split

theorem State.showOutstanding_keeps {s0 : State} {s : State}
    (hk : Keeps s0 s) : Keeps s0 (State.showOutstanding s) := by
  unfold State.showOutstanding
  try dsimp only
  repeat' first
    | with_reducible assumption
    | with_reducible rfl
    | with_reducible apply State.setFld_keeps

theorem State.settleRecords_keeps {s0 : State} {s : State} (sub : Nat) (inst : Nat) (record : Nat)
    (hk : Keeps s0 s) : Keeps s0 (State.settleRecords s sub inst record) := by
  unfold State.settleRecords
  try dsimp only
  repeat' first
    | with_reducible assumption
    | with_reducible rfl
    | with_reducible apply State.modFaults_keeps
    | with_reducible apply State.showOutstanding_keeps

theorem State.reinitEnd_keeps {s0 : State} {s : State} (sub : Nat) (inst : Nat)
    (hk : Keeps s0 s) : Keeps s0 (State.reinitEnd s sub inst) := by
  unfold State.reinitEnd
  try dsimp only
  repeat' first
    | with_reducible assumption
    | with_reducible rfl
    | with_reducible apply State.setOn_keeps
    | with_reducible apply State.apsEval_keeps
    | with_reducible apply State.engineState_keeps
    | with_reducible apply State.returnBank_keeps
    | with_reducible apply State.modFaults_keeps
    | with_reducible apply Keeps.foldl
    | with_reducible apply Keeps.foldl_snd
    | with_reducible apply Keeps.foldl_fst
    | dsimp only
    | split
    | intro _
    | with_reducible apply Keeps.upd

theorem State.reinitDone_keeps {s0 : State} {s : State} (sub : Nat) (inst : Nat)
    (hk : Keeps s0 s) : Keeps s0 (State.reinitDone s sub inst) := by
  unfold State.reinitDone
  try dsimp only
  repeat' first
    | with_reducible assumption
    | with_reducible rfl
    | with_reducible apply State.setReinit_keeps
    | with_reducible apply State.showReinit_keeps
    | with_reducible apply State.reinitStart_keeps
    | with_reducible apply State.settleRecords_keeps
    | with_reducible apply State.reinitEnd_keeps
    | dsimp only
    | split

theorem State.reinitLate_keeps {s0 : State} {s : State} (sub : Nat) (inst : Nat)
    (hk : Keeps s0 s) : Keeps s0 (State.reinitLate s sub inst) := by
  unfold State.reinitLate
  try dsimp only
  repeat' first
    | with_reducible assumption
    | with_reducible rfl
    | with_reducible apply State.escalate_keeps
    | dsimp only
    | split

theorem State.loseRetention_keeps {s0 : State} {s : State}
    (hk : Keeps s0 s) : Keeps s0 (State.loseRetention s) := by
  unfold State.loseRetention
  try dsimp only
  repeat' first
    | with_reducible assumption
    | with_reducible rfl
    | with_reducible apply State.drawn_keeps
    | with_reducible apply State.modFaults_keeps
    | dsimp only
    | split
    | intro _
    | with_reducible apply Keeps.upd

theorem State.loseWord_keeps {s0 : State} {s : State} (l : Nat)
    (hk : Keeps s0 s) : Keeps s0 (State.loseWord s l) := by
  unfold State.loseWord
  try dsimp only
  repeat' first
    | with_reducible assumption
    | with_reducible rfl
    | with_reducible apply State.modLane_keeps
    | dsimp only
    | split
    | intro _
    | with_reducible apply Keeps.upd

theorem State.badEntry_keeps {s0 : State} {s : State} (f : FaultIn)
    (hk : Keeps s0 s) : Keeps s0 (State.badEntry s f) := by
  unfold State.badEntry
  try dsimp only
  repeat' first
    | with_reducible assumption
    | with_reducible rfl
    | with_reducible apply State.raise_keeps
    | dsimp only
    | split
    | intro _
    | with_reducible apply Keeps.upd

theorem State.bankError_keeps {s0 : State} {s : State} (f : FaultIn)
    (hk : Keeps s0 s) : Keeps s0 (State.bankError s f) := by
  unfold State.bankError
  try dsimp only
  repeat' first
    | with_reducible assumption
    | with_reducible rfl
    | with_reducible apply State.bump_keeps
    | with_reducible apply State.raise_keeps
    | with_reducible apply State.pcCorrected_keeps
    | dsimp only
    | split

theorem State.contain_keeps {s0 : State} {s : State} (f : FaultIn) (record : Nat)
    (hk : Keeps s0 s) : Keeps s0 (State.contain s f record).2 := by
  unfold State.contain
  try dsimp only
  repeat' first
    | with_reducible assumption
    | with_reducible rfl
    | with_reducible apply State.setOn_keeps
    | with_reducible apply State.laneFault_keeps
    | with_reducible apply State.endWhere_keeps
    | with_reducible apply State.clearBank_keeps
    | with_reducible apply State.revoke_keeps
    | with_reducible apply State.pairFails_keeps
    | with_reducible apply State.reinitStart_keeps
    | with_reducible apply State.loseRetention_keeps
    | with_reducible apply State.loseWord_keeps
    | with_reducible apply State.badEntry_keeps
    | with_reducible apply State.bankError_keeps
    | dsimp only
    | split

theorem State.openRecord_keeps {s0 : State} {s : State} (f : FaultIn) (cls : Nat) (step : Nat)
    (hk : Keeps s0 s) : Keeps s0 (State.openRecord s f cls step) := by
  unfold State.openRecord
  try dsimp only
  repeat' first
    | with_reducible assumption
    | with_reducible rfl
    | with_reducible apply State.setFld_keeps
    | with_reducible apply State.bump_keeps
    | with_reducible apply State.raise_keeps
    | with_reducible apply State.modFaults_keeps
    | with_reducible apply State.showOutstanding_keeps
    | dsimp only
    | split

theorem State.joinRecord_keeps {s0 : State} {s : State} (n : Nat) (f : FaultIn) (cls : Nat) (step : Nat)
    (hk : Keeps s0 s) : Keeps s0 (State.joinRecord s n f cls step) := by
  unfold State.joinRecord
  try dsimp only
  repeat' first
    | with_reducible assumption
    | with_reducible rfl
    | with_reducible apply State.modFaults_keeps
    | with_reducible apply State.showOutstanding_keeps

theorem State.raiseWith_keeps {s0 : State} {s : State} (f : FaultIn) (acts : Bool)
    (hk : Keeps s0 s) : Keeps s0 (State.raiseWith s f acts) := by
  unfold State.raiseWith
  try dsimp only
  repeat' first
    | with_reducible assumption
    | with_reducible rfl
    | with_reducible apply State.bump_keeps
    | with_reducible apply State.raise_keeps
    | with_reducible apply State.modFaults_keeps
    | with_reducible apply State.fatalNow_keeps
    | with_reducible apply State.contain_keeps
    | with_reducible apply State.openRecord_keeps
    | with_reducible apply State.joinRecord_keeps
    | dsimp only
    | split

theorem State.raiseFault_keeps {s0 : State} {s : State} (f : FaultIn)
    (hk : Keeps s0 s) : Keeps s0 (State.raiseFault s f) := by
  unfold State.raiseFault
  try dsimp only
  repeat' first
    | with_reducible assumption
    | with_reducible rfl
    | with_reducible apply State.raiseWith_keeps

theorem State.fatalWritten_keeps {s0 : State} {s : State}
    (hk : Keeps s0 s) : Keeps s0 (State.fatalWritten s) := by
  unfold State.fatalWritten
  try dsimp only
  repeat' first
    | with_reducible assumption
    | with_reducible rfl
    | with_reducible apply State.modFaults_keeps
    | dsimp only
    | split

theorem State.latchFaults_keeps {s0 : State} {s : State} (n : Nat)
    (hk : Keeps s0 s) : Keeps s0 (State.latchFaults s n) := by
  unfold State.latchFaults
  try dsimp only
  repeat' first
    | with_reducible assumption
    | with_reducible rfl
    | with_reducible apply State.modSession_keeps
    | dsimp only
    | split
    | intro _

theorem State.ackFault_keeps {s0 : State} {s : State} (record : Nat)
    (hk : Keeps s0 s) : Keeps s0 (State.ackFault s record) := by
  unfold State.ackFault
  try dsimp only
  repeat' first
    | with_reducible assumption
    | with_reducible rfl
    | with_reducible apply State.modFaults_keeps
    | with_reducible apply State.showOutstanding_keeps

theorem State.declareSession_keeps {s0 : State} {s : State} (n : Nat)
    (hk : Keeps s0 s) : Keeps s0 (State.declareSession s n) := by
  unfold State.declareSession
  try dsimp only
  repeat' first
    | with_reducible assumption
    | with_reducible rfl
    | with_reducible apply State.raise_keeps
    | with_reducible apply State.abandonStage_keeps
    | with_reducible apply State.advanceGen_keeps
    | with_reducible apply State.raiseWith_keeps

theorem State.declareFault_keeps {s0 : State} {s t : State} (o : Nat) (ht : s.declareFault o = some t)
    (hk : Keeps s0 s) : Keeps s0 t := by
  unfold State.declareFault at ht
  repeat' split at ht
  all_goals cases ht
  all_goals repeat' first
    | with_reducible assumption
    | with_reducible apply State.declareSession_keeps
    | with_reducible apply State.raiseFault_keeps

end Sys2Proof.Machine
end

