-- ==== Sys2Proof/Laws/KeepsPower.lean ====
section
/-! SUPPORT. What the operations of Machine/Power.lean keep (Keeps). -/

namespace Sys2Proof.Machine

theorem State.setCore_keeps {s0 : State} {s : State} (c : Nat)
    (hk : Keeps s0 s) : Keeps s0 (State.setCore s c) := by
  unfold State.setCore
  try dsimp only
  repeat' first
    | with_reducible assumption
    | with_reducible rfl
    | with_reducible apply State.setFld_keeps
    | with_reducible apply State.bump_keeps
    | dsimp only
    | split

theorem State.clampCore_keeps {s0 : State} {s : State}
    (hk : Keeps s0 s) : Keeps s0 (State.clampCore s) := by
  unfold State.clampCore
  try dsimp only
  repeat' first
    | with_reducible assumption
    | with_reducible rfl
    | with_reducible apply State.setCore_keeps

theorem State.stepTaken_keeps {s0 : State} {s : State}
    (hk : Keeps s0 s) : Keeps s0 (State.stepTaken s) := by
  unfold State.stepTaken
  try dsimp only
  repeat' first
    | with_reducible assumption
    | with_reducible rfl
    | dsimp only
    | split
    | intro _
    | with_reducible apply Keeps.upd

theorem State.stepDown_keeps {s0 : State} {s : State}
    (hk : Keeps s0 s) : Keeps s0 (State.stepDown s) := by
  unfold State.stepDown
  try dsimp only
  repeat' first
    | with_reducible assumption
    | with_reducible rfl
    | with_reducible apply State.setCore_keeps
    | with_reducible apply State.stepTaken_keeps
    | dsimp only
    | split

theorem State.stepUp_keeps {s0 : State} {s : State} (k : Nat)
    (hk : Keeps s0 s) : Keeps s0 (State.stepUp s k) := by
  unfold State.stepUp
  try dsimp only
  repeat' first
    | with_reducible assumption
    | with_reducible rfl
    | with_reducible apply State.raiseIf_keeps
    | with_reducible apply State.setCore_keeps
    | with_reducible apply State.stepTaken_keeps
    | dsimp only
    | split

theorem State.capClear_keeps {s0 : State} {s : State}
    (hk : Keeps s0 s) : Keeps s0 (State.capClear s) := by
  unfold State.capClear
  try dsimp only
  repeat' first
    | with_reducible assumption
    | with_reducible rfl
    | with_reducible apply State.setFld_keeps
    | with_reducible apply State.setOn_keeps
    | dsimp only
    | split
    | intro _
    | with_reducible apply Keeps.upd

theorem State.capWatch_keeps {s0 : State} {s : State}
    (hk : Keeps s0 s) : Keeps s0 (State.capWatch s) := by
  unfold State.capWatch
  try dsimp only
  repeat' first
    | with_reducible assumption
    | with_reducible rfl
    | with_reducible apply State.setFld_keeps
    | with_reducible apply State.setOn_keeps
    | with_reducible apply State.bump_keeps
    | with_reducible apply State.raise_keeps
    | with_reducible apply State.capClear_keeps
    | dsimp only
    | split
    | intro _
    | with_reducible apply Keeps.upd

theorem State.supplyCount_keeps {s0 : State} {s : State}
    (hk : Keeps s0 s) : Keeps s0 (State.supplyCount s) := by
  unfold State.supplyCount
  try dsimp only
  repeat' first
    | with_reducible assumption
    | with_reducible rfl
    | dsimp only
    | split
    | intro _
    | with_reducible apply Keeps.upd

theorem State.supplyRows_keeps {s0 : State} {s : State}
    (hk : Keeps s0 s) : Keeps s0 (State.supplyRows s) := by
  unfold State.supplyRows
  try dsimp only
  repeat' first
    | with_reducible assumption
    | with_reducible rfl
    | with_reducible apply State.stepDown_keeps
    | with_reducible apply State.stepUp_keeps
    | dsimp only
    | split
    | intro _
    | with_reducible apply Keeps.upd

theorem State.supplyLoop_keeps {s0 : State} {s : State}
    (hk : Keeps s0 s) : Keeps s0 (State.supplyLoop s) := by
  unfold State.supplyLoop
  try dsimp only
  repeat' first
    | with_reducible assumption
    | with_reducible rfl
    | with_reducible apply State.bump_keeps
    | with_reducible apply State.capWatch_keeps
    | with_reducible apply State.supplyCount_keeps
    | with_reducible apply State.supplyRows_keeps
    | dsimp only
    | split

theorem State.supplyAfter_keeps {s0 : State} {s : State} (before : Option Nat)
    (hk : Keeps s0 s) : Keeps s0 (State.supplyAfter s before) := by
  unfold State.supplyAfter
  try dsimp only
  repeat' first
    | with_reducible assumption
    | with_reducible rfl
    | with_reducible apply State.supplyLoop_keeps
    | dsimp only
    | split

theorem State.egressRelease_keeps {s0 : State} {s : State} (l : Nat) (fn : Nat)
    (hk : Keeps s0 s) : Keeps s0 (State.egressRelease s l fn) := by
  unfold State.egressRelease
  try dsimp only
  repeat' first
    | with_reducible assumption
    | with_reducible rfl
    | with_reducible apply State.asOf_keeps
    | with_reducible apply State.releaseFrame_keeps
    | with_reducible apply State.ahead_keeps
    | with_reducible apply State.tandemYield_keeps
    | with_reducible apply State.supplyAfter_keeps
    | dsimp only
    | split
    | intro _

theorem State.egressComplete_keeps {s0 : State} {s : State} (l : Nat) (fn : Nat)
    (hk : Keeps s0 s) : Keeps s0 (State.egressComplete s l fn) := by
  unfold State.egressComplete
  try dsimp only
  repeat' first
    | with_reducible assumption
    | with_reducible rfl
    | with_reducible apply State.asOf_keeps
    | with_reducible apply State.completeFrame_keeps
    | with_reducible apply State.ahead_keeps
    | with_reducible apply State.tandemYield_keeps
    | with_reducible apply State.supplyAfter_keeps
    | dsimp only
    | split
    | intro _

theorem State.supplyIdle_keeps {s0 : State} {s : State}
    (hk : Keeps s0 s) : Keeps s0 (State.supplyIdle s) := by
  unfold State.supplyIdle
  try dsimp only
  repeat' first
    | with_reducible assumption
    | with_reducible rfl
    | with_reducible apply State.worstSlack_keeps
    | with_reducible apply State.supplyAfter_keeps
    | dsimp only
    | split

theorem State.showPower_keeps {s0 : State} {s : State}
    (hk : Keeps s0 s) : Keeps s0 (State.showPower s) := by
  unfold State.showPower
  try dsimp only
  repeat' first
    | with_reducible assumption
    | with_reducible rfl
    | with_reducible apply State.setFld_keeps

theorem State.railRead_keeps {s0 : State} {s : State} (rs : List (Nat × Nat × Nat))
    (hk : Keeps s0 s) : Keeps s0 (State.railRead s rs) := by
  unfold State.railRead
  try dsimp only
  repeat' first
    | with_reducible assumption
    | with_reducible rfl
    | with_reducible apply State.setFld_keeps
    | with_reducible apply State.showPower_keeps
    | with_reducible apply Keeps.foldl
    | with_reducible apply Keeps.foldl_snd
    | with_reducible apply Keeps.foldl_fst
    | dsimp only
    | split
    | intro _

theorem State.throttle_keeps {s0 : State} {s : State} (x : Int)
    (hk : Keeps s0 s) : Keeps s0 (State.throttle s x) := by
  unfold State.throttle
  try dsimp only
  repeat' first
    | with_reducible assumption
    | with_reducible rfl
    | with_reducible apply State.setOn_keeps
    | with_reducible apply State.raiseIf_keeps
    | dsimp only
    | split

theorem State.tempSample_keeps {s0 : State} {s : State} (temps : List Int)
    (hk : Keeps s0 s) : Keeps s0 (State.tempSample s temps) := by
  unfold State.tempSample
  try dsimp only
  repeat' first
    | with_reducible assumption
    | with_reducible rfl
    | with_reducible apply State.setFld_keeps
    | with_reducible apply State.raiseIf_keeps
    | with_reducible apply State.raiseFault_keeps
    | with_reducible apply State.throttle_keeps
    | dsimp only
    | split

theorem State.bayPower_keeps {s0 : State} {s : State} (b : Nat)
    (hk : Keeps s0 s) : Keeps s0 (State.bayPower s b) := by
  unfold State.bayPower
  try dsimp only
  repeat' first
    | with_reducible assumption
    | with_reducible rfl
    | with_reducible apply State.setVal_keeps
    | dsimp only
    | split

theorem State.laneOff_keeps {s0 : State} {s : State} (l : Nat)
    (hk : Keeps s0 s) : Keeps s0 (State.laneOff s l) := by
  unfold State.laneOff
  try dsimp only
  repeat' first
    | with_reducible assumption
    | with_reducible rfl
    | with_reducible apply State.modLane_keeps
    | with_reducible apply State.setMoving_keeps
    | with_reducible apply State.laneDown_keeps

theorem State.bayGate_keeps {s0 : State} {s : State} (b : Nat)
    (hk : Keeps s0 s) : Keeps s0 (State.bayGate s b) := by
  unfold State.bayGate
  try dsimp only
  repeat' first
    | with_reducible assumption
    | with_reducible rfl
    | with_reducible apply State.setVal_keeps
    | with_reducible apply State.laneOff_keeps
    | with_reducible apply Keeps.foldl
    | with_reducible apply Keeps.foldl_snd
    | with_reducible apply Keeps.foldl_fst
    | dsimp only
    | split

theorem State.setPower_keeps {s0 : State} {s : State} (x : Nat)
    (hk : Keeps s0 s) : Keeps s0 (State.setPower s x) := by
  unfold State.setPower
  try dsimp only
  repeat' first
    | with_reducible assumption
    | with_reducible rfl
    | with_reducible apply State.setFld_keeps
    | with_reducible apply State.raise_keeps

theorem State.lanesDark_keeps {s0 : State} {s : State}
    (hk : Keeps s0 s) : Keeps s0 (State.lanesDark s) := by
  unfold State.lanesDark
  try dsimp only
  repeat' first
    | with_reducible assumption
    | with_reducible rfl
    | with_reducible apply State.bayGate_keeps
    | with_reducible apply Keeps.foldl

theorem State.enterDoze_keeps {s0 : State} {s : State}
    (hk : Keeps s0 s) : Keeps s0 (State.enterDoze s) := by
  unfold State.enterDoze
  try dsimp only
  repeat' first
    | with_reducible assumption
    | with_reducible rfl
    | with_reducible apply State.banksFollow_keeps
    | with_reducible apply State.setCore_keeps
    | with_reducible apply State.stepTaken_keeps
    | with_reducible apply State.setPower_keeps
    | with_reducible apply State.lanesDark_keeps

theorem State.enterActive_keeps {s0 : State} {s : State}
    (hk : Keeps s0 s) : Keeps s0 (State.enterActive s) := by
  unfold State.enterActive
  try dsimp only
  repeat' first
    | with_reducible assumption
    | with_reducible rfl
    | with_reducible apply State.bringUp_keeps
    | with_reducible apply State.banksFollow_keeps
    | with_reducible apply State.bayPower_keeps
    | with_reducible apply State.setPower_keeps
    | with_reducible apply Keeps.foldl
    | with_reducible apply Keeps.foldl_snd
    | with_reducible apply Keeps.foldl_fst
    | dsimp only
    | split
    | intro _

theorem State.dormantPower_keeps {s0 : State} {s : State}
    (hk : Keeps s0 s) : Keeps s0 (State.dormantPower s) := by
  unfold State.dormantPower
  try dsimp only
  repeat' first
    | with_reducible assumption
    | with_reducible rfl
    | with_reducible apply State.setFld_keeps
    | with_reducible apply State.wipeBank_keeps
    | with_reducible apply Keeps.foldl
    | with_reducible apply Keeps.foldl_snd
    | with_reducible apply Keeps.foldl_fst
    | dsimp only
    | split
    | intro _
    | with_reducible apply Keeps.upd

theorem State.enterDormant_keeps {s0 : State} {s : State}
    (hk : Keeps s0 s) : Keeps s0 (State.enterDormant s) := by
  unfold State.enterDormant
  try dsimp only
  repeat' first
    | with_reducible assumption
    | with_reducible rfl
    | with_reducible apply State.endWhere_keeps
    | with_reducible apply State.setPower_keeps
    | with_reducible apply State.lanesDark_keeps
    | with_reducible apply State.dormantPower_keeps
    | dsimp only
    | split
    | intro _
    | with_reducible apply Keeps.upd

theorem State.powerApply_keeps {s0 : State} {s : State} (x : Nat)
    (hk : Keeps s0 s) : Keeps s0 (State.powerApply s x) := by
  unfold State.powerApply
  try dsimp only
  repeat' first
    | with_reducible assumption
    | with_reducible rfl
    | with_reducible apply State.enterDoze_keeps
    | with_reducible apply State.enterActive_keeps
    | with_reducible apply State.enterDormant_keeps
    | dsimp only
    | split

end Sys2Proof.Machine
end

