-- ==== Sys2Proof/Laws/KeepsVault.lean ====
section
/-! SUPPORT. What the operations of Machine/Vault.lean keep (Keeps). -/

namespace Sys2Proof.Machine

theorem State.modVault_keeps {s0 : State} {s : State} (f : Vault → Vault)
    (hk : Keeps s0 s) : Keeps s0 (State.modVault s f) := by
  unfold State.modVault
  try dsimp only
  repeat' first
    | with_reducible assumption
    | with_reducible rfl
    | dsimp only
    | split
    | intro _
    | with_reducible apply Keeps.upd

theorem State.showBusy_keeps {s0 : State} {s : State}
    (hk : Keeps s0 s) : Keeps s0 (State.showBusy s) := by
  unfold State.showBusy
  try dsimp only
  repeat' first
    | with_reducible assumption
    | with_reducible rfl
    | with_reducible apply State.setOn_keeps

theorem State.showKeys_keeps {s0 : State} {s : State}
    (hk : Keeps s0 s) : Keeps s0 (State.showKeys s) := by
  unfold State.showKeys
  try dsimp only
  repeat' first
    | with_reducible assumption
    | with_reducible rfl
    | with_reducible apply State.setFld_keeps
    | with_reducible apply State.setOn_keeps
    | with_reducible apply Keeps.foldl
    | with_reducible apply Keeps.foldl_snd
    | with_reducible apply Keeps.foldl_fst
    | dsimp only
    | split
    | intro _

theorem State.imageWord_keeps {s0 : State} {s : State} (i : Nat) (w : Word)
    (hk : Keeps s0 s) : Keeps s0 (State.imageWord s i w) := by
  unfold State.imageWord
  try dsimp only
  repeat' first
    | with_reducible assumption
    | with_reducible rfl
    | with_reducible apply State.modVault_keeps

theorem State.fwVerify_keeps {s0 : State} {s : State}
    (hk : Keeps s0 s) : Keeps s0 (State.fwVerify s).2 := by
  unfold State.fwVerify
  try dsimp only
  repeat' first
    | with_reducible assumption
    | with_reducible rfl
    | with_reducible apply State.modVault_keeps
    | with_reducible apply State.showBusy_keeps
    | dsimp only
    | split

theorem State.fwVerified_keeps {s0 : State} {s : State} (flashOk : Bool)
    (hk : Keeps s0 s) : Keeps s0 (State.fwVerified s flashOk) := by
  unfold State.fwVerified
  try dsimp only
  repeat' first
    | with_reducible assumption
    | with_reducible rfl
    | with_reducible apply State.setFld_keeps
    | with_reducible apply State.raiseIf_keeps
    | with_reducible apply State.modVault_keeps
    | with_reducible apply State.showBusy_keeps
    | dsimp only
    | split

theorem State.loadFrom_keeps {s0 : State} {s : State} (im : Image)
    (hk : Keeps s0 s) : Keeps s0 (State.loadFrom s im) := by
  unfold State.loadFrom
  try dsimp only
  repeat' first
    | with_reducible assumption
    | with_reducible rfl
    | with_reducible apply State.setFld_keeps
    | with_reducible apply State.setOn_keeps
    | with_reducible apply State.endWhere_keeps
    | dsimp only
    | split
    | intro _
    | with_reducible apply Keeps.upd

theorem State.fwActivate_keeps {s0 : State} {s : State}
    (hk : Keeps s0 s) : Keeps s0 (State.fwActivate s).2 := by
  unfold State.fwActivate
  try dsimp only
  repeat' first
    | with_reducible assumption
    | with_reducible rfl
    | with_reducible apply State.setFld_keeps
    | with_reducible apply State.modVault_keeps
    | with_reducible apply State.loadFrom_keeps
    | dsimp only
    | split

theorem State.setKeys_keeps {s0 : State} {s : State} (keys : Map (List Byte))
    (hk : Keeps s0 s) : Keeps s0 (State.setKeys s keys) := by
  unfold State.setKeys
  try dsimp only
  repeat' first
    | with_reducible assumption
    | with_reducible rfl
    | with_reducible apply State.modVault_keeps
    | with_reducible apply State.showKeys_keeps

theorem State.importFails_keeps {s0 : State} {s : State}
    (hk : Keeps s0 s) : Keeps s0 (State.importFails s).2 := by
  unfold State.importFails
  try dsimp only
  repeat' first
    | with_reducible assumption
    | with_reducible rfl
    | with_reducible apply State.raise_keeps

theorem State.importItem_keeps {s0 : State} {s : State} (item : List Word)
    (hk : Keeps s0 s) : Keeps s0 (State.importItem s item).2 := by
  unfold State.importItem
  try dsimp only
  repeat' first
    | with_reducible assumption
    | with_reducible rfl
    | with_reducible apply State.setKeys_keeps
    | with_reducible apply State.importFails_keeps
    | dsimp only
    | split

theorem State.importWord_keeps {s0 : State} {s : State} (n : Nat) (w : Word)
    (hk : Keeps s0 s) : Keeps s0 (State.importWord s n w).2 := by
  unfold State.importWord
  try dsimp only
  repeat' first
    | with_reducible assumption
    | with_reducible rfl
    | with_reducible apply State.setSession_keeps
    | with_reducible apply State.importItem_keeps
    | dsimp only
    | split

theorem State.rekeyWord_keeps {s0 : State} {s : State} (n : Nat) (w : Word)
    (hk : Keeps s0 s) : Keeps s0 (State.rekeyWord s n w).2 := by
  unfold State.rekeyWord
  try dsimp only
  repeat' first
    | with_reducible assumption
    | with_reducible rfl
    | with_reducible apply State.setSession_keeps
    | with_reducible apply State.drawn_keeps
    | dsimp only
    | split

theorem State.rekeyed_keeps {s0 : State} {s : State} (n : Nat)
    (hk : Keeps s0 s) : Keeps s0 (State.rekeyed s n) := by
  unfold State.rekeyed
  try dsimp only
  repeat' first
    | with_reducible assumption
    | with_reducible rfl
    | with_reducible apply State.modSession_keeps
    | dsimp only
    | split
    | intro _

theorem State.wipeStart_keeps {s0 : State} {s : State}
    (hk : Keeps s0 s) : Keeps s0 (State.wipeStart s) := by
  unfold State.wipeStart
  try dsimp only
  repeat' first
    | with_reducible assumption
    | with_reducible rfl
    | with_reducible apply State.modVault_keeps
    | with_reducible apply State.showBusy_keeps
    | dsimp only
    | split

theorem State.wipeByKey_keeps {s0 : State} {s : State}
    (hk : Keeps s0 s) : Keeps s0 (State.wipeByKey s).2 := by
  unfold State.wipeByKey
  try dsimp only
  repeat' first
    | with_reducible assumption
    | with_reducible rfl
    | with_reducible apply State.wipeStart_keeps
    | dsimp only
    | split

theorem State.wiped_keeps {s0 : State} {s : State}
    (hk : Keeps s0 s) : Keeps s0 (State.wiped s) := by
  unfold State.wiped
  try dsimp only
  repeat' first
    | with_reducible assumption
    | with_reducible rfl
    | with_reducible apply State.setFld_keeps
    | with_reducible apply State.raise_keeps
    | with_reducible apply State.modVault_keeps
    | with_reducible apply State.showBusy_keeps
    | with_reducible apply State.showKeys_keeps
    | with_reducible apply Keeps.map_sessions
    | dsimp only
    | split
    | intro _

theorem State.setSealed_keeps {s0 : State} {s : State} (b : Bool)
    (hk : Keeps s0 s) : Keeps s0 (State.setSealed s b) := by
  unfold State.setSealed
  try dsimp only
  repeat' first
    | with_reducible assumption
    | with_reducible rfl
    | with_reducible apply State.setFld_keeps
    | with_reducible apply State.setOn_keeps
    | with_reducible apply State.modVault_keeps
    | dsimp only
    | split

theorem State.tamperClear_keeps {s0 : State} {s : State}
    (hk : Keeps s0 s) : Keeps s0 (State.tamperClear s) := by
  unfold State.tamperClear
  try dsimp only
  repeat' first
    | with_reducible assumption
    | with_reducible rfl
    | with_reducible apply State.setFld_keeps
    | with_reducible apply State.setOn_keeps

theorem State.enterLifecycle_keeps {s0 : State} {s : State} (st : Nat)
    (hk : Keeps s0 s) : Keeps s0 (State.enterLifecycle s st) := by
  unfold State.enterLifecycle
  try dsimp only
  repeat' first
    | with_reducible assumption
    | with_reducible rfl
    | with_reducible apply State.setFld_keeps
    | with_reducible apply State.setOn_keeps
    | with_reducible apply State.showOuts_keeps
    | with_reducible apply State.modVault_keeps
    | with_reducible apply State.setSealed_keeps
    | with_reducible apply State.tamperClear_keeps
    | dsimp only
    | split

theorem State.lifecycleApply_keeps {s0 : State} {s : State} (st : Nat) (words : List Word)
    (hk : Keeps s0 s) : Keeps s0 (State.lifecycleApply s st words) := by
  unfold State.lifecycleApply
  try dsimp only
  repeat' first
    | with_reducible assumption
    | with_reducible rfl
    | with_reducible apply State.endWhere_keeps
    | with_reducible apply State.modVault_keeps
    | with_reducible apply State.wipeStart_keeps

theorem State.wipeDone_keeps {s0 : State} {s : State}
    (hk : Keeps s0 s) : Keeps s0 (State.wipeDone s) := by
  unfold State.wipeDone
  try dsimp only
  repeat' first
    | with_reducible assumption
    | with_reducible rfl
    | with_reducible apply State.modVault_keeps
    | with_reducible apply State.setKeys_keeps
    | with_reducible apply State.wiped_keeps
    | with_reducible apply State.enterLifecycle_keeps
    | dsimp only
    | split

theorem State.halt_keeps {s0 : State} {s : State}
    (hk : Keeps s0 s) : Keeps s0 (State.halt s) := by
  unfold State.halt
  try dsimp only
  repeat' first
    | with_reducible assumption
    | with_reducible rfl
    | with_reducible apply State.setOn_keeps
    | with_reducible apply State.modLane_keeps
    | with_reducible apply State.showOuts_keeps
    | with_reducible apply State.tandemDrop_keeps
    | with_reducible apply Keeps.foldl
    | with_reducible apply Keeps.foldl_snd
    | with_reducible apply Keeps.foldl_fst
    | dsimp only
    | split
    | intro _

theorem State.tamperNow_keeps {s0 : State} {s : State} (i : Nat)
    (hk : Keeps s0 s) : Keeps s0 (State.tamperNow s i) := by
  unfold State.tamperNow
  try dsimp only
  repeat' first
    | with_reducible assumption
    | with_reducible rfl
    | with_reducible apply State.setFld_keeps
    | with_reducible apply State.setOn_keeps
    | with_reducible apply State.bump_keeps
    | with_reducible apply State.raise_keeps
    | with_reducible apply State.modVault_keeps
    | with_reducible apply State.wipeStart_keeps
    | with_reducible apply State.halt_keeps
    | dsimp only
    | split

theorem State.tamper_keeps {s0 : State} {s : State} (i : Nat) (level : Bool)
    (hk : Keeps s0 s) : Keeps s0 (State.tamper s i level) := by
  unfold State.tamper
  try dsimp only
  repeat' first
    | with_reducible assumption
    | with_reducible rfl
    | with_reducible apply State.setFld_keeps
    | with_reducible apply State.tamperNow_keeps
    | dsimp only
    | split

theorem State.entropyFails_keeps {s0 : State} {s : State}
    (hk : Keeps s0 s) : Keeps s0 (State.entropyFails s) := by
  unfold State.entropyFails
  try dsimp only
  repeat' first
    | with_reducible assumption
    | with_reducible rfl
    | with_reducible apply State.setOn_keeps
    | with_reducible apply State.raise_keeps
    | with_reducible apply State.modVault_keeps

theorem State.vaultUp_keeps {s0 : State} {s : State}
    (hk : Keeps s0 s) : Keeps s0 (State.vaultUp s) := by
  unfold State.vaultUp
  try dsimp only
  repeat' first
    | with_reducible assumption
    | with_reducible rfl
    | with_reducible apply State.setFld_keeps
    | with_reducible apply State.setOn_keeps
    | with_reducible apply State.modVault_keeps
    | with_reducible apply State.showKeys_keeps
    | with_reducible apply State.wiped_keeps
    | dsimp only
    | split

end Sys2Proof.Machine
end

