-- ==== Sys2Proof/Laws/KeepsPins.lean ====
section
/-! SUPPORT. What the operations of Machine/Pins.lean keep (Keeps). -/

namespace Sys2Proof.Machine

theorem State.modPin_keeps {s0 : State} {s : State} (u : Nat) (f : Pin → Pin)
    (hk : Keeps s0 s) : Keeps s0 (State.modPin s u f) := by
  unfold State.modPin
  try dsimp only
  repeat' first
    | with_reducible assumption
    | with_reducible rfl
    | with_reducible apply State.setPin_keeps

theorem State.showUtility_keeps {s0 : State} {s : State} (u : Nat)
    (hk : Keeps s0 s) : Keeps s0 (State.showUtility s u) := by
  unfold State.showUtility
  try dsimp only
  repeat' first
    | with_reducible assumption
    | with_reducible rfl
    | with_reducible apply State.setOn_keeps

theorem State.pinWrite_keeps {s0 : State} {s : State} (u : Nat) (v : Val)
    (hk : Keeps s0 s) : Keeps s0 (State.pinWrite s u v) := by
  unfold State.pinWrite
  try dsimp only
  repeat' first
    | with_reducible assumption
    | with_reducible rfl
    | with_reducible apply State.setVal_keeps
    | with_reducible apply State.modPin_keeps
    | with_reducible apply State.showUtility_keeps

theorem State.pinEffect_keeps {s0 : State} {s : State} (u : Nat)
    (hk : Keeps s0 s) : Keeps s0 (State.pinEffect s u) := by
  unfold State.pinEffect
  try dsimp only
  repeat' first
    | with_reducible assumption
    | with_reducible rfl
    | with_reducible apply State.modPin_keeps
    | with_reducible apply State.showUtility_keeps
    | dsimp only
    | split

theorem State.parkEnd_keeps {s0 : State} {s : State} (u : Nat)
    (hk : Keeps s0 s) : Keeps s0 (State.parkEnd s u) := by
  unfold State.parkEnd
  try dsimp only
  repeat' first
    | with_reducible assumption
    | with_reducible rfl
    | with_reducible apply State.modPin_keeps
    | with_reducible apply State.showUtility_keeps
    | dsimp only
    | split

end Sys2Proof.Machine
end

