-- ==== Sys2Proof/Laws/KeepsRecovery.lean ====
section
/-! SUPPORT. What the operations of Machine/Recovery.lean keep (Keeps). -/

namespace Sys2Proof.Machine

theorem State.loadSealed_keeps {s0 : State} {s : State}
    (hk : Keeps s0 s) : Keeps s0 (State.loadSealed s) := by
  unfold State.loadSealed
  try dsimp only
  repeat' first
    | with_reducible assumption
    | with_reducible rfl
    | with_reducible apply State.setOn_keeps
    | dsimp only
    | split

theorem State.sampleStraps_keeps {s0 : State} {s : State}
    (hk : Keeps s0 s) : Keeps s0 (State.sampleStraps s) := by
  unfold State.sampleStraps
  try dsimp only
  repeat' first
    | with_reducible assumption
    | with_reducible rfl
    | with_reducible apply State.setFld_keeps
    | with_reducible apply State.setOn_keeps
    | with_reducible apply Keeps.foldl
    | with_reducible apply Keeps.foldl_snd
    | with_reducible apply Keeps.foldl_fst
    | dsimp only
    | split
    | intro _

theorem State.warmBase_keeps {s0 : State} {s : State}
    (hk : Keeps s0 s) : Keeps s0 (State.warmBase s) := by
  exact Keeps.fresh hk.pending hk.now (fun x => Map.wf_filter _ _ _ (hk.sound x).dict) rfl rfl
    (fun x => Map.wf_filter _ _ _ (hk.sound x).banks) rfl rfl

theorem State.warmShow_keeps {s0 : State} {s : State}
    (hk : Keeps s0 s) : Keeps s0 (State.warmShow s) := by
  unfold State.warmShow
  try dsimp only
  repeat' first
    | with_reducible assumption
    | with_reducible rfl
    | with_reducible apply State.setFld_keeps
    | with_reducible apply State.setOn_keeps
    | with_reducible apply State.showPin_keeps
    | with_reducible apply State.showBusy_keeps
    | with_reducible apply State.showUtility_keeps
    | with_reducible apply State.loadSealed_keeps
    | with_reducible apply Keeps.foldl
    | with_reducible apply Keeps.foldl_snd
    | with_reducible apply Keeps.foldl_fst
    | dsimp only
    | split
    | intro _

theorem State.warmReset_keeps {s0 : State} {s : State}
    (hk : Keeps s0 s) : Keeps s0 (State.warmReset s) := by
  unfold State.warmReset
  try dsimp only
  repeat' first
    | with_reducible assumption
    | with_reducible rfl
    | with_reducible apply State.raise_keeps
    | with_reducible apply State.setLoop_keeps
    | with_reducible apply State.settle_keeps
    | with_reducible apply State.freewheelValue_keeps
    | with_reducible apply State.sampleStraps_keeps
    | with_reducible apply State.warmBase_keeps
    | with_reducible apply State.warmShow_keeps

theorem State.settleReset_keeps {s0 : State} {s : State}
    (hk : Keeps s0 s) : Keeps s0 (State.settleReset s) := by
  unfold State.settleReset
  try dsimp only
  repeat' first
    | with_reducible assumption
    | with_reducible rfl
    | with_reducible apply State.warmReset_keeps
    | dsimp only
    | split

theorem State.blank_keeps {s0 : State} {s : State}
    (hk : Keeps s0 s) : Keeps s0 (State.blank s) := by
  unfold State.blank
  dsimp only
  apply State.setFld_keeps
  apply State.loadSealed_keeps
  exact Keeps.fresh hk.pending hk.now (fun x => Map.wf_filter _ _ _ (hk.sound x).dict) rfl rfl (fun _ => rfl) rfl rfl

theorem State.keepLatches_keeps {s0 : State} (old : State) {s : State}
    (hk : Keeps s0 s) : Keeps s0 (State.keepLatches old s) := by
  unfold State.keepLatches
  try dsimp only
  repeat' first
    | with_reducible assumption
    | with_reducible rfl
    | with_reducible apply State.setFld_keeps
    | with_reducible apply State.setOn_keeps
    | dsimp only
    | split
    | intro _
    | with_reducible apply Keeps.upd

theorem State.restore_keeps {s0 : State} {s : State} (d : Map Val)
    (hk : Keeps s0 s) : Keeps s0 (State.restore s d) := by
  unfold State.restore
  try dsimp only
  repeat' first
    | with_reducible assumption
    | with_reducible rfl
    | with_reducible apply State.setVal_keeps
    | with_reducible apply Keeps.foldl
    | with_reducible apply Keeps.foldl_snd
    | with_reducible apply Keeps.foldl_fst
    | dsimp only
    | split
    | intro _

theorem State.keepRetention_keeps {s0 : State} (old : State) {s : State}
    (hk : Keeps s0 s) : Keeps s0 (State.keepRetention old s) := by
  unfold State.keepRetention
  try dsimp only
  repeat' first
    | with_reducible assumption
    | with_reducible rfl
    | with_reducible apply State.restore_keeps
    | dsimp only
    | split
    | intro _
    | with_reducible apply Keeps.upd

theorem State.wakeUp_keeps {s0 : State} {s : State} (mac : Option Nat)
    (hk : Keeps s0 s) : Keeps s0 (State.wakeUp s mac) := by
  unfold State.wakeUp
  dsimp only
  have h1 := State.restore_keeps (s.dict.filter fun p => s.retainedObj p.1)
    (State.keepRetention_keeps s (State.keepLatches_keeps s (State.blank_keeps hk)))
  have h2 := Keeps.banks_as (d := s.retainedBytes) (fun x => Map.wf_filter _ _ _ (hk.sound x).banks) h1
  split
  · apply State.setOn_keeps
    apply State.setFld_keeps
    exact Keeps.upd h2
  · apply State.setFld_keeps
    exact Keeps.upd h2

theorem State.brownout_keeps {s0 : State} {s : State}
    (hk : Keeps s0 s) : Keeps s0 (State.brownout s) := by
  unfold State.brownout
  try dsimp only
  repeat' first
    | with_reducible assumption
    | with_reducible rfl
    | with_reducible apply State.drawn_keeps
    | with_reducible apply State.blank_keeps
    | with_reducible apply State.keepLatches_keeps
    | with_reducible apply State.keepRetention_keeps
    | dsimp only
    | split

theorem State.faultIn_keeps {s0 : State} {s : State} (f : FaultIn)
    (hk : Keeps s0 s) : Keeps s0 (State.faultIn s f) := by
  unfold State.faultIn
  try dsimp only
  repeat' first
    | with_reducible assumption
    | with_reducible rfl
    | with_reducible apply State.raiseFault_keeps
    | with_reducible apply State.settleReset_keeps
    | dsimp only
    | split
    | intro _
    | with_reducible apply Keeps.upd

theorem State.dccClockLost_keeps {s0 : State} {s : State} (pair : Nat)
    (hk : Keeps s0 s) : Keeps s0 (State.dccClockLost s pair) := by
  unfold State.dccClockLost
  try dsimp only
  repeat' first
    | with_reducible assumption
    | with_reducible rfl
    | with_reducible apply State.pairClock_keeps
    | with_reducible apply State.faultIn_keeps
    | dsimp only
    | split

theorem State.fatalIn_keeps {s0 : State} {s : State} (f : FaultIn)
    (hk : Keeps s0 s) : Keeps s0 (State.fatalIn s f) := by
  unfold State.fatalIn
  try dsimp only
  repeat' first
    | with_reducible assumption
    | with_reducible rfl
    | with_reducible apply State.faultIn_keeps
    | dsimp only
    | split

end Sys2Proof.Machine
end

