-- ==== Sys2Proof/Laws/KeepsStartup.lean ====
section
/-! SUPPORT. What the operations of Machine/Startup.lean keep (Keeps). -/

namespace Sys2Proof.Machine

theorem State.aonGood_keeps {s0 : State} {s : State} (straps : Straps) (flash : Option (List Image))
    (hk : Keeps s0 s) : Keeps s0 (State.aonGood s straps flash) := by
  unfold State.aonGood
  try dsimp only
  repeat' first
    | with_reducible assumption
    | with_reducible rfl
    | dsimp only
    | split
    | intro _
    | with_reducible apply Keeps.upd

theorem State.railGood_keeps {s0 : State} {s : State} (k : Nat)
    (hk : Keeps s0 s) : Keeps s0 (State.railGood s k) := by
  unfold State.railGood
  try dsimp only
  repeat' first
    | with_reducible assumption
    | with_reducible rfl
    | with_reducible apply State.sampleStraps_keeps
    | dsimp only
    | split
    | intro _
    | with_reducible apply Keeps.upd

theorem State.startupStops_keeps {s0 : State} {s : State}
    (hk : Keeps s0 s) : Keeps s0 (State.startupStops s) := by
  unfold State.startupStops
  try dsimp only
  repeat' first
    | with_reducible assumption
    | with_reducible rfl
    | with_reducible apply State.fatalNow_keeps
    | dsimp only
    | split
    | intro _
    | with_reducible apply Keeps.upd

theorem State.railLate_keeps {s0 : State} {s : State} (k : Nat)
    (hk : Keeps s0 s) : Keeps s0 (State.railLate s k) := by
  unfold State.railLate
  try dsimp only
  repeat' first
    | with_reducible assumption
    | with_reducible rfl
    | with_reducible apply State.startupStops_keeps
    | dsimp only
    | split

theorem State.noFlywheel_keeps {s0 : State} {s : State}
    (hk : Keeps s0 s) : Keeps s0 (State.noFlywheel s) := by
  unfold State.noFlywheel
  try dsimp only
  repeat' first
    | with_reducible assumption
    | with_reducible rfl
    | with_reducible apply State.raiseFault_keeps
    | with_reducible apply State.startupStops_keeps
    | dsimp only
    | split

theorem State.tempoStarts_keeps {s0 : State} {s : State}
    (hk : Keeps s0 s) : Keeps s0 (State.tempoStarts s) := by
  unfold State.tempoStarts
  try dsimp only
  repeat' first
    | with_reducible assumption
    | with_reducible rfl
    | dsimp only
    | split
    | intro _
    | with_reducible apply Keeps.upd

theorem State.writeAddrs_keeps {s0 : State} {s : State}
    (hk : Keeps s0 s) : Keeps s0 (State.writeAddrs s) := by
  unfold State.writeAddrs
  try dsimp only
  repeat' first
    | with_reducible assumption
    | with_reducible rfl
    | with_reducible apply State.setVal_keeps
    | with_reducible apply Keeps.foldl
    | with_reducible apply Keeps.foldl_snd
    | with_reducible apply Keeps.foldl_fst
    | dsimp only
    | split
    | intro _

theorem State.enterBoot_keeps {s0 : State} {s : State}
    (hk : Keeps s0 s) : Keeps s0 (State.enterBoot s) := by
  unfold State.enterBoot
  try dsimp only
  repeat' first
    | with_reducible assumption
    | with_reducible rfl
    | with_reducible apply State.setOn_keeps
    | with_reducible apply State.writeAddrs_keeps
    | dsimp only
    | split
    | intro _
    | with_reducible apply Keeps.upd

theorem State.vaultReady_keeps {s0 : State} {s : State}
    (hk : Keeps s0 s) : Keeps s0 (State.vaultReady s) := by
  unfold State.vaultReady
  try dsimp only
  repeat' first
    | with_reducible assumption
    | with_reducible rfl
    | with_reducible apply State.vaultUp_keeps
    | with_reducible apply State.enterBoot_keeps
    | dsimp only
    | split
    | intro _
    | with_reducible apply Keeps.upd

theorem State.slotVerified_keeps {s0 : State} {s : State}
    (hk : Keeps s0 s) : Keeps s0 (State.slotVerified s) := by
  unfold State.slotVerified
  try dsimp only
  repeat' first
    | with_reducible assumption
    | with_reducible rfl
    | with_reducible apply State.loadFrom_keeps
    | with_reducible apply State.enterBoot_keeps
    | dsimp only
    | split
    | intro _
    | with_reducible apply Keeps.upd

theorem State.enginesUp_keeps {s0 : State} {s : State}
    (hk : Keeps s0 s) : Keeps s0 (State.enginesUp s) := by
  unfold State.enginesUp
  try dsimp only
  repeat' first
    | with_reducible assumption
    | with_reducible rfl
    | with_reducible apply State.setOn_keeps
    | with_reducible apply State.engineState_keeps
    | with_reducible apply State.banksFollow_keeps
    | with_reducible apply State.modFaults_keeps
    | with_reducible apply Keeps.foldl
    | with_reducible apply Keeps.foldl_snd
    | with_reducible apply Keeps.foldl_fst
    | dsimp only
    | split
    | intro _
    | with_reducible apply Keeps.upd

theorem State.startupDone_keeps {s0 : State} {s : State}
    (hk : Keeps s0 s) : Keeps s0 (State.startupDone s) := by
  unfold State.startupDone
  try dsimp only
  repeat' first
    | with_reducible assumption
    | with_reducible rfl
    | with_reducible apply State.showOuts_keeps
    | with_reducible apply State.writeAddrs_keeps
    | dsimp only
    | split
    | intro _
    | with_reducible apply Keeps.upd

theorem State.resetFalls_keeps {s0 : State} {s : State}
    (hk : Keeps s0 s) : Keeps s0 (State.resetFalls s) := by
  unfold State.resetFalls
  try dsimp only
  repeat' first
    | with_reducible assumption
    | with_reducible rfl
    | with_reducible apply State.warmReset_keeps
    | with_reducible apply State.wakeUp_keeps
    | dsimp only
    | split
    | intro _
    | with_reducible apply Keeps.upd

theorem State.resetAssert_keeps {s0 : State} {s : State} (width : Nat)
    (hk : Keeps s0 s) : Keeps s0 (State.resetAssert s width) := by
  unfold State.resetAssert
  try dsimp only
  repeat' first
    | with_reducible assumption
    | with_reducible rfl
    | with_reducible apply State.drawn_keeps
    | with_reducible apply State.resetFalls_keeps
    | dsimp only
    | split

theorem State.fromStraps_keeps {s0 : State} {s : State}
    (hk : Keeps s0 s) : Keeps s0 (State.fromStraps s) := by
  unfold State.fromStraps
  try dsimp only
  repeat' first
    | with_reducible assumption
    | with_reducible rfl
    | with_reducible apply State.sampleStraps_keeps
    | dsimp only
    | split
    | intro _
    | with_reducible apply Keeps.upd

theorem State.resetRelease_keeps {s0 : State} {s : State}
    (hk : Keeps s0 s) : Keeps s0 (State.resetRelease s) := by
  unfold State.resetRelease
  try dsimp only
  repeat' first
    | with_reducible assumption
    | with_reducible rfl
    | with_reducible apply State.fromStraps_keeps
    | dsimp only
    | split
    | intro _
    | with_reducible apply Keeps.upd

theorem State.wakeFrame_keeps {s0 : State} {s : State} (m : Nat) (f : EthFrame)
    (hk : Keeps s0 s) : Keeps s0 (State.wakeFrame s m f) := by
  unfold State.wakeFrame
  try dsimp only
  repeat' first
    | with_reducible assumption
    | with_reducible rfl
    | with_reducible apply State.wakeUp_keeps
    | dsimp only
    | split

end Sys2Proof.Machine
end

