-- ==== Sys2Proof/Laws/KeepsReads.lean ====
section
/-! SUPPORT. What the operations of Machine/Reads.lean keep (Keeps). -/

namespace Sys2Proof.Machine

theorem State.beforeRead_keeps {s0 : State} {s : State} (o : Nat)
    (hk : Keeps s0 s) : Keeps s0 (State.beforeRead s o) := by
  unfold State.beforeRead
  try dsimp only
  repeat' first
    | with_reducible assumption
    | with_reducible rfl
    | with_reducible apply State.pcSample_keeps
    | dsimp only
    | split

theorem State.afterRead_keeps {s0 : State} {s : State} (n : Nat) (o : Nat) (acc : Access)
    (hk : Keeps s0 s) : Keeps s0 (State.afterRead s n o acc) := by
  unfold State.afterRead
  try dsimp only
  repeat' first
    | with_reducible assumption
    | with_reducible rfl
    | with_reducible apply State.setVal_keeps
    | with_reducible apply State.modSession_keeps
    | with_reducible apply State.drawn_keeps
    | with_reducible apply State.latchFaults_keeps
    | dsimp only
    | split
    | intro _

theorem State.latchHistory_keeps {s0 : State} {s : State} (n : Nat) (o : Nat)
    (hk : Keeps s0 s) : Keeps s0 (State.latchHistory s n o) := by
  unfold State.latchHistory
  try dsimp only
  repeat' first
    | with_reducible assumption
    | with_reducible rfl
    | with_reducible apply State.modSession_keeps
    | dsimp only
    | split
    | intro _

theorem State.popItem_keeps {s0 : State} {s : State} (o : Nat)
    (hk : Keeps s0 s) : Keeps s0 (State.popItem s o).2 := by
  unfold State.popItem
  try dsimp only
  repeat' first
    | with_reducible assumption
    | with_reducible rfl
    | with_reducible apply State.popExt_keeps
    | dsimp only
    | split
    | intro _
    | with_reducible apply Keeps.upd

theorem State.popItems_keeps {s0 : State} (k : Nat) {s : State} (o : Nat) (hk : Keeps s0 s) :
    Keeps s0 (State.popItems k s o).2 := by
  induction k generalizing s with
  | zero => exact hk
  | succ k ih => exact ih (State.popItem_keeps o hk)

theorem State.readWords_keeps {s0 : State} (x : Session) (o len k : Nat) {s : State} (i : Nat) (hk : Keeps s0 s) :
    Keeps s0 (State.readWords x o len k s i).2 := by
  induction k generalizing s i with
  | zero => exact hk
  | succ k ih =>
    unfold State.readWords
    refine ih _ ?_
    split
    · exact State.dmaRead_keeps i hk
    · exact hk

end Sys2Proof.Machine
end

