-- ==== Sys2Proof/Laws/KeepsAccess.lean ====
section
/-! SUPPORT. What the operations of Machine/Access.lean keep (Keeps). -/

namespace Sys2Proof.Machine

theorem State.failed_keeps {s0 : State} {s : State} (status : Nat) (holder : Nat)
    (hk : Keeps s0 s) : Keeps s0 (State.failed s status holder).st := by
  unfold State.failed
  try dsimp only
  repeat' first
    | with_reducible assumption

theorem State.did_keeps {s0 : State} {s : State}
    (hk : Keeps s0 s) : Keeps s0 (State.did s).st := by
  unfold State.did
  try dsimp only
  repeat' first
    | with_reducible assumption

theorem State.takeSnapshot_keeps {s0 : State} {s : State} (c : CounterSet)
    (hk : Keeps s0 s) : Keeps s0 (State.takeSnapshot s c) := by
  unfold State.takeSnapshot
  try dsimp only
  repeat' first
    | with_reducible assumption
    | with_reducible rfl
    | with_reducible apply State.setVal_keeps
    | with_reducible apply State.pcSnapshot_keeps
    | with_reducible apply Keeps.dict_filter
    | with_reducible apply Keeps.foldl
    | with_reducible apply Keeps.foldl_snd
    | with_reducible apply Keeps.foldl_fst
    | dsimp only
    | split
    | intro _

theorem State.clearHalves_keeps {s0 : State} {s : State} (m : Nat)
    (hk : Keeps s0 s) : Keeps s0 (State.clearHalves s m) := by
  unfold State.clearHalves
  try dsimp only
  repeat' first
    | with_reducible assumption
    | with_reducible rfl
    | with_reducible apply State.setVal_keeps
    | with_reducible apply State.raise_keeps
    | with_reducible apply Keeps.foldl
    | with_reducible apply Keeps.foldl_snd
    | with_reducible apply Keeps.foldl_fst
    | dsimp only
    | split
    | intro _

theorem State.clearSet_keeps {s0 : State} {s : State} (c : CounterSet)
    (hk : Keeps s0 s) : Keeps s0 (State.clearSet s c) := by
  unfold State.clearSet
  try dsimp only
  repeat' first
    | with_reducible assumption
    | with_reducible rfl
    | with_reducible apply State.pcClear_keeps
    | with_reducible apply State.clearHalves_keeps
    | with_reducible apply Keeps.live_filter
    | dsimp only
    | split

theorem State.setControlled_keeps {s0 : State} {s : State} (c : CounterSet) (snap : Bool) (clr : Bool)
    (hk : Keeps s0 s) : Keeps s0 (State.setControlled s c snap clr) := by
  unfold State.setControlled
  try dsimp only
  repeat' first
    | with_reducible assumption
    | with_reducible rfl
    | with_reducible apply State.takeSnapshot_keeps
    | with_reducible apply State.clearSet_keeps
    | dsimp only
    | split

theorem State.movePtr_keeps {s0 : State} {s : State} (n : Nat) (o : Nat) (i : Nat)
    (hk : Keeps s0 s) : Keeps s0 (State.movePtr s n o i) := by
  unfold State.movePtr
  try dsimp only
  repeat' first
    | with_reducible assumption
    | with_reducible rfl
    | with_reducible apply State.modSession_keeps
    | dsimp only
    | split
    | intro _

theorem State.readWindow_keeps {s0 : State} {s : State} (n : Nat) (r : ObjRow) (op : Op)
    (hk : Keeps s0 s) : Keeps s0 (State.readWindow s n r op).st := by
  unfold State.readWindow
  try dsimp only
  repeat' first
    | with_reducible assumption
    | with_reducible rfl
    | with_reducible apply State.latchHistory_keeps
    | with_reducible apply State.readWords_keeps
    | with_reducible apply State.failed_keeps
    | with_reducible apply State.movePtr_keeps
    | dsimp only
    | split

theorem State.readOp_keeps {s0 : State} {s : State} (x : Session) (r : ObjRow) (op : Op)
    (hk : Keeps s0 s) : Keeps s0 (State.readOp s x r op).st := by
  unfold State.readOp
  try dsimp only
  repeat' first
    | with_reducible assumption
    | with_reducible rfl
    | with_reducible apply State.beforeRead_keeps
    | with_reducible apply State.afterRead_keeps
    | with_reducible apply State.popItems_keeps
    | with_reducible apply State.failed_keeps
    | with_reducible apply State.readWindow_keeps
    | dsimp only
    | split

theorem State.takeStage_keeps {s0 : State} {s : State} (n : Nat)
    (hk : Keeps s0 s) : Keeps s0 (State.takeStage s n).2.2 := by
  unfold State.takeStage
  try dsimp only
  repeat' first
    | with_reducible assumption
    | with_reducible rfl
    | dsimp only
    | split
    | intro _
    | with_reducible apply Keeps.upd

theorem State.stageWr_keeps {s0 : State} {s : State} (n : Nat) (w : Wr)
    (hk : Keeps s0 s) : Keeps s0 (State.stageWr s n w).2.2 := by
  unfold State.stageWr
  try dsimp only
  repeat' first
    | with_reducible assumption
    | with_reducible rfl
    | with_reducible apply State.modSession_keeps
    | with_reducible apply State.takeStage_keeps
    | dsimp only
    | split
    | intro _

theorem State.stageWrs_keeps {s0 : State} (n : Nat) (ws : List Wr) {s : State} (k st : Nat) (hk : Keeps s0 s) :
    Keeps s0 (State.stageWrs n ws s k st).2.2.2 := by
  induction ws generalizing s k st with
  | nil => exact hk
  | cons w ws ih =>
    unfold State.stageWrs
    dsimp only
    split
    · exact State.stageWr_keeps n w hk
    · exact ih _ _ (State.stageWr_keeps n w hk)

theorem State.stageWindow_keeps {s0 : State} {s : State} (n : Nat) (r : ObjRow) (op : Op)
    (hk : Keeps s0 s) : Keeps s0 (State.stageWindow s n r op).st := by
  unfold State.stageWindow
  try dsimp only
  repeat' first
    | with_reducible assumption
    | with_reducible rfl
    | with_reducible apply State.movePtr_keeps
    | with_reducible apply State.stageWrs_keeps
    | dsimp only
    | split

theorem State.actInside_keeps {s0 : State} {s : State} (o : Nat) (v : Val)
    (hk : Keeps s0 s) : Keeps s0 (State.actInside s o v) := by
  unfold State.actInside
  try dsimp only
  repeat' first
    | with_reducible assumption
    | with_reducible rfl
    | with_reducible apply State.modLane_keeps
    | dsimp only
    | split

theorem State.stageOp_keeps {s0 : State} {s : State} (n : Nat) (r : ObjRow) (op : Op)
    (hk : Keeps s0 s) : Keeps s0 (State.stageOp s n r op).st := by
  unfold State.stageOp
  try dsimp only
  repeat' first
    | with_reducible assumption
    | with_reducible rfl
    | with_reducible apply State.failed_keeps
    | with_reducible apply State.stageWr_keeps
    | with_reducible apply State.stageWindow_keeps
    | with_reducible apply State.actInside_keeps
    | dsimp only
    | split

theorem State.rewind_keeps {s0 : State} {s : State} (n : Nat) (ws : List Nat)
    (hk : Keeps s0 s) : Keeps s0 (State.rewind s n ws) := by
  unfold State.rewind
  try dsimp only
  repeat' first
    | with_reducible assumption
    | with_reducible rfl
    | with_reducible apply State.modSession_keeps
    | with_reducible apply Keeps.foldl
    | with_reducible apply Keeps.foldl_snd
    | with_reducible apply Keeps.foldl_fst
    | dsimp only
    | split
    | intro _

theorem State.endDisabled_keeps {s0 : State} {s : State} (n : Nat)
    (hk : Keeps s0 s) : Keeps s0 (State.endDisabled s n) := by
  unfold State.endDisabled
  try dsimp only
  repeat' first
    | with_reducible assumption
    | with_reducible rfl
    | with_reducible apply State.modSession_keeps
    | with_reducible apply State.endWhere_keeps
    | dsimp only
    | split
    | intro _

theorem State.rwWrite_keeps {s0 : State} {s : State} (x : Session) (o : Nat) (v : Val)
    (hk : Keeps s0 s) : Keeps s0 (State.rwWrite s x o v) := by
  unfold State.rwWrite
  try dsimp only
  repeat' first
    | with_reducible assumption
    | with_reducible rfl
    | with_reducible apply State.setVal_keeps
    | with_reducible apply State.modSession_keeps
    | with_reducible apply State.intEnEvent_keeps
    | with_reducible apply State.writeSoftCw_keeps
    | with_reducible apply State.pauseCheck_keeps
    | with_reducible apply State.pcSample_keeps
    | with_reducible apply State.cvuConfig_keeps
    | with_reducible apply State.pinWrite_keeps
    | with_reducible apply State.rewind_keeps
    | with_reducible apply State.endDisabled_keeps
    | dsimp only
    | split
    | intro _

theorem State.putWord_keeps {s0 : State} {s : State} (o : Nat) (i : Nat) (w : Word)
    (hk : Keeps s0 s) : Keeps s0 (State.putWord s o i w) := by
  unfold State.putWord
  try dsimp only
  repeat' first
    | with_reducible assumption
    | with_reducible rfl
    | with_reducible apply State.setWord_keeps
    | with_reducible apply State.dmaWrite_keeps
    | dsimp only
    | split

theorem State.putWords_keeps {s0 : State} (o len : Nat) {s : State} (i : Nat) (ws : List Word) (hk : Keeps s0 s) :
    Keeps s0 (State.putWords o len s i ws) := by
  induction ws generalizing s i with
  | nil => exact hk
  | cons w ws ih => exact ih _ (State.putWord_keeps o i w hk)

theorem State.traceWritten_keeps {s0 : State} {s : State} (old : State) (o : Nat)
    (hk : Keeps s0 s) : Keeps s0 (State.traceWritten s old o) := by
  unfold State.traceWritten
  try dsimp only
  repeat' first
    | with_reducible assumption
    | with_reducible rfl
    | with_reducible apply State.rejudgeTim_keeps
    | with_reducible apply State.laneHook_keeps
    | dsimp only
    | split

theorem State.rwOp_keeps {s0 : State} {s : State} (x : Session) (r : ObjRow) (op : Op)
    (hk : Keeps s0 s) : Keeps s0 (State.rwOp s x r op).st := by
  unfold State.rwOp
  try dsimp only
  repeat' first
    | with_reducible assumption
    | with_reducible rfl
    | with_reducible apply State.freeze_keeps
    | with_reducible apply State.failed_keeps
    | with_reducible apply State.did_keeps
    | with_reducible apply State.setControlled_keeps
    | with_reducible apply State.movePtr_keeps
    | with_reducible apply State.rwWrite_keeps
    | with_reducible apply State.putWords_keeps
    | with_reducible apply State.traceWritten_keeps
    | dsimp only
    | split

theorem opEnd_keeps {s0 : State} (r : Nat × State) (hk : Keeps s0 r.2) : Keeps s0 (opEnd r).st := hk

theorem OpEnd.ite_keeps {s0 : State} {p : Prop} [Decidable p] {x y : OpEnd} (hx : p → Keeps s0 x.st)
    (hy : ¬p → Keeps s0 y.st) : Keeps s0 (if p then x else y).st := by
  split
  · next h => exact hx h
  · next h => exact hy h

theorem State.closeSession_keeps {s0 : State} {s : State} (n : Nat) (target : Nat)
    (hk : Keeps s0 s) : Keeps s0 (State.closeSession s n target) := by
  unfold State.closeSession
  try dsimp only
  repeat' first
    | with_reducible assumption
    | with_reducible rfl
    | with_reducible apply State.modSession_keeps
    | with_reducible apply State.endSession_keeps
    | dsimp only
    | split
    | intro _

theorem State.cvuOp_keeps {s0 : State} {s : State} (n : Nat) (u : Nat) (e : Nat) (ws : List Word)
    (hk : Keeps s0 s) : Keeps s0 (State.cvuOp s n u e ws).st := by
  unfold State.cvuOp
  try dsimp only
  repeat' first
    | with_reducible assumption
    | with_reducible rfl
    | with_reducible apply State.cvuFeed_keeps
    | with_reducible apply State.cvuStart_keeps
    | with_reducible apply State.failed_keeps
    | with_reducible apply State.did_keeps
    | dsimp only
    | split

theorem State.fwControl_keeps {s0 : State} {s : State} (w : Word)
    (hk : Keeps s0 s) : Keeps s0 (State.fwControl s w).2 := by
  unfold State.fwControl
  try dsimp only
  repeat' first
    | with_reducible assumption
    | with_reducible rfl
    | with_reducible apply State.fwVerify_keeps
    | with_reducible apply State.fwActivate_keeps
    | dsimp only
    | split

theorem feedWords_keeps {s0 : State} (f : State → Word → Nat × State)
    (hf : ∀ t w, Keeps s0 t → Keeps s0 (f t w).2) {s : State} (ws : List Word) (hk : Keeps s0 s) :
    Keeps s0 (feedWords f s ws).2 := by
  induction ws generalizing s with
  | nil => exact hk
  | cons w ws ih =>
    unfold feedWords
    dsimp only
    split
    · exact ih (hf s w hk)
    · exact hf s w hk

theorem State.imageWordsFrom_keeps {s0 : State} (len : Nat) {s : State} (i : Nat) (ws : List Word) (hk : Keeps s0 s) :
    Keeps s0 (State.imageWordsFrom len s i ws) := by
  induction ws generalizing s i with
  | nil => exact hk
  | cons w ws ih => exact ih _ (State.imageWord_keeps i w hk)

theorem State.insItems_keeps {s0 : State} (lane c : Nat) (ws : List Word) :
    ∀ {s : State}, Keeps s0 s → Keeps s0 (State.insItems lane c s ws) := by
  induction ws using List.twoStepInduction with
  | nil => exact fun hk => hk
  | singleton a => exact fun hk => hk
  | cons_cons a b r ih _ => exact fun hk => ih (State.hostIns_keeps lane c a b hk)

theorem State.woWindow_keeps {s0 : State} {s : State} (n : Nat) (r : ObjRow) (op : Op)
    (hk : Keeps s0 s) : Keeps s0 (State.woWindow s n r op).st := by
  unfold State.woWindow
  try dsimp only
  repeat' first
    | with_reducible assumption
    | with_reducible rfl
    | with_reducible apply State.modSession_keeps
    | with_reducible apply State.importWord_keeps
    | with_reducible apply State.rekeyWord_keeps
    | with_reducible apply State.did_keeps
    | with_reducible apply State.movePtr_keeps
    | with_reducible apply opEnd_keeps
    | with_reducible apply State.cvuOp_keeps
    | with_reducible apply feedWords_keeps
    | with_reducible apply State.imageWordsFrom_keeps
    | with_reducible apply State.insItems_keeps
    | dsimp only
    | split
    | intro _

theorem State.commandBits_keeps {s0 : State} {s : State} (o : Nat) (w : Word)
    (hk : Keeps s0 s) : Keeps s0 (State.commandBits s o w) := by
  unfold State.commandBits
  try dsimp only
  repeat' first
    | with_reducible assumption
    | with_reducible rfl
    | with_reducible apply State.takeoverForce_keeps
    | with_reducible apply State.relinquish_keeps
    | with_reducible apply State.gxCatchup_keeps
    | with_reducible apply State.gxDiscard_keeps
    | with_reducible apply State.ringRelearn_keeps
    | dsimp only
    | split

theorem State.laneControl_keeps {s0 : State} {s : State} (o : Nat) (w : Word)
    (hk : Keeps s0 s) : Keeps s0 (State.laneControl s o w) := by
  unfold State.laneControl
  try dsimp only
  repeat' first
    | with_reducible assumption
    | with_reducible rfl
    | with_reducible apply State.modLane_keeps
    | with_reducible apply State.flushExt_keeps
    | with_reducible apply State.flushIns_keeps
    | with_reducible apply State.setControlled_keeps
    | dsimp only
    | split

theorem State.woOp_keeps {s0 : State} {s : State} (n : Nat) (r : ObjRow) (op : Op)
    (hk : Keeps s0 s) : Keeps s0 (State.woOp s n r op).st := by
  unfold State.woOp
  try dsimp only
  repeat' first
    | with_reducible assumption
    | with_reducible rfl
    | with_reducible apply State.historyClear_keeps
    | with_reducible apply State.modFaults_keeps
    | with_reducible apply State.reinitStart_keeps
    | with_reducible apply State.ackFault_keeps
    | refine State.declareFault_keeps _ (by assumption) ?_
    | with_reducible apply State.wipeByKey_keeps
    | with_reducible apply State.failed_keeps
    | with_reducible apply State.did_keeps
    | with_reducible apply opEnd_keeps
    | with_reducible apply State.closeSession_keeps
    | with_reducible apply State.cvuOp_keeps
    | with_reducible apply State.fwControl_keeps
    | with_reducible apply State.woWindow_keeps
    | with_reducible apply State.commandBits_keeps
    | with_reducible apply State.laneControl_keeps
    | with_reducible apply OpEnd.ite_keeps
    | dsimp only
    | split
    | intro _

theorem State.w1cOp_keeps {s0 : State} {s : State} (r : ObjRow) (op : Op)
    (hk : Keeps s0 s) : Keeps s0 (State.w1cOp s r op) := by
  unfold State.w1cOp
  try dsimp only
  repeat' first
    | with_reducible assumption
    | with_reducible rfl
    | with_reducible apply State.setVal_keeps
    | dsimp only
    | split

theorem State.writeOp_keeps {s0 : State} {s : State} (x : Session) (r : ObjRow) (op : Op)
    (hk : Keeps s0 s) : Keeps s0 (State.writeOp s x r op).st := by
  unfold State.writeOp
  try dsimp only
  repeat' first
    | with_reducible assumption
    | with_reducible rfl
    | with_reducible apply State.failed_keeps
    | with_reducible apply State.did_keeps
    | with_reducible apply State.stageOp_keeps
    | with_reducible apply State.rwOp_keeps
    | with_reducible apply State.woOp_keeps
    | with_reducible apply State.w1cOp_keeps
    | dsimp only
    | split

theorem State.execOp_keeps {s0 : State} {s : State} (n : Nat) (op : Op)
    (hk : Keeps s0 s) : Keeps s0 (State.execOp s n op).2 := by
  unfold State.execOp
  try dsimp only
  repeat' first
    | with_reducible assumption
    | with_reducible rfl
    | with_reducible apply State.failed_keeps
    | with_reducible apply State.readOp_keeps
    | with_reducible apply State.writeOp_keeps
    | dsimp only
    | split

theorem State.settleOps_keeps {s0 : State} {s : State} (n : Nat)
    (hk : Keeps s0 s) : Keeps s0 (State.settleOps s n) := by
  unfold State.settleOps
  try dsimp only
  repeat' first
    | with_reducible assumption
    | with_reducible rfl
    | with_reducible apply State.endSession_keeps
    | with_reducible apply State.rekeyed_keeps
    | with_reducible apply State.settleReset_keeps
    | dsimp only
    | split

theorem State.oneOp_keeps {s0 : State} {s : State} (n : Nat) (op : Op)
    (hk : Keeps s0 s) : Keeps s0 (State.oneOp s n op) := by
  unfold State.oneOp
  try dsimp only
  repeat' first
    | with_reducible assumption
    | with_reducible rfl
    | with_reducible apply State.modSession_keeps
    | with_reducible apply State.execOp_keeps
    | with_reducible apply State.settleOps_keeps
    | dsimp only
    | split
    | intro _
    | with_reducible apply Keeps.upd

theorem State.hostOp_keeps {s0 : State} {s : State} (n : Nat) (op : Op)
    (hk : Keeps s0 s) : Keeps s0 (State.hostOp s n op) := by
  unfold State.hostOp
  try dsimp only
  repeat' first
    | with_reducible assumption
    | with_reducible rfl
    | with_reducible apply State.leasesDue_keeps
    | with_reducible apply State.oneOp_keeps

theorem State.woBit_keeps {s0 : State} {s : State} (n : Nat) (o : Nat) (bit : Nat)
    (hk : Keeps s0 s) : Keeps s0 (State.woBit s n o bit) := by
  unfold State.woBit
  try dsimp only
  repeat' first
    | with_reducible assumption
    | with_reducible rfl
    | with_reducible apply State.hostOp_keeps

theorem State.kindOp_keeps {s0 : State} {s : State} (n : Nat) (obj : Nat) (p : ObjRow → Bool) (op : ObjRow → Op)
    (hk : Keeps s0 s) : Keeps s0 (State.kindOp s n obj p op) := by
  unfold State.kindOp
  try dsimp only
  repeat' first
    | with_reducible assumption
    | with_reducible rfl
    | with_reducible apply State.hostOp_keeps
    | dsimp only
    | split

end Sys2Proof.Machine
end

