-- ==== Sys2Proof/Laws/KeepsAdmission.lean ====
section
/-! SUPPORT. What the operations of Machine/Admission.lean keep (Keeps). -/

namespace Sys2Proof.Machine

theorem State.putWr_keeps {s0 : State} {s : State} (w : Wr)
    (hk : Keeps s0 s) : Keeps s0 (State.putWr s w) := by
  unfold State.putWr
  try dsimp only
  repeat' first
    | with_reducible assumption
    | with_reducible rfl
    | with_reducible apply State.setWord_keeps
    | with_reducible apply State.setOn_keeps
    | with_reducible apply State.mergeVal_keeps
    | dsimp only
    | split
    | intro _
    | with_reducible apply Keeps.upd

theorem State.afterWrs_keeps {s0 : State} {s : State} (ws : List Wr)
    (hk : Keeps s0 s) : Keeps s0 (State.afterWrs s ws) := by
  unfold State.afterWrs
  try dsimp only
  repeat' first
    | with_reducible assumption
    | with_reducible rfl
    | with_reducible apply State.setVal_keeps
    | with_reducible apply State.putWr_keeps
    | with_reducible apply Keeps.foldl

theorem State.stageWith_keeps {s0 : State} {s : State} (id : Nat) (fn : Nat)
    (hk : Keeps s0 s) : Keeps s0 (State.stageWith s id fn) := by
  unfold State.stageWith
  try dsimp only
  repeat' first
    | with_reducible assumption
    | with_reducible rfl
    | with_reducible apply State.setFld_keeps
    | with_reducible apply State.setOn_keeps
    | dsimp only
    | split
    | intro _
    | with_reducible apply Keeps.upd

theorem State.admitTxn_keeps {s0 : State} {s : State} (x : Session) (ws : List Wr) (fn : Nat)
    (hk : Keeps s0 s) : Keeps s0 (State.admitTxn s x ws fn) := by
  unfold State.admitTxn
  try dsimp only
  repeat' first
    | with_reducible assumption
    | with_reducible rfl
    | with_reducible apply State.modSession_keeps
    | with_reducible apply State.setFld_keeps
    | with_reducible apply State.modGallery_keeps
    | with_reducible apply State.stageWith_keeps
    | dsimp only
    | split
    | intro _
    | with_reducible apply Keeps.upd

theorem State.commit_keeps {s0 : State} {s : State} (x : Session) (named : Nat) (dry : Bool)
    (hk : Keeps s0 s) : Keeps s0 (State.commit s x named dry).2.2 := by
  unfold State.commit
  try dsimp only
  repeat' first
    | with_reducible assumption
    | with_reducible rfl
    | with_reducible apply State.admitTxn_keeps
    | dsimp only
    | split

theorem State.abort_keeps {s0 : State} {s : State} (x : Session)
    (hk : Keeps s0 s) : Keeps s0 (State.abort s x).2 := by
  unfold State.abort
  try dsimp only
  repeat' first
    | with_reducible assumption
    | with_reducible rfl
    | with_reducible apply State.modSession_keeps
    | with_reducible apply State.freeStage_keeps
    | dsimp only
    | split
    | intro _

theorem State.withdraw_keeps {s0 : State} {s : State} (t : Txn)
    (hk : Keeps s0 s) : Keeps s0 (State.withdraw s t) := by
  unfold State.withdraw
  try dsimp only
  repeat' first
    | with_reducible assumption
    | with_reducible rfl
    | with_reducible apply State.setFld_keeps
    | with_reducible apply State.setOn_keeps
    | with_reducible apply State.freeStage_keeps
    | dsimp only
    | split
    | intro _
    | with_reducible apply Keeps.upd

theorem State.cancel_keeps {s0 : State} {s : State} (x : Session) (id : Nat)
    (hk : Keeps s0 s) : Keeps s0 (State.cancel s x id).2 := by
  unfold State.cancel
  try dsimp only
  repeat' first
    | with_reducible assumption
    | with_reducible rfl
    | with_reducible apply State.withdraw_keeps
    | dsimp only
    | split

end Sys2Proof.Machine
end

