-- ==== Sys2Proof/Laws/KeepsTimeSet.lean ====
section
/-! SUPPORT. What the operations of Machine/TimeSet.lean keep (Keeps). -/

namespace Sys2Proof.Machine

theorem State.copyPage_keeps {s0 : State} {s : State}
    (hk : Keeps s0 s) : Keeps s0 (State.copyPage s) := by
  unfold State.copyPage
  try dsimp only
  repeat' first
    | with_reducible assumption
    | with_reducible rfl
    | with_reducible apply State.setOn_keeps
    | with_reducible apply State.freeStage_keeps
    | with_reducible apply Keeps.foldl
    | with_reducible apply Keeps.foldl_snd
    | with_reducible apply Keeps.foldl_fst
    | dsimp only
    | split
    | intro _
    | with_reducible apply Keeps.upd

theorem State.finishCopy_keeps {s0 : State} {s : State}
    (hk : Keeps s0 s) : Keeps s0 (State.finishCopy s) := by
  unfold State.finishCopy
  try dsimp only
  repeat' first
    | with_reducible assumption
    | with_reducible rfl
    | with_reducible apply State.noteSwitch_keeps
    | with_reducible apply State.copyPage_keeps

theorem State.stepLane_keeps {s0 : State} {s : State} (d : Int) (n : Nat) (l : Nat)
    (hk : Keeps s0 s) : Keeps s0 (State.stepLane s d n l) := by
  unfold State.stepLane
  try dsimp only
  repeat' first
    | with_reducible assumption
    | with_reducible rfl
    | with_reducible apply State.modLane_keeps
    | with_reducible apply State.setLedger_keeps
    | with_reducible apply State.reseedLane_keeps
    | with_reducible apply State.landAis_keeps
    | dsimp only
    | split

theorem State.stepCand_keeps {s0 : State} {s : State} (d : Int) (c : Nat)
    (hk : Keeps s0 s) : Keeps s0 (State.stepCand s d c) := by
  unfold State.stepCand
  try dsimp only
  repeat' first
    | with_reducible assumption
    | with_reducible rfl
    | with_reducible apply State.setCand_keeps
    | with_reducible apply State.buildOut_keeps
    | dsimp only
    | split

theorem State.pullAgain_keeps {s0 : State} {s : State}
    (hk : Keeps s0 s) : Keeps s0 (State.pullAgain s) := by
  unfold State.pullAgain
  try dsimp only
  repeat' first
    | with_reducible assumption
    | with_reducible rfl
    | with_reducible apply State.runPull_keeps
    | dsimp only
    | split

theorem State.stepGallery_keeps {s0 : State} {s : State} (f : Int)
    (hk : Keeps s0 s) : Keeps s0 (State.stepGallery s f) := by
  unfold State.stepGallery
  try dsimp only
  repeat' first
    | with_reducible assumption
    | with_reducible rfl
    | with_reducible apply State.modGallery_keeps

theorem State.stepTandem_keeps {s0 : State} {s : State} (d : Int) (f : Int)
    (hk : Keeps s0 s) : Keeps s0 (State.stepTandem s d f) := by
  unfold State.stepTandem
  try dsimp only
  repeat' first
    | with_reducible assumption
    | with_reducible rfl
    | with_reducible apply State.modTandem_keeps

theorem State.stepWaits_keeps {s0 : State} {s : State} (d : Int) (f : Int)
    (hk : Keeps s0 s) : Keeps s0 (State.stepWaits s d f) := by
  unfold State.stepWaits
  try dsimp only
  repeat' first
    | with_reducible assumption
    | with_reducible rfl
    | with_reducible apply State.setOut_keeps
    | with_reducible apply Keeps.foldl
    | with_reducible apply Keeps.foldl_snd
    | with_reducible apply Keeps.foldl_fst
    | dsimp only
    | split
    | intro _
    | with_reducible apply Keeps.upd

theorem State.timeSet_keeps {s0 : State} {s : State} (v : Val) (fn : Nat)
    (hk : Keeps s0 s) : Keeps s0 (State.timeSet s v fn) := by
  unfold State.timeSet
  try dsimp only
  repeat' first
    | with_reducible assumption
    | with_reducible rfl
    | with_reducible apply State.raise_keeps
    | with_reducible apply State.pmStep_keeps
    | with_reducible apply State.stepOuts_keeps
    | with_reducible apply State.gatherTo_keeps
    | with_reducible apply State.finishCopy_keeps
    | with_reducible apply State.stepLane_keeps
    | with_reducible apply State.stepCand_keeps
    | with_reducible apply State.pullAgain_keeps
    | with_reducible apply State.stepGallery_keeps
    | with_reducible apply State.stepTandem_keeps
    | with_reducible apply State.stepWaits_keeps
    | with_reducible apply Keeps.foldl
    | with_reducible apply Keeps.foldl_snd
    | with_reducible apply Keeps.foldl_fst
    | dsimp only
    | split
    | intro _
    | with_reducible apply Keeps.upd

end Sys2Proof.Machine
end

