-- ==== Sys2Proof/Laws/KeepsChanges.lean ====
section
/-! SUPPORT. What the operations of Machine/Changes.lean keep (Keeps). -/

namespace Sys2Proof.Machine

theorem State.putAll_keeps {s0 : State} {s : State} (ws : List Wr) (p : Nat → Bool)
    (hk : Keeps s0 s) : Keeps s0 (State.putAll s ws p) := by
  unfold State.putAll
  try dsimp only
  repeat' first
    | with_reducible assumption
    | with_reducible rfl
    | with_reducible apply State.setWord_keeps
    | with_reducible apply State.mergeVal_keeps
    | with_reducible apply Keeps.foldl
    | with_reducible apply Keeps.foldl_snd
    | with_reducible apply Keeps.foldl_fst
    | dsimp only
    | split
    | intro _

theorem State.modeStep_keeps {s0 : State} {s : State} (k : Nat)
    (hk : Keeps s0 s) : Keeps s0 (State.modeStep s k) := by
  unfold State.modeStep
  try dsimp only
  repeat' first
    | with_reducible assumption
    | with_reducible rfl
    | with_reducible apply State.setVal_keeps
    | with_reducible apply State.setFld_keeps
    | with_reducible apply State.setOn_keeps
    | with_reducible apply State.tandemStart_keeps
    | with_reducible apply State.tandemStop_keeps
    | with_reducible apply State.galleryStart_keeps
    | with_reducible apply State.galleryStop_keeps
    | with_reducible apply State.endWhere_keeps
    | with_reducible apply State.setSealed_keeps
    | dsimp only
    | split

theorem State.modeSteps_keeps {s0 : State} {s : State}
    (hk : Keeps s0 s) : Keeps s0 (State.modeSteps s) := by
  unfold State.modeSteps
  try dsimp only
  repeat' first
    | with_reducible assumption
    | with_reducible rfl
    | with_reducible apply State.modeStep_keeps
    | with_reducible apply Keeps.foldl

theorem State.partDisabled_keeps {s0 : State} {s : State} (old : State) (p : Nat)
    (hk : Keeps s0 s) : Keeps s0 (State.partDisabled s old p) := by
  unfold State.partDisabled
  try dsimp only
  repeat' first
    | with_reducible assumption
    | with_reducible rfl
    | with_reducible apply State.endWhere_keeps
    | with_reducible apply State.clearBank_keeps
    | dsimp only
    | split

theorem State.laneMoves_keeps {s0 : State} {s : State} (old : State) (l : Nat)
    (hk : Keeps s0 s) : Keeps s0 (State.laneMoves s old l) := by
  unfold State.laneMoves
  try dsimp only
  repeat' first
    | with_reducible assumption
    | with_reducible rfl
    | with_reducible apply State.abandoned_keeps
    | with_reducible apply State.pcHandOver_keeps
    | dsimp only
    | split
    | intro _
    | with_reducible apply Keeps.upd

theorem State.partSteps_keeps {s0 : State} {s : State} (old : State)
    (hk : Keeps s0 s) : Keeps s0 (State.partSteps s old) := by
  unfold State.partSteps
  try dsimp only
  repeat' first
    | with_reducible assumption
    | with_reducible rfl
    | with_reducible apply State.partDisabled_keeps
    | with_reducible apply State.laneMoves_keeps
    | with_reducible apply Keeps.foldl
    | with_reducible apply Keeps.foldl_snd
    | with_reducible apply Keeps.foldl_fst
    | dsimp only
    | split
    | intro _

theorem State.bayChange_keeps {s0 : State} {s : State} (b : Nat)
    (hk : Keeps s0 s) : Keeps s0 (State.bayChange s b) := by
  unfold State.bayChange
  try dsimp only
  repeat' first
    | with_reducible assumption
    | with_reducible rfl
    | with_reducible apply State.bayPower_keeps
    | with_reducible apply State.bayGate_keeps
    | dsimp only
    | split

theorem State.dropLanded_keeps {s0 : State} {s : State} (l : Nat)
    (hk : Keeps s0 s) : Keeps s0 (State.dropLanded s l) := by
  unfold State.dropLanded
  try dsimp only
  repeat' first
    | with_reducible assumption
    | with_reducible rfl
    | with_reducible apply State.modLane_keeps
    | with_reducible apply State.failStores_keeps

theorem State.lineClears_keeps {s0 : State} {s : State} (old : State) (l : Nat)
    (hk : Keeps s0 s) : Keeps s0 (State.lineClears s old l) := by
  unfold State.lineClears
  try dsimp only
  repeat' first
    | with_reducible assumption
    | with_reducible rfl
    | with_reducible apply State.flushLane_keeps
    | with_reducible apply State.pmSuspect_keeps
    | dsimp only
    | split

theorem State.bankInUse_keeps {s0 : State} {s : State} (l : Nat)
    (hk : Keeps s0 s) : Keeps s0 (State.bankInUse s l) := by
  unfold State.bankInUse
  try dsimp only
  repeat' first
    | with_reducible assumption
    | with_reducible rfl
    | with_reducible apply State.wipeBank_keeps
    | dsimp only
    | split
    | intro _
    | with_reducible apply Keeps.upd

theorem State.lineChange_keeps {s0 : State} {s : State} (old : State) (l : Nat)
    (hk : Keeps s0 s) : Keeps s0 (State.lineChange s old l) := by
  unfold State.lineChange
  try dsimp only
  repeat' first
    | with_reducible assumption
    | with_reducible rfl
    | with_reducible apply State.modLane_keeps
    | with_reducible apply State.bringUp_keeps
    | with_reducible apply State.resetDemapper_keeps
    | with_reducible apply State.laneOff_keeps
    | with_reducible apply State.dropLanded_keeps
    | with_reducible apply State.lineClears_keeps
    | with_reducible apply State.bankInUse_keeps
    | dsimp only
    | split

theorem State.ledgerChange_keeps {s0 : State} {s : State} (old : State) (l : Nat)
    (hk : Keeps s0 s) : Keeps s0 (State.ledgerChange s old l) := by
  unfold State.ledgerChange
  try dsimp only
  repeat' first
    | with_reducible assumption
    | with_reducible rfl
    | with_reducible apply State.setVal_keeps
    | with_reducible apply State.modLane_keeps
    | with_reducible apply State.startLedger_keeps
    | dsimp only
    | split

theorem State.eqChange_keeps {s0 : State} {s : State} (old : State) (l : Nat)
    (hk : Keeps s0 s) : Keeps s0 (State.eqChange s old l) := by
  unfold State.eqChange
  try dsimp only
  repeat' first
    | with_reducible assumption
    | with_reducible rfl
    | with_reducible apply State.retune_keeps
    | with_reducible apply State.dropLanded_keeps
    | dsimp only
    | split

theorem State.patternChange_keeps {s0 : State} {s : State} (old : State) (l : Nat)
    (hk : Keeps s0 s) : Keeps s0 (State.patternChange s old l) := by
  unfold State.patternChange
  try dsimp only
  repeat' first
    | with_reducible assumption
    | with_reducible rfl
    | with_reducible apply State.setFld_keeps
    | with_reducible apply State.modLane_keeps
    | dsimp only
    | split

theorem State.laneChange_keeps {s0 : State} {s : State} (old : State) (l : Nat)
    (hk : Keeps s0 s) : Keeps s0 (State.laneChange s old l) := by
  unfold State.laneChange
  try dsimp only
  repeat' first
    | with_reducible assumption
    | with_reducible rfl
    | with_reducible apply State.lineChange_keeps
    | with_reducible apply State.ledgerChange_keeps
    | with_reducible apply State.eqChange_keeps
    | with_reducible apply State.patternChange_keeps

theorem State.restartPath_keeps {s0 : State} {s : State} (l : Nat) (k : Nat)
    (hk : Keeps s0 s) : Keeps s0 (State.restartPath s l k) := by
  unfold State.restartPath
  try dsimp only
  repeat' first
    | with_reducible assumption
    | with_reducible rfl
    | with_reducible apply State.setVal_keeps
    | with_reducible apply State.setWord_keeps
    | with_reducible apply State.modLane_keeps
    | with_reducible apply Keeps.foldl
    | with_reducible apply Keeps.foldl_snd
    | with_reducible apply Keeps.foldl_fst
    | dsimp only
    | split
    | intro _

theorem State.descChange_keeps {s0 : State} {s : State} (old : State) (o : Nat)
    (hk : Keeps s0 s) : Keeps s0 (State.descChange s old o) := by
  unfold State.descChange
  try dsimp only
  repeat' first
    | with_reducible assumption
    | with_reducible rfl
    | with_reducible apply State.restartPath_keeps
    | dsimp only
    | split

theorem State.dropWindows_keeps {s0 : State} {s : State} (l : Nat) (a : SfSd) (b : SfSd)
    (hk : Keeps s0 s) : Keeps s0 (State.dropWindows s l a b) := by
  unfold State.dropWindows
  try dsimp only
  repeat' first
    | with_reducible assumption
    | with_reducible rfl
    | with_reducible apply State.modLane_keeps

theorem State.defectConfig_keeps {s0 : State} {s : State} (old : State) (l : Nat)
    (hk : Keeps s0 s) : Keeps s0 (State.defectConfig s old l) := by
  unfold State.defectConfig
  try dsimp only
  repeat' first
    | with_reducible assumption
    | with_reducible rfl
    | with_reducible apply State.noteSf_keeps
    | with_reducible apply State.rejudgeTim_keeps
    | with_reducible apply State.dropWindows_keeps
    | dsimp only
    | split

theorem State.pathDefectConfig_keeps {s0 : State} {s : State} (old : State) (l : Nat) (k : Nat)
    (hk : Keeps s0 s) : Keeps s0 (State.pathDefectConfig s old l k) := by
  unfold State.pathDefectConfig
  try dsimp only
  repeat' first
    | with_reducible assumption
    | with_reducible rfl
    | with_reducible apply State.rejudgePath_keeps
    | with_reducible apply State.dropWindows_keeps
    | dsimp only
    | split

theorem State.pathConfig_keeps {s0 : State} {s : State} (l : Nat) (k : Nat)
    (hk : Keeps s0 s) : Keeps s0 (State.pathConfig s l k) := by
  unfold State.pathConfig
  try dsimp only
  repeat' first
    | with_reducible assumption
    | with_reducible rfl
    | with_reducible apply State.undeclarePath_keeps
    | with_reducible apply State.rejudgePath_keeps
    | with_reducible apply State.dropWindows_keeps
    | with_reducible apply Keeps.foldl
    | with_reducible apply Keeps.foldl_snd
    | with_reducible apply Keeps.foldl_fst
    | dsimp only
    | split
    | intro _

theorem State.idChecks_keeps {s0 : State} {s : State} (l : Nat)
    (hk : Keeps s0 s) : Keeps s0 (State.idChecks s l) := by
  unfold State.idChecks
  try dsimp only
  repeat' first
    | with_reducible assumption
    | with_reducible rfl
    | with_reducible apply State.modLane_keeps
    | with_reducible apply State.judgeMismatch_keeps
    | with_reducible apply Keeps.foldl
    | with_reducible apply Keeps.foldl_snd
    | with_reducible apply Keeps.foldl_fst
    | dsimp only
    | split
    | intro _

theorem State.freqChange_keeps {s0 : State} {s : State} (n : Nat) (fn : Nat)
    (hk : Keeps s0 s) : Keeps s0 (State.freqChange s n fn) := by
  unfold State.freqChange
  try dsimp only
  repeat' first
    | with_reducible assumption
    | with_reducible rfl
    | with_reducible apply State.setOut_keeps
    | with_reducible apply State.startChange_keeps
    | with_reducible apply State.changeFreq_keeps
    | dsimp only
    | split

theorem State.formatChange_keeps {s0 : State} {s : State} (n : Nat) (fn : Nat)
    (hk : Keeps s0 s) : Keeps s0 (State.formatChange s n fn) := by
  unfold State.formatChange
  try dsimp only
  repeat' first
    | with_reducible assumption
    | with_reducible rfl
    | with_reducible apply State.setOut_keeps
    | with_reducible apply State.quench_keeps

theorem State.outChange_keeps {s0 : State} {s : State} (old : State) (n : Nat) (fn : Nat)
    (hk : Keeps s0 s) : Keeps s0 (State.outChange s old n fn) := by
  unfold State.outChange
  try dsimp only
  repeat' first
    | with_reducible assumption
    | with_reducible rfl
    | with_reducible apply State.setOn_keeps
    | with_reducible apply State.unclamp_keeps
    | with_reducible apply State.freqChange_keeps
    | with_reducible apply State.formatChange_keeps
    | dsimp only
    | split

theorem State.chanChange_keeps {s0 : State} {s : State} (old : State) (l : Nat) (c : Nat)
    (hk : Keeps s0 s) : Keeps s0 (State.chanChange s old l c) := by
  unfold State.chanChange
  try dsimp only
  repeat' first
    | with_reducible assumption
    | with_reducible rfl
    | with_reducible apply State.setFc_keeps
    | with_reducible apply State.flushChan_keeps
    | dsimp only
    | split

theorem State.groupChange_keeps {s0 : State} {s : State} (old : State) (g : Nat)
    (hk : Keeps s0 s) : Keeps s0 (State.groupChange s old g) := by
  unfold State.groupChange
  try dsimp only
  repeat' first
    | with_reducible assumption
    | with_reducible rfl
    | with_reducible apply State.apsEval_keeps
    | with_reducible apply State.apsStart_keeps
    | dsimp only
    | split

theorem State.dayChange_keeps {s0 : State} {s : State} (old : State) (fn : Nat)
    (hk : Keeps s0 s) : Keeps s0 (State.dayChange s old fn) := by
  unfold State.dayChange
  try dsimp only
  repeat' first
    | with_reducible assumption
    | with_reducible rfl
    | with_reducible apply State.pmSuspect_keeps
    | with_reducible apply Keeps.foldl
    | with_reducible apply Keeps.foldl_snd
    | with_reducible apply Keeps.foldl_fst
    | dsimp only
    | split
    | intro _
    | with_reducible apply Keeps.upd

theorem State.macChange_keeps {s0 : State} {s : State} (old : State) (m : Nat)
    (hk : Keeps s0 s) : Keeps s0 (State.macChange s old m) := by
  unfold State.macChange
  try dsimp only
  repeat' first
    | with_reducible assumption
    | with_reducible rfl
    | with_reducible apply State.macRestart_keeps
    | dsimp only
    | split

theorem State.softChange_keeps {s0 : State} {s : State} (old : State)
    (hk : Keeps s0 s) : Keeps s0 (State.softChange s old) := by
  unfold State.softChange
  try dsimp only
  repeat' first
    | with_reducible assumption
    | with_reducible rfl
    | dsimp only
    | split
    | intro _
    | with_reducible apply Keeps.upd

theorem State.pulseChange_keeps {s0 : State} {s : State} (p : Nat) (fn : Nat)
    (hk : Keeps s0 s) : Keeps s0 (State.pulseChange s p fn) := by
  unfold State.pulseChange
  try dsimp only
  repeat' first
    | with_reducible assumption
    | with_reducible rfl
    | with_reducible apply State.setPulse_keeps

theorem State.laneObjChange_keeps {s0 : State} {s : State} (old : State) (o : Nat)
    (hk : Keeps s0 s) : Keeps s0 (State.laneObjChange s old o) := by
  unfold State.laneObjChange
  try dsimp only
  repeat' first
    | with_reducible assumption
    | with_reducible rfl
    | with_reducible apply State.publishLedger_keeps
    | with_reducible apply State.rejudgeTim_keeps
    | with_reducible apply State.descChange_keeps
    | with_reducible apply State.defectConfig_keeps
    | with_reducible apply State.pathDefectConfig_keeps
    | with_reducible apply State.pathConfig_keeps
    | with_reducible apply State.idChecks_keeps
    | with_reducible apply State.chanChange_keeps
    | dsimp only
    | split

theorem State.chipObjChange_keeps {s0 : State} {s : State} (old : State) (o : Nat) (fn : Nat)
    (hk : Keeps s0 s) : Keeps s0 (State.chipObjChange s old o fn) := by
  unfold State.chipObjChange
  try dsimp only
  repeat' first
    | with_reducible assumption
    | with_reducible rfl
    | with_reducible apply State.setOn_keeps
    | with_reducible apply State.clampCore_keeps
    | with_reducible apply State.capClear_keeps
    | with_reducible apply State.showPower_keeps
    | with_reducible apply State.dayChange_keeps
    | with_reducible apply State.macChange_keeps
    | dsimp only
    | split

theorem State.unitObjChange_keeps {s0 : State} {s : State} (old : State) (o : Nat) (fn : Nat)
    (hk : Keeps s0 s) : Keeps s0 (State.unitObjChange s old o fn) := by
  unfold State.unitObjChange
  try dsimp only
  repeat' first
    | with_reducible assumption
    | with_reducible rfl
    | with_reducible apply State.candWatch_keeps
    | with_reducible apply State.apsEval_keeps
    | with_reducible apply State.pathWatch_keeps
    | with_reducible apply State.groupChange_keeps
    | with_reducible apply State.softChange_keeps
    | with_reducible apply State.pulseChange_keeps
    | with_reducible apply State.chipObjChange_keeps
    | dsimp only
    | split

theorem State.tracesWritten_keeps {s0 : State} {s : State} (ws : List Wr)
    (hk : Keeps s0 s) : Keeps s0 (State.tracesWritten s ws) := by
  unfold State.tracesWritten
  try dsimp only
  repeat' first
    | with_reducible assumption
    | with_reducible rfl
    | with_reducible apply State.rejudgeTim_keeps
    | with_reducible apply Keeps.foldl
    | with_reducible apply Keeps.foldl_snd
    | with_reducible apply Keeps.foldl_fst
    | dsimp only
    | split
    | intro _

theorem State.written_keeps {s0 : State} {s : State} (w : Wr)
    (hk : Keeps s0 s) : Keeps s0 (State.written s w) := by
  unfold State.written
  try dsimp only
  repeat' first
    | with_reducible assumption
    | with_reducible rfl
    | with_reducible apply State.apsEval_keeps
    | with_reducible apply State.pathCommand_keeps
    | dsimp only
    | split
    | intro _
    | with_reducible apply Keeps.upd

end Sys2Proof.Machine
end

