-- ==== Sys2Proof/Laws/KeepsApply.lean ====
section
/-! SUPPORT. What the operations of Machine/Apply.lean keep (Keeps). -/

namespace Sys2Proof.Machine

theorem State.pageSwitch_keeps {s0 : State} {s : State} (id : Nat) (ws : List Wr)
    (hk : Keeps s0 s) : Keeps s0 (State.pageSwitch s id ws) := by
  unfold State.pageSwitch
  try dsimp only
  repeat' first
    | with_reducible assumption
    | with_reducible rfl
    | with_reducible apply State.setFld_keeps
    | with_reducible apply State.setOn_keeps
    | with_reducible apply State.pmSuspect_keeps
    | with_reducible apply State.pathCancel_keeps
    | with_reducible apply State.refillSlots_keeps
    | with_reducible apply State.putPage_keeps
    | with_reducible apply State.finishCopy_keeps
    | with_reducible apply Keeps.foldl
    | with_reducible apply Keeps.foldl_snd
    | with_reducible apply Keeps.foldl_fst
    | dsimp only
    | split
    | intro _
    | with_reducible apply Keeps.upd

theorem State.keepLane_keeps {s0 : State} {s : State} (old : State) (changed : List Nat) (ws : List Wr) (l : Nat)
    (hk : Keeps s0 s) : Keeps s0 (State.keepLane s old changed ws l) := by
  unfold State.keepLane
  try dsimp only
  repeat' first
    | with_reducible assumption
    | with_reducible rfl
    | with_reducible apply State.modLane_keeps
    | dsimp only
    | split

theorem State.putWrites_keeps {s0 : State} {s : State} (ws : List Wr)
    (hk : Keeps s0 s) : Keeps s0 (State.putWrites s ws) := by
  unfold State.putWrites
  try dsimp only
  repeat' first
    | with_reducible assumption
    | with_reducible rfl
    | with_reducible apply State.putAll_keeps
    | with_reducible apply State.modeSteps_keeps

theorem State.followWrites_keeps {s0 : State} {s : State} (old : State) (ws : List Wr) (fn : Nat)
    (hk : Keeps s0 s) : Keeps s0 (State.followWrites s old ws fn) := by
  unfold State.followWrites
  try dsimp only
  repeat' first
    | with_reducible assumption
    | with_reducible rfl
    | with_reducible apply State.partSteps_keeps
    | with_reducible apply State.bayChange_keeps
    | with_reducible apply State.ledgerChange_keeps
    | with_reducible apply State.laneChange_keeps
    | with_reducible apply State.outChange_keeps
    | with_reducible apply State.laneObjChange_keeps
    | with_reducible apply State.unitObjChange_keeps
    | with_reducible apply Keeps.foldl
    | with_reducible apply Keeps.foldl_snd
    | with_reducible apply Keeps.foldl_fst
    | dsimp only
    | split
    | intro _

theorem State.lifecycleSteps_keeps {s0 : State} {s : State} (ws : List Wr)
    (hk : Keeps s0 s) : Keeps s0 (State.lifecycleSteps s ws) := by
  unfold State.lifecycleSteps
  try dsimp only
  repeat' first
    | with_reducible assumption
    | with_reducible rfl
    | with_reducible apply State.lifecycleApply_keeps
    | dsimp only
    | split

theorem State.noteSeatObjs_keeps {s0 : State} {s : State} (ws : List Wr)
    (hk : Keeps s0 s) : Keeps s0 (State.noteSeatObjs s ws) := by
  unfold State.noteSeatObjs
  try dsimp only
  repeat' first
    | with_reducible assumption
    | with_reducible rfl
    | dsimp only
    | split
    | intro _
    | with_reducible apply Keeps.upd

theorem State.applyWrs_keeps {s0 : State} {s : State} (id : Nat) (ws : List Wr) (fn : Nat)
    (hk : Keeps s0 s) : Keeps s0 (State.applyWrs s id ws fn) := by
  unfold State.applyWrs
  try dsimp only
  repeat' first
    | with_reducible assumption
    | with_reducible rfl
    | with_reducible apply State.laneHook_keeps
    | with_reducible apply State.banksFollow_keeps
    | with_reducible apply State.powerApply_keeps
    | with_reducible apply State.timeSet_keeps
    | with_reducible apply State.tracesWritten_keeps
    | with_reducible apply State.written_keeps
    | with_reducible apply State.pageSwitch_keeps
    | with_reducible apply State.keepLane_keeps
    | with_reducible apply State.putWrites_keeps
    | with_reducible apply State.followWrites_keeps
    | with_reducible apply State.lifecycleSteps_keeps
    | with_reducible apply State.noteSeatObjs_keeps
    | with_reducible apply Keeps.foldl
    | with_reducible apply Keeps.foldl_snd
    | with_reducible apply Keeps.foldl_fst
    | dsimp only
    | split
    | intro _

theorem State.applyTxn_keeps {s0 : State} {s : State} (x : Txn) (fn : Nat)
    (hk : Keeps s0 s) : Keeps s0 (State.applyTxn s x fn) := by
  unfold State.applyTxn
  try dsimp only
  repeat' first
    | with_reducible assumption
    | with_reducible rfl
    | with_reducible apply State.applyWrs_keeps
    | dsimp only
    | split
    | intro _
    | with_reducible apply Keeps.upd

theorem State.applyGx_keeps {s0 : State} {s : State} (x : Txn)
    (hk : Keeps s0 s) : Keeps s0 (State.applyGx s x) := by
  unfold State.applyGx
  try dsimp only
  repeat' first
    | with_reducible assumption
    | with_reducible rfl
    | with_reducible apply State.setFld_keeps
    | with_reducible apply State.modGallery_keeps
    | with_reducible apply State.noteOwn_keeps
    | with_reducible apply State.applyTxn_keeps

theorem State.abortGx_keeps {s0 : State} {s : State} (x : Txn)
    (hk : Keeps s0 s) : Keeps s0 (State.abortGx s x) := by
  unfold State.abortGx
  try dsimp only
  repeat' first
    | with_reducible assumption
    | with_reducible rfl
    | with_reducible apply State.setFld_keeps
    | with_reducible apply State.bump_keeps
    | with_reducible apply State.raise_keeps
    | with_reducible apply State.modGallery_keeps
    | with_reducible apply State.withdraw_keeps

theorem State.holdGx_keeps {s0 : State} {s : State} (x : Txn)
    (hk : Keeps s0 s) : Keeps s0 (State.holdGx s x) := by
  unfold State.holdGx
  try dsimp only
  repeat' first
    | with_reducible assumption
    | with_reducible rfl
    | with_reducible apply State.setFld_keeps
    | with_reducible apply State.setOn_keeps
    | with_reducible apply State.raise_keeps
    | with_reducible apply State.modGallery_keeps
    | dsimp only
    | split
    | intro _
    | with_reducible apply Keeps.upd

theorem State.dueTxn_keeps {s0 : State} {s : State} (x : Txn)
    (hk : Keeps s0 s) : Keeps s0 (State.dueTxn s x) := by
  unfold State.dueTxn
  try dsimp only
  repeat' first
    | with_reducible assumption
    | with_reducible rfl
    | with_reducible apply State.applyTxn_keeps
    | with_reducible apply State.applyGx_keeps
    | with_reducible apply State.abortGx_keeps
    | with_reducible apply State.holdGx_keeps
    | dsimp only
    | split

theorem State.apply_keeps {s0 : State} {s : State} (id : Nat)
    (hk : Keeps s0 s) : Keeps s0 (State.apply s id) := by
  unfold State.apply
  try dsimp only
  repeat' first
    | with_reducible assumption
    | with_reducible rfl
    | with_reducible apply State.dueTxn_keeps
    | dsimp only
    | split

theorem State.applyDue_keeps {s0 : State} (k : Nat) {s : State} (hk : Keeps s0 s) :
    Keeps s0 (State.applyDue k s) := by
  induction k generalizing s with
  | zero => exact hk
  | succ k ih =>
    unfold State.applyDue
    split
    · exact ih (State.dueTxn_keeps _ hk)
    · exact hk

end Sys2Proof.Machine
end

