-- ==== Sys2Proof/Laws/KeepsBoundary.lean ====
section
/-! SUPPORT. What the operations of Machine/Boundary.lean keep (Keeps). -/

namespace Sys2Proof.Machine

theorem State.takeTxn_keeps {s0 : State} {s : State} (id : Nat) (fn : Nat) (ws : List Wr)
    (hk : Keeps s0 s) : Keeps s0 (State.takeTxn s id fn ws) := by
  unfold State.takeTxn
  try dsimp only
  repeat' first
    | with_reducible assumption
    | with_reducible rfl
    | with_reducible apply State.setFld_keeps
    | with_reducible apply State.modHeard_keeps
    | with_reducible apply State.stageWith_keeps
    | dsimp only
    | split
    | intro _
    | with_reducible apply Keeps.upd

theorem State.takeCancel_keeps {s0 : State} {s : State} (id : Nat)
    (hk : Keeps s0 s) : Keeps s0 (State.takeCancel s id) := by
  unfold State.takeCancel
  try dsimp only
  repeat' first
    | with_reducible assumption
    | with_reducible rfl
    | with_reducible apply State.modHeard_keeps
    | with_reducible apply State.withdraw_keeps
    | dsimp only
    | split

theorem State.stateDiff_keeps {s0 : State} {s : State}
    (hk : Keeps s0 s) : Keeps s0 (State.stateDiff s) := by
  unfold State.stateDiff
  try dsimp only
  repeat' first
    | with_reducible assumption
    | with_reducible rfl
    | with_reducible apply State.bump_keeps
    | with_reducible apply State.raise_keeps

theorem State.takeSel_keeps {s0 : State} {s : State} (g : Nat) (st : Nat)
    (hk : Keeps s0 s) : Keeps s0 (State.takeSel s g st) := by
  unfold State.takeSel
  try dsimp only
  repeat' first
    | with_reducible assumption
    | with_reducible rfl
    | with_reducible apply State.setSel_keeps
    | with_reducible apply State.stateDiff_keeps
    | dsimp only
    | split

theorem State.takePath_keeps {s0 : State} {s : State} (g : Nat) (v : Nat)
    (hk : Keeps s0 s) : Keeps s0 (State.takePath s g v) := by
  unfold State.takePath
  try dsimp only
  repeat' first
    | with_reducible assumption
    | with_reducible rfl
    | with_reducible apply State.setFld_keeps
    | with_reducible apply State.setOn_keeps
    | with_reducible apply State.setPprot_keeps
    | with_reducible apply State.stateDiff_keeps
    | dsimp only
    | split

theorem State.takeAps_keeps {s0 : State} {s : State} (g : Nat) (v : Nat)
    (hk : Keeps s0 s) : Keeps s0 (State.takeAps s g v) := by
  unfold State.takeAps
  try dsimp only
  repeat' first
    | with_reducible assumption
    | with_reducible rfl
    | with_reducible apply State.setOn_keeps
    | with_reducible apply State.setAps_keeps
    | with_reducible apply State.stateDiff_keeps
    | dsimp only
    | split

theorem State.takeSealed_keeps {s0 : State} {s : State} (v : Nat)
    (hk : Keeps s0 s) : Keeps s0 (State.takeSealed s v) := by
  unfold State.takeSealed
  try dsimp only
  repeat' first
    | with_reducible assumption
    | with_reducible rfl
    | with_reducible apply State.endWhere_keeps
    | with_reducible apply State.setSealed_keeps
    | dsimp only
    | split

theorem State.takeGalleryStatus_keeps {s0 : State} {s : State} (v : Nat)
    (hk : Keeps s0 s) : Keeps s0 (State.takeGalleryStatus s v) := by
  unfold State.takeGalleryStatus
  try dsimp only
  repeat' first
    | with_reducible assumption
    | with_reducible rfl
    | with_reducible apply State.setVal_keeps
    | with_reducible apply State.bump_keeps
    | with_reducible apply State.raise_keeps
    | with_reducible apply State.raiseIf_keeps
    | dsimp only
    | split

theorem State.takeGx_keeps {s0 : State} {s : State} (v : Nat)
    (hk : Keeps s0 s) : Keeps s0 (State.takeGx s v) := by
  unfold State.takeGx
  try dsimp only
  repeat' first
    | with_reducible assumption
    | with_reducible rfl
    | with_reducible apply State.setFld_keeps
    | with_reducible apply State.gxDiscard_keeps
    | with_reducible apply State.applyGx_keeps
    | dsimp only
    | split

theorem State.takeGallery_keeps {s0 : State} {s : State} (i : Nat) (v : Nat)
    (hk : Keeps s0 s) : Keeps s0 (State.takeGallery s i v) := by
  unfold State.takeGallery
  try dsimp only
  repeat' first
    | with_reducible assumption
    | with_reducible rfl
    | with_reducible apply State.setVal_keeps
    | with_reducible apply State.setFld_keeps
    | with_reducible apply State.modGallery_keeps
    | with_reducible apply State.setEpoch_keeps
    | with_reducible apply State.takeGalleryStatus_keeps
    | with_reducible apply State.takeGx_keeps
    | dsimp only
    | split

theorem State.takeShare_keeps {s0 : State} {s : State} (k : Nat) (v : Nat)
    (hk : Keeps s0 s) : Keeps s0 (State.takeShare s k v) := by
  unfold State.takeShare
  try dsimp only
  repeat' first
    | with_reducible assumption
    | with_reducible rfl
    | with_reducible apply State.modHeard_keeps
    | with_reducible apply State.takeGallery_keeps
    | dsimp only
    | split

theorem State.holdShare_keeps {s0 : State} {s : State} (k : Nat) (v : Nat)
    (hk : Keeps s0 s) : Keeps s0 (State.holdShare s k v) := by
  unfold State.holdShare
  try dsimp only
  repeat' first
    | with_reducible assumption
    | with_reducible rfl
    | with_reducible apply State.takeSel_keeps
    | with_reducible apply State.takePath_keeps
    | with_reducible apply State.takeAps_keeps
    | with_reducible apply State.takeSealed_keeps
    | dsimp only
    | split

theorem State.holdShares_keeps {s0 : State} {s : State}
    (hk : Keeps s0 s) : Keeps s0 (State.holdShares s) := by
  unfold State.holdShares
  try dsimp only
  repeat' first
    | with_reducible assumption
    | with_reducible rfl
    | with_reducible apply State.holdShare_keeps
    | with_reducible apply Keeps.foldl
    | with_reducible apply Keeps.foldl_snd
    | with_reducible apply Keeps.foldl_fst
    | dsimp only
    | split
    | intro _

theorem State.copyEntries_keeps {s0 : State} {s : State} (body : List BodyItem)
    (hk : Keeps s0 s) : Keeps s0 (State.copyEntries s body) := by
  unfold State.copyEntries
  try dsimp only
  repeat' first
    | with_reducible assumption
    | with_reducible rfl
    | with_reducible apply Keeps.foldl
    | with_reducible apply Keeps.foldl_snd
    | with_reducible apply Keeps.foldl_fst
    | dsimp only
    | split
    | intro _
    | with_reducible apply Keeps.upd

theorem State.dropUnsent_keeps {s0 : State} {s : State}
    (hk : Keeps s0 s) : Keeps s0 (State.dropUnsent s) := by
  unfold State.dropUnsent
  try dsimp only
  repeat' first
    | with_reducible assumption
    | with_reducible rfl
    | with_reducible apply State.withdraw_keeps
    | with_reducible apply Keeps.foldl

theorem State.takeCopy_keeps {s0 : State} {s : State} (body : List BodyItem)
    (hk : Keeps s0 s) : Keeps s0 (State.takeCopy s body) := by
  unfold State.takeCopy
  try dsimp only
  repeat' first
    | with_reducible assumption
    | with_reducible rfl
    | with_reducible apply State.modTandem_keeps
    | with_reducible apply State.finishCopy_keeps
    | with_reducible apply State.putAll_keeps
    | with_reducible apply State.applyWrs_keeps
    | with_reducible apply State.copyEntries_keeps
    | with_reducible apply State.dropUnsent_keeps

theorem State.gatherItem_keeps {s0 : State} {s : State} (b : BodyItem)
    (hk : Keeps s0 s) : Keeps s0 (State.gatherItem s b) := by
  unfold State.gatherItem
  try dsimp only
  repeat' first
    | with_reducible assumption
    | with_reducible rfl
    | with_reducible apply State.modHeard_keeps

theorem State.takeStaged_keeps {s0 : State} {s : State} (id : Nat) (fn : Nat) (es : Bool)
    (hk : Keeps s0 s) : Keeps s0 (State.takeStaged s id fn es) := by
  unfold State.takeStaged
  try dsimp only
  repeat' first
    | with_reducible assumption
    | with_reducible rfl
    | with_reducible apply State.modHeard_keeps
    | with_reducible apply State.takeTxn_keeps

theorem State.resyncEnd_keeps {s0 : State} {s : State}
    (hk : Keeps s0 s) : Keeps s0 (State.resyncEnd s) := by
  unfold State.resyncEnd
  try dsimp only
  repeat' first
    | with_reducible assumption
    | with_reducible rfl
    | with_reducible apply State.takeCopy_keeps
    | dsimp only
    | split

theorem State.takeItem_keeps {s0 : State} {s : State} (b : BodyItem)
    (hk : Keeps s0 s) : Keeps s0 (State.takeItem s b) := by
  unfold State.takeItem
  try dsimp only
  repeat' first
    | with_reducible assumption
    | with_reducible rfl
    | with_reducible apply State.modHeard_keeps
    | with_reducible apply State.cancel_keeps
    | with_reducible apply State.takeCancel_keeps
    | with_reducible apply State.takeShare_keeps
    | with_reducible apply State.gatherItem_keeps
    | with_reducible apply State.takeStaged_keeps
    | with_reducible apply State.resyncEnd_keeps
    | dsimp only
    | split

theorem State.takeRecord_keeps {s0 : State} {s : State}
    (hk : Keeps s0 s) : Keeps s0 (State.takeRecord s) := by
  unfold State.takeRecord
  try dsimp only
  repeat' first
    | with_reducible assumption
    | with_reducible rfl
    | with_reducible apply State.modHeard_keeps
    | with_reducible apply State.holdShares_keeps
    | with_reducible apply State.takeItem_keeps
    | with_reducible apply Keeps.foldl
    | with_reducible apply Keeps.foldl_snd
    | with_reducible apply Keeps.foldl_fst
    | dsimp only
    | split
    | intro _

theorem State.tandemBoundary_keeps {s0 : State} {s : State}
    (hk : Keeps s0 s) : Keeps s0 (State.tandemBoundary s) := by
  unfold State.tandemBoundary
  try dsimp only
  repeat' first
    | with_reducible assumption
    | with_reducible rfl
    | with_reducible apply State.tandemRelease_keeps
    | with_reducible apply State.recordLate_keeps
    | with_reducible apply State.dualActive_keeps
    | with_reducible apply State.modeMismatch_keeps
    | with_reducible apply State.recordMissing_keeps
    | with_reducible apply State.tandemReady_keeps
    | with_reducible apply State.takeRecord_keeps
    | dsimp only
    | split

theorem State.clientFrame_keeps {s0 : State} {s : State} (l : Nat)
    (hk : Keeps s0 s) : Keeps s0 (State.clientFrame s l) := by
  unfold State.clientFrame
  try dsimp only
  repeat' first
    | with_reducible assumption
    | with_reducible rfl
    | with_reducible apply State.modLane_keeps
    | with_reducible apply State.hiBerFrame_keeps
    | with_reducible apply State.mapUpTo_keeps
    | with_reducible apply State.pmBlock_keeps
    | with_reducible apply State.laneHook_keeps
    | dsimp only
    | split

theorem State.frameEnds_keeps {s0 : State} {s : State} (seen : FrameSeen)
    (hk : Keeps s0 s) : Keeps s0 (State.frameEnds s seen) := by
  unfold State.frameEnds
  try dsimp only
  repeat' first
    | with_reducible assumption
    | with_reducible rfl
    | with_reducible apply State.eyeRead_keeps
    | with_reducible apply State.patternCheck_keeps
    | with_reducible apply State.sawEdge_keeps
    | with_reducible apply State.clientFrame_keeps
    | with_reducible apply Keeps.foldl
    | with_reducible apply Keeps.foldl_snd
    | with_reducible apply Keeps.foldl_fst
    | dsimp only
    | split
    | intro _

theorem State.boundaryDone_keeps {s0 : State} {s : State}
    (hk : Keeps s0 s) : Keeps s0 (State.boundaryDone s) := by
  unfold State.boundaryDone
  try dsimp only
  repeat' first
    | with_reducible assumption
    | with_reducible rfl
    | dsimp only
    | split
    | intro _
    | with_reducible apply Keeps.upd

theorem State.boundary_keeps {s0 : State} {s : State} (seen : FrameSeen)
    (hk : Keeps s0 s) : Keeps s0 (State.boundary s seen) := by
  unfold State.boundary
  try dsimp only
  repeat' first
    | with_reducible assumption
    | with_reducible rfl
    | with_reducible apply State.pmScanAll_keeps
    | with_reducible apply State.timingBoundary_keeps
    | with_reducible apply State.epochAdopt_keeps
    | with_reducible apply State.galleryBoundary_keeps
    | with_reducible apply State.supplyIdle_keeps
    | with_reducible apply State.applyDue_keeps
    | with_reducible apply State.tandemBoundary_keeps
    | with_reducible apply State.frameEnds_keeps
    | with_reducible apply State.boundaryDone_keeps
    | dsimp only
    | split

theorem State.copyComplete_keeps {s0 : State} {s : State}
    (hk : Keeps s0 s) : Keeps s0 (State.copyComplete s) := by
  unfold State.copyComplete
  try dsimp only
  repeat' first
    | with_reducible assumption
    | with_reducible rfl
    | with_reducible apply State.finishCopy_keeps
    | dsimp only
    | split

end Sys2Proof.Machine
end

