-- ==== Sys2Proof/Laws/KeepsServer.lean ====
section
/-! SUPPORT. What the operations of Machine/Server.lean keep (Keeps). -/

namespace Sys2Proof.Machine

theorem State.answerWith_keeps {s0 : State} {s : State} (r : Reply) (cls : Nat)
    (hk : Keeps s0 s) : Keeps s0 (State.answerWith s r cls) := by
  unfold State.answerWith
  try dsimp only
  repeat' first
    | with_reducible assumption
    | with_reducible rfl
    | with_reducible apply State.deliver_keeps
    | dsimp only
    | split
    | intro _
    | with_reducible apply Keeps.upd

theorem State.runOps_keeps {s0 : State} (n : Nat) (ops : List Op) {s : State} (hk : Keeps s0 s) :
    Keeps s0 (State.runOps n ops s).2 := by
  induction ops generalizing s with
  | nil => exact hk
  | cons op ops ih =>
    unfold State.runOps
    dsimp only
    split
    · exact Keeps.upd (State.execOp_keeps n op hk)
    · exact ih (Keeps.upd (State.execOp_keeps n op hk))

theorem State.access_keeps {s0 : State} {s : State} (n : Nat) (ops : List Op)
    (hk : Keeps s0 s) : Keeps s0 (State.access s n ops).2.2 := by
  unfold State.access
  try dsimp only
  repeat' first
    | with_reducible assumption
    | with_reducible rfl
    | with_reducible apply State.runOps_keeps
    | dsimp only
    | split

theorem State.keyed_keeps {s0 : State} {s : State} (x : Session) (obj scope : Nat) (r : ClaimOut) (hr : Keeps s0 r.2.2)
    (hk : Keeps s0 s) : Keeps s0 (s.keyed x obj scope r).2.2 := by
  unfold State.keyed claimAnswer
  dsimp only
  split
  · exact hk
  · exact hr

theorem State.doReq_keeps {s0 : State} {s : State} (x : Session) (r : Req) (hk : Keeps s0 s) :
    Keeps s0 (s.doReq x r).2.2 := by
  cases r with
  | opn => exact hk
  | close => exact State.modSession_keeps _ _ (fun _ => rfl) hk
  | keepalive => exact hk
  | access ops => exact State.access_keeps x.num ops hk
  | commit fn dry => exact State.commit_keeps x fn dry hk
  | abort => exact State.abort_keeps x hk
  | cancel id => exact State.cancel_keeps x id hk
  | claim obj scope lease => exact State.keyed_keeps x obj scope _ (State.claimReq_keeps x.num obj scope lease hk) hk
  | renew obj scope lease => exact State.keyed_keeps x obj scope _ (State.renewReq_keeps x.num obj scope lease hk) hk
  | release obj scope => exact State.keyed_keeps x obj scope _ (State.releaseReq_keeps x.num obj scope hk) hk
  | eventAck seq => exact State.eventAck_keeps x.num seq hk
  | event => exact hk
  | reserved => exact hk
  | malformed => exact hk

theorem State.wrapEnd_keeps {s0 : State} {s : State} (n : Nat) (seq : Nat)
    (hk : Keeps s0 s) : Keeps s0 (State.wrapEnd s n seq) := by
  unfold State.wrapEnd
  try dsimp only
  repeat' first
    | with_reducible assumption
    | with_reducible rfl
    | with_reducible apply State.modSession_keeps
    | dsimp only
    | split
    | intro _

theorem State.execReq_keeps {s0 : State} {s : State} (n : Nat) (src : Src) (seq : Nat) (req : Req)
    (hk : Keeps s0 s) : Keeps s0 (State.execReq s n src seq req) := by
  unfold State.execReq
  try dsimp only
  repeat' first
    | with_reducible assumption
    | with_reducible rfl
    | with_reducible apply State.setSession_keeps
    | with_reducible apply State.modSession_keeps
    | with_reducible apply State.settleOps_keeps
    | with_reducible apply State.answerWith_keeps
    | with_reducible apply State.doReq_keeps
    | with_reducible apply State.wrapEnd_keeps
    | dsimp only
    | split
    | intro _

theorem State.drainHeld_keeps {s0 : State} (n k : Nat) {s : State} (hk : Keeps s0 s) :
    Keeps s0 (State.drainHeld n k s) := by
  induction k generalizing s with
  | zero => exact hk
  | succ k ih =>
    unfold State.drainHeld
    split
    · split
      · exact ih (State.execReq_keeps _ _ _ _ (State.setSession_keeps _ hk))
      · exact hk
    · exact hk

theorem State.sequence_keeps {s0 : State} {s : State} (x : Session) (src : Src) (seq : Nat) (req : Req)
    (hk : Keeps s0 s) : Keeps s0 (State.sequence s x src seq req) := by
  unfold State.sequence
  try dsimp only
  repeat' first
    | with_reducible assumption
    | with_reducible rfl
    | with_reducible apply State.modSession_keeps
    | with_reducible apply State.answerWith_keeps
    | with_reducible apply State.execReq_keeps
    | with_reducible apply State.drainHeld_keeps
    | dsimp only
    | split
    | intro _

theorem State.inSession_keeps {s0 : State} {s : State} (x : Session) (src : Src) (seq : Nat) (req : Req)
    (hk : Keeps s0 s) : Keeps s0 (State.inSession s x src seq req) := by
  unfold State.inSession
  try dsimp only
  repeat' first
    | with_reducible assumption
    | with_reducible rfl
    | with_reducible apply State.setSession_keeps
    | with_reducible apply State.sequence_keeps

theorem State.openSession_keeps {s0 : State} {s : State} (src : Src) (seq : Nat) (part : Nat) (auth : Bool) (events : Bool) (idle : Nat) (nonce : List Byte)
    (hk : Keeps s0 s) : Keeps s0 (State.openSession s src seq part auth events idle nonce).2.2 := by
  unfold State.openSession
  split
  · exact hk
  · next ho =>
    have hf : s.freeNums = s.freeNums.headD 1 :: s.freeNums.drop 1 := by
      cases hn : s.freeNums with
      | nil =>
        unfold State.openRefused at ho
        repeat' split at ho
        all_goals simp_all
      | cons => rfl
    cases auth with
    | true => exact Keeps.open_number rfl hf (State.drawn_keeps hk)
    | false => exact Keeps.open_number rfl hf hk

theorem State.openReq_keeps {s0 : State} {s : State} (src : Src) (seq : Nat) (req : Req)
    (hk : Keeps s0 s) : Keeps s0 (State.openReq s src seq req) := by
  unfold State.openReq
  try dsimp only
  repeat' first
    | with_reducible assumption
    | with_reducible rfl
    | with_reducible apply State.answerWith_keeps
    | with_reducible apply State.openSession_keeps
    | dsimp only
    | split
    | intro _
    | with_reducible apply Keeps.upd

theorem State.discard_keeps {s0 : State} {s : State}
    (hk : Keeps s0 s) : Keeps s0 (State.discard s) := by
  unfold State.discard
  try dsimp only
  repeat' first
    | with_reducible assumption
    | with_reducible rfl
    | with_reducible apply State.bump_keeps

theorem State.authFail_keeps {s0 : State} {s : State}
    (hk : Keeps s0 s) : Keeps s0 (State.authFail s) := by
  unfold State.authFail
  try dsimp only
  repeat' first
    | with_reducible assumption
    | with_reducible rfl
    | with_reducible apply State.bump_keeps
    | with_reducible apply State.raise_keeps

theorem State.named_keeps {s0 : State} {s : State} (src : Src) (h : Head) (req : Req)
    (hk : Keeps s0 s) : Keeps s0 (State.named s src h req) := by
  unfold State.named
  try dsimp only
  repeat' first
    | with_reducible assumption
    | with_reducible rfl
    | with_reducible apply State.event_keeps
    | with_reducible apply State.inSession_keeps
    | with_reducible apply State.discard_keeps
    | dsimp only
    | split

theorem State.plainMsg_keeps {s0 : State} {s : State} (src : Src) (h : Head) (req : Req)
    (hk : Keeps s0 s) : Keeps s0 (State.plainMsg s src h req) := by
  unfold State.plainMsg
  try dsimp only
  repeat' first
    | with_reducible assumption
    | with_reducible rfl
    | with_reducible apply State.bump_keeps
    | with_reducible apply State.openReq_keeps
    | with_reducible apply State.discard_keeps
    | with_reducible apply State.authFail_keeps
    | with_reducible apply State.named_keeps
    | dsimp only
    | split

theorem State.sealedMsg_keeps {s0 : State} {s : State} (src : Src) (h : Head) (req : Req)
    (hk : Keeps s0 s) : Keeps s0 (State.sealedMsg s src h req) := by
  unfold State.sealedMsg
  try dsimp only
  repeat' first
    | with_reducible assumption
    | with_reducible rfl
    | with_reducible apply State.discard_keeps
    | with_reducible apply State.authFail_keeps
    | with_reducible apply State.named_keeps
    | dsimp only
    | split

theorem State.judgeMsg_keeps {s0 : State} {s : State} (src : Src) (h : Head) (req : Req)
    (hk : Keeps s0 s) : Keeps s0 (State.judgeMsg s src h req) := by
  unfold State.judgeMsg
  try dsimp only
  repeat' first
    | with_reducible assumption
    | with_reducible rfl
    | with_reducible apply State.discard_keeps
    | with_reducible apply State.plainMsg_keeps
    | with_reducible apply State.sealedMsg_keeps
    | dsimp only
    | split

theorem State.takeMsg_keeps {s0 : State} {s : State} (src : Src) (h : Head) (req : Req)
    (hk : Keeps s0 s) : Keeps s0 (State.takeMsg s src h req) := by
  unfold State.takeMsg
  try dsimp only
  repeat' first
    | with_reducible assumption
    | with_reducible rfl
    | with_reducible apply State.leasesDue_keeps
    | with_reducible apply State.judgeMsg_keeps

theorem State.takeRaw_keeps {s0 : State} {s : State} (src : Src) (bs : List Byte)
    (hk : Keeps s0 s) : Keeps s0 (State.takeRaw s src bs) := by
  unfold State.takeRaw
  try dsimp only
  repeat' first
    | with_reducible assumption
    | with_reducible rfl
    | with_reducible apply State.takeMsg_keeps

theorem State.serveMac_keeps {s0 : State} (m k : Nat) {s : State} (hk : Keeps s0 s) :
    Keeps s0 (State.serveMac m k s) := by
  induction k generalizing s with
  | zero => exact hk
  | succ k ih =>
    unfold State.serveMac
    split
    · split
      · exact ih (State.takeRaw_keeps _ _ (State.pauseCheck_keeps _ (State.modMac_keeps _ _ hk)))
      · exact hk
    · exact hk

theorem State.serveSpi_keeps {s0 : State} (k : Nat) {s : State} (hk : Keeps s0 s) :
    Keeps s0 (State.serveSpi k s) := by
  induction k generalizing s with
  | zero => exact hk
  | succ k ih =>
    unfold State.serveSpi
    split
    · split
      · exact ih (State.takeRaw_keeps _ _ (Keeps.upd hk))
      · exact hk
    · exact hk

theorem State.serveDcc_keeps {s0 : State} (k : Nat) {s : State} (hk : Keeps s0 s) :
    Keeps s0 (State.serveDcc k s) := by
  induction k generalizing s with
  | zero => exact hk
  | succ k ih =>
    unfold State.serveDcc
    split
    · split
      · exact ih (State.takeRaw_keeps _ _ (Keeps.upd hk))
      · exact hk
    · exact hk

theorem State.serveAll_keeps {s0 : State} {s : State}
    (hk : Keeps s0 s) : Keeps s0 (State.serveAll s) := by
  unfold State.serveAll
  try dsimp only
  repeat' first
    | with_reducible assumption
    | with_reducible rfl
    | with_reducible apply State.serveMac_keeps
    | with_reducible apply State.serveSpi_keeps
    | with_reducible apply State.serveDcc_keeps

theorem State.spiWrite_keeps {s0 : State} {s : State} (bytes : List Byte)
    (hk : Keeps s0 s) : Keeps s0 (State.spiWrite s bytes) := by
  unfold State.spiWrite
  try dsimp only
  repeat' first
    | with_reducible assumption
    | with_reducible rfl
    | with_reducible apply State.bump_keeps
    | with_reducible apply State.serveAll_keeps
    | dsimp only
    | split
    | intro _
    | with_reducible apply Keeps.upd

theorem State.spiRead_keeps {s0 : State} {s : State} (clocked : Nat)
    (hk : Keeps s0 s) : Keeps s0 (State.spiRead s clocked) := by
  unfold State.spiRead
  try dsimp only
  repeat' first
    | with_reducible assumption
    | with_reducible rfl
    | dsimp only
    | split
    | intro _
    | with_reducible apply Keeps.upd

theorem State.spiStatus_keeps {s0 : State} {s : State}
    (hk : Keeps s0 s) : Keeps s0 (State.spiStatus s) := by
  unfold State.spiStatus
  try dsimp only
  repeat' first
    | with_reducible assumption
    | with_reducible rfl
    | dsimp only
    | split
    | intro _
    | with_reducible apply Keeps.upd

end Sys2Proof.Machine
end

