-- ==== Sys2Proof/Laws/KeepsExec.lean ====
section
/-! SUPPORT. What every command keeps from the instant it occurs (Keeps). -/

namespace Sys2Proof.Machine

theorem onUnit_next {ok : Bool} {what : String} {s u : State} (h : onUnit ok what s = .next u) : u = s := by
  unfold onUnit at h
  split at h
  · exact (Host.Outcome.next.inj h).symm
  · cases h

theorem execLeaseExpiry_keeps (t : Tick) (obj : Nat) (scope : Nat) (s : State) {sn : State}
    (h : execLeaseExpiry t obj scope s = .next sn) : Keeps (s.advance t) sn := by
  have hk := Keeps.refl (s.advance t)
  unfold execLeaseExpiry at h
  cases onUnit_next h
  repeat' first
    | with_reducible assumption
    | with_reducible rfl
    | with_reducible apply State.expireLease_keeps

theorem execHwClaimRequest_keeps (t : Tick) (owner : Nat) (gen : Nat) (key : Nat) (ask : HwAsk) (s : State) {sn : State}
    (h : execHwClaimRequest t owner gen key ask s = .next sn) : Keeps (s.advance t) sn := by
  have hk := Keeps.refl (s.advance t)
  unfold execHwClaimRequest at h
  cases onUnit_next h
  repeat' first
    | with_reducible assumption
    | with_reducible rfl
    | with_reducible apply State.hwClaimAsk_keeps

theorem execDccClockReturn_keeps (t : Tick) (pair : Nat) (s : State) {sn : State}
    (h : execDccClockReturn t pair s = .next sn) : Keeps (s.advance t) sn := by
  have hk := Keeps.refl (s.advance t)
  unfold execDccClockReturn at h
  cases onUnit_next h
  repeat' first
    | with_reducible assumption
    | with_reducible rfl
    | with_reducible apply State.pairClock_keeps

theorem execDccPortReceive_keeps (t : Tick) (port : Nat) (d : DccIn) (s : State) {sn : State}
    (h : execDccPortReceive t port d s = .next sn) : Keeps (s.advance t) sn := by
  have hk := Keeps.refl (s.advance t)
  unfold execDccPortReceive at h
  cases onUnit_next h
  repeat' first
    | with_reducible assumption
    | with_reducible rfl
    | with_reducible apply State.portReceive_keeps

theorem execDccPortSend_keeps (t : Tick) (port : Nat) (s : State) {sn : State}
    (h : execDccPortSend t port s = .next sn) : Keeps (s.advance t) sn := by
  have hk := Keeps.refl (s.advance t)
  unfold execDccPortSend at h
  cases onUnit_next h
  repeat' first
    | with_reducible assumption
    | with_reducible rfl
    | with_reducible apply State.portSend_keeps

theorem execRampEnd_keeps (t : Tick) (out : Nat) (delta : Int) (s : State) {sn : State}
    (h : execRampEnd t out delta s = .next sn) : Keeps (s.advance t) sn := by
  have hk := Keeps.refl (s.advance t)
  unfold execRampEnd at h
  cases onUnit_next h
  repeat' first
    | with_reducible assumption
    | with_reducible rfl
    | with_reducible apply State.rampEnd_keeps

theorem execGlideDone_keeps (t : Tick) (out : Nat) (s : State) {sn : State}
    (h : execGlideDone t out s = .next sn) : Keeps (s.advance t) sn := by
  have hk := Keeps.refl (s.advance t)
  unfold execGlideDone at h
  cases onUnit_next h
  repeat' first
    | with_reducible assumption
    | with_reducible rfl
    | with_reducible apply State.glideDone_keeps

theorem execOutputResume_keeps (t : Tick) (out : Nat) (s : State) {sn : State}
    (h : execOutputResume t out s = .next sn) : Keeps (s.advance t) sn := by
  have hk := Keeps.refl (s.advance t)
  unfold execOutputResume at h
  cases onUnit_next h
  repeat' first
    | with_reducible assumption
    | with_reducible rfl
    | with_reducible apply State.outputResume_keeps

theorem execPpsPulse_keeps (t : Tick) (p : Nat) (s : State) {sn : State}
    (h : execPpsPulse t p s = .next sn) : Keeps (s.advance t) sn := by
  have hk := Keeps.refl (s.advance t)
  unfold execPpsPulse at h
  cases onUnit_next h
  repeat' first
    | with_reducible assumption
    | with_reducible rfl
    | with_reducible apply State.ppsPulse_keeps

theorem execActLost_keeps (t : Tick) (input : Nat) (s : State) {sn : State}
    (h : execActLost t input s = .next sn) : Keeps (s.advance t) sn := by
  have hk := Keeps.refl (s.advance t)
  unfold execActLost at h
  cases onUnit_next h
  repeat' first
    | with_reducible assumption
    | with_reducible rfl
    | with_reducible apply State.actLost_keeps

theorem execActReturn_keeps (t : Tick) (input : Nat) (s : State) {sn : State}
    (h : execActReturn t input s = .next sn) : Keeps (s.advance t) sn := by
  have hk := Keeps.refl (s.advance t)
  unfold execActReturn at h
  cases onUnit_next h
  repeat' first
    | with_reducible assumption
    | with_reducible rfl
    | with_reducible apply State.actReturn_keeps

theorem execCandWtrExpiry_keeps (t : Tick) (cand : Nat) (s : State) {sn : State}
    (h : execCandWtrExpiry t cand s = .next sn) : Keeps (s.advance t) sn := by
  have hk := Keeps.refl (s.advance t)
  unfold execCandWtrExpiry at h
  cases onUnit_next h
  repeat' first
    | with_reducible assumption
    | with_reducible rfl
    | with_reducible apply State.candWtr_keeps

theorem execLockTimeReached_keeps (t : Tick) (s : State) {sn : State}
    (h : execLockTimeReached t s = .next sn) : Keeps (s.advance t) sn := by
  have hk := Keeps.refl (s.advance t)
  unfold execLockTimeReached at h
  cases h
  repeat' first
    | with_reducible assumption
    | with_reducible rfl
    | with_reducible apply State.lockReached_keeps

theorem execPullComplete_keeps (t : Tick) (s : State) {sn : State}
    (h : execPullComplete t s = .next sn) : Keeps (s.advance t) sn := by
  have hk := Keeps.refl (s.advance t)
  unfold execPullComplete at h
  cases h
  repeat' first
    | with_reducible assumption
    | with_reducible rfl
    | with_reducible apply State.pullComplete_keeps

theorem execHoldoverExpiry_keeps (t : Tick) (s : State) {sn : State}
    (h : execHoldoverExpiry t s = .next sn) : Keeps (s.advance t) sn := by
  have hk := Keeps.refl (s.advance t)
  unfold execHoldoverExpiry at h
  cases h
  repeat' first
    | with_reducible assumption
    | with_reducible rfl
    | with_reducible apply State.holdoverExpiry_keeps

theorem execWatchdog_keeps (t : Tick) (s : State) {sn : State}
    (h : execWatchdog t s = .next sn) : Keeps (s.advance t) sn := by
  have hk := Keeps.refl (s.advance t)
  unfold execWatchdog at h
  cases h
  repeat' first
    | with_reducible assumption
    | with_reducible rfl
    | with_reducible apply State.watchdogExpiry_keeps

theorem execDtsSecondBoundary_keeps (t : Tick) (s : State) {sn : State}
    (h : execDtsSecondBoundary t s = .next sn) : Keeps (s.advance t) sn := by
  have hk := Keeps.refl (s.advance t)
  unfold execDtsSecondBoundary at h
  cases h
  repeat' first
    | with_reducible assumption
    | with_reducible rfl
    | with_reducible apply State.secondBoundary_keeps

theorem execApsAcceptance_keeps (t : Tick) (g : Nat) (s : State) {sn : State}
    (h : execApsAcceptance t g s = .next sn) : Keeps (s.advance t) sn := by
  have hk := Keeps.refl (s.advance t)
  unfold execApsAcceptance at h
  cases onUnit_next h
  repeat' first
    | with_reducible assumption
    | with_reducible rfl
    | with_reducible apply State.apsAccept_keeps

theorem execHoldOffExpiry_keeps (t : Tick) (g : Nat) (prot : Bool) (degrade : Bool) (s : State) {sn : State}
    (h : execHoldOffExpiry t g prot degrade s = .next sn) : Keeps (s.advance t) sn := by
  have hk := Keeps.refl (s.advance t)
  unfold execHoldOffExpiry at h
  cases onUnit_next h
  repeat' first
    | with_reducible assumption
    | with_reducible rfl
    | with_reducible apply State.apsHoldOff_keeps

theorem execApsWtrExpiry_keeps (t : Tick) (g : Nat) (s : State) {sn : State}
    (h : execApsWtrExpiry t g s = .next sn) : Keeps (s.advance t) sn := by
  have hk := Keeps.refl (s.advance t)
  unfold execApsWtrExpiry at h
  cases onUnit_next h
  repeat' first
    | with_reducible assumption
    | with_reducible rfl
    | with_reducible apply State.apsWtr_keeps

theorem execFopChange_keeps (t : Tick) (g : Nat) (arch : Bool) (s : State) {sn : State}
    (h : execFopChange t g arch s = .next sn) : Keeps (s.advance t) sn := by
  have hk := Keeps.refl (s.advance t)
  unfold execFopChange at h
  cases onUnit_next h
  repeat' first
    | with_reducible assumption
    | with_reducible rfl
    | with_reducible apply State.fopChange_keeps

theorem execPathHoldOffExpiry_keeps (t : Tick) (lane : Nat) (k : Nat) (s : State) {sn : State}
    (h : execPathHoldOffExpiry t lane k s = .next sn) : Keeps (s.advance t) sn := by
  have hk := Keeps.refl (s.advance t)
  unfold execPathHoldOffExpiry at h
  cases onUnit_next h
  repeat' first
    | with_reducible assumption
    | with_reducible rfl
    | with_reducible apply State.pathHoldOff_keeps

theorem execPathWtrExpiry_keeps (t : Tick) (lane : Nat) (k : Nat) (s : State) {sn : State}
    (h : execPathWtrExpiry t lane k s = .next sn) : Keeps (s.advance t) sn := by
  have hk := Keeps.refl (s.advance t)
  unfold execPathWtrExpiry at h
  cases onUnit_next h
  repeat' first
    | with_reducible assumption
    | with_reducible rfl
    | with_reducible apply State.pathWtr_keeps

theorem execLtdClear_keeps (t : Tick) (lane : Nat) (s : State) {sn : State}
    (h : execLtdClear t lane s = .next sn) : Keeps (s.advance t) sn := by
  have hk := Keeps.refl (s.advance t)
  unfold execLtdClear at h
  cases onUnit_next h
  repeat' first
    | with_reducible assumption
    | with_reducible rfl
    | with_reducible apply State.ltdClear_keeps
    | with_reducible apply State.laneHook_keeps

theorem execStepAccept_keeps (t : Tick) (lane : Nat) (s : State) {sn : State}
    (h : execStepAccept t lane s = .next sn) : Keeps (s.advance t) sn := by
  have hk := Keeps.refl (s.advance t)
  unfold execStepAccept at h
  cases onUnit_next h
  repeat' first
    | with_reducible assumption
    | with_reducible rfl
    | with_reducible apply State.stepAccept_keeps
    | with_reducible apply State.laneHook_keeps

theorem execLedgerReseedTimeout_keeps (t : Tick) (lane : Nat) (s : State) {sn : State}
    (h : execLedgerReseedTimeout t lane s = .next sn) : Keeps (s.advance t) sn := by
  have hk := Keeps.refl (s.advance t)
  unfold execLedgerReseedTimeout at h
  cases onUnit_next h
  repeat' first
    | with_reducible assumption
    | with_reducible rfl
    | with_reducible apply State.ledgerTimeout_keeps
    | with_reducible apply State.laneHook_keeps

theorem execSfSdDeclare_keeps (t : Tick) (lane : Nat) (d : SfSd) (s : State) {sn : State}
    (h : execSfSdDeclare t lane d s = .next sn) : Keeps (s.advance t) sn := by
  have hk := Keeps.refl (s.advance t)
  unfold execSfSdDeclare at h
  cases onUnit_next h
  repeat' first
    | with_reducible assumption
    | with_reducible rfl
    | with_reducible apply State.sfDeclare_keeps
    | with_reducible apply State.laneHook_keeps

theorem execSfSdWindowEnd_keeps (t : Tick) (lane : Nat) (d : SfSd) (s : State) {sn : State}
    (h : execSfSdWindowEnd t lane d s = .next sn) : Keeps (s.advance t) sn := by
  have hk := Keeps.refl (s.advance t)
  unfold execSfSdWindowEnd at h
  cases onUnit_next h
  repeat' first
    | with_reducible assumption
    | with_reducible rfl
    | with_reducible apply State.sfWindowEnd_keeps
    | with_reducible apply State.laneHook_keeps

theorem execTraceAcceptance_keeps (t : Tick) (lane : Nat) (site : TraceSite) (s : State) {sn : State}
    (h : execTraceAcceptance t lane site s = .next sn) : Keeps (s.advance t) sn := by
  have hk := Keeps.refl (s.advance t)
  unfold execTraceAcceptance at h
  cases onUnit_next h
  repeat' first
    | with_reducible assumption
    | with_reducible rfl
    | with_reducible apply State.acceptTrace_keeps
    | with_reducible apply State.laneHook_keeps

theorem execLosDeclare_keeps (t : Tick) (lane : Nat) (s : State) {sn : State}
    (h : execLosDeclare t lane s = .next sn) : Keeps (s.advance t) sn := by
  have hk := Keeps.refl (s.advance t)
  unfold execLosDeclare at h
  cases onUnit_next h
  repeat' first
    | with_reducible assumption
    | with_reducible rfl
    | with_reducible apply State.losDeclare_keeps
    | with_reducible apply State.laneHook_keeps

theorem execLosClear_keeps (t : Tick) (lane : Nat) (s : State) {sn : State}
    (h : execLosClear t lane s = .next sn) : Keeps (s.advance t) sn := by
  have hk := Keeps.refl (s.advance t)
  unfold execLosClear at h
  cases onUnit_next h
  repeat' first
    | with_reducible assumption
    | with_reducible rfl
    | with_reducible apply State.losClear_keeps
    | with_reducible apply State.laneHook_keeps

theorem execLofDeclare_keeps (t : Tick) (lane : Nat) (s : State) {sn : State}
    (h : execLofDeclare t lane s = .next sn) : Keeps (s.advance t) sn := by
  have hk := Keeps.refl (s.advance t)
  unfold execLofDeclare at h
  cases onUnit_next h
  repeat' first
    | with_reducible assumption
    | with_reducible rfl
    | with_reducible apply State.lofDeclare_keeps
    | with_reducible apply State.laneHook_keeps

theorem execLofClear_keeps (t : Tick) (lane : Nat) (s : State) {sn : State}
    (h : execLofClear t lane s = .next sn) : Keeps (s.advance t) sn := by
  have hk := Keeps.refl (s.advance t)
  unfold execLofClear at h
  cases onUnit_next h
  repeat' first
    | with_reducible assumption
    | with_reducible rfl
    | with_reducible apply State.lofClear_keeps
    | with_reducible apply State.laneHook_keeps

theorem execLoblDeclare_keeps (t : Tick) (lane : Nat) (s : State) {sn : State}
    (h : execLoblDeclare t lane s = .next sn) : Keeps (s.advance t) sn := by
  have hk := Keeps.refl (s.advance t)
  unfold execLoblDeclare at h
  cases onUnit_next h
  repeat' first
    | with_reducible assumption
    | with_reducible rfl
    | with_reducible apply State.loblDeclare_keeps
    | with_reducible apply State.laneHook_keeps

theorem execLoblClear_keeps (t : Tick) (lane : Nat) (s : State) {sn : State}
    (h : execLoblClear t lane s = .next sn) : Keeps (s.advance t) sn := by
  have hk := Keeps.refl (s.advance t)
  unfold execLoblClear at h
  cases onUnit_next h
  repeat' first
    | with_reducible assumption
    | with_reducible rfl
    | with_reducible apply State.loblClear_keeps
    | with_reducible apply State.laneHook_keeps

theorem execDefectPersistence_keeps (t : Tick) (lane : Nat) (d : Persist) (s : State) {sn : State}
    (h : execDefectPersistence t lane d s = .next sn) : Keeps (s.advance t) sn := by
  have hk := Keeps.refl (s.advance t)
  unfold execDefectPersistence at h
  cases onUnit_next h
  repeat' first
    | with_reducible assumption
    | with_reducible rfl
    | with_reducible apply State.persistence_keeps
    | with_reducible apply State.laneHook_keeps

theorem execFieldAcceptance_keeps (t : Tick) (lane : Nat) (f : AccField) (s : State) {sn : State}
    (h : execFieldAcceptance t lane f s = .next sn) : Keeps (s.advance t) sn := by
  have hk := Keeps.refl (s.advance t)
  unfold execFieldAcceptance at h
  cases onUnit_next h
  repeat' first
    | with_reducible assumption
    | with_reducible rfl
    | with_reducible apply State.noteTraceable_keeps
    | with_reducible apply State.acceptField_keeps
    | with_reducible apply State.laneHook_keeps

theorem execS1Acceptance_keeps (t : Tick) (lane : Nat) (s : State) {sn : State}
    (h : execS1Acceptance t lane s = .next sn) : Keeps (s.advance t) sn := by
  have hk := Keeps.refl (s.advance t)
  unfold execS1Acceptance at h
  cases onUnit_next h
  repeat' first
    | with_reducible assumption
    | with_reducible rfl
    | with_reducible apply State.acceptS1_keeps
    | with_reducible apply State.laneHook_keeps

theorem execBayPllLock_keeps (t : Tick) (bay : Nat) (s : State) {sn : State}
    (h : execBayPllLock t bay s = .next sn) : Keeps (s.advance t) sn := by
  have hk := Keeps.refl (s.advance t)
  unfold execBayPllLock at h
  cases onUnit_next h
  repeat' first
    | with_reducible assumption
    | with_reducible rfl
    | with_reducible apply State.bayLock_keeps
    | with_reducible apply State.laneHook_keeps
    | with_reducible apply Keeps.foldl

theorem execTxReady_keeps (t : Tick) (lane : Nat) (pinDelay : Word) (s : State) {sn : State}
    (h : execTxReady t lane pinDelay s = .next sn) : Keeps (s.advance t) sn := by
  have hk := Keeps.refl (s.advance t)
  unfold execTxReady at h
  cases onUnit_next h
  repeat' first
    | with_reducible assumption
    | with_reducible rfl
    | with_reducible apply State.txReadyNow_keeps
    | with_reducible apply State.laneHook_keeps

theorem execSigDetChange_keeps (t : Tick) (lane : Nat) (present : Bool) (s : State) {sn : State}
    (h : execSigDetChange t lane present s = .next sn) : Keeps (s.advance t) sn := by
  have hk := Keeps.refl (s.advance t)
  unfold execSigDetChange at h
  cases onUnit_next h
  repeat' first
    | with_reducible assumption
    | with_reducible rfl
    | with_reducible apply State.sigDet_keeps
    | with_reducible apply State.laneHook_keeps

theorem execCdrLock_keeps (t : Tick) (lane : Nat) (offset : Int) (s : State) {sn : State}
    (h : execCdrLock t lane offset s = .next sn) : Keeps (s.advance t) sn := by
  have hk := Keeps.refl (s.advance t)
  unfold execCdrLock at h
  cases onUnit_next h
  repeat' first
    | with_reducible assumption
    | with_reducible rfl
    | with_reducible apply State.cdrLocked_keeps
    | with_reducible apply State.laneHook_keeps

theorem execCdrLockLoss_keeps (t : Tick) (lane : Nat) (s : State) {sn : State}
    (h : execCdrLockLoss t lane s = .next sn) : Keeps (s.advance t) sn := by
  have hk := Keeps.refl (s.advance t)
  unfold execCdrLockLoss at h
  cases onUnit_next h
  repeat' first
    | with_reducible assumption
    | with_reducible rfl
    | with_reducible apply State.cdrLost_keeps
    | with_reducible apply State.laneHook_keeps

theorem execAdaptationComplete_keeps (t : Tick) (lane : Nat) (pinDelay : Word) (eye : Byte) (dfe1 : Byte) (ctle : BitVec 5) (s : State) {sn : State}
    (h : execAdaptationComplete t lane pinDelay eye dfe1 ctle s = .next sn) : Keeps (s.advance t) sn := by
  have hk := Keeps.refl (s.advance t)
  unfold execAdaptationComplete at h
  cases onUnit_next h
  repeat' first
    | with_reducible assumption
    | with_reducible rfl
    | with_reducible apply State.adapted_keeps
    | with_reducible apply State.laneHook_keeps

theorem execEqDiscardTimeout_keeps (t : Tick) (lane : Nat) (s : State) {sn : State}
    (h : execEqDiscardTimeout t lane s = .next sn) : Keeps (s.advance t) sn := by
  have hk := Keeps.refl (s.advance t)
  unfold execEqDiscardTimeout at h
  cases onUnit_next h
  repeat' first
    | with_reducible assumption
    | with_reducible rfl
    | with_reducible apply State.eqDiscard_keeps

theorem execBringUpTimeout_keeps (t : Tick) (lane : Nat) (s : State) {sn : State}
    (h : execBringUpTimeout t lane s = .next sn) : Keeps (s.advance t) sn := by
  have hk := Keeps.refl (s.advance t)
  unfold execBringUpTimeout at h
  cases onUnit_next h
  repeat' first
    | with_reducible assumption
    | with_reducible rfl
    | with_reducible apply State.bringUpLate_keeps
    | with_reducible apply State.laneHook_keeps

theorem execPatternCheckerLock_keeps (t : Tick) (lane : Nat) (locked : Bool) (s : State) {sn : State}
    (h : execPatternCheckerLock t lane locked s = .next sn) : Keeps (s.advance t) sn := by
  have hk := Keeps.refl (s.advance t)
  unfold execPatternCheckerLock at h
  cases onUnit_next h
  repeat' first
    | with_reducible assumption
    | with_reducible rfl
    | with_reducible apply State.patternLock_keeps

theorem execFreqGateEnd_keeps (t : Tick) (cand : Nat) (offset : Int) (s : State) {sn : State}
    (h : execFreqGateEnd t cand offset s = .next sn) : Keeps (s.advance t) sn := by
  have hk := Keeps.refl (s.advance t)
  unfold execFreqGateEnd at h
  cases onUnit_next h
  repeat' first
    | with_reducible assumption
    | with_reducible rfl
    | with_reducible apply State.freqGate_keeps
    | with_reducible apply State.candHook_keeps

theorem execLandingFrameReady_keeps (t : Tick) (L : Nat) (s : State) {sn : State}
    (h : execLandingFrameReady t L s = .next sn) : Keeps (s.advance t) sn := by
  have hk := Keeps.refl (s.advance t)
  unfold execLandingFrameReady at h
  cases h
  repeat' first
    | with_reducible assumption
    | with_reducible rfl
    | with_reducible apply State.landingReady_keeps

theorem execStandbyWaitExpiry_keeps (t : Tick) (s : State) {sn : State}
    (h : execStandbyWaitExpiry t s = .next sn) : Keeps (s.advance t) sn := by
  have hk := Keeps.refl (s.advance t)
  unfold execStandbyWaitExpiry at h
  cases h
  repeat' first
    | with_reducible assumption
    | with_reducible rfl
    | with_reducible apply State.standbyWait_keeps

theorem execHoldPinChange_keeps (t : Tick) (high : Bool) (s : State) {sn : State}
    (h : execHoldPinChange t high s = .next sn) : Keeps (s.advance t) sn := by
  have hk := Keeps.refl (s.advance t)
  unfold execHoldPinChange at h
  cases h
  repeat' first
    | with_reducible assumption
    | with_reducible rfl
    | with_reducible apply State.holdChange_keeps

theorem execTakeover_keeps (t : Tick) (s : State) {sn : State}
    (h : execTakeover t s = .next sn) : Keeps (s.advance t) sn := by
  have hk := Keeps.refl (s.advance t)
  unfold execTakeover at h
  cases h
  repeat' first
    | with_reducible assumption
    | with_reducible rfl
    | with_reducible apply State.takeover_keeps

theorem execAutoRelinquish_keeps (t : Tick) (s : State) {sn : State}
    (h : execAutoRelinquish t s = .next sn) : Keeps (s.advance t) sn := by
  have hk := Keeps.refl (s.advance t)
  unfold execAutoRelinquish at h
  cases h
  repeat' first
    | with_reducible assumption
    | with_reducible rfl
    | with_reducible apply State.autoRelinquish_keeps

theorem execTandemRecord_keeps (t : Tick) (port : Nat) (r : TandemRec) (s : State) {sn : State}
    (h : execTandemRecord t port r s = .next sn) : Keeps (s.advance t) sn := by
  have hk := Keeps.refl (s.advance t)
  unfold execTandemRecord at h
  cases onUnit_next h
  repeat' first
    | with_reducible assumption
    | with_reducible rfl
    | with_reducible apply State.tandemRecord_keeps

theorem execRecordLossTimeout_keeps (t : Tick) (s : State) {sn : State}
    (h : execRecordLossTimeout t s = .next sn) : Keeps (s.advance t) sn := by
  have hk := Keeps.refl (s.advance t)
  unfold execRecordLossTimeout at h
  cases h
  repeat' first
    | with_reducible assumption
    | with_reducible rfl
    | with_reducible apply State.recordLoss_keeps

theorem execResyncComplete_keeps (t : Tick) (s : State) {sn : State}
    (h : execResyncComplete t s = .next sn) : Keeps (s.advance t) sn := by
  have hk := Keeps.refl (s.advance t)
  unfold execResyncComplete at h
  cases h
  repeat' first
    | with_reducible assumption
    | with_reducible rfl
    | with_reducible apply State.resyncComplete_keeps

theorem execTandemRecordSend_keeps (t : Tick) (s : State) {sn : State}
    (h : execTandemRecordSend t s = .next sn) : Keeps (s.advance t) sn := by
  have hk := Keeps.refl (s.advance t)
  unfold execTandemRecordSend at h
  cases h
  repeat' first
    | with_reducible assumption
    | with_reducible rfl
    | with_reducible apply State.sendRecord_keeps

theorem execRingHead_keeps (t : Tick) (port : Nat) (h : RingHead) (s : State) {sn : State}
    (h : execRingHead t port h s = .next sn) : Keeps (s.advance t) sn := by
  have hk := Keeps.refl (s.advance t)
  unfold execRingHead at h
  cases onUnit_next h
  repeat' first
    | with_reducible assumption
    | with_reducible rfl
    | with_reducible apply State.ringHead_keeps

theorem execRingMessage_keeps (t : Tick) (port : Nat) (m : RingMsg) (s : State) {sn : State}
    (h : execRingMessage t port m s = .next sn) : Keeps (s.advance t) sn := by
  have hk := Keeps.refl (s.advance t)
  unfold execRingMessage at h
  cases onUnit_next h
  repeat' first
    | with_reducible assumption
    | with_reducible rfl
    | with_reducible apply State.ringMsg_keeps

theorem execRingHeadSend_keeps (t : Tick) (s : State) {sn : State}
    (h : execRingHeadSend t s = .next sn) : Keeps (s.advance t) sn := by
  have hk := Keeps.refl (s.advance t)
  unfold execRingHeadSend at h
  cases h
  repeat' first
    | with_reducible assumption
    | with_reducible rfl
    | with_reducible apply State.headSend_keeps

theorem execRingWindowSend_keeps (t : Tick) (window : Nat) (s : State) {sn : State}
    (h : execRingWindowSend t window s = .next sn) : Keeps (s.advance t) sn := by
  have hk := Keeps.refl (s.advance t)
  unfold execRingWindowSend at h
  cases onUnit_next h
  repeat' first
    | with_reducible assumption
    | with_reducible rfl
    | with_reducible apply State.windowSend_keeps

theorem execSeatAbsence_keeps (t : Tick) (seat : Nat) (s : State) {sn : State}
    (h : execSeatAbsence t seat s = .next sn) : Keeps (s.advance t) sn := by
  have hk := Keeps.refl (s.advance t)
  unfold execSeatAbsence at h
  cases onUnit_next h
  repeat' first
    | with_reducible assumption
    | with_reducible rfl
    | with_reducible apply State.seatAbsent_keeps

theorem execRosterRemoval_keeps (t : Tick) (seat : Nat) (s : State) {sn : State}
    (h : execRosterRemoval t seat s = .next sn) : Keeps (s.advance t) sn := by
  have hk := Keeps.refl (s.advance t)
  unfold execRosterRemoval at h
  cases onUnit_next h
  repeat' first
    | with_reducible assumption
    | with_reducible rfl
    | with_reducible apply State.rosterRemove_keeps

theorem execEpochAdoption_keeps (t : Tick) (s : State) {sn : State}
    (h : execEpochAdoption t s = .next sn) : Keeps (s.advance t) sn := by
  have hk := Keeps.refl (s.advance t)
  unfold execEpochAdoption at h
  cases h
  repeat' first
    | with_reducible assumption
    | with_reducible rfl
    | with_reducible apply State.epochAdopt_keeps

theorem execGxGoDecision_keeps (t : Tick) (s : State) {sn : State}
    (h : execGxGoDecision t s = .next sn) : Keeps (s.advance t) sn := by
  have hk := Keeps.refl (s.advance t)
  unfold execGxGoDecision at h
  cases h
  repeat' first
    | with_reducible assumption
    | with_reducible rfl
    | with_reducible apply State.gxDecide_keeps

theorem execTimeErrorUnknown_keeps (t : Tick) (s : State) {sn : State}
    (h : execTimeErrorUnknown t s = .next sn) : Keeps (s.advance t) sn := by
  have hk := Keeps.refl (s.advance t)
  unfold execTimeErrorUnknown at h
  cases h
  repeat' first
    | with_reducible assumption
    | with_reducible rfl
    | with_reducible apply State.timeErrorLost_keeps

theorem execUnmute_keeps (t : Tick) (s : State) {sn : State}
    (h : execUnmute t s = .next sn) : Keeps (s.advance t) sn := by
  have hk := Keeps.refl (s.advance t)
  unfold execUnmute at h
  cases h
  repeat' first
    | with_reducible assumption
    | with_reducible rfl
    | with_reducible apply State.unmute_keeps

theorem execLinkDown_keeps (t : Tick) (m : Nat) (s : State) {sn : State}
    (h : execLinkDown t m s = .next sn) : Keeps (s.advance t) sn := by
  have hk := Keeps.refl (s.advance t)
  unfold execLinkDown at h
  cases onUnit_next h
  repeat' first
    | with_reducible assumption
    | with_reducible rfl
    | with_reducible apply State.linkFall_keeps
    | dsimp only
    | split

theorem execLinkUp_keeps (t : Tick) (m : Nat) (speed : Nat) (s : State) {sn : State}
    (h : execLinkUp t m speed s = .next sn) : Keeps (s.advance t) sn := by
  have hk := Keeps.refl (s.advance t)
  unfold execLinkUp at h
  cases onUnit_next h
  repeat' first
    | with_reducible assumption
    | with_reducible rfl
    | with_reducible apply State.linkRise_keeps

theorem execPauseExpiry_keeps (t : Tick) (m : Nat) (s : State) {sn : State}
    (h : execPauseExpiry t m s = .next sn) : Keeps (s.advance t) sn := by
  have hk := Keeps.refl (s.advance t)
  unfold execPauseExpiry at h
  cases onUnit_next h
  repeat' first
    | with_reducible assumption
    | with_reducible rfl
    | with_reducible apply State.pauseExpire_keeps

theorem execPauseWdExpiry_keeps (t : Tick) (m : Nat) (s : State) {sn : State}
    (h : execPauseWdExpiry t m s = .next sn) : Keeps (s.advance t) sn := by
  have hk := Keeps.refl (s.advance t)
  unfold execPauseWdExpiry at h
  cases onUnit_next h
  repeat' first
    | with_reducible assumption
    | with_reducible rfl
    | with_reducible apply State.pauseWd_keeps

theorem execPauseIgnoredClear_keeps (t : Tick) (m : Nat) (s : State) {sn : State}
    (h : execPauseIgnoredClear t m s = .next sn) : Keeps (s.advance t) sn := by
  have hk := Keeps.refl (s.advance t)
  unfold execPauseIgnoredClear at h
  cases onUnit_next h
  repeat' first
    | with_reducible assumption
    | with_reducible rfl
    | with_reducible apply State.pauseClear_keeps

theorem execPauseRepeat_keeps (t : Tick) (m : Nat) (s : State) {sn : State}
    (h : execPauseRepeat t m s = .next sn) : Keeps (s.advance t) sn := by
  have hk := Keeps.refl (s.advance t)
  unfold execPauseRepeat at h
  cases onUnit_next h
  repeat' first
    | with_reducible assumption
    | with_reducible rfl
    | with_reducible apply State.pauseAgain_keeps

theorem execMacTransmitStart_keeps (t : Tick) (m : Nat) (s : State) {sn : State}
    (h : execMacTransmitStart t m s = .next sn) : Keeps (s.advance t) sn := by
  have hk := Keeps.refl (s.advance t)
  unfold execMacTransmitStart at h
  cases onUnit_next h
  repeat' first
    | with_reducible assumption
    | with_reducible rfl
    | with_reducible apply State.transmit_keeps

theorem execSessionIdleExpiry_keeps (t : Tick) (n : Nat) (s : State) {sn : State}
    (h : execSessionIdleExpiry t n s = .next sn) : Keeps (s.advance t) sn := by
  have hk := Keeps.refl (s.advance t)
  unfold execSessionIdleExpiry at h
  cases onUnit_next h
  repeat' first
    | with_reducible assumption
    | with_reducible rfl
    | with_reducible apply State.sessionIdle_keeps

theorem execSeqHoldTimeout_keeps (t : Tick) (n : Nat) (seq : Nat) (s : State) {sn : State}
    (h : execSeqHoldTimeout t n seq s = .next sn) : Keeps (s.advance t) sn := by
  have hk := Keeps.refl (s.advance t)
  unfold execSeqHoldTimeout at h
  cases onUnit_next h
  repeat' first
    | with_reducible assumption
    | with_reducible rfl
    | with_reducible apply State.seqHold_keeps

theorem execEventSend_keeps (t : Tick) (n : Nat) (s : State) {sn : State}
    (h : execEventSend t n s = .next sn) : Keeps (s.advance t) sn := by
  have hk := Keeps.refl (s.advance t)
  unfold execEventSend at h
  cases onUnit_next h
  repeat' first
    | with_reducible assumption
    | with_reducible rfl
    | with_reducible apply State.eventSend_keeps

theorem execEventRetransmit_keeps (t : Tick) (n : Nat) (seq : Nat) (s : State) {sn : State}
    (h : execEventRetransmit t n seq s = .next sn) : Keeps (s.advance t) sn := by
  have hk := Keeps.refl (s.advance t)
  unfold execEventRetransmit at h
  cases onUnit_next h
  repeat' first
    | with_reducible assumption
    | with_reducible rfl
    | with_reducible apply State.eventAgain_keeps

theorem execBankClearComplete_keeps (t : Tick) (b : Nat) (s : State) {sn : State}
    (h : execBankClearComplete t b s = .next sn) : Keeps (s.advance t) sn := by
  have hk := Keeps.refl (s.advance t)
  unfold execBankClearComplete at h
  cases onUnit_next h
  repeat' first
    | with_reducible assumption
    | with_reducible rfl
    | with_reducible apply State.bankCleared_keeps

theorem execScrubPeriodEnd_keeps (t : Tick) (allReached : Bool) (s : State) {sn : State}
    (h : execScrubPeriodEnd t allReached s = .next sn) : Keeps (s.advance t) sn := by
  have hk := Keeps.refl (s.advance t)
  unfold execScrubPeriodEnd at h
  cases h
  repeat' first
    | with_reducible assumption
    | with_reducible rfl
    | with_reducible apply State.scrubEnd_keeps

theorem execPcCounterWrap_keeps (t : Tick) (e : Nat) (k : Nat) (s : State) {sn : State}
    (h : execPcCounterWrap t e k s = .next sn) : Keeps (s.advance t) sn := by
  have hk := Keeps.refl (s.advance t)
  unfold execPcCounterWrap at h
  cases onUnit_next h
  repeat' first
    | with_reducible assumption
    | with_reducible rfl
    | with_reducible apply State.pcWrap_keeps

theorem execPcThresholdReached_keeps (t : Tick) (e : Nat) (k : Nat) (s : State) {sn : State}
    (h : execPcThresholdReached t e k s = .next sn) : Keeps (s.advance t) sn := by
  have hk := Keeps.refl (s.advance t)
  unfold execPcThresholdReached at h
  cases onUnit_next h
  repeat' first
    | with_reducible assumption
    | with_reducible rfl
    | with_reducible apply State.pcReached_keeps

theorem execCvuRunComplete_keeps (t : Tick) (u : Nat) (uncorr : Bool) (s : State) {sn : State}
    (h : execCvuRunComplete t u uncorr s = .next sn) : Keeps (s.advance t) sn := by
  have hk := Keeps.refl (s.advance t)
  unfold execCvuRunComplete at h
  cases onUnit_next h
  repeat' first
    | with_reducible assumption
    | with_reducible rfl
    | with_reducible apply State.cvuDone_keeps

theorem execFatalRecordWritten_keeps (t : Tick) (s : State) {sn : State}
    (h : execFatalRecordWritten t s = .next sn) : Keeps (s.advance t) sn := by
  have hk := Keeps.refl (s.advance t)
  unfold execFatalRecordWritten at h
  cases h
  repeat' first
    | with_reducible assumption
    | with_reducible rfl
    | with_reducible apply State.fatalWritten_keeps

theorem execEgressFrameRelease_keeps (t : Tick) (lane : Nat) (fn : Nat) (s : State) {sn : State}
    (h : execEgressFrameRelease t lane fn s = .next sn) : Keeps (s.advance t) sn := by
  have hk := Keeps.refl (s.advance t)
  unfold execEgressFrameRelease at h
  cases onUnit_next h
  repeat' first
    | with_reducible assumption
    | with_reducible rfl
    | with_reducible apply State.egressRelease_keeps

theorem execEgressFrameComplete_keeps (t : Tick) (lane : Nat) (fn : Nat) (s : State) {sn : State}
    (h : execEgressFrameComplete t lane fn s = .next sn) : Keeps (s.advance t) sn := by
  have hk := Keeps.refl (s.advance t)
  unfold execEgressFrameComplete at h
  cases onUnit_next h
  repeat' first
    | with_reducible assumption
    | with_reducible rfl
    | with_reducible apply State.egressComplete_keeps

theorem execRailTelemetryRead_keeps (t : Tick) (readings : List (Nat × Nat × Nat)) (s : State) {sn : State}
    (h : execRailTelemetryRead t readings s = .next sn) : Keeps (s.advance t) sn := by
  have hk := Keeps.refl (s.advance t)
  unfold execRailTelemetryRead at h
  cases onUnit_next h
  repeat' first
    | with_reducible assumption
    | with_reducible rfl
    | with_reducible apply State.railRead_keeps

theorem execTempSample_keeps (t : Tick) (temps : List Int) (s : State) {sn : State}
    (h : execTempSample t temps s = .next sn) : Keeps (s.advance t) sn := by
  have hk := Keeps.refl (s.advance t)
  unfold execTempSample at h
  cases onUnit_next h
  repeat' first
    | with_reducible assumption
    | with_reducible rfl
    | with_reducible apply State.tempSample_keeps

theorem execFwVerifyComplete_keeps (t : Tick) (flashOk : Bool) (s : State) {sn : State}
    (h : execFwVerifyComplete t flashOk s = .next sn) : Keeps (s.advance t) sn := by
  have hk := Keeps.refl (s.advance t)
  unfold execFwVerifyComplete at h
  cases h
  repeat' first
    | with_reducible assumption
    | with_reducible rfl
    | with_reducible apply State.fwVerified_keeps

theorem execWipeComplete_keeps (t : Tick) (s : State) {sn : State}
    (h : execWipeComplete t s = .next sn) : Keeps (s.advance t) sn := by
  have hk := Keeps.refl (s.advance t)
  unfold execWipeComplete at h
  cases h
  repeat' first
    | with_reducible assumption
    | with_reducible rfl
    | with_reducible apply State.wipeDone_keeps

theorem execTamperEvent_keeps (t : Tick) (input : Nat) (level : Bool) (s : State) {sn : State}
    (h : execTamperEvent t input level s = .next sn) : Keeps (s.advance t) sn := by
  have hk := Keeps.refl (s.advance t)
  unfold execTamperEvent at h
  cases onUnit_next h
  repeat' first
    | with_reducible assumption
    | with_reducible rfl
    | with_reducible apply State.tamper_keeps

theorem execUpinChangeEffect_keeps (t : Tick) (pin : Nat) (s : State) {sn : State}
    (h : execUpinChangeEffect t pin s = .next sn) : Keeps (s.advance t) sn := by
  have hk := Keeps.refl (s.advance t)
  unfold execUpinChangeEffect at h
  cases onUnit_next h
  repeat' first
    | with_reducible assumption
    | with_reducible rfl
    | with_reducible apply State.pinEffect_keeps

theorem execParkEnd_keeps (t : Tick) (pin : Nat) (s : State) {sn : State}
    (h : execParkEnd t pin s = .next sn) : Keeps (s.advance t) sn := by
  have hk := Keeps.refl (s.advance t)
  unfold execParkEnd at h
  cases onUnit_next h
  repeat' first
    | with_reducible assumption
    | with_reducible rfl
    | with_reducible apply State.parkEnd_keeps

theorem execDccClockLoss_keeps (t : Tick) (pair : Nat) (s : State) {sn : State}
    (h : execDccClockLoss t pair s = .next sn) : Keeps (s.advance t) sn := by
  have hk := Keeps.refl (s.advance t)
  unfold execDccClockLoss at h
  cases onUnit_next h
  repeat' first
    | with_reducible assumption
    | with_reducible rfl
    | with_reducible apply State.dccClockLost_keeps

theorem execFaultRaise_keeps (t : Tick) (f : FaultIn) (s : State) {sn : State}
    (h : execFaultRaise t f s = .next sn) : Keeps (s.advance t) sn := by
  have hk := Keeps.refl (s.advance t)
  unfold execFaultRaise at h
  cases onUnit_next h
  repeat' first
    | with_reducible assumption
    | with_reducible rfl
    | with_reducible apply State.faultIn_keeps

theorem execFatalFault_keeps (t : Tick) (f : FaultIn) (s : State) {sn : State}
    (h : execFatalFault t f s = .next sn) : Keeps (s.advance t) sn := by
  have hk := Keeps.refl (s.advance t)
  unfold execFatalFault at h
  cases onUnit_next h
  repeat' first
    | with_reducible assumption
    | with_reducible rfl
    | with_reducible apply State.fatalIn_keeps

theorem execReinitComplete_keeps (t : Tick) (sub : Nat) (inst : Nat) (s : State) {sn : State}
    (h : execReinitComplete t sub inst s = .next sn) : Keeps (s.advance t) sn := by
  have hk := Keeps.refl (s.advance t)
  unfold execReinitComplete at h
  cases onUnit_next h
  repeat' first
    | with_reducible assumption
    | with_reducible rfl
    | with_reducible apply State.reinitDone_keeps
    | with_reducible apply State.settleReset_keeps

theorem execReinitTimeout_keeps (t : Tick) (sub : Nat) (inst : Nat) (s : State) {sn : State}
    (h : execReinitTimeout t sub inst s = .next sn) : Keeps (s.advance t) sn := by
  have hk := Keeps.refl (s.advance t)
  unfold execReinitTimeout at h
  cases onUnit_next h
  repeat' first
    | with_reducible assumption
    | with_reducible rfl
    | with_reducible apply State.reinitLate_keeps
    | with_reducible apply State.settleReset_keeps

theorem execEntropyFail_keeps (t : Tick) (s : State) {sn : State}
    (h : execEntropyFail t s = .next sn) : Keeps (s.advance t) sn := by
  have hk := Keeps.refl (s.advance t)
  unfold execEntropyFail at h
  cases h
  repeat' first
    | with_reducible assumption
    | with_reducible rfl
    | with_reducible apply State.entropyFails_keeps
    | with_reducible apply State.faultIn_keeps
    | dsimp only
    | split

theorem execVddAonGood_keeps (t : Tick) (straps : Straps) (flash : Option (List Image)) (s : State) {sn : State}
    (h : execVddAonGood t straps flash s = .next sn) : Keeps (s.advance t) sn := by
  have hk := Keeps.refl (s.advance t)
  unfold execVddAonGood at h
  cases h
  repeat' first
    | with_reducible assumption
    | with_reducible rfl
    | with_reducible apply State.aonGood_keeps

theorem execRailInRange_keeps (t : Tick) (rail : Nat) (s : State) {sn : State}
    (h : execRailInRange t rail s = .next sn) : Keeps (s.advance t) sn := by
  have hk := Keeps.refl (s.advance t)
  unfold execRailInRange at h
  cases onUnit_next h
  repeat' first
    | with_reducible assumption
    | with_reducible rfl
    | with_reducible apply State.railGood_keeps

theorem execRailTimeout_keeps (t : Tick) (rail : Nat) (s : State) {sn : State}
    (h : execRailTimeout t rail s = .next sn) : Keeps (s.advance t) sn := by
  have hk := Keeps.refl (s.advance t)
  unfold execRailTimeout at h
  cases onUnit_next h
  repeat' first
    | with_reducible assumption
    | with_reducible rfl
    | with_reducible apply State.railLate_keeps

theorem execFlywheelAbsent_keeps (t : Tick) (s : State) {sn : State}
    (h : execFlywheelAbsent t s = .next sn) : Keeps (s.advance t) sn := by
  have hk := Keeps.refl (s.advance t)
  unfold execFlywheelAbsent at h
  cases h
  repeat' first
    | with_reducible assumption
    | with_reducible rfl
    | with_reducible apply State.noFlywheel_keeps

theorem execTempoStart_keeps (t : Tick) (s : State) {sn : State}
    (h : execTempoStart t s = .next sn) : Keeps (s.advance t) sn := by
  have hk := Keeps.refl (s.advance t)
  unfold execTempoStart at h
  cases h
  repeat' first
    | with_reducible assumption
    | with_reducible rfl
    | with_reducible apply State.tempoStarts_keeps

theorem execVaultReady_keeps (t : Tick) (s : State) {sn : State}
    (h : execVaultReady t s = .next sn) : Keeps (s.advance t) sn := by
  have hk := Keeps.refl (s.advance t)
  unfold execVaultReady at h
  cases h
  repeat' first
    | with_reducible assumption
    | with_reducible rfl
    | with_reducible apply State.vaultReady_keeps

theorem execSlotVerified_keeps (t : Tick) (s : State) {sn : State}
    (h : execSlotVerified t s = .next sn) : Keeps (s.advance t) sn := by
  have hk := Keeps.refl (s.advance t)
  unfold execSlotVerified at h
  cases h
  repeat' first
    | with_reducible assumption
    | with_reducible rfl
    | with_reducible apply State.slotVerified_keeps

theorem execEnginesLoaded_keeps (t : Tick) (s : State) {sn : State}
    (h : execEnginesLoaded t s = .next sn) : Keeps (s.advance t) sn := by
  have hk := Keeps.refl (s.advance t)
  unfold execEnginesLoaded at h
  cases h
  repeat' first
    | with_reducible assumption
    | with_reducible rfl
    | with_reducible apply State.enginesUp_keeps

theorem execResetNAssert_keeps (t : Tick) (width : Nat) (s : State) {sn : State}
    (h : execResetNAssert t width s = .next sn) : Keeps (s.advance t) sn := by
  have hk := Keeps.refl (s.advance t)
  unfold execResetNAssert at h
  cases h
  repeat' first
    | with_reducible assumption
    | with_reducible rfl
    | with_reducible apply State.resetAssert_keeps

theorem execResetNRelease_keeps (t : Tick) (s : State) {sn : State}
    (h : execResetNRelease t s = .next sn) : Keeps (s.advance t) sn := by
  have hk := Keeps.refl (s.advance t)
  unfold execResetNRelease at h
  cases h
  repeat' first
    | with_reducible assumption
    | with_reducible rfl
    | with_reducible apply State.resetRelease_keeps

theorem execWakeFrame_keeps (t : Tick) (m : Nat) (f : EthFrame) (s : State) {sn : State}
    (h : execWakeFrame t m f s = .next sn) : Keeps (s.advance t) sn := by
  have hk := Keeps.refl (s.advance t)
  unfold execWakeFrame at h
  cases onUnit_next h
  repeat' first
    | with_reducible assumption
    | with_reducible rfl
    | with_reducible apply State.wakeFrame_keeps

theorem execPowerCycle_keeps (t : Tick) (s : State) {sn : State}
    (h : execPowerCycle t s = .next sn) : Keeps (s.advance t) sn := by
  have hk := Keeps.refl (s.advance t)
  unfold execPowerCycle at h
  cases h
  repeat' first
    | with_reducible assumption
    | with_reducible rfl
    | with_reducible apply State.blank_keeps

theorem execVddAonBrownout_keeps (t : Tick) (s : State) {sn : State}
    (h : execVddAonBrownout t s = .next sn) : Keeps (s.advance t) sn := by
  have hk := Keeps.refl (s.advance t)
  unfold execVddAonBrownout at h
  cases h
  repeat' first
    | with_reducible assumption
    | with_reducible rfl
    | with_reducible apply State.brownout_keeps

theorem execClear_keeps (t : Tick) (n : Nat) (set : CounterSet) (s : State) {sn : State}
    (h : execClear t n set s = .next sn) : Keeps (s.advance t) sn := by
  have hk := Keeps.refl (s.advance t)
  unfold execClear at h
  cases onUnit_next h
  repeat' first
    | with_reducible assumption
    | with_reducible rfl
    | with_reducible apply State.hostOp_keeps

theorem execSnapshot_keeps (t : Tick) (n : Nat) (set : CounterSet) (s : State) {sn : State}
    (h : execSnapshot t n set s = .next sn) : Keeps (s.advance t) sn := by
  have hk := Keeps.refl (s.advance t)
  unfold execSnapshot at h
  cases onUnit_next h
  repeat' first
    | with_reducible assumption
    | with_reducible rfl
    | with_reducible apply State.hostOp_keeps

theorem execFreeze_keeps (t : Tick) (n : Nat) (engine : Nat) (on_ : Bool) (s : State) {sn : State}
    (h : execFreeze t n engine on_ s = .next sn) : Keeps (s.advance t) sn := by
  have hk := Keeps.refl (s.advance t)
  unfold execFreeze at h
  cases onUnit_next h
  repeat' first
    | with_reducible assumption
    | with_reducible rfl
    | with_reducible apply State.hostOp_keeps

theorem execReseed_keeps (t : Tick) (n : Nat) (lane : Nat) (s : State) {sn : State}
    (h : execReseed t n lane s = .next sn) : Keeps (s.advance t) sn := by
  have hk := Keeps.refl (s.advance t)
  unfold execReseed at h
  cases onUnit_next h
  repeat' first
    | with_reducible assumption
    | with_reducible rfl
    | with_reducible apply State.hostOp_keeps

theorem execInjectBip_keeps (t : Tick) (n : Nat) (lane : Nat) (s : State) {sn : State}
    (h : execInjectBip t n lane s = .next sn) : Keeps (s.advance t) sn := by
  have hk := Keeps.refl (s.advance t)
  unfold execInjectBip at h
  cases onUnit_next h
  repeat' first
    | with_reducible assumption
    | with_reducible rfl
    | with_reducible apply State.woBit_keeps

theorem execInjectB1_keeps (t : Tick) (n : Nat) (lane : Nat) (s : State) {sn : State}
    (h : execInjectB1 t n lane s = .next sn) : Keeps (s.advance t) sn := by
  have hk := Keeps.refl (s.advance t)
  unfold execInjectB1 at h
  cases onUnit_next h
  repeat' first
    | with_reducible assumption
    | with_reducible rfl
    | with_reducible apply State.hostOp_keeps

theorem execInjectB2_keeps (t : Tick) (n : Nat) (lane : Nat) (s : State) {sn : State}
    (h : execInjectB2 t n lane s = .next sn) : Keeps (s.advance t) sn := by
  have hk := Keeps.refl (s.advance t)
  unfold execInjectB2 at h
  cases onUnit_next h
  repeat' first
    | with_reducible assumption
    | with_reducible rfl
    | with_reducible apply State.hostOp_keeps

theorem execErrInject_keeps (t : Tick) (n : Nat) (lane : Nat) (s : State) {sn : State}
    (h : execErrInject t n lane s = .next sn) : Keeps (s.advance t) sn := by
  have hk := Keeps.refl (s.advance t)
  unfold execErrInject at h
  cases onUnit_next h
  repeat' first
    | with_reducible assumption
    | with_reducible rfl
    | with_reducible apply State.woBit_keeps

theorem execExtWindow_keeps (t : Tick) (n : Nat) (lane : Nat) (c : Nat) (s : State) {sn : State}
    (h : execExtWindow t n lane c s = .next sn) : Keeps (s.advance t) sn := by
  have hk := Keeps.refl (s.advance t)
  unfold execExtWindow at h
  cases onUnit_next h
  repeat' first
    | with_reducible assumption
    | with_reducible rfl
    | with_reducible apply State.hostOp_keeps

theorem execInsWindow_keeps (t : Tick) (n : Nat) (lane : Nat) (c : Nat) (tag : Word) (data : Word) (s : State) {sn : State}
    (h : execInsWindow t n lane c tag data s = .next sn) : Keeps (s.advance t) sn := by
  have hk := Keeps.refl (s.advance t)
  unfold execInsWindow at h
  cases onUnit_next h
  repeat' first
    | with_reducible assumption
    | with_reducible rfl
    | with_reducible apply State.hostOp_keeps

theorem execFlushExt_keeps (t : Tick) (n : Nat) (lane : Nat) (c : Nat) (s : State) {sn : State}
    (h : execFlushExt t n lane c s = .next sn) : Keeps (s.advance t) sn := by
  have hk := Keeps.refl (s.advance t)
  unfold execFlushExt at h
  cases onUnit_next h
  repeat' first
    | with_reducible assumption
    | with_reducible rfl
    | with_reducible apply State.hostOp_keeps

theorem execFlushIns_keeps (t : Tick) (n : Nat) (lane : Nat) (c : Nat) (s : State) {sn : State}
    (h : execFlushIns t n lane c s = .next sn) : Keeps (s.advance t) sn := by
  have hk := Keeps.refl (s.advance t)
  unfold execFlushIns at h
  cases onUnit_next h
  repeat' first
    | with_reducible assumption
    | with_reducible rfl
    | with_reducible apply State.hostOp_keeps

theorem execTcaLog_keeps (t : Tick) (n : Nat) (s : State) {sn : State}
    (h : execTcaLog t n s = .next sn) : Keeps (s.advance t) sn := by
  have hk := Keeps.refl (s.advance t)
  unfold execTcaLog at h
  cases onUnit_next h
  repeat' first
    | with_reducible assumption
    | with_reducible rfl
    | with_reducible apply State.hostOp_keeps

theorem execPmReadSel_keeps (t : Tick) (n : Nat) (v : BitVec 64) (s : State) {sn : State}
    (h : execPmReadSel t n v s = .next sn) : Keeps (s.advance t) sn := by
  have hk := Keeps.refl (s.advance t)
  unfold execPmReadSel at h
  cases onUnit_next h
  repeat' first
    | with_reducible assumption
    | with_reducible rfl
    | with_reducible apply State.hostOp_keeps

theorem execXcWindowStart_keeps (t : Tick) (n : Nat) (g : Word) (s : State) {sn : State}
    (h : execXcWindowStart t n g s = .next sn) : Keeps (s.advance t) sn := by
  have hk := Keeps.refl (s.advance t)
  unfold execXcWindowStart at h
  cases onUnit_next h
  repeat' first
    | with_reducible assumption
    | with_reducible rfl
    | with_reducible apply State.hostOp_keeps

theorem execHistoryInfo_keeps (t : Tick) (n : Nat) (s : State) {sn : State}
    (h : execHistoryInfo t n s = .next sn) : Keeps (s.advance t) sn := by
  have hk := Keeps.refl (s.advance t)
  unfold execHistoryInfo at h
  cases onUnit_next h
  repeat' first
    | with_reducible assumption
    | with_reducible rfl
    | with_reducible apply State.hostOp_keeps

theorem execHistoryClear_keeps (t : Tick) (n : Nat) (s : State) {sn : State}
    (h : execHistoryClear t n s = .next sn) : Keeps (s.advance t) sn := by
  have hk := Keeps.refl (s.advance t)
  unfold execHistoryClear at h
  cases onUnit_next h
  repeat' first
    | with_reducible assumption
    | with_reducible rfl
    | with_reducible apply State.hostOp_keeps

theorem execSoftCw_keeps (t : Tick) (n : Nat) (cw : BitVec 64) (s : State) {sn : State}
    (h : execSoftCw t n cw s = .next sn) : Keeps (s.advance t) sn := by
  have hk := Keeps.refl (s.advance t)
  unfold execSoftCw at h
  cases onUnit_next h
  repeat' first
    | with_reducible assumption
    | with_reducible rfl
    | with_reducible apply State.hostOp_keeps

theorem execFaultInfo_keeps (t : Tick) (n : Nat) (s : State) {sn : State}
    (h : execFaultInfo t n s = .next sn) : Keeps (s.advance t) sn := by
  have hk := Keeps.refl (s.advance t)
  unfold execFaultInfo at h
  cases onUnit_next h
  repeat' first
    | with_reducible assumption
    | with_reducible rfl
    | with_reducible apply State.hostOp_keeps

theorem execRcRead_keeps (t : Tick) (n : Nat) (obj : Nat) (s : State) {sn : State}
    (h : execRcRead t n obj s = .next sn) : Keeps (s.advance t) sn := by
  have hk := Keeps.refl (s.advance t)
  unfold execRcRead at h
  cases onUnit_next h
  repeat' first
    | with_reducible assumption
    | with_reducible rfl
    | with_reducible apply State.kindOp_keeps

theorem execW1cWrite_keeps (t : Tick) (n : Nat) (obj : Nat) (v : Word) (s : State) {sn : State}
    (h : execW1cWrite t n obj v s = .next sn) : Keeps (s.advance t) sn := by
  have hk := Keeps.refl (s.advance t)
  unfold execW1cWrite at h
  cases onUnit_next h
  repeat' first
    | with_reducible assumption
    | with_reducible rfl
    | with_reducible apply State.kindOp_keeps

theorem execIntEnWrite_keeps (t : Tick) (n : Nat) (obj : Nat) (v : Word) (s : State) {sn : State}
    (h : execIntEnWrite t n obj v s = .next sn) : Keeps (s.advance t) sn := by
  have hk := Keeps.refl (s.advance t)
  unfold execIntEnWrite at h
  cases onUnit_next h
  repeat' first
    | with_reducible assumption
    | with_reducible rfl
    | with_reducible apply State.kindOp_keeps

theorem execRegisterWrite_keeps (t : Tick) (n : Nat) (obj : Nat) (data : List Word) (s : State) {sn : State}
    (h : execRegisterWrite t n obj data s = .next sn) : Keeps (s.advance t) sn := by
  have hk := Keeps.refl (s.advance t)
  unfold execRegisterWrite at h
  cases onUnit_next h
  repeat' first
    | with_reducible assumption
    | with_reducible rfl
    | with_reducible apply State.hostOp_keeps

theorem execFollaConfigWrite_keeps (t : Tick) (n : Nat) (v : Word) (s : State) {sn : State}
    (h : execFollaConfigWrite t n v s = .next sn) : Keeps (s.advance t) sn := by
  have hk := Keeps.refl (s.advance t)
  unfold execFollaConfigWrite at h
  cases onUnit_next h
  repeat' first
    | with_reducible assumption
    | with_reducible rfl
    | with_reducible apply State.hostOp_keeps

theorem execSessionControlClose_keeps (t : Tick) (n : Nat) (target : Nat) (s : State) {sn : State}
    (h : execSessionControlClose t n target s = .next sn) : Keeps (s.advance t) sn := by
  have hk := Keeps.refl (s.advance t)
  unfold execSessionControlClose at h
  cases onUnit_next h
  repeat' first
    | with_reducible assumption
    | with_reducible rfl
    | with_reducible apply State.hostOp_keeps

theorem execAddrKWrite_keeps (t : Tick) (n : Nat) (m : Nat) (k : Nat) (v : BitVec 64) (s : State) {sn : State}
    (h : execAddrKWrite t n m k v s = .next sn) : Keeps (s.advance t) sn := by
  have hk := Keeps.refl (s.advance t)
  unfold execAddrKWrite at h
  cases onUnit_next h
  repeat' first
    | with_reducible assumption
    | with_reducible rfl
    | with_reducible apply State.hostOp_keeps

theorem execRelinquish_keeps (t : Tick) (n : Nat) (s : State) {sn : State}
    (h : execRelinquish t n s = .next sn) : Keeps (s.advance t) sn := by
  have hk := Keeps.refl (s.advance t)
  unfold execRelinquish at h
  cases onUnit_next h
  repeat' first
    | with_reducible assumption
    | with_reducible rfl
    | with_reducible apply State.hostOp_keeps

theorem execTakeoverForce_keeps (t : Tick) (n : Nat) (s : State) {sn : State}
    (h : execTakeoverForce t n s = .next sn) : Keeps (s.advance t) sn := by
  have hk := Keeps.refl (s.advance t)
  unfold execTakeoverForce at h
  cases onUnit_next h
  repeat' first
    | with_reducible assumption
    | with_reducible rfl
    | with_reducible apply State.hostOp_keeps

theorem execGxCatchup_keeps (t : Tick) (n : Nat) (s : State) {sn : State}
    (h : execGxCatchup t n s = .next sn) : Keeps (s.advance t) sn := by
  have hk := Keeps.refl (s.advance t)
  unfold execGxCatchup at h
  cases onUnit_next h
  repeat' first
    | with_reducible assumption
    | with_reducible rfl
    | with_reducible apply State.hostOp_keeps

theorem execGxDiscard_keeps (t : Tick) (n : Nat) (s : State) {sn : State}
    (h : execGxDiscard t n s = .next sn) : Keeps (s.advance t) sn := by
  have hk := Keeps.refl (s.advance t)
  unfold execGxDiscard at h
  cases onUnit_next h
  repeat' first
    | with_reducible assumption
    | with_reducible rfl
    | with_reducible apply State.hostOp_keeps

theorem execRingRelearn_keeps (t : Tick) (n : Nat) (s : State) {sn : State}
    (h : execRingRelearn t n s = .next sn) : Keeps (s.advance t) sn := by
  have hk := Keeps.refl (s.advance t)
  unfold execRingRelearn at h
  cases onUnit_next h
  repeat' first
    | with_reducible assumption
    | with_reducible rfl
    | with_reducible apply State.hostOp_keeps

theorem execFaultAck_keeps (t : Tick) (n : Nat) (record : Word) (s : State) {sn : State}
    (h : execFaultAck t n record s = .next sn) : Keeps (s.advance t) sn := by
  have hk := Keeps.refl (s.advance t)
  unfold execFaultAck at h
  cases onUnit_next h
  repeat' first
    | with_reducible assumption
    | with_reducible rfl
    | with_reducible apply State.hostOp_keeps

theorem execFaultDeclare_keeps (t : Tick) (n : Nat) (party : Word) (s : State) {sn : State}
    (h : execFaultDeclare t n party s = .next sn) : Keeps (s.advance t) sn := by
  have hk := Keeps.refl (s.advance t)
  unfold execFaultDeclare at h
  cases onUnit_next h
  repeat' first
    | with_reducible assumption
    | with_reducible rfl
    | with_reducible apply State.hostOp_keeps

theorem execReinit_keeps (t : Tick) (n : Nat) (subsystem : Nat) (inst : Nat) (s : State) {sn : State}
    (h : execReinit t n subsystem inst s = .next sn) : Keeps (s.advance t) sn := by
  have hk := Keeps.refl (s.advance t)
  unfold execReinit at h
  cases onUnit_next h
  repeat' first
    | with_reducible assumption
    | with_reducible rfl
    | with_reducible apply State.hostOp_keeps

theorem execDeviceReset_keeps (t : Tick) (n : Nat) (key : Word) (s : State) {sn : State}
    (h : execDeviceReset t n key s = .next sn) : Keeps (s.advance t) sn := by
  have hk := Keeps.refl (s.advance t)
  unfold execDeviceReset at h
  cases onUnit_next h
  repeat' first
    | with_reducible assumption
    | with_reducible rfl
    | with_reducible apply State.hostOp_keeps

theorem execDmaAddr_keeps (t : Tick) (n : Nat) (v : BitVec 64) (s : State) {sn : State}
    (h : execDmaAddr t n v s = .next sn) : Keeps (s.advance t) sn := by
  have hk := Keeps.refl (s.advance t)
  unfold execDmaAddr at h
  cases onUnit_next h
  repeat' first
    | with_reducible assumption
    | with_reducible rfl
    | with_reducible apply State.hostOp_keeps

theorem execDmaWindow_keeps (t : Tick) (n : Nat) (write : Option Word) (s : State) {sn : State}
    (h : execDmaWindow t n write s = .next sn) : Keeps (s.advance t) sn := by
  have hk := Keeps.refl (s.advance t)
  unfold execDmaWindow at h
  cases onUnit_next h
  repeat' first
    | with_reducible assumption
    | with_reducible rfl
    | with_reducible apply State.hostOp_keeps

theorem execCvuConfig_keeps (t : Tick) (n : Nat) (u : Nat) (v : Word) (s : State) {sn : State}
    (h : execCvuConfig t n u v s = .next sn) : Keeps (s.advance t) sn := by
  have hk := Keeps.refl (s.advance t)
  unfold execCvuConfig at h
  cases onUnit_next h
  repeat' first
    | with_reducible assumption
    | with_reducible rfl
    | with_reducible apply State.hostOp_keeps

theorem execCvuData_keeps (t : Tick) (n : Nat) (u : Nat) (w : Word) (s : State) {sn : State}
    (h : execCvuData t n u w s = .next sn) : Keeps (s.advance t) sn := by
  have hk := Keeps.refl (s.advance t)
  unfold execCvuData at h
  cases onUnit_next h
  repeat' first
    | with_reducible assumption
    | with_reducible rfl
    | with_reducible apply State.hostOp_keeps

theorem execCvuByte_keeps (t : Tick) (n : Nat) (u : Nat) (b : Byte) (s : State) {sn : State}
    (h : execCvuByte t n u b s = .next sn) : Keeps (s.advance t) sn := by
  have hk := Keeps.refl (s.advance t)
  unfold execCvuByte at h
  cases onUnit_next h
  repeat' first
    | with_reducible assumption
    | with_reducible rfl
    | with_reducible apply State.hostOp_keeps

theorem execStart_keeps (t : Tick) (n : Nat) (u : Nat) (s : State) {sn : State}
    (h : execStart t n u s = .next sn) : Keeps (s.advance t) sn := by
  have hk := Keeps.refl (s.advance t)
  unfold execStart at h
  cases onUnit_next h
  repeat' first
    | with_reducible assumption
    | with_reducible rfl
    | with_reducible apply State.hostOp_keeps

theorem execFwImage_keeps (t : Tick) (n : Nat) (w : Word) (s : State) {sn : State}
    (h : execFwImage t n w s = .next sn) : Keeps (s.advance t) sn := by
  have hk := Keeps.refl (s.advance t)
  unfold execFwImage at h
  cases onUnit_next h
  repeat' first
    | with_reducible assumption
    | with_reducible rfl
    | with_reducible apply State.hostOp_keeps

theorem execVerify_keeps (t : Tick) (n : Nat) (s : State) {sn : State}
    (h : execVerify t n s = .next sn) : Keeps (s.advance t) sn := by
  have hk := Keeps.refl (s.advance t)
  unfold execVerify at h
  cases onUnit_next h
  repeat' first
    | with_reducible assumption
    | with_reducible rfl
    | with_reducible apply State.hostOp_keeps

theorem execActivate_keeps (t : Tick) (n : Nat) (s : State) {sn : State}
    (h : execActivate t n s = .next sn) : Keeps (s.advance t) sn := by
  have hk := Keeps.refl (s.advance t)
  unfold execActivate at h
  cases onUnit_next h
  repeat' first
    | with_reducible assumption
    | with_reducible rfl
    | with_reducible apply State.hostOp_keeps

theorem execKeyImport_keeps (t : Tick) (n : Nat) (item : List Word) (s : State) {sn : State}
    (h : execKeyImport t n item s = .next sn) : Keeps (s.advance t) sn := by
  have hk := Keeps.refl (s.advance t)
  unfold execKeyImport at h
  cases onUnit_next h
  repeat' first
    | with_reducible assumption
    | with_reducible rfl
    | with_reducible apply State.hostOp_keeps

theorem execSessionRekey_keeps (t : Tick) (n : Nat) (nonce : List Word) (s : State) {sn : State}
    (h : execSessionRekey t n nonce s = .next sn) : Keeps (s.advance t) sn := by
  have hk := Keeps.refl (s.advance t)
  unfold execSessionRekey at h
  cases onUnit_next h
  repeat' first
    | with_reducible assumption
    | with_reducible rfl
    | with_reducible apply State.hostOp_keeps

theorem execWipe_keeps (t : Tick) (n : Nat) (key : Word) (s : State) {sn : State}
    (h : execWipe t n key s = .next sn) : Keeps (s.advance t) sn := by
  have hk := Keeps.refl (s.advance t)
  unfold execWipe at h
  cases onUnit_next h
  repeat' first
    | with_reducible assumption
    | with_reducible rfl
    | with_reducible apply State.hostOp_keeps

theorem execUpinConfig_keeps (t : Tick) (n : Nat) (pin : Nat) (v : Word) (s : State) {sn : State}
    (h : execUpinConfig t n pin v s = .next sn) : Keeps (s.advance t) sn := by
  have hk := Keeps.refl (s.advance t)
  unfold execUpinConfig at h
  cases onUnit_next h
  repeat' first
    | with_reducible assumption
    | with_reducible rfl
    | with_reducible apply State.hostOp_keeps

theorem execSlotComplete_keeps (t : Tick) (lane : Nat) (fn : Nat) (k : Nat) (s : State) {sn : State}
    (h : execSlotComplete t lane fn k s = .next sn) : Keeps (s.advance t) sn := by
  have hk := Keeps.refl (s.advance t)
  unfold execSlotComplete at h
  cases onUnit_next h
  repeat' first
    | with_reducible assumption
    | with_reducible rfl
    | with_reducible apply State.asOf_keeps
    | with_reducible apply State.slotDone_keeps
    | with_reducible apply State.ahead_keeps
    | dsimp only
    | split
    | intro _

theorem execTransactionApply_keeps (t : Tick) (id : Nat) (s : State) {sn : State}
    (h : execTransactionApply t id s = .next sn) : Keeps (s.advance t) sn := by
  have hk := Keeps.refl (s.advance t)
  unfold execTransactionApply at h
  cases h
  repeat' first
    | with_reducible assumption
    | with_reducible rfl
    | with_reducible apply State.apply_keeps

theorem execFrameBoundary_keeps (t : Tick) (seen : FrameSeen) (s : State) {sn : State}
    (h : execFrameBoundary t seen s = .next sn) : Keeps (s.advance t) sn := by
  have hk := Keeps.refl (s.advance t)
  unfold execFrameBoundary at h
  cases onUnit_next h
  repeat' first
    | with_reducible assumption
    | with_reducible rfl
    | with_reducible apply State.boundary_keeps

theorem execXcCopyComplete_keeps (t : Tick) (s : State) {sn : State}
    (h : execXcCopyComplete t s = .next sn) : Keeps (s.advance t) sn := by
  have hk := Keeps.refl (s.advance t)
  unfold execXcCopyComplete at h
  cases h
  repeat' first
    | with_reducible assumption
    | with_reducible rfl
    | with_reducible apply State.copyComplete_keeps

theorem execOpenMsg_keeps (t : Tick) (src : Src) (h : Head) (part : Nat) (auth : Bool) (events : Bool) (idle : Nat) (nonce : List Byte) (s : State) {sn : State}
    (h : execOpenMsg t src h part auth events idle nonce s = .next sn) : Keeps (s.advance t) sn := by
  have hk := Keeps.refl (s.advance t)
  unfold execOpenMsg at h
  cases onUnit_next h
  repeat' first
    | with_reducible assumption
    | with_reducible rfl
    | with_reducible apply State.takeMsg_keeps

theorem execCloseMsg_keeps (t : Tick) (src : Src) (h : Head) (s : State) {sn : State}
    (h : execCloseMsg t src h s = .next sn) : Keeps (s.advance t) sn := by
  have hk := Keeps.refl (s.advance t)
  unfold execCloseMsg at h
  cases onUnit_next h
  repeat' first
    | with_reducible assumption
    | with_reducible rfl
    | with_reducible apply State.takeMsg_keeps

theorem execKeepaliveMsg_keeps (t : Tick) (src : Src) (h : Head) (s : State) {sn : State}
    (h : execKeepaliveMsg t src h s = .next sn) : Keeps (s.advance t) sn := by
  have hk := Keeps.refl (s.advance t)
  unfold execKeepaliveMsg at h
  cases onUnit_next h
  repeat' first
    | with_reducible assumption
    | with_reducible rfl
    | with_reducible apply State.takeMsg_keeps

theorem execAccessMsg_keeps (t : Tick) (src : Src) (h : Head) (ops : List Op) (s : State) {sn : State}
    (h : execAccessMsg t src h ops s = .next sn) : Keeps (s.advance t) sn := by
  have hk := Keeps.refl (s.advance t)
  unfold execAccessMsg at h
  cases onUnit_next h
  repeat' first
    | with_reducible assumption
    | with_reducible rfl
    | with_reducible apply State.access_keeps
    | with_reducible apply State.takeMsg_keeps

theorem execCommitMsg_keeps (t : Tick) (src : Src) (h : Head) (fn : Nat) (s : State) {sn : State}
    (h : execCommitMsg t src h fn s = .next sn) : Keeps (s.advance t) sn := by
  have hk := Keeps.refl (s.advance t)
  unfold execCommitMsg at h
  cases onUnit_next h
  repeat' first
    | with_reducible assumption
    | with_reducible rfl
    | with_reducible apply State.commit_keeps
    | with_reducible apply State.takeMsg_keeps

theorem execDryRunMsg_keeps (t : Tick) (src : Src) (h : Head) (fn : Nat) (s : State) {sn : State}
    (h : execDryRunMsg t src h fn s = .next sn) : Keeps (s.advance t) sn := by
  have hk := Keeps.refl (s.advance t)
  unfold execDryRunMsg at h
  cases onUnit_next h
  repeat' first
    | with_reducible assumption
    | with_reducible rfl
    | with_reducible apply State.commit_keeps
    | with_reducible apply State.takeMsg_keeps

theorem execAbortMsg_keeps (t : Tick) (src : Src) (h : Head) (s : State) {sn : State}
    (h : execAbortMsg t src h s = .next sn) : Keeps (s.advance t) sn := by
  have hk := Keeps.refl (s.advance t)
  unfold execAbortMsg at h
  cases onUnit_next h
  repeat' first
    | with_reducible assumption
    | with_reducible rfl
    | with_reducible apply State.abort_keeps
    | with_reducible apply State.takeMsg_keeps

theorem execCancelMsg_keeps (t : Tick) (src : Src) (h : Head) (txn : Nat) (s : State) {sn : State}
    (h : execCancelMsg t src h txn s = .next sn) : Keeps (s.advance t) sn := by
  have hk := Keeps.refl (s.advance t)
  unfold execCancelMsg at h
  cases onUnit_next h
  repeat' first
    | with_reducible assumption
    | with_reducible rfl
    | with_reducible apply State.cancel_keeps
    | with_reducible apply State.takeMsg_keeps

theorem execClaimMsg_keeps (t : Tick) (src : Src) (h : Head) (obj : Nat) (scope : Nat) (lease : Nat) (s : State) {sn : State}
    (h : execClaimMsg t src h obj scope lease s = .next sn) : Keeps (s.advance t) sn := by
  have hk := Keeps.refl (s.advance t)
  unfold execClaimMsg at h
  cases onUnit_next h
  repeat' first
    | with_reducible assumption
    | with_reducible rfl
    | with_reducible apply State.takeMsg_keeps

theorem execRenewMsg_keeps (t : Tick) (src : Src) (h : Head) (obj : Nat) (scope : Nat) (lease : Nat) (s : State) {sn : State}
    (h : execRenewMsg t src h obj scope lease s = .next sn) : Keeps (s.advance t) sn := by
  have hk := Keeps.refl (s.advance t)
  unfold execRenewMsg at h
  cases onUnit_next h
  repeat' first
    | with_reducible assumption
    | with_reducible rfl
    | with_reducible apply State.takeMsg_keeps

theorem execReleaseMsg_keeps (t : Tick) (src : Src) (h : Head) (obj : Nat) (scope : Nat) (s : State) {sn : State}
    (h : execReleaseMsg t src h obj scope s = .next sn) : Keeps (s.advance t) sn := by
  have hk := Keeps.refl (s.advance t)
  unfold execReleaseMsg at h
  cases onUnit_next h
  repeat' first
    | with_reducible assumption
    | with_reducible rfl
    | with_reducible apply State.release_keeps
    | with_reducible apply State.takeMsg_keeps

theorem execEventAckMsg_keeps (t : Tick) (src : Src) (h : Head) (seq : Nat) (s : State) {sn : State}
    (h : execEventAckMsg t src h seq s = .next sn) : Keeps (s.advance t) sn := by
  have hk := Keeps.refl (s.advance t)
  unfold execEventAckMsg at h
  cases onUnit_next h
  repeat' first
    | with_reducible assumption
    | with_reducible rfl
    | with_reducible apply State.eventAck_keeps
    | with_reducible apply State.takeMsg_keeps

theorem execWriteMsg_keeps (t : Tick) (bytes : List Byte) (s : State) {sn : State}
    (h : execWriteMsg t bytes s = .next sn) : Keeps (s.advance t) sn := by
  have hk := Keeps.refl (s.advance t)
  unfold execWriteMsg at h
  cases h
  repeat' first
    | with_reducible assumption
    | with_reducible rfl
    | with_reducible apply State.spiWrite_keeps

theorem execReadMsg_keeps (t : Tick) (clocked : Nat) (s : State) {sn : State}
    (h : execReadMsg t clocked s = .next sn) : Keeps (s.advance t) sn := by
  have hk := Keeps.refl (s.advance t)
  unfold execReadMsg at h
  cases h
  repeat' first
    | with_reducible assumption
    | with_reducible rfl
    | with_reducible apply State.spiRead_keeps

theorem execReadStatus_keeps (t : Tick) (s : State) {sn : State}
    (h : execReadStatus t s = .next sn) : Keeps (s.advance t) sn := by
  have hk := Keeps.refl (s.advance t)
  unfold execReadStatus at h
  cases h
  repeat' first
    | with_reducible assumption
    | with_reducible rfl
    | with_reducible apply State.spiStatus_keeps

theorem execMacFrameReceive_keeps (t : Tick) (m : Nat) (f : EthFrame) (s : State) {sn : State}
    (h : execMacFrameReceive t m f s = .next sn) : Keeps (s.advance t) sn := by
  have hk := Keeps.refl (s.advance t)
  unfold execMacFrameReceive at h
  cases onUnit_next h
  repeat' first
    | with_reducible assumption
    | with_reducible rfl
    | with_reducible apply State.macTake_keeps
    | with_reducible apply State.serveAll_keeps

theorem execTtfFrameReceive_keeps (t : Tick) (lane : Nat) (rx : TtfRx) (s : State) {sn : State}
    (h : execTtfFrameReceive t lane rx s = .next sn) : Keeps (s.advance t) sn := by
  have hk := Keeps.refl (s.advance t)
  unfold execTtfFrameReceive at h
  cases onUnit_next h
  repeat' first
    | with_reducible assumption
    | with_reducible rfl
    | with_reducible apply State.ttfReceive_keeps
    | with_reducible apply State.lineEcho_keeps
    | with_reducible apply State.serveAll_keeps

theorem execSdhFrameReceive_keeps (t : Tick) (lane : Nat) (rx : SdhRx) (s : State) {sn : State}
    (h : execSdhFrameReceive t lane rx s = .next sn) : Keeps (s.advance t) sn := by
  have hk := Keeps.refl (s.advance t)
  unfold execSdhFrameReceive at h
  cases onUnit_next h
  repeat' first
    | with_reducible assumption
    | with_reducible rfl
    | with_reducible apply State.sdhReceive_keeps
    | with_reducible apply State.lineEcho_keeps
    | with_reducible apply State.serveAll_keeps

theorem execClientBlockReceive_keeps (t : Tick) (lane : Nat) (sync : BitVec 2) (payload : BitVec 64) (s : State) {sn : State}
    (h : execClientBlockReceive t lane sync payload s = .next sn) : Keeps (s.advance t) sn := by
  have hk := Keeps.refl (s.advance t)
  unfold execClientBlockReceive at h
  cases onUnit_next h
  repeat' first
    | with_reducible assumption
    | with_reducible rfl
    | with_reducible apply State.blockReceive_keeps
    | with_reducible apply State.lineEcho_keeps

theorem execPairBInService_keeps (t : Tick) (s : State) {sn : State}
    (h : execPairBInService t s = .next sn) : Keeps (s.advance t) sn := by
  have hk := Keeps.refl (s.advance t)
  unfold execPairBInService at h
  cases h
  repeat' first
    | with_reducible assumption
    | with_reducible rfl
    | with_reducible apply State.pairTakes_keeps
    | with_reducible apply State.serveAll_keeps

theorem execStartupComplete_keeps (t : Tick) (s : State) {sn : State}
    (h : execStartupComplete t s = .next sn) : Keeps (s.advance t) sn := by
  have hk := Keeps.refl (s.advance t)
  unfold execStartupComplete at h
  cases h
  repeat' first
    | with_reducible assumption
    | with_reducible rfl
    | with_reducible apply State.startupDone_keeps
    | with_reducible apply State.serveAll_keeps

end Sys2Proof.Machine
end

