-- ==== Sys2Proof/Laws/SameExec.lean ====
section
/-! SUPPORT. What every command leaves from the instant it occurs (Same). -/

namespace Sys2Proof.Machine

theorem execLeaseExpiry_same {K B : Nat} (t : Tick) (obj : Nat) (scope : Nat) (s : State) {sn : State}
    (hK : K &&& 680448 = 0) (hB : B ≤ 0xe000022) (h : execLeaseExpiry t obj scope s = .next sn) :
    Same K B (s.advance t) sn := by
  have hk := Same.refl K B (s.advance t)
  unfold execLeaseExpiry at h
  cases onUnit_next h
  repeat' first
    | with_reducible assumption
    | with_reducible rfl
    | exact mask_sub hK rfl
    | exact le_objAt (Nat.le_trans hB (by decide))
    | exact Nat.le_trans hB (by decide)
    | exact Nat.le_trans hB (by split <;> decide)
    | with_reducible apply State.expireLease_same
    | dsimp only
    | split
    | intro _

theorem execHwClaimRequest_same {K B : Nat} (t : Tick) (owner : Nat) (gen : Nat) (key : Nat) (ask : HwAsk) (s : State) {sn : State}
    (hK : K &&& 54043506948200192 = 0) (hB : B ≤ 0x6000002) (h : execHwClaimRequest t owner gen key ask s = .next sn) :
    Same K B (s.advance t) sn := by
  have hk := Same.refl K B (s.advance t)
  unfold execHwClaimRequest at h
  cases onUnit_next h
  repeat' first
    | with_reducible assumption
    | with_reducible rfl
    | exact mask_sub hK rfl
    | exact le_objAt (Nat.le_trans hB (by decide))
    | exact Nat.le_trans hB (by decide)
    | exact Nat.le_trans hB (by split <;> decide)
    | with_reducible apply State.hwClaimAsk_same
    | dsimp only
    | split
    | intro _

theorem execDccClockReturn_same {K B : Nat} (t : Tick) (pair : Nat) (s : State) {sn : State}
    (hK : K &&& 512 = 0) (hB : B ≤ 0xf200001) (h : execDccClockReturn t pair s = .next sn) :
    Same K B (s.advance t) sn := by
  have hk := Same.refl K B (s.advance t)
  unfold execDccClockReturn at h
  cases onUnit_next h
  repeat' first
    | with_reducible assumption
    | with_reducible rfl
    | exact mask_sub hK rfl
    | exact le_objAt (Nat.le_trans hB (by decide))
    | exact Nat.le_trans hB (by decide)
    | exact Nat.le_trans hB (by split <;> decide)
    | with_reducible apply State.pairClock_same
    | dsimp only
    | split
    | intro _

theorem execDccPortReceive_same {K B : Nat} (t : Tick) (port : Nat) (d : DccIn) (s : State) {sn : State}
    (hK : K &&& 34359755264 = 0) (hB : B ≤ 0xf000003) (h : execDccPortReceive t port d s = .next sn) :
    Same K B (s.advance t) sn := by
  have hk := Same.refl K B (s.advance t)
  unfold execDccPortReceive at h
  cases onUnit_next h
  repeat' first
    | with_reducible assumption
    | with_reducible rfl
    | exact mask_sub hK rfl
    | exact le_objAt (Nat.le_trans hB (by decide))
    | exact Nat.le_trans hB (by decide)
    | exact Nat.le_trans hB (by split <;> decide)
    | with_reducible apply State.portReceive_same
    | dsimp only
    | split
    | intro _

theorem execDccPortSend_same {K B : Nat} (t : Tick) (port : Nat) (s : State) {sn : State}
    (hK : K &&& 103079239680 = 0) (h : execDccPortSend t port s = .next sn) :
    Same K B (s.advance t) sn := by
  have hk := Same.refl K B (s.advance t)
  unfold execDccPortSend at h
  cases onUnit_next h
  repeat' first
    | with_reducible assumption
    | with_reducible rfl
    | exact mask_sub hK rfl
    | with_reducible apply State.portSend_same
    | dsimp only
    | split
    | intro _

theorem execRampEnd_same {K B : Nat} (t : Tick) (out : Nat) (delta : Int) (s : State) {sn : State}
    (hK : K &&& 536887808 = 0) (hB : B ≤ 0xb100010) (h : execRampEnd t out delta s = .next sn) :
    Same K B (s.advance t) sn := by
  have hk := Same.refl K B (s.advance t)
  unfold execRampEnd at h
  cases onUnit_next h
  repeat' first
    | with_reducible assumption
    | with_reducible rfl
    | exact mask_sub hK rfl
    | exact le_objAt (Nat.le_trans hB (by decide))
    | exact Nat.le_trans hB (by decide)
    | exact Nat.le_trans hB (by split <;> decide)
    | with_reducible apply State.rampEnd_same
    | dsimp only
    | split
    | intro _

theorem execGlideDone_same {K B : Nat} (t : Tick) (out : Nat) (s : State) {sn : State}
    (hK : K &&& 536887808 = 0) (hB : B ≤ 0xb100010) (h : execGlideDone t out s = .next sn) :
    Same K B (s.advance t) sn := by
  have hk := Same.refl K B (s.advance t)
  unfold execGlideDone at h
  cases onUnit_next h
  repeat' first
    | with_reducible assumption
    | with_reducible rfl
    | exact mask_sub hK rfl
    | exact le_objAt (Nat.le_trans hB (by decide))
    | exact Nat.le_trans hB (by decide)
    | exact Nat.le_trans hB (by split <;> decide)
    | with_reducible apply State.glideDone_same
    | dsimp only
    | split
    | intro _

theorem execOutputResume_same {K B : Nat} (t : Tick) (out : Nat) (s : State) {sn : State}
    (hK : K &&& 536887808 = 0) (hB : B ≤ 0xb100010) (h : execOutputResume t out s = .next sn) :
    Same K B (s.advance t) sn := by
  have hk := Same.refl K B (s.advance t)
  unfold execOutputResume at h
  cases onUnit_next h
  repeat' first
    | with_reducible assumption
    | with_reducible rfl
    | exact mask_sub hK rfl
    | exact le_objAt (Nat.le_trans hB (by decide))
    | exact Nat.le_trans hB (by decide)
    | exact Nat.le_trans hB (by split <;> decide)
    | with_reducible apply State.outputResume_same
    | dsimp only
    | split
    | intro _

theorem execPpsPulse_same {K B : Nat} (t : Tick) (p : Nat) (s : State) {sn : State}
    (hK : K &&& 1073758720 = 0) (hB : B ≤ 0xb200003) (h : execPpsPulse t p s = .next sn) :
    Same K B (s.advance t) sn := by
  have hk := Same.refl K B (s.advance t)
  unfold execPpsPulse at h
  cases onUnit_next h
  repeat' first
    | with_reducible assumption
    | with_reducible rfl
    | exact mask_sub hK rfl
    | exact le_objAt (Nat.le_trans hB (by decide))
    | exact Nat.le_trans hB (by decide)
    | exact Nat.le_trans hB (by split <;> decide)
    | with_reducible apply State.ppsPulse_same
    | dsimp only
    | split
    | intro _

theorem execActLost_same {K B : Nat} (t : Tick) (input : Nat) (s : State) {sn : State}
    (hK : K &&& 134234624 = 0) (hB : B ≤ 0xa000030) (h : execActLost t input s = .next sn) :
    Same K B (s.advance t) sn := by
  have hk := Same.refl K B (s.advance t)
  unfold execActLost at h
  cases onUnit_next h
  repeat' first
    | with_reducible assumption
    | with_reducible rfl
    | exact mask_sub hK rfl
    | exact le_objAt (Nat.le_trans hB (by decide))
    | exact Nat.le_trans hB (by decide)
    | exact Nat.le_trans hB (by split <;> decide)
    | with_reducible apply State.actLost_same
    | dsimp only
    | split
    | intro _

theorem execActReturn_same {K B : Nat} (t : Tick) (input : Nat) (s : State) {sn : State}
    (hK : K &&& 134234624 = 0) (hB : B ≤ 0xa000030) (h : execActReturn t input s = .next sn) :
    Same K B (s.advance t) sn := by
  have hk := Same.refl K B (s.advance t)
  unfold execActReturn at h
  cases onUnit_next h
  repeat' first
    | with_reducible assumption
    | with_reducible rfl
    | exact mask_sub hK rfl
    | exact le_objAt (Nat.le_trans hB (by decide))
    | exact Nat.le_trans hB (by decide)
    | exact Nat.le_trans hB (by split <;> decide)
    | with_reducible apply State.actReturn_same
    | dsimp only
    | split
    | intro _

theorem execCandWtrExpiry_same {K B : Nat} (t : Tick) (cand : Nat) (s : State) {sn : State}
    (hK : K &&& 134234624 = 0) (hB : B ≤ 0xa000030) (h : execCandWtrExpiry t cand s = .next sn) :
    Same K B (s.advance t) sn := by
  have hk := Same.refl K B (s.advance t)
  unfold execCandWtrExpiry at h
  cases onUnit_next h
  repeat' first
    | with_reducible assumption
    | with_reducible rfl
    | exact mask_sub hK rfl
    | exact le_objAt (Nat.le_trans hB (by decide))
    | exact Nat.le_trans hB (by decide)
    | exact Nat.le_trans hB (by split <;> decide)
    | with_reducible apply State.candWtr_same
    | dsimp only
    | split
    | intro _

theorem execLockTimeReached_same {K B : Nat} (t : Tick) (s : State) {sn : State}
    (hK : K &&& 805323520 = 0) (hB : B ≤ 0xa000020) (h : execLockTimeReached t s = .next sn) :
    Same K B (s.advance t) sn := by
  have hk := Same.refl K B (s.advance t)
  unfold execLockTimeReached at h
  cases h
  repeat' first
    | with_reducible assumption
    | with_reducible rfl
    | exact mask_sub hK rfl
    | exact le_objAt (Nat.le_trans hB (by decide))
    | exact Nat.le_trans hB (by decide)
    | exact Nat.le_trans hB (by split <;> decide)
    | with_reducible apply State.lockReached_same
    | dsimp only
    | split
    | intro _

theorem execPullComplete_same {K B : Nat} (t : Tick) (s : State) {sn : State}
    (hK : K &&& 536887808 = 0) (hB : B ≤ 0xa000020) (h : execPullComplete t s = .next sn) :
    Same K B (s.advance t) sn := by
  have hk := Same.refl K B (s.advance t)
  unfold execPullComplete at h
  cases h
  repeat' first
    | with_reducible assumption
    | with_reducible rfl
    | exact mask_sub hK rfl
    | exact le_objAt (Nat.le_trans hB (by decide))
    | exact Nat.le_trans hB (by decide)
    | exact Nat.le_trans hB (by split <;> decide)
    | with_reducible apply State.pullComplete_same
    | dsimp only
    | split
    | intro _

theorem execHoldoverExpiry_same {K B : Nat} (t : Tick) (s : State) {sn : State}
    (hK : K &&& 536887808 = 0) (hB : B ≤ 0xa000020) (h : execHoldoverExpiry t s = .next sn) :
    Same K B (s.advance t) sn := by
  have hk := Same.refl K B (s.advance t)
  unfold execHoldoverExpiry at h
  cases h
  repeat' first
    | with_reducible assumption
    | with_reducible rfl
    | exact mask_sub hK rfl
    | exact le_objAt (Nat.le_trans hB (by decide))
    | exact Nat.le_trans hB (by decide)
    | exact Nat.le_trans hB (by split <;> decide)
    | with_reducible apply State.holdoverExpiry_same
    | dsimp only
    | split
    | intro _

theorem execWatchdog_same {K B : Nat} (t : Tick) (s : State) {sn : State}
    (hK : K &&& 268452352 = 0) (hB : B ≤ 0xa000008) (h : execWatchdog t s = .next sn) :
    Same K B (s.advance t) sn := by
  have hk := Same.refl K B (s.advance t)
  unfold execWatchdog at h
  cases h
  repeat' first
    | with_reducible assumption
    | with_reducible rfl
    | exact mask_sub hK rfl
    | exact le_objAt (Nat.le_trans hB (by decide))
    | exact Nat.le_trans hB (by decide)
    | exact Nat.le_trans hB (by split <;> decide)
    | with_reducible apply State.watchdogExpiry_same
    | dsimp only
    | split
    | intro _

theorem execDtsSecondBoundary_same {K B : Nat} (t : Tick) (s : State) {sn : State}
    (hK : K &&& 1924413807104 = 0) (hB : B ≤ 0xa000020) (h : execDtsSecondBoundary t s = .next sn) :
    Same K B (s.advance t) sn := by
  have hk := Same.refl K B (s.advance t)
  unfold execDtsSecondBoundary at h
  cases h
  repeat' first
    | with_reducible assumption
    | with_reducible rfl
    | exact mask_sub hK rfl
    | exact le_objAt (Nat.le_trans hB (by decide))
    | exact Nat.le_trans hB (by decide)
    | exact Nat.le_trans hB (by split <;> decide)
    | with_reducible apply State.secondBoundary_same
    | dsimp only
    | split
    | intro _

theorem execApsAcceptance_same {K B : Nat} (t : Tick) (g : Nat) (s : State) {sn : State}
    (hK : K &&& 2147500544 = 0) (hB : B ≤ 0xc000003) (h : execApsAcceptance t g s = .next sn) :
    Same K B (s.advance t) sn := by
  have hk := Same.refl K B (s.advance t)
  unfold execApsAcceptance at h
  cases onUnit_next h
  repeat' first
    | with_reducible assumption
    | with_reducible rfl
    | exact mask_sub hK rfl
    | exact le_objAt (Nat.le_trans hB (by decide))
    | exact Nat.le_trans hB (by decide)
    | exact Nat.le_trans hB (by split <;> decide)
    | with_reducible apply State.apsAccept_same
    | dsimp only
    | split
    | intro _

theorem execHoldOffExpiry_same {K B : Nat} (t : Tick) (g : Nat) (prot : Bool) (degrade : Bool) (s : State) {sn : State}
    (hK : K &&& 2147500544 = 0) (hB : B ≤ 0xc000003) (h : execHoldOffExpiry t g prot degrade s = .next sn) :
    Same K B (s.advance t) sn := by
  have hk := Same.refl K B (s.advance t)
  unfold execHoldOffExpiry at h
  cases onUnit_next h
  repeat' first
    | with_reducible assumption
    | with_reducible rfl
    | exact mask_sub hK rfl
    | exact le_objAt (Nat.le_trans hB (by decide))
    | exact Nat.le_trans hB (by decide)
    | exact Nat.le_trans hB (by split <;> decide)
    | with_reducible apply State.apsHoldOff_same
    | dsimp only
    | split
    | intro _

theorem execApsWtrExpiry_same {K B : Nat} (t : Tick) (g : Nat) (s : State) {sn : State}
    (hK : K &&& 2147500544 = 0) (hB : B ≤ 0xc000003) (h : execApsWtrExpiry t g s = .next sn) :
    Same K B (s.advance t) sn := by
  have hk := Same.refl K B (s.advance t)
  unfold execApsWtrExpiry at h
  cases onUnit_next h
  repeat' first
    | with_reducible assumption
    | with_reducible rfl
    | exact mask_sub hK rfl
    | exact le_objAt (Nat.le_trans hB (by decide))
    | exact Nat.le_trans hB (by decide)
    | exact Nat.le_trans hB (by split <;> decide)
    | with_reducible apply State.apsWtr_same
    | dsimp only
    | split
    | intro _

theorem execFopChange_same {K B : Nat} (t : Tick) (g : Nat) (arch : Bool) (s : State) {sn : State}
    (hK : K &&& 2147500544 = 0) (hB : B ≤ 0xc000003) (h : execFopChange t g arch s = .next sn) :
    Same K B (s.advance t) sn := by
  have hk := Same.refl K B (s.advance t)
  unfold execFopChange at h
  cases onUnit_next h
  repeat' first
    | with_reducible assumption
    | with_reducible rfl
    | exact mask_sub hK rfl
    | exact le_objAt (Nat.le_trans hB (by decide))
    | exact Nat.le_trans hB (by decide)
    | exact Nat.le_trans hB (by split <;> decide)
    | with_reducible apply State.fopChange_same
    | dsimp only
    | split
    | intro _

theorem execPathHoldOffExpiry_same {K B : Nat} (t : Tick) (lane : Nat) (k : Nat) (s : State) {sn : State}
    (hK : K &&& 4294976000 = 0) (hB : B ≤ 0xc300000) (h : execPathHoldOffExpiry t lane k s = .next sn) :
    Same K B (s.advance t) sn := by
  have hk := Same.refl K B (s.advance t)
  unfold execPathHoldOffExpiry at h
  cases onUnit_next h
  repeat' first
    | with_reducible assumption
    | with_reducible rfl
    | exact mask_sub hK rfl
    | exact le_objAt (Nat.le_trans hB (by decide))
    | exact Nat.le_trans hB (by decide)
    | exact Nat.le_trans hB (by split <;> decide)
    | with_reducible apply State.pathHoldOff_same
    | dsimp only
    | split
    | intro _

theorem execPathWtrExpiry_same {K B : Nat} (t : Tick) (lane : Nat) (k : Nat) (s : State) {sn : State}
    (hK : K &&& 4294976000 = 0) (hB : B ≤ 0xc300000) (h : execPathWtrExpiry t lane k s = .next sn) :
    Same K B (s.advance t) sn := by
  have hk := Same.refl K B (s.advance t)
  unfold execPathWtrExpiry at h
  cases onUnit_next h
  repeat' first
    | with_reducible assumption
    | with_reducible rfl
    | exact mask_sub hK rfl
    | exact le_objAt (Nat.le_trans hB (by decide))
    | exact Nat.le_trans hB (by decide)
    | exact Nat.le_trans hB (by split <;> decide)
    | with_reducible apply State.pathWtr_same
    | dsimp only
    | split
    | intro _

theorem execLtdClear_same {K B : Nat} (t : Tick) (lane : Nat) (s : State) {sn : State}
    (hK : K &&& 315814334976 = 0) (hB : B ≤ 0x9000018) (h : execLtdClear t lane s = .next sn) :
    Same K B (s.advance t) sn := by
  have hk := Same.refl K B (s.advance t)
  unfold execLtdClear at h
  cases onUnit_next h
  repeat' first
    | with_reducible assumption
    | with_reducible rfl
    | exact mask_sub hK rfl
    | exact le_objAt (Nat.le_trans hB (by decide))
    | exact Nat.le_trans hB (by decide)
    | exact Nat.le_trans hB (by split <;> decide)
    | with_reducible apply State.ltdClear_same
    | with_reducible apply State.laneHook_same
    | dsimp only
    | split
    | intro _

theorem execStepAccept_same {K B : Nat} (t : Tick) (lane : Nat) (s : State) {sn : State}
    (hK : K &&& 315814336000 = 0) (hB : B ≤ 0x9000011) (h : execStepAccept t lane s = .next sn) :
    Same K B (s.advance t) sn := by
  have hk := Same.refl K B (s.advance t)
  unfold execStepAccept at h
  cases onUnit_next h
  repeat' first
    | with_reducible assumption
    | with_reducible rfl
    | exact mask_sub hK rfl
    | exact le_objAt (Nat.le_trans hB (by decide))
    | exact Nat.le_trans hB (by decide)
    | exact Nat.le_trans hB (by split <;> decide)
    | with_reducible apply State.stepAccept_same
    | with_reducible apply State.laneHook_same
    | dsimp only
    | split
    | intro _

theorem execLedgerReseedTimeout_same {K B : Nat} (t : Tick) (lane : Nat) (s : State) {sn : State}
    (hK : K &&& 315814336000 = 0) (hB : B ≤ 0x9000011) (h : execLedgerReseedTimeout t lane s = .next sn) :
    Same K B (s.advance t) sn := by
  have hk := Same.refl K B (s.advance t)
  unfold execLedgerReseedTimeout at h
  cases onUnit_next h
  repeat' first
    | with_reducible assumption
    | with_reducible rfl
    | exact mask_sub hK rfl
    | exact le_objAt (Nat.le_trans hB (by decide))
    | exact Nat.le_trans hB (by decide)
    | exact Nat.le_trans hB (by split <;> decide)
    | with_reducible apply State.ledgerTimeout_same
    | with_reducible apply State.laneHook_same
    | dsimp only
    | split
    | intro _

theorem execSfSdDeclare_same {K B : Nat} (t : Tick) (lane : Nat) (d : SfSd) (s : State) {sn : State}
    (hK : K &&& 315814334976 = 0) (hB : B ≤ 0x3000015) (h : execSfSdDeclare t lane d s = .next sn) :
    Same K B (s.advance t) sn := by
  have hk := Same.refl K B (s.advance t)
  unfold execSfSdDeclare at h
  cases onUnit_next h
  repeat' first
    | with_reducible assumption
    | with_reducible rfl
    | exact mask_sub hK rfl
    | exact le_objAt (Nat.le_trans hB (by decide))
    | exact Nat.le_trans hB (by decide)
    | exact Nat.le_trans hB (by split <;> decide)
    | with_reducible apply State.sfDeclare_same
    | with_reducible apply State.laneHook_same
    | dsimp only
    | split
    | intro _

theorem execSfSdWindowEnd_same {K B : Nat} (t : Tick) (lane : Nat) (d : SfSd) (s : State) {sn : State}
    (hK : K &&& 315814334976 = 0) (hB : B ≤ 0x3000015) (h : execSfSdWindowEnd t lane d s = .next sn) :
    Same K B (s.advance t) sn := by
  have hk := Same.refl K B (s.advance t)
  unfold execSfSdWindowEnd at h
  cases onUnit_next h
  repeat' first
    | with_reducible assumption
    | with_reducible rfl
    | exact mask_sub hK rfl
    | exact le_objAt (Nat.le_trans hB (by decide))
    | exact Nat.le_trans hB (by decide)
    | exact Nat.le_trans hB (by split <;> decide)
    | with_reducible apply State.sfWindowEnd_same
    | with_reducible apply State.laneHook_same
    | dsimp only
    | split
    | intro _

theorem execTraceAcceptance_same {K B : Nat} (t : Tick) (lane : Nat) (site : TraceSite) (s : State) {sn : State}
    (hK : K &&& 315814337024 = 0) (hB : B ≤ 0x3000015) (h : execTraceAcceptance t lane site s = .next sn) :
    Same K B (s.advance t) sn := by
  have hk := Same.refl K B (s.advance t)
  unfold execTraceAcceptance at h
  cases onUnit_next h
  repeat' first
    | with_reducible assumption
    | with_reducible rfl
    | exact mask_sub hK rfl
    | exact le_objAt (Nat.le_trans hB (by decide))
    | exact Nat.le_trans hB (by decide)
    | exact Nat.le_trans hB (by split <;> decide)
    | with_reducible apply State.acceptTrace_same
    | with_reducible apply State.laneHook_same
    | dsimp only
    | split
    | intro _

theorem execLosDeclare_same {K B : Nat} (t : Tick) (lane : Nat) (s : State) {sn : State}
    (hK : K &&& 315814334976 = 0) (hB : B ≤ 0x3000015) (h : execLosDeclare t lane s = .next sn) :
    Same K B (s.advance t) sn := by
  have hk := Same.refl K B (s.advance t)
  unfold execLosDeclare at h
  cases onUnit_next h
  repeat' first
    | with_reducible assumption
    | with_reducible rfl
    | exact mask_sub hK rfl
    | exact le_objAt (Nat.le_trans hB (by decide))
    | exact Nat.le_trans hB (by decide)
    | exact Nat.le_trans hB (by split <;> decide)
    | with_reducible apply State.losDeclare_same
    | with_reducible apply State.laneHook_same
    | dsimp only
    | split
    | intro _

theorem execLosClear_same {K B : Nat} (t : Tick) (lane : Nat) (s : State) {sn : State}
    (hK : K &&& 315814336000 = 0) (hB : B ≤ 0x3000015) (h : execLosClear t lane s = .next sn) :
    Same K B (s.advance t) sn := by
  have hk := Same.refl K B (s.advance t)
  unfold execLosClear at h
  cases onUnit_next h
  repeat' first
    | with_reducible assumption
    | with_reducible rfl
    | exact mask_sub hK rfl
    | exact le_objAt (Nat.le_trans hB (by decide))
    | exact Nat.le_trans hB (by decide)
    | exact Nat.le_trans hB (by split <;> decide)
    | with_reducible apply State.losClear_same
    | with_reducible apply State.laneHook_same
    | dsimp only
    | split
    | intro _

theorem execLofDeclare_same {K B : Nat} (t : Tick) (lane : Nat) (s : State) {sn : State}
    (hK : K &&& 315814334976 = 0) (hB : B ≤ 0x3000015) (h : execLofDeclare t lane s = .next sn) :
    Same K B (s.advance t) sn := by
  have hk := Same.refl K B (s.advance t)
  unfold execLofDeclare at h
  cases onUnit_next h
  repeat' first
    | with_reducible assumption
    | with_reducible rfl
    | exact mask_sub hK rfl
    | exact le_objAt (Nat.le_trans hB (by decide))
    | exact Nat.le_trans hB (by decide)
    | exact Nat.le_trans hB (by split <;> decide)
    | with_reducible apply State.lofDeclare_same
    | with_reducible apply State.laneHook_same
    | dsimp only
    | split
    | intro _

theorem execLofClear_same {K B : Nat} (t : Tick) (lane : Nat) (s : State) {sn : State}
    (hK : K &&& 315814336000 = 0) (hB : B ≤ 0x3000015) (h : execLofClear t lane s = .next sn) :
    Same K B (s.advance t) sn := by
  have hk := Same.refl K B (s.advance t)
  unfold execLofClear at h
  cases onUnit_next h
  repeat' first
    | with_reducible assumption
    | with_reducible rfl
    | exact mask_sub hK rfl
    | exact le_objAt (Nat.le_trans hB (by decide))
    | exact Nat.le_trans hB (by decide)
    | exact Nat.le_trans hB (by split <;> decide)
    | with_reducible apply State.lofClear_same
    | with_reducible apply State.laneHook_same
    | dsimp only
    | split
    | intro _

theorem execLoblDeclare_same {K B : Nat} (t : Tick) (lane : Nat) (s : State) {sn : State}
    (hK : K &&& 315814334976 = 0) (hB : B ≤ 0x3000015) (h : execLoblDeclare t lane s = .next sn) :
    Same K B (s.advance t) sn := by
  have hk := Same.refl K B (s.advance t)
  unfold execLoblDeclare at h
  cases onUnit_next h
  repeat' first
    | with_reducible assumption
    | with_reducible rfl
    | exact mask_sub hK rfl
    | exact le_objAt (Nat.le_trans hB (by decide))
    | exact Nat.le_trans hB (by decide)
    | exact Nat.le_trans hB (by split <;> decide)
    | with_reducible apply State.loblDeclare_same
    | with_reducible apply State.laneHook_same
    | dsimp only
    | split
    | intro _

theorem execLoblClear_same {K B : Nat} (t : Tick) (lane : Nat) (s : State) {sn : State}
    (hK : K &&& 315814334976 = 0) (hB : B ≤ 0x3000015) (h : execLoblClear t lane s = .next sn) :
    Same K B (s.advance t) sn := by
  have hk := Same.refl K B (s.advance t)
  unfold execLoblClear at h
  cases onUnit_next h
  repeat' first
    | with_reducible assumption
    | with_reducible rfl
    | exact mask_sub hK rfl
    | exact le_objAt (Nat.le_trans hB (by decide))
    | exact Nat.le_trans hB (by decide)
    | exact Nat.le_trans hB (by split <;> decide)
    | with_reducible apply State.loblClear_same
    | with_reducible apply State.laneHook_same
    | dsimp only
    | split
    | intro _

theorem execDefectPersistence_same {K B : Nat} (t : Tick) (lane : Nat) (d : Persist) (s : State) {sn : State}
    (hK : K &&& 315814334976 = 0) (hB : B ≤ 0x3000015) (h : execDefectPersistence t lane d s = .next sn) :
    Same K B (s.advance t) sn := by
  have hk := Same.refl K B (s.advance t)
  unfold execDefectPersistence at h
  cases onUnit_next h
  repeat' first
    | with_reducible assumption
    | with_reducible rfl
    | exact mask_sub hK rfl
    | exact le_objAt (Nat.le_trans hB (by decide))
    | exact Nat.le_trans hB (by decide)
    | exact Nat.le_trans hB (by split <;> decide)
    | with_reducible apply State.persistence_same
    | with_reducible apply State.laneHook_same
    | dsimp only
    | split
    | intro _

theorem execFieldAcceptance_same {K B : Nat} (t : Tick) (lane : Nat) (f : AccField) (s : State) {sn : State}
    (hK : K &&& 315814334976 = 0) (hB : B ≤ 0x3000011) (h : execFieldAcceptance t lane f s = .next sn) :
    Same K B (s.advance t) sn := by
  have hk := Same.refl K B (s.advance t)
  unfold execFieldAcceptance at h
  cases onUnit_next h
  repeat' first
    | with_reducible assumption
    | with_reducible rfl
    | exact mask_sub hK rfl
    | exact le_objAt (Nat.le_trans hB (by decide))
    | exact Nat.le_trans hB (by decide)
    | exact Nat.le_trans hB (by split <;> decide)
    | with_reducible apply State.noteTraceable_same
    | with_reducible apply State.acceptField_same
    | with_reducible apply State.laneHook_same
    | dsimp only
    | split
    | intro _

theorem execS1Acceptance_same {K B : Nat} (t : Tick) (lane : Nat) (s : State) {sn : State}
    (hK : K &&& 315814334976 = 0) (hB : B ≤ 0x4000002) (h : execS1Acceptance t lane s = .next sn) :
    Same K B (s.advance t) sn := by
  have hk := Same.refl K B (s.advance t)
  unfold execS1Acceptance at h
  cases onUnit_next h
  repeat' first
    | with_reducible assumption
    | with_reducible rfl
    | exact mask_sub hK rfl
    | exact le_objAt (Nat.le_trans hB (by decide))
    | exact Nat.le_trans hB (by decide)
    | exact Nat.le_trans hB (by split <;> decide)
    | with_reducible apply State.acceptS1_same
    | with_reducible apply State.laneHook_same
    | dsimp only
    | split
    | intro _

theorem execBayPllLock_same {K B : Nat} (t : Tick) (bay : Nat) (s : State) {sn : State}
    (hK : K &&& 315814334976 = 0) (hB : B ≤ 0x2000002) (h : execBayPllLock t bay s = .next sn) :
    Same K B (s.advance t) sn := by
  have hk := Same.refl K B (s.advance t)
  unfold execBayPllLock at h
  cases onUnit_next h
  repeat' first
    | with_reducible assumption
    | with_reducible rfl
    | exact mask_sub hK rfl
    | exact le_objAt (Nat.le_trans hB (by decide))
    | exact Nat.le_trans hB (by decide)
    | exact Nat.le_trans hB (by split <;> decide)
    | with_reducible apply State.bayLock_same
    | with_reducible apply State.laneHook_same
    | with_reducible apply Same.foldl
    | dsimp only
    | split
    | intro _

theorem execTxReady_same {K B : Nat} (t : Tick) (lane : Nat) (pinDelay : Word) (s : State) {sn : State}
    (hK : K &&& 315814334976 = 0) (hB : B ≤ 0x2000002) (h : execTxReady t lane pinDelay s = .next sn) :
    Same K B (s.advance t) sn := by
  have hk := Same.refl K B (s.advance t)
  unfold execTxReady at h
  cases onUnit_next h
  repeat' first
    | with_reducible assumption
    | with_reducible rfl
    | exact mask_sub hK rfl
    | exact le_objAt (Nat.le_trans hB (by decide))
    | exact Nat.le_trans hB (by decide)
    | exact Nat.le_trans hB (by split <;> decide)
    | with_reducible apply State.txReadyNow_same
    | with_reducible apply State.laneHook_same
    | dsimp only
    | split
    | intro _

theorem execSigDetChange_same {K B : Nat} (t : Tick) (lane : Nat) (present : Bool) (s : State) {sn : State}
    (hK : K &&& 315814334976 = 0) (hB : B ≤ 0x2000003) (h : execSigDetChange t lane present s = .next sn) :
    Same K B (s.advance t) sn := by
  have hk := Same.refl K B (s.advance t)
  unfold execSigDetChange at h
  cases onUnit_next h
  repeat' first
    | with_reducible assumption
    | with_reducible rfl
    | exact mask_sub hK rfl
    | exact le_objAt (Nat.le_trans hB (by decide))
    | exact Nat.le_trans hB (by decide)
    | exact Nat.le_trans hB (by split <;> decide)
    | with_reducible apply State.sigDet_same
    | with_reducible apply State.laneHook_same
    | dsimp only
    | split
    | intro _

theorem execCdrLock_same {K B : Nat} (t : Tick) (lane : Nat) (offset : Int) (s : State) {sn : State}
    (hK : K &&& 315814334976 = 0) (hB : B ≤ 0x2000002) (h : execCdrLock t lane offset s = .next sn) :
    Same K B (s.advance t) sn := by
  have hk := Same.refl K B (s.advance t)
  unfold execCdrLock at h
  cases onUnit_next h
  repeat' first
    | with_reducible assumption
    | with_reducible rfl
    | exact mask_sub hK rfl
    | exact le_objAt (Nat.le_trans hB (by decide))
    | exact Nat.le_trans hB (by decide)
    | exact Nat.le_trans hB (by split <;> decide)
    | with_reducible apply State.cdrLocked_same
    | with_reducible apply State.laneHook_same
    | dsimp only
    | split
    | intro _

theorem execCdrLockLoss_same {K B : Nat} (t : Tick) (lane : Nat) (s : State) {sn : State}
    (hK : K &&& 315814334976 = 0) (hB : B ≤ 0x2000002) (h : execCdrLockLoss t lane s = .next sn) :
    Same K B (s.advance t) sn := by
  have hk := Same.refl K B (s.advance t)
  unfold execCdrLockLoss at h
  cases onUnit_next h
  repeat' first
    | with_reducible assumption
    | with_reducible rfl
    | exact mask_sub hK rfl
    | exact le_objAt (Nat.le_trans hB (by decide))
    | exact Nat.le_trans hB (by decide)
    | exact Nat.le_trans hB (by split <;> decide)
    | with_reducible apply State.cdrLost_same
    | with_reducible apply State.laneHook_same
    | dsimp only
    | split
    | intro _

theorem execAdaptationComplete_same {K B : Nat} (t : Tick) (lane : Nat) (pinDelay : Word) (eye : Byte) (dfe1 : Byte) (ctle : BitVec 5) (s : State) {sn : State}
    (hK : K &&& 315814334976 = 0) (hB : B ≤ 0x2000002) (h : execAdaptationComplete t lane pinDelay eye dfe1 ctle s = .next sn) :
    Same K B (s.advance t) sn := by
  have hk := Same.refl K B (s.advance t)
  unfold execAdaptationComplete at h
  cases onUnit_next h
  repeat' first
    | with_reducible assumption
    | with_reducible rfl
    | exact mask_sub hK rfl
    | exact le_objAt (Nat.le_trans hB (by decide))
    | exact Nat.le_trans hB (by decide)
    | exact Nat.le_trans hB (by split <;> decide)
    | with_reducible apply State.adapted_same
    | with_reducible apply State.laneHook_same
    | dsimp only
    | split
    | intro _

theorem execEqDiscardTimeout_same {K B : Nat} (t : Tick) (lane : Nat) (s : State) {sn : State}
    (hK : K &&& 4096 = 0) (h : execEqDiscardTimeout t lane s = .next sn) :
    Same K B (s.advance t) sn := by
  have hk := Same.refl K B (s.advance t)
  unfold execEqDiscardTimeout at h
  cases onUnit_next h
  repeat' first
    | with_reducible assumption
    | with_reducible rfl
    | exact mask_sub hK rfl
    | with_reducible apply State.eqDiscard_same
    | dsimp only
    | split
    | intro _

theorem execBringUpTimeout_same {K B : Nat} (t : Tick) (lane : Nat) (s : State) {sn : State}
    (hK : K &&& 315814334976 = 0) (hB : B ≤ 0x3000015) (h : execBringUpTimeout t lane s = .next sn) :
    Same K B (s.advance t) sn := by
  have hk := Same.refl K B (s.advance t)
  unfold execBringUpTimeout at h
  cases onUnit_next h
  repeat' first
    | with_reducible assumption
    | with_reducible rfl
    | exact mask_sub hK rfl
    | exact le_objAt (Nat.le_trans hB (by decide))
    | exact Nat.le_trans hB (by decide)
    | exact Nat.le_trans hB (by split <;> decide)
    | with_reducible apply State.bringUpLate_same
    | with_reducible apply State.laneHook_same
    | dsimp only
    | split
    | intro _

theorem execPatternCheckerLock_same {K B : Nat} (t : Tick) (lane : Nat) (locked : Bool) (s : State) {sn : State}
    (hK : K &&& 20992 = 0) (hB : B ≤ 0x2000004) (h : execPatternCheckerLock t lane locked s = .next sn) :
    Same K B (s.advance t) sn := by
  have hk := Same.refl K B (s.advance t)
  unfold execPatternCheckerLock at h
  cases onUnit_next h
  repeat' first
    | with_reducible assumption
    | with_reducible rfl
    | exact mask_sub hK rfl
    | exact le_objAt (Nat.le_trans hB (by decide))
    | exact Nat.le_trans hB (by decide)
    | exact Nat.le_trans hB (by split <;> decide)
    | with_reducible apply State.patternLock_same
    | dsimp only
    | split
    | intro _

theorem execFreqGateEnd_same {K B : Nat} (t : Tick) (cand : Nat) (offset : Int) (s : State) {sn : State}
    (hK : K &&& 315814334976 = 0) (hB : B ≤ 0x2000002) (h : execFreqGateEnd t cand offset s = .next sn) :
    Same K B (s.advance t) sn := by
  have hk := Same.refl K B (s.advance t)
  unfold execFreqGateEnd at h
  cases onUnit_next h
  repeat' first
    | with_reducible assumption
    | with_reducible rfl
    | exact mask_sub hK rfl
    | exact le_objAt (Nat.le_trans hB (by decide))
    | exact Nat.le_trans hB (by decide)
    | exact Nat.le_trans hB (by split <;> decide)
    | with_reducible apply State.freqGate_same
    | with_reducible apply State.candHook_same
    | dsimp only
    | split
    | intro _

theorem execLandingFrameReady_same {K B : Nat} (t : Tick) (L : Nat) (s : State) {sn : State}
    (hK : K &&& 72057600480400896 = 0) (hB : B ≤ 0) (h : execLandingFrameReady t L s = .next sn) :
    Same K B (s.advance t) sn := by
  have hk := Same.refl K B (s.advance t)
  unfold execLandingFrameReady at h
  cases h
  repeat' first
    | with_reducible assumption
    | with_reducible rfl
    | exact mask_sub hK rfl
    | exact Nat.le_trans hB (Nat.zero_le _)
    | with_reducible apply State.landingReady_same
    | dsimp only
    | split
    | intro _

theorem execStandbyWaitExpiry_same {K B : Nat} (t : Tick) (s : State) {sn : State}
    (hK : K &&& 8589935104 = 0) (hB : B ≤ 0xd000003) (h : execStandbyWaitExpiry t s = .next sn) :
    Same K B (s.advance t) sn := by
  have hk := Same.refl K B (s.advance t)
  unfold execStandbyWaitExpiry at h
  cases h
  repeat' first
    | with_reducible assumption
    | with_reducible rfl
    | exact mask_sub hK rfl
    | exact le_objAt (Nat.le_trans hB (by decide))
    | exact Nat.le_trans hB (by decide)
    | exact Nat.le_trans hB (by split <;> decide)
    | with_reducible apply State.standbyWait_same
    | dsimp only
    | split
    | intro _

theorem execHoldPinChange_same {K B : Nat} (t : Tick) (high : Bool) (s : State) {sn : State}
    (hK : K &&& 8589951488 = 0) (hB : B ≤ 0xd000003) (h : execHoldPinChange t high s = .next sn) :
    Same K B (s.advance t) sn := by
  have hk := Same.refl K B (s.advance t)
  unfold execHoldPinChange at h
  cases h
  repeat' first
    | with_reducible assumption
    | with_reducible rfl
    | exact mask_sub hK rfl
    | exact le_objAt (Nat.le_trans hB (by decide))
    | exact Nat.le_trans hB (by decide)
    | exact Nat.le_trans hB (by split <;> decide)
    | with_reducible apply State.holdChange_same
    | dsimp only
    | split
    | intro _

theorem execTakeover_same {K B : Nat} (t : Tick) (s : State) {sn : State}
    (hK : K &&& 9529475840 = 0) (hB : B ≤ 0xa000020) (h : execTakeover t s = .next sn) :
    Same K B (s.advance t) sn := by
  have hk := Same.refl K B (s.advance t)
  unfold execTakeover at h
  cases h
  repeat' first
    | with_reducible assumption
    | with_reducible rfl
    | exact mask_sub hK rfl
    | exact le_objAt (Nat.le_trans hB (by decide))
    | exact Nat.le_trans hB (by decide)
    | exact Nat.le_trans hB (by split <;> decide)
    | with_reducible apply State.takeover_same
    | dsimp only
    | split
    | intro _

theorem execAutoRelinquish_same {K B : Nat} (t : Tick) (s : State) {sn : State}
    (hK : K &&& 8589934592 = 0) (h : execAutoRelinquish t s = .next sn) :
    Same K B (s.advance t) sn := by
  have hk := Same.refl K B (s.advance t)
  unfold execAutoRelinquish at h
  cases h
  repeat' first
    | with_reducible assumption
    | with_reducible rfl
    | exact mask_sub hK rfl
    | with_reducible apply State.autoRelinquish_same
    | dsimp only
    | split
    | intro _

theorem execTandemRecord_same {K B : Nat} (t : Tick) (port : Nat) (r : TandemRec) (s : State) {sn : State}
    (hK : K &&& 8589951488 = 0) (hB : B ≤ 0xd000003) (h : execTandemRecord t port r s = .next sn) :
    Same K B (s.advance t) sn := by
  have hk := Same.refl K B (s.advance t)
  unfold execTandemRecord at h
  cases onUnit_next h
  repeat' first
    | with_reducible assumption
    | with_reducible rfl
    | exact mask_sub hK rfl
    | exact le_objAt (Nat.le_trans hB (by decide))
    | exact Nat.le_trans hB (by decide)
    | exact Nat.le_trans hB (by split <;> decide)
    | with_reducible apply State.tandemRecord_same
    | dsimp only
    | split
    | intro _

theorem execRecordLossTimeout_same {K B : Nat} (t : Tick) (s : State) {sn : State}
    (hK : K &&& 512 = 0) (hB : B ≤ 0xd000003) (h : execRecordLossTimeout t s = .next sn) :
    Same K B (s.advance t) sn := by
  have hk := Same.refl K B (s.advance t)
  unfold execRecordLossTimeout at h
  cases h
  repeat' first
    | with_reducible assumption
    | with_reducible rfl
    | exact mask_sub hK rfl
    | exact le_objAt (Nat.le_trans hB (by decide))
    | exact Nat.le_trans hB (by decide)
    | exact Nat.le_trans hB (by split <;> decide)
    | with_reducible apply State.recordLoss_same
    | dsimp only
    | split
    | intro _

theorem execResyncComplete_same {K B : Nat} (t : Tick) (s : State) {sn : State}
    (hK : K &&& 8589935104 = 0) (hB : B ≤ 0xd000003) (h : execResyncComplete t s = .next sn) :
    Same K B (s.advance t) sn := by
  have hk := Same.refl K B (s.advance t)
  unfold execResyncComplete at h
  cases h
  repeat' first
    | with_reducible assumption
    | with_reducible rfl
    | exact mask_sub hK rfl
    | exact le_objAt (Nat.le_trans hB (by decide))
    | exact Nat.le_trans hB (by decide)
    | exact Nat.le_trans hB (by split <;> decide)
    | with_reducible apply State.resyncComplete_same
    | dsimp only
    | split
    | intro _

theorem execTandemRecordSend_same {K B : Nat} (t : Tick) (s : State) {sn : State}
    (hK : K &&& 8590065664 = 0) (h : execTandemRecordSend t s = .next sn) :
    Same K B (s.advance t) sn := by
  have hk := Same.refl K B (s.advance t)
  unfold execTandemRecordSend at h
  cases h
  repeat' first
    | with_reducible assumption
    | with_reducible rfl
    | exact mask_sub hK rfl
    | with_reducible apply State.sendRecord_same
    | dsimp only
    | split
    | intro _

theorem execRingHead_same {K B : Nat} (t : Tick) (port : Nat) (h : RingHead) (s : State) {sn : State}
    (hK : K &&& 17314103808 = 0) (hB : B ≤ 0xa000030) (h : execRingHead t port h s = .next sn) :
    Same K B (s.advance t) sn := by
  have hk := Same.refl K B (s.advance t)
  unfold execRingHead at h
  cases onUnit_next h
  repeat' first
    | with_reducible assumption
    | with_reducible rfl
    | exact mask_sub hK rfl
    | exact le_objAt (Nat.le_trans hB (by decide))
    | exact Nat.le_trans hB (by decide)
    | exact Nat.le_trans hB (by split <;> decide)
    | with_reducible apply State.ringHead_same
    | dsimp only
    | split
    | intro _

theorem execRingMessage_same {K B : Nat} (t : Tick) (port : Nat) (m : RingMsg) (s : State) {sn : State}
    (hK : K &&& 17179886080 = 0) (hB : B ≤ 0xe000010) (h : execRingMessage t port m s = .next sn) :
    Same K B (s.advance t) sn := by
  have hk := Same.refl K B (s.advance t)
  unfold execRingMessage at h
  cases onUnit_next h
  repeat' first
    | with_reducible assumption
    | with_reducible rfl
    | exact mask_sub hK rfl
    | exact le_objAt (Nat.le_trans hB (by decide))
    | exact Nat.le_trans hB (by decide)
    | exact Nat.le_trans hB (by split <;> decide)
    | with_reducible apply State.ringMsg_same
    | dsimp only
    | split
    | intro _

theorem execRingHeadSend_same {K B : Nat} (t : Tick) (s : State) {sn : State}
    (hK : K &&& 17179869184 = 0) (h : execRingHeadSend t s = .next sn) :
    Same K B (s.advance t) sn := by
  have hk := Same.refl K B (s.advance t)
  unfold execRingHeadSend at h
  cases h
  repeat' first
    | with_reducible assumption
    | with_reducible rfl
    | exact mask_sub hK rfl
    | with_reducible apply State.headSend_same
    | dsimp only
    | split
    | intro _

theorem execRingWindowSend_same {K B : Nat} (t : Tick) (window : Nat) (s : State) {sn : State}
    (hK : K &&& 17179869184 = 0) (h : execRingWindowSend t window s = .next sn) :
    Same K B (s.advance t) sn := by
  have hk := Same.refl K B (s.advance t)
  unfold execRingWindowSend at h
  cases onUnit_next h
  repeat' first
    | with_reducible assumption
    | with_reducible rfl
    | exact mask_sub hK rfl
    | with_reducible apply State.windowSend_same
    | dsimp only
    | split
    | intro _

theorem execSeatAbsence_same {K B : Nat} (t : Tick) (seat : Nat) (s : State) {sn : State}
    (hK : K &&& 17179886080 = 0) (hB : B ≤ 0xe000010) (h : execSeatAbsence t seat s = .next sn) :
    Same K B (s.advance t) sn := by
  have hk := Same.refl K B (s.advance t)
  unfold execSeatAbsence at h
  cases onUnit_next h
  repeat' first
    | with_reducible assumption
    | with_reducible rfl
    | exact mask_sub hK rfl
    | exact le_objAt (Nat.le_trans hB (by decide))
    | exact Nat.le_trans hB (by decide)
    | exact Nat.le_trans hB (by split <;> decide)
    | with_reducible apply State.seatAbsent_same
    | dsimp only
    | split
    | intro _

theorem execRosterRemoval_same {K B : Nat} (t : Tick) (seat : Nat) (s : State) {sn : State}
    (hK : K &&& 17179869696 = 0) (hB : B ≤ 0xe000012) (h : execRosterRemoval t seat s = .next sn) :
    Same K B (s.advance t) sn := by
  have hk := Same.refl K B (s.advance t)
  unfold execRosterRemoval at h
  cases onUnit_next h
  repeat' first
    | with_reducible assumption
    | with_reducible rfl
    | exact mask_sub hK rfl
    | exact le_objAt (Nat.le_trans hB (by decide))
    | exact Nat.le_trans hB (by decide)
    | exact Nat.le_trans hB (by split <;> decide)
    | with_reducible apply State.rosterRemove_same
    | dsimp only
    | split
    | intro _

theorem execEpochAdoption_same {K B : Nat} (t : Tick) (s : State) {sn : State}
    (hK : K &&& 17179886080 = 0) (hB : B ≤ 0xe000010) (h : execEpochAdoption t s = .next sn) :
    Same K B (s.advance t) sn := by
  have hk := Same.refl K B (s.advance t)
  unfold execEpochAdoption at h
  cases h
  repeat' first
    | with_reducible assumption
    | with_reducible rfl
    | exact mask_sub hK rfl
    | exact le_objAt (Nat.le_trans hB (by decide))
    | exact Nat.le_trans hB (by decide)
    | exact Nat.le_trans hB (by split <;> decide)
    | with_reducible apply State.epochAdopt_same
    | dsimp only
    | split
    | intro _

theorem execGxGoDecision_same {K B : Nat} (t : Tick) (s : State) {sn : State}
    (hK : K &&& 17179869184 = 0) (h : execGxGoDecision t s = .next sn) :
    Same K B (s.advance t) sn := by
  have hk := Same.refl K B (s.advance t)
  unfold execGxGoDecision at h
  cases h
  repeat' first
    | with_reducible assumption
    | with_reducible rfl
    | exact mask_sub hK rfl
    | with_reducible apply State.gxDecide_same
    | dsimp only
    | split
    | intro _

theorem execTimeErrorUnknown_same {K B : Nat} (t : Tick) (s : State) {sn : State}
    (hK : K &&& 17179886080 = 0) (hB : B ≤ 0xe000010) (h : execTimeErrorUnknown t s = .next sn) :
    Same K B (s.advance t) sn := by
  have hk := Same.refl K B (s.advance t)
  unfold execTimeErrorUnknown at h
  cases h
  repeat' first
    | with_reducible assumption
    | with_reducible rfl
    | exact mask_sub hK rfl
    | exact le_objAt (Nat.le_trans hB (by decide))
    | exact Nat.le_trans hB (by decide)
    | exact Nat.le_trans hB (by split <;> decide)
    | with_reducible apply State.timeErrorLost_same
    | dsimp only
    | split
    | intro _

theorem execUnmute_same {K B : Nat} (t : Tick) (s : State) {sn : State}
    (hK : K &&& 17179886080 = 0) (hB : B ≤ 0xe000010) (h : execUnmute t s = .next sn) :
    Same K B (s.advance t) sn := by
  have hk := Same.refl K B (s.advance t)
  unfold execUnmute at h
  cases h
  repeat' first
    | with_reducible assumption
    | with_reducible rfl
    | exact mask_sub hK rfl
    | exact le_objAt (Nat.le_trans hB (by decide))
    | exact Nat.le_trans hB (by decide)
    | exact Nat.le_trans hB (by split <;> decide)
    | with_reducible apply State.unmute_same
    | dsimp only
    | split
    | intro _

theorem execLinkDown_same {K B : Nat} (t : Tick) (m : Nat) (s : State) {sn : State}
    (hK : K &&& 2199023273472 = 0) (hB : B ≤ 0x11f00020) (h : execLinkDown t m s = .next sn) :
    Same K B (s.advance t) sn := by
  have hk := Same.refl K B (s.advance t)
  unfold execLinkDown at h
  cases onUnit_next h
  repeat' first
    | with_reducible assumption
    | with_reducible rfl
    | exact mask_sub hK rfl
    | exact le_objAt (Nat.le_trans hB (by decide))
    | exact Nat.le_trans hB (by decide)
    | exact Nat.le_trans hB (by split <;> decide)
    | with_reducible apply State.linkFall_same
    | dsimp only
    | split
    | intro _

theorem execLinkUp_same {K B : Nat} (t : Tick) (m : Nat) (speed : Nat) (s : State) {sn : State}
    (hK : K &&& 512 = 0) (hB : B ≤ 0x12000001) (h : execLinkUp t m speed s = .next sn) :
    Same K B (s.advance t) sn := by
  have hk := Same.refl K B (s.advance t)
  unfold execLinkUp at h
  cases onUnit_next h
  repeat' first
    | with_reducible assumption
    | with_reducible rfl
    | exact mask_sub hK rfl
    | exact le_objAt (Nat.le_trans hB (by decide))
    | exact Nat.le_trans hB (by decide)
    | exact Nat.le_trans hB (by split <;> decide)
    | with_reducible apply State.linkRise_same
    | dsimp only
    | split
    | intro _

theorem execPauseExpiry_same {K B : Nat} (t : Tick) (m : Nat) (s : State) {sn : State}
    (hK : K &&& 2199023256064 = 0) (hB : B ≤ 0x12000001) (h : execPauseExpiry t m s = .next sn) :
    Same K B (s.advance t) sn := by
  have hk := Same.refl K B (s.advance t)
  unfold execPauseExpiry at h
  cases onUnit_next h
  repeat' first
    | with_reducible assumption
    | with_reducible rfl
    | exact mask_sub hK rfl
    | exact le_objAt (Nat.le_trans hB (by decide))
    | exact Nat.le_trans hB (by decide)
    | exact Nat.le_trans hB (by split <;> decide)
    | with_reducible apply State.pauseExpire_same
    | dsimp only
    | split
    | intro _

theorem execPauseWdExpiry_same {K B : Nat} (t : Tick) (m : Nat) (s : State) {sn : State}
    (hK : K &&& 2199023273472 = 0) (hB : B ≤ 0x11f00020) (h : execPauseWdExpiry t m s = .next sn) :
    Same K B (s.advance t) sn := by
  have hk := Same.refl K B (s.advance t)
  unfold execPauseWdExpiry at h
  cases onUnit_next h
  repeat' first
    | with_reducible assumption
    | with_reducible rfl
    | exact mask_sub hK rfl
    | exact le_objAt (Nat.le_trans hB (by decide))
    | exact Nat.le_trans hB (by decide)
    | exact Nat.le_trans hB (by split <;> decide)
    | with_reducible apply State.pauseWd_same
    | dsimp only
    | split
    | intro _

theorem execPauseIgnoredClear_same {K B : Nat} (t : Tick) (m : Nat) (s : State) {sn : State}
    (hK : K &&& 512 = 0) (hB : B ≤ 0x12000001) (h : execPauseIgnoredClear t m s = .next sn) :
    Same K B (s.advance t) sn := by
  have hk := Same.refl K B (s.advance t)
  unfold execPauseIgnoredClear at h
  cases onUnit_next h
  repeat' first
    | with_reducible assumption
    | with_reducible rfl
    | exact mask_sub hK rfl
    | exact le_objAt (Nat.le_trans hB (by decide))
    | exact Nat.le_trans hB (by decide)
    | exact Nat.le_trans hB (by split <;> decide)
    | with_reducible apply State.pauseClear_same
    | dsimp only
    | split
    | intro _

theorem execPauseRepeat_same {K B : Nat} (t : Tick) (m : Nat) (s : State) {sn : State}
    (hK : K &&& 2199023255552 = 0) (h : execPauseRepeat t m s = .next sn) :
    Same K B (s.advance t) sn := by
  have hk := Same.refl K B (s.advance t)
  unfold execPauseRepeat at h
  cases onUnit_next h
  repeat' first
    | with_reducible assumption
    | with_reducible rfl
    | exact mask_sub hK rfl
    | with_reducible apply State.pauseAgain_same
    | dsimp only
    | split
    | intro _

theorem execMacTransmitStart_same {K B : Nat} (t : Tick) (m : Nat) (s : State) {sn : State}
    (hK : K &&& 2199023273472 = 0) (hB : B ≤ 0x11f00020) (h : execMacTransmitStart t m s = .next sn) :
    Same K B (s.advance t) sn := by
  have hk := Same.refl K B (s.advance t)
  unfold execMacTransmitStart at h
  cases onUnit_next h
  repeat' first
    | with_reducible assumption
    | with_reducible rfl
    | exact mask_sub hK rfl
    | exact le_objAt (Nat.le_trans hB (by decide))
    | exact Nat.le_trans hB (by decide)
    | exact Nat.le_trans hB (by split <;> decide)
    | with_reducible apply State.transmit_same
    | dsimp only
    | split
    | intro _

theorem execSessionIdleExpiry_same {K B : Nat} (t : Tick) (n : Nat) (s : State) {sn : State}
    (hK : K &&& 3858944 = 0) (hB : B ≤ 0xe000022) (h : execSessionIdleExpiry t n s = .next sn) :
    Same K B (s.advance t) sn := by
  have hk := Same.refl K B (s.advance t)
  unfold execSessionIdleExpiry at h
  cases onUnit_next h
  repeat' first
    | with_reducible assumption
    | with_reducible rfl
    | exact mask_sub hK rfl
    | exact le_objAt (Nat.le_trans hB (by decide))
    | exact Nat.le_trans hB (by decide)
    | exact Nat.le_trans hB (by split <;> decide)
    | with_reducible apply State.sessionIdle_same
    | dsimp only
    | split
    | intro _

theorem execSeqHoldTimeout_same {K B : Nat} (t : Tick) (n : Nat) (seq : Nat) (s : State) {sn : State}
    (hK : K &&& 16896 = 0) (hB : B ≤ 0x11f00032) (h : execSeqHoldTimeout t n seq s = .next sn) :
    Same K B (s.advance t) sn := by
  have hk := Same.refl K B (s.advance t)
  unfold execSeqHoldTimeout at h
  cases onUnit_next h
  repeat' first
    | with_reducible assumption
    | with_reducible rfl
    | exact mask_sub hK rfl
    | exact le_objAt (Nat.le_trans hB (by decide))
    | exact Nat.le_trans hB (by decide)
    | exact Nat.le_trans hB (by split <;> decide)
    | with_reducible apply State.seqHold_same
    | dsimp only
    | split
    | intro _

theorem execEventSend_same {K B : Nat} (t : Tick) (n : Nat) (s : State) {sn : State}
    (hK : K &&& 2233395242496 = 0) (hB : B ≤ 0xe000022) (h : execEventSend t n s = .next sn) :
    Same K B (s.advance t) sn := by
  have hk := Same.refl K B (s.advance t)
  unfold execEventSend at h
  cases onUnit_next h
  repeat' first
    | with_reducible assumption
    | with_reducible rfl
    | exact mask_sub hK rfl
    | exact le_objAt (Nat.le_trans hB (by decide))
    | exact Nat.le_trans hB (by decide)
    | exact Nat.le_trans hB (by split <;> decide)
    | with_reducible apply State.eventSend_same
    | dsimp only
    | split
    | intro _

theorem execEventRetransmit_same {K B : Nat} (t : Tick) (n : Nat) (seq : Nat) (s : State) {sn : State}
    (hK : K &&& 2233391400448 = 0) (hB : B ≤ 0xf000003) (h : execEventRetransmit t n seq s = .next sn) :
    Same K B (s.advance t) sn := by
  have hk := Same.refl K B (s.advance t)
  unfold execEventRetransmit at h
  cases onUnit_next h
  repeat' first
    | with_reducible assumption
    | with_reducible rfl
    | exact mask_sub hK rfl
    | exact le_objAt (Nat.le_trans hB (by decide))
    | exact Nat.le_trans hB (by decide)
    | exact Nat.le_trans hB (by split <;> decide)
    | with_reducible apply State.eventAgain_same
    | dsimp only
    | split
    | intro _

theorem execBankClearComplete_same {K B : Nat} (t : Tick) (b : Nat) (s : State) {sn : State}
    (hK : K &&& 512 = 0) (hB : B ≤ 0x14000001) (h : execBankClearComplete t b s = .next sn) :
    Same K B (s.advance t) sn := by
  have hk := Same.refl K B (s.advance t)
  unfold execBankClearComplete at h
  cases onUnit_next h
  repeat' first
    | with_reducible assumption
    | with_reducible rfl
    | exact mask_sub hK rfl
    | exact le_objAt (Nat.le_trans hB (by decide))
    | exact Nat.le_trans hB (by decide)
    | exact Nat.le_trans hB (by split <;> decide)
    | with_reducible apply State.bankCleared_same
    | dsimp only
    | split
    | intro _

theorem execScrubPeriodEnd_same {K B : Nat} (t : Tick) (allReached : Bool) (s : State) {sn : State}
    (hK : K &&& 2251799813702144 = 0) (hB : B ≤ 0x11f00020) (h : execScrubPeriodEnd t allReached s = .next sn) :
    Same K B (s.advance t) sn := by
  have hk := Same.refl K B (s.advance t)
  unfold execScrubPeriodEnd at h
  cases h
  repeat' first
    | with_reducible assumption
    | with_reducible rfl
    | exact mask_sub hK rfl
    | exact le_objAt (Nat.le_trans hB (by decide))
    | exact Nat.le_trans hB (by decide)
    | exact Nat.le_trans hB (by split <;> decide)
    | with_reducible apply State.scrubEnd_same
    | dsimp only
    | split
    | intro _

theorem execPcCounterWrap_same {K B : Nat} (t : Tick) (e : Nat) (k : Nat) (s : State) {sn : State}
    (hK : K &&& 18176 = 0) (hB : B ≤ 0x11f00020) (h : execPcCounterWrap t e k s = .next sn) :
    Same K B (s.advance t) sn := by
  have hk := Same.refl K B (s.advance t)
  unfold execPcCounterWrap at h
  cases onUnit_next h
  repeat' first
    | with_reducible assumption
    | with_reducible rfl
    | exact mask_sub hK rfl
    | exact le_objAt (Nat.le_trans hB (by decide))
    | exact Nat.le_trans hB (by decide)
    | exact Nat.le_trans hB (by split <;> decide)
    | with_reducible apply State.pcWrap_same
    | dsimp only
    | split
    | intro _

theorem execPcThresholdReached_same {K B : Nat} (t : Tick) (e : Nat) (k : Nat) (s : State) {sn : State}
    (hK : K &&& 18176 = 0) (hB : B ≤ 0x11f00020) (h : execPcThresholdReached t e k s = .next sn) :
    Same K B (s.advance t) sn := by
  have hk := Same.refl K B (s.advance t)
  unfold execPcThresholdReached at h
  cases onUnit_next h
  repeat' first
    | with_reducible assumption
    | with_reducible rfl
    | exact mask_sub hK rfl
    | exact le_objAt (Nat.le_trans hB (by decide))
    | exact Nat.le_trans hB (by decide)
    | exact Nat.le_trans hB (by split <;> decide)
    | with_reducible apply State.pcReached_same
    | dsimp only
    | split
    | intro _

theorem execCvuRunComplete_same {K B : Nat} (t : Tick) (u : Nat) (uncorr : Bool) (s : State) {sn : State}
    (hK : K &&& 4503599627371264 = 0) (hB : B ≤ 0x15200001) (h : execCvuRunComplete t u uncorr s = .next sn) :
    Same K B (s.advance t) sn := by
  have hk := Same.refl K B (s.advance t)
  unfold execCvuRunComplete at h
  cases onUnit_next h
  repeat' first
    | with_reducible assumption
    | with_reducible rfl
    | exact mask_sub hK rfl
    | exact le_objAt (Nat.le_trans hB (by decide))
    | exact Nat.le_trans hB (by decide)
    | exact Nat.le_trans hB (by split <;> decide)
    | with_reducible apply State.cvuDone_same
    | dsimp only
    | split
    | intro _

theorem execFatalRecordWritten_same {K B : Nat} (t : Tick) (s : State) {sn : State}
    (hK : K &&& 4398046511104 = 0) (h : execFatalRecordWritten t s = .next sn) :
    Same K B (s.advance t) sn := by
  have hk := Same.refl K B (s.advance t)
  unfold execFatalRecordWritten at h
  cases h
  repeat' first
    | with_reducible assumption
    | with_reducible rfl
    | exact mask_sub hK rfl
    | with_reducible apply State.fatalWritten_same
    | dsimp only
    | split
    | intro _

theorem execEgressFrameRelease_same {K B : Nat} (t : Tick) (lane : Nat) (fn : Nat) (s : State) {sn : State}
    (hK : K &&& 63050714758283008 = 0) (hB : B ≤ 0) (h : execEgressFrameRelease t lane fn s = .next sn) :
    Same K B (s.advance t) sn := by
  have hk := Same.refl K B (s.advance t)
  unfold execEgressFrameRelease at h
  cases onUnit_next h
  repeat' first
    | with_reducible assumption
    | with_reducible rfl
    | exact mask_sub hK rfl
    | exact Nat.le_trans hB (Nat.zero_le _)
    | with_reducible apply State.egressRelease_same
    | dsimp only
    | split
    | intro _

theorem execEgressFrameComplete_same {K B : Nat} (t : Tick) (lane : Nat) (fn : Nat) (s : State) {sn : State}
    (hK : K &&& 63050714758283008 = 0) (hB : B ≤ 0) (h : execEgressFrameComplete t lane fn s = .next sn) :
    Same K B (s.advance t) sn := by
  have hk := Same.refl K B (s.advance t)
  unfold execEgressFrameComplete at h
  cases onUnit_next h
  repeat' first
    | with_reducible assumption
    | with_reducible rfl
    | exact mask_sub hK rfl
    | exact Nat.le_trans hB (Nat.zero_le _)
    | with_reducible apply State.egressComplete_same
    | dsimp only
    | split
    | intro _

theorem execRailTelemetryRead_same {K B : Nat} (t : Tick) (readings : List (Nat × Nat × Nat)) (s : State) {sn : State}
    (hK : K &&& 512 = 0) (hB : B ≤ 0x16000010) (h : execRailTelemetryRead t readings s = .next sn) :
    Same K B (s.advance t) sn := by
  have hk := Same.refl K B (s.advance t)
  unfold execRailTelemetryRead at h
  cases onUnit_next h
  repeat' first
    | with_reducible assumption
    | with_reducible rfl
    | exact mask_sub hK rfl
    | exact le_objAt (Nat.le_trans hB (by decide))
    | exact Nat.le_trans hB (by decide)
    | exact Nat.le_trans hB (by split <;> decide)
    | with_reducible apply State.railRead_same
    | dsimp only
    | split
    | intro _

theorem execTempSample_same {K B : Nat} (t : Tick) (temps : List Int) (s : State) {sn : State}
    (hK : K &&& 9076262198507264 = 0) (hB : B ≤ 0x2000002) (h : execTempSample t temps s = .next sn) :
    Same K B (s.advance t) sn := by
  have hk := Same.refl K B (s.advance t)
  unfold execTempSample at h
  cases onUnit_next h
  repeat' first
    | with_reducible assumption
    | with_reducible rfl
    | exact mask_sub hK rfl
    | exact le_objAt (Nat.le_trans hB (by decide))
    | exact Nat.le_trans hB (by decide)
    | exact Nat.le_trans hB (by split <;> decide)
    | with_reducible apply State.tempSample_same
    | dsimp only
    | split
    | intro _

theorem execFwVerifyComplete_same {K B : Nat} (t : Tick) (flashOk : Bool) (s : State) {sn : State}
    (hK : K &&& 144115188075872768 = 0) (hB : B ≤ 0x11f00020) (h : execFwVerifyComplete t flashOk s = .next sn) :
    Same K B (s.advance t) sn := by
  have hk := Same.refl K B (s.advance t)
  unfold execFwVerifyComplete at h
  cases h
  repeat' first
    | with_reducible assumption
    | with_reducible rfl
    | exact mask_sub hK rfl
    | exact le_objAt (Nat.le_trans hB (by decide))
    | exact Nat.le_trans hB (by decide)
    | exact Nat.le_trans hB (by split <;> decide)
    | with_reducible apply State.fwVerified_same
    | dsimp only
    | split
    | intro _

theorem execWipeComplete_same {K B : Nat} (t : Tick) (s : State) {sn : State}
    (hK : K &&& 144115188612743680 = 0) (hB : B ≤ 0x1000000) (h : execWipeComplete t s = .next sn) :
    Same K B (s.advance t) sn := by
  have hk := Same.refl K B (s.advance t)
  unfold execWipeComplete at h
  cases h
  repeat' first
    | with_reducible assumption
    | with_reducible rfl
    | exact mask_sub hK rfl
    | exact le_objAt (Nat.le_trans hB (by decide))
    | exact Nat.le_trans hB (by decide)
    | exact Nat.le_trans hB (by split <;> decide)
    | with_reducible apply State.wipeDone_same
    | dsimp only
    | split
    | intro _

theorem execTamperEvent_same {K B : Nat} (t : Tick) (input : Nat) (level : Bool) (s : State) {sn : State}
    (hK : K &&& 144115197202682368 = 0) (hB : B ≤ 0xb100010) (h : execTamperEvent t input level s = .next sn) :
    Same K B (s.advance t) sn := by
  have hk := Same.refl K B (s.advance t)
  unfold execTamperEvent at h
  cases onUnit_next h
  repeat' first
    | with_reducible assumption
    | with_reducible rfl
    | exact mask_sub hK rfl
    | exact le_objAt (Nat.le_trans hB (by decide))
    | exact Nat.le_trans hB (by decide)
    | exact Nat.le_trans hB (by split <;> decide)
    | with_reducible apply State.tamper_same
    | dsimp only
    | split
    | intro _

theorem execUpinChangeEffect_same {K B : Nat} (t : Tick) (pin : Nat) (s : State) {sn : State}
    (hK : K &&& 288230376151712256 = 0) (hB : B ≤ 0x18000001) (h : execUpinChangeEffect t pin s = .next sn) :
    Same K B (s.advance t) sn := by
  have hk := Same.refl K B (s.advance t)
  unfold execUpinChangeEffect at h
  cases onUnit_next h
  repeat' first
    | with_reducible assumption
    | with_reducible rfl
    | exact mask_sub hK rfl
    | exact le_objAt (Nat.le_trans hB (by decide))
    | exact Nat.le_trans hB (by decide)
    | exact Nat.le_trans hB (by split <;> decide)
    | with_reducible apply State.pinEffect_same
    | dsimp only
    | split
    | intro _

theorem execParkEnd_same {K B : Nat} (t : Tick) (pin : Nat) (s : State) {sn : State}
    (hK : K &&& 288230376151712256 = 0) (hB : B ≤ 0x18000001) (h : execParkEnd t pin s = .next sn) :
    Same K B (s.advance t) sn := by
  have hk := Same.refl K B (s.advance t)
  unfold execParkEnd at h
  cases onUnit_next h
  repeat' first
    | with_reducible assumption
    | with_reducible rfl
    | exact mask_sub hK rfl
    | exact le_objAt (Nat.le_trans hB (by decide))
    | exact Nat.le_trans hB (by decide)
    | exact Nat.le_trans hB (by split <;> decide)
    | with_reducible apply State.parkEnd_same
    | dsimp only
    | split
    | intro _

theorem execDccClockLoss_same {K B : Nat} (t : Tick) (pair : Nat) (s : State) {sn : State}
    (hK : K &&& 576390383559245592 = 0) (hB : B ≤ 0) (h : execDccClockLoss t pair s = .next sn) :
    Same K B (s.advance t) sn := by
  have hk := Same.refl K B (s.advance t)
  unfold execDccClockLoss at h
  cases onUnit_next h
  repeat' first
    | with_reducible assumption
    | with_reducible rfl
    | exact mask_sub hK rfl
    | exact Nat.le_trans hB (Nat.zero_le _)
    | with_reducible apply State.dccClockLost_same
    | dsimp only
    | split
    | intro _

theorem execFaultRaise_same {K B : Nat} (t : Tick) (f : FaultIn) (s : State) {sn : State}
    (hK : K &&& 576390383559245592 = 0) (hB : B ≤ 0) (h : execFaultRaise t f s = .next sn) :
    Same K B (s.advance t) sn := by
  have hk := Same.refl K B (s.advance t)
  unfold execFaultRaise at h
  cases onUnit_next h
  repeat' first
    | with_reducible assumption
    | with_reducible rfl
    | exact mask_sub hK rfl
    | exact Nat.le_trans hB (Nat.zero_le _)
    | with_reducible apply State.faultIn_same
    | dsimp only
    | split
    | intro _

theorem execFatalFault_same {K B : Nat} (t : Tick) (f : FaultIn) (s : State) {sn : State}
    (hK : K &&& 576390383559245592 = 0) (hB : B ≤ 0) (h : execFatalFault t f s = .next sn) :
    Same K B (s.advance t) sn := by
  have hk := Same.refl K B (s.advance t)
  unfold execFatalFault at h
  cases onUnit_next h
  repeat' first
    | with_reducible assumption
    | with_reducible rfl
    | exact mask_sub hK rfl
    | exact Nat.le_trans hB (Nat.zero_le _)
    | with_reducible apply State.fatalIn_same
    | dsimp only
    | split
    | intro _

theorem execReinitComplete_same {K B : Nat} (t : Tick) (sub : Nat) (inst : Nat) (s : State) {sn : State}
    (hK : K &&& 576390383559245592 = 0) (hB : B ≤ 0) (h : execReinitComplete t sub inst s = .next sn) :
    Same K B (s.advance t) sn := by
  have hk := Same.refl K B (s.advance t)
  unfold execReinitComplete at h
  cases onUnit_next h
  repeat' first
    | with_reducible assumption
    | with_reducible rfl
    | exact mask_sub hK rfl
    | exact Nat.le_trans hB (Nat.zero_le _)
    | with_reducible apply State.reinitDone_same
    | with_reducible apply State.settleReset_same
    | dsimp only
    | split
    | intro _

theorem execReinitTimeout_same {K B : Nat} (t : Tick) (sub : Nat) (inst : Nat) (s : State) {sn : State}
    (hK : K &&& 576390383559245592 = 0) (hB : B ≤ 0) (h : execReinitTimeout t sub inst s = .next sn) :
    Same K B (s.advance t) sn := by
  have hk := Same.refl K B (s.advance t)
  unfold execReinitTimeout at h
  cases onUnit_next h
  repeat' first
    | with_reducible assumption
    | with_reducible rfl
    | exact mask_sub hK rfl
    | exact Nat.le_trans hB (Nat.zero_le _)
    | with_reducible apply State.reinitLate_same
    | with_reducible apply State.settleReset_same
    | dsimp only
    | split
    | intro _

theorem execEntropyFail_same {K B : Nat} (t : Tick) (s : State) {sn : State}
    (hK : K &&& 576390383559245592 = 0) (hB : B ≤ 0) (h : execEntropyFail t s = .next sn) :
    Same K B (s.advance t) sn := by
  have hk := Same.refl K B (s.advance t)
  unfold execEntropyFail at h
  cases h
  repeat' first
    | with_reducible assumption
    | with_reducible rfl
    | exact mask_sub hK rfl
    | exact Nat.le_trans hB (Nat.zero_le _)
    | with_reducible apply State.entropyFails_same
    | with_reducible apply State.faultIn_same
    | dsimp only
    | split
    | intro _

theorem execVddAonGood_same {K B : Nat} (t : Tick) (straps : Straps) (flash : Option (List Image)) (s : State) {sn : State}
    (hK : K &&& 144115188075855920 = 0) (h : execVddAonGood t straps flash s = .next sn) :
    Same K B (s.advance t) sn := by
  have hk := Same.refl K B (s.advance t)
  unfold execVddAonGood at h
  cases h
  repeat' first
    | with_reducible assumption
    | with_reducible rfl
    | exact mask_sub hK rfl
    | with_reducible apply State.aonGood_same
    | dsimp only
    | split
    | intro _

theorem execRailInRange_same {K B : Nat} (t : Tick) (rail : Nat) (s : State) {sn : State}
    (hK : K &&& 656 = 0) (hB : B ≤ 0x1) (h : execRailInRange t rail s = .next sn) :
    Same K B (s.advance t) sn := by
  have hk := Same.refl K B (s.advance t)
  unfold execRailInRange at h
  cases onUnit_next h
  repeat' first
    | with_reducible assumption
    | with_reducible rfl
    | exact mask_sub hK rfl
    | exact le_objAt (Nat.le_trans hB (by decide))
    | exact Nat.le_trans hB (by decide)
    | exact Nat.le_trans hB (by split <;> decide)
    | with_reducible apply State.railGood_same
    | dsimp only
    | split
    | intro _

theorem execRailTimeout_same {K B : Nat} (t : Tick) (rail : Nat) (s : State) {sn : State}
    (hK : K &&& 4407173337752 = 0) (hB : B ≤ 0xb100010) (h : execRailTimeout t rail s = .next sn) :
    Same K B (s.advance t) sn := by
  have hk := Same.refl K B (s.advance t)
  unfold execRailTimeout at h
  cases onUnit_next h
  repeat' first
    | with_reducible assumption
    | with_reducible rfl
    | exact mask_sub hK rfl
    | exact le_objAt (Nat.le_trans hB (by decide))
    | exact Nat.le_trans hB (by decide)
    | exact Nat.le_trans hB (by split <;> decide)
    | with_reducible apply State.railLate_same
    | dsimp only
    | split
    | intro _

theorem execFlywheelAbsent_same {K B : Nat} (t : Tick) (s : State) {sn : State}
    (hK : K &&& 9076262198507416 = 0) (hB : B ≤ 0x2000002) (h : execFlywheelAbsent t s = .next sn) :
    Same K B (s.advance t) sn := by
  have hk := Same.refl K B (s.advance t)
  unfold execFlywheelAbsent at h
  cases h
  repeat' first
    | with_reducible assumption
    | with_reducible rfl
    | exact mask_sub hK rfl
    | exact le_objAt (Nat.le_trans hB (by decide))
    | exact Nat.le_trans hB (by decide)
    | exact Nat.le_trans hB (by split <;> decide)
    | with_reducible apply State.noFlywheel_same
    | dsimp only
    | split
    | intro _

theorem execTempoStart_same {K B : Nat} (t : Tick) (s : State) {sn : State}
    (hK : K &&& 281474976710684 = 0) (h : execTempoStart t s = .next sn) :
    Same K B (s.advance t) sn := by
  have hk := Same.refl K B (s.advance t)
  unfold execTempoStart at h
  cases h
  repeat' first
    | with_reducible assumption
    | with_reducible rfl
    | exact mask_sub hK rfl
    | with_reducible apply State.tempoStarts_same
    | dsimp only
    | split
    | intro _

theorem execVaultReady_same {K B : Nat} (t : Tick) (s : State) {sn : State}
    (hK : K &&& 144115188075872784 = 0) (hB : B ≤ 0x11f00020) (h : execVaultReady t s = .next sn) :
    Same K B (s.advance t) sn := by
  have hk := Same.refl K B (s.advance t)
  unfold execVaultReady at h
  cases h
  repeat' first
    | with_reducible assumption
    | with_reducible rfl
    | exact mask_sub hK rfl
    | exact le_objAt (Nat.le_trans hB (by decide))
    | exact Nat.le_trans hB (by decide)
    | exact Nat.le_trans hB (by split <;> decide)
    | with_reducible apply State.vaultReady_same
    | dsimp only
    | split
    | intro _

theorem execSlotVerified_same {K B : Nat} (t : Tick) (s : State) {sn : State}
    (hK : K &&& 3858960 = 0) (hB : B ≤ 0xe000022) (h : execSlotVerified t s = .next sn) :
    Same K B (s.advance t) sn := by
  have hk := Same.refl K B (s.advance t)
  unfold execSlotVerified at h
  cases h
  repeat' first
    | with_reducible assumption
    | with_reducible rfl
    | exact mask_sub hK rfl
    | exact le_objAt (Nat.le_trans hB (by decide))
    | exact Nat.le_trans hB (by decide)
    | exact Nat.le_trans hB (by split <;> decide)
    | with_reducible apply State.slotVerified_same
    | dsimp only
    | split
    | intro _

theorem execEnginesLoaded_same {K B : Nat} (t : Tick) (s : State) {sn : State}
    (hK : K &&& 2352954883441168 = 0) (hB : B ≤ 0x13000000) (h : execEnginesLoaded t s = .next sn) :
    Same K B (s.advance t) sn := by
  have hk := Same.refl K B (s.advance t)
  unfold execEnginesLoaded at h
  cases h
  repeat' first
    | with_reducible assumption
    | with_reducible rfl
    | exact mask_sub hK rfl
    | exact le_objAt (Nat.le_trans hB (by decide))
    | exact Nat.le_trans hB (by decide)
    | exact Nat.le_trans hB (by split <;> decide)
    | with_reducible apply State.enginesUp_same
    | dsimp only
    | split
    | intro _

theorem execResetNAssert_same {K B : Nat} (t : Tick) (width : Nat) (s : State) {sn : State}
    (hK : K &&& 576460752303423452 = 0) (hB : B ≤ 0) (h : execResetNAssert t width s = .next sn) :
    Same K B (s.advance t) sn := by
  have hk := Same.refl K B (s.advance t)
  unfold execResetNAssert at h
  cases h
  repeat' first
    | with_reducible assumption
    | with_reducible rfl
    | exact mask_sub hK rfl
    | exact Nat.le_trans hB (Nat.zero_le _)
    | with_reducible apply State.resetAssert_same
    | dsimp only
    | split
    | intro _

theorem execResetNRelease_same {K B : Nat} (t : Tick) (s : State) {sn : State}
    (hK : K &&& 592 = 0) (hB : B ≤ 0x1) (h : execResetNRelease t s = .next sn) :
    Same K B (s.advance t) sn := by
  have hk := Same.refl K B (s.advance t)
  unfold execResetNRelease at h
  cases h
  repeat' first
    | with_reducible assumption
    | with_reducible rfl
    | exact mask_sub hK rfl
    | exact le_objAt (Nat.le_trans hB (by decide))
    | exact Nat.le_trans hB (by decide)
    | exact Nat.le_trans hB (by split <;> decide)
    | with_reducible apply State.resetRelease_same
    | dsimp only
    | split
    | intro _

theorem execWakeFrame_same {K B : Nat} (t : Tick) (m : Nat) (f : EthFrame) (s : State) {sn : State}
    (hK : K &&& 576460752303423132 = 0) (hB : B ≤ 0) (h : execWakeFrame t m f s = .next sn) :
    Same K B (s.advance t) sn := by
  have hk := Same.refl K B (s.advance t)
  unfold execWakeFrame at h
  cases onUnit_next h
  repeat' first
    | with_reducible assumption
    | with_reducible rfl
    | exact mask_sub hK rfl
    | exact Nat.le_trans hB (Nat.zero_le _)
    | with_reducible apply State.wakeFrame_same
    | dsimp only
    | split
    | intro _

theorem execPowerCycle_same {K B : Nat} (t : Tick) (s : State) {sn : State}
    (hK : K &&& 576460752303423132 = 0) (hB : B ≤ 0) (h : execPowerCycle t s = .next sn) :
    Same K B (s.advance t) sn := by
  have hk := Same.refl K B (s.advance t)
  unfold execPowerCycle at h
  cases h
  repeat' first
    | with_reducible assumption
    | with_reducible rfl
    | exact mask_sub hK rfl
    | exact Nat.le_trans hB (Nat.zero_le _)
    | with_reducible apply State.blank_same
    | dsimp only
    | split
    | intro _

theorem execVddAonBrownout_same {K B : Nat} (t : Tick) (s : State) {sn : State}
    (hK : K &&& 576460752303423388 = 0) (hB : B ≤ 0) (h : execVddAonBrownout t s = .next sn) :
    Same K B (s.advance t) sn := by
  have hk := Same.refl K B (s.advance t)
  unfold execVddAonBrownout at h
  cases h
  repeat' first
    | with_reducible assumption
    | with_reducible rfl
    | exact mask_sub hK rfl
    | exact Nat.le_trans hB (Nat.zero_le _)
    | with_reducible apply State.brownout_same
    | dsimp only
    | split
    | intro _

theorem execClear_same {K B : Nat} (t : Tick) (n : Nat) (set : CounterSet) (s : State) {sn : State}
    (hK : K &&& 576390383559245592 = 0) (hB : B ≤ 0) (h : execClear t n set s = .next sn) :
    Same K B (s.advance t) sn := by
  have hk := Same.refl K B (s.advance t)
  unfold execClear at h
  cases onUnit_next h
  repeat' first
    | with_reducible assumption
    | with_reducible rfl
    | exact mask_sub hK rfl
    | exact Nat.le_trans hB (Nat.zero_le _)
    | with_reducible apply State.hostOp_same
    | dsimp only
    | split
    | intro _

theorem execSnapshot_same {K B : Nat} (t : Tick) (n : Nat) (set : CounterSet) (s : State) {sn : State}
    (hK : K &&& 576390383559245592 = 0) (hB : B ≤ 0) (h : execSnapshot t n set s = .next sn) :
    Same K B (s.advance t) sn := by
  have hk := Same.refl K B (s.advance t)
  unfold execSnapshot at h
  cases onUnit_next h
  repeat' first
    | with_reducible assumption
    | with_reducible rfl
    | exact mask_sub hK rfl
    | exact Nat.le_trans hB (Nat.zero_le _)
    | with_reducible apply State.hostOp_same
    | dsimp only
    | split
    | intro _

theorem execFreeze_same {K B : Nat} (t : Tick) (n : Nat) (engine : Nat) (on_ : Bool) (s : State) {sn : State}
    (hK : K &&& 576390383559245592 = 0) (hB : B ≤ 0) (h : execFreeze t n engine on_ s = .next sn) :
    Same K B (s.advance t) sn := by
  have hk := Same.refl K B (s.advance t)
  unfold execFreeze at h
  cases onUnit_next h
  repeat' first
    | with_reducible assumption
    | with_reducible rfl
    | exact mask_sub hK rfl
    | exact Nat.le_trans hB (Nat.zero_le _)
    | with_reducible apply State.hostOp_same
    | dsimp only
    | split
    | intro _

theorem execReseed_same {K B : Nat} (t : Tick) (n : Nat) (lane : Nat) (s : State) {sn : State}
    (hK : K &&& 576390383559245592 = 0) (hB : B ≤ 0) (h : execReseed t n lane s = .next sn) :
    Same K B (s.advance t) sn := by
  have hk := Same.refl K B (s.advance t)
  unfold execReseed at h
  cases onUnit_next h
  repeat' first
    | with_reducible assumption
    | with_reducible rfl
    | exact mask_sub hK rfl
    | exact Nat.le_trans hB (Nat.zero_le _)
    | with_reducible apply State.hostOp_same
    | dsimp only
    | split
    | intro _

theorem execInjectBip_same {K B : Nat} (t : Tick) (n : Nat) (lane : Nat) (s : State) {sn : State}
    (hK : K &&& 576390383559245592 = 0) (hB : B ≤ 0) (h : execInjectBip t n lane s = .next sn) :
    Same K B (s.advance t) sn := by
  have hk := Same.refl K B (s.advance t)
  unfold execInjectBip at h
  cases onUnit_next h
  repeat' first
    | with_reducible assumption
    | with_reducible rfl
    | exact mask_sub hK rfl
    | exact Nat.le_trans hB (Nat.zero_le _)
    | with_reducible apply State.woBit_same
    | dsimp only
    | split
    | intro _

theorem execInjectB1_same {K B : Nat} (t : Tick) (n : Nat) (lane : Nat) (s : State) {sn : State}
    (hK : K &&& 576390383559245592 = 0) (hB : B ≤ 0) (h : execInjectB1 t n lane s = .next sn) :
    Same K B (s.advance t) sn := by
  have hk := Same.refl K B (s.advance t)
  unfold execInjectB1 at h
  cases onUnit_next h
  repeat' first
    | with_reducible assumption
    | with_reducible rfl
    | exact mask_sub hK rfl
    | exact Nat.le_trans hB (Nat.zero_le _)
    | with_reducible apply State.hostOp_same
    | dsimp only
    | split
    | intro _

theorem execInjectB2_same {K B : Nat} (t : Tick) (n : Nat) (lane : Nat) (s : State) {sn : State}
    (hK : K &&& 576390383559245592 = 0) (hB : B ≤ 0) (h : execInjectB2 t n lane s = .next sn) :
    Same K B (s.advance t) sn := by
  have hk := Same.refl K B (s.advance t)
  unfold execInjectB2 at h
  cases onUnit_next h
  repeat' first
    | with_reducible assumption
    | with_reducible rfl
    | exact mask_sub hK rfl
    | exact Nat.le_trans hB (Nat.zero_le _)
    | with_reducible apply State.hostOp_same
    | dsimp only
    | split
    | intro _

theorem execErrInject_same {K B : Nat} (t : Tick) (n : Nat) (lane : Nat) (s : State) {sn : State}
    (hK : K &&& 576390383559245592 = 0) (hB : B ≤ 0) (h : execErrInject t n lane s = .next sn) :
    Same K B (s.advance t) sn := by
  have hk := Same.refl K B (s.advance t)
  unfold execErrInject at h
  cases onUnit_next h
  repeat' first
    | with_reducible assumption
    | with_reducible rfl
    | exact mask_sub hK rfl
    | exact Nat.le_trans hB (Nat.zero_le _)
    | with_reducible apply State.woBit_same
    | dsimp only
    | split
    | intro _

theorem execExtWindow_same {K B : Nat} (t : Tick) (n : Nat) (lane : Nat) (c : Nat) (s : State) {sn : State}
    (hK : K &&& 576390383559245592 = 0) (hB : B ≤ 0) (h : execExtWindow t n lane c s = .next sn) :
    Same K B (s.advance t) sn := by
  have hk := Same.refl K B (s.advance t)
  unfold execExtWindow at h
  cases onUnit_next h
  repeat' first
    | with_reducible assumption
    | with_reducible rfl
    | exact mask_sub hK rfl
    | exact Nat.le_trans hB (Nat.zero_le _)
    | with_reducible apply State.hostOp_same
    | dsimp only
    | split
    | intro _

theorem execInsWindow_same {K B : Nat} (t : Tick) (n : Nat) (lane : Nat) (c : Nat) (tag : Word) (data : Word) (s : State) {sn : State}
    (hK : K &&& 576390383559245592 = 0) (hB : B ≤ 0) (h : execInsWindow t n lane c tag data s = .next sn) :
    Same K B (s.advance t) sn := by
  have hk := Same.refl K B (s.advance t)
  unfold execInsWindow at h
  cases onUnit_next h
  repeat' first
    | with_reducible assumption
    | with_reducible rfl
    | exact mask_sub hK rfl
    | exact Nat.le_trans hB (Nat.zero_le _)
    | with_reducible apply State.hostOp_same
    | dsimp only
    | split
    | intro _

theorem execFlushExt_same {K B : Nat} (t : Tick) (n : Nat) (lane : Nat) (c : Nat) (s : State) {sn : State}
    (hK : K &&& 576390383559245592 = 0) (hB : B ≤ 0) (h : execFlushExt t n lane c s = .next sn) :
    Same K B (s.advance t) sn := by
  have hk := Same.refl K B (s.advance t)
  unfold execFlushExt at h
  cases onUnit_next h
  repeat' first
    | with_reducible assumption
    | with_reducible rfl
    | exact mask_sub hK rfl
    | exact Nat.le_trans hB (Nat.zero_le _)
    | with_reducible apply State.hostOp_same
    | dsimp only
    | split
    | intro _

theorem execFlushIns_same {K B : Nat} (t : Tick) (n : Nat) (lane : Nat) (c : Nat) (s : State) {sn : State}
    (hK : K &&& 576390383559245592 = 0) (hB : B ≤ 0) (h : execFlushIns t n lane c s = .next sn) :
    Same K B (s.advance t) sn := by
  have hk := Same.refl K B (s.advance t)
  unfold execFlushIns at h
  cases onUnit_next h
  repeat' first
    | with_reducible assumption
    | with_reducible rfl
    | exact mask_sub hK rfl
    | exact Nat.le_trans hB (Nat.zero_le _)
    | with_reducible apply State.hostOp_same
    | dsimp only
    | split
    | intro _

theorem execTcaLog_same {K B : Nat} (t : Tick) (n : Nat) (s : State) {sn : State}
    (hK : K &&& 576390383559245592 = 0) (hB : B ≤ 0) (h : execTcaLog t n s = .next sn) :
    Same K B (s.advance t) sn := by
  have hk := Same.refl K B (s.advance t)
  unfold execTcaLog at h
  cases onUnit_next h
  repeat' first
    | with_reducible assumption
    | with_reducible rfl
    | exact mask_sub hK rfl
    | exact Nat.le_trans hB (Nat.zero_le _)
    | with_reducible apply State.hostOp_same
    | dsimp only
    | split
    | intro _

theorem execPmReadSel_same {K B : Nat} (t : Tick) (n : Nat) (v : BitVec 64) (s : State) {sn : State}
    (hK : K &&& 576390383559245592 = 0) (hB : B ≤ 0) (h : execPmReadSel t n v s = .next sn) :
    Same K B (s.advance t) sn := by
  have hk := Same.refl K B (s.advance t)
  unfold execPmReadSel at h
  cases onUnit_next h
  repeat' first
    | with_reducible assumption
    | with_reducible rfl
    | exact mask_sub hK rfl
    | exact Nat.le_trans hB (Nat.zero_le _)
    | with_reducible apply State.hostOp_same
    | dsimp only
    | split
    | intro _

theorem execXcWindowStart_same {K B : Nat} (t : Tick) (n : Nat) (g : Word) (s : State) {sn : State}
    (hK : K &&& 576390383559245592 = 0) (hB : B ≤ 0) (h : execXcWindowStart t n g s = .next sn) :
    Same K B (s.advance t) sn := by
  have hk := Same.refl K B (s.advance t)
  unfold execXcWindowStart at h
  cases onUnit_next h
  repeat' first
    | with_reducible assumption
    | with_reducible rfl
    | exact mask_sub hK rfl
    | exact Nat.le_trans hB (Nat.zero_le _)
    | with_reducible apply State.hostOp_same
    | dsimp only
    | split
    | intro _

theorem execHistoryInfo_same {K B : Nat} (t : Tick) (n : Nat) (s : State) {sn : State}
    (hK : K &&& 576390383559245592 = 0) (hB : B ≤ 0) (h : execHistoryInfo t n s = .next sn) :
    Same K B (s.advance t) sn := by
  have hk := Same.refl K B (s.advance t)
  unfold execHistoryInfo at h
  cases onUnit_next h
  repeat' first
    | with_reducible assumption
    | with_reducible rfl
    | exact mask_sub hK rfl
    | exact Nat.le_trans hB (Nat.zero_le _)
    | with_reducible apply State.hostOp_same
    | dsimp only
    | split
    | intro _

theorem execHistoryClear_same {K B : Nat} (t : Tick) (n : Nat) (s : State) {sn : State}
    (hK : K &&& 576390383559245592 = 0) (hB : B ≤ 0) (h : execHistoryClear t n s = .next sn) :
    Same K B (s.advance t) sn := by
  have hk := Same.refl K B (s.advance t)
  unfold execHistoryClear at h
  cases onUnit_next h
  repeat' first
    | with_reducible assumption
    | with_reducible rfl
    | exact mask_sub hK rfl
    | exact Nat.le_trans hB (Nat.zero_le _)
    | with_reducible apply State.hostOp_same
    | dsimp only
    | split
    | intro _

theorem execSoftCw_same {K B : Nat} (t : Tick) (n : Nat) (cw : BitVec 64) (s : State) {sn : State}
    (hK : K &&& 576390383559245592 = 0) (hB : B ≤ 0) (h : execSoftCw t n cw s = .next sn) :
    Same K B (s.advance t) sn := by
  have hk := Same.refl K B (s.advance t)
  unfold execSoftCw at h
  cases onUnit_next h
  repeat' first
    | with_reducible assumption
    | with_reducible rfl
    | exact mask_sub hK rfl
    | exact Nat.le_trans hB (Nat.zero_le _)
    | with_reducible apply State.hostOp_same
    | dsimp only
    | split
    | intro _

theorem execFaultInfo_same {K B : Nat} (t : Tick) (n : Nat) (s : State) {sn : State}
    (hK : K &&& 576390383559245592 = 0) (hB : B ≤ 0) (h : execFaultInfo t n s = .next sn) :
    Same K B (s.advance t) sn := by
  have hk := Same.refl K B (s.advance t)
  unfold execFaultInfo at h
  cases onUnit_next h
  repeat' first
    | with_reducible assumption
    | with_reducible rfl
    | exact mask_sub hK rfl
    | exact Nat.le_trans hB (Nat.zero_le _)
    | with_reducible apply State.hostOp_same
    | dsimp only
    | split
    | intro _

theorem execRcRead_same {K B : Nat} (t : Tick) (n : Nat) (obj : Nat) (s : State) {sn : State}
    (hK : K &&& 576390383559245592 = 0) (hB : B ≤ 0) (h : execRcRead t n obj s = .next sn) :
    Same K B (s.advance t) sn := by
  have hk := Same.refl K B (s.advance t)
  unfold execRcRead at h
  cases onUnit_next h
  repeat' first
    | with_reducible assumption
    | with_reducible rfl
    | exact mask_sub hK rfl
    | exact Nat.le_trans hB (Nat.zero_le _)
    | with_reducible apply State.kindOp_same
    | dsimp only
    | split
    | intro _

theorem execW1cWrite_same {K B : Nat} (t : Tick) (n : Nat) (obj : Nat) (v : Word) (s : State) {sn : State}
    (hK : K &&& 576390383559245592 = 0) (hB : B ≤ 0) (h : execW1cWrite t n obj v s = .next sn) :
    Same K B (s.advance t) sn := by
  have hk := Same.refl K B (s.advance t)
  unfold execW1cWrite at h
  cases onUnit_next h
  repeat' first
    | with_reducible assumption
    | with_reducible rfl
    | exact mask_sub hK rfl
    | exact Nat.le_trans hB (Nat.zero_le _)
    | with_reducible apply State.kindOp_same
    | dsimp only
    | split
    | intro _

theorem execIntEnWrite_same {K B : Nat} (t : Tick) (n : Nat) (obj : Nat) (v : Word) (s : State) {sn : State}
    (hK : K &&& 576390383559245592 = 0) (hB : B ≤ 0) (h : execIntEnWrite t n obj v s = .next sn) :
    Same K B (s.advance t) sn := by
  have hk := Same.refl K B (s.advance t)
  unfold execIntEnWrite at h
  cases onUnit_next h
  repeat' first
    | with_reducible assumption
    | with_reducible rfl
    | exact mask_sub hK rfl
    | exact Nat.le_trans hB (Nat.zero_le _)
    | with_reducible apply State.kindOp_same
    | dsimp only
    | split
    | intro _

theorem execRegisterWrite_same {K B : Nat} (t : Tick) (n : Nat) (obj : Nat) (data : List Word) (s : State) {sn : State}
    (hK : K &&& 576390383559245592 = 0) (hB : B ≤ 0) (h : execRegisterWrite t n obj data s = .next sn) :
    Same K B (s.advance t) sn := by
  have hk := Same.refl K B (s.advance t)
  unfold execRegisterWrite at h
  cases onUnit_next h
  repeat' first
    | with_reducible assumption
    | with_reducible rfl
    | exact mask_sub hK rfl
    | exact Nat.le_trans hB (Nat.zero_le _)
    | with_reducible apply State.hostOp_same
    | dsimp only
    | split
    | intro _

theorem execFollaConfigWrite_same {K B : Nat} (t : Tick) (n : Nat) (v : Word) (s : State) {sn : State}
    (hK : K &&& 576390383559245592 = 0) (hB : B ≤ 0) (h : execFollaConfigWrite t n v s = .next sn) :
    Same K B (s.advance t) sn := by
  have hk := Same.refl K B (s.advance t)
  unfold execFollaConfigWrite at h
  cases onUnit_next h
  repeat' first
    | with_reducible assumption
    | with_reducible rfl
    | exact mask_sub hK rfl
    | exact Nat.le_trans hB (Nat.zero_le _)
    | with_reducible apply State.hostOp_same
    | dsimp only
    | split
    | intro _

theorem execSessionControlClose_same {K B : Nat} (t : Tick) (n : Nat) (target : Nat) (s : State) {sn : State}
    (hK : K &&& 576390383559245592 = 0) (hB : B ≤ 0) (h : execSessionControlClose t n target s = .next sn) :
    Same K B (s.advance t) sn := by
  have hk := Same.refl K B (s.advance t)
  unfold execSessionControlClose at h
  cases onUnit_next h
  repeat' first
    | with_reducible assumption
    | with_reducible rfl
    | exact mask_sub hK rfl
    | exact Nat.le_trans hB (Nat.zero_le _)
    | with_reducible apply State.hostOp_same
    | dsimp only
    | split
    | intro _

theorem execAddrKWrite_same {K B : Nat} (t : Tick) (n : Nat) (m : Nat) (k : Nat) (v : BitVec 64) (s : State) {sn : State}
    (hK : K &&& 576390383559245592 = 0) (hB : B ≤ 0) (h : execAddrKWrite t n m k v s = .next sn) :
    Same K B (s.advance t) sn := by
  have hk := Same.refl K B (s.advance t)
  unfold execAddrKWrite at h
  cases onUnit_next h
  repeat' first
    | with_reducible assumption
    | with_reducible rfl
    | exact mask_sub hK rfl
    | exact Nat.le_trans hB (Nat.zero_le _)
    | with_reducible apply State.hostOp_same
    | dsimp only
    | split
    | intro _

theorem execRelinquish_same {K B : Nat} (t : Tick) (n : Nat) (s : State) {sn : State}
    (hK : K &&& 576390383559245592 = 0) (hB : B ≤ 0) (h : execRelinquish t n s = .next sn) :
    Same K B (s.advance t) sn := by
  have hk := Same.refl K B (s.advance t)
  unfold execRelinquish at h
  cases onUnit_next h
  repeat' first
    | with_reducible assumption
    | with_reducible rfl
    | exact mask_sub hK rfl
    | exact Nat.le_trans hB (Nat.zero_le _)
    | with_reducible apply State.hostOp_same
    | dsimp only
    | split
    | intro _

theorem execTakeoverForce_same {K B : Nat} (t : Tick) (n : Nat) (s : State) {sn : State}
    (hK : K &&& 576390383559245592 = 0) (hB : B ≤ 0) (h : execTakeoverForce t n s = .next sn) :
    Same K B (s.advance t) sn := by
  have hk := Same.refl K B (s.advance t)
  unfold execTakeoverForce at h
  cases onUnit_next h
  repeat' first
    | with_reducible assumption
    | with_reducible rfl
    | exact mask_sub hK rfl
    | exact Nat.le_trans hB (Nat.zero_le _)
    | with_reducible apply State.hostOp_same
    | dsimp only
    | split
    | intro _

theorem execGxCatchup_same {K B : Nat} (t : Tick) (n : Nat) (s : State) {sn : State}
    (hK : K &&& 576390383559245592 = 0) (hB : B ≤ 0) (h : execGxCatchup t n s = .next sn) :
    Same K B (s.advance t) sn := by
  have hk := Same.refl K B (s.advance t)
  unfold execGxCatchup at h
  cases onUnit_next h
  repeat' first
    | with_reducible assumption
    | with_reducible rfl
    | exact mask_sub hK rfl
    | exact Nat.le_trans hB (Nat.zero_le _)
    | with_reducible apply State.hostOp_same
    | dsimp only
    | split
    | intro _

theorem execGxDiscard_same {K B : Nat} (t : Tick) (n : Nat) (s : State) {sn : State}
    (hK : K &&& 576390383559245592 = 0) (hB : B ≤ 0) (h : execGxDiscard t n s = .next sn) :
    Same K B (s.advance t) sn := by
  have hk := Same.refl K B (s.advance t)
  unfold execGxDiscard at h
  cases onUnit_next h
  repeat' first
    | with_reducible assumption
    | with_reducible rfl
    | exact mask_sub hK rfl
    | exact Nat.le_trans hB (Nat.zero_le _)
    | with_reducible apply State.hostOp_same
    | dsimp only
    | split
    | intro _

theorem execRingRelearn_same {K B : Nat} (t : Tick) (n : Nat) (s : State) {sn : State}
    (hK : K &&& 576390383559245592 = 0) (hB : B ≤ 0) (h : execRingRelearn t n s = .next sn) :
    Same K B (s.advance t) sn := by
  have hk := Same.refl K B (s.advance t)
  unfold execRingRelearn at h
  cases onUnit_next h
  repeat' first
    | with_reducible assumption
    | with_reducible rfl
    | exact mask_sub hK rfl
    | exact Nat.le_trans hB (Nat.zero_le _)
    | with_reducible apply State.hostOp_same
    | dsimp only
    | split
    | intro _

theorem execFaultAck_same {K B : Nat} (t : Tick) (n : Nat) (record : Word) (s : State) {sn : State}
    (hK : K &&& 576390383559245592 = 0) (hB : B ≤ 0) (h : execFaultAck t n record s = .next sn) :
    Same K B (s.advance t) sn := by
  have hk := Same.refl K B (s.advance t)
  unfold execFaultAck at h
  cases onUnit_next h
  repeat' first
    | with_reducible assumption
    | with_reducible rfl
    | exact mask_sub hK rfl
    | exact Nat.le_trans hB (Nat.zero_le _)
    | with_reducible apply State.hostOp_same
    | dsimp only
    | split
    | intro _

theorem execFaultDeclare_same {K B : Nat} (t : Tick) (n : Nat) (party : Word) (s : State) {sn : State}
    (hK : K &&& 576390383559245592 = 0) (hB : B ≤ 0) (h : execFaultDeclare t n party s = .next sn) :
    Same K B (s.advance t) sn := by
  have hk := Same.refl K B (s.advance t)
  unfold execFaultDeclare at h
  cases onUnit_next h
  repeat' first
    | with_reducible assumption
    | with_reducible rfl
    | exact mask_sub hK rfl
    | exact Nat.le_trans hB (Nat.zero_le _)
    | with_reducible apply State.hostOp_same
    | dsimp only
    | split
    | intro _

theorem execReinit_same {K B : Nat} (t : Tick) (n : Nat) (subsystem : Nat) (inst : Nat) (s : State) {sn : State}
    (hK : K &&& 576390383559245592 = 0) (hB : B ≤ 0) (h : execReinit t n subsystem inst s = .next sn) :
    Same K B (s.advance t) sn := by
  have hk := Same.refl K B (s.advance t)
  unfold execReinit at h
  cases onUnit_next h
  repeat' first
    | with_reducible assumption
    | with_reducible rfl
    | exact mask_sub hK rfl
    | exact Nat.le_trans hB (Nat.zero_le _)
    | with_reducible apply State.hostOp_same
    | dsimp only
    | split
    | intro _

theorem execDeviceReset_same {K B : Nat} (t : Tick) (n : Nat) (key : Word) (s : State) {sn : State}
    (hK : K &&& 576390383559245592 = 0) (hB : B ≤ 0) (h : execDeviceReset t n key s = .next sn) :
    Same K B (s.advance t) sn := by
  have hk := Same.refl K B (s.advance t)
  unfold execDeviceReset at h
  cases onUnit_next h
  repeat' first
    | with_reducible assumption
    | with_reducible rfl
    | exact mask_sub hK rfl
    | exact Nat.le_trans hB (Nat.zero_le _)
    | with_reducible apply State.hostOp_same
    | dsimp only
    | split
    | intro _

theorem execDmaAddr_same {K B : Nat} (t : Tick) (n : Nat) (v : BitVec 64) (s : State) {sn : State}
    (hK : K &&& 576390383559245592 = 0) (hB : B ≤ 0) (h : execDmaAddr t n v s = .next sn) :
    Same K B (s.advance t) sn := by
  have hk := Same.refl K B (s.advance t)
  unfold execDmaAddr at h
  cases onUnit_next h
  repeat' first
    | with_reducible assumption
    | with_reducible rfl
    | exact mask_sub hK rfl
    | exact Nat.le_trans hB (Nat.zero_le _)
    | with_reducible apply State.hostOp_same
    | dsimp only
    | split
    | intro _

theorem execDmaWindow_same {K B : Nat} (t : Tick) (n : Nat) (write : Option Word) (s : State) {sn : State}
    (hK : K &&& 576390383559245592 = 0) (hB : B ≤ 0) (h : execDmaWindow t n write s = .next sn) :
    Same K B (s.advance t) sn := by
  have hk := Same.refl K B (s.advance t)
  unfold execDmaWindow at h
  cases onUnit_next h
  repeat' first
    | with_reducible assumption
    | with_reducible rfl
    | exact mask_sub hK rfl
    | exact Nat.le_trans hB (Nat.zero_le _)
    | with_reducible apply State.hostOp_same
    | dsimp only
    | split
    | intro _

theorem execCvuConfig_same {K B : Nat} (t : Tick) (n : Nat) (u : Nat) (v : Word) (s : State) {sn : State}
    (hK : K &&& 576390383559245592 = 0) (hB : B ≤ 0) (h : execCvuConfig t n u v s = .next sn) :
    Same K B (s.advance t) sn := by
  have hk := Same.refl K B (s.advance t)
  unfold execCvuConfig at h
  cases onUnit_next h
  repeat' first
    | with_reducible assumption
    | with_reducible rfl
    | exact mask_sub hK rfl
    | exact Nat.le_trans hB (Nat.zero_le _)
    | with_reducible apply State.hostOp_same
    | dsimp only
    | split
    | intro _

theorem execCvuData_same {K B : Nat} (t : Tick) (n : Nat) (u : Nat) (w : Word) (s : State) {sn : State}
    (hK : K &&& 576390383559245592 = 0) (hB : B ≤ 0) (h : execCvuData t n u w s = .next sn) :
    Same K B (s.advance t) sn := by
  have hk := Same.refl K B (s.advance t)
  unfold execCvuData at h
  cases onUnit_next h
  repeat' first
    | with_reducible assumption
    | with_reducible rfl
    | exact mask_sub hK rfl
    | exact Nat.le_trans hB (Nat.zero_le _)
    | with_reducible apply State.hostOp_same
    | dsimp only
    | split
    | intro _

theorem execCvuByte_same {K B : Nat} (t : Tick) (n : Nat) (u : Nat) (b : Byte) (s : State) {sn : State}
    (hK : K &&& 576390383559245592 = 0) (hB : B ≤ 0) (h : execCvuByte t n u b s = .next sn) :
    Same K B (s.advance t) sn := by
  have hk := Same.refl K B (s.advance t)
  unfold execCvuByte at h
  cases onUnit_next h
  repeat' first
    | with_reducible assumption
    | with_reducible rfl
    | exact mask_sub hK rfl
    | exact Nat.le_trans hB (Nat.zero_le _)
    | with_reducible apply State.hostOp_same
    | dsimp only
    | split
    | intro _

theorem execStart_same {K B : Nat} (t : Tick) (n : Nat) (u : Nat) (s : State) {sn : State}
    (hK : K &&& 576390383559245592 = 0) (hB : B ≤ 0) (h : execStart t n u s = .next sn) :
    Same K B (s.advance t) sn := by
  have hk := Same.refl K B (s.advance t)
  unfold execStart at h
  cases onUnit_next h
  repeat' first
    | with_reducible assumption
    | with_reducible rfl
    | exact mask_sub hK rfl
    | exact Nat.le_trans hB (Nat.zero_le _)
    | with_reducible apply State.hostOp_same
    | dsimp only
    | split
    | intro _

theorem execFwImage_same {K B : Nat} (t : Tick) (n : Nat) (w : Word) (s : State) {sn : State}
    (hK : K &&& 576390383559245592 = 0) (hB : B ≤ 0) (h : execFwImage t n w s = .next sn) :
    Same K B (s.advance t) sn := by
  have hk := Same.refl K B (s.advance t)
  unfold execFwImage at h
  cases onUnit_next h
  repeat' first
    | with_reducible assumption
    | with_reducible rfl
    | exact mask_sub hK rfl
    | exact Nat.le_trans hB (Nat.zero_le _)
    | with_reducible apply State.hostOp_same
    | dsimp only
    | split
    | intro _

theorem execVerify_same {K B : Nat} (t : Tick) (n : Nat) (s : State) {sn : State}
    (hK : K &&& 576390383559245592 = 0) (hB : B ≤ 0) (h : execVerify t n s = .next sn) :
    Same K B (s.advance t) sn := by
  have hk := Same.refl K B (s.advance t)
  unfold execVerify at h
  cases onUnit_next h
  repeat' first
    | with_reducible assumption
    | with_reducible rfl
    | exact mask_sub hK rfl
    | exact Nat.le_trans hB (Nat.zero_le _)
    | with_reducible apply State.hostOp_same
    | dsimp only
    | split
    | intro _

theorem execActivate_same {K B : Nat} (t : Tick) (n : Nat) (s : State) {sn : State}
    (hK : K &&& 576390383559245592 = 0) (hB : B ≤ 0) (h : execActivate t n s = .next sn) :
    Same K B (s.advance t) sn := by
  have hk := Same.refl K B (s.advance t)
  unfold execActivate at h
  cases onUnit_next h
  repeat' first
    | with_reducible assumption
    | with_reducible rfl
    | exact mask_sub hK rfl
    | exact Nat.le_trans hB (Nat.zero_le _)
    | with_reducible apply State.hostOp_same
    | dsimp only
    | split
    | intro _

theorem execKeyImport_same {K B : Nat} (t : Tick) (n : Nat) (item : List Word) (s : State) {sn : State}
    (hK : K &&& 576390383559245592 = 0) (hB : B ≤ 0) (h : execKeyImport t n item s = .next sn) :
    Same K B (s.advance t) sn := by
  have hk := Same.refl K B (s.advance t)
  unfold execKeyImport at h
  cases onUnit_next h
  repeat' first
    | with_reducible assumption
    | with_reducible rfl
    | exact mask_sub hK rfl
    | exact Nat.le_trans hB (Nat.zero_le _)
    | with_reducible apply State.hostOp_same
    | dsimp only
    | split
    | intro _

theorem execSessionRekey_same {K B : Nat} (t : Tick) (n : Nat) (nonce : List Word) (s : State) {sn : State}
    (hK : K &&& 576390383559245592 = 0) (hB : B ≤ 0) (h : execSessionRekey t n nonce s = .next sn) :
    Same K B (s.advance t) sn := by
  have hk := Same.refl K B (s.advance t)
  unfold execSessionRekey at h
  cases onUnit_next h
  repeat' first
    | with_reducible assumption
    | with_reducible rfl
    | exact mask_sub hK rfl
    | exact Nat.le_trans hB (Nat.zero_le _)
    | with_reducible apply State.hostOp_same
    | dsimp only
    | split
    | intro _

theorem execWipe_same {K B : Nat} (t : Tick) (n : Nat) (key : Word) (s : State) {sn : State}
    (hK : K &&& 576390383559245592 = 0) (hB : B ≤ 0) (h : execWipe t n key s = .next sn) :
    Same K B (s.advance t) sn := by
  have hk := Same.refl K B (s.advance t)
  unfold execWipe at h
  cases onUnit_next h
  repeat' first
    | with_reducible assumption
    | with_reducible rfl
    | exact mask_sub hK rfl
    | exact Nat.le_trans hB (Nat.zero_le _)
    | with_reducible apply State.hostOp_same
    | dsimp only
    | split
    | intro _

theorem execUpinConfig_same {K B : Nat} (t : Tick) (n : Nat) (pin : Nat) (v : Word) (s : State) {sn : State}
    (hK : K &&& 576390383559245592 = 0) (hB : B ≤ 0) (h : execUpinConfig t n pin v s = .next sn) :
    Same K B (s.advance t) sn := by
  have hk := Same.refl K B (s.advance t)
  unfold execUpinConfig at h
  cases onUnit_next h
  repeat' first
    | with_reducible assumption
    | with_reducible rfl
    | exact mask_sub hK rfl
    | exact Nat.le_trans hB (Nat.zero_le _)
    | with_reducible apply State.hostOp_same
    | dsimp only
    | split
    | intro _

theorem execSlotComplete_same {K B : Nat} (t : Tick) (lane : Nat) (fn : Nat) (k : Nat) (s : State) {sn : State}
    (hK : K &&& 18014398509513216 = 0) (hB : B ≤ 0) (h : execSlotComplete t lane fn k s = .next sn) :
    Same K B (s.advance t) sn := by
  have hk := Same.refl K B (s.advance t)
  unfold execSlotComplete at h
  cases onUnit_next h
  repeat' first
    | with_reducible assumption
    | with_reducible rfl
    | exact mask_sub hK rfl
    | exact Nat.le_trans hB (Nat.zero_le _)
    | with_reducible apply State.asOf_same
    | with_reducible apply State.slotDone_same
    | with_reducible apply State.ahead_same
    | dsimp only
    | split
    | intro _

theorem execTransactionApply_same {K B : Nat} (t : Tick) (id : Nat) (s : State) {sn : State}
    (hK : K &&& 573323639340597148 = 0) (hB : B ≤ 0) (h : execTransactionApply t id s = .next sn) :
    Same K B (s.advance t) sn := by
  have hk := Same.refl K B (s.advance t)
  unfold execTransactionApply at h
  cases h
  repeat' first
    | with_reducible assumption
    | with_reducible rfl
    | exact mask_sub hK rfl
    | exact Nat.le_trans hB (Nat.zero_le _)
    | with_reducible apply State.apply_same
    | dsimp only
    | split
    | intro _

theorem execFrameBoundary_same {K B : Nat} (t : Tick) (seen : FrameSeen) (s : State) {sn : State}
    (hK : K &&& 573323639340859292 = 0) (hB : B ≤ 0) (h : execFrameBoundary t seen s = .next sn) :
    Same K B (s.advance t) sn := by
  have hk := Same.refl K B (s.advance t)
  unfold execFrameBoundary at h
  cases onUnit_next h
  repeat' first
    | with_reducible assumption
    | with_reducible rfl
    | exact mask_sub hK rfl
    | exact Nat.le_trans hB (Nat.zero_le _)
    | with_reducible apply State.boundary_same
    | dsimp only
    | split
    | intro _

theorem execXcCopyComplete_same {K B : Nat} (t : Tick) (s : State) {sn : State}
    (hK : K &&& 25088 = 0) (hB : B ≤ 0x7f00000) (h : execXcCopyComplete t s = .next sn) :
    Same K B (s.advance t) sn := by
  have hk := Same.refl K B (s.advance t)
  unfold execXcCopyComplete at h
  cases h
  repeat' first
    | with_reducible assumption
    | with_reducible rfl
    | exact mask_sub hK rfl
    | exact le_objAt (Nat.le_trans hB (by decide))
    | exact Nat.le_trans hB (by decide)
    | exact Nat.le_trans hB (by split <;> decide)
    | with_reducible apply State.copyComplete_same
    | dsimp only
    | split
    | intro _

theorem execOpenMsg_same {K B : Nat} (t : Tick) (src : Src) (h : Head) (part : Nat) (auth : Bool) (events : Bool) (idle : Nat) (nonce : List Byte) (s : State) {sn : State}
    (hK : K &&& 576390383559245592 = 0) (hB : B ≤ 0) (h : execOpenMsg t src h part auth events idle nonce s = .next sn) :
    Same K B (s.advance t) sn := by
  have hk := Same.refl K B (s.advance t)
  unfold execOpenMsg at h
  cases onUnit_next h
  repeat' first
    | with_reducible assumption
    | with_reducible rfl
    | exact mask_sub hK rfl
    | exact Nat.le_trans hB (Nat.zero_le _)
    | with_reducible apply State.takeMsg_same
    | dsimp only
    | split
    | intro _

theorem execCloseMsg_same {K B : Nat} (t : Tick) (src : Src) (h : Head) (s : State) {sn : State}
    (hK : K &&& 576390383559245592 = 0) (hB : B ≤ 0) (h : execCloseMsg t src h s = .next sn) :
    Same K B (s.advance t) sn := by
  have hk := Same.refl K B (s.advance t)
  unfold execCloseMsg at h
  cases onUnit_next h
  repeat' first
    | with_reducible assumption
    | with_reducible rfl
    | exact mask_sub hK rfl
    | exact Nat.le_trans hB (Nat.zero_le _)
    | with_reducible apply State.takeMsg_same
    | dsimp only
    | split
    | intro _

theorem execKeepaliveMsg_same {K B : Nat} (t : Tick) (src : Src) (h : Head) (s : State) {sn : State}
    (hK : K &&& 576390383559245592 = 0) (hB : B ≤ 0) (h : execKeepaliveMsg t src h s = .next sn) :
    Same K B (s.advance t) sn := by
  have hk := Same.refl K B (s.advance t)
  unfold execKeepaliveMsg at h
  cases onUnit_next h
  repeat' first
    | with_reducible assumption
    | with_reducible rfl
    | exact mask_sub hK rfl
    | exact Nat.le_trans hB (Nat.zero_le _)
    | with_reducible apply State.takeMsg_same
    | dsimp only
    | split
    | intro _

theorem execAccessMsg_same {K B : Nat} (t : Tick) (src : Src) (h : Head) (ops : List Op) (s : State) {sn : State}
    (hK : K &&& 576390383559245592 = 0) (hB : B ≤ 0) (h : execAccessMsg t src h ops s = .next sn) :
    Same K B (s.advance t) sn := by
  have hk := Same.refl K B (s.advance t)
  unfold execAccessMsg at h
  cases onUnit_next h
  repeat' first
    | with_reducible assumption
    | with_reducible rfl
    | exact mask_sub hK rfl
    | exact Nat.le_trans hB (Nat.zero_le _)
    | with_reducible apply State.access_same
    | with_reducible apply State.takeMsg_same
    | dsimp only
    | split
    | intro _

theorem execCommitMsg_same {K B : Nat} (t : Tick) (src : Src) (h : Head) (fn : Nat) (s : State) {sn : State}
    (hK : K &&& 576390383559245592 = 0) (hB : B ≤ 0) (h : execCommitMsg t src h fn s = .next sn) :
    Same K B (s.advance t) sn := by
  have hk := Same.refl K B (s.advance t)
  unfold execCommitMsg at h
  cases onUnit_next h
  repeat' first
    | with_reducible assumption
    | with_reducible rfl
    | exact mask_sub hK rfl
    | exact Nat.le_trans hB (Nat.zero_le _)
    | with_reducible apply State.commit_same
    | with_reducible apply State.takeMsg_same
    | dsimp only
    | split
    | intro _

theorem execDryRunMsg_same {K B : Nat} (t : Tick) (src : Src) (h : Head) (fn : Nat) (s : State) {sn : State}
    (hK : K &&& 576390383559245592 = 0) (hB : B ≤ 0) (h : execDryRunMsg t src h fn s = .next sn) :
    Same K B (s.advance t) sn := by
  have hk := Same.refl K B (s.advance t)
  unfold execDryRunMsg at h
  cases onUnit_next h
  repeat' first
    | with_reducible assumption
    | with_reducible rfl
    | exact mask_sub hK rfl
    | exact Nat.le_trans hB (Nat.zero_le _)
    | with_reducible apply State.commit_same
    | with_reducible apply State.takeMsg_same
    | dsimp only
    | split
    | intro _

theorem execAbortMsg_same {K B : Nat} (t : Tick) (src : Src) (h : Head) (s : State) {sn : State}
    (hK : K &&& 576390383559245592 = 0) (hB : B ≤ 0) (h : execAbortMsg t src h s = .next sn) :
    Same K B (s.advance t) sn := by
  have hk := Same.refl K B (s.advance t)
  unfold execAbortMsg at h
  cases onUnit_next h
  repeat' first
    | with_reducible assumption
    | with_reducible rfl
    | exact mask_sub hK rfl
    | exact Nat.le_trans hB (Nat.zero_le _)
    | with_reducible apply State.abort_same
    | with_reducible apply State.takeMsg_same
    | dsimp only
    | split
    | intro _

theorem execCancelMsg_same {K B : Nat} (t : Tick) (src : Src) (h : Head) (txn : Nat) (s : State) {sn : State}
    (hK : K &&& 576390383559245592 = 0) (hB : B ≤ 0) (h : execCancelMsg t src h txn s = .next sn) :
    Same K B (s.advance t) sn := by
  have hk := Same.refl K B (s.advance t)
  unfold execCancelMsg at h
  cases onUnit_next h
  repeat' first
    | with_reducible assumption
    | with_reducible rfl
    | exact mask_sub hK rfl
    | exact Nat.le_trans hB (Nat.zero_le _)
    | with_reducible apply State.cancel_same
    | with_reducible apply State.takeMsg_same
    | dsimp only
    | split
    | intro _

theorem execClaimMsg_same {K B : Nat} (t : Tick) (src : Src) (h : Head) (obj : Nat) (scope : Nat) (lease : Nat) (s : State) {sn : State}
    (hK : K &&& 576390383559245592 = 0) (hB : B ≤ 0) (h : execClaimMsg t src h obj scope lease s = .next sn) :
    Same K B (s.advance t) sn := by
  have hk := Same.refl K B (s.advance t)
  unfold execClaimMsg at h
  cases onUnit_next h
  repeat' first
    | with_reducible assumption
    | with_reducible rfl
    | exact mask_sub hK rfl
    | exact Nat.le_trans hB (Nat.zero_le _)
    | with_reducible apply State.takeMsg_same
    | dsimp only
    | split
    | intro _

theorem execRenewMsg_same {K B : Nat} (t : Tick) (src : Src) (h : Head) (obj : Nat) (scope : Nat) (lease : Nat) (s : State) {sn : State}
    (hK : K &&& 576390383559245592 = 0) (hB : B ≤ 0) (h : execRenewMsg t src h obj scope lease s = .next sn) :
    Same K B (s.advance t) sn := by
  have hk := Same.refl K B (s.advance t)
  unfold execRenewMsg at h
  cases onUnit_next h
  repeat' first
    | with_reducible assumption
    | with_reducible rfl
    | exact mask_sub hK rfl
    | exact Nat.le_trans hB (Nat.zero_le _)
    | with_reducible apply State.takeMsg_same
    | dsimp only
    | split
    | intro _

theorem execReleaseMsg_same {K B : Nat} (t : Tick) (src : Src) (h : Head) (obj : Nat) (scope : Nat) (s : State) {sn : State}
    (hK : K &&& 576390383559245592 = 0) (hB : B ≤ 0) (h : execReleaseMsg t src h obj scope s = .next sn) :
    Same K B (s.advance t) sn := by
  have hk := Same.refl K B (s.advance t)
  unfold execReleaseMsg at h
  cases onUnit_next h
  repeat' first
    | with_reducible assumption
    | with_reducible rfl
    | exact mask_sub hK rfl
    | exact Nat.le_trans hB (Nat.zero_le _)
    | with_reducible apply State.release_same
    | with_reducible apply State.takeMsg_same
    | dsimp only
    | split
    | intro _

theorem execEventAckMsg_same {K B : Nat} (t : Tick) (src : Src) (h : Head) (seq : Nat) (s : State) {sn : State}
    (hK : K &&& 576390383559245592 = 0) (hB : B ≤ 0) (h : execEventAckMsg t src h seq s = .next sn) :
    Same K B (s.advance t) sn := by
  have hk := Same.refl K B (s.advance t)
  unfold execEventAckMsg at h
  cases onUnit_next h
  repeat' first
    | with_reducible assumption
    | with_reducible rfl
    | exact mask_sub hK rfl
    | exact Nat.le_trans hB (Nat.zero_le _)
    | with_reducible apply State.eventAck_same
    | with_reducible apply State.takeMsg_same
    | dsimp only
    | split
    | intro _

theorem execWriteMsg_same {K B : Nat} (t : Tick) (bytes : List Byte) (s : State) {sn : State}
    (hK : K &&& 576390383559245592 = 0) (hB : B ≤ 0) (h : execWriteMsg t bytes s = .next sn) :
    Same K B (s.advance t) sn := by
  have hk := Same.refl K B (s.advance t)
  unfold execWriteMsg at h
  cases h
  repeat' first
    | with_reducible assumption
    | with_reducible rfl
    | exact mask_sub hK rfl
    | exact Nat.le_trans hB (Nat.zero_le _)
    | with_reducible apply State.spiWrite_same
    | dsimp only
    | split
    | intro _

theorem execReadMsg_same {K B : Nat} (t : Tick) (clocked : Nat) (s : State) {sn : State}
    (hK : K &&& 25165824 = 0) (h : execReadMsg t clocked s = .next sn) :
    Same K B (s.advance t) sn := by
  have hk := Same.refl K B (s.advance t)
  unfold execReadMsg at h
  cases h
  repeat' first
    | with_reducible assumption
    | with_reducible rfl
    | exact mask_sub hK rfl
    | with_reducible apply State.spiRead_same
    | dsimp only
    | split
    | intro _

theorem execReadStatus_same {K B : Nat} (t : Tick) (s : State) {sn : State}
    (hK : K &&& 16777216 = 0) (h : execReadStatus t s = .next sn) :
    Same K B (s.advance t) sn := by
  have hk := Same.refl K B (s.advance t)
  unfold execReadStatus at h
  cases h
  repeat' first
    | with_reducible assumption
    | with_reducible rfl
    | exact mask_sub hK rfl
    | with_reducible apply State.spiStatus_same
    | dsimp only
    | split
    | intro _

theorem execMacFrameReceive_same {K B : Nat} (t : Tick) (m : Nat) (f : EthFrame) (s : State) {sn : State}
    (hK : K &&& 576390383559245592 = 0) (hB : B ≤ 0) (h : execMacFrameReceive t m f s = .next sn) :
    Same K B (s.advance t) sn := by
  have hk := Same.refl K B (s.advance t)
  unfold execMacFrameReceive at h
  cases onUnit_next h
  repeat' first
    | with_reducible assumption
    | with_reducible rfl
    | exact mask_sub hK rfl
    | exact Nat.le_trans hB (Nat.zero_le _)
    | with_reducible apply State.macTake_same
    | with_reducible apply State.serveAll_same
    | dsimp only
    | split
    | intro _

theorem execTtfFrameReceive_same {K B : Nat} (t : Tick) (lane : Nat) (rx : TtfRx) (s : State) {sn : State}
    (hK : K &&& 576390383559245592 = 0) (hB : B ≤ 0) (h : execTtfFrameReceive t lane rx s = .next sn) :
    Same K B (s.advance t) sn := by
  have hk := Same.refl K B (s.advance t)
  unfold execTtfFrameReceive at h
  cases onUnit_next h
  repeat' first
    | with_reducible assumption
    | with_reducible rfl
    | exact mask_sub hK rfl
    | exact Nat.le_trans hB (Nat.zero_le _)
    | with_reducible apply State.ttfReceive_same
    | with_reducible apply State.lineEcho_same
    | with_reducible apply State.serveAll_same
    | dsimp only
    | split
    | intro _

theorem execSdhFrameReceive_same {K B : Nat} (t : Tick) (lane : Nat) (rx : SdhRx) (s : State) {sn : State}
    (hK : K &&& 576390383559245592 = 0) (hB : B ≤ 0) (h : execSdhFrameReceive t lane rx s = .next sn) :
    Same K B (s.advance t) sn := by
  have hk := Same.refl K B (s.advance t)
  unfold execSdhFrameReceive at h
  cases onUnit_next h
  repeat' first
    | with_reducible assumption
    | with_reducible rfl
    | exact mask_sub hK rfl
    | exact Nat.le_trans hB (Nat.zero_le _)
    | with_reducible apply State.sdhReceive_same
    | with_reducible apply State.lineEcho_same
    | with_reducible apply State.serveAll_same
    | dsimp only
    | split
    | intro _

theorem execClientBlockReceive_same {K B : Nat} (t : Tick) (lane : Nat) (sync : BitVec 2) (payload : BitVec 64) (s : State) {sn : State}
    (hK : K &&& 72057909852263936 = 0) (hB : B ≤ 0x7f00022) (h : execClientBlockReceive t lane sync payload s = .next sn) :
    Same K B (s.advance t) sn := by
  have hk := Same.refl K B (s.advance t)
  unfold execClientBlockReceive at h
  cases onUnit_next h
  repeat' first
    | with_reducible assumption
    | with_reducible rfl
    | exact mask_sub hK rfl
    | exact le_objAt (Nat.le_trans hB (by decide))
    | exact Nat.le_trans hB (by decide)
    | exact Nat.le_trans hB (by split <;> decide)
    | with_reducible apply State.blockReceive_same
    | with_reducible apply State.lineEcho_same
    | dsimp only
    | split
    | intro _

theorem execPairBInService_same {K B : Nat} (t : Tick) (s : State) {sn : State}
    (hK : K &&& 576390383559245592 = 0) (hB : B ≤ 0) (h : execPairBInService t s = .next sn) :
    Same K B (s.advance t) sn := by
  have hk := Same.refl K B (s.advance t)
  unfold execPairBInService at h
  cases h
  repeat' first
    | with_reducible assumption
    | with_reducible rfl
    | exact mask_sub hK rfl
    | exact Nat.le_trans hB (Nat.zero_le _)
    | with_reducible apply State.pairTakes_same
    | with_reducible apply State.serveAll_same
    | dsimp only
    | split
    | intro _

theorem execStartupComplete_same {K B : Nat} (t : Tick) (s : State) {sn : State}
    (hK : K &&& 576390383559245592 = 0) (hB : B ≤ 0) (h : execStartupComplete t s = .next sn) :
    Same K B (s.advance t) sn := by
  have hk := Same.refl K B (s.advance t)
  unfold execStartupComplete at h
  cases h
  repeat' first
    | with_reducible assumption
    | with_reducible rfl
    | exact mask_sub hK rfl
    | exact Nat.le_trans hB (Nat.zero_le _)
    | with_reducible apply State.startupDone_same
    | with_reducible apply State.serveAll_same
    | dsimp only
    | split
    | intro _

end Sys2Proof.Machine
end

