-- ==== Sys2Proof/Tests/Slice0.lean ====
section
/-! SUPPORT. Tests: ill-formed commands, states that meet the hypotheses of the statements, and single steps whose results
are worked out by hand from the rules named. -/

open Sys2Proof
open Sys2Proof.Machine

namespace Sys2Proof.Tests

set_option maxRecDepth 100000
set_option Elab.async false

/-! ### States to test on -/

/-- An open plain session of partition 0 on the SPI port. -/
def sess : Session := { num := 1, part := 0, transport := .spi, peer := 0, idle := 60 * sec, next := 1 }

/-- A device in service with one session. -/
def booted : State :=
  { State.reset with
    startup := .done, tempo := true, rails := [true, true, true, true, true], sessions := [sess]
    freeNums := List.range' 2 31 }

/-- Lane l with a role and a rate. -/
def withLane (l role rate : Nat) (s : State) : State :=
  (s.setFld F.LANE_CONFIG_ROLE role l).setFld F.LANE_CONFIG_RATE rate l

/-- Lane l receives and sends: UP, TX_READY. -/
def upLane (l role rate : Nat) (s : State) : State :=
  ((withLane l role rate s).setFld F.LANE_STATE_STATE LaneState.up.code l).setOn F.LANE_STATUS_TX_READY true l

/-- The state after a command that answers a next state. -/
def after (c : Instr) (s : State) : State :=
  match exec c s with
  | .next u => u
  | _ => s

/-- The name under which a command is refused. -/
def refusedAs (c : Instr) (s : State) : Option String :=
  match exec c s with
  | .refused (.noSuchUnit w) => some w
  | _ => none

def src : Src := ⟨.spi, 0, none, 0⟩
def head : Head := ⟨1, false, false, false, 1, 1, 0, true, true⟩
def opening : Head := ⟨1, false, false, false, 0, 7, 0, true, true⟩
def eth : EthFrame := ⟨2 ^ 48 - 1, 1, [], 0x88B5, List.replicate 46 0, 64, false, true⟩
def corrected : FaultIn := ⟨0x01, 16, 3, 0, false⟩

/-- A frame of which nothing was sliced, one of which the FAW was (R57), and an SDH frame of which nothing was. -/
def ttfRx : TtfRx := ⟨[], 0, 0, 0, false⟩
def fawRx : TtfRx := { ttfRx with line := (lineBits faw).map boolBit }
def sdhRx : SdhRx := ⟨[], 0, 0⟩
def ringHead : RingHead := ⟨0, ⟨false, false, false, false, 3⟩, 1, 0, 0, 0, 0, false, false, 0, 0, none, 0, 0, 0⟩
def ringMsg : RingMsg :=
  ⟨0, ⟨false, false, false, false, 3⟩, 1, 0, 0, 0, 0, 0, 0, 0, 0, 0, 0, 0, 0, 0, 0, 0⟩
def record : TandemRec := ⟨0, .active, true, true, false, false, 1, 7, 0, 0, 0, 0, 0, [], 0, 0, 0⟩

/-! ### Ill-formed commands, one for each check of Instr.wf -/

theorem test_refused_lane : refusedAs (.losDeclare 0 96) booted = some "lane" := by decide +kernel
theorem test_refused_session : refusedAs (.tcaLog 0 0) booted = some "session" := by decide +kernel
theorem test_refused_session_33 : refusedAs (.eventSend 0 33) booted = some "session" := by decide +kernel
theorem test_refused_frames : ∀ c ∈
    [Instr.ttfFrameReceive 0 0 { ttfRx with line := [4] }, .ttfFrameReceive 0 0 { ttfRx with prior := 4 },
      .sdhFrameReceive 0 0 { sdhRx with line := [4] }, .frameBoundary 0 ⟨[], [⟨96, 0, 0, 0⟩], []⟩,
      .frameBoundary 0 ⟨[], [], [⟨96, 0, []⟩]⟩, .frameBoundary 0 ⟨[], [], [⟨0, 4, []⟩]⟩,
      .frameBoundary 0 ⟨[], [], [⟨0, 0, [4]⟩]⟩,
      .ringHead 0 1 ringHead, .ringHead 0 2 { ringHead with clockClass := 256 },
      .ringHead 0 2 { ringHead with flags := ⟨false, false, false, false, 16⟩ },
      .ringMessage 0 3 { ringMsg with hops := 256 }, .ringMessage 0 3 { ringMsg with gxCode := 256 },
      .tandemRecord 0 2 record, .tandemRecord 0 0 { record with fn := 2 ^ 48 },
      .tandemRecord 0 0 { record with digest := 2 ^ 32 }],
    c.wf = false ∧ (refusedAs c booted).isSome = true := by decide +kernel

theorem test_well_formed : ∀ c ∈
    [Instr.ttfFrameReceive 0 95 ttfRx, .sdhFrameReceive 0 95 sdhRx, .ringHead 0 2 ringHead, .ringMessage 0 3 ringMsg,
      .tandemRecord 0 1 record, .macFrameReceive 0 1 eth, .faultRaise 0 corrected, .keepaliveMsg 0 src head],
    c.wf = true := by decide +kernel

theorem test_refused_every_check : ∀ c ∈
    [Instr.openMsg 0 src opening 256 false false 0 (List.replicate 32 0), .openMsg 0 src opening 0 false false 0 [],
      .closeMsg 0 ⟨.eth 2, 0, none, 0⟩ head, .closeMsg 0 ⟨.spi, 2 ^ 48, none, 0⟩ head,
      .closeMsg 0 ⟨.spi, 0, some 65536, 0⟩ head, .closeMsg 0 ⟨.spi, 0, none, 2 ^ 48⟩ head,
      .keepaliveMsg 0 src { head with version := 256 }, .keepaliveMsg 0 src { head with session := 65536 },
      .keepaliveMsg 0 src { head with seq := 2 ^ 32 }, .keepaliveMsg 0 src { head with keyEpoch := 2 ^ 32 },
      .accessMsg 0 src head [⟨2 ^ 32, 0, false, 1, []⟩], .accessMsg 0 src head [⟨0, 256, false, 1, []⟩],
      .accessMsg 0 src head [⟨0, 0, false, 65536, []⟩], .claimMsg 0 src head (2 ^ 32) 0 0, .leaseExpiry 0 0 2,
      .sessionControlClose 0 1 0, .frameBoundary 0 ⟨[⟨16, 0⟩], [], []⟩, .slotComplete 0 0 0 1024, .bayPllLock 0 12,
      .defectPersistence 0 0 (.slotRdi 1024), .defectPersistence 0 0 (.c2 768), .defectPersistence 0 0 (.g1 768),
      .sfSdDeclare 0 0 (.sfP 768), .sfSdWindowEnd 0 0 (.sdP 768), .traceAcceptance 0 0 (.j1 768), .actLost 0 16,
      .candWtrExpiry 0 114, .rampEnd 0 8 0, .ppsPulse 0 4, .apsAcceptance 0 48, .pathWtrExpiry 0 0 1024,
      .ringWindowSend 0 16, .extWindow 0 1 0 4, .clear 0 1 (.fec 96), .clear 0 1 (.mac 2), .clear 0 1 (.engine 101),
      .addrKWrite 0 1 0 8 0, .linkUp 0 0 3, .pauseExpiry 0 2, .faultRaise 0 ⟨0x11, 1, 0, 0, false⟩,
      .faultRaise 0 ⟨1, 19, 0, 0, false⟩, .faultRaise 0 ⟨1, 1, 256, 0, false⟩, .faultRaise 0 ⟨1, 1, 0, 65536, false⟩,
      .reinit 0 1 64 0, .reinitComplete 0 0 0, .cvuByte 0 1 8 0, .tempSample 0 [], .railTelemetryRead 0 [(6, 0, 0)],
      .keyImport 0 1 [], .sessionRekey 0 1 [], .tamperEvent 0 4 true, .railInRange 0 5, .upinConfig 0 1 32 0,
      .dccPortSend 0 8, .dccClockLoss 0 4, .bankClearComplete 0 0xC4, .pcCounterWrap 0 101 0, .pcCounterWrap 0 0 6,
      .hwClaimRequest 0 65536 0 0 .acquire, .macFrameReceive 0 0 { eth with dst := 2 ^ 48 },
      .macFrameReceive 0 0 { eth with ethertype := 65536 }, .macFrameReceive 0 0 { eth with tags := [65536] }],
    c.wf = false ∧ (refusedAs c booted).isSome = true := by decide +kernel

/-! ### States that meet the hypotheses of the statements -/

/-- For every statement whose hypotheses bound unit numbers alone. -/
theorem witness_units : booted.leasesDue = booted ∧ 0 < 96 ∧ 95 < 96 ∧ 1023 < 1024 ∧ 767 < 768 ∧ 11 < 12 ∧
    15 < 16 ∧ 113 < 114 ∧ 7 < 8 ∧ 3 < 4 ∧ 47 < 48 ∧ 1 < 2 ∧ 2 < 3 ∧ bankUnit 0xC3 = true ∧ bankUnit 0xD0 = true ∧
    cvuUnit 7 = true ∧ partyUnit 18 255 = true ∧ faultUnit ⟨0x20, 18, 255, 65535, true⟩ = true := by decide +kernel

theorem witness_FieldsAndTracesAreAccepted : ∀ k, k ∈ [2, 3] →
    traceOk (.j1 767) = true ∧
    Map.get ([], 0) (siteKey (.j1 767))
      ((booted.setLane 95 { message := [(siteKey (.j1 767), (List.replicate 64 65, k))] }).lane 95).message =
        (List.replicate 64 65, k) ∧ (List.replicate 64 (65 : Byte)).length ≤ 64 := by decide +kernel

/-- An enabled 1+1 unidirectional group 47 of TTF lanes 0 and 95, the working lane in LOS. -/
def apsState : State :=
  let s := (upLane 0 2 9 (upLane 95 2 9 booted)).setOn F.APS_CONFIG_ENABLE true 47
  let s := (s.setFld F.APS_CONFIG_PROT_LANE 95 47).setFld F.APS_TIMERS_HOLD_OFF 0 47
  ((s.putBit (lineObj 0) dLos true).putBit (lineObj 0) dSd true).setLane 0 { sfSince := some 0, sdSince := some 0 }

theorem witness_ApsTimers_hold_off : apsState.apsOn 47 = true ∧ apsState.reinitBusy 12 0 = false ∧
    apsState.on F.APS_CONFIG_BIDIR 47 = false ∧ apsState.apsOneToOne 47 = false ∧
    apsState.sfCounted 47 (apsState.apsWork 47) = true ∧
    (apsState.setOn F.APS_CONFIG_SD_TRIGGER true 47).sdCounted 47 0 = true := by decide +kernel

theorem witness_ApsTimers_wtr :
    let s := (((booted.setOn F.APS_CONFIG_ENABLE true 47).setFld F.APS_CONFIG_PROT_LANE 95 47).setFld F.APS_TIMERS_WTR 0 47).setAps
      47 { wtrFrom := some 0 }
    s.apsOn 47 = true ∧ s.reinitBusy 12 0 = false ∧ s.on F.APS_CONFIG_BIDIR 47 = false ∧ s.apsOneToOne 47 = false ∧
    s.sinceOpt (s.apsOf 47).wtrFrom (s.fld F.APS_TIMERS_WTR 47 * sec) = true ∧ s.fld F.APS_COMMAND_CMD 47 = 0 ∧
    (s.apsOf 47).sfWork = false ∧ (s.apsOf 47).dnr = false ∧ s.sfCounted 47 (s.apsWork 47) = false ∧
    s.sdCounted 47 (s.apsWork 47) = false ∧ s.sfCounted 47 (s.apsProt 47) = false := by decide +kernel

/-- Output slot 0 of lane 3 between slot 0 of lane 5, degraded since instant 0, and slot 0 of lane 6. -/
def pathEntry : Entry := BitVec.ofNat 64 (5 * 1024 + 6 * 1024 * 2 ^ 17 + 2 ^ 37)
def pathState : State :=
  let s := upLane 3 1 2 (upLane 5 1 2 (upLane 6 1 2 booted))
  let s := { s with xc := { s.xc with pageA := [(slotIdx 3 0, pathEntry)], pageB := [(slotIdx 3 0, pathEntry)] } }
  let s := (s.putBit (pathObj 5 0) pSd true).setLane 5 { pathSd := [(0, 0)] }
  let s := s.setLane 6 { landings := [{ l := 0, complete := some 0, slots := [(0, ⟨.pass, []⟩)] }] }
  (s.setOn F.PATH_PROT_CONFIG_SD_TRIGGER true 3 0).setFld F.PATH_PROT_CONFIG_HOLD_OFF 0 3 0

theorem witness_PathSelectorTimers :
    pathState.ctlEntry (slotIdx 3 0) = pathEntry ∧ pathState.controlled (slotIdx 3 0) = true ∧ entrySel pathEntry ≤ 1 ∧
    pathState.reinitBusy 12 0 = false ∧ pathState.on F.PATH_PROT_CONFIG_SD_TRIGGER 3 0 = true ∧
    pathState.sinceOpt (pathState.srcSdSince (entryWork pathEntry)) 0 = true ∧
    pathState.srcGood (entryProt pathEntry) = true ∧
    (let e := BitVec.ofNat 64 (6 * 1024 + 5 * 1024 * 2 ^ 17 + 2 ^ 37 + 2 ^ 38)
     let s := { pathState with xc := { pathState.xc with pageA := [(slotIdx 3 0, e)], pageB := [(slotIdx 3 0, e)] } }
     let s := (s.setOn F.PATH_PROT_CONFIG_REVERTIVE true 3 0).setFld F.PATH_PROT_CONFIG_WTR 0 3 0
     let w := (s.setPprot (slotIdx 3 0) { wtrFrom := some 0 }).pathWatch (slotIdx 3 0)
     w.sinceOpt (w.pprot (slotIdx 3 0)).wtrFrom (w.fld F.PATH_PROT_CONFIG_WTR 3 0 * sec) = true) := by decide +kernel

theorem witness_SessionTimers : booted.session 1 = some sess := by decide +kernel

theorem witness_LeasesAndHardwareClaims :
    claimKey O.TEST_BYTE 1 ≠ stageKey ∧ claimKey O.XC_STAGED 0 = stageKey ∧
    ({ booted with xc := { booted.xc with stage := .session 1 } } : State).xc.stage = .session 1 ∧
    (1 : Nat) ≠ booted.gen 65535 ∧ 0 = booted.gen 65535 := by decide +kernel

/-- Channel 0 of lane 0 routed to DCC port 0, whose clock is there; HDLC or plain bytes. -/
def dccState (hdlc : Bool) : State :=
  let s := (booted.setFld F.Q_CONFIG_ROUTE 1 0).setOn F.Q_CONFIG_MODE hdlc 0
  (s.setOn F.DCC_PORT_CONFIG_ENABLE true 0).setOn F.DCC_PORT_STATUS_CLK_PRESENT true 0

theorem witness_DccPorts : ∀ hdlc, (dccState hdlc).portLive 0 = true ∧ (dccState hdlc).portChan 0 = some (0, 0) ∧
    (dccState hdlc).qon F.Q_CONFIG_MODE 0 0 = hdlc ∧ booted.portLive 0 = false ∧
    ((dccState true).chanOf 0 0).openLen + 1 ≤ (dccState true).qfld F.Q_LIMITS_MAX_LEN 0 0 ∧
    (((dccState true).putChan 0 0 { ext := [gapItem 1, mkItem [1] true false false] }).chanOf 0 0).ext.dropWhile Item.gap =
      [] ++ mkItem [1] true false false :: [] ∧ (mkItem [1] true false false).fin = true := by decide +kernel

/-- Every object that a statement reads or writes through the session. -/
theorem witness_reads : ∀ o ∈ [O.TCA_LOG, O.HISTORY_INFO, O.FAULT_INFO, objAt O.EXT_WINDOW 95 48, O.DMA_WINDOW,
    objAt O.TTF_TX_CTRL 95, objAt O.PATTERN_CTRL 95], booted.seesObj 1 sess o := by
  unfold State.seesObj; decide +kernel

theorem witness_writes : ∀ o ∈ [O.PM_READ_SEL, O.XC_WINDOW_START, O.SOFT_CW, O.HISTORY_CONTROL, O.FAULT_ACK,
    O.FAULT_DECLARE, O.REINIT, O.DEVICE_RESET, O.TANDEM_COMMAND, O.GALLERY_COMMAND, O.DMA_ADDR, O.DMA_WINDOW, O.FW_IMAGE,
    O.FW_CONTROL, O.KEY_IMPORT, O.SESSION_REKEY, O.WIPE, O.FOLLA_CONFIG, objAt O.SESSION_CONTROL 32, objAt O.ADDR 1 7,
    objAt O.UPIN_CONFIG 31, objAt O.Q_CONTROL 95 48, objAt O.INS_WINDOW 95 48, objAt O.LEDGER_CONTROL 95,
    objAt O.SDH_CONTROL 95, objAt O.PC_CONTROL 100, objAt O.CVU_CONFIG 7, objAt O.CVU_DATA 7, objAt O.CVU_BYTE 7,
    objAt O.CVU_CONTROL 7, setControl (.fec 95), setControl (.sdh 0), setControl (.group 0), setControl (.landing 0),
    setControl (.ledger 0), setControl (.mac 1)], booted.writesObj 1 sess o := by
  unfold State.writesObj State.seesObj; decide +kernel

theorem witness_CounterSnapshotsAndClears : booted.canonical = true ∧ counterSetOk (.mac 1) = true ∧
    ∀ e, CounterSet.mac 1 ≠ .engine e := by
  refine ⟨by decide +kernel, by decide, fun e h => by cases h⟩

theorem witness_OverheadQueueWindows : booted.qon F.Q_CONFIG_MODE 95 3 = false := by decide +kernel

/-- DMA_ADDR in the bank of lane 95, which has no role; its bay and the bank are on. -/
def dmaState : State :=
  ((booted.setFld F.DMA_ADDR_BANK 95).setFld F.BANK_POWER_POWER 2 95).setOn F.BAY_STATUS_POWERED true 11

theorem witness_MemoryBanks : dmaState.dmaServes false = true ∧ dmaState.dmaServes true = true := by decide +kernel

theorem witness_CheckValueUnits :
    ({ booted with claims := [(cvuKey 7, ⟨1, 0, sec, 1000, false⟩)] } : State).cvuRefuses 1 7 = none ∧
    booted.cvuBusy 7 = false ∧ booted.cvuRefuses 1 7 = some (stAccess, 0) ∧
    ({ booted with cvuRuns := [(7, ⟨0xC3, 0, 4⟩)] } : State).cvuRuns.find? (·.1 == 7) = some (7, ⟨0xC3, 0, 4⟩) := by
  decide +kernel

theorem witness_ReadsWithEffects : (findRow (objAt O.ARRIVAL_LAST 0)).isSome = true ∧
    ((findRow (objAt O.SLACK_MIN 95)).map (·.acc)) = some .rc ∧
    (upLane 95 2 9 booted).readsZero (objAt O.SLACK_MIN 95) = false := by decide +kernel

theorem witness_RegisterWrites :
    ((findRow O.MEM_STICKY).map fun r => (r.acc, r.words, r.window)) = some (.w1c, 1, 0) ∧
    booted.noElement O.MEM_STICKY = false ∧
    ((findRow O.MEM_INT_EN).map fun r => (r.acc, r.words, r.window)) = some (.rw, 1, 0) ∧
    stickyOf O.MEM_INT_EN = some O.MEM_STICKY ∧ booted.noElement O.MEM_INT_EN = false ∧
    ((findRow O.TEST_BYTE).map fun r => (r.acc, r.words, r.window)) = some (.rws, 1, 0) ∧
    isEntryObj O.TEST_BYTE = false ∧ notWritable O.TEST_BYTE = false := by decide +kernel

theorem witness_OpsAreTurnedAway : booted.serves = true ∧ booted.session 1 = some sess ∧
    booted.faults.resetWanted = false ∧
    booted.visible 1 false O.TEST_BYTE = false ∧ booted.visible 0 false O.TEST_BYTE = true ∧
    ((findRow O.TEST_BYTE).map fun r => opFits r (wr O.TEST_BYTE [0])) = some true ∧
    (booted.setOn F.FAULT_STATUS_FATAL true).on F.FAULT_STATUS_FATAL = true ∧
    ({ booted with claims := [(claimKey O.TEST_BYTE 0, ⟨2, 0, sec, 1000, false⟩)] } : State).claimHolder 1 O.TEST_BYTE = 2
    := by decide +kernel

theorem witness_numbersOk : booted.numbersOk := by unfold State.numbersOk; decide +kernel

theorem witness_tandemRecOk : tandemRecOk record = true := by decide +kernel
theorem witness_RingHeadsAndMessages : ringHeadOk ringHead = true ∧ ringMsgOk ringMsg = true := by decide +kernel

theorem witness_GalleryDecisions :
    let y : Txn := ⟨1, 0, 0, [], .held, 5⟩
    let s := { booted with txns := [y] }
    s.heldTxn = some y ∧ ({ booted with txns := [{ y with st := .waitGo }] } : State).txns.find? (·.st == .waitGo) =
      some { y with st := .waitGo } := by decide +kernel

theorem witness_OpenStartsASession : srcUnit src = true ∧ headUnit opening = true ∧ booted.numbersOk ∧
    booted.serves = true ∧ booted.shut .spi = false ∧
    (booted.setOn F.FOLLA_CONFIG_SPI_EN false).shut .spi = true ∧
    (∀ p, p ∈ booted.opened → p.2.1 = opening.seq → sameEnd p.1.transport p.1.peer .spi 0 = true →
      p.2.2.2 + sec < booted.now) ∧ booted.openRefused 0 false = none ∧ booted.openRefused 1 false = some stValue := by
  refine ⟨by decide +kernel, by decide +kernel, witness_numbersOk, by decide +kernel, by decide +kernel, by decide +kernel,
    ?_, by decide +kernel, by decide +kernel⟩
  intro p hp; cases hp

/-- For SessionRequests, TransactionRequests and ClaimRequests. -/
theorem witness_talks : booted.talks src head sess ∧ sess.goesOn head ∧ booted.keyHidden sess O.TEST_BYTE 0 = false ∧
    booted.keyHidden sess O.TEST_BYTE 1 = false ∧ claimKey O.TEST_BYTE 1 ≠ stageKey := by
  unfold State.talks Session.goesOn; decide +kernel

theorem witness_SpiPort : booted.macsRun = true ∧ booted.spiFill + 8192 ≤ 8192 := by decide +kernel

/-- The staged write of TEST_BYTE, pending for the frame of instant 0. -/
def dueState (st : TxnState) : State :=
  { booted with txns := [⟨1, 1, 0, [⟨O.TEST_BYTE, none, BitVec.ofNat 96 0x5A⟩], st, 0⟩] }

theorem witness_TransactionsTakeEffect :
    (dueState .pending).firstDue.map (fun q => (q.id, q.st)) = some (1, .pending) ∧ (dueState .pending).running = true ∧
    (dueState .pending).resetLow = false ∧
    (∀ k, k < 6 → (dueState .pending).objBit O.MODES_ACTIVE k = (dueState .pending).modeBit k) ∧
    (∀ c ∈ [0, gxGo, gxAbort],
      let s := ((dueState .waitGo).setOn F.MODES_ACTIVE_GALLERY true).setFld F.GALLERY_STATUS_STATE gMember
      let s := s.modGallery fun g => { g with gxSeen := c }
      s.firstDue.map (fun q => (q.id, q.st)) = some (1, .waitGo) ∧ s.galleryOn = true ∧ s.gallery.gxSeen = c ∧
        s.galleryState = gMember ∧ s.quarantined = false) := by decide +kernel

theorem witness_TransactionsTakeEffect_copy :
    ({ booted with xc := { booted.xc with copy := some [0] } } : State).switchFilled = true ∧ booted.xc.copy = none := by
  decide +kernel

theorem witness_TransactionsTakeEffect_boundary :
    boundaryUnits ⟨[⟨15, 0⟩], [⟨95, 0, 0, 0⟩], [⟨95, 0, []⟩]⟩ = true ∧ booted.atBoundary = true ∧
    State.reset.atBoundary = false ∧
    (let y := ((booted.boundaryDone.frameEnds ⟨[⟨15, 0⟩], [⟨95, 0, 0, 0⟩], [⟨95, 0, []⟩]⟩).tandemBoundary).epochAdopt
     ((List.range 114).foldl (fun s c => s.candWatch c)
       ((State.applyDue y.txns.length y).boundaryDone).galleryBoundary).follows = none) := by decide +kernel

/-- Lane 95 in frame at position 0, and its frame in loopback. -/
def framed (role rate : Nat) : State := (upLane 95 role rate booted).setLane 95 { inFrame := true, inSince := some 0 }

theorem witness_FramesAreReceived :
    ttfRxOk ttfRx = true ∧ (framed 2 9).isTtf 95 = true ∧ (framed 2 9).framing 95 0 = true ∧
    (framed 2 9).rxSymbols 95 [] 0 = some ([], 0) ∧
    ((framed 2 9).setFld F.LOOPBACK_MODE 1 95).rxSymbols 95 [] 0 = none ∧
    (let f := ttfDecode 9 false none ttfRx []
     ((framed 2 9).sawFraming 95 f.fawOk f.pos f.arrival).framedAt 95 f.pos = true ∧
     (((framed 2 9).sawFraming 95 f.fawOk 1 f.arrival).framedAt 95 1 = false ∧
       (((framed 2 9).sawFraming 95 f.fawOk 1 f.arrival).lane 95).inFrame = true) ∧
     (((upLane 95 2 9 booted).sawFraming 95 f.fawOk f.pos f.arrival).lane 95).inFrame = false) ∧
    sdhRxOk sdhRx = true ∧ (framed 1 0).isSdh 95 = true ∧ (framed 1 0).framing 95 0 = true ∧
    (let f := sdhDecode 0 false none sdhRx []
     ((framed 1 0).sawFraming 95 f.fawOk f.pos f.arrival).framedAt 95 f.pos = true ∧
     (((upLane 95 1 0 booted).sawFraming 95 f.fawOk f.pos f.arrival).lane 95).inFrame = false) ∧
    (upLane 95 3 4 booted).receives 95 = true ∧ (upLane 95 3 4 booted).isClient 95 = true ∧
    (upLane 95 3 4 booted).rxBlock 95 (1#2, 0#64) = some (1#2, 0#64) ∧
    ((upLane 95 3 4 booted).setFld F.LOOPBACK_MODE 1 95).rxBlock 95 (1#2, 0#64) = none := by decide +kernel

/-- Landing frame 0 of lane 5 is there to be read. -/
def landedState : State :=
  pathState.setLane 5 { landings := [{ l := 0, complete := some 0, slots := [(0, ⟨.pass, []⟩)] }] }

theorem witness_FramesLandAndLeave :
    (∀ s ∈ [booted, landedState], s.oldObjs 1 = [] ∧ s.oldWords 1 = [] ∧ s.aheadWrs 1 = []) ∧
    (booted.frameDoneAt 95 1).isSome = true ∧
    (upLane 95 2 9 booted).mayRelease 95 1 = true ∧ (upLane 95 2 9 booted).transmits 95 1 = true ∧
    ((upLane 95 2 9 booted).setFld F.LOOPBACK_MODE 2 95).loopLine 95 = true ∧
    ((upLane 95 2 9 booted).setOn F.LANE_STATUS_TX_READY false 95).transmits 95 1 = false ∧
    landedState.active = true ∧ 0 < landedState.laneSlots 3 ∧ sourced pathEntry = true ∧
    landedState.heldHalted 7 3 = false ∧ landedState.readsFrame 3 1 = some 0 ∧
    (let p := landedState.pickSource 1 0 (slotIdx 3 0)
     (p.2.readSource pathEntry (entrySource pathEntry (slotIdx 3 0) p.1) 0 1).isSome = true) ∧
    landedState.storeOf 3 1 0 = none := by decide +kernel

theorem witness_ReferenceMonitors :
    (let s := (upLane 95 2 9 booted).setOn F.BAY_STATUS_POWERED true 11
     candLane 111 = some 95 ∧ s.gateEnds 111 = true ∧
       (s.setOn F.LANE_STATUS_CDR_LOCK true 95).on F.LANE_STATUS_CDR_LOCK 95 = true) ∧
    booted.candFit 15 = false := by decide +kernel

theorem witness_FaultsAreCollected : booted.faults.resetWanted = false ∧ booted.alive = true ∧
    booted.faultClass ⟨0x0F, 1, 0, 0, false⟩ = clsFatal ∧ booted.openNow = none ∧
    ({ booted with faults := { booted.faults with handling := some (1, 5) } } : State).openNow = some 1 ∧
    booted.spiIn = [] ∧ booted.dccIn = [] ∧ (booted.mac 0).rx = [] := by decide +kernel

theorem witness_Reinitialisations : reinitOk 0 0 = false ∧ reinitOk 8 0 = true ∧
    (booted.reinitOf 8 0).running = false ∧ 0 + 1 ≤ booted.fld F.FAULT_CONFIG_REINIT_LIMIT := by decide +kernel

theorem witness_TemperatureAndRails : (List.replicate 16 (960 : Int)).length = 16 ∧
    hottest 0 (List.replicate 16 960) = some (0, 960) := by decide +kernel

theorem witness_FirmwareIsVerified : (findRow O.FW_IMAGE).isSome = true := by decide +kernel

theorem witness_VaultServices : (List.replicate 11 (0 : Word)).length = 11 ∧ (List.replicate 8 (0 : Word)).length = 8 ∧
    booted.faults.resetWanted = false := by decide +kernel

theorem witness_StartUpStepByStep :
    ({ State.reset with startup := .verifying 1 true } : State).startup = .verifying 1 true ∧ State.reset.resetLow = false ∧
    State.reset.spiIn = [] ∧ State.reset.dccIn = [] ∧ (State.reset.mac 1).rx = [] := by decide +kernel

theorem witness_PinsAndReceivedFrames : ethOk eth = true ∧ (booted.mac 0).rx = [] ∧
    BitVec.ofNat 96 (0xFFFFFFFF : Word).toNat &&& 0xCF0F = (0xCF0F : Val) := by decide +kernel

theorem witness_FaultDeclarations : ownerParty 0x4000 = some (11, 0) ∧ ownerParty (0x8000 + 8 * 256) = some (8, 0) ∧
    ownerParty 0x4060 = some (14, booted.pairNow) ∧ ownerParty (0x8000 + 18 * 256) = some (18, 0) := by decide +kernel

theorem witness_EmptyQueueReads : (booted.chanOf 95 3).ext = [] := by decide +kernel

/-- For LaneEventFrames and UnitEventFrames: an event of each group that answers a next state. -/
theorem witness_frames : ∀ c ∈ [Instr.losDeclare 0 95, .traceAcceptance 0 95 .j0, .watchdog 0, .fopChange 0 47 true,
    .ringHeadSend 0, .pauseExpiry 0 1],
    (∃ u, exec c booted = .next u) ∧
      (c.laneEvent = some 95 ∨ c.timingEvent = true ∨ c.protectionEvent = true ∨ c.pairEvent = true ∨
        c.portEvent = true) ∧ c.tick = 0 := by
  intro c hc
  refine ⟨?_, by revert hc c; decide +kernel⟩
  simp only [List.mem_cons, List.not_mem_nil, or_false] at hc
  rcases hc with rfl | rfl | rfl | rfl | rfl | rfl <;> exact ⟨_, rfl⟩

theorem witness_EveryCommandAnswers : (Instr.losDeclare 0 96).wf = false ∧ (Instr.losDeclare 0 95).wf = true := by decide

theorem witness_queue : ({ booted with pending := [.readStatus 0] } : State).pendingOk = true ∧
    ({ booted with pending := [.readStatus 0] } : State).pending = .readStatus 0 :: [] ∧ booted.pending = [] := by
  decide +kernel

theorem witness_EveryStepKeepsSound : booted.Sound ∧ step booted = .next booted :=
  ⟨⟨by decide +kernel, witness_numbersOk⟩, rfl⟩

/-! ### Check values (R398, R99, R138, R60): the published check values over the ASCII digits 1 to 9 -/

def digits : List Byte := [0x31, 0x32, 0x33, 0x34, 0x35, 0x36, 0x37, 0x38, 0x39]
theorem test_crc32c : crc32c digits = 0xE3069283 := by decide +kernel
theorem test_crc32 : checkValue 0 digits = 0xCBF43926 := by decide +kernel
theorem test_crc16_ccitt : crc16 digits = 0x29B1 := by decide +kernel
theorem test_crc8 : crc8 digits = 0xF4 := by decide +kernel
theorem test_bip8 : bip8 [0xF0, 0x3C] = 0xCC := by decide +kernel

/-! ### Frame numbers (R7) -/

theorem test_frame_boundary : fnOf (3 * frame) = 3 ∧ fnOf (3 * frame - 1) = 2 := by decide +kernel

/-! ### Lanes and defects -/

/-- Lane 3, a TTF lane in service whose loss has lasted since instant 0. -/
def lossy : State := (upLane 3 2 9 booted).setLane 3 { inService := true, lossSince := some 0, upSince := some 0 }

theorem test_los_after_10_us : (after (.losDeclare (10 * us) 3) lossy).defect 3 dLos = true := by decide +kernel
theorem test_los_not_before : (after (.losDeclare (10 * us - 1) 3) lossy).defect 3 dLos = false := by decide +kernel
theorem test_los_clears_after_125_us :
    (after (.losClear (125 * us) 3) (lossy.putBit (lineObj 3) dLos true)).defect 3 dLos = false := by decide +kernel
theorem test_los_masks_lof : -- R117
    (after (.losDeclare (10 * us) 3) (lossy.putBit (lineObj 3) dLof true)).defect 3 dLof = false := by decide +kernel
theorem test_lof_after_3_ms :
    let s := ((upLane 3 2 9 booted).putBit (lineObj 3) dOof true).setLane 3 { oofSince := some 0 }
    (after (.lofDeclare (3 * ms) 3) s).defect 3 dLof = true ∧
    (after (.lofDeclare (3 * ms - 1) 3) s).defect 3 dLof = false := by decide +kernel
theorem test_lof_clears :
    (after (.lofClear (3 * ms) 3) (((upLane 3 2 9 booted).putBit (lineObj 3) dLof true).setLane 3
      { inFrame := true, inSince := some 0 })).defect 3 dLof = false := by decide +kernel
theorem test_lobl :
    (after (.loblDeclare (125 * us) 3) ((upLane 3 3 4 booted).setLane 3 { lockGone := some 0 })).defect 3 dLobl = true
    := by decide +kernel
theorem test_lobl_clears_after_1_ms :
    (after (.loblClear ms 3) (((upLane 3 3 4 booted).putBit (lineObj 3) dLobl true).setLane 3
      { blockLock := true, lockHeld := some 0 })).defect 3 dLobl = false := by decide +kernel
theorem test_ais_l_after_5_frames : -- R109
    let s := fun n => (upLane 3 1 2 booted).setLane 3 { runs := [(runKey kAisL 0, ⟨1, n⟩)] }
    (after (.defectPersistence 0 3 .aisL) (s 5)).defect 3 dAisL = true ∧
    (after (.defectPersistence 0 3 .aisL) (s 4)).defect 3 dAisL = false := by decide +kernel
theorem test_clock_class_accepted : -- R71
    let s := fun n => (upLane 3 2 9 booted).setLane 3 { runs := [(runKey kClass 0, ⟨0x21, n⟩)] }
    (after (.fieldAcceptance 0 3 .clockClass) (s 3)).fld F.TTF_RX_INFO_CLOCK_CLASS 3 = 0x21 ∧
    (after (.fieldAcceptance 0 3 .clockClass) (s 2)).fld F.TTF_RX_INFO_CLOCK_CLASS 3 ≠ 0x21 := by decide +kernel
theorem test_s1_accepted_after_8 : -- R88
    let s := fun n => ((upLane 3 1 2 booted).setFld F.SDH_RX_OH_S1_ACCEPTED 0xF 3).setLane 3
      { runs := [(runKey kS1 0, ⟨2, n⟩)] }
    (after (.s1Acceptance 0 3) (s 8)).fld F.SDH_RX_OH_S1_ACCEPTED 3 = 2 ∧
    (after (.s1Acceptance 0 3) (s 7)).fld F.SDH_RX_OH_S1_ACCEPTED 3 = 0xF := by decide +kernel
theorem test_trace_accepted : -- R87
    let s := (upLane 3 1 2 booted).setLane 3 { message := [(siteKey .j0, ([0x41], 3))] }
    ((after (.traceAcceptance 0 3 .j0) s).traceRx 3 .j0).take 2 = [0x41, 0] := by decide +kernel
theorem test_framer_needs_two_words : -- R103
    let u := after (.ttfFrameReceive 0 3 fawRx) (upLane 3 2 9 booted)
    (u.lane 3).candidate = some (0, 0) ∧ (u.lane 3).inFrame = false := by decide +kernel
theorem test_fourth_bad_word_loses_frame : -- R103
    let s := (upLane 3 2 9 booted).setLane 3 { inFrame := true, inSince := some 0, badWords := 3 }
    let u := after (.ttfFrameReceive 0 3 ttfRx) s
    (u.lane 3).inFrame = false ∧ u.defect 3 dOof = true := by decide +kernel
theorem test_word_before_up_is_not_seen : -- R103
    let s := (upLane 3 2 9 booted).setLane 3 { upSince := some 5 }
    ((after (.ttfFrameReceive 4 3 fawRx) s).lane 3).candidate = none := by decide +kernel
theorem test_gate_of_a_lane_shows_its_offset : -- R39
    let s := ((upLane 3 2 9 booted).setOn F.LANE_STATUS_CDR_LOCK true 3).setOn F.BAY_STATUS_POWERED true 0
    let u := after (.freqGateEnd 0 19 200000) s
    u.fld F.RX_FREQ_OFFSET_OFFSET 3 = 200000 ∧ u.laneState 3 = LaneState.up.code := by decide +kernel
theorem test_200_ppm_is_within_limits : freqOk 200000 = true ∧ freqOk (-200001) = false := by decide -- R39
theorem test_block_lock_at_64 : -- R105
    let s := (upLane 3 3 4 booted).setLane 3 { goodHdrs := 63 }
    ((after (.clientBlockReceive 0 3 1#2 0) s).lane 3).blockLock = true ∧
    ((after (.clientBlockReceive 0 3 0#2 0) s).lane 3).blockLock = false := by decide +kernel
theorem test_tx_ready : -- R55
    let u := after (.txReady 0 3 7) ((withLane 3 2 9 booted).setFld F.LANE_STATE_STATE LaneState.powering.code 3)
    u.laneState 3 = LaneState.acquiring.code ∧ u.fld F.TX_PIN_DELAY_FS 3 = 7 := by decide +kernel
theorem test_adaptation : -- R55
    let u := after (.adaptationComplete 0 3 9 1 2 3)
      ((withLane 3 2 9 booted).setFld F.LANE_STATE_STATE LaneState.adapting.code 3)
    u.laneState 3 = LaneState.up.code ∧ u.fld F.RX_PIN_DELAY_FS 3 = 9 := by decide +kernel
theorem test_ltd_clears_at_8000 : -- R201
    let s := fun n => (booted.setOn F.LEDGER_STATUS_LTD true 3).setLane 3 { ledger := { inRun := n } }
    (after (.ltdClear 0 3) (s 8000)).on F.LEDGER_STATUS_LTD 3 = false ∧
    (after (.ltdClear 0 3) (s 7999)).on F.LEDGER_STATUS_LTD 3 = true := by decide +kernel

/-! ### Timing, outputs, protection -/

theorem test_activity_lost : -- R212
    (after (.actLost 0 15) (booted.setCand 15 { active := true })).objBit (F.CAND_STICKY_ACT_LOST.obj 15)
      F.CAND_STICKY_ACT_LOST.lo = true := by decide +kernel
theorem test_holdover_class : -- R224
    let s := ({ booted with timing := { booted.timing with freewheelFrom := some 0 } } : State).setFld F.LOOP_STATUS_STATE 3
    (after (.holdoverExpiry (s.fld F.HOLDOVER_TIME_SECONDS * sec)) s).fld F.LOOP_STATUS_CLASS = 0x40 := by decide +kernel
theorem test_second_adds_a_sample : -- R225
    (after (.dtsSecondBoundary sec) booted).timing.history.length = 1 := by decide +kernel
theorem test_pps_first_edge : -- R243
    ((after (.ppsPulse sec 3) ((booted.setOn F.PPS_CONFIG_ENABLE true 3).setFld F.LOOP_STATUS_CLASS 0x10)).pulse 3).at_ =
      sec + 1 := by decide +kernel
theorem test_aps_far_request : -- R249: request 13, channel 1, bridged 1
    let u := after (.apsAcceptance 0 47) ((booted.setOn F.APS_CONFIG_ENABLE true 47).setAps 47 { farRun := ⟨0xD110, 3⟩ })
    u.fld F.APS_STATUS_FAR_CH 47 = 1 ∧ u.fld F.APS_STATUS_FAR_BRIDGED 47 = 1 := by decide +kernel
theorem test_sf_selects_protection : -- R250
    (after (.holdOffExpiry 0 47 false false) apsState).apsSelected 47 = true := by decide +kernel

theorem test_sd_moves_the_selector : -- R255
    let u := after (.pathHoldOffExpiry 0 3 0) pathState
    entrySel (u.xc.entryOn pathState.nextPage (slotIdx 3 0)) = 1 := by decide +kernel

/-! ### The pair and the ring -/

theorem test_peer_lost : -- R265
    let s := (booted.setOn F.MODES_ACTIVE_TANDEM true).setOn F.TANDEM_STATUS_PEER_PRESENT true
    (after (.recordLossTimeout 0) { s with tandem := { s.tandem with missing := 8 } }).on F.TANDEM_STATUS_PEER_PRESENT =
      false := by decide +kernel
theorem test_bad_record_counts : -- R264
    let u := after (.tandemRecord 0 1 record) (booted.setOn F.MODES_ACTIVE_TANDEM true)
    u.fld F.RECORD_BAD_T1_COUNT = 1 ∧ u.fld F.RECORD_BAD_T0_COUNT = 0 := by decide +kernel
theorem test_bad_ring_head_counts : -- R273
    (after (.ringHead 0 2 ringHead) (booted.setOn F.MODES_ACTIVE_GALLERY true)).fld
      F.RING_CRC_BAD_COUNT = 1 := by decide +kernel
theorem test_good_ring_head : -- R273
    let u := after (.ringHead frame 2 (sealHead { ringHead with arrival := frame })) (booted.setOn F.MODES_ACTIVE_GALLERY true)
    (u.ringPort 2).heads = 1 ∧ u.fld F.RING_CRC_BAD_COUNT = 0 := by decide +kernel
theorem test_unmute_after_8000 : -- R280
    let s := (booted.setOn F.MODES_ACTIVE_GALLERY true).setOn F.GALLERY_STATUS_MUTED true
    (after (.unmute 0) { s with gallery := { s.gallery with quietRun := 8000 } }).muted = false ∧
    (after (.unmute 0) { s with gallery := { s.gallery with quietRun := 7999 } }).muted = true := by decide +kernel

/-! ### Folla -/

theorem test_open_takes_number_2 : -- R330
    let u := after (.openMsg 0 src opening 0 false true 5 (List.replicate 32 0)) booted
    u.lastReply.map (fun r => (r.status, r.seq)) = some (stOk, 7) ∧
    (u.session 2).map (fun x => (x.idle, x.next, x.events)) = some (5 * sec, 8, true) := by decide +kernel
theorem test_open_of_a_closed_partition : -- R330
    (after (.openMsg 0 src opening 1 false true 5 (List.replicate 32 0)) booted).lastReply.map (·.status) = some stValue
    := by decide +kernel
theorem test_close : -- R331
    let u := after (.closeMsg 0 src head) booted
    u.session 1 = none ∧ u.freeNums.getLast? = some 1 := by decide +kernel
theorem test_wrong_peer_is_discarded : -- R330
    (after (.keepaliveMsg 0 ⟨.eth 0, 5, none, 0⟩ head) booted).fld F.FOLLA_DISCARDS_COUNT = 1 := by decide +kernel
theorem test_access_reads_device_id : -- R326
    (after (.accessMsg 0 src head [⟨O.DEVICE_ID, 0, false, 1, []⟩]) booted).lastReply.map (·.status) = some stOk := by
  decide +kernel
theorem test_access_unknown_object : -- R326
    (after (.accessMsg 0 src head [⟨0x00FFFFFF, 0, false, 1, []⟩]) booted).lastReply.map (·.status) = some stUnknown := by
  decide +kernel
theorem test_commit_without_transaction : -- R332
    (after (.commitMsg 0 src head 0) booted).lastReply.map (·.status) = some stNoTxn := by decide +kernel
theorem test_commit_takes_an_id : -- R332
    let s := { booted with sessions := [{ sess with txn := some [⟨O.TEST_BYTE, none, 0x5A⟩] }] }
    (after (.commitMsg 0 src head 0) s).txns.map (fun q => (q.id, q.fn)) = [(1, 2)] := by decide +kernel
theorem test_claim : -- R337
    let u := after (.claimMsg 0 src head O.TEST_BYTE 0 1000) booted
    (u.claim (claimKey O.TEST_BYTE 0)).holder = 1 ∧ (u.claim (claimKey O.TEST_BYTE 0)).leaseEnd = sec := by decide +kernel
theorem test_renew_of_no_claim : -- R338
    (after (.renewMsg 0 src head O.TEST_BYTE 0 1000) booted).lastReply.map (·.status) = some stAccess := by decide +kernel
theorem test_cancel_unknown : -- R336
    (after (.cancelMsg 0 src head 9) booted).lastReply.map (·.status) = some stValue := by decide +kernel
theorem test_idle_expiry : -- R331
    (after (.sessionIdleExpiry (60 * sec) 1) booted).session 1 = none ∧
    (after (.sessionIdleExpiry (60 * sec - 1) 1) booted).session 1 = some sess := by decide +kernel
theorem test_read_msg_of_an_empty_port : (after (.readMsg 0 2) booted).miso = [0, 0] := by decide +kernel -- R346
theorem test_read_status : (after (.readStatus 0) booted).miso = [0, 0, 0x20, 0] := by decide +kernel -- R346: 8192 free
theorem test_lease_expiry : -- R338
    let s := { booted with claims := [(claimKey O.TEST_BYTE 0, ⟨1, 0, sec, 1000, false⟩)] }
    ((after (.leaseExpiry sec O.TEST_BYTE 0) s).claim (claimKey O.TEST_BYTE 0)).mark = true ∧
    ((after (.leaseExpiry (sec - 1) O.TEST_BYTE 0) s).claim (claimKey O.TEST_BYTE 0)).holder = 1 := by decide +kernel

/-! ### Objects -/

theorem test_staged_write_leaves_the_value : -- R318
    let u := after (.registerWrite 0 1 O.TEST_BYTE [0x5A]) booted
    u.fld F.TEST_BYTE_BYTE = booted.fld F.TEST_BYTE_BYTE ∧ (u.session 1).any (fun x => x.txn.isSome) = true := by
  decide +kernel
theorem test_w1c_clears_only_ones : -- R318
    let s := booted.setVal O.MEM_STICKY 3
    (after (.w1cWrite 0 1 O.MEM_STICKY 2) s).val O.MEM_STICKY = 1 := by decide +kernel
theorem test_pm_point_out_of_range : -- R314: points 0 to 4287
    (after (.pmReadSel 0 1 (BitVec.ofNat 64 (4288 * 2 ^ 48))) booted).lastOp.status = stValue ∧
    (after (.pmReadSel 0 1 (BitVec.ofNat 64 (4287 * 2 ^ 48))) booted).lastOp.status = stOk := by decide +kernel
theorem test_window_start : -- R161
    (after (.xcWindowStart 0 1 98303) booted).fld F.XC_WINDOW_START_G = 98303 ∧
    (after (.xcWindowStart 0 1 98304) booted).lastOp.status = stValue := by decide +kernel
theorem test_tca_log_empty : (after (.tcaLog 0 1) booted).lastOp.data = [0xFFFFFFFF, 0] := by decide +kernel -- R315
theorem test_empty_extract_queue : (after (.extWindow 0 1 95 3) booted).lastOp.data = [0x80, 0] := by decide +kernel -- R292
theorem test_insert : -- R322
    ((after (.insWindow 0 1 95 3 0x0C 0x01020304) booted).chanOf 95 3).ins.length = 1 := by decide +kernel
theorem test_snapshot_and_clear : -- R48
    let s := booted.setLive (objAt O.FEC_CW 3) 5
    (after (.snapshot 0 1 (.fec 3)) s).fld F.FEC_CW_COUNT 3 = 5 ∧
    (after (.clear 0 1 (.fec 3)) s).liveOf (objAt O.FEC_CW 3) = 0 := by decide +kernel
theorem test_dma_addr : -- R369
    (after (.dmaAddr 0 1 (BitVec.ofNat 64 0x5F000010)) booted).fld F.DMA_ADDR_OFFSET = 0x10 ∧
    (after (.dmaAddr 0 1 (BitVec.ofNat 64 0xC0000000)) booted).lastOp.status = stValue := by decide +kernel
theorem test_dma_write : -- R369, big-endian
    let u := after (.dmaWindow 0 1 (some 0x01020304)) dmaState
    Map.get 0 (95 * 2 ^ 24) u.banks = 1 ∧ Map.get 0 (95 * 2 ^ 24 + 3) u.banks = 4 := by decide +kernel
theorem test_cvu_byte : -- R398: CRC-32 (ALGO 0) of the byte 0x31
    let s := ({ booted with claims := [(cvuKey 7, ⟨1, 0, sec, 1000, false⟩)] } : State).setFld F.CVU_VALUE_VALUE 0xFFFFFFFF 7
    let s := s.setFld F.CVU_CONFIG_ALGO 0 7
    (after (.cvuByte 0 1 7 0x31) s).fld F.CVU_VALUE_VALUE 7 = 0x83DCEFB7 ^^^ 0xFFFFFFFF := by decide +kernel
theorem test_engine_freeze : (after (.freeze 0 1 100 true) booted).pcFrozen 100 = true := by decide +kernel -- R375

/-! ### MACs and pins -/

theorem test_link_down_sets_sticky : -- R350
    let s := (booted.setOn F.MAC_STATUS_LINK_UP true 1).setOn F.MAC_CONFIG_ENABLE true 1
    let u := after (.linkDown 0 1) s
    u.macUp 1 = false ∧ u.objBit (F.MAC_STICKY_LINK.obj 1) F.MAC_STICKY_LINK.lo = true := by decide +kernel
theorem test_pause_ends : -- R356
    let s := (booted.setOn F.MAC_STATUS_PAUSED true 1).setMac 1 { pauseEnd := some 5 }
    (after (.pauseExpiry 5 1) s).on F.MAC_STATUS_PAUSED 1 = false ∧ (after (.pauseExpiry 4 1) s).on F.MAC_STATUS_PAUSED 1 =
      true := by decide +kernel
theorem test_short_frame_is_counted : -- R352, row 3
    let s := (booted.setOn F.MAC_STATUS_LINK_UP true 0).setOn F.MAC_CONFIG_ENABLE true 0
    (after (.macFrameReceive 0 0 { eth with size := 63 }) s).liveOf (objAt O.MAC_COUNTER 0 4) = 1 := by decide +kernel
theorem test_park_ends_after_64_ns : -- R434
    let s := booted.setPin 31 { parkFrom := some 0, target := some (1, 0) }
    ((after (.parkEnd (64 * ns) 31) s).pin 31).func = 1 ∧ ((after (.parkEnd (64 * ns - 1) 31) s).pin 31).func = 0 := by
  decide +kernel

/-! ### Faults, power, security, start-up -/

theorem test_corrected_fault : -- R383
    let u := after (.faultRaise 0 corrected) booted
    u.fld F.CORRECTED_COUNT_COUNT = 1 ∧ u.faults.fatal = false ∧ u.faults.log = [] := by decide +kernel
theorem test_fatal_fault : -- R387
    let u := after (.faultRaise 0 ⟨0x0F, 1, 0, 0, false⟩) booted
    u.faults.fatal = true ∧ u.faults.log.map (fun r => (r.record, r.step)) = [(1, 4)] := by decide +kernel
theorem test_declare_subsystem_18 : -- R393
    (after (.faultDeclare 0 1 (0x8000 + 18 * 256)) booted).lastOp.status = stValue := by decide +kernel
theorem test_declare_session : -- R389, R393
    (after (.faultDeclare 0 1 2) booted).gen (ownSession 2) = 1 := by decide +kernel
theorem test_reset_needs_its_key : -- R401
    (after (.deviceReset 0 1 0) booted).lastOp.status = stValue ∧
    (after (.deviceReset 0 1 0x5745524D) booted).startup = .flywheel := by decide +kernel
theorem test_reinit_of_no_unit : (after (.reinit 0 1 0 0) booted).lastOp.status = stValue := by decide +kernel -- R395
theorem test_120_degrees_is_fatal : -- R405
    (after (.tempSample 0 (List.replicate 16 960)) booted).faults.fatal = true ∧
    (after (.tempSample 0 (List.replicate 16 959)) booted).faults.fatal = false := by decide +kernel
theorem test_wipe_needs_its_key : -- R421
    (after (.wipe 0 1 0) booted).lastOp.status = stValue ∧ (after (.wipe 0 1 0x57495045) booted).wiping = true := by
  decide +kernel
theorem test_tamper_latches : -- R422
    let s := (booted.setFld F.TAMPER_CONFIG_ENABLE 8).setFld F.TAMPER_CONFIG_POLARITY 8
    (after (.tamperEvent 0 3 true) s).tampered = true ∧ (after (.tamperEvent 0 3 false) s).tampered = false := by
  decide +kernel
theorem test_supplies_rise_in_order : -- R426
    (after (.vddAonGood 0 ⟨true, false, false⟩ none) State.reset).startup = .rail 0 ∧
    (after (.railInRange 0 0) { State.reset with startup := .rail 0 }).startup = .rail 1 ∧
    (after (.railTimeout 0 0) { State.reset with startup := .rail 0 }).startup = .stopped := by decide +kernel
theorem test_tempo_starts_dts_at_0 : -- R5
    let u := after (.tempoStart 7) { State.reset with startup := .flywheel }
    u.tempo = true ∧ u.dts = 0 ∧ u.startup = .rail 3 := by decide +kernel
theorem test_boot_strap : -- R416
    (after (.vaultReady 0) { State.reset with startup := .vault, straps := ⟨false, true, false⟩ }).startup = .bootService := by
  decide +kernel
theorem test_engines_load : -- R430
    (after (.enginesLoaded 0) { booted with startup := .loading }).startup = .serving := by decide +kernel
theorem test_reset_pulse : -- R428
    (after (.resetNAssert 0 99) booted).resetLow = false ∧ (after (.resetNAssert 0 150) booted).resetLow = true := by
  decide +kernel
theorem test_power_cycle : -- R427
    (after (.powerCycle 0) booted).sessions = [] ∧ (after (.powerCycle 0) booted).startup = .off := by decide +kernel
theorem test_transaction_applies : -- R335
    (after (.transactionApply 0 1) (dueState .pending)).fld F.TEST_BYTE_BYTE = 0x5A := by decide +kernel
theorem test_stale_hardware_claim : -- R388
    (after (.hwClaimRequest 0 9 1 7 .acquire) booted).lastOp.status = stStale := by decide +kernel
theorem test_bank_cleared : -- R371
    (after (.bankClearComplete 0 0xC3) (booted.setFld F.BANK_POWER_POWER 3 0xC3)).fld F.BANK_POWER_POWER 0xC3 = 2 := by
  decide +kernel
theorem test_pair_clock : -- R299
    let u := after (.dccClockReturn 0 3) booted
    u.on F.DCC_PORT_STATUS_CLK_PRESENT 7 = true ∧ u.on F.DCC_PORT_STATUS_CLK_PRESENT 5 = false := by decide +kernel
theorem test_step_takes_the_front :
    step { booted with pending := [.readStatus 0, .readMsg 0 0] } =
      exec (.readStatus 0) { booted with pending := [.readMsg 0 0] } := rfl

end Sys2Proof.Tests
end

section
/-! PROOFS. R7: which instants of DTS a frame holds, and the number that `fnOf` gives them. -/

namespace Sys2Proof.Machine

/-- R7: a frame is 125 µs. -/
theorem frame_eq_125_us : frame = 125 * us := rfl

/-- R7: frame k holds its first boundary and not its last. -/
theorem div_frame_eq_iff {d k : Tick} : d / frame = k ↔ k * frame ≤ d ∧ d < (k + 1) * frame := by
  have hpos : 0 < frame := by decide
  rw [Nat.div_eq_iff hpos, Nat.succ_mul, Nat.le_sub_one_iff_lt (Nat.add_pos_right _ hpos)]

theorem fnOf_of_mem_frame {d k : Tick} (hfrom : k * frame ≤ d) (hto : d < (k + 1) * frame) :
    fnOf d = k % 2 ^ 48 := by
  rw [fnOf, div_frame_eq_iff.mpr ⟨hfrom, hto⟩]

/-- R7: an instant on a boundary is in the frame that starts there. -/
theorem fnOf_boundary (k : Nat) : fnOf (k * frame) = k % 2 ^ 48 :=
  fnOf_of_mem_frame le_rfl (Nat.mul_lt_mul_of_pos_right k.lt_succ_self (by decide))

/-- Settles O50: `fnOf` divides by a frame of 125 µs, and the instants whose quotient is k are those of frame k. -/
theorem frameNumbers : Obligations.FrameNumbers := by
  unfold Obligations.FrameNumbers
  refine ⟨frame_eq_125_us, fun _ => rfl, fun d => ?_, fun k d => ⟨fnOf_of_mem_frame, div_frame_eq_iff.mp, ?_, ?_⟩⟩
  · rw [fnOf, frame_eq_125_us]
  · exact fnOf_boundary k
  · exact fnOf_boundary (k + 1)

end Sys2Proof.Machine
end

section
/-! PROOFS. R342 to R345: a reply that leaves changes the open sessions in their event queues only. -/

namespace Sys2Proof.Machine

/-- A session without what events have queued for it (R343). -/
def Session.noEvents (x : Session) : Session := { x with evQueue := [], evLost := false }

@[simp] theorem Session.noEvents_queueEvent (x : Session) (o : Nat) (v : Word) :
    (x.queueEvent o v).noEvents = x.noEvents := by
  unfold Session.queueEvent
  split
  · rfl
  · split <;> rfl

variable (s : State)

@[simp] theorem State.queueAll_noEvents (o : Nat) :
    (s.queueAll o).sessions.map Session.noEvents = s.sessions.map Session.noEvents := by
  simp only [State.queueAll, List.map_map]
  refine List.map_congr_left fun x _ => ?_
  simp only [Function.comp_apply, apply_ite Session.noEvents, Session.noEvents_queueEvent, ite_self]

@[simp] theorem State.event_noEvents (o : Nat) :
    (s.event o).sessions.map Session.noEvents = s.sessions.map Session.noEvents := by
  unfold State.event
  dsimp only
  split
  · split <;> simp
  · simp

@[simp] theorem State.raise_noEvents (f : Fld) (i e : Nat) :
    (s.raise f i e).sessions.map Session.noEvents = s.sessions.map Session.noEvents := by
  unfold State.raise State.raiseBit
  split
  · rfl
  · dsimp only
    split <;> simp

@[simp] theorem State.macCount_noEvents (m k n : Nat) :
    (s.macCount m k n).sessions.map Session.noEvents = s.sessions.map Session.noEvents := by
  unfold State.macCount
  dsimp only
  split <;> simp

@[simp] theorem State.macEnqueue_noEvents (m cls : Nat) (x : TxEth) :
    (s.macEnqueue m cls x).sessions.map Session.noEvents = s.sessions.map Session.noEvents := by
  unfold State.macEnqueue
  dsimp only
  split <;> simp

@[simp] theorem State.setFc_sessions (lane c : Nat) : (s.setFc lane c).sessions = s.sessions :=
  (State.setFc_same (K := 2 ^ 14) (B := 0) lane c (by decide) (by decide) (Same.refl _ _ s)).sessions (by decide)

@[simp] theorem State.putChan_sessions (lane c : Nat) (x : Chan) : (s.putChan lane c x).sessions = s.sessions := rfl

@[simp] theorem State.mgmtQueue_noEvents (bytes : List Byte) :
    (s.mgmtQueue bytes).sessions.map Session.noEvents = s.sessions.map Session.noEvents := by
  unfold State.mgmtQueue State.raiseIf
  dsimp only
  split
  · simp
  · split <;> simp

@[simp] theorem State.deliver_noEvents (r : Reply) (cls : Nat) :
    (s.deliver r cls).sessions.map Session.noEvents = s.sessions.map Session.noEvents := by
  unfold State.deliver
  split
  · exact s.macEnqueue_noEvents _ _ _
  · split
    · rfl
    · simp
  · exact s.mgmtQueue_noEvents _

end Sys2Proof.Machine
end

section
/-! PROOFS. R325, R328, R340: a request of an open session that comes in its turn is done once, its reply stored and sent;
and nothing follows where neither the session's end nor a new key, a held request or a warm reset is due. -/

namespace Sys2Proof.Machine

/-! ### Sessions by number -/

theorem State.session_num {s : State} {n : Nat} {x : Session} (hx : s.session n = some x) : x.num = n := by
  simpa using List.find?_some hx

theorem State.modSession_of_fixed {s : State} {n : Nat} {f : Session → Session}
    (hf : ∀ z ∈ s.sessions, z.num = n → f z = z) : s.modSession n f = s := by
  have hmap : (s.sessions.map fun z => if z.num = n then f z else z) = s.sessions := by
    refine (List.map_congr_left fun z hz => ?_).trans (List.map_id _)
    split
    · next hn => exact hf z hz hn
    · rfl
  rw [State.modSession, hmap]

theorem State.session_setSession {s : State} {x y : Session} (hx : s.session y.num = some x) :
    (s.setSession y).session y.num = some y := by
  unfold State.session State.setSession at *
  generalize s.sessions = l at hx ⊢
  induction l with
  | nil => simp at hx
  | cons z l ih =>
    by_cases hz : z.num = y.num
    · simp [hz]
    · simpa [hz] using ih (by simpa [hz] using hx)

theorem State.setSession_setSession (s : State) {x y : Session} (h : y.num = x.num) :
    (s.setSession x).setSession y = s.setSession y := by
  simp only [State.setSession, List.map_map]
  congr 1
  refine List.map_congr_left fun z _ => ?_
  by_cases hz : z.num = x.num <;> simp [hz, h]

/-! ### Nothing is due after a message -/

/-- After its message seq session z goes on as it is: neither its end nor a new key is due, it holds no request, and
another message may come under its key (R326, R328, R340, R419). -/
def Session.Rests (seq : Nat) (z : Session) : Prop :=
  z.closing = false ∧ z.newKey = none ∧ z.held = [] ∧ (seq = 2 ^ 32 - 1 → z.sealed = false)

/-- Nothing is due after message seq of session n, a warm reset neither (R401). -/
def State.Rests (s : State) (n seq : Nat) : Prop :=
  s.faults.resetWanted = false ∧ ∀ z ∈ s.sessions, z.num = n → z.Rests seq

theorem Session.rests_noEvents {seq : Nat} {z : Session} : z.noEvents.Rests seq ↔ z.Rests seq := Iff.rfl

/-- Whether something is due is read from the faults and from the sessions but for their event queues. -/
theorem State.Rests.congr {s t : State} {n seq : Nat} (h : s.Rests n seq) (hf : t.faults = s.faults)
    (hs : t.sessions.map Session.noEvents = s.sessions.map Session.noEvents) : t.Rests n seq := by
  obtain ⟨hreset, hrest⟩ := h
  refine ⟨hf ▸ hreset, fun z hz hn => ?_⟩
  obtain ⟨y, hy, hyz⟩ := List.mem_map.mp (hs ▸ List.mem_map_of_mem (f := Session.noEvents) hz)
  have hyn : y.num = n := (congrArg Session.num hyz).trans hn
  exact Session.rests_noEvents.mp (hyz ▸ Session.rests_noEvents.mpr (hrest y hy hyn))

theorem State.Rests.drainHeld {s : State} {n seq : Nat} (h : s.Rests n seq) (k : Nat) : State.drainHeld n k s = s := by
  cases k with
  | zero => rfl
  | succ k =>
    unfold State.drainHeld
    cases hx : s.session n with
    | none => rfl
    | some x =>
      obtain ⟨-, -, hheld, -⟩ := h.2 x (List.mem_of_find?_eq_some hx) (State.session_num hx)
      simp [hheld]

theorem State.Rests.wrapEnd {s : State} {n seq : Nat} (h : s.Rests n seq) : s.wrapEnd n seq = s := by
  unfold State.wrapEnd
  split
  · next hseq =>
    refine State.modSession_of_fixed fun z hz hn => ?_
    obtain ⟨-, -, -, hplain⟩ := h.2 z hz hn
    simp [hplain hseq]
  · rfl

theorem State.Rests.settleOps {s : State} {n seq : Nat} (h : s.Rests n seq) : s.settleOps n = s := by
  obtain ⟨hreset, hrest⟩ := h
  have hopen : (s.session n).any (·.closing) = false := by
    cases hx : s.session n with
    | none => rfl
    | some x => exact (hrest x (List.mem_of_find?_eq_some hx) (State.session_num hx)).1
  have hkey : s.rekeyed n = s := State.modSession_of_fixed fun z hz hn => by
    obtain ⟨-, hnew, -, -⟩ := hrest z hz hn
    simp [hnew]
  simp [State.settleOps, hopen, hkey, State.settleReset, hreset]

/-! ### The reply -/

/-- Reply r to message seq of session n is stored and leaves. -/
def State.sendReply (s : State) (n seq : Nat) (r : Reply) : State :=
  (s.modSession n fun z => { z with replies := ((seq, r) :: z.replies).take 16 }).answerWith r r.cls

theorem State.deliver_keeps_reply (s : State) (r : Reply) (cls : Nat) :
    Same (2 ^ 19 ||| 2 ^ 26 ||| 2 ^ 42) 0 s (s.deliver r cls) :=
  State.deliver_same r cls (by decide) (by decide) (Same.refl _ _ s)

@[simp] theorem State.sendReply_lastReply (s : State) (n seq : Nat) (r : Reply) :
    (s.sendReply n seq r).lastReply = some r :=
  (State.deliver_keeps_reply _ r r.cls).lastReply (by decide)

@[simp] theorem State.sendReply_claims (s : State) (n seq : Nat) (r : Reply) : (s.sendReply n seq r).claims = s.claims :=
  (State.deliver_keeps_reply _ r r.cls).claims (by decide)

theorem State.Rests.sendReply {s : State} {n seq : Nat} (h : s.Rests n seq) (r : Reply) :
    (s.sendReply n seq r).Rests n seq := by
  have hstored : State.Rests (s.modSession n fun z => { z with replies := ((seq, r) :: z.replies).take 16 }) n seq := by
    obtain ⟨hreset, hrest⟩ := h
    refine ⟨hreset, fun z hz hn => ?_⟩
    obtain ⟨y, hy, rfl⟩ := List.mem_map.mp hz
    split at hn
    · next hyn => rw [if_pos hyn]; exact hrest y hy hyn
    · contradiction
  exact hstored.congr ((State.deliver_keeps_reply _ r r.cls).faults (by decide)) (State.deliver_noEvents _ r r.cls)

/-! ### A message in its turn -/

section
variable {s v : State} {src : Src} {h : Head} {x : Session} {req : Req}

/-- What request req of session x does once the server has taken it as message h: STATUS, body, state. -/
def State.doAs (v : State) (src : Src) (h : Head) (x : Session) (req : Req) : Nat × List Byte × State :=
  (v.setSession (x.after src h v.now)).doReq (x.after src h v.now) req

theorem State.judgeMsg_of_talks (ht : v.talks src h x) (hopen : reqType req ≠ tyOpen) (hevent : req ≠ .event) :
    v.judgeMsg src h req = v.inSession x src h.seq req := by
  obtain ⟨hserves, hshut, hver, hresp, hlen, htrail, hx, hend, hsealed, hepoch, hplain, -⟩ := ht
  have hnamed : v.named src h req = v.inSession x src h.seq req := by simp [State.named, hx, hend, hevent]
  cases hs : x.sealed with
  | true =>
    simp [State.judgeMsg, State.sealedMsg, hserves, hshut, hver, hresp, hlen, htrail, hsealed, hs, hx, hepoch hs, hnamed]
  | false =>
    simp [State.judgeMsg, State.plainMsg, hserves, hshut, hver, hresp, hlen, htrail, hsealed, hs, hx, hplain hs, hopen,
      hnamed]

theorem State.talks_num (ht : v.talks src h x) : v.session x.num = some x := by
  obtain ⟨-, -, -, -, -, -, hx, -⟩ := ht
  rw [State.session_num hx, hx]

/-- R328: a message whose SEQ is next is done at once, and the requests held behind it after it. -/
theorem State.inSession_of_talks (ht : v.talks src h x) (req : Req) :
    v.inSession x src h.seq req = State.drainHeld x.num 8
      (((v.doAs src h x req).2.2.sendReply x.num h.seq
        (x.reply src (reqType req) h.seq (v.doAs src h x req).1 (v.doAs src h x req).2.1)).wrapEnd x.num h.seq |>.settleOps
          x.num) := by
  have hsess : (v.setSession { x with lastMsg := v.now, via := src.transport, vlan := src.vlan }).session x.num = _ :=
    State.session_setSession (State.talks_num (x := x) ht)
  have htwice := v.setSession_setSession (x := { x with lastMsg := v.now, via := src.transport, vlan := src.vlan })
    (y := x.after src h v.now) rfl
  obtain ⟨-, -, -, -, -, -, -, -, -, -, -, hseq, -⟩ := ht
  have hd : (h.seq + 2 ^ 32 - x.next) % 2 ^ 32 = 0 := by rw [hseq]; omega
  simp only [State.inSession, State.sequence, hd, if_true, State.execReq]
  rw [hsess]
  dsimp only
  rw [show ({ x with lastMsg := v.now, via := src.transport, vlan := src.vlan, next := (h.seq + 1) % 2 ^ 32 } : Session) =
    x.after src h v.now from rfl, htwice]
  rfl

/-- R328, R340: a request after which nothing is due leaves what it did, with its reply stored and sent. -/
theorem State.takeMsg_eq_sendReply (hv : v = s.leasesDue) (ht : v.talks src h x) (hopen : reqType req ≠ tyOpen)
    (hevent : req ≠ .event) (hrest : (v.doAs src h x req).2.2.Rests x.num h.seq) :
    s.takeMsg src h req = (v.doAs src h x req).2.2.sendReply x.num h.seq
      (x.reply src (reqType req) h.seq (v.doAs src h x req).1 (v.doAs src h x req).2.1) := by
  have hsent := hrest.sendReply
    (x.reply src (reqType req) h.seq (v.doAs src h x req).1 (v.doAs src h x req).2.1)
  rw [State.takeMsg, ← hv, State.judgeMsg_of_talks ht hopen hevent, State.inSession_of_talks ht, hsent.wrapEnd,
    hsent.settleOps, hsent.drainHeld]

/-- Taking a message that is not the last under its key makes nothing due. -/
theorem State.rests_of_talks (ht : v.talks src h x) (hon : x.goesOn h) :
    (v.setSession (x.after src h v.now)).Rests x.num h.seq := by
  obtain ⟨-, -, -, -, -, -, -, -, -, -, -, -, hheld, hclosing, hnew, hreset⟩ := ht
  refine ⟨hreset, fun z hz hn => ?_⟩
  have hafter : (x.after src h v.now).Rests h.seq :=
    ⟨hclosing, hnew, hheld, fun hseq => hon.resolve_right fun hlt => by omega⟩
  obtain ⟨y, -, rfl⟩ := List.mem_map.mp hz
  split at hn
  · next hyn => rw [if_pos hyn]; exact hafter
  · contradiction

end

end Sys2Proof.Machine
end

section
/-! PROOFS. R33, R337, R338: CLAIM, RENEW and RELEASE of a claim key other than XC_STAGE's. -/

namespace Sys2Proof.Machine

/-! ### What each request answers and leaves -/

/-- The claim that CLAIM gives session n (R338). -/
def State.leaseTo (s : State) (n lease : Nat) : Claim :=
  ⟨n, s.gen (ownSession n), s.now + s.leaseMs lease * ms, s.leaseMs lease, false⟩

/-- R337: the answer to a RENEW or RELEASE of a claim that session n does not hold. -/
def State.notHeld (s : State) (n k : Nat) : ClaimOut :=
  (if s.coverHolder n k = 0 then stAccess else stClaimed, s.coverHolder n k, s)

section
variable {s : State} {n obj scope lease k : Nat}
variable (hkey : k = claimKey obj scope) (hscope : scope ≤ 1) (hstage : k ≠ stageKey)
include hkey hscope hstage

theorem State.claimReq_eq : s.claimReq n obj scope lease =
    if s.overlapHolder n k ≠ 0 ∨ s.hwHolds k = true then (stClaimed, s.overlapHolder n k, s)
    else if (s.claim k).holder ≠ n ∧ (s.claim k).mark = false ∧ 256 ≤ s.claims.length then (stBusy, 0, s)
    else (if (s.claim k).holder ≠ n ∧ (s.claim k).mark = true then stAbandoned else stOk, 0,
      s.setClaim k (s.leaseTo n lease)) := by
  simp only [State.claimReq, ← hkey, if_neg (Nat.not_lt.mpr hscope), if_neg hstage]
  by_cases hother : s.overlapHolder n k = 0
  · by_cases hhw : s.hwHolds k = true
    · simp [hother, hhw]
    · by_cases hown : (s.claim k).holder = n
      · simp [hother, hhw, hown, State.leaseTo]
      · cases hmark : (s.claim k).mark <;> simp [hother, hhw, hown, State.leaseTo]
  · simp [hother]

theorem State.renewReq_eq : s.renewReq n obj scope lease =
    if (s.claim k).holder = n ∧ n ≠ 0 then
      (stOk, 0, s.setClaim k { s.claim k with leaseEnd := s.now + s.leaseMs lease * ms, lease := s.leaseMs lease })
    else s.notHeld n k := by
  simp only [State.renewReq, ← hkey, if_neg (Nat.not_lt.mpr hscope), if_neg hstage]
  by_cases hcover : s.coverHolder n k = 0 <;> simp [State.notHeld, hcover]

theorem State.releaseReq_eq : s.releaseReq n obj scope =
    if (s.claim k).holder = n ∧ n ≠ 0 then (stOk, 0, s.setClaim k noClaim) else s.notHeld n k := by
  simp only [State.releaseReq, ← hkey, if_neg (Nat.not_lt.mpr hscope), if_neg hstage]
  by_cases hcover : s.coverHolder n k = 0 <;> simp [State.notHeld, hcover]

end

/-! ### The requests as messages -/

section
variable {s v : State} {src : Src} {h : Head} {x : Session} {req : Req} {r : ClaimOut} {obj scope : Nat}

/-- R33: a request for a key that session x sees is done. -/
theorem State.keyed_of_seen (hseen : v.keyHidden x obj scope = false) :
    (v.setSession (x.after src h v.now)).keyed (x.after src h v.now) obj scope r = claimAnswer r := by
  have hafter : (v.setSession (x.after src h v.now)).keyHidden (x.after src h v.now) obj scope = false := hseen
  rw [State.keyed, hafter]
  rfl

/-- A request for a key that session x sees is answered with the status of what it does, and leaves the claims of it; f is
what it does for a session by its number, sessions and faults left alone. -/
theorem State.takeMsg_keyed {f : State → Nat → ClaimOut} (hv : v = s.leasesDue) (ht : v.talks src h x) (hon : x.goesOn h)
    (hseen : v.keyHidden x obj scope = false) (hopen : reqType req ≠ tyOpen) (hevent : req ≠ .event)
    (hdo : ∀ (w : State) (y : Session), w.doReq y req = w.keyed y obj scope (f w y.num))
    (hsame : ∀ w n, Same (2 ^ 14 ||| 2 ^ 42) 0 w (f w n).2.2)
    (hr : f (v.setSession (x.after src h v.now)) x.num = r) :
    (s.takeMsg src h req).replied x h r.1 ∧ (s.takeMsg src h req).claims = r.2.2.claims := by
  subst hr
  have hdone : v.doAs src h x req = claimAnswer (f (v.setSession (x.after src h v.now)) x.num) :=
    (hdo _ _).trans (State.keyed_of_seen hseen)
  have hleft := hsame (v.setSession (x.after src h v.now)) x.num
  have hrest : (v.doAs src h x req).2.2.Rests x.num h.seq := by
    rw [hdone]
    exact (State.rests_of_talks ht hon).congr (hleft.faults (by decide)) (by rw [claimAnswer, hleft.sessions (by decide)])
  rw [State.takeMsg_eq_sendReply hv ht hopen hevent hrest, hdone]
  exact ⟨⟨_, State.sendReply_lastReply _ _ _ _, rfl, rfl, rfl, rfl⟩, State.sendReply_claims _ _ _ _⟩

end

theorem State.claim_of_setClaim {u s : State} {k : Nat} {c : Claim} (h : u.claims = (s.setClaim k c).claims) :
    u.claim k = c :=
  (congrArg (Map.get noClaim k) h).trans (Map.get_set_self noClaim k c s.claims)

/-- Settles O37: each request by its equation, in the state in which the session has taken the message; that state has the
claims, the instant and the settings of v. -/
theorem claimRequests : Obligations.ClaimRequests := by
  unfold Obligations.ClaimRequests
  intro t obj scope lease k src h s v x hsrc hhead hobj hv ht hon hkey hscope hstage hseen
  have hunits : (srcUnit src && headUnit h && objUnit obj) = true := by simp [hsrc, hhead, objUnit, hobj]
  refine ⟨⟨_, if_pos hunits, ?claim⟩, ⟨_, if_pos hunits, ?renew⟩, ⟨_, if_pos hunits, ?release⟩⟩
  case claim =>
    have hdone {r : ClaimOut} := State.takeMsg_keyed (r := r) (req := .claim obj scope lease)
      (f := fun w n => w.claimReq n obj scope lease) hv ht hon hseen (by simp [reqType]) (by simp) (fun _ _ => rfl)
      (fun _ _ => State.claimReq_same _ _ _ _ (by decide) (Same.refl _ _ _))
    have hreq := State.claimReq_eq (s := v.setSession (x.after src h v.now)) (n := x.num) (lease := lease) hkey hscope hstage
    by_cases hcover : v.overlapHolder x.num k ≠ 0 ∨ v.hwHolds k = true
    · rw [if_pos hcover]
      exact hdone (hreq.trans (if_pos hcover))
    · rw [if_neg hcover]
      have hfree := hreq.trans (if_neg hcover)
      by_cases hfull : (v.claim k).holder ≠ x.num ∧ (v.claim k).mark = false ∧ 256 ≤ v.claims.length
      · rw [if_pos hfull]
        exact hdone (hfree.trans (if_pos hfull))
      · rw [if_neg hfull]
        obtain ⟨hreply, hclaims⟩ := hdone (hfree.trans (if_neg hfull))
        exact ⟨hreply, fun _ => State.claim_of_setClaim hclaims⟩
  case renew =>
    have hdone {r : ClaimOut} := State.takeMsg_keyed (r := r) (req := .renew obj scope lease)
      (f := fun w n => w.renewReq n obj scope lease) hv ht hon hseen (by simp [reqType]) (by simp) (fun _ _ => rfl)
      (fun _ _ => State.renewReq_same _ _ _ _ (by decide) (Same.refl _ _ _))
    have hreq := State.renewReq_eq (s := v.setSession (x.after src h v.now)) (n := x.num) (lease := lease) hkey hscope hstage
    by_cases hown : (v.claim k).holder = x.num ∧ x.num ≠ 0
    · rw [if_pos hown]
      obtain ⟨hreply, hclaims⟩ := hdone (hreq.trans (if_pos hown))
      exact ⟨hreply, State.claim_of_setClaim hclaims⟩
    · rw [if_neg hown]
      exact hdone (hreq.trans (if_neg hown))
  case release =>
    have hdone {r : ClaimOut} := State.takeMsg_keyed (r := r) (req := .release obj scope)
      (f := fun w n => w.releaseReq n obj scope) hv ht hon hseen (by simp [reqType]) (by simp) (fun _ _ => rfl)
      (fun _ _ => State.releaseReq_same _ _ _ (by decide) (Same.refl _ _ _))
    have hreq := State.releaseReq_eq (s := v.setSession (x.after src h v.now)) (n := x.num) hkey hscope hstage
    by_cases hown : (v.claim k).holder = x.num ∧ x.num ≠ 0
    · rw [if_pos hown]
      obtain ⟨hreply, hclaims⟩ := hdone (hreq.trans (if_pos hown))
      exact ⟨hreply, State.claim_of_setClaim hclaims⟩
    · rw [if_neg hown]
      exact hdone (hreq.trans (if_neg hown))

end Sys2Proof.Machine
end

section
/-! PROOFS. What a field of one unit reads once another field of that unit was written or a sticky bit of it set, and which
part of a lane its watchers leave. -/

namespace Sys2Proof.Machine

/-! ### Fields of one unit -/

/-- Writing field f of a unit leaves field g of it: g lies in another object, or in other bits of the same one. -/
def Fld.apart (f g : Fld) : Bool :=
  g.base != f.base || decide (f.lo ≤ f.hi ∧ g.hi < 96 ∧ (g.hi < f.lo ∨ f.hi < g.lo))

/-- Setting sticky field f of a unit leaves field g of it: g lies in another object, of an area before that of
FOLLA_STICKY. -/
def Fld.aside (f g : Fld) : Bool := g.base != f.base && decide (g.base < 0x10000000)

theorem Fld.aside_base {f g : Fld} (h : f.aside g = true) : g.base ≠ f.base ∧ g.base < 0x10000000 := by
  simpa [Fld.aside] using h

theorem Fld.obj_ne_of_base {f g : Fld} (h : g.base ≠ f.base) (i : Nat) : g.obj i ≠ f.obj i := by
  unfold Fld.obj objAt
  omega

/-- No unit's field of an area before that of FOLLA_STICKY lies in it. -/
theorem Fld.obj_ne_follaSticky {g : Fld} {i : Nat} (hi : i < 4096) (h : g.base < 0x10000000) :
    g.obj i ≠ O.FOLLA_STICKY := by
  unfold Fld.obj objAt O.FOLLA_STICKY
  omega

section
variable (s : State) {f g : Fld} {i : Nat}

theorem State.fld_setFld_apart (h : f.apart g = true) (x : Nat) : (s.setFld f x i).fld g i = s.fld g i := by
  by_cases hb : g.base = f.base
  · obtain ⟨hlo, hhi, hbits⟩ : f.lo ≤ f.hi ∧ g.hi < 96 ∧ (g.hi < f.lo ∨ f.hi < g.lo) := by
      simpa [Fld.apart, hb] using h
    exact s.fld_setFld_ne f g x i 0 hb hlo hhi hbits
  · exact s.fld_setFld_obj f g x i 0 i 0 (Fld.obj_ne_of_base hb i)

theorem State.on_setFld_apart (h : f.apart g = true) (x : Nat) : (s.setFld f x i).on g i = s.on g i :=
  congrArg (· == 1) (s.fld_setFld_apart h x)

theorem State.fld_setOn_apart (h : f.apart g = true) (b : Bool) : (s.setOn f b i).fld g i = s.fld g i :=
  s.fld_setFld_apart h _

theorem State.on_setOn_apart (h : f.apart g = true) (b : Bool) : (s.setOn f b i).on g i = s.on g i :=
  s.on_setFld_apart h _

/-- A field reads as the value written where that fits its width. -/
theorem State.fld_setFld_fits {x : Nat} (hw : f.lo ≤ f.hi ∧ f.hi < 96) (hx : x < 2 ^ (f.hi + 1 - f.lo)) :
    (s.setFld f x i).fld f i = x :=
  (s.fld_setFld_self f x i 0 hw.1 hw.2).trans (Nat.mod_eq_of_lt hx)

theorem State.fld_raiseIf_aside (hi : i < 4096) (h : f.aside g = true) (b : Bool) :
    (s.raiseIf b f i).fld g i = s.fld g i := by
  obtain ⟨hbase, harea⟩ := Fld.aside_base h
  exact State.fld_of_val (State.raiseIf_val s (Fld.obj_ne_of_base hbase i) (Fld.obj_ne_follaSticky hi harea))

theorem State.fld_raise_aside (hi : i < 4096) (h : f.aside g = true) : (s.raise f i).fld g i = s.fld g i :=
  s.fld_raiseIf_aside hi h true

theorem State.on_raise_aside (hi : i < 4096) (h : f.aside g = true) : (s.raise f i).on g i = s.on g i :=
  congrArg (· == 1) (s.fld_raise_aside hi h)

end

/-! ### What the watchers of a lane leave -/

section
variable (s : State) (l m : Nat)

theorem State.laneHook_fld {g : Fld} (hm : m < 96) (hg : g.base < 0x09F00000) : (s.laneHook l).fld g m = s.fld g m :=
  State.fld_of_val (State.laneHook_val s l (by unfold Fld.obj objAt; omega))

theorem State.laneHook_on {g : Fld} (hm : m < 96) (hg : g.base < 0x09F00000) : (s.laneHook l).on g m = s.on g m :=
  congrArg (· == 1) (s.laneHook_fld l m hm hg)

theorem State.laneHook_laneState (hm : m < 96) : (s.laneHook l).laneState m = s.laneState m :=
  s.laneHook_fld l m hm (by decide)

/-- Lane y is lane x but for what it has sent last. -/
def Lane.ResentOf (x y : Lane) : Prop :=
  ∃ tx prior sdh, y = { x with lastTx := tx, txPrior := prior, txSdh := sdh }

theorem Lane.resentOf_refl (x : Lane) : x.ResentOf x := ⟨_, _, _, rfl⟩

theorem State.onLine_lane (f : TxFrame) (prior : Nat) : (s.lane m).ResentOf ((s.onLine l f prior).lane m) := by
  unfold State.onLine
  by_cases hm : m = l
  · subst hm
    exact ⟨_, _, _, s.lane_modLane_self m _⟩
  · rw [State.modLane, State.lane_setLane_ne s hm]
    exact Lane.resentOf_refl _

theorem State.rdiAgain_lane : (s.lane m).ResentOf ((s.rdiAgain l).lane m) := by
  unfold State.rdiAgain
  split
  · split
    · exact Lane.resentOf_refl _
    · split
      · dsimp only
        split
        · exact Lane.resentOf_refl _
        · exact s.onLine_lane l m _ _
      · dsimp only
        split
        · exact Lane.resentOf_refl _
        · exact s.onLine_lane l m _ _
      · exact Lane.resentOf_refl _
  · exact Lane.resentOf_refl _

theorem State.lane_of_lanes {t : State} (h : t.lanes = s.lanes) : t.lane m = s.lane m :=
  congrArg (Map.get ({} : Lane) m) h

/-- The watchers change a lane in what it has sent last alone (R120): they stop its channels, send its latest frame again,
and look at its candidate, its protection group, its points and the watched paths. -/
theorem State.laneHook_lane : (s.lane m).ResentOf ((s.laneHook l).lane m) := by
  have hstop (t : State) : (([0, 1, 2, 3] : List Nat).foldl (fun s c => s.chanStop l c) t).lanes = t.lanes :=
    (Same.foldl (K := 2 ^ 12) (B := 0) (a := t) (fun w c hw => State.chanStop_same l c (by decide) (by decide) hw) _
      (Same.refl _ _ t)).lanes (by decide)
  have hscan (t : State) (k : Nat) : (t.pmScan k).lanes = t.lanes :=
    (State.pmScan_same (K := 2 ^ 12) (B := 0) k (by decide) (Same.refl _ _ t)).lanes (by decide)
  have hcand (t : State) (c : Nat) : (t.candWatch c).lanes = t.lanes :=
    (State.candWatch_same (K := 2 ^ 12) (B := 0) c (by decide) (by decide) (Same.refl _ _ t)).lanes (by decide)
  have haps (t : State) : (t.apsLane l).lanes = t.lanes :=
    (State.apsLane_same (K := 2 ^ 12) (B := 0) l (by decide) (by decide) (Same.refl _ _ t)).lanes (by decide)
  have hpath (t : State) : t.pathWatchAll.lanes = t.lanes :=
    (State.pathWatchAll_same (K := 2 ^ 12) (B := 0) (by decide) (by decide) (Same.refl _ _ t)).lanes (by decide)
  have hmasked : (if s.pathsMasked l then ([0, 1, 2, 3] : List Nat).foldl (fun s c => s.chanStop l c) s else s).lanes =
      s.lanes := by
    split
    exacts [hstop s, rfl]
  have hrest : (s.laneHook l).lanes = (State.rdiAgain
      (if s.pathsMasked l then ([0, 1, 2, 3] : List Nat).foldl (fun s c => s.chanStop l c) s else s) l).lanes := by
    unfold State.laneHook
    simp only [hpath, apply_ite State.lanes, hscan, haps, hcand, ite_self]
  rw [State.lane_of_lanes _ m hrest, ← State.lane_of_lanes s m hmasked]
  exact State.rdiAgain_lane _ l m

/-- What a lane holds beside the frame it has sent last, its watchers leave. -/
theorem State.laneHook_part {α : Type} {part : Lane → α}
    (hpart : ∀ x tx prior sdh, part { x with lastTx := tx, txPrior := prior, txSdh := sdh } = part x) :
    part ((s.laneHook l).lane m) = part (s.lane m) := by
  obtain ⟨tx, prior, sdh, hlane⟩ := s.laneHook_lane l m
  rw [hlane, hpart]

end
end Sys2Proof.Machine
end

section
/-! PROOFS. R40, R41, R52, R55, R106: what each step of a bring-up, and the lock of a bay, shows of a lane. -/

namespace Sys2Proof.Machine

/-! ### The operations that the steps share -/

section
variable (s : State) {l : Nat} {f lost g : Fld}

theorem State.raiseIf_lane (b : Bool) (f : Fld) (i e m : Nat) : (s.raiseIf b f i e).lane m = s.lane m :=
  State.lane_of_lanes s m ((State.raiseIf_same (K := 2 ^ 12) (B := 0) b f i e (by decide) (by decide)
    (Nat.zero_le _) (Same.refl _ _ s)).lanes (by decide))

theorem State.raiseBit_lane (o b m : Nat) : (s.raiseBit o b).lane m = s.lane m :=
  State.lane_of_lanes s m ((State.raiseBit_same (K := 2 ^ 12) (B := 0) o b (by decide) (by decide) (Nat.zero_le _)
    (Same.refl _ _ s)).lanes (by decide))

theorem State.raise_lane (f : Fld) (i e m : Nat) : (s.raise f i e).lane m = s.lane m := s.raiseIf_lane true f i e m

theorem State.laneBit_self (hf : f.lo = f.hi ∧ f.hi < 96) (b : Bool) : (s.laneBit l f lost b).on f l = b :=
  State.on_setOn_self _ f b l 0 hf.1 hf.2

theorem State.laneBit_fld (hl : l < 4096) (hf : f.apart g = true) (hlost : lost.aside g = true) (b : Bool) :
    (s.laneBit l f lost b).fld g l = s.fld g l :=
  (State.fld_setOn_apart _ hf b).trans (s.fld_raiseIf_aside hl hlost _)

theorem State.laneBit_on (hl : l < 4096) (hf : f.apart g = true) (hlost : lost.aside g = true) (b : Bool) :
    (s.laneBit l f lost b).on g l = s.on g l :=
  congrArg (· == 1) (s.laneBit_fld hl hf hlost b)

theorem State.laneBit_lane (b : Bool) (m : Nat) : (s.laneBit l f lost b).lane m = s.lane m :=
  s.raiseIf_lane _ lost l 0 m

@[simp] theorem State.setLaneState_laneState (st : LaneState) (hl : l < 4096) :
    (s.setLaneState l st).laneState l = st.code := by
  unfold State.setLaneState
  split
  · assumption
  · exact (State.fld_raise_aside _ hl (by decide)).trans
      (s.fld_setFld_fits (by decide) (by cases st <;> decide))

theorem State.setLaneState_fld (st : LaneState) (hl : l < 4096) (hst : F.LANE_STATE_STATE.apart g = true)
    (hchg : F.LANE_STICKY_STATE_CHG.aside g = true) : (s.setLaneState l st).fld g l = s.fld g l := by
  unfold State.setLaneState
  split
  · rfl
  · exact (State.fld_raise_aside _ hl hchg).trans (s.fld_setFld_apart hst _)

theorem State.setLaneState_on (st : LaneState) (hl : l < 4096) (hst : F.LANE_STATE_STATE.apart g = true)
    (hchg : F.LANE_STICKY_STATE_CHG.aside g = true) : (s.setLaneState l st).on g l = s.on g l :=
  congrArg (· == 1) (s.setLaneState_fld st hl hst hchg)

theorem State.setLaneState_lane (st : LaneState) (m : Nat) : (s.setLaneState l st).lane m = s.lane m := by
  unfold State.setLaneState
  split
  · rfl
  · exact (State.raise_lane _ _ _ _ _).trans (s.setFld_lane _ _ _ _ _)

@[simp] theorem State.noteLoss_val (o : Nat) : (s.noteLoss l).val o = s.val o := s.modLane_val l _ o

@[simp] theorem State.noteLoss_fld (m : Nat) : (s.noteLoss l).fld g m = s.fld g m :=
  State.fld_of_val (s.noteLoss_val _)

@[simp] theorem State.noteLoss_on (m : Nat) : (s.noteLoss l).on g m = s.on g m :=
  State.on_of_val (s.noteLoss_val _)

@[simp] theorem State.noteLoss_laneState (m : Nat) : (s.noteLoss l).laneState m = s.laneState m := s.noteLoss_fld m

end

/-! ### The steps of a bring-up -/

section
variable (s : State) {l : Nat}

/-- TX_READY does nothing but in POWERING. -/
theorem State.txReadyNow_of_not_powering (h : s.laneState l ≠ LaneState.powering.code) (pin : Word) :
    s.txReadyNow l pin = s := if_neg h

theorem State.txReadyNow_of_powering (hl : l < 4096) (h : s.laneState l = LaneState.powering.code) (pin : Word) :
    (s.txReadyNow l pin).laneState l = LaneState.acquiring.code ∧
    (s.txReadyNow l pin).on F.LANE_STATUS_TX_READY l = true ∧
    (s.txReadyNow l pin).fld F.TX_PIN_DELAY_FS l = pin.toNat ∧
    ((s.txReadyNow l pin).lane l).txFrom = some s.dts := by
  rw [State.txReadyNow, if_pos h]
  refine ⟨?state, ?ready, ?delay, ?since⟩
  case state =>
    rw [State.laneState, State.modLane_fld, State.fld_setFld_apart _ (by decide), State.fld_setFld_apart _ (by decide)]
    exact State.setLaneState_laneState _ .acquiring hl
  case ready =>
    rw [State.modLane_on, State.on_setFld_apart _ (by decide), State.on_setFld_apart _ (by decide),
      State.setLaneState_on _ _ hl (by decide) (by decide)]
    exact s.on_setOn_self _ true l 0 (by decide) (by decide)
  case delay =>
    rw [State.modLane_fld, State.fld_setFld_apart _ (by decide)]
    exact State.fld_setFld_fits _ (by decide) pin.isLt
  case since => rw [State.lane_modLane_self]

theorem State.sigDet_sigDet (hl : l < 4096) (present : Bool) :
    (s.sigDet l present).on F.LANE_STATUS_SIG_DET l =
      if s.rxPowered l then present else s.on F.LANE_STATUS_SIG_DET l := by
  unfold State.sigDet
  split
  · rw [State.noteLoss_on]
    split
    · exact s.laneBit_self (by decide) present
    · exact (State.laneBit_on _ hl (by decide) (by decide) false).trans (s.laneBit_self (by decide) present)
  · rfl

/-- CDR_LOCK does nothing but in ACQUIRING with a signal. -/
theorem State.cdrLocked_of_not_acquiring {offset : Int}
    (h : ¬ (s.laneState l = LaneState.acquiring.code ∧ s.on F.LANE_STATUS_SIG_DET l = true)) :
    s.cdrLocked l offset = s := if_neg (by simpa using h)

theorem unsigned_lt (w : Nat) (x : Int) : unsigned w x < 2 ^ w := by
  have hpos : (0 : Int) < (2 ^ w : Nat) := by positivity
  have hlt := Int.emod_lt_of_pos x hpos
  have hnonneg := Int.emod_nonneg x hpos.ne'
  unfold unsigned
  omega

theorem State.cdrLocked_of_acquiring (hl : l < 4096) (offset : Int) (h : s.laneState l = LaneState.acquiring.code)
    (hsig : s.on F.LANE_STATUS_SIG_DET l = true) :
    (s.cdrLocked l offset).fld F.RX_FREQ_OFFSET_OFFSET l = unsigned 32 offset ∧
    (s.cdrLocked l offset).on F.LANE_STATUS_FREQ_OK l = Machine.freqOk offset ∧
    (s.cdrLocked l offset).laneState l =
      (if Machine.freqOk offset then LaneState.adapting.code else LaneState.acquiring.code) ∧
    (s.cdrLocked l offset).on F.LANE_STATUS_CDR_LOCK l = (Machine.freqOk offset || s.on F.LANE_STATUS_CDR_LOCK l) := by
  have hoffset := s.fld_setFld_fits (f := F.RX_FREQ_OFFSET_OFFSET) (i := l) (by decide) (unsigned_lt 32 offset)
  simp only [State.cdrLocked, h, hsig, decide_true, Bool.and_self, if_true]
  cases hok : Machine.freqOk offset with
  | true =>
    simp (disch := simp +decide only [hl]) only [if_true, State.noteLoss_fld, State.noteLoss_on, State.noteLoss_laneState,
      State.setLaneState_fld, State.setLaneState_on, State.setLaneState_laneState, State.fld_setOn_apart,
      State.on_setOn_apart, State.laneBit_fld, State.laneBit_self, hoffset, Bool.true_or, true_and]
    exact State.on_setOn_self _ _ true l 0 (by decide) (by decide)
  | false =>
    simp (disch := simp +decide only [hl]) only [Bool.false_eq_true, if_false, State.laneState, State.laneBit_fld,
      State.laneBit_on, State.laneBit_self, State.fld_setFld_apart, State.on_setFld_apart, hoffset, Bool.false_or, true_and,
      and_true]
    exact h

/-- CDR_LOCK_LOSS does nothing but in ADAPTING and UP. -/
theorem State.cdrLost_of_not_locked
    (h : ¬ (s.laneState l = LaneState.adapting.code ∨ s.laneState l = LaneState.up.code)) : s.cdrLost l = s :=
  if_neg (by simpa using h)

theorem State.cdrLost_of_locked (hl : l < 4096)
    (h : s.laneState l = LaneState.adapting.code ∨ s.laneState l = LaneState.up.code) :
    (s.cdrLost l).laneState l = LaneState.acquiring.code ∧ (s.cdrLost l).on F.LANE_STATUS_CDR_LOCK l = false ∧
    (s.cdrLost l).on F.LANE_STATUS_ADAPT_DONE l = false ∧
    ((s.cdrLost l).lane l).eqKeptSince = if s.laneState l = LaneState.up.code then some s.now else none := by
  have hlocked : (decide (s.laneState l = LaneState.adapting.code) || decide (s.laneState l = LaneState.up.code)) =
      true := by simpa using h
  simp only [State.cdrLost, hlocked, if_true, State.lane_modLane_self, and_true]
  refine ⟨State.setLaneState_laneState _ .acquiring hl, ?lock, ?adapt⟩
  case lock =>
    simp (disch := simp +decide only [hl]) only [State.modLane_on, State.noteLoss_on, State.setLaneState_on,
      State.on_setOn_apart, State.laneBit_self]
  case adapt =>
    rw [State.modLane_on, State.noteLoss_on, State.setLaneState_on _ _ hl (by decide) (by decide)]
    exact State.on_setOn_self _ _ false l 0 (by decide) (by decide)

theorem State.eqDiscard_eqKeptSince : ((s.eqDiscard l).lane l).eqKeptSince =
    if s.laneState l = LaneState.acquiring.code ∧ s.sinceOpt (s.lane l).eqKeptSince (10 * ms) = true then none
    else (s.lane l).eqKeptSince := by
  simp only [State.eqDiscard, Bool.and_eq_true, decide_eq_true_eq]
  split
  · rw [State.lane_modLane_self]
  · rfl

theorem State.patternLock_chkLock (locked : Bool) :
    (s.patternLock l locked).on F.PATTERN_STATUS_CHK_LOCK l =
      if s.rxPowered l && s.fld F.PATTERN_CTRL_CHK l != 0 then locked else s.on F.PATTERN_STATUS_CHK_LOCK l := by
  rw [show (s.rxPowered l && s.fld F.PATTERN_CTRL_CHK l != 0) =
    (s.rxPowered l && decide (s.fld F.PATTERN_CTRL_CHK l ≠ 0)) by simp [bne, BEq.beq]]
  unfold State.patternLock
  split
  · exact (State.modLane_on _ _ _ _ _ _).trans (State.on_setOn_self _ _ locked l 0 (by decide) (by decide))
  · rfl

/-! ### ADAPTATION_COMPLETE -/

theorem State.eqManual_fld {g : Fld} (hpeak : F.RX_EQ_READ_CTLE.apart g = true) (htap : F.RX_EQ_READ_DFE1.apart g = true) :
    (s.eqManual l).fld g l = s.fld g l := by
  unfold State.eqManual
  dsimp only
  split
  · split
    · rw [State.fld_setFld_apart _ htap, State.fld_setFld_apart _ hpeak]
    · exact State.fld_setFld_apart _ hpeak _
  · split
    · exact State.fld_setFld_apart _ htap _
    · rfl

theorem State.eqCodes_fld {g : Fld} (hpeak : F.RX_EQ_READ_CTLE.apart g = true) (htap : F.RX_EQ_READ_DFE1.apart g = true)
    (dfe1 : Byte) (ctle : BitVec 5) : (s.eqCodes l dfe1 ctle).fld g l = s.fld g l := by
  rw [State.eqCodes, State.eqManual_fld _ hpeak htap, State.fld_setFld_apart _ hpeak, State.fld_setFld_apart _ htap]

/-- The framer's start writes no object of area 02. -/
theorem State.framerStart_fld {g : Fld} {m : Nat} (hm : m < 96) (hg : g.base < 0x02F00000) :
    (s.framerStart l).fld g m = s.fld g m :=
  State.fld_of_val ((State.framerStart_same (K := 0) (B := 0x3000015) l (Nat.zero_and _) (Nat.le_refl _)
    (Same.refl _ _ s)).objs _ (by unfold Fld.obj objAt; omega))

/-! #### The lane is in service: nothing of a defect that is declared takes that back -/

/-- Since when the lane is up, and whether it is in service. -/
def Lane.service (x : Lane) : Option Tick × Bool := (x.upSince, x.inService)

section
variable {t t' : State} {m : Nat} {r : Option Tick × Bool}

theorem State.modLane_service {change : Lane → Lane} (ht : (t.lane m).service = r)
    (h : ∀ x, (change x).service = x.service) : ((t.modLane l change).lane m).service = r := by
  by_cases hm : m = l
  · subst hm
    rw [State.lane_modLane_self, h, ht]
  · rw [State.modLane, State.lane_setLane_ne t hm, ht]

theorem State.ite_service {c : Prop} [Decidable c] (ht : (t.lane m).service = r) (ht' : (t'.lane m).service = r) :
    ((if c then t else t').lane m).service = r := by
  split
  exacts [ht, ht']

end

theorem State.foldl_lane {β : Type} {f : State → β → State} {m : Nat} (hf : ∀ t x, (f t x).lane m = t.lane m)
    (xs : List β) (t : State) : (xs.foldl f t).lane m = t.lane m := by
  induction xs generalizing t with
  | nil => rfl
  | cons x xs ih => exact (ih (f t x)).trans (hf t x)

theorem State.putBit_lane (o b : Nat) (v : Bool) (m : Nat) : (s.putBit o b v).lane m = s.lane m := s.setVal_lane _ _ m

theorem State.clearPaths_service (m : Nat) : ((s.clearPaths l).lane m).service = (s.lane m).service :=
  State.modLane_service (congrArg Lane.service (State.foldl_lane (fun t _ => t.setVal_lane _ _ m) _ s)) fun _ => rfl

theorem State.dropS1_lane (m : Nat) : (s.dropS1 l).lane m = s.lane m := by
  unfold State.dropS1
  split
  · exact (State.raise_lane _ _ _ _ _).trans (s.setFld_lane _ _ _ _ _)
  · rfl

theorem State.applyMasks_service (m : Nat) : ((s.applyMasks l).lane m).service = (s.lane m).service := by
  unfold State.applyMasks
  extract_lets st s1 frames s2 s3
  have hbits : (s1.lane m).service = (s.lane m).service :=
    congrArg Lane.service (State.foldl_lane (fun t b => by split; exacts [t.putBit_lane _ _ _ m, rfl]) _ s)
  clear_value s1
  have hframes : (s2.lane m).service = (s.lane m).service :=
    State.ite_service (State.modLane_service hbits fun _ => rfl) <|
    State.ite_service (State.modLane_service hbits fun _ => rfl) <|
    State.ite_service (State.modLane_service hbits fun _ => rfl) <|
    State.ite_service (State.modLane_service hbits fun _ => rfl) hbits
  clear_value s2
  have hpaths : (s3.lane m).service = (s.lane m).service :=
    State.ite_service (State.modLane_service ((s2.clearPaths_service m).trans hframes) fun _ => rfl) hframes
  clear_value s3
  exact State.ite_service
    (State.modLane_service ((congrArg Lane.service (s3.dropS1_lane m)).trans hpaths) fun _ => rfl) hpaths

theorem State.noteSf_service (m : Nat) : ((s.noteSf l).lane m).service = (s.lane m).service :=
  State.modLane_service (change := fun x => { x with sfSince := _, sdSince := _ }) rfl fun _ => rfl

theorem State.declare_service (b m : Nat) : ((s.declare l b).lane m).service = (s.lane m).service := by
  refine State.ite_service rfl ?_
  rw [State.noteSf_service, State.applyMasks_service, State.raiseBit_lane, State.putBit_lane]

theorem State.framerStart_service (m : Nat) : ((s.framerStart l).lane m).service = (s.lane m).service := by
  have hoof : ((s.modLane l fun x => x.outOfFrame s.now).lane m).service = (s.lane m).service :=
    State.modLane_service rfl fun _ => rfl
  have hlock : ((s.modLane l fun x => { x with
      blockLock := false, goodHdrs := 0, winHdrs := 0, winBad := 0, hbCount := 0, hbGood := 0 }).lane m).service =
      (s.lane m).service := State.modLane_service rfl fun _ => rfl
  exact State.ite_service
    (State.ite_service hlock (State.modLane_service hlock fun _ => rfl))
    (State.ite_service hoof (State.modLane_service ((State.declare_service _ _ m).trans hoof) fun _ => rfl))

/-- ADAPTATION_COMPLETE does nothing but in ADAPTING. -/
theorem State.adapted_of_not_adapting (h : s.laneState l ≠ LaneState.adapting.code) (pin : Word) (eye dfe1 : Byte)
    (ctle : BitVec 5) : s.adapted l pin eye dfe1 ctle = s := if_neg h

theorem State.adapted_of_adapting (hl : l < 96) (h : s.laneState l = LaneState.adapting.code) (pin : Word)
    (eye dfe1 : Byte) (ctle : BitVec 5) :
    (s.adapted l pin eye dfe1 ctle).laneState l = LaneState.up.code ∧
    (s.adapted l pin eye dfe1 ctle).on F.LANE_STATUS_ADAPT_DONE l = true ∧
    (s.adapted l pin eye dfe1 ctle).fld F.RX_PIN_DELAY_FS l = pin.toNat ∧
    (s.adapted l pin eye dfe1 ctle).fld F.RX_EQ_READ_EYE_MARGIN l = eye.toNat ∧
    ((s.adapted l pin eye dfe1 ctle).lane l).service = (some s.now, true) := by
  have hl' : l < 4096 := by omega
  rw [State.adapted, if_pos h]
  extract_lets n s1 s2 s3
  have hfld {g : Fld} (hg : g.base < 0x02F00000) : (s3.framerStart l).fld g l = (s2.setLaneState l .up).fld g l :=
    (s3.framerStart_fld hl hg).trans (State.modLane_fld _ _ _ _ _ _)
  refine ⟨?state, ?done, ?delay, ?margin, ?service⟩
  case state => exact (hfld (by decide)).trans (s2.setLaneState_laneState .up hl')
  case done =>
    refine (congrArg (· == 1) ((hfld (by decide)).trans (s2.setLaneState_fld .up hl' (by decide) (by decide)))).trans ?_
    exact State.on_setOn_self _ _ true l 0 (by decide) (by decide)
  case delay =>
    rw [hfld (by decide), State.setLaneState_fld _ _ hl' (by decide) (by decide), State.fld_setOn_apart _ (by decide)]
    exact s1.fld_setFld_fits (by decide) pin.isLt
  case margin =>
    rw [hfld (by decide)]
    simp (disch := simp +decide only [hl']) only [s2, s1, State.setLaneState_fld, State.fld_setOn_apart,
      State.fld_setFld_apart, State.eqCodes_fld]
    exact s.fld_setFld_fits (by decide) eye.isLt
  case service =>
    rw [State.framerStart_service, State.lane_modLane_self]
    rfl

end

/-! ### The steps as commands -/

/-- Settles O6: each step by what it does in the states that wait for it; its watchers leave what it shows. -/
theorem bringUpSteps : Obligations.BringUpSteps := by
  unfold Obligations.BringUpSteps
  intro t l s v hl hv
  have hl' : l < 4096 := by omega
  have hunit : laneUnit l = true := by simpa [laneUnit] using hl
  have hstate (w : State) := w.laneHook_laneState l l hl
  have hon {g : Fld} (hg : g.base < 0x09F00000) (w : State) := w.laneHook_on l l hl hg
  have hfld {g : Fld} (hg : g.base < 0x09F00000) (w : State) := w.laneHook_fld l l hl hg
  refine ⟨fun pin => ⟨_, onUnit_ok hunit _ _, ?ready⟩, fun present => ⟨_, onUnit_ok hunit _ _, ?signal⟩,
    fun offset => ⟨_, onUnit_ok hunit _ _, ?lock⟩, ⟨_, onUnit_ok hunit _ _, ?loss⟩,
    fun pin eye dfe1 ctle => ⟨_, onUnit_ok hunit _ _, ?adapted⟩, ⟨_, onUnit_ok hunit _ _, ?discard⟩,
    fun locked => ⟨_, onUnit_ok hunit _ _, ?pattern⟩⟩
  all_goals rw [← hv]
  case ready =>
    split
    · next hwait =>
      obtain ⟨hup, hready, hdelay, hfrom⟩ := v.txReadyNow_of_powering hl' hwait pin
      exact ⟨(hstate _).trans hup, (hon (by decide) _).trans hready, (hfld (by decide) _).trans hdelay,
        (State.laneHook_part _ l l fun _ _ _ _ => rfl).trans hfrom⟩
    · next hwait =>
      rw [v.txReadyNow_of_not_powering hwait pin]
      exact ⟨hstate v, hon (by decide) v⟩
  case signal => exact (hon (by decide) _).trans (v.sigDet_sigDet hl' present)
  case lock =>
    split
    · next hwait =>
      obtain ⟨hoffset, hok, hup, hlock⟩ := v.cdrLocked_of_acquiring hl' offset hwait.1 hwait.2
      exact ⟨(hfld (by decide) _).trans hoffset, (hon (by decide) _).trans hok, (hstate _).trans hup,
        (hon (by decide) _).trans hlock⟩
    · next hwait =>
      rw [v.cdrLocked_of_not_acquiring hwait]
      exact ⟨hstate v, hon (by decide) v⟩
  case loss =>
    split
    · next hlocked =>
      obtain ⟨hdown, hlock, hdone, hkept⟩ := v.cdrLost_of_locked hl' hlocked
      exact ⟨(hstate _).trans hdown, (hon (by decide) _).trans hlock, (hon (by decide) _).trans hdone,
        (State.laneHook_part _ l l fun _ _ _ _ => rfl).trans hkept⟩
    · next hlocked =>
      rw [v.cdrLost_of_not_locked hlocked]
      exact ⟨hstate v, hon (by decide) v⟩
  case adapted =>
    split
    · next hwait =>
      obtain ⟨hup, hdone, hdelay, hmargin, hservice⟩ := v.adapted_of_adapting hl hwait pin eye dfe1 ctle
      obtain ⟨hsince, hin⟩ := Prod.mk.inj
        ((State.laneHook_part (part := Lane.service) _ l l fun _ _ _ _ => rfl).trans hservice)
      exact ⟨(hstate _).trans hup, (hon (by decide) _).trans hdone, (hfld (by decide) _).trans hdelay,
        (hfld (by decide) _).trans hmargin, hsince, hin⟩
    · next hwait =>
      rw [v.adapted_of_not_adapting hwait pin eye dfe1 ctle]
      exact ⟨hstate v, State.laneHook_part _ l l fun _ _ _ _ => rfl⟩
  case discard => exact v.eqDiscard_eqKeptSince
  case pattern => exact v.patternLock_chkLock locked

end Sys2Proof.Machine
end

section
/-! PROOFS. R52, R55: the lock of a bay takes every lane of it that has a role to POWERING. -/

namespace Sys2Proof.Machine

section
variable (s : State) {l m : Nat}

theorem State.lanePower_laneState (hl : l < 4096) : (s.lanePower l).laneState l = LaneState.powering.code := by
  unfold State.lanePower
  split
  · rw [State.laneState, State.fld_setFld_apart _ (by decide), State.fld_setFld_apart _ (by decide)]
    exact s.setLaneState_laneState .powering hl
  · exact s.setLaneState_laneState .powering hl

theorem State.setLaneState_val {o : Nat} (st : LaneState) (hstate : o ≠ F.LANE_STATE_STATE.obj l)
    (hchg : o ≠ F.LANE_STICKY_STATE_CHG.obj l) (hfolla : o ≠ O.FOLLA_STICKY) :
    (s.setLaneState l st).val o = s.val o := by
  unfold State.setLaneState
  split
  · rfl
  · rw [State.raise_val _ hchg hfolla, State.val_setFld_ne _ _ _ _ _ _ hstate]

/-- What a lane that begins powering writes: its state and the sticky bit of it, its equalisation's count, its engine. -/
def poweringObjs (l : Nat) : List Nat :=
  [F.LANE_STATE_STATE.obj l, F.LANE_STICKY_STATE_CHG.obj l, F.RX_EQ_READ_ADAPT_COUNT.obj l, F.ENGINE_STATUS_STATE.obj l,
    O.FOLLA_STICKY]

theorem State.lanePower_val {o : Nat} (ho : o ∉ poweringObjs l) : (s.lanePower l).val o = s.val o := by
  obtain ⟨hstate, hchg, heq, hengine, hfolla⟩ : _ ∧ _ ∧ _ ∧ _ ∧ _ := by simpa [poweringObjs] using ho
  unfold State.lanePower
  split
  · rw [State.val_setFld_ne _ _ _ _ _ _ hengine, State.val_setFld_ne _ _ _ _ _ _ heq,
      State.setLaneState_val _ _ hstate hchg hfolla]
  · exact s.setLaneState_val _ hstate hchg hfolla

theorem mem_poweringObjs {l o : Nat} (h : o ∈ poweringObjs l) :
    o = 0x02000002 + 4096 * l ∨ o = 0x02000004 + 4096 * l ∨ o = 0x02000012 + 4096 * l ∨ o = 0x13000000 + 4096 * l ∨
      o = 0x11F00020 := by
  simpa [poweringObjs, Fld.obj, objAt, F.LANE_STATE_STATE, F.LANE_STICKY_STATE_CHG, F.RX_EQ_READ_ADAPT_COUNT,
    F.ENGINE_STATUS_STATE, O.FOLLA_STICKY] using h

/-- The lock of a bay reaches a lane: it begins powering where it has a role. -/
def State.powerUsed (s : State) (l : Nat) : State := if s.role l ≠ 0 then s.lanePower l else s

theorem State.powerUsed_val {o : Nat} (ho : o ∉ poweringObjs l) : (s.powerUsed l).val o = s.val o := by
  unfold State.powerUsed
  split
  exacts [s.lanePower_val ho, rfl]

theorem State.powerUsed_role (hm : m < 96) : (s.powerUsed l).role m = s.role m := by
  refine State.fld_of_val (s.powerUsed_val fun h => ?_)
  have := mem_poweringObjs h
  simp only [Fld.obj, objAt, F.LANE_CONFIG_ROLE] at this
  omega

theorem State.powerUsed_laneState (hl : l < 96) (hm : m < 96) : (s.powerUsed l).laneState m =
    if m = l ∧ s.role l ≠ 0 then LaneState.powering.code else s.laneState m := by
  by_cases hml : m = l
  · subst hml
    unfold State.powerUsed
    split
    · next hrole => rw [if_pos ⟨rfl, hrole⟩, State.lanePower_laneState _ (by omega)]
    · next hrole => rw [if_neg fun h => hrole h.2]
  · rw [if_neg fun h => hml h.1]
    refine State.fld_of_val (s.powerUsed_val fun h => ?_)
    have := mem_poweringObjs h
    simp only [Fld.obj, objAt, F.LANE_STATE_STATE] at this
    omega

theorem State.foldl_powerUsed_laneState (hm : m < 96) (ls : List Nat) (hls : ∀ l ∈ ls, l < 96) (s : State) :
    (ls.foldl State.powerUsed s).laneState m =
      if m ∈ ls ∧ s.role m ≠ 0 then LaneState.powering.code else s.laneState m := by
  induction ls generalizing s with
  | nil => simp
  | cons l ls ih =>
    rw [List.foldl_cons, ih (fun k hk => hls k (List.mem_cons_of_mem l hk)), State.powerUsed_role s hm,
      State.powerUsed_laneState s (hls l (by simp)) hm]
    by_cases hml : m = l
    · subst hml
      by_cases hrole : s.role m = 0 <;> simp [hrole]
    · simp [hml]

theorem bayLanes_lt {b l : Nat} (hb : b < 12) (h : l ∈ bayLanes b) : l < 96 := by
  obtain ⟨k, hk, rfl⟩ := List.mem_map.mp h
  have := List.mem_range.mp hk
  omega

theorem State.foldl_laneHook_val (ls : List Nat) {o : Nat} (ho : o < 0x0A000030) :
    (ls.foldl (fun s l => s.laneHook l) s).val o = s.val o :=
  State.foldl_val (fun t l => State.laneHook_val t l ho) ls s

/-- No lane that begins powering writes BAY_STATUS. -/
theorem State.powerUsed_bayStatus (b : Nat) : (s.powerUsed l).val (F.BAY_STATUS_PLL_LOCK.obj b) =
    s.val (F.BAY_STATUS_PLL_LOCK.obj b) := by
  refine s.powerUsed_val fun h => ?_
  have := mem_poweringObjs h
  simp only [Fld.obj, objAt, F.BAY_STATUS_PLL_LOCK] at this
  omega

theorem State.bayLock_pllLock (b : Nat) : (s.bayLock b).on F.BAY_STATUS_PLL_LOCK b =
    (s.on F.BAY_STATUS_PLL_LOCK b || s.on F.BAY_STATUS_POWERED b) := by
  unfold State.bayLock
  split
  · next h =>
    rw [(Bool.and_eq_true_iff.mp h).1, Bool.or_true]
    exact (State.on_of_val (State.foldl_val (f := State.powerUsed) (fun t _ => t.powerUsed_bayStatus b) _ _)).trans
      (s.on_setOn_self _ true b 0 (by decide) (by decide))
  · next h =>
    cases hlock : s.on F.BAY_STATUS_PLL_LOCK b <;> simp_all

theorem State.bayLock_laneState {b : Nat} (hb : b < 12) (hm : m ∈ bayLanes b) : (s.bayLock b).laneState m =
    if s.on F.BAY_STATUS_POWERED b && !s.on F.BAY_STATUS_PLL_LOCK b && s.role m != 0 then LaneState.powering.code
    else s.laneState m := by
  have hm' := bayLanes_lt hb hm
  have hlocked {g : Fld} (hg : g.base % 4096 ≠ 1) : (s.setOn F.BAY_STATUS_PLL_LOCK true b).fld g m = s.fld g m :=
    s.fld_setFld_obj _ g _ b 0 m 0 (by simp only [Fld.obj, objAt, F.BAY_STATUS_PLL_LOCK]; omega)
  unfold State.bayLock
  split
  · next h =>
    refine (State.foldl_powerUsed_laneState hm' (bayLanes b) (fun l hl => bayLanes_lt hb hl) _).trans ?_
    rw [State.role, State.laneState, hlocked (by decide), hlocked (by decide), h]
    simp [hm, State.role, State.laneState]
  · next h => rw [Bool.eq_false_of_not_eq_true h, Bool.false_and, if_neg Bool.false_ne_true]

end

/-- Settles O7: the lock and the lanes it powers, in one fold; the watchers of the lanes leave what they show. -/
theorem bayLockStartsItsLanes : Obligations.BayLockStartsItsLanes := by
  unfold Obligations.BayLockStartsItsLanes
  intro t b s v hb hv
  refine ⟨_, onUnit_ok (by simpa [bayUnit] using hb) _ _, ?_, fun l hl => ?_⟩
  all_goals rw [← hv]
  · exact (State.on_of_val (State.foldl_laneHook_val _ _ (by simp only [Fld.obj, objAt, F.BAY_STATUS_PLL_LOCK]; omega))).trans
      (v.bayLock_pllLock b)
  · have hl' := bayLanes_lt hb hl
    exact (State.fld_of_val (State.foldl_laneHook_val _ _ (by simp only [Fld.obj, objAt, F.LANE_STATE_STATE]; omega))).trans
      (v.bayLock_laneState hb hl)

end Sys2Proof.Machine
end

section
/-! PROOFS. R39, R212 to R214: the activity and frequency monitors of the candidates, and their qualification. -/

namespace Sys2Proof.Machine

/-! ### What looking at a candidate changes -/

/-- From s to t, candidate c was looked at: CAND_STATUS of it may have changed, bits of its CAND_STICKY, of TE_STICKY and of
FOLLA_STICKY may have been set; what its monitors found, and what its conditions are read from, stands. -/
structure State.Watched (c : Nat) (s t : State) : Prop where
  vals : ∀ o, o ≠ objAt O.CAND_STATUS c → o ≠ objAt O.CAND_STICKY c → o ≠ O.TE_STICKY → o ≠ O.FOLLA_STICKY →
    t.val o = s.val o
  bits : ∀ o k, k < 96 → o ≠ objAt O.CAND_STATUS c → s.objBit o k = true → t.objBit o k = true
  active : ∀ k, (t.cand k).active = (s.cand k).active
  accepted : ∀ k, (t.cand k).accepted = (s.cand k).accepted
  gallery : t.gallery = s.gallery
  now : t.now = s.now

section
variable {c : Nat} {s t u : State}

theorem State.Watched.refl (c : Nat) (s : State) : s.Watched c s :=
  ⟨fun _ _ _ _ _ => rfl, fun _ _ _ _ h => h, fun _ => rfl, fun _ => rfl, rfl, rfl⟩

theorem State.Watched.trans (h : s.Watched c t) (k : t.Watched c u) : s.Watched c u :=
  ⟨fun o h1 h2 h3 h4 => (k.vals o h1 h2 h3 h4).trans (h.vals o h1 h2 h3 h4),
    fun o b hb ho hs => k.bits o b hb ho (h.bits o b hb ho hs), fun i => (k.active i).trans (h.active i),
    fun i => (k.accepted i).trans (h.accepted i), k.gallery.trans h.gallery, k.now.trans h.now⟩

theorem State.Watched.ite {p : Prop} [Decidable p] (ht : s.Watched c t) (hu : s.Watched c u) :
    s.Watched c (if p then t else u) := by
  split
  exacts [ht, hu]

theorem State.cand_of_cands (h : t.cands = s.cands) (k : Nat) : t.cand k = s.cand k :=
  congrArg (Map.get ({} : Cand) k) h

theorem State.Watched.setFld {f : Fld} (h : s.Watched c t) (hf : f.base = O.CAND_STATUS) (x : Nat) :
    s.Watched c (t.setFld f x c) := by
  have hne {o : Nat} (ho : o ≠ objAt O.CAND_STATUS c) : (t.setFld f x c).val o = t.val o :=
    State.val_setFld_ne t f x c 0 o (by rw [Fld.obj, hf]; exact ho)
  exact h.trans ⟨fun o ho _ _ _ => hne ho, fun o k _ ho hk => (State.objBit_of_val (hne ho) k).trans hk, fun _ => rfl,
    fun _ => rfl, rfl, rfl⟩

theorem State.Watched.setOn {f : Fld} (h : s.Watched c t) (hf : f.base = O.CAND_STATUS) (b : Bool) :
    s.Watched c (t.setOn f b c) := h.setFld hf _

theorem State.raise_cands (s : State) (f : Fld) (i e : Nat) : (s.raise f i e).cands = s.cands :=
  (State.raise_same (K := 2 ^ 27) (B := 0) f i e (by decide) (by decide) (Nat.zero_le _)
    (Same.refl _ _ s)).cands (by decide)

theorem State.Watched.raise {f : Fld} {i : Nat} (h : s.Watched c t)
    (hf : f.obj i = objAt O.CAND_STICKY c ∨ f.obj i = O.TE_STICKY) : s.Watched c (t.raise f i) := by
  have hleft := State.raise_same (K := 2 ^ 1 ||| 2 ^ 34) (B := 0) f i 0 (by decide) (by decide) (Nat.zero_le _)
    (Same.refl _ _ t)
  have hcand := State.cand_of_cands (t.raise_cands f i 0)
  exact h.trans ⟨fun o _ hsticky hte hfolla => State.raise_val t (by rcases hf with hf | hf <;> rwa [hf]) hfolla,
    fun o k hk _ hset => State.raiseBit_mono t _ _ o k hk hset, fun k => by rw [hcand], fun k => by rw [hcand],
    hleft.gallery (by decide), hleft.now (by decide)⟩

theorem State.cand_setCand_ne (s : State) {i k : Nat} (h : k ≠ i) (x : Cand) : (s.setCand i x).cand k = s.cand k :=
  Map.get_set_ne _ _ h x s.cands

theorem State.Watched.setCand {x : Cand} {i : Nat} (h : s.Watched c t) (hactive : x.active = (t.cand i).active)
    (haccepted : x.accepted = (t.cand i).accepted) : s.Watched c (t.setCand i x) := by
  refine h.trans ⟨fun o _ _ _ _ => t.setCand_val i x o, fun o k _ _ hk => hk, fun k => ?_, fun k => ?_, rfl, rfl⟩
  · by_cases hk : k = i
    · rw [hk, State.cand_setCand_self, hactive]
    · rw [State.cand_setCand_ne t hk]
  · by_cases hk : k = i
    · rw [hk, State.cand_setCand_self, haccepted]
    · rw [State.cand_setCand_ne t hk]

theorem State.setQualified_watched (h : s.Watched c t) (q : Bool) : s.Watched c (t.setQualified c q) := by
  have hchg : s.Watched c (((if q then t.raise F.CAND_STICKY_QUALIFIED c else t.raise F.CAND_STICKY_DISQUALIFIED c).setOn
      F.CAND_STATUS_QUALIFIED q c).raise F.TE_STICKY_CAND_CHG) :=
    ((State.Watched.ite (h.raise (.inl rfl)) (h.raise (.inl rfl))).setOn rfl q).raise (.inr rfl)
  exact .ite h (.ite (hchg.setCand rfl rfl) hchg)

/-- CAND_STATUS as the candidate's conditions show it: candWatchAt before it judges the qualification. -/
def State.showCand (s : State) (c : Nat) : State :=
  ((((((s.raiseIf (s.fld F.CAND_STATUS_QL c != s.candQl c) F.CAND_STICKY_QL_CHG c).setFld
    F.CAND_STATUS_QL (s.candQl c) c).setOn F.CAND_STATUS_TIME_CAPABLE (s.candTimed c) c).setOn
    F.CAND_STATUS_QL_OK (s.candQlOk c) c).setOn F.CAND_STATUS_FREQ_OK (s.candAccepted c) c).setOn
    F.CAND_STATUS_SOURCE_OK (s.candSource c) c)

theorem State.showCand_watched (s : State) (c : Nat) : s.Watched c (s.showCand c) :=
  (((((State.Watched.ite ((State.Watched.refl c s).raise (.inl rfl)) (.refl c s)).setFld rfl _).setOn rfl _).setOn rfl _).setOn
    rfl _).setOn rfl _

theorem State.showCand_cand (s : State) (c k : Nat) : (s.showCand c).cand k = s.cand k := by
  refine State.cand_of_cands ?_ k
  rw [State.showCand, State.setOn_cands, State.setOn_cands, State.setOn_cands, State.setOn_cands, State.setFld_cands,
    State.raiseIf, apply_ite State.cands, State.raise_cands, ite_self]

/-- Looking at a candidate, case by case of R213 and R214. -/
theorem State.candWatchAt_eq (s : State) (c : Nat) (d : Tick) : s.candWatchAt c d =
    if !s.candFit c then
      (((s.showCand c).setQualified c false).setOn F.CAND_STATUS_WTR_RUNNING false c).setCand c
        { s.cand c with wtrFrom := none }
    else if (s.showCand c).candQualified c then s.showCand c
    else if !(s.cand c).wasQualified || (s.showCand c).fld F.WTR_SECONDS = 0 then
      ((s.showCand c).setQualified c true).setOn F.CAND_STATUS_WTR_RUNNING false c
    else if (s.cand c).wtrFrom.isSome then s.showCand c
    else ((s.showCand c).setCand c { s.cand c with wtrFrom := some d }).setOn F.CAND_STATUS_WTR_RUNNING true c := by
  rw [← s.showCand_cand c c]
  rfl

theorem State.candWatchAt_watched (s : State) (c : Nat) (d : Tick) : s.Watched c (s.candWatchAt c d) := by
  have hshow := s.showCand_watched c
  have hcand := s.showCand_cand c c
  rw [State.candWatchAt_eq]
  refine .ite (((State.setQualified_watched hshow false).setOn rfl false).setCand ?_ ?_) <| .ite hshow <|
    .ite ((State.setQualified_watched hshow true).setOn rfl false) <| .ite hshow
    ((hshow.setCand (by rw [hcand]) (by rw [hcand])).setOn rfl true)
  · exact (((State.setQualified_watched hshow false).setOn rfl false).active c).symm
  · exact (((State.setQualified_watched hshow false).setOn rfl false).accepted c).symm

theorem State.candWatch_watched (s : State) (c : Nat) : s.Watched c (s.candWatch c) := s.candWatchAt_watched c s.now

/-! ### The qualification that looking at a candidate leaves -/

theorem State.setQualified_candQualified (s : State) (hc : c < 4096) (q : Bool) :
    (s.setQualified c q).candQualified c = q := by
  unfold State.setQualified
  split
  · assumption
  · have hset (t : State) : ((t.setOn F.CAND_STATUS_QUALIFIED q c).raise F.TE_STICKY_CAND_CHG).candQualified c = q :=
      (State.on_of_val (State.raise_val _
        (by simp only [Fld.obj, objAt, F.CAND_STATUS_QUALIFIED, F.TE_STICKY_CAND_CHG]; omega)
        (Fld.obj_ne_follaSticky hc (by decide)))).trans (t.on_setOn_self _ q c 0 (by decide) (by decide))
    dsimp only
    split
    · exact (State.setCand_on _ _ _ _ _ _).trans (hset _)
    · exact hset _

/-- A setting of WTR_RUNNING leaves what the qualification became. -/
theorem State.wtrRunning_candQualified (s : State) (hc : c < 4096) (q b : Bool) :
    ((s.setQualified c q).setOn F.CAND_STATUS_WTR_RUNNING b c).candQualified c = q :=
  (State.on_setOn_apart _ (by decide) b).trans (s.setQualified_candQualified hc q)

/-- R213: a candidate that does not fit is disqualified, and its wait-to-restore does not run. -/
theorem State.candWatchAt_of_unfit (hc : c < 4096) (h : s.candFit c = false) (d : Tick) :
    (s.candWatchAt c d).candQualified c = false ∧ ((s.candWatchAt c d).cand c).wtrFrom = none := by
  rw [State.candWatchAt_eq, h, Bool.not_false, if_pos rfl, State.cand_setCand_self]
  exact ⟨(State.setCand_on _ _ _ _ _ _).trans (State.wtrRunning_candQualified _ hc false false), rfl⟩

/-- R214: a candidate that fits, whose wait-to-restore runs, is qualified or left to wait. -/
theorem State.candWatchAt_of_waiting (hc : c < 4096) (h : s.candFit c = true) (hwait : (s.cand c).wtrFrom.isSome = true)
    (d : Tick) : (s.candWatchAt c d).candQualified c = true ∨ s.candWatchAt c d = s.showCand c := by
  rw [State.candWatchAt_eq, h, hwait, Bool.not_true, if_neg Bool.false_ne_true, if_pos rfl]
  split
  · exact .inr rfl
  · split
    · exact .inl (State.wtrRunning_candQualified _ hc true false)
    · exact .inr rfl

/-! ### The conditions of R213 read nothing that looking at a candidate changes -/

/-- No unit's field of the kind lies in CAND_STATUS, CAND_STICKY, TE_STICKY or FOLLA_STICKY. -/
def Fld.offCand (g : Fld) : Bool :=
  g.base % 2 ^ 24 < 2 ^ 23 && (g.base / 2 ^ 24 != 0x0A && g.base / 2 ^ 24 != 0x11 || g.base % 4096 < 3)

theorem State.Watched.fld {g : Fld} (h : s.Watched c t) (hc : c < 114) {i : Nat} (hi : i < 2048) (hg : g.offCand = true) :
    t.fld g i = s.fld g i := by
  simp only [Fld.offCand, Bool.and_eq_true, Bool.or_eq_true, bne_iff_ne, decide_eq_true_eq] at hg
  refine State.fld_of_val (h.vals _ ?_ ?_ ?_ ?_) <;>
    simp only [Fld.obj, objAt, O.CAND_STATUS, O.CAND_STICKY, O.TE_STICKY, O.FOLLA_STICKY] <;> omega

theorem State.Watched.on {g : Fld} (h : s.Watched c t) (hc : c < 114) {i : Nat} (hi : i < 2048) (hg : g.offCand = true) :
    t.on g i = s.on g i :=
  congrArg (· == 1) (h.fld hc hi hg)

theorem State.Watched.defect (h : s.Watched c t) {l : Nat} (hl : l < 2048) (b : Nat) :
    t.defect l b = s.defect l b := by
  refine State.objBit_of_val (h.vals _ ?_ ?_ ?_ ?_) b <;>
    simp only [lineObj, objAt, O.DEFECT_STATE, O.CAND_STATUS, O.CAND_STICKY, O.TE_STICKY, O.FOLLA_STICKY] <;> omega

theorem candLane_lt {l : Nat} (h : candLane c = some l) : l < 96 ∧ c = l + 16 := by
  unfold candLane at h
  split at h
  · simp only [Bool.and_eq_true, decide_eq_true_eq, Option.some.injEq] at *
    omega
  · cases h

section
variable (h : s.Watched c t) (hc : c < 114)
include h hc

theorem State.Watched.role {l : Nat} (hl : l < 96) : t.role l = s.role l := h.fld hc (by omega) (by decide)

theorem State.Watched.portError (p : Nat) : t.portError p = s.portError p := by
  unfold State.portError State.portService State.portOffset State.portAsym State.ringPort
  rw [h.gallery, h.on hc (g := F.GALLERY_STATUS_T2_SERVICE) (by decide) (by decide),
    h.on hc (g := F.GALLERY_STATUS_T3_SERVICE) (by decide) (by decide),
    h.fld hc (g := F.RING_ASYM_T2_ASYM) (by decide) (by decide),
    h.fld hc (g := F.RING_ASYM_T3_ASYM) (by decide) (by decide)]

theorem State.Watched.candSource : t.candSource c = s.candSource c := by
  unfold State.candSource
  cases hlane : candLane c with
  | some l =>
    obtain ⟨hl, -⟩ := candLane_lt hlane
    unfold State.laneUp State.laneState State.laneDisq
    simp only [h.role hc hl, h.defect (show l < 2048 by omega)]
    rw [h.on hc (g := F.BAY_STATUS_POWERED) (by omega) (by decide),
      h.fld hc (g := F.LANE_STATE_STATE) (by omega) (by decide), h.fld hc (g := F.LOOPBACK_MODE) (by omega) (by decide)]
  | none =>
    have hport (p : Nat) := h.portError hc p
    have hgallery : t.galleryOn = s.galleryOn := h.on hc (by decide) (by decide)
    have hleft : t.ringLeftOut = s.ringLeftOut := by
      rw [State.ringLeftOut, State.ringLeftOut, h.gallery, h.on hc (by decide) (by decide)]
    simp only [hport, hgallery, hleft, h.active]

theorem State.Watched.candQl : t.candQl c = s.candQl c := by
  unfold State.candQl
  cases hlane : candLane c with
  | some l =>
    obtain ⟨hl, -⟩ := candLane_lt hlane
    have hclient : t.isClient l = s.isClient l := congrArg (· == 3) (h.role hc hl)
    have httf : t.isTtf l = s.isTtf l := congrArg (· == 2) (h.role hc hl)
    have hsdh : t.isSdh l = s.isSdh l := congrArg (· == 1) (h.role hc hl)
    dsimp only
    rw [hclient, httf, hsdh, h.on hc (g := F.CAND_CONFIG_QL_SOURCE) (by omega) (by decide),
      h.fld hc (g := F.CAND_CONFIG_QL_ASSIGN) (by omega) (by decide),
      h.fld hc (g := F.TTF_RX_INFO_CLOCK_CLASS) (by omega) (by decide),
      h.on hc (g := F.SDH_CONFIG_FLAVOR) (by omega) (by decide),
      h.fld hc (g := F.SDH_RX_OH_S1_ACCEPTED) (by omega) (by decide)]
  | none =>
    dsimp only [State.ringPort]
    rw [h.gallery, h.on hc (g := F.CAND_CONFIG_QL_SOURCE) (by omega) (by decide),
      h.fld hc (g := F.CAND_CONFIG_QL_ASSIGN) (by omega) (by decide)]

theorem State.Watched.candFit : t.candFit c = s.candFit c := by
  unfold State.candFit State.candQlOk State.candAccepted State.rootOn
  rw [h.candSource hc, h.candQl hc, h.accepted, h.on hc (g := F.CAND_CONFIG_ENABLE) (by omega) (by decide),
    h.on hc (g := F.MODES_ACTIVE_ROOT) (by decide) (by decide),
    h.fld hc (g := F.SELECT_CONFIG_QL_MIN) (by decide) (by decide)]
  cases hlane : candLane c with
  | some l =>
    obtain ⟨hl, -⟩ := candLane_lt hlane
    have hclient : t.isClient l = s.isClient l := congrArg (· == 3) (h.role hc hl)
    have htraceable : t.traceable l = s.traceable l := h.on hc (by omega) (by decide)
    dsimp only
    rw [hclient, htraceable, h.on hc (g := F.CAND_CONFIG_PHASE_MODE) (by omega) (by decide),
      h.on hc (g := F.LEDGER_STATUS_LTD) (by omega) (by decide)]
  | none => rfl

end
/-! ### The wait-to-restore (R214) -/

theorem State.candWtr_of_unfit (hc : c < 114) (hunfit : s.candFit c = false) : (s.candWtr c).candQualified c = false := by
  obtain ⟨hqual, hwait⟩ := State.candWatchAt_of_unfit (by omega) hunfit s.now
  change (s.candWatch c).candQualified c = false at hqual
  change ((s.candWatch c).cand c).wtrFrom = none at hwait
  unfold State.candWtr
  simpa only [hwait, State.sinceOpt, Bool.false_and, Bool.false_eq_true, if_false] using hqual

theorem State.candWtr_of_waited (hc : c < 114) (hfit : s.candFit c = true)
    (hwaited : s.sinceOpt (s.cand c).wtrFrom (s.fld F.WTR_SECONDS * sec) = true) :
    (s.candWtr c).candQualified c = true := by
  have hsome : (s.cand c).wtrFrom.isSome = true := by
    cases hfrom : (s.cand c).wtrFrom with
    | none => rw [hfrom] at hwaited; exact absurd hwaited Bool.false_ne_true
    | some from_ => rfl
  have hwatched := s.candWatch_watched c
  have hdone : (s.candWatch c).candFit c = true := (hwatched.candFit hc).trans hfit
  unfold State.candWtr
  dsimp only
  split
  · exact State.wtrRunning_candQualified _ (by omega) true false
  next hno =>
    rcases State.candWatchAt_of_waiting (by omega) hfit hsome s.now with hqual | hshow
    · exact hqual
    · have hfrom : ((s.candWatch c).cand c).wtrFrom = (s.cand c).wtrFrom := by
        rw [State.candWatch, hshow, State.showCand_cand]
      have hsince : (s.candWatch c).sinceOpt ((s.candWatch c).cand c).wtrFrom
          ((s.candWatch c).fld F.WTR_SECONDS * sec) = true := by
        rw [hfrom, hwatched.fld hc (by decide) (by decide)]
        unfold State.sinceOpt State.since at hwaited ⊢
        rw [hwatched.now]
        exact hwaited
      rw [hsince, hdone] at hno
      exact absurd rfl hno

/-! ### Activity of the external inputs (R212) -/

theorem candLane_of_input (hi : c < 16) : candLane c = none := by
  simp [candLane, Nat.not_le.mpr hi]

theorem candPort_of_input (hi : c < 16) : candPort c = none := by
  rw [candPort, if_neg (by omega), if_neg (by omega)]

/-- R213 condition 3 of an external input. -/
theorem State.candSource_of_input (hi : c < 16) : s.candSource c = (s.cand c).active := by
  rw [State.candSource, candLane_of_input hi]
  dsimp only
  rw [candPort_of_input hi]

theorem State.candFit_of_inactive (hi : c < 16) (hoff : (s.cand c).active = false) : s.candFit c = false := by
  rw [State.candFit, State.candSource_of_input hi, hoff]
  simp only [Bool.and_false, Bool.false_and]

/-- A sticky bit of the candidate, set before it is looked at, is set after. -/
theorem State.candWatch_sticky (s : State) {f : Fld} (hf : f.base = O.CAND_STICKY) (hlo : f.lo < 96) :
    ((s.raise f c).candWatch c).objBit (f.obj c) f.lo = true :=
  (State.candWatch_watched _ c).bits _ _ hlo
    (Fld.obj_ne_of_base (f := F.CAND_STATUS_QL) (by rw [hf]; decide) c) (s.raise_self f c 0 hlo)

theorem State.raise_cand (s : State) (f : Fld) (i k : Nat) : (s.raise f i).cand k = s.cand k :=
  State.cand_of_cands (s.raise_cands f i 0) k

/-- What one found input keeps of its monitor. -/
theorem State.candWatch_active_of_set (s : State) (f : Fld) (i : Nat) (x : Cand) :
    ((((s.setCand i x).raise f i).candWatch i).cand i).active = x.active := by
  rw [(State.candWatch_watched _ i).active, State.raise_cand, State.cand_setCand_self]

theorem State.actLost_of_gone {i : Nat} (hi : i < 16) (h : ((s.cand i).active && s.edgesGone i) = true) :
    ((s.actLost i).cand i).active = false ∧ (s.actLost i).candQualified i = false ∧
    (s.actLost i).objBit (F.CAND_STICKY_ACT_LOST.obj i) F.CAND_STICKY_ACT_LOST.lo = true := by
  rw [State.actLost, if_pos h]
  refine ⟨State.candWatch_active_of_set _ _ _ _, ?_, State.candWatch_sticky _ rfl (by decide)⟩
  exact (State.candWatchAt_of_unfit (by omega) (State.candFit_of_inactive hi
    (by rw [State.raise_cand, State.cand_setCand_self])) _).1

theorem State.actReturn_of_back {i : Nat} (h : (!(s.cand i).active && s.edgesBack i) = true) :
    ((s.actReturn i).cand i).active = true ∧
    (s.actReturn i).objBit (F.CAND_STICKY_ACT_RETURN.obj i) F.CAND_STICKY_ACT_RETURN.lo = true := by
  simp only [Bool.and_eq_true, Bool.not_eq_true'] at h
  rw [State.actReturn, h.1, h.2, if_neg (by decide)]
  exact ⟨State.candWatch_active_of_set _ _ _ _, State.candWatch_sticky _ rfl (by decide)⟩

theorem State.actReturn_of_not_back {i : Nat} (h : ¬(!(s.cand i).active && s.edgesBack i) = true) : s.actReturn i = s := by
  rw [State.actReturn, if_pos (by simpa [Bool.not_eq_true, Bool.or_eq_true, or_iff_not_imp_left] using h)]

end
end Sys2Proof.Machine
end

section
/-! PROOFS. R39, R212: what a frequency gate shows of its candidate and of the lane behind it. -/

namespace Sys2Proof.Machine

/-- What the frequency monitor of candidate c found stands: its latest offset, and whether it is accepted. -/
structure State.Found (c : Nat) (s t : State) : Prop where
  offset : t.val (F.CAND_FREQ_OFFSET_OFFSET.obj c) = s.val (F.CAND_FREQ_OFFSET_OFFSET.obj c)
  accepted : (t.cand c).accepted = (s.cand c).accepted

section
variable {c l : Nat} {s t u : State}

theorem State.Found.refl (c : Nat) (s : State) : s.Found c s := ⟨rfl, rfl⟩

theorem State.Found.trans (h : s.Found c t) (k : t.Found c u) : s.Found c u :=
  ⟨k.offset.trans h.offset, k.accepted.trans h.accepted⟩

theorem State.Found.fld (h : s.Found c t) : t.fld F.CAND_FREQ_OFFSET_OFFSET c = s.fld F.CAND_FREQ_OFFSET_OFFSET c :=
  State.fld_of_val h.offset

/-- An operation on other parts of the state leaves what the monitor found. -/
theorem State.Found.of_same (hc : c < 114) (h : Same (2 ^ 27) 0x0A200000 s t) : s.Found c t := by
  refine ⟨h.objs _ ?_, congrArg Cand.accepted (State.cand_of_cands (h.cands (by decide)) c)⟩
  simp only [Fld.obj, objAt, F.CAND_FREQ_OFFSET_OFFSET]
  omega

/-- So does a look at any candidate. -/
theorem State.Found.of_watched {k : Nat} (hc : c < 114) (h : s.Watched k t) : s.Found c t := by
  refine ⟨h.vals _ ?_ ?_ ?_ ?_, h.accepted c⟩ <;>
    simp only [Fld.obj, objAt, F.CAND_FREQ_OFFSET_OFFSET, O.CAND_STATUS, O.CAND_STICKY, O.TE_STICKY, O.FOLLA_STICKY] <;> omega

theorem State.Found.ite {p : Prop} [Decidable p] (ht : s.Found c t) (hu : s.Found c u) : s.Found c (if p then t else u) := by
  split
  exacts [ht, hu]

/-- The watchers of a lane leave what the monitor of any candidate found: of them only the look at the lane's own candidate
writes in the candidates' area. -/
theorem State.laneHook_found (s : State) (hc : c < 114) : s.Found c (s.laneHook l) := by
  have hsame {w x : State} (h : Same (2 ^ 27) 0x0A200000 w x) : w.Found c x := .of_same hc h
  have hstop (w : State) : w.Found c (([0, 1, 2, 3] : List Nat).foldl (fun s c => s.chanStop l c) w) :=
    hsame (Same.foldl (fun _ k hw => State.chanStop_same l k (by decide) (by decide) hw) _ (.refl _ _ w))
  have hrdi (w : State) : w.Found c (w.rdiAgain l) := hsame (State.rdiAgain_same l (by decide) (.refl _ _ w))
  have hcand (w : State) : w.Found c (w.candWatch (l + 16)) := .of_watched hc (w.candWatch_watched _)
  have haps (w : State) : w.Found c (w.apsLane l) := hsame (State.apsLane_same l (by decide) (by decide) (.refl _ _ w))
  have hscan (w : State) (k : Nat) : w.Found c (w.pmScan k) := hsame (State.pmScan_same k (by decide) (.refl _ _ w))
  have hpath (w : State) : w.Found c w.pathWatchAll :=
    hsame (State.pathWatchAll_same (by decide) (by decide) (.refl _ _ w))
  unfold State.laneHook
  extract_lets s0 s1 s2
  have h0 : s.Found c s0 := (State.Found.ite (hstop s) (.refl c s)).trans (hrdi _)
  have h1 : s.Found c s1 := (h0.trans (hcand s0)).trans (haps _)
  have h2 : s.Found c s2 := .ite h1 (h1.trans (hscan s1 _))
  exact (State.Found.ite (h2.trans (hscan s2 _)) h2).trans (hpath _)

/-! ### What the monitor finds -/

theorem State.freqMonitor_found (s : State) (hc : c < 114) (offset : Int) :
    (s.freqMonitor c offset).fld F.CAND_FREQ_OFFSET_OFFSET c = unsigned 32 offset ∧
    ((s.freqMonitor c offset).cand c).accepted = if (s.cand c).accepted then
      decide (offset.natAbs ≤ s.fld F.MONITOR_LIMITS_REJECT)
    else decide (offset.natAbs ≤ s.fld F.MONITOR_LIMITS_ACCEPT) := by
  have hwatch (w : State) : w.Found c (w.candWatch c) := .of_watched hc (w.candWatch_watched c)
  have hwrite : (s.setFld F.CAND_FREQ_OFFSET_OFFSET (unsigned 32 offset) c).fld F.CAND_FREQ_OFFSET_OFFSET c =
      unsigned 32 offset := s.fld_setFld_fits (by decide) (unsigned_lt 32 offset)
  have hkeep : ((s.setFld F.CAND_FREQ_OFFSET_OFFSET (unsigned 32 offset) c).cand c) = s.cand c :=
    State.cand_of_cands (s.setFld_cands _ _ _ _) c
  have hchange (x : Cand) (f : Fld) (hf : f.aside F.CAND_FREQ_OFFSET_OFFSET = true) :
      ((((s.setFld F.CAND_FREQ_OFFSET_OFFSET (unsigned 32 offset) c).setCand c x).raise f c).candWatch c).fld
        F.CAND_FREQ_OFFSET_OFFSET c = unsigned 32 offset ∧
      (((((s.setFld F.CAND_FREQ_OFFSET_OFFSET (unsigned 32 offset) c).setCand c x).raise f c).candWatch c).cand c).accepted =
        x.accepted := by
    refine ⟨?_, ?_⟩
    · rw [(hwatch _).fld, State.fld_raise_aside _ (by omega) hf, State.setCand_fld, hwrite]
    · rw [(hwatch _).accepted, State.raise_cand, State.cand_setCand_self]
  have hstay : ((s.setFld F.CAND_FREQ_OFFSET_OFFSET (unsigned 32 offset) c).candWatch c).fld F.CAND_FREQ_OFFSET_OFFSET c =
      unsigned 32 offset ∧ (((s.setFld F.CAND_FREQ_OFFSET_OFFSET (unsigned 32 offset) c).candWatch c).cand c).accepted =
      (s.cand c).accepted := ⟨(hwatch _).fld.trans hwrite, by rw [(hwatch _).accepted, hkeep]⟩
  unfold State.freqMonitor
  dsimp only
  rw [hkeep]
  cases hacc : (s.cand c).accepted with
  | true =>
    rw [if_pos rfl, if_pos rfl]
    split
    · next hfar => rw [decide_eq_false (by omega)]; exact hchange _ _ (by decide)
    · next hnear => rw [decide_eq_true (by omega), ← hacc]; exact hstay
  | false =>
    rw [if_neg Bool.false_ne_true, if_neg Bool.false_ne_true]
    split
    · next hnear => rw [decide_eq_true hnear]; exact hchange _ _ (by decide)
    · next hfar => rw [decide_eq_false hfar, ← hacc]; exact hstay

/-! ### The lane behind a candidate (R39) -/

/-- What a gate's offset makes of the lane before the monitor takes it: its own offset, and the loss of a lock beyond the
limits. -/
def State.gateLane (s : State) (l : Nat) (offset : Int) : State :=
  let s1 := (s.setFld F.RX_FREQ_OFFSET_OFFSET (unsigned 32 offset) l).laneBit l F.LANE_STATUS_FREQ_OK F.LANE_STICKY_FREQ_LOST
    (Machine.freqOk offset)
  if Machine.freqOk offset then s1 else s1.cdrLost l

theorem State.gateOf_of_lane (hlane : candLane c = some l) (offset : Int) : s.gateOf c offset =
    if s.on F.LANE_STATUS_CDR_LOCK l then (s.gateLane l offset).freqMonitor c offset else s := by
  rw [State.gateOf, hlane]
  rfl

theorem State.gateOf_of_other (hlane : candLane c = none) (offset : Int) : s.gateOf c offset = s.freqMonitor c offset := by
  rw [State.gateOf, hlane]

theorem State.laneBit_val {f lost : Fld} {o : Nat} (hf : o ≠ f.obj l) (hlost : o ≠ lost.obj l)
    (hfolla : o ≠ O.FOLLA_STICKY) (b : Bool) : (s.laneBit l f lost b).val o = s.val o :=
  (State.val_setFld_ne _ _ _ _ _ _ hf).trans (State.raiseIf_val s hlost hfolla)

theorem State.laneBit_cands (f lost : Fld) (b : Bool) : (s.laneBit l f lost b).cands = s.cands := by
  rw [State.laneBit, State.setOn_cands, State.raiseIf, apply_ite State.cands, State.raise_cands, ite_self]

/-- The loss of a lane's lock writes in the lanes' area alone. -/
theorem State.cdrLost_val {o : Nat} (hl : l < 96) (ho : 0x02100000 ≤ o) (hfolla : o ≠ O.FOLLA_STICKY) :
    (s.cdrLost l).val o = s.val o := by
  have hne {f : Fld} (hf : f.base < 0x02001000) : o ≠ f.obj l := by simp only [Fld.obj, objAt]; omega
  unfold State.cdrLost
  dsimp only
  split
  · rw [State.modLane_val, State.noteLoss_val, State.setLaneState_val _ _ (hne (by decide)) (hne (by decide)) hfolla]
    exact (State.val_setFld_ne _ _ _ _ _ _ (hne (by decide))).trans
      (State.laneBit_val (hne (by decide)) (hne (by decide)) hfolla false)
  · rfl

theorem State.cdrLost_cands : (s.cdrLost l).cands = s.cands :=
  (State.cdrLost_same (K := 2 ^ 27) (B := 0) l (by decide) (by decide) (.refl _ _ s)).cands (by decide)

theorem State.gateLane_val {o : Nat} (hl : l < 96) (ho : 0x02100000 ≤ o) (hfolla : o ≠ O.FOLLA_STICKY) (offset : Int) :
    (s.gateLane l offset).val o = s.val o := by
  have hne {f : Fld} (hf : f.base < 0x02001000) : o ≠ f.obj l := by simp only [Fld.obj, objAt]; omega
  have hbit : ((s.setFld F.RX_FREQ_OFFSET_OFFSET (unsigned 32 offset) l).laneBit l F.LANE_STATUS_FREQ_OK
      F.LANE_STICKY_FREQ_LOST (Machine.freqOk offset)).val o = s.val o :=
    (State.laneBit_val (hne (by decide)) (hne (by decide)) hfolla _).trans
      (State.val_setFld_ne _ _ _ _ _ _ (hne (by decide)))
  unfold State.gateLane
  dsimp only
  split
  exacts [hbit, (State.cdrLost_val hl ho hfolla).trans hbit]

theorem State.gateLane_cand (offset : Int) (k : Nat) : (s.gateLane l offset).cand k = s.cand k := by
  refine State.cand_of_cands ?_ k
  rw [State.gateLane, apply_ite State.cands, State.cdrLost_cands, ite_self, State.laneBit_cands, State.setFld_cands]

theorem State.cdrLost_rates (hl : l < 96) : (s.cdrLost l).fld F.RX_FREQ_OFFSET_OFFSET l = s.fld F.RX_FREQ_OFFSET_OFFSET l ∧
    (s.cdrLost l).on F.LANE_STATUS_FREQ_OK l = s.on F.LANE_STATUS_FREQ_OK l := by
  have hl' : l < 4096 := by omega
  unfold State.cdrLost
  dsimp only
  split
  · simp (disch := simp +decide only [hl']) only [State.modLane_fld, State.modLane_on, State.noteLoss_fld,
      State.noteLoss_on, State.setLaneState_fld, State.setLaneState_on, State.fld_setOn_apart, State.on_setOn_apart,
      State.laneBit_fld, State.laneBit_on, and_self]
  · exact ⟨rfl, rfl⟩

/-- CDR_LOCK after the loss of a lock that may not have been held. -/
theorem State.cdrLost_lock (hl : l < 4096) :
    (s.cdrLost l).on F.LANE_STATUS_CDR_LOCK l = (s.on F.LANE_STATUS_CDR_LOCK l && !s.eqLive l) := by
  by_cases hlive : s.laneState l = LaneState.adapting.code ∨ s.laneState l = LaneState.up.code
  · have heq : s.eqLive l = true := by simpa [State.eqLive] using hlive
    rw [(State.cdrLost_of_locked _ hl hlive).2.1, heq, Bool.not_true, Bool.and_false]
  · have heq : s.eqLive l = false := by simpa [State.eqLive] using hlive
    rw [State.cdrLost_of_not_locked _ hlive, heq, Bool.not_false, Bool.and_true]

theorem State.gateLane_shows (hl : l < 96) (hlock : s.on F.LANE_STATUS_CDR_LOCK l = true) (offset : Int) :
    (s.gateLane l offset).fld F.RX_FREQ_OFFSET_OFFSET l = unsigned 32 offset ∧
    (s.gateLane l offset).on F.LANE_STATUS_FREQ_OK l = Machine.freqOk offset ∧
    (s.gateLane l offset).on F.LANE_STATUS_CDR_LOCK l = (Machine.freqOk offset || !s.eqLive l) := by
  have hl' : l < 4096 := by omega
  unfold State.gateLane
  extract_lets s1
  have hoffset : s1.fld F.RX_FREQ_OFFSET_OFFSET l = unsigned 32 offset :=
    (State.laneBit_fld _ hl' (by decide) (by decide) _).trans (s.fld_setFld_fits (by decide) (unsigned_lt 32 offset))
  have hok : s1.on F.LANE_STATUS_FREQ_OK l = Machine.freqOk offset := State.laneBit_self _ (by decide) _
  have hheld : s1.on F.LANE_STATUS_CDR_LOCK l = true :=
    ((State.laneBit_on _ hl' (by decide) (by decide) _).trans (s.on_setFld_apart (by decide) _)).trans hlock
  have hlive : s1.eqLive l = s.eqLive l := congrArg (fun k => k == LaneState.adapting.code || k == LaneState.up.code)
    ((State.laneBit_fld _ hl' (by decide) (by decide) _).trans (s.fld_setFld_apart (by decide) _))
  clear_value s1
  split
  · next hin => rw [hin] at hok ⊢; exact ⟨hoffset, hok, hheld⟩
  · next hout =>
    obtain ⟨hrate, hstill⟩ := State.cdrLost_rates (s := s1) hl
    rw [Bool.not_eq_true] at hout
    rw [hrate, hstill, State.cdrLost_lock hl', hheld, hlive, hoffset, hok, hout]
    exact ⟨rfl, rfl, rfl⟩

/-! ### The gate's end (R212) -/

/-- The end of a gate, seen at its candidate: with its source measured, the monitor takes the offset; else what it found
stands. -/
theorem State.freqGate_found (s : State) (hc : c < 114) (offset : Int) :
    if s.gateEnds c && (candLane c).all (fun l => s.on F.LANE_STATUS_CDR_LOCK l) then
      (s.freqGate c offset).fld F.CAND_FREQ_OFFSET_OFFSET c = unsigned 32 offset ∧
      ((s.freqGate c offset).cand c).accepted = if (s.cand c).accepted then
        decide (offset.natAbs ≤ s.fld F.MONITOR_LIMITS_REJECT)
      else decide (offset.natAbs ≤ s.fld F.MONITOR_LIMITS_ACCEPT)
    else s.Found c (s.freqGate c offset) := by
  unfold State.freqGate
  cases hends : s.gateEnds c with
  | false => exact .refl c s
  | true =>
    have hset : s.Found c (s.setCand c { s.cand c with gateAt := some s.now }) :=
      ⟨rfl, by rw [State.cand_setCand_self]⟩
    have hlimit (f : Fld) (i : Nat) : (s.setCand c { s.cand c with gateAt := some s.now }).fld f i = s.fld f i := rfl
    have hbit (f : Fld) (i : Nat) : (s.setCand c { s.cand c with gateAt := some s.now }).on f i = s.on f i := rfl
    generalize s.setCand c { s.cand c with gateAt := some s.now } = w at hset hlimit hbit
    rw [if_pos rfl, Bool.true_and]
    cases hlane : candLane c with
    | none =>
      obtain ⟨hoffset, haccepted⟩ := w.freqMonitor_found hc offset
      rw [Option.all_none, if_pos rfl, State.gateOf_of_other hlane]
      exact ⟨hoffset, by rw [haccepted, hset.accepted, hlimit, hlimit]⟩
    | some l =>
      have hl := (candLane_lt hlane).1
      obtain ⟨hoffset, haccepted⟩ := (w.gateLane l offset).freqMonitor_found hc offset
      have hkept (f : Fld) (hf : f.obj 0 = O.MONITOR_LIMITS) : (w.gateLane l offset).fld f = s.fld f := by
        rw [← hlimit f]
        exact State.fld_of_val (State.gateLane_val hl (by rw [hf]; decide) (by rw [hf]; decide) offset)
      rw [Option.all_some, State.gateOf_of_lane hlane, hbit]
      split
      · exact ⟨hoffset, by rw [haccepted, State.gateLane_cand, hset.accepted, hkept _ rfl, hkept _ rfl]⟩
      · exact hset

/-- The end of a gate, seen at a locked lane. -/
theorem State.freqGate_lane (s : State) (hlane : candLane c = some l) (hends : s.gateEnds c = true)
    (hlock : s.on F.LANE_STATUS_CDR_LOCK l = true) (offset : Int) :
    (s.freqGate c offset).fld F.RX_FREQ_OFFSET_OFFSET l = unsigned 32 offset ∧
    (s.freqGate c offset).on F.LANE_STATUS_FREQ_OK l = Machine.freqOk offset ∧
    (s.freqGate c offset).on F.LANE_STATUS_CDR_LOCK l = (Machine.freqOk offset || !s.eqLive l) := by
  have hl := (candLane_lt hlane).1
  have hmonitor (w : State) (g : Fld) (hg : g.base < 0x09000000) : (w.freqMonitor c offset).fld g l = w.fld g l :=
    State.fld_of_val ((State.freqMonitor_same (K := 0) (B := 0x0A000030) c offset (by decide) (by decide)
      (.refl _ _ w)).objs _ (by simp only [Fld.obj, objAt]; omega))
  rw [State.freqGate, if_pos hends, State.gateOf_of_lane hlane, State.setCand_on, if_pos hlock]
  obtain ⟨hoffset, hok, hheld⟩ :=
    State.gateLane_shows (s := s.setCand c { s.cand c with gateAt := some s.now }) hl hlock offset
  exact ⟨(hmonitor _ _ (by decide)).trans hoffset, (congrArg (· == 1) (hmonitor _ _ (by decide))).trans hok,
    (congrArg (· == 1) (hmonitor _ _ (by decide))).trans hheld⟩

theorem State.candHook_found (s : State) (hc : c < 114) : s.Found c (s.candHook c) := by
  unfold State.candHook
  cases hlane : candLane c with
  | some l => exact s.laneHook_found hc
  | none => exact .refl c s

/-- Settles O8: each monitor's own lemma, followed through the watchers of the lane behind the candidate. -/
theorem referenceMonitors : Obligations.ReferenceMonitors := by
  unfold Obligations.ReferenceMonitors
  refine ⟨?inputs, ?candidates⟩
  case inputs =>
    intro t i s v hi hv
    have hunit : refUnit i = true := decide_eq_true hi
    refine ⟨⟨_, onUnit_ok hunit _ _, ?lost⟩, ⟨_, onUnit_ok hunit _ _, ?back⟩⟩
    all_goals rw [← hv]
    case lost =>
      split
      · next hgone => exact v.actLost_of_gone hi hgone
      · next hstay => exact if_neg hstay
    case back =>
      split
      · next hback => exact v.actReturn_of_back hback
      · next hstay => exact v.actReturn_of_not_back hstay
  case candidates =>
    intro t c s v hc hv
    have hunit : candUnit c = true := decide_eq_true hc
    refine ⟨fun offset => ⟨_, onUnit_ok hunit _ _, ?gate, ?lane⟩, ⟨_, onUnit_ok hunit _ _, ?unfit, ?waited⟩⟩
    all_goals rw [← hv]
    case gate =>
      have hhook := (v.freqGate c offset).candHook_found hc
      have hfound := v.freqGate_found hc offset
      split
      · next hmeasured =>
        rw [if_pos hmeasured] at hfound
        exact ⟨hhook.fld.trans hfound.1, hhook.accepted.trans hfound.2⟩
      · next hno =>
        rw [if_neg hno] at hfound
        exact ⟨(hfound.trans hhook).fld, (hfound.trans hhook).accepted⟩
    case lane =>
      intro l hlane hends hlock
      have hl := (candLane_lt hlane).1
      obtain ⟨hoffset, hok, hheld⟩ := v.freqGate_lane hlane hends hlock offset
      rw [State.candHook, hlane]
      exact ⟨(State.laneHook_fld _ l l hl (by decide)).trans hoffset, (State.laneHook_on _ l l hl (by decide)).trans hok,
        (State.laneHook_on _ l l hl (by decide)).trans hheld⟩
    case unfit => exact State.candWtr_of_unfit hc
    case waited => exact State.candWtr_of_waited hc

end
end Sys2Proof.Machine
end

section
/-! PROOFS. R326: one op of an open session that sees its object, as a command of its own: what it leaves, where neither the
session's end nor a warm reset becomes due. -/

namespace Sys2Proof.Machine

/-! ### Sessions by number -/

section
variable {s t v : State} {n m : Nat} {f : Session → Session}

theorem State.session_modSession (hf : ∀ y, (f y).num = y.num) (m : Nat) :
    (s.modSession n f).session m = (s.session m).map fun y => if y.num = n then f y else y := by
  have hsame (y : Session) : (if y.num = n then f y else y).num = y.num := by
    split
    exacts [hf y, rfl]
  simp only [State.session, State.modSession, List.find?_map, Function.comp_def, hsame]

theorem State.session_modSession_self (hf : ∀ y, (f y).num = y.num) :
    (s.modSession n f).session n = (s.session n).map f := by
  rw [State.session_modSession hf]
  cases hx : s.session n with
  | none => rfl
  | some x => exact congrArg some (if_pos (State.session_num hx))

theorem State.session_modSession_ne (hf : ∀ y, (f y).num = y.num) (hm : m ≠ n) :
    (s.modSession n f).session m = s.session m := by
  rw [State.session_modSession hf]
  cases hx : s.session m with
  | none => rfl
  | some x => exact congrArg some (if_neg fun h => hm ((State.session_num hx).symm.trans h))

/-! ### Other sessions are left alone -/

theorem State.onlySession_of_sessions (h : t.sessions = s.sessions) (n : Nat) : s.onlySession t n :=
  fun m _ => by rw [State.session, State.session, h]

theorem State.onlySession_trans {u : State} (h : s.onlySession t n) (k : t.onlySession u n) : s.onlySession u n :=
  fun m hm => (k m hm).trans (h m hm)

theorem State.onlySession_modSession (hf : ∀ y, (f y).num = y.num) : s.onlySession (s.modSession n f) n :=
  fun _ hm => State.session_modSession_ne hf hm

/-! ### What is due after an op -/

/-- After an op of session n neither its end nor a warm reset is due (R326, R401). -/
def State.GoesOn (n : Nat) (s : State) : Prop := (s.session n).any (·.closing) = false ∧ s.faults.resetWanted = false

theorem State.GoesOn.congr (h : s.GoesOn n) (hs : t.sessions = s.sessions) (hf : t.faults = s.faults) : t.GoesOn n := by
  obtain ⟨hopen, hreset⟩ := h
  exact ⟨by rwa [State.session, hs], by rwa [hf]⟩

theorem State.GoesOn.modSession (h : s.GoesOn n) (hnum : ∀ y, (f y).num = y.num)
    (hclosing : ∀ y, (f y).closing = y.closing) : (s.modSession n f).GoesOn n := by
  obtain ⟨hopen, hreset⟩ := h
  refine ⟨?_, hreset⟩
  rw [State.session_modSession_self hnum]
  cases hx : s.session n with
  | none => rfl
  | some x => rw [hx] at hopen; exact (hclosing x).trans hopen

/-- A session once a new key that it has taken over (R419), or as it is. -/
def Session.rekeyed (x : Session) : Session :=
  match x.newKey with
  | some k => { x with key := k, keyEpoch := x.keyEpoch + 1, newKey := none }
  | none => x

theorem Session.rekeyed_num (x : Session) : x.rekeyed.num = x.num := by
  unfold Session.rekeyed
  split <;> rfl

theorem Session.rekeyed_txn (x : Session) : x.rekeyed.txn = x.txn := by
  unfold Session.rekeyed
  split <;> rfl

theorem State.GoesOn.settleOps (h : s.GoesOn n) : s.settleOps n = s.modSession n Session.rekeyed := by
  obtain ⟨hopen, hreset⟩ := h
  have hkept : (s.rekeyed n).faults.resetWanted = false := hreset
  simp only [State.settleOps, hopen, Bool.false_eq_true, if_false, State.settleReset, hkept]
  rfl

/-! ### One op -/

/-- A session that the server hears at an instant. -/
def Session.heardAt (x : Session) (now : Tick) : Session := { x with lastMsg := now }

/-- The state in which the server does an op of session n: it has heard from the session now. -/
def State.heard (s : State) (n : Nat) : State := s.modSession n fun x => x.heardAt s.now

/-- An op of session n ends: its result is told, and a new key taken over. -/
def State.told (s : State) (n : Nat) (r : OpResult) : State := { s with lastOp := r }.modSession n Session.rekeyed

theorem State.heard_onlySession (s : State) (n : Nat) : s.onlySession (s.heard n) n :=
  State.onlySession_modSession fun _ => rfl

theorem State.told_onlySession (s : State) (n : Nat) (r : OpResult) : s.onlySession (s.told n r) n :=
  State.onlySession_modSession (s := { s with lastOp := r }) Session.rekeyed_num

/-- What the op does lies between: it leaves the other sessions where it leaves them in the state heard. -/
theorem State.onlySession_told {r : OpResult} (h : (v.heard n).onlySession t n) : v.onlySession (t.told n r) n :=
  State.onlySession_trans (State.onlySession_trans (v.heard_onlySession n) h) (t.told_onlySession n r)

/-- The result record of an op that ends as e (R326). -/
def OpEnd.record (e : OpEnd) (op : Op) : OpResult := ⟨op.obj, e.status, e.holder, op.n, e.data⟩

section
variable {x : Session} {r : ObjRow} {o : Nat} {op : Op}

theorem State.heard_session (h : v.seesObj n x o) : (v.heard n).session n = some (x.heardAt v.now) := by
  obtain ⟨-, hx, -⟩ := h
  rw [State.heard, State.session_modSession_self (f := fun y => y.heardAt v.now) fun _ => rfl, hx]
  rfl

theorem State.heard_goesOn (h : v.seesObj n x o) : (v.heard n).GoesOn n := by
  have hx := State.heard_session h
  obtain ⟨-, -, hclosing, -, hreset, -⟩ := h
  exact ⟨by rw [hx]; exact hclosing, hreset⟩

/-- A read that fits its object is done by the object's row. -/
theorem State.execOp_of_read (h : v.seesObj n x op.obj) (hrow : findRow op.obj = some r) (hfits : opFits r op = true)
    (hread : op.op = 0) : (v.heard n).execOp n op =
      (((v.heard n).readOp (x.heardAt v.now) r op).record op,
        ((v.heard n).readOp (x.heardAt v.now) r op).st) := by
  have hx := State.heard_session h
  obtain ⟨-, -, -, -, -, hvisible⟩ := h
  have hsees : (v.heard n).visible (x.heardAt v.now).part (x.heardAt v.now).sealed op.obj = true := hvisible
  simp [State.execOp, hx, hrow, hread, hsees, hfits, OpEnd.record]

/-- So is a write, outside the fatal state. -/
theorem State.execOp_of_write (h : v.seesObj n x op.obj) (hfatal : v.on F.FAULT_STATUS_FATAL = false)
    (hrow : findRow op.obj = some r) (hfits : opFits r op = true) (hwrite : op.op = 1) : (v.heard n).execOp n op =
      (((v.heard n).writeOp (x.heardAt v.now) r op).record op,
        ((v.heard n).writeOp (x.heardAt v.now) r op).st) := by
  have hx := State.heard_session h
  obtain ⟨-, -, -, -, -, hvisible⟩ := h
  have hsees : (v.heard n).visible (x.heardAt v.now).part (x.heardAt v.now).sealed op.obj = true := hvisible
  have hlive : (v.heard n).on F.FAULT_STATUS_FATAL = false := hfatal
  simp [State.execOp, hx, hrow, hwrite, hsees, hfits, hlive, OpEnd.record]

/-- A write that the object's row takes no words of leaves the state. -/
theorem State.execOp_of_unfit (h : v.seesObj n x op.obj) (hfatal : v.on F.FAULT_STATUS_FATAL = false)
    (hrow : findRow op.obj = some r) (hfits : opFits r op = false) : ((v.heard n).execOp n op).2 = v.heard n := by
  have hx := State.heard_session h
  obtain ⟨-, -, -, -, -, hvisible⟩ := h
  have hsees : (v.heard n).visible (x.heardAt v.now).part (x.heardAt v.now).sealed op.obj = true := hvisible
  have hlive : (v.heard n).on F.FAULT_STATUS_FATAL = false := hfatal
  simp [State.execOp, hx, hrow, hsees, hfits, hlive, State.failed]

/-- R326: the op of a session that the server serves is done and told, and nothing more follows. -/
theorem State.oneOp_of_sees {res : OpResult} (h : v.seesObj n x op.obj) (hop : (v.heard n).execOp n op = (res, t))
    (hgoes : t.GoesOn n) : v.oneOp n op = t.told n res := by
  obtain ⟨hserves, hx, -⟩ := h
  have hdone : ({ t with lastOp := res } : State).GoesOn n := hgoes.congr rfl rfl
  have hone : v.oneOp n op = if v.serves && (v.session n).isSome then
      ({ ((v.heard n).execOp n op).2 with lastOp := ((v.heard n).execOp n op).1 } : State).settleOps n else v := rfl
  rw [hone, hserves, hx, hop]
  exact hdone.settleOps

end
end
end Sys2Proof.Machine
end

section
/-! PROOFS. R51, R77, R82, R203, R318: the bits that act on one lane when their write executes. -/

namespace Sys2Proof.Machine

/-! ### A write of a lane's control object -/

/-- The object takes a write of one word that acts at once (R318). -/
def ObjRow.isControl (r : ObjRow) : Bool := r.acc == .wo && r.window == 0 && r.words == 1

/-- The areas whose controls act on one lane, MAC or channel. -/
def inControlArea (o : Nat) : Bool := objArea o < 0x0A || objArea o == 0x0F || objArea o == 0x12

section
variable {s t v : State} {n o l : Nat} {w : Word} {x : Session} {r : ObjRow} {op : Op}

theorem State.woOp_of_control (hrow : r.isControl = true) (ho : inControlArea op.obj = true) :
    s.woOp n r op = (s.laneControl op.obj (op.data.headD 0)).did := by
  obtain ⟨⟨-, hwindow⟩, -⟩ : (r.acc = .wo ∧ r.window = 0) ∧ r.words = 1 := by simpa [ObjRow.isControl] using hrow
  have harea : objArea op.obj < 0x0A ∨ objArea op.obj = 0x0F ∨ objArea op.obj = 0x12 := by
    simpa [inControlArea, or_assoc] using ho
  have hne (k : Nat) (hk : 0x0A ≤ objArea k ∧ objArea k ≠ 0x0F ∧ objArea k ≠ 0x12) : op.obj ≠ k := by
    intro h
    rw [h] at harea
    omega
  unfold State.woOp
  dsimp only
  rw [if_neg (by simp [hwindow]), if_neg (by omega), if_neg (hne _ (by decide)),
    if_neg (by simp [hne O.TANDEM_COMMAND (by decide), hne O.GALLERY_COMMAND (by decide)]), if_neg (hne _ (by decide)),
    if_neg (hne _ (by decide)), if_neg (hne _ (by decide)), if_neg (hne _ (by decide)), if_neg (by omega),
    if_neg (hne _ (by decide)), if_neg (hne _ (by decide))]

/-- R318: a write that no one turns away goes to its object's kind. -/
theorem State.writeOp_of_writes (h : v.writesObj n x op.obj) (hacc : r.acc = .wo ∨ r.acc = .w1c) :
    (v.heard n).writeOp (x.heardAt v.now) r op =
      if r.acc = .wo then (v.heard n).woOp n r op else ((v.heard n).w1cOp r op).did := by
  obtain ⟨⟨-, hx, -⟩, hfatal, hclaim, hmay⟩ := h
  have hlive : (v.heard n).on F.FAULT_STATUS_FATAL = false := hfatal
  have hfree : (v.heard n).claimHolder n op.obj = 0 := hclaim
  have hallowed : (v.heard n).mayWrite x.part op.obj = true := hmay
  have hnum : x.num = n := State.session_num hx
  rcases hacc with hacc | hacc <;>
    simp [State.writeOp, Session.heardAt, hlive, hfree, hallowed, hnum, hacc]

/-- A write of a control word acts and is told as done. -/
theorem State.oneOp_of_control (h : v.writesObj n x o) (hrow : (findRow o).any ObjRow.isControl = true)
    (ho : inControlArea o = true) (hsessions : ((v.heard n).laneControl o w).sessions = (v.heard n).sessions)
    (hfaults : ((v.heard n).laneControl o w).faults = v.faults) :
    v.oneOp n (wr o [w]) = ((v.heard n).laneControl o w).told n ⟨o, stOk, 0, 1, []⟩ := by
  obtain ⟨r, hr, hcontrol⟩ := Option.any_eq_true _ _ |>.mp hrow
  have hkind : (r.acc = .wo ∧ r.window = 0) ∧ r.words = 1 := by simpa [ObjRow.isControl] using hcontrol
  have hfits : opFits r (wr o [w]) = true := by simp [opFits, wr, hkind.1.2, hkind.2]
  have hwrite : (v.heard n).writeOp (x.heardAt v.now) r (wr o [w]) = ((v.heard n).laneControl o w).did := by
    have hdone := State.writeOp_of_writes (op := wr o [w]) h (.inl hkind.1.1)
    rw [if_pos hkind.1.1, State.woOp_of_control (op := wr o [w]) hcontrol ho] at hdone
    exact hdone
  refine State.oneOp_of_sees h.1 ?_ ((State.heard_goesOn h.1).congr hsessions hfaults)
  rw [State.execOp_of_write h.1 h.2.1 hr hfits rfl, hwrite]
  rfl

theorem State.told_lane (t : State) (n : Nat) (res : OpResult) (m : Nat) : (t.told n res).lane m = t.lane m := rfl

theorem State.heard_lane (s : State) (n m : Nat) : (s.heard n).lane m = s.lane m := rfl

theorem State.told_lastOp (t : State) (n : Nat) (res : OpResult) : (t.told n res).lastOp = res := rfl

/-! ### The controls of a lane's ledger and of its SDH section -/

theorem findRow_ledgerControl : ∀ l < 96, (findRow (objAt O.LEDGER_CONTROL l)).any ObjRow.isControl = true := by
  decide +kernel

theorem findRow_sdhControl : ∀ l < 96, (findRow (objAt O.SDH_CONTROL l)).any ObjRow.isControl = true := by
  decide +kernel

/-- The area of an object of lane l, and the lane. -/
theorem objArea_objAt {base : Nat} (k : Nat) (hl : l < 96) (hk : k * 2 ^ 24 ≤ base ∧ base < k * 2 ^ 24 + 4096) :
    objArea (objAt base l) = k ∧ objInst (objAt base l) = l := by
  unfold objArea objInst objAt
  omega

theorem inControlArea_objAt {base : Nat} (hl : l < 96) (hbase : base < 0x09F00000) :
    inControlArea (objAt base l) = true := by
  have harea : objArea (objAt base l) < 0x0A := by
    unfold objArea objAt
    omega
  simp [inControlArea, harea]

/-- RESEED (R203): asked for where the lane's ledger is on (log 42). -/
theorem State.laneControl_reseed (s : State) (hl : l < 96) : s.laneControl (objAt O.LEDGER_CONTROL l) 4 =
    if s.ledgerOn l then s.modLane l fun y => { y with ledger := { y.ledger with reseedAsked := true } } else s := by
  obtain ⟨harea, hinst⟩ := objArea_objAt (base := O.LEDGER_CONTROL) 0x09 hl (by decide)
  unfold State.laneControl
  dsimp only
  rw [harea, hinst]
  rfl

/-- A lane whose section is asked for errors. -/
def Lane.injects (y : Lane) (b1 b2 : Bool) : Lane :=
  { y with injectB1 := y.injectB1 || b1, injectB2 := y.injectB2 || b2 }

/-- A write of LEDGER_CONTROL that asks for a reseed alone. -/
theorem State.oneOp_of_reseed (h : v.writesObj n x (objAt O.LEDGER_CONTROL l)) (hl : l < 96) :
    v.oneOp n (wr (objAt O.LEDGER_CONTROL l) [4]) = (if v.ledgerOn l then (v.heard n).modLane l fun y =>
      { y with ledger := { y.ledger with reseedAsked := true } } else v.heard n).told n
        ⟨objAt O.LEDGER_CONTROL l, stOk, 0, 1, []⟩ := by
  have hcontrol := (v.heard n).laneControl_reseed hl
  have hon : (v.heard n).ledgerOn l = v.ledgerOn l := rfl
  rw [hon] at hcontrol
  rw [← hcontrol]
  exact State.oneOp_of_control h (findRow_ledgerControl l hl) (inControlArea_objAt hl (by decide))
    (by rw [hcontrol]; split <;> rfl) (by rw [hcontrol]; split <;> rfl)

/-- The error injections of an SDH lane (R82). -/
theorem State.laneControl_inject (s : State) (hl : l < 96) (hset : w.getLsbD 0 = false ∧ w.getLsbD 1 = false) :
    s.laneControl (objAt O.SDH_CONTROL l) w =
      if s.isSdh l then s.modLane l fun y => y.injects (w.getLsbD 2) (w.getLsbD 3) else s := by
  obtain ⟨harea, hinst⟩ := objArea_objAt (base := O.SDH_CONTROL) 0x04 hl (by decide)
  unfold State.laneControl
  dsimp only
  rw [harea, hinst, hset.1, hset.2]
  rfl

/-- A write of SDH_CONTROL that asks for errors alone. -/
theorem State.oneOp_of_inject (h : v.writesObj n x (objAt O.SDH_CONTROL l)) (hl : l < 96)
    (hset : w.getLsbD 0 = false ∧ w.getLsbD 1 = false) : v.oneOp n (wr (objAt O.SDH_CONTROL l) [w]) =
      (if v.isSdh l then (v.heard n).modLane l fun y => y.injects (w.getLsbD 2) (w.getLsbD 3) else v.heard n).told n
        ⟨objAt O.SDH_CONTROL l, stOk, 0, 1, []⟩ := by
  have hcontrol := (v.heard n).laneControl_inject hl hset
  have hsdh : (v.heard n).isSdh l = v.isSdh l := rfl
  rw [hsdh] at hcontrol
  rw [← hcontrol]
  exact State.oneOp_of_control h (findRow_sdhControl l hl) (inControlArea_objAt hl (by decide))
    (by rw [hcontrol]; split <;> rfl) (by rw [hcontrol]; split <;> rfl)

/-- The lane after a change that its role may forbid. -/
theorem State.told_ite_lane (res : OpResult) (p : Bool) (f : Lane → Lane) :
    ((if p then s.modLane l f else s).told n res).lane l = if p then f (s.lane l) else s.lane l := by
  rw [State.told_lane]
  cases p with
  | true => exact s.lane_modLane_self l f
  | false => rfl

/-! ### A write of a lane's configuration object, staged (R318, R332) -/

/-- The staged write of an object's one word. -/
def wordWr (o : Nat) (w : Word) : Wr := ⟨o, none, wordsVal [w]⟩

/-- A session with write w staged in its open transaction (R332). -/
def Session.staged (y : Session) (w : Wr) : Session :=
  { y with txn := some (((y.txn.getD []).filter fun v => !(v.o == w.o && v.idx == w.idx)) ++ [maskedWr w]) }

/-- The state in which session n, heard, has staged a write. -/
def State.stagedBy (s : State) (n : Nat) (w : Wr) : State := (s.heard n).modSession n fun y => y.staged w

theorem Session.staged_any (y : Session) (wr : Wr) : ((y.staged wr).txn.getD []).any (fun k => k.o == wr.o) = true := by
  simp [Session.staged, maskedWr]

theorem State.stageWr_of_free {wr : Wr} (hfree : s.claimHolder n wr.o = 0) (hentry : isEntryWr wr = false) :
    s.stageWr n wr = (stOk, 0, s.modSession n fun y => y.staged wr) := by
  simp only [State.stageWr, hfree, hentry]
  rfl

/-- The object takes a write of one word that is staged. -/
def ObjRow.isStaged (r : ObjRow) : Bool := r.acc == .rws && r.window == 0 && r.words == 1

theorem findRow_ttfTxCtrl : ∀ l < 96, (findRow (objAt O.TTF_TX_CTRL l)).any ObjRow.isStaged = true := by
  decide +kernel

theorem findRow_patternCtrl : ∀ l < 96, (findRow (objAt O.PATTERN_CTRL l)).any ObjRow.isStaged = true := by
  decide +kernel

/-- A write of one word to an object of an area before the cross-connect's is staged (R318, R332), and acts (R318). -/
theorem State.stageOp_of_word (hfree : s.claimHolder n o = 0) (hwindow : r.window = 0) (harea : objArea o < 0x07) :
    s.stageOp n r (wr o [w]) =
      ⟨stOk, 0, [], (s.modSession n fun y => y.staged (wordWr o w)).actInside o (wordsVal [w])⟩ := by
  have hentry : isEntryWr (wordWr o w) = false := by
    have hne : objArea (wordWr o w).o ≠ 0x07 := Nat.ne_of_lt harea
    simp [isEntryWr, isEntryObj, hne]
  have hopen : notWritable (wr o [w]).obj = false := by
    have hne : objArea (wr o [w]).obj ≠ 0x0A := Nat.ne_of_lt (Nat.lt_trans harea (by decide))
    simp [notWritable, hne]
  have hstage : s.stageWr n ⟨(wr o [w]).obj, none, wordsVal (wr o [w]).data⟩ = _ :=
    State.stageWr_of_free (wr := wordWr o w) hfree hentry
  simp only [State.stageOp, hwindow, hopen, hstage]
  rfl

/-- A write of a staged object that no claim of another covers: it is staged, and what acts inside it acts (R318). -/
theorem State.oneOp_of_staged (h : v.seesObj n x o) (hfatal : v.on F.FAULT_STATUS_FATAL = false)
    (hfree : v.claimHolder n o = 0) (hrow : (findRow o).any ObjRow.isStaged = true) (harea : objArea o < 0x07) :
    v.oneOp n (wr o [w]) = ((v.stagedBy n (wordWr o w)).actInside o
      (wordsVal [w])).told n ⟨o, stOk, 0, 1, []⟩ := by
  obtain ⟨r, hr, hstaged⟩ := Option.any_eq_true _ _ |>.mp hrow
  obtain ⟨⟨hacc, hwindow⟩, hwords⟩ : (r.acc = .rws ∧ r.window = 0) ∧ r.words = 1 := by
    simpa [ObjRow.isStaged] using hstaged
  have hfits : opFits r (wr o [w]) = true := by simp [opFits, wr, hwindow, hwords]
  have hnum : (x.heardAt v.now).num = n := State.session_num (x := x) h.2.1
  have hlive : (v.heard n).on F.FAULT_STATUS_FATAL = false := hfatal
  have hkept : (v.heard n).claimHolder n o = 0 := hfree
  have hstage : (v.heard n).stageOp n r (wr o [w]) = _ := State.stageOp_of_word hkept hwindow harea
  have hwrite : (v.heard n).writeOp (x.heardAt v.now) r (wr o [w]) =
      ⟨stOk, 0, [], (v.stagedBy n (wordWr o w)).actInside o (wordsVal [w])⟩ := by
    have hclaim : (v.heard n).claimHolder n (wr o [w]).obj = 0 := hfree
    simp only [State.writeOp, hlive, hacc, hnum, hclaim, hstage]
    rfl
  have hsame : Same (2 ^ 14 ||| 2 ^ 42) 0 (v.stagedBy n (wordWr o w)) _ :=
    State.actInside_same o (wordsVal [w]) (by decide) (.refl _ _ _)
  have hgoes := ((State.heard_goesOn h).modSession (f := fun y => y.staged (wordWr o w)) (fun _ => rfl)
    fun _ => rfl).congr (hsame.sessions (by decide)) (hsame.faults (by decide))
  refine State.oneOp_of_sees h ?_ hgoes
  rw [State.execOp_of_write h hfatal hr hfits rfl, hwrite]
  rfl

/-- The bit that a command sets in a word of an object. -/
theorem wordsVal_getLsbD (v bit : Nat) (hbit : bit < 32) :
    (wordsVal [BitVec.ofNat 32 (v ||| 2 ^ bit)]).getLsbD bit = true := by
  have hword : (BitVec.ofNat 32 (v ||| 2 ^ bit)).toNat.testBit bit = true := by
    rw [BitVec.toNat_ofNat, Nat.testBit_mod_two_pow, Nat.testBit_or, Nat.testBit_two_pow_self, Bool.or_true, Bool.and_true]
    exact decide_eq_true hbit
  have hval : wordsVal [BitVec.ofNat 32 (v ||| 2 ^ bit)] = BitVec.ofNat 96 (BitVec.ofNat 32 (v ||| 2 ^ bit)).toNat := by
    simp [wordsVal]
  rw [hval, BitVec.getLsbD_ofNat, hword, Bool.and_true]
  exact decide_eq_true (by omega)

theorem State.actInside_bip (s : State) (hl : l < 96) {b : Val} (hb : b.getLsbD 2 = true) :
    s.actInside (objAt O.TTF_TX_CTRL l) b =
      if s.isTtf l then s.modLane l fun y => { y with injectBip := true } else s := by
  have hinst := (objArea_objAt (base := O.TTF_TX_CTRL) 0x03 hl (by decide)).2
  have hother : objAt O.TTF_TX_CTRL l ≠ F.PATTERN_CTRL_ERR_INJECT.obj l := by
    simp only [Fld.obj, objAt, O.TTF_TX_CTRL, F.PATTERN_CTRL_ERR_INJECT]
    omega
  have hown : objAt O.TTF_TX_CTRL l = F.TTF_TX_CTRL_INJECT_BIP.obj l := rfl
  simp [State.actInside, hinst, hother, ← hown, hb]

theorem State.actInside_err (s : State) (hl : l < 96) {b : Val} (hb : b.getLsbD 8 = true) :
    s.actInside (objAt O.PATTERN_CTRL l) b = s.modLane l fun y => { y with injectErr := y.injectErr + 1 } := by
  have hinst := (objArea_objAt (base := O.PATTERN_CTRL) 0x02 hl (by decide)).2
  have hown : objAt O.PATTERN_CTRL l = F.PATTERN_CTRL_ERR_INJECT.obj l := rfl
  simp [State.actInside, hinst, ← hown, hb]

/-- What session n staged is still staged once its op is told. -/
theorem State.told_staged (h : v.seesObj n x o) (wr : Wr) (b : Val) (res : OpResult) :
    ∃ y, (((v.stagedBy n wr).actInside o b).told n res).session n = some y ∧
      (y.txn.getD []).any (fun k => k.o == wr.o) = true := by
  have hkept : ((v.stagedBy n wr).actInside o b).sessions = (v.stagedBy n wr).sessions :=
    (State.actInside_same (K := 2 ^ 14) (B := 0) o b (by decide) (.refl _ _ _)).sessions (by decide)
  have hstaged : ((v.stagedBy n wr).actInside o b).session n = some ((x.heardAt v.now).staged wr) := by
    rw [State.session, hkept]
    exact (State.session_modSession_self (f := fun y => y.staged wr) fun _ => rfl).trans
      (congrArg (Option.map fun y => y.staged wr) (State.heard_session h))
  refine ⟨_, (State.session_modSession_self (s := { (v.stagedBy n wr).actInside o b with lastOp := res })
    Session.rekeyed_num).trans (congrArg (Option.map Session.rekeyed) hstaged), ?_⟩
  rw [Session.rekeyed_txn]
  exact Session.staged_any _ wr

/-- Settles O20: each write by the equation of its control, or as staged with what acts inside it. -/
theorem laneInjections : Obligations.LaneInjections := by
  unfold Obligations.LaneInjections
  intro t n l s v x hn hn' hl hv
  have hunit : (sessUnit n && laneUnit l) = true := by simp [sessUnit, laneUnit, hn, hn', hl]
  have hop (op : Op) : (s.advance t).hostOp n op = v.oneOp n op := by rw [State.hostOp, ← hv]
  have hbit (o bit : Nat) : ∃ k, (s.advance t).woBit n o bit = v.oneOp n (wr o [BitVec.ofNat 32 (k ||| 2 ^ bit)]) :=
    ⟨_, hop _⟩
  refine ⟨fun h => ⟨_, onUnit_ok hunit _ _, ?reseed⟩,
    fun h => ⟨⟨_, onUnit_ok hunit _ _, ?b1⟩, ⟨_, onUnit_ok hunit _ _, ?b2⟩⟩,
    fun h hfatal hfree => ⟨_, onUnit_ok hunit _ _, ?bip⟩, fun h hfatal hfree => ⟨_, onUnit_ok hunit _ _, ?err⟩⟩
  case reseed =>
    rw [hop, State.oneOp_of_reseed h hl, State.ledger, State.told_ite_lane]
    refine ⟨rfl, ?_⟩
    cases v.ledgerOn l <;> rfl
  case b1 =>
    rw [hop, State.oneOp_of_inject h hl (by decide), State.told_ite_lane]
    refine ⟨rfl, ?_⟩
    cases v.isSdh l with
    | true => exact ⟨Bool.or_true _, Bool.or_false _⟩
    | false => exact ⟨rfl, rfl⟩
  case b2 =>
    rw [hop, State.oneOp_of_inject h hl (by decide), State.told_ite_lane]
    refine ⟨rfl, ?_⟩
    cases v.isSdh l with
    | true => exact ⟨Bool.or_true _, Bool.or_false _⟩
    | false => exact ⟨rfl, rfl⟩
  case bip =>
    obtain ⟨k, hk⟩ := hbit (objAt O.TTF_TX_CTRL l) 2
    rw [hk, State.oneOp_of_staged h hfatal hfree (findRow_ttfTxCtrl l hl)
      (by rw [(objArea_objAt 0x03 hl (by decide)).1]; decide)]
    refine ⟨rfl, ?_, State.told_staged h (wordWr _ _) _ _⟩
    have hrole (w : Wr) : (v.stagedBy n w).isTtf l = v.isTtf l := rfl
    rw [State.actInside_bip _ hl (wordsVal_getLsbD k 2 (by decide)), State.told_ite_lane, hrole]
    cases v.isTtf l <;> rfl
  case err =>
    obtain ⟨k, hk⟩ := hbit (objAt O.PATTERN_CTRL l) 8
    rw [hk, State.oneOp_of_staged h hfatal hfree (findRow_patternCtrl l hl)
      (by rw [(objArea_objAt 0x02 hl (by decide)).1]; decide)]
    refine ⟨rfl, ?_, State.told_staged h (wordWr _ _) _ _⟩
    rw [State.actInside_err _ hl (wordsVal_getLsbD k 8 (by decide)), State.told_lane, State.lane_modLane_self]
    rfl

end
end Sys2Proof.Machine
end

section
/-! PROOFS. R48, R292, R293, R315, R318, R385: what the reads with an effect and the writes that act at once leave. -/

namespace Sys2Proof.Machine

/-- A command on units that exist leaves the state that it names. -/
theorem eq_of_onUnit {ok : Bool} {what : String} {s u : State} (hok : ok = true) (h : onUnit ok what s = .next u) :
    u = s := by
  rw [onUnit_ok hok] at h
  cases h
  rfl

section
variable {s t v : State} {n o k l c : Nat} {w : Word} {x : Session} {r : ObjRow} {set : CounterSet}

/-- An op ends told with the state that it leaves, where nothing is due after it. -/
theorem State.oneOp_told {op : Op} (h : v.seesObj n x op.obj) (hst : ((v.heard n).execOp n op).2 = t) (hgoes : t.GoesOn n) :
    ∃ res, v.oneOp n op = t.told n res :=
  ⟨((v.heard n).execOp n op).1, State.oneOp_of_sees h (Prod.ext rfl hst) hgoes⟩

/-- The state with another dictionary. -/
def State.withDict (s : State) (d : Map Val) : State := { s with dict := d }

/-! ### Reads -/

/-- A read that fits its object ends told, where nothing is due after it. -/
theorem State.oneOp_of_read (h : v.seesObj n x o) (hrow : findRow o = some r) (hfits : opFits r (rd o k) = true)
    (hst : ((v.heard n).readOp (x.heardAt v.now) r (rd o k)).st = t) (hgoes : t.GoesOn n) :
    ∃ res, v.oneOp n (rd o k) = t.told n res :=
  State.oneOp_told (op := rd o k) h (by rw [State.execOp_of_read h hrow hfits rfl, hst]) hgoes

/-- The object is a queue's window, of two-word items (R322). -/
def ObjRow.isQueue (r : ObjRow) : Bool := r.acc == .ro && r.window == 2

/-- The object is read in one word, without clearing. -/
def ObjRow.isPlain (r : ObjRow) : Bool := r.acc == .ro && r.window == 0 && r.words == 1

theorem findRow_tcaLog : (findRow O.TCA_LOG).any ObjRow.isQueue = true := by decide +kernel

theorem findRow_extWindow : ∀ l < 96, ∀ c < 4, (findRow (objAt O.EXT_WINDOW l (16 * c))).any ObjRow.isQueue = true := by
  decide +kernel

theorem findRow_historyInfo : (findRow O.HISTORY_INFO).any ObjRow.isPlain = true := by decide +kernel

theorem findRow_faultInfo : (findRow O.FAULT_INFO).any ObjRow.isPlain = true := by decide +kernel

/-- R322: a read of two words of a queue's window takes one item. -/
theorem State.oneOp_of_queue (h : v.seesObj n x o) (hrow : (findRow o).any ObjRow.isQueue = true)
    (hpop : ((v.heard n).popItem o).2 = t) (hsessions : t.sessions = (v.heard n).sessions) (hfaults : t.faults = v.faults) :
    ∃ res, v.oneOp n (rd o 2) = t.told n res := by
  obtain ⟨r, hr, hqueue⟩ := Option.any_eq_true _ _ |>.mp hrow
  obtain ⟨hacc, hwindow⟩ : r.acc = .ro ∧ r.window = 2 := by simpa [ObjRow.isQueue] using hqueue
  refine State.oneOp_of_read h hr (by simp [opFits, rd, hwindow, queueWindow]) ?_
    ((State.heard_goesOn h).congr hsessions hfaults)
  have hqueued : queueWindow r = true := by simp [queueWindow, hwindow]
  have hone : (rd o 2).n / 2 = 1 := by simp [rd]
  rw [State.readOp, if_neg (by simp [hacc]), if_pos hqueued, hone, ← hpop]
  simp only [State.popItems, rd]

/-- R318: a read of a plain object does what belongs to it. -/
theorem State.oneOp_of_plain (h : v.seesObj n x o) (hrow : (findRow o).any ObjRow.isPlain = true)
    (harea : objArea o ≠ 0x13) (hread : (v.heard n).afterRead n o .ro = t) (hgoes : t.GoesOn n) :
    ∃ res, v.oneOp n (rd o 1) = t.told n res := by
  obtain ⟨r, hr, hplain⟩ := Option.any_eq_true _ _ |>.mp hrow
  obtain ⟨⟨hacc, hwindow⟩, hwords⟩ : (r.acc = .ro ∧ r.window = 0) ∧ r.words = 1 := by
    simpa [ObjRow.isPlain] using hplain
  have hnum : (x.heardAt v.now).num = n := State.session_num (x := x) h.2.1
  have hbefore : (v.heard n).beforeRead o = v.heard n := by simp [State.beforeRead, harea]
  refine State.oneOp_of_read h hr (by simp [opFits, rd, hwindow, hwords]) ?_ hgoes
  simp only [State.readOp, rd, hacc, queueWindow, hwindow, hbefore, hnum, hread]
  rfl

theorem State.popItem_tcaLog (s : State) : (s.popItem O.TCA_LOG).2 = { s with tcaLog := s.tcaLog.tail } := by
  rw [State.popItem, if_pos rfl]
  cases hlog : s.tcaLog with
  | nil =>
    dsimp only
    rw [List.tail_nil, ← hlog]
  | cons p rest => rfl

/-! ### Writes -/

theorem findRow_historyControl : (findRow O.HISTORY_CONTROL).any ObjRow.isControl = true := by decide +kernel

theorem findRow_fecControl : ∀ l < 96, (findRow (objAt O.FEC_CONTROL l)).any ObjRow.isControl = true := by decide +kernel

theorem findRow_groupControl : ∀ l < 96, (findRow (objAt O.GROUP_CONTROL l)).any ObjRow.isControl = true := by
  decide +kernel

theorem findRow_lrControl : ∀ l < 96, (findRow (objAt O.LR_CONTROL l)).any ObjRow.isControl = true := by decide +kernel

theorem findRow_statsControl : ∀ m < 2, (findRow (objAt O.STATS_CONTROL m)).any ObjRow.isControl = true := by
  decide +kernel

theorem findRow_qControl : ∀ l < 96, ∀ c < 4, (findRow (objAt O.Q_CONTROL l (16 * c))).any ObjRow.isControl = true := by
  decide +kernel

/-- A write of the control word of the history (R231). -/
theorem State.oneOp_of_historyClear (h : v.writesObj n x O.HISTORY_CONTROL) :
    ∃ res, v.oneOp n (wr O.HISTORY_CONTROL [1]) = (v.heard n).historyClear.told n res := by
  obtain ⟨r, hr, hcontrol⟩ := Option.any_eq_true _ _ |>.mp findRow_historyControl
  obtain ⟨⟨hacc, hwindow⟩, hwords⟩ : (r.acc = .wo ∧ r.window = 0) ∧ r.words = 1 := by
    simpa [ObjRow.isControl] using hcontrol
  have hfits : opFits r (wr O.HISTORY_CONTROL [1]) = true := by simp [opFits, wr, hwindow, hwords]
  have hact : (v.heard n).woOp n r (wr O.HISTORY_CONTROL [1]) = (v.heard n).historyClear.did := by
    rw [State.woOp, if_neg (by simp [hwindow])]
    rfl
  have hwrite : (v.heard n).writeOp (x.heardAt v.now) r (wr O.HISTORY_CONTROL [1]) = (v.heard n).historyClear.did := by
    have hdone := State.writeOp_of_writes (op := wr O.HISTORY_CONTROL [1]) h (.inl hacc)
    rw [if_pos hacc, hact] at hdone
    exact hdone
  refine State.oneOp_told (op := wr O.HISTORY_CONTROL [1]) h.1 ?_ ((State.heard_goesOn h.1).congr rfl rfl)
  rw [State.execOp_of_write h.1 h.2.1 hr hfits rfl, hwrite]
  rfl

/-- A write of a W1C object, whatever its words, changes that object alone. -/
theorem State.oneOp_of_w1c (h : v.writesObj n x o) (hr : findRow o = some r) (hacc : r.acc = .w1c) (w : Word) :
    ∃ res d, v.oneOp n (wr o [w]) = ((v.heard n).withDict d).told n res ∧
      ∀ p, p ≠ o → ((v.heard n).withDict d).val p = v.val p := by
  have hleft : ∃ d, ((v.heard n).execOp n (wr o [w])).2 = (v.heard n).withDict d ∧
      ∀ p, p ≠ o → ((v.heard n).withDict d).val p = v.val p := by
    cases hfits : opFits r (wr o [w]) with
    | false => exact ⟨v.dict, State.execOp_of_unfit (op := wr o [w]) h.1 h.2.1 hr hfits, fun _ _ => rfl⟩
    | true =>
      rw [State.execOp_of_write (op := wr o [w]) h.1 h.2.1 hr hfits rfl,
        State.writeOp_of_writes (op := wr o [w]) h (.inr hacc), if_neg (by simp [hacc])]
      dsimp only [State.did]
      unfold State.w1cOp
      split
      · exact ⟨v.dict, rfl, fun _ _ => rfl⟩
      · exact ⟨_, rfl, fun p hp => (v.heard n).val_setVal_ne hp _⟩
  obtain ⟨d, hd, hval⟩ := hleft
  obtain ⟨res, hres⟩ := State.oneOp_told (op := wr o [w]) h.1 hd ((State.heard_goesOn h.1).congr rfl rfl)
  exact ⟨res, d, hres, hval⟩

/-! ### Counter sets (R48) -/

theorem findRow_setControl (hc : counterSetOk set = true) (hset : ∀ e, set ≠ .engine e) :
    (findRow (setControl set)).any ObjRow.isControl = true ∧ inControlArea (setControl set) = true := by
  cases set with
  | fec l => exact ⟨findRow_fecControl l (of_decide_eq_true hc), inControlArea_objAt (of_decide_eq_true hc) (by decide)⟩
  | sdh l => exact ⟨findRow_sdhControl l (of_decide_eq_true hc), inControlArea_objAt (of_decide_eq_true hc) (by decide)⟩
  | group l => exact ⟨findRow_groupControl l (of_decide_eq_true hc), inControlArea_objAt (of_decide_eq_true hc) (by decide)⟩
  | landing l => exact ⟨findRow_lrControl l (of_decide_eq_true hc), inControlArea_objAt (of_decide_eq_true hc) (by decide)⟩
  | ledger l => exact ⟨findRow_ledgerControl l (of_decide_eq_true hc), inControlArea_objAt (of_decide_eq_true hc) (by decide)⟩
  | mac m =>
    have hm : m < 2 := of_decide_eq_true hc
    have harea := (objArea_objAt (base := O.STATS_CONTROL) (l := m) 0x12 (by omega) (by decide)).1
    exact ⟨findRow_statsControl m hm, by simp [setControl, inControlArea, harea]⟩
  | engine e => exact absurd rfl (hset e)

/-- A dictionary without the objects of a set reads the others as before. -/
theorem Map.get_filter_key {α : Type} (d : α) (p : Nat → Bool) (m : Map α) (hk : p k = true) :
    Map.get d k (m.filter fun e => p e.1) = Map.get d k m := by
  induction m with
  | nil => rfl
  | cons e m ih =>
    by_cases hek : k = e.1
    · subst hek
      simp [hk, Map.get]
    · cases hp : p e.1 <;> simp [hp, Map.get, hek, ih]

theorem State.foldl_setVal (l : List (Nat × Val)) (s : State) : ∃ d,
    l.foldl (fun s p => s.setVal p.1 p.2) s = s.withDict d ∧
      ∀ o, (∀ p ∈ l, p.1 ≠ o) → (s.withDict d).val o = s.val o := by
  induction l generalizing s with
  | nil => exact ⟨s.dict, rfl, fun _ _ => rfl⟩
  | cons p l ih =>
    obtain ⟨d, hd, hval⟩ := ih (s.setVal p.1 p.2)
    refine ⟨d, hd, fun o ho => (hval o fun q hq => ho q (List.mem_cons_of_mem _ hq)).trans ?_⟩
    exact s.val_setVal_ne (ho p List.mem_cons_self).symm p.2

/-- SNAPSHOT writes the objects of its set alone. -/
theorem State.takeSnapshot_eq (s : State) (hset : ∀ e, set ≠ .engine e) : ∃ d, s.takeSnapshot set = s.withDict d ∧
    ∀ o, inSet set o = false → (s.withDict d).val o = s.val o := by
  have hcopy : s.takeSnapshot set = (s.live.filter fun (p : Nat × Val) => inSet set p.1).foldl (fun s p => s.setVal p.1 p.2)
      (s.withDict (s.dict.filter fun (p : Nat × Val) => !inSet set p.1)) := by
    cases set with
    | engine e => exact absurd rfl (hset e)
    | _ => rfl
  obtain ⟨d, hd, hval⟩ := State.foldl_setVal (s.live.filter fun (p : Nat × Val) => inSet set p.1)
    (s.withDict (s.dict.filter fun (p : Nat × Val) => !inSet set p.1))
  refine ⟨d, hcopy.trans hd, fun o ho => (hval o fun p hp hpo => ?_).trans ?_⟩
  · have hin : inSet set p.1 = true := (List.mem_filter.mp hp).2
    rw [hpo, ho] at hin
    exact Bool.false_ne_true hin
  · exact Map.get_filter_key (objDefault o) (fun k => !inSet set k) s.dict (by simp [ho])

/-- CLEAR of a set that is not a MAC's returns its live counts to 0. -/
theorem State.clearSet_eq (s : State) (hset : ∀ e, set ≠ .engine e) (hmac : ∀ m, set ≠ .mac m) :
    s.clearSet set = { s with live := s.live.filter fun (p : Nat × Val) => !inSet set p.1 } := by
  cases set with
  | engine e => exact absurd rfl (hset e)
  | mac m => exact absurd rfl (hmac m)
  | _ => rfl

theorem State.setControlled_lanes (s : State) (set : CounterSet) (snap clr : Bool) :
    (s.setControlled set snap clr).lanes = s.lanes :=
  (State.setControlled_same (K := 2 ^ 12) (B := 0) set snap clr (by decide) (by decide) (.refl _ _ s)).lanes (by decide)

/-- From t to u no lane changes, and nothing but how the lanes are kept. -/
def State.LanesOf (t u : State) : Prop := u = { t with lanes := u.lanes } ∧ ∀ m, u.lane m = t.lane m

theorem State.LanesOf.refl (t : State) : t.LanesOf t := ⟨rfl, fun _ => rfl⟩

theorem State.lanesOf_modLane {f : Lane → Lane} (hf : f (t.lane l) = t.lane l) : t.LanesOf (t.modLane l f) := by
  refine ⟨rfl, fun m => ?_⟩
  by_cases hm : m = l
  · rw [hm, State.lane_modLane_self, hf]
  · exact t.lane_setLane_ne hm _

/-- A control word that takes a snapshot or clears, and asks for nothing else, does that where the set acts (R82, R145). -/
theorem State.laneControl_of_set (s : State) (hc : counterSetOk set = true) (hset : ∀ e, set ≠ .engine e)
    (hbits : w.getLsbD 2 = false ∧ w.getLsbD 3 = false) :
    (if s.setActs set then s.setControlled set (w.getLsbD 0) (w.getLsbD 1) else s).LanesOf
      (s.laneControl (setControl set) w) := by
  obtain ⟨h2, h3⟩ := hbits
  cases set with
  | fec l =>
    obtain ⟨harea, hinst⟩ := objArea_objAt (base := O.FEC_CONTROL) (l := l) 0x02 (of_decide_eq_true hc) (by decide)
    simp only [State.laneControl, setControl, harea, hinst, State.setActs, if_true]
    exact .refl _
  | sdh l =>
    obtain ⟨harea, hinst⟩ := objArea_objAt (base := O.SDH_CONTROL) (l := l) 0x04 (of_decide_eq_true hc) (by decide)
    simp only [State.laneControl, setControl, harea, hinst, h2, h3]
    split
    · exact State.lanesOf_modLane (by simp only [Bool.or_false])
    · exact .refl _
  | group l =>
    obtain ⟨harea, hinst⟩ := objArea_objAt (base := O.GROUP_CONTROL) (l := l) 0x06 (of_decide_eq_true hc) (by decide)
    simp only [State.laneControl, setControl, harea, hinst]
    exact .refl _
  | landing l =>
    obtain ⟨harea, hinst⟩ := objArea_objAt (base := O.LR_CONTROL) (l := l) 0x08 (of_decide_eq_true hc) (by decide)
    simp only [State.laneControl, setControl, harea, hinst, State.setActs, if_true]
    exact .refl _
  | ledger l =>
    obtain ⟨harea, hinst⟩ := objArea_objAt (base := O.LEDGER_CONTROL) (l := l) 0x09 (of_decide_eq_true hc) (by decide)
    simp only [State.laneControl, setControl, harea, hinst, h2, State.setActs, if_true, Bool.false_and, Bool.false_eq_true,
      if_false]
    exact .refl _
  | mac m =>
    have hm : m < 2 := of_decide_eq_true hc
    obtain ⟨harea, hinst⟩ := objArea_objAt (base := O.STATS_CONTROL) (l := m) 0x12 (by omega) (by decide)
    simp only [State.laneControl, setControl, harea, hinst, State.setActs, if_true]
    exact .refl _
  | engine e => exact absurd rfl (hset e)

/-- SNAPSHOT as a command (R48). -/
theorem State.oneOp_of_snapshot (h : v.writesObj n x (setControl set)) (hc : counterSetOk set = true)
    (hset : ∀ e, set ≠ .engine e) : ∃ res d t, v.oneOp n (wr (setControl set) [1]) = t.told n res ∧
      ((v.heard n).withDict d).LanesOf t ∧ ∀ o, inSet set o = false → ((v.heard n).withDict d).val o = v.val o := by
  obtain ⟨hrow, harea⟩ := findRow_setControl hc hset
  obtain ⟨d, hd, hval⟩ := (v.heard n).takeSnapshot_eq hset
  have hact : ∃ d, (if (v.heard n).setActs set then (v.heard n).setControlled set true false else v.heard n) =
      (v.heard n).withDict d ∧ ∀ o, inSet set o = false → ((v.heard n).withDict d).val o = v.val o := by
    split
    · exact ⟨d, hd, hval⟩
    · exact ⟨v.dict, rfl, fun _ _ => rfl⟩
  obtain ⟨d, hd, hval⟩ := hact
  have hlanes : (_ : State).LanesOf _ := (v.heard n).laneControl_of_set (w := 1) hc hset (by decide)
  change State.LanesOf (if (v.heard n).setActs set then (v.heard n).setControlled set true false else v.heard n) _ at hlanes
  rw [hd] at hlanes
  exact ⟨_, d, _, State.oneOp_of_control h hrow harea (congrArg State.sessions hlanes.1 :)
    (congrArg State.faults hlanes.1 :), hlanes, hval⟩

/-- CLEAR as a command, of a set that is not a MAC's (R48). -/
theorem State.oneOp_of_clear (h : v.writesObj n x (setControl set)) (hc : counterSetOk set = true)
    (hset : ∀ e, set ≠ .engine e) (hmac : ∀ m, set ≠ .mac m) :
    ∃ res c t, v.oneOp n (wr (setControl set) [2]) = t.told n res ∧
      ({ v.heard n with live := c } : State).LanesOf t := by
  obtain ⟨hrow, harea⟩ := findRow_setControl hc hset
  have hact : ∃ c, (if (v.heard n).setActs set then (v.heard n).setControlled set false true else v.heard n) =
      { v.heard n with live := c } := by
    split
    · exact ⟨_, (v.heard n).clearSet_eq hset hmac⟩
    · exact ⟨v.live, rfl⟩
  obtain ⟨c, hc'⟩ := hact
  have hlanes := (v.heard n).laneControl_of_set (w := 2) hc hset (by decide)
  change State.LanesOf (if (v.heard n).setActs set then (v.heard n).setControlled set false true else v.heard n) _ at hlanes
  rw [hc'] at hlanes
  exact ⟨_, c, _, State.oneOp_of_control h hrow harea (congrArg State.sessions hlanes.1 :)
    (congrArg State.faults hlanes.1 :), hlanes⟩

/-! ### The queues of a channel (R292, R293) -/

/-- From s to t the queues of channel c of lane l may have changed, and of the channels no other. -/
def State.ChanOnly (l c : Nat) (s t : State) : Prop := ∀ m d, d < 4 → m ≠ l ∨ d ≠ c → t.chanOf m d = s.chanOf m d

theorem State.putChan_chanOnly (s : State) (l : Nat) (hc : c < 4) (y : Chan) : s.ChanOnly l c (s.putChan l c y) :=
  fun m d hd h => Map.get_set_ne _ _ (by unfold chanKey; omega) y s.chans

theorem State.popExt_eq (s : State) (l : Nat) (hc : c < 4) :
    (s.popExt l c).2 = { s with chans := (s.popExt l c).2.chans } ∧ s.ChanOnly l c (s.popExt l c).2 := by
  unfold State.popExt
  dsimp only
  split
  · split
    · exact ⟨rfl, s.putChan_chanOnly l hc _⟩
    · exact ⟨rfl, fun _ _ _ _ => rfl⟩
  · exact ⟨rfl, fun _ _ _ _ => rfl⟩

theorem State.setFc_eq (s : State) (l c : Nat) : s.setFc l c = s.withDict (s.setFc l c).dict := by
  unfold State.setFc
  dsimp only
  split
  · rfl
  · split <;> rfl

theorem State.setFc_val (s : State) (l c : Nat) (ho : o < 0x0F000000) : (s.setFc l c).val o = s.val o :=
  (State.setFc_same (K := 0) (B := 0x0F000000) l c (by decide) (by decide) (.refl _ _ s)).objs o ho

/-- What a flush leaves: all but the channel's queues and, in the overhead channels' area, objects. -/
structure State.Flushed (l c : Nat) (s t : State) : Prop where
  rest : t = { s with dict := t.dict, chans := t.chans }
  chans : s.ChanOnly l c t
  vals : ∀ o, o < 0x0F000000 → t.val o = s.val o

theorem State.flushExt_flushed (s : State) (l : Nat) (hc : c < 4) : s.Flushed l c (s.flushExt l c) :=
  ⟨rfl, s.putChan_chanOnly l hc _, fun _ _ => rfl⟩

theorem State.flushIns_flushed (s : State) (l : Nat) (hc : c < 4) : s.Flushed l c (s.flushIns l c) := by
  unfold State.flushIns
  have hput := s.putChan_chanOnly l hc { s.chanOf l c with ins := [], mgmt := [], openLen := 0 }
  have hrest := State.setFc_eq (s.putChan l c { s.chanOf l c with ins := [], mgmt := [], openLen := 0 }) l c
  refine ⟨hrest.trans ?_, fun m d hd h => ?_, fun o ho => State.setFc_val _ l c ho⟩
  · rw [hrest]
    rfl
  · rw [hrest]
    exact hput m d hd h

theorem objArea_chanObj {base e : Nat} (hl : l < 96) (hc : c < 4) (hbase : base = 0x0F000000 + e) (he : e < 16) :
    objArea (objAt base l (16 * c)) = 0x0F ∧ objInst (objAt base l (16 * c)) = l ∧
      objElem (objAt base l (16 * c)) / 16 = c := by
  unfold objArea objInst objElem objAt
  omega

/-- A flush as a command (R293). -/
theorem State.oneOp_of_flush (h : v.writesObj n x (objAt O.Q_CONTROL l (16 * c))) (hl : l < 96) (hc : c < 4)
    (hw : w = 1 ∨ w = 2) : ∃ res t, v.oneOp n (wr (objAt O.Q_CONTROL l (16 * c)) [w]) = t.told n res ∧
      (v.heard n).Flushed l c t := by
  obtain ⟨harea, hinst, hchan⟩ := objArea_chanObj (base := O.Q_CONTROL) (e := 6) hl hc rfl (by decide)
  have hact : (v.heard n).Flushed l c ((v.heard n).laneControl (objAt O.Q_CONTROL l (16 * c)) w) := by
    rcases hw with rfl | rfl <;> simp only [State.laneControl, harea, hinst, hchan]
    · exact (v.heard n).flushExt_flushed l hc
    · exact (v.heard n).flushIns_flushed l hc
  exact ⟨_, _, State.oneOp_of_control h (findRow_qControl l hl c hc) (by simp [inControlArea, harea])
    (congrArg State.sessions hact.rest :) (congrArg State.faults hact.rest :), hact⟩

/-- A read of a channel's extract window (R292, R322). -/
theorem State.oneOp_of_extWindow (h : v.seesObj n x (objAt O.EXT_WINDOW l (16 * c))) (hl : l < 96) (hc : c < 4) :
    ∃ res t, v.oneOp n (rd (objAt O.EXT_WINDOW l (16 * c)) 2) = t.told n res ∧ t = { v.heard n with chans := t.chans } ∧
      (v.heard n).ChanOnly l c t := by
  obtain ⟨harea, hinst, hchan⟩ := objArea_chanObj (base := O.EXT_WINDOW) (e := 4) hl hc rfl (by decide)
  have hother : objAt O.EXT_WINDOW l (16 * c) ≠ O.TCA_LOG := by
    simp only [objAt, O.EXT_WINDOW, O.TCA_LOG]
    omega
  have hpop : ((v.heard n).popItem (objAt O.EXT_WINDOW l (16 * c))).2 = ((v.heard n).popExt l c).2 := by
    rw [State.popItem, if_neg hother, hinst, hchan]
  obtain ⟨hrest, honly⟩ := (v.heard n).popExt_eq l hc
  obtain ⟨res, hres⟩ := State.oneOp_of_queue h (findRow_extWindow l hl c hc) hpop (congrArg State.sessions hrest :)
    (congrArg State.faults hrest :)
  exact ⟨res, _, hres, hrest, honly⟩

/-! ### Frames of an op that is told -/

/-- From v to u an op of session n acted on lane l, and left all else. -/
def State.ActedOnLane (v u : State) (n l : Nat) : Prop :=
  u = { v with lanes := u.lanes, sessions := u.sessions, lastOp := u.lastOp } ∧
    (∀ m, m ≠ l → u.lane m = v.lane m) ∧ v.onlySession u n

theorem State.actedOnLane_told (v : State) (n l : Nat) (p : Bool) (f : Lane → Lane) (res : OpResult) :
    v.ActedOnLane ((if p then (v.heard n).modLane l f else v.heard n).told n res) n l := by
  cases p with
  | true =>
    refine ⟨rfl, fun m hm => ?_, State.onlySession_told (State.onlySession_of_sessions rfl n)⟩
    exact (v.heard n).lane_setLane_ne hm _
  | false => exact ⟨rfl, fun _ _ => rfl, State.onlySession_told (State.onlySession_of_sessions rfl n)⟩

theorem State.historyClear_val (s : State) (ho : o ≠ O.HISTORY_INFO) : s.historyClear.val o = s.val o := by
  unfold State.historyClear
  exact State.val_setFld_ne _ F.HISTORY_INFO_COUNT 0 0 0 o ho

end

/-! ### The commands -/

/-- Settles O55: each op is told over the state that its own lemma gives, which leaves the other sessions. -/
theorem opFrames : Obligations.OpFrames := by
  unfold Obligations.OpFrames
  intro t n s v u x hn hn' hv
  have hsess : sessUnit n = true := by simp [sessUnit, hn, hn']
  have hop (op : Op) : (s.advance t).hostOp n op = v.oneOp n op := by rw [State.hostOp, ← hv]
  have honly {w : State} {res : OpResult} (h : w.sessions = (v.heard n).sessions) : v.onlySession (w.told n res) n :=
    State.onlySession_told (State.onlySession_of_sessions h n)
  have hmod {f : Session → Session} {res : OpResult} (hf : ∀ y, (f y).num = y.num) :
      v.onlySession (((v.heard n).modSession n f).told n res) n :=
    State.onlySession_told (State.onlySession_modSession hf)
  refine ⟨fun h hu => ?tca, fun h hu => ?history, fun h hu => ?fault, fun h hu => ?clearHistory,
    fun o r ho hr hacc h a hu => ?w1c, fun set hc hset h => ⟨fun hu => ?snapshot, fun hu hmac => ?clear⟩,
    fun l hl => ⟨fun h hu => ?reseed, fun h hu => ?inject, fun c hc => ⟨fun h hu => ?window, fun h hu => ?flush⟩⟩⟩
  case tca =>
    obtain ⟨res, hres⟩ := State.oneOp_of_queue h findRow_tcaLog (v.heard n).popItem_tcaLog rfl rfl
    rw [eq_of_onUnit hsess hu, hop, hres]
    exact ⟨rfl, honly rfl⟩
  case history =>
    obtain ⟨res, hres⟩ := State.oneOp_of_plain h findRow_historyInfo (by decide) rfl
      ((State.heard_goesOn h).modSession (fun _ => rfl) fun _ => rfl)
    rw [eq_of_onUnit hsess hu, hop, hres]
    exact ⟨rfl, hmod fun _ => rfl⟩
  case fault =>
    obtain ⟨res, hres⟩ := State.oneOp_of_plain h findRow_faultInfo (by decide) rfl
      ((State.heard_goesOn h).modSession (fun _ => rfl) fun _ => rfl)
    rw [eq_of_onUnit hsess hu, hop, hres]
    exact ⟨rfl, hmod fun _ => rfl⟩
  case clearHistory =>
    obtain ⟨res, hres⟩ := State.oneOp_of_historyClear h
    rw [eq_of_onUnit hsess hu, hop, hres]
    exact ⟨rfl, fun o ho => (v.heard n).historyClear_val ho, honly rfl⟩
  case w1c =>
    have hunit : (sessUnit n && objUnit o) = true := by simp [hsess, objUnit, ho]
    obtain ⟨res, d, hres, hval⟩ := State.oneOp_of_w1c h hr hacc a
    have hkind : (s.advance t).kindOp n o (fun r => r.acc == .w1c) (fun _ => wr o [a]) = v.oneOp n (wr o [a]) := by
      simp [State.kindOp, hr, hacc, hop]
    rw [eq_of_onUnit hunit hu, hkind, hres]
    exact ⟨rfl, hval, honly rfl⟩
  case snapshot =>
    have hunit : (sessUnit n && counterSetOk set) = true := by simp [hsess, hc]
    have hword : (s.advance t).setOpWord set true = 1 := by
      cases set with
      | engine e => exact absurd rfl (hset e)
      | _ => rfl
    obtain ⟨res, d, w, hres, ⟨hrest, hlanes⟩, hval⟩ := State.oneOp_of_snapshot h hc hset
    rw [eq_of_onUnit hunit hu, hword, hop, hres]
    refine ⟨?_, hlanes, fun o ho => (congrArg (fun w => State.val w o) hrest).trans (hval o ho),
      honly (congrArg State.sessions hrest :)⟩
    rw [hrest]; rfl
  case clear =>
    have hunit : (sessUnit n && counterSetOk set) = true := by simp [hsess, hc]
    have hword : (s.advance t).setOpWord set false = 2 := by
      cases set with
      | engine e => exact absurd rfl (hset e)
      | _ => rfl
    obtain ⟨res, c, w, hres, ⟨hrest, hlanes⟩⟩ := State.oneOp_of_clear h hc hset hmac
    rw [eq_of_onUnit hunit hu, hword, hop, hres]
    refine ⟨?_, hlanes, honly (congrArg State.sessions hrest :)⟩
    rw [hrest]; rfl
  case reseed =>
    have hunit : (sessUnit n && laneUnit l) = true := by simp [hsess, laneUnit, hl]
    rw [eq_of_onUnit hunit hu, hop, State.oneOp_of_reseed h hl]
    exact v.actedOnLane_told n l _ _ _
  case inject =>
    have hunit : (sessUnit n && laneUnit l) = true := by simp [hsess, laneUnit, hl]
    rcases hu with hu | hu <;>
    · rw [eq_of_onUnit hunit hu, hop, State.oneOp_of_inject h hl (by decide)]
      exact v.actedOnLane_told n l _ _ _
  case window =>
    have hunit : (sessUnit n && laneUnit l && chanUnit c) = true := by simp [hsess, laneUnit, chanUnit, hl, hc]
    obtain ⟨res, w, hres, hrest, hchans⟩ := State.oneOp_of_extWindow h hl hc
    rw [eq_of_onUnit hunit hu, hop, hres]
    refine ⟨?_, hchans, honly (congrArg State.sessions hrest :)⟩
    rw [hrest]; rfl
  case flush =>
    have hunit : (sessUnit n && laneUnit l && chanUnit c) = true := by simp [hsess, laneUnit, chanUnit, hl, hc]
    obtain ⟨w, hw, hu⟩ : ∃ w : Word, (w = 1 ∨ w = 2) ∧ u = v.oneOp n (wr (objAt O.Q_CONTROL l (16 * c)) [w]) := by
      rcases hu with hu | hu
      · exact ⟨1, .inl rfl, (eq_of_onUnit hunit hu).trans (hop _)⟩
      · exact ⟨2, .inr rfl, (eq_of_onUnit hunit hu).trans (hop _)⟩
    obtain ⟨res, w', hres, hrest, hchans, hvals⟩ := State.oneOp_of_flush h hl hc hw
    rw [hu, hres]
    refine ⟨?_, hchans, hvals, honly (congrArg State.sessions hrest :)⟩
    rw [hrest]; rfl
end Sys2Proof.Machine
end

section
/-! PROOFS. R87, R95: what the words of a trace window read once a message was stored in it. -/

namespace Sys2Proof.Machine

/-! ### Words and their bytes -/

theorem wordBytes_ofNat_beNat (a b c d : Byte) : wordBytes (BitVec.ofNat 32 (beNat [a, b, c, d])) = [a, b, c, d] := by
  have ha := a.isLt
  have hb := b.isLt
  have hc := c.isLt
  have hd := d.isLt
  simp only [wordBytes, beBytes, beNat, List.foldl_cons, List.foldl_nil, BitVec.toNat_ofNat, List.cons.injEq, and_true]
  refine ⟨?_, ?_, ?_, ?_⟩ <;>
    exact BitVec.eq_of_toNat_eq (by rw [BitVec.toNat_ofNat]; omega)

/-- Bytes in whole words come back from them. -/
theorem flatMap_wordBytes_toWords (n : Nat) (bs : List Byte) (h : bs.length = 4 * n) :
    (List.range n).flatMap (fun i => wordBytes ((toWords bs).getD i 0)) = bs := by
  induction n generalizing bs with
  | zero => exact (List.eq_nil_of_length_eq_zero h).symm
  | succ n ih =>
    match bs, h with
    | a :: b :: c :: d :: r, h =>
      have hr : r.length = 4 * n := by simpa [Nat.mul_succ] using h
      rw [toWords, List.range_succ_eq_map, List.flatMap_cons, List.flatMap_map]
      simp only [List.getD_cons_zero, List.getD_cons_succ, wordBytes_ofNat_beNat, ih r hr, List.cons_append,
        List.nil_append]

/-! ### A window of words -/

section
variable (s : State) (o first : Nat)

theorem State.word_setWord (k j : Nat) (w : Word) : (s.setWord o k w).word o j = if j = k then w else s.word o j := by
  split
  · next h => rw [h]; exact Map.get_set_self 0 _ w s.words
  · next h => exact Map.get_set_ne 0 0 (by omega) w s.words

theorem State.word_foldl_setWord (f : Nat → Word) (n i : Nat) (hi : i < n) :
    ((List.range n).foldl (fun s i => s.setWord o (first + i) (f i)) s).word o (first + i) = f i := by
  induction n with
  | zero => omega
  | succ n ih =>
    rw [List.range_succ, List.foldl_append, List.foldl_cons, List.foldl_nil, State.word_setWord]
    split
    · next h => rw [Nat.add_left_cancel h]
    · next h => exact ih (by omega)

theorem State.storeTrace_val (m : List Byte) (p : Nat) : (s.storeTrace o first m).val p = s.val p :=
  State.foldl_val (fun t _ => t.setWord_val o _ _ p) _ s

theorem State.storeTrace_traceBytes {m : List Byte} (hm : m.length ≤ 64) :
    (s.storeTrace o first m).traceBytes o first 16 = m ++ List.replicate (64 - m.length) 0 := by
  have hlen : (m ++ List.replicate (64 - m.length) (0 : Byte)).length = 4 * 16 := by simp; omega
  have hword (i : Nat) (hi : i < 16) : (s.storeTrace o first m).word o (first + i) =
      (toWords (m ++ List.replicate (64 - m.length) 0)).getD i 0 := by
    rw [State.storeTrace, State.word_foldl_setWord s o first _ 16 i hi]
  rw [State.traceBytes, List.flatMap_congr fun i hi => congrArg wordBytes (hword i (List.mem_range.mp hi)),
    flatMap_wordBytes_toWords 16 _ hlen]

end

/-! ### Traces and what they are compared with -/

section
variable {s t : State} {l : Nat} {site : TraceSite}

theorem State.traceBytes_of_words (h : t.words = s.words) (o first n : Nat) :
    t.traceBytes o first n = s.traceBytes o first n := by
  simp only [State.traceBytes, State.word, h]

theorem State.traceRx_of_words (h : t.words = s.words) : t.traceRx l site = s.traceRx l site := by
  cases site <;> exact State.traceBytes_of_words h _ _ _

theorem State.traceExp_of_words (h : t.words = s.words) : t.traceExp l site = s.traceExp l site := by
  cases site <;> exact State.traceBytes_of_words h _ _ _

theorem State.traceDiffers_of_words (h : t.words = s.words) (hmode : t.traceMode l site = s.traceMode l site) :
    t.traceDiffers l site = s.traceDiffers l site := by
  rw [State.traceDiffers, State.traceDiffers, hmode, State.traceRx_of_words h, State.traceExp_of_words h]

end
end Sys2Proof.Machine
end

section
/-! PROOFS. R109, R117: TIM-S judged from the accepted trace: what it makes of the defect, and what it leaves. -/

namespace Sys2Proof.Machine

section
variable (s : State) {l b o : Nat}

theorem State.undeclare_val (hb : b ≠ dLos) (ho : o ≠ lineObj l) : (s.undeclare l b).val o = s.val o := by
  have hclear : (s.putBit (lineObj l) b false).val o = s.val o := State.val_setVal_ne s ho _
  unfold State.undeclare
  split
  · dsimp only
    split
    exacts [hclear, hclear]
  · rfl

theorem State.undeclare_defect (hb : b ≠ dLos) (hb' : b < 96) : (s.undeclare l b).defect l b = false := by
  have hclear : (s.putBit (lineObj l) b false).defect l b = false :=
    (s.objBit_putBit (lineObj l) b b false hb').trans (if_pos rfl)
  unfold State.undeclare
  split
  · dsimp only
    split
    exacts [hclear, hclear]
  · next h => exact Bool.eq_false_of_not_eq_true h

/-- No line defect that is declared writes SDH_CONFIG. -/
theorem State.declare_sdhConfig (hl : l < 96) (b : Nat) :
    (s.declare l b).val (objAt O.SDH_CONFIG l) = s.val (objAt O.SDH_CONFIG l) := by
  unfold State.declare
  split
  · rfl
  · rw [State.noteSf_val, State.applyMasks_val, State.raiseBit_val]
    · exact State.val_setVal_ne s (by unfold lineObj objAt O.SDH_CONFIG O.DEFECT_STATE; omega) _
    all_goals
      simp only [lineObj, pathObj, objAt, O.SDH_CONFIG, O.DEFECT_STATE, O.DEFECT_STICKY, O.FOLLA_STICKY, O.TTF_RX_FLAGS,
        O.PATH_DEFECT_STATE, O.GROUP_DEFECT_STATE, O.SDH_RX_OH, O.SDH_STICKY]
      omega

theorem State.judgeTim_words (l : Nat) (site : TraceSite) : (s.judgeTim l site).words = s.words :=
  (State.judgeTim_same (K := 2 ^ 11) (B := 0) l site (by decide) (by decide) (.refl _ _ s)).words (by decide)

theorem State.judgeTim_j0 (l : Nat) : s.judgeTim l .j0 =
    if s.on F.DEFECT_CONFIG_TIM_S_CHECK l && s.traceDiffers l .j0 then s.declare l dTimS else s.undeclare l dTimS := rfl

theorem State.judgeTim_traceMode (hl : l < 96) : (s.judgeTim l .j0).traceMode l .j0 = s.traceMode l .j0 := by
  refine State.fld_of_val (f := F.SDH_CONFIG_J0_MODE) ?_
  rw [State.judgeTim_j0]
  split
  · exact s.declare_sdhConfig hl dTimS
  · exact s.undeclare_val (by decide) (by simp only [Fld.obj, lineObj, objAt, F.SDH_CONFIG_J0_MODE, O.DEFECT_STATE]; omega)

/-- R109, R117: TIM-S is in force while the check is on and the traces differ, unless it is masked as it would be
declared. -/
theorem State.judgeTim_defect (hl : l < 96) : (s.judgeTim l .j0).defect l dTimS =
    (s.on F.DEFECT_CONFIG_TIM_S_CHECK l && s.traceDiffers l .j0 && (s.defect l dTimS || !s.lineMask l dTimS)) := by
  rw [State.judgeTim_j0]
  split
  · next h => rw [h, Bool.true_and, State.declare_defect s hl (by decide)]
  · next h => rw [Bool.eq_false_of_not_eq_true h, Bool.false_and, State.undeclare_defect s (by decide) (by decide)]

end
end Sys2Proof.Machine
end

section
/-! PROOFS. R71, R87, R88, R95, R101, R109: the fields and traces that a run of frames has accepted. -/

namespace Sys2Proof.Machine

/-! ### Fields (R71, R88, R101) -/

section
variable (s : State) {l : Nat}

/-- A field of l is written where condition p holds, whatever else the write came with. -/
theorem State.fld_ite_setFld {f : Fld} (hf : f.lo ≤ f.hi ∧ f.hi < 96) {p q : Prop} [Decidable p] [Decidable q]
    (hpq : p ↔ q) (t : State) (x : Nat) :
    (if p then t.setFld f x l else s).fld f l = if q then x % 2 ^ (f.hi + 1 - f.lo) else s.fld f l := by
  rw [apply_ite (State.fld · f l), t.fld_setFld_self f x l 0 hf.1 hf.2]
  exact if_congr hpq rfl rfl

theorem Lane.ripe_iff (x : Lane) (k need : Nat) : x.ripe k need = true ↔ need ≤ (x.run k).count := decide_eq_true_iff

/-- The run, the field of TTF_RX_INFO, EPOCH or DIGEST and its width, of each accepted field of a TTF frame (R71, R101). -/
def acceptedFields : List (AccField × Nat × Fld × Nat) :=
  [(.clockClass, kClass, F.TTF_RX_INFO_CLOCK_CLASS, 8), (.steps, kSteps, F.TTF_RX_INFO_STEPS, 8),
    (.epoch, kEpoch, F.TTF_RX_EPOCH_EPOCH, 32), (.digest, kDigest, F.TTF_RX_DIGEST_DIGEST, 32)]

theorem acceptedFields_base {a : AccField} {k w : Nat} {f : Fld} (h : (a, k, f, w) ∈ acceptedFields) :
    f.base < 0x04000000 := by
  have hall : ∀ p ∈ acceptedFields, p.2.2.1.base < 0x04000000 := by decide
  exact hall _ h

theorem State.acceptField_fld {a : AccField} {k w : Nat} {f : Fld} (h : (a, k, f, w) ∈ acceptedFields) :
    (s.acceptField l a).fld f l = if 3 ≤ ((s.lane l).run (runKey k 0)).count then
      ((s.lane l).run (runKey k 0)).value % 2 ^ w else s.fld f l := by
  have hrun := (s.lane l).ripe_iff (runKey k 0) 3
  simp only [acceptedFields, List.mem_cons, List.not_mem_nil, or_false, Prod.mk.injEq] at h
  rcases h with ⟨rfl, rfl, rfl, rfl⟩ | ⟨rfl, rfl, rfl, rfl⟩ | ⟨rfl, rfl, rfl, rfl⟩ | ⟨rfl, rfl, rfl, rfl⟩
  all_goals exact s.fld_ite_setFld (by decide) hrun _ _

/-- R88: only an SDH lane accepts S1. -/
theorem State.acceptS1_fld : (s.acceptS1 l).fld F.SDH_RX_OH_S1_ACCEPTED l =
    if 8 ≤ ((s.lane l).run (runKey kS1 0)).count && s.isSdh l then ((s.lane l).run (runKey kS1 0)).value % 16
    else s.fld F.SDH_RX_OH_S1_ACCEPTED l :=
  s.fld_ite_setFld (by decide) Iff.rfl _ _

/-- R196: TRACEABLE lies in the ledger's area, and what follows it there. -/
theorem State.noteTraceable_fld {g : Fld} (hl : l < 96) (hg : g.base < 0x08F00000) :
    (s.noteTraceable l).fld g l = s.fld g l :=
  State.fld_of_val ((State.noteTraceable_same (K := 0) (B := 0x09000011) l (by decide) (by decide) (.refl _ _ s)).objs _
    (by unfold Fld.obj objAt; omega))

end

/-! ### Traces (R87, R95, R109) -/

section
variable (s : State) {l : Nat} {site : TraceSite} {m : List Byte} {n : Nat}

/-- The accepted trace of a site becomes message m; another one than before sets J0_CHG (R82). -/
def State.takeTrace (s : State) (l : Nat) (site : TraceSite) (m : List Byte) : State :=
  match site with
  | .j0 =>
    let s1 := s.storeTrace (objAt O.J0_RX_TRACE l) 0 m
    s1.raiseIf (s.traceRx l .j0 != s1.traceRx l .j0) F.SDH_STICKY_J0_CHG l
  | .j1 k => s.storeTrace (objAt O.PATH_J1_TRACE l k) 32 m

/-- A message is accepted and judged once it came three times in a row. -/
theorem State.acceptTrace_eq (h : Map.get ([], 0) (siteKey site) (s.lane l).message = (m, n)) :
    s.acceptTrace l site = if 3 ≤ n then (s.takeTrace l site m).judgeTim l site else s := by
  unfold State.acceptTrace
  rw [h]
  by_cases hn : n < 3
  · rw [if_pos hn, if_neg (Nat.not_le.mpr hn)]
  · rw [if_neg hn, if_pos (Nat.not_lt.mp hn)]
    cases site <;> rfl

theorem State.raiseIf_words (b : Bool) (f : Fld) (i : Nat) : (s.raiseIf b f i).words = s.words :=
  (State.raiseIf_same (K := 2 ^ 11) (B := 0) b f i 0 (by decide) (by decide) (Nat.zero_le _) (.refl _ _ s)).words
    (by decide)

theorem State.takeTrace_traceRx (hm : m.length ≤ 64) :
    (s.takeTrace l site m).traceRx l site = m ++ List.replicate (64 - m.length) 0 := by
  cases site with
  | j0 =>
    rw [State.takeTrace, State.traceRx_of_words (State.raiseIf_words _ _ _ _)]
    exact s.storeTrace_traceBytes _ 0 hm
  | j1 k =>
    rw [State.takeTrace]
    exact s.storeTrace_traceBytes _ 32 hm

/-- Accepting a J0 writes the words of the trace and one sticky bit alone. -/
theorem State.takeTrace_val {o : Nat} (hsticky : o ≠ F.SDH_STICKY_J0_CHG.obj l) (hfolla : o ≠ O.FOLLA_STICKY) :
    (s.takeTrace l .j0 m).val o = s.val o :=
  (State.raiseIf_val _ hsticky hfolla).trans (s.storeTrace_val _ 0 m o)

/-- R87, R95: the accepted trace. -/
theorem State.acceptTrace_traceRx (h : Map.get ([], 0) (siteKey site) (s.lane l).message = (m, n))
    (hm : m.length ≤ 64) : (s.acceptTrace l site).traceRx l site =
      if 3 ≤ n then m ++ List.replicate (64 - m.length) 0 else s.traceRx l site := by
  rw [s.acceptTrace_eq h]
  split
  · exact (State.traceRx_of_words (State.judgeTim_words _ _ _)).trans (s.takeTrace_traceRx hm)
  · rfl

/-- R109: TIM-S by the trace just accepted, and by the defects that were in force before. -/
theorem State.acceptTrace_defect (hl : l < 96) (h : Map.get ([], 0) (siteKey .j0) (s.lane l).message = (m, n))
    (hn : 3 ≤ n) : (s.acceptTrace l .j0).defect l dTimS =
      (s.on F.DEFECT_CONFIG_TIM_S_CHECK l && (s.acceptTrace l .j0).traceDiffers l .j0 &&
        (s.defect l dTimS || !s.lineMask l dTimS)) := by
  rw [s.acceptTrace_eq h, if_pos hn, State.judgeTim_defect _ hl,
    State.traceDiffers_of_words (State.judgeTim_words _ _ _) (State.judgeTim_traceMode _ hl)]
  have hline : (s.takeTrace l .j0 m).val (lineObj l) = s.val (lineObj l) := s.takeTrace_val
    (by simp only [lineObj, Fld.obj, objAt, O.DEFECT_STATE, F.SDH_STICKY_J0_CHG]; omega)
    (by simp only [lineObj, objAt, O.DEFECT_STATE, O.FOLLA_STICKY]; omega)
  have hcheck : (s.takeTrace l .j0 m).on F.DEFECT_CONFIG_TIM_S_CHECK l = s.on F.DEFECT_CONFIG_TIM_S_CHECK l :=
    State.on_of_val (s.takeTrace_val
      (by simp only [Fld.obj, objAt, F.DEFECT_CONFIG_TIM_S_CHECK, F.SDH_STICKY_J0_CHG]; omega)
      (by simp only [Fld.obj, objAt, F.DEFECT_CONFIG_TIM_S_CHECK, O.FOLLA_STICKY]; omega))
  rw [hcheck, State.lineMask, hline, State.defect_of_val hline, State.lineMask]

/-- The watchers of a lane leave the comparison of its J0. -/
theorem State.laneHook_traceDiffers (hl : l < 96) : (s.laneHook l).traceDiffers l .j0 = s.traceDiffers l .j0 :=
  State.traceDiffers_of_words (s.laneHook_words l) (s.laneHook_fld l l hl (by decide))

end

/-! ### The commands -/

/-- Settles O4: what each event writes where its run is long enough; the watchers of the lane leave it. -/
theorem fieldsAndTracesAreAccepted : Obligations.FieldsAndTracesAreAccepted := by
  unfold Obligations.FieldsAndTracesAreAccepted
  refine ⟨fun t l s v hl hv => ?fields, fun t l s v m n site hl hv hsite hmsg hm => ?traces⟩ <;>
    have hunit : laneUnit l = true := by simpa [laneUnit] using hl
  case fields =>
    refine ⟨fun a k f w h => ⟨_, onUnit_ok hunit _ _, ?field⟩, ⟨_, onUnit_ok hunit _ _, ?s1⟩⟩ <;> rw [← hv]
    case field =>
      have hbase := acceptedFields_base h
      rw [State.laneHook_fld _ l l hl (by omega), State.noteTraceable_fld _ hl (by omega), v.acceptField_fld h]
    case s1 => rw [State.laneHook_fld _ l l hl (by decide), v.acceptS1_fld]
  case traces =>
    refine ⟨_, onUnit_ok (by rw [hunit, hsite]; rfl) _ _, ?_⟩
    rw [← hv, State.traceRx_of_words (State.laneHook_words _ l), v.acceptTrace_traceRx hmsg hm,
      State.laneHook_defect _ hl]
    split
    · next hn =>
      refine ⟨rfl, fun hj => ?_⟩
      subst hj
      rw [State.laneHook_traceDiffers _ hl, v.acceptTrace_defect hl hmsg hn, State.lineMask]
    · next hn => rw [v.acceptTrace_eq hmsg, if_neg hn]; exact ⟨rfl, rfl⟩

end Sys2Proof.Machine
end

section
/-! PROOFS. R117, R118, R124, R203, R318: what the operations on one lane leave: every other lane, its objects below area 0x0A
and its overhead channels. -/

namespace Sys2Proof.Machine

/-- Object o is one of lane l, or lies in area 0x0A or beyond. -/
def ofLane (l o : Nat) : Prop := 0x0A000000 ≤ o ∨ objInst o % 256 = l

/-- Of an area in which the objects from `base` on are one per lane, element e of the one numbered l is one of lane l's. -/
theorem ofLane_objAt {l base e : Nat} (hl : l < 96) (hbase : base / 4096 % 256 = 0) (he : base % 4096 + e < 4096) :
    ofLane l (objAt base l e) := by
  unfold ofLane objInst objAt
  omega

/-- From s to t, what does not belong to lane l stands below area 0x0A: the other lanes, their objects, their channels. -/
structure State.Beside (l : Nat) (s t : State) : Prop where
  isLane : l < 96
  lanes : ∀ m, m ≠ l → t.lane m = s.lane m
  objs : ∀ o, ¬ ofLane l o → t.val o = s.val o
  chans : ∀ m c, m ≠ l → c < 4 → t.chanOf m c = s.chanOf m c

namespace State.Beside

variable {l : Nat} {s t u : State}

theorem refl (hl : l < 96) (s : State) : s.Beside l s := ⟨hl, fun _ _ => rfl, fun _ _ => rfl, fun _ _ _ _ => rfl⟩

theorem trans (h : s.Beside l t) (k : t.Beside l u) : s.Beside l u :=
  ⟨h.isLane, fun m hm => (k.lanes m hm).trans (h.lanes m hm), fun o ho => (k.objs o ho).trans (h.objs o ho),
    fun m c hm hc => (k.chans m c hm hc).trans (h.chans m c hm hc)⟩

theorem ite {p : Prop} [Decidable p] (ht : s.Beside l t) (hu : s.Beside l u) : s.Beside l (if p then t else u) := by
  split
  exacts [ht, hu]

theorem foldl {β : Type} {f : State → β → State} {xs : List β} (hf : ∀ w, ∀ x ∈ xs, s.Beside l w → s.Beside l (f w x))
    (h : s.Beside l t) : s.Beside l (xs.foldl f t) := by
  induction xs generalizing t with
  | nil => exact h
  | cons x xs ih =>
    exact ih (fun w y hy => hf w y (List.mem_cons_of_mem x hy)) (hf t x List.mem_cons_self h)

/-- What leaves the lanes, the channels and the objects below area 0x0A. -/
theorem same (h : s.Beside l t) (k : Same (2 ^ 12 + 2 ^ 35) 0x0A000000 t u) : s.Beside l u :=
  h.trans ⟨h.isLane, fun m _ => t.lane_of_lanes m (k.lanes (by decide)),
    fun o ho => k.objs o (Nat.not_le.mp fun hle => ho (.inl hle)),
    fun m c _ _ => congrArg (Map.get ({} : Chan) (chanKey m c)) (k.chans (by decide))⟩

/-! ### Updates of the state -/

theorem setVal (h : s.Beside l t) {o : Nat} (ho : ofLane l o) (v : Val) : s.Beside l (t.setVal o v) :=
  h.trans ⟨h.isLane, fun _ _ => rfl, fun p hp => State.val_setVal_ne t (fun e : p = o => hp (e ▸ ho)) v, fun _ _ _ _ => rfl⟩

theorem modLane (h : s.Beside l t) (f : Lane → Lane) : s.Beside l (t.modLane l f) :=
  h.trans ⟨h.isLane, fun _ hm => State.lane_setLane_ne t hm _, fun _ _ => rfl, fun _ _ _ _ => rfl⟩

theorem setLane (h : s.Beside l t) (x : Lane) : s.Beside l (t.setLane l x) := h.modLane fun _ => x

theorem putChan (h : s.Beside l t) {c : Nat} (hc : c < 4) (x : Chan) : s.Beside l (t.putChan l c x) :=
  h.trans ⟨h.isLane, fun _ _ => rfl, fun _ _ => rfl, fun m d hm hd => t.putChan_chanOnly l hc x m d hd (.inl hm)⟩

theorem raiseBit (h : s.Beside l t) {o : Nat} (ho : ofLane l o) (b : Nat) : s.Beside l (t.raiseBit o b) :=
  h.trans ⟨h.isLane, fun m _ => t.raiseBit_lane o b m,
    fun p hp => State.raiseBit_val t (fun e => hp (e ▸ ho)) fun e => hp (.inl (by rw [e]; decide)),
    fun m c _ _ => congrArg (Map.get ({} : Chan) (chanKey m c))
      ((State.raiseBit_same (K := 2 ^ 35) (B := 0) o b (by decide) (by decide) (Nat.zero_le _) (.refl _ _ t)).chans
        (by decide))⟩

theorem setFld (h : s.Beside l t) {f : Fld} {i e : Nat} (ho : ofLane l (f.obj i e)) (x : Nat) :
    s.Beside l (t.setFld f x i e) := h.setVal ho _

theorem setOn (h : s.Beside l t) {f : Fld} {i e : Nat} (ho : ofLane l (f.obj i e)) (b : Bool) :
    s.Beside l (t.setOn f b i e) := h.setVal ho _

theorem putBit (h : s.Beside l t) {o : Nat} (ho : ofLane l o) (b : Nat) (v : Bool) : s.Beside l (t.putBit o b v) :=
  h.setVal ho _

theorem bump (h : s.Beside l t) {o : Nat} (ho : ofLane l o) (k w : Nat) : s.Beside l (t.bump o k w) := h.setVal ho _

theorem raise (h : s.Beside l t) {f : Fld} {i e : Nat} (ho : ofLane l (f.obj i e)) : s.Beside l (t.raise f i e) :=
  h.raiseBit ho _

theorem raiseIf (h : s.Beside l t) {f : Fld} {i e : Nat} (ho : ofLane l (f.obj i e)) (b : Bool) :
    s.Beside l (t.raiseIf b f i e) := .ite (h.raise ho) h

theorem bumpLive (h : s.Beside l t) (o k : Nat) : s.Beside l (t.bumpLive o k) :=
  h.trans ⟨h.isLane, fun _ _ => rfl, fun _ _ => rfl, fun _ _ _ _ => rfl⟩

theorem setWord (h : s.Beside l t) (o k : Nat) (w : Word) : s.Beside l (t.setWord o k w) :=
  h.trans ⟨h.isLane, fun _ _ => rfl, fun _ _ => rfl, fun _ _ _ _ => rfl⟩

/-- A field of the lane's own: `base` is the lanes' first object of an area. -/
theorem ofLane_obj (h : s.Beside l t) {f : Fld} (hf : f.base / 4096 % 256 = 0) : ofLane l (f.obj l) :=
  ofLane_objAt h.isLane hf (Nat.mod_lt _ (by decide))

theorem ofLane_lineObj (h : s.Beside l t) : ofLane l (lineObj l) := ofLane_objAt h.isLane (by decide) (by decide)

theorem ofLane_pathObj (h : s.Beside l t) {k : Nat} (hk : k < 4096) : ofLane l (pathObj l k) :=
  ofLane_objAt h.isLane (by decide) (by unfold O.PATH_DEFECT_STATE; omega)

/-! ### Line defects -/

theorem noteSf (h : s.Beside l t) : s.Beside l (t.noteSf l) := h.setLane _

theorem dropS1 (h : s.Beside l t) : s.Beside l (t.dropS1 l) :=
  .ite ((h.setFld (h.ofLane_obj (by decide)) _).raise (h.ofLane_obj (by decide))) h

theorem clearPaths (h : s.Beside l t) : s.Beside l (t.clearPaths l) := by
  unfold State.clearPaths
  refine modLane (foldl (fun w k hk hw => hw.setVal (hw.ofLane_pathObj ?_) _) h) _
  obtain ⟨p, _, rfl⟩ := List.mem_map.mp hk
  exact Nat.mod_lt _ (by decide)

theorem applyMasks (h : s.Beside l t) : s.Beside l (t.applyMasks l) := by
  unfold State.applyMasks
  extract_lets st s1 frames s2 s3
  have h1 : s.Beside l s1 := foldl (fun w b _ hw => .ite (hw.putBit hw.ofLane_lineObj b false) hw) h
  have h2 : s.Beside l s2 :=
    .ite ((h1.setVal (ofLane_objAt h.isLane (by decide) (by decide)) _).modLane _) <| .ite (h1.modLane _) <|
    .ite (h1.modLane _) <| .ite (h1.modLane _) h1
  have h3 : s.Beside l s3 := .ite ((h2.clearPaths.setOn (h.ofLane_obj (by decide)) false).modLane _) h2
  exact .ite ((h3.dropS1.setVal (ofLane_objAt h.isLane (by decide) (by decide)) _).modLane _) h3

theorem declare (h : s.Beside l t) (b : Nat) : s.Beside l (t.declare l b) :=
  .ite h (((h.putBit h.ofLane_lineObj b true).raiseBit (ofLane_objAt h.isLane (by decide) (by decide)) b).applyMasks.noteSf)

theorem unmaskLos (h : s.Beside l t) : s.Beside l (t.unmaskLos l) :=
  .ite (h.modLane _) (.ite h ((h.declare dOof).modLane _))

theorem undeclare (h : s.Beside l t) (b : Nat) : s.Beside l (t.undeclare l b) := by
  unfold State.undeclare
  extract_lets was s1 s2
  have h1 : s.Beside l s1 := (h.putBit h.ofLane_lineObj b false).noteSf
  have h2 : s.Beside l s2 := .ite (h1.modLane _) h1
  exact .ite (.ite h2.unmaskLos h2) h

/-! ### Path defects -/

theorem noteSdP (h : s.Beside l t) (k : Nat) : s.Beside l (t.noteSdP l k) := .ite (.ite h (h.setLane _)) (h.setLane _)

theorem declarePath (h : s.Beside l t) {k : Nat} (hk : k < 4096) (b : Nat) : s.Beside l (t.declarePath l k b) := by
  unfold State.declarePath
  extract_lets st s1 st1 s2 s3
  have h1 : s.Beside l s1 := (h.putBit (h.ofLane_pathObj hk) b true).raiseBit
    (ofLane_objAt h.isLane (by decide) (by unfold O.PATH_DEFECT_STICKY; omega)) b
  have h2 : s.Beside l s2 := foldl (fun w c _ hw => .ite (hw.putBit (hw.ofLane_pathObj hk) c false) hw) h1
  have h3 : s.Beside l s3 := .ite (h2.modLane _) <| .ite (h2.modLane _) <| .ite (h2.modLane _) h2
  exact .ite h (h3.noteSdP k)

theorem undeclarePath (h : s.Beside l t) {k : Nat} (hk : k < 4096) (b : Nat) : s.Beside l (t.undeclarePath l k b) := by
  unfold State.undeclarePath
  extract_lets s1
  have h1 : s.Beside l s1 := (h.putBit (h.ofLane_pathObj hk) b false).noteSdP k
  exact .ite (.ite (h1.modLane _) h1) h

theorem judgePath (h : s.Beside l t) {k : Nat} (hk : k < 4096) (b : Nat) (v : Bool) : s.Beside l (t.judgePath l k b v) :=
  .ite h (.ite (h.declarePath hk b) (h.undeclarePath hk b))

/-! ### SF and SD, traces -/

theorem sfJudge (h : s.Beside l t) {d : SfSd} (hd : sfSdOk d = true) (v : Bool) : s.Beside l (t.sfJudge l d v) := by
  have hslot {k : Nat} (hk : decide (k < 768) = true) : k < 4096 := Nat.lt_trans (of_decide_eq_true hk) (by decide)
  cases d with
  | sf => exact .ite (h.declare _) (h.undeclare _)
  | sd => exact .ite (h.declare _) (h.undeclare _)
  | sfP k => exact h.judgePath (hslot hd) _ v
  | sdP k => exact h.judgePath (hslot hd) _ v

theorem sfDeclare (h : s.Beside l t) {d : SfSd} (hd : sfSdOk d = true) : s.Beside l (t.sfDeclare l d) :=
  .ite (h.sfJudge hd true) h

theorem sfWindowEnd (h : s.Beside l t) {d : SfSd} (hd : sfSdOk d = true) : s.Beside l (t.sfWindowEnd l d) :=
  .ite (.ite ((h.modLane _).sfJudge hd false) (h.modLane _)) h

theorem judgeTim (h : s.Beside l t) {site : TraceSite} (hsite : traceOk site = true) : s.Beside l (t.judgeTim l site) := by
  cases site with
  | j0 => exact .ite (h.declare _) (h.undeclare _)
  | j1 k => exact h.judgePath (Nat.lt_trans (of_decide_eq_true hsite) (by decide)) _ _

theorem storeTrace (h : s.Beside l t) (o first : Nat) (m : List Byte) : s.Beside l (t.storeTrace o first m) :=
  foldl (fun _ _ _ hw => hw.setWord _ _ _) h

theorem acceptTrace (h : s.Beside l t) {site : TraceSite} (hsite : traceOk site = true) :
    s.Beside l (t.acceptTrace l site) := by
  rw [t.acceptTrace_eq (site := site) rfl]
  refine .ite (judgeTim ?_ hsite) h
  unfold State.takeTrace
  cases site with
  | j0 => exact (h.storeTrace _ _ _).raiseIf (h.ofLane_obj (by decide)) _
  | j1 k => exact h.storeTrace _ _ _

/-! ### The ledger -/

theorem publishLedger (h : s.Beside l t) : s.Beside l (t.publishLedger l) := by
  have hof {f : Fld} (hf : f.base / 4096 % 256 = 0) : ofLane l (f.obj l) := h.ofLane_obj hf
  unfold State.publishLedger
  extract_lets g s1 s2 s3
  have h1 : s.Beside l s1 :=
    .ite (((h.setFld (hof (by decide)) _).setFld (hof (by decide)) _).setFld (hof (by decide)) _) h
  have h2 : s.Beside l s2 := .ite (h1.setFld (hof (by decide)) _) h1
  have h3 : s.Beside l s3 := .ite (h2.setFld (hof (by decide)) _) (.ite (h2.setFld (hof (by decide)) _) h2)
  exact ((h3.setFld (hof (by decide)) _).setOn (hof (by decide)) _).setOn (hof (by decide)) _

theorem reseedLane (h : s.Beside l t) : s.Beside l (t.reseedLane l) :=
  .ite (((h.modLane _).bumpLive _ _).raise (h.ofLane_obj (by decide))).publishLedger h

theorem noteTraceable (h : s.Beside l t) : s.Beside l (t.noteTraceable l) :=
  .ite h ((h.setOn (h.ofLane_obj (by decide)) _).raise (h.ofLane_obj (by decide))).publishLedger

theorem ltdClear (h : s.Beside l t) : s.Beside l (t.ltdClear l) := .ite (h.setOn (h.ofLane_obj (by decide)) false) h

theorem stepAccept (h : s.Beside l t) : s.Beside l (t.stepAccept l) :=
  .ite (((h.modLane _).bumpLive _ _).raise (h.ofLane_obj (by decide))).publishLedger h

theorem ledgerTimeout (h : s.Beside l t) : s.Beside l (t.ledgerTimeout l) := .ite (h.reseedLane.modLane _) h

/-! ### LOS, LOF, LOBL -/

theorem losDeclare (h : s.Beside l t) : s.Beside l (t.losDeclare l) := .ite (h.declare _) h

theorem losClear (h : s.Beside l t) : s.Beside l (t.losClear l) := .ite (h.undeclare _).reseedLane h

theorem lofDeclare (h : s.Beside l t) : s.Beside l (t.lofDeclare l) := .ite (h.declare _) h

theorem lofClear (h : s.Beside l t) : s.Beside l (t.lofClear l) :=
  .ite (modLane (.ite (h.undeclare _).reseedLane h) _) h

theorem loblDeclare (h : s.Beside l t) : s.Beside l (t.loblDeclare l) := .ite (h.declare _) h

theorem loblClear (h : s.Beside l t) : s.Beside l (t.loblClear l) := .ite (h.undeclare _) h

/-! ### Defects and fields that a count of frames decides -/

theorem judgeMismatch (h : s.Beside l t) (b : Nat) (v : Bool) : s.Beside l (t.judgeMismatch l b v) := by
  have hflags : ofLane l (objAt O.TTF_RX_FLAGS l) := ofLane_objAt h.isLane (by decide) (by decide)
  have hsticky : ofLane l (objAt O.TTF_STICKY l) := ofLane_objAt h.isLane (by decide) (by decide)
  exact .ite (.ite h ((h.putBit hflags b true).raiseBit hsticky b).noteSf) (.ite ((h.putBit hflags b false).noteSf.modLane _) h)

theorem judgeSlotRdi (h : s.Beside l t) (k : Nat) (v : Bool) : s.Beside l (t.judgeSlotRdi l k v) :=
  .ite ((h.setLane _).declare _) (.ite ((h.setLane _).undeclare _) (h.setLane _))

theorem acceptC2 (h : s.Beside l t) {k : Nat} (hk : k < 4096) (v : Nat) : s.Beside l (t.acceptC2 l k v) := by
  have hset := h.setFld (f := F.PATH_STATUS_C2_RX) (ofLane_objAt (e := k) h.isLane (by decide)
    (by simp only [F.PATH_STATUS_C2_RX]; omega)) v
  exact .ite hset ((hset.judgePath hk _ _).judgePath hk _ _)

theorem acceptG1 (h : s.Beside l t) {k : Nat} (hk : k < 4096) (v : Nat) : s.Beside l (t.acceptG1 l k v) := by
  have hset := h.setFld (f := F.PATH_DEFECT_STATE_G1_CODE) (h.ofLane_pathObj hk) v
  exact .ite hset (hset.judgePath hk _ _)

theorem judgeGroup (h : s.Beside l t) (b : Nat) (v : Bool) : s.Beside l (t.judgeGroup l b v) := by
  have hstate : ofLane l (objAt O.GROUP_DEFECT_STATE l) := ofLane_objAt h.isLane (by decide) (by decide)
  have hset := (h.putBit hstate b true).raiseBit (o := objAt O.GROUP_DEFECT_STICKY l)
    (ofLane_objAt h.isLane (by decide) (by decide)) b
  exact .ite
    (.ite h <| .ite (((hset.putBit hstate 1 false).putBit hstate 2 false).modLane _) <|
      .ite ((hset.putBit hstate 2 false).modLane _) hset)
    (h.putBit hstate b false)

theorem persistence (h : s.Beside l t) {d : Persist} (hd : persistOk d = true) : s.Beside l (t.persistence l d) := by
  have hline (k b : Nat) : s.Beside l (if (t.lane l).ripe (runKey k 0) 5 then
      if ((t.lane l).run (runKey k 0)).value = 1 then t.declare l b else t.undeclare l b else t) :=
    .ite (.ite (h.declare b) (h.undeclare b)) h
  have hmismatch (k b : Nat) : s.Beside l (if (t.lane l).ripe (runKey k 0) 8 && t.mismatchOn l b then
      t.judgeMismatch l b (((t.lane l).run (runKey k 0)).value == 1) else t) := .ite (h.judgeMismatch b _) h
  have hgroup (k b need : Nat) : s.Beside l (if (t.lane l).ripe (runKey k 0) need then
      t.judgeGroup l b (((t.lane l).run (runKey k 0)).value == 1) else t) := .ite (h.judgeGroup b _) h
  have hslot {k : Nat} (hk : decide (k < 768) = true) : k < 4096 := Nat.lt_trans (of_decide_eq_true hk) (by decide)
  cases d with
  | aisL => exact hline kAisL dAisL
  | rdiL => exact hline kRdiL dRdiL
  | ttfRdi => exact hline kTtfRdi dRdiL
  | slotRdi k => exact .ite (h.judgeSlotRdi k _) h
  | tag => exact hmismatch kTag 0
  | laneId => exact hmismatch kLane 1
  | digest => exact hmismatch kDigestChk 2
  | size => exact hmismatch kSize 3
  | c2 k => exact .ite (h.acceptC2 (hslot hd) _) h
  | g1 k => exact .ite (h.acceptG1 (hslot hd) _) h
  | gais => exact hgroup kGais 0 3
  | ghl => exact hgroup kGhl 1 8
  | gmis => exact hgroup kGmis 2 8

theorem acceptField (h : s.Beside l t) (a : AccField) : s.Beside l (t.acceptField l a) := by
  have hof {f : Fld} (hf : f.base / 4096 % 256 = 0) : ofLane l (f.obj l) := h.ofLane_obj hf
  cases a with
  | clockClass => exact .ite ((h.raiseIf (hof (by decide)) _).setFld (hof (by decide)) _) h
  | steps => exact .ite (h.setFld (hof (by decide)) _) h
  | epoch => exact .ite ((h.raiseIf (hof (by decide)) _).setFld (hof (by decide)) _) h
  | digest => exact .ite (h.setFld (hof (by decide)) _) h

theorem acceptS1 (h : s.Beside l t) : s.Beside l (t.acceptS1 l) :=
  .ite ((h.raiseIf (h.ofLane_obj (by decide)) _).setFld (h.ofLane_obj (by decide)) _) h

/-! ### Lane states -/

theorem setLaneState (h : s.Beside l t) (st : LaneState) : s.Beside l (t.setLaneState l st) :=
  .ite h ((h.setFld (h.ofLane_obj (by decide)) _).raise (h.ofLane_obj (by decide)))

theorem laneBit (h : s.Beside l t) {f lost : Fld} (hf : f.base / 4096 % 256 = 0) (hlost : lost.base / 4096 % 256 = 0)
    (b : Bool) : s.Beside l (t.laneBit l f lost b) :=
  (h.raiseIf (h.ofLane_obj hlost) _).setOn (h.ofLane_obj hf) b

theorem noteLoss (h : s.Beside l t) : s.Beside l (t.noteLoss l) := by
  unfold State.noteLoss
  exact h.modLane _

theorem txReadyNow (h : s.Beside l t) (pin : Word) : s.Beside l (t.txReadyNow l pin) := by
  have hof {f : Fld} (hf : f.base / 4096 % 256 = 0) : ofLane l (f.obj l) := h.ofLane_obj hf
  exact .ite (((((h.setOn (hof (by decide)) true).setLaneState _).setFld (hof (by decide)) _).setFld
    (hof (by decide)) _).modLane _) h

theorem sigDet (h : s.Beside l t) (present : Bool) : s.Beside l (t.sigDet l present) := by
  have hdet := h.laneBit (f := F.LANE_STATUS_SIG_DET) (lost := F.LANE_STICKY_SIG_LOST) (by decide) (by decide) present
  exact .ite (noteLoss (.ite hdet (hdet.laneBit (by decide) (by decide) false))) h

theorem cdrLocked (h : s.Beside l t) (offset : Int) : s.Beside l (t.cdrLocked l offset) := by
  have hfreq := (h.setFld (f := F.RX_FREQ_OFFSET_OFFSET) (h.ofLane_obj (by decide)) (unsigned 32 offset)).laneBit
    (f := F.LANE_STATUS_FREQ_OK) (lost := F.LANE_STICKY_FREQ_LOST) (by decide) (by decide) (Machine.freqOk offset)
  exact .ite (.ite ((hfreq.setOn (h.ofLane_obj (by decide)) true).setLaneState _).noteLoss hfreq) h

theorem cdrLost (h : s.Beside l t) : s.Beside l (t.cdrLost l) :=
  .ite ((((h.laneBit (by decide) (by decide) false).setOn (h.ofLane_obj (by decide)) false).setLaneState _).noteLoss.modLane
    _) h

theorem eqManual (h : s.Beside l t) : s.Beside l (t.eqManual l) := by
  unfold State.eqManual
  extract_lets s1
  have h1 : s.Beside l s1 := .ite (h.setFld (h.ofLane_obj (by decide)) _) h
  exact .ite (h1.setFld (h.ofLane_obj (by decide)) _) h1

theorem eqCodes (h : s.Beside l t) (dfe1 : Byte) (ctle : BitVec 5) : s.Beside l (t.eqCodes l dfe1 ctle) :=
  ((h.setFld (h.ofLane_obj (by decide)) _).setFld (h.ofLane_obj (by decide)) _).eqManual

theorem framerStart (h : s.Beside l t) : s.Beside l (t.framerStart l) :=
  .ite (.ite (h.modLane _) ((h.modLane _).modLane _)) (.ite (h.modLane _) (((h.modLane _).declare _).modLane _))

theorem adapted (h : s.Beside l t) (pin : Word) (eye dfe1 : Byte) (ctle : BitVec 5) :
    s.Beside l (t.adapted l pin eye dfe1 ctle) := by
  have hof {f : Fld} (hf : f.base / 4096 % 256 = 0) : ofLane l (f.obj l) := h.ofLane_obj hf
  unfold State.adapted
  extract_lets n s1 s2 s3
  have h1 : s.Beside l s1 := ((h.setFld (hof (by decide)) _).eqCodes dfe1 ctle).setFld (hof (by decide)) _
  have h2 : s.Beside l s2 := (h1.setFld (hof (by decide)) _).setOn (hof (by decide)) true
  have h3 : s.Beside l s3 := (h2.setLaneState _).modLane _
  exact .ite h3.framerStart h

theorem eqDiscard (h : s.Beside l t) : s.Beside l (t.eqDiscard l) := .ite (h.modLane _) h

theorem bringUpLate (h : s.Beside l t) : s.Beside l (t.bringUpLate l) := .ite ((h.declare _).modLane _) h

theorem patternLock (h : s.Beside l t) (locked : Bool) : s.Beside l (t.patternLock l locked) :=
  .ite (((h.raiseIf (h.ofLane_obj (by decide)) _).setOn (h.ofLane_obj (by decide)) locked).modLane _) h

/-! ### Channels and watchers -/

section
variable {c : Nat}

theorem ofLane_chanObj {base : Nat} (hbase : 0x0F000000 ≤ base) (i e : Nat) : ofLane l (objAt base i e) :=
  .inl (le_objAt (Nat.le_trans (by decide) hbase))

theorem pushExt (h : s.Beside l t) (hc : c < 4) (i : Item) : s.Beside l (t.pushExt l c i) := by
  unfold State.pushExt
  extract_lets x r s1 s2
  have h1 : s.Beside l s1 := h.putChan hc _
  have h2 : s.Beside l s2 := .ite (h1.bump (ofLane_chanObj (by decide) _ _) _ _) h1
  exact .ite h (h2.raiseIf (ofLane_chanObj (by decide) _ _) _)

theorem rxError (h : s.Beside l t) : s.Beside l (t.rxError l c) :=
  (h.bump (ofLane_chanObj (by decide) _ _) _ _).raise (ofLane_chanObj (by decide) _ _)

theorem hdlcAbort (h : s.Beside l t) (hc : c < 4) (raw : List Bool) : s.Beside l (t.hdlcAbort l c raw) :=
  .ite h (rxError (foldl (fun _ i _ hw => hw.pushExt hc i) h))

theorem chanStop (h : s.Beside l t) (hc : c < 4) : s.Beside l (t.chanStop l c) :=
  .ite h ((h.putChan hc _).hdlcAbort hc _)

end

theorem onLine (h : s.Beside l t) (f : TxFrame) (prior : Nat) : s.Beside l (t.onLine l f prior) := by
  unfold State.onLine
  exact h.modLane _

theorem rdiAgain (h : s.Beside l t) : s.Beside l (t.rdiAgain l) := by
  unfold State.rdiAgain
  split
  · refine .ite h ?_
    split
    · exact .ite h (h.onLine _ _)
    · exact .ite h (h.onLine _ _)
    · exact h
  · exact h

theorem laneHook (h : s.Beside l t) : s.Beside l (t.laneHook l) := by
  have hstop : s.Beside l (if t.pathsMasked l then ([0, 1, 2, 3] : List Nat).foldl (fun s c => s.chanStop l c) t else t) :=
    .ite (foldl (fun w c hc hw => hw.chanStop (by revert c; decide)) h) h
  unfold State.laneHook
  extract_lets s0 s1 s2
  have h0 : s.Beside l s0 := hstop.rdiAgain
  have h1 : s.Beside l s1 := (h0.same (State.candWatch_same _ (by decide) (by decide) (.refl _ _ _))).same
    (State.apsLane_same _ (by decide) (by decide) (.refl _ _ _))
  have h2 : s.Beside l s2 := .ite h1 (h1.same (State.pmScan_same _ (by decide) (.refl _ _ _)))
  have h3 := ite (p := t.isSdh l) (h2.same (State.pmScan_same (sectionPoint l) (by decide) (.refl _ _ _))) h2
  exact h3.same (State.pathWatchAll_same (by decide) (by decide) (.refl _ _ _))

theorem freqGate (h : s.Beside l t) {c : Nat} (hc : candLane c = some l) (offset : Int) :
    s.Beside l (t.freqGate c offset) := by
  have hset : s.Beside l (t.setCand c { t.cand c with gateAt := some t.now }) :=
    h.trans ⟨h.isLane, fun _ _ => rfl, fun _ _ => rfl, fun _ _ _ _ => rfl⟩
  have hbit := (hset.setFld (f := F.RX_FREQ_OFFSET_OFFSET) (h.ofLane_obj (by decide)) (unsigned 32 offset)).laneBit
    (f := F.LANE_STATUS_FREQ_OK) (lost := F.LANE_STICKY_FREQ_LOST) (by decide) (by decide) (Machine.freqOk offset)
  refine .ite ?_ h
  rw [State.gateOf_of_lane hc]
  exact .ite (same (.ite hbit hbit.cdrLost) (State.freqMonitor_same _ _ (by decide) (by decide) (.refl _ _ _))) hset

end State.Beside
end Sys2Proof.Machine
end

section
/-! PROOFS. R117, R118, R124, R203, R318: what the events of one lane leave of the rest of the device. -/

namespace Sys2Proof.Machine

/-! ### The rest of the device -/

/-- The fields of State that an event of a lane may write: dict (bit 9), live (10), lanes (12), sessions (14), cands (27),
aps (31), pathProt (32), chans (35) and points (38). -/
def laneEventMask : Nat := 2 ^ 9 + 2 ^ 10 + 2 ^ 12 + 2 ^ 14 + 2 ^ 27 + 2 ^ 31 + 2 ^ 32 + 2 ^ 35 + 2 ^ 38

/-- An event of a lane leaves every other field, words (bit 11) but for TRACE_ACCEPTANCE, and the objects below
LANE_STATE. -/
theorem exec_laneEvent_same {K : Nat} {c : Instr} {l : Nat} {s u : State} (hc : c.laneEvent = some l)
    (hK : K &&& laneEventMask = 0) (hwords : c.isTrace = true → K &&& 2 ^ 11 = 0) (h : exec c s = .next u) :
    Same K 0x02000002 (s.advance c.tick) u := by
  cases c with
  | txReady t l pin => exact execTxReady_same t l pin s (mask_sub hK rfl) (by decide) h
  | sigDetChange t l present => exact execSigDetChange_same t l present s (mask_sub hK rfl) (by decide) h
  | cdrLock t l offset => exact execCdrLock_same t l offset s (mask_sub hK rfl) (by decide) h
  | cdrLockLoss t l => exact execCdrLockLoss_same t l s (mask_sub hK rfl) (by decide) h
  | adaptationComplete t l pin eye dfe1 ctle =>
    exact execAdaptationComplete_same t l pin eye dfe1 ctle s (mask_sub hK rfl) (by decide) h
  | eqDiscardTimeout t l => exact execEqDiscardTimeout_same t l s (mask_sub hK rfl) h
  | bringUpTimeout t l => exact execBringUpTimeout_same t l s (mask_sub hK rfl) (by decide) h
  | losDeclare t l => exact execLosDeclare_same t l s (mask_sub hK rfl) (by decide) h
  | losClear t l => exact execLosClear_same t l s (mask_sub hK rfl) (by decide) h
  | lofDeclare t l => exact execLofDeclare_same t l s (mask_sub hK rfl) (by decide) h
  | lofClear t l => exact execLofClear_same t l s (mask_sub hK rfl) (by decide) h
  | loblDeclare t l => exact execLoblDeclare_same t l s (mask_sub hK rfl) (by decide) h
  | loblClear t l => exact execLoblClear_same t l s (mask_sub hK rfl) (by decide) h
  | defectPersistence t l d => exact execDefectPersistence_same t l d s (mask_sub hK rfl) (by decide) h
  | sfSdDeclare t l d => exact execSfSdDeclare_same t l d s (mask_sub hK rfl) (by decide) h
  | sfSdWindowEnd t l d => exact execSfSdWindowEnd_same t l d s (mask_sub hK rfl) (by decide) h
  | fieldAcceptance t l a => exact execFieldAcceptance_same t l a s (mask_sub hK rfl) (by decide) h
  | traceAcceptance t l site =>
    have hboth : K &&& (laneEventMask ||| 2 ^ 11) = 0 := by rw [Nat.and_or_distrib_left, hK, hwords rfl]; rfl
    exact execTraceAcceptance_same t l site s (mask_sub hboth rfl) (by decide) h
  | s1Acceptance t l => exact execS1Acceptance_same t l s (mask_sub hK rfl) (by decide) h
  | ltdClear t l => exact execLtdClear_same t l s (mask_sub hK rfl) (by decide) h
  | stepAccept t l => exact execStepAccept_same t l s (mask_sub hK rfl) (by decide) h
  | ledgerReseedTimeout t l => exact execLedgerReseedTimeout_same t l s (mask_sub hK rfl) (by decide) h
  | patternCheckerLock t l locked => exact execPatternCheckerLock_same t l locked s (mask_sub hK rfl) (by decide) h
  | freqGateEnd t cand offset => exact execFreqGateEnd_same t cand offset s (mask_sub hK rfl) (by decide) h
  | _ => cases hc

/-- The fields of State that no event of a lane writes, but for words, and free (bit 8), which the statement leaves open. -/
def laneEventRest : Nat :=
  2 ^ 59 - 1 - (2 ^ 8 + 2 ^ 9 + 2 ^ 10 + 2 ^ 11 + 2 ^ 12 + 2 ^ 14 + 2 ^ 27 + 2 ^ 31 + 2 ^ 32 + 2 ^ 35 + 2 ^ 38)

theorem Same.eq_of_laneEventRest {B : Nat} {s u : State} (h : Same laneEventRest B s u) :
    u = { s with
      free := u.free, dict := u.dict, live := u.live, words := u.words, lanes := u.lanes, sessions := u.sessions
      cands := u.cands
      aps := u.aps, pathProt := u.pathProt, chans := u.chans, points := u.points } := by
  cases u
  simp only [State.mk.injEq, true_and]
  exact ⟨h.pending rfl, h.now rfl, h.dts rfl, h.tempo rfl, h.startup rfl, h.straps rfl, h.resetLow rfl, h.rails rfl,
    h.xc rfl, h.freeNums rfl, h.opened rfl, h.txns rfl, h.nextTxn rfl, h.claims rfl, h.hwClaims rfl, h.gens rfl,
    h.spiIn rfl, h.spiOut rfl, h.miso rfl, h.lastOp rfl, h.lastReply rfl, h.timing rfl, h.outs rfl, h.pps rfl,
    h.tandem rfl, h.gallery rfl, h.dccOut rfl, h.dccIn rfl, h.dayCuts rfl, h.tcaLog rfl, h.macs rfl, h.faults rfl,
    h.banks rfl, h.usedBanks rfl, h.owners rfl, h.retained rfl, h.seatObjs rfl, h.tempoFrom rfl, h.tempoHeld rfl,
    h.bases rfl, h.scrubFrom rfl, h.cvuRuns rfl, h.supply rfl, h.slacks rfl, h.worstFn rfl, h.slotCheck rfl,
    h.vault rfl, h.pins rfl⟩

/-! ### The other lanes -/

/-- An event that names a lane is refused where the device has no such lane. -/
theorem State.Beside.of_onUnit {ok : Bool} {l : Nat} {what : String} {s w u : State}
    (h : onUnit (laneUnit l && ok) what w = .next u) (hop : ok = true → s.Beside l s → s.Beside l w) : s.Beside l u := by
  have hunit : (laneUnit l && ok) = true := by
    by_contra hno
    rw [onUnit_no (Bool.eq_false_of_not_eq_true hno)] at h
    cases h
  obtain ⟨hl, hok⟩ := Bool.and_eq_true_iff.mp hunit
  rw [eq_of_onUnit hunit h]
  exact hop hok (.refl (of_decide_eq_true hl) s)

/-- An event of a lane leaves what does not belong to that lane. -/
theorem exec_laneEvent_beside {c : Instr} {l : Nat} {s u : State} (hc : c.laneEvent = some l)
    (h : exec c s = .next u) : (s.advance c.tick).Beside l u := by
  have hif {v w : State} {ok : Bool} {what : String} (h : onUnit (laneUnit l && ok) what (w.laneHook l) = .next u)
      (hop : ok = true → v.Beside l v → v.Beside l w) : v.Beside l u := .of_onUnit h fun hok k => (hop hok k).laneHook
  have hplain {v w : State} {what : String} (h : onUnit (laneUnit l) what w = .next u) (hop : v.Beside l v → v.Beside l w) :
      v.Beside l u := .of_onUnit (ok := true) (by rwa [Bool.and_true]) fun _ => hop
  have hhook {v w : State} {what : String} (h : onUnit (laneUnit l) what (w.laneHook l) = .next u)
      (hop : v.Beside l v → v.Beside l w) : v.Beside l u := hplain h fun k => (hop k).laneHook
  cases c with
  | txReady t l pin => cases hc; exact hhook h fun k => k.txReadyNow pin
  | sigDetChange t l present => cases hc; exact hhook h fun k => k.sigDet present
  | cdrLock t l offset => cases hc; exact hhook h fun k => k.cdrLocked offset
  | cdrLockLoss t l => cases hc; exact hhook h fun k => k.cdrLost
  | adaptationComplete t l pin eye dfe1 ctle => cases hc; exact hhook h fun k => k.adapted pin eye dfe1 ctle
  | eqDiscardTimeout t l => cases hc; exact hplain h fun k => k.eqDiscard
  | bringUpTimeout t l => cases hc; exact hhook h fun k => k.bringUpLate
  | losDeclare t l => cases hc; exact hhook h fun k => k.losDeclare
  | losClear t l => cases hc; exact hhook h fun k => k.losClear
  | lofDeclare t l => cases hc; exact hhook h fun k => k.lofDeclare
  | lofClear t l => cases hc; exact hhook h fun k => k.lofClear
  | loblDeclare t l => cases hc; exact hhook h fun k => k.loblDeclare
  | loblClear t l => cases hc; exact hhook h fun k => k.loblClear
  | defectPersistence t l d => cases hc; exact hif h fun hd k => k.persistence hd
  | sfSdDeclare t l d => cases hc; exact hif h fun hd k => k.sfDeclare hd
  | sfSdWindowEnd t l d => cases hc; exact hif h fun hd k => k.sfWindowEnd hd
  | fieldAcceptance t l a => cases hc; exact hhook h fun k => (k.acceptField a).noteTraceable
  | traceAcceptance t l site => cases hc; exact hif h fun hsite k => k.acceptTrace hsite
  | s1Acceptance t l => cases hc; exact hhook h fun k => k.acceptS1
  | ltdClear t l => cases hc; exact hhook h fun k => k.ltdClear
  | stepAccept t l => cases hc; exact hhook h fun k => k.stepAccept
  | ledgerReseedTimeout t l => cases hc; exact hhook h fun k => k.ledgerTimeout
  | patternCheckerLock t l locked => cases hc; exact hplain h fun k => k.patternLock locked
  | freqGateEnd t cand offset =>
    have hcand : candLane cand = some l := hc
    obtain ⟨hl, rfl⟩ := candLane_lt hcand
    have hu : u = ((s.advance t).freqGate (l + 16) offset).candHook (l + 16) :=
      eq_of_onUnit (by simp only [candUnit, decide_eq_true_eq]; omega) h
    rw [hu, State.candHook, hcand]
    exact (State.Beside.freqGate (.refl hl _) hcand offset).laneHook
  | _ => cases hc

/-- Settles O53: the fields that no event of a lane writes, and what an event leaves beside its lane. -/
theorem laneEventFrames : Obligations.LaneEventFrames := by
  unfold Obligations.LaneEventFrames
  intro c l t s v u hc hv ht hu
  subst hv ht
  have hbeside := exec_laneEvent_beside hc hu
  refine ⟨(exec_laneEvent_same hc rfl (fun _ => rfl) hu).eq_of_laneEventRest, fun htrace => ?words,
    (exec_laneEvent_same (K := 0) hc (Nat.zero_and _) (fun _ => Nat.zero_and _) hu).objs, hbeside.lanes,
    fun o ho hne => hbeside.objs o ?other, hbeside.chans⟩
  case words =>
    exact (exec_laneEvent_same (K := 2 ^ 11) hc rfl (fun h => absurd (htrace.symm.trans h) Bool.false_ne_true) hu).words rfl
  case other =>
    exact fun h => h.elim (fun hle => absurd ho (Nat.not_lt.mpr hle)) hne

end Sys2Proof.Machine
end

section
/-! PROOFS. R104 to R107, R117: which line defects the masks leave, and what declaring and clearing a line defect makes of it
and of the lane. -/

namespace Sys2Proof.Machine

/-- What no step of a fold changes, the fold leaves. -/
theorem foldl_part {σ β α : Type} {part : σ → α} {f : σ → β → σ} {xs : List β} (hf : ∀ t, ∀ x ∈ xs, part (f t x) = part t)
    (s : σ) : part (xs.foldl f s) = part s := by
  induction xs generalizing s with
  | nil => rfl
  | cons x xs ih => exact (ih (fun t y hy => hf t y (List.mem_cons_of_mem x hy)) (f s x)).trans (hf s x List.mem_cons_self)

section
variable (s : State) {l b : Nat}

/-! ### Masks (R117) -/

/-- Nothing masks LOS. -/
theorem lineMasked_los (st : Nat) : lineMasked st dLos = false := by simp [lineMasked]

theorem State.lineMask_los (l : Nat) : s.lineMask l dLos = false := lineMasked_los _

/-- OOF, LOF and LOBL are masked by LOS alone. -/
theorem State.lineMask_of_los (hb : b = dOof ∨ b = dLof ∨ b = dLobl) : s.lineMask l b = s.defect l dLos := by
  rw [← s.defect_testBit l dLos (by decide), State.lineMask, lineMasked]
  generalize (bits (s.val (lineObj l)) 10 0).testBit dLos = los
  rcases hb with rfl | rfl | rfl <;> simp [dLos, dOof, dLof, dLobl, dSd, dHiBer]

/-! ### Declaring (R106, R117) -/

/-- From s to t defect b of lane l came to be declared under condition p, with its sticky bit. -/
structure State.Declared (s t : State) (l b : Nat) (p : Bool) : Prop where
  defect : t.defect l b = (s.defect l b || p)
  sticky : s.defect l b = false → t.defect l b = true → t.objBit (objAt O.DEFECT_STICKY l) b = true

theorem State.Declared.laneHook {s t : State} {p : Bool} (h : s.Declared t l b p) (hl : l < 96) :
    s.Declared (t.laneHook l) l b p :=
  ⟨(t.laneHook_defect hl b).trans h.defect, fun hs ht =>
    (t.laneHook_sticky hl b).trans (h.sticky hs ((t.laneHook_defect hl b).symm.trans ht))⟩

theorem State.declared_ite (hl : l < 96) (hb : b < 11) (p : Bool) :
    s.Declared (if p then s.declare l b else s) l b (p && !s.lineMask l b) := by
  cases p with
  | true => exact ⟨s.declare_defect hl hb, s.declare_sticky hl hb⟩
  | false => exact ⟨(Bool.or_false _).symm, fun hs ht => absurd (hs.symm.trans ht) Bool.false_ne_true⟩

theorem State.losDeclare_declared (hl : l < 96) : s.Declared (s.losDeclare l) l dLos
    ((s.lane l).inService && s.sinceOpt (s.lane l).lossSince (10 * us)) := by
  have h := s.declared_ite hl (b := dLos) (by decide) ((s.lane l).inService && s.sinceOpt (s.lane l).lossSince (10 * us))
  rwa [s.lineMask_los, Bool.not_false, Bool.and_true] at h

theorem State.lofDeclare_declared (hl : l < 96) : s.Declared (s.lofDeclare l) l dLof
    (s.defect l dOof && decide (3 * ms ≤ s.oofTime l) && !s.defect l dLos) := by
  have h := s.declared_ite hl (b := dLof) (by decide) (s.defect l dOof && decide (3 * ms ≤ s.oofTime l))
  rwa [s.lineMask_of_los (.inr (.inl rfl))] at h

theorem State.loblDeclare_declared (hl : l < 96) : s.Declared (s.loblDeclare l) l dLobl
    (s.isClient l && !(s.lane l).blockLock && s.sinceOpt (s.lane l).lockGone (125 * us) && !s.defect l dLos) := by
  have h := s.declared_ite hl (b := dLobl) (by decide)
    (s.isClient l && !(s.lane l).blockLock && s.sinceOpt (s.lane l).lockGone (125 * us))
  rwa [s.lineMask_of_los (.inr (.inr rfl))] at h

theorem State.bringUpLate_declared (hl : l < 96) : s.Declared (s.bringUpLate l) l dLos
    (s.sinceOpt (s.lane l).bringUpEnd 0 && !s.laneUp l) := by
  have h := s.declared_ite hl (b := dLos) (by decide) (s.sinceOpt (s.lane l).bringUpEnd 0 && !s.laneUp l)
  rw [s.lineMask_los, Bool.not_false, Bool.and_true] at h
  unfold State.bringUpLate
  split
  · next hlate => rw [if_pos hlate] at h; exact ⟨h.defect, h.sticky⟩
  · next hlate => rwa [if_neg hlate] at h

/-! ### Clearing -/

/-- No other defect's declaration touches LOS. -/
theorem State.declare_los (hl : l < 96) (hb : b ≠ dLos) : (s.declare l b).defect l dLos = s.defect l dLos := by
  unfold State.declare
  split
  · rfl
  · have hsticky : ((s.putBit (lineObj l) b true).raiseBit (objAt O.DEFECT_STICKY l) b).val (lineObj l) =
        (s.putBit (lineObj l) b true).val (lineObj l) :=
      State.raiseBit_val _ (by unfold lineObj objAt O.DEFECT_STATE O.DEFECT_STICKY; omega)
        (by unfold lineObj objAt O.DEFECT_STATE O.FOLLA_STICKY; omega)
    rw [State.defect_of_val (State.noteSf_val _ l _), State.applyMasks_defect _ (by decide), lineMasked_los,
      State.defect_of_val hsticky, Bool.not_false, Bool.and_true]
    exact (s.objBit_putBit (lineObj l) b dLos true (by decide)).trans (if_neg hb.symm)

theorem State.unmaskLos_los (hl : l < 96) : (s.unmaskLos l).defect l dLos = s.defect l dLos := by
  unfold State.unmaskLos
  split
  · rfl
  · split
    · rfl
    · exact s.declare_los hl (by decide)

/-- A line defect that was cleared is not in force. -/
theorem State.undeclare_clears (hl : l < 96) (hb : b < 11) : (s.undeclare l b).defect l b = false := by
  by_cases hlos : b = dLos
  · subst hlos
    unfold State.undeclare
    extract_lets was s1 s2
    have hclear : s2.defect l dLos = false := by
      have h1 : s1.defect l dLos = false :=
        (s.objBit_putBit (lineObj l) dLos dLos false (by decide)).trans (if_pos rfl)
      exact (apply_ite (State.defect · l dLos) _ _ _).trans ((ite_self _).trans h1)
    split
    · exact (s2.unmaskLos_los hl).trans hclear
    · next h => exact Bool.eq_false_of_not_eq_true h
  · exact s.undeclare_defect hlos (by omega)

theorem State.undeclare_ite (hl : l < 96) (hb : b < 11) (p : Bool) :
    (if p then s.undeclare l b else s).defect l b = (s.defect l b && !p) := by
  cases p with
  | true => exact (s.undeclare_clears hl hb).trans (Bool.and_false _).symm
  | false => exact (Bool.and_true _).symm

/-- A reseed of the ledger leaves the defects. -/
theorem State.reseedLane_defect (hl : l < 96) (b : Nat) : (s.reseedLane l).defect l b = s.defect l b :=
  State.defect_of_val ((State.reseedLane_same (K := 0) (B := 0x09000011) l (Nat.zero_and _) (Nat.le_refl _)
    (.refl _ _ s)).objs _ (by unfold lineObj objAt O.DEFECT_STATE; omega)) b

theorem State.losClear_defect (hl : l < 96) : (s.losClear l).defect l dLos =
    (s.defect l dLos && !(s.laneUp l && s.sinceOpt (s.lane l).upSince (125 * us))) := by
  unfold State.losClear
  split
  · next h =>
    obtain ⟨⟨_, hup⟩, hsince⟩ : (s.defect l dLos = true ∧ s.laneUp l = true) ∧ _ = true := by simpa using h
    rw [State.reseedLane_defect _ hl, s.undeclare_clears hl (by decide), hup, hsince, Bool.and_true, Bool.not_true,
      Bool.and_false]
  · next h =>
    rw [Bool.and_assoc, Bool.and_eq_true, not_and, Bool.not_eq_true] at h
    cases hlos : s.defect l dLos with
    | true => rw [h hlos]; rfl
    | false => rfl

theorem State.lofClear_defect (hl : l < 96) : (s.lofClear l).defect l dLof =
    (s.defect l dLof && !((s.lane l).inFrame && s.sinceOpt (s.lane l).inSince (3 * ms))) := by
  unfold State.lofClear
  split
  · next h =>
    rw [h, Bool.not_true, Bool.and_false]
    refine (apply_ite (State.defect · l dLof) _ _ _).trans ?_
    split
    · rw [State.reseedLane_defect _ hl, s.undeclare_clears hl (by decide)]
    · next hlof => exact Bool.eq_false_of_not_eq_true hlof
  · next h => rw [Bool.eq_false_of_not_eq_true h, Bool.not_false, Bool.and_true]

theorem State.lofClear_oofHeld : ((s.lofClear l).lane l).oofHeld =
    if (s.lane l).inFrame && s.sinceOpt (s.lane l).inSince (3 * ms) then 0 else (s.lane l).oofHeld := by
  unfold State.lofClear
  split
  · rw [State.lane_modLane_self]
  · rfl

theorem State.loblClear_defect (hl : l < 96) : (s.loblClear l).defect l dLobl =
    (s.defect l dLobl && !((s.lane l).blockLock && s.sinceOpt (s.lane l).lockHeld ms)) :=
  s.undeclare_ite hl (by decide) _

end

/-! ### The commands -/

/-- Settles O1: what each event makes of its defect; the watchers of the lane leave it. -/
theorem timedLineDefects : Obligations.TimedLineDefects := by
  unfold Obligations.TimedLineDefects
  refine ⟨fun t l s v hl hv => ?declare, fun t l s v hl hv => ?clear⟩ <;>
    have hunit : laneUnit l = true := by simpa [laneUnit] using hl
  case declare =>
    have hdeclared {w : State} {b : Nat} {p : Bool} (h : v.Declared w l b p) :
        (w.laneHook l).defect l b = (v.defect l b || p) ∧ (v.defect l b = false → (w.laneHook l).defect l b = true →
          (w.laneHook l).objBit (objAt O.DEFECT_STICKY l) b = true) := ⟨(h.laneHook hl).defect, (h.laneHook hl).sticky⟩
    refine ⟨⟨_, onUnit_ok hunit _ _, ?los⟩, ⟨_, onUnit_ok hunit _ _, ?lof⟩, ⟨_, onUnit_ok hunit _ _, ?lobl⟩,
      ⟨_, onUnit_ok hunit _ _, ?late⟩⟩ <;> rw [← hv]
    case los => exact hdeclared (v.losDeclare_declared hl)
    case lof => exact hdeclared (v.lofDeclare_declared hl)
    case lobl => exact hdeclared (v.loblDeclare_declared hl)
    case late => exact hdeclared (v.bringUpLate_declared hl)
  case clear =>
    refine ⟨⟨_, onUnit_ok hunit _ _, ?los⟩, ⟨_, onUnit_ok hunit _ _, ?lof⟩, ⟨_, onUnit_ok hunit _ _, ?lobl⟩⟩ <;> rw [← hv]
    case los => exact (State.laneHook_defect _ hl _).trans (v.losClear_defect hl)
    case lof =>
      exact ⟨(State.laneHook_defect _ hl _).trans (v.lofClear_defect hl),
        (State.laneHook_part _ l l fun _ _ _ _ => rfl).trans v.lofClear_oofHeld⟩
    case lobl => exact (State.laneHook_defect _ hl _).trans (v.loblClear_defect hl)

end Sys2Proof.Machine
end

section
/-! PROOFS. R117: what the masks of a line defect leave of its lane. -/

namespace Sys2Proof.Machine

/-- What masking under the line defects `st` leaves of lane x: its landing frames, a framer that is out of frame, and the slots
with slot RDI where none of LOS, OOF and LOF masks them. -/
structure Lane.MaskedFrom (st : Nat) (x y : Lane) : Prop where
  landings : y.landings = x.landings
  inFrame : x.inFrame = false → y.inFrame = false
  slotRdi : (st.testBit dLos || st.testBit dOof || st.testBit dLof) = false → y.slotRdi = x.slotRdi

theorem Lane.MaskedFrom.refl (st : Nat) (x : Lane) : x.MaskedFrom st x := ⟨rfl, id, fun _ => rfl⟩

section
variable (s : State) {l b st : Nat} {x : Lane}

/-- One more change of the lane that keeps these. -/
theorem Lane.MaskedFrom.modLane {t : State} {f : Lane → Lane} (h : x.MaskedFrom st (t.lane l))
    (hlandings : (f (t.lane l)).landings = (t.lane l).landings)
    (hframe : (t.lane l).inFrame = false → (f (t.lane l)).inFrame = false)
    (hslots : (st.testBit dLos || st.testBit dOof || st.testBit dLof) = false →
      (f (t.lane l)).slotRdi = (t.lane l).slotRdi) : x.MaskedFrom st ((t.modLane l f).lane l) := by
  rw [State.lane_modLane_self]
  exact ⟨hlandings.trans h.landings, fun hx => hframe (h.inFrame hx), fun hst => (hslots hst).trans (h.slotRdi hst)⟩

theorem Lane.MaskedFrom.ite {p : Prop} [Decidable p] {t u : State} (ht : p → x.MaskedFrom st (t.lane l))
    (hu : x.MaskedFrom st (u.lane l)) : x.MaskedFrom st ((if p then t else u).lane l) := by
  split
  · next hp => exact ht hp
  · exact hu

theorem State.clearPaths_maskedFrom (h : x.MaskedFrom st (s.lane l)) : x.MaskedFrom st ((s.clearPaths l).lane l) := by
  unfold State.clearPaths
  extract_lets s1
  have h1 : s1.lane l = s.lane l := State.foldl_lane (fun t _ => t.setVal_lane _ _ l) _ s
  exact .modLane (h1 ▸ h) rfl id fun _ => rfl

theorem State.applyMasks_maskedFrom :
    (s.lane l).MaskedFrom (bits (s.val (lineObj l)) 10 0) ((s.applyMasks l).lane l) := by
  unfold State.applyMasks
  extract_lets st s1 frames s2 s3
  have h1 : (s.lane l).MaskedFrom st (s1.lane l) := by
    rw [show s1.lane l = s.lane l from
      State.foldl_lane (fun t b => by split; exacts [t.putBit_lane _ _ _ l, rfl]) _ s]
    exact .refl _ _
  clear_value s1
  have h2 : (s.lane l).MaskedFrom st (s2.lane l) :=
    .ite (fun hframes => .modLane h1 rfl id fun hst => absurd (hframes.symm.trans hst) Bool.false_ne_true.symm) <|
    .ite (fun _ => .modLane h1 rfl id fun _ => rfl) <| .ite (fun _ => .modLane h1 rfl id fun _ => rfl) <|
    .ite (fun _ => .modLane h1 rfl id fun _ => rfl) h1
  clear_value s2
  have h3 : (s.lane l).MaskedFrom st (s3.lane l) :=
    .ite (fun _ => .modLane (State.clearPaths_maskedFrom s2 h2) rfl id fun _ => rfl) h2
  clear_value s3
  refine .ite (fun _ => .modLane ?_ rfl (fun _ => rfl) fun _ => rfl) h3
  rw [State.setVal_lane, State.dropS1_lane]
  exact h3

/-- A defect that comes to be declared leaves of its lane what the masks leave that are in force then. -/
theorem State.declare_maskedFrom (hl : l < 96) :
    (s.lane l).MaskedFrom (bits ((s.putBit (lineObj l) b true).val (lineObj l)) 10 0) ((s.declare l b).lane l) := by
  unfold State.declare
  split
  · exact .refl _ _
  · have hval : ((s.putBit (lineObj l) b true).raiseBit (objAt O.DEFECT_STICKY l) b).val (lineObj l) =
        (s.putBit (lineObj l) b true).val (lineObj l) :=
      State.raiseBit_val _ (by unfold lineObj objAt O.DEFECT_STATE O.DEFECT_STICKY; omega)
        (by unfold lineObj objAt O.DEFECT_STATE O.FOLLA_STICKY; omega)
    have hmasked := ((s.putBit (lineObj l) b true).raiseBit (objAt O.DEFECT_STICKY l) b).applyMasks_maskedFrom (l := l)
    rw [hval, State.raiseBit_lane, State.putBit_lane] at hmasked
    exact .modLane (f := fun x => { x with sfSince := _, sdSince := _ }) hmasked rfl id fun _ => rfl

theorem State.declare_landings (hl : l < 96) (b : Nat) : ((s.declare l b).lane l).landings = (s.lane l).landings :=
  (s.declare_maskedFrom hl).landings

theorem State.declare_outOfFrame (hl : l < 96) (b : Nat) (h : (s.lane l).inFrame = false) :
    ((s.declare l b).lane l).inFrame = false :=
  (s.declare_maskedFrom hl).inFrame h

/-- Slot RDI is not declared under a defect that would take its slots back. -/
theorem State.declare_slotRdi (hl : l < 96) : ((s.declare l dSlotRdi).lane l).slotRdi = (s.lane l).slotRdi := by
  cases hmask : s.lineMask l dSlotRdi with
  | true => exact congrArg (fun w : State => (w.lane l).slotRdi) (if_pos (Bool.or_eq_true_iff.mpr (.inr hmask)))
  | false =>
    refine (s.declare_maskedFrom hl).slotRdi ?_
    have hstands {c : Nat} (hc : c < 11) (hne : c ≠ dSlotRdi) :
        (bits ((s.putBit (lineObj l) dSlotRdi true).val (lineObj l)) 10 0).testBit c =
          (bits (s.val (lineObj l)) 10 0).testBit c := by
      rw [State.defect_testBit _ l c hc, State.defect_testBit _ l c hc]
      exact (s.objBit_putBit (lineObj l) dSlotRdi c true (by omega)).trans (if_neg hne)
    rw [hstands (by decide) (by decide), hstands (by decide) (by decide), hstands (by decide) (by decide)]
    unfold State.lineMask lineMasked at hmask
    generalize (bits (s.val (lineObj l)) 10 0).testBit dLos = los at *
    generalize (bits (s.val (lineObj l)) 10 0).testBit dOof = oof at *
    generalize (bits (s.val (lineObj l)) 10 0).testBit dLof = lof at *
    revert hmask
    cases los <;> cases oof <;> cases lof <;> simp [dSlotRdi, dLos, dAisL, dRdiL, dTimS, dSf, dSd]

/-- Clearing a defect other than LOS notes instants in the lane alone. -/
theorem State.undeclare_part {α : Type} {part : Lane → α} (hb : b ≠ dLos)
    (hpart : ∀ y sf sd ais, part { y with sfSince := sf, sdSince := sd, aisUntil := ais } = part y) :
    part ((s.undeclare l b).lane l) = part (s.lane l) := by
  have hnote : part (((s.putBit (lineObj l) b false).noteSf l).lane l) = part (s.lane l) := by
    unfold State.noteSf
    rw [State.lane_setLane_self]
    exact hpart (s.lane l) _ _ (s.lane l).aisUntil
  unfold State.undeclare
  split
  · dsimp only
    split
    · rw [State.lane_modLane_self]
      exact (hpart _ _ _ _).trans hnote
    · exact hnote
  · rfl

end
end Sys2Proof.Machine
end

section
/-! PROOFS. R114, R117: the defects of one path: what declaring and clearing one makes of its object, and what it leaves. -/

namespace Sys2Proof.Machine

section
variable (s : State) {l k b : Nat}

theorem pathObj_ne_sticky (l k : Nat) : pathObj l k ≠ objAt O.PATH_DEFECT_STICKY l k := by
  unfold pathObj objAt O.PATH_DEFECT_STATE O.PATH_DEFECT_STICKY
  omega

/-- Whatever stands when a bit of the path's object is written, one of its sticky object set and the lane changed, stands when
a path defect is judged. -/
structure State.OffPath {α : Type} (l k : Nat) (part : State → α) : Prop where
  bit : ∀ (t : State) (c : Nat) (v : Bool), c < 8 → part (t.putBit (pathObj l k) c v) = part t
  sticky : ∀ (t : State) (c : Nat), part (t.raiseBit (objAt O.PATH_DEFECT_STICKY l k) c) = part t
  lane : ∀ (t : State) (y : Lane), part (t.setLane l y) = part t

theorem State.OffPath.noteSdP {α : Type} {part : State → α} (h : State.OffPath l k part) :
    part (s.noteSdP l k) = part s := by
  unfold State.noteSdP
  dsimp only
  split
  · split
    exacts [rfl, h.lane _ _]
  · exact h.lane _ _

theorem State.OffPath.judgePath {α : Type} {part : State → α} (h : State.OffPath l k part) (hb : b < 8) (v : Bool) :
    part (s.judgePath l k b v) = part s := by
  have hdeclare : part (s.declarePath l k b) = part s := by
    unfold State.declarePath
    extract_lets st s1 st1 s2 s3
    have h1 : part s1 = part s := (h.sticky _ _).trans (h.bit _ _ _ hb)
    have h2 : part s2 = part s := by
      refine (foldl_part (part := part) (fun t c hc => ?_) s1).trans h1
      split
      exacts [h.bit _ _ _ (List.mem_range.mp hc), rfl]
    have h3 : part s3 = part s := by
      simp only [s3, apply_ite part, State.modLane, h.lane, ite_self, h2]
    split
    exacts [rfl, (h.noteSdP s3).trans h3]
  have hclear : part (s.undeclarePath l k b) = part s := by
    have h1 : part ((s.putBit (pathObj l k) b false).noteSdP l k) = part s := (h.noteSdP _).trans (h.bit _ _ _ hb)
    unfold State.undeclarePath
    simp only [apply_ite part, State.modLane, h.lane, h1, ite_self]
  unfold State.judgePath
  simp only [apply_ite part, hdeclare, hclear, ite_self]

/-- Other objects than the path's own. -/
theorem State.offPath_val {o : Nat} (hstate : o ≠ pathObj l k) (hsticky : o ≠ objAt O.PATH_DEFECT_STICKY l k)
    (hfolla : o ≠ O.FOLLA_STICKY) : State.OffPath l k (State.val · o) :=
  ⟨fun t _ _ _ => State.val_setVal_ne t hstate _, fun t _ => t.raiseBit_val hsticky hfolla, fun t y => t.setLane_val l y o⟩

/-- The fields of PATH_DEFECT_STATE beyond its defects. -/
theorem State.offPath_fld {g : Fld} (hl : l < 96) (hk : k < 4096) (hg : g.base = O.PATH_DEFECT_STATE)
    (hbits : 8 ≤ g.lo ∧ g.hi < 96) : State.OffPath l k (State.fld · g l k) := by
  have hobj : g.obj l k = pathObj l k := by rw [Fld.obj, hg]; rfl
  refine ⟨fun t c v hc => ?_, fun t c => State.fld_of_val ?_, fun t y => rfl⟩
  · have hput : t.putBit (pathObj l k) c v = t.setFld ⟨O.PATH_DEFECT_STATE, c, c⟩ (if v then 1 else 0) l k := rfl
    rw [hput]
    exact t.fld_setFld_ne _ g _ l k hg (Nat.le_refl c) hbits.2 (.inr (Nat.lt_of_lt_of_le hc hbits.1))
  · rw [hobj]
    exact t.raiseBit_val (pathObj_ne_sticky l k) (by unfold pathObj objAt O.PATH_DEFECT_STATE O.FOLLA_STICKY; omega)

/-! ### The defect itself -/

/-- No path defect masks itself. -/
theorem pathMaskedBy_self {x y : Nat} (hb : b < 8) (h : ∀ c, c < 8 → c ≠ b → y.testBit c = x.testBit c) :
    pathMaskedBy y b = pathMaskedBy x b := by
  have hais := h pAis (by decide)
  have hlop := h pLop (by decide)
  have huneq := h pUneq (by decide)
  have hsf := h pSf (by decide)
  unfold pathMaskedBy
  generalize y.testBit pAis = yAis at *
  generalize y.testBit pLop = yLop at *
  generalize y.testBit pUneq = yUneq at *
  generalize y.testBit pSf = ySf at *
  interval_cases b <;> simp_all [pAis, pLop, pUneq, pPlm, pTim, pSf, pSd]

/-- The bits of PATH_DEFECT_STATE read as a number. -/
theorem State.pathDefect_testBit (l k c : Nat) (hc : c < 8) :
    (bits (s.val (pathObj l k)) 7 0).testBit c = s.pathDefect l k c := by
  rw [bits_testBit]
  simp [State.pathDefect, State.objBit, hc]

/-- Whether another defect masks path defect b (R114, R117). -/
def State.pathMask (s : State) (l k b : Nat) : Bool := s.pathsMasked l || pathMaskedBy (bits (s.val (pathObj l k)) 7 0) b

theorem State.noteSdP_val (l k o : Nat) : (s.noteSdP l k).val o = s.val o := by
  unfold State.noteSdP
  dsimp only
  split
  · split
    exacts [rfl, State.setLane_val _ _ _ _]
  · exact State.setLane_val _ _ _ _

theorem State.declarePath_pathDefect (hl : l < 96) (hk : k < 4096) (hb : b < 8) :
    (s.declarePath l k b).pathDefect l k b = (s.pathDefect l k b || !s.pathMask l k b) := by
  unfold State.declarePath State.pathMask
  extract_lets st s1 st1 s2 s3
  have h1 {c : Nat} (hc : c < 8) : s1.pathDefect l k c = if c = b then true else s.pathDefect l k c :=
    (State.objBit_of_val (State.raiseBit_val _ (pathObj_ne_sticky l k)
      (by unfold pathObj objAt O.PATH_DEFECT_STATE O.FOLLA_STICKY; omega)) c).trans (s.objBit_putBit _ _ _ _ (by omega))
  have hself : pathMaskedBy st1 b = pathMaskedBy st b := pathMaskedBy_self hb fun c hc hne => by
    rw [State.pathDefect_testBit _ _ _ _ hc, State.pathDefect_testBit _ _ _ _ hc, h1 hc, if_neg hne]
  split
  · next h =>
    cases hdef : s.pathDefect l k b with
    | true => rfl
    | false =>
      rw [hdef, Bool.false_or] at h
      rw [h]
      rfl
  · next h =>
    rw [Bool.or_assoc, Bool.or_eq_true, not_or, Bool.not_eq_true, Bool.not_eq_true] at h
    obtain ⟨hdef, hmask⟩ := h
    have hst1 : pathMaskedBy st1 b = false := hself.trans (Bool.or_eq_false_iff.mp hmask).2
    have h2 : s2.pathDefect l k b = true := by
      refine (foldl_part (part := (State.pathDefect · l k b)) (fun t c hc => ?_) s1).trans ((h1 hb).trans (if_pos rfl))
      split
      · next hc => exact (t.objBit_putBit _ _ _ _ (by omega)).trans (if_neg fun e => by rw [← e, hst1] at hc; cases hc)
      · rfl
    have h3 : s3.pathDefect l k b = s2.pathDefect l k b := by
      simp only [s3, apply_ite (State.pathDefect · l k b)]
      simp only [State.pathDefect, State.modLane_objBit, ite_self]
    rw [hdef, hmask, State.pathDefect, State.objBit_of_val (s3.noteSdP_val l k _)]
    exact h3.trans h2

theorem State.undeclarePath_pathDefect (hb : b < 96) : (s.undeclarePath l k b).pathDefect l k b = false := by
  have hclear : ((s.putBit (pathObj l k) b false).noteSdP l k).pathDefect l k b = false :=
    (State.objBit_of_val (State.noteSdP_val _ l k _) b).trans ((s.objBit_putBit _ b b false hb).trans (if_pos rfl))
  unfold State.undeclarePath
  split
  · dsimp only
    split
    exacts [hclear, hclear]
  · next h => exact Bool.eq_false_of_not_eq_true h

/-- R84, R114, R117: a path defect that is judged. -/
theorem State.judgePath_pathDefect (hl : l < 96) (hk : k < 4096) (hb : b < 8) (v : Bool) :
    (s.judgePath l k b v).pathDefect l k b = if s.scrambleOff l then s.pathDefect l k b else
      v && (s.pathDefect l k b || !s.pathMask l k b) := by
  unfold State.judgePath
  split
  · rfl
  · cases v with
    | true => exact s.declarePath_pathDefect hl hk hb
    | false => exact s.undeclarePath_pathDefect (by omega)

theorem State.laneHook_pathDefect {m : Nat} (hl : l < 96) (hk : k < 4096) :
    (s.laneHook m).pathDefect l k b = s.pathDefect l k b :=
  State.objBit_of_val (State.laneHook_val s m (by unfold pathObj objAt O.PATH_DEFECT_STATE; omega)) b

end
end Sys2Proof.Machine
end

section
/-! PROOFS. R78, R95, R109, R116, R143: what a run of frames that has reached its length decides. -/

namespace Sys2Proof.Machine

section
variable (s : State) {l : Nat} {d : Persist} {k b need : Nat}

/-- What the frames of a run agree on. -/
def Lane.agreed (x : Lane) (k : Nat) : Nat := (x.run (runKey k 0)).value

/-! ### Line defects (R109) -/

/-- The runs that decide a line defect. -/
def lineRuns : List (Persist × Nat × Nat) := [(.aisL, kAisL, dAisL), (.rdiL, kRdiL, dRdiL), (.ttfRdi, kTtfRdi, dRdiL)]

theorem State.persistence_line (h : (d, k, b) ∈ lineRuns) : s.persistence l d =
    if (s.lane l).ripe (runKey k 0) 5 then (if (s.lane l).agreed k = 1 then s.declare l b else s.undeclare l b) else s := by
  simp only [lineRuns, List.mem_cons, List.not_mem_nil, or_false, Prod.mk.injEq] at h
  rcases h with ⟨rfl, rfl, rfl⟩ | ⟨rfl, rfl, rfl⟩ | ⟨rfl, rfl, rfl⟩ <;> rfl

theorem lineRuns_bit (h : (d, k, b) ∈ lineRuns) : b < 11 := by
  have hall : ∀ p ∈ lineRuns, p.2.2 < 11 := by decide
  exact hall _ h

theorem State.persistence_lineDefect (hl : l < 96) (h : (d, k, b) ∈ lineRuns) : (s.persistence l d).defect l b =
    if 5 ≤ ((s.lane l).run (runKey k 0)).count then
      (s.lane l).agreed k == 1 && (s.defect l b || !s.lineMask l b)
    else s.defect l b := by
  have hb := lineRuns_bit h
  rw [s.persistence_line h, apply_ite (State.defect · l b), apply_ite (State.defect · l b), s.declare_defect hl hb,
    s.undeclare_clears hl hb]
  refine if_congr (Lane.ripe_iff _ _ _) ?_ rfl
  split
  · next hv => rw [hv]; rfl
  · next hv => rw [beq_false_of_ne hv]; rfl

/-! ### Slot RDI (R109) -/

theorem State.judgeSlotRdi_contains (hl : l < 96) (v : Bool) :
    ((s.judgeSlotRdi l k v).lane l).slotRdi.contains k = v := by
  unfold State.judgeSlotRdi
  extract_lets x rest s1
  have h1 : (s1.lane l).slotRdi = if v then rest ++ [k] else rest := by rw [State.lane_setLane_self]
  cases v with
  | true =>
    rw [if_pos rfl, State.declare_slotRdi s1 hl, h1, if_pos rfl]
    simp
  | false =>
    have hrest : rest.contains k = false := by simp [rest]
    rw [if_neg Bool.false_ne_true] at h1 ⊢
    split
    · rw [State.undeclare_part s1 (part := Lane.slotRdi) (by decide) fun _ _ _ _ => rfl, h1, hrest]
    · rw [h1, hrest]

/-! ### The mismatches of a TTF frame (R78) -/

/-- The runs that decide a mismatch. -/
def mismatchRuns : List (Persist × Nat × Nat) :=
  [(.tag, kTag, 0), (.laneId, kLane, 1), (.digest, kDigestChk, 2), (.size, kSize, 3)]

theorem State.persistence_mismatch (h : (d, k, b) ∈ mismatchRuns) : s.persistence l d =
    if (s.lane l).ripe (runKey k 0) 8 && s.mismatchOn l b then s.judgeMismatch l b ((s.lane l).agreed k == 1) else s := by
  simp only [mismatchRuns, List.mem_cons, List.not_mem_nil, or_false, Prod.mk.injEq] at h
  rcases h with ⟨rfl, rfl, rfl⟩ | ⟨rfl, rfl, rfl⟩ | ⟨rfl, rfl, rfl⟩ | ⟨rfl, rfl, rfl⟩ <;> rfl

theorem mismatchRuns_bit (h : (d, k, b) ∈ mismatchRuns) : b < 96 := by
  have hall : ∀ p ∈ mismatchRuns, p.2.2 < 96 := by decide
  exact hall _ h

theorem State.judgeMismatch_flag (hl : l < 96) (hb : b < 96) (v : Bool) :
    (s.judgeMismatch l b v).objBit (objAt O.TTF_RX_FLAGS l) b =
      (v && (s.objBit (objAt O.TTF_RX_FLAGS l) b || !s.pathsMasked l)) := by
  have hput (w : Bool) : (s.putBit (objAt O.TTF_RX_FLAGS l) b w).objBit (objAt O.TTF_RX_FLAGS l) b = w :=
    (s.objBit_putBit _ b b w hb).trans (if_pos rfl)
  have hraise (t : State) : (t.raiseBit (objAt O.TTF_STICKY l) b).objBit (objAt O.TTF_RX_FLAGS l) b =
      t.objBit (objAt O.TTF_RX_FLAGS l) b :=
    State.objBit_of_val (t.raiseBit_val (by unfold objAt O.TTF_RX_FLAGS O.TTF_STICKY; omega)
      (by unfold objAt O.TTF_RX_FLAGS O.FOLLA_STICKY; omega)) b
  unfold State.judgeMismatch
  dsimp only
  cases v with
  | true =>
    rw [if_pos rfl, Bool.true_and]
    split
    · next h => cases hflag : s.objBit (objAt O.TTF_RX_FLAGS l) b <;> simp_all
    · next h =>
      rw [Bool.or_eq_true, not_or, Bool.not_eq_true, Bool.not_eq_true] at h
      rw [h.2, Bool.not_false, Bool.or_true]
      exact (hraise _).trans (hput true)
  | false =>
    rw [if_neg Bool.false_ne_true, Bool.false_and]
    split
    · exact hput false
    · next h => exact Bool.eq_false_of_not_eq_true h

/-! ### Group defects (R143) -/

/-- The runs that decide a group defect, with their lengths. -/
def groupRunLengths : List (Persist × Nat × Nat × Nat) := [(.gais, kGais, 0, 3), (.ghl, kGhl, 1, 8), (.gmis, kGmis, 2, 8)]

theorem State.persistence_group (h : (d, k, b, need) ∈ groupRunLengths) : s.persistence l d =
    if (s.lane l).ripe (runKey k 0) need then s.judgeGroup l b ((s.lane l).agreed k == 1) else s := by
  simp only [groupRunLengths, List.mem_cons, List.not_mem_nil, or_false, Prod.mk.injEq] at h
  rcases h with ⟨rfl, rfl, rfl, rfl⟩ | ⟨rfl, rfl, rfl, rfl⟩ | ⟨rfl, rfl, rfl, rfl⟩ <;> rfl

theorem groupRunLengths_bit (h : (d, k, b, need) ∈ groupRunLengths) : b < 3 := by
  have hall : ∀ p ∈ groupRunLengths, p.2.2.1 < 3 := by decide
  exact hall _ h

/-- R143: GAIS is masked by LOS, GHL by GAIS too, GMIS by both. -/
def State.groupMask (s : State) (l b : Nat) : Bool :=
  s.defect l dLos || (b != 0 && s.objBit (objAt O.GROUP_DEFECT_STATE l) 0) ||
    (b == 2 && s.objBit (objAt O.GROUP_DEFECT_STATE l) 1)

theorem State.judgeGroup_state (hl : l < 96) (hb : b < 3) (v : Bool) :
    (s.judgeGroup l b v).objBit (objAt O.GROUP_DEFECT_STATE l) b =
      (v && (s.objBit (objAt O.GROUP_DEFECT_STATE l) b || !s.groupMask l b)) := by
  have hput (t : State) (c : Nat) (w : Bool) : (t.putBit (objAt O.GROUP_DEFECT_STATE l) c w).objBit
      (objAt O.GROUP_DEFECT_STATE l) b = if b = c then w else t.objBit (objAt O.GROUP_DEFECT_STATE l) b :=
    t.objBit_putBit _ c b w (by omega)
  have hraise (t : State) : (t.raiseBit (objAt O.GROUP_DEFECT_STICKY l) b).objBit (objAt O.GROUP_DEFECT_STATE l) b =
      t.objBit (objAt O.GROUP_DEFECT_STATE l) b :=
    State.objBit_of_val (t.raiseBit_val (by unfold objAt O.GROUP_DEFECT_STATE O.GROUP_DEFECT_STICKY; omega)
      (by unfold objAt O.GROUP_DEFECT_STATE O.FOLLA_STICKY; omega)) b
  have hmask : (s.defect l dLos || (decide (b ≠ 0) && s.objBit (objAt O.GROUP_DEFECT_STATE l) 0) ||
      (decide (b = 2) && s.objBit (objAt O.GROUP_DEFECT_STATE l) 1)) = s.groupMask l b := by
    rw [State.groupMask, bne, decide_not]
    rfl
  unfold State.judgeGroup
  dsimp only
  rw [hmask]
  cases v with
  | true =>
    rw [if_pos rfl, Bool.true_and]
    split
    · next h =>
      cases hstate : s.objBit (objAt O.GROUP_DEFECT_STATE l) b with
      | true => rfl
      | false =>
        rw [hstate, Bool.or_false] at h
        rw [h]
        rfl
    · next h =>
      rw [Bool.or_eq_true, not_or, Bool.not_eq_true, Bool.not_eq_true] at h
      rw [h.1, Bool.not_false, Bool.or_true]
      split
      · next h0 => rw [State.modLane_objBit, hput, hput, hraise, hput, h0]; rfl
      · split
        · next h1 => rw [State.modLane_objBit, hput, hraise, hput, h1]; rfl
        · rw [hraise, hput, if_pos rfl]
  | false => exact (hput s b false).trans (if_pos rfl)

/-! ### C2 and G1 (R95, R116) -/

theorem State.acceptC2_fld (hl : l < 96) (hk : k < 768) (v : Nat) :
    (s.acceptC2 l k v).fld F.PATH_STATUS_C2_RX l k = v % 256 := by
  have hoff : State.OffPath l k (State.fld · F.PATH_STATUS_C2_RX l k) := by
    have hval : State.OffPath l k (State.val · (F.PATH_STATUS_C2_RX.obj l k)) := State.offPath_val
      (by simp only [Fld.obj, F.PATH_STATUS_C2_RX, pathObj, objAt, O.PATH_DEFECT_STATE]; omega)
      (by simp only [Fld.obj, F.PATH_STATUS_C2_RX, objAt, O.PATH_DEFECT_STICKY]; omega)
      (by simp only [Fld.obj, F.PATH_STATUS_C2_RX, objAt, O.FOLLA_STICKY]; omega)
    exact ⟨fun t c w hc => State.fld_of_val (hval.bit t c w hc), fun t c => State.fld_of_val (hval.sticky t c),
      fun t y => State.fld_of_val (hval.lane t y)⟩
  have hset : (s.setFld F.PATH_STATUS_C2_RX v l k).fld F.PATH_STATUS_C2_RX l k = v % 256 :=
    s.fld_setFld_self _ v l k (by decide) (by decide)
  unfold State.acceptC2
  dsimp only
  split
  · exact hset
  · rw [hoff.judgePath _ (by decide), hoff.judgePath _ (by decide), hset]

theorem State.acceptG1_fld (hl : l < 96) (hk : k < 768) (v : Nat) :
    (s.acceptG1 l k v).fld F.PATH_DEFECT_STATE_G1_CODE l k = v % 8 := by
  have hset : (s.setFld F.PATH_DEFECT_STATE_G1_CODE v l k).fld F.PATH_DEFECT_STATE_G1_CODE l k = v % 8 :=
    s.fld_setFld_self _ v l k (by decide) (by decide)
  unfold State.acceptG1
  dsimp only
  split
  · exact hset
  · rw [(State.offPath_fld hl (by omega) rfl (by decide)).judgePath _ (by decide), hset]

/-- The watchers of the lane leave the fields of its paths. -/
theorem State.laneHook_pathFld {g : Fld} (hl : l < 96) (hk : k < 768) (hg : g.base < 0x09F00000) :
    (s.laneHook l).fld g l k = s.fld g l k :=
  State.fld_of_val (State.laneHook_val s l (by unfold Fld.obj objAt; omega))

end

/-! ### The commands -/

/-- Settles O2: each run by what it decides once it is ripe; the watchers of the lane leave it. -/
theorem runsOfFramesDecideDefects : Obligations.RunsOfFramesDecideDefects := by
  unfold Obligations.RunsOfFramesDecideDefects
  intro t l s v hl hv
  have hexec {d : Persist} (hd : persistOk d = true) :
      exec (.defectPersistence t l d) s = .next ((v.persistence l d).laneHook l) := by
    rw [hv]
    exact onUnit_ok (by simp [laneUnit, hl, hd]) _ _
  refine ⟨fun d k b h => ⟨_, hexec ?lineOk, ?line⟩, fun k hk => ⟨_, hexec (by simpa [persistOk] using hk), ?slot⟩,
    fun d k b h => ⟨_, hexec ?mismatchOk, ?mismatch⟩, fun d k b n h => ⟨_, hexec ?groupOk, ?group⟩,
    fun k hk => ⟨_, hexec (by simpa [persistOk, pathUnit] using hk), ?c2⟩,
    fun k hk => ⟨_, hexec (by simpa [persistOk, pathUnit] using hk), ?g1⟩⟩
  case lineOk => exact (by decide : ∀ p ∈ lineRuns, persistOk p.1 = true) _ h
  case mismatchOk => exact (by decide : ∀ p ∈ mismatchRuns, persistOk p.1 = true) _ h
  case groupOk => exact (by decide : ∀ p ∈ groupRunLengths, persistOk p.1 = true) _ h
  case line => exact (State.laneHook_defect _ hl b).trans (v.persistence_lineDefect hl h)
  case slot =>
    refine (State.laneHook_part (part := fun x => x.slotRdi.contains k) _ l l fun _ _ _ _ => rfl).trans ?_
    refine (apply_ite (fun w : State => (w.lane l).slotRdi.contains k) _ _ _).trans ?_
    exact if_congr (Lane.ripe_iff _ _ _) (v.judgeSlotRdi_contains hl _) rfl
  case mismatch =>
    rw [State.objBit_of_val (State.laneHook_val _ l (by unfold objAt O.TTF_RX_FLAGS; omega)), v.persistence_mismatch h,
      apply_ite (State.objBit · _ b), v.judgeMismatch_flag hl (mismatchRuns_bit h)]
    rfl
  case group =>
    rw [State.objBit_of_val (State.laneHook_val _ l (by unfold objAt O.GROUP_DEFECT_STATE; omega)), v.persistence_group h,
      apply_ite (State.objBit · _ b), v.judgeGroup_state hl (groupRunLengths_bit h)]
    exact if_congr (Lane.ripe_iff _ _ _) rfl rfl
  case c2 =>
    refine (State.laneHook_pathFld _ hl hk (by decide)).trans ?_
    refine (apply_ite (fun w : State => w.fld F.PATH_STATUS_C2_RX l k) _ _ _).trans ?_
    exact if_congr (Lane.ripe_iff _ _ _) (v.acceptC2_fld hl hk _) rfl
  case g1 =>
    refine (State.laneHook_pathFld _ hl hk (by decide)).trans ?_
    refine (apply_ite (fun w : State => w.fld F.PATH_DEFECT_STATE_G1_CODE l k) _ _ _).trans ?_
    exact if_congr (Lane.ripe_iff _ _ _) (v.acceptG1_fld hl hk _) rfl

end Sys2Proof.Machine
end

section
/-! PROOFS. R84, R112, R114, R117: what a detector of SF or SD makes of its defect and of its window. -/

namespace Sys2Proof.Machine

section
variable (s : State) {l k b : Nat} {d : SfSd}

/-- B is not 0 and the running count has reached D (R112). -/
def State.countReached (s : State) (l : Nat) (d : SfSd) : Bool :=
  (s.sfParams l d).2 != 0 && decide (sfD (s.sfParams l d).1 (s.sfParams l d).2 ≤ ((s.lane l).window (sfKey d)).count)

/-- B is not 0 and W frames have been counted (R112). -/
def State.windowOver (s : State) (l : Nat) (d : SfSd) : Bool :=
  (s.sfParams l d).2 != 0 && decide (sfW (s.sfParams l d).1 (s.sfParams l d).2 ≤ ((s.lane l).window (sfKey d)).frames)

/-- The count of the window is at least C (R112). -/
def State.countStays (s : State) (l : Nat) (d : SfSd) : Bool :=
  decide (sfC (s.sfParams l d).1 (s.sfParams l d).2 ≤ ((s.lane l).window (sfKey d)).count)

/-- The window of detector d starts anew. -/
def State.restart (s : State) (l : Nat) (d : SfSd) : State :=
  s.modLane l fun x => { x with windows := Map.erase (sfKey d) x.windows }

theorem State.restart_window : ((s.restart l d).lane l).window (sfKey d) = noWindow := by
  rw [State.restart, State.lane_modLane_self]
  exact Map.get_erase_self noWindow (sfKey d) (s.lane l).windows

theorem State.sfDeclare_eq : s.sfDeclare l d =
    if s.countReached l d && s.sfWatched l d then s.sfJudge l d true else s := by
  refine if_congr ?_ rfl rfl
  simp only [State.countReached, Bool.and_eq_true, decide_eq_true_eq, bne_iff_ne, and_right_comm]

theorem State.sfWindowEnd_eq : s.sfWindowEnd l d =
    if s.windowOver l d then (if s.countStays l d then s.restart l d else (s.restart l d).sfJudge l d false) else s := by
  refine if_congr ?_ ((if_congr ?_ rfl rfl).trans (ite_not _ _ _)) rfl
  · simp only [State.windowOver, Bool.and_eq_true, decide_eq_true_eq, bne_iff_ne]
  · rw [State.countStays, decide_eq_true_eq, Nat.not_le]

/-! ### Windows -/

/-- A path defect that clears leaves the windows. -/
theorem State.undeclarePath_windows : ((s.undeclarePath l k b).lane l).windows = (s.lane l).windows := by
  have hnote (t : State) : ((t.noteSdP l k).lane l).windows = (t.lane l).windows := by
    unfold State.noteSdP
    dsimp only
    split
    · split
      · rfl
      · rw [State.lane_setLane_self]
    · rw [State.lane_setLane_self]
  have hclear : (((s.putBit (pathObj l k) b false).noteSdP l k).lane l).windows = (s.lane l).windows :=
    (hnote _).trans (congrArg Lane.windows (State.putBit_lane _ _ _ _ _))
  unfold State.undeclarePath
  split
  · dsimp only
    split
    · rw [State.lane_modLane_self]
      exact hclear
    · exact hclear
  · rfl

/-- A detector that clears its defect leaves the windows. -/
theorem State.sfJudge_false_windows : ((s.sfJudge l d false).lane l).windows = (s.lane l).windows := by
  have hline {b : Nat} (hb : b ≠ dLos) : ((s.undeclare l b).lane l).windows = (s.lane l).windows :=
    s.undeclare_part hb fun _ _ _ _ => rfl
  have hpath (k b : Nat) : ((s.judgePath l k b false).lane l).windows = (s.lane l).windows := by
    unfold State.judgePath
    split
    exacts [rfl, s.undeclarePath_windows]
  cases d with
  | sf => exact hline (by decide)
  | sd => exact hline (by decide)
  | sfP k => exact hpath k pSf
  | sdP k => exact hpath k pSd

theorem State.sfWindowEnd_window : ((s.sfWindowEnd l d).lane l).window (sfKey d) =
    if s.windowOver l d then noWindow else (s.lane l).window (sfKey d) := by
  rw [s.sfWindowEnd_eq]
  split
  · split
    · exact s.restart_window
    · rw [Lane.window, State.sfJudge_false_windows]
      exact s.restart_window
  · rfl

/-! ### Defects -/

/-- The detectors of a line, with their defects. -/
def lineDetectors : List (SfSd × Nat) := [(.sf, dSf), (.sd, dSd)]

/-- The detectors of path k, with their defects. -/
def pathDetectors (k : Nat) : List (SfSd × Nat) := [(.sfP k, pSf), (.sdP k, pSd)]

theorem lineDetectors_cases (h : (d, b) ∈ lineDetectors) :
    (d = .sf ∧ b = dSf) ∨ (d = .sd ∧ b = dSd) := by simpa [lineDetectors] using h

theorem pathDetectors_cases (h : (d, b) ∈ pathDetectors k) : (d = .sfP k ∧ b = pSf) ∨ (d = .sdP k ∧ b = pSd) := by
  simpa [pathDetectors] using h

theorem State.sfJudge_line (hl : l < 96) (h : (d, b) ∈ lineDetectors) (v : Bool) :
    (s.sfJudge l d v).defect l b = (v && (s.defect l b || !s.lineMask l b)) := by
  have hjudge {b : Nat} (hb : b < 11) : (if v then s.declare l b else s.undeclare l b).defect l b =
      (v && (s.defect l b || !s.lineMask l b)) := by
    cases v with
    | true => exact s.declare_defect hl hb
    | false => exact s.undeclare_clears hl hb
  obtain ⟨rfl, rfl⟩ | ⟨rfl, rfl⟩ := lineDetectors_cases h <;> exact hjudge (by decide)

theorem State.sfJudge_path (hl : l < 96) (hk : k < 768) (h : (d, b) ∈ pathDetectors k) (v : Bool) :
    (s.sfJudge l d v).pathDefect l k b = if s.scrambleOff l then s.pathDefect l k b else
      v && (s.pathDefect l k b || !s.pathMask l k b) := by
  obtain ⟨rfl, rfl⟩ | ⟨rfl, rfl⟩ := pathDetectors_cases h <;> exact s.judgePath_pathDefect hl (by omega) (by decide) v

/-- R112, R117: the line's detectors run always. -/
theorem State.sfDeclare_line (hl : l < 96) (h : (d, b) ∈ lineDetectors) :
    (s.sfDeclare l d).defect l b = (s.defect l b || (s.countReached l d && !s.lineMask l b)) := by
  have hwatched : s.sfWatched l d = true := by obtain ⟨rfl, _⟩ | ⟨rfl, _⟩ := lineDetectors_cases h <;> rfl
  rw [s.sfDeclare_eq, hwatched, Bool.and_true, apply_ite (State.defect · l b), s.sfJudge_line hl h]
  cases s.countReached l d with
  | true => rfl
  | false => exact (Bool.or_false _).symm

/-- R84, R112, R114, R117: a path's detector runs where its overhead is processed. -/
theorem State.sfDeclare_path (hl : l < 96) (hk : k < 768) (h : (d, b) ∈ pathDetectors k) :
    (s.sfDeclare l d).pathDefect l k b = (s.pathDefect l k b ||
      (s.countReached l d && !s.pohOff l k && !s.scrambleOff l && !s.pathMask l k b)) := by
  have hwatched : s.sfWatched l d = !s.pohOff l k := by obtain ⟨rfl, _⟩ | ⟨rfl, _⟩ := pathDetectors_cases h <;> rfl
  rw [s.sfDeclare_eq, hwatched, apply_ite (State.pathDefect · l k b), s.sfJudge_path hl hk h]
  cases s.countReached l d && !s.pohOff l k with
  | true => cases s.scrambleOff l with
    | true => exact (Bool.or_false _).symm
    | false => rfl
  | false => exact (Bool.or_false _).symm

theorem State.sfWindowEnd_line (hl : l < 96) (h : (d, b) ∈ lineDetectors) : (s.sfWindowEnd l d).defect l b =
    if s.windowOver l d then s.defect l b && s.countStays l d else s.defect l b := by
  have hrestart : (s.restart l d).defect l b = s.defect l b := State.modLane_objBit ..
  rw [s.sfWindowEnd_eq, apply_ite (State.defect · l b), apply_ite (State.defect · l b), State.sfJudge_line _ hl h, hrestart]
  cases s.countStays l d <;> simp

theorem State.sfWindowEnd_path (hl : l < 96) (hk : k < 768) (h : (d, b) ∈ pathDetectors k) :
    (s.sfWindowEnd l d).pathDefect l k b =
      if s.windowOver l d then s.pathDefect l k b && (s.scrambleOff l || s.countStays l d) else s.pathDefect l k b := by
  have hrestart : (s.restart l d).pathDefect l k b = s.pathDefect l k b := State.modLane_objBit ..
  have hoff : (s.restart l d).scrambleOff l = s.scrambleOff l := rfl
  rw [s.sfWindowEnd_eq, apply_ite (State.pathDefect · l k b), apply_ite (State.pathDefect · l k b),
    State.sfJudge_path _ hl hk h, hrestart, hoff]
  cases s.scrambleOff l <;> cases s.countStays l d <;> simp

end

/-! ### The commands -/

/-- Settles O3: each detector by its count, its window and what masks it; the watchers of the lane leave both. -/
theorem signalFailAndDegradeFollowTheirWindows : Obligations.SignalFailAndDegradeFollowTheirWindows := by
  unfold Obligations.SignalFailAndDegradeFollowTheirWindows
  intro t l s v hl hv
  have hwindow (w : State) (key : Nat) : ((w.laneHook l).lane l).window key = (w.lane l).window key :=
    State.laneHook_part (part := fun x => x.window key) _ l l fun _ _ _ _ => rfl
  have hunit {d : SfSd} (hd : sfSdOk d = true) : (laneUnit l && sfSdOk d) = true := by simp [laneUnit, hl, hd]
  refine ⟨fun d b h => ?line, fun k d b hk h => ?path⟩
  case line =>
    have hok : sfSdOk d = true := by obtain ⟨rfl, _⟩ | ⟨rfl, _⟩ := lineDetectors_cases h <;> rfl
    refine ⟨⟨_, onUnit_ok (hunit hok) _ _, ?_⟩, ⟨_, onUnit_ok (hunit hok) _ _, ?_⟩⟩ <;> rw [← hv]
    · exact (State.laneHook_defect _ hl b).trans (v.sfDeclare_line hl h)
    · rw [State.laneHook_defect _ hl, hwindow, v.sfWindowEnd_line hl h, v.sfWindowEnd_window]
      change if v.windowOver l d then _ else _
      split
      exacts [⟨rfl, rfl⟩, ⟨rfl, rfl⟩]
  case path =>
    have hok : sfSdOk d = true := by
      obtain ⟨rfl, _⟩ | ⟨rfl, _⟩ := pathDetectors_cases h <;> simpa [sfSdOk, pathUnit] using hk
    refine ⟨⟨_, onUnit_ok (hunit hok) _ _, ?_⟩, ⟨_, onUnit_ok (hunit hok) _ _, ?_⟩⟩ <;> rw [← hv]
    · refine (State.laneHook_pathDefect _ hl (by omega)).trans ((v.sfDeclare_path hl hk h).trans ?_)
      rw [State.pathMask, Bool.not_or, ← Bool.and_assoc]
      rfl
    · rw [State.laneHook_pathDefect _ hl (by omega), hwindow, v.sfWindowEnd_path hl hk h, v.sfWindowEnd_window]
      change if v.windowOver l d then _ else _
      split
      exacts [⟨rfl, rfl⟩, ⟨rfl, rfl⟩]

end Sys2Proof.Machine
end

section
/-! PROOFS. R103, R105, R117, R173: what a received frame or block makes of the framer, the landing frames and the block lock
of its lane. -/

namespace Sys2Proof.Machine

/-! ### Nothing for the server -/

/-- No message waits for the server. -/
structure State.NoneWaits (s : State) : Prop where
  spi : s.spiIn = []
  dcc : s.dccIn = []
  mac0 : (s.mac 0).rx = []
  mac1 : (s.mac 1).rx = []

namespace State.NoneWaits

variable {s t : State} {l : Nat}

theorem serveAll (h : s.NoneWaits) : s.serveAll = s := by
  have hmac {m : Nat} (hm : (s.mac m).rx = []) : State.serveMac m (s.mac m).rx.length s = s := by rw [hm]; rfl
  unfold State.serveAll
  dsimp only
  rw [hmac h.mac0, hmac h.mac1, h.spi]
  change State.serveDcc s.dccIn.length s = s
  rw [h.dcc]
  rfl

theorem same (h : s.NoneWaits) (k : Same (2 ^ 22 + 2 ^ 37 + 2 ^ 41) 0 s t) : t.NoneWaits := by
  have hmac (m : Nat) : t.mac m = s.mac m := by rw [State.mac, State.mac, k.macs (by decide)]
  exact ⟨(k.spiIn (by decide)).trans h.spi, (k.dccIn (by decide)).trans h.dcc, (congrArg Mac.rx (hmac 0)).trans h.mac0,
    (congrArg Mac.rx (hmac 1)).trans h.mac1⟩

theorem sawFraming (h : s.NoneWaits) (ok : Bool) (pos arrival : Nat) : (s.sawFraming l ok pos arrival).NoneWaits :=
  h.same (State.sawFraming_same l ok pos arrival (by decide) (by decide) (.refl _ _ s))

theorem laneHook (h : s.NoneWaits) : (s.laneHook l).NoneWaits :=
  h.same (State.laneHook_same l (by decide) (by decide) (.refl _ _ s))

theorem lineEcho (h : s.NoneWaits) (prior : Nat) (line : List Nat) : (s.lineEcho l prior line).NoneWaits :=
  h.same (State.lineEcho_same l prior line (by decide) (.refl _ _ s))

theorem ttfOut (h : s.NoneWaits) (rx : TtfSeen) : (s.ttfOut l rx).NoneWaits :=
  h.same (State.ttfOut_same l rx (by decide) (by decide) (.refl _ _ s))

theorem sdhOut (h : s.NoneWaits) : (s.sdhOut l).NoneWaits :=
  h.same (State.sdhOut_same l (by decide) (by decide) (.refl _ _ s))

end State.NoneWaits

section
variable {α : Type} {part : Lane → α} (s : State) {t : State} {l : Nat}

/-! ### Parts of a lane -/

/-- What a change of the lane leaves of it. -/
theorem State.modLane_part {f : Lane → Lane} {r : α} (ht : part (t.lane l) = r)
    (hf : part (f (t.lane l)) = part (t.lane l)) : part ((t.modLane l f).lane l) = r := by
  rw [State.lane_modLane_self, hf, ht]

theorem State.lineEcho_part (prior : Nat) (line : List Nat)
    (hpart : ∀ x prev last tx fin sdh,
      part { x with prevTx := prev, lastTx := last, txPrior := tx, txEnd := fin, txSdh := sdh } = part x) :
    part ((s.lineEcho l prior line).lane l) = part (s.lane l) := by
  unfold State.lineEcho
  split
  · rfl
  · exact State.modLane_part rfl (hpart _ _ _ _ _ _)

/-- Whether the framer is in frame, and the landing frames. -/
def Lane.framer (x : Lane) : Bool × List Landing := (x.inFrame, x.landings)

theorem State.laneHook_framer : ((s.laneHook l).lane l).framer = (s.lane l).framer := s.laneHook_part l l fun _ _ _ _ => rfl

theorem State.lineEcho_framer (prior : Nat) (line : List Nat) :
    ((s.lineEcho l prior line).lane l).framer = (s.lane l).framer := s.lineEcho_part prior line fun _ _ _ _ _ _ => rfl

/-! ### The framing word (R103) -/

/-- A defect declared out of frame leaves the lane there. -/
theorem State.declare_framer (hl : l < 96) (b : Nat) (h : (s.lane l).inFrame = false) :
    ((s.declare l b).lane l).framer = (false, (s.lane l).landings) :=
  congrArg₂ Prod.mk (s.declare_outOfFrame hl b h) (s.declare_landings hl b)

theorem State.goOof_framer (hl : l < 96) (w : Tick) : ((s.goOof l w).lane l).framer = (false, (s.lane l).landings) := by
  unfold State.goOof
  have hset : (s.setLane l { (s.lane l).outOfFrame w with oofSince := some w }).lane l =
      { (s.lane l).outOfFrame w with oofSince := some w } := State.lane_setLane_self s l _
  refine (congrArg Lane.framer (State.dropS1_lane _ _)).trans ((State.declare_framer _ hl dOof ?_).trans ?_) <;> rw [hset] <;>
    rfl

theorem State.goInFrame_framer (pos : Nat) (w : Tick) :
    ((s.goInFrame l pos w).lane l).framer = (true, (s.lane l).landings) := by
  unfold State.goInFrame
  refine State.modLane_part ?_ rfl
  rw [State.undeclare_part _ (part := Lane.framer) (by decide) fun _ _ _ _ => rfl, State.lane_setLane_self]
  rfl

/-- R103: a framer in frame leaves it at its fourth bad word in place in a row; one that searches enters it where a good word
meets its candidate. -/
def Lane.framesAfter (x : Lane) (ok : Bool) (pos : Nat) : Bool :=
  if x.inFrame then pos != x.framePos || ok || decide (x.badWords ≠ 3) else ok && x.candidate.any (·.1 == pos)

theorem State.frameWord_framer (hl : l < 96) (ok : Bool) (pos : Nat) (w : Tick) :
    ((s.frameWord l ok pos w).lane l).framer =
      (if s.defect l dLos then (s.lane l).inFrame else (s.lane l).framesAfter ok pos, (s.lane l).landings) := by
  unfold State.frameWord Lane.framesAfter
  dsimp only
  split
  · rfl
  · split
    · next hin =>
      split
      · next hpos => rw [bne_iff_ne.mpr hpos, Bool.true_or, Bool.true_or, Lane.framer, hin]
      · next hpos =>
        rw [Decidable.not_not.mp hpos, bne_self_eq_false, Bool.false_or]
        split
        · next hok => rw [State.lane_setLane_self, hok, Bool.true_or, Lane.framer, hin]
        · next hok =>
          rw [Bool.eq_false_of_not_eq_true hok, Bool.false_or]
          split
          · next hbad => rw [s.goOof_framer hl, hbad]; rfl
          · next hbad => rw [State.lane_setLane_self, decide_eq_true hbad, Lane.framer, hin]
    · next hin =>
      have hfresh (c : Option (Nat × Tick)) : ((s.setLane l { s.lane l with candidate := c }).lane l).framer =
          (false, (s.lane l).landings) := by
        rw [State.lane_setLane_self, Lane.framer, Bool.eq_false_of_not_eq_true hin]
      split
      · next hnone => rw [hfresh, hnone, Option.any_none, Bool.and_false]
      · next c hsome =>
        rw [hsome, Option.any_some]
        split
        · next hpos =>
          rw [hpos, beq_self_eq_true, Bool.and_true]
          split
          · next hok => rw [s.goInFrame_framer, hok]
          · next hok => rw [hfresh, Bool.eq_false_of_not_eq_true hok]
        · next hpos =>
          rw [beq_false_of_ne (Ne.symm hpos), Bool.and_false]
          split
          · rw [Lane.framer, Bool.eq_false_of_not_eq_true hin]
          · exact hfresh _

theorem State.sawFraming_framer (hl : l < 96) (ok : Bool) (pos : Nat) (arrival : Tick) :
    ((s.sawFraming l ok pos arrival).lane l).framer =
      (if s.defect l dLos then (s.lane l).inFrame else (s.lane l).framesAfter ok pos, (s.lane l).landings) := by
  have hwatch (w : State) (c : Nat) (a : Tick) : (w.candWatchAt c a).lane l = w.lane l :=
    w.lane_of_lanes l ((State.candWatchAt_same (K := 2 ^ 12) (B := 0) c a (by decide) (by decide) (.refl _ _ w)).lanes
      (by decide))
  unfold State.sawFraming
  dsimp only
  split
  · rw [hwatch]
    exact s.frameWord_framer hl ok pos _
  · exact s.frameWord_framer hl ok pos _

/-! ### A frame out of frame -/

theorem State.chanStop_lane (m c : Nat) : (s.chanStop m c).lane l = s.lane l :=
  s.lane_of_lanes l ((State.chanStop_same (K := 2 ^ 12) (B := 0) m c (by decide) (by decide) (.refl _ _ s)).lanes (by decide))

theorem State.apsBreak_lane (m : Nat) : (s.apsBreak m).lane l = s.lane l :=
  s.lane_of_lanes l ((State.apsBreak_same (K := 2 ^ 12) (B := 0) m (by decide) (.refl _ _ s)).lanes (by decide))

theorem State.excludeSample_framer (n : Nat) : ((s.excludeSample l n).lane l).framer = (s.lane l).framer :=
  State.modLane_part rfl rfl

theorem State.reseedLane_framer : ((s.reseedLane l).lane l).framer = (s.lane l).framer := by
  have hpublish (w : State) : (w.publishLedger l).lane l = w.lane l :=
    w.lane_of_lanes l ((State.publishLedger_same (K := 2 ^ 12) (B := 0) l (by decide) (by decide) (.refl _ _ w)).lanes
      (by decide))
  unfold State.reseedLane
  split
  · rw [hpublish, State.raise_lane, State.bumpLive_lane, State.setLedger]
    exact State.modLane_part rfl rfl
  · rfl

/-- The ledger of a frame that was not got: at most a reseed that was asked for, and a sample excluded. -/
theorem State.ledgerFrame_notGot {f : LedgerIn} (h : f.got = false) : (s.ledgerFrame l f).2 =
    (if (s.ledger l).reseedAsked then s.reseedLane l else s).excludeSample l := by
  have hjudge (w : State) : w.judgeArrival l f = (false, w) := if_pos (by rw [h, Bool.not_false, Bool.true_or])
  unfold State.ledgerFrame
  extract_lets s0 j s1 kept echoBad
  exact (if_pos (by rw [h, Bool.not_false])).trans (congrArg (fun p => p.2.excludeSample l) (hjudge s0))

theorem Lane.breakRun_framer (x : Lane) (k : Nat) : (x.breakRun k).framer = x.framer := rfl

theorem State.fieldBreak_framer : ((s.fieldBreak l).lane l).framer = (s.lane l).framer := by
  rw [State.fieldBreak, State.lane_modLane_self]
  simp only [Lane.breakRun_framer]

theorem State.ttfOut_framer (rx : TtfSeen) : ((s.ttfOut l rx).lane l).framer = (s.lane l).framer := by
  unfold State.ttfOut
  dsimp only
  have hbreak : ((((s.fieldBreak l).apsBreak l).chanStop l 2).lane l).framer = (s.lane l).framer := by
    rw [State.chanStop_lane, State.apsBreak_lane, State.fieldBreak_framer]
  rw [State.ledgerFrame_notGot _ rfl, State.excludeSample_framer]
  split
  exacts [(State.reseedLane_framer _).trans hbreak, hbreak]

theorem State.sdhOut_framer : ((s.sdhOut l).lane l).framer = (s.lane l).framer := by
  unfold State.sdhOut
  dsimp only
  rw [State.foldl_lane fun w c => w.chanStop_lane l c]
  refine State.modLane_part ?_ rfl
  rw [State.apsBreak_lane]
  split
  exacts [s.excludeSample_framer 1, rfl]

/-! ### Frames received -/

section
variable {s} {w : State} {line : List Nat} {prior pos : Nat}

/-- A frame in frame stands where the framer has its frames. -/
theorem State.framedAt_outOfFrame (h : (w.lane l).inFrame = false) : w.framedAt l pos = false := by
  rw [State.framedAt, h, Bool.false_and]

theorem framing_off {kind framing : Bool} (h : kind = false ∨ framing = false) : (!kind || !framing) = true := by
  rcases h with rfl | rfl
  exacts [rfl, Bool.or_true _]

theorem framing_on {kind framing : Bool} (hkind : kind = true) (hframing : framing = true) :
    ¬ (!kind || !framing) = true := by
  rw [hkind, hframing]
  exact Bool.false_ne_true

theorem State.ttfReceive_off {rx : TtfRx} (h : s.isTtf l = false ∨ s.framing l rx.arrival = false) :
    s.ttfReceive l rx = s := if_pos (framing_off h)

theorem State.ttfReceive_none {rx : TtfRx} (hkind : s.isTtf l = true) (hframing : s.framing l rx.arrival = true)
    (h : s.rxSymbols l rx.line rx.prior = none) :
    s.ttfReceive l rx = (s.sawFraming l false rx.pos rx.arrival).laneHook l := by
  rw [State.ttfReceive, if_neg (framing_on hkind hframing), h]

theorem State.ttfReceive_some {rx : TtfRx} (hkind : s.isTtf l = true) (hframing : s.framing l rx.arrival = true)
    (h : s.rxSymbols l rx.line rx.prior = some (line, prior)) : s.ttfReceive l rx = s.ttfTake l (ttfDecode (s.rate l)
      (s.on F.LANE_CONFIG_FEC_DETECT_ONLY l) (s.lane l).rxTtf rx (s.rxBits l prior line)) := by
  rw [State.ttfReceive, if_neg (framing_on hkind hframing), h]

theorem State.sdhReceive_off {rx : SdhRx} (h : s.isSdh l = false ∨ s.framing l rx.arrival = false) :
    s.sdhReceive l rx = s := if_pos (framing_off h)

theorem State.sdhReceive_none {rx : SdhRx} (hkind : s.isSdh l = true) (hframing : s.framing l rx.arrival = true)
    (h : s.rxSymbols l rx.line 0 = none) :
    s.sdhReceive l rx = (s.sawFraming l false rx.pos rx.arrival).laneHook l := by
  rw [State.sdhReceive, if_neg (framing_on hkind hframing), h]

theorem State.sdhReceive_some {rx : SdhRx} (hkind : s.isSdh l = true) (hframing : s.framing l rx.arrival = true)
    (h : s.rxSymbols l rx.line 0 = some (line, prior)) : s.sdhReceive l rx = s.sdhTake l (sdhDecode (s.rate l)
      (s.on F.SDH_CONFIG_SCRAMBLE_OFF l) (s.lane l).rxSdh rx (s.rxBits l prior line)) := by
  rw [State.sdhReceive, if_neg (framing_on hkind hframing), h]

end

/-! ### Block lock (R105) -/

/-- Block lock and the invalid headers counted. -/
def Lane.lock (x : Lane) : Bool × Nat := (x.blockLock, x.hbCount)

theorem State.putLanding_lock (x : Landing) : ((s.putLanding l x).lane l).lock = (s.lane l).lock := by
  unfold State.putLanding
  dsimp only
  split <;> exact State.modLane_part rfl rfl

theorem State.noteLanded_lock (x : Landing) : ((s.noteLanded l x).lane l).lock = (s.lane l).lock := by
  have hmoving (w : State) : w.noteMoving.lane l = w.lane l :=
    w.lane_of_lanes l ((State.noteMoving_same (K := 2 ^ 12) (B := 0) (by decide) (by decide) (.refl _ _ w)).lanes (by decide))
  unfold State.noteLanded State.rxDone State.setMoving
  split
  · split
    · rw [hmoving]
      exact State.modLane_part rfl rfl
    · rfl
  · rfl

theorem State.land_lock (x : Landing) : ((s.land l x).lane l).lock = (s.lane l).lock := by
  have hcheck (w : State) : (w.checkSlot l x).lane l = w.lane l :=
    w.lane_of_lanes l ((State.checkSlot_same (K := 2 ^ 12) (B := 0) l x (by decide) (by decide) (.refl _ _ w)).lanes
      (by decide))
  rw [State.land, State.noteLanded_lock, hcheck, State.putLanding_lock]

theorem State.mapUpTo_lock (fn : Nat) : ((s.mapUpTo l fn).lane l).lock = (s.lane l).lock := by
  unfold State.mapUpTo
  split
  · split
    · unfold State.closeMapping
      dsimp only
      rw [State.land_lock, State.bumpLive_lane, State.bumpLive_lane, State.lane_setLane_self]
      rfl
    · rfl
  · exact State.modLane_part rfl rfl

theorem State.mapBlock_lock (sync : BitVec 2) (payload : BitVec 64) :
    ((s.mapBlock l sync payload).lane l).lock = (s.lane l).lock := by
  unfold State.mapBlock
  extract_lets s0 s1 x lost bad first s2
  have h1 : (s1.lane l).lock = (s.lane l).lock := State.modLane_part (s.mapUpTo_lock _) rfl
  have h2 : (s2.lane l).lock = (s.lane l).lock := (congrArg Lane.lock (State.lane_setLane_self _ _ _)).trans h1
  split
  · rfl
  · split
    exacts [(congrArg Lane.lock (State.bumpLive_lane ..)).trans h2, h2]

/-- R105: block lock after a header: lost at 16 invalid ones of a window, gained at 64 valid ones in a row. -/
def Lane.lockAfter (x : Lane) (valid : Bool) : Bool :=
  if x.blockLock then decide (x.winBad + boolBit (!valid) ≠ 16) else valid && decide (x.goodHdrs = 63)

theorem State.syncHeader_lock (valid : Bool) :
    ((s.syncHeader l valid).lane l).lock = ((s.lane l).lockAfter valid, (s.lane l).hbCount) := by
  have hset (b : Bool) : ((s.setBlockLock l b).lane l).lock = (b, (s.lane l).hbCount) := by
    rw [State.setBlockLock, State.lane_modLane_self]
    rfl
  have hbad : (if valid then 0 else 1) = boolBit (!valid) := by cases valid <;> rfl
  unfold State.syncHeader Lane.lockAfter
  dsimp only
  split
  · next hlock =>
    rw [hbad]
    split
    · next h => rw [hset, h]; rfl
    · next h =>
      rw [decide_eq_true h]
      split <;> rw [State.lane_setLane_self, Lane.lock, hlock]
  · next hlock =>
    have hkept (good : Nat) : ((s.setLane l { s.lane l with goodHdrs := good }).lane l).lock =
        (false, (s.lane l).hbCount) := by
      rw [State.lane_setLane_self, Lane.lock, Bool.eq_false_of_not_eq_true hlock]
    split
    · next hvalid =>
      rw [hvalid, Bool.true_and]
      split
      · next h => rw [hset, h]; rfl
      · next h => rw [hkept, decide_eq_false h]
    · next hvalid => rw [hkept, Bool.eq_false_of_not_eq_true hvalid, Bool.false_and]

/-- The header of a block that is taken: R105's lock, and its count if it is invalid. -/
theorem State.blockTake_lock (y : BitVec 2 × BitVec 64) {valid : Bool} (hvalid : valid = (y.1 == 1#2 || y.1 == 2#2)) :
    ((s.blockTake l y).lane l).lock =
      ((s.lane l).lockAfter valid, (s.lane l).hbCount + boolBit (!valid)) := by
  unfold State.blockTake
  dsimp only
  rw [← hvalid, State.laneHook_part (part := Lane.lock) _ l l fun _ _ _ _ => rfl, State.mapBlock_lock, State.syncHeader_lock]
  cases valid with
  | true => rfl
  | false =>
    rw [if_neg Bool.false_ne_true, State.lane_modLane_self]
    rfl

theorem State.loopTaken_lockAfter (valid : Bool) : ((s.loopTaken l).lane l).lockAfter valid = (s.lane l).lockAfter valid ∧
    ((s.loopTaken l).lane l).hbCount = (s.lane l).hbCount := by
  unfold State.loopTaken
  split
  · rw [State.lane_modLane_self]
    exact ⟨rfl, rfl⟩
  · exact ⟨rfl, rfl⟩

/-- Whether a client block is taken (R41, R117, R136). -/
def State.takesBlocks (s : State) (l : Nat) : Bool :=
  s.receives l && s.isClient l && !s.defect l dLos && !s.heldHalted 2 l

theorem State.blockReceive_eq (sync : BitVec 2) (payload : BitVec 64) : s.blockReceive l sync payload =
    if s.takesBlocks l then
      match s.rxBlock l (sync, payload) with
      | some x => (s.loopTaken l).blockTake l (wireBlock (s.on F.LANE_CONFIG_RX_INVERT l) x)
      | none => s
    else s := by
  unfold State.blockReceive
  rw [← ite_not]
  refine if_congr ?_ rfl rfl
  simp [State.takesBlocks]

end

/-! ### The commands -/

section
variable {s u w framed out : State} {l prior pos : Nat} {line : List Nat} {e : Host.Outcome State Fault Refusal}

/-- A frame that leaves the server nothing is echoed and done with. -/
theorem State.NoneWaits.received (hw : w.NoneWaits) (hexec : e = .next (u.lineEcho l prior line).serveAll) (h : u = w) :
    e = .next (w.lineEcho l prior line) := by
  rw [hexec, h, (hw.lineEcho prior line).serveAll]

/-- What becomes of a frame by where the framer of its lane stands after the framing word, in state w: it is taken in its
place, lost elsewhere, and out of frame not landed. -/
theorem received_by_framer {lds : List Landing} {b : Bool} (hexec : e = .next (u.lineEcho l prior line).serveAll)
    (htake : u = if w.framedAt l pos then framed else if (w.lane l).inFrame then w else out.laneHook l)
    (hwaits : w.NoneWaits) (hwaitsOut : out.NoneWaits) (hframer : (w.lane l).framer = (b, lds))
    (hout : (out.lane l).framer = (w.lane l).framer) :
    (w.framedAt l pos = true → e = .next (framed.lineEcho l prior line).serveAll) ∧
    (w.framedAt l pos = false → (w.lane l).inFrame = true → e = .next (w.lineEcho l prior line)) ∧
    ((w.lane l).inFrame = false → ∃ u, e = .next u ∧ (u.lane l).inFrame = false ∧ (u.lane l).landings = lds) := by
  have hkept : (((out.laneHook l).lineEcho l prior line).lane l).framer = (w.lane l).framer :=
    ((State.lineEcho_framer _ prior line).trans (State.laneHook_framer out)).trans hout
  refine ⟨fun hat => ?framed, fun hat hin => hwaits.received hexec ?elsewhere,
    fun hno => ⟨_, (hwaitsOut.laneHook (l := l)).received hexec ?out, (congrArg Prod.fst hkept).trans hno,
      (congrArg Prod.snd hkept).trans (congrArg Prod.snd hframer)⟩⟩
  case framed => rw [hexec, htake, if_pos hat]
  case elsewhere => rw [htake, if_neg (by rw [hat]; decide), if_pos hin]
  case out => rw [htake, if_neg (by rw [State.framedAt_outOfFrame hno]; decide), if_neg (by rw [hno]; decide)]

end

/-- Settles O40: a received frame by whether its lane frames, then by where its framer stands after its word; where the frame
goes to no landing frame, no message waits for the server. -/
theorem framesAreReceived : Obligations.FramesAreReceived := by
  unfold Obligations.FramesAreReceived
  intro t l s v hl hv hspi hdcc hmac0 hmac1
  have hwaits : v.NoneWaits := ⟨hspi, hdcc, hmac0, hmac1⟩
  have hunit : laneUnit l = true := by simpa [laneUnit] using hl
  refine ⟨fun rx hrx => ?ttf, fun rx hrx => ?sdh, fun sync payload => ?block⟩
  case ttf =>
    have hexec : exec (.ttfFrameReceive t l rx) s =
        .next ((v.ttfReceive l rx).lineEcho l rx.prior rx.line).serveAll := by
      rw [hv]
      exact onUnit_ok (by rw [hunit, hrx]; rfl) _ _
    refine ⟨fun hoff => hwaits.received hexec (State.ttfReceive_off hoff), fun hkind hframing =>
      ⟨fun hnone => (hwaits.sawFraming _ _ _).laneHook.received hexec (State.ttfReceive_none hkind hframing hnone), ?_⟩⟩
    rintro line prior f w hsome hf rfl
    have htake := (State.ttfReceive_some hkind hframing hsome).trans (congrArg (v.ttfTake l) hf.symm)
    have hframer := v.sawFraming_framer hl f.fawOk f.pos f.arrival
    have hframed := hwaits.sawFraming (l := l) f.fawOk f.pos f.arrival
    exact ⟨congrArg Prod.fst hframer,
      received_by_framer hexec htake hframed (hframed.ttfOut f) hframer (State.ttfOut_framer _ f)⟩
  case sdh =>
    have hexec : exec (.sdhFrameReceive t l rx) s = .next ((v.sdhReceive l rx).lineEcho l 0 rx.line).serveAll := by
      rw [hv]
      exact onUnit_ok (by rw [hunit, hrx]; rfl) _ _
    refine ⟨fun hoff => hwaits.received hexec (State.sdhReceive_off hoff), fun hkind hframing =>
      ⟨fun hnone => (hwaits.sawFraming _ _ _).laneHook.received hexec (State.sdhReceive_none hkind hframing hnone), ?_⟩⟩
    rintro line prior f w hsome hf rfl
    have htake := (State.sdhReceive_some hkind hframing hsome).trans (congrArg (v.sdhTake l) hf.symm)
    have hframed := hwaits.sawFraming (l := l) f.fawOk f.pos f.arrival
    exact received_by_framer hexec htake hframed hframed.sdhOut (v.sawFraming_framer hl _ _ _) (State.sdhOut_framer _)
  case block =>
    have hreceived {w : State} (h : v.blockReceive l sync payload = w) :
        exec (.clientBlockReceive t l sync payload) s = .next (w.lineEcho l 0 (blockLine sync payload)) := by
      rw [← h, hv]
      exact onUnit_ok hunit _ _
    refine ⟨fun hoff => hreceived ?off, fun x y valid hreceives hclient hlos hheld hsome hy hvalid => ?taken⟩
    case off =>
      rw [v.blockReceive_eq]
      split
      · next htakes =>
        have hnone : v.rxBlock l (sync, payload) = none := by simp_all [State.takesBlocks]
        rw [hnone]
      · rfl
    case taken =>
      have htakes : v.takesBlocks l = true := by rw [State.takesBlocks, hreceives, hclient, hlos, hheld]; rfl
      have htaken : v.blockReceive l sync payload = (v.loopTaken l).blockTake l y := by
        rw [v.blockReceive_eq, if_pos htakes, hsome, hy]
      have hlock := (v.loopTaken l).blockTake_lock (l := l) y hvalid
      obtain ⟨hafter, hcount⟩ := v.loopTaken_lockAfter (l := l) valid
      rw [hafter, hcount, ← State.lineEcho_part (part := Lane.lock) _ 0 (blockLine sync payload) fun _ _ _ _ _ _ => rfl]
        at hlock
      exact ⟨_, hreceived htaken, congrArg Prod.fst hlock, congrArg Prod.snd hlock⟩

end Sys2Proof.Machine
end

section
/-! PROOFS. R157: what the end of a page copy makes of the two pages of the connection memory. -/

namespace Sys2Proof.Machine

/-! ### One page and the other -/

section
variable (x : Xc)

theorem Xc.entryOn_setOn (b c : Bool) (g h : Nat) (e : Entry) :
    (x.setOn b g e).entryOn c h = if c = b ∧ h = g then e else x.entryOn c h := by
  by_cases hg : h = g
  · subst hg
    cases b <;> cases c <;> simp [Xc.setOn, Xc.entryOn, Xc.page]
  · cases b <;> cases c <;> simp [Xc.setOn, Xc.entryOn, Xc.page, hg]

theorem Xc.setOn_force (b : Bool) (g : Nat) (e : Entry) : (x.setOn b g e).force = x.force := by
  cases b <;> rfl

/-- R157: the active entry of output slot g goes into the old page. -/
def Xc.copySlot (x : Xc) (g : Nat) : Xc := x.setOn (!x.force) g (x.active g)

/-- R157: the active entries of the output slots gs go into the old page. -/
def Xc.copySlots (x : Xc) (gs : List Nat) : Xc := gs.foldl Xc.copySlot x

theorem Xc.copySlot_force (g : Nat) : (x.copySlot g).force = x.force := x.setOn_force _ _ _

theorem Xc.copySlot_active (g h : Nat) : (x.copySlot g).active h = x.active h := by
  rw [Xc.active, Xc.copySlot_force, Xc.copySlot, Xc.entryOn_setOn, if_neg (by simp)]
  rfl

theorem Xc.copySlot_old (g h : Nat) :
    (x.copySlot g).entryOn (!x.force) h = if h = g then x.active h else x.entryOn (!x.force) h := by
  rw [Xc.copySlot, Xc.entryOn_setOn]
  by_cases hg : h = g <;> simp [hg]

theorem Xc.copySlots_force (gs : List Nat) : (x.copySlots gs).force = x.force :=
  foldl_part (fun y g _ => y.copySlot_force g) x

theorem Xc.copySlots_active (gs : List Nat) (h : Nat) : (x.copySlots gs).active h = x.active h :=
  foldl_part (part := fun y : Xc => y.active h) (fun y g _ => y.copySlot_active g h) x

theorem Xc.copySlots_old (gs : List Nat) (h : Nat) :
    (x.copySlots gs).entryOn (!x.force) h = if h ∈ gs then x.active h else x.entryOn (!x.force) h := by
  induction gs generalizing x with
  | nil => rfl
  | cons g gs ih =>
    have hrest := ih (x.copySlot g)
    rw [Xc.copySlot_force, Xc.copySlot_active, Xc.copySlot_old] at hrest
    refine hrest.trans ?_
    by_cases hgs : h ∈ gs <;> by_cases hg : h = g <;> simp [hgs, hg]

end

/-! ### The copy completes -/

section
variable (s : State) {gs : List Nat}

/-- The connection memory once the copy of the output slots gs is over. -/
def Xc.copied (x : Xc) (gs : List Nat) : Xc :=
  { x.copySlots gs with
    copy := none, stage := .free, leaseEnd := none, mark := (x.copySlots gs).mark || false, badStaged := [] }

theorem State.copyPage_xc (h : s.xc.copy = some gs) : s.copyPage.xc = s.xc.copied gs := by
  unfold State.copyPage
  rw [h]
  rfl

theorem State.finishCopy_xc (h : s.xc.copy = some gs) : s.finishCopy.xc = s.xc.copied gs := by
  have hnote (fn : Nat) : (s.noteSwitch fn).xc = s.xc :=
    (State.noteSwitch_same (K := 2 ^ 13) (B := 0) fn (by decide) (by decide) (.refl _ _ s)).xc (by decide)
  rw [State.finishCopy, State.copyPage_xc _ ((congrArg Xc.copy (hnote _)).trans h), hnote]

theorem State.copyComplete_none (h : s.xc.copy = none ∨ s.switchFilled = false) : s.copyComplete = s := by
  rw [State.copyComplete, if_neg]
  rcases h with h | h <;> simp [h]

theorem State.copyComplete_some (h : s.xc.copy = some gs) (hfilled : s.switchFilled = true) :
    s.copyComplete.xc = s.xc.copied gs := by
  rw [State.copyComplete, if_pos (by simp [h, hfilled]), s.finishCopy_xc h]

end

end Sys2Proof.Machine
end

section
/-! PROOFS. R169, R335: a transaction that writes one object of the device, TEST_BYTE. -/

namespace Sys2Proof.Machine

/-! ### The committed value -/

/-- A field whose bits all take committed values reads as the value written. -/
theorem State.fld_mergeVal (s : State) {f : Fld} {i : Nat} {r : ObjRow} (v : Val) (hrow : findRow (f.obj i) = some r)
    (hmask : ∀ j < f.hi + 1 - f.lo, r.mask.testBit (f.lo + j) = true) (hh : f.hi < 96) :
    (s.mergeVal (f.obj i) v).fld f i = bits v f.hi f.lo := by
  rw [State.fld, State.mergeVal, hrow]
  change bits ((s.setVal (f.obj i) _).val (f.obj i)) f.hi f.lo = _
  rw [State.val_setVal_self]
  refine Nat.eq_of_testBit_eq fun j => ?_
  rw [bits_testBit, bits_testBit]
  by_cases hj : j < f.hi + 1 - f.lo
  · have htaken : (BitVec.ofNat 96 r.mask).getLsbD (f.lo + j) = true := by
      rw [BitVec.getLsbD_ofNat, hmask j hj, decide_eq_true (by omega)]
      rfl
    rw [BitVec.getLsbD_or, BitVec.getLsbD_and, BitVec.getLsbD_and, BitVec.getLsbD_not, htaken]
    simp
  · simp [hj]

theorem State.mergeVal_val_ne (s : State) {o p : Nat} (h : p ≠ o) (v : Val) : (s.mergeVal o v).val p = s.val p := by
  unfold State.mergeVal
  split
  · exact s.val_setVal_ne h _
  · rfl

theorem findRow_testByte : (findRow O.TEST_BYTE).map (·.mask) = some 0xFF := by decide +kernel

theorem State.mergeVal_testByte (s : State) (x : Nat) :
    (s.mergeVal O.TEST_BYTE (BitVec.ofNat 96 x)).fld F.TEST_BYTE_BYTE = x % 256 := by
  obtain ⟨r, hrow, hmask⟩ := Option.map_eq_some_iff.mp findRow_testByte
  refine (s.fld_mergeVal (f := F.TEST_BYTE_BYTE) (i := 0) _ hrow ?_ (by decide)).trans ?_
  · rw [hmask]
    decide
  · rw [bits, BitVec.toNat_ofNat]
    change x % 2 ^ 96 / 2 ^ 0 % 2 ^ 8 = x % 256
    omega

/-! ### What a transaction that writes no mode, partition or lane leaves -/

theorem foldl_eq_self {σ β : Type} {f : σ → β → σ} {s : σ} {xs : List β} (h : ∀ x ∈ xs, f s x = s) :
    xs.foldl f s = s := by
  induction xs with
  | nil => rfl
  | cons x xs ih =>
    rw [List.foldl_cons, h x List.mem_cons_self]
    exact ih fun y hy => h y (List.mem_cons_of_mem x hy)

section
variable {s old : State}

theorem State.modeSteps_eq_self (h : ∀ k < 6, s.objBit O.MODES_ACTIVE k = s.modeBit k) : s.modeSteps = s :=
  foldl_eq_self fun k hk => if_pos (h k (by revert k; decide))

theorem State.partEnable_of_val {p : Nat} (hp : p ∈ [1, 2, 3, 4, 5, 6, 7]) (h : ∀ o < 0x02000000, s.val o = old.val o) :
    s.on F.PART_ENABLE_ENABLE p = old.on F.PART_ENABLE_ENABLE p := by
  have hlt : p < 8 := by revert p; decide
  refine State.on_of_val (h _ ?_)
  unfold Fld.obj objAt F.PART_ENABLE_ENABLE
  dsimp only
  omega

theorem State.laneOwner_of_val {l : Nat} (hl : l < 96) (h : ∀ o < 0x02000000, s.val o = old.val o) :
    s.laneOwner l = old.laneOwner l := by
  have hholds (p : Nat) (hp : p ∈ [1, 2, 3, 4, 5, 6, 7]) : s.partHolds p l = old.partHolds p l := by
    have hlt : p < 8 := by revert p; decide
    rw [State.partHolds, State.partHolds, State.partEnable_of_val hp h, h (objAt _ _) ?_]
    unfold objAt O.PART_LANES_0
    omega
  unfold State.laneOwner State.partitioned
  rw [State.on_of_val (h (F.MODES_ACTIVE_PARTITIONED.obj 0) (by decide)), List.find?_congr hholds]

theorem State.partSteps_eq_self (h : ∀ o < 0x02000000, s.val o = old.val o) : s.partSteps old = s := by
  have hdisabled : [1, 2, 3, 4, 5, 6, 7].foldl (fun s p => s.partDisabled old p) s = s := by
    refine foldl_eq_self fun p hp => ?_
    rw [State.partDisabled, if_neg (by simp [State.partEnable_of_val hp h])]
  rw [State.partSteps, hdisabled]
  exact foldl_eq_self fun l hl => if_pos (State.laneOwner_of_val (List.mem_range.mp hl) h).symm

theorem touched_eq_nil {ws : List Wr} (areas : List Nat) (h : ∀ w ∈ ws, objLane w.o = none) : touched ws areas = [] := by
  rw [touched, List.filter_eq_nil_iff]
  intro l _
  simp only [List.any_eq_true, not_exists, not_and]
  intro w hw
  simp [h w hw]

theorem State.putAll_single (s : State) (p : Nat → Bool) (o : Nat) (v : Val) (hentry : isEntryObj o = false) :
    s.putAll [⟨o, none, v⟩] p = if p o && !s.noElement o then s.mergeVal o v else s := by
  rw [State.putAll, List.foldl_cons, List.foldl_nil, isEntryWr]
  cases p o <;> cases s.noElement o <;> simp [hentry]

end

/-! ### The write of TEST_BYTE -/

/-- The writes of a transaction of TEST_BYTE alone. -/
abbrev testByteWrs (x : Val) : List Wr := [⟨O.TEST_BYTE, none, x⟩]

section
variable (s old : State) (x : Val)

theorem State.noElement_testByte : s.noElement O.TEST_BYTE = false := by
  have hpath : pathElem O.TEST_BYTE = none := by decide
  have hprot : protElem O.TEST_BYTE = none := by decide
  rw [State.noElement, hpath, hprot]
  rfl

theorem fieldBase_testByte : fieldBase O.TEST_BYTE = O.TEST_BYTE := by decide +kernel

theorem State.putWrites_testByte (h : ∀ k < 6, s.objBit O.MODES_ACTIVE k = s.modeBit k) :
    s.putWrites (testByteWrs x) = s.mergeVal O.TEST_BYTE x := by
  have hput (t : State) (p : Nat → Bool) :
      t.putAll (testByteWrs x) p = if p O.TEST_BYTE then t.mergeVal O.TEST_BYTE x else t := by
    rw [t.putAll_single p _ _ (by decide), t.noElement_testByte]
    simp
  have hmodes : (O.TEST_BYTE == O.MODES) = false := by decide
  have harea : objArea O.TEST_BYTE = 7 := by decide
  have hdesc : isDescObj O.TEST_BYTE = false := by decide
  rw [State.putWrites]
  simp only [hput, hmodes, harea, hdesc]
  simp [State.modeSteps_eq_self h]

theorem State.laneObjChange_testByte : s.laneObjChange old O.TEST_BYTE = s := by
  rw [State.laneObjChange, fieldBase_testByte]
  rfl

theorem State.unitObjChange_testByte (fn : Nat) : s.unitObjChange old O.TEST_BYTE fn = s := by
  rw [State.unitObjChange, State.chipObjChange, fieldBase_testByte]
  rfl

theorem State.written_testByte : s.written ⟨O.TEST_BYTE, none, x⟩ = s := by
  rw [State.written, fieldBase_testByte]
  rfl

/-- What follows the write: outputs that are not aligned read so. -/
theorem State.followWrites_testByte (fn : Nat) (h : ∀ o ≠ O.TEST_BYTE, s.val o = old.val o) :
    s.followWrites old (testByteWrs x) fn = (List.range 8).foldl (fun s n => s.outChange old n fn) s := by
  have hchanged : ∀ o ∈ s.changedObjs old (testByteWrs x), o = O.TEST_BYTE := by
    intro o ho
    have hwritten := (List.mem_filter.mp ho).1
    rw [List.mem_eraseDups, List.mem_map] at hwritten
    obtain ⟨w, hw, rfl⟩ := hwritten
    rw [List.mem_singleton.mp (List.mem_filter.mp hw).1]
  have hbays : (bays.filter fun b => (s.changedObjs old (testByteWrs x)).contains (objAt O.BAY_POWER b)) = [] := by
    rw [List.filter_eq_nil_iff]
    intro b hb hin
    have hlt : b < 12 := List.mem_range.mp hb
    have heq := hchanged _ (by simpa using hin)
    unfold objAt O.BAY_POWER O.TEST_BYTE at heq
    omega
  have hlanes (areas : List Nat) : touched (testByteWrs x) areas = [] :=
    touched_eq_nil areas (by simpa using (by decide : objLane O.TEST_BYTE = none))
  have hlaneObjs : (s.changedObjs old (testByteWrs x)).foldl (fun s o => s.laneObjChange old o) s = s :=
    foldl_eq_self fun o ho => by rw [hchanged o ho]; exact s.laneObjChange_testByte old
  have hunitObjs : (s.changedObjs old (testByteWrs x)).foldl (fun s o => s.unitObjChange old o fn) s = s :=
    foldl_eq_self fun o ho => by rw [hchanged o ho]; exact s.unitObjChange_testByte old fn
  have hparts : s.partSteps old = s := State.partSteps_eq_self fun o ho => h o (Nat.ne_of_lt (Nat.lt_trans ho (by decide)))
  rw [State.followWrites, hbays, hlanes, hlanes, hparts, List.foldl_nil, List.foldl_nil, List.foldl_nil, hlaneObjs, hunitObjs]

theorem State.applyWrs_testByte (id fn : Nat) (h : ∀ k < 6, s.objBit O.MODES_ACTIVE k = s.modeBit k) :
    Same (2 ^ 17) (O.TEST_BYTE + 1) (s.mergeVal O.TEST_BYTE x) (s.applyWrs id (testByteWrs x) fn) := by
  have hentry : (testByteWrs x).filter isEntryWr = [] := by
    rw [List.filter_eq_nil_iff]
    simpa [isEntryWr] using (by decide : isEntryObj O.TEST_BYTE = false)
  have hpage (t : State) : t.pageSwitch id (testByteWrs x) = t := by
    rw [State.pageSwitch, entriesOf, hentry]
    rfl
  have htraces (t : State) : t.tracesWritten (testByteWrs x) = t := by
    rw [State.tracesWritten, List.filter_cons, fieldBase_testByte]
    rfl
  have hhooks : hookLanes (testByteWrs x) = [] :=
    touched_eq_nil _ (by simpa using (by decide : objLane O.TEST_BYTE = none))
  have hwrites (o : Nat) : writes (testByteWrs x) o = (O.TEST_BYTE == o) := Bool.or_false _
  have hpower : (O.TEST_BYTE == O.POWER_STATE) = false := by decide
  have htime : (O.TEST_BYTE == O.TIME_SET) = false := by decide
  have hlife : (O.TEST_BYTE == O.LIFECYCLE_TARGET) = false := by decide
  rw [State.applyWrs, s.putWrites_testByte x h,
    State.followWrites_testByte _ _ _ _ fun o ho => s.mergeVal_val_ne ho x, hpage, hhooks, List.foldl_cons, List.foldl_nil,
    State.written_testByte, htraces, List.foldl_nil, State.lifecycleSteps]
  simp only [hwrites, hpower, htime, hlife, Bool.false_eq_true, if_false]
  refine .foldl (fun t l ht => State.keepLane_same _ _ _ l (by decide) ht) _ ?_
  refine State.banksFollow_same (by decide) (by decide) (State.noteSeatObjs_same _ (by decide) ?_)
  exact .foldl (fun t n ht => State.outChange_same _ n fn (by decide) (by decide) ht) _ (.refl _ _ _)

theorem State.applyWrs_testByte_txns (id fn : Nat) (h : ∀ k < 6, s.objBit O.MODES_ACTIVE k = s.modeBit k) :
    (s.applyWrs id (testByteWrs x) fn).txns = s.txns :=
  ((s.applyWrs_testByte x id fn h).txns (by decide)).trans
    ((State.mergeVal_same _ x (by decide) (Nat.zero_le 0) (.refl (2 ^ 17) 0 s)).txns (by decide))

theorem State.applyWrs_testByte_fld (id fn n : Nat) (h : ∀ k < 6, s.objBit O.MODES_ACTIVE k = s.modeBit k) :
    (s.applyWrs id (testByteWrs (BitVec.ofNat 96 n)) fn).fld F.TEST_BYTE_BYTE = n % 256 :=
  (State.fld_of_val ((s.applyWrs_testByte _ id fn h).objs _ (by decide))).trans (s.mergeVal_testByte n)

end

end Sys2Proof.Machine
end

section
/-! PROOFS. R284, R285, R335: what becomes of a transaction whose frame has come. -/

namespace Sys2Proof.Machine

section
variable (s : State) {x : Txn} {id : Nat}

/-! ### The first that is due -/

theorem State.apply_firstDue (h : s.firstDue = some x) (hid : x.id = id) (hrun : s.running = true)
    (hreset : s.resetLow = false) : s.apply id = s.dueTxn x := by
  rw [State.apply, h]
  simp [hid, hrun, hreset]

theorem State.apply_eq_self (h : (∀ q, s.firstDue = some q → q.id ≠ id) ∨ s.running = false ∨ s.resetLow = true) :
    s.apply id = s := by
  unfold State.apply
  split
  · next x hx =>
    rw [if_neg]
    rcases h with h | h | h
    · simp [h x hx]
    · simp [h]
    · simp [h]
  · rfl

/-- R284: the transaction that waits for GO, by the command accepted and the member's state. -/
theorem State.dueTxn_waitGo (hst : x.st = .waitGo) (hgallery : s.galleryOn = true) : s.dueTxn x =
    if s.gallery.gxSeen = gxAbort then s.abortGx x
    else if s.gallery.gxSeen = gxGo ∧ s.galleryState = gMember ∧ s.quarantined = false then s.applyGx x
    else s.holdGx x := by
  rw [State.dueTxn, hst]
  simp [hgallery, and_assoc]

/-! ### ABORT -/

theorem State.raise_txns (f : Fld) : (s.raise f).txns = s.txns :=
  (State.raise_same (K := 2 ^ 17) (B := 0) f 0 0 (by decide) (by decide) (Nat.zero_le _) (.refl _ _ s)).txns (by decide)

theorem State.withdraw_txns : (s.withdraw x).txns = s.txns.filter fun y => y.id != x.id := by
  unfold State.withdraw
  dsimp only
  split <;> rfl

theorem State.abortGx_txns : (s.abortGx x).txns = s.txns.filter fun y => y.id != x.id :=
  (State.raise_txns _ _).trans s.withdraw_txns

theorem State.abortGx_status : (s.abortGx x).fld F.GX_STATUS_STATE = 0 := by
  rw [State.abortGx, State.modGallery_fld]
  exact State.fld_setFld_fits _ (by decide) (by decide)

theorem State.abortGx_sticky :
    (s.abortGx x).objBit (F.GALLERY_STICKY_GX_ABORTED.obj 0) F.GALLERY_STICKY_GX_ABORTED.lo = true := by
  rw [State.abortGx, State.modGallery_objBit, State.objBit_of_val (State.val_setFld_ne _ _ _ _ _ _ (by decide))]
  exact State.raise_self _ _ 0 0 (by decide)

/-! ### GO -/

theorem State.noteOwn_val (o : Nat) : s.noteOwn.val o = s.val o :=
  (State.noteOwn_same (K := 0) (B := o + 1) (by decide) (.refl _ _ s)).objs o o.lt_succ_self

theorem State.noteOwn_gxSeen : s.noteOwn.gallery.gxSeen = s.gallery.gxSeen := by
  unfold State.noteOwn
  split <;> rfl

theorem State.applyGx_gxLast : (s.applyGx x).fld F.GX_LAST_ID = x.gxId % 2 ^ 32 := by
  rw [State.applyGx, State.fld_of_val (State.noteOwn_val _ _), State.modGallery_fld, State.fld_setFld_apart _ (by decide)]
  exact State.fld_setFld_self _ _ _ _ _ (by decide) (by decide)

theorem State.applyGx_status : (s.applyGx x).fld F.GX_STATUS_STATE = 0 := by
  rw [State.applyGx, State.fld_of_val (State.noteOwn_val _ _), State.modGallery_fld]
  exact State.fld_setFld_fits _ (by decide) (by decide)

theorem State.applyGx_gxSeen : (s.applyGx x).gallery.gxSeen = 0 := State.noteOwn_gxSeen _

/-! ### Neither -/

/-- R284: transaction y, held from now on where its number is id. -/
def Txn.heldIf (id : Nat) (y : Txn) : Txn := if y.id = id then { y with st := .held } else y

theorem State.holdGx_txns : (s.holdGx x).txns = s.txns.map (Txn.heldIf x.id) := by
  refine (State.raise_txns _ _).trans ?_
  dsimp only
  split <;> rfl

theorem State.holdGx_status : (s.holdGx x).fld F.GX_STATUS_STATE = 2 := by
  rw [State.holdGx, State.modGallery_fld]
  exact State.fld_setFld_fits _ (by decide) (by decide)

theorem State.holdGx_sticky :
    (s.holdGx x).objBit (F.GALLERY_STICKY_GX_HELD.obj 0) F.GALLERY_STICKY_GX_HELD.lo = true := by
  rw [State.holdGx, State.modGallery_objBit, State.objBit_of_val (State.val_setFld_ne _ _ _ _ _ _ (by decide))]
  exact State.raise_self _ _ 0 0 (by decide)

end

end Sys2Proof.Machine
end

section
/-! PROOFS. R216 to R220: what stands of the selection when a frame boundary is over. -/

namespace Sys2Proof.Machine

section
variable (s : State) {t u : State}

/-! ### The candidate chosen -/

theorem State.bestCand_lt : ∀ c ∈ s.bestCand, c < 114 := by
  unfold State.bestCand
  refine List.foldlRecOn (motive := fun acc => ∀ c ∈ acc, c < 114) _ _ (by simp) fun acc hacc c hc => ?_
  have hnew : ∀ d ∈ some c, d < 114 := by simpa using hc
  split
  · split
    · exact hnew
    · split
      exacts [hnew, hacc]
  · exact hacc

theorem State.selected_lt : ∀ c ∈ s.selected, c < 114 := by
  unfold State.selected
  dsimp only
  split
  · next h => simpa using h
  · simp

theorem State.choose_lt : ∀ c ∈ s.choose, c < 114 := by
  have hselected := s.selected_lt
  have hbest := s.bestCand_lt
  have hcur : ∀ c ∈ s.selected.bind fun c => if s.candQualified c then some c else none, c < 114 := by
    intro c hc
    obtain ⟨d, hd, hdc⟩ := Option.bind_eq_some_iff.mp hc
    split at hdc
    · exact Option.some.inj hdc ▸ hselected d hd
    · simp at hdc
  unfold State.choose
  dsimp only
  split
  · simp
  split
  · split
    · next h =>
      rw [Bool.and_eq_true, decide_eq_true_eq] at h
      simpa using h.1
    · simp
  split
  · next c b hc hb =>
    split
    · exact hc ▸ hcur
    · split
      exacts [hb ▸ hbest, hc ▸ hcur]
  · exact hbest
  · next hc _ => exact hc ▸ hcur

theorem State.selCode_choose_lt : selCode s.choose < 128 := by
  have hlt := s.choose_lt
  cases hchoose : s.choose with
  | none => decide
  | some c => exact Nat.lt_trans (hlt c hchoose) (by decide)

/-! ### What a boundary decides once -/

/-- The selection by its number, the last boundary handled, and DTS. -/
def State.decided (s : State) : Nat × Nat × Tick := (s.fld F.LOOP_STATUS_SELECTED, s.timing.lastFrame, s.dts)

/-- An operation that leaves DTS, timing and the objects up to LOOP_STATUS leaves it. -/
theorem Same.decided (h : Same (2 ^ 2 + 2 ^ 28) (O.LOOP_STATUS + 1) s t) : t.decided = s.decided := by
  rw [State.decided, State.decided, State.fld_of_val (h.objs _ (by decide)), h.timing (by decide), h.dts (by decide)]

theorem ite_decided {p : Prop} [Decidable p] {d : Nat × Nat × Tick} (ht : t.decided = d) (hu : u.decided = d) :
    (if p then t else u).decided = d := by
  split
  exacts [ht, hu]

theorem State.setFld_decided {f : Fld} (hf : f.apart F.LOOP_STATUS_SELECTED = true) (x : Nat) :
    (s.setFld f x).decided = s.decided :=
  congrArg (·, s.timing.lastFrame, s.dts) (s.fld_setFld_apart hf x)

theorem State.setOn_decided {f : Fld} (hf : f.apart F.LOOP_STATUS_SELECTED = true) (b : Bool) :
    (s.setOn f b).decided = s.decided := s.setFld_decided hf _

theorem State.raiseIf_decided {f : Fld} (hf : O.LOOP_STATUS + 1 ≤ f.base) (b : Bool) :
    (s.raiseIf b f).decided = s.decided :=
  (State.raiseIf_same b f 0 0 (by decide) (by decide) hf (.refl _ _ s)).decided

theorem State.raise_decided {f : Fld} (hf : O.LOOP_STATUS + 1 ≤ f.base) : (s.raise f).decided = s.decided :=
  s.raiseIf_decided hf true

/-! ### The selection -/

theorem State.timing_decided {x : Timing} (h : x.lastFrame = s.timing.lastFrame) :
    { s with timing := x }.decided = s.decided := congrArg (s.fld F.LOOP_STATUS_SELECTED, ·, s.dts) h

theorem State.runPull_decided : s.runPull.decided = s.decided := by
  rw [State.runPull, State.setOn_decided _ (by decide)]
  exact s.timing_decided rfl

theorem State.buildOut_decided (c : Nat) : (s.buildOut c).decided = s.decided :=
  (State.buildOut_same c (by decide) (.refl _ _ s)).decided

theorem State.setSelected_decided {x : Nat} (hx : x < 128) :
    (s.setSelected x).decided = (x, s.timing.lastFrame, s.dts) := by
  have hmark {t : State} (ht : t.decided = s.decided) (b : Bool) (c : Nat) :
      (if c < 114 then t.setOn F.CAND_STATUS_SELECTED b c else t).decided = s.decided :=
    ite_decided ((State.setOn_same _ b c 0 (by decide) (by decide) (.refl _ _ t)).decided.trans ht) ht
  have hput {t : State} (ht : t.decided = s.decided) :
      (t.setFld F.LOOP_STATUS_SELECTED x).decided = (x, s.timing.lastFrame, s.dts) :=
    Prod.ext (State.fld_setFld_fits t (by decide) hx) (congrArg (fun d => d.2) ht :)
  have hswitched (c : Nat) := (State.raise_decided (f := F.TE_STICKY_REF_SWITCH) _ (by decide)).trans
    (hput (hmark (hmark rfl false c) true x))
  unfold State.setSelected
  dsimp only
  split
  · next h => rw [State.decided, h]
  · refine ite_decided ?_ ?_
    · rw [State.stopPull, State.setOn_decided _ (by decide)]
      exact (State.timing_decided _ rfl).trans (hswitched _)
    · rw [State.runPull_decided, State.buildOut_decided]
      exact (State.timing_decided _ rfl).trans (hswitched _)

/-! ### The loop and what follows it -/

theorem State.setLoop_decided (st : Nat) : (s.setLoop st).decided = s.decided := by
  rw [State.setLoop]
  refine ite_decided rfl ?_
  refine (State.raiseIf_decided _ (by decide) _).trans ((State.raise_decided _ (by decide)).trans ?_)
  rw [State.setFld_decided _ (by decide), State.setFld_decided _ (by decide)]

theorem State.loopMove_decided (switched : Bool) : (s.loopMove switched).decided = s.decided := by
  have hloop (st : Nat) := s.setLoop_decided st
  exact ite_decided (hloop _) <| ite_decided
    (ite_decided (ite_decided (hloop _) rfl) (ite_decided (hloop _) (hloop _)))
    (ite_decided rfl (ite_decided rfl (hloop _)))

theorem State.watchLock_decided : s.watchLock.decided = s.decided := ite_decided (ite_decided rfl rfl) rfl

theorem State.showClass_decided : s.showClass.decided = s.decided := by
  have hcls (c steps : Nat) :
      ((s.setFld F.LOOP_STATUS_CLASS c).setFld F.LOOP_STATUS_STEPS steps).decided = s.decided := by
    rw [State.setFld_decided _ (by decide), State.setFld_decided _ (by decide)]
  refine ite_decided (ite_decided (hcls _ _) rfl) (ite_decided ?_
    (ite_decided (ite_decided (hcls _ _) (hcls _ _)) (ite_decided (hcls _ _) (ite_decided (hcls _ _) (hcls _ _)))))
  split
  · refine ite_decided (ite_decided (hcls _ _) (hcls _ _)) ?_
    split
    exacts [hcls _ _, hcls _ _, rfl]
  · rfl

theorem State.showCw_decided : s.showCw.decided = s.decided :=
  (State.putCw_same (by decide) (by decide) (.refl _ _ (s.gatherTo s.dts))).decided

theorem State.settle_decided : s.settle.decided = s.decided := by
  rw [State.settle, State.showCw_decided,
    (State.showOuts_same (by decide) (by decide) (.refl _ _ s.watchLock.showClass)).decided, State.showClass_decided,
    State.watchLock_decided]

theorem State.gatherSecond_decided : s.gatherSecond.decided = s.decided := by
  rw [State.gatherSecond]
  exact s.timing_decided rfl

/-! ### The boundary -/

/-- The candidates as a boundary finds them. -/
def State.watched (s : State) : State := (List.range 114).foldl (fun s c => s.candWatch c) s

theorem State.watched_decided : s.watched.decided = s.decided :=
  (Same.foldl (fun _ c ht => State.candWatch_same c (by decide) (by decide) ht) _ (.refl _ _ s)).decided

/-- R219, R262: the number of what a boundary selects. -/
def State.wanted (s : State) : Nat := s.follows.getD (selCode s.choose)

theorem State.wanted_lt : s.wanted < 128 := by
  have hchoose := s.selCode_choose_lt
  unfold State.wanted State.follows
  split
  · rw [Option.getD_some]
    split <;> decide
  · exact hchoose

theorem State.timingBoundary_decided : s.timingBoundary.decided =
    (s.watched.wanted, s.timing.lastFrame, s.dts) := by
  have hselected := (s.watched.setSelected_decided s.watched.wanted_lt).trans
    (congrArg (fun d => (s.watched.wanted, d.2)) s.watched_decided)
  have herrors (t : State) : ((List.range 114).foldl (fun s c => s.showError c) t).decided = t.decided :=
    (Same.foldl (fun _ c ht => State.showError_same c (by decide) (by decide) ht) _ (.refl _ _ t)).decided
  rw [State.timingBoundary, State.gatherSecond_decided, State.settle_decided, State.loopMove_decided,
    State.setFld_decided _ (by decide), herrors]
  dsimp only
  split
  · exact (ite_decided (State.setCand_same _ _ (by decide) (.refl _ _ _)).decided rfl).trans hselected
  · exact hselected

theorem State.supplyIdle_decided : s.supplyIdle.decided = s.decided := by
  refine ite_decided ?_ rfl
  refine (State.supplyAfter_same _ (by decide) (by decide) (.refl _ _ _)).decided.trans (ite_decided ?_ rfl)
  unfold State.showWorst
  split
  all_goals rw [State.setFld_decided _ (by decide), State.setFld_decided _ (by decide)]; rfl

theorem State.pmScanAll_decided : s.pmScanAll.decided = s.decided :=
  (State.pmScanAll_same (by decide) (.refl _ _ s)).decided

theorem State.epochAdopt_txns : s.epochAdopt.txns = s.txns :=
  (State.epochAdopt_same (K := 2 ^ 17) (B := 0) (by decide) (by decide) (.refl _ _ s)).txns (by decide)

/-- R219: the boundary of state s, from the state y of its epoch and the state w in which what is due has applied. -/
theorem State.boundary_decided {y w : State} {seen : FrameSeen} (hat : s.atBoundary = true)
    (hy : y = ((s.boundaryDone.frameEnds seen).tandemBoundary).epochAdopt)
    (hw : w = ((State.applyDue y.txns.length y).boundaryDone).galleryBoundary) : (s.boundary seen).decided =
    (w.watched.wanted, w.timing.lastFrame, w.dts) := by
  rw [hy, State.epochAdopt_txns] at hw
  rw [State.boundary, if_pos hat]
  dsimp only
  rw [← hw, State.pmScanAll_decided, State.supplyIdle_decided, State.timingBoundary_decided]

end

end Sys2Proof.Machine
end

section
/-! PROOFS. R155, R157, R217, R219, R284, R285, R335: the commands TRANSACTION_APPLY, XC_COPY_COMPLETE and FRAME_BOUNDARY. -/

namespace Sys2Proof.Machine

/-- Settles O39: a due transaction by what reached it, the copy by the entries it moves, and the boundary by what each of its
operations leaves of the selection, the last boundary and DTS. -/
theorem transactionsTakeEffect : Obligations.TransactionsTakeEffect := by
  unfold Obligations.TransactionsTakeEffect
  intro t id s v hv
  have happly : exec (.transactionApply t id) s = .next (v.apply id) := by rw [hv]; rfl
  have hcopy : exec (.xcCopyComplete t) s = .next v.copyComplete := by rw [hv]; rfl
  refine ⟨fun hno => happly.trans (congrArg _ (v.apply_eq_self hno)), fun q hdue hid hrun hreset => ?due,
    fun hno => hcopy.trans (congrArg _ (v.copyComplete_none hno)), fun gs hgs hfilled => ?copy,
    fun seen y w x hseen hy hw hx => ?boundary⟩
  case due =>
    subst hid
    rw [v.apply_firstDue hdue rfl hrun hreset] at happly
    have hpending (hst : q.st = .pending) : v.dueTxn q = v.applyTxn q q.fn := by rw [State.dueTxn, hst]
    refine ⟨fun hst => happly.trans (congrArg _ (hpending hst)), fun x hst hwrites hmodes => ?testByte,
      fun hst hgallery habort => ?abort, fun hst hgallery hgo hmember hquarantine => ?go,
      fun hst hgallery hnoAbort hnoGo => ?hold⟩
    case testByte =>
      rw [hpending hst, State.applyTxn, hwrites] at happly
      exact ⟨_, happly, State.applyWrs_testByte_txns _ _ _ _ hmodes, State.applyWrs_testByte_fld _ _ _ x hmodes⟩
    case abort =>
      rw [v.dueTxn_waitGo hst hgallery, if_pos habort] at happly
      exact ⟨_, happly, v.abortGx_txns, v.abortGx_status, v.abortGx_sticky⟩
    case go =>
      rw [v.dueTxn_waitGo hst hgallery, if_neg (by rw [hgo]; decide), if_pos ⟨hgo, hmember, hquarantine⟩] at happly
      exact ⟨_, happly, v.applyGx_gxLast, v.applyGx_status, v.applyGx_gxSeen⟩
    case hold =>
      have hnot : ¬(v.gallery.gxSeen = gxGo ∧ v.galleryState = gMember ∧ v.quarantined = false) := by
        rw [← Bool.not_eq_true]
        tauto
      rw [v.dueTxn_waitGo hst hgallery, if_neg hnoAbort, if_neg hnot] at happly
      exact ⟨_, happly, v.holdGx_txns, v.holdGx_status, v.holdGx_sticky⟩
  case copy =>
    refine ⟨_, hcopy, ?_⟩
    rw [v.copyComplete_some hgs hfilled]
    exact ⟨rfl, rfl, rfl, v.xc.copySlots_force gs, v.xc.copySlots_active gs,
      fun g hg => (v.xc.copySlots_old gs g).trans (if_pos hg), fun g hg => (v.xc.copySlots_old gs g).trans (if_neg hg)⟩
  case boundary =>
    have hboundary : exec (.frameBoundary t seen) s = .next (v.boundary seen) := by
      rw [hv]
      exact onUnit_ok hseen _ _
    refine ⟨fun hno => hboundary.trans (congrArg _ (if_neg (by rw [hno]; decide))), fun hat => ⟨_, hboundary, ?_⟩⟩
    have hdecided := v.boundary_decided hat hy hw
    rw [State.decided, Prod.mk.injEq, Prod.mk.injEq] at hdecided
    obtain ⟨hselected, hlast, hdts⟩ := hdecided
    obtain rfl : x = w.watched := hx
    exact ⟨fun hfollows => by rw [hselected, State.wanted, hfollows]; rfl, hlast, hdts⟩

end Sys2Proof.Machine
end

section
/-! PROOFS. R172, R179, R184: what landing and leaving write: the landing frames and the release store of one lane, and the
objects of areas 07 and 08 that show them. -/

namespace Sys2Proof.Machine

/-- An object that landing or leaving may write: one of the status of the core or of the stores, and FOLLA_STICKY.
LANDING_CUT stands among them and is a setting. -/
def storeObj (o : Nat) : Prop := 0x07F00000 ≤ o ∧ o < 0x09000000 ∧ o ≠ O.LANDING_CUT ∨ o = O.FOLLA_STICKY

theorem storeObj_objAt {l base : Nat} (hl : l < 96) (hbase : 0x08000000 ≤ base ∧ base < 0x08001000) :
    storeObj (objAt base l) := by
  unfold storeObj objAt O.LANDING_CUT
  omega

/-- The settings of the areas before 07 are none. -/
theorem not_storeObj {base i : Nat} (hi : i < 96) (hbase : base < 0x07000000) : ¬ storeObj (objAt base i) := by
  unfold storeObj objAt O.LANDING_CUT O.FOLLA_STICKY
  omega

/-- What of a lane its landing frames leave: its release store, and what it has released and sent. -/
def Lane.outgoing (x : Lane) : List StoreCell × Option Nat × Option Tick × Option TxFrame × Option Tick :=
  (x.store, x.lastRel, x.txFrom, x.lastTx, x.txEnd)

/-- The watched paths are counted at their points alone: the cells that a frame carries are read for them. -/
theorem State.watchLane_points {K B : Nat} (s : State) (l fn : Nat) (x : Tick) (hK : K &&& 2 ^ 38 = 0) :
    Same K B s (s.watchLane l fn x) := by
  unfold State.watchLane
  dsimp only
  split
  · exact .refl _ _ s
  · exact .foldl (fun _ _ hw => State.watchPath_same _ _ _ _ hK hw) _ (.refl _ _ s)

/-- From s to t, landing or slack of lane l alone has gone on: what that lane holds for its egress stands, and so do the
other lanes and every object but those of the stores. -/
structure State.StoresOf (l : Nat) (s t : State) : Prop where
  lanes : ∀ m, m ≠ l → t.lane m = s.lane m
  outgoing : (t.lane l).outgoing = (s.lane l).outgoing
  objs : ∀ o, ¬ storeObj o → t.val o = s.val o

namespace State.StoresOf

variable {l : Nat} {s t u : State}

theorem refl (l : Nat) (s : State) : s.StoresOf l s := ⟨fun _ _ => rfl, rfl, fun _ _ => rfl⟩

theorem trans (h : s.StoresOf l t) (k : t.StoresOf l u) : s.StoresOf l u :=
  ⟨fun m hm => (k.lanes m hm).trans (h.lanes m hm), k.outgoing.trans h.outgoing,
    fun o ho => (k.objs o ho).trans (h.objs o ho)⟩

theorem ite {p : Prop} [Decidable p] (ht : s.StoresOf l t) (hu : s.StoresOf l u) : s.StoresOf l (if p then t else u) := by
  split
  exacts [ht, hu]

/-- What leaves the lanes, where it writes objects of the stores alone. -/
theorem same (h : s.StoresOf l t) (hlanes : u.lanes = t.lanes) (hobjs : ∀ o, ¬ storeObj o → u.val o = t.val o) :
    s.StoresOf l u :=
  h.trans ⟨fun m _ => t.lane_of_lanes m hlanes, congrArg Lane.outgoing (t.lane_of_lanes l hlanes), hobjs⟩

/-! ### Updates of the state -/

theorem modLane (h : s.StoresOf l t) {f : Lane → Lane} (hf : (f (t.lane l)).outgoing = (t.lane l).outgoing) :
    s.StoresOf l (t.modLane l f) :=
  h.trans ⟨fun _ hm => State.lane_setLane_ne t hm _, by rw [State.lane_modLane_self, hf], fun _ _ => rfl⟩

theorem setLane (h : s.StoresOf l t) {x : Lane} (hx : x.outgoing = (t.lane l).outgoing) : s.StoresOf l (t.setLane l x) :=
  h.modLane (f := fun _ => x) hx

theorem setVal (h : s.StoresOf l t) {o : Nat} (ho : storeObj o) (v : Val) : s.StoresOf l (t.setVal o v) :=
  h.same rfl fun p hp => State.val_setVal_ne t (fun e : p = o => hp (e ▸ ho)) v

theorem setFld (h : s.StoresOf l t) {f : Fld} {i e : Nat} (ho : storeObj (f.obj i e)) (x : Nat) :
    s.StoresOf l (t.setFld f x i e) := h.setVal ho _

theorem setOn (h : s.StoresOf l t) {f : Fld} {i e : Nat} (ho : storeObj (f.obj i e)) (b : Bool) :
    s.StoresOf l (t.setOn f b i e) := h.setVal ho _

theorem bumpLive (h : s.StoresOf l t) (o k : Nat) : s.StoresOf l (t.bumpLive o k) := h.same rfl fun _ _ => rfl

theorem raiseIf (h : s.StoresOf l t) {f : Fld} {i e : Nat} (ho : storeObj (f.obj i e)) (b : Bool) :
    s.StoresOf l (t.raiseIf b f i e) :=
  h.same ((State.raiseIf_same (K := 2 ^ 12) (B := 0) b f i e (by decide) (by decide) (Nat.zero_le _) (.refl _ _ t)).lanes
      (by decide))
    fun p hp => State.raiseIf_val t (fun h : p = f.obj i e => hp (h ▸ ho)) fun h => hp (.inr h)

theorem raise (h : s.StoresOf l t) {f : Fld} {i e : Nat} (ho : storeObj (f.obj i e)) : s.StoresOf l (t.raise f i e) :=
  h.raiseIf ho true

/-! ### Transitions and landing frames -/

theorem noteMoving (h : s.StoresOf l t) : s.StoresOf l t.noteMoving :=
  (h.setFld (.inl (by decide)) _).raiseIf (.inl (by decide)) _

theorem setMoving (h : s.StoresOf l t) (rx tx : Bool) : s.StoresOf l (t.setMoving l rx tx) := (h.modLane rfl).noteMoving

theorem txDone (h : s.StoresOf l t) : s.StoresOf l (t.txDone l) := .ite (h.setMoving _ _) h

theorem putLanding (h : s.StoresOf l t) (x : Landing) : s.StoresOf l (t.putLanding l x) :=
  .ite (h.modLane rfl) (h.modLane rfl)

theorem checkBytes (h : s.StoresOf l t) (bs : List Byte) : s.StoresOf l (t.checkBytes l bs) := by
  unfold State.checkBytes
  extract_lets k code tb r
  have hcheck : s.StoresOf l { t with slotCheck := r.1 } := h.same rfl fun _ _ => rfl
  exact (hcheck.setOn (.inl (by decide)) _).setVal (.inl (by decide)) _

theorem land (h : s.StoresOf l t) (x : Landing) : s.StoresOf l (t.land l x) := by
  have hcheck {w : State} (hw : s.StoresOf l w) : s.StoresOf l (w.checkSlot l x) :=
    .ite ((hw.checkBytes _).checkBytes _) hw
  have hnote {w : State} (hw : s.StoresOf l w) : s.StoresOf l (w.noteLanded l x) := .ite (.ite (hw.setMoving _ _) hw) hw
  exact hnote (hcheck (h.putLanding _))

theorem slipRepeat (h : s.StoresOf l t) (hl : l < 96) (L : Nat) : s.StoresOf l (t.slipRepeat l L) :=
  (((h.land _).modLane rfl).bumpLive _ _).raise (storeObj_objAt hl (by decide))

theorem closeMapping (h : s.StoresOf l t) (L : Nat) : s.StoresOf l (t.closeMapping l L) := by
  unfold State.closeMapping
  extract_lets x n blocks flags first stream ais s1 s2
  have h1 : s.StoresOf l s1 := h.setLane rfl
  exact land ((h1.bumpLive _ _).bumpLive _ _) _

theorem laneReady (h : s.StoresOf l t) (hl : l < 96) (L : Nat) : s.StoresOf l (t.laneReady L l) := by
  have httf : s.StoresOf l (t.readyTtf l L) := by
    unfold State.readyTtf
    split
    · exact h
    · exact .ite (.ite (h.slipRepeat hl L) h) (h.land _)
  have hsdh : s.StoresOf l (t.readySdh l L) := .ite h (h.land _)
  have hclient : s.StoresOf l (t.readyClient l L) := by
    unfold State.readyClient
    split
    exacts [h, .ite (h.closeMapping L) h]
  unfold State.laneReady
  extract_lets s1
  have h1 : s.StoresOf l s1 := .ite httf (.ite hsdh (.ite hclient h))
  exact .ite h (h1.modLane rfl)

/-! ### Slack and the page switch -/

theorem slacks (h : s.StoresOf l t) (xs : List (Nat × Nat × Option Int)) (fn : Option Nat) :
    s.StoresOf l { t with slacks := xs, worstFn := fn } := h.same rfl fun _ _ => rfl

theorem noteSlack (h : s.StoresOf l t) (hl : l < 96) (v : Int) : s.StoresOf l (t.noteSlack l v) :=
  (h.setFld (storeObj_objAt hl (by decide)) _).setFld (storeObj_objAt hl (by decide)) _

theorem showWorst (h : s.StoresOf l t) (fn : Nat) : s.StoresOf l (t.showWorst fn) := by
  unfold State.showWorst
  split <;> exact (h.setFld (.inl (by decide)) _).setFld (.inl (by decide)) _

theorem worstSlack (h : s.StoresOf l t) (fn : Nat) : s.StoresOf l (t.worstSlack fn) := by
  unfold State.worstSlack
  extract_lets at_
  exact .ite (showWorst (h.slacks _ _) fn) h

theorem slackKnown (h : s.StoresOf l t) (hl : l < 96) (f : LateFrame) : s.StoresOf l (t.slackKnown l f) := by
  unfold State.slackKnown
  extract_lets s1 s2
  have h1 : s.StoresOf l s1 := (h.noteSlack hl _).modLane rfl
  have h2 : s.StoresOf l s2 := h1.slacks _ s1.worstFn
  exact .ite (h2.showWorst _) h2

theorem lateSlot (h : s.StoresOf l t) (hl : l < 96) (f : LateFrame) (k : Nat) : s.StoresOf l (t.lateSlot l f k) :=
  .ite (h.slackKnown hl _) (h.modLane rfl)

theorem slackOf (h : s.StoresOf l t) (hl : l < 96) (fn : Nat) (x : Tick) : s.StoresOf l (t.slackOf l fn x) := by
  have hlr {f : Fld} (hf : 0x08000000 ≤ f.base ∧ f.base < 0x08001000) : storeObj (f.obj l) := storeObj_objAt hl hf
  unfold State.slackOf
  extract_lets s0 ks lates open_ gone margin done s1 note low s3 worst s2
  have h0 : s.StoresOf l s0 := by
    unfold s0 State.closeLate
    split
    exacts [h.slackKnown hl _, h]
  have h1 : s.StoresOf l s1 := .ite h0 (((h0.bumpLive _ _).bumpLive _ _).raise (hlr (by decide)))
  have hnote {w : State} (hw : s.StoresOf l w) (v : Option Int) : s.StoresOf l (note w v) := hw.slacks _ w.worstFn
  have hlow {w : State} (hw : s.StoresOf l w) (v : Int) : s.StoresOf l (low w v) := hw.raiseIf (hlr (by decide)) _
  have h3 : s.StoresOf l s3 := hlow (hnote h1 _) _
  have h2 : s.StoresOf l s2 := by
    refine .ite (hnote (h1.setFld (hlr (by decide)) _) _) ?_
    cases done with
    | some d => exact hlow (hnote (h1.noteSlack hl _) _) _
    | none => exact .ite (h3.noteSlack hl _) (h3.modLane rfl)
  exact h2.worstSlack fn

theorem watchLane (h : s.StoresOf l t) (fn : Nat) (x : Tick) : s.StoresOf l (t.watchLane l fn x) :=
  h.same ((t.watchLane_points (K := 2 ^ 12) (B := 0) l fn x (by decide)).lanes (by decide))
    fun o _ => (t.watchLane_points (K := 0) l fn x (by decide)).objs o o.lt_succ_self

theorem noteSwitch (h : s.StoresOf l t) (fn : Nat) : s.StoresOf l (t.noteSwitch fn) :=
  .ite (raise (setOn (setOn (setFld (h.setFld (.inl (by decide)) _) (.inl (by decide)) _) (.inl (by decide)) _)
    (.inl (by decide)) _) (.inl (by decide))) h

end State.StoresOf
end Sys2Proof.Machine
end

section
/-! PROOFS. R172, R173: which landing frame a lane holds once one was put in. -/

namespace Sys2Proof.Machine

section
variable (s : State) {l m L : Nat} {x y : Landing}

theorem State.landing_l (h : s.landing l L = some x) : x.l = L := by simpa using List.find?_some h

theorem State.landing_of_lane {t : State} (h : t.lane l = s.lane l) : t.landing l L = s.landing l L :=
  congrArg (fun z : Lane => z.landings.find? fun y : Landing => y.l == L) h

/-- Landing frame f, or x in its place. -/
def Landing.replaced (x f : Landing) : Landing := if f.l = x.l then x else f

theorem Landing.replaced_l (x f : Landing) : (x.replaced f).l = f.l := by
  unfold Landing.replaced
  split
  · next h => exact h.symm
  · rfl

/-- A landing frame that is held is replaced. -/
theorem State.putLanding_held (h : s.landing m x.l = some y) :
    (s.putLanding m x).landing m L = (s.landing m L).map x.replaced := by
  have hany : ((s.lane m).landings.any fun f => f.l == x.l) = true :=
    List.any_eq_true.mpr ⟨y, List.mem_of_find?_eq_some h, by simpa using s.landing_l h⟩
  have hfits : ((·.l == L) ∘ x.replaced : Landing → Bool) = (·.l == L) := by
    funext f
    simp only [Function.comp_apply, x.replaced_l]
  unfold State.putLanding State.landing
  dsimp only
  rw [if_pos hany, State.lane_modLane_self]
  exact (List.find?_map (f := x.replaced)).trans (by rw [hfits])

theorem State.putLanding_landing_self : (s.putLanding l x).landing l x.l = some x := by
  cases h : s.landing l x.l with
  | some y => rw [s.putLanding_held h, h, Option.map_some, Landing.replaced, if_pos (s.landing_l h)]
  | none =>
    have hany : ¬ ((s.lane l).landings.any fun f => f.l == x.l) = true := by
      simpa [State.landing, List.find?_eq_none] using h
    unfold State.putLanding State.landing
    dsimp only
    rw [if_neg hany, State.lane_modLane_self]
    exact List.find?_cons_of_pos (beq_self_eq_true x.l)

theorem State.putLanding_lane_ne (h : l ≠ m) : (s.putLanding m x).lane l = s.lane l := by
  unfold State.putLanding
  dsimp only
  split <;> exact s.lane_setLane_ne h _

/-- What x leaves of the landing frame that it replaces stands, on every lane. -/
theorem State.putLanding_landing_part {α : Type} {part : Landing → α} {M : Nat} (hy : s.landing m M = some y)
    (hxy : x.l = y.l) (hpart : part x = part y) :
    ((s.putLanding m x).landing l L).map part = (s.landing l L).map part := by
  rw [← s.landing_l hy, ← hxy] at hy
  by_cases hlm : l = m
  · subst hlm
    rw [s.putLanding_held hy]
    cases hz : s.landing l L with
    | none => rfl
    | some z =>
      rw [Option.map_some, Option.map_some, Option.map_some, Landing.replaced]
      split
      · next hl =>
        rw [← hl, s.landing_l hz, hz] at hy
        rw [hpart, Option.some.inj hy]
      · rfl
  · rw [State.landing_of_lane s (s.putLanding_lane_ne hlm)]

/-! ### A landing frame that is complete -/

theorem State.noteLanded_landings : ((s.noteLanded l x).lane l).landings = (s.lane l).landings := by
  have hmoving (w : State) : w.noteMoving.lane l = w.lane l :=
    w.lane_of_lanes l ((State.noteMoving_same (K := 2 ^ 12) (B := 0) (by decide) (by decide) (.refl _ _ w)).lanes
      (by decide))
  unfold State.noteLanded State.rxDone State.setMoving
  split
  · split
    · rw [hmoving, State.lane_modLane_self]
    · rfl
  · rfl

theorem State.land_landing : (s.land l x).landing l x.l = some { x with sfp := (s.lane l).sfpNow } := by
  have hcheck (w : State) : (w.checkSlot l x).lane l = w.lane l :=
    w.lane_of_lanes l ((State.checkSlot_same (K := 2 ^ 12) (B := 0) l x (by decide) (by decide) (.refl _ _ w)).lanes
      (by decide))
  have hput := s.putLanding_landing_self (l := l) (x := { x with sfp := (s.lane l).sfpNow })
  unfold State.land
  rw [State.landing, State.noteLanded_landings, hcheck]
  exact hput

end
end Sys2Proof.Machine
end

section
/-! PROOFS. R119, R172, R174, R176: LANDING_FRAME_READY: what each lane holds of the landing frame whose ready instant has
come. -/

namespace Sys2Proof.Machine

section
variable (s : State) {t : State} {l L : Nat}

/-! ### One lane -/

/-- R174, log 68: outside a held sequence, and before the landing frame of a realignment, one that is not there carries AIS
from its ready instant on. -/
theorem State.readyTtf_landing (hnone : s.landing l L = none)
    (hbroken : (s.aligned l && (s.lane l).nextL.all (· ≤ L)) = false) :
    ∃ y, (s.readyTtf l L).landing l L = some y ∧ y.ais = true ∧ y.complete = some (s.readyAt L) := by
  rw [State.readyTtf, hnone]
  dsimp only
  rw [if_neg (by rw [hbroken]; exact Bool.false_ne_true)]
  exact ⟨_, s.land_landing, rfl, rfl⟩

/-- R176: a landing frame of an SDH lane is complete from its ready instant on. -/
theorem State.readySdh_landing : ∃ y, (s.readySdh l L).landing l L = some y ∧ y.complete.isSome = true := by
  unfold State.readySdh
  extract_lets x o down
  have hxl : x.l = L := by
    cases h : s.landing l L with
    | none => simp [x, h]
    | some y => simpa [x, h] using s.landing_l h
  split
  · next hdone =>
    cases h : s.landing l L with
    | none => simp [x, h] at hdone
    | some y => exact ⟨y, rfl, by simpa [x, h] using hdone⟩
  · rw [← hxl]
    exact ⟨_, s.land_landing, rfl⟩

theorem State.laneReady_landing (hrole : s.role l ≠ 0) : (s.laneReady L l).landing l L =
    (if s.isTtf l then s.readyTtf l L else if s.isSdh l then s.readySdh l L
      else if s.isClient l then s.readyClient l L else s).landing l L := by
  unfold State.laneReady State.landing
  dsimp only
  rw [if_neg hrole, State.lane_modLane_self]

theorem State.laneReady_ttf (hl : s.isTtf l = true) : (s.laneReady L l).landing l L = (s.readyTtf l L).landing l L := by
  have hrole : s.role l = 2 := by simpa [State.isTtf] using hl
  rw [s.laneReady_landing (by rw [hrole]; decide), if_pos hl]

theorem State.laneReady_sdh (hl : s.isSdh l = true) : (s.laneReady L l).landing l L = (s.readySdh l L).landing l L := by
  have hrole : s.role l = 1 := by simpa [State.isSdh] using hl
  have httf : ¬ s.isTtf l = true := by simp [State.isTtf, hrole]
  rw [s.laneReady_landing (by rw [hrole]; decide), if_neg httf, if_pos hl]

/-! ### The other lanes -/

/-- Landing frames of other lanes have become ready from s to t: lane l, the settings and what is committed stand. -/
structure State.Awaits (l : Nat) (s t : State) : Prop where
  lane : t.lane l = s.lane l
  objs : ∀ o, ¬ storeObj o → t.val o = s.val o
  txns : t.txns = s.txns

namespace State.Awaits

variable {s}

theorem laneReady (h : s.Awaits l t) {m : Nat} (hm : m < 96) (hne : m ≠ l) : s.Awaits l (t.laneReady L m) :=
  have hstores := (StoresOf.refl m t).laneReady hm L
  have hsame := State.laneReady_same (K := 2 ^ 17) L m (by decide) (Nat.le_refl 0) (.refl _ _ t)
  ⟨(hstores.lanes l hne.symm).trans h.lane, fun o ho => (hstores.objs o ho).trans (h.objs o ho),
    (hsame.txns (by decide)).trans h.txns⟩

theorem foldl_laneReady {ms : List Nat} (hms : ∀ m ∈ ms, m < 96 ∧ m ≠ l) :
    s.Awaits l (ms.foldl (fun s m => s.laneReady L m) s) :=
  List.foldlRecOn (motive := s.Awaits l) ms _ ⟨rfl, fun _ _ => rfl, rfl⟩
    fun _ h m hm => h.laneReady (hms m hm).1 (hms m hm).2

theorem role (h : s.Awaits l t) (hl : l < 96) : t.role l = s.role l :=
  State.fld_of_val (h.objs _ (not_storeObj hl (by decide)))

theorem isTtf (h : s.Awaits l t) (hl : l < 96) : t.isTtf l = s.isTtf l := congrArg (· == 2) (h.role hl)

theorem isSdh (h : s.Awaits l t) (hl : l < 96) : t.isSdh l = s.isSdh l := congrArg (· == 1) (h.role hl)

theorem aligned (h : s.Awaits l t) (hl : l < 96) : t.aligned l = s.aligned l := by
  have hup : t.laneUp l = s.laneUp l := congrArg (· == 4) (State.fld_of_val (h.objs _ (not_storeObj hl (by decide))))
  rw [State.aligned, State.aligned, h.isTtf hl, hup, h.lane]

theorem readyAt (h : s.Awaits l t) : t.readyAt L = s.readyAt L := by
  have hcut : t.fld F.LANDING_CUT_CUT = s.fld F.LANDING_CUT_CUT :=
    State.fld_of_val (h.objs _ (by unfold storeObj; decide))
  have hahead : t.aheadWrs (L + 1) = s.aheadWrs (L + 1) := by
    rw [State.aheadWrs, State.aheadWrs, State.pendingTo, State.pendingTo, State.txnOrder, State.txnOrder, h.txns]
  rw [State.readyAt, State.readyAt, State.cutFor, State.cutFor, hahead, hcut]

end State.Awaits

/-- Every lane becomes ready in turn, and lane l finds what it was before them. -/
theorem State.foldl_laneReady_landing (hl : l < 96) : ∃ w, s.Awaits l w ∧
    ((List.range numLanes).foldl (fun s l => s.laneReady L l) s).landing l L = (w.laneReady L l).landing l L := by
  obtain ⟨before, after, hlanes⟩ := List.append_of_mem (List.mem_range.mpr hl)
  have hnodup : (before ++ l :: after).Nodup := hlanes ▸ List.nodup_range
  have hunit {m : Nat} (hm : m ∈ before ++ l :: after) : m < 96 := List.mem_range.mp (hlanes ▸ hm)
  obtain ⟨hbefore, hafter⟩ : l ∉ before ∧ l ∉ after := by
    rw [List.nodup_middle, List.nodup_cons, List.mem_append, not_or] at hnodup
    exact hnodup.1
  refine ⟨before.foldl (fun s l => s.laneReady L l) s, .foldl_laneReady fun m hm =>
    ⟨hunit (by simp [hm]), fun e : m = l => hbefore (e ▸ hm)⟩, ?_⟩
  rw [hlanes, List.foldl_append, List.foldl_cons]
  exact State.landing_of_lane _ (State.Awaits.foldl_laneReady fun m hm =>
    ⟨hunit (by simp [hm]), fun e : m = l => hafter (e ▸ hm)⟩).lane

/-! ### The groups' choices -/

/-- R247: fixing the choice of a group leaves everything else of a landing frame. -/
theorem State.apsFix_landing_part {α : Type} {part : Landing → α} (hpart : ∀ x v, part { x with aps := v } = part x)
    (M : Nat) : ((s.apsFix M).landing l L).map part = (s.landing l L).map part := by
  unfold State.apsFix
  extract_lets put
  have hput (w : State) (m : Nat) (v : Bool) : ((put w m v).landing l L).map part = (w.landing l L).map part := by
    dsimp only [put]
    split
    · next x hx => exact w.putLanding_landing_part hx rfl (hpart x _)
    · rfl
  exact List.foldlRecOn (motive := fun w : State => (w.landing l L).map part = (s.landing l L).map part) _ _ rfl
    fun w hw g _ => (hput _ _ _).trans ((hput _ _ _).trans hw)

end

/-- What is read of a landing frame that has become ready: whether it carries AIS, and since when it is complete. -/
def Landing.shown (x : Landing) : Bool × Option Tick := (x.ais, x.complete)

/-- R172: the ready instant of landing frame L has come on an active device, and the next one's has not. -/
def State.readyNow (s : State) (L : Nat) : Bool :=
  s.active && decide (s.readyAt L ≤ s.dts) && decide (s.dts < s.readyAt (L + 1))

theorem State.landingReady_eq (s : State) (L : Nat) : s.landingReady L =
    if s.readyNow L then
      (((List.range numLanes).foldl (fun s l => s.laneReady L l) s).apsFix L).pathWatchAll
    else s := by
  have hnot : (!s.active || decide (s.dts < s.readyAt L) || decide (s.readyAt (L + 1) ≤ s.dts)) =
      !s.readyNow L := by
    simp only [State.readyNow, Bool.not_and, ← decide_not, Nat.not_le, Nat.not_lt]
  rw [State.landingReady, hnot]
  cases s.readyNow L <;> rfl

/-- What lane l shows of the landing frame whose ready instant has come is what it makes of it in its turn. -/
theorem State.landingReady_shown {s : State} {l L : Nat} (hl : l < 96) (hnow : s.readyNow L = true) : ∃ w, s.Awaits l w ∧
    ((s.landingReady L).landing l L).map Landing.shown = ((w.laneReady L l).landing l L).map Landing.shown := by
  obtain ⟨w, hw, hlanding⟩ := s.foldl_laneReady_landing (L := L) hl
  have hwatch (t : State) : t.pathWatchAll.lane l = t.lane l :=
    t.lane_of_lanes l ((State.pathWatchAll_same (K := 2 ^ 12) (B := 0) (by decide) (by decide) (.refl _ _ t)).lanes
      (by decide))
  refine ⟨w, hw, ?_⟩
  rw [s.landingReady_eq, if_pos hnow, State.landing_of_lane _ (hwatch _), State.apsFix_landing_part _ fun _ _ => rfl,
    hlanding]

theorem State.landingReady_ttf {s : State} {l L : Nat} (hl : l < 96) (hnow : s.readyNow L = true) (httf : s.isTtf l = true)
    (hnone : s.landing l L = none)
    (hbroken : (s.aligned l && (s.lane l).nextL.all (· ≤ L)) = false) :
    ∃ y, (s.landingReady L).landing l L = some y ∧ y.ais = true ∧ y.complete = some (s.readyAt L) := by
  obtain ⟨w, hw, hshown⟩ := State.landingReady_shown hl hnow
  obtain ⟨y, hy, hais, hcomplete⟩ := w.readyTtf_landing ((State.landing_of_lane s hw.lane).trans hnone)
    (by rw [hw.aligned hl, hw.lane, hbroken])
  rw [w.laneReady_ttf ((hw.isTtf hl).trans httf), hy] at hshown
  obtain ⟨z, hz, hzy⟩ := Option.map_eq_some_iff.mp hshown
  rw [Landing.shown, Landing.shown, Prod.mk.injEq, hais, hcomplete, hw.readyAt] at hzy
  exact ⟨z, hz, hzy⟩

theorem State.landingReady_sdh {s : State} {l L : Nat} (hl : l < 96) (hnow : s.readyNow L = true)
    (hsdh : s.isSdh l = true) : ∃ y, (s.landingReady L).landing l L = some y ∧ y.complete.isSome = true := by
  obtain ⟨w, hw, hshown⟩ := State.landingReady_shown hl hnow
  obtain ⟨y, hy, hcomplete⟩ := w.readySdh_landing (l := l) (L := L)
  rw [w.laneReady_sdh ((hw.isSdh hl).trans hsdh), hy] at hshown
  obtain ⟨z, hz, hzy⟩ := Option.map_eq_some_iff.mp hshown
  exact ⟨z, hz, (congrArg (fun c => c.2.isSome) hzy).trans hcomplete⟩

end Sys2Proof.Machine
end

section
/-! PROOFS. R152, R166, R179, R247: SLOT_COMPLETE: what the release store holds of a slot once its source was read. -/

namespace Sys2Proof.Machine

/-- R8: with no setting left from before a change and none committed ahead, a frame goes by the settings in force. -/
theorem State.ahead_asOf {s : State} {fn : Nat} (hobjs : s.oldObjs fn = []) (hwords : s.oldWords fn = [])
    (hahead : s.aheadWrs fn = []) (f : State → State) : (s.ahead fn fun s => s.asOf fn f) = f s := by
  rw [State.ahead, hahead]
  dsimp only
  rw [if_pos List.isEmpty_nil, State.asOf, hobjs, hwords]
  rfl

section
variable (s : State) {t : State} {l m L : Nat}

/-! ### What filling a slot leaves -/

theorem State.modLane_outgoing {f : Lane → Lane} (hf : ∀ x, (f x).outgoing = x.outgoing) :
    ((s.modLane m f).lane l).outgoing = (s.lane l).outgoing := by
  by_cases h : l = m
  · subst h
    rw [State.lane_modLane_self, hf]
  · rw [State.modLane, State.lane_setLane_ne s h]

theorem State.pickSource_outgoing (fn g : Nat) : ((s.pickSource fn L g).2.lane l).outgoing = (s.lane l).outgoing := by
  have hswitch (h : Nat) (prot : Bool) : (s.autoSwitch fn h prot).lane l = s.lane l :=
    s.lane_of_lanes l ((State.autoSwitch_same (K := 2 ^ 12) (B := 0) fn h prot (by decide) (by decide) (.refl _ _ s)).lanes
      (by decide))
  unfold State.pickSource
  extract_lets h e written c s1
  split
  · rfl
  · split
    · rfl
    · refine Eq.trans (b := (s1.lane l).outgoing) (s1.modLane_outgoing fun _ => rfl) ?_
      dsimp only [s1]
      split
      · rw [hswitch]
      · rfl

theorem State.putLanding_outgoing (x : Landing) : ((s.putLanding m x).lane l).outgoing = (s.lane l).outgoing := by
  unfold State.putLanding
  dsimp only
  split <;> exact s.modLane_outgoing fun _ => rfl

/-- R181: what reading a landing frame leaves: it notes the slots that have read it, and puts no other thing into a lane. -/
theorem State.markRead_cases {P : State → Prop} (e : Entry) (g : Nat) (h : P s)
    (hput : ∀ w m x r, P w → w.landing m L = some x → P (w.putLanding m { x with reads := r })) : P (s.markRead e g L) := by
  have hmark {w : State} (hw : P w) (m : Nat) : P (match w.landing m L with
      | some x => if x.reads.any (·.1 == g) then w else w.putLanding m { x with reads := (g, w.dts) :: x.reads }
      | none => w) := by
    split
    · next x hx =>
      split
      exacts [hw, hput w m x _ hw hx]
    · exact hw
  unfold State.markRead
  extract_lets mark s1
  split
  · exact hmark h _
  · have h1 : P s1 := hmark h _
    split
    exacts [hmark h1 _, h1]

theorem State.markRead_outgoing (e : Entry) (g : Nat) : ((s.markRead e g L).lane l).outgoing = (s.lane l).outgoing :=
  s.markRead_cases (P := fun w => (w.lane l).outgoing = (s.lane l).outgoing) e g rfl
    fun w _ _ _ hw _ => (w.putLanding_outgoing _).trans hw

/-- What of a landing frame decides from when on, and by which lane, it is read. -/
def Landing.found (x : Landing) : Option Tick × Option Bool := (x.complete, x.aps)

theorem State.markRead_found (e : Entry) (g M : Nat) :
    ((s.markRead e g L).landing l M).map Landing.found = (s.landing l M).map Landing.found :=
  s.markRead_cases (P := fun w => (w.landing l M).map Landing.found = (s.landing l M).map Landing.found) e g rfl
    fun w _ x r hw hx => (w.putLanding_landing_part (x := { x with reads := r }) hx rfl rfl).trans hw

theorem State.sourceComplete_congr (hobjs : ∀ o, t.val o = s.val o)
    (hfound : ∀ l, (t.landing l L).map Landing.found = (s.landing l L).map Landing.found) (e : Entry) (src : Nat) :
    t.sourceComplete e src L = s.sourceComplete e src L := by
  have hon (f : Fld) (i : Nat) : t.on f i = s.on f i := State.on_of_val (hobjs _)
  have hfld (f : Fld) (i : Nat) : t.fld f i = s.fld f i := State.fld_of_val (hobjs _)
  have hpart {α : Type} (part : Option Tick × Option Bool → Option α) (l : Nat) :
      ((t.landing l L).bind fun x => part x.found) = (s.landing l L).bind fun x => part x.found := by
    have hbind := congrArg (Option.bind · part) (hfound l)
    rwa [Option.bind_map, Option.bind_map] at hbind
  have hchoice (l : Nat) (now : Bool) : t.apsChoice l L now = s.apsChoice l L now :=
    congrArg (Option.getD · now) (hpart Prod.snd l)
  have hgroup (l : Nat) : t.workGroup l = s.workGroup l := by
    have hgroups : t.apsGroups = s.apsGroups := List.filter_congr fun g _ => hon F.APS_CONFIG_ENABLE g
    simp only [State.workGroup, hgroups, State.apsWork, hfld]
  have hread (l : Nat) : t.readLane l L = s.readLane l L := by
    rw [State.readLane, State.readLane, hgroup]
    split
    · rw [hchoice, State.apsSelected, State.apsSelected, State.apsProt, State.apsProt, hon, hfld]
    · rfl
  rw [State.sourceComplete, State.sourceComplete, hread]
  exact hpart Prod.fst _

/-- R447, log 24: reading a source leaves the instant at which its slot counts as written. -/
theorem State.markRead_writtenAt (e : Entry) (g src : Nat) :
    (s.markRead e g L).writtenAt ((s.markRead e g L).sourceComplete e src L) = s.writtenAt (s.sourceComplete e src L) := by
  have hsame (o : Nat) := State.markRead_same (K := 2 ^ 2) (B := o + 1) e g L (by decide) (.refl _ _ s)
  have hval (o : Nat) : (s.markRead e g L).val o = s.val o := (hsame o).objs o o.lt_succ_self
  rw [s.sourceComplete_congr hval (fun _ => s.markRead_found e g L), State.writtenAt, State.writtenAt,
    State.fld_of_val (hval _), (hsame 0).dts (by decide)]

/-! ### The release store -/

theorem State.storeOf_of_outgoing (h : (t.lane l).outgoing = (s.lane l).outgoing) (fn k : Nat) :
    t.storeOf l fn k = s.storeOf l fn k :=
  congrArg (fun o => o.1.find? fun y : StoreCell => y.fn == fn && y.s == k) h

theorem State.lastRel_of_outgoing (h : (t.lane l).outgoing = (s.lane l).outgoing) :
    (t.lane l).lastRel = (s.lane l).lastRel :=
  congrArg (fun o => o.2.1) h

theorem State.storeOf_none_any {fn k : Nat} (h : s.storeOf l fn k = none) :
    ((s.lane l).store.any fun y => y.fn == fn && y.s == k) = false := by
  rw [List.any_eq_false]
  exact List.find?_eq_none.mp h

/-- R179: a cell put into the store of its own frame is what that frame finds of its slot. -/
theorem State.storeOf_keepCells {fn k : Nat} (h : s.storeOf l fn k = none) {y : StoreCell} (hfn : y.fn = fn) (hk : y.s = k) :
    (s.modLane l fun x => { x with store := keepCells fn (x.store ++ [y]) }).storeOf l fn k = some y := by
  have hold : ((s.lane l).store.filter fun c => decide (fn ≤ c.fn + 2)).find? (fun y => y.fn == fn && y.s == k) = none :=
    List.find?_eq_none.mpr fun c hc => List.find?_eq_none.mp h c (List.mem_filter.mp hc).1
  rw [State.storeOf, State.lane_modLane_self]
  dsimp only [keepCells]
  rw [List.filter_append, List.find?_append, hold]
  simp [hfn, hk]

/-! ### SLOT_COMPLETE -/

variable {fn k : Nat} {e : Entry}

theorem State.slotDone_eq_self (he : e = s.xc.entryAt fn (slotIdx l k))
    (h : s.active = false ∨ s.laneSlots l ≤ k ∨ sourced e = false ∨ s.heldHalted 7 l = true) : s.slotDone l fn k = s := by
  have hno : (!s.active || decide (s.laneSlots l ≤ k) || !sourced e || s.heldHalted 7 l) = true := by
    simpa [or_assoc] using h
  rw [State.slotDone, ← he]
  exact if_pos hno

/-- R152, R179: a slot whose source is there is stored for its frame; one whose frame has left is not. -/
theorem State.slotDone_storeOf {p : Bool × State} {c : Cell} (hl : l < 96) (he : e = s.xc.entryAt fn (slotIdx l k))
    (hactive : s.active = true) (hk : k < s.laneSlots l) (hsourced : sourced e = true) (hheld : s.heldHalted 7 l = false)
    (hL : s.readsFrame l fn = some L) (hp : p = if entryAction e = 0 then s.pickSource fn L (slotIdx l k) else (false, s))
    (hc : p.2.readSource e (entrySource e (slotIdx l k) p.1) L fn = some c) (hnone : s.storeOf l fn k = none) :
    (s.slotDone l fn k).storeOf l fn k = if (s.lane l).lastRel.any (fn ≤ ·) then none else
      some ⟨fn, k, p.2.writtenAt (p.2.sourceComplete e (entrySource e (slotIdx l k) p.1) L), c⟩ := by
  have hno : ¬ (!s.active || decide (s.laneSlots l ≤ k) || !sourced e || s.heldHalted 7 l) = true := by
    simp [hactive, hsourced, hheld, hk]
  have hread : ((p.2.markRead e (slotIdx l k) L).lane l).outgoing = (s.lane l).outgoing := by
    rw [State.markRead_outgoing, hp]
    split
    exacts [s.pickSource_outgoing fn _, rfl]
  have hstore := (State.storeOf_of_outgoing s hread fn k).trans hnone
  rw [State.slotDone]
  dsimp only
  rw [← he, if_neg hno, hL]
  dsimp only
  rw [← hp, hc]
  dsimp only
  rw [State.lastRel_of_outgoing s hread, State.storeOf_none_any _ hstore, State.markRead_writtenAt]
  split
  · split
    · split
      · exact (State.storeOf_of_outgoing _ ((StoresOf.refl l _).lateSlot hl _ k).outgoing fn k).trans hstore
      · exact hstore
    · exact hstore
  · exact State.storeOf_keepCells _ hstore rfl rfl

end
end Sys2Proof.Machine
end

section
/-! PROOFS. R49, R51, R182, R247: what a lane has sent once an egress frame was let go. -/

namespace Sys2Proof.Machine

section
variable (s : State) {t : State} {l fn : Nat} {x : Tick}

/-! ### The frame that leaves -/

/-- The number of a frame and the instant at which it leaves. -/
def TxFrame.due (f : TxFrame) : Nat × Tick := (f.fn, f.at_)

theorem State.buildOwn_due : (s.buildOwn l fn x).1.due = (fn, x) := by
  unfold State.buildOwn
  dsimp only
  split
  · rfl
  · split <;> rfl

theorem State.mirrored_due (f : TxFrame) : (s.mirrored l fn x f).1.due = (f.fn, x) := rfl

/-- R247: a frame that repeats another lane's has that frame's number. -/
theorem State.buildFrame_due : (s.buildFrame l fn x).1.due = (fn, x) := by
  have hown (w : State) (m : Nat) : (w.buildOwn m fn x).1.fn = fn := congrArg Prod.fst w.buildOwn_due
  unfold State.buildFrame
  split
  · exact s.buildOwn_due
  · split
    · split
      · next f _ hfn => rw [State.mirrored_due, hfn]
      · rw [State.mirrored_due, hown]
    · dsimp only
      rw [State.mirrored_due, hown]

theorem State.stamped_due (f : TxFrame) : (s.stamped l f).due = f.due := by
  unfold State.stamped
  dsimp only
  split <;> rfl

theorem State.joined_due (f : TxFrame) (e : Tick) : (s.joined l f x e).1.due = f.due := by
  unfold State.joined
  dsimp only
  split <;> rfl

/-! ### What a lane has sent -/

/-- A frame of number fn, left at x, is on the line of a lane, for one frame. -/
def Lane.Sends (y : Lane) (fn : Nat) (x : Tick) : Prop :=
  y.txEnd = some (x + frame) ∧ ∃ f, y.lastTx = some f ∧ f.fn = fn ∧ f.at_ = x

theorem Lane.Sends.of_outgoing {y z : Lane} (h : y.Sends fn x) (hz : z.outgoing = y.outgoing) : z.Sends fn x := by
  have htx : z.lastTx = y.lastTx := congrArg (fun o => o.2.2.2.1) hz
  have hend : z.txEnd = y.txEnd := congrArg (fun o => o.2.2.2.2) hz
  rwa [Lane.Sends, htx, hend]

theorem State.putOnLine_sends {f : TxFrame} (hf : f.due = (fn, x)) (e : Option Tick) :
    ((s.putOnLine l f x e).lane l).Sends fn x := by
  unfold State.putOnLine State.onLine
  extract_lets j loop sent line
  have hj : j.1.due = (fn, x) := by
    cases e with
    | none => exact hf
    | some _ => exact (s.joined_due f _).trans hf
  rw [State.lane_modLane_self]
  refine ⟨?_, _, rfl, congrArg Prod.fst hj, congrArg Prod.snd hj⟩
  rw [State.lane_modLane_self]

theorem State.sendFrame_sends : ((s.sendFrame l fn x).lane l).Sends fn x := by
  unfold State.sendFrame
  extract_lets r b built f
  have hf : f.due = (fn, x) := (b.2.stamped_due _).trans r.2.buildFrame_due
  have hdone (w : State) : w.StoresOf l (w.sentDone l fn) := .ite (.refl l w) (State.StoresOf.refl l w).txDone
  exact (b.2.drawn.putOnLine_sends hf r.1).of_outgoing (hdone _).outgoing

theorem State.sendPattern_sends : ((s.sendPattern l fn x).lane l).Sends fn x := by
  unfold State.sendPattern
  dsimp only
  rw [State.lane_modLane_self]
  exact ⟨rfl, _, rfl, rfl, rfl⟩

/-- R49, R178, R182: what a lane has sent once egress frame fn was let go at x: nothing where it does not send; what line
loopback sends where that is set; else the frame. -/
def State.LetGo (s t : State) (l fn : Nat) (x : Tick) : Prop :=
  (s.transmits l fn = false → (t.lane l).lastTx = none) ∧
  (s.transmits l fn = true → s.loopLine l = true → (t.lane l).lastTx = (s.lane l).lastTx ∧ (t.lane l).txEnd = none) ∧
  (s.transmits l fn = true → s.loopLine l = false → (t.lane l).Sends fn x)

theorem State.letGo_letGo : s.LetGo (s.letGo l fn x) l fn x := by
  refine ⟨fun hsends => ?silent, fun hsends hloop => ?loop, fun hsends hloop => ?sent⟩
  case silent =>
    rw [State.letGo, if_neg (by simp [hsends]), if_pos (by simp [hsends]), State.sendNothing, State.lane_modLane_self]
  case loop =>
    rw [State.letGo, if_pos (by simp [hsends, hloop]), State.lane_modLane_self]
    exact ⟨rfl, rfl⟩
  case sent =>
    rw [State.letGo, if_neg (by simp [hloop]), if_neg (by simp [hsends])]
    split
    exacts [s.sendPattern_sends, s.sendFrame_sends]

/-! ### Release -/

theorem State.StoresOf.loopLine (h : s.StoresOf l t) (hl : l < 96) : t.loopLine l = s.loopLine l :=
  congrArg (· == 2) (State.fld_of_val (h.objs _ (not_storeObj hl (by decide))))

/-- Whether a lane sends is no matter of the stores. -/
theorem State.StoresOf.transmits (h : s.StoresOf l t) (hl : l < 96) (k : Same (2 ^ 33 + 2 ^ 42) 0 s t) :
    t.transmits l fn = s.transmits l fn := by
  have hready : t.on F.LANE_STATUS_TX_READY l = s.on F.LANE_STATUS_TX_READY l :=
    State.on_of_val (h.objs _ (not_storeObj hl (by decide)))
  have hfrom : (t.lane l).txFrom = (s.lane l).txFrom := congrArg (fun o => o.2.2.1) h.outgoing
  have hval {f : Fld} (hf : ¬ storeObj (f.obj 0)) : t.fld f = s.fld f := State.fld_of_val (h.objs _ hf)
  have hon {f : Fld} (hf : ¬ storeObj (f.obj 0)) : t.on f = s.on f := State.on_of_val (h.objs _ hf)
  have hdark : t.dark = s.dark := by
    rw [State.dark, State.dark, k.faults (by decide), hon (by unfold storeObj; decide), hon (by unfold storeObj; decide)]
  have htandem : t.tandemSends fn = s.tandemSends fn := by
    rw [State.tandemSends, State.tandemSends, State.tandemOn, State.tandemOn, k.tandem (by decide),
      hon (by unfold storeObj; decide), hval (by unfold storeObj; decide), hval (by unfold storeObj; decide)]
  rw [State.transmits, State.transmits, hready, hfrom, hdark, htandem]

/-- R178: a frame released at x counts as released, and is sent or discarded. -/
theorem State.release_letGo (hl : l < 96) :
    ((s.release l fn x).lane l).lastRel = some fn ∧ s.LetGo (s.release l fn x) l fn x := by
  unfold State.release
  generalize hw : ((s.watchLane l fn x).slackOf l fn x).noteSwitch fn = w
  have hstores : s.StoresOf l w := hw ▸ (((State.StoresOf.refl l s).watchLane fn x).slackOf hl fn x).noteSwitch fn
  have hsame : Same (2 ^ 33 + 2 ^ 42) 0 s w := hw ▸ State.noteSwitch_same fn (by decide) (by decide)
    (State.slackOf_same l fn x (by decide) (by decide) (State.watchLane_same l fn x (by decide) (.refl _ _ s)))
  have htx : (w.lane l).lastTx = (s.lane l).lastTx := congrArg (fun o => o.2.2.2.1) hstores.outgoing
  have hgo := w.letGo_letGo (l := l) (fn := fn) (x := x)
  rw [State.LetGo, hstores.transmits s hl hsame, hstores.loopLine s hl, htx] at hgo
  rw [State.LetGo, State.lane_modLane_self]
  exact ⟨rfl, hgo⟩

/-- R267, R406: what follows a frame that has left changes no lane. -/
theorem State.egressed_lanes (before : Option Nat) : (s.tandemYield.supplyAfter before).lanes = s.lanes :=
  (State.supplyAfter_same (K := 2 ^ 12) (B := 0) before (by decide) (by decide)
    (State.tandemYield_same (by decide) (by decide) (.refl _ _ s))).lanes (by decide)

/-- What a lane has sent is a matter of the lanes alone. -/
theorem State.LetGo.of_lanes {u : State} (h : s.LetGo t l fn x) (hu : u.lanes = t.lanes) : s.LetGo u l fn x := by
  rwa [State.LetGo, t.lane_of_lanes l hu]

end
end Sys2Proof.Machine
end

section
/-! PROOFS. R172, R174, R178, R179, R182, R184: the commands LANDING_FRAME_READY, SLOT_COMPLETE, EGRESS_FRAME_RELEASE and
EGRESS_FRAME_COMPLETE. -/

namespace Sys2Proof.Machine

section
variable {s u : State} {l fn : Nat} {x : Tick}

/-- An egress frame is released, or nothing is: what its lane and the others hold once what follows has been done. -/
theorem State.egressed_of_ite {b : Bool} {before : Option Nat} (hl : l < 96)
    (hu : u = ((if b then s.release l fn x else s).tandemYield).supplyAfter before) :
    if b then (u.lane l).lastRel = some fn ∧ s.LetGo u l fn x else u.lanes = s.lanes := by
  have hlanes : u.lanes = (if b then s.release l fn x else s).lanes := hu ▸ State.egressed_lanes _ before
  cases b with
  | false => exact hlanes
  | true =>
    obtain ⟨hrel, hgo⟩ := s.release_letGo (fn := fn) (x := x) hl
    exact ⟨(congrArg Lane.lastRel (State.lane_of_lanes _ l hlanes)).trans hrel, hgo.of_lanes s hlanes⟩

end

/-- Settles O41: the lane whose landing frame becomes ready is followed through the lanes before and after it; a slot by what
reading its source leaves; a frame that leaves by what the stores' upkeep leaves of its lane. -/
theorem framesLandAndLeave : Obligations.FramesLandAndLeave := by
  unfold Obligations.FramesLandAndLeave
  intro t l fn k s v hl hk hv
  have hunit : laneUnit l = true := decide_eq_true hl
  refine ⟨⟨v.landingReady fn, by rw [hv]; rfl, ?ready⟩, fun hobjs hwords hahead =>
    ⟨⟨v.slotDone l fn k, ?slot, fun e he => ⟨v.slotDone_eq_self he, fun L p c => v.slotDone_storeOf hl he⟩⟩,
      fun x hx => ?release, fun x d hd hx => ?complete⟩⟩
  case ready =>
    split
    · next hnow => exact ⟨State.landingReady_ttf hl hnow, State.landingReady_sdh hl hnow⟩
    · next hnot => exact (v.landingReady_eq fn).trans (if_neg hnot)
  case slot =>
    have hexec : exec (.slotComplete t l fn k) s = .next (v.ahead fn fun s => s.asOf fn fun s => s.slotDone l fn k) := by
      rw [hv]
      exact onUnit_ok (by rw [hunit, decide_eq_true hk]; rfl) _ _
    rw [hexec, State.ahead_asOf hobjs hwords hahead]
  case release =>
    have hexec : exec (.egressFrameRelease t l fn) s = .next (v.egressRelease l fn) := by
      rw [hv]
      exact onUnit_ok hunit _ _
    rw [State.egressRelease, State.ahead_asOf hobjs hwords hahead, State.releaseFrame, ← hx] at hexec
    exact ⟨_, hexec, State.egressed_of_ite hl rfl⟩
  case complete =>
    have hexec : exec (.egressFrameComplete t l fn) s = .next (v.egressComplete l fn) := by
      rw [hv]
      exact onUnit_ok hunit _ _
    rw [State.egressComplete, State.ahead_asOf hobjs hwords hahead, State.completeFrame, hd] at hexec
    dsimp only at hexec
    rw [← hx] at hexec
    exact ⟨_, hexec, State.egressed_of_ite hl rfl⟩

end Sys2Proof.Machine
end

section
/-! PROOFS. R199, R201 to R203: the commands LTD_CLEAR, STEP_ACCEPT and LEDGER_RESEED_TIMEOUT. -/

namespace Sys2Proof.Machine

section
variable (s : State) {l : Nat}

/-! ### The ledger and the live counts -/

theorem State.ledger_modLane_self (f : Lane → Lane) : (s.modLane l f).ledger l = (f (s.lane l)).ledger :=
  congrArg Lane.ledger (s.lane_modLane_self l f)

theorem State.ledger_setLedger_self (g : Ledger) : (s.setLedger l g).ledger l = g := s.ledger_modLane_self _

theorem State.publishLedger_lane : (s.publishLedger l).lane l = s.lane l :=
  s.lane_of_lanes l ((State.publishLedger_same (K := 2 ^ 12) (B := 0) l (by decide) (by decide) (.refl _ _ s)).lanes
    (by decide))

theorem State.liveOf_of_live {t : State} (h : t.live = s.live) (o : Nat) : t.liveOf o = s.liveOf o :=
  congrArg (fun m => (Map.get (0 : Val) o m).toNat) h

theorem State.publishLedger_live : (s.publishLedger l).live = s.live :=
  (State.publishLedger_same (K := 2 ^ 10) (B := 0) l (by decide) (by decide) (.refl _ _ s)).live (by decide)

theorem State.raise_live (f : Fld) (i e : Nat) : (s.raise f i e).live = s.live :=
  (State.raise_same (K := 2 ^ 10) (B := 0) f i e (by decide) (by decide) (Nat.zero_le _) (.refl _ _ s)).live (by decide)

/-- A live count wraps within its object's 96 bits. -/
theorem State.liveOf_bumpLive_self (o k : Nat) : (s.bumpLive o k).liveOf o = (s.liveOf o + k) % 2 ^ 64 := by
  have hfits : (s.liveOf o + k) % 2 ^ 64 < 2 ^ 96 := Nat.lt_trans (Nat.mod_lt _ (by decide)) (by decide)
  rw [State.bumpLive, State.liveOf, State.setLive, Map.get_set_self, BitVec.toNat_ofNat, Nat.mod_eq_of_lt hfits]

theorem State.laneHook_ledger (m : Nat) : (s.laneHook m).ledger l = s.ledger l :=
  s.laneHook_part m l (part := Lane.ledger) fun _ _ _ _ => rfl

theorem State.laneHook_liveOf (m o : Nat) : (s.laneHook m).liveOf o = s.liveOf o :=
  s.liveOf_of_live (s.laneHook_live m) o

/-! ### A filter starts anew (R202, R203) -/

/-- Ledger g is taken over: it is counted in o, shown by sticky bit f, and published. -/
def State.restartLedger (s : State) (l : Nat) (g : Ledger) (o : Nat) (f : Fld) : State :=
  (((s.setLedger l g).bumpLive o).raise f l).publishLedger l

theorem State.restartLedger_ledger (g : Ledger) (o : Nat) (f : Fld) : (s.restartLedger l g o f).ledger l = g := by
  rw [State.restartLedger, State.ledger, State.publishLedger_lane, State.raise_lane, State.bumpLive_lane]
  exact s.ledger_setLedger_self g

theorem State.restartLedger_liveOf (g : Ledger) (o : Nat) (f : Fld) :
    (s.restartLedger l g o f).liveOf o = (s.liveOf o + 1) % 2 ^ 64 := by
  rw [State.restartLedger, State.liveOf_of_live _ (State.publishLedger_live _),
    State.liveOf_of_live _ (State.raise_live _ f l 0), State.liveOf_bumpLive_self]
  rfl

theorem State.reseedLane_eq (hon : s.ledgerOn l = true) : s.reseedLane l = s.restartLedger l
    { (s.ledger l).reseed with secReseed := (s.ledger l).reseed.secReseed + 1 } (objAt O.RESEED l)
    F.LEDGER_STICKY_RESEED := if_pos hon

/-! ### A run of out-of-window frames (R202) -/

/-- STEP_RUN out-of-window frames followed one another, the last of them with deviations within GUARD of their first. -/
def State.stepAgrees (s : State) (l : Nat) : Prop :=
  s.fld F.LEDGER_CONFIG_STEP_RUN l ≠ 0 ∧ s.fld F.LEDGER_CONFIG_STEP_RUN l ≤ (s.ledger l).devs.length ∧
    ∀ d ∈ s.lastDevs l, (d - (s.lastDevs l).headD 0).natAbs ≤ s.fld F.ARRIVAL_GUARD_GUARD l * ns

/-- The last STEP_RUN deviations are that many where there have been as many. -/
theorem State.lastDevs_length_eq_iff : (s.lastDevs l).length = s.fld F.LEDGER_CONFIG_STEP_RUN l ↔
    s.fld F.LEDGER_CONFIG_STEP_RUN l ≤ (s.ledger l).devs.length := by
  rw [State.lastDevs, List.length_drop]
  omega

theorem State.stepAccept_pos (h : s.stepAgrees l) : s.stepAccept l = s.restartLedger l
    { s.ledger l with appN := 1, appY := (s.ledger l).devApp, devs := [], secStep := (s.ledger l).secStep + 1 }
    (objAt O.STEP_ACCEPT l) F.LEDGER_STICKY_STEP_ACCEPT := by
  obtain ⟨hrun, hlen, hdevs⟩ := h
  refine if_pos ?_
  simp only [Bool.and_eq_true, decide_eq_true_eq, List.all_eq_true]
  refine ⟨⟨hrun, s.lastDevs_length_eq_iff.mpr hlen⟩, fun d hd => ?_⟩
  have hwithin := hdevs d hd
  omega

theorem State.stepAccept_neg (h : ¬ s.stepAgrees l) : s.stepAccept l = s := by
  refine if_neg fun hb => h ?_
  simp only [Bool.and_eq_true, decide_eq_true_eq, List.all_eq_true] at hb
  obtain ⟨⟨hrun, hlen⟩, hdevs⟩ := hb
  refine ⟨hrun, s.lastDevs_length_eq_iff.mp hlen, fun d hd => ?_⟩
  have hwithin := hdevs d hd
  omega

/-! ### LTD (R201) -/

theorem State.ltdClear_on : (s.ltdClear l).on F.LEDGER_STATUS_LTD l =
    (s.on F.LEDGER_STATUS_LTD l && !decide (8000 ≤ (s.ledger l).inRun)) := by
  unfold State.ltdClear
  split
  · next h => rw [State.on_setOn_self s _ _ _ _ rfl (by decide), decide_eq_true h, Bool.not_true, Bool.and_false]
  · next h => rw [decide_eq_false h, Bool.not_false, Bool.and_true]

/-! ### Frames in frame that stay away (R203) -/

/-- More than 255 frames went by since the last one in frame, on a lane whose ledger is on. -/
def State.ledgerLate (s : State) (l : Nat) : Bool :=
  (s.ledger l).lastIn.any (fun x => s.since x (255 * frame + 1)) && s.ledgerOn l

theorem State.ledgerTimeout_pos (h : s.ledgerLate l = true) : s.ledgerTimeout l =
    (s.reseedLane l).modLane l fun x => { x with ledger := { x.ledger with lastIn := none } } := if_pos h

theorem State.ledgerTimeout_neg (h : ¬ s.ledgerLate l = true) : s.ledgerTimeout l = s := if_neg h

/-- The reseed of a lane whose ledger is late is one of both filters. -/
theorem State.ledgerTimeout_reseeds (h : s.ledgerLate l = true) :
    ((s.ledgerTimeout l).ledger l).rttN = 0 ∧ ((s.ledgerTimeout l).ledger l).appN = 0 ∧
      ((s.ledgerTimeout l).ledger l).lastIn = none ∧
      (s.ledgerTimeout l).liveOf (objAt O.RESEED l) = (s.liveOf (objAt O.RESEED l) + 1) % 2 ^ 64 := by
  have hreseed := s.reseedLane_eq (Bool.and_eq_true_iff.mp h).2
  have hledger : (s.reseedLane l).ledger l = _ := hreseed ▸ s.restartLedger_ledger _ _ _
  rw [s.ledgerTimeout_pos h, State.ledger_modLane_self, State.modLane_liveOf]
  exact ⟨congrArg Ledger.rttN hledger, congrArg Ledger.appN hledger, rfl, hreseed ▸ s.restartLedger_liveOf _ _ _⟩

end

/-! ### The commands -/

/-- Settles O5: each event by whether its condition holds, and what the ledger it leaves then is; the watchers of the lane
leave the ledger and its counts. -/
theorem ledgerEventsReseedTheFilters : Obligations.LedgerEventsReseedTheFilters := by
  unfold Obligations.LedgerEventsReseedTheFilters
  intro t l s v hl hv
  have hunit : laneUnit l = true := decide_eq_true hl
  refine ⟨⟨_, onUnit_ok hunit _ _, ?ltd⟩, ⟨_, onUnit_ok hunit _ _, ?step⟩, ⟨_, onUnit_ok hunit _ _, ?late⟩⟩ <;> rw [← hv]
  case ltd => rw [State.laneHook_on _ l l hl (by decide), v.ltdClear_on]
  case step =>
    rw [State.laneHook_ledger, State.laneHook_liveOf]
    by_cases h : v.stepAgrees l
    · rw [v.stepAccept_pos h, State.restartLedger_ledger, State.restartLedger_liveOf]
      exact ⟨rfl, rfl, (if_pos h).mpr ⟨rfl, rfl, rfl, rfl⟩⟩
    · rw [v.stepAccept_neg h]
      exact ⟨rfl, rfl, (if_neg h).mpr ⟨rfl, rfl, rfl⟩⟩
  case late =>
    rw [State.laneHook_ledger, State.laneHook_liveOf]
    split
    · next h => exact v.ledgerTimeout_reseeds h
    · next h => rw [v.ledgerTimeout_neg h]; exact ⟨rfl, rfl⟩

end Sys2Proof.Machine
end

section
/-! PROOFS. R220 to R226: the commands LOCK_TIME_REACHED, PULL_COMPLETE, HOLDOVER_EXPIRY, WATCHDOG and
DTS_SECOND_BOUNDARY. -/

namespace Sys2Proof.Machine

section
variable (s : State) {g : Fld}

/-! ### What follows a move of the loop -/

/-- An operation that leaves the objects below B leaves a field of a single object that lies there. -/
theorem Same.fld_single {K B : Nat} {s t : State} (h : Same K B s t) (hg : g.base < B) : t.fld g = s.fld g :=
  State.fld_of_val (h.objs _ hg)

theorem State.showOuts_fld (hg : g.base < O.OUT_STATUS) : s.showOuts.fld g = s.fld g :=
  (State.showOuts_same (by decide) (Nat.le_refl _) (.refl 0 _ s)).fld_single hg

theorem State.showCw_fld (hg : g.base < O.CW_NOW) : s.showCw.fld g = s.fld g :=
  (State.putCw_same (by decide) (Nat.le_refl _) (.refl 0 _ (s.gatherTo s.dts))).fld_single hg

theorem State.watchLock_fld : s.watchLock.fld g = s.fld g :=
  (State.watchLock_same (by decide) (.refl 0 (g.base + 1) s)).fld_single (Nat.lt_succ_self _)

/-! ### CLOCK_CLASS and STEPS (R222, R223) -/

/-- CLOCK_CLASS and STEPS are written. -/
def State.putClass (s : State) (c steps : Nat) : State :=
  (s.setFld F.LOOP_STATUS_CLASS c).setFld F.LOOP_STATUS_STEPS steps

theorem State.putClass_class (c steps : Nat) : (s.putClass c steps).fld F.LOOP_STATUS_CLASS = c % 256 := by
  rw [State.putClass, State.fld_setFld_apart _ (by decide), s.fld_setFld_self _ _ 0 0 (by decide) (by decide)]
  rfl

theorem State.putClass_fld (hclass : F.LOOP_STATUS_CLASS.apart g = true) (hsteps : F.LOOP_STATUS_STEPS.apart g = true)
    (c steps : Nat) : (s.putClass c steps).fld g = s.fld g := by
  rw [State.putClass, State.fld_setFld_apart _ hsteps, State.fld_setFld_apart _ hclass]

/-- From s to t CLOCK_CLASS and STEPS were written, or nothing was. -/
def State.Reclassed (s t : State) : Prop := t = s ∨ ∃ c steps, t = s.putClass c steps

theorem State.reclassed_putClass (c steps : Nat) : s.Reclassed (s.putClass c steps) := .inr ⟨c, steps, rfl⟩

theorem ite_reclassed {s t u : State} {p : Prop} [Decidable p] (ht : s.Reclassed t) (hu : s.Reclassed u) :
    s.Reclassed (if p then t else u) := by
  split
  exacts [ht, hu]

theorem State.showClass_reclassed : s.Reclassed s.showClass := by
  have hput := s.reclassed_putClass
  refine ite_reclassed (ite_reclassed (hput _ _) (.inl rfl)) (ite_reclassed ?locked
    (ite_reclassed (ite_reclassed (hput _ _) (hput _ _))
      (ite_reclassed (hput _ _) (ite_reclassed (hput _ _) (hput _ _)))))
  case locked =>
    split
    · refine ite_reclassed (ite_reclassed (hput _ _) (hput _ _)) ?_
      split
      exacts [hput _ _, hput _ _, .inl rfl]
    · exact .inl rfl

theorem State.showClass_fld (hclass : F.LOOP_STATUS_CLASS.apart g = true) (hsteps : F.LOOP_STATUS_STEPS.apart g = true) :
    s.showClass.fld g = s.fld g := by
  obtain h | ⟨c, steps, h⟩ := s.showClass_reclassed
  · rw [h]
  · rw [h, s.putClass_fld hclass hsteps]

/-- R223: the standby that follows its active sends what the active's record says. -/
theorem State.showClass_following (hsel : s.fld F.LOOP_STATUS_SELECTED = 126)
    (hheard : Map.has shareClock s.tandem.heard.shares = true) :
    s.showClass = s.putClass (Map.get 0 shareClock s.tandem.heard.shares / 256)
      (Map.get 0 shareClock s.tandem.heard.shares % 256) := by
  rw [State.showClass, if_pos hsel, if_pos hheard]
  rfl

theorem State.showClass_unheard (hsel : s.fld F.LOOP_STATUS_SELECTED = 126)
    (hheard : ¬ Map.has shareClock s.tandem.heard.shares = true) : s.showClass = s := by
  rw [State.showClass, if_pos hsel, if_neg hheard]

/-- R222: the class of a freewheel tells whether HOLDOVER_TIME has passed; STEPS stays. -/
theorem State.showClass_freewheel (hsel : s.fld F.LOOP_STATUS_SELECTED ≠ 126) (hloop : s.loopState = lFreewheel) :
    s.showClass = s.putClass
      (if s.sinceOpt s.timing.freewheelFrom (s.fld F.HOLDOVER_TIME_SECONDS * sec) then 0x40 else 0x30)
      (s.fld F.LOOP_STATUS_STEPS) := by
  rw [State.showClass, if_neg hsel, hloop]
  rfl

/-! ### LOCK_TIME_REACHED (R220) -/

/-- R220: both criteria have held for LOCK_TIME in ACQUIRE. -/
def State.lockRipe (s : State) : Bool :=
  s.loopState = lAcquire && s.lockHolds && s.sinceOpt s.timing.lockSince (s.fld F.LOCK_CRIT_LOCK_TIME * sec)

theorem State.lockRipe_loopState {s : State} (h : s.lockRipe = true) : s.loopState = lAcquire := by
  rw [State.lockRipe, Bool.and_eq_true, Bool.and_eq_true, decide_eq_true_eq] at h
  obtain ⟨⟨hloop, -⟩, -⟩ := h
  exact hloop

/-- What follows a move of the loop writes of LOOP_STATUS and STATE_FN only CLOCK_CLASS and STEPS. -/
theorem State.settle_fld (hg : g.base < O.CW_NOW) (hclass : F.LOOP_STATUS_CLASS.apart g = true)
    (hsteps : F.LOOP_STATUS_STEPS.apart g = true) : s.settle.fld g = s.fld g := by
  rw [State.settle, State.showCw_fld _ hg, State.showOuts_fld _ (Nat.lt_trans hg (by decide)),
    State.showClass_fld _ hclass hsteps, State.watchLock_fld]

theorem State.fn_lt : s.fn < 2 ^ 48 := Nat.mod_lt _ (by decide)

/-- The loop enters another state: LOOP_STATUS shows it, and STATE_FN the frame. -/
theorem State.setLoop_enters {st : Nat} (h : s.loopState ≠ st) (hst : st < 8) :
    (s.setLoop st).loopState = st ∧ (s.setLoop st).fld F.STATE_FN_FN = s.fn := by
  have hfld {g : Fld} (hchg : F.TE_STICKY_STATE_CHG.aside g = true) (hwheel : F.TE_STICKY_FREEWHEEL.aside g = true) :
      (s.setLoop st).fld g = ((s.setFld F.LOOP_STATUS_STATE st).setFld F.STATE_FN_FN s.fn).fld g := by
    rw [State.setLoop, if_neg h]
    exact (State.fld_raiseIf_aside _ (by decide) hwheel _).trans (State.fld_raise_aside _ (by decide) hchg)
  constructor
  · rw [State.loopState, hfld (by decide) (by decide), State.fld_setFld_apart _ (by decide),
      State.fld_setFld_fits _ (by decide) hst]
  · rw [hfld (by decide) (by decide), State.fld_setFld_fits _ (by decide) (Nat.lt_trans s.fn_lt (by decide))]

theorem State.lockReached_boundary (h : s.lockRipe = true) (hb : s.dts % frame = 0) :
    s.lockReached = (s.setLoop lLocked).settle := (if_pos h).trans (if_pos hb)

theorem State.lockReached_between (h : s.lockRipe = true) (hb : ¬ s.dts % frame = 0) :
    s.lockReached = { s with timing := { s.timing with lockDue := true } } := (if_pos h).trans (if_neg hb)

theorem State.lockReached_neg (h : ¬ s.lockRipe = true) : s.lockReached = s := if_neg h

/-- R220: a boundary itself takes the loop to LOCKED. -/
theorem State.lockReached_locks (h : s.lockRipe = true) (hb : s.dts % frame = 0) :
    s.lockReached.loopState = lLocked ∧ s.lockReached.fld F.STATE_FN_FN = s.fn := by
  obtain ⟨hstate, hfn⟩ := s.setLoop_enters (st := lLocked) (by rw [State.lockRipe_loopState h]; decide) (by decide)
  rw [s.lockReached_boundary h hb]
  exact ⟨(State.settle_fld _ (by decide) (by decide) (by decide)).trans hstate,
    (State.settle_fld _ (by decide) (by decide) (by decide)).trans hfn⟩

/-! ### PULL_COMPLETE (R221) -/

theorem State.pullComplete_on : s.pullComplete.on F.LOOP_STATUS_PULL_ACTIVE =
    (s.on F.LOOP_STATUS_PULL_ACTIVE && !decide (s.timing.pullEnd ≤ s.now)) := by
  unfold State.pullComplete
  split
  · next h =>
    rw [Bool.and_eq_true] at h
    rw [h.2, Bool.not_true, Bool.and_false, State.on, State.showOuts_fld _ (by decide)]
    exact s.on_setOn_self _ _ _ _ rfl (by decide)
  · next h =>
    rw [Bool.and_eq_true, not_and, decide_eq_true_eq] at h
    cases hon : s.on F.LOOP_STATUS_PULL_ACTIVE with
    | false => rfl
    | true => simp [h hon]

/-! ### HOLDOVER_EXPIRY (R222) -/

theorem State.holdoverExpiry_pos (h : s.loopState = lFreewheel) : s.holdoverExpiry = s.showClass.showOuts := if_pos h

theorem State.holdoverExpiry_neg (h : ¬ s.loopState = lFreewheel) : s.holdoverExpiry = s := if_neg h

/-! ### WATCHDOG (R226) -/

/-- R226: WATCHDOG ms have passed in SOFTLOOP without a write of SOFT_CW. -/
def State.softSilent (s : State) : Prop :=
  s.loopState = lSoft ∧ s.since s.timing.softCwAt (s.fld F.SOFTLOOP_CONFIG_WATCHDOG * ms) = true

theorem State.watchdogExpiry_pos (h : s.softSilent) : s.watchdogExpiry =
    ({ s with timing := { s.timing with fwHeld := true } }.setOn F.SOFTLOOP_CONFIG_ENABLE false).raise
      F.TE_STICKY_WATCHDOG := by
  obtain ⟨hloop, hsince⟩ := h
  exact if_pos (by rw [hloop, hsince]; rfl)

theorem State.watchdogExpiry_neg (h : ¬ s.softSilent) : s.watchdogExpiry = s :=
  if_neg fun hb => h (by simpa [State.softSilent] using hb)

/-- R226: a silent soft loop is disabled, and TE_STICKY says so. -/
theorem State.watchdogExpiry_disables (h : s.softSilent) : s.watchdogExpiry.on F.SOFTLOOP_CONFIG_ENABLE = false ∧
    s.watchdogExpiry.objBit (F.TE_STICKY_WATCHDOG.obj 0) F.TE_STICKY_WATCHDOG.lo = true := by
  rw [s.watchdogExpiry_pos h]
  refine ⟨?_, State.raise_self _ _ 0 0 (by decide)⟩
  rw [State.on_raise_aside _ (by decide) (by decide), State.on_setOn_self _ _ _ _ _ rfl (by decide)]

/-! ### DTS_SECOND_BOUNDARY (R224) -/

/-- A sample went in before the history of s, of which no more than 86,400 stay, and what the next one gathers starts anew. -/
def Timing.Sampled (s t : Timing) : Prop :=
  t.lastSecond = s.lastSecond ∧ t.cwSum = 0 ∧ t.cwSpan = 0 ∧ ∃ x, t.history = (x :: s.history).take 86400

theorem State.raiseIf_timing (b : Bool) (f : Fld) : (s.raiseIf b f).timing = s.timing :=
  (State.raiseIf_same b f 0 0 (by decide) (by decide) (Nat.zero_le _) (.refl (2 ^ 28) 0 s)).timing (by decide)

theorem State.writeSample_lastSecond : s.writeSample.timing.lastSecond = s.timing.lastSecond := by
  unfold State.writeSample
  dsimp only
  rw [State.setFld_timing, State.setFld_timing, State.raiseIf_timing]
  split
  · rw [State.setFld_timing]
  · rfl

theorem State.writeSample_history :
    ∃ x, s.writeSample.timing.history = (x :: s.timing.history).take 86400 := ⟨_, rfl⟩

theorem State.gatherTo_history (x : Tick) : (s.gatherTo x).timing.history = s.timing.history := rfl

theorem State.historySample_sampled : s.timing.Sampled s.historySample.timing := by
  obtain ⟨x, hhistory⟩ := (s.gatherTo (s.dts / sec * sec)).writeSample_history
  rw [State.gatherTo_history] at hhistory
  exact ⟨State.writeSample_lastSecond _, rfl, rfl, x, hhistory⟩

/-- What else a second boundary does leaves the engine. -/
theorem State.secondBoundary_timing (h : (s.tempo && decide (s.timing.lastSecond < s.dts / sec)) = true) :
    s.secondBoundary.timing =
      { s with timing := { s.timing with lastSecond := s.dts / sec } }.historySample.timing := by
  have hlatch {a b : State} (hk : Same (2 ^ 28) 0 a b) :=
    Same.foldl (fun _ l ht => State.latchRecord_same l (by decide) ht) (List.range numLanes) hk
  rw [State.secondBoundary, if_neg (by simpa using h)]
  exact (hlatch (State.pmSecond_same (by decide) (by decide)
    (State.freewheelValue_same (by decide) (by decide) (.refl _ _ _)))).timing (by decide)

theorem State.secondBoundary_neg (h : ¬ (s.tempo && decide (s.timing.lastSecond < s.dts / sec)) = true) :
    s.secondBoundary = s := by
  refine if_pos ?_
  rw [Bool.and_eq_true, not_and, decide_eq_true_eq] at h
  cases htempo : s.tempo with
  | false => rfl
  | true => simpa using h htempo

/-- Behind a new sample stands what there is room for of the older ones. -/
theorem drop_one_take_cons {α : Type} (n : Nat) (x : α) (xs : List α) :
    ((x :: xs).take (n + 1)).drop 1 = xs.take (((x :: xs).take (n + 1)).length - 1) := by
  rw [List.take_succ_cons, List.drop_one, List.tail_cons, List.length_cons, Nat.add_sub_cancel, List.length_take,
    List.take_eq_take_min]

end

/-! ### The commands -/

/-- Settles O9: each event by whether its condition holds; what follows it leaves what it writes of LOOP_STATUS, of the soft
loop and of the history. -/
theorem loopTimersAndHistory : Obligations.LoopTimersAndHistory := by
  unfold Obligations.LoopTimersAndHistory
  refine ⟨fun t s v hv => ⟨⟨_, rfl, ?lock⟩, ⟨_, rfl, ?pull⟩, ⟨_, rfl, ?holdover⟩, ⟨_, rfl, ?watchdog⟩⟩,
    fun t s v hv => ⟨_, rfl, ?second⟩⟩ <;> rw [← hv]
  case lock =>
    split
    · next h =>
      split
      · next hb => exact v.lockReached_locks h hb
      · next hb =>
        rw [v.lockReached_between h hb]
        exact ⟨State.lockRipe_loopState h, rfl⟩
    · next h => exact v.lockReached_neg h
  case pull => exact v.pullComplete_on
  case holdover =>
    by_cases hloop : v.loopState = lFreewheel
    · rw [if_pos hloop, v.holdoverExpiry_pos hloop, State.showOuts_fld _ (by decide)]
      split
      · next hsel =>
        split
        · next hheard => rw [v.showClass_following hsel hheard, State.putClass_class]
        · next hheard => rw [v.showClass_unheard hsel hheard]
      · next hsel =>
        rw [v.showClass_freewheel hsel hloop, State.putClass_class]
        split <;> rfl
    · rw [if_neg hloop, v.holdoverExpiry_neg hloop]
  case watchdog =>
    split
    · next h => exact v.watchdogExpiry_disables h
    · next h => exact v.watchdogExpiry_neg h
  case second =>
    split
    · next h =>
      obtain ⟨hsecond, hsum, hspan, x, hhistory⟩ :=
        State.historySample_sampled { v with timing := { v.timing with lastSecond := v.dts / sec } }
      rw [v.secondBoundary_timing h, hhistory]
      exact ⟨hsecond, hsum, hspan, List.length_take, drop_one_take_cons 86399 x _⟩
    · next h => exact v.secondBoundary_neg h

end Sys2Proof.Machine
end

section
/-! PROOFS. R243, R251, R255, R268, R283, R355, R434: what the events of the timing engine, the protection controllers, the pair,
the ring, the MACs and the pins leave of the rest of the device. -/

namespace Sys2Proof.Machine

/-! ### Fields that stand -/

/-- The bits of Same but for those of the fields written. -/
def fieldsBut (written : Nat) : Nat := 2 ^ 59 - 1 - written

/-- free (bit 8), dict (9), sessions (14), cands (27), timing (28), outs (29) and pps (30). -/
def timingEventMask : Nat := 2 ^ 8 + 2 ^ 9 + 2 ^ 14 + 2 ^ 27 + 2 ^ 28 + 2 ^ 29 + 2 ^ 30

/-- dict, xc (13), sessions, aps (31) and pathProt (32). -/
def protectionEventMask : Nat := 2 ^ 9 + 2 ^ 13 + 2 ^ 14 + 2 ^ 31 + 2 ^ 32

/-- dict, sessions, tandem (33) and gallery (34). -/
def pairEventMask : Nat := 2 ^ 9 + 2 ^ 14 + 2 ^ 33 + 2 ^ 34

/-- dict, sessions, cands and gallery. -/
def ringHeadMask : Nat := 2 ^ 9 + 2 ^ 14 + 2 ^ 27 + 2 ^ 34

/-- dict, live (10), sessions, macs (41) and pins (58). -/
def portEventMask : Nat := 2 ^ 9 + 2 ^ 10 + 2 ^ 14 + 2 ^ 41 + 2 ^ 58

/-- The fields that an event of any of these units may write. -/
def unitEventMask : Nat :=
  timingEventMask ||| protectionEventMask ||| pairEventMask ||| ringHeadMask ||| portEventMask

/-- Where the fields stand that no such event writes, the others say what the state is. -/
theorem Same.eq_of_unitEvent {K B : Nat} {s u : State} (h : Same K B s u)
    (hK : K &&& fieldsBut unitEventMask = fieldsBut unitEventMask) :
    u = { s with
      free := u.free, dict := u.dict, live := u.live, xc := u.xc, sessions := u.sessions, cands := u.cands
      timing := u.timing, outs := u.outs, pps := u.pps, aps := u.aps, pathProt := u.pathProt, tandem := u.tandem
      gallery := u.gallery, macs := u.macs, pins := u.pins } := by
  have stands {i : Nat} (hi : (fieldsBut unitEventMask).testBit i = true) : K.testBit i = true := by
    rw [← hK, Nat.testBit_and, Bool.and_eq_true] at hi
    exact hi.left
  cases u
  simp only [State.mk.injEq, true_and, and_true]
  exact ⟨h.pending (stands rfl), h.now (stands rfl), h.dts (stands rfl), h.tempo (stands rfl), h.startup (stands rfl),
    h.straps (stands rfl), h.resetLow (stands rfl), h.rails (stands rfl), h.words (stands rfl), h.lanes (stands rfl),
    h.freeNums (stands rfl), h.opened (stands rfl), h.txns (stands rfl), h.nextTxn (stands rfl), h.claims (stands rfl),
    h.hwClaims (stands rfl), h.gens (stands rfl), h.spiIn (stands rfl), h.spiOut (stands rfl), h.miso (stands rfl),
    h.lastOp (stands rfl), h.lastReply (stands rfl), h.chans (stands rfl), h.dccOut (stands rfl), h.dccIn (stands rfl),
    h.points (stands rfl), h.dayCuts (stands rfl), h.tcaLog (stands rfl), h.faults (stands rfl), h.banks (stands rfl),
    h.usedBanks (stands rfl), h.owners (stands rfl), h.retained (stands rfl), h.seatObjs (stands rfl),
    h.tempoFrom (stands rfl), h.tempoHeld (stands rfl), h.bases (stands rfl), h.scrubFrom (stands rfl),
    h.cvuRuns (stands rfl), h.supply (stands rfl), h.slacks (stands rfl), h.worstFn (stands rfl),
    h.slotCheck (stands rfl), h.vault (stands rfl)⟩

/-- Where the banks stand, so does every byte of them. -/
theorem Same.bank {K B : Nat} {s u : State} (h : Same K B s u) (hK : K.testBit 43 = true) (a : Nat) :
    Map.get 0 a u.banks = Map.get 0 a s.banks := by rw [h.banks hK]

/-! ### The timing engine and the outputs -/

/-- The gate of a candidate that is no lane's writes that candidate. -/
theorem State.freqGate_same_of_other {K B : Nat} (s : State) {c : Nat} (hlane : candLane c = none) (offset : Int)
    (hK : K &&& (2 ^ 9 + 2 ^ 14 + 2 ^ 27) = 0) (hB : B ≤ 0x0A000030) : Same K B s (s.freqGate c offset) := by
  unfold State.freqGate
  split
  · rw [State.gateOf_of_other hlane]
    exact State.freqMonitor_same c offset hK hB (State.setCand_same c _ (mask_sub hK rfl) (.refl K B s))
  · exact .refl K B s

theorem exec_timingEvent_same {c : Instr} {s u : State} (hc : c.timingEvent = true) (h : exec c s = .next u) :
    Same (fieldsBut timingEventMask) 0x0A000008 (s.advance c.tick) u := by
  cases c with
  | actLost t i => exact execActLost_same t i s (by decide) (by decide) h
  | actReturn t i => exact execActReturn_same t i s (by decide) (by decide) h
  | freqGateEnd t cand offset =>
    have hlane : candLane cand = none := Option.isNone_iff_eq_none.mp hc
    have hu : u = ((s.advance t).freqGate cand offset).candHook cand := onUnit_next h
    rw [hu, State.candHook, hlane]
    exact (s.advance t).freqGate_same_of_other hlane offset (by decide) (by decide)
  | candWtrExpiry t cand => exact execCandWtrExpiry_same t cand s (by decide) (by decide) h
  | lockTimeReached t => exact execLockTimeReached_same t s (by decide) (by decide) h
  | pullComplete t => exact execPullComplete_same t s (by decide) (by decide) h
  | holdoverExpiry t => exact execHoldoverExpiry_same t s (by decide) (by decide) h
  | watchdog t => exact execWatchdog_same t s (by decide) (by decide) h
  | rampEnd t n delta => exact execRampEnd_same t n delta s (by decide) (by decide) h
  | glideDone t n => exact execGlideDone_same t n s (by decide) (by decide) h
  | outputResume t n => exact execOutputResume_same t n s (by decide) (by decide) h
  | ppsPulse t p => exact execPpsPulse_same t p s (by decide) (by decide) h
  | _ => cases hc

/-! ### The protection controllers -/

theorem exec_protectionEvent_same {c : Instr} {s u : State} (hc : c.protectionEvent = true) (h : exec c s = .next u) :
    Same (fieldsBut protectionEventMask) 0x0C000003 (s.advance c.tick) u := by
  cases c with
  | apsAcceptance t g => exact execApsAcceptance_same t g s (by decide) (by decide) h
  | holdOffExpiry t g prot degrade => exact execHoldOffExpiry_same t g prot degrade s (by decide) (by decide) h
  | apsWtrExpiry t g => exact execApsWtrExpiry_same t g s (by decide) (by decide) h
  | fopChange t g arch => exact execFopChange_same t g arch s (by decide) (by decide) h
  | pathHoldOffExpiry t l k => exact execPathHoldOffExpiry_same t l k s (by decide) (by decide) h
  | pathWtrExpiry t l k => exact execPathWtrExpiry_same t l k s (by decide) (by decide) h
  | _ => cases hc

/-! ### The pair and the ring -/

/-- A record that is sent moves what the pair holds of it, and nothing else (R265). -/
theorem State.sendRecord_same_tandem {K B : Nat} (s : State) (hK : K &&& 2 ^ 33 = 0) : Same K B s s.sendRecord := by
  unfold State.sendRecord
  split
  · exact State.modTandem_same _ hK (State.copyBegin_same hK (.refl K B s))
  · exact .refl K B s

theorem exec_pairEvent_same {c : Instr} {s u : State} (hc : c.pairEvent = true) (h : exec c s = .next u) :
    Same (fieldsBut pairEventMask) 0x0D000003 (s.advance c.tick) u := by
  cases c with
  | tandemRecord t port r => exact execTandemRecord_same t port r s (by decide) (by decide) h
  | tandemRecordSend t =>
    rw [← Host.Outcome.next.inj h]
    exact (s.advance t).sendRecord_same_tandem (by decide)
  | holdPinChange t high => exact execHoldPinChange_same t high s (by decide) (by decide) h
  | standbyWaitExpiry t => exact execStandbyWaitExpiry_same t s (by decide) (by decide) h
  | recordLossTimeout t => exact execRecordLossTimeout_same t s (by decide) (by decide) h
  | resyncComplete t => exact execResyncComplete_same t s (by decide) (by decide) h
  | autoRelinquish t => exact execAutoRelinquish_same t s (by decide) h
  | ringMessage t port m => exact execRingMessage_same t port m s (by decide) (by decide) h
  | ringHeadSend t => exact execRingHeadSend_same t s (by decide) h
  | ringWindowSend t window => exact execRingWindowSend_same t window s (by decide) h
  | seatAbsence t seat => exact execSeatAbsence_same t seat s (by decide) (by decide) h
  | rosterRemoval t seat => exact execRosterRemoval_same t seat s (by decide) (by decide) h
  | epochAdoption t => exact execEpochAdoption_same t s (by decide) (by decide) h
  | gxGoDecision t => exact execGxGoDecision_same t s (by decide) h
  | timeErrorUnknown t => exact execTimeErrorUnknown_same t s (by decide) (by decide) h
  | unmute t => exact execUnmute_same t s (by decide) (by decide) h
  | _ => cases hc

/-! ### The MACs and the pins -/

theorem exec_portEvent_same {c : Instr} {s u : State} (hc : c.portEvent = true) (h : exec c s = .next u) :
    Same (fieldsBut portEventMask) 0x11F00020 (s.advance c.tick) u := by
  cases c with
  | pauseExpiry t m => exact execPauseExpiry_same t m s (by decide) (by decide) h
  | pauseWdExpiry t m => exact execPauseWdExpiry_same t m s (by decide) (by decide) h
  | pauseIgnoredClear t m => exact execPauseIgnoredClear_same t m s (by decide) (by decide) h
  | pauseRepeat t m => exact execPauseRepeat_same t m s (by decide) h
  | macTransmitStart t m => exact execMacTransmitStart_same t m s (by decide) (by decide) h
  | linkDown t m => exact execLinkDown_same t m s (by decide) (by decide) h
  | linkUp t m speed => exact execLinkUp_same t m speed s (by decide) (by decide) h
  | upinChangeEffect t pin => exact execUpinChangeEffect_same t pin s (by decide) (by decide) h
  | parkEnd t pin => exact execParkEnd_same t pin s (by decide) (by decide) h
  | _ => cases hc

/-! ### The statement -/

/-- Settles O54: each group of events by the fields and the objects that all of its events leave. -/
theorem unitEventFrames : Obligations.UnitEventFrames := by
  unfold Obligations.UnitEventFrames
  intro c t s v u hv ht hu
  subst hv ht
  refine ⟨fun hc => ?timing, fun hc => ?protection, fun hc => ?pair, fun p h hc => ?ringHead, fun hc => ?port⟩
  case timing =>
    have h := exec_timingEvent_same hc hu
    refine ⟨(h.eq_of_unitEvent (by decide)).trans ?_, h.objs, h.bank (by decide)⟩
    rw [h.live rfl, h.xc rfl, h.aps rfl, h.pathProt rfl, h.tandem rfl, h.gallery rfl, h.macs rfl, h.pins rfl]
  case protection =>
    have h := exec_protectionEvent_same hc hu
    refine ⟨(h.eq_of_unitEvent (by decide)).trans ?_, h.objs, h.bank (by decide)⟩
    rw [h.free rfl, h.live rfl, h.cands rfl, h.timing rfl, h.outs rfl, h.pps rfl, h.tandem rfl, h.gallery rfl, h.macs rfl,
      h.pins rfl]
  case pair =>
    have h := exec_pairEvent_same hc hu
    refine ⟨(h.eq_of_unitEvent (by decide)).trans ?_, h.objs, h.bank (by decide)⟩
    rw [h.free rfl, h.live rfl, h.xc rfl, h.cands rfl, h.timing rfl, h.outs rfl, h.pps rfl, h.aps rfl, h.pathProt rfl,
      h.macs rfl, h.pins rfl]
  case ringHead =>
    have h : Same (fieldsBut ringHeadMask) 0x0A000030 (s.advance c.tick) u :=
      execRingHead_same c.tick p h s (by decide) (by decide) ((congrArg (exec · s) hc).symm.trans hu)
    refine ⟨(h.eq_of_unitEvent (by decide)).trans ?_, h.objs, h.bank (by decide)⟩
    rw [h.free rfl, h.live rfl, h.xc rfl, h.timing rfl, h.outs rfl, h.pps rfl, h.aps rfl, h.pathProt rfl, h.tandem rfl,
      h.macs rfl, h.pins rfl]
  case port =>
    have h := exec_portEvent_same hc hu
    refine ⟨(h.eq_of_unitEvent (by decide)).trans ?_, h.objs, h.bank (by decide)⟩
    rw [h.free rfl, h.xc rfl, h.cands rfl, h.timing rfl, h.outs rfl, h.pps rfl, h.aps rfl, h.pathProt rfl, h.tandem rfl,
      h.gallery rfl]

end Sys2Proof.Machine
end

section
/-! PROOFS. R235 to R240: what showing a clock output, starting a change of its frequency or an alignment, and ending a glide
make of that output and of OUT_STICKY. -/

namespace Sys2Proof.Machine

/-- Output y is output x but for its squelch and its clamp. -/
def Out.ShownAs (x y : Out) : Prop :=
  ∃ lag clamp squelched lowFrom blocked quietTo, y = { x with lag, clamp, squelched, lowFrom, blocked, quietTo }

theorem Out.ShownAs.refl (x : Out) : x.ShownAs x := ⟨_, _, _, _, _, _, rfl⟩

theorem Out.ShownAs.trans {x y z : Out} (hxy : x.ShownAs y) (hyz : y.ShownAs z) : x.ShownAs z := by
  obtain ⟨_, _, _, _, _, _, rfl⟩ := hxy
  obtain ⟨_, _, _, _, _, _, rfl⟩ := hyz
  exact ⟨_, _, _, _, _, _, rfl⟩

/-- Gathering the lag changes nothing else. -/
theorem Out.gather_eq (x : Out) (now : Tick) : ∃ lag, x.gather now = { x with lag } := by
  unfold Out.gather
  split
  · split <;> exact ⟨_, rfl⟩
  · exact ⟨_, rfl⟩

section
variable (s : State) {n : Nat}

/-! ### Other updates leave the outputs -/

@[simp] theorem State.setFld_out (f : Fld) (x i e m : Nat) : (s.setFld f x i e).out m = s.out m := rfl

@[simp] theorem State.setOn_out (f : Fld) (b : Bool) (i e m : Nat) : (s.setOn f b i e).out m = s.out m := rfl

@[simp] theorem State.raiseIf_out (b : Bool) (f : Fld) (i e m : Nat) : (s.raiseIf b f i e).out m = s.out m := by
  unfold State.out
  rw [(State.raiseIf_same b f i e (by decide) (by decide) (Nat.zero_le _) (.refl (2 ^ 29) 0 s)).outs (by decide)]

@[simp] theorem State.raise_out (f : Fld) (i e m : Nat) : (s.raise f i e).out m = s.out m := s.raiseIf_out true f i e m

/-- A last update that leaves the outputs does so under a condition too. -/
theorem State.out_ite {t u : State} {p : Prop} [Decidable p] (h : t.out n = u.out n) :
    (if p then t else u).out n = u.out n := by
  split
  exacts [h, rfl]

/-! ### Squelch and clamp (R235, R240) -/

theorem State.quench_out (n : Nat) : (s.out n).ShownAs ((s.quench n).out n) := by
  unfold State.quench
  dsimp only
  split
  · exact .refl _
  · rw [State.out_setOut_self]
    exact ⟨_, _, _, _, _, _, rfl⟩

/-- Following the period changes the lag and the clamp alone. -/
theorem State.showClamp_out (n : Nat) : ∃ lag clamp, (s.showClamp n).out n = { s.out n with lag, clamp } := by
  obtain ⟨lag, hlag⟩ := (s.out n).gather_eq s.now
  unfold State.showClamp
  extract_lets o past s1 s2
  have ho : o = { s.out n with lag } := hlag
  have hout : s2.out n = { o with clamp := if past = 0 then none else some (s.now, past) } :=
    (s1.raiseIf_out _ _ n 0 n).trans (s.out_setOut_self n _)
  exact ⟨lag, _, by rw [State.out_ite (s2.setOn_out _ _ _ _ _), hout, ho]⟩

/-- The output with what squelches it looked at, whose period and state are then shown. -/
def State.lookOut (s : State) (n : Nat) : State :=
  let s0 := if s.outBlocked n || (s.out n).quietTo.isSome then s.quench n else s
  let o := s0.out n
  let wait := o.squelched && !s.outBlocked n && (o.blocked || o.quietTo.isNone)
  s0.setOut n { o with
    blocked := s.outBlocked n
    quietTo := if wait then some (s.resumeEdge n (o.num, o.den) (max s.dts (o.quietTo.getD 0))) else o.quietTo }

theorem State.showOut_out_look (n : Nat) : (s.showOut n).out n = ((s.lookOut n).showClamp n).out n := by
  unfold State.showOut
  extract_lets q s0 o wait edge s1 s2 s3
  have hlook : s1 = s.lookOut n := rfl
  have hout : s3.out n = (s1.showClamp n).out n := (s2.setOn_out _ _ n 0 n).trans ((s1.showClamp n).setFld_out _ _ n 0 n)
  rw [State.out_ite (s3.setOn_out _ _ _ _ _), hout, hlook]

theorem State.lookOut_out (n : Nat) : (s.out n).ShownAs ((s.lookOut n).out n) := by
  have hquench : (s.out n).ShownAs
      ((if s.outBlocked n || (s.out n).quietTo.isSome then s.quench n else s).out n) := by
    split
    · exact s.quench_out n
    · exact .refl _
  unfold State.lookOut
  rw [State.out_setOut_self]
  exact hquench.trans ⟨_, _, _, _, _, _, rfl⟩

/-- Showing an output leaves its frequency, its glide and the change that is held. -/
theorem State.showOut_out (n : Nat) : (s.out n).ShownAs ((s.showOut n).out n) := by
  obtain ⟨lag, clamp, hout⟩ := (s.lookOut n).showClamp_out n
  rw [s.showOut_out_look, hout]
  exact (s.lookOut_out n).trans ⟨_, _, _, _, _, _, rfl⟩

/-- An output that runs and that nothing blocks runs on. -/
theorem State.showOut_runs (hblocked : s.outBlocked n = false) (hquiet : (s.out n).quietTo = none)
    (hruns : (s.out n).squelched = false) :
    ((s.showOut n).out n).squelched = false ∧ ((s.showOut n).out n).quietTo = none := by
  have hlook : s.lookOut n = s.setOut n { s.out n with blocked := false } := by
    simp [State.lookOut, hblocked, hquiet, hruns]
  obtain ⟨lag, clamp, hout⟩ := (s.lookOut n).showClamp_out n
  rw [s.showOut_out_look, hout, hlook, State.out_setOut_self]
  exact ⟨hruns, hquiet⟩

/-! ### A change starts, an alignment starts, a glide ends (R236 to R239) -/

/-- A change that starts has its frequency for goal, and none is held. -/
theorem State.startChange_out (n : Nat) (goal : Nat × Nat) (x : Tick) :
    ((s.startChange n goal x).out n).goal = goal ∧ ((s.startChange n goal x).out n).held = none := by
  unfold State.startChange
  extract_lets s0 x0 x1 t s1
  have hstart : (s1.out n).goal = goal ∧ (s1.out n).held = none := by
    unfold s1
    split <;> rw [State.out_setOut_self] <;> exact ⟨rfl, rfl⟩
  obtain ⟨_, _, _, _, _, _, hshown⟩ := (s1.setOn F.OUT_STATUS_ALIGNED false n).showOut_out n
  rw [hshown]
  exact hstart

/-- An alignment that starts has its phase to remove; the frequency stands. -/
theorem State.startAlign_out (n : Nat) (d : Int) :
    ((s.startAlign n d).out n).stage = 2 ∧ ((s.startAlign n d).out n).delta = d ∧
    ((s.startAlign n d).out n).num = (s.out n).num ∧ ((s.startAlign n d).out n).den = (s.out n).den := by
  unfold State.startAlign
  extract_lets o s1
  obtain ⟨_, hgather⟩ := (s.out n).gather_eq s.now
  obtain ⟨_, _, _, _, _, _, hshown⟩ := (s1.setOn F.OUT_STATUS_ALIGNED false n).showOut_out n
  have hstart : s1.out n = { o with
      stage := 2, delta := d, lag := 0, clamp := none, began := s.now, stageEnd := s.now + s.alignTicks n d } :=
    s.out_setOut_self n _
  rw [hshown, State.setOn_out, hstart]
  have ho : o = (s.out n).gather s.now := rfl
  rw [ho, hgather]
  exact ⟨rfl, rfl, rfl, rfl⟩

/-- What the end of a glide writes before it looks for a change that is held. -/
def State.closeGlide (s : State) (n : Nat) : State :=
  ((s.setOut n { s.out n with stage := 0, delta := 0, held := none }).setOn F.OUT_STATUS_ALIGNED
    (s.on F.OUT_CONFIG_ALIGN n && !(s.out n).squelched) n).raise F.OUT_STICKY_GLIDE_DONE n

theorem State.closeGlide_out (n : Nat) :
    (s.closeGlide n).out n = { s.out n with stage := 0, delta := 0, held := none } := by
  rw [State.closeGlide, State.raise_out, State.setOn_out, State.out_setOut_self]

theorem State.endGlide_of_none (h : (s.out n).held = none) : s.endGlide n = (s.closeGlide n).showOut n := by
  unfold State.endGlide
  dsimp only
  rw [h]
  rfl

theorem State.endGlide_of_some {g : Nat × Nat} (h : (s.out n).held = some g) :
    s.endGlide n = (s.closeGlide n).startChange n g s.dts := by
  unfold State.endGlide
  dsimp only
  rw [h]
  rfl

theorem State.endGlide_out_of_none (h : (s.out n).held = none) :
    ((s.endGlide n).out n).stage = 0 ∧ ((s.endGlide n).out n).num = (s.out n).num ∧
    ((s.endGlide n).out n).den = (s.out n).den := by
  obtain ⟨_, _, _, _, _, _, hshown⟩ := (s.closeGlide n).showOut_out n
  rw [s.endGlide_of_none h, hshown, s.closeGlide_out]
  exact ⟨rfl, rfl, rfl⟩

theorem State.endGlide_out_of_some {g : Nat × Nat} (h : (s.out n).held = some g) :
    ((s.endGlide n).out n).goal = g ∧ ((s.endGlide n).out n).held = none := by
  rw [s.endGlide_of_some h]
  exact (s.closeGlide n).startChange_out n g s.dts

end

/-! ### Sticky bits stay set -/

/-- From s to t no bit of object o is cleared. -/
def State.KeepsBits (s t : State) (o : Nat) : Prop := ∀ k, k < 96 → s.objBit o k = true → t.objBit o k = true

namespace State.KeepsBits

variable {s t u : State} {o n : Nat}

theorem refl (s : State) (o : Nat) : s.KeepsBits s o := fun _ _ h => h

theorem ite {p : Prop} [Decidable p] (ht : s.KeepsBits t o) (hu : s.KeepsBits u o) :
    s.KeepsBits (if p then t else u) o := by
  split
  exacts [ht, hu]

theorem setOut (h : s.KeepsBits t o) (x : Out) : s.KeepsBits (t.setOut n x) o := h

theorem setFld (h : s.KeepsBits t o) (f : Fld) (ho : o ≠ f.obj n) (x : Nat) : s.KeepsBits (t.setFld f x n) o :=
  fun k hk hs => (State.objBit_of_val (State.val_setFld_ne _ _ _ _ _ _ ho) k).trans (h k hk hs)

theorem setOn (h : s.KeepsBits t o) (f : Fld) (ho : o ≠ f.obj n) (b : Bool) : s.KeepsBits (t.setOn f b n) o :=
  h.setFld f ho _

theorem raise (h : s.KeepsBits t o) (f : Fld) : s.KeepsBits (t.raise f n) o :=
  fun k hk hs => t.raiseBit_mono _ _ o k hk (h k hk hs)

theorem raiseIf (h : s.KeepsBits t o) (b : Bool) (f : Fld) : s.KeepsBits (t.raiseIf b f n) o := .ite (h.raise f) h

theorem quench (h : s.KeepsBits t o) : s.KeepsBits (t.quench n) o := .ite h ((h.raise _).setOut _)

theorem showClamp (h : s.KeepsBits t o) (ho : o ≠ objAt O.OUT_STATUS n) : s.KeepsBits (t.showClamp n) o := by
  unfold State.showClamp
  extract_lets x past s1 s2
  have h2 : s.KeepsBits s2 o := ((h.setOut _).raiseIf _ _).setOn F.OUT_STATUS_FMAX_CLAMP ho _
  exact .ite (h2.setOn F.OUT_STATUS_ALIGNED ho _) h2

theorem showOut (h : s.KeepsBits t o) (ho : o ≠ objAt O.OUT_STATUS n) : s.KeepsBits (t.showOut n) o := by
  unfold State.showOut
  extract_lets q s0 x wait edge s1 s2 s3
  have h0 : s.KeepsBits s0 o := .ite h.quench h
  have h3 : s.KeepsBits s3 o := (((h0.setOut _).showClamp ho).setFld F.OUT_STATUS_STATE ho _).setOn
    F.OUT_STATUS_HELD_CHANGE ho _
  exact .ite (h3.setOn F.OUT_STATUS_ALIGNED ho _) h3

theorem startChange (h : s.KeepsBits t o) (ho : o ≠ objAt O.OUT_STATUS n) (goal : Nat × Nat) (x : Tick) :
    s.KeepsBits (t.startChange n goal x) o := by
  unfold State.startChange
  extract_lets s0 x0 x1 b s1
  have h1 : s.KeepsBits s1 o := .ite (h.quench.setOut _) (h.setOut _)
  exact (h1.setOn F.OUT_STATUS_ALIGNED ho _).showOut ho

end State.KeepsBits

section
variable (s : State) {n : Nat}

/-- The end of a glide is told, whether or not a change that was held takes over (R237, R238). -/
theorem State.endGlide_done (n : Nat) :
    (s.endGlide n).objBit (F.OUT_STICKY_GLIDE_DONE.obj n) F.OUT_STICKY_GLIDE_DONE.lo = true := by
  have hdone : (s.closeGlide n).objBit (F.OUT_STICKY_GLIDE_DONE.obj n) F.OUT_STICKY_GLIDE_DONE.lo = true :=
    State.raise_self _ _ n 0 (by decide)
  have hne : F.OUT_STICKY_GLIDE_DONE.obj n ≠ objAt O.OUT_STATUS n :=
    Fld.obj_ne_of_base (f := F.OUT_STATUS_STATE) (by decide) n
  cases hheld : (s.out n).held with
  | none =>
    rw [s.endGlide_of_none hheld]
    exact (State.KeepsBits.refl _ _).showOut hne _ (by decide) hdone
  | some g =>
    rw [s.endGlide_of_some hheld]
    exact (State.KeepsBits.refl _ _).startChange hne g s.dts _ (by decide) hdone

/-! ### RAMP_END (R236, R238) -/

/-- The ramp of output n has come to its end. -/
def State.rampOver (s : State) (n : Nat) : Prop := (s.out n).stage = 1 ∧ (s.out n).stageEnd ≤ s.now

/-- The output runs at the frequency that its ramp went to. -/
def State.atGoal (s : State) (n : Nat) : State :=
  s.setOut n { s.out n with num := (s.out n).goal.1, den := (s.out n).goal.2 }

theorem State.atGoal_out (n : Nat) :
    (s.atGoal n).out n = { s.out n with num := (s.out n).goal.1, den := (s.out n).goal.2 } := s.out_setOut_self n _

theorem State.rampEnd_neg (h : ¬ s.rampOver n) (delta : Int) : s.rampEnd n delta = s :=
  if_neg fun hb => h (by simpa [State.rampOver] using hb)

theorem State.rampEnd_pos (h : s.rampOver n) (delta : Int) : s.rampEnd n delta =
    if s.on F.OUT_CONFIG_ALIGN n then
      (s.atGoal n).startAlign n (wrapPeriod (s.out n).goal.1 (s.out n).goal.2 delta)
    else (s.atGoal n).endGlide n :=
  if_pos (by simpa [State.rampOver] using h)

theorem State.rampEnd_aligns (h : s.rampOver n) (halign : s.on F.OUT_CONFIG_ALIGN n = true) (delta : Int) :
    ((s.rampEnd n delta).out n).stage = 2 ∧ ((s.rampEnd n delta).out n).num = (s.out n).goal.1 ∧
    ((s.rampEnd n delta).out n).den = (s.out n).goal.2 := by
  obtain ⟨hstage, -, hnum, hden⟩ :=
    (s.atGoal n).startAlign_out n (wrapPeriod (s.out n).goal.1 (s.out n).goal.2 delta)
  rw [s.rampEnd_pos h, if_pos halign, hstage, hnum, hden, s.atGoal_out]
  exact ⟨rfl, rfl, rfl⟩

theorem State.rampEnd_ends (h : s.rampOver n) (halign : s.on F.OUT_CONFIG_ALIGN n = false)
    (hheld : (s.out n).held = none) (delta : Int) :
    ((s.rampEnd n delta).out n).stage = 0 ∧ ((s.rampEnd n delta).out n).num = (s.out n).goal.1 ∧
    ((s.rampEnd n delta).out n).den = (s.out n).goal.2 := by
  obtain ⟨hstage, hnum, hden⟩ := (s.atGoal n).endGlide_out_of_none (n := n) (by rw [s.atGoal_out, hheld])
  rw [s.rampEnd_pos h, if_neg (ne_true_of_eq_false halign), hstage, hnum, hden, s.atGoal_out]
  exact ⟨rfl, rfl, rfl⟩

theorem State.rampEnd_goes_on (h : s.rampOver n) (halign : s.on F.OUT_CONFIG_ALIGN n = false) {g : Nat × Nat}
    (hheld : (s.out n).held = some g) (delta : Int) :
    ((s.rampEnd n delta).out n).goal = g ∧ ((s.rampEnd n delta).out n).held = none := by
  rw [s.rampEnd_pos h, if_neg (ne_true_of_eq_false halign)]
  exact (s.atGoal n).endGlide_out_of_some (by rw [s.atGoal_out, hheld])

/-! ### GLIDE_DONE (R237, R238, R240) -/

/-- The alignment of output n has come to its end. -/
def State.alignOver (s : State) (n : Nat) : Prop := (s.out n).stage = 2 ∧ (s.out n).stageEnd ≤ s.now

/-- R240: the phase that the clamp kept the alignment from removing. -/
def State.alignRest (s : State) (n : Nat) : Int := s.alignLost n (s.out n).delta (s.headroom n - s.pullRate)

theorem State.glideDone_neg (h : ¬ s.alignOver n) : s.glideDone n = s :=
  if_neg fun hb => h (by simpa [State.alignOver] using hb)

theorem State.glideDone_pos (h : s.alignOver n) :
    s.glideDone n = if s.alignRest n = 0 then s.endGlide n else s.startAlign n (s.alignRest n) :=
  if_pos (by simpa [State.alignOver] using h)

theorem State.glideDone_ends (h : s.alignOver n) (hrest : s.alignRest n = 0) : s.glideDone n = s.endGlide n :=
  (s.glideDone_pos h).trans (if_pos hrest)

theorem State.glideDone_aligns (h : s.alignOver n) (hrest : ¬ s.alignRest n = 0) :
    s.glideDone n = s.startAlign n (s.alignRest n) := (s.glideDone_pos h).trans (if_neg hrest)

/-! ### OUTPUT_RESUME (R235, R239) -/

theorem State.dark_setOn_of_vault {f : Fld} (hf : f.obj n ≠ O.VAULT_STATUS) (b : Bool) : (s.setOn f b n).dark = s.dark := by
  have hval : (s.setOn f b n).val O.VAULT_STATUS = s.val O.VAULT_STATUS := State.val_setFld_ne _ _ _ _ _ _ hf.symm
  unfold State.dark
  rw [State.on_of_val (f := F.VAULT_STATUS_HALTED) hval, State.on_of_val (f := F.VAULT_STATUS_BOOT_SERVICE) hval]
  rfl

/-- What OUT_STATUS shows of an output does not block it. -/
theorem State.outBlocked_setOn_status (hn : n < 8) {f : Fld} (hf : f.base = O.OUT_STATUS) (b : Bool) :
    (s.setOn f b n).outBlocked n = s.outBlocked n := by
  have hobj : f.obj n = objAt O.OUT_STATUS n := by rw [Fld.obj, hf]
  have hother {g : Fld} {i : Nat} (hg : g.obj i ≠ objAt O.OUT_STATUS n) : (s.setOn f b n).fld g i = s.fld g i :=
    s.fld_setFld_obj f g _ n 0 i 0 (hobj ▸ hg)
  have hclass : F.LOOP_STATUS_CLASS.obj 0 ≠ objAt O.OUT_STATUS n := by
    show objAt O.LOOP_STATUS 0 ≠ objAt O.OUT_STATUS n
    unfold objAt O.LOOP_STATUS O.OUT_STATUS
    omega
  have hvault : f.obj n ≠ O.VAULT_STATUS := by
    rw [hobj]
    unfold objAt O.OUT_STATUS O.VAULT_STATUS
    omega
  unfold State.outBlocked State.classSent
  rw [hother hclass, hother (Fld.obj_ne_of_base (f := F.OUT_STATUS_STATE) (by decide) n),
    hother (Fld.obj_ne_of_base (f := F.OUT_STATUS_STATE) (by decide) n), s.dark_setOn_of_vault hvault]
  rfl

/-- The rising edge with which output n resumes has come. -/
def State.mayResume (s : State) (n : Nat) : Bool :=
  (s.out n).squelched && !s.outBlocked n && (s.out n).quietTo.any (· ≤ s.dts)

theorem State.outputResume_neg (h : ¬ s.mayResume n = true) : s.outputResume n = s := if_neg h

theorem State.outputResume_pos (h : s.mayResume n = true) : s.outputResume n =
    ((s.setOut n { s.out n with squelched := false, quietTo := none, blocked := false, lag := 0 }).setOn
      F.OUT_STATUS_ALIGNED (s.on F.OUT_CONFIG_ALIGN n && (s.out n).stage == 0) n).showOut n := if_pos h

/-- An output that resumes runs. -/
theorem State.outputResume_runs (hn : n < 8) (h : s.mayResume n = true) :
    ((s.outputResume n).out n).squelched = false ∧ ((s.outputResume n).out n).quietTo = none := by
  have hblocked : s.outBlocked n = false := by
    rw [State.mayResume, Bool.and_eq_true, Bool.and_eq_true, Bool.not_eq_true'] at h
    obtain ⟨⟨-, hblocked⟩, -⟩ := h
    exact hblocked
  rw [s.outputResume_pos h]
  refine State.showOut_runs _ ?_ ?_ ?_
  · rw [State.outBlocked_setOn_status _ hn rfl]
    exact hblocked
  · rw [State.setOn_out, State.out_setOut_self]
  · rw [State.setOn_out, State.out_setOut_self]

end
end Sys2Proof.Machine
end

section
/-! PROOFS. R243: PPS_PULSE makes the edge of a pulse, squelches it whole, omits it, or finds none. -/

namespace Sys2Proof.Machine

section
variable (s : State) {p q : Nat}

theorem State.pulse_raise (f : Fld) (i : Nat) : (s.raise f i).pulse q = s.pulse q := by
  unfold State.pulse
  rw [(State.raise_same f i 0 (by decide) (by decide) (Nat.zero_le _) (.refl (2 ^ 30) 0 s)).pps (by decide)]

theorem State.pulse_setPulse_self (p : Nat) (x : Pulse) : (s.setPulse p x).pulse p = x := Map.get_set_self _ p x s.pps

theorem State.pulse_setPulse_ne (h : q ≠ p) (x : Pulse) : (s.setPulse p x).pulse q = s.pulse q :=
  Map.get_set_ne _ _ h x s.pps

/-- The instant, as State.now counts, at which the latest active edge of pulse output p falls. -/
def State.ppsAt (s : State) (p : Nat) : Nat := ((s.now : Int) - ((s.dts : Int) - s.ppsEdge p)).toNat

/-- No edge falls now: time or the output is off, the edge has been made, or it is from before the settings in force. -/
def State.ppsIdle (s : State) (p : Nat) : Prop :=
  s.tempo = false ∨ s.on F.PPS_CONFIG_ENABLE p = false ∨ (s.pulse p).at_ = s.ppsAt p + 1 ∨ s.ppsEdge p < (s.pulse p).since

/-- R235: the class sent, or the device itself, squelches the pulse. -/
def State.ppsSquelched (s : State) (p : Nat) : Bool :=
  classSquelch s.classSent (s.fld F.PPS_CONFIG_SQUELCH_CLASS p) || s.dark

/-- The edge before this one is less than 500 ms away. -/
def State.ppsNear (s : State) (p : Nat) : Prop :=
  (s.pulse p).at_ ≠ 0 ∧ s.ppsAt p + 1 < (s.pulse p).at_ + 500 * ms

theorem State.ppsPulse_idle (h : s.ppsIdle p) : s.ppsPulse p = s :=
  if_pos (by simpa [State.ppsIdle, State.ppsAt, or_assoc] using h)

theorem State.ppsPulse_falls (h : ¬ s.ppsIdle p) : s.ppsPulse p =
    if s.ppsSquelched p then s.raise F.PPS_STICKY_SQUELCHED p
    else if (s.pulse p).at_ ≠ 0 && s.ppsAt p + 1 < (s.pulse p).at_ + 500 * ms then s.raise F.PPS_STICKY_PPS_SKIP p
    else s.setPulse p { s.pulse p with at_ := s.ppsAt p + 1, width := s.fld F.PPS_WIDTH_NS p * ns } :=
  if_neg fun hb => h (by simpa [State.ppsIdle, State.ppsAt, or_assoc] using hb)

theorem State.ppsPulse_squelched (h : ¬ s.ppsIdle p) (hsquelch : s.ppsSquelched p = true) :
    s.ppsPulse p = s.raise F.PPS_STICKY_SQUELCHED p := (s.ppsPulse_falls h).trans (if_pos hsquelch)

theorem State.ppsPulse_omitted (h : ¬ s.ppsIdle p) (hsquelch : ¬ s.ppsSquelched p = true) (hnear : s.ppsNear p) :
    s.ppsPulse p = s.raise F.PPS_STICKY_PPS_SKIP p :=
  (s.ppsPulse_falls h).trans ((if_neg hsquelch).trans (if_pos (by simpa [State.ppsNear] using hnear)))

theorem State.ppsPulse_made (h : ¬ s.ppsIdle p) (hsquelch : ¬ s.ppsSquelched p = true) (hnear : ¬ s.ppsNear p) :
    s.ppsPulse p = s.setPulse p { s.pulse p with at_ := s.ppsAt p + 1, width := s.fld F.PPS_WIDTH_NS p * ns } :=
  (s.ppsPulse_falls h).trans
    ((if_neg hsquelch).trans (if_neg fun hb => hnear (by simpa [State.ppsNear] using hb)))

/-- The other pulse outputs stand. -/
theorem State.ppsPulse_pulse_ne (h : q ≠ p) : (s.ppsPulse p).pulse q = s.pulse q := by
  by_cases hidle : s.ppsIdle p
  · rw [s.ppsPulse_idle hidle]
  · rw [s.ppsPulse_falls hidle]
    split
    · exact s.pulse_raise _ p
    · split
      · exact s.pulse_raise _ p
      · exact s.pulse_setPulse_ne h _

end
end Sys2Proof.Machine
end

section
/-! PROOFS. R235 to R240, R243: the commands RAMP_END, GLIDE_DONE, OUTPUT_RESUME and PPS_PULSE. -/

namespace Sys2Proof.Machine

/-- Settles O10: each event by whether its condition holds, a ramp's end by ALIGN and by what is held, an alignment's by what
the clamp left of it, a pulse by what becomes of its edge. -/
theorem outputsAndPulses : Obligations.OutputsAndPulses := by
  unfold Obligations.OutputsAndPulses
  refine ⟨fun t n s v hn hv => ?outs, fun t p s v e x hp hv he hx => ?pulse⟩
  case outs =>
    have hunit : outUnit n = true := decide_eq_true hn
    refine ⟨fun delta => ⟨_, onUnit_ok hunit _ _, ?ramp⟩, ⟨_, onUnit_ok hunit _ _, ?glide⟩,
      ⟨_, onUnit_ok hunit _ _, ?resume⟩⟩ <;> rw [← hv]
    case ramp =>
      split
      · next h =>
        exact ⟨fun halign => v.rampEnd_aligns h halign delta, fun halign hheld => v.rampEnd_ends h halign hheld delta,
          fun g halign hheld => v.rampEnd_goes_on h halign hheld delta⟩
      · next h => exact v.rampEnd_neg h delta
    case glide =>
      split
      · next h =>
        split
        · next hrest =>
          rw [v.glideDone_ends h hrest]
          exact ⟨v.endGlide_done n, fun hheld => (v.endGlide_out_of_none hheld).left, fun g => v.endGlide_out_of_some⟩
        · next hrest =>
          obtain ⟨hstage, hdelta, -⟩ := v.startAlign_out n (v.alignRest n)
          rw [v.glideDone_aligns h hrest]
          exact ⟨hstage, hdelta⟩
      · next h => exact v.glideDone_neg h
    case resume =>
      split
      · next h => exact v.outputResume_runs hn h
      · next h => exact v.outputResume_neg h
  case pulse =>
    have hunit : ppsUnit p = true := decide_eq_true hp
    refine ⟨_, onUnit_ok hunit _ _, ?_⟩
    rw [← hv]
    subst he hx
    refine ⟨fun q hq => v.ppsPulse_pulse_ne hq, ?_⟩
    split
    · next hidle => exact v.ppsPulse_idle hidle
    · next hidle =>
      split
      · next hsquelch =>
        rw [v.ppsPulse_squelched hidle hsquelch]
        exact ⟨v.pulse_raise _ p, State.raise_self _ _ p 0 (by decide)⟩
      · next hsquelch =>
        split
        · next hnear =>
          rw [v.ppsPulse_omitted hidle hsquelch hnear]
          exact ⟨v.pulse_raise _ p, State.raise_self _ _ p 0 (by decide)⟩
        · next hnear =>
          rw [v.ppsPulse_made hidle hsquelch hnear]
          exact v.pulse_setPulse_self p _

end Sys2Proof.Machine
end

section
/-! PROOFS. R247 to R253: what a protection group shows of its selector, of its requests and of the far end once it has looked
at its requests. -/

namespace Sys2Proof.Machine

section
variable (s : State) {g : Nat} {f : Fld}

/-! ### The selector and the bridge (R251) -/

/-- Neither the switch counter nor APS_STICKY lies in APS_STATUS. -/
theorem State.raiseIf_aps_fld (hg : g < 4096) (hf : f.base = O.APS_STATUS) {st : Fld} (hst : st.base = O.APS_STICKY)
    (b : Bool) : (s.raiseIf b st g).fld f g = s.fld f g :=
  s.fld_raiseIf_aside hg (by simp [Fld.aside, hf, hst, O.APS_STATUS, O.APS_STICKY]) b

theorem State.switched_fld (hg : g < 4096) (hf : f.base = O.APS_STATUS) :
    ((s.bump (objAt O.APS_SWITCHES g)).raise F.APS_STICKY_SWITCH g).fld f g = s.fld f g := by
  refine (State.raiseIf_aps_fld _ hg hf rfl true).trans (State.fld_of_val (State.val_setVal_ne _ ?_ _))
  rw [Fld.obj, hf]
  unfold objAt O.APS_STATUS O.APS_SWITCHES
  omega

@[simp] theorem State.setFld_apsOf (x i e m : Nat) : (s.setFld f x i e).apsOf m = s.apsOf m := rfl

theorem State.apsSelect_fld (hg : g < 4096) (hf : f.base = O.APS_STATUS) (hsel : F.APS_STATUS_SELECTED.apart f = true)
    (b : Bool) : (s.apsSelect g b).fld f g = s.fld f g := by
  unfold State.apsSelect
  split
  · rfl
  · exact (State.switched_fld _ hg hf).trans (s.fld_setOn_apart hsel b)

theorem State.apsSelect_selected (hg : g < 4096) (b : Bool) : (s.apsSelect g b).apsSelected g = b := by
  unfold State.apsSelect
  split
  · next h => exact h
  · exact (congrArg (· == 1) (State.switched_fld _ hg rfl)).trans (s.on_setOn_self _ _ _ _ rfl (by decide))

theorem State.apsMove_fld (hg : g < 4096) (hf : f.base = O.APS_STATUS) (hsel : F.APS_STATUS_SELECTED.apart f = true)
    (hbridge : F.APS_STATUS_BRIDGED.apart f = true) (act : Nat × Nat) : (s.apsMove g act).fld f g = s.fld f g := by
  have hmove (bridged sel : Bool) : ((s.setOn F.APS_STATUS_BRIDGED bridged g).apsSelect g sel).fld f g = s.fld f g :=
    (State.apsSelect_fld _ hg hf hsel sel).trans (s.fld_setOn_apart hbridge bridged)
  unfold State.apsMove
  dsimp only
  split
  · rfl
  · split
    exacts [hmove _ _, hmove _ _]

/-- The selector of a 1+1 group follows the request acted on; an exercise does not move it. -/
theorem State.apsMove_selected (hg : g < 4096) (harch : s.apsOneToOne g = false) (act : Nat × Nat) :
    (s.apsMove g act).apsSelected g = if act.1 = 4 then s.apsSelected g else act.2 == 1 := by
  unfold State.apsMove
  dsimp only
  split
  · rfl
  · rw [harch]
    exact State.apsSelect_selected _ hg _

/-! ### FOP and ARCH_MISMATCH (R253) -/

theorem State.apsWatch_fld (hg : g < 4096) (hf : f.base = O.APS_STATUS) (hfop : F.APS_STATUS_FOP.apart f = true)
    (harch : F.APS_STATUS_ARCH_MISMATCH.apart f = true) (sent : Nat × Nat) : (s.apsWatch g sent).fld f g = s.fld f g := by
  unfold State.apsWatch
  extract_lets a l masked off arch s1
  split
  · rw [State.fld_setOn_apart _ harch, State.fld_setOn_apart _ hfop]
    rfl
  · split
    · rw [State.fld_setOn_apart _ hfop, State.raiseIf_aps_fld _ hg hf rfl]
      rfl
    · rfl

/-- A disagreement of 50 ms declares the defect, and tells of it where it was not declared. -/
theorem State.apsDefect_declared {st : Fld} {off : Option Tick} (ok : Option Tick)
    (hoff : s.sinceOpt off (50 * ms) = true) (hf : f.base = O.APS_STATUS) (hst : st.base = O.APS_STICKY)
    (hbit : f.lo = f.hi ∧ f.hi < 96 ∧ st.lo < 96) : (s.apsDefect g f st off ok).on f g = true ∧
      (s.on f g = false → (s.apsDefect g f st off ok).objBit (st.obj g) st.lo = true) := by
  obtain ⟨hone, hhi, hlo⟩ := hbit
  rw [State.apsDefect, if_pos hoff]
  refine ⟨State.on_setOn_self _ _ _ _ _ hone hhi, fun hwas => ?_⟩
  have hother : st.obj g ≠ f.obj g := Fld.obj_ne_of_base (by rw [hf, hst]; decide) g
  rw [State.setOn, State.objBit_of_val (State.val_setFld_ne _ _ _ _ _ _ hother), hwas]
  exact State.raise_self _ _ _ _ hlo

/-- An agreement of 50 ms clears it. -/
theorem State.apsDefect_cleared {st : Fld} {off ok : Option Tick} (hoff : ¬ s.sinceOpt off (50 * ms) = true)
    (hok : s.sinceOpt ok (50 * ms) = true) (hbit : f.lo = f.hi ∧ f.hi < 96) :
    (s.apsDefect g f st off ok).on f g = false := by
  rw [State.apsDefect, if_neg hoff, if_pos hok]
  exact State.on_setOn_self _ _ _ _ _ hbit.1 hbit.2

theorem State.apsDefect_neither {st : Fld} {off ok : Option Tick} (hoff : ¬ s.sinceOpt off (50 * ms) = true)
    (hok : ¬ s.sinceOpt ok (50 * ms) = true) : s.apsDefect g f st off ok = s := by
  rw [State.apsDefect, if_neg hoff, if_neg hok]

/-! ### The group looks at its requests (R250, R251) -/

/-- The group's bridge and selector follow request act; a selector on working ends the wait and the request not to revert. -/
def State.apsFollow (s : State) (g : Nat) (act : Nat × Nat) : State :=
  let t := s.apsMove g act
  t.setAps g { t.apsOf g with
    wtrFrom := if t.apsSelected g then (t.apsOf g).wtrFrom else none, dnr := (t.apsOf g).dnr && t.apsSelected g }

/-- The group shows the request that it sends, and whether it waits to restore. -/
def State.apsShow (s : State) (g : Nat) (sent : Nat × Nat) : State :=
  let t := (s.setFld F.APS_STATUS_LOCAL_REQ sent.1 g).setFld F.APS_STATUS_LOCAL_CH sent.2 g
  t.setOn F.APS_STATUS_WTR_RUNNING (t.apsOf g).wtrFrom.isSome g

/-- The steps of a group that is enabled, while the controller is not reinitialised. -/
theorem State.apsEval_steps (hon : s.apsOn g = true) (hbusy : s.reinitBusy 12 0 = false) : s.apsEval g =
    (((s.apsInputs g).apsFollow g ((s.apsInputs g).apsActing g).1).apsShow g ((s.apsInputs g).apsActing g).2).apsWatch g
      ((s.apsInputs g).apsActing g).2 := by
  rw [State.apsEval, if_neg (by simp [hon, hbusy])]
  rfl

/-- A selector on working waits for nothing. -/
theorem State.apsFollow_waits (act : Nat × Nat) (h : (s.apsMove g act).apsSelected g = false) :
    ((s.apsFollow g act).apsOf g).wtrFrom = none := by
  rw [State.apsFollow, State.apsOf_setAps_self, h]
  rfl

/-- A field of APS_STATUS that a group's own requests do not move. -/
def Fld.besideLocal (f : Fld) : Bool :=
  f.base == O.APS_STATUS && [F.APS_STATUS_SELECTED, F.APS_STATUS_BRIDGED, F.APS_STATUS_LOCAL_REQ, F.APS_STATUS_LOCAL_CH,
    F.APS_STATUS_WTR_RUNNING, F.APS_STATUS_FOP, F.APS_STATUS_ARCH_MISMATCH].all (·.apart f)

/-- What is shown of the far end stands while the group looks at its requests. -/
theorem State.apsEval_fld (hg : g < 4096) (h : f.besideLocal = true) : (s.apsEval g).fld f g = s.fld f g := by
  obtain ⟨hf, hsel, hbridge, hreq, hch, hwait, hfop, harch⟩ : f.base = O.APS_STATUS ∧
      F.APS_STATUS_SELECTED.apart f = true ∧ F.APS_STATUS_BRIDGED.apart f = true ∧
      F.APS_STATUS_LOCAL_REQ.apart f = true ∧ F.APS_STATUS_LOCAL_CH.apart f = true ∧
      F.APS_STATUS_WTR_RUNNING.apart f = true ∧ F.APS_STATUS_FOP.apart f = true ∧
      F.APS_STATUS_ARCH_MISMATCH.apart f = true := by simpa [Fld.besideLocal] using h
  by_cases hlooks : s.apsOn g = true ∧ s.reinitBusy 12 0 = false
  · rw [s.apsEval_steps hlooks.1 hlooks.2, State.apsWatch_fld _ hg hf hfop harch, State.apsShow,
      State.fld_setOn_apart _ hwait, State.fld_setFld_apart _ hch, State.fld_setFld_apart _ hreq]
    exact State.apsMove_fld (s.apsInputs g) hg hf hsel hbridge _
  · rw [State.apsEval, if_pos (by simpa [not_and_or, imp_iff_not_or] using hlooks)]

section
variable (hg : g < 4096) (hon : s.apsOn g = true) (hbusy : s.reinitBusy 12 0 = false)
include hg hon hbusy

/-- A field that FOP and ARCH_MISMATCH leave reads as the group shows it. -/
theorem State.apsEval_shows (hf : f.base = O.APS_STATUS) (hfop : F.APS_STATUS_FOP.apart f = true)
    (harch : F.APS_STATUS_ARCH_MISMATCH.apart f = true) : (s.apsEval g).fld f g =
      (((s.apsInputs g).apsFollow g ((s.apsInputs g).apsActing g).1).apsShow g ((s.apsInputs g).apsActing g).2).fld f g := by
  rw [s.apsEval_steps hon hbusy, State.apsWatch_fld _ hg hf hfop harch]

theorem State.apsEval_selects : (s.apsEval g).apsSelected g =
    ((s.apsInputs g).apsMove g ((s.apsInputs g).apsActing g).1).apsSelected g := by
  have hshown := s.apsEval_shows (f := F.APS_STATUS_SELECTED) hg hon hbusy rfl (by decide) (by decide)
  rw [State.apsShow, State.fld_setOn_apart _ (by decide), State.fld_setFld_apart _ (by decide),
    State.fld_setFld_apart _ (by decide)] at hshown
  exact congrArg (· == 1) hshown

/-- A selector on working ends the wait. -/
theorem State.apsEval_waits (hsel : (s.apsEval g).apsSelected g = false) :
    (s.apsEval g).on F.APS_STATUS_WTR_RUNNING g = false := by
  rw [s.apsEval_selects hg hon hbusy] at hsel
  rw [State.on, s.apsEval_shows hg hon hbusy rfl (by decide) (by decide)]
  refine (State.on_setOn_self _ _ _ _ _ rfl (by decide)).trans ?_
  rw [State.setFld_apsOf, State.setFld_apsOf, State.apsFollow_waits _ _ hsel]
  rfl

/-- The request sent is shown. -/
theorem State.apsEval_local : (s.apsEval g).fld F.APS_STATUS_LOCAL_REQ g = ((s.apsInputs g).apsActing g).2.1 % 16 ∧
    (s.apsEval g).fld F.APS_STATUS_LOCAL_CH g = ((s.apsInputs g).apsActing g).2.2 % 16 := by
  rw [s.apsEval_shows hg hon hbusy rfl (by decide) (by decide), s.apsEval_shows hg hon hbusy rfl (by decide) (by decide),
    State.apsShow]
  constructor
  · rw [State.fld_setOn_apart _ (by decide), State.fld_setFld_apart _ (by decide)]
    exact State.fld_setFld_self _ _ _ _ _ (by decide) (by decide)
  · rw [State.fld_setOn_apart _ (by decide)]
    exact State.fld_setFld_self _ _ _ _ _ (by decide) (by decide)

end

/-- A unidirectional group acts on its own request, and sends it. -/
theorem State.apsActing_unidirectional (hbidir : s.on F.APS_CONFIG_BIDIR g = false) :
    s.apsActing g = (s.apsLocal g, s.apsLocal g) := by
  rw [State.apsActing, if_neg (by simp [hbidir])]

/-- R250, R251: a unidirectional 1+1 group selects by its highest local request, and shows it. -/
theorem State.apsEval_unidirectional (hg : g < 4096) (hon : s.apsOn g = true) (hbusy : s.reinitBusy 12 0 = false)
    (hbidir : s.on F.APS_CONFIG_BIDIR g = false) (harch : s.apsOneToOne g = false) {r : Nat × Nat}
    (hr : r = (s.apsInputs g).apsLocal g) : (s.apsEval g).fld F.APS_STATUS_LOCAL_REQ g = r.1 % 16 ∧
      (s.apsEval g).fld F.APS_STATUS_LOCAL_CH g = r.2 % 16 ∧
      (s.apsEval g).apsSelected g = (if r.1 = 4 then s.apsSelected g else r.2 == 1) := by
  have hacting : (s.apsInputs g).apsActing g = (r, r) := by
    rw [hr]
    exact State.apsActing_unidirectional _ hbidir
  obtain ⟨hreq, hch⟩ := s.apsEval_local hg hon hbusy
  have hsel := s.apsEval_selects hg hon hbusy
  rw [hacting] at hreq hch hsel
  exact ⟨hreq, hch, hsel.trans (State.apsMove_selected (s.apsInputs g) hg harch r)⟩

/-! ### The events (R248, R250, R253) -/

theorem State.apsAccept_neg (h : ¬ (s.apsOn g && decide (3 ≤ (s.apsOf g).farRun.count)) = true) : s.apsAccept g = s :=
  if_pos (by simpa [Nat.not_le, imp_iff_not_or] using h)

theorem apsCode_lt {c : Nat} (h : c < 16) : apsCode c < 16 := by
  unfold apsCode
  split
  · decide
  · split
    exacts [by decide, h]

/-- R248, R249: the value accepted is shown by its code, its channel and its bridge. -/
theorem State.apsAccept_pos (hg : g < 4096) (h : (s.apsOn g && decide (3 ≤ (s.apsOf g).farRun.count)) = true) :
    (s.apsAccept g).fld F.APS_STATUS_FAR_REQ g = apsCode ((s.apsOf g).farRun.value / 4096 % 16) ∧
    (s.apsAccept g).fld F.APS_STATUS_FAR_CH g = (s.apsOf g).farRun.value / 256 % 16 ∧
    (s.apsAccept g).fld F.APS_STATUS_FAR_BRIDGED g = (s.apsOf g).farRun.value / 16 % 16 := by
  have hcode : apsCode ((s.apsOf g).farRun.value / 4096 % 16) < 16 := apsCode_lt (Nat.mod_lt _ (by decide))
  have hnibble (x : Nat) : x % 16 < 2 ^ 4 := Nat.mod_lt _ (by decide)
  rw [State.apsAccept, if_neg (by simpa [Nat.not_lt] using h)]
  extract_lets v code ch chg s1 s2
  have hshown {f : Fld} (hf : f.besideLocal = true) (hbase : f.base = O.APS_STATUS) :
      ((s2.raiseIf chg F.APS_STICKY_FAR_REQ_CHG g).apsEval g).fld f g = s2.fld f g :=
    (State.apsEval_fld _ hg hf).trans (State.raiseIf_aps_fld _ hg hbase rfl chg)
  rw [hshown (by decide) rfl, hshown (by decide) rfl, hshown (by decide) rfl]
  refine ⟨?_, ?_, State.fld_setFld_fits _ (by decide) (hnibble _)⟩
  · rw [State.fld_setFld_apart _ (by decide), State.fld_setFld_apart _ (by decide)]
    exact State.fld_setFld_fits _ (by decide) hcode
  · rw [State.fld_setFld_apart _ (by decide)]
    exact State.fld_setFld_fits _ (by decide) (hnibble _)

theorem State.apsHoldOff_pos {prot degrade : Bool} {l : Nat} (hl : l = if prot then s.apsProt g else s.apsWork g)
    (hon : s.apsOn g = true) (h : (if degrade then s.sdCounted g l else s.sfCounted g l) = true) :
    s.apsHoldOff g prot degrade = s.apsEval g := by
  subst hl
  unfold State.apsHoldOff
  rw [if_pos (by rw [hon, h, Bool.and_self])]

/-- The group no longer waits to restore. -/
def State.apsWaited (s : State) (g : Nat) : State := s.setAps g { s.apsOf g with wtrFrom := none }

theorem State.apsWtr_pos (hon : s.apsOn g = true)
    (h : s.sinceOpt (s.apsOf g).wtrFrom (s.fld F.APS_TIMERS_WTR g * sec) = true) :
    s.apsWtr g = (s.apsWaited g).apsEval g :=
  if_pos (by rw [hon, h]; rfl)

/-- No failure of a group's lanes is counted, and no command is in force. -/
def State.apsCalm (s : State) (g : Nat) : Prop :=
  s.fld F.APS_COMMAND_CMD g = 0 ∧ s.sfCounted g (s.apsWork g) = false ∧ s.sdCounted g (s.apsWork g) = false ∧
    s.sfCounted g (s.apsProt g) = false ∧ s.sdCounted g (s.apsProt g) = false

/-- No failure of a group's working lane was counted before, and it does not hold back from reverting. -/
def Aps.settled (a : Aps) : Prop := a.sfWork = false ∧ a.sdWork = false ∧ a.dnr = false

theorem State.apsCalm_waited (h : s.apsCalm g) : (s.apsWaited g).apsCalm g := h

/-- Once it has waited, nothing asks a calm group to switch. -/
theorem State.apsLocal_waited (hcalm : s.apsCalm g) (hsettled : (s.apsOf g).settled) :
    ((s.apsWaited g).apsInputs g).apsLocal g = (0, 0) := by
  obtain ⟨hcmd, hsfWork, hsdWork, hsfProt, hsdProt⟩ := s.apsCalm_waited hcalm
  obtain ⟨hsf, hsd, hdnr⟩ := hsettled
  have hinputs : ((s.apsWaited g).apsInputs g).apsOf g =
      { s.apsOf g with sfWork := false, sdWork := false, sfProt := false, sdProt := false, wtrFrom := none, dnr := false } := by
    have hself : (s.apsWaited g).apsOf g = { s.apsOf g with wtrFrom := none } := State.apsOf_setAps_self _ _ _
    rw [State.apsInputs, State.apsOf_setAps_self]
    simp [hself, hsf, hsd, hdnr, hsfWork, hsdWork, hsfProt, hsdProt]
  have hnone : ((s.apsWaited g).apsInputs g).fld F.APS_COMMAND_CMD g = 0 := hcmd
  rw [State.apsLocal, hinputs, hnone]
  rfl

/-- R250: a calm unidirectional 1+1 group that has waited reverts. -/
theorem State.apsWtr_reverts (hg : g < 4096) (hon : s.apsOn g = true) (hbusy : s.reinitBusy 12 0 = false)
    (hbidir : s.on F.APS_CONFIG_BIDIR g = false) (harch : s.apsOneToOne g = false) (hcalm : s.apsCalm g)
    (hsettled : (s.apsOf g).settled) (h : s.sinceOpt (s.apsOf g).wtrFrom (s.fld F.APS_TIMERS_WTR g * sec) = true) :
    (s.apsWtr g).apsSelected g = false ∧ (s.apsWtr g).on F.APS_STATUS_WTR_RUNNING g = false ∧
      (s.apsWtr g).fld F.APS_STATUS_LOCAL_REQ g = 0 := by
  obtain ⟨hreq, -, hsel⟩ := State.apsEval_unidirectional (s.apsWaited g) hg hon hbusy hbidir harch
    (s.apsLocal_waited hcalm hsettled).symm
  rw [s.apsWtr_pos hon h]
  exact ⟨hsel, State.apsEval_waits _ hg hon hbusy hsel, hreq⟩

theorem State.fopChange_off {arch : Bool} (h : s.apsOn g = false) : s.fopChange g arch = s := by
  rw [State.fopChange, if_pos (by rw [h]; rfl)]

theorem State.fopChange_on {arch : Bool} (h : s.apsOn g = true) : s.fopChange g arch =
    (s.apsEval g).apsDefect g (if arch then F.APS_STATUS_ARCH_MISMATCH else F.APS_STATUS_FOP)
      (if arch then F.APS_STICKY_ARCH_MISMATCH else F.APS_STICKY_FOP)
      (if arch then ((s.apsEval g).apsOf g).archOffSince else ((s.apsEval g).apsOf g).disagreeSince)
      (if arch then ((s.apsEval g).apsOf g).archOkSince else ((s.apsEval g).apsOf g).agreeSince) := by
  cases arch <;> simp [State.fopChange, h]

end
end Sys2Proof.Machine
end

section
/-! PROOFS. R248 to R253: the commands APS_ACCEPTANCE, HOLD_OFF_EXPIRY, APS_WTR_EXPIRY and FOP_CHANGE. -/

namespace Sys2Proof.Machine

/-- Settles O11: a run of three frames is accepted and shown, and what the group then does leaves what it shows of the far end. -/
theorem apsAcceptsTheFarRequest : Obligations.ApsAcceptsTheFarRequest := by
  unfold Obligations.ApsAcceptsTheFarRequest
  intro t g s v hg hv
  refine ⟨_, onUnit_ok (decide_eq_true hg) _ _, ?_⟩
  rw [← hv]
  split
  · next h => exact v.apsAccept_pos (Nat.lt_trans hg (by decide)) h
  · next h => exact v.apsAccept_neg h

/-- Settles O12: hold-off and wait-to-restore by what a unidirectional 1+1 group selects when it looks at its requests, FOP
and ARCH_MISMATCH by how long the ends have disagreed or agreed. -/
theorem apsTimers : Obligations.ApsTimers := by
  unfold Obligations.ApsTimers
  refine ⟨fun t g s v hg hv hon hbusy hbidir harch => ?timers,
    fun t g s v w arch f st off ok hg hv hw hf hst hoff hok => ?defects⟩
  case timers =>
    have hunit : apsUnit g = true := decide_eq_true hg
    have hlt : g < 4096 := Nat.lt_trans hg (by decide)
    refine ⟨fun prot degrade l r hl hcounted hr => ⟨_, onUnit_ok hunit _ _, ?holdOff⟩,
      fun hwtr hcmd hsf hsd hdnr hsfWork hsdWork hsfProt hsdProt => ⟨_, onUnit_ok hunit _ _, ?wait⟩⟩ <;> rw [← hv]
    case holdOff =>
      rw [v.apsHoldOff_pos hl hon hcounted]
      exact v.apsEval_unidirectional hlt hon hbusy hbidir harch hr
    case wait =>
      exact v.apsWtr_reverts hlt hon hbusy hbidir harch ⟨hcmd, hsfWork, hsdWork, hsfProt, hsdProt⟩ ⟨hsf, hsd, hdnr⟩ hwtr
  case defects =>
    refine ⟨_, onUnit_ok (decide_eq_true hg) _ _, ?_⟩
    rw [← hv]
    have hbase : f.base = O.APS_STATUS ∧ st.base = O.APS_STICKY ∧ f.lo = f.hi ∧ f.hi < 96 ∧ st.lo < 96 := by
      rw [hf, hst]
      cases arch <;> decide
    obtain ⟨hfbase, hstbase, hone, hhi, hlo⟩ := hbase
    split
    · next hoffline => exact v.fopChange_off hoffline
    · next honline =>
      rw [v.fopChange_on (Bool.not_eq_false _ ▸ honline), ← hw, ← hf, ← hst, ← hoff, ← hok]
      split
      · next hlong => exact w.apsDefect_declared ok hlong hfbase hstbase ⟨hone, hhi, hlo⟩
      · next hshort =>
        split
        · next hagree => exact w.apsDefect_cleared hshort hagree ⟨hone, hhi⟩
        · next hundecided => exact w.apsDefect_neither hshort hundecided

end Sys2Proof.Machine
end

section
/-! PROOFS. R166, R255: what the path controller writes of SEL_STATE, on which page and of which members of the path. -/

namespace Sys2Proof.Machine

/-! ### SEL_STATE of an entry (R147) -/

theorem entrySel_entrySetSel (e : Entry) (x : Nat) : entrySel (entrySetSel e x) = x % 4 := by
  have hbits : bits (setBits (BitVec.ofNat 96 e.toNat) 39 38 x) 39 38 = x % 4 :=
    bits_setBits_self _ 39 38 x (by decide) (by decide)
  rw [← hbits, entrySel, entrySetSel, BitVec.toNat_ofNat]
  simp only [bits]
  omega

section
variable (s : State) {st m g : Nat} {b : Bool}

/-! ### The members of a path take SEL_STATE (R156, R255) -/

theorem Xc.setOn_pageFor (x : Xc) (b : Bool) (g : Nat) (e : Entry) (fn : Nat) :
    (x.setOn b g e).pageFor fn = x.pageFor fn := by
  cases b <;> rfl

theorem State.setSelOn_nextPage (b : Bool) (g st : Nat) : (s.setSelOn b g st).nextPage = s.nextPage := by
  unfold State.setSelOn State.nextPage
  dsimp only
  split
  · exact (Xc.setOn_pageFor _ _ _ _ _).trans (Xc.setOn_pageFor _ _ _ _ _)
  · exact Xc.setOn_pageFor _ _ _ _ _

theorem State.setSelOn_entryOn (b : Bool) (g st m : Nat) : (s.setSelOn b g st).xc.entryOn b m =
    if m = g then entrySetSel (s.xc.entryOn b g) st else s.xc.entryOn b m := by
  have hput : (s.xc.setOn b g (entrySetSel (s.xc.entryOn b g) st)).entryOn b m =
      if m = g then entrySetSel (s.xc.entryOn b g) st else s.xc.entryOn b m := by
    rw [Xc.entryOn_setOn]
    simp only [true_and]
  unfold State.setSelOn
  dsimp only
  split
  · rw [Xc.entryOn_setOn, if_neg (by simp)]
    exact hput
  · exact hput

/-- The output slots ms take SEL_STATE st, on the page of the next egress frame. -/
def State.selectAll (s : State) (ms : List Nat) (st : Nat) : State :=
  ms.foldl (fun s m => s.setSelOn s.nextPage m st) s

/-- What has SEL_STATE st before, or is named, has it after. -/
theorem State.selectAll_entrySel (hst : st < 4) (ms : List Nat)
    (h : m ∈ ms ∨ entrySel (s.xc.entryOn s.nextPage m) = st) :
    entrySel ((s.selectAll ms st).xc.entryOn s.nextPage m) = st := by
  induction ms generalizing s with
  | nil => exact h.resolve_left List.not_mem_nil
  | cons k ms ih =>
    have hrest := ih (s.setSelOn s.nextPage k st)
    rw [State.setSelOn_nextPage, State.setSelOn_entryOn] at hrest
    refine hrest ?_
    by_cases hk : m = k
    · rw [if_pos hk, entrySel_entrySetSel]
      exact .inr (Nat.mod_eq_of_lt hst)
    · rw [if_neg hk]
      exact h.imp_left fun hm => (List.mem_cons.mp hm).resolve_left hk

theorem State.ctlSelect_xc (g st : Nat) : (s.ctlSelect g st).xc =
    { (s.selectAll (s.outMembers g) st).xc with ctl := (s.ctlSelect g st).xc.ctl } := rfl

/-- The controller's choice stands on the page of the next egress frame, for every member of the path. -/
theorem State.ctlSelect_entrySel (hst : st < 4) (h : m ∈ s.outMembers g) :
    entrySel ((s.ctlSelect g st).xc.entryOn s.nextPage m) = st := by
  rw [State.ctlSelect_xc]
  exact s.selectAll_entrySel hst _ (.inl h)

/-! ### The controller looks at the wait to restore -/

theorem State.pathWatch_xc (g : Nat) : (s.pathWatch g).xc = s.xc := rfl

theorem State.pathWatch_nextPage (g : Nat) : (s.pathWatch g).nextPage = s.nextPage := rfl

/-- R36: no lane has more than 1,024 slots. -/
theorem State.laneSlots_le (l : Nat) : s.laneSlots l ≤ 1024 := by
  unfold State.laneSlots State.clientKbps
  split
  · exact Nat.zero_le _
  · generalize s.rate l = r
    unfold rateSlots
    split
    case h_9 => exact (by decide : clientSlots 10312500 ≤ 1024)
    case h_10 => exact (by decide : clientSlots 25781250 ≤ 1024)
    case h_11 => exact Nat.min_le_left _ _
    all_goals decide

section
variable {K B l : Nat} {t : State} (h : Same K B s t) (hB : 0x07000000 ≤ B) (hl : l < 96)
include h hB hl

theorem Same.lane_fld {f : Fld} (hf : f.base < 0x06000000) : t.fld f l = s.fld f l :=
  State.fld_of_val (h.objs _ (by unfold Fld.obj objAt; omega))

theorem Same.laneSlots : t.laneSlots l = s.laneSlots l := by
  have hrole : t.role l = s.role l := h.lane_fld s hB hl (by decide)
  have hrate : t.rate l = s.rate l := h.lane_fld s hB hl (by decide)
  have hkbps : t.fld F.CLIENT_RATE_RATE_KBPS l = s.fld F.CLIENT_RATE_RATE_KBPS l := h.lane_fld s hB hl (by decide)
  rw [State.laneSlots, State.laneSlots, State.clientKbps, State.clientKbps, hrole, hrate, hkbps]

theorem Same.txDesc (k : Nat) : t.desc O.TX_DESC l k = s.desc O.TX_DESC l k := by
  have hrole : t.isClient l = s.isClient l := congrArg (· == 3) (h.lane_fld s hB hl (f := F.LANE_CONFIG_ROLE) (by decide))
  have hle := s.laneSlots_le l
  rw [State.desc, State.desc, State.clientDesc, State.clientDesc, h.laneSlots s hB hl, hrole]
  split
  · rfl
  · rw [h.objs (objAt O.TX_DESC l k) (by unfold objAt O.TX_DESC; omega)]

/-- Where a lane's configuration and descriptors stand, so do the members of its paths (R129, R133). -/
theorem Same.txMembers (k : Nat) : t.members O.TX_DESC l k = s.members O.TX_DESC l k := by
  unfold State.members State.groupSlots
  simp only [h.txDesc s hB hl, h.laneSlots s hB hl]

end

theorem State.pathWatch_outMembers (hg : slotLane g < 96) : (s.pathWatch g).outMembers g = s.outMembers g := by
  rw [State.outMembers, State.outMembers,
    (State.pathWatch_same (K := 0) g (by decide) (Nat.le_refl _) (.refl _ _ s)).txMembers s (by decide) hg]

/-! ### The events (R255) -/

theorem slotIdx_place {l k : Nat} (hk : k < 1024) : slotLane (slotIdx l k) = l := by
  unfold slotLane slotIdx
  omega

/-- The source that a path's entry selects, and its other one. -/
def entrySelected (e : Entry) : Nat := if entrySel e = 1 then entryProt e else entryWork e
def entryOther (e : Entry) : Nat := if entrySel e = 1 then entryWork e else entryProt e

/-- The path moves to its other source. -/
theorem State.pathHoldOff_pos {l k : Nat} {e : Entry} (he : e = s.ctlEntry (slotIdx l k)) (hbusy : s.reinitBusy 12 0 = false)
    (hctl : s.controlled (slotIdx l k) = true) (hauto : entrySel e ≤ 1)
    (htrigger : s.on F.PATH_PROT_CONFIG_SD_TRIGGER l k = true)
    (hheld : s.sinceOpt (s.srcSdSince (entrySelected e)) (s.fld F.PATH_PROT_CONFIG_HOLD_OFF l k * (100 * ms)) = true)
    (hgood : s.srcGood (entryOther e) = true) :
    s.pathHoldOff l k = (s.ctlSelect (slotIdx l k) (1 - entrySel e)).pathWatch (slotIdx l k) := by
  subst he
  refine if_pos ?_
  rw [hbusy, hctl, decide_eq_true hauto, htrigger]
  exact (congrArg₂ and hheld hgood :)

theorem State.pathWtr_pos {l k : Nat} {w : State} (hw : w = s.pathWatch (slotIdx l k))
    (h : w.sinceOpt (w.pprot (slotIdx l k)).wtrFrom (w.fld F.PATH_PROT_CONFIG_WTR l k * sec) = true) :
    s.pathWtr l k = (w.ctlSelect (slotIdx l k) 0).pathWatch (slotIdx l k) := by
  subst hw
  exact if_pos h

end
end Sys2Proof.Machine
end

section
/-! PROOFS. R255: the commands PATH_HOLD_OFF_EXPIRY and PATH_WTR_EXPIRY. -/

namespace Sys2Proof.Machine

/-- Settles O13: either event has the controller write SEL_STATE, and every member of the path takes it. -/
theorem pathSelectorTimers : Obligations.PathSelectorTimers := by
  unfold Obligations.PathSelectorTimers
  intro t l k g s v e hl hk hv hg he
  have hunit : (laneUnit l && decide (k < 1024)) = true := by simp [laneUnit, hl, hk]
  subst hg
  refine ⟨fun hbusy hctl hauto htrigger hheld hgood => ⟨_, onUnit_ok hunit _ _, fun m hm => ?holdOff⟩,
    fun w hw h => ⟨_, onUnit_ok hunit _ _, fun m hm => ?wait⟩⟩ <;> rw [← hv]
  case holdOff =>
    rw [v.pathHoldOff_pos he hbusy hctl hauto htrigger hheld hgood, State.pathWatch_xc]
    exact v.ctlSelect_entrySel (by omega) hm
  case wait =>
    have hpage : w.nextPage = v.nextPage := by rw [hw, State.pathWatch_nextPage]
    have hmembers : w.outMembers (slotIdx l k) = v.outMembers (slotIdx l k) := by
      rw [hw, v.pathWatch_outMembers (by rw [slotIdx_place hk]; exact hl)]
    rw [v.pathWtr_pos hw h, State.pathWatch_xc, ← hpage]
    exact w.ctlSelect_entrySel (by decide) (hmembers ▸ hm)

end Sys2Proof.Machine
end

section
/-! PROOFS. R257, R258, R267 to R269: the roles of a seat, and what following a new selection leaves of the pair. -/

namespace Sys2Proof.Machine

section
variable (s : State)

@[simp] theorem State.raise_tandem (f : Fld) (i e : Nat) : (s.raise f i e).tandem = s.tandem :=
  (State.raise_same (K := 2 ^ 33) (B := 0) f i e (by decide) (by decide) (Nat.zero_le _) (.refl _ _ s)).tandem (by decide)

@[simp] theorem State.raiseIf_tandem (b : Bool) (f : Fld) (i e : Nat) : (s.raiseIf b f i e).tandem = s.tandem := by
  unfold State.raiseIf
  split
  exacts [s.raise_tandem f i e, rfl]

/-! ### The hold pin (R257) -/

/-- The level of the net, as the device sees it and shows it. -/
def State.pinSeen (s : State) (high : Bool) : State :=
  (s.modTandem fun x => { x with pinHigh := high, releasedAt := if high then some s.dts else none }).showPin

theorem State.pinSeen_on (high : Bool) : (s.pinSeen high).on F.TANDEM_STATUS_HOLD_PIN =
    (high || !s.tandemOn || s.dark || s.resetLow) := State.on_setOn_self _ _ _ _ _ rfl (by decide)

theorem State.pinSeen_role (high : Bool) : (s.pinSeen high).tandemRole = s.tandemRole :=
  State.fld_setOn_apart _ (by decide) _

/-- R269: the net is let go while the standby may not take over. -/
def State.letGoInhibited (s : State) (high : Bool) : Bool :=
  high && !s.tandem.pinHigh && s.tandemOn && s.tandemRole = roleStandby && s.on F.TANDEM_STATUS_TAKEOVER_INHIBIT

theorem State.holdChange_eq (high : Bool) : s.holdChange high =
    if s.letGoInhibited high then (s.pinSeen high).raise F.TANDEM_STICKY_NO_ACTIVE else s.pinSeen high := by
  rw [State.holdChange, State.letGoInhibited]
  cases high <;> cases hpin : s.tandem.pinHigh <;> cases s.tandemOn <;> simp [State.pinSeen]

/-- Whatever the change, the device shows the pin as it sees it. -/
theorem State.holdChange_shows (high : Bool) : (s.holdChange high).tandem = (s.pinSeen high).tandem ∧
    ∀ {g : Fld}, F.TANDEM_STICKY_NO_ACTIVE.aside g = true → (s.holdChange high).fld g = (s.pinSeen high).fld g := by
  rw [s.holdChange_eq high]
  split
  · exact ⟨State.raise_tandem _ _ _ _, fun hg => State.fld_raise_aside _ (by decide) hg⟩
  · exact ⟨rfl, fun _ => rfl⟩

/-! ### The seat becomes active or standby (R258, R268) -/

theorem State.becomeActive_role : s.becomeActive.tandemRole = roleActive := by
  rw [State.tandemRole, State.becomeActive, State.fld_setOn_apart _ (by decide), State.fld_setOn_apart _ (by decide),
    State.showPin, State.fld_setOn_apart _ (by decide), State.modTandem_fld]
  exact State.fld_setFld_fits _ (by decide) (by decide)

theorem State.becomeActive_driving : s.becomeActive.tandem.driving = true := rfl

theorem State.becomeActive_resync : s.becomeActive.on F.TANDEM_STATUS_RESYNC = false := by
  rw [State.becomeActive, State.on_setOn_apart _ (by decide)]
  exact State.on_setOn_self _ _ _ _ _ rfl (by decide)

theorem State.becomeStandby_role : s.becomeStandby.tandemRole = roleStandby := by
  rw [State.tandemRole, State.becomeStandby, State.fld_setOn_apart _ (by decide), State.modTandem_fld]
  exact State.fld_setFld_fits _ (by decide) (by decide)

theorem State.becomeStandby_tandem :
    s.becomeStandby.tandem.driving = false ∧ s.becomeStandby.tandem.wantResync = true := ⟨rfl, rfl⟩

theorem State.becomeStandby_resync : s.becomeStandby.on F.TANDEM_STATUS_RESYNC = true :=
  State.on_setOn_self _ _ _ _ _ rfl (by decide)

/-- R258: STANDBY_WAIT has passed since the seat began to wait. -/
def State.waitOver (s : State) : Bool :=
  s.tandemOn && decide (s.tandemRole = roleWaiting) &&
    s.sinceOpt s.tandem.waitFrom (s.fld F.TANDEM_CONFIG_STANDBY_WAIT * ms)

theorem State.standbyWait_neg (h : ¬ s.waitOver = true) : s.standbyWait = s :=
  if_pos (by simpa [State.waitOver, imp_iff_not_or, or_assoc] using h)

theorem State.standbyWait_pos (h : s.waitOver = true) : s.standbyWait =
    if s.tandem.pinHigh && !s.tandem.peer.any (fun r => r.role == .active) then s.becomeActive else s.becomeStandby :=
  if_neg (by simpa [State.waitOver, and_assoc] using h)

end

/-! ### What the selection and the loop leave of the pair -/

/-- From s to t what the device holds of the pair stands, and every object of the pair's area. -/
structure State.PairStands (s t : State) : Prop where
  tandem : t.tandem = s.tandem
  objs : ∀ o, objArea o = 0x0D → t.val o = s.val o

namespace State.PairStands

variable {s t u : State} {f : Fld} {n : Nat}

theorem refl (s : State) : s.PairStands s := ⟨rfl, fun _ _ => rfl⟩

theorem trans (h : s.PairStands t) (k : t.PairStands u) : s.PairStands u :=
  ⟨k.tandem.trans h.tandem, fun o ho => (k.objs o ho).trans (h.objs o ho)⟩

theorem ite {p : Prop} [Decidable p] (ht : s.PairStands t) (hu : s.PairStands u) : s.PairStands (if p then t else u) := by
  split
  exacts [ht, hu]

theorem foldl {β : Type} {f : State → β → State} {xs : List β} (hf : ∀ w, ∀ x ∈ xs, s.PairStands w → s.PairStands (f w x))
    (h : s.PairStands t) : s.PairStands (xs.foldl f t) := by
  induction xs generalizing t with
  | nil => exact h
  | cons x xs ih =>
    exact ih (fun w y hy => hf w y (List.mem_cons_of_mem x hy)) (hf t x List.mem_cons_self h)

/-- What leaves the pair and the dictionary. -/
theorem same {B : Nat} (h : s.PairStands t) (k : Same (2 ^ 33) B t u) (hB : 0x0E000000 ≤ B) : s.PairStands u :=
  h.trans ⟨k.tandem (by decide), fun o ho => k.objs o (by unfold objArea at ho; omega)⟩

/-- No unit's field of an area before 0x0C lies in the pair's. -/
theorem obj_ne (hf : f.base < 0x0C000000) (hn : n < 4096) {o : Nat} (ho : objArea o = 0x0D) : o ≠ f.obj n := by
  unfold objArea at ho
  unfold Fld.obj objAt
  omega

theorem setFld (h : s.PairStands t) (hf : f.base < 0x0C000000) (hn : n < 4096) (x : Nat) : s.PairStands (t.setFld f x n) :=
  h.trans ⟨rfl, fun _ ho => State.val_setFld_ne _ _ _ _ _ _ (obj_ne hf hn ho)⟩

theorem setOn (h : s.PairStands t) (hf : f.base < 0x0C000000) (hn : n < 4096) (b : Bool) : s.PairStands (t.setOn f b n) :=
  h.setFld hf hn _

theorem raiseIf (h : s.PairStands t) (hf : f.base < 0x0C000000) (hn : n < 4096) (b : Bool) :
    s.PairStands (t.raiseIf b f n) :=
  h.trans ⟨t.raiseIf_tandem b f n 0,
    fun o ho => State.raiseIf_val t (obj_ne hf hn ho) fun hsticky => absurd (hsticky ▸ ho) (by decide)⟩

theorem raise (h : s.PairStands t) (hf : f.base < 0x0C000000) (hn : n < 4096) : s.PairStands (t.raise f n) :=
  h.raiseIf hf hn true

theorem setOut (h : s.PairStands t) (n : Nat) (x : Out) : s.PairStands (t.setOut n x) := h.trans ⟨rfl, fun _ _ => rfl⟩

theorem setTiming (h : s.PairStands t) (x : Timing) : s.PairStands { t with timing := x } := h.trans ⟨rfl, fun _ _ => rfl⟩

theorem drawn (h : s.PairStands t) : s.PairStands t.drawn := h.trans ⟨rfl, fun _ _ => rfl⟩

/-! #### Outputs (R235 to R240) -/

theorem quench (h : s.PairStands t) (hn : n < 8) : s.PairStands (t.quench n) :=
  .ite h ((h.raise (by decide) (by omega)).setOut _ _)

theorem showClamp (h : s.PairStands t) (hn : n < 8) : s.PairStands (t.showClamp n) := by
  have hlt : n < 4096 := by omega
  unfold State.showClamp
  extract_lets o past s1 s2
  have h2 : s.PairStands s2 := ((h.setOut n _).raiseIf (by decide) hlt _).setOn (by decide) hlt _
  exact .ite (h2.setOn (by decide) hlt _) h2

theorem showOut (h : s.PairStands t) (hn : n < 8) : s.PairStands (t.showOut n) := by
  have hlt : n < 4096 := by omega
  unfold State.showOut
  extract_lets q s0 o wait edge s1 s2 s3
  have h0 : s.PairStands s0 := .ite (h.quench hn) h
  have h3 : s.PairStands s3 :=
    (((h0.setOut n _).showClamp hn).setFld (by decide) hlt _).setOn (by decide) hlt _
  exact .ite (h3.setOn (by decide) hlt _) h3

theorem startAlign (h : s.PairStands t) (hn : n < 8) (d : Int) : s.PairStands (t.startAlign n d) :=
  showOut ((h.setOut n _).setOn (f := F.OUT_STATUS_ALIGNED) (by decide) (by omega) false) hn

theorem showOuts (h : s.PairStands t) : s.PairStands t.showOuts := by
  refine foldl (fun w n hn hw => ?_) h
  have hlt : n < 8 := List.mem_range.mp hn
  have hshown := hw.showOut hlt
  exact .ite (.ite (hshown.startAlign hlt _) (hshown.setOut n _)) hshown

/-! #### The selection and the loop (R216 to R224) -/

theorem showClass (h : s.PairStands t) : s.PairStands t.showClass := by
  obtain hclass | ⟨c, steps, hclass⟩ := t.showClass_reclassed
  · rw [hclass]
    exact h
  · rw [hclass]
    exact (h.setFld (by decide) (by decide) _).setFld (by decide) (by decide) _

theorem watchLock (h : s.PairStands t) : s.PairStands t.watchLock := .ite (.ite h (h.setTiming _)) (h.setTiming _)

theorem putCw (h : s.PairStands t) : s.PairStands t.putCw := by
  unfold State.putCw
  extract_lets st loop raw cw s1
  have h1 : s.PairStands s1 := (h.raiseIf (by decide) (by decide) _).setFld (by decide) (by decide) _
  exact .ite h1.drawn h1

theorem settle (h : s.PairStands t) : s.PairStands t.settle :=
  putCw (h.watchLock.showClass.showOuts.setTiming _)

theorem setLoop (h : s.PairStands t) (st : Nat) : s.PairStands (t.setLoop st) := by
  have hstate := (h.setFld (f := F.LOOP_STATUS_STATE) (n := 0) (by decide) (by decide) st).setFld (f := F.STATE_FN_FN) (n := 0)
    (by decide) (by decide) t.fn
  exact .ite h (((hstate.raise (by decide) (by decide)).raiseIf (by decide) (by decide) _).setTiming _)

theorem loopMove (h : s.PairStands t) (switched : Bool) : s.PairStands (t.loopMove switched) :=
  .ite (h.setLoop _) <| .ite (.ite (.ite (h.setLoop _) h) (.ite (h.setLoop _) (h.setLoop _)))
    (.ite h (.ite h (h.setLoop _)))

theorem setSelected (h : s.PairStands t) (x : Nat) : s.PairStands (t.setSelected x) := by
  have hmark {w : State} (hw : s.PairStands w) (b : Bool) (c : Nat) :
      s.PairStands (if c < 114 then w.setOn F.CAND_STATUS_SELECTED b c else w) := by
    split
    · next hc => exact hw.setOn (by decide) (by omega) b
    · exact hw
  have hput {w : State} (hw : s.PairStands w) (tm : Timing) : s.PairStands
      { (w.setFld F.LOOP_STATUS_SELECTED x).raise F.TE_STICKY_REF_SWITCH with timing := tm } :=
    ((hw.setFld (by decide) (by decide) x).raise (by decide) (by decide)).setTiming tm
  have h4 := hput (hmark (hmark h false (t.fld F.LOOP_STATUS_SELECTED)) true x)
  have hpull {w : State} (hw : s.PairStands w) (b : Bool) : s.PairStands (w.setOn F.LOOP_STATUS_PULL_ACTIVE b) :=
    hw.setOn (by decide) (by decide) b
  have hbuilt {w : State} (hw : s.PairStands w) : s.PairStands (w.buildOut x) := .ite hw (hw.trans ⟨rfl, fun _ _ => rfl⟩)
  exact .ite h (.ite (hpull (h4 _) _) (hpull ((hbuilt (h4 _)).setTiming _) _))

end State.PairStands

/-! ### Takeover (R268) -/

section
variable (s : State)

/-- Steps 1 and 2 of R268, before the device selects anew: it is active, and tells of it. -/
def State.seatTaken (s : State) : State :=
  ((s.becomeActive.setFld F.TAKEOVER_FN_FN s.fn).bump O.TAKEOVERS).raise F.TANDEM_STICKY_TAKEOVER

/-- What follows leaves the pair. -/
theorem State.takeOver_pairStands : s.seatTaken.PairStands s.takeOver :=
  (((State.PairStands.refl s.seatTaken).setSelected _).loopMove true).settle.same
    (State.rootMoves_same (B := O.GALLERY_STATUS) (by decide) (by decide) (.refl _ _ _)) (by decide)

theorem State.seatTaken_val {o : Nat} (ho : o = O.TANDEM_STATUS ∨ o = O.TAKEOVER_FN ∨ o = O.TAKEOVERS) : s.seatTaken.val o =
    ((s.becomeActive.setFld F.TAKEOVER_FN_FN s.fn).bump O.TAKEOVERS).val o :=
  State.raise_val _ (by rcases ho with rfl | rfl | rfl <;> decide) (by rcases ho with rfl | rfl | rfl <;> decide)

theorem State.becomeActive_val {o : Nat} (ho : o ≠ O.TANDEM_STATUS) : s.becomeActive.val o = s.val o := by
  have hset {t : State} {f : Fld} (hf : f.obj 0 = O.TANDEM_STATUS) (x : Nat) : (t.setFld f x).val o = t.val o :=
    State.val_setFld_ne _ _ _ _ _ _ (hf ▸ ho)
  rw [State.becomeActive, State.setOn, hset rfl, State.setOn, hset rfl, State.showPin, State.setOn, hset rfl,
    State.modTandem_val, State.setRole, hset rfl]

/-- R268: what the device shows of the takeover. -/
theorem State.seatTaken_shows : s.seatTaken.tandemRole = roleActive ∧ s.seatTaken.fld F.TAKEOVER_FN_FN = s.fn ∧
    s.seatTaken.fld F.TAKEOVERS_COUNT = (s.fld F.TAKEOVERS_COUNT + 1) % 2 ^ 64 := by
  refine ⟨?role, ?fn, ?count⟩
  case role =>
    refine (State.fld_of_val ((s.seatTaken_val (.inl rfl)).trans ?_)).trans s.becomeActive_role
    exact (State.val_setVal_ne _ (by decide) _).trans (State.val_setFld_ne _ _ _ _ _ _ (by decide))
  case fn =>
    refine (State.fld_of_val ((s.seatTaken_val (.inr (.inl rfl))).trans (State.val_setVal_ne _ (by decide) _))).trans ?_
    exact State.fld_setFld_fits _ (by decide) s.fn_lt
  case count =>
    have hval : s.seatTaken.val O.TAKEOVERS = BitVec.ofNat 96 (((s.val O.TAKEOVERS).toNat + 1) % 2 ^ 64) := by
      rw [s.seatTaken_val (.inr (.inr rfl)), State.bump, State.val_setVal_self, State.val_setFld_ne _ _ _ _ _ _ (by decide),
        s.becomeActive_val (by decide)]
    change bits (s.seatTaken.val O.TAKEOVERS) 63 0 = (bits (s.val O.TAKEOVERS) 63 0 + 1) % 2 ^ 64
    rw [hval, bits, bits, BitVec.toNat_ofNat]
    omega

theorem State.takeover_neg (h : ¬ s.takeoverFrom.any (· ≤ s.fn * frame) = true) : s.takeover = s := if_neg h

theorem State.takeover_pos (h : s.takeoverFrom.any (· ≤ s.fn * frame) = true) : s.takeover.tandemRole = roleActive ∧
    s.takeover.tandem.driving = true ∧ s.takeover.fld F.TAKEOVER_FN_FN = s.fn ∧
    s.takeover.fld F.TAKEOVERS_COUNT = (s.fld F.TAKEOVERS_COUNT + 1) % 2 ^ 64 ∧
    s.takeover.objBit (F.TANDEM_STICKY_TAKEOVER.obj 0) F.TANDEM_STICKY_TAKEOVER.lo = true := by
  obtain ⟨hrole, hfn, hcount⟩ := s.seatTaken_shows
  obtain ⟨htandem, hobjs⟩ := s.takeOver_pairStands
  rw [State.takeover, if_pos h]
  refine ⟨(State.fld_of_val (hobjs _ (by decide))).trans hrole, ?_, (State.fld_of_val (hobjs _ (by decide))).trans hfn,
    (State.fld_of_val (hobjs _ (by decide))).trans hcount, ?_⟩
  · rw [htandem, State.seatTaken, State.raise_tandem]
    rfl
  · rw [State.objBit_of_val (hobjs _ (by decide))]
    exact State.raise_self _ _ _ _ (by decide)

/-! ### Relinquish and force (R267, R269) -/

theorem State.relinquish_eq : s.relinquish =
    if s.tandemOn && decide (s.tandemRole = roleActive) && s.tandem.relinquishAt.isNone then
      { s with tandem := { s.tandem with relinquishAt := some (s.fn + 1) } } else s := rfl

/-- R267: a contained fault is outstanding in a subsystem of the mask, and the peer is there, ready and free to take over. -/
def State.maySurrender (s : State) (p : Nat → Bool) : Bool :=
  s.on F.TANDEM_CONFIG_AUTO_RELINQUISH && s.on F.TANDEM_STATUS_PEER_PRESENT && s.on F.TANDEM_STATUS_PEER_READY &&
    !s.on F.TANDEM_STATUS_PEER_INHIBIT && s.containedOut p

theorem State.autoRelinquish_eq {p : Nat → Bool}
    (hp : p = fun k => decide (1 ≤ k) && (s.fld F.RELINQUISH_MASK_MASK).testBit (k - 1)) :
    s.autoRelinquish = if s.maySurrender p then s.relinquish else s := by
  rw [hp]
  rfl

theorem State.takeoverForce_refused (hon : s.tandemOn = true) (hpin : s.tandem.pinHigh = false)
    (hdriving : s.tandem.driving = false) : s.takeoverForce = s.raise F.TANDEM_STICKY_FORCE_REFUSED := by
  rw [State.takeoverForce, if_neg (by simp [hon]), if_pos (by simp [hpin, hdriving])]

theorem State.takeoverForce_standby (hon : s.tandemOn = true) (hpin : s.tandem.pinHigh = true)
    (hrole : s.tandemRole = roleStandby) :
    s.takeoverForce = { s with tandem := { s.tandem with force := some s.dts } } := by
  rw [State.takeoverForce, if_neg (by simp [hon]), if_neg (by simp [hpin]), if_pos hrole]
  rfl

/-- A force is refused, stands, or finds no standby. -/
theorem State.takeoverForce_cases : s.takeoverForce = s ∨ s.takeoverForce = s.raise F.TANDEM_STICKY_FORCE_REFUSED ∨
    s.takeoverForce = { s with tandem := { s.tandem with force := some s.dts } } := by
  unfold State.takeoverForce
  split
  · exact .inl rfl
  · split
    · exact .inr (.inl rfl)
    · split
      exacts [.inr (.inr rfl), .inl rfl]

end

/-! ### TANDEM_COMMAND as a message (R318) -/

section
variable {s t v : State} {n : Nat} {x : Session} {w : Word}

/-- Where sessions change in their event queues alone, what is due after an op does not. -/
theorem State.GoesOn.of_noEvents (h : s.GoesOn n) (hs : t.sessions.map Session.noEvents = s.sessions.map Session.noEvents)
    (hf : t.faults = s.faults) : t.GoesOn n := by
  have hfind (u : State) : (u.session n).any (·.closing) =
      ((u.sessions.map Session.noEvents).find? (·.num == n)).any (·.closing) := by
    rw [List.find?_map]
    cases hx : u.session n with
    | none => rw [State.session] at hx; rw [show u.sessions.find? ((·.num == n) ∘ Session.noEvents) = none from hx]; rfl
    | some y => rw [State.session] at hx; rw [show u.sessions.find? ((·.num == n) ∘ Session.noEvents) = some y from hx]; rfl
  obtain ⟨hopen, hreset⟩ := h
  exact ⟨by rw [hfind t, hs, ← hfind s]; exact hopen, by rw [hf]; exact hreset⟩

theorem State.GoesOn.takeoverForce (h : s.GoesOn n) : s.takeoverForce.GoesOn n := by
  obtain hforce | hforce | hforce := s.takeoverForce_cases <;> rw [hforce]
  · exact h
  · refine h.of_noEvents (s.raise_noEvents _ _ _) ?_
    exact (State.raise_same (K := 2 ^ 42) (B := 0) _ _ _ (by decide) (by decide) (Nat.zero_le _) (.refl _ _ s)).faults
      (by decide)
  · exact h.congr rfl rfl

theorem State.GoesOn.relinquish (h : s.GoesOn n) : s.relinquish.GoesOn n := by
  rw [s.relinquish_eq]
  split
  · exact h.congr rfl rfl
  · exact h

theorem findRow_tandemCommand : (findRow O.TANDEM_COMMAND).any ObjRow.isControl = true := by decide +kernel

/-- A write of TANDEM_COMMAND acts by its bits and is told as done. -/
theorem State.oneOp_of_tandemCommand (h : v.writesObj n x O.TANDEM_COMMAND)
    (hgoes : ((v.heard n).commandBits O.TANDEM_COMMAND w).GoesOn n) : v.oneOp n (wr O.TANDEM_COMMAND [w]) =
      ((v.heard n).commandBits O.TANDEM_COMMAND w).told n ⟨O.TANDEM_COMMAND, stOk, 0, 1, []⟩ := by
  obtain ⟨r, hr, hcontrol⟩ := Option.any_eq_true _ _ |>.mp findRow_tandemCommand
  obtain ⟨⟨hacc, hwindow⟩, hwords⟩ : (r.acc = .wo ∧ r.window = 0) ∧ r.words = 1 := by
    simpa [ObjRow.isControl] using hcontrol
  have hfits : opFits r (wr O.TANDEM_COMMAND [w]) = true := by simp [opFits, wr, hwindow, hwords]
  have hact : (v.heard n).woOp n r (wr O.TANDEM_COMMAND [w]) = ((v.heard n).commandBits O.TANDEM_COMMAND w).did := by
    unfold State.woOp
    dsimp only [wr]
    rw [if_neg (by simp [hwindow]), if_neg (by decide), if_neg (by decide), if_pos (by decide)]
    rfl
  have hwrite := State.writeOp_of_writes (op := wr O.TANDEM_COMMAND [w]) h (.inl hacc)
  rw [if_pos hacc, hact] at hwrite
  refine State.oneOp_of_sees (op := wr O.TANDEM_COMMAND [w]) h.1 ?_ hgoes
  rw [State.execOp_of_write h.1 h.2.1 hr hfits rfl, hwrite]
  rfl

theorem State.oneOp_of_relinquish (h : v.writesObj n x O.TANDEM_COMMAND) :
    v.oneOp n (wr O.TANDEM_COMMAND [1]) = (v.heard n).relinquish.told n ⟨O.TANDEM_COMMAND, stOk, 0, 1, []⟩ :=
  State.oneOp_of_tandemCommand (w := 1) h (State.heard_goesOn h.1).relinquish

theorem State.oneOp_of_takeoverForce (h : v.writesObj n x O.TANDEM_COMMAND) :
    v.oneOp n (wr O.TANDEM_COMMAND [2]) = (v.heard n).takeoverForce.told n ⟨O.TANDEM_COMMAND, stOk, 0, 1, []⟩ :=
  State.oneOp_of_tandemCommand (w := 2) h (State.heard_goesOn h.1).takeoverForce

end
end Sys2Proof.Machine
end

section
/-! PROOFS. R257, R258, R267 to R269: the commands HOLD_PIN_CHANGE, STANDBY_WAIT_EXPIRY, TAKEOVER, AUTO_RELINQUISH, RELINQUISH
and TAKEOVER_FORCE. -/

namespace Sys2Proof.Machine

/-- Settles O30: the pin as it is seen, a waiting seat by what it sees, a takeover by its boundary, and the commands by the role
that they find. -/
theorem tandemSeats : Obligations.TandemSeats := by
  unfold Obligations.TandemSeats
  intro t n s v w x hn hn' hv hw
  have hsess : sessUnit n = true := by simp [sessUnit, hn, hn']
  have hop (op : Op) : (s.advance t).hostOp n op = w.oneOp n op := by rw [State.hostOp, ← hv, ← hw]
  refine ⟨fun high => ⟨v.holdChange high, by rw [hv]; rfl, ?pin⟩, ⟨v.standbyWait, by rw [hv]; rfl, ?wait⟩,
    ⟨v.takeover, by rw [hv]; rfl, ?takeover⟩, fun p hp => ⟨v.autoRelinquish, by rw [hv]; rfl, ?auto⟩,
    fun h => ⟨_, onUnit_ok hsess _ _, ?relinquish⟩, fun h => ⟨_, onUnit_ok hsess _ _, ?force⟩⟩
  case pin =>
    obtain ⟨htandem, hfld⟩ := v.holdChange_shows high
    refine ⟨by rw [htandem]; rfl, by rw [htandem]; rfl, (congrArg (· == 1) (hfld (by decide))).trans (v.pinSeen_on high),
      (hfld (by decide)).trans (v.pinSeen_role high), fun hhigh hlow hon hrole hinhibit => ?_⟩
    rw [v.holdChange_eq, if_pos (by simp [State.letGoInhibited, hhigh, hlow, hon, hrole, hinhibit])]
    exact State.raise_self _ _ _ _ (by decide)
  case wait =>
    split
    · next hover =>
      rw [v.standbyWait_pos hover]
      split
      · exact ⟨v.becomeActive_role, v.becomeActive_driving, v.becomeActive_resync⟩
      · exact ⟨v.becomeStandby_role, v.becomeStandby_tandem.1, v.becomeStandby_tandem.2, v.becomeStandby_resync⟩
    · next hover => exact v.standbyWait_neg hover
  case takeover =>
    split
    · next hdue => exact v.takeover_pos hdue
    · next hdue => exact v.takeover_neg hdue
  case auto =>
    rw [v.autoRelinquish_eq hp, v.relinquish_eq, ← ite_and]
    split
    · next hdue => exact if_pos (by simpa [State.maySurrender, and_assoc] using hdue)
    · next hdue => exact if_neg (by simpa [State.maySurrender, and_assoc] using hdue)
  case relinquish =>
    rw [hop, State.oneOp_of_relinquish h]
    refine ⟨rfl, ?_⟩
    change (w.heard n).relinquish.tandem = _
    rw [State.relinquish_eq]
    exact apply_ite State.tandem _ _ _
  case force =>
    rw [hop, State.oneOp_of_takeoverForce h]
    refine ⟨rfl, fun hon hpin hdriving => ?_, fun hon hpin hrole => ?_⟩
    · change (w.heard n).takeoverForce.tandem = _ ∧ (w.heard n).takeoverForce.objBit _ _ = true
      rw [State.takeoverForce_refused (w.heard n) hon hpin hdriving]
      exact ⟨State.raise_tandem _ _ _ _, State.raise_self _ _ _ _ (by decide)⟩
    · change (w.heard n).takeoverForce.tandem = _
      rw [State.takeoverForce_standby (w.heard n) hon hpin hrole]
      rfl

end Sys2Proof.Machine
end

section
/-! PROOFS. R260, R262, R264 to R266: what a record received makes of the peer's state and of the links' time, and the record
sent. -/

namespace Sys2Proof.Machine

section
variable (s : State) {p : Nat} {r : TandemRec} {g ok : Fld}

/-! ### The first good copy for a boundary (R260, R262) -/

/-- The peer's latest record and its state are shown. -/
def State.peerShown (s : State) (r : TandemRec) : State :=
  ((((s.modTandem fun x => { x with peer := some r, gotFn := some r.fn, missing := 0 }).setOn
    F.TANDEM_STATUS_PEER_PRESENT true).setOn F.TANDEM_STATUS_PEER_READY r.ready).setOn
    F.TANDEM_STATUS_PEER_INHIBIT r.inhibit).setFld F.PEER_VERSION_VERSION r.fwVersion

theorem State.peerShown_straps (r : TandemRec) : (s.peerShown r).straps = s.straps := by
  rw [State.peerShown, State.setFld_straps, State.setOn_straps, State.setOn_straps, State.setOn_straps,
    State.modTandem_straps]

theorem State.recordFirst_steps (r : TandemRec) :
    s.recordFirst r = ((s.peerShown r).seatConflict r).takeoverInhibit r := rfl

theorem State.recordFirst_tandem (r : TandemRec) :
    (s.recordFirst r).tandem = { s.tandem with peer := some r, gotFn := some r.fn, missing := 0 } := by
  rw [State.recordFirst_steps, State.takeoverInhibit, State.setOn_tandem, State.raiseIf_tandem, State.seatConflict,
    State.setOn_tandem, State.raiseIf_tandem]
  rfl

/-- A sticky bit of the pair leaves the fields outside TANDEM_STICKY. -/
theorem State.raiseIf_pair_fld {st : Fld} (hst : st.base = O.TANDEM_STICKY) (hg : g.base ≠ O.TANDEM_STICKY)
    (harea : g.base < 0x10000000) (b : Bool) : (s.raiseIf b st).fld g = s.fld g :=
  s.fld_raiseIf_aside (by decide) (by simp [Fld.aside, hst, hg, harea]) b

theorem State.takeoverInhibit_fld (hinhibit : F.TANDEM_STATUS_TAKEOVER_INHIBIT.apart g = true)
    (hg : g.base ≠ O.TANDEM_STICKY) (harea : g.base < 0x10000000) (r : TandemRec) :
    (s.takeoverInhibit r).fld g = s.fld g :=
  (State.fld_setOn_apart _ hinhibit _).trans (s.raiseIf_pair_fld rfl hg harea _)

theorem State.seatConflict_fld (hseat : F.TANDEM_STATUS_SEAT_CONFLICT.apart g = true)
    (hg : g.base ≠ O.TANDEM_STICKY) (harea : g.base < 0x10000000) (r : TandemRec) :
    (s.seatConflict r).fld g = s.fld g :=
  (State.fld_setOn_apart _ hseat _).trans (s.raiseIf_pair_fld rfl hg harea _)

theorem State.seatConflict_on (r : TandemRec) :
    (s.seatConflict r).on F.TANDEM_STATUS_SEAT_CONFLICT = (r.seatB == s.straps.tseat) :=
  State.on_setOn_self _ _ _ _ _ rfl (by decide)

/-- A field that neither the seats nor the versions decide reads as the peer's record shows it. -/
theorem State.recordFirst_fld (hinhibit : F.TANDEM_STATUS_TAKEOVER_INHIBIT.apart g = true)
    (hseat : F.TANDEM_STATUS_SEAT_CONFLICT.apart g = true) (hg : g.base ≠ O.TANDEM_STICKY) (harea : g.base < 0x10000000)
    (r : TandemRec) : (s.recordFirst r).fld g = (s.peerShown r).fld g := by
  rw [State.recordFirst_steps, State.takeoverInhibit_fld _ hinhibit hg harea, State.seatConflict_fld _ hseat hg harea]

/-- What is shown of the peer. -/
theorem State.recordFirst_shows (r : TandemRec) : (s.recordFirst r).on F.TANDEM_STATUS_PEER_PRESENT = true ∧
    (s.recordFirst r).on F.TANDEM_STATUS_PEER_READY = r.ready ∧
    (s.recordFirst r).on F.TANDEM_STATUS_PEER_INHIBIT = r.inhibit ∧
    (s.recordFirst r).fld F.PEER_VERSION_VERSION = r.fwVersion % 2 ^ 32 ∧
    (s.recordFirst r).on F.TANDEM_STATUS_SEAT_CONFLICT = (r.seatB == s.straps.tseat) := by
  have hon {f : Fld} (hinhibit : F.TANDEM_STATUS_TAKEOVER_INHIBIT.apart f = true)
      (hseat : F.TANDEM_STATUS_SEAT_CONFLICT.apart f = true) (hbase : f.base = O.TANDEM_STATUS) :
      (s.recordFirst r).on f = (s.peerShown r).on f :=
    congrArg (· == 1) (s.recordFirst_fld hinhibit hseat (by rw [hbase]; decide) (by rw [hbase]; decide) r)
  refine ⟨(hon (by decide) (by decide) rfl).trans ?present, (hon (by decide) (by decide) rfl).trans ?ready,
    (hon (by decide) (by decide) rfl).trans ?inhibit,
    (s.recordFirst_fld (by decide) (by decide) (by decide) (by decide) r).trans ?version, ?seat⟩
  case present =>
    rw [State.peerShown, State.on_setFld_apart _ (by decide), State.on_setOn_apart _ (by decide),
      State.on_setOn_apart _ (by decide)]
    exact State.on_setOn_self _ _ _ _ _ rfl (by decide)
  case ready =>
    rw [State.peerShown, State.on_setFld_apart _ (by decide), State.on_setOn_apart _ (by decide)]
    exact State.on_setOn_self _ _ _ _ _ rfl (by decide)
  case inhibit =>
    rw [State.peerShown, State.on_setFld_apart _ (by decide)]
    exact State.on_setOn_self _ _ _ _ _ rfl (by decide)
  case version => exact State.fld_setFld_self _ _ _ _ _ (by decide) (by decide)
  case seat =>
    rw [State.recordFirst_steps, State.on, State.takeoverInhibit_fld _ (by decide) (by decide) (by decide)]
    exact ((s.peerShown r).seatConflict_on r).trans (congrArg (r.seatB == ·.tseat) (s.peerShown_straps r))

/-! ### Good copies (R262) -/

/-- The record is taken where it is the first good copy for its boundary. -/
def State.recordTaken (s : State) (r : TandemRec) : State :=
  if s.tandem.gotFn = some r.fn then s else s.recordFirst r

theorem State.recordTaken_again (h : s.tandem.gotFn = some r.fn) : s.recordTaken r = s := if_pos h

theorem State.recordTaken_first (h : s.tandem.gotFn ≠ some r.fn) : s.recordTaken r = s.recordFirst r := if_neg h

/-- Which copy it is, and the links' time, do not depend on that. -/
theorem State.recordTaken_tandem (r : TandemRec) : (s.recordTaken r).tandem.t0Fn = s.tandem.t0Fn ∧
    (s.recordTaken r).tandem.late = s.tandem.late ∧ (s.recordTaken r).tandem.ledger = s.tandem.ledger := by
  by_cases h : s.tandem.gotFn = some r.fn
  · rw [s.recordTaken_again h]
    exact ⟨rfl, rfl, rfl⟩
  · rw [s.recordTaken_first h, State.recordFirst_tandem]
    exact ⟨rfl, rfl, rfl⟩

/-- A field of TANDEM_STATUS that the peer's record does not move. -/
def Fld.besidePeer (f : Fld) : Bool :=
  f.base == O.TANDEM_STATUS && [F.TANDEM_STATUS_PEER_PRESENT, F.TANDEM_STATUS_PEER_READY, F.TANDEM_STATUS_PEER_INHIBIT,
    F.PEER_VERSION_VERSION, F.TANDEM_STATUS_SEAT_CONFLICT, F.TANDEM_STATUS_TAKEOVER_INHIBIT].all (·.apart f)

theorem State.recordTaken_fld (h : g.besidePeer = true) (r : TandemRec) : (s.recordTaken r).fld g = s.fld g := by
  obtain ⟨hbase, hpresent, hready, hinhibit, hversion, hseat, htakeover⟩ : g.base = O.TANDEM_STATUS ∧
      F.TANDEM_STATUS_PEER_PRESENT.apart g = true ∧ F.TANDEM_STATUS_PEER_READY.apart g = true ∧
      F.TANDEM_STATUS_PEER_INHIBIT.apart g = true ∧ F.PEER_VERSION_VERSION.apart g = true ∧
      F.TANDEM_STATUS_SEAT_CONFLICT.apart g = true ∧ F.TANDEM_STATUS_TAKEOVER_INHIBIT.apart g = true := by
    simpa [Fld.besidePeer] using h
  unfold State.recordTaken
  split
  · rfl
  · rw [s.recordFirst_fld htakeover hseat (by rw [hbase]; decide) (by rw [hbase]; decide), State.peerShown,
      State.fld_setFld_apart _ hversion, State.fld_setOn_apart _ hinhibit, State.fld_setOn_apart _ hready,
      State.fld_setOn_apart _ hpresent, State.modTandem_fld]

/-- R262: T0's copy gives the sample. -/
theorem State.recordTime_t0 (r : TandemRec) : ∃ ledger, s.recordTime 0 r =
    { s with tandem := { s.tandem with t0Fn := some r.fn, late := none, ledger } } := ⟨_, rfl⟩

/-- T1's waits for the boundary, where T0's has not come. -/
theorem State.recordTime_t1 (r : TandemRec) : s.recordTime 1 r =
    { s with tandem := { s.tandem with late := if s.tandem.t0Fn = some r.fn then s.tandem.late else some r } } := by
  rw [State.recordTime, if_neg (by decide)]
  split <;> rfl

/-- The copy's time leaves the objects, and what is known of the peer. -/
theorem State.recordTime_leaves (hp : p < 2) (r : TandemRec) : (s.recordTime p r).dict = s.dict ∧
    (s.recordTime p r).tandem.peer = s.tandem.peer ∧ (s.recordTime p r).tandem.gotFn = s.tandem.gotFn ∧
    (s.recordTime p r).tandem.missing = s.tandem.missing := by
  obtain rfl | rfl : p = 0 ∨ p = 1 := by omega
  · obtain ⟨_, h⟩ := s.recordTime_t0 r
    rw [h]
    exact ⟨rfl, rfl, rfl, rfl⟩
  · rw [s.recordTime_t1 r]
    exact ⟨rfl, rfl, rfl, rfl⟩

/-- A good copy is heard on the port whose bit is ok. -/
def State.copyHeard (s : State) (ok : Fld) (p : Nat) (r : TandemRec) : State :=
  ((s.setOn ok true).recordTaken r).recordTime p r

theorem State.val_of_dict {t : State} (h : t.dict = s.dict) (o : Nat) : t.val o = s.val o :=
  congrArg (Map.get (objDefault o) o) h

/-! ### TANDEM_RECORD (R264, R265) -/

/-- R14: a record is heard on a port that runs, in a pair. -/
def State.hearsRecord (s : State) (p : Nat) : Bool := s.running && s.tandemOn && s.portHears p

theorem State.tandemRecord_unheard (h : ¬ s.hearsRecord p = true) (r : TandemRec) : s.tandemRecord p r = s :=
  if_pos (by simpa [State.hearsRecord, imp_iff_not_or, or_assoc] using h)

section
variable (hok : ok = if p = 0 then F.TANDEM_STATUS_T0_OK else F.TANDEM_STATUS_T1_OK) (h : s.hearsRecord p = true)
include hok h

theorem State.tandemRecord_bad {bad : Nat} (hbad : bad = if p = 0 then O.RECORD_BAD_T0 else O.RECORD_BAD_T1)
    (hr : recordBad r = true) : s.tandemRecord p r = (s.setOn ok false).bump bad := by
  have hheard : ¬ (!s.running || !s.tandemOn || !s.portHears p) = true := by
    simpa [State.hearsRecord, and_assoc] using h
  rw [State.tandemRecord, if_neg hheard, if_pos hr, hok, hbad]

theorem State.tandemRecord_good (hr : ¬ recordBad r = true) :
    s.tandemRecord p r = s.copyHeard ok p r := by
  have hheard : ¬ (!s.running || !s.tandemOn || !s.portHears p) = true := by
    simpa [State.hearsRecord, and_assoc] using h
  rw [State.tandemRecord, if_neg hheard, if_neg hr, hok]
  rfl

end

/-- R265: a bad record is counted on its port, and not used. -/
theorem State.countedBad {bad : Nat} (hok : ok.obj 0 ≠ bad) (hbit : ok.lo = ok.hi ∧ ok.hi < 96) :
    ((s.setOn ok false).bump bad).on ok = false ∧
    ((s.setOn ok false).bump bad).val bad = BitVec.ofNat 96 (((s.val bad).toNat + 1) % 2 ^ 64) := by
  refine ⟨?_, ?_⟩
  · rw [State.bump, State.on_of_val (State.val_setVal_ne _ hok _)]
    exact State.on_setOn_self _ _ _ _ _ hbit.1 hbit.2
  · rw [State.bump, State.val_setVal_self, State.setOn, State.val_setFld_ne _ _ _ _ _ _ hok.symm]

theorem State.copyHeard_ok (hp : p < 2) (hbit : ok.lo = ok.hi ∧ ok.hi < 96) (hok : ok.besidePeer = true)
    (r : TandemRec) : (s.copyHeard ok p r).on ok = true := by
  obtain ⟨hdict, -⟩ := State.recordTime_leaves ((s.setOn ok true).recordTaken r) hp r
  rw [State.copyHeard, State.on_of_val (State.val_of_dict _ hdict _), State.on, State.recordTaken_fld _ hok]
  exact State.on_setOn_self _ _ _ _ _ hbit.1 hbit.2

/-- A further copy for the same boundary changes nothing of the peer. -/
theorem State.copyHeard_again (hp : p < 2) (h : s.tandem.gotFn = some r.fn) :
    (s.copyHeard ok p r).tandem.peer = s.tandem.peer ∧ (s.copyHeard ok p r).tandem.missing = s.tandem.missing := by
  obtain ⟨-, hpeer, -, hmissing⟩ := State.recordTime_leaves ((s.setOn ok true).recordTaken r) hp r
  rw [State.copyHeard, hpeer, hmissing, State.recordTaken_again (s.setOn ok true) h]
  exact ⟨rfl, rfl⟩

/-- The first one does, on either port. -/
theorem State.copyHeard_first (hp : p < 2) (h : s.tandem.gotFn ≠ some r.fn) :
    (s.copyHeard ok p r).tandem.peer = some r ∧ (s.copyHeard ok p r).tandem.gotFn = some r.fn ∧
    (s.copyHeard ok p r).tandem.missing = 0 ∧
    ∀ o, (s.copyHeard ok p r).val o = ((s.setOn ok true).recordFirst r).val o := by
  obtain ⟨hdict, hpeer, hgot, hmissing⟩ := State.recordTime_leaves ((s.setOn ok true).recordTaken r) hp r
  rw [State.recordTaken_first (s.setOn ok true) h] at hdict hpeer hgot hmissing
  rw [State.recordFirst_tandem] at hpeer hgot hmissing
  rw [State.copyHeard, State.recordTaken_first (s.setOn ok true) h]
  exact ⟨hpeer, hgot, hmissing, State.val_of_dict _ hdict⟩

theorem State.copyHeard_t0 (ok : Fld) (r : TandemRec) : (s.copyHeard ok 0 r).tandem.t0Fn = some r.fn ∧
    (s.copyHeard ok 0 r).tandem.late = none := by
  obtain ⟨_, htime⟩ := State.recordTime_t0 ((s.setOn ok true).recordTaken r) r
  rw [State.copyHeard, htime]
  exact ⟨rfl, rfl⟩

theorem State.copyHeard_t1 (ok : Fld) (r : TandemRec) : (s.copyHeard ok 1 r).tandem.ledger = s.tandem.ledger ∧
    (s.copyHeard ok 1 r).tandem.late = if s.tandem.t0Fn = some r.fn then s.tandem.late else some r := by
  obtain ⟨ht0, hlate, hledger⟩ := (s.setOn ok true).recordTaken_tandem r
  rw [State.copyHeard, State.recordTime_t1]
  exact ⟨hledger, by rw [ht0, hlate]; rfl⟩

/-! ### RECORD_LOSS_TIMEOUT and RESYNC_COMPLETE (R262, R266) -/

/-- R262: eight boundaries in a row have come without a record. -/
def State.recordsLost (s : State) : Bool := s.tandemOn && decide (8 ≤ s.tandem.missing)

theorem State.recordLoss_pos (h : s.recordsLost = true) : s.recordLoss =
    (s.setOn F.TANDEM_STATUS_PEER_PRESENT false).setOn F.TANDEM_STATUS_READY false := if_pos h

theorem State.recordLoss_neg (h : ¬ s.recordsLost = true) : s.recordLoss = s := if_neg h

/-- R266: a standby has applied the copy that it asked for. -/
def State.copyApplied (s : State) : Bool :=
  s.tandemOn && decide (s.tandemRole = roleStandby) && s.on F.TANDEM_STATUS_RESYNC && !s.tandem.wantResync

theorem State.resyncComplete_pos (h : s.copyApplied = true) : s.resyncComplete =
    ((s.setOn F.TANDEM_STATUS_RESYNC false).bump O.RESYNCS).modTandem fun x => { x with synced := true } := if_pos h

theorem State.resyncComplete_neg (h : ¬ s.copyApplied = true) : s.resyncComplete = s := if_neg h

theorem State.resyncComplete_shows (h : s.copyApplied = true) : s.resyncComplete.on F.TANDEM_STATUS_RESYNC = false ∧
    s.resyncComplete.tandem.synced = true ∧
    s.resyncComplete.val O.RESYNCS = BitVec.ofNat 96 (((s.val O.RESYNCS).toNat + 1) % 2 ^ 64) := by
  obtain ⟨hresync, hcount⟩ := s.countedBad (ok := F.TANDEM_STATUS_RESYNC) (bad := O.RESYNCS) (by decide) (by decide)
  rw [s.resyncComplete_pos h, State.modTandem_on, State.modTandem_val]
  exact ⟨hresync, rfl, hcount⟩

end

/-! ### TANDEM_RECORD_SEND (R264 to R266) -/

/-- The items that fit a room fill no more than it. -/
theorem fitItems_length (room : Nat) (bs : List BodyItem) : ((fitItems room bs).flatMap itemBytes).length ≤ room := by
  induction bs generalizing room with
  | nil => exact Nat.zero_le _
  | cons b bs ih =>
    have hrest := ih (room - (itemBytes b).length)
    rw [fitItems]
    split
    · rw [List.flatMap_cons, List.length_append]
      omega
    · exact Nat.zero_le _

section
variable (s : State)

theorem State.recordBody_fits : (s.recordBody.flatMap itemBytes).length ≤ bodyRoom := fitItems_length _ _

theorem State.buildRecord_head : s.buildRecord.fn = (s.fn + 1) % 2 ^ 48 ∧ s.buildRecord.role = roleOf s.tandemRole ∧
    s.buildRecord.rver = 1 ∧ s.buildRecord.txTime = time96 (s.fn * frame + us) := ⟨rfl, rfl, rfl, rfl⟩

theorem State.buildRecord_body :
    s.buildRecord.body = if s.tandemRole = roleActive then s.recordBody else [] := rfl

/-- R264: the record holds its 48 KiB. -/
theorem State.buildRecord_fits : 64 * recordLen s.buildRecord ≤ bodyRoom := by
  have hlen : (s.buildRecord.body.flatMap itemBytes).length ≤ bodyRoom := by
    rw [s.buildRecord_body]
    split
    exacts [s.recordBody_fits, Nat.zero_le _]
  unfold recordLen ceilDiv
  unfold bodyRoom at hlen ⊢
  omega

/-- The CRC is formed over every byte before it. -/
theorem State.buildRecord_crc : s.buildRecord.crc = crc32c (recordBytes s.buildRecord) := rfl

/-- Beginning a copy changes what there is to send, and nothing else. -/
theorem State.copyBegin_eq : ∃ out, s.copyBegin = { s with tandem := { s.tandem with out } } := by
  unfold State.copyBegin
  dsimp only
  split
  · exact ⟨_, rfl⟩
  · split
    · exact ⟨_, rfl⟩
    · split <;> exact ⟨_, rfl⟩

theorem State.copyBegin_leaves : s.copyBegin.fn = s.fn ∧ s.copyBegin.tandemRole = s.tandemRole ∧
    s.copyBegin.dict = s.dict := by
  obtain ⟨out, hout⟩ := s.copyBegin_eq
  rw [hout]
  exact ⟨rfl, rfl, rfl⟩

theorem State.recordLeaves_sends (r : TandemRec) :
    (s.recordLeaves r).tandem.sent = some r ∧ (s.recordLeaves r).dict = s.dict := ⟨rfl, rfl⟩

/-- R265: the frame's record is due and has not left. -/
def State.recordDue (s : State) : Bool :=
  s.active && !s.dark && s.tandemOn && decide (s.fn * frame + us ≤ s.dts) &&
    s.tandem.sent.all (fun r => r.fn != (s.fn + 1) % 2 ^ 48)

theorem State.sendRecord_pos (h : s.recordDue = true) :
    s.sendRecord = s.copyBegin.recordLeaves s.copyBegin.buildRecord := if_pos h

theorem State.sendRecord_neg (h : ¬ s.recordDue = true) : s.sendRecord = s := if_neg h

/-- R264, R265: the record that leaves is this frame's, for the boundary after it. -/
theorem State.sendRecord_sends (h : s.recordDue = true) : ∃ r, s.sendRecord.tandem.sent = some r ∧
    r.fn = (s.fn + 1) % 2 ^ 48 ∧ r.role = roleOf s.tandemRole ∧ r.rver = 1 ∧ r.crc = crc32c (recordBytes r) ∧
    64 * recordLen r ≤ bodyRoom ∧ r.txTime = time96 (s.fn * frame + us) ∧
    (s.tandemRole ≠ roleActive → r.body = []) ∧ s.sendRecord.dict = s.dict := by
  obtain ⟨hfn, hrole, hdict⟩ := s.copyBegin_leaves
  obtain ⟨hnext, hsender, hversion, htime⟩ := s.copyBegin.buildRecord_head
  obtain ⟨hsent, hleft⟩ := s.copyBegin.recordLeaves_sends s.copyBegin.buildRecord
  rw [s.sendRecord_pos h]
  refine ⟨_, hsent, by rw [hnext, hfn], by rw [hsender, hrole], hversion, State.buildRecord_crc _,
    State.buildRecord_fits _, by rw [htime, hfn], fun hpassive => ?_, hleft.trans hdict⟩
  rw [State.buildRecord_body, hrole]
  exact if_neg hpassive

end
end Sys2Proof.Machine
end

section
/-! PROOFS. R262, R264 to R266: the commands TANDEM_RECORD, RECORD_LOSS_TIMEOUT, RESYNC_COMPLETE and TANDEM_RECORD_SEND. -/

namespace Sys2Proof.Machine

/-- Settles O31: a record by whether it is heard, good, and the first for its boundary; the loss, the end of a resync and the
record sent by their conditions. -/
theorem tandemRecords : Obligations.TandemRecords := by
  unfold Obligations.TandemRecords
  intro t p s v r hp hr hv
  have hunit : (tandemPort p && tandemRecOk r) = true := by simp [tandemPort, hp, hr]
  refine ⟨fun ok bad hok hbad => ⟨_, onUnit_ok hunit _ _, ?record⟩, ⟨v.recordLoss, by rw [hv]; rfl, ?loss⟩,
    ⟨v.resyncComplete, by rw [hv]; rfl, ?resync⟩, ⟨v.sendRecord, by rw [hv]; rfl, ?send⟩⟩
  case record =>
    rw [← hv]
    split
    · next hhears =>
      split
      · next hrbad =>
        have hplace : ok.obj 0 ≠ bad ∧ ok.lo = ok.hi ∧ ok.hi < 96 := by
          rw [hok, hbad]
          split <;> decide
        obtain ⟨hother, hbit⟩ := hplace
        obtain ⟨hoff, hcount⟩ := v.countedBad hother hbit
        rw [v.tandemRecord_bad hok hhears hbad hrbad]
        exact ⟨hoff, hcount, rfl⟩
      · next hrgood =>
        have hplace : (ok.lo = ok.hi ∧ ok.hi < 96) ∧ ok.besidePeer = true := by
          rw [hok]
          split <;> decide
        rw [v.tandemRecord_good hok hhears hrgood]
        refine ⟨v.copyHeard_ok hp hplace.1 hplace.2 r, fun hagain => v.copyHeard_again hp hagain,
          fun hp0 => hp0 ▸ v.copyHeard_t0 ok r, fun hp1 => hp1 ▸ v.copyHeard_t1 ok r, fun hfirst => ?_⟩
        obtain ⟨hpeer, hgot, hmissing, hval⟩ := v.copyHeard_first hp hfirst
        rw [State.on_of_val (hval _), State.on_of_val (hval _), State.on_of_val (hval _), State.on_of_val (hval _),
          State.fld_of_val (hval _)]
        exact ⟨hpeer, hgot, hmissing, (v.setOn ok true).recordFirst_shows r⟩
    · next hhears => exact v.tandemRecord_unheard hhears r
  case loss =>
    split
    · next hlost =>
      rw [v.recordLoss_pos hlost]
      refine ⟨?_, State.on_setOn_self _ _ _ _ _ rfl (by decide)⟩
      rw [State.on_setOn_apart _ (by decide)]
      exact State.on_setOn_self _ _ _ _ _ rfl (by decide)
    · next hlost => exact v.recordLoss_neg hlost
  case resync =>
    split
    · next happlied => exact v.resyncComplete_shows happlied
    · next happlied => exact v.resyncComplete_neg happlied
  case send =>
    split
    · next hdue => exact v.sendRecord_sends hdue
    · next hdue => exact v.sendRecord_neg hdue

end Sys2Proof.Machine
end
